-- ==== Sys2Proof/Word.lean ====
section
/-! DEFINITION. The word types of the GT-2560 model: only what the manual treats as bits (R7, R16-R18). -/
namespace Sys2Proof

/-- A byte of a frame, of a ring entry or of a data buffer. -/
abbrev Byte := BitVec 8

/-- A 32-bit direct register of the function window (R49, R556). -/
abbrev Word := BitVec 32

/-- TIME with its fraction: 64 bits of nanoseconds and 48 bits of fraction (Time Engine). -/
abbrev Time := BitVec 112

/-- Data kept by key, in strictly rising key order; what an unlisted key reads as is said where it is read. -/
abbrev AMap (α : Type) := List (Nat × α)

end Sys2Proof
end

