-- ==== Sys2Proof/Syntax.lean ====
section
/-! DEFINITION. The commands of the GT-2560: one constructor of `Instr` for each row of spec/opcode_table.json (an operation of the
host interface, a message or a cell from a link, an event of a timer, a pin or a medium), with the operands the row's rule names.
A Unilmi command's row carries the function (vi) whose submission ring holds the command at its head: its fields stand in the
64-byte entry there (Table HM-2), which the host wrote. -/
namespace Sys2Proof

/-- A submission entry of 64 bytes (Table HM-2) with the bytes of the data buffer it points to (R61). -/
structure Entry where
  raw  : List Byte
  data : List Byte
deriving DecidableEq, Repr

/-- Whether the PCIe accesses to a command's data buffer succeed (R61): its read, and the write of result data. -/
structure HostIo where
  readOk  : Bool
  writeOk : Bool
deriving DecidableEq, Repr

/-- The three rings of a function (R53). -/
inductive RingKind where
  | sq | cq | nq
deriving DecidableEq, Repr

/-- An empty punt buffer posted in a slot of a punt queue (Table VI-4). -/
structure PuntBuf where
  addr : Nat
  len  : Nat
deriving DecidableEq, Repr

/-- An inject entry of 64 bytes (Table VI-5), as the host wrote it. -/
structure InjSlot where
  raw : List Byte
deriving DecidableEq, Repr

/-- A partner hello (R113): own SUN, shared SUN, the partner SUN it names, serial number, firmware version, configuration digest. -/
structure Hello where
  sun     : Nat
  shared  : Nat
  partner : Nat
  serial  : Nat
  fw      : Nat
  digest  : Nat
deriving DecidableEq, Repr

/-- The types of a fabric cell (Table FB-2). -/
inductive CellType where
  | idle | data | ctrl | reach
deriving DecidableEq, Repr

/-- A fabric cell: the header of Table FB-2 and its payload bytes. -/
structure Cell where
  kind     : CellType
  prov     : Bool
  active   : Bool
  paired   : Bool
  start    : Bool
  retx     : Bool
  reliable : Bool
  dest     : Nat
  src      : Nat
  stream   : Nat
  sp       : Nat
  tc       : Nat
  seq      : Nat
  fill     : Nat
  pcrc     : Word
  payload  : List Byte
deriving DecidableEq, Repr

/-- What one cycle of the alignment hunt finds (R131): whether the FlexO alignment markers of every instance stand, and the offsets that show a
FAS, each with its MFAS. -/
structure HuntView where
  markers : Bool := true
  shown   : List (Nat × Nat) := []
deriving DecidableEq, Repr

/-- What the far end of a fabric lane says of itself in the training exchange (R310): whether it encrypts, whether it is a GT-2560 rather than a
fabric element, and its serial number. -/
structure FarEnd where
  encrypts : Bool := false
  isUnit   : Bool := false
  serial   : Nat := 0
deriving DecidableEq, Repr

/-- An ANNOUNCE entry (Table PR-1, KIND 7). -/
structure Announce where
  pairSun : Nat
  sun     : Nat
  gen     : Nat
  bung    : Bool
  fenced  : Bool
  synced  : Bool
deriving DecidableEq, Repr

/-- What the pair journal carries (R402): for one replicated command the command with its issuer, the completion of its journal
entry (status, detail, result), and then the commit mark. A bulk copy (R407) begins with the epoch before the one its tables form and the
instances that the active has created; the records up to its mark are the active's replicated state in apply form. -/
inductive JournalRec where
  | bulk (epoch : Nat) (vis : List Nat)
  | command (vi : Nat) (entry : Entry) (status detail : Nat) (result : List Byte)
  | mark (number : Nat)
deriving DecidableEq, Repr

/-- The step a link handshake message brings (R459): the far end's ephemeral key; its signed transcript, which verifies, with the root at which
its chain ends (`[]` the Yilesteo root, else the point of the key) and the SUNs it names; or a chain or signature that does not verify. -/
inductive Handshake where
  | ephemeral (pub : List Byte)
  | verified (root : List Byte) (farSun pairSun : Nat)
  | failed (cause : Nat)
deriving DecidableEq, Repr

/-- A received MKPDU (R457): whether its ICV is good, the member that sent it, its key server priority, whether it lists this
member as live, and the wrapped SAK it distributes, if any. -/
structure Mkpdu where
  icvOk    : Bool
  member   : Nat
  priority : Nat
  live     : Bool
  sak      : Option (Nat × List Byte)
deriving DecidableEq, Repr

/-- The commands: one constructor per row of spec/opcode_table.json, in the table's order. -/
inductive Instr where
  /-- HIF_NOP (R66): Command HIF.NOP executes with no effect and is journaled and completed in ring order. -/
  | hifNop (vi : Nat) (io : HostIo)
  /-- HIF_IDENTIFY (R4): Command HIF.IDENTIFY writes the 64-byte identity of Table HM-27 to the data buffer. -/
  | hifIdentify (vi : Nat) (io : HostIo)
  /-- HIF_JOURNAL_INFO (R72): Command HIF.JOURNAL_INFO returns the oldest journaled CMD_ID and the journal entry count. -/
  | hifJournalInfo (vi : Nat) (io : HostIo)
  /-- HIF_NOTIFY_MASK (R88): Command HIF.NOTIFY_MASK replaces the function's whole notification family mask. -/
  | hifNotifyMask (vi : Nat) (io : HostIo)
  /-- HIF_SET_COALESCE (R88): Command HIF.SET_COALESCE sets the CQ and NQ interrupt coalescing counts and delays. -/
  | hifSetCoalesce (vi : Nat) (io : HostIo)
  /-- COMMAND_RESUME (R67): A parked command whose epoch wait, replication or drain has ended resumes at the next command boundary. -/
  | commandResume (vi : Nat)
  /-- RING_COMMIT (R54): Writing HIF_RING_COMMIT.COMMIT copies the nine shadow ring registers to the active set and starts the rings, or rejects the commit. -/
  | ringCommit (vi : Nat)
  /-- RING_DISABLE (R56): Writing HIF_RING_COMMIT.DISABLE moves the rings to DRAINING, or from HALTED to IDLE. -/
  | ringDisable (vi : Nat)
  /-- HIF_SQ_TAIL_DB (R57): A write to the SQ tail doorbell submits entries up to the new tail, or is ignored or range-rejected by ring state. -/
  | hifSqTailDb (vi : Nat) (index : Nat) (slots : List Entry)
  /-- HIF_CQ_HEAD_DB (R58): A write to the CQ head doorbell frees completion slots so firmware may start further commands. -/
  | hifCqHeadDb (vi : Nat) (index : Nat)
  /-- HIF_NQ_HEAD_DB (R63): A write to the NQ head doorbell frees notification slots so held notifications are posted. -/
  | hifNqHeadDb (vi : Nat) (index : Nat)
  /-- HIF_FAULT_CLEAR (R15): A W1C write to HIF_FAULT clears the named ring fault bits. -/
  | hifFaultClear (vi : Nat) (value : Word)
  /-- HIF_WIN_SEL (R83): A write to HIF_WIN_SEL selects the bank and channel for the function's WIN_DATA reads. -/
  | hifWinSel (vi : Nat) (value : Word)
  /-- WIN_DATA_LOW_READ (R518): A read of a low WIN_DATA word samples the 64-bit value and latches its high half for the function. -/
  | winDataLowRead (vi : Nat) (v : Nat)
  /-- WIN_OVF (R520): A W1C write to WIN_OVF clears the sticky overflow flags of the selected channel's counters. -/
  | winOvf (vi : Nat) (value : Word)
  /-- VI_PUNT_DB (R434): A write to a punt queue doorbell posts empty punt buffers up to the new tail. -/
  | viPuntDb (vi q : Nat) (index : Nat) (slots : List PuntBuf)
  /-- VI_INJ_DB (R435): A write to an inject queue doorbell submits inject entries up to the new tail. -/
  | viInjDb (vi q : Nat) (index : Nat) (slots : List InjSlot)
  /-- REGISTER_WRITE (R82): A write to a register without behaviour of its own, such as a shadowed ring register, updates only that register. -/
  | registerWrite (vi : Nat) (offset : Nat) (value : Word) (allBytes : Bool)
  /-- COALESCE_DELAY_EXPIRY (R88): The oldest unsignalled entry reaches the coalescing delay and the MSI-X vector is signalled. -/
  | coalesceDelayExpiry (vi vec : Nat)
  /-- PCIE_LINK_DOWN (R52): The PCIe link goes down and the device holds completions and notifications while it keeps forwarding. -/
  | pcieLinkDown
  /-- PCIE_LINK_UP (R52): The PCIe link returns, held writes are flushed in order and EV.HIF.LINK_UP is posted to VI0. -/
  | pcieLinkUp (dataOk : Bool)
  /-- RING_ACCESS_FAILURE (R60): A PCIe ring read or write fails and the function's rings enter HALTED. -/
  | ringAccessFailure (vi : Nat) (ring : RingKind)
  /-- FUNCTION_LEVEL_RESET (R51): A function-level reset disables the function's rings and, for a VF, resets its instance without FLUSH. -/
  | functionLevelReset (vi : Nat)
  /-- MALTSTER_WATCHDOG (R97): The Maltster watchdog expires and firmware restarts warm, clearing FW_READY. -/
  | maltsterWatchdog
  /-- FW_READY (R76): Restarted firmware completes its checks, sets FW_READY, replays journaled completions and applies held register writes. -/
  | fwReady (retainedOk settingsOk : Bool)
  /-- COLD_RESET_ASSERT (R116): The 10 ms delay after a cold-reset command completion ends and cold reset is asserted. -/
  | coldResetAssert
  /-- BC_COLD_RESET (R97): The board controller requests a cold reset over I3C. -/
  | bcColdReset
  /-- POWER_ON_RESET_RELEASE (R90): PORESET_N is released and the power-on order of Table BU-1 begins. -/
  | powerOnResetRelease
  /-- PORESET_ASSERT (R533): PORESET_N is asserted, holding outputs in high impedance and resetting the device. -/
  | poresetAssert
  /-- KILN_VERIFY (R93): ROM finishes verifying a kiln slot and starts firmware, tries the other slot, or enters ROM recovery mode. -/
  | kilnVerify (slot : Nat) (passed : Bool)
  /-- WORT_BRIDGE_TRAIN_END (R95): A Wort Bridge training attempt ends, succeeding or, after three failures, entering phase FAIL. -/
  | wortBridgeTrainEnd (passed : Bool)
  /-- HBM_TRAINING_DONE (R96): An HBM stack completes or fails training during bring-up. -/
  | hbmTrainingDone (stack : Nat) (passed : Bool)
  /-- BLOCK_RESET_DONE (R99): A block reset completes and EV.DEV.BLOCK_RESET is raised. -/
  | blockResetDone (kind index : Nat)
  /-- FULL_SERVICE_BANK0_CLEAR (R106): Once no Cellar-set lookup remains, ASA bank 0 is cleared and its blocks join the free space. -/
  | fullServiceBank0Clear
  /-- DEV_STATUS (R115): Command DEV.STATUS returns the bring-up status of Table BU-12. -/
  | devStatus (vi : Nat) (io : HostIo)
  /-- DEV_SERVICE (R106): Command DEV.SERVICE switches the unit from Cellar mode to full service. -/
  | devService (vi : Nat) (io : HostIo)
  /-- DEV_RESET (R116): Command DEV.RESET starts a warm, block or cold reset. -/
  | devReset (vi : Nat) (io : HostIo)
  /-- DEV_SET_CELLAR_SET (R118): Command DEV.SET_CELLAR_SET checks and replaces the whole Cellar set in sealed settings. -/
  | devSetCellarSet (vi : Nat) (io : HostIo)
  /-- DEV_SET_BOARD (R117): Command DEV.SET_BOARD replaces the board descriptor, SUN and cage map. -/
  | devSetBoard (vi : Nat) (io : HostIo)
  /-- MODULE_INSERT (R111): The board controller reports a module INSERT with its CMIS applications. -/
  | moduleInsert (cage : Nat) (apps : List Nat)
  /-- MODULE_READY (R111): The board controller reports a module READY and port training starts. -/
  | moduleReady (cage : Nat)
  /-- MODULE_FAULT (R111): The board controller reports a module FAULT and the cage enters FAULT. -/
  | moduleFault (cage code : Nat)
  /-- MODULE_REMOVE (R111): The board controller reports a module REMOVE and the port goes down. -/
  | moduleRemove (cage : Nat)
  /-- MODULE_FLAG (R111): The board controller relays CMIS flags and EV.PORT.MODULE_NOTIFY is raised. -/
  | moduleFlag (cage : Nat) (flags : List Byte)
  /-- MODULE_READY_TIMEOUT (R111): A present module gives no READY within 60 s and the cage enters FAULT. -/
  | moduleReadyTimeout (cage : Nat)
  /-- BC_HEARTBEAT (R112): A board controller heartbeat arrives over I3C, ending any BC_LOST condition. -/
  | bcHeartbeat
  /-- BC_HEARTBEAT_LOSS (R112): Two seconds pass without a heartbeat and EV.DEV.BC_LOST is raised. -/
  | bcHeartbeatLoss
  /-- HELLO_SEND (R113): The 100 µs hello timer expires and a partner hello is sent on each trained peer lane. -/
  | helloSend
  /-- HELLO_RECEIVE (R113): A partner hello is received and partner discovery advances per Table BU-8. -/
  | helloReceive (h : Hello)
  /-- HELLO_LOSS (R113): Ten milliseconds pass without a hello and discovery returns to SEEKING. -/
  | helloLoss
  /-- PORT_CONFIG (R128): Command PORT.CONFIG creates, changes or deletes a line port. -/
  | portConfig (vi : Nat) (io : HostIo)
  /-- PORT_ADMIN (R126): Command PORT.ADMIN sets a port's administrative state and loopback. -/
  | portAdmin (vi : Nat) (io : HostIo)
  /-- PORT_STATUS (R148): Command PORT.STATUS returns a port's state, defects and flap count. -/
  | portStatus (vi : Nat) (io : HostIo)
  /-- PORT_MACSEC_SECY (R150): Command PORT.MACSEC_SECY configures a port's SecY. -/
  | portMacsecSecy (vi : Nat) (io : HostIo)
  /-- PORT_MACSEC_RXSC (R150): Command PORT.MACSEC_RXSC adds or deletes a receive secure channel. -/
  | portMacsecRxsc (vi : Nat) (io : HostIo)
  /-- PORT_MACSEC_SA (R143): Command PORT.MACSEC_SA installs, removes or enables a secure association by key handle. -/
  | portMacsecSa (vi : Nat) (io : HostIo)
  /-- FRM_TRIB (R133): Command FRM.TRIB sets or deletes an ODUflex tributary on an OTN port. -/
  | frmTrib (vi : Nat) (io : HostIo)
  /-- FRM_TSI_STAGE (R137): Command FRM.TSI_STAGE writes the whole standby connection page of an output port. -/
  | frmTsiStage (vi : Nat) (io : HostIo)
  /-- FRM_TSI_SWAP (R136): Command FRM.TSI_SWAP schedules the standby pages of a set of ports to become active at instant T. -/
  | frmTsiSwap (vi : Nat) (io : HostIo)
  /-- FRM_PROT (R139): Command FRM.PROT sets or deletes a protection group or applies an operator command. -/
  | frmProt (vi : Nat) (io : HostIo)
  /-- FRM_OHS (R141): Command FRM.OHS assigns or turns off an overhead serial port channel. -/
  | frmOhs (vi : Nat) (io : HostIo)
  /-- FRM_STATUS (R148): Command FRM.STATUS returns an OTN port's defects, tributary AIS and TSI state. -/
  | frmStatus (vi : Nat) (io : HostIo)
  /-- LINE_DEFECT_DETECT (R129): A line defect is detected after its detection condition and its consequent actions and port state change follow. -/
  | lineDefectDetect (port bit : Nat) (trib : Option Nat)
  /-- LINE_DEFECT_CLEAR (R129): A line defect clears after its clearing condition. -/
  | lineDefectClear (port bit : Nat) (trib : Option Nat)
  /-- FEC_DEGRADE_WINDOW (R129): A 10 ms pre-FEC error window ends and FEC_DEGRADE is raised or cleared. -/
  | fecDegradeWindow (port errors symbols : Nat)
  /-- ALIGNMENT_HUNT_CYCLE (R131): One hunt cycle of OTN frame alignment ends, declaring in-frame, excluding candidates or counting ambiguity. -/
  | alignmentHuntCycle (port : Nat) (view : HuntView)
  /-- PORT_LANES_LOCKED (R126): A training port's lanes lock with no down cause and the UP_DEBOUNCE timer starts. -/
  | portLanesLocked (port : Nat)
  /-- UP_DEBOUNCE_EXPIRY (R126): The UP_DEBOUNCE timer ends and the port enters UP with EV.PORT.UP. -/
  | upDebounceExpiry (port : Nat)
  /-- DOWN_DEBOUNCE_EXPIRY (R126): The DOWN_DEBOUNCE timer ends and the port enters DOWN with EV.PORT.DOWN. -/
  | downDebounceExpiry (port : Nat)
  /-- PROT_HOLDOFF_EXPIRY (R140): A protection group's hold-off time ends and the selector switches to the winning request. -/
  | protHoldoffExpiry (group : Nat)
  /-- WAIT_TO_RESTORE_EXPIRY (R140): A revertive group's wait-to-restore time ends and the selector returns to working. -/
  | waitToRestoreExpiry (group : Nat)
  /-- TSI_SWAP_INSTANT (R136): At the first frame boundary at or after T a port's TSI pages swap and EV.FRM.TSI_SWAPPED follows. -/
  | tsiSwapInstant (port : Nat)
  /-- TSI_SLIP (R135): A slip-mode buffer under- or overflows and one ODUflex frame is repeated or deleted. -/
  | tsiSlip (port trib : Nat) (deleted : Bool)
  /-- OHS_FRAME (R141): An OTUC frame boundary drops and inserts one frame of overhead on each enabled overhead serial port. -/
  | ohsFrame (ohs mfas : Nat) (line : List Byte) (inserted : List Byte) (need : Nat)
  /-- LINE_FRAME_RECEIVE (R123): A frame arrives at the receive MAC, gets its arrival number, timestamp and JCRC, and is checked and MACsec-verified. -/
  | lineFrameReceive (port : Nat) (bytes : List Byte) (fcsOk : Bool)
  /-- PFC_FRAME_RECEIVE (R296): A PFC frame is received and the named classes of the port are paused for its quanta. -/
  | pfcFrameReceive (port : Nat) (quanta : List (Option Nat))
  /-- PFC_PAUSE_EXPIRY (R296): A received PFC pause time ends and the class's queues become selectable again. -/
  | pfcPauseExpiry (port tc : Nat)
  /-- PFC_XOFF_REPEAT (R293): Half the pause time passes while XOFF holds and the XOFF frame is repeated. -/
  | pfcXoffRepeat (port tc : Nat)
  /-- TIME_CONFIG (R159): Command TIME.CONFIG sets STEP_LIMIT. -/
  | timeConfig (vi : Nat) (io : HostIo)
  /-- TIME_SET_INCREMENT (R154): Command TIME.SET_INCREMENT sets the time engine increment from the next tick. -/
  | timeSetIncrement (vi : Nat) (io : HostIo)
  /-- TIME_STEP (R158): Command TIME.STEP schedules a relative or absolute step of TIME at the step tick. -/
  | timeStep (vi : Nat) (io : HostIo)
  /-- TIME_STEP_TICK (R161): The step tick arrives and TIME, the replica and the step epoch change, with the effects of Table TI-2. -/
  | timeStepTick
  /-- TIME_GET (R156): Command TIME.GET returns TIME, fraction, step epoch and the monotonic count at one tick. -/
  | timeGet (vi : Nat) (io : HostIo)
  /-- TIME_PORT (R162): Command TIME.PORT sets a port's timestamping, probing and asymmetry. -/
  | timePort (vi : Nat) (io : HostIo)
  /-- TIME_TX_TS_READ (R167): Command TIME.TX_TS_READ reads entries from a port's transmit timestamp queue. -/
  | timeTxTsRead (vi : Nat) (io : HostIo)
  /-- TIME_PULSE_OUT (R172): Command TIME.PULSE_OUT sets a pulse output's mode and timing. -/
  | timePulseOut (vi : Nat) (io : HostIo)
  /-- TIME_PULSE_IN (R173): Command TIME.PULSE_IN sets a pulse input's captured edge and compensation. -/
  | timePulseIn (vi : Nat) (io : HostIo)
  /-- TIME_CAPTURE_READ (R173): Command TIME.CAPTURE_READ reads entries from a pulse input's capture queue. -/
  | timeCaptureRead (vi : Nat) (io : HostIo)
  /-- PULSE_ONE_SHOT_FIRE (R172): TIME reaches a one-shot target and the pulse output drives high for WIDTH. -/
  | pulseOneShotFire (pin : Nat)
  /-- PULSE_PERIODIC_EDGE (R172): TIME reaches an aligned instant of a periodic train and a pulse starts. -/
  | pulsePeriodicEdge (pin : Nat)
  /-- PULSE_IN_EDGE (R173): A selected edge on a pulse input is captured into its capture queue. -/
  | pulseInEdge (pin : Nat) (rising : Bool)
  /-- PROBE_SEND (R168): PROBE_INTERVAL expires and a Pdelay_Req is sent on the port. -/
  | probeSend (port : Nat)
  /-- PDELAY_REQ_RECEIVE (R168): A received Pdelay_Req is answered in hardware. -/
  | pdelayReqReceive (port seqId domain : Nat)
  /-- PDELAY_RESP_RECEIVE (R169): A probe response completes a delay sample that drives the probe state machine. -/
  | pdelayRespReceive (port seqId : Nat) (t2 t3 : Nat)
  /-- PROBE_UNANSWERED (R169): A probe goes unanswered within PROBE_INTERVAL, and at the third EV.TIME.PROBE_LOST is raised. -/
  | probeUnanswered (port : Nat)
  /-- MILL_PARSE_COMPLETE (R180): Mill finishes parsing a packet, stamps its epoch, classifies punts, touches the flow cache and issues it to a mash pipe. -/
  | millParseComplete (pkt : Nat)
  /-- LOOKUP_COMPLETE (R187): A packet's full lookup completes, produces its forwarding result and updates its cache entry. -/
  | lookupComplete (pkt : Nat)
  /-- LOOKUP_TIMEOUT (R188): A packet's lookup is not complete 20 µs after its stamp and it is refused. -/
  | lookupTimeout (pkt : Nat)
  /-- RESULT_ADMISSION (R275): A forwarding result reaches admission and the packet is admitted or refused through the tests of Table AB-1. -/
  | resultAdmission (port : Nat)
  /-- NONE_TOKEN (R385): A NONE token for a paired arrival number reaches the numbering stage and takes no number. -/
  | noneToken (port : Nat)
  /-- FRAME_LAST_CELL_WRITE (R274): A frame's last cell is written with its FCS outcome, correcting the charge and accepting or freeing the packet. -/
  | frameLastCellWrite (pkt : Nat)
  /-- RESOLUTION_TOKEN_APPLY (R234): A resolution token reaches the Q-die and the provisional packet is confirmed, re-admitted or discarded. -/
  | resolutionTokenApply (port : Nat)
  /-- TRUB_ECC_ERROR (R239): An uncorrectable error in a Trub record squashes every unresolved provisional packet of its port. -/
  | trubEccError (index : Nat)
  /-- CACHE_PARITY_ERROR (R240): A flow cache entry fails parity, the lookup misses and the set's UNTRACKED count is held. -/
  | cacheParityError (set way : Nat)
  /-- CACHE_SET_CLEAR (R240): Twenty-five microseconds after a parity failure the cache set is cleared. -/
  | cacheSetClear (set : Nat)
  /-- TBL_STAGE (R210): Command TBL.STAGE adds a buffer of records to the issuer's staging set. -/
  | tblStage (vi : Nat) (io : HostIo)
  /-- TBL_COMMIT (R200): Command TBL.COMMIT turns the staging set into the next epoch and switches Mill to it. -/
  | tblCommit (vi : Nat) (io : HostIo)
  /-- TBL_ABORT (R195): Command TBL.ABORT empties the issuer's staging set and releases its reservations. -/
  | tblAbort (vi : Nat) (io : HostIo)
  /-- TBL_READ (R194): Command TBL.READ reads one entry from a live epoch or the staging set. -/
  | tblRead (vi : Nat) (io : HostIo)
  /-- TBL_PIN (R197): Command TBL.PIN sets or clears the pin of a live epoch. -/
  | tblPin (vi : Nat) (io : HostIo)
  /-- TBL_DIGEST (R208): Command TBL.DIGEST returns a signed digest of a live epoch's tables. -/
  | tblDigest (vi : Nat) (io : HostIo)
  /-- TBL_STATUS (R196): Command TBL.STATUS returns live epochs, usage and staged operations. -/
  | tblStatus (vi : Nat) (io : HostIo)
  /-- TBL_CONFIG (R207): Command TBL.CONFIG sets COMMIT_WAIT, ENCAP_HOLD, CAPACITY_WARN and HASH_SEED. -/
  | tblConfig (vi : Nat) (io : HostIo)
  /-- TBL_RA_CONFIG (R241): Command TBL.RA_CONFIG sets run-ahead enable, strictness, class mask and confidence per port. -/
  | tblRaConfig (vi : Nat) (io : HostIo)
  /-- TBL_RA_FLUSH (R242): Command TBL.RA_FLUSH marks flow cache entries FLUSHED. -/
  | tblRaFlush (vi : Nat) (io : HostIo)
  /-- COMMIT_WAIT_EXPIRY (R198): COMMIT_WAIT ends with four epochs live and the parked commit completes with E_EPOCH_FULL. -/
  | commitWaitExpiry (vi : Nat)
  /-- EPOCH_RETIRE (R196): A draining epoch meets its retirement conditions and its superseded entry versions return to version space. -/
  | epochRetire (epoch : Nat)
  /-- ENCAP_VERSION_RETIRE (R205): An encapsulation version is no longer current, unreferenced and past ENCAP_HOLD, and retires. -/
  | encapVersionRetire (handle version : Nat)
  /-- ASA_REGION (R245): Command ASA.REGION creates, deletes, extends or shrinks an ASA region. -/
  | asaRegion (vi : Nat) (io : HostIo)
  /-- ASA_PROFILE (R248): Command ASA.PROFILE sets or deletes a search profile. -/
  | asaProfile (vi : Nat) (io : HostIo)
  /-- ASA_WRITE (R263): Command ASA.WRITE checks and applies insert, set-action and delete records. -/
  | asaWrite (vi : Nat) (io : HostIo)
  /-- ASA_READ (R256): Command ASA.READ returns one entry with its hit count and location. -/
  | asaRead (vi : Nat) (io : HostIo)
  /-- ASA_STATUS (R270): Command ASA.STATUS returns throttle level, bank states and region usage. -/
  | asaStatus (vi : Nat) (io : HostIo)
  /-- ASA_CONFIG (R264): Command ASA.CONFIG sets THROTTLE_OFFSET, INGRESS_MIN and SCRUB_PERIOD. -/
  | asaConfig (vi : Nat) (io : HostIo)
  /-- ASA_SHADOW_RESTORE_DONE (R257): Firmware finishes restoring a shadow from the master copy and the waiting search runs again. -/
  | asaShadowRestoreDone (region raddr : Nat)
  /-- ASA_SCRUB (R258): SCRUB_PERIOD expires and every ASA row is compared with its shadow and rewritten if it differs. -/
  | asaScrub (rows : List (Nat × Nat))
  /-- ASA_HOLE_RESTORE (R260): Firmware makes a background move to restore a region's hole pattern. -/
  | asaHoleRestore (region : Nat)
  /-- ASA_BANK_FAULT (R259): A bank fault is detected, searches needing the bank wait, and an in-place reload starts. -/
  | asaBankFault (bank cause : Nat)
  /-- ASA_BANK_RELOAD_DONE (R259): A bank reload and self-check finish, resuming searches or declaring the bank failed. -/
  | asaBankReloadDone (bank : Nat) (passed : Bool)
  /-- ASA_RELOCATION_DONE (R259): A failed bank's blocks are loaded into reserve blocks, regions remapped and the bank powered off. -/
  | asaRelocationDone (bank : Nat)
  /-- ASA_THROTTLE_RAISE (R265): The hottest ASA sensor crosses a level threshold and the throttle level rises. -/
  | asaThrottleRaise (temp : Int)
  /-- ASA_THROTTLE_LOWER (R265): The temperature stays 3 °C below the entry threshold for 10 ms and the throttle level falls. -/
  | asaThrottleLower (temp : Int)
  /-- ADM_PROFILE (R279): Command ADM.PROFILE writes or deletes a whole queue profile. -/
  | admProfile (vi : Nat) (io : HostIo)
  /-- ADM_BIND (R279): Command ADM.BIND binds a range of VOQs to a profile. -/
  | admBind (vi : Nat) (io : HostIo)
  /-- ADM_CLASS (R283): Command ADM.CLASS sets a class's MAX_SOJOURN and AGE_REFUSE. -/
  | admClass (vi : Nat) (io : HostIo)
  /-- ADM_POOL (R284): Command ADM.POOL sets Cask region sizes and XOFF thresholds. -/
  | admPool (vi : Nat) (io : HostIo)
  /-- ADM_PFC (R294): Command ADM.PFC sets a port's lossless classes and reserves their headroom. -/
  | admPfc (vi : Nat) (io : HostIo)
  /-- ADM_QUEUE_STATUS (R306): Command ADM.QUEUE_STATUS returns one VOQ's occupancy and state. -/
  | admQueueStatus (vi : Nat) (io : HostIo)
  /-- ADM_STATUS (R306): Command ADM.STATUS returns device-wide buffer state. -/
  | admStatus (vi : Nat) (io : HostIo)
  /-- SOJOURN_SWEEP (R283): The age sweep visits a VOQ head and discards heads older than MAX_SOJOURN. -/
  | sojournSweep (voq : Nat)
  /-- HBM_MIGRATION (R290): Unused write tokens migrate an accepted packet of an HBM-mode VOQ from Cask to HBM. -/
  | hbmMigration (voq : Nat)
  /-- HBM_PREFETCH (R291): The buffer manager reads HBM-resident cells near a credited VOQ head into the prefetch region. -/
  | hbmPrefetch (voq : Nat)
  /-- CASK_SCRUB (R299): The 10 ms Cask scrub pass corrects errors and handles uncorrectable ones. -/
  | caskScrub (corrected : Nat) (bad : List Nat)
  /-- HBM_PC_FAIL (R301): A buffer pseudo-channel is declared failed and its accesses are reissued elsewhere or rebuilt. -/
  | hbmPcFail (stack pc cause : Nat)
  /-- HBM_PC_CLEAR (R301): The last stripe using a failed pseudo-channel is freed and EV.ADM.HBM_PC_CLEAR is raised. -/
  | hbmPcClear (stack pc : Nat)
  /-- HBM_STACK_FAIL (R304): A buffer stack fails, its packets are discarded and the HBM budget falls. -/
  | hbmStackFail (stack : Nat)
  /-- FAB_PLANE (R311): Command FAB.PLANE enables, sets or disables a fabric plane and its lane list. -/
  | fabPlane (vi : Nat) (io : HostIo)
  /-- FAB_SPMAP (R319): Command FAB.SPMAP writes system port map entries. -/
  | fabSpmap (vi : Nat) (io : HostIo)
  /-- FAB_CONFIG (R347): Command FAB.CONFIG sets fabric timeouts, retransmission limits and credit timing. -/
  | fabConfig (vi : Nat) (io : HostIo)
  /-- FAB_CT (R338): Command FAB.CT sets cut-through classes of a port. -/
  | fabCt (vi : Nat) (io : HostIo)
  /-- FAB_STATUS (R346): Command FAB.STATUS returns plane, retention and stream state. -/
  | fabStatus (vi : Nat) (io : HostIo)
  /-- FAB_LANE_TRAINED (R108): A fabric lane completes training and joins its plane or is excluded as miswired. -/
  | fabLaneTrained (lane announced : Nat) (far : FarEnd)
  /-- FAB_LANE_DOWN (R313): A fabric lane is declared down and retrained. -/
  | fabLaneDown (lane cause : Nat)
  /-- FAB_LANE_UP (R313): A retrained fabric lane rejoins its plane at a frame boundary. -/
  | fabLaneUp (lane : Nat)
  /-- FORMATION_TIMER_EXPIRY (R109): A plane's 50 ms formation timer ends and it becomes IDENTIFIED or restarts forming. -/
  | formationTimerExpiry (plane : Nat)
  /-- REACHABILITY_TIMER_EXPIRY (R109): An IDENTIFIED plane receives no reachability cell in 10 ms and enters HOLDOFF. -/
  | reachabilityTimerExpiry (plane : Nat)
  /-- HOLDOFF_EXPIRY (R109): A plane's HOLDOFF time ends and it returns to ABSENT. -/
  | holdoffExpiry (plane : Nat)
  /-- REACH_CELL (R110): A reachability cell arrives listing the SUNs behind a plane and updates their plane masks. -/
  | reachCell (plane : Nat) (suns : List Nat)
  /-- SUN_LISTING_TIMEOUT (R110): A plane omits a SUN for three periods and leaves that SUN's mask. -/
  | sunListingTimeout (plane sun : Nat)
  /-- REACHABILITY_SEND (R343): In a back-to-back build the unit sends its reachability cell every 50 µs. -/
  | reachabilitySend
  /-- FAB_LINK_FRAME_RECEIVE (R312): A link frame arrives on a fabric lane and its TAG is checked. -/
  | fabLinkFrameReceive (lane slot : Nat) (tagOk : Bool) (cells : List Cell)
  /-- MATCHER_GRANT (R325): The matcher grants a cell of an eligible VOQ to a plane and assigns its sequence number. -/
  | matcherGrant (voq plane : Nat)
  /-- RETENTION_SEND (R324): A plane sends a due retransmission or a further pair copy from the retention read port. -/
  | retentionSend (cell plane dest : Nat)
  /-- REQUEST_SEND (R320): A VOQ sends a REQUEST to its destination at REQUEST_PERIOD or when its cells exceed its credit. -/
  | requestSend (voq : Nat)
  /-- CREDIT_GRANT (R321): The destination's credit scheduler grants a CREDIT to a requesting source. -/
  | creditGrant (sp tc src : Nat)
  /-- DATA_CELL_RECEIVE (R332): A DATA cell reaches Racking and is stored, dropped or resolved and acknowledged. -/
  | dataCellReceive (plane : Nat) (c : Cell)
  /-- CONFIRM_ENTRY (R332): A fabric CONFIRM entry releases the provisional cells of a range of numbers. -/
  | confirmEntry (src : Nat) (stream sp tc first count : Nat)
  /-- VOID_ENTRY (R332): A fabric VOID entry marks a range of sequence numbers void. -/
  | voidEntry (src : Nat) (stream sp tc first count : Nat)
  /-- REQUEST_ENTRY (R321): A REQUEST entry updates a source's backlog at the destination's credit scheduler. -/
  | requestEntry (src sp tc : Nat) (paired : Bool) (backlog : Nat)
  /-- CREDIT_ENTRY (R322): A CREDIT entry adds credit to a source VOQ. -/
  | creditEntry (src sp tc cells : Nat)
  /-- ACK_ENTRY (R326): A cumulative ACK entry frees acknowledged cells from the source's retention region. -/
  | ackEntry (src : Nat) (control : Bool) (stream sp tc cum : Nat) (bitmap : Word)
  /-- CELL_ACK_TIMEOUT (R327): A cell stays unacknowledged ACK_TIMEOUT after its last transmission and becomes due for retransmission. -/
  | cellAckTimeout (cell dest : Nat)
  /-- PLANE_SUSPECT_END (R329): One millisecond after suspicion a plane returns to the SUN's spray mask. -/
  | planeSuspectEnd (plane sun : Nat)
  /-- HOLE_TIMEOUT (R337): A number stays unresolved for HOLE_TIMEOUT and Racking skips it. -/
  | holeTimeout (stream sp tc : Nat)
  /-- DUP_WAIT_EXPIRY (R335): DUP_WAIT passes after a non-active member's copy arrived and the number becomes READY. -/
  | dupWaitExpiry (stream sp tc seq : Nat)
  /-- MEMBER_SILENCE_EXPIRY (R336): A pair member sends nothing for MEMBER_SILENCE and its pending numbers resolve. -/
  | memberSilenceExpiry (sun : Nat)
  /-- STREAM_ENTRY_FREE (R330): An idle stream entry reaches 100 µs since its last cell and is freed. -/
  | streamEntryFree (stream sp tc : Nat)
  /-- SCH_NODE (R350): Command SCH.NODE sets or deletes scheduling nodes and queues. -/
  | schNode (vi : Nat) (io : HostIo)
  /-- SCH_QMAP (R351): Command SCH.QMAP sets system port queue block mappings. -/
  | schQmap (vi : Nat) (io : HostIo)
  /-- SCH_SET_SHAPER (R359): Command SCH.SET_SHAPER sets or deletes a shaper, taking effect at its next refill. -/
  | schSetShaper (vi : Nat) (io : HostIo)
  /-- SCH_SET_POLICER (R360): Command SCH.SET_POLICER sets, deletes or reads a policer. -/
  | schSetPolicer (vi : Nat) (io : HostIo)
  /-- SCH_GATE_LIST (R363): Command SCH.GATE_LIST schedules a new gate control list or its removal at start time S. -/
  | schGateList (vi : Nat) (io : HostIo)
  /-- SCH_PORT (R368): Command SCH.PORT sets a port's hold, backup, gate overhead and egress options. -/
  | schPort (vi : Nat) (io : HostIo)
  /-- SCH_REMARK (R373): Command SCH.REMARK sets a remark table entry. -/
  | schRemark (vi : Nat) (io : HostIo)
  /-- SCH_FLUSH (R370): Command SCH.FLUSH discards the packets of a queue or of every queue under a port. -/
  | schFlush (vi : Nat) (io : HostIo)
  /-- SCH_STATUS (R377): Command SCH.STATUS returns a port's hold, mode, gate and queue state. -/
  | schStatus (vi : Nat) (io : HostIo)
  /-- SCHEDULER_SELECT (R355): A port node selects the next packet from its eligible queues and sends it toward egress processing. -/
  | schedulerSelect (port : Nat)
  /-- LINE_FRAME_TRANSMIT (R371): A selected packet is rewritten, timestamped, encrypted, checked and transmitted on its line port. -/
  | lineFrameTransmit (port : Nat)
  /-- SHAPER_REFILL (R358): Every 1.024 µs a shaper receives RATE tokens limited to BURST. -/
  | shaperRefill (shaper : Nat)
  /-- GATE_LIST_START (R363): At start time S a new gate list replaces the previous one. -/
  | gateListStart (port : Nat)
  /-- GATE_ENTRY_END (R362): A gate entry's interval ends and the next entry's gate states apply. -/
  | gateEntryEnd (port : Nat)
  /-- HOLD_DEADLINE (R368): A held port reaches its deadline and its queues are re-homed or flushed. -/
  | holdDeadline (port : Nat)
  /-- PAIR_CONFIG (R380): Command PAIR.CONFIG sets or removes the unit's pair membership. -/
  | pairConfig (vi : Nat) (io : HostIo)
  /-- PAIR_PORT (R381): Command PAIR.PORT sets or removes a paired port and its transmit mode. -/
  | pairPort (vi : Nat) (io : HostIo)
  /-- PAIR_STATE (R414): Command PAIR.STATE returns the pair state of Table PR-6. -/
  | pairState (vi : Nat) (io : HostIo)
  /-- PAIR_SWITCH (R400): Command PAIR.SWITCH hands the bung to the standby. -/
  | pairSwitch (vi : Nat) (io : HostIo)
  /-- PAIR_DRAUGHT (R410): Command PAIR.DRAUGHT runs every draught check now. -/
  | pairDraught (vi : Nat) (io : HostIo)
  /-- PAIR_PORT_EXCHANGE (R382): A member receives its partner's PAIR.PORT settings and matches them with its own. -/
  | pairPortExchange (port : Nat) (settings : Option (Nat × Nat))
  /-- PARTNER_WAIT_EXPIRY (R412): PARTNER_WAIT ends in SEEKING and the unit takes the bung as SOLO if the take conditions hold. -/
  | partnerWaitExpiry
  /-- BUNG_RENEW_SEND (R395): Every 100 µs the active sends BUNG RENEW to its partner. -/
  | bungRenewSend
  /-- BUNG_RENEW (R395): The standby receives a RENEW and answers at once with ACK, recording tA. -/
  | bungRenew (gen number : Nat)
  /-- BUNG_ACK (R395): The active receives an ACK and extends its lease. -/
  | bungAck (gen number : Nat)
  /-- BUNG_HANDOVER (R400): The standby receives HANDOVER, takes the bung at its GEN and answers. -/
  | bungHandover (gen : Nat)
  /-- BUNG_HANDOVER_ACK (R400): The old active receives HANDOVER_ACK and becomes STANDBY. -/
  | bungHandoverAck (gen : Nat)
  /-- LEASE_FENCE (R396): 350 µs pass without an acknowledged RENEW and the active fences itself. -/
  | leaseFence
  /-- BUNG_TAKE (R397): 500 µs pass without renewal, the take conditions hold and the unit takes the bung with a new GEN. -/
  | bungTake
  /-- TAKEOVER_COMPLETE (R397): The new bung holder has enabled its active-only duties and raises EV.PAIR.TAKEOVER. -/
  | takeoverComplete
  /-- ANNOUNCE_SEND (R388): Every 50 µs a pair member sends ANNOUNCE entries to every reachable SUN. -/
  | announceSend
  /-- ANNOUNCE_ENTRY (R398): An ANNOUNCE is received, updating the sender's pair membership, bung status and GEN. -/
  | announceEntry (a : Announce)
  /-- DIVERGE_ENTRY (R393): A member receives DIVERGE, raises EV.PAIR.DIVERGE and the port leaves SYNC. -/
  | divergeEntry (stream sp tc seq reporter : Nat)
  /-- RECON_QUERY (R386): A member receives a RECON QUERY and answers FORWARD, NONE or UNKNOWN from its result log. -/
  | reconQuery (stream arrival : Nat)
  /-- RECON_ANSWER (R386): A RECON answer reaches the querying member, which voids, proceeds or treats the port as diverged. -/
  | reconAnswer (stream arrival kind sp tc seq : Nat)
  /-- RECON_QUERY_TIMEOUT (R386): A query has no answer within 50 µs and the member proceeds as for UNKNOWN. -/
  | reconQueryTimeout (port : Nat)
  /-- ARRIVAL_SWITCH_POINT (R387): The standby receives the arrival number A_p at which a commit switches on a paired port. -/
  | arrivalSwitchPoint (port epoch arrival : Nat)
  /-- MARK_ENTRY (R391): The standby receives a MARK and frees the held SHARED-port packets it covers. -/
  | markEntry (stream sp tc seq : Nat)
  /-- JOURNAL_ENTRY (R402): The standby receives journal records and applies a command's records at its commit mark. -/
  | journalEntry (recs : List JournalRec) (bytes : Nat)
  /-- JOURNAL_MARK_ACK (R402): The active receives the standby's acknowledgement of a commit mark and may post OK. -/
  | journalMarkAck (mark : Nat)
  /-- ANCHOR_RUN (R408): The standby receives a run of 64 frame JCRCs and lengths and searches its receive log to anchor the port. -/
  | anchorRun (port first : Nat) (run : List (Word × Nat))
  /-- SYNC_COMPLETE (R407): Bulk copy, anchoring and egress mirror are done and the standby becomes STANDBY. -/
  | syncComplete
  /-- UNSYNCED_PORT_RESTART (R409): 200 µs after takeover an unsynchronised paired port's streams start afresh with START. -/
  | unsyncedPortRestart (port : Nat)
  /-- DRAUGHT_PERIOD (R410): DRAUGHT_PERIOD expires and the standby runs its draught checks. -/
  | draughtPeriod
  /-- PEER_LANE_DOWN (R405): A peer lane goes down, and with the last lane the peer link is down. -/
  | peerLaneDown (lane : Nat)
  /-- PEER_LANE_UP (R405): A peer lane returns and the peer link comes up. -/
  | peerLaneUp (lane : Nat)
  /-- VI_CREATE (R419): Command VI.CREATE creates an instance with its grant. -/
  | viCreate (vi : Nat) (io : HostIo)
  /-- VI_MODIFY (R432): Command VI.MODIFY replaces an instance's grant. -/
  | viModify (vi : Nat) (io : HostIo)
  /-- VI_DESTROY (R431): Command VI.DESTROY resets an instance with FLUSH and releases its grant. -/
  | viDestroy (vi : Nat) (io : HostIo)
  /-- VI_RESET (R438): Command VI.RESET starts an instance reset sequence. -/
  | viReset (vi : Nat) (io : HostIo)
  /-- VI_QUEUE (R444): Command VI.QUEUE enables or disables a punt or inject queue and sets the punt map. -/
  | viQueue (vi : Nat) (io : HostIo)
  /-- VI_STATUS (R443): Command VI.STATUS returns an instance's state and occupancy. -/
  | viStatus (vi : Nat) (io : HostIo)
  /-- VI_RESET_DRAIN_END (R438): An instance's packets have drained or DRAIN_LIMIT has passed, and the reset flushes and completes. -/
  | viResetDrainEnd (vi : Nat)
  /-- PUNT_DELIVER (R434): A punt copy is written into a posted buffer and its punt entry is written. -/
  | puntDeliver (vi q : Nat) (writeOk : Bool)
  /-- INJECT_FETCH (R435): The inject engine fetches an inject entry and its frame, reading the instance epoch. -/
  | injectFetch (vi q : Nat) (frame : List Byte)
  /-- INJECT_READ_DONE (R435): An inject buffer read completes, the entry is written back and the frame goes to Mill. -/
  | injectReadDone (vi q : Nat) (readOk : Bool)
  /-- SEC_SPDM (R451): Command SEC.SPDM carries one SPDM request and returns its response. -/
  | secSpdm (vi : Nat) (io : HostIo)
  /-- SEC_STATUS (R465): Command SEC.STATUS returns lifecycle, settings and key store status. -/
  | secStatus (vi : Nat) (io : HostIo)
  /-- SEC_IMPORT_PUB (R455): Command SEC.IMPORT_PUB returns the signed import public key. -/
  | secImportPub (vi : Nat) (io : HostIo)
  /-- SEC_KEY_IMPORT (R455): Command SEC.KEY_IMPORT unwraps a key blob into a new key handle. -/
  | secKeyImport (vi : Nat) (io : HostIo)
  /-- SEC_KEY_DELETE (R456): Command SEC.KEY_DELETE erases a key from the key store. -/
  | secKeyDelete (vi : Nat) (io : HostIo)
  /-- SEC_MKA (R457): Command SEC.MKA starts or removes sealed MACsec Key Agreement on a port. -/
  | secMka (vi : Nat) (io : HostIo)
  /-- SEC_LINK (R462): Command SEC.LINK sets the link trust policy or requests a rekey. -/
  | secLink (vi : Nat) (io : HostIo)
  /-- SEC_TRUST (R463): Command SEC.TRUST installs or removes an owner trust anchor. -/
  | secTrust (vi : Nat) (io : HostIo)
  /-- SEC_OWNER_CERT (R449): Command SEC.OWNER_CERT returns a CSR or installs or removes the owner chain. -/
  | secOwnerCert (vi : Nat) (io : HostIo)
  /-- SEC_DEBUG (R467): Command SEC.DEBUG issues a challenge or accepts a debug or RMA unlock token. -/
  | secDebug (vi : Nat) (io : HostIo)
  /-- SEC_ZEROIZE (R466): Command SEC.ZEROIZE burns a zeroise fuse, erases keys and settings and cold-resets. -/
  | secZeroize (vi : Nat) (io : HostIo)
  /-- LINK_HANDSHAKE_MESSAGE (R459): A fabric or peer link handshake message is received and the authenticated key exchange advances or fails. -/
  | linkHandshakeMessage (link : Nat) (m : Handshake)
  /-- REKEY_INTERVAL_EXPIRY (R461): REKEY_INTERVAL passes and a new link handshake starts. -/
  | rekeyIntervalExpiry (link : Nat)
  /-- OLD_KEY_SLOT_EXPIRY (R461): One millisecond after the slot switch receivers stop accepting the old key slot. -/
  | oldKeySlotExpiry (link : Nat)
  /-- HANDSHAKE_RETRY (R461): One second after a failed rekey handshake it is retried. -/
  | handshakeRetry (link : Nat)
  /-- MKPDU_RECEIVE (R457): An EAPOL MKPDU is diverted to Maltster and processed by MKA. -/
  | mkpduReceive (port : Nat) (m : Mkpdu)
  /-- MKA_HELLO (R457): The MKA hello timer expires and Maltster transmits an MKPDU. -/
  | mkaHello (port : Nat)
  /-- UPD_OPEN (R478): Command UPD.OPEN checks a bundle head and opens or joins a download session. -/
  | updOpen (vi : Nat) (io : HostIo)
  /-- UPD_CHUNK (R480): Command UPD.CHUNK verifies and stores one bundle chunk. -/
  | updChunk (vi : Nat) (io : HostIo)
  /-- UPD_STATUS (R497): Command UPD.STATUS returns slot and activation state. -/
  | updStatus (vi : Nat) (io : HostIo)
  /-- UPD_ABORT (R477): Command UPD.ABORT clears a session or requests fallback of a trial. -/
  | updAbort (vi : Nat) (io : HostIo)
  /-- UPD_ACTIVATE (R483): Command UPD.ACTIVATE loads and checks all parts and activates the slot in service or cold. -/
  | updActivate (vi : Nat) (io : HostIo)
  /-- UPD_CONFIRM (R492): Command UPD.CONFIRM burns SVN fuses and makes the trial slot ACTIVE. -/
  | updConfirm (vi : Nat) (io : HostIo)
  /-- UPD_SWAP (R486): The swap epoch switches and pipeline blocks change to their new microcode banks. -/
  | updSwap
  /-- SWAP_WAIT_EXPIRY (R486): SWAP_WAIT passes with no host commit and firmware commits the swap epoch. -/
  | swapWaitExpiry
  /-- LINK_BANK_SWAP_DONE (R487): LINK parts finish changing banks and EV.UPD.SWAPPED is raised. -/
  | linkBankSwapDone
  /-- CONFIRM_WINDOW_EXPIRY (R490): CONFIRM_WINDOW passes without UPD.CONFIRM and the trial falls back. -/
  | confirmWindowExpiry
  /-- FLT_STATUS (R513): Command FLT.STATUS returns fault log summary. -/
  | fltStatus (vi : Nat) (io : HostIo)
  /-- FLT_LOG_READ (R513): Command FLT.LOG_READ reads fault records. -/
  | fltLogRead (vi : Nat) (io : HostIo)
  /-- FLT_INJECT (R511): Command FLT.INJECT arms or injects a fault into the live device. -/
  | fltInject (vi : Nat) (io : HostIo)
  /-- WB_FLIT_RECEIVE (R502): A Wort Bridge flit is received, checked and acknowledged, or replay is requested. -/
  | wbFlitReceive (dir group seq : Nat) (crcOk : Bool)
  /-- WB_LANE_FAIL (R502): A Wort Bridge lane fails and repair or re-striping starts. -/
  | wbLaneFail (dir lane : Nat)
  /-- WB_LANE_REPAIR_DONE (R502): A repair lane replaces the failed lane and in-flight flits are replayed. -/
  | wbLaneRepairDone (dir lane : Nat)
  /-- WB_RESTRIPE_DONE (R502): A slice group finishes re-striping onto its healthy lanes at reduced width. -/
  | wbRestripeDone (dir group : Nat)
  /-- TBL_PC_FAIL (R505): A table HBM pseudo-channel fails and reads are served from the other stack. -/
  | tblPcFail (stack pc : Nat)
  /-- TBL_PC_RECOPY_DONE (R505): Firmware finishes copying the failed range into spare capacity and the recovery window ends. -/
  | tblPcRecopyDone (stack pc : Nat)
  /-- MASH_PIPE_FAULT (R503): A mash pipe self-check or parity fault resets the pipe and re-issues its packets from Mill. -/
  | mashPipeFault (pipe : Nat)
  /-- FAULT_RECORD_CLOSE (R506): A HELD fault record reaches 1 s after its last occurrence and closes. -/
  | faultRecordClose (record : Nat)
  /-- CNT_READ (R518): Command CNT.READ samples a range of counters and their overflow flags. -/
  | cntRead (vi : Nat) (io : HostIo)
  /-- CNT_SELECT (R522): Command CNT.SELECT binds or unbinds a selectable counter from its next boundary. -/
  | cntSelect (vi : Nat) (io : HostIo)
  /-- CNT_METER (R524): Command CNT.METER sets a port's bandwidth meter window. -/
  | cntMeter (vi : Nat) (io : HostIo)
  /-- CNT_METER_READ (R524): Command CNT.METER_READ returns a port's last meter windows and peaks. -/
  | cntMeterRead (vi : Nat) (io : HostIo)
  /-- CNT_DESCRIBE (R525): Command CNT.DESCRIBE returns an event number's index kind and range. -/
  | cntDescribe (vi : Nat) (io : HostIo)
  /-- CNT_WINDOW_BOUNDARY (R521): A selectable counter's window boundary stores the window count and applies a pending binding. -/
  | cntWindowBoundary (counter : Nat)
  /-- METER_WINDOW_BOUNDARY (R524): A meter window ends and stores its frames, bytes and peak. -/
  | meterWindowBoundary (port : Nat)
  /-- PWR_STATUS (R548): Command PWR.STATUS returns thermal, reference and domain status. -/
  | pwrStatus (vi : Nat) (io : HostIo)
  /-- PWR_DOMAIN (R549): Command PWR.DOMAIN powers a permitted domain on or off. -/
  | pwrDomain (vi : Nat) (io : HostIo)
  /-- PWR_GPIO (R548): Command PWR.GPIO configures, writes or reads GPIO pins. -/
  | pwrGpio (vi : Nat) (io : HostIo)
  /-- DOMAIN_POWER_GOOD (R535): A ramping power domain asserts power-good and its boundary is released. -/
  | domainPowerGood (pd : Nat)
  /-- DOMAIN_FAULT (R536): A domain's power-good fails or drops and the domain is isolated with the consequences of Table PH-4. -/
  | domainFault (pd cause : Nat)
  /-- DOMAIN_RETRY (R536): Every 10 s firmware powers a faulted lane group, plane or peer domain again. -/
  | domainRetry (pd : Nat)
  /-- REFCLK_LOSS (R530): REFCLK shows no edge for 100 ns and ROOTPLL enters holdover. -/
  | refclkLoss
  /-- REFCLK_RELOCK (R530): The reference has been present 10 ms and ROOTPLL relocks or stays out of range. -/
  | refclkRelock (inRange : Bool)
  /-- RAIL_UNDERVOLTAGE (R534): A rail falls 6% below nominal for 1 µs, PWRFAULT_N asserts and the device cold-resets. -/
  | railUndervoltage (rail : Nat)
  /-- THERMAL_STATE_ENTER (R537): The hottest die sensor crosses a WARN or CRIT threshold. -/
  | thermalStateEnter (source : Nat) (temp : Int)
  /-- THERMAL_STATE_LEAVE (R537): The temperature stays 3 °C below a state's threshold for 10 ms and the state is left. -/
  | thermalStateLeave (source : Nat) (temp : Int)
  /-- THERMAL_TRIP (R538): The junction exceeds Tmax plus 15 °C for 10 µs and PD0 turns off every other domain. -/
  | thermalTrip
  /-- HBM_THERMAL (R539): An HBM stack crosses 85, 95 or 105 °C and refresh doubles, an event is raised or the stack fails. -/
  | hbmThermal (stack : Nat) (temp : Int)
  /-- GPIO_EDGE (R548): A configured edge on a GPIO input raises EV.PWR.GPIO. -/
  | gpioEdge (pin : Nat) (level : Bool)
  /-- ROOTPLL_LOCK (R529): ROOTPLL locks within 0.5 ms of PD0 power, completing step 1 of the power-on order so step 2 can start. -/
  | rootpllLock
  /-- REFCLK_RELOCK_DONE (R530): ROOTPLL finishes slewing at 1 ppm per ms back to the reference and EV.PWR.REF reports LOCKED. -/
  | refclkRelockDone
  /-- PULSE_WIDTH_END (R172): WIDTH after a pulse edge the pulse output is driven low and the pulse in progress ends. -/
  | pulseWidthEnd (pin : Nat)
  /-- MKA_LIFETIME_EXPIRY (R458): A live MKA peer's 6 s lifetime passes without an MKPDU, the peer is lost and EV.SEC.MKA may report NO_PEER. -/
  | mkaLifetimeExpiry (port peer : Nat)
  /-- ANCHOR_CUT (R408): The standby receives the cut C and every stream's next number, numbers the port's frames from C and enters SYNC with EV.PAIR.PORT_SYNC. -/
  | anchorCut (port cut : Nat) (nexts : List (Nat × Nat × Nat))
  /-- SWAP_COMMIT_RETRY (R486): Firmware retries its swap-epoch commit every 1 ms while E_EPOCH_FULL holds it. -/
  | swapCommitRetry
  /-- PLANE_DOWN_ANNOUNCED (R341): The far end of a plane announces the plane down in the training exchange, and the plane in UP is lost. -/
  | planeDownAnnounced (plane : Nat)
deriving DecidableEq, Repr

end Sys2Proof
end

