-- ==== Sys2Proof/Decode.lean ====
section
/-! DEFINITION. The commands that a word spells. The block takes commands, not instruction words: no row of spec/opcode_table.json
gives bits, so no word spells a command. -/
namespace Sys2Proof

/-- The command of a table word: none, because the table gives no row any bits. -/
def decodeTableWord (_nbits _w : Nat) : Option Instr := none

end Sys2Proof
end

