-- ==== Sys2Proof/Machine/Bits.lean ====
section
/-! DEFINITION. Bytes, little-endian fields, keyed lists and the two checksums the manual names by standard (CRC-32, CRC-32C). -/
namespace Sys2Proof.Machine

/-! ### Keyed lists in strictly rising key order -/

/-- The value a key holds. -/
def mget {α : Type} : AMap α → Nat → Option α
  | [], _ => none
  | (k', v) :: t, k => if k = k' then some v else mget t k

/-- The value of a key, or what an unlisted key holds. -/
def mgetD {α : Type} (m : AMap α) (k : Nat) (d : α) : α := (mget m k).getD d

/-- The map with a key set, keys kept in rising order. -/
def mset {α : Type} : AMap α → Nat → α → AMap α
  | [], k, v => [(k, v)]
  | (k', v') :: t, k, v =>
    if k < k' then (k, v) :: (k', v') :: t
    else if k = k' then (k, v) :: t
    else (k', v') :: mset t k v

/-- The map without a key. -/
def mdel {α : Type} (m : AMap α) (k : Nat) : AMap α := m.filter (fun e => decide (e.1 ≠ k))

/-- A change of one key's value, starting from what an unlisted key holds. -/
def mmod {α : Type} (m : AMap α) (k : Nat) (d : α) (f : α → α) : AMap α := mset m k (f (mgetD m k d))

/-- Whether a key is listed. -/
def mhas {α : Type} (m : AMap α) (k : Nat) : Bool := (mget m k).isSome

/-- Set a key to an optional value: `none` removes it. -/
def mput {α : Type} (m : AMap α) (k : Nat) : Option α → AMap α
  | some v => mset m k v
  | none => mdel m k

/-- The keys of a map. -/
def mkeys {α : Type} (m : AMap α) : List Nat := m.map (fun e => e.1)

/-- The values of a map. -/
def mvals {α : Type} (m : AMap α) : List α := m.map (fun e => e.2)

/-! ### Lists as sets, ranges, folds -/

/-- A list with an element added once at its end. -/
def addOnce {α : Type} [DecidableEq α] (l : List α) (x : α) : List α := if x ∈ l then l else l ++ [x]

/-- The list without an element. -/
def without {α : Type} [DecidableEq α] (l : List α) (x : α) : List α := l.filter (fun y => decide (y ≠ x))

/-- `n` numbers from `a`. -/
def upFrom (a : Nat) : Nat → List Nat
  | 0 => []
  | n + 1 => a :: upFrom (a + 1) n

/-- A state carried through a list. -/
def foldS {σ α : Type} (l : List α) (s : σ) (f : α → σ → σ) : σ := l.foldl (fun s a => f a s) s

/-- Sum of a number over a list. -/
def sumOf {α : Type} (l : List α) (f : α → Nat) : Nat := l.foldl (fun n a => n + f a) 0

/-- Whether two half-open ranges (first, count) share a number. -/
def rangesMeet (a b : Nat × Nat) : Bool := decide (0 < a.2 ∧ 0 < b.2 ∧ a.1 < b.1 + b.2 ∧ b.1 < a.1 + a.2)

/-- Whether a number lies in a range (first, count). -/
def inRange (r : Nat × Nat) (n : Nat) : Bool := decide (r.1 ≤ n ∧ n < r.1 + r.2)

/-! ### Numbers and bits -/

/-- Bit `i` of a number. -/
def bit (n i : Nat) : Bool := n.testBit i

/-- Bits [hi:lo] of a number. -/
def bits (n hi lo : Nat) : Nat := n / 2 ^ lo % 2 ^ (hi + 1 - lo)

/-- 1 for true. -/
def b2n (b : Bool) : Nat := if b then 1 else 0

/-- A flag shifted to bit `i`. -/
def flag (b : Bool) (i : Nat) : Nat := if b then 2 ^ i else 0

/-- A signed field of `w` bits. -/
def sx (w n : Nat) : Int := if n < 2 ^ (w - 1) then (n : Int) else (n : Int) - 2 ^ w

/-- A number saturated to `w` bits. -/
def sat (w n : Nat) : Nat := min n (2 ^ w - 1)

/-- The low `w` bits of an integer (two's complement). -/
def wrapInt (w : Nat) (x : Int) : Nat := (x % (2 ^ w : Int)).toNat

/-- Division rounded up. -/
def ceilDiv (a b : Nat) : Nat := (a + b - 1) / b

/-- Positions of the 1 bits of a number below `w`. -/
def bitsSet (n w : Nat) : List Nat := (List.range w).filter (fun i => n.testBit i)

/-- A number with the listed bits set. -/
def maskOf (l : List Nat) : Nat := l.foldl (fun n i => n ||| 2 ^ i) 0

/-- R12: `a` is older than `b` in serial numbers of `w` bits. -/
def older (w a b : Nat) : Bool :=
  let d := (b + 2 ^ w - a % 2 ^ w) % 2 ^ w
  decide (1 ≤ d ∧ d ≤ 2 ^ (w - 1) - 1)

/-- The forward distance from `a` to `b` modulo 2^w. -/
def dist (w a b : Nat) : Nat := (b % 2 ^ w + 2 ^ w - a % 2 ^ w) % 2 ^ w

/-! ### Bytes -/

/-- The byte at an offset; bytes past the end read 0. -/
def byteAt (b : List Byte) (i : Nat) : Byte := b.getD i 0

/-- `n` bytes from an offset, padded with 0. -/
def bytesAt (b : List Byte) (off n : Nat) : List Byte := (List.range n).map (fun i => byteAt b (off + i))

/-- Little-endian value of bytes (R9). -/
def leVal : List Byte → Nat
  | [] => 0
  | x :: t => x.toNat + 256 * leVal t

/-- Big-endian value of bytes (network order). -/
def beVal (b : List Byte) : Nat := b.foldl (fun n x => n * 256 + x.toNat) 0

/-- Little-endian field of `n` bytes at an offset. -/
def le (b : List Byte) (off n : Nat) : Nat := leVal (bytesAt b off n)

/-- Big-endian field of `n` bytes at an offset. -/
def be (b : List Byte) (off n : Nat) : Nat := beVal (bytesAt b off n)

/-- A number as `n` little-endian bytes. -/
def putLe : Nat → Nat → List Byte
  | 0, _ => []
  | n + 1, v => BitVec.ofNat 8 v :: putLe n (v / 256)

/-- A number as `n` big-endian bytes. -/
def putBe (n v : Nat) : List Byte := (putLe n v).reverse

/-- `n` zero bytes. -/
def zeros (n : Nat) : List Byte := List.replicate n 0

/-- A list of bytes cut or padded with 0 to `n` bytes. -/
def fit (n : Nat) (b : List Byte) : List Byte := b.take n ++ zeros (n - b.length)

/-- Bytes with some replaced from an offset on. -/
def patch (b : List Byte) (off : Nat) (new : List Byte) : List Byte :=
  fit off b ++ new ++ b.drop (off + new.length)

/-- Split into records of `n` bytes (`k` of them). -/
def chunks (n : Nat) : Nat → List Byte → List (List Byte)
  | 0, _ => []
  | k + 1, b => fit n (b.take n) :: chunks n k (b.drop n)

/-! ### CRC-32 (IEEE 802.3) and CRC-32C, reflected, preset and final inversion all ones -/

/-- Eight shifts of a reflected CRC register. -/
def crcShift (poly : Word) : Nat → Word → Word
  | 0, c => c
  | n + 1, c => crcShift poly n (if c.getLsbD 0 then (c >>> 1) ^^^ poly else c >>> 1)

/-- The register after a run of bytes. -/
def crcRun (poly : Word) : List Byte → Word → Word
  | [], c => c
  | b :: t, c => crcRun poly t (crcShift poly 8 (c ^^^ b.zeroExtend 32))

/-- CRC-32 of IEEE 802.3, the FCS. -/
def crc32 (b : List Byte) : Word := ~~~ crcRun 0xEDB88320 b 0xFFFFFFFF

/-- CRC-32C, the journal's check of a submission entry (R71). -/
def crc32c (b : List Byte) : Word := ~~~ crcRun 0x82F63B78 b 0xFFFFFFFF

/-- The 4 FCS bytes of a frame, in the order they are sent. -/
def fcsOf (b : List Byte) : List Byte := putLe 4 (crc32 b).toNat

end Sys2Proof.Machine
end

