-- ==== Sys2Proof/Machine/Codes.lean ====
section
/-! DEFINITION. The manual's code tables as named numbers: status codes (Table HM-8), detail codes (Tables HM-9 and RF-3),
notification codes with their severities (Tables RF-4 and RF-5) and counter event numbers with their index kinds (Table CT-2). -/
namespace Sys2Proof.Machine

/-! Status codes, Table HM-8. -/
abbrev St.ok : Nat := 0x0000
abbrev St.eBusy : Nat := 0x0001
abbrev St.eArg : Nat := 0x0002
abbrev St.eState : Nat := 0x0003
abbrev St.eNospace : Nat := 0x0004
abbrev St.eEpochFull : Nat := 0x0005
abbrev St.eSlotBusy : Nat := 0x0006
abbrev St.eAuth : Nat := 0x0007
abbrev St.eDenied : Nat := 0x0008
abbrev St.eStale : Nat := 0x0009
abbrev St.eUnsupported : Nat := 0x000A

/-! Detail codes, Tables HM-9 and RF-3. -/
abbrev Dt.hifNone : Nat := 0x0000
abbrev Dt.hifReservedNonzero : Nat := 0x0001
abbrev Dt.hifIdOrder : Nat := 0x0002
abbrev Dt.hifReplayMismatch : Nat := 0x0003
abbrev Dt.hifBadOpcode : Nat := 0x0004
abbrev Dt.hifDataFault : Nat := 0x0005
abbrev Dt.hifDataLen : Nat := 0x0006
abbrev Dt.hifNotPermitted : Nat := 0x0007
abbrev Dt.hifInstanceAbsent : Nat := 0x0008
abbrev Dt.hifCellar : Nat := 0x0009
abbrev Dt.hifStandby : Nat := 0x000A
abbrev Dt.hifRecovery : Nat := 0x000B
abbrev Dt.devNotCellar : Nat := 0x0201
abbrev Dt.devNoEpoch : Nat := 0x0202
abbrev Dt.devTableHbm : Nat := 0x0203
abbrev Dt.devBufferHbm : Nat := 0x0204
abbrev Dt.devBlockBusy : Nat := 0x0205
abbrev Dt.devSunInUse : Nat := 0x0206
abbrev Dt.devCageInUse : Nat := 0x0207
abbrev Dt.devDegraded : Nat := 0x0208
abbrev Dt.devFailed : Nat := 0x0209
abbrev Dt.portOverlap : Nat := 0x0301
abbrev Dt.portAlign : Nat := 0x0302
abbrev Dt.portCage : Nat := 0x0303
abbrev Dt.portCipherRate : Nat := 0x0304
abbrev Dt.portNoKey : Nat := 0x0305
abbrev Dt.portSaActive : Nat := 0x0306
abbrev Dt.portMacsecLimit : Nat := 0x0307
abbrev Dt.frmNotOtn : Nat := 0x0401
abbrev Dt.frmTsConflict : Nat := 0x0402
abbrev Dt.frmTsiSplit : Nat := 0x0403
abbrev Dt.frmSwapPending : Nat := 0x0404
abbrev Dt.frmClientExists : Nat := 0x0405
abbrev Dt.frmTribInUse : Nat := 0x0406
abbrev Dt.frmTribLimit : Nat := 0x0407
abbrev Dt.timeStepLimit : Nat := 0x0501
abbrev Dt.timeEpochWrap : Nat := 0x0502
abbrev Dt.timePast : Nat := 0x0503
abbrev Dt.timeRange : Nat := 0x0504
abbrev Dt.timeNotEth : Nat := 0x0505
abbrev Dt.tblNothingStaged : Nat := 0x0601
abbrev Dt.tblDangling : Nat := 0x0602
abbrev Dt.tblCapacity : Nat := 0x0603
abbrev Dt.tblVersionSpace : Nat := 0x0604
abbrev Dt.tblVersionLimit : Nat := 0x0605
abbrev Dt.tblVersionExists : Nat := 0x0606
abbrev Dt.tblEpochGone : Nat := 0x0607
abbrev Dt.tblPinLimit : Nat := 0x0608
abbrev Dt.tblEpochWait : Nat := 0x0609
abbrev Dt.tblEpochSpan : Nat := 0x060A
abbrev Dt.tblBadRecord : Nat := 0x060B
abbrev Dt.tblProgramBudget : Nat := 0x060C
abbrev Dt.tblRaPort : Nat := 0x060D
abbrev Dt.tblHoldOrder : Nat := 0x060E
abbrev Dt.asaNoRegion : Nat := 0x0701
abbrev Dt.asaRegionExists : Nat := 0x0702
abbrev Dt.asaRegionInUse : Nat := 0x0703
abbrev Dt.asaBlockTaken : Nat := 0x0704
abbrev Dt.asaReserve : Nat := 0x0705
abbrev Dt.asaWidth : Nat := 0x0706
abbrev Dt.asaIdExists : Nat := 0x0707
abbrev Dt.asaNoId : Nat := 0x0708
abbrev Dt.asaFull : Nat := 0x0709
abbrev Dt.asaActionDir : Nat := 0x070A
abbrev Dt.asaEqualPriority : Nat := 0x070B
abbrev Dt.asaProfileInUse : Nat := 0x070C
abbrev Dt.admRange : Nat := 0x0801
abbrev Dt.admProfileAbsent : Nat := 0x0802
abbrev Dt.admProfileInUse : Nat := 0x0803
abbrev Dt.admHeadroom : Nat := 0x0804
abbrev Dt.admNotEth : Nat := 0x0805
abbrev Dt.admSojournHold : Nat := 0x0806
abbrev Dt.admNoPort : Nat := 0x0807
abbrev Dt.fabLaneTaken : Nat := 0x0901
abbrev Dt.fabPlaneBusy : Nat := 0x0902
abbrev Dt.fabSpBusy : Nat := 0x0903
abbrev Dt.fabRange : Nat := 0x0904
abbrev Dt.fabTimeoutOrder : Nat := 0x0905
abbrev Dt.schRange : Nat := 0x0A01
abbrev Dt.schNoParent : Nat := 0x0A02
abbrev Dt.schNoShaper : Nat := 0x0A03
abbrev Dt.schShaperTaken : Nat := 0x0A04
abbrev Dt.schInUse : Nat := 0x0A05
abbrev Dt.schBackup : Nat := 0x0A06
abbrev Dt.schGateShort : Nat := 0x0A07
abbrev Dt.schGateCycle : Nat := 0x0A08
abbrev Dt.schNoPort : Nat := 0x0A09
abbrev Dt.pairNotSynced : Nat := 0x0B01
abbrev Dt.pairInUse : Nat := 0x0B02
abbrev Dt.pairSunConflict : Nat := 0x0B03
abbrev Dt.pairMarkBudget : Nat := 0x0B04
abbrev Dt.pairPortLimit : Nat := 0x0B05
abbrev Dt.pairNotConfigured : Nat := 0x0B06
abbrev Dt.viExists : Nat := 0x0C01
abbrev Dt.viAbsent : Nat := 0x0C02
abbrev Dt.viOverlap : Nat := 0x0C03
abbrev Dt.viPool : Nat := 0x0C04
abbrev Dt.viResetBusy : Nat := 0x0C05
abbrev Dt.viResetting : Nat := 0x0C06
abbrev Dt.viInUse : Nat := 0x0C07
abbrev Dt.viQueue : Nat := 0x0C08
abbrev Dt.viRange : Nat := 0x0C09
abbrev Dt.secBadWrap : Nat := 0x0D01
abbrev Dt.secStoreFull : Nat := 0x0D02
abbrev Dt.secNoKey : Nat := 0x0D03
abbrev Dt.secKeyInUse : Nat := 0x0D04
abbrev Dt.secMkaOwns : Nat := 0x0D05
abbrev Dt.secPaired : Nat := 0x0D06
abbrev Dt.secAnchorFull : Nat := 0x0D07
abbrev Dt.secToken : Nat := 0x0D08
abbrev Dt.secLifecycle : Nat := 0x0D09
abbrev Dt.secConfirm : Nat := 0x0D0A
abbrev Dt.secChain : Nat := 0x0D0B
abbrev Dt.updSlotBusy : Nat := 0x0E01
abbrev Dt.updBadHead : Nat := 0x0E02
abbrev Dt.updWrongDevice : Nat := 0x0E03
abbrev Dt.updSignature : Nat := 0x0E04
abbrev Dt.updSvnLow : Nat := 0x0E05
abbrev Dt.updChunkBad : Nat := 0x0E06
abbrev Dt.updChunkRange : Nat := 0x0E07
abbrev Dt.updPartBad : Nat := 0x0E08
abbrev Dt.updFlash : Nat := 0x0E09
abbrev Dt.updNoSession : Nat := 0x0E0A
abbrev Dt.updTrial : Nat := 0x0E0B
abbrev Dt.updIssuFrom : Nat := 0x0E0C
abbrev Dt.updNeedsCold : Nat := 0x0E0D
abbrev Dt.updBlockCheck : Nat := 0x0E0E
abbrev Dt.updSwapPending : Nat := 0x0E0F
abbrev Dt.updFuse : Nat := 0x0E10
abbrev Dt.fltTarget : Nat := 0x0F01
abbrev Dt.fltRecovering : Nat := 0x0F02
abbrev Dt.cntNoEvent : Nat := 0x1001
abbrev Dt.cntIndex : Nat := 0x1002
abbrev Dt.cntRange : Nat := 0x1003
abbrev Dt.pwrFixed : Nat := 0x1101
abbrev Dt.pwrInUse : Nat := 0x1102
abbrev Dt.pwrBusy : Nat := 0x1103
abbrev Dt.pwrRange : Nat := 0x1104

/-! Notifications: (code, severity), Tables RF-4 and RF-5. -/
abbrev Ev.hifCmdDone : Nat × Nat := (0x0101, 0)
abbrev Ev.hifRingFault : Nat × Nat := (0x0102, 2)
abbrev Ev.hifFwRestart : Nat × Nat := (0x0103, 1)
abbrev Ev.hifLinkUp : Nat × Nat := (0x0104, 1)
abbrev Ev.devPhase : Nat × Nat := (0x0201, 0)
abbrev Ev.devCellar : Nat × Nat := (0x0202, 0)
abbrev Ev.devServiceFull : Nat × Nat := (0x0203, 0)
abbrev Ev.devLineFullRate : Nat × Nat := (0x0204, 0)
abbrev Ev.devBringupFail : Nat × Nat := (0x0205, 3)
abbrev Ev.devDegraded : Nat × Nat := (0x0206, 1)
abbrev Ev.devSettingsDefault : Nat × Nat := (0x0207, 1)
abbrev Ev.devBlockReset : Nat × Nat := (0x0208, 0)
abbrev Ev.devBcLost : Nat × Nat := (0x0209, 2)
abbrev Ev.devBcBack : Nat × Nat := (0x020A, 0)
abbrev Ev.portModuleIn : Nat × Nat := (0x0301, 0)
abbrev Ev.portModuleOut : Nat × Nat := (0x0302, 1)
abbrev Ev.portModuleReady : Nat × Nat := (0x0303, 0)
abbrev Ev.portModuleFault : Nat × Nat := (0x0304, 2)
abbrev Ev.portModuleMismatch : Nat × Nat := (0x0305, 1)
abbrev Ev.portModuleNotify : Nat × Nat := (0x0306, 0)
abbrev Ev.portDown : Nat × Nat := (0x0307, 1)
abbrev Ev.portUp : Nat × Nat := (0x0308, 0)
abbrev Ev.portFecDegrade : Nat × Nat := (0x0309, 1)
abbrev Ev.portMacsecPn : Nat × Nat := (0x030A, 1)
abbrev Ev.portMacsecExhausted : Nat × Nat := (0x030B, 2)
abbrev Ev.portHoldFlush : Nat × Nat := (0x030C, 2)
abbrev Ev.portRehomed : Nat × Nat := (0x030D, 1)
abbrev Ev.portReturned : Nat × Nat := (0x030E, 0)
abbrev Ev.frmDefect : Nat × Nat := (0x0401, 1)
abbrev Ev.frmProtSwitch : Nat × Nat := (0x0402, 1)
abbrev Ev.frmTsiSwapped : Nat × Nat := (0x0403, 0)
abbrev Ev.frmSlip : Nat × Nat := (0x0404, 1)
abbrev Ev.frmHuntAmbig : Nat × Nat := (0x0405, 2)
abbrev Ev.timeStepped : Nat × Nat := (0x0501, 1)
abbrev Ev.timeDelayStep : Nat × Nat := (0x0502, 1)
abbrev Ev.timeTxtsOverflow : Nat × Nat := (0x0503, 1)
abbrev Ev.timePulseCancelled : Nat × Nat := (0x0504, 1)
abbrev Ev.timeCaptureOverflow : Nat × Nat := (0x0505, 1)
abbrev Ev.timeSynceSquelch : Nat × Nat := (0x0506, 2)
abbrev Ev.timeProbeLost : Nat × Nat := (0x0507, 1)
abbrev Ev.tblCommitted : Nat × Nat := (0x0601, 0)
abbrev Ev.tblCapacity : Nat × Nat := (0x0602, 1)
abbrev Ev.tblEncapMiss : Nat × Nat := (0x0603, 2)
abbrev Ev.tblLookupTimeout : Nat × Nat := (0x0604, 1)
abbrev Ev.tblRaPressure : Nat × Nat := (0x0605, 1)
abbrev Ev.asaThrottle : Nat × Nat := (0x0701, 1)
abbrev Ev.asaEqualPriority : Nat × Nat := (0x0702, 1)
abbrev Ev.asaBankReload : Nat × Nat := (0x0703, 2)
abbrev Ev.asaBankFailed : Nat × Nat := (0x0704, 3)
abbrev Ev.admPoolLow : Nat × Nat := (0x0801, 1)
abbrev Ev.admHbmFull : Nat × Nat := (0x0802, 1)
abbrev Ev.admHeadroomOverrun : Nat × Nat := (0x0803, 2)
abbrev Ev.admHbmPcFail : Nat × Nat := (0x0804, 2)
abbrev Ev.admHbmPcClear : Nat × Nat := (0x0805, 0)
abbrev Ev.admStackFail : Nat × Nat := (0x0806, 3)
abbrev Ev.fabLaneMiswire : Nat × Nat := (0x0901, 1)
abbrev Ev.fabPlaneUp : Nat × Nat := (0x0902, 0)
abbrev Ev.fabPlaneDown : Nat × Nat := (0x0903, 2)
abbrev Ev.fabSunUp : Nat × Nat := (0x0904, 0)
abbrev Ev.fabSunDown : Nat × Nat := (0x0905, 1)
abbrev Ev.fabLaneDown : Nat × Nat := (0x0906, 1)
abbrev Ev.fabLaneUp : Nat × Nat := (0x0907, 0)
abbrev Ev.fabPlaneSuspect : Nat × Nat := (0x0908, 1)
abbrev Ev.fabRetxExhausted : Nat × Nat := (0x0909, 2)
abbrev Ev.fabLinkAuth : Nat × Nat := (0x090A, 2)
abbrev Ev.fabStreamFull : Nat × Nat := (0x090B, 1)
abbrev Ev.fabCtUnderrun : Nat × Nat := (0x090C, 1)
abbrev Ev.fabProtocol : Nat × Nat := (0x090D, 2)
abbrev Ev.schMode : Nat × Nat := (0x0A01, 0)
abbrev Ev.schGateStart : Nat × Nat := (0x0A02, 0)
abbrev Ev.pairPartnerFound : Nat × Nat := (0x0B01, 0)
abbrev Ev.pairPartnerLost : Nat × Nat := (0x0B02, 1)
abbrev Ev.pairPartnerMismatch : Nat × Nat := (0x0B03, 2)
abbrev Ev.pairDiverge : Nat × Nat := (0x0B04, 2)
abbrev Ev.pairTakeover : Nat × Nat := (0x0B05, 2)
abbrev Ev.pairFenced : Nat × Nat := (0x0B06, 3)
abbrev Ev.pairPeerlinkDown : Nat × Nat := (0x0B07, 2)
abbrev Ev.pairPeerlinkUp : Nat × Nat := (0x0B08, 0)
abbrev Ev.pairStale : Nat × Nat := (0x0B09, 1)
abbrev Ev.pairSynced : Nat × Nat := (0x0B0A, 0)
abbrev Ev.pairPortSync : Nat × Nat := (0x0B0B, 1)
abbrev Ev.pairDraughtFail : Nat × Nat := (0x0B0C, 2)
abbrev Ev.pairHandover : Nat × Nat := (0x0B0D, 1)
abbrev Ev.viResetDone : Nat × Nat := (0x0C01, 1)
abbrev Ev.viOverdraft : Nat × Nat := (0x0C02, 1)
abbrev Ev.viQueueFault : Nat × Nat := (0x0C03, 2)
abbrev Ev.secMka : Nat × Nat := (0x0D01, 1)
abbrev Ev.secLinkAuthFail : Nat × Nat := (0x0D02, 2)
abbrev Ev.secLinkRekey : Nat × Nat := (0x0D03, 0)
abbrev Ev.secSettingsCopy : Nat × Nat := (0x0D04, 2)
abbrev Ev.secDebugUnlocked : Nat × Nat := (0x0D05, 3)
abbrev Ev.updReady : Nat × Nat := (0x0E01, 0)
abbrev Ev.updResult : Nat × Nat := (0x0E02, 1)
abbrev Ev.updSwapped : Nat × Nat := (0x0E03, 0)
abbrev Ev.fltRecord : Nat × Nat := (0x0F01, 0)
abbrev Ev.fltDouble : Nat × Nat := (0x0F02, 3)
abbrev Ev.cntWrap : Nat × Nat := (0x1001, 1)
abbrev Ev.pwrThermal : Nat × Nat := (0x1101, 0)
abbrev Ev.pwrRef : Nat × Nat := (0x1102, 2)
abbrev Ev.pwrDomainFault : Nat × Nat := (0x1103, 3)
abbrev Ev.pwrDomain : Nat × Nat := (0x1104, 0)
abbrev Ev.pwrGpio : Nat × Nat := (0x1105, 0)

/-! Counter event numbers, Table CT-2: the first counter of a row takes the base. -/
abbrev Cn.hifCfgReject : Nat := 0x000
abbrev Cn.hifDbReject : Nat := 0x001
abbrev Cn.hifRingFaults : Nat := 0x002
abbrev Cn.hifCmdErr : Nat := 0x003
abbrev Cn.hifNqLost : Nat := 0x004
abbrev Cn.hifReplayed : Nat := 0x005
abbrev Cn.hifStale : Nat := 0x006
abbrev Cn.hifWinDenied : Nat := 0x007
abbrev Cn.hifLinkDown : Nat := 0x010
abbrev Cn.buSettingsDefault : Nat := 0x011
abbrev Cn.buBridgeFail : Nat := 0x012
abbrev Cn.buHbmTrainFail : Nat := 0x013
abbrev Cn.buBlockReset : Nat := 0x014
abbrev Cn.devServiceRefused : Nat := 0x015
abbrev Cn.bcLost : Nat := 0x016
abbrev Cn.puntCellarRefused : Nat := 0x017
abbrev Cn.portRxFrames : Nat := 0x100
abbrev Cn.portRxBytes : Nat := 0x101
abbrev Cn.portTxFrames : Nat := 0x102
abbrev Cn.portTxBytes : Nat := 0x103
abbrev Cn.portRxFcs : Nat := 0x104
abbrev Cn.portRxOversize : Nat := 0x105
abbrev Cn.portRxRunt : Nat := 0x106
abbrev Cn.portRxPause : Nat := 0x107
abbrev Cn.portFlaps : Nat := 0x108
abbrev Cn.portLos : Nat := 0x109
abbrev Cn.portLockLost : Nat := 0x10A
abbrev Cn.portLf : Nat := 0x10B
abbrev Cn.portRf : Nat := 0x10C
abbrev Cn.portFecCorr : Nat := 0x10D
abbrev Cn.portFecUncorr : Nat := 0x10E
abbrev Cn.portFecSymbols : Nat := 0x10F
abbrev Cn.portFecDegrade : Nat := 0x110
abbrev Cn.portModuleMismatch : Nat := 0x111
abbrev Cn.portModuleFault : Nat := 0x112
abbrev Cn.frmOof : Nat := 0x140
abbrev Cn.frmLof : Nat := 0x141
abbrev Cn.frmLom : Nat := 0x142
abbrev Cn.frmAis : Nat := 0x143
abbrev Cn.frmBdi : Nat := 0x144
abbrev Cn.frmHuntAmbig : Nat := 0x145
abbrev Cn.frmSlip : Nat := 0x146
abbrev Cn.frmOhsUnderrun : Nat := 0x147
abbrev Cn.frmProtSwitch : Nat := 0x148
abbrev Cn.macsecRxNotvalid : Nat := 0x160
abbrev Cn.macsecRxLate : Nat := 0x161
abbrev Cn.macsecRxNosa : Nat := 0x162
abbrev Cn.macsecRxUnchecked : Nat := 0x163
abbrev Cn.macsecRxBadtag : Nat := 0x164
abbrev Cn.secMkaIcvFail : Nat := 0x165
abbrev Cn.timeSteps : Nat := 0x200
abbrev Cn.timeStepRefused : Nat := 0x201
abbrev Cn.timePulseLate : Nat := 0x202
abbrev Cn.timePulseCancelled : Nat := 0x203
abbrev Cn.timeCaptureLost : Nat := 0x204
abbrev Cn.timeSynceSquelch : Nat := 0x205
abbrev Cn.timeTxtsLost : Nat := 0x210
abbrev Cn.timeDelayStep : Nat := 0x211
abbrev Cn.timeProbeLost : Nat := 0x212
abbrev Cn.millParseTrunc : Nat := 0x300
abbrev Cn.millParseError : Nat := 0x301
abbrev Cn.millPpsDrop : Nat := 0x302
abbrev Cn.lkpTimeout : Nat := 0x303
abbrev Cn.millInjectStale : Nat := 0x308
abbrev Cn.lkpDrop : Nat := 0x310
abbrev Cn.lkpPunt : Nat := 0x311
abbrev Cn.tblCommits : Nat := 0x318
abbrev Cn.tblEpochFull : Nat := 0x319
abbrev Cn.encapVersionMiss : Nat := 0x31A
abbrev Cn.raPredicted : Nat := 0x340
abbrev Cn.raConfirmed : Nat := 0x341
abbrev Cn.raSquashed : Nat := 0x342
abbrev Cn.raCascaded : Nat := 0x343
abbrev Cn.raNoTrub : Nat := 0x344
abbrev Cn.raUntracked : Nat := 0x345
abbrev Cn.raTrubEcc : Nat := 0x346
abbrev Cn.raCacheParity : Nat := 0x347
abbrev Cn.asaSearches : Nat := 0x400
abbrev Cn.asaThrottleWait : Nat := 0x401
abbrev Cn.asaThrottleSteps : Nat := 0x408
abbrev Cn.asaFalseHit : Nat := 0x409
abbrev Cn.asaShadowParity : Nat := 0x40A
abbrev Cn.asaScrubFix : Nat := 0x40B
abbrev Cn.asaBankReload : Nat := 0x40C
abbrev Cn.asaBankFailed : Nat := 0x40D
abbrev Cn.asaEqPrioWarn : Nat := 0x40E
abbrev Cn.asaNoProfile : Nat := 0x40F
abbrev Cn.asaMoves : Nat := 0x410
abbrev Cn.admAdmitted : Nat := 0x500
abbrev Cn.admAdmittedBytes : Nat := 0x501
abbrev Cn.admWredMark : Nat := 0x502
abbrev Cn.admRefused : Nat := 0x508
abbrev Cn.sojournExpired : Nat := 0x50C
abbrev Cn.admPfcXoffTx : Nat := 0x510
abbrev Cn.admPfcXoffRx : Nat := 0x511
abbrev Cn.admHeadroomOverrun : Nat := 0x512
abbrev Cn.admHbmSpill : Nat := 0x518
abbrev Cn.admMigrated : Nat := 0x519
abbrev Cn.admCaskCe : Nat := 0x51A
abbrev Cn.admCaskUe : Nat := 0x51B
abbrev Cn.admHbmCe : Nat := 0x520
abbrev Cn.admHbmRebuild : Nat := 0x521
abbrev Cn.admHbmPcFail : Nat := 0x522
abbrev Cn.admHbmRowRetired : Nat := 0x523
abbrev Cn.admHbmStackFail : Nat := 0x524
abbrev Cn.fabLaneDown : Nat := 0x600
abbrev Cn.fabLinkAuthFail : Nat := 0x601
abbrev Cn.fabLaneMiswire : Nat := 0x602
abbrev Cn.fabCellsTx : Nat := 0x608
abbrev Cn.fabCellsRx : Nat := 0x609
abbrev Cn.fabRetx : Nat := 0x60A
abbrev Cn.fabPlaneSuspect : Nat := 0x60B
abbrev Cn.fabPcrcFail : Nat := 0x60C
abbrev Cn.fabPlaneShort : Nat := 0x60D
abbrev Cn.fabPlaneNoreach : Nat := 0x60E
abbrev Cn.fabPlaneFlap : Nat := 0x60F
abbrev Cn.fabCtUnderrun : Nat := 0x618
abbrev Cn.rackDup : Nat := 0x620
abbrev Cn.rackPairDup : Nat := 0x621
abbrev Cn.rackDiverge : Nat := 0x622
abbrev Cn.fabSunDown : Nat := 0x623
abbrev Cn.rackProvHeld : Nat := 0x628
abbrev Cn.rackVoid : Nat := 0x629
abbrev Cn.rackSkipAbsent : Nat := 0x62A
abbrev Cn.rackHoleTimeout : Nat := 0x62B
abbrev Cn.rackLate : Nat := 0x62C
abbrev Cn.rackWindow : Nat := 0x62D
abbrev Cn.rackStreamFull : Nat := 0x62E
abbrev Cn.holdFlushed : Nat := 0x700
abbrev Cn.pktFlushedCmd : Nat := 0x701
abbrev Cn.schRehomed : Nat := 0x702
abbrev Cn.schMisroute : Nat := 0x703
abbrev Cn.schGateLate : Nat := 0x708
abbrev Cn.polGreen : Nat := 0x710
abbrev Cn.polGreenBytes : Nat := 0x711
abbrev Cn.polYellow : Nat := 0x712
abbrev Cn.polYellowBytes : Nat := 0x713
abbrev Cn.polRed : Nat := 0x714
abbrev Cn.polRedBytes : Nat := 0x715
abbrev Cn.pairRxUnmatched : Nat := 0x780
abbrev Cn.pairRxUnsynced : Nat := 0x781
abbrev Cn.pairReconQuery : Nat := 0x782
abbrev Cn.pairReconVoid : Nat := 0x783
abbrev Cn.pairVoidSent : Nat := 0x784
abbrev Cn.pairDiverge : Nat := 0x785
abbrev Cn.pairPuntSuppressed : Nat := 0x786
abbrev Cn.pairReconOverflow : Nat := 0x787
abbrev Cn.pairInjectStandby : Nat := 0x788
abbrev Cn.pairFence : Nat := 0x790
abbrev Cn.pairTakeover : Nat := 0x791
abbrev Cn.pairRenewFabric : Nat := 0x792
abbrev Cn.pairUnpairedLost : Nat := 0x793
abbrev Cn.pairJournalBytes : Nat := 0x794
abbrev Cn.pairPartnerMismatch : Nat := 0x795
abbrev Cn.pairDraughtFail : Nat := 0x798
abbrev Cn.viPuntPkts : Nat := 0x800
abbrev Cn.viInjectPkts : Nat := 0x801
abbrev Cn.viPuntWait : Nat := 0x802
abbrev Cn.viPuntTrunc : Nat := 0x803
abbrev Cn.viInjectReject : Nat := 0x804
abbrev Cn.viDbIgnored : Nat := 0x805
abbrev Cn.viQueueFault : Nat := 0x806
abbrev Cn.secImportFail : Nat := 0x880
abbrev Cn.secSettingsBad : Nat := 0x881
abbrev Cn.secDebugAttempt : Nat := 0x882
abbrev Cn.secLinkAuthFail : Nat := 0x888
abbrev Cn.updChunkBad : Nat := 0x900
abbrev Cn.updSigFail : Nat := 0x901
abbrev Cn.updFlashErr : Nat := 0x902
abbrev Cn.updFallback : Nat := 0x903
abbrev Cn.fltPktDiscard : Nat := 0xA00
abbrev Cn.fltRecords : Nat := 0xA01
abbrev Cn.doubleFaultLoss : Nat := 0xA08
abbrev Cn.fltLogLost : Nat := 0xA09
abbrev Cn.fltWbReplay : Nat := 0xA10
abbrev Cn.fltWbLaneRepair : Nat := 0xA11
abbrev Cn.fltInjected : Nat := 0xA18
abbrev Cn.pwrRefLost : Nat := 0xB00
abbrev Cn.pwrThermWarn : Nat := 0xB01
abbrev Cn.pwrThermCrit : Nat := 0xB02
abbrev Cn.pwrDomainFault : Nat := 0xB03

/-- Table CT-2 as (base, how many numbers the row assigns, index kind of Table CT-1). -/
def counterRows : List (Nat × Nat × Nat) :=
  [(0x000, 8, 5),
   (0x010, 8, 0),
   (0x100, 19, 1),
   (0x140, 9, 1),
   (0x160, 6, 1),
   (0x200, 6, 0),
   (0x210, 3, 1),
   (0x300, 4, 1),
   (0x308, 1, 5),
   (0x310, 2, 2),
   (0x318, 3, 0),
   (0x340, 8, 1),
   (0x400, 2, 14),
   (0x408, 9, 0),
   (0x500, 3, 1),
   (0x508, 1, 2),
   (0x50C, 1, 4),
   (0x510, 3, 3),
   (0x518, 4, 0),
   (0x520, 5, 8),
   (0x600, 3, 6),
   (0x608, 8, 7),
   (0x618, 1, 1),
   (0x620, 4, 9),
   (0x628, 7, 0),
   (0x700, 4, 1),
   (0x708, 1, 3),
   (0x710, 6, 13),
   (0x780, 8, 1),
   (0x788, 1, 5),
   (0x790, 6, 0),
   (0x798, 1, 12),
   (0x800, 7, 5),
   (0x880, 3, 0),
   (0x888, 1, 7),
   (0x900, 4, 0),
   (0xA00, 2, 10),
   (0xA08, 2, 0),
   (0xA10, 2, 11),
   (0xA18, 1, 12),
   (0xB00, 4, 0)]

/-- Table CT-1: the size of the index range of each kind. -/
def kindSize : Nat → Nat
  | 0 => 1 | 1 => 192 | 2 => 49152 | 3 => 1536 | 4 => 8 | 5 => 64 | 6 => 160 | 7 => 17 | 8 => 6
  | 9 => 2048 | 10 => 19 | 11 => 16 | 12 => 16 | 13 => 1048576 | 14 => 2 | _ => 0

/-- The index kind of an assigned event number (R515); none for an unassigned one. -/
def counterKind (ev : Nat) : Option Nat :=
  (counterRows.find? (fun r => decide (r.1 ≤ ev ∧ ev < r.1 + r.2.1))).map (fun r => r.2.2)

end Sys2Proof.Machine
end

