-- ==== Sys2Proof/Config.lean ====
section
/-! DEFINITION. What one implementation, one device or one environment fixes and the manual does not give a value for: uninterpreted
constants (no body, so no proof can see a value), and the units of the model's clock.
The free values (assumption log entries 4 and 5) are these constants applied to the counter `State.draws`. -/
namespace Sys2Proof.Config

/-! ### The local monotonic counter (R156): the model counts it in tenths of a nanosecond. -/

/-- One 1.25 GHz tick: 0.8 ns. -/
abbrev tick : Nat := 8
abbrev ns (n : Nat) : Nat := n * 10
abbrev us (n : Nat) : Nat := n * 10000
abbrev ms (n : Nat) : Nat := n * 10000000
abbrev sec (n : Nat) : Nat := n * 10000000000

/-! ### Fuses and identity of one device (R5, Table HM-27). -/

/-- GRADE from fuses: false GT-2560-AC, true GT-2560-AE (Tables SC-1 and HM-12). -/
opaque gradeAE : Bool
/-- SERIAL, 16 bytes from fuses (Table HM-27). -/
opaque serial : List Byte
/-- FW_VERSION, SVN and the images of the factory kiln slot A (the manual gives no factory contents). -/
opaque factoryVersion : Nat
opaque factorySvn : Nat
opaque factoryDigest : List Byte
opaque factoryHead : List Byte

/-! ### Functions of standards the manual names and does not restate. -/

/-- The Journey CRC of a frame (R44): 32 bits; the manual gives no polynomial. -/
opaque jcrc : List Byte → Word
/-- The unique device secret in fuses (R445), and HMAC with SHA-384 (Table TK-1). -/
opaque uds : List Byte
opaque hmac : List Byte → List Byte → List Byte
/-- SHA-384 (FIPS 180-4). -/
opaque sha384 : List Byte → List Byte
/-- SHAKE256 to 1,024 words of 16 bits (FIPS 202; R452). -/
opaque shakeWords : List Byte → List Nat
/-- ECDSA P-384 by the Alias key derived from the CDI (Table TK-1), r ‖ s, 96 bytes (R453, R455): the CDI and the bytes signed. -/
opaque aliasSign : List Byte → List Byte → List Byte
/-- The import public key point, 97 bytes (R455), of the CDI. -/
opaque importPub : List Byte → List Byte
/-- The key that the steps of R455 unwrap from a 192-byte blob under the import key of the CDI; none if a step fails. -/
opaque unwrapKey : List Byte → List Byte → Option (List Byte)
/-- The identifier of the boot ROM (Table TK-2, measurement 1). -/
opaque romVersion : List Byte
/-- Both signatures of a bundle head verify (R475). -/
opaque bundleSigned : List Byte → Bool
/-- A debug or RMA unlock token verifies over the challenge and scope under the Yilesteo debug key or a DEBUG anchor (R467). -/
opaque tokenValid : List Byte → List Byte → Nat → List (List Byte) → Bool
/-- An owner chain ends in the DeviceID public key (R469). -/
opaque chainEndsInDeviceId : List Byte → Bool
/-- The PKCS #10 request for the DeviceID key (R449). -/
opaque deviceCsr : List Byte
/-- The certificates to DeviceID of slot 0, written at manufacturing test (R449); the Alias certificate of a CDI over what it carries; the
root certificate that a chain begins with. -/
opaque deviceChain : List Byte
opaque aliasCert : List Byte → List Byte → List Byte
opaque rootCert : List Byte → List Byte
/-- The Alias key's signature over an SPDM transcript (R450). -/
opaque spdmSign : List Byte → List Byte → List Byte
/-- The measurements that the TCB summary of a CHALLENGE covers (R450 does not list them). -/
opaque tcbMeasurement : Nat → Bool
/-- MACsec receive of IEEE 802.1AE (R142, R145): the confidentiality offset, the key, and the secured frame to the frame, if its ICV
verifies. -/
opaque macsecOpen : Nat → List Byte → List Byte → Option (List Byte)
/-- MACsec transmit (R142): key, packet number, SecTAG flags and frame to the secured frame. -/
opaque macsecSeal : List Byte → Nat → Nat → List Byte → List Byte
/-- AES-GCM of a link frame (R314): link and key generation, IV, header, cells; the encrypted cells and the TAG. -/
opaque linkSeal : Nat → Nat → List Byte → List Byte → List Byte → List Byte
/-- What a block holds after it has loaded a part: PART_TYPE and the part's bytes to the image whose CRC-32C is CHECK (Table UP-3, R483). -/
opaque partLoaded : Nat → List Byte → List Byte

/-- The smallest number of tributary slots whose capacity exceeds a client rate, by CLIENT_RATE code (R134); the manual gives no slot
capacity. Assumption log entry 27. -/
opaque clientSlots : Nat → Nat

/-- The SUNs that a reachability cell's payload lists (R110, R315): the manual gives the payload no layout. -/
opaque reachList : List Byte → List Nat

/-- The digest of a pair configuration that hellos carry (R113). -/
opaque pairDigest : List Nat → Nat

/-! ### Free values, each applied to `State.draws` (assumption log entry 4). -/

/-- A draw of a slice's 16-bit WRED generator (R281). -/
opaque wredDraw : Nat → BitVec 16
/-- A measured value that the manual leaves to the hardware (lane estimates, temperatures), by bank, channel and value number. -/
opaque measured : Nat → Nat → Nat → Nat → BitVec 64
/-- The draught checks of Table PR-3 that fail on a run: bit n is check n. -/
opaque draughtFails : Nat → BitVec 5
/-- A random challenge or key of the device's generator (R457, R467), 32 bytes. -/
opaque randomBytes : Nat → List Byte
/-- Whether a flash write reads back as written (R464, R480) and whether a fuse reads back burnt (R492). -/
opaque flashOk : Nat → Bool
opaque fuseOk : Nat → Bool
/-- What the side-band codes report at a read of buffer HBM (R300, R303): sectors corrected, sectors uncorrectable, and the
stripe and row they lie in. -/
opaque sectorErrors : Nat → Nat × Nat × Nat × Nat
/-- A value the manual states no number for. -/
opaque freeNat : Nat → Nat

/-! ### Implementation constants. -/

/-- Instruction codes of EXTEST, SAMPLE/PRELOAD, EXTEST_PULSE and EXTEST_TRAIN (0 to 3), and what Capture-IR loads (R546 gives no codes). -/
opaque tapCode : Nat → List Bool
opaque tapCapture : List Bool
/-- A port's fixed selection-to-pins latency in tenths of a nanosecond (R366: the device knows its own latency). -/
opaque selectionLatency : Nat
/-- Buffer cells of one HBM row (R303; the manual gives no row size). Assumption log entry 58. -/
opaque rowCells : Nat
/-- Rows of a buffer stack that JEDEC post-package repair can restore (R303). -/
opaque repairLimit : Nat

end Sys2Proof.Config
end

