-- ==== Sys2Proof/Machine/State.lean ====
section
/-! DEFINITION. The state of the GT-2560 as plain data, one structure per block, and the state right after reset.
A number the manual computes with is a `Nat` with the manual's width kept by the operation that writes it; a register that
software reads and writes whole is a bit vector. Sparse tables are lists of (key, value) in rising key order; what an unlisted key
holds is its reset value, said at the field. Times of the local monotonic counter are in tenths of a nanosecond. -/
namespace Sys2Proof.Machine

/-- Occurrences of the last second, and when an event that is raised at most once a second was last raised. Assumption log entry 148. -/
structure Rate where
  times : List Nat := []
  last : Option Nat := none
deriving DecidableEq, Repr

/-! ### Packets, results and cells in flight -/

/-- A frame inside the device with the identifiers of Table AR-4 that travel with it up to Mash. -/
structure Pkt where
  /-- The model's own name of the packet. -/
  id       : Nat := 0
  /-- 0–127 line port, 128–191 host port (Table PL-7 IN_PORT). -/
  inPort   : Nat := 0
  /-- The frame, its FCS included. -/
  bytes    : List Byte := []
  /-- Outcome of the FCS check (R27, R127). -/
  fcsOk    : Bool := true
  /-- Journey CRC computed before the FCS check (R44). -/
  jcrc     : Word := 0
  /-- 48-bit arrival number on a paired port (R384). -/
  arrival  : Option Nat := none
  /-- Receive timestamp: TIME, fraction, step epoch (R162). -/
  rxTs     : Option (Nat × Nat × Nat) := none
  /-- Instance epoch read at the inject fetch (R181). -/
  instEpoch : Option Nat := none
  /-- Inject MODE 1: DEST_SP, TC, handle, VERSION (R435). -/
  direct   : Option (Nat × Nat × Nat × Nat) := none
  /-- TS_REQUEST of the inject descriptor (R165). -/
  tsReq    : Bool := false
  /-- Monotonic count at its first bit (R188, R274). -/
  rxAt     : Nat := 0
deriving DecidableEq, Repr

/-- The forwarding result of Table PL-7. -/
structure Res where
  destSp   : Nat := 0
  tc       : Nat := 0
  colour   : Nat := 0
  tsReq    : Bool := false
  /-- 0 forward, 2 punt, 3 forward with punt copy. -/
  action   : Nat := 0
  handle   : Nat := 0
  version  : Nat := 0
  puntVi   : Nat := 0
  policer  : Nat := 0
  policed  : Bool := false
  epoch    : Nat := 0
  reason   : Nat := 0
  prov     : Bool := false
  paired   : Bool := false
  parseTrunc : Bool := false
  injected : Bool := false
  cellar   : Bool := false
  length   : Nat := 0
  program  : Nat := 0
deriving DecidableEq, Repr

/-- How a full lookup ends (R187, Table PL-8): a result, or a discard with its reason. -/
inductive Verdict where
  | result (r : Res)
  | discard (reason : Nat)
deriving DecidableEq, Repr

/-- What crosses the Wort Bridge from the F-die for one ingress port, in its port's order (R184, R225). -/
inductive BridgeItem where
  | result (p : Pkt) (r : Res)
  | prediction (p : Pkt) (r : Res) (trub : Nat)
  | none_ (arrival : Nat)
  | confirm (trub colour : Nat) (policed cascaded : Bool)
  | readmit (trub : Nat) (r : Res) (cascaded : Bool)
  | discard (trub reason : Nat) (cascaded : Bool)
deriving DecidableEq, Repr

/-- A packet in Mill or Mash. -/
structure MashPkt where
  pkt     : Pkt := {}
  /-- Mill's stamp: the table epoch, 0 in Cellar mode; none before Mill finishes (R180). -/
  stamp   : Option Nat := none
  stampAt : Nat := 0
  hash    : Word := 0
  pipe    : Nat := 0
  /-- Flow cache way it is tracked by (set × 8 + way), or the set whose UNTRACKED count it holds (R221). -/
  tracked : Option Nat := none
  untrackedSet : Option Nat := none
  /-- The Trub record of its prediction (R233). -/
  trub    : Option Nat := none
  /-- ASA profiles as they stood at its parse (R248): profile to (region, format). -/
  profiles : AMap (Nat × Nat) := []
  verdict : Option Verdict := none
  /-- Colour operations of a provisional packet's lookup, left for its confirmation point (R224): police a policer, or set a colour. -/
  polOps : List (Option Nat × Nat) := []
  /-- Its searches and its table reads that wait beyond their window: the order of the request, and the units or reads asked (R189, R266);
  a search of it waits for a bank (R259). -/
  asaAsk : Option (Nat × Nat) := none
  rdAsk : Option (Nat × Nat) := none
  bankWait : Bool := false
deriving DecidableEq, Repr

/-- Where a queued packet's bytes lie (R287–R291). -/
inductive Loc where
  | cask | hbm | prefetch
deriving DecidableEq, Repr

/-- Bytes of a packet in buffer HBM (R287): the stack, where its first stripe begins in the rotation over the stack's pseudo-channels, and
the pseudo-channels that had failed when they were written. -/
structure HbmPart where
  stack : Nat := 0
  bytes : Nat := 0
  rot   : Nat := 0
  avoid : List Nat := []
deriving DecidableEq, Repr

/-- A packet descriptor in a VOQ (or held outside one after a cascade). -/
structure VPkt where
  pkt        : Pkt := {}
  res        : Res := {}
  acceptedAt : Option Nat := none
  /-- Its last cell is written and its FCS passed (R38). -/
  ended      : Bool := false
  /-- LENGTH charged (R274). -/
  charge     : Nat := 0
  /-- The unresolved Trub record, none once confirmed (R29). -/
  trub       : Option Nat := none
  loc        : Loc := .cask
  /-- Its stripes while it lies in HBM. -/
  parts      : List HbmPart := []
  /-- When its stripes were written (R301). -/
  hbmAt      : Nat := 0
  ecnMark    : Bool := false
  /-- Bytes of its packet header and frame already granted (R325). -/
  sent       : Nat := 0
  /-- When its first cell was granted, which ends its sojourn (R283). -/
  grantedAt  : Option Nat := none
  /-- The XOFF assertion of its port and class whose headroom its bytes are charged to (R297). -/
  headNo     : Option Nat := none
  /-- The number it took at the pair numbering stage (R385). -/
  number     : Option Nat := none
  /-- WRED average and bytes recorded at a provisional admit (R277). -/
  seenBytes  : Nat := 0
  seenAvg    : Nat := 0
deriving DecidableEq, Repr

/-- A granted cell in the retention region until acknowledged (R325–R328); a reliable CTRL cell is kept the same way (R318). -/
structure RetCell where
  key      : Nat := 0
  cell     : Cell := ⟨.idle, false, false, false, false, false, false, 0, 0, 0, 0, 0, 0, 0, 0, []⟩
  /-- For each destination unit not yet acknowledging: (SUN, transmissions, planes used, last sent, due). -/
  copies   : List (Nat × Nat × List Nat × Nat × Bool) := []
  /-- Packets with bytes in the cell: name, and the handle and VERSION each counts (R204). -/
  pkts     : List (Nat × Nat × Nat) := []
  /-- Control entries of a CTRL cell. -/
  entries  : List (List Byte) := []
  /-- The packet withdrawn at a squash: on its DATA cells, and on the CTRL cells of its VOID token, whose acknowledgement frees them (R229). -/
  withdrawn : Option Nat := none
deriving DecidableEq, Repr

/-- A packet released by Racking, in an egress queue (Table FB-3). -/
structure EPkt where
  bytes    : List Byte := []
  length   : Nat := 0
  colour   : Nat := 0
  handle   : Nat := 0
  version  : Nat := 0
  jcrc     : Word := 0
  tsReq    : Bool := false
  ecnMark  : Bool := false
  ecnOff   : Nat := 0
  injected : Bool := false
  sp       : Nat := 0
  tc       : Nat := 0
  /-- Stream SUN and the number of its first cell. -/
  stream   : Nat := 0
  seq      : Nat := 0
  /-- All its cells are released (R338, R339), and it has been cut off once for want of a cell. -/
  whole    : Bool := true
  cut      : Bool := false
  /-- The port it was re-homed from (R368). -/
  rehomed  : Option Nat := none
  profiles : AMap (Nat × Nat) := []
  /-- Its egress search and its read of a record in table HBM that wait beyond their window: the order of the request, and what it asks
  (R189, R266). -/
  asaAsk : Option (Nat × Nat) := none
  rdAsk : Option (Nat × Nat) := none
deriving DecidableEq, Repr

/-- What an output slot of an OTN port carries once its connection entry is read through the protection selectors (R136, R138). -/
inductive TsiSource where
  | unequipped
  | client (port : Nat)
  | through (port slot : Nat)
deriving DecidableEq, Repr

/-! ### Outputs: what the block puts on its links and pins. The log `State.out` is the model's own field. -/

inductive Output where
  | msix (vi vec : Nat)
  | dataWrite (vi : Nat) (cmdId : Nat) (bytes : List Byte)
  | readAnswer (vi offset : Nat) (value : Word)
  | puntWrite (vi q : Nat) (frame entry : List Byte)
  | injectBack (vi q : Nat) (entry : List Byte)
  | appRequest (cage rate : Nat)
  | hello (lane : Nat) (h : Hello)
  | lineFrame (port : Nat) (bytes : List Byte)
  | brokenFrame (port : Nat)
  | pfc (port : Nat) (quanta : List (Option Nat))
  | cell (plane : Nat) (c : Cell)
  /-- A link frame that carries cells (Table FB-1). -/
  | linkFrame (lane : Nat) (bytes : List Byte)
  | reach (plane : Nat) (suns : List Nat)
  | peer (entry : List Byte)
  | journal (recs : List JournalRec)
  | arrivalPoint (port epoch arrival : Nat)
  | anchorRun (port first : Nat) (run : List (Word × Nat))
  | anchorAsk (port : Nat)
  | anchorCut (port cut : Nat) (nexts : List (Nat × Nat × Nat))
  | portExchange (port : Nat) (settings : Option (Nat × Nat))
  | probe (port seqId domain : Nat)
  | probeAnswer (port seqId : Nat) (t2 t3 : Nat)
  /-- An edge of a pulse pin and its instant on the monotonic counter, in tenths of a nanosecond (R172). -/
  | pulse (pin : Nat) (high : Bool) (at_ : Nat)
  | ohs (n : Nat) (bytes : List Byte)
  | ohsInsert (port : Nat) (bytes : List Byte)
  | mkpdu (port : Nat) (sak : Option Nat)
  | handshake (link : Nat)
  | flitAck (dir group seq : Nat)
  | flitReplay (dir group seq : Nat)
  | backward (port : Nat) (bit : Nat) (on : Bool)
  | odukAis (port : Nat) (on : Bool)
  | tsi (port : Nat) (sources : List TsiSource)
  | odukSlip (port trib : Nat) (deleted : Bool)
deriving DecidableEq, Repr

/-! ### Host interface (Host Interface, Mailboxes and the Unilmi Command Set) -/

/-- The nine ring configuration registers (Tables HM-16 to HM-18). Reset 0 (Table RF-6). -/
structure RingRegs where
  sqLo : Word := 0
  sqHi : Word := 0
  sqSize : Word := 0
  cqLo : Word := 0
  cqHi : Word := 0
  cqSize : Word := 0
  nqLo : Word := 0
  nqHi : Word := 0
  nqSize : Word := 0
deriving DecidableEq, Repr

inductive RingState where
  | idle | running | draining | halted
deriving DecidableEq, Repr

/-- A completion entry (Table HM-3). -/
structure Compl where
  cmdId : Nat := 0
  status : Nat := 0
  detail : Nat := 0
  sqHead : Nat := 0
  phase : Bool := false
  replayed : Bool := false
  dataWritten : Bool := false
  resultLen : Nat := 0
  result : List Byte := []
deriving DecidableEq, Repr

/-- A completion to be written, with the result data held with it (R61). -/
structure HeldCompl where
  compl : Compl := {}
  data : List Byte := []
deriving DecidableEq, Repr

/-- A notification entry (Table HM-4). -/
structure Notif where
  event : Nat := 0
  severity : Nat := 0
  seq : Nat := 0
  time : Nat := 0
  phase : Bool := false
  lostBefore : Bool := false
  payload : List Byte := []
deriving DecidableEq, Repr

/-- A journal entry (R71): the completion and the CRC-32C of the submission entry. -/
structure JEntry where
  compl : Compl := {}
  crc : Word := 0
deriving DecidableEq, Repr

/-- One function: its rings, journal and window registers. -/
structure Fn where
  shadow : RingRegs := {}
  active : RingRegs := {}
  ring : RingState := .idle
  /-- Entries the host wrote from the SQ head up to its tail (R57). -/
  sq : List Entry := []
  sqHead : Nat := 0
  sqTail : Nat := 0
  cqTail : Nat := 0
  cqPhase : Bool := true
  cqHead : Nat := 0
  /-- Completions written and not yet consumed by the host. -/
  cq : List Compl := []
  nqTail : Nat := 0
  nqPhase : Bool := true
  nqHead : Nat := 0
  nq : List Notif := []
  /-- Completions held while the PCIe link is down (R52). -/
  heldC : List HeldCompl := []
  /-- Notifications held while the NQ is full or the link down (R52, R63). -/
  heldN : List Notif := []
  fault : Word := 0
  winSel : Word := 0
  /-- High-word latch: the pair's value number and the high half (R518). -/
  latch : Option (Nat × Word) := none
  /-- HIF.NOTIFY_MASK; 0x0003_FFFE after cold reset (R88). -/
  mask : Word := 0x3FFFE
  cqCount : Nat := 1
  cqDelay : Nat := 0
  nqCount : Nat := 1
  nqDelay : Nat := 0
  /-- Per MSI-X vector: entries posted since the last signal and when the oldest was posted (R88). -/
  sig : AMap (Nat × Nat) := []
  /-- Completion journal, oldest first, at most 4,096 (R71). -/
  journal : List JEntry := []
  seq : Nat := 0
  lostBefore : Bool := false
  /-- The MSI-X table at 0x4000: four vectors of four words (message address low and high, message data, vector control), as PCIe defines;
  vector control [0] Mask resets to 1 (assumption log entry 123). -/
  msix : List Word := [0, 0, 0, 1, 0, 0, 0, 1, 0, 0, 0, 1, 0, 0, 0, 1]
  /-- The MSI-X PBA at 0x4800: bit v is set while vector v is pending and masked. -/
  pba : Word := 0
deriving DecidableEq, Repr

/-- What ends a parked command's wait, or an executing command's own delay (R67, R158, R136). -/
inductive Wait where
  | epochSlot (deadline : Nat)
  | mark (number : Nat)
  | drain (vi : Nat)
  | injectReads (vi q : Nat)
  | stackDrain (stack : Nat)
  | domainOn (pd : Nat)
  | stepTick
  | tsiSwap
  /-- COMMIT_WAIT has ended with four epochs live: E_EPOCH_FULL at the next command boundary (R198). -/
  | epochFull
  /-- A replicated command of a unit that lost the bung: it has had no effect once the bulk copy is applied (R79, R407). -/
  | bulkCopy
deriving DecidableEq, Repr

/-- A parked command, or one still executing until its instant (`blocks`). -/
structure Parked where
  vi : Nat := 0
  entry : Entry := ⟨[], []⟩
  writeOk : Bool := true
  status : Nat := 0
  detail : Nat := 0
  result : List Byte := []
  data : List Byte := []
  wait : Wait := .stepTick
  blocks : Bool := false
  ready : Bool := false
deriving DecidableEq, Repr

/-- A register write received before FW_READY, held in order (R92). -/
inductive HeldWrite where
  | commit (vi : Nat)
  | disable (vi : Nat)
  | sqTail (vi index : Nat) (slots : List Entry)
  | cqHead (vi index : Nat)
  | nqHead (vi index : Nat)
deriving DecidableEq, Repr

structure Hif where
  fns : AMap Fn := []
  linkUp : Bool := true
  linkDownAt : Nat := 0
  fwReady : Bool := false
  fwEpoch : Nat := 0
  recovery : Bool := false
  fwVersion : Nat := 0
  svn : Nat := 0
  /-- Cause of the running restart for EV.HIF.FW_RESTART (Table RF-4). -/
  restartCause : Nat := 4
  /-- A restart is under way: FW_READY posts EV.HIF.FW_RESTART and replays completions (R76, R77). -/
  restarting : Bool := false
  held : List HeldWrite := []
  parked : List Parked := []
  /-- The function served last in the round robin (R67); none at the start of a round. -/
  served : Option Nat := none
deriving DecidableEq, Repr

/-! ### Bring-up, reset, optics and board (Bring-up, Cellar Mode and Partner Discovery) -/

/-- Phases of Table BU-12 (0 ROM, 1 INIT, 2 BRIDGE, 3 CELLAR, 4 FULL, 0xFE FAIL). -/
inductive Phase where
  | rom | init | bridge | cellar | full | fail
deriving DecidableEq, Repr

inductive CageState where
  | empty | present | ready | fault | mismatch
deriving DecidableEq, Repr

structure Cage where
  st : CageState := .empty
  apps : List Nat := []
  since : Nat := 0
deriving DecidableEq, Repr

/-- A board descriptor cage entry (Table BU-15): first lane and lane count. -/
structure CageMap where
  firstLane : Nat := 0
  lanes : Nat := 1
deriving DecidableEq, Repr

/-- NEXT (Table PL-5) is kept as its 32-bit word. -/
abbrev Next := Word

/-- A staging record body (Table PL-11), set form. Keys are (VRF, length, address) and the like. -/
inductive TRec where
  | lpm (v6 : Bool) (vrf len addr : Nat) (next : Next)
  | exact (ktype : Nat) (key : List Byte) (next : Next) (setVrf action : Nat)
  | encap (handle version flags destSp : Nat) (record : List Byte)
  | group (g : Nat) (members : List Nat)
  | port (p program vrf classmap defTc puntVi : Nat)
  | program (n missAction flags : Nat) (steps : List (List Byte))
  | classmap (m : Nat) (dscp pcp exp : List Byte)
deriving DecidableEq, Repr

/-- One staged operation: set a record, or delete the object a record names. -/
structure TOp where
  del : Bool := false
  body : TRec := .group 0 []
deriving DecidableEq, Repr

/-- An ASA entry (Table AS-6) with its hit counter (R256). -/
structure AsaEntry where
  id : Nat := 0
  prio : Nat := 0
  action : BitVec 64 := 0
  key : List Byte := []
  mask : List Byte := []
  hits : Nat := 0
deriving DecidableEq, Repr

/-- The Cellar set (R102, R118). -/
structure CellarSet where
  missPunt : Bool := true
  defTc : Nat := 0
  lpm : List TRec := []
  exact : List TRec := []
  asa : List (Nat × AsaEntry) := []
  encaps : List TRec := []
deriving DecidableEq, Repr

/-- Board descriptor and Cellar set: the stored configuration of the DEV family (R102, R117). -/
structure DevCfg where
  /-- SUN; 0xFFFF unassigned (R94). -/
  sun : Nat := 0xFFFF
  cages : AMap CageMap := []
  cellar : CellarSet := {}
deriving DecidableEq, Repr

structure Dev where
  cfg : DevCfg := {}
  /-- PORESET_N asserted (R533). -/
  inReset : Bool := true
  /-- Held in cold reset until PORESET_N is cycled (R534, R538). -/
  locked : Bool := false
  /-- Step of Table BU-1 in progress (0 before the release of power-on reset). -/
  step : Nat := 0
  phase : Phase := .rom
  failCause : Nat := 0
  bridgeTries : Nat := 0
  bridgeUp : Bool := false
  /-- A firmware start in progress: 0 none, 1 ROM verifies a slot, 2 firmware runs and is not yet ready (R93, R448). -/
  boot : Nat := 0
  /-- Stacks trained (0–1 table, 2–5 buffer), and stacks that failed training. -/
  hbmUp : List Nat := []
  hbmFailed : List Nat := []
  /-- Mash pipes that take packets (Table BU-12). -/
  pipes : List Nat := []
  /-- Slots that failed ROM verification in this boot (R93). -/
  kilnFailed : List Nat := []
  cellarAt : Nat := 0
  fullAt : Nat := 0
  /-- Time of t2 of R106 while Cellar lookups may remain; bank 0 not yet cleared. -/
  bank0Wait : Bool := false
  /-- Ports still to retrain at full service (R106), and how many at once. -/
  retrain : List Nat := []
  retraining : List Nat := []
  retrainMax : Nat := 8
  retrained : Nat := 0
  /-- EV.DEV.LINE_FULL_RATE is still to be raised (R106). -/
  fullRateDue : Bool := false
  /-- Block resets in progress: (type, index). -/
  blockResets : List (Nat × Nat) := []
  cages : AMap Cage := []
  lastBeat : Nat := 0
  bcLost : Bool := false
  /-- Deadline of a pending cold reset after a command (R116). -/
  coldAt : Option Nat := none
deriving DecidableEq, Repr

/-! ### Line ports, framing and MACsec (Line Ports, PCS/FEC and OTN Framing) -/

/-- PORT.MACSEC_SECY (Table LN-10). -/
structure SecY where
  enable : Bool := false
  cipher : Nat := 2
  confOffset : Nat := 0
  validate : Nat := 0
  flags : Nat := 0
  txSci : Nat := 0
  replayWindow : Nat := 0
  pnThreshold : Nat := 0
deriving DecidableEq, Repr

/-- PORT.CONFIG (Table LN-9). Assumption log entry 31. -/
structure PortCfg where
  /-- 1 Ethernet, 2 OTN. -/
  type : Nat := 1
  lanes : Nat := 1
  cls : Nat := 1
  fec : Nat := 1
  otucN : Nat := 0
  maxFrame : Nat := 9216
  txInvert : Nat := 0
  rxInvert : Nat := 0
  downDebounce : Nat := 0
  upDebounce : Nat := 10
  sdExp : Nat := 4
  /-- The port's SecY and the SCIs of its receive SCs (R125, R142). -/
  secy : SecY := {}
  scis : List Nat := []
deriving DecidableEq, Repr

inductive PortState where
  | disabled | training | upWait | up | downWait | down
deriving DecidableEq, Repr

/-- A secure association (R143): key handle, next or lowest packet number, enabled, EV.PORT.MACSEC_PN raised. -/
structure Sa where
  key : Nat := 0
  pn : Nat := 1
  enabled : Bool := false
  pnEvent : Bool := false
deriving DecidableEq, Repr

structure Port where
  st : PortState := .disabled
  adminUp : Bool := true
  loopback : Nat := 0
  defects : Word := 0
  /-- Defects of the OTN tributary layer: tributaries with ODU AIS at the input. -/
  tribAis : List Nat := []
  timer : Option Nat := none
  /-- When OOF was last detected and when in-frame was last declared (LOF, Table LN-4). -/
  oofAt : Nat := 0
  inFrameAt : Nat := 0
  /-- Hunt ambiguity is reported in this LOF episode (R132). -/
  ambigSeen : Bool := false
  /-- The alignment hunt (R131): by candidate offset the FAS seen in a row and the last MFAS; offsets excluded for the next hunt cycle. -/
  hunt : AMap (Nat × Nat) := []
  huntOut : List Nat := []
  goodWindows : Nat := 0
  txSas : AMap Sa := []
  /-- Receive SCs: SCI to its four SAs by AN. -/
  rxScs : AMap (AMap Sa) := []
  /-- PFC pauses received: class to the monotonic end (R296). -/
  paused : AMap Nat := []
  /-- XOFF asserted by this device per class, with the time of the last frame (R293, R295), pool- or port-level. -/
  xoff : AMap Nat := []
  /-- Classes whose port-level condition of R295 stands. -/
  xoffPort : List Nat := []
  /-- Headroom charge per class since XOFF (R297). -/
  headroom : AMap Nat := []
  /-- HEADROOM refusals (Table AB-7). -/
  overruns : Rate := {}
  /-- XOFF assertions so far, per class (R297). -/
  xoffNo : AMap Nat := []
  /-- 48-bit arrival count of a paired port (R384). -/
  arrivals : Nat := 0
deriving DecidableEq, Repr

structure PortBlk where
  cfg : AMap PortCfg := []
  ports : AMap Port := []
deriving DecidableEq, Repr

/-- A tributary (Table LN-11): kind 1 client, 2 through. -/
structure Trib where
  kind : Nat := 1
  rate : Nat := 0
  slip : Bool := false
  slots : List Nat := []
deriving DecidableEq, Repr

/-- A protection group (R139). -/
structure ProtCfg where
  level : Nat := 1
  wPort : Nat := 0
  wTrib : Nat := 0
  pPort : Nat := 0
  pTrib : Nat := 0
  revertive : Bool := false
  sdTrigger : Bool := false
  holdoff : Nat := 0
  wtr : Nat := 1
deriving DecidableEq, Repr

structure Prot where
  opCmd : Nat := 0
  /-- false working, true protection. -/
  selected : Bool := false
  holdoffAt : Option Nat := none
  wtrAt : Option Nat := none
deriving DecidableEq, Repr

structure OhsCfg where
  port : Nat := 0
  channel : Nat := 1
  drop : Bool := false
  insert : Bool := false
deriving DecidableEq, Repr

/-- Stored FRM configuration (R125): tributaries by port × 128 + TRIB, protection groups, overhead channels, active and standby TSI pages. -/
structure FrmCfg where
  tribs : AMap Trib := []
  prots : AMap ProtCfg := []
  ohs : AMap OhsCfg := []
  /-- Active connection-memory page of each output port, one word per slot (R136). -/
  pages : AMap (List Word) := []
  standby : AMap (List Word) := []
deriving DecidableEq, Repr

structure Frm where
  cfg : FrmCfg := {}
  /-- Ports of the pending TSI swap not yet swapped, all ports of the set, and the instant T (R136). -/
  swapLeft : List Nat := []
  swapAll : List Nat := []
  swapT : Nat := 0
  prots : AMap Prot := []
  /-- Slips of a tributary (R135). -/
  slips : AMap Rate := []
  ohsSeq : AMap Nat := []
deriving DecidableEq, Repr

/-! ### Time engine (Time Engine, Timestamps and Pulses) -/

/-- TIME.PORT settings (Table TI-7). -/
structure TPortCfg where
  tsEnable : Bool := false
  probeEnable : Bool := false
  oneStep : Bool := false
  interval : Nat := 125
  asym : Int := 0
  threshold : Nat := 100
  domain : Nat := 0
deriving DecidableEq, Repr

/-- A pulse output's settings (Table TI-7): mode 0 off, 1 one-shot, 2 periodic, 3 recovered clock. -/
structure PulseCfg where
  mode : Nat := 0
  lane : Nat := 0
  freq : Nat := 0
  width : Nat := 0
  target : Nat := 0
  period : Nat := 0
  comp : Int := 0
deriving DecidableEq, Repr

structure PulseInCfg where
  edge : Nat := 0
  comp : Int := 0
deriving DecidableEq, Repr

structure TimeCfg where
  ports : AMap TPortCfg := []
  pulses : AMap PulseCfg := []
  pulseIns : AMap PulseInCfg := []
deriving DecidableEq, Repr

/-- A timestamp entry (Table TI-4). -/
structure TsEntry where
  time : Nat := 0
  frac : Nat := 0
  id : Nat := 0
  epoch : Nat := 0
  assigned : Bool := false
  oneStep : Bool := false
deriving DecidableEq, Repr

/-- A transmit timestamp or capture queue (R167, R173). -/
structure TsQueue where
  q : List TsEntry := []
  overflow : Bool := false
  lost : Nat := 0
  /-- The next assigned ID, or the capture number. -/
  nextId : Nat := 0
deriving DecidableEq, Repr

inductive ProbeState where
  | off | measuring | valid
deriving DecidableEq, Repr

structure Probe where
  st : ProbeState := .off
  /-- Samples since entering MEASURING, in 2^-16 ns. -/
  samples : List Int := []
  baseline : Int := 0
  /-- Consecutive deviating samples of one sign with the TIME of each. -/
  deviating : List (Int × Nat) := []
  seqId : Nat := 0
  /-- The outstanding probe: sequenceId and compensated t1 in 2^-16 ns. -/
  waiting : Option (Nat × Nat) := none
  unanswered : Nat := 0
  nextAt : Nat := 0
deriving DecidableEq, Repr

structure Pulse where
  /-- One-shot: fired or cancelled. -/
  spent : Bool := false
  /-- One-shot: its target was already due at its check or at a step, so that it fires at the next tick (Table TI-1). -/
  late : Bool := false
  /-- End of the pulse in progress on the monotonic counter. -/
  highUntil : Option Nat := none
  /-- TIME of the next edge of a periodic train. -/
  nextEdge : Nat := 0
  squelched : Bool := false
deriving DecidableEq, Repr

/-- A step waiting for its tick (R158). Assumption log entry 21. -/
structure PendingStep where
  relative : Bool := true
  value : Int := 0
  frac : Nat := 0
  force : Bool := false
  at_ : Nat := 0
deriving DecidableEq, Repr

structure Tim where
  cfg : TimeCfg := {}
  time : Time := 0
  increment : BitVec 64 := 0x0000CCCCCCCCCCCD
  epoch : Nat := 0
  valid : Bool := false
  stepLimit : Nat := 1000000
  step : Option PendingStep := none
  txq : AMap TsQueue := []
  capq : AMap TsQueue := []
  probes : AMap Probe := []
  pulses : AMap Pulse := []
deriving DecidableEq, Repr

/-! ### Tables and epochs (Mill, Mash Pipelines and Versioned Tables) -/

/-- The tables of one epoch (Table PL-3). Encapsulation versions are device-wide; an epoch holds which is current. -/
structure Tables where
  lpm : List TRec := []
  exact : List TRec := []
  /-- Encapsulation versions present (handle × 2^16 + VERSION), and each handle's current version (R202, R203). -/
  present : List Nat := []
  current : AMap Nat := []
  groups : AMap (List Nat) := []
  ports : AMap TRec := []
  programs : AMap TRec := []
  classmaps : AMap TRec := []
deriving DecidableEq, Repr

inductive EpochState where
  | current | draining | pinned
deriving DecidableEq, Repr

structure Epoch where
  num : Nat := 0
  st : EpochState := .current
  pin : Bool := false
  tables : Tables := {}
deriving DecidableEq, Repr

/-- An encapsulation version (R202) with its reference count and hold (R204, R205). -/
structure EncVer where
  flags : Nat := 0
  destSp : Nat := 0
  record : List Byte := []
  refs : Nat := 0
  /-- When it was last current in the newest committed epoch; none if never. -/
  lastCurrent : Option Nat := none
  deletedAt : Option Nat := none
deriving DecidableEq, Repr

/-- TBL.CONFIG and TBL.RA_CONFIG (stored). -/
structure TblCfg where
  commitWait : Nat := 1
  encapHold : Nat := 100
  warn : Nat := 90
  hashSeed : Word := 0
  /-- Run-ahead per line port: enable, strict, class mask, MIN_CONF (R241). -/
  ra : AMap (Bool × Bool × Nat × Nat) := []
deriving DecidableEq, Repr

structure Tbl where
  cfg : TblCfg := {}
  /-- Live epochs, oldest first (R196). -/
  epochs : List Epoch := []
  staging : AMap (List TOp) := []
  encaps : AMap EncVer := []
  /-- Table stacks that hold a copy of the tables (R190). -/
  copies : List Nat := []
  /-- USAGE pairs for which EV.TBL.CAPACITY stands raised. -/
  warned : List Nat := []
  /-- Lookups of a port that timed out (EV.TBL.LOOKUP_TIMEOUT). -/
  timeouts : AMap Rate := []
deriving DecidableEq, Repr

/-! ### Mill, Mash, Firstwort and Trub -/

/-- Flow-result cache entry (Table RA-1). -/
structure CEntry where
  valid : Bool := false
  flushed : Bool := false
  inPort : Nat := 0
  tag : Nat := 0
  check : Word := 0
  destSp : Nat := 0
  tc : Nat := 0
  tsReq : Bool := false
  handle : Nat := 0
  version : Nat := 0
  fillEpoch : Nat := 0
  conf : Nat := 0
  age : Nat := 0
  npOut : Nat := 0
  pvOut : Nat := 0
  /-- Newly allocated by R221 and not yet written by a forward result (R222). -/
  fresh : Bool := false
deriving DecidableEq, Repr

inductive TrubState where
  | open_ | granted | cascaded | nocopy
deriving DecidableEq, Repr

/-- A Trub record and its Q-die entry (R233). -/
structure Trub where
  port : Nat := 0
  way : Nat := 0
  pkt : Nat := 0
  pred : Res := {}
  /-- The entry's FILL_EPOCH at the prediction (R219). -/
  fill : Nat := 0
  /-- The next younger record of the same entry (R233). -/
  next : Option Nat := none
  st : TrubState := .open_
  cascaded : Bool := false
  /-- Mash has issued its resolution (R224); the record closes when the Q-die applies it. -/
  issued : Bool := false
  /-- Packet withdrawn from its VOQ and held in Cask after a cascade. -/
  held : Option VPkt := none
  /-- Numbers its cells took provisionally (FIRST_SEQ, COUNT) in the predicted stream. -/
  first : Nat := 0
  count : Nat := 0
deriving DecidableEq, Repr

/-- A budget renewed every 40 ns (R189, R264): its window, what ingress and egress have taken of it, and its capacity. -/
structure Budget where
  at_ : Nat := 0
  ing : Nat := 0
  egr : Nat := 0
  cap : Nat := 960
deriving DecidableEq, Repr

/-- What Mill has issued in the window in progress (R183): packets by ingress port in it and in the window before, and those beyond the
guaranteed shares. -/
structure MillWin where
  at_ : Nat := 0
  used : AMap Nat := []
  prev : AMap Nat := []
  extra : Nat := 0
  /-- Bytes of each slice's ports in this window and in the one before (R502). -/
  bytes : AMap Nat := []
  prevBytes : AMap Nat := []
deriving DecidableEq, Repr

structure Mash where
  nextId : Nat := 1
  /-- Round-robin pipe (R183). -/
  nextPipe : Nat := 0
  mill : MillWin := {}
  /-- Table HBM reads (R189): 1,280 in 40 ns. -/
  reads : Budget := { cap := 1280 }
  /-- Requests that have waited so far, which gives each its order (R264). -/
  asks : Nat := 0
  /-- Packets in Mill and Mash, in arrival order. -/
  pkts : List MashPkt := []
  cache : AMap CEntry := []
  untracked : AMap Nat := []
  /-- Sets whose UNTRACKED count is held after a parity failure, with the end (R240). -/
  parity : AMap Nat := []
  /-- Ways whose entry failed its parity check, until their set is cleared (R240). -/
  badWays : List Nat := []
  trub : AMap Trub := []
  /-- Packets of a port not predicted for want of a record (EV.TBL.RA_PRESSURE). -/
  pressure : AMap Rate := []
  /-- The Wort Bridge toward the Q-die, per ingress port, in order. -/
  bridge : AMap (List BridgeItem) := []
deriving DecidableEq, Repr

/-! ### ASA -/

inductive BankState where
  | off | on | reloading | failed | cellar
deriving DecidableEq, Repr

structure Bank where
  st : BankState := .off
  cause : Nat := 0
  lastReload : Option Nat := none
deriving DecidableEq, Repr

structure Region where
  width : Nat := 1
  egress : Bool := false
  prio : Bool := false
  hole : Nat := 16
  blocks : List (Nat × Nat) := []
  entries : AMap AsaEntry := []
deriving DecidableEq, Repr

structure Asa where
  regions : AMap Region := []
  profiles : AMap (Nat × Nat) := []
  banks : AMap Bank := []
  level : Nat := 0
  /-- When the level last rose (R265). -/
  levelAt : Nat := 0
  /-- Search units (R264); the capacity is the level's at the start of the window. -/
  win : Budget := {}
  /-- Blocks that relocations have taken from the reserve and the host has not freed since (R259). -/
  short : Nat := 0
  /-- Hit counters of the Cellar set's entries by ENTRY_ID (R256). -/
  cellarHits : AMap Nat := []
  offset : Nat := 0
  ingressMin : Nat := 25
  scrubPeriod : Nat := 100
  scrubAt : Nat := 0
deriving DecidableEq, Repr

/-! ### Admission, Cask and buffer HBM -/

/-- A queue profile object (Table AB-5), thresholds in units of 4 KiB; the defaults are profile 0's. -/
structure Profile where
  flags : Nat := 4
  weight : Nat := 9
  alpha : Int := 0
  maxG : Nat := 262144
  maxY : Nat := 196608
  maxR : Nat := 131072
  minWG : Nat := 0
  maxWG : Nat := 0
  minWY : Nat := 0
  maxWY : Nat := 0
  minWR : Nat := 0
  maxWR : Nat := 0
  pG : Nat := 0
  pY : Nat := 0
  pR : Nat := 0
  hbmEnter : Nat := 32
  hbmExit : Nat := 8
deriving DecidableEq, Repr

/-- ADM.PFC (Table AB-4) of a port. -/
structure PfcCfg where
  enable : Nat := 0
  cable : Nat := 100
  response : Nat := 1000
  quanta : Nat := 65535
  xoff : Nat := 0
  hyst : Nat := 0
deriving DecidableEq, Repr

structure AdmCfg where
  profiles : AMap Profile := [(0, {})]
  /-- VOQ bindings that differ from profile 0. -/
  binds : AMap Nat := []
  /-- Per class MAX_SOJOURN and AGE_REFUSE in µs; an unlisted class holds 50,000 and 25,000. -/
  classes : AMap (Nat × Nat) := []
  retention : Nat := 20
  egress : Nat := 32
  punt : Nat := 4
  xoffMargin : Nat := 4
  xonHyst : Nat := 4
  pfc : AMap PfcCfg := []
deriving DecidableEq, Repr

/-- A VOQ, its stream and its credit (R280, R281, R320). -/
structure Voq where
  q : List VPkt := []
  /-- WRED average in 2^-16 byte (R281). -/
  avg : Nat := 0
  hbmMode : Bool := false
  refused : Nat := 0
  /-- Credit held, by granting unit: one SUN, or each member of a pair SUN (R388). -/
  credit : AMap Nat := []
  /-- When a REQUEST was last sent, and whether its last one carried a BACKLOG. -/
  lastReq : Option Nat := none
  requesting : Bool := false
deriving DecidableEq, Repr

structure Adm where
  cfg : AdmCfg := {}
  /-- Region sizes in force, in MiB: they take the stored layout at cold start (R284). -/
  retention : Nat := 20
  egress : Nat := 32
  punt : Nat := 4
  voqs : AMap Voq := []
  /-- Cellar mode's punt path (R103): what its capacity has not yet served, in fifths of a byte and in five-thousandths of a frame, so that each
  falls by one in a tenth of a nanosecond (16 Gb/s, 2 Mpps), and when both were last brought up to date. -/
  cellarPunt : Nat × Nat × Nat := (0, 0, 0)
  /-- The pool is below its floor and not yet back at floor plus XON_HYSTERESIS (R278, R295). -/
  poolXoff : Bool := false
  lastPoolRefusal : Option Nat := none
  /-- Token buckets of R288, in bytes. -/
  writeTokens : Nat := 262144
  readTokens : Nat := 262144
  tokensAt : Nat := 0
  hbmFullSeen : Bool := false
  /-- Failed pseudo-channels: stack × 32 + pc, and those not yet clear of stripes with the time of their failure. -/
  pcFailed : List Nat := []
  pcOpen : AMap Nat := []
  stacksFailed : List Nat := []
  /-- Stacks being powered off by PWR.DOMAIN: no new stripes. -/
  stacksClosing : List Nat := []
  /-- Retired rows, as (stack × 32 + pc) × 2^32 + row, and when a row last needed correction, by the same key (R303). -/
  rowsRetired : List Nat := []
  rowSeen : AMap Nat := []
  /-- Uncorrectable sectors of a pseudo-channel within the last millisecond (R301). -/
  ueTimes : AMap (List Nat) := []
  /-- The clock of the last decisions, and the slice that last decided for each VOQ in it (R276). -/
  clock : Nat × AMap Nat := (0, [])
deriving DecidableEq, Repr

/-! ### Fabric, matcher, racking -/

inductive PlaneState where
  | absent | forming | identified | up | holdoff
deriving DecidableEq, Repr

structure PlaneCfg where
  enabled : Bool := false
  minLanes : Nat := 8
  encrypt : Bool := false
  backToBack : Bool := false
  lanes : List Nat := []
deriving DecidableEq, Repr

structure Plane where
  st : PlaneState := .absent
  timer : Option Nat := none
  /-- Entries into HOLDOFF counted toward FAB_PLANE_FLAP, within 10 s. -/
  holdoffs : List Nat := []
  missed : Nat := 0
  listed : Nat := 0
  /-- When its latest reachability cell came. -/
  reachAt : Nat := 0
  timeouts : Nat := 0
  /-- Its retransmission queue: kept cells and the units their copies go to (R327). -/
  retx : List (Nat × Nat) := []
deriving DecidableEq, Repr

structure Lane where
  trained : Bool := false
  /-- The far end by the training exchange (R310): a GT-2560 rather than a fabric element, and its serial number. -/
  farUnit : Bool := false
  farSerial : Nat := 0
  /-- When the lane trained, which begins its frame 0, and the cells that wait for a frame (R312). -/
  trainedAt : Nat := 0
  txCells : List Cell := []
  excluded : Bool := false
  /-- Declared down and retraining (R313). -/
  down : Bool := false
  announced : Nat := 0
  encrypts : Bool := false
  badTags : Nat := 0
  /-- Frames whose TAG failed (R314). -/
  auth : Rate := {}
  framesRx : Nat := 0
deriving DecidableEq, Repr

/-- A system port map entry (R319). -/
structure SpEntry where
  sun : Nat := 0
  localPort : Nat := 0
deriving DecidableEq, Repr

structure FabCfg where
  planes : AMap PlaneCfg := []
  spmap : AMap SpEntry := []
  ackTimeout : Nat := 8
  retxMax : Nat := 4
  dupWait : Nat := 4
  holeTimeout : Nat := 200
  creditRtt : Nat := 3000
  requestPeriod : Nat := 2000
  /-- Cut-through class mask per line port (FAB.CT). -/
  ct : AMap Nat := []
deriving DecidableEq, Repr

/-- The internal matcher (R324): the clock of the matching in force and its pairs (VOQ, plane) that have no grant yet; the planes that took a
cell in a clock; and the round-robin pointers of request ports over VOQs, of planes over request ports and of request ports over planes. -/
structure Matcher where
  at_ : Option Nat := none
  pairs : List (Nat × Nat) := []
  busyAt : Nat := 0
  busy : List Nat := []
  voqPtr : AMap Nat := []
  portPtr : AMap Nat := []
  planePtr : AMap Nat := []
deriving DecidableEq, Repr

structure Fab where
  cfg : FabCfg := {}
  planes : AMap Plane := []
  lanes : AMap Lane := []
  /-- Last listing of (plane, SUN): key plane × 2048 + SUN; listed while present (R110). -/
  listings : AMap Nat := []
  /-- Planes suspect for a SUN: key plane × 2048 + SUN to the end of the suspicion (R329). -/
  suspect : AMap Nat := []
  /-- Recent time-outs per (plane, SUN). -/
  recentTo : AMap (List Nat) := []
  nextKey : Nat := 0
  /-- Cells on the planes' loop paths: when each reaches Racking, and its plane (R343). -/
  loop : List (Nat × Nat × Cell) := []
  /-- Streams this unit sends: key stream SUN × 2^18 + SP × 8 + TC to (next number, idle since: its next cell carries START) (R325, R331). -/
  txs : AMap (Nat × Bool) := []
  retention : List RetCell := []
  /-- Next control sequence number toward each SUN, and from each SUN what was received. -/
  ctlNext : AMap Nat := []
  /-- Credit scheduler: requesting sources of (SP, TC): key (sp × 8 + tc) × 2048 + SUN to (BACKLOG, deficit). -/
  requests : AMap (Nat × Nat) := []
  /-- Outstanding credit by the same key. -/
  creditOut : AMap Nat := []
  /-- Round-robin class of a port and last served source. -/
  rrClass : AMap Nat := []
  /-- Credit deferred for want of a stream entry (R330). -/
  deferrals : Rate := {}
  matcher : Matcher := {}
  reachAt : Nat := 0
deriving DecidableEq, Repr

inductive NumState where
  | open_ | confirmed | held | ready | void_ | released
deriving DecidableEq, Repr

/-- One sequence number at Racking (Tables FB-5 and FB-6). -/
structure Num where
  st : NumState := .open_
  cell : Option Cell := none
  /-- Member whose copy is stored, when it arrived, and members that voided the number. -/
  by_ : Nat := 0
  at_ : Nat := 0
  voids : List Nat := []
  /-- Members whose copy was seen. -/
  seen : List Nat := []
  /-- The cell begins a packet, known from its release on. -/
  first : Bool := false
deriving DecidableEq, Repr

/-- A stream entry (R330). Key stream SUN × 2^18 + SP × 8 + TC. -/
structure Stream where
  paired : Bool := false
  expected : Option Nat := none
  nums : AMap Num := []
  lastCell : Nat := 0
  expectedSince : Nat := 0
  /-- Numbers skipped by a hole time-out (RACK_LATE applies). -/
  skipped : List Nat := []
  /-- Units that sent cells of the stream. -/
  srcs : List Nat := []
  /-- Released payload bytes of a packet still incomplete, and its first number; its header is among them and its version counted;
  it is already released for cut-through. -/
  partial_ : List Byte := []
  partialSeq : Nat := 0
  headed : Bool := false
  ctOut : Bool := false
  /-- Bytes at the front of the next cells that belong to a packet lost with an earlier number. -/
  skip_ : Nat := 0
deriving DecidableEq, Repr

/-- Reliable control stream from a unit: next expected number and the numbers received of late (R318). -/
structure CtlStream where
  expected : Nat := 0
  got : List Nat := []
deriving DecidableEq, Repr

structure Rack where
  streams : AMap Stream := []
  ctl : AMap CtlStream := []
  /-- Last cell or entry from a unit, and the member whose latest cell carried ACTIVE, per shared SUN (R335, R336). -/
  lastFrom : AMap Nat := []
  activeOf : AMap Nat := []
deriving DecidableEq, Repr

/-! ### Egress scheduling -/

/-- A scheduling node or queue (Table ES-6 SCH.NODE). -/
structure Node where
  parent : Nat := 0
  prio : Nat := 8
  tc : Nat := 0
  weight : Nat := 1
  quantum : Nat := 2048
  shaper : Option Nat := none
deriving DecidableEq, Repr

structure ShaperCfg where
  rate : Nat := 64
  burst : Nat := 64
  overhead : Int := 0
deriving DecidableEq, Repr

structure PolicerCfg where
  mode : Nat := 1
  flags : Nat := 0
  overhead : Int := 0
  cir : Nat := 0
  cbs : Nat := 0
  eir : Nat := 0
  ebs : Nat := 0
deriving DecidableEq, Repr

/-- A gate control list (R362): entries (gate states, interval in ns). -/
structure GateList where
  entries : List (Nat × Nat) := []
  cycle : Nat := 0
  base : Nat := 0
deriving DecidableEq, Repr

/-- SCH.PORT (Table ES-6). `rehome` none is the default block p (R375). -/
structure SchPortCfg where
  drrTest : Bool := false
  holdDown : Nat := 50
  backup : Option Nat := none
  gateOverhead : Nat := 0
  rehome : Option Nat := none
  egPolicer : Option Nat := none
  egProfile : Option Nat := none
  remark : Option Nat := none
deriving DecidableEq, Repr

structure SchCfg where
  /-- Nodes that differ from the default tree of R375, by level × 2^20 + index; `none` is deleted. -/
  nodes : AMap (Option Node) := []
  /-- QMAP entries without DEFAULT: SP to QBLOCK. -/
  qmap : AMap Nat := []
  shapers : AMap ShaperCfg := []
  policers : AMap PolicerCfg := []
  gates : AMap GateList := []
  ports : AMap SchPortCfg := []
  /-- Remark table: FIELDS, DSCP, PCP and EXP for green, yellow, red. -/
  remarks : AMap (Nat × List Nat) := []
deriving DecidableEq, Repr

inductive HoldState where
  | run | hold | rehomed | returning | flushed
deriving DecidableEq, Repr

/-- Per-port egress state (Table ES-2, R357, R362). -/
structure EPort where
  hold : HoldState := .run
  deadline : Nat := 0
  deadlineSet : Option Nat := none
  /-- The hold of a port that retrains at full service lasts at least until then (R107). -/
  holdFloor : Nat := 0
  /-- The list that runs, its entry, the TIME (ns) at which the entry ends and the TIME at which its cycle began (R362); `gapped`
  while the last entry's states hold until the next cycle boundary after a step (Table TI-2). -/
  list : Option GateList := none
  gateIdx : Nat := 0
  gateEnd : Nat := 0
  cycleStart : Nat := 0
  gapped : Bool := false
  /-- A list, or a removal (false) with its BASE and CYCLE, waiting for its start S (R363). -/
  pendingList : Option (Nat × Bool × GateList) := none
  drr : Bool := false
  drrCause : Nat := 0
  /-- DRR nodes that have not yet ended their round after DRR mode (R357). -/
  drrLeft : List Nat := []
  /-- Packet selected and in egress processing, with the queue it came from. -/
  tx : List (Nat × EPkt) := []
  /-- Per-class transmit slots of frames that would overrun their gate (R366), with the queue each came from. -/
  lateSlot : AMap (Nat × EPkt) := []
  /-- Holding list of R352. -/
  limbo : List EPkt := []
  /-- The time up to which the packets selected so far take the port's rate (R353). -/
  paceAt : Nat := 0
  /-- Cut-through underruns (R339). -/
  underruns : Rate := {}
deriving DecidableEq, Repr

/-- A shaper's credit in 2^-16 byte, the node it serves, a pending change (R359). -/
structure ShaperSt where
  credit : Int := 0
  refillAt : Nat := 0
  next : Option (ShaperCfg × Bool) := none
deriving DecidableEq, Repr

structure PolicerSt where
  c : Nat := 0
  e : Nat := 0
  at_ : Nat := 0
deriving DecidableEq, Repr

structure Sch where
  cfg : SchCfg := {}
  queues : AMap (List EPkt) := []
  deficits : AMap Int := []
  /-- Round-robin position of a node: last child served. -/
  rr : AMap Nat := []
  eports : AMap EPort := []
  shapers : AMap ShaperSt := []
  policers : AMap PolicerSt := []
deriving DecidableEq, Repr

/-! ### Redundant pairs -/

structure PairCfg where
  partner : Nat := 0
  pairSun : Nat := 0
  priority : Nat := 0
  wait : Nat := 2000
  draught : Nat := 60
  staleLag : Nat := 2
deriving DecidableEq, Repr

/-- PAIR.PORT of a line port: TX_MODE (1 BRIDGED, 2 SHARED) and STREAM_SUN. -/
structure PairPortCfg where
  txMode : Nat := 1
  stream : Nat := 0
deriving DecidableEq, Repr

structure PairStored where
  pair : Option PairCfg := none
  ports : AMap PairPortCfg := []
deriving DecidableEq, Repr

inductive PairState where
  | none_ | seeking | solo | active | fenced | syncing | standby | stale | taking
deriving DecidableEq, Repr

/-- Partner discovery (Table BU-8). -/
inductive Disc where
  | none_ | seeking | seen | mismatch | matched
deriving DecidableEq, Repr

/-- What the numbering stage logged for an arrival number (R386). -/
inductive ReconLog where
  | forward (sp tc seq : Nat)
  | nothing
deriving DecidableEq, Repr

structure PairPort where
  /-- Partner settings last received, and whether they equal this member's (R382). -/
  partner : Option (Nat × Nat) := none
  matched : Bool := false
  sync : Bool := false
  /-- Next arrival number the numbering stage takes. -/
  nextArrival : Nat := 0
  /-- Outstanding query: arrival and when it was sent (R386). -/
  query : Option (Nat × Nat) := none
  /-- Numbers the partner has asked for that the stage has not yet reached. -/
  asked : List Nat := []
  /-- Results held behind the query. -/
  held : List BridgeItem := []
  /-- Held packets whose last cell is already written. -/
  written : List Nat := []
  log : AMap ReconLog := []
  /-- Receive log of JCRC and length (R408), by arrival count. -/
  rxLog : List (Nat × Word × Nat) := []
  /-- Commit switch points: (arrival, epoch) not yet passed (R387). -/
  switches : List (Nat × Nat) := []
  /-- ASA changes not yet reached by the port's arrivals: (arrival, regions before the change) (R387). -/
  asaHeld : List (Nat × AMap Region) := []
  cut : Option Nat := none
  /-- On the standby, a run has set the count; on the active, the first arrival of the run that the standby found (R408). -/
  anchored : Bool := false
  runFrom : Option Nat := none
  /-- After takeover out of SYNC: results discarded until this time (R409). -/
  freshAt : Option Nat := none
deriving DecidableEq, Repr

/-- The latest ANNOUNCE of a unit (R388, R397). -/
structure Heard where
  pairSun : Nat := 0
  gen : Nat := 0
  bung : Bool := false
  fenced : Bool := false
  synced : Bool := false
  at_ : Nat := 0
deriving DecidableEq, Repr

structure Pair where
  cfg : PairStored := {}
  st : PairState := .none_
  disc : Disc := .none_
  helloMatches : Nat := 0
  lastHello : Nat := 0
  partnerFw : Nat := 0
  partnerSun : Nat := 0
  helloAt : Nat := 0
  seekSince : Nat := 0
  gen : Nat := 0
  highGen : Nat := 0
  renewNo : Nat := 0
  renewAt : Nat := 0
  /-- RENEWs sent and not acknowledged: number to send time; the send time of the last acknowledged RENEW (R395). -/
  sentRenews : AMap Nat := []
  lastAcked : Option Nat := none
  /-- tA: when the standby last sent an ACK (R395). -/
  tA : Option Nat := none
  takeCause : Nat := 1
  /-- PAIR_UNPAIRED_LOST added since the bung was last taken (Table PR-8). -/
  lost : Nat := 0
  /-- HANDOVER sent with this GEN and not answered (R400). -/
  handing : Option Nat := none
  heard : AMap Heard := []
  announceAt : Nat := 0
  ports : AMap PairPort := []
  peerLanes : List Nat := []
  /-- Journal: next mark, marks sent and not acknowledged (number, bytes, sent at, and the epoch a commit made, 2^16 for ASA.WRITE, else
  0), and on the standby the records since the last mark (R402). -/
  nextMark : Nat := 1
  unacked : List (Nat × Nat × Nat × Nat) := []
  tail : List JournalRec := []
  tailSince : Option Nat := none
  /-- Bytes received with the records that the tail still holds. -/
  tailBytes : Nat := 0
  draughtFailed : Nat := 0
  /-- When the draught checks' period began, and when they last ran. -/
  draughtAt : Nat := 0
  lastDraught : Nat := 0
  /-- Marks of SHARED ports by stream key (R391, R392): on the standby the last number covered; on the active while the peer link is
  down, when the last one left and the number of the next one to leave. -/
  marks : AMap Nat := []
  markAt : AMap Nat := []
  markDue : AMap Nat := []
deriving DecidableEq, Repr

/-! ### Virtual instances -/

/-- The resource object of Table VI-1. -/
structure Grant where
  ports : List Nat := []
  share : Nat := 0
  puntBytes : Nat := 0
  puntQueues : Nat := 0
  injectQueues : Nat := 0
  sp : Nat × Nat := (0, 0)
  eq : Nat × Nat := (0, 0)
  vrf : Nat × Nat := (0, 0)
  label : Nat × Nat := (0, 0)
  handle : Nat × Nat := (0, 0)
  group : Nat × Nat := (0, 0)
  regions : List Nat := []
  pol : Nat × Nat := (0, 0)
  lpmQuota : Nat := 0
  exactQuota : Nat := 0
  profiles : List Nat := []
deriving DecidableEq, Repr

inductive InstState where
  | absent | active | resetting
deriving DecidableEq, Repr

/-- A punt or inject queue of an instance (R433). -/
structure VQueue where
  enabled : Bool := false
  base : Nat := 0
  log2 : Nat := 4
  head : Nat := 0
  tail : Nat := 0
  phase : Bool := true
  bufs : List PuntBuf := []
  slots : List InjSlot := []
  /-- Inject fetches issued and not completed: the entry, the frame and the instance epoch read (R435). -/
  fetched : List (InjSlot × List Byte × Nat) := []
deriving DecidableEq, Repr

/-- A punt copy in the punt region (R434). -/
structure PuntCopy where
  pkt : Pkt := {}
  res : Res := {}
  /-- Its last cell is written and its FCS passed (R27). -/
  ended : Bool := false
deriving DecidableEq, Repr

structure Inst where
  st : InstState := .absent
  epoch : Nat := 0
  grant : Grant := {}
  puntQ : AMap VQueue := []
  injQ : AMap VQueue := []
  tcMap : List Nat := [0, 0, 0, 0, 0, 0, 0, 0]
  /-- Punt copies waiting in the punt region, oldest first (R434). -/
  punts : List PuntCopy := []
  overdraft : Bool := false
  /-- Reset sequence in progress: FLUSH, deadline, destroyed at its end (R438, R431). -/
  flush : Bool := false
  resetDeadline : Nat := 0
  destroying : Bool := false
deriving DecidableEq, Repr

/-! ### Trust -/

structure SecCfg where
  /-- Owner anchors by slot: usage bits and point (R463). -/
  anchors : AMap (Nat × List Byte) := []
  ownerOnly : Bool := false
  rekeyInterval : Nat := 86400
  ownerChain : Option (List Byte) := none
  /-- Persisted CAKs by handle: port binding and key (R456). -/
  caks : AMap (Nat × List Byte) := []
deriving DecidableEq, Repr

/-- A key of the key store (R454): type 1 SAK, 2 CAK. -/
structure Key where
  cak : Bool := false
  port : Nat := 0xFF
  key : List Byte := []
  salt : List Byte := []
  ssci : Nat := 0
deriving DecidableEq, Repr

/-- Sealed MACsec Key Agreement on a port (R457): live peers by member with the end of their lifetime. -/
structure Mka where
  cak : Nat := 0
  priority : Nat := 0
  hello : Nat := 2000
  ckn : List Byte := []
  peers : AMap (Nat × Nat) := []
  nextHello : Nat := 0
  state : Nat := 2
  an : Nat := 0
  sak : Option Nat := none
deriving DecidableEq, Repr

/-- An instance's SPDM connection (R451): the version, how far it is negotiated (1 VERSION, 2 CAPABILITIES, 3 ALGORITHMS answered), and the
transcripts: the negotiation, the certificate requests since the last CHALLENGE, the unsigned measurements since the last signature. -/
structure Spdm where
  version : Nat := 0
  stage : Nat := 0
  vca : List Byte := []
  certsAsked : List Byte := []
  measAsked : List Byte := []
deriving DecidableEq, Repr

/-- The key state of a plane (0–15) or of the peer link (16): R459–R461. -/
structure Link where
  keyed : Bool := false
  running : Bool := false
  slot : Nat := 0
  gen : Nat := 0
  lastAt : Nat := 0
  /-- The keys of the other slot still stand (R461), and until when once a frame with the new slot has come (R314). -/
  oldKept : Bool := false
  oldUntil : Option Nat := none
  retryAt : Option Nat := none
  ephemeral : Bool := false
deriving DecidableEq, Repr

inductive Lifecycle where
  | production | armed | unlocked | rma
deriving DecidableEq, Repr

structure GpioCfg where
  mode : Nat := 0
  level : Bool := false
  edge : Nat := 0
  debounce : Nat := 0
  pull : Nat := 1
deriving DecidableEq, Repr

/-- The settings object that the flash copies seal (R464): every stored setting of every chapter. -/
structure Settings where
  dev : DevCfg := {}
  ports : AMap PortCfg := []
  frm : FrmCfg := {}
  time : TimeCfg := {}
  tbl : TblCfg := {}
  adm : AdmCfg := {}
  fab : FabCfg := {}
  sch : SchCfg := {}
  pair : PairStored := {}
  grants : AMap Grant := []
  sec : SecCfg := {}
  gpio : AMap GpioCfg := []
  format : Nat := 0
deriving DecidableEq, Repr

/-- One flash copy (R464). The key it is sealed under is named by ZEROIZE_COUNT and DEBUG (Table TK-1). -/
structure Copy where
  valid : Bool := false
  gen : Nat := 0
  zeroize : Nat := 0
  debug : Bool := false
  settings : Settings := {}
deriving DecidableEq, Repr

structure Sec where
  cfg : SecCfg := {}
  keys : AMap Key := []
  mka : AMap Mka := []
  links : AMap Link := []
  life : Lifecycle := .production
  debug : Bool := false
  zeroize : Nat := 0
  challenge : Option (List Byte) := none
  spdm : AMap Spdm := []
  /-- ROM has locked the key engine's access to the UDS (R445). -/
  udsLocked : Bool := false
  /-- Measurement 7: settings generation and copy in use, recorded at a firmware start (Table TK-2). -/
  measured : Nat × Nat := (0, 0)
  /-- Settings format the running firmware writes (Table UP-2). -/
  format : Nat := 0
  copyA : Copy := {}
  copyB : Copy := {}
deriving DecidableEq, Repr

/-! ### Firmware update -/

inductive SlotState where
  | empty | downloading | verified | trial | active | spare
deriving DecidableEq, Repr

/-- A kiln slot (Tables UP-1, UP-2, UP-5). -/
structure Slot where
  st : SlotState := .empty
  /-- Its session's digest owns it: until an abort, a confirmation or a fallback (R478). -/
  owned : Bool := false
  digest : List Byte := []
  head : List Byte := []
  chunks : AMap (List Byte) := []
  version : Nat := 0
  svn : Nat := 0
deriving DecidableEq, Repr

structure Upd where
  slotA : Slot := {}
  slotB : Slot := {}
  running : Nat := 0
  /-- The slot marked running by the directory, the trial slot and TRIAL_LEFT (R472, R484). -/
  dirRunning : Option Nat := some 0
  trial : Option Nat := none
  trialLeft : Nat := 0
  /-- Generations of the two directory copies; what they record is the slots, `dirRunning`, `trial` and `trialLeft` (R472). -/
  dirGen : Nat × Nat := (0, 0)
  fusedSvn : Nat := 0
  keyFloor : Nat := 0
  lastResult : Nat := 0
  lastCause : Nat := 0
  /-- 0 none, 1 pending, 2 done (Table UP-8 SWAP). -/
  swap : Nat := 0
  swapWait : Nat := 50
  swapAt : Option Nat := none
  /-- The newest epoch committed when the new firmware became ready: the swap epoch is the first after it (R486). -/
  swapBase : Option Nat := none
  swapEpoch : Nat := 0
  swapTime : Nat := 0
  retryAt : Option Nat := none
  linkSwap : Bool := false
  confirmWindow : Nat := 0
  confirmBy : Option Nat := none
  /-- Standby microcode banks hold the parts of this slot (R483). -/
  loaded : Option Nat := none
  /-- EV.UPD.RESULT is raised when the starting firmware is ready (R490). -/
  resultDue : Bool := false
  /-- Microcode bank each pipeline block runs: the slot it came from. -/
  microcode : Nat := 0
deriving DecidableEq, Repr

/-! ### Faults, counters, power -/

/-- A fault record (Table IF-3); state 1 RECOVERING, 2 HELD, 3 CLOSED. -/
structure FRec where
  id : Nat := 0
  cls : Nat := 0
  st : Nat := 1
  severity : Nat := 2
  injected : Bool := false
  double : Bool := false
  degraded : Bool := false
  preempted : Bool := false
  unit : Nat := 0
  cause : Nat := 0
  partner : Nat := 0
  detectNs : Nat := 0
  detectTime : Nat := 0
  windowEnd : Nat := 0
  occurrences : Nat := 1
  discards : Nat := 0
  doubleLoss : Nat := 0
  interrupt : Nat := 0
  detail : Nat := 0
  lastAt : Nat := 0
deriving DecidableEq, Repr

/-- An injection armed for the next occurrences (Table IF-6). -/
structure Armed where
  target : Nat := 0
  unit : Nat := 0
  left : Nat := 0
deriving DecidableEq, Repr

/-- A Wort Bridge slice group in one direction (R502). -/
structure WbGroup where
  failed : List Nat := []
  /-- Repair lanes (2,048–2,079) in service, and failed lanes whose substitution is under way. -/
  repaired : List Nat := []
  pendingRepair : List Nat := []
  restriping : Bool := false
  width : Nat := 256
  expected : Nat := 0
  replaying : Bool := false
deriving DecidableEq, Repr

structure Flt where
  log : List FRec := []
  nextId : Nat := 1
  doubles : Nat := 0
  armed : List Armed := []
  /-- By direction × 8 + group. -/
  wb : AMap WbGroup := []
  /-- Table pseudo-channels failed (stack × 32 + pc), and those not yet copied again (R505). -/
  tblPcFailed : List Nat := []
  tblPcCopying : List Nat := []
  dblEventFor : List Nat := []
deriving DecidableEq, Repr

/-- A selectable counter (R521, R522). -/
structure Sel where
  bound : Bool := false
  event : Nat := 0
  /-- none: every index. -/
  index : Option Nat := none
  window : Nat := 0
  alignTime : Bool := false
  total : Nat := 0
  current : Nat := 0
  last : Nat := 0
  seq : Nat := 0
  lastEvent : Nat := 0
  boundaryMono : Nat := 0
  boundaryTime : Nat := 0
  peak : Nat := 0
  /-- A pending change: event, index, WINDOW, ALIGN_TIME; `none` inside is an unbind. -/
  pending : Option (Option (Nat × Option Nat × Nat × Bool)) := none
  nextAt : Nat := 0
deriving DecidableEq, Repr

/-- A port's receive and transmit bandwidth meters (R524). -/
structure Meter where
  window : Nat := 1000
  newWindow : Option Nat := none
  rxF : Nat := 0
  rxB : Nat := 0
  txF : Nat := 0
  txB : Nat := 0
  lastRxF : Nat := 0
  lastRxB : Nat := 0
  lastTxF : Nat := 0
  lastTxB : Nat := 0
  rxPeak : Nat := 0
  txPeak : Nat := 0
  boundary : Nat := 0
deriving DecidableEq, Repr

structure Cnt where
  /-- Counters by event × 2^24 + index, 64 bits; an unlisted counter is 0 (R516). -/
  vals : AMap Nat := []
  /-- Sticky overflow flags: keys of wrapped counters. -/
  ovf : List Nat := []
  sel : AMap Sel := []
  meters : AMap Meter := []
deriving DecidableEq, Repr

inductive DomState where
  | off | ramping | on | fault
deriving DecidableEq, Repr

inductive RefState where
  | locked | holdover | outOfRange | relocking
deriving DecidableEq, Repr

/-- States of the TAP controller (IEEE 1149.1, R546). -/
inductive TapState where
  | testLogicReset | runTestIdle | selectDr | captureDr | shiftDr | exit1Dr | pauseDr | exit2Dr | updateDr
  | selectIr | captureIr | shiftIr | exit1Ir | pauseIr | exit2Ir | updateIr
deriving DecidableEq, Repr

/-- The public instructions of boundary scan and of the AC tests (R467, R546). -/
inductive TapIns where
  | bypass | extest | sample | extestPulse | extestTrain
deriving DecidableEq, Repr

/-- The test access port: TRST_N low, the controller, its registers, and the levels that an update drives on the pins. -/
structure Tap where
  trstLow : Bool := true
  state : TapState := .testLogicReset
  ins : TapIns := .bypass
  ir : List Bool := []
  dr : List Bool := []
  driven : Option (List Bool) := none
deriving DecidableEq, Repr

structure Pwr where
  domains : AMap DomState := []
  /-- Domains waiting for one of the four ramp places (R535). -/
  queue : List Nat := []
  retryAt : AMap Nat := []
  rootLocked : Bool := false
  ref : RefState := .locked
  refAt : Nat := 0
  /-- 0 NORMAL, 1 WARN, 2 CRIT (Table PH-5). -/
  thermal : Nat := 0
  /-- When WARN or CRIT was last entered (Table PH-5). -/
  thermalAt : Nat := 0
  /-- Stacks with refresh doubled, and with the 95 °C event raised (R539). -/
  refresh2x : List Nat := []
  hbmWarned : List Nat := []
  thermtrip : Bool := false
  pwrfault : Bool := false
  gpio : AMap GpioCfg := []
  /-- Output levels as last configured or written, and the levels the board drives. -/
  gpioOut : AMap Bool := []
  gpioIn : AMap Bool := []
  /-- When the level of a pin last changed from outside (DEBOUNCE, R548). -/
  gpioAt : AMap Nat := []
  tap : Tap := {}
  /-- The I3C target's dynamic address (R544), and whether ROM has switched the flash to 8D-8D-8D (R543). -/
  i3cAddr : Option Nat := none
  xspiOctal : Bool := false
deriving DecidableEq, Repr

/-! ### The whole block -/

/-- Why a meaning could stop. No meaning of this model stops with a fault; the type is required by the host interface. -/
inductive Fault where
  /-- Raised by nothing: kept so that the interface's fault type is inhabited. Safe. -/
  | unreachable
deriving DecidableEq, Repr

/-- Why a command could be refused by the model. -/
inductive Refusal where
  /-- Raised by `exec` for a command without a meaning, by its mnemonic. Safe: it stops where the hardware goes on. -/
  | notModelled (mnemonic : String)
deriving DecidableEq, Repr

structure State where
  /-- Local monotonic counter since cold reset, in tenths of a nanosecond (R156). -/
  mono : Nat := 0
  /-- Draws of free values so far (the model's own field; assumption log entry 4). -/
  draws : Nat := 0
  hif : Hif := {}
  dev : Dev := {}
  port : PortBlk := {}
  frm : Frm := {}
  tim : Tim := {}
  tbl : Tbl := {}
  mash : Mash := {}
  asa : Asa := {}
  adm : Adm := {}
  fab : Fab := {}
  rack : Rack := {}
  sch : Sch := {}
  pair : Pair := {}
  insts : AMap Inst := []
  sec : Sec := {}
  upd : Upd := {}
  flt : Flt := {}
  cnt : Cnt := {}
  pwr : Pwr := {}
  /-- What the block has put on its links and pins, oldest first (the model's own field). -/
  out : List Output := []
  /-- Commands waiting, first in, first out. -/
  pending : List Instr := []
deriving DecidableEq, Repr

/-- The machine with power-on reset asserted (R533): nothing powered but PD0, firmware not ready, every register at its reset value.
Kiln slot A holds the factory image as the running slot, lifecycle is PRODUCTION (R467), both settings copies are absent. Assumption log entry 2. Assumption log entry 81. Assumption log entry 172. -/
def State.reset : State where
  insts := [(0, { st := .active })]
  pwr := { domains := [(0, .on)] }
  upd := { slotA := { st := .active, digest := Config.factoryDigest, head := Config.factoryHead, version := Config.factoryVersion, svn := Config.factorySvn },
           slotB := { st := .empty } }

end Sys2Proof.Machine
end

