-- ==== Sys2Proof/Machine/Ops.lean ====
section
/-! DEFINITION. The named operations that every family shares: functions and instances by number, free values, counters (R515, R516),
notifications (R62, R63), interrupts (R50, R88) and completions (R58). -/
namespace Sys2Proof.Machine

/-! ### Access by number -/

/-- The function that carries VI `vi` (R48). -/
def State.fn (s : State) (vi : Nat) : Fn := mgetD s.hif.fns vi {}

/-- A change of one function. -/
def State.modFn (s : State) (vi : Nat) (f : Fn → Fn) : State :=
  { s with hif := { s.hif with fns := mmod s.hif.fns vi {} f } }

/-- The instance `vi`; an unlisted one is ABSENT. -/
def State.inst (s : State) (vi : Nat) : Inst := mgetD s.insts vi {}

/-- A change of one instance. -/
def State.modInst (s : State) (vi : Nat) (f : Inst → Inst) : State := { s with insts := mmod s.insts vi {} f }

/-- Whether an instance has been created: ACTIVE or RESETTING (Table VI-3). -/
def State.created (s : State) (vi : Nat) : Bool := decide ((s.inst vi).st ≠ .absent)

/-- One more line of the output log. -/
def State.emit (s : State) (o : Output) : State := { s with out := s.out ++ [o] }

/-- TIME in nanoseconds, 64 bits (R153). -/
def State.timeNs (s : State) : Nat := s.tim.time.toNat / 2 ^ 48

/-- The local monotonic count in nanoseconds (R156). -/
def State.monoNs (s : State) : Nat := s.mono / 10 % 2 ^ 64

/-- The number of the next free value; `drawn` moves past it (assumption log entry 4). -/
def State.draw (s : State) : Nat := s.draws

def State.drawn (s : State) : State := { s with draws := s.draws + 1 }

/-- Firmware, or ROM in recovery mode, accepts commands (R76, R89). -/
def State.accepting (s : State) : Bool := s.hif.fwReady || s.hif.recovery

/-- A deadline that has passed. -/
def State.due (s : State) (t : Nat) : Bool := decide (t ≤ s.mono)

/-- A change made only under a guard: a command whose event cannot occur in this state has no effect (assumption log entry 3). -/
def when (b : Bool) (s s' : State) : State := if b then s' else s

/-! ### Interrupts (R50, R88) -/

/-- Count and delay of a vector: the NQ setting for vectors 1 and 2, the CQ setting for vectors 0 and 3 (assumption log entry 9). -/
def Fn.coalesce (f : Fn) (vec : Nat) : Nat × Nat :=
  if vec = 1 ∨ vec = 2 then (f.nqCount, f.nqDelay) else (f.cqCount, f.cqDelay)

/-- The Mask bit of a vector's MSI-X table entry. -/
def Fn.masked (f : Fn) (vec : Nat) : Bool := (f.msix.getD (4 * vec + 3) 0).getLsbD 0

/-- Signal a vector: its MSI-X message is sent, or while it is masked its pending bit is set (R49, R50; assumption log entry 123). -/
def signal (vi vec : Nat) (s : State) : State :=
  if (s.fn vi).masked vec then s.modFn vi (fun f => { f with pba := f.pba ||| BitVec.ofNat 32 (2 ^ vec) })
  else s.emit (.msix vi vec)

/-- One entry posted on a vector: the vector is signalled once the count is reached, at once when the delay is 0 (R88). -/
def postVector (vi vec : Nat) (s : State) : State :=
  let f := s.fn vi
  let (cnt, delay) := f.coalesce vec
  let (n, t0) := (mget f.sig vec).getD (0, s.mono)
  if max cnt 1 ≤ n + 1 ∨ delay = 0 then
    signal vi vec (s.modFn vi (fun f => { f with sig := mdel f.sig vec }))
  else s.modFn vi (fun f => { f with sig := mset f.sig vec (n + 1, t0) })

/-! ### Rings -/

/-- Entries of a ring by its size register (R53). -/
def ringEntries (size : Word) : Nat := 2 ^ (size.toNat % 16)

/-- Rings that post completions and notifications: RUNNING or DRAINING. -/
def Fn.live (f : Fn) : Bool := f.ring == .running || f.ring == .draining

/-- The tail after one more entry, and the phase, which inverts at the wrap (R58). -/
def ringStep (size : Word) (tail : Nat) (phase : Bool) : Nat × Bool :=
  if tail + 1 < ringEntries size then (tail + 1, phase) else (0, !phase)

/-- Slots of a ring that may hold unconsumed entries: one is kept free, so that an equal head and tail mean empty (assumption log
entry 10). -/
def ringRoom (size : Word) : Nat := ringEntries size - 1

/-! ### Notifications (R62, R63) -/

/-- Write a notification into the NQ slot at the tail. -/
def writeNotif (vi : Nat) (n : Notif) (s : State) : State :=
  let f := s.fn vi
  let (t, p) := ringStep f.active.nqSize f.nqTail f.nqPhase
  let n' := { n with phase := f.nqPhase, lostBefore := f.lostBefore }
  postVector vi 1 (s.modFn vi (fun f => { f with nq := f.nq ++ [n'], nqTail := t, nqPhase := p, lostBefore := false }))

/-- The counters' keys: event number and index (R515). -/
def counterKey (ev idx : Nat) : Nat := ev * 2 ^ 24 + idx

/-- One or more occurrences on one counter (R516), without the wrap notification. -/
def bump (ev idx n : Nat) (s : State) : State :=
  let k := counterKey ev idx
  let v := mgetD s.cnt.vals k 0 + n
  let sel := s.cnt.sel.map (fun e =>
    if e.2.bound && e.2.event == ev && (e.2.index == none || e.2.index == some idx) then
      (e.1, { e.2 with total := (e.2.total + n) % 2 ^ 64, current := (e.2.current + n) % 2 ^ 64 })
    else e)
  { s with cnt := { s.cnt with vals := mset s.cnt.vals k (v % 2 ^ 64),
                               ovf := if v < 2 ^ 64 then s.cnt.ovf else addOnce s.cnt.ovf k, sel := sel } }

/-- Counts that the diagnostic window presents beside the named counters (Tables LN-6, LN-7, FB-12, PR-10, AB-9) are 64-bit counters too (R147,
R518); the model keys them by a number beyond every event code, with the channel as the index (assumption log entry 140). -/
def winEvent (bank v : Nat) : Nat := 0x1000 + bank * 16 + v

/-- Whether counting `n` more wraps the counter. -/
def wraps (ev idx n : Nat) (s : State) : Bool := decide (2 ^ 64 ≤ mgetD s.cnt.vals (counterKey ev idx) 0 + n)

/-- A notification raised to one function (none in ROM recovery mode, R494): posted, or held while the NQ is full or the link is down, or dropped (R52, R63). A dropped
one counts in HIF_NQ_LOST, whose own wrap raises EV.CNT.WRAP while fuel is left (two rounds suffice). Assumption log entry 15. -/
def raiseTo : Nat → Nat → Notif → State → State
  | fuel, vi, n, s =>
    let f := s.fn vi
    if ¬ f.live ∨ s.hif.recovery then s
    else
      let n := { n with seq := f.seq % 2 ^ 32 }
      let s := s.modFn vi (fun f => { f with seq := (f.seq + 1) % 2 ^ 32 })
      if ¬ s.hif.linkUp ∨ ¬ s.accepting then s.modFn vi (fun f => { f with heldN := f.heldN ++ [n] })
      else if f.heldN = [] ∧ f.nq.length < ringRoom f.active.nqSize then writeNotif vi n s
      else if f.heldN.length < 256 then s.modFn vi (fun f => { f with heldN := f.heldN ++ [n] })
      else
        let w := wraps Cn.hifNqLost vi 1 s
        let s := (bump Cn.hifNqLost vi 1 s).modFn vi (fun f => { f with lostBefore := true })
        match fuel with
        | 0 => s
        | fuel + 1 =>
          if w ∧ (s.fn 0).mask.getLsbD 16 then
            raiseTo fuel 0 { event := Ev.cntWrap.1, severity := Ev.cntWrap.2, time := s.timeNs,
                             payload := putLe 2 Cn.hifNqLost ++ zeros 2 ++ putLe 4 vi ++ zeros 8 } s
          else s

/-- A notification to one function whatever its mask holds (EV.HIF.CMD_DONE, R554). Assumption log entry 11. -/
def notifyOne (vi : Nat) (ev : Nat × Nat) (payload : List Byte) (s : State) : State :=
  raiseTo 2 vi { event := ev.1, severity := ev.2, time := s.timeNs, payload := fit 16 payload } s

/-- The functions an event may go to: VI0, and the created instances it names (R425), with the family enabled in the mask (R62). -/
def seers (s : State) (code : Nat) (vis : List Nat) : List Nat :=
  (0 :: (vis.filter (fun v => v ≠ 0 && s.created v)).eraseDups).filter (fun v => (s.fn v).mask.getLsbD (code / 256))

/-- A notification with a TIME of its own. -/
def notifyAt (time : Nat) (ev : Nat × Nat) (payload : List Byte) (vis : List Nat) (s : State) : State :=
  foldS (seers s ev.1 vis) s (fun v s =>
    raiseTo 2 v { event := ev.1, severity := ev.2, time := time, payload := fit 16 payload } s)

/-- A notification to VI0 and to the instances it names. -/
def notify (ev : Nat × Nat) (payload : List Byte) (vis : List Nat) (s : State) : State :=
  notifyAt s.timeNs ev payload vis s

/-- Every created instance but VI0. -/
def State.allVis (s : State) : List Nat := (mkeys s.insts).filter (fun v => v ≠ 0 && s.created v)

/-- One or more occurrences on one counter, with EV.CNT.WRAP at a wrap (R516). -/
def count (ev idx n : Nat) (s : State) : State :=
  let w := wraps ev idx n s
  let s := bump ev idx n s
  if w then notify Ev.cntWrap (putLe 2 ev ++ zeros 2 ++ putLe 4 idx) [] s else s

/-- EV.PWR.DOMAIN: a domain's state changed (R535). -/
def domainEvent (pd : Nat) (on : Bool) (s : State) : State := notify Ev.pwrDomain (putLe 1 pd ++ putLe 1 (b2n on)) [] s

/-- The value of a counter. -/
def State.counter (s : State) (ev idx : Nat) : Nat := mgetD s.cnt.vals (counterKey ev idx) 0

/-- Post held notifications in order while the NQ has room (R63); the fuel is the number held. -/
def flushNotifs : Nat → Nat → State → State
  | 0, _, s => s
  | fuel + 1, vi, s =>
    let f := s.fn vi
    match f.heldN with
    | [] => s
    | n :: t =>
      if f.live && s.hif.linkUp && s.accepting && decide (f.nq.length < ringRoom f.active.nqSize) then
        flushNotifs fuel vi (writeNotif vi n (s.modFn vi (fun f => { f with heldN := t })))
      else s

/-! ### Completions (R58, R61) -/

/-- The bit of a ring fault set in HIF_FAULT, a vector-3 interrupt, and EV.HIF.RING_FAULT (Table RF-4) to the functions `tos`. -/
def ringFault (vi bit : Nat) (tos : List Nat) (s : State) : State :=
  let s := s.modFn vi (fun f => { f with fault := f.fault ||| (BitVec.ofNat 32 (2 ^ bit)) })
  let st := match (s.fn vi).ring with | .idle => 0 | .running => 1 | .draining => 2 | .halted => 3
  let s := foldS (tos.filter (fun v => (s.fn v).mask.getLsbD 1)) s
    (fun v s => notifyOne v Ev.hifRingFault (putLe 1 vi ++ putLe 1 (2 ^ bit) ++ putLe 1 st) s)
  postVector vi 3 s

/-- Write a completion into the CQ slot at the tail, its result data first (R58, R61). Assumption log entry 12. -/
def writeCompl (vi : Nat) (c : HeldCompl) (s : State) : State :=
  let f := s.fn vi
  let s := if c.compl.dataWritten then s.emit (.dataWrite vi c.compl.cmdId c.data) else s
  let (t, p) := ringStep f.active.cqSize f.cqTail f.cqPhase
  let e := { c.compl with phase := f.cqPhase, sqHead := f.sqHead }
  postVector vi 0 (s.modFn vi (fun f => { f with cq := f.cq ++ [e], cqTail := t, cqPhase := p }))

/-- Post a completion, or hold it while the link is down (R52) or firmware restarts (R77). A function whose rings do not run gets none; its
journal keeps it. -/
def postCompl (vi : Nat) (c : HeldCompl) (s : State) : State :=
  if ¬ (s.fn vi).live then s
  else if s.hif.linkUp && s.accepting then writeCompl vi c s
  else s.modFn vi (fun f => { f with heldC := f.heldC ++ [c] })

/-- DRAINING becomes IDLE once no command of the function is unfinished and every completion is posted (R56, Table HM-25). -/
def drainCheck (vi : Nat) (s : State) : State :=
  let f := s.fn vi
  if f.ring == .draining && f.heldC.isEmpty && s.hif.parked.all (fun p => p.vi != vi) then
    s.modFn vi (fun f => { f with ring := .idle, sq := [] })
  else s

/-! ### Events at most once a second -/

/-- One more occurrence, and whether a second has passed since the event was last raised. -/
def Rate.note (r : Rate) (now : Nat) : Rate := { r with times := r.times.filter (fun t => decide (now < t + Config.sec 1)) ++ [now] }
def Rate.quiet (r : Rate) (now : Nat) : Bool := r.last.all (fun t => decide (t + Config.sec 1 ≤ now))

/-- An occurrence: whether its event is raised now, the occurrences of the last second that it reports, and the record. -/
def Rate.hit (r : Rate) (now : Nat) : Bool × Nat × Rate :=
  let r' := r.note now
  if r.quiet now then (true, r'.times.length, { r' with last := some now }) else (false, r'.times.length, r')
def rated (m : AMap Rate) (k now : Nat) : Bool × Nat × AMap Rate :=
  let (fire, n, r) := (mgetD m k {}).hit now
  (fire, n, mset m k r)

/-- The slice by which a port's packets enter the Q-die (R273). -/
def sliceOf (p : Nat) : Nat := if 128 ≤ p then (p - 128) % 8 else p / 8 % 8

/-- Bytes that a Wort Bridge slice group carries in 6.4 µs at a width: 16 Gb/s a lane (R502). -/
def wbBytes (width : Nat) : Nat := width * 12800

/-! ### The kiln directory -/

/-- A write of the kiln directory: the copy with the lower generation takes the next one (R472). -/
def dirWrite (s : State) : State :=
  let d := s.upd.dirGen
  let g := max d.1 d.2 + 1
  { s with upd := { s.upd with dirGen := if d.1 ≤ d.2 then (g, d.2) else (d.1, g) } }

end Sys2Proof.Machine
end

