-- ==== Sys2Proof/Machine/Commands.lean ====
section
/-! DEFINITION. The Unilmi command envelope: the command table (Tables RF-1 and HM-2 to HM-9), reading a submission (R72), the checks
before execution (R16, R61, R65, R68, R89, R95, R430, R551), completion and journaling (R66, R71, R73), parking (R67). -/
namespace Sys2Proof.Machine

/-- Who may issue a command (R551). -/
inductive Issuer where
  | any | inst | vi0
deriving DecidableEq, Repr

/-- A row of Table RF-1 with the layout of its PARAMS: the used fields (offset in the entry, size), the valid bits of fields that
hold reserved bits (offset, size, mask), the least DATA_LEN and whether the command reads its data buffer. -/
structure CmdInfo where
  op      : Nat
  issuer  : Issuer := .vi0
  star    : Bool := false
  recov   : Bool := false
  used    : List (Nat × Nat) := []
  masks   : List (Nat × Nat × Nat) := []
  dataMin : Nat := 0
  reads   : Bool := false
deriving DecidableEq, Repr

def cmdsHifDev : List CmdInfo :=
  [{ op := 0x0100, issuer := .any, recov := true },
   { op := 0x0101, issuer := .any, recov := true, dataMin := 64 },
   { op := 0x0102, issuer := .any },
   { op := 0x0103, issuer := .any, used := [(24, 4)], masks := [(24, 4, 0x3FFFE)] },
   { op := 0x0104, issuer := .any, used := [(24, 8)] },
   { op := 0x0201, issuer := .inst, dataMin := 64 },
   { op := 0x0202, star := true, used := [(24, 4)], masks := [(25, 1, 1)] },
   { op := 0x0203, used := [(24, 8)] },
   { op := 0x0204, star := true, dataMin := 16, reads := true },
   { op := 0x0205, dataMin := 16, reads := true }]

def cmdsLine : List CmdInfo :=
  [{ op := 0x0301, used := [(24, 15)] },
   { op := 0x0302, used := [(24, 3)] },
   { op := 0x0303, issuer := .inst, used := [(24, 1)] },
   { op := 0x0304, used := [(24, 6), (32, 12), (48, 8)], masks := [(29, 1, 0x3F)] },
   { op := 0x0305, used := [(24, 2), (32, 8)] },
   { op := 0x0306, used := [(24, 6), (32, 16)] },
   { op := 0x0401, used := [(24, 6)], reads := true },
   { op := 0x0402, used := [(24, 1)], reads := true },
   { op := 0x0403, used := [(24, 16)] },
   { op := 0x0404, used := [(24, 12)], masks := [(32, 1, 3)] },
   { op := 0x0405, used := [(24, 5)], masks := [(28, 1, 3)] },
   { op := 0x0406, issuer := .inst, used := [(24, 1)] },
   { op := 0x0501, used := [(24, 8)] },
   { op := 0x0502, used := [(24, 8)] },
   { op := 0x0503, used := [(24, 4), (32, 8)], masks := [(25, 1, 1)] },
   { op := 0x0504, issuer := .inst, dataMin := 32 },
   { op := 0x0505, used := [(24, 11)], masks := [(25, 1, 7)] },
   { op := 0x0506, issuer := .inst, used := [(24, 2)] },
   { op := 0x0507, used := [(24, 26), (52, 4)] },
   { op := 0x0508, used := [(24, 4)] },
   { op := 0x0509, used := [(24, 2)] }]

def cmdsTables : List CmdInfo :=
  [{ op := 0x0601, issuer := .inst, star := true, used := [(24, 4)], reads := true },
   { op := 0x0602, issuer := .inst, star := true, used := [(24, 1)], masks := [(24, 1, 1)] },
   { op := 0x0603, issuer := .inst, star := true },
   { op := 0x0604, issuer := .inst, used := [(24, 3)], masks := [(26, 1, 1)], reads := true },
   { op := 0x0605, issuer := .inst, star := true, used := [(24, 3)] },
   { op := 0x0606, issuer := .inst, used := [(24, 4), (32, 32)] },
   { op := 0x0607, issuer := .inst, dataMin := 128 },
   { op := 0x0608, star := true, used := [(24, 5), (32, 4)] },
   { op := 0x0609, star := true, used := [(24, 4)], masks := [(25, 1, 3)] },
   { op := 0x060A, star := true, used := [(24, 1)] },
   { op := 0x0701, issuer := .inst, star := true, used := [(24, 8)], masks := [(28, 1, 1)], reads := true },
   { op := 0x0702, issuer := .inst, star := true, used := [(24, 4)] },
   { op := 0x0703, issuer := .inst, star := true, used := [(24, 4)], reads := true },
   { op := 0x0704, issuer := .inst, used := [(24, 2), (28, 4)], dataMin := 200 },
   { op := 0x0705, issuer := .inst, dataMin := 528 },
   { op := 0x0706, star := true, used := [(24, 4)] }]

def cmdsBuffer : List CmdInfo :=
  [{ op := 0x0801, star := true, used := [(24, 2)], reads := true },
   { op := 0x0802, star := true, used := [(24, 9)] },
   { op := 0x0803, star := true, used := [(24, 1), (28, 8)] },
   { op := 0x0804, star := true, used := [(24, 5)] },
   { op := 0x0805, star := true, used := [(24, 16)] },
   { op := 0x0806, issuer := .inst, used := [(24, 4)], dataMin := 48 },
   { op := 0x0807, issuer := .inst, dataMin := 64 },
   { op := 0x0901, used := [(24, 14)], masks := [(27, 1, 3)] },
   { op := 0x0902, star := true, used := [(24, 4)], reads := true },
   { op := 0x0903, used := [(24, 3), (28, 6)] },
   { op := 0x0904, used := [(24, 2)] },
   { op := 0x0905, issuer := .inst, dataMin := 64 },
   { op := 0x0A01, star := true, used := [(24, 4)], reads := true },
   { op := 0x0A02, star := true, used := [(24, 4)], reads := true },
   { op := 0x0A03, star := true, used := [(24, 13)], masks := [(27, 1, 1)] },
   { op := 0x0A04, issuer := .inst, star := true, used := [(24, 24)], masks := [(30, 1, 7)] },
   { op := 0x0A05, star := true, used := [(24, 16)], reads := true },
   { op := 0x0A06, star := true, used := [(24, 14)], masks := [(25, 1, 1)] },
   { op := 0x0A07, star := true, used := [(24, 11)], masks := [(25, 1, 7)] },
   { op := 0x0A08, issuer := .inst, star := true, used := [(24, 1), (28, 4)] },
   { op := 0x0A09, issuer := .inst, used := [(24, 1)], dataMin := 64 }]

def cmdsUnit : List CmdInfo :=
  [{ op := 0x0B01, used := [(24, 12)] },
   { op := 0x0B02, used := [(24, 3), (28, 2)] },
   { op := 0x0B03, issuer := .inst, dataMin := 64 },
   { op := 0x0B04 },
   { op := 0x0B05, used := [(24, 1)] },
   { op := 0x0C01, star := true, used := [(24, 1)], dataMin := 128, reads := true },
   { op := 0x0C02, star := true, used := [(24, 1)], dataMin := 128, reads := true },
   { op := 0x0C03, star := true, used := [(24, 1), (26, 2)] },
   { op := 0x0C04, used := [(24, 4)], masks := [(25, 1, 1)] },
   { op := 0x0C05, issuer := .inst, used := [(24, 6), (32, 16)], masks := [(29, 1, 1)] },
   { op := 0x0C06, issuer := .inst, used := [(24, 1)], dataMin := 32 },
   { op := 0x0D01, issuer := .inst, used := [(24, 2)], reads := true },
   { op := 0x0D02, issuer := .inst, dataMin := 32 },
   { op := 0x0D03, dataMin := 200 },
   { op := 0x0D04, used := [(24, 1)], masks := [(24, 1, 1)], dataMin := 192, reads := true },
   { op := 0x0D05, used := [(24, 2)] },
   { op := 0x0D06, used := [(24, 40)] },
   { op := 0x0D07, used := [(24, 3), (28, 4)], masks := [(26, 1, 1)] },
   { op := 0x0D08, used := [(24, 3)], masks := [(26, 1, 3)], reads := true },
   { op := 0x0D09, used := [(24, 1)], reads := true },
   { op := 0x0D0A, used := [(24, 2)], reads := true },
   { op := 0x0D0B, used := [(24, 4)] }]

def cmdsTail : List CmdInfo :=
  [{ op := 0x0E01, recov := true, used := [(24, 4)], reads := true },
   { op := 0x0E02, recov := true, used := [(24, 2), (32, 32)], reads := true },
   { op := 0x0E03, recov := true, dataMin := 400 },
   { op := 0x0E04, recov := true, used := [(24, 1), (32, 32)] },
   { op := 0x0E05, recov := true, used := [(24, 1), (26, 4), (32, 32)] },
   { op := 0x0E06, used := [(32, 32)] },
   { op := 0x0F01, issuer := .inst, dataMin := 32 },
   { op := 0x0F02, used := [(24, 6)], masks := [(29, 1, 1)] },
   { op := 0x0F03, used := [(24, 8)], masks := [(25, 1, 1)] },
   { op := 0x1001, issuer := .inst, used := [(24, 3), (28, 8)], masks := [(24, 2, 0xFFF), (26, 1, 1)] },
   { op := 0x1002, used := [(24, 13)], masks := [(26, 2, 0xFFF), (36, 1, 1)] },
   { op := 0x1003, used := [(24, 1), (28, 4)] },
   { op := 0x1004, issuer := .inst, used := [(24, 2)], masks := [(25, 1, 1)], dataMin := 64 },
   { op := 0x1005, issuer := .inst, used := [(24, 2)], masks := [(24, 2, 0xFFF)] },
   { op := 0x1101, issuer := .inst, dataMin := 64 },
   { op := 0x1102, used := [(24, 2)] },
   { op := 0x1103, used := [(24, 7)] }]

/-- Table RF-1. -/
def cmdTable : List CmdInfo := cmdsHifDev ++ cmdsLine ++ cmdsTables ++ cmdsBuffer ++ cmdsUnit ++ cmdsTail

/-- The row of an opcode; none for an opcode firmware does not define (R65). -/
def cmdInfo (op : Nat) : Option CmdInfo := cmdTable.find? (fun c => c.op == op)

end Sys2Proof.Machine

namespace Sys2Proof
open Sys2Proof.Machine

/-! ### Fields of a submission entry (Table HM-2) -/

def Entry.cmdId (e : Entry) : Nat := le e.raw 0 8
def Entry.opcode (e : Entry) : Nat := le e.raw 8 2
def Entry.notifyFlag (e : Entry) : Bool := bit (le e.raw 10 1) 0
def Entry.dataLen (e : Entry) : Nat := le e.raw 12 4
def Entry.dataAddr (e : Entry) : Nat := le e.raw 16 8
/-- A parameter: `off` counts from the start of the entry, as the command tables do. -/
def Entry.p (e : Entry) (off n : Nat) : Nat := le e.raw off n
/-- The DATA_LEN bytes of the data buffer. -/
def Entry.buf (e : Entry) : List Byte := fit e.dataLen e.data
/-- The CRC-32C of the 64-byte entry (R71). -/
def Entry.crc (e : Entry) : Word := crc32c (fit 64 e.raw)

end Sys2Proof

namespace Sys2Proof.Machine

/-- Whether a byte of the entry lies in a used field. -/
def usedByte (c : CmdInfo) (i : Nat) : Bool :=
  decide (i < 24) || c.used.any (fun r => decide (r.1 ≤ i ∧ i < r.1 + r.2))

/-- R16 with R61's address rule: a reserved field is non-zero, or DATA_ADDR is misaligned or given without a buffer. -/
def reservedNonzero (c : CmdInfo) (e : Entry) : Bool :=
  decide (2 ≤ le e.raw 10 1) || decide (le e.raw 11 1 ≠ 0)
  || (upFrom 24 40).any (fun i => !usedByte c i && decide (byteAt e.raw i ≠ 0))
  || c.masks.any (fun m => decide (e.p m.1 m.2.1 &&& m.2.2 ≠ e.p m.1 m.2.1))

/-- DATA_ADDR[5:0] is 0, and DATA_ADDR is 0 when DATA_LEN is 0 (R61). -/
def dataAddrOk (e : Entry) : Bool := decide (e.dataAddr % 64 = 0 ∧ (e.dataLen = 0 → e.dataAddr = 0))

/-! ### What a command's execution answers -/

/-- The state with the change applied, the completion's status, detail, inline result and result data; `wait` parks the command,
the flag saying that it stays executing and lets no other command start (R67); `changed` is false for a command that changed no device
state (R61). -/
structure Reply where
  st : State
  status : Nat := St.ok
  detail : Nat := Dt.hifNone
  result : List Byte := []
  data : List Byte := []
  wait : Option (Wait × Bool) := none
  changed : Bool := true
deriving DecidableEq, Repr

/-- A command's own part: issuer, entry and state. -/
abbrev Body := Nat → Entry → State → Reply

def Reply.ok (s : State) (result : List Byte := []) : Reply := { st := s, result := result }
/-- A non-OK completion has no effect on device state (R79). -/
def Reply.err (s : State) (status detail : Nat) (result : List Byte := []) : Reply :=
  { st := s, status := status, detail := detail, result := result, changed := false }
/-- A command that only reads. -/
def Reply.read (s : State) (result data : List Byte) : Reply := { st := s, result := result, data := data, changed := false }

/-- DATA_LEN does not suit the command (R61). Assumption log entry 8. -/
def badLen (vi : Nat) (s : State) : Reply := .err (count Cn.hifCmdErr vi 1 s) St.eArg Dt.hifDataLen
/-- The issuer may not use the command on the object it names (R68). -/
def notPermitted (vi : Nat) (s : State) : Reply := .err (count Cn.hifCmdErr vi 1 s) St.eDenied Dt.hifNotPermitted
/-- A reserved field inside the data buffer is non-zero (R16). -/
def badReserved (s : State) : Reply := .err s St.eArg Dt.hifReservedNonzero

/-! ### Pair membership as the envelope needs it -/

/-- The unit holds the bung (HIF_STATUS.PAIR_ACTIVE): SOLO or ACTIVE (Table PR-4). -/
def State.holdsBung (s : State) : Bool := s.pair.st == .solo || s.pair.st == .active
/-- The unit is a pair member. -/
def State.member (s : State) : Bool := s.pair.cfg.pair.isSome

/-! ### Reading the submission ring -/

/-- HIGH, the newest journaled ID. -/
def Fn.high (f : Fn) : Option Nat := f.journal.getLast?.map (fun j => j.compl.cmdId)
/-- LOW, the oldest journaled ID. -/
def Fn.low (f : Fn) : Option Nat := f.journal.head?.map (fun j => j.compl.cmdId)
/-- The journal entry of an ID. -/
def Fn.journaled (f : Fn) (id : Nat) : Option JEntry := f.journal.find? (fun j => j.compl.cmdId == id)

/-- Table HM-6: what firmware does with a submitted CMD_ID. -/
inductive Treat where
  | execute | replay (j : JEntry) | mismatch | order | stale
deriving DecidableEq, Repr

def treat (f : Fn) (e : Entry) : Treat :=
  match f.journaled e.cmdId with
  | some j => if j.crc = e.crc then .replay j else .mismatch
  | none =>
    if f.journal = [] ∨ f.high.getD 0 < e.cmdId then .execute
    else if e.cmdId < f.low.getD 0 then .stale
    else .order

/-- Append to the journal, which keeps the last 4,096 completions (R71). -/
def Fn.record (f : Fn) (j : JEntry) : Fn :=
  let l := f.journal ++ [j]
  { f with journal := l.drop (l.length - 4096) }

/-- Firmware takes the entry at the SQ head (R57). -/
def popSq (vi : Nat) (s : State) : State :=
  s.modFn vi (fun f => { f with sq := f.sq.drop 1, sqHead := (f.sqHead + 1) % ringEntries f.active.sqSize })

/-- A command of the function is parked or executing. -/
def State.busyVi (s : State) (vi : Nat) : Bool := s.hif.parked.any (fun p => p.vi == vi)
/-- A command is executing until an instant of its own (R67). -/
def State.blocked (s : State) : Bool := s.hif.parked.any (fun p => p.blocks)
/-- A parked command whose wait has ended: it resumes ahead of the round robin (R67). -/
def State.resumable (s : State) : Bool := s.hif.parked.any (fun p => p.ready)

/-- The function has an entry at its SQ head that firmware may take: rings RUNNING, no command of it unfinished, a free CQ slot (R58,
R66), the link up (R52), and VI0 only in ROM recovery mode (R494). -/
def State.hasWork (s : State) (vi : Nat) : Bool :=
  let f := s.fn vi
  (!s.hif.recovery || vi == 0) && f.ring == .running && !f.sq.isEmpty && s.hif.linkUp && !s.busyVi vi
    && decide (f.cq.length + f.heldC.length < ringRoom f.active.cqSize)

/-- The function served next in the round robin, VI0 first in each round (R67). Assumption log entry 14. -/
def State.nextServed (s : State) : Option Nat :=
  let l := (List.range 64).filter (fun v => s.hasWork v)
  match s.hif.served with
  | some k => match l.find? (fun v => decide (k < v)) with
    | some v => some v
    | none => l.head?
  | none => l.head?

/-- Whether the command with this opcode at the head of this function's SQ starts now. -/
def State.canStart (s : State) (op vi : Nat) : Bool :=
  s.accepting && !s.blocked && !s.resumable && decide (s.nextServed = some vi)
    && decide ((s.fn vi).sq.head?.map Entry.opcode = some op)
    && decide ((s.fn vi).sq.head?.map (treat (s.fn vi)) = some .execute)

/-! ### Completing -/

/-- The completion a reply earns, with the outcome of its result data's write (R61): status, detail, data to write, DATA_WRITTEN. -/
def resultWrite (writeOk : Bool) (r : Reply) : Nat × Nat × List Byte × Bool :=
  if r.data = [] then (r.status, r.detail, [], false)
  else if writeOk then (r.status, r.detail, r.data, true)
  else if r.changed then (r.status, r.detail, [], false)
  else (St.eArg, Dt.hifDataFault, [], false)

/-- Journal and post the completion, then EV.HIF.CMD_DONE if NOTIFY is set (R66, R73, R554). -/
def finish (vi : Nat) (e : Entry) (writeOk : Bool) (r : Reply) : State :=
  let ok := writeOk || !r.st.hif.linkUp
  let (st, dt, data, written) := resultWrite ok r
  let s := if r.data ≠ [] ∧ ¬ ok then count Cn.hifCmdErr vi 1 r.st else r.st
  let c : Compl := { cmdId := e.cmdId, status := st, detail := dt, dataWritten := written, resultLen := data.length,
                     result := fit 12 r.result }
  let s := s.modFn vi (fun f => f.record { compl := c, crc := e.crc })
  let s := postCompl vi { compl := c, data := data } s
  let s := if e.notifyFlag then notifyOne vi Ev.hifCmdDone (putLe 8 e.cmdId ++ putLe 2 st ++ putLe 2 dt ++ [0]) s else s
  drainCheck vi s

/-- Post a journaled completion again (Table HM-6, R74, R75), or one of the non-executing answers that journal nothing. -/
def answer (vi : Nat) (e : Entry) (c : Compl) (s : State) : State :=
  let s := postCompl vi { compl := c } s
  let s := if e.notifyFlag then
      notifyOne vi Ev.hifCmdDone (putLe 8 c.cmdId ++ putLe 2 c.status ++ putLe 2 c.detail ++ putLe 1 (b2n c.replayed)) s else s
  drainCheck vi s

/-- The answer to an entry at the head of an SQ that starts no execution (R65, Table HM-6); none when it is to execute. -/
def nonExecuting (vi : Nat) (e : Entry) (s : State) : Option State :=
  let f := s.fn vi
  let err (st dt cn : Nat) : State :=
    answer vi e { cmdId := e.cmdId, status := st, detail := dt } (count cn vi 1 s)
  match treat f e with
  | .replay j => some (answer vi e { j.compl with replayed := true, dataWritten := false } (count Cn.hifReplayed vi 1 s))
  | .mismatch => some (err St.eArg Dt.hifReplayMismatch Cn.hifCmdErr)
  | .order => some (err St.eArg Dt.hifIdOrder Cn.hifCmdErr)
  | .stale => some (err St.eStale Dt.hifNone Cn.hifStale)
  | .execute =>
    match cmdInfo e.opcode with
    | some _ => none
    | none => some (finish vi e true (.err (count Cn.hifCmdErr vi 1 s) St.eUnsupported Dt.hifBadOpcode))

/-- Serve the entries at the heads of the SQs that start no execution, until an executing one is next. -/
def settle : Nat → State → State
  | 0, s => s
  | fuel + 1, s =>
    if s.accepting && !s.blocked && !s.resumable then
      match s.nextServed with
      | none => s
      | some vi =>
        match (s.fn vi).sq with
        | [] => s
        | e :: _ =>
          let s0 := popSq vi { s with hif := { s.hif with served := some vi } }
          match nonExecuting vi e s0 with
          | none => s
          | some s1 => settle fuel s1
    else s

/-- Enough rounds for every waiting entry. -/
def State.settled (s : State) : State := settle (sumOf (mvals s.hif.fns) (fun f => f.sq.length)) s

/-! ### The checks before execution -/

/-- The families whose commands execute in phase FAIL (R95): HIF, DEV.STATUS, DEV.RESET, SEC, UPD. -/
def failAllows (op : Nat) : Bool :=
  decide (op / 256 = 0x01 ∨ op = 0x0201 ∨ op = 0x0203 ∨ op / 256 = 0x0D ∨ op / 256 = 0x0E)

/-- The commands of the ROM recovery set (R89, R494): of UPD.ACTIVATE only MODE cold (2); a MODE that is no mode at all is left to the
command's own check. -/
def inRecovery (c : CmdInfo) (e : Entry) : Bool := c.recov && !(c.op == 0x0E05 && e.p 24 1 == 1)

/-- The first check that fails, in the order of assumption log entry 7: recovery set, instance, issuer, phase FAIL, RESETTING, pair
standby, reserved fields, DATA_LEN, the read of the data buffer. -/
def preCheck (c : CmdInfo) (vi : Nat) (io : HostIo) (e : Entry) (s : State) : Option Reply :=
  let cmdErr := count Cn.hifCmdErr vi 1 s
  if s.hif.recovery && !inRecovery c e then some (.err s St.eUnsupported Dt.hifRecovery)
  else if c.issuer != .any && !s.created vi then some (.err cmdErr St.eState Dt.hifInstanceAbsent)
  else if c.issuer == .vi0 && vi != 0 then some (.err cmdErr St.eDenied Dt.hifNotPermitted)
  else if s.dev.phase == .fail && !failAllows c.op then some (.err s St.eState Dt.devFailed)
  else if decide ((s.inst vi).st = .resetting) && decide (c.op / 256 ≠ 1) then some (.err s St.eState Dt.viResetting)
  else if c.star && s.member && !s.holdsBung then some (.err s St.eState Dt.hifStandby)
  else if reservedNonzero c e then some (.err s St.eArg Dt.hifReservedNonzero)
  else if !dataAddrOk e then some (.err cmdErr St.eArg Dt.hifReservedNonzero)
  else if decide (e.dataLen < c.dataMin) || decide (1048576 < e.dataLen) then some (badLen vi s)
  else if c.reads && decide (0 < e.dataLen) && !io.readOk then some (.err cmdErr St.eArg Dt.hifDataFault)
  else none

/-- Whether the change is replicated to the standby before the completion (R37, R402): a starred command with OK on the ACTIVE unit. -/
def replicates (c : CmdInfo) (r : Reply) : Bool := c.star && decide (r.status = St.ok) && r.st.pair.st == .active

/-- Hand a replicated command to the journal stream: the command, its journal entry and the next mark (R402). Assumption log entry 169. -/
def sendJournal (vi : Nat) (e : Entry) (r : Reply) : State × Nat :=
  let s := r.st
  let n := s.pair.nextMark
  let recs := [JournalRec.command vi e r.status r.detail (fit 12 r.result), .mark n]
  let bytes := 64 + e.buf.length + 32 + 8
  let what := if e.opcode = 0x0602 then (s.tbl.epochs.getLast?.map Epoch.num).getD 0 else if e.opcode = 0x0703 then 2 ^ 16 else 0
  let s := { s with pair := { s.pair with nextMark := n + 1, unacked := s.pair.unacked ++ [(n, bytes, s.mono, what)] } }
  (s.emit (.journal recs), n)

/-- Park a command: what it completes with is kept until its wait ends (R67). -/
def park (vi : Nat) (e : Entry) (writeOk : Bool) (r : Reply) (w : Wait) (blocks : Bool) : State :=
  let p : Parked := { vi := vi, entry := e, writeOk := writeOk, status := r.status, detail := r.detail,
                      result := r.result, data := r.data, wait := w, blocks := blocks }
  { r.st with hif := { r.st.hif with parked := r.st.hif.parked ++ [p] } }

/-- Complete, park for a wait of the command's own, or park for replication. -/
def conclude (c : CmdInfo) (vi : Nat) (e : Entry) (writeOk : Bool) (r : Reply) : State :=
  match r.wait with
  | some (w, b) => park vi e writeOk r w b
  | none =>
    if replicates c r then
      let (s, n) := sendJournal vi e r
      park vi e writeOk { r with st := s } (.mark n) false
    else (finish vi e writeOk r).settled

/-- One command of a function's SQ: taken from the head, checked, executed and completed (R66). -/
def runCommand (op vi : Nat) (io : HostIo) (body : Body) (s : State) : State :=
  if s.canStart op vi then
    match (s.fn vi).sq, cmdInfo op with
    | e :: _, some c =>
      let s := popSq vi { s with hif := { s.hif with served := some vi } }
      let r := match preCheck c vi io e s with
        | some r => r
        | none => body vi e s
      conclude c vi e io.writeOk r
    | _, _ => s
  else s

/-- A parked command's own reply once its wait has ended. -/
def Parked.reply (p : Parked) (s : State) : Reply :=
  { st := s, status := p.status, detail := p.detail, result := p.result, data := p.data }

/-- Mark the parked commands that wait for a condition as resumable. -/
def wake (f : Wait → Bool) (s : State) : State :=
  { s with hif := { s.hif with parked := s.hif.parked.map (fun p => if f p.wait then { p with ready := true } else p) } }

end Sys2Proof.Machine
end

