-- ==== Sys2Proof/Machine/Records.lean ====
section
/-! DEFINITION. Fault records (R506–R510): opening a record, the end of its window, its losses. -/
namespace Sys2Proof.Machine

/-- Classes with no recovery window (Table IF-2): their records open HELD. Assumption log entry 16. -/
def noWindow (cls : Nat) : Bool := decide (cls ∈ [5, 8, 10, 13, 14, 18])

/-- SEVERITY of Table IF-3 before DOUBLE. -/
def classSeverity (cls : Nat) : Nat :=
  if cls ∈ [1, 3, 7, 10] then 1 else if cls = 8 ∨ cls = 11 then 3 else 2

/-- Recovery priority (Table IF-4); FIRMWARE, FAB_CELL and JCRC have none. -/
def classPriority (cls : Nat) : Option Nat :=
  if cls ∈ [1, 2] then some 1 else if cls ∈ [6, 8] then some 2 else if cls ∈ [3, 4] then some 3
  else if cls = 11 then some 4 else if cls = 12 then some 5 else if cls ∈ [13, 10, 7] then some 6
  else if cls = 9 then some 7 else if cls ∈ [15, 17] then some 8 else if cls = 18 then some 9 else none

/-- What runs a class's serialised step: the Q-die sequencer (0), the F-die sequencer (1), firmware (2) (assumption log entry 18). -/
def classRunners (cls : Nat) : List Nat :=
  if cls ∈ [1, 2] then [0, 1] else if cls ∈ [6, 8, 3, 4] then [0] else if cls ∈ [11, 12] then [1] else [2]

/-- Whether a new fault of class `a` preempts a running recovery of class `b` (R508). -/
def preempts (a b : Nat) : Bool :=
  match classPriority a, classPriority b with
  | some p, some q => decide (p < q) && (classRunners a).any (fun r => decide (r ∈ classRunners b))
  | _, _ => false

/-- The serialised step of a RECOVERING record is still to come (Table IF-4): the substitution or re-striping of the Wort Bridge, the first 10 µs of a
buffer pseudo-channel's failure, the reload or relocation of an ASA bank, the reload of a pipe, the copy of a table range. The other classes'
steps are done with the fault. -/
def State.stepPending (s : State) (r : FRec) : Bool :=
  r.st == 1 &&
    (if r.cls = 1 then s.flt.wb.any (fun g => g.1 / 8 == r.unit / 4096 && decide (r.unit % 4096 ∈ g.2.pendingRepair))
     else if r.cls = 2 then (mgetD s.flt.wb (r.unit / 4096 * 8 + r.unit % 4096) {}).restriping
     else if r.cls = 6 then decide (s.mono < r.lastAt + Config.us 10)
     else if r.cls = 9 then decide (r.unit ∈ s.flt.tblPcCopying)
     else if r.cls = 11 then
       (mgetD s.asa.banks r.unit {}).st == .reloading || (mgetD s.asa.banks r.unit {}).st == .failed
     else if r.cls = 12 then decide ((1, r.unit) ∈ s.dev.blockResets)
     else false)

/-- One record's step goes before another's on a sequencer or on firmware: a higher priority, or an equal one with the lower RECORD_ID (R508). -/
def FRec.before (a b : FRec) : Bool :=
  match classPriority a.cls, classPriority b.cls with
  | some p, some q => decide (p < q ∨ (p = q ∧ a.id < b.id)) && (classRunners a.cls).any (fun r => decide (r ∈ classRunners b.cls))
  | _, _ => false

/-- No recovery that goes before this one is running (R508): its step may end. A fault without a record in the log waits for none. -/
def State.recoveryTurn (s : State) (cls unit : Nat) : Bool :=
  match s.flt.log.find? (fun r => r.cls == cls && r.unit == unit && r.st == 1) with
  | none => true
  | some r => !s.flt.log.any (fun x => s.stepPending x && x.before r)

/-- Payload of EV.FLT.RECORD (R506). -/
def FRec.payload (r : FRec) : List Byte :=
  putLe 4 r.id ++ putLe 1 r.cls ++ putLe 1 r.st ++ putLe 2 r.unit ++ putLe 2 r.cause ++ zeros 2 ++ putLe 4 r.occurrences

/-- A change of the record with an ID. -/
def State.modRec (s : State) (id : Nat) (f : FRec → FRec) : State :=
  { s with flt := { s.flt with log := s.flt.log.map (fun r => if r.id = id then f r else r) } }

/-- The record that a fault of a class on a unit is added to: RECOVERING or HELD (R506). -/
def State.standing (s : State) (cls unit : Nat) : Option FRec :=
  s.flt.log.find? (fun r => r.cls == cls && r.unit == unit && r.st != 3)

/-- The oldest RECOVERING record (R509). -/
def State.recovering (s : State) : Option FRec := s.flt.log.find? (fun r => r.st == 1)

/-- Whether a record of a class is RECOVERING. -/
def State.inWindow (s : State) (cls unit : Nat) : Bool := s.flt.log.any (fun r => r.cls == cls && r.unit == unit && r.st == 1)

/-- Store a record: 1,024 places, then in place of the oldest CLOSED one; none when no record is CLOSED (R507). Assumption log entry 17. -/
def storeRec (log : List FRec) (r : FRec) : Option (List FRec) :=
  if log.length < 1024 then some (log ++ [r])
  else match log.find? (fun x => x.st == 3) with
    | some old => some (log.filter (fun x => decide (x.id ≠ old.id)) ++ [r])
    | none => none

/-- A fault of a class on a unit is detected: it joins a standing record, or opens one (R506, R507, R509). Assumption log entry 122. -/
def openFault (cls unit cause detail occurrences : Nat) (injected : Bool) (s : State) : State :=
  match s.standing cls unit with
  | some r =>
    s.modRec r.id (fun r => { r with occurrences := (r.occurrences + occurrences) % 2 ^ 32, lastAt := s.mono,
                                     st := if noWindow cls then r.st else 1,
                                     windowEnd := if noWindow cls then r.windowEnd else 0,
                                     injected := r.injected || injected })
  | none =>
    let partner := (s.recovering.map FRec.id).getD 0
    let interrupt := if cls ∈ [13, 14, 15, 16, 18] then 0 else Config.freeNat s.draw
    let s := s.drawn
    let r : FRec := { id := s.flt.nextId, cls := cls, st := if noWindow cls then 2 else 1,
                      severity := if partner ≠ 0 then 3 else classSeverity cls, injected := injected,
                      double := decide (partner ≠ 0), unit := unit, cause := cause, partner := partner,
                      detectNs := s.monoNs, detectTime := s.timeNs,
                      windowEnd := if noWindow cls then s.monoNs else 0, occurrences := occurrences,
                      detail := detail, lastAt := s.mono, interrupt := interrupt }
    let s := { s with flt := { s.flt with log := s.flt.log.map (fun x =>
      if x.st == 1 && preempts cls x.cls then { x with preempted := true } else x) } }
    match storeRec s.flt.log r with
    | none => count Cn.fltLogLost 0 1 s
    | some log =>
      let s := { s with flt := { s.flt with log := log, nextId := s.flt.nextId + 1,
                                            doubles := s.flt.doubles + (if r.double then 1 else 0) } }
      notify (Ev.fltRecord.1, r.severity) r.payload [] (count Cn.fltRecords cls 1 s)

/-- A fault with one occurrence and no detail. -/
def fault (cls unit cause : Nat) (s : State) : State := openFault cls unit cause 0 1 false s

/-- The end of a record's recovery window: it becomes HELD and EV.FLT.RECORD is raised again (R506). -/
def endWindow (cls unit : Nat) (s : State) : State :=
  match s.flt.log.find? (fun r => r.cls == cls && r.unit == unit && r.st == 1) with
  | none => s
  | some r =>
    let r := { r with st := 2, windowEnd := s.monoNs }
    notify (Ev.fltRecord.1, r.severity) r.payload [] (s.modRec r.id (fun _ => r))

/-- Packets discarded under R44 with a class: FLT_PKT_DISCARD and the record's PKT_DISCARD (R43, Table IF-3). -/
def discardUnder (cls unit n : Nat) (s : State) : State :=
  if n = 0 then s
  else
    let s := match s.standing cls unit with
      | some r => s.modRec r.id (fun r => { r with discards := r.discards + n })
      | none => s
    count Cn.fltPktDiscard cls n s

/-- A record's partner of a class set in a double fault that is not over: one of the two is RECOVERING. -/
def State.partnerIn (s : State) (first : List Nat) (r : FRec) : Option FRec :=
  s.flt.log.find? (fun p => p.id == r.partner && decide (p.cls ∈ first) && (r.st == 1 || p.st == 1))

/-- The later record of a double fault of two class sets, and its partner of the other set. -/
def State.doublePair (s : State) (later first : List Nat) : Option (FRec × FRec) :=
  match s.flt.log.filter (fun r => r.double && r.st != 3 && decide (r.cls ∈ later) && (s.partnerIn first r).isSome) |>.getLast? with
  | none => none
  | some r => (s.partnerIn first r).map (fun p => (r, p))

/-- The records that a loss inside a double fault names (R43): where the later fault joined a record that already stood, that record. -/
def State.lossPair (s : State) (later first : List Nat) : Option (FRec × FRec) :=
  match s.doublePair later first with
  | some x => some x
  | none => (s.flt.log.find? (fun p => p.st == 1 && decide (p.cls ∈ first))).map (fun p =>
      ((s.flt.log.filter (fun r => r.st != 3 && decide (r.cls ∈ later))).getLast?.getD p, p))

/-- Packets lost under R510: DOUBLE_FAULT_LOSS, the later record's DOUBLE_LOSS, and EV.FLT.DOUBLE at the first. -/
def doubleLoss (later first : List Nat) (n : Nat) (s : State) : State :=
  if n = 0 then s
  else match s.lossPair later first with
    | none => count Cn.doubleFaultLoss 0 n s
    | some (r, p) =>
      let s := count Cn.doubleFaultLoss 0 n (s.modRec r.id (fun x => { x with doubleLoss := x.doubleLoss + n }))
      if r.id ∈ s.flt.dblEventFor then s
      else notify Ev.fltDouble (putLe 4 r.id ++ putLe 4 p.id ++ putLe 1 r.cls ++ putLe 1 p.cls) []
             { s with flt := { s.flt with dblEventFor := s.flt.dblEventFor ++ [r.id] } }

/-- The classes of fabric faults (Table IF-5). -/
def fabricClasses : List Nat := [3, 4, 5]

/-- One occurrence of an armed injection on a target and unit (R511): whether it strikes, and the state with one fewer left. -/
def takeArmed (target unit : Nat) (s : State) : Bool × State :=
  match s.flt.armed.find? (fun a => a.target == target && a.unit == unit) with
  | none => (false, s)
  | some a =>
    let a' := { a with left := a.left - 1 }
    let l := s.flt.armed.map (fun x => if x.target == target && x.unit == unit then a' else x)
    (true, { s with flt := { s.flt with armed := l.filter (fun x => decide (0 < x.left)) } })

end Sys2Proof.Machine
end

