-- ==== Sys2Proof/Machine/CellOps.lean ====
section
/-! DEFINITION. Cells and control entries: planes and masks (R110, R311, R329), the units behind a SUN (R388), cells (R315–R318, Tables
FB-2 to FB-4), and the pair entries (Table PR-1). -/
namespace Sys2Proof.Machine

def State.modFab (s : State) (f : Fab → Fab) : State := { s with fab := f s.fab }

/-! ### Planes, lanes and masks -/

def State.plane (s : State) (p : Nat) : Plane := mgetD s.fab.planes p {}
def State.modPlane (s : State) (p : Nat) (f : Plane → Plane) : State := s.modFab (fun x => { x with planes := mmod x.planes p {} f })
def State.planeCfg (s : State) (p : Nat) : PlaneCfg := mgetD s.fab.cfg.planes p {}
def State.lane (s : State) (l : Nat) : Lane := mgetD s.fab.lanes l {}
def State.modLane (s : State) (l : Nat) (f : Lane → Lane) : State := s.modFab (fun x => { x with lanes := mmod x.lanes l {} f })

/-- A plane's lane list (R311). -/
def State.planeLanes (s : State) (p : Nat) : List Nat :=
  let c := s.planeCfg p
  if c.lanes = [] then upFrom (10 * p) 10 else c.lanes

/-- The enabled plane whose list holds a lane. -/
def State.planeOf (s : State) (l : Nat) : Option Nat :=
  (List.range 16).find? (fun p => (s.planeCfg p).enabled && decide (l ∈ s.planeLanes p))

/-- A lane carries frames: trained, not excluded, not down. -/
def Lane.inUse (l : Lane) : Bool := l.trained && !l.excluded && !l.down
def State.lanesUp (s : State) (p : Nat) : List Nat := (s.planeLanes p).filter (fun l => (s.lane l).inUse)

def State.planeUp (s : State) (p : Nat) : Bool := (s.plane p).st == .up
def State.planesUp (s : State) : List Nat := (List.range 16).filter s.planeUp

def sunKey (plane sun : Nat) : Nat := plane * 2048 + sun

/-- The UP planes that list a SUN (R110); this unit's own SUN is behind every UP plane by its loop path (R343). -/
def State.planeMask (s : State) (sun : Nat) : List Nat :=
  s.planesUp.filter (fun p => sun == s.dev.cfg.sun || mhas s.fab.listings (sunKey p sun))
def State.present (s : State) (sun : Nat) : Bool := s.planeMask sun != []
/-- The mask without the planes suspect for the SUN (R329). -/
def State.sprayMask (s : State) (sun : Nat) : List Nat := (s.planeMask sun).filter (fun p => !mhas s.fab.suspect (sunKey p sun))

/-! ### Units and streams -/

/-- The members that announce a pair SUN, this unit among them (R388). -/
def State.membersOf (s : State) (sun : Nat) : List Nat :=
  let own := if (s.pair.cfg.pair.map PairCfg.pairSun) = some sun then [s.dev.cfg.sun] else []
  own ++ (s.pair.heard.filter (fun h => h.2.pairSun == sun && h.1 != s.dev.cfg.sun)).map (fun h => h.1)

/-- The units a cell for a SUN goes to: the present members of a pair SUN, or the unit itself. -/
def State.targets (s : State) (sun : Nat) : List Nat :=
  match s.membersOf sun with
  | [] => [sun]
  | l => l.filter s.present

/-- The SUN that owns a system port (R319). -/
def State.spSun (s : State) (sp : Nat) : Option Nat := (mget s.fab.cfg.spmap sp).map SpEntry.sun
def State.spTargets (s : State) (sp : Nat) : List Nat := match s.spSun sp with | none => [] | some x => s.targets x

def streamKey (sun sp tc : Nat) : Nat := sun * 2 ^ 18 + sp * 8 + tc
def State.txStream (s : State) (k : Nat) : Nat × Bool := (mget s.fab.txs k).getD (0, true)
def State.setTx (s : State) (k : Nat) (x : Nat × Bool) : State := s.modFab (fun f => { f with txs := mset f.txs k x })

/-- The stream SUN of a packet: a paired port's STREAM_SUN, else the unit's own (R31). -/
def State.streamSun (s : State) (k : Pkt) : Nat :=
  if k.arrival.isSome then ((mget s.pair.cfg.ports k.inPort).map PairPortCfg.stream).getD s.dev.cfg.sun else s.dev.cfg.sun

/-! ### Cells and control entries -/

/-- PCRC over the 256 payload bytes. -/
def pcrcOf (payload : List Byte) : Word := crc32c (fit 256 payload)

/-- FILL of Table FB-2. -/
def fillOf (n : Nat) : Nat := n % 256
def cellUsed (c : Cell) : Nat := if c.fill = 0 then 256 else c.fill
/-- The control entries of a CTRL cell. -/
def cellEntries (c : Cell) : List (List Byte) := chunks 16 (if c.fill % 16 = 0 then 16 else c.fill % 16) c.payload

def tokenEntry (kind stream sp tc first count : Nat) : List Byte :=
  putBe 1 kind ++ [0] ++ putBe 2 stream ++ putBe 2 sp ++ putBe 1 tc ++ putBe 3 (first % 2 ^ 24) ++ putBe 1 count ++ zeros 5
def requestEntryBytes (sp tc : Nat) (paired : Bool) (backlog : Nat) : List Byte :=
  putBe 1 3 ++ [0] ++ putBe 2 sp ++ putBe 1 tc ++ putBe 1 (b2n paired) ++ putBe 4 (sat 32 backlog) ++ zeros 6
def creditEntryBytes (sp tc cells : Nat) : List Byte := putBe 1 4 ++ [0] ++ putBe 2 sp ++ putBe 1 tc ++ [0] ++ putBe 2 cells ++ zeros 8
def ackEntryBytes (control : Bool) (stream sp tc cum : Nat) (bitmap : Word) : List Byte :=
  putBe 1 5 ++ putBe 1 (b2n control) ++ putBe 2 stream ++ putBe 2 sp ++ putBe 1 tc ++ putBe 3 (cum % 2 ^ 24) ++ putBe 4 bitmap.toNat ++ zeros 2

/-- TYPE of Table FB-2; the other codes are reserved. -/
def cellCode : CellType → Nat
  | .idle => 0 | .data => 1 | .ctrl => 2 | .reach => 3
def cellType? (n : Nat) : Option CellType :=
  match n with | 0 => some .idle | 1 => some .data | 2 => some .ctrl | 3 => some .reach | _ => none

/-- The 16-byte header of a cell (Table FB-2), big-endian. -/
def cellHeader (c : Cell) : List Byte :=
  putBe 16 (cellCode c.kind * 2 ^ 124 + flag c.prov 123 + flag c.active 122 + flag c.paired 121 + flag c.start 120 + flag c.retx 119
    + flag c.reliable 118 + c.dest % 2048 * 2 ^ 107 + c.src % 2048 * 2 ^ 96 + c.stream % 2048 * 2 ^ 85 + c.sp % 2 ^ 15 * 2 ^ 70
    + c.tc % 8 * 2 ^ 67 + c.seq % 2 ^ 24 * 2 ^ 43 + c.fill % 256 * 2 ^ 35 + c.pcrc.toNat)
def cellBytes (c : Cell) : List Byte := cellHeader c ++ fit 256 c.payload

/-- A cell read from its 272 bytes; none with a reserved TYPE (R315). -/
def readCell (b : List Byte) : Option Cell :=
  let v := be b 0 16
  (cellType? (bits v 127 124)).map (fun k =>
    { kind := k, prov := bit v 123, active := bit v 122, paired := bit v 121, start := bit v 120, retx := bit v 119, reliable := bit v 118,
      dest := bits v 117 107, src := bits v 106 96, stream := bits v 95 85, sp := bits v 84 70, tc := bits v 69 67, seq := bits v 66 43,
      fill := bits v 42 35, pcrc := BitVec.ofNat 32 (bits v 31 0), payload := (b.drop 16).take 256 })

/-! ### Link frames (R312, Table FB-1) -/

def idleCell : Cell := ⟨.idle, false, false, false, false, false, false, 0, 0, 0, 0, 0, 0, 0, pcrcOf [], zeros 256⟩

/-- How many frames a lane has begun since it trained: 17,600 bits at 212.5 Gb/s each. -/
def frameSlot (trainedAt now : Nat) : Nat := (now - trainedAt) * 17 / 14080

/-- Eight cells, idle ones where there are none to send. -/
def fillFrame (l : List Cell) : List Cell := (l ++ List.replicate 8 idleCell).take 8

/-- The bytes of a frame: FRAME_HDR, cells, and TAG, which is the CRC-32C with encryption off (R312, R314; assumption log entry 147). -/
def linkFrameBytes (lane : Nat) (key : Option (Nat × Nat)) (slot number : Nat) (cells : List Cell) : List Byte :=
  let hdr := putBe 8 (slot % 2 * 2 ^ 63 + number % 2 ^ 63)
  let body := (fillFrame cells).flatMap cellBytes
  match key with
  | some (plane, gen) => hdr ++ fit 2192 (Config.linkSeal plane gen (putBe 4 lane ++ hdr) hdr body)
  | none => hdr ++ body ++ putBe 4 (crc32c (hdr ++ body)).toNat ++ zeros 12

/-- The lane of a plane that takes a cell: one in use with the fewest cells waiting, the first among equals (assumption log entry 147). -/
def State.cellLane (s : State) (plane : Nat) : Option Nat :=
  (s.lanesUp plane).foldl (fun (b : Option Nat) l => match b with
    | none => some l
    | some k => if (s.lane l).txCells.length < (s.lane k).txCells.length then some l else some k) none

/-- A cell waits for a frame of a lane of its plane; one for this unit turns back by the plane's loop path, and reaches Racking in 150 ns
(R343). Assumption log entry 60. -/
def queueCell (plane : Nat) (c : Cell) (s : State) : State :=
  if c.dest = s.dev.cfg.sun then s.modFab (fun f => { f with loop := f.loop ++ [(s.mono + Config.ns 150, plane, c)] })
  else match s.cellLane plane with
  | none => s
  | some l => s.modLane l (fun x => { x with txCells := x.txCells ++ [c] })

/-- Cells in a plane interface's transmit FIFO: those that wait behind the frames being filled (R324). -/
def State.fifo (s : State) (plane : Nat) : Nat := sumOf (s.lanesUp plane) (fun l => (s.lane l).txCells.length - 8)

/-- A lane's cells are taken from it. -/
def takeCells (lane : Nat) (s : State) : List Cell × State :=
  ((s.lane lane).txCells, if (s.lane lane).txCells = [] then s else s.modLane lane (fun l => { l with txCells := [] }))

def State.modLink (s : State) (l : Nat) (f : Link → Link) : State := { s with sec := { s.sec with links := mmod s.sec.links l {} f } }
def State.link (s : State) (l : Nat) : Link := mgetD s.sec.links l {}

/-- A handshake starts over the link's management channel. -/
def startHandshake (l : Nat) (s : State) : State :=
  (s.modLink l (fun x => { x with running := true, ephemeral := false, retryAt := none })).emit (.handshake l)

/-- A lane's frame ends: it leaves if it carries a cell, and counts (R349); frame number 2^62 asks for a rekey (R461). -/
def endFrame (lane : Nat) (l : Lane) (s : State) : State :=
  let s := bump (winEvent 3 1) lane 1 s
  let plane := (s.planeOf lane).getD 16
  let s := if frameSlot l.trainedAt s.mono = 2 ^ 62 ∧ (s.link plane).keyed ∧ !(s.link plane).running then startHandshake plane s else s
  if l.txCells = [] then s
  else
    let x := s.link plane
    let key := if (s.planeCfg plane).encrypt then some (plane, x.gen) else none
    (s.modLane lane (fun l => { l with txCells := l.txCells.drop 8 })).emit
      (.linkFrame lane (linkFrameBytes lane key x.slot (frameSlot l.trainedAt s.mono) l.txCells))

/-- Every lane whose frame ends within the tick. -/
def linkTick (s : State) : State :=
  foldS (s.fab.lanes.filter (fun e => e.2.inUse)) s (fun e s =>
    if frameSlot e.2.trainedAt s.mono < frameSlot e.2.trainedAt (s.mono + Config.tick) then endFrame e.1 e.2 s else s)

/-- A list of bytes with one bit inverted. -/
def flipBit (b : List Byte) (i : Nat) : List Byte := patch b (i / 8) [byteAt b (i / 8) ^^^ BitVec.ofNat 8 (2 ^ (i % 8))]

/-- A cell leaves on a plane (FAB_CELLS_TX), with a payload bit flipped while an injection is armed (target 2 of Table IF-6; which bit
is a free value). -/
def sendCell (plane : Nat) (c : Cell) (s : State) : State :=
  let (hit, s) := takeArmed 2 plane s
  let s := count Cn.fabCellsTx plane 1 s
  if hit then
    let c := { c with payload := flipBit c.payload (Config.freeNat s.draw % 2048) }
    (queueCell plane c (s.emit (.cell plane c))).drawn
  else queueCell plane c (s.emit (.cell plane c))

/-- ACK, ANNOUNCE and BUNG entries are unreliable, every other kind is reliable (R318, R416). -/
def isReliable (entries : List (List Byte)) : Bool := entries.any (fun e => decide (be e 0 1 ∉ [5, 7, 8]))

/-- A CTRL cell to a unit (R318): a reliable one takes a control number and is kept until acknowledged. Assumption log entry 55. -/
def sendCtrl (dest : Nat) (entries : List (List Byte)) (s : State) : State :=
  let rel := isReliable entries
  let seq := mgetD s.fab.ctlNext dest 0
  let payload := fit 256 (entries.flatMap (fun e => e))
  let c : Cell := { kind := .ctrl, prov := false, active := false, paired := false, start := false, retx := false, reliable := rel,
                    dest := dest, src := s.dev.cfg.sun, stream := 0, sp := 0, tc := 0, seq := if rel then seq else 0,
                    fill := entries.length % 16, pcrc := pcrcOf payload, payload := payload }
  let plane := (s.sprayMask dest).head?
  let s := if rel then
      let copy : Nat × Nat × List Nat × Nat × Bool := match plane with
        | some p => (dest, 1, [p], s.mono, false)
        | none => (dest, 0, [], s.mono, true)
      s.modFab (fun f => { f with ctlNext := mset f.ctlNext dest ((seq + 1) % 2 ^ 24), nextKey := f.nextKey + 1,
                                  retention := f.retention ++ [{ key := f.nextKey, cell := c, copies := [copy], entries := entries }] })
    else s
  match plane with
  | some p => sendCell p c s
  | none => s

/-- One control entry to every unit in a list. -/
def sendEntry (dests : List Nat) (e : List Byte) (s : State) : State := foldS dests s (fun d s => sendCtrl d [e] s)

/-- Ranges of at most 255 numbers. -/
def tokenRanges : Nat → Nat → Nat → List (Nat × Nat)
  | 0, _, _ => []
  | fuel + 1, first, n =>
    if n = 0 then [] else (first, min n 255) :: tokenRanges fuel ((first + 255) % 2 ^ 24) (n - 255)

/-- CONFIRM (1) or VOID (2) for consecutive numbers of a stream, to every unit behind the system port (R234, R328, R385). -/
def sendToken (kind stream sp tc first n : Nat) (s : State) : State :=
  foldS (tokenRanges 300 first n) s (fun r s => sendEntry (s.spTargets sp) (tokenEntry kind stream sp tc r.1 r.2) s)

/-- VOID for a paired packet's numbers (R385). -/
def voidNumbers (k : VPkt) (s : State) : State :=
  match k.number with
  | none => s
  | some n =>
    let cells := ceilDiv (16 + k.pkt.bytes.length) 256
    count Cn.pairVoidSent k.pkt.inPort 1 (sendToken 2 (s.streamSun k.pkt) k.res.destSp k.res.tc n cells s)

/-! ### Pair entries (Table PR-1) -/

def State.partnerOf (s : State) : Nat := (s.pair.cfg.pair.map PairCfg.partner).getD 0xFFFF
def State.peerUp (s : State) : Bool := s.pair.peerLanes != []

/-- A pair entry leaves on the peer link, or as a control entry to the partner while the peer link is down (R416). -/
def sendPeer (e : List Byte) (s : State) : State := if s.peerUp then s.emit (.peer e) else sendCtrl s.partnerOf [e] s

def reconEntryBytes (kind stream arrival sp tc seq : Nat) : List Byte :=
  putBe 1 9 ++ putBe 1 kind ++ putBe 2 stream ++ putBe 6 arrival ++ putBe 2 sp ++ putBe 1 tc ++ putBe 3 (seq % 2 ^ 24)
def bungEntryBytes (kind gen number : Nat) : List Byte := putBe 1 8 ++ putBe 1 kind ++ putBe 4 gen ++ putBe 4 number ++ zeros 6
def announceEntryBytes (a : Announce) : List Byte :=
  putBe 1 7 ++ [0] ++ putBe 2 a.pairSun ++ putBe 2 a.sun ++ putBe 4 a.gen
    ++ putBe 1 (flag a.bung 0 + flag a.fenced 1 + flag a.synced 2) ++ zeros 5
def divergeEntryBytes (stream sp tc seq reporter : Nat) : List Byte :=
  putBe 1 6 ++ [0] ++ putBe 2 stream ++ putBe 2 sp ++ putBe 1 tc ++ putBe 3 (seq % 2 ^ 24) ++ putBe 2 reporter ++ zeros 4

/-- MARK in the 16-byte form, and in the short form of the peer link (Tables PR-1, PR-11). -/
def markEntryBytes (stream sp tc seq : Nat) : List Byte :=
  putBe 1 10 ++ [0] ++ putBe 2 stream ++ putBe 2 sp ++ putBe 1 tc ++ putBe 3 (seq % 2 ^ 24) ++ zeros 6
def shortMarkBytes (port sp tc seq : Nat) : List Byte :=
  putBe 8 (0xA * 2 ^ 60 + port % 128 * 2 ^ 53 + tc % 8 * 2 ^ 50 + sp % 2 ^ 15 * 2 ^ 35 + seq % 2 ^ 24 * 2 ^ 11)

/-- The paired port whose packets form a stream. -/
def State.portOfStream (s : State) (stream : Nat) : Option Nat := (s.pair.cfg.ports.find? (fun e => e.2.stream == stream)).map (fun e => e.1)

/-- A MARK for a frame (R391, R392): on the peer link in the short form where the stream is a paired port's (assumption log entry 74);
while the peer link is down, through the fabric at most once per stream and microsecond, a later one standing for those before it. -/
def sendMark (k seq : Nat) (s : State) : State :=
  let stream := k / 2 ^ 18
  let sp := k / 8 % 32768
  if s.peerUp then
    match s.portOfStream stream with
    | some q => s.emit (.peer (shortMarkBytes q sp (k % 8) seq))
    | none => s.emit (.peer (markEntryBytes stream sp (k % 8) seq))
  else if (match mget s.pair.markAt k with | none => true | some t => s.due (t + Config.us 1)) then
    sendCtrl s.partnerOf [markEntryBytes stream sp (k % 8) seq]
      { s with pair := { s.pair with markAt := mset s.pair.markAt k s.mono, markDue := mdel s.pair.markDue k } }
  else { s with pair := { s.pair with markDue := mset s.pair.markDue k seq } }

/-- Marks held back that may leave now. -/
def flushMarks (s : State) : State := foldS s.pair.markDue s (fun e s => sendMark e.1 e.2 s)

/-- A frame of a SHARED port left, was re-homed or flushed at the active: its MARK goes to the standby (R391). -/
def markGone (port : Nat) (k seq : Nat) (s : State) : State :=
  if s.pair.st == .active && ((mget s.pair.cfg.ports port).map PairPortCfg.txMode) == some 2 then sendMark k seq s else s

end Sys2Proof.Machine
end

