-- ==== Sys2Proof/Machine/Parse.lean ====
section
/-! DEFINITION. Mill's parser (R178, R179, Table PL-1): the headers of a frame as a list, layers as suffixes of it, the flow hash, the
flow-cache CHECK (R220), the built-in punt classes (R182, R103) and the key fields that lookups take (Table PL-4, Table AS-1). -/
namespace Sys2Proof.Machine

/-- An Ethernet header with its VLAN tags as (PCP, VID), the EtherType after them, and the DSAP byte of an LLC frame. -/
structure EthHdr where
  dmac : Nat := 0
  smac : Nat := 0
  tags : List (Nat × Nat) := []
  etype : Nat := 0
  llc : Nat := 0
deriving DecidableEq, Repr

/-- An IP header with its layer-4 fields; `off` is its place in the frame. `frag`: 0 none, 1 first, 2 later fragment. -/
structure IpHdr where
  v6 : Bool := false
  off : Nat := 0
  src : Nat := 0
  dst : Nat := 0
  proto : Nat := 0
  dscp : Nat := 0
  ttl : Nat := 0
  frag : Nat := 0
  options : Bool := false
  flow : Nat := 0
  ports : Option (Nat × Nat) := none
  tcpFlags : Nat := 0
  icmp : Option Nat := none
  /-- Where its layer-4 header begins, and that the frame was cut off before the end of it or of an extension header (R179). -/
  l4off : Nat := 0
  cut : Bool := false
deriving DecidableEq, Repr

inductive Hdr where
  | eth (h : EthHdr)
  | mpls (label exp ttl : Nat)
  | ip (h : IpHdr)
deriving DecidableEq, Repr

/-- What the parser expects at its place. -/
inductive Expect where
  | eth | etype (t tags : Nat) | mpls (left : Nat) | ip4 | ip6 | ext (nh left : Nat) | l4 (proto : Nat) | gre | vxlan | stop
deriving DecidableEq, Repr

structure Parse where
  hdrs : List Hdr := []
  off : Nat := 0
  /-- Headers (of 16) and tunnel levels (of 1) still allowed. -/
  left : Nat := 16
  tunnels : Nat := 1
  trunc : Bool := false
  err : Bool := false
deriving DecidableEq, Repr

/-- The last header changed. -/
def Parse.modLast (p : Parse) (f : Hdr → Hdr) : Parse :=
  match p.hdrs.getLast? with
  | none => p
  | some h => { p with hdrs := p.hdrs.dropLast ++ [f h] }

def Hdr.mapEth (f : EthHdr → EthHdr) : Hdr → Hdr | .eth h => .eth (f h) | h => h
def Hdr.mapIp (f : IpHdr → IpHdr) : Hdr → Hdr | .ip h => .ip (f h) | h => h

def Parse.stopTrunc (p : Parse) : Expect × Parse := (.stop, { p with trunc := true })
/-- The window ends inside an extension header or the layer-4 header of the last IP header. -/
def Parse.stopCut (p : Parse) : Expect × Parse := Parse.stopTrunc (p.modLast (Hdr.mapIp (fun h => { h with cut := true })))
def Parse.stopErr (p : Parse) : Expect × Parse := (.stop, { p with err := true })

/-- One more header of `n` bytes, if the window (`w` bytes) and the limit of 16 allow it. -/
def Parse.room (p : Parse) (w n : Nat) : Bool := decide (p.off + n ≤ w ∧ 0 < p.left)
def Parse.push (p : Parse) (n : Nat) : Parse := { p with off := p.off + n, left := p.left - 1 }

/-- The one's complement sum of the 16-bit words of a header. -/
def onesSum : List Byte → Nat
  | a :: b :: t => a.toNat * 256 + b.toNat + onesSum t
  | [a] => a.toNat * 256
  | [] => 0
def fold16 (n : Nat) : Nat := let m := n % 65536 + n / 65536; m % 65536 + m / 65536

/-- A tunnel is entered, at most one level (Table PL-1). -/
def Parse.tunnel (p : Parse) (e : Expect) : Expect × Parse :=
  if p.tunnels = 0 then p.stopTrunc else (e, { p with tunnels := p.tunnels - 1 })

/-- What follows an EtherType. -/
def afterType (t tags : Nat) : Expect :=
  if t = 0x8100 ∨ t = 0x88A8 ∨ t = 0x9100 then .etype t tags
  else if t = 0x8847 then .mpls 8 else if t = 0x0800 then .ip4 else if t = 0x86DD then .ip6 else .stop

/-- One parsing step: `b` the frame, `w` the bytes of the parse window, `n` the frame's bytes before the FCS. -/
def parseStep (b : List Byte) (w n : Nat) (e : Expect) (p : Parse) : Expect × Parse :=
  match e with
  | .stop => (.stop, p)
  | .eth =>
    if !p.room w 14 then p.stopTrunc
    else
      let t := be b (p.off + 12) 2
      let h : EthHdr := { dmac := be b p.off 6, smac := be b (p.off + 6) 6, etype := t,
                          llc := if t ≤ 1500 then be b (p.off + 14) 1 else 0 }
      (afterType t 2, { p.push 14 with hdrs := p.hdrs ++ [.eth h] })
  | .etype _ tags =>
    if tags = 0 ∨ !p.room w 4 then p.stopTrunc
    else
      let tci := be b p.off 2
      let t := be b (p.off + 2) 2
      let llc := if t ≤ 1500 then be b (p.off + 4) 1 else 0
      (afterType t (tags - 1), (p.push 4).modLast (Hdr.mapEth (fun h =>
        { h with tags := h.tags ++ [(tci / 8192, tci % 4096)], etype := t, llc := llc })))
  | .mpls left =>
    if left = 0 ∨ !p.room w 4 then p.stopTrunc
    else
      let v := be b p.off 4
      let p := { p.push 4 with hdrs := p.hdrs ++ [.mpls (v / 4096) (v / 512 % 8) (v % 256)] }
      if v / 256 % 2 = 0 then (.mpls (left - 1), p)
      else
        let nib := if p.off < w then be b p.off 1 / 16 else 0
        if nib = 4 then (.ip4, p) else if nib = 6 then (.ip6, p) else (.stop, p)
  | .ip4 =>
    if !p.room w 20 then p.stopTrunc
    else
      let ihl := be b p.off 1 % 16
      if ihl < 5 then p.stopErr
      else if !p.room w (4 * ihl) then p.stopTrunc
      else if fold16 (onesSum (bytesAt b p.off (4 * ihl))) ≠ 65535 ∨ n < p.off + be b (p.off + 2) 2 then p.stopErr
      else
        let ff := be b (p.off + 6) 2
        let frag := if ff % 8192 ≠ 0 then 2 else if ff / 8192 % 2 = 1 then 1 else 0
        let proto := be b (p.off + 9) 1
        let h : IpHdr := { off := p.off, src := be b (p.off + 12) 4, dst := be b (p.off + 16) 4, proto := proto,
                           dscp := be b (p.off + 1) 1 / 4, ttl := be b (p.off + 8) 1, frag := frag, options := decide (5 < ihl) }
        let p := { p.push (4 * ihl) with hdrs := p.hdrs ++ [.ip h] }
        if frag = 2 then (.stop, p) else (.l4 proto, p)
  | .ip6 =>
    if !p.room w 40 then p.stopTrunc
    else if n < p.off + 40 + be b (p.off + 4) 2 then p.stopErr
    else
      let v := be b p.off 4
      let h : IpHdr := { v6 := true, off := p.off, src := be b (p.off + 8) 16, dst := be b (p.off + 24) 16,
                         dscp := v / 2 ^ 22 % 64, ttl := be b (p.off + 7) 1, flow := v % 2 ^ 20 }
      (.ext (be b (p.off + 6) 1) 4, { p.push 40 with hdrs := p.hdrs ++ [.ip h] })
  | .ext nh left =>
    if nh = 0 ∨ nh = 43 ∨ nh = 44 ∨ nh = 60 then
      if left = 0 ∨ !p.room w 8 then p.stopCut
      else
        let len := if nh = 44 then 8 else (be b (p.off + 1) 1 + 1) * 8
        if !p.room w len then p.stopCut
        else
          let next := be b p.off 1
          let ff := be b (p.off + 2) 2
          let q := p.push len
          if nh = 44 then
            let frag := if ff / 8 ≠ 0 then 2 else if ff % 2 = 1 then 1 else 0
            let q := q.modLast (Hdr.mapIp (fun h => { h with frag := frag, proto := next }))
            if frag = 2 then (.stop, q) else (.ext next (left - 1), q)
          else (.ext next (left - 1), q)
    else (.l4 nh, p.modLast (Hdr.mapIp (fun h => { h with proto := nh })))
  | .l4 proto =>
    if proto = 6 then
      if !p.room w 20 then p.stopCut
      else (.stop, (p.push 20).modLast (Hdr.mapIp (fun h =>
        { h with ports := some (be b p.off 2, be b (p.off + 2) 2), tcpFlags := be b (p.off + 13) 1 })))
    else if proto = 17 then
      if !p.room w 8 then p.stopCut
      else
        let dp := be b (p.off + 2) 2
        let q := (p.push 8).modLast (Hdr.mapIp (fun h => { h with ports := some (be b p.off 2, dp), l4off := p.off }))
        if dp = 4789 then q.tunnel .vxlan else if dp = 6635 then q.tunnel (.mpls 8) else (.stop, q)
    else if proto = 1 ∨ proto = 58 then
      if !p.room w 4 then p.stopCut
      else (.stop, (p.push 4).modLast (Hdr.mapIp (fun h => { h with icmp := some (be b p.off 1) })))
    else if proto = 47 then p.tunnel .gre
    else if proto = 4 then p.tunnel .ip4
    else if proto = 41 then p.tunnel .ip6
    else (.stop, p)
  | .gre =>
    if !p.room w 4 then p.stopTrunc
    else
      let fl := be b p.off 2
      let len := 4 + (if fl / 32768 % 2 = 1 then 4 else 0) + (if fl / 8192 % 2 = 1 then 4 else 0) + (if fl / 4096 % 2 = 1 then 4 else 0)
      let t := be b (p.off + 2) 2
      if !p.room w len then p.stopTrunc
      else if t = 0x6558 then (.eth, p.push len)
      else (afterType t 0, p.push len)
  | .vxlan => if !p.room w 8 then p.stopTrunc else (.eth, p.push 8)

def parseRun (b : List Byte) (w n : Nat) : Nat → Expect → Parse → Parse
  | 0, _, p => p
  | fuel + 1, e, p =>
    let (e', p') := parseStep b w n e p
    match e' with
    | .stop => p'
    | _ => parseRun b w n fuel e' p'

/-- Mill's parse of a frame whose last 4 bytes are its FCS. -/
def parseFrame (b : List Byte) : Parse :=
  let n := b.length - 4
  parseRun (b.take 256) (min n 256) n 24 .eth {}

/-! ### Layers -/

/-- The headers from a layer's Ethernet header, if it has one, on. Assumption log entry 34. -/
abbrev Layer := List Hdr

def Layer.eth (l : Layer) : Option EthHdr := match l with | .eth h :: _ => some h | _ => none
/-- The layer from its network header on. -/
def Layer.net (l : Layer) : Layer := match l with | .eth _ :: t => t | l => l
def Layer.ip (l : Layer) : Option IpHdr := match Layer.net l with | .ip h :: _ => some h | _ => none
def labelsOf : Layer → List (Nat × Nat × Nat)
  | .mpls l e t :: r => (l, e, t) :: labelsOf r
  | _ => []
def Layer.labels (l : Layer) : List (Nat × Nat × Nat) := labelsOf (Layer.net l)
/-- The layer below the label or tunnel that a layer begins with (R186). -/
def Layer.below (l : Layer) : Layer := (Layer.net l).drop 1
/-- TTL or hop limit of the layer's network header. -/
def Layer.ttl (l : Layer) : Option Nat :=
  match Layer.net l with | .ip h :: _ => some h.ttl | .mpls _ _ t :: _ => some t | _ => none

/-- The IP headers parsed, outermost first. -/
def ipsOf (l : Layer) : List IpHdr := l.filterMap (fun h => match h with | .ip i => some i | _ => none)

/-! ### Hashes -/

/-- An IP header's addresses, most significant byte first. -/
def IpHdr.addrs (h : IpHdr) : List Byte := let n := if h.v6 then 16 else 4; putBe n h.src ++ putBe n h.dst
def IpHdr.portBytes (h : IpHdr) : List Byte := match h.ports with | none => [] | some (a, b) => putBe 2 a ++ putBe 2 b

/-- CRC-32C with a seed as the register's preset (assumption log entry 35). -/
def seededCrc (seed : Word) (b : List Byte) : Word := ~~~ crcRun 0x82F63B78 b seed

/-- The flow hash (R178). -/
def flowHash (seed : Word) (hdrs : List Hdr) : Word :=
  match (ipsOf hdrs).getLast? with
  | some h => seededCrc seed (h.addrs ++ putBe 1 h.proto ++ (if h.frag = 2 then [] else h.portBytes))
  | none =>
    seededCrc seed (hdrs.flatMap (fun h => match h with | .mpls l _ _ => putBe 4 l | _ => []))

/-- CHECK of a flow cache entry (R220). -/
def flowCheck (hdrs : List Hdr) : Word :=
  let eth := hdrs.flatMap (fun h => match h with | .eth e => e.tags.flatMap (fun t => putBe 2 t.2 ++ putBe 1 t.1) | _ => [])
  let lab := hdrs.flatMap (fun h => match h with | .mpls l e _ => putBe 4 l ++ putBe 1 e | _ => [])
  let ips := (ipsOf hdrs).flatMap (fun h => h.addrs ++ putBe 1 h.dscp)
  let inner := match (ipsOf hdrs).getLast? with | some h => putBe 1 h.proto ++ h.portBytes | none => []
  let dmac := (Layer.eth hdrs).map EthHdr.dmac |>.getD 0
  seededCrc 0x7B3E19C4 (putBe 6 dmac ++ eth ++ lab ++ ips ++ inner)

/-! ### Built-in punt classes (R103, R182) and PTP -/

/-- PTP: EtherType 0x88F7 or UDP 319 and 320 (Table PL-1). -/
def isPtp (hdrs : List Hdr) : Bool :=
  (Layer.eth hdrs).any (fun h => h.etype == 0x88F7)
    || (Layer.ip hdrs).any (fun h => h.proto == 17 && h.ports.any (fun p => p.2 == 319 || p.2 == 320))

/-- The reason of the built-in punt class a frame belongs to: ARP, ND, LACP, LLDP, ISIS (Table PL-8). Assumption log entry 142. -/
def puntClass (hdrs : List Hdr) : Option Nat :=
  match Layer.eth hdrs with
  | none => none
  | some h =>
    if h.etype = 0x0806 then some 0x10
    else if (Layer.ip hdrs).any (fun i => i.v6 && i.proto == 58 && i.icmp.any (fun t => decide (133 ≤ t ∧ t ≤ 137))) then some 0x11
    else if h.etype = 0x8809 then some 0x12
    else if h.etype = 0x88CC then some 0x13
    else if h.etype ≤ 1500 ∧ h.llc = 0xFE then some 0x14
    else none

/-! ### Keys -/

/-- Fields (value, width) packed most significant first from the top of `width` bits (R192, R247), as a number. -/
def packTop (width : Nat) (fs : List (Nat × Nat)) : Nat :=
  let v := fs.foldl (fun n f => n * 2 ^ f.2 + f.1 % 2 ^ f.2) 0
  v * 2 ^ (width - sumOf fs (fun f => f.2))

/-- Key bytes, most significant first. -/
def packKey (units : Nat) (fs : List (Nat × Nat)) : List Byte := putBe (20 * units) (packTop (160 * units) fs)

/-- Key units of a key type (Table PL-4). -/
def keyUnits (t : Nat) : Nat := if t = 5 ∨ t = 7 then 2 else 1

/-- The frame was cut off before a protocol or next header that the parse could not reach (R179): an IPv6 chain of extension headers. -/
def IpHdr.protoLost (h : IpHdr) : Bool := h.cut && h.v6 && (h.proto == 0 || h.proto == 43 || h.proto == 44 || h.proto == 60)
/-- A UDP header, or any header with ports, that the frame should have and the parse lacks (R179, R247). -/
def IpHdr.udpLost (h : IpHdr) : Bool := h.protoLost || (h.cut && h.proto == 17)
def IpHdr.portsLost (h : IpHdr) : Bool := h.udpLost || (h.cut && h.proto == 6)

/-- UDP destination port, 0 if not UDP. -/
def IpHdr.udpDst (h : IpHdr) : Nat := if h.proto = 17 then (h.ports.map (fun p => p.2)).getD 0 else 0

/-- The exact-match key of a type from a layer (Table PL-4); none when a field is missing, also for a header cut off (R179). -/
def exactKey (t vrf : Nat) (l : Layer) : Option (List Byte) :=
  let ip (v6 : Bool) : Option IpHdr := (Layer.ip l).filter (fun h => h.v6 == v6)
  match t with
  | 1 => (Layer.labels l).head?.map (fun x => packKey 1 [(vrf % 256, 8), (x.1, 20)])
  | 2 => (ip false).map (fun h => packKey 1 [(vrf, 14), (h.dst, 32)])
  | 3 => (ip true).map (fun h => packKey 1 [(vrf, 14), (h.dst, 128)])
  | 4 => ((ip false).filter (fun h => !h.udpLost)).map (fun h => packKey 1 [(vrf, 14), (h.src, 32), (h.dst, 32), (h.proto, 8), (h.udpDst, 16)])
  | 5 => ((ip true).filter (fun h => !h.udpLost)).map (fun h => packKey 2 [(vrf, 14), (h.src, 128), (h.dst, 128), (h.proto, 8), (h.udpDst, 16)])
  | 6 => (ip false).bind (fun h => h.ports.map (fun p =>
      packKey 1 [(vrf, 14), (h.src, 32), (h.dst, 32), (h.proto, 8), (p.1, 16), (p.2, 16)]))
  | 7 => (ip true).bind (fun h => h.ports.map (fun p =>
      packKey 2 [(vrf, 14), (h.src, 128), (h.dst, 128), (h.proto, 8), (p.1, 16), (p.2, 16)]))
  | _ => none

/-- Width of an ASA format (Table AS-1), 0 for an undefined code. -/
def formatWidth (f : Nat) : Nat := match f with | 1 => 1 | 2 => 2 | 3 => 4 | 4 => 1 | 5 => 1 | 6 => 1 | 7 => 2 | _ => 0
/-- Egress formats. -/
def formatEgress (f : Nat) : Bool := f == 6 || f == 7

/-- The values a search key takes beside the headers. -/
structure KeyCtx where
  inPort : Nat := 0
  vrf : Nat := 0
  tc : Nat := 0
  sp : Nat := 0
  colour : Nat := 0
deriving DecidableEq, Repr

/-- The search key of a format from a layer (Table AS-1); none when the packet lacks a header that the format needs (R247). -/
def asaKey (f : Nat) (c : KeyCtx) (l : Layer) : Option (List Byte) :=
  let ip (v6 : Bool) : Option IpHdr := (Layer.ip l).filter (fun h => h.v6 == v6 && !h.portsLost)
  let pp (h : IpHdr) : Nat × Nat := h.ports.getD (0, 0)
  match f with
  | 1 => (ip false).map (fun h => packKey 1 [(c.inPort, 8), (c.vrf, 14), (h.src, 32), (h.dst, 32), (h.proto, 8), ((pp h).1, 16),
      ((pp h).2, 16), (h.dscp, 6), (h.tcpFlags, 8), (h.frag, 2), (c.tc, 3)])
  | 2 => (ip true).map (fun h => packKey 2 [(c.inPort, 8), (h.src, 128), (h.dst, 128), (h.proto, 8), ((pp h).1, 16), ((pp h).2, 16),
      (h.dscp, 6), (h.tcpFlags, 8), (h.frag, 2)])
  | 3 => (ip true).map (fun h => packKey 4 [(c.inPort, 8), (c.vrf, 14), (h.src, 128), (h.dst, 128), (h.proto, 8), ((pp h).1, 16),
      ((pp h).2, 16), (h.dscp, 6), (h.tcpFlags, 8), (h.frag, 2), (h.flow, 20), (c.tc, 3)])
  | 4 => (Layer.eth l).map (fun h => packKey 1 [(c.inPort, 8), (h.dmac, 48), (h.smac, 48), (h.etype, 16),
      ((h.tags.getD 0 (0, 0)).2, 12), ((h.tags.getD 0 (0, 0)).1, 3), ((h.tags.getD 1 (0, 0)).2, 12)])
  | 5 => match Layer.labels l with
    | [] => none
    | t :: r => some (packKey 1 [(c.inPort, 8), (t.1, 20), (t.2.1, 3), ((r.getD 0 (0, 0, 0)).1, 20), ((r.getD 1 (0, 0, 0)).1, 20),
        (r.length + 1, 4), (c.tc, 3)])
  | 6 => (ip false).map (fun h => packKey 1 [(c.sp, 15), (c.tc, 3), (c.colour, 2), (h.src, 32), (h.dst, 32), (h.proto, 8),
      ((pp h).1, 16), ((pp h).2, 16), (h.dscp, 6)])
  | 7 => (ip true).map (fun h => packKey 2 [(c.sp, 15), (c.tc, 3), (h.src, 128), (h.dst, 128), (h.proto, 8), ((pp h).1, 16),
      ((pp h).2, 16), (h.dscp, 6)])
  | _ => none

end Sys2Proof.Machine
end

