-- ==== Sys2Proof/Machine/Settings.lean ====
section
/-! DEFINITION. Sealed settings (R464, R94, R489): what is stored, writing the copy with the lower generation, and reading at a firmware
start. -/
namespace Sys2Proof.Machine

/-- The scheduling settings with every shaper change already accepted, also one that waits for its refill (R359, R375). Assumption log entry 170. -/
def Sch.stored (x : Sch) : SchCfg :=
  { x.cfg with shapers := x.shapers.foldl (fun m e => match e.2.next with | some c => mset m e.1 c.1 | none => m) x.cfg.shapers }

/-- The stored settings of every family as they now stand. -/
def State.settings (s : State) : Settings :=
  { dev := s.dev.cfg, ports := s.port.cfg, frm := s.frm.cfg, time := s.tim.cfg, tbl := s.tbl.cfg, adm := s.adm.cfg,
    fab := s.fab.cfg, sch := s.sch.stored, pair := s.pair.cfg,
    grants := s.insts.filterMap (fun e => if e.1 ≠ 0 ∧ e.2.st ≠ .absent then some (e.1, e.2.grant) else none),
    sec := s.sec.cfg, gpio := s.pwr.gpio, format := s.sec.format }

/-- A copy opens under this boot's settings key: same ZEROIZE_COUNT, same DEBUG (Table TK-1). -/
def State.opens (s : State) (c : Copy) : Bool := c.valid && c.zeroize == s.sec.zeroize && c.debug == s.sec.debug

/-- The generation in use: the higher of the copies that open (R464). -/
def State.settingsGen (s : State) : Nat :=
  max (if s.opens s.sec.copyA then s.sec.copyA.gen else 0) (if s.opens s.sec.copyB then s.sec.copyB.gen else 0)

/-- Write a change to the copy with the lower generation, with generation + 1; a copy that does not open counts as the lower (R464). -/
def saveSettings (s : State) : State :=
  let c : Copy := { valid := true, gen := s.settingsGen + 1, zeroize := s.sec.zeroize, debug := s.sec.debug, settings := s.settings }
  let ga := if s.opens s.sec.copyA then s.sec.copyA.gen + 1 else 0
  let gb := if s.opens s.sec.copyB then s.sec.copyB.gen + 1 else 0
  if ga ≤ gb then { s with sec := { s.sec with copyA := c } } else { s with sec := { s.sec with copyB := c } }

/-- A slot is in TRIAL (Table UP-5). -/
def State.onTrial (s : State) : Bool := s.upd.slotA.st == .trial || s.upd.slotB.st == .trial

/-- A command whose change is stored: refused while a slot is in TRIAL (R489), otherwise stored before it completes (R464). -/
def storing (s : State) (r : Reply) : Reply :=
  if r.status ≠ St.ok then r
  else if s.onTrial then .err s St.eState Dt.updTrial
  else { r with st := saveSettings r.st }

/-- The settings at a firmware start: the valid copy with the higher generation; a copy that fails is reported and rewritten from the good
one; none when both fail (R464, R94). -/
def readCopies (s : State) : Option Settings × State :=
  let a := s.opens s.sec.copyA
  let b := s.opens s.sec.copyB
  let bad (n gen : Nat) (s : State) : State :=
    count Cn.secSettingsBad 0 1 (notify Ev.secSettingsCopy (putLe 1 n ++ zeros 7 ++ putLe 8 gen) [] s)
  if a && b then
    if s.sec.copyB.gen ≤ s.sec.copyA.gen then (some s.sec.copyA.settings, s) else (some s.sec.copyB.settings, s)
  else if a then
    (some s.sec.copyA.settings, bad 1 s.sec.copyA.gen { s with sec := { s.sec with copyB := s.sec.copyA } })
  else if b then
    (some s.sec.copyB.settings, bad 0 s.sec.copyB.gen { s with sec := { s.sec with copyA := s.sec.copyB } })
  else (none, s)

end Sys2Proof.Machine
end

