-- ==== Sys2Proof/Machine/Cnt.lean ====
section
/-! DEFINITION. Counters and telemetry: CNT commands, selectable counters (R521, R522) and bandwidth meters (R524). -/
namespace Sys2Proof.Machine

/-- Whether an instance owns a port: VI0 every port, others the line ports of their grant and host port 128 + VI (R427). -/
def State.ownsPort (s : State) (vi p : Nat) : Bool :=
  vi == 0 || (if p < 128 then decide (p ∈ (s.inst vi).grant.ports) else p == 128 + vi)

/-- Whether an instance may read a counter (R525). -/
def State.mayCount (s : State) (vi kind idx : Nat) : Bool :=
  vi == 0 || (match kind with
    | 1 => s.ownsPort vi idx
    | 2 => s.ownsPort vi (idx / 256)
    | 3 => s.ownsPort vi (idx / 8)
    | 5 => idx == vi
    | _ => false)

/-- Flags as bytes, eight to a byte. -/
def packFlags (l : List Bool) : List Byte :=
  (List.range (ceilDiv l.length 8)).map (fun i =>
    BitVec.ofNat 8 (maskOf ((List.range 8).filter (fun j => l.getD (8 * i + j) false))))

/-- CNT.READ (Table CT-6). -/
def bodyCntRead : Body := fun vi e s =>
  let ev := e.p 24 2
  let first := e.p 28 4
  let cnt := e.p 32 4
  match counterKind ev with
  | none => .err s St.eArg Dt.cntNoEvent
  | some kind =>
    if cnt = 0 ∨ 65536 < cnt then .err s St.eArg Dt.hifNone
    else if kindSize kind < first + cnt then .err s St.eArg Dt.cntIndex
    else if !(upFrom first cnt).all (s.mayCount vi kind) then notPermitted vi s
    else if e.dataLen < 8 * cnt + ceilDiv cnt 8 then badLen vi s
    else
      let keys := (upFrom first cnt).map (counterKey ev)
      let vals := keys.foldr (fun k acc => putLe 8 (mgetD s.cnt.vals k 0) ++ acc) []
      let flags := packFlags (keys.map (fun k => decide (k ∈ s.cnt.ovf)))
      let clear := bit (e.p 26 1) 0
      let s' := if clear then { s with cnt := { s.cnt with ovf := s.cnt.ovf.filter (fun k => decide (k ∉ keys)) } } else s
      { st := s', result := putLe 8 s.monoNs ++ putLe 4 0, data := vals ++ flags, changed := clear }

/-- The first multiple of a window after a count. -/
def nextMultiple (w now : Nat) : Nat := (now / w + 1) * w

/-- The next boundary of a window of `w` µs: in TIME ns when aligned to TIME, else in tenths of a monotonic ns (R521). -/
def State.nextBoundary (s : State) (w : Nat) (align : Bool) : Nat :=
  if align then nextMultiple (w * 1000) s.timeNs else nextMultiple (Config.us w) s.mono

/-- The monotonic ns of a boundary; for one in TIME, the tick at which TIME reaches it at the present INCREMENT. -/
def State.boundaryNs (s : State) (at_ : Nat) (align : Bool) : Nat :=
  if align then (s.mono + Config.tick * ceilDiv (at_ * 2 ^ 48 - s.tim.time.toNat) (max 1 s.tim.increment.toNat)) / 10
  else at_ / 10

def State.modSel (s : State) (n : Nat) (f : Sel → Sel) : State := { s with cnt := { s.cnt with sel := mmod s.cnt.sel n {} f } }

/-- CNT.SELECT (R522). -/
def bodyCntSelect : Body := fun _ e s =>
  let n := e.p 24 1
  let op := e.p 25 1
  let ev := e.p 26 2
  let idx := e.p 28 4
  let w := e.p 32 4
  let align := bit (e.p 36 1) 0
  let c := mgetD s.cnt.sel n {}
  if 63 < n then .err s St.eArg Dt.cntRange
  else if op = 2 then
    if c.bound then
      .ok (s.modSel n (fun c => { c with pending := some none })) (putLe 8 (s.boundaryNs c.nextAt c.alignTime))
    else .ok (s.modSel n (fun c => { c with pending := none })) (putLe 8 s.monoNs)
  else if op ≠ 1 then .err s St.eArg Dt.hifNone
  else match counterKind ev with
    | none => .err s St.eArg Dt.cntNoEvent
    | some kind =>
      if idx ≠ 0xFFFFFFFF ∧ kindSize kind ≤ idx then .err s St.eArg Dt.cntIndex
      else if w = 0 ∨ 1000000 < w then .err s St.eArg Dt.cntRange
      else
        let p : Nat × Option Nat × Nat × Bool := (ev, if idx = 0xFFFFFFFF then none else some idx, w, align)
        let at_ := if c.bound then c.nextAt else s.nextBoundary w align
        let al := if c.bound then c.alignTime else align
        .ok (s.modSel n (fun c => { c with pending := some (some p), nextAt := at_,
                                           alignTime := al })) (putLe 8 (s.boundaryNs at_ al))

/-- CNT.METER (Table CT-6). -/
def bodyCntMeter : Body := fun _ e s =>
  let p := e.p 24 1
  let w := if e.p 28 4 = 0 then 1000 else e.p 28 4
  if (127 < p ∧ p ≠ 0xFF) ∨ 1000000 < w then .err s St.eArg Dt.cntRange
  else
    let ports := if p = 0xFF then List.range 128 else [p]
    .ok (foldS ports s (fun p s =>
      { s with cnt := { s.cnt with meters := mmod s.cnt.meters p {} (fun m => { m with newWindow := some w }) } }))

/-- A port that carries frames: UP, or DOWN_WAIT whose defect has not yet outlasted DOWN_DEBOUNCE (Table LN-5). -/
def State.portUp (s : State) (p : Nat) : Bool := (mgetD s.port.ports p {}).st == .up

/-- CNT.METER_READ (Table CT-6); the stored windows read 0 while the port is down (R524). -/
def bodyCntMeterRead : Body := fun vi e s =>
  let p := e.p 24 1
  let clear := bit (e.p 25 1) 0
  if 127 < p then .err s St.eArg Dt.cntRange
  else if !s.ownsPort vi p then notPermitted vi s
  else
    let m := mgetD s.cnt.meters p {}
    let up (n : Nat) : Nat := if s.portUp p then n else 0
    let data := putLe 8 (up m.lastRxB) ++ putLe 8 (up m.lastRxF) ++ putLe 8 (up m.lastTxB) ++ putLe 8 (up m.lastTxF)
      ++ putLe 8 m.rxPeak ++ putLe 8 m.txPeak ++ putLe 8 (m.boundary / 10) ++ putLe 4 m.window ++ zeros 4
    let s' := if clear then
        { s with cnt := { s.cnt with meters := mset s.cnt.meters p { m with rxPeak := 0, txPeak := 0 } } } else s
    { st := s', data := data, changed := clear }

/-- CNT.DESCRIBE (Table CT-6). -/
def bodyCntDescribe : Body := fun _ e s =>
  match counterKind (e.p 24 2) with
  | none => .err s St.eArg Dt.cntNoEvent
  | some k => .read s (putLe 1 k ++ zeros 3 ++ putLe 4 (kindSize k)) []

def execCntRead (vi : Nat) (io : HostIo) (s : State) : Host.Outcome State Fault Refusal :=
  .next (runCommand 0x1001 vi io bodyCntRead s)
def execCntSelect (vi : Nat) (io : HostIo) (s : State) : Host.Outcome State Fault Refusal :=
  .next (runCommand 0x1002 vi io bodyCntSelect s)
def execCntMeter (vi : Nat) (io : HostIo) (s : State) : Host.Outcome State Fault Refusal :=
  .next (runCommand 0x1003 vi io bodyCntMeter s)
def execCntMeterRead (vi : Nat) (io : HostIo) (s : State) : Host.Outcome State Fault Refusal :=
  .next (runCommand 0x1004 vi io bodyCntMeterRead s)
def execCntDescribe (vi : Nat) (io : HostIo) (s : State) : Host.Outcome State Fault Refusal :=
  .next (runCommand 0x1005 vi io bodyCntDescribe s)

/-- The binding in force after a boundary: a pending change takes effect there (R522). -/
def Sel.rebind (s : State) (c : Sel) : Sel :=
  match c.pending with
  | none => { c with nextAt := if c.alignTime then c.nextAt + c.window * 1000 else c.nextAt + Config.us c.window }
  | some none => { c with bound := false, pending := none, current := 0 }
  | some (some (ev, idx, w, al)) =>
    { c with bound := true, event := ev, index := idx, window := w, alignTime := al, total := 0, current := 0, peak := 0,
             pending := none, nextAt := s.nextBoundary w al }

/-- A window boundary of a selectable counter (R521, R522). -/
def selBoundary (s : State) (c : Sel) : Sel :=
  let c := if c.bound then
      { c with last := c.current, seq := (c.seq + 1) % 2 ^ 32, lastEvent := c.event, peak := max c.peak c.current, current := 0 }
    else c
  Sel.rebind s { c with boundaryMono := s.boundaryNs c.nextAt c.alignTime, boundaryTime := s.timeNs }

def execCntWindowBoundary (counter : Nat) (s : State) : Host.Outcome State Fault Refusal :=
  .next (match mget s.cnt.sel counter with
    | none => s
    | some c =>
      when ((c.bound || c.pending.isSome) && (if c.alignTime then decide (c.nextAt ≤ s.timeNs) else s.due c.nextAt)) s
        (s.modSel counter (selBoundary s)))

/-- A meter's boundary: the window is stored, peaks rise, a new WINDOW applies (R524). -/
def meterBoundary (up : Bool) (at_ : Nat) (m : Meter) : Meter :=
  let rf := if up then m.rxF else 0
  let rb := if up then m.rxB else 0
  let tf := if up then m.txF else 0
  let tb := if up then m.txB else 0
  { m with lastRxF := rf, lastRxB := rb, lastTxF := tf, lastTxB := tb, rxF := 0, rxB := 0, txF := 0, txB := 0,
           rxPeak := max m.rxPeak rb, txPeak := max m.txPeak tb, boundary := at_,
           window := m.newWindow.getD m.window, newWindow := none }

def execMeterWindowBoundary (port : Nat) (s : State) : Host.Outcome State Fault Refusal :=
  let m := mgetD s.cnt.meters port {}
  let at_ := nextMultiple (Config.us m.window) m.boundary
  .next (when (decide (port < 128) && s.due at_) s
    { s with cnt := { s.cnt with meters := mset s.cnt.meters port (meterBoundary (s.portUp port) at_ m) } })

/-- A frame on a port's meters (R524). -/
def meterRx (port len : Nat) (s : State) : State :=
  if s.portUp port then
    { s with cnt := { s.cnt with meters := mmod s.cnt.meters port {} (fun m => { m with rxF := m.rxF + 1, rxB := m.rxB + len }) } }
  else s

def meterTx (port len : Nat) (s : State) : State :=
  if s.portUp port then
    { s with cnt := { s.cnt with meters := mmod s.cnt.meters port {} (fun m => { m with txF := m.txF + 1, txB := m.txB + len }) } }
  else s

end Sys2Proof.Machine
end

