-- ==== Sys2Proof/Machine/SchOps.lean ====
section
/-! DEFINITION. Egress queues and the scheduling tree: nodes and queues (R350, R375), placing a released packet (R351, R352, R368),
the hold states of a port (R367–R369, Table ES-2), gates (R362, R366) and the selection of the next packet (R353–R357). -/
namespace Sys2Proof.Machine

/-! ### Objects by number -/

def State.modSch (s : State) (f : Sch → Sch) : State := { s with sch := f s.sch }

/-- The egress state of a line port. -/
def State.eport (s : State) (p : Nat) : EPort := mgetD s.sch.eports p {}
def State.modEport (s : State) (p : Nat) (f : EPort → EPort) : State :=
  { s with sch := { s.sch with eports := mmod s.sch.eports p {} f } }

/-- SCH.PORT settings of a port, with the defaults of R375. -/
def State.schPort (s : State) (p : Nat) : SchPortCfg := mgetD s.sch.cfg.ports p {}

/-- REHOME_BLOCK of a port: the port's own number until set (R375). -/
def State.rehomeBlock (s : State) (p : Nat) : Nat := (s.schPort p).rehome.getD p

/-- The line port's state and configuration. -/
def State.lport (s : State) (p : Nat) : Port := mgetD s.port.ports p {}
def State.modPort (s : State) (p : Nat) (f : Port → Port) : State :=
  { s with port := { s.port with ports := mmod s.port.ports p {} f } }
def State.pcfg (s : State) (p : Nat) : Option PortCfg := mget s.port.cfg p

/-- The SecY of a port. -/
def State.secy (s : State) (p : Nat) : SecY := ((s.pcfg p).map PortCfg.secy).getD {}

/-- Instances other than VI0 that own a line port. -/
def State.ownersOf (s : State) (p : Nat) : List Nat := s.allVis.filter (fun v => s.ownsPort v p)

/-- An encapsulation version's key: handle × 2^16 + VERSION. -/
def encKey (handle version : Nat) : Nat := handle * 2 ^ 16 + version

/-- One packet fewer names a version (R204). -/
def releaseRef (handle version : Nat) (s : State) : State :=
  match mget s.tbl.encaps (encKey handle version) with
  | none => s
  | some v => { s with tbl := { s.tbl with encaps := mset s.tbl.encaps (encKey handle version) { v with refs := v.refs - 1 } } }

/-- One packet more names a version (R204). -/
def takeRef (handle version : Nat) (s : State) : State :=
  match mget s.tbl.encaps (encKey handle version) with
  | none => s
  | some v => { s with tbl := { s.tbl with encaps := mset s.tbl.encaps (encKey handle version) { v with refs := v.refs + 1 } } }

/-! ### The tree -/

/-- Key of a node or queue. -/
def nodeKey (lvl idx : Nat) : Nat := lvl * 2 ^ 20 + idx

/-- The default tree of R375: nodes p at levels 2 to 4 in a chain, queues 8p to 8p + 7. -/
def defaultNode (lvl idx : Nat) : Option Node :=
  if 2 ≤ lvl ∧ lvl ≤ 4 ∧ idx < 128 then some { parent := idx }
  else if lvl = 5 ∧ idx < 1024 then some { parent := idx / 8, tc := idx % 8 }
  else none

/-- A node (levels 2 to 4) or queue (level 5), if it exists. -/
def SchCfg.node (c : SchCfg) (lvl idx : Nat) : Option Node :=
  match mget c.nodes (nodeKey lvl idx) with
  | some r => r
  | none => defaultNode lvl idx

def State.node (s : State) (lvl idx : Nat) : Option Node := s.sch.cfg.node lvl idx

/-- Insert a number into a rising list. -/
def insertUp (x : Nat) : List Nat → List Nat
  | [] => [x]
  | y :: t => if x ≤ y then x :: y :: t else y :: insertUp x t

def sortUp (l : List Nat) : List Nat := l.foldr insertUp []

/-- The children of a node, by number, in ascending order (a port node is level 1). -/
def SchCfg.children (c : SchCfg) (lvl idx : Nat) : List Nat :=
  let dflt := if 128 ≤ idx then [] else if lvl = 4 then upFrom (8 * idx) 8 else if lvl < 4 then [idx] else []
  let d := dflt.filter (fun i => !mhas c.nodes (nodeKey (lvl + 1) i))
  let o := c.nodes.filterMap (fun e =>
    match e.2 with
    | some n => if e.1 / 2 ^ 20 = lvl + 1 ∧ n.parent = idx then some (e.1 % 2 ^ 20) else none
    | none => none)
  sortUp (d ++ o)

def State.children (s : State) (lvl idx : Nat) : List Nat := s.sch.cfg.children lvl idx

/-- The queues under a port node, in ascending order. -/
def SchCfg.queuesUnder (c : SchCfg) (p : Nat) : List Nat :=
  sortUp ((((c.children 1 p).flatMap (c.children 2)).flatMap (c.children 3)).flatMap (c.children 4))

def State.queuesUnder (s : State) (p : Nat) : List Nat := s.sch.cfg.queuesUnder p

/-- The nodes of levels 1 to 4 under a port node, as keys. -/
def State.nodesUnder (s : State) (p : Nat) : List Nat :=
  let l2 := s.children 1 p
  let l3 := l2.flatMap (s.children 2)
  let l4 := l3.flatMap (s.children 3)
  nodeKey 1 p :: (l2.map (nodeKey 2) ++ l3.map (nodeKey 3) ++ l4.map (nodeKey 4))

/-- The port a queue descends from. -/
def SchCfg.queuePort (c : SchCfg) (q : Nat) : Option Nat :=
  match c.node 5 q with
  | none => none
  | some n5 => match c.node 4 n5.parent with
    | none => none
    | some n4 => match c.node 3 n4.parent with
      | none => none
      | some n3 => (c.node 2 n3.parent).map Node.parent

def State.queuePort (s : State) (q : Nat) : Option Nat := s.sch.cfg.queuePort q

/-- The packets of a queue. -/
def State.equeue (s : State) (q : Nat) : List EPkt := mgetD s.sch.queues q []
def State.setQueue (s : State) (q : Nat) (l : List EPkt) : State :=
  { s with sch := { s.sch with queues := mput s.sch.queues q (if l = [] then none else some l) } }

/-- The bytes a list of packets holds. -/
def epktBytes (l : List EPkt) : Nat := sumOf l EPkt.length

/-- The class a queue carries. -/
def State.queueTc (s : State) (q : Nat) : Nat := ((s.node 5 q).map Node.tc).getD 0

/-- R354: bytes of every queue of a TC under the port node and, R352, of its holding list. -/
def State.egressBytes (s : State) (p tc : Nat) : Nat :=
  sumOf ((s.queuesUnder p).filter (fun q => s.queueTc q == tc)) (fun q => epktBytes (s.equeue q))
    + epktBytes ((s.eport p).limbo.filter (fun k => k.tc == tc))

/-! ### Placing a released packet -/

/-- The lowest-numbered queue of R352 under a port for a class. -/
def State.fallbackQueue (s : State) (p tc : Nat) : Option Nat :=
  let own := 8 * p + tc
  if s.queuePort own = some p ∧ s.queueTc own = tc then some own
  else
    let qs := s.queuesUnder p
    match qs.find? (fun q => s.queueTc q == tc) with
    | some q => some q
    | none => qs.head?

/-- Append a packet to a queue that descends from the port, or place it by R352. -/
def placeUnder (p want tc : Nat) (k : EPkt) (s : State) : State :=
  if s.queuePort want = some p then s.setQueue want (s.equeue want ++ [k])
  else
    let s := count Cn.schMisroute p 1 s
    match s.fallbackQueue p tc with
    | some q => s.setQueue q (s.equeue q ++ [k])
    | none => s.modEport p (fun e => { e with limbo := e.limbo ++ [k] })

/-- QBLOCK of a system port: the entry set by SCH.QMAP, or the local port while DEFAULT is set (R351). -/
def State.qblock (s : State) (sp port : Nat) : Nat := (mget s.sch.cfg.qmap sp).getD port

/-- The local port of a system port (R319). -/
def State.localPort (s : State) (sp : Nat) : Nat := ((mget s.fab.cfg.spmap sp).map SpEntry.localPort).getD 0

/-- Packets flushed while they wait for a port: HOLD_FLUSHED and their references (R368). -/
def holdFlushed (p : Nat) (l : List EPkt) (s : State) : State :=
  if l = [] then s
  else count Cn.holdFlushed p l.length (foldS l s (fun k s => releaseRef k.handle k.version (markGone p k.stream k.seq s)))

/-- A packet moves to the backup port's re-home block (R368): SCH_REHOMED, or flushed where the backup port is FLUSHED. Assumption log entry 23. -/
def rehomeTo (p b tc : Nat) (k : EPkt) (s : State) : State :=
  let s := markGone p k.stream k.seq (count Cn.schRehomed p 1 s)
  let k := { k with rehomed := some p }
  if (s.eport b).hold = .flushed then holdFlushed b [k] s
  else placeUnder b (8 * s.rehomeBlock b + tc) tc k s

/-- A copy that a mark already received covers, on a SHARED port whose queues are dark (R391). -/
def State.marked (s : State) (p : Nat) (k : EPkt) : Bool :=
  !s.holdsBung && ((mget s.pair.cfg.ports p).map PairPortCfg.txMode) == some 2
    && (mget s.pair.marks k.stream).any (fun m => m == k.seq || older 24 k.seq m)

/-- A packet released by Racking joins its egress queue (R351, R352), or follows the port's hold state (R368). -/
def egressRelease (k : EPkt) (s : State) : State :=
  let p := s.localPort k.sp
  if s.marked p k then releaseRef k.handle k.version s
  else match (s.eport p).hold, (s.schPort p).backup with
  | .flushed, _ => holdFlushed p [k] s
  | .rehomed, some b => rehomeTo p b k.tc k s
  | _, _ => placeUnder p (8 * s.qblock k.sp p + k.tc) k.tc k s

/-- Place the holding list of a port once it has a queue (R352). -/
def placeLimbo (p : Nat) (s : State) : State :=
  let l := (s.eport p).limbo
  if l = [] ∨ s.queuesUnder p = [] then s
  else
    foldS l (s.modEport p (fun e => { e with limbo := [] })) (fun k s =>
      match s.fallbackQueue p k.tc with
      | some q => s.setQueue q (s.equeue q ++ [k])
      | none => s)

/-! ### Hold states (Table ES-2) -/

/-- The deadline is set afresh only if it was last set at least 1 s earlier; during the retraining of R106 it is no earlier than 2 s
after the port went down for it (R367, R107). -/
def setDeadline (p : Nat) (entry : Bool) (s : State) : State :=
  let e := s.eport p
  let fresh := match e.deadlineSet with | none => true | some t => decide (t + Config.sec 1 ≤ s.mono)
  let d := if fresh then s.mono + Config.ms (s.schPort p).holdDown else e.deadline
  let floor := if entry ∧ (p ∈ s.dev.retrain ∨ p ∈ s.dev.retraining) then s.mono + Config.sec 2 else e.holdFloor
  s.modEport p (fun e => { e with deadline := max d floor, holdFloor := floor, deadlineSet := if fresh then some s.mono else e.deadlineSet })

/-- A port already held begins its retraining at full service: its hold lasts 2 s from now (R107). -/
def retrainHold (p : Nat) (s : State) : State :=
  if (s.eport p).hold = .hold then
    s.modEport p (fun e => { e with holdFloor := s.mono + Config.sec 2, deadline := max e.deadline (s.mono + Config.sec 2) })
  else s

/-- A frame not transmitted goes back to the head of its queue (R127, R339). -/
def returnOne (p : Nat) (k : Nat × EPkt) (s : State) : State :=
  let k := (k.1, { k.2 with asaAsk := none, rdAsk := none })
  if s.queuePort k.1 = some p then s.setQueue k.1 (k.2 :: s.equeue k.1)
  else match s.fallbackQueue p k.2.tc with
    | some q => s.setQueue q (k.2 :: s.equeue q)
    | none => s.modEport p (fun e => { e with limbo := k.2 :: e.limbo })

/-- Frames selected and not yet transmitted go back to the heads of their queues (R127). -/
def returnSelected (p : Nat) (s : State) : State :=
  let e := s.eport p
  let l := mvals e.lateSlot ++ e.tx
  foldS l.reverse (s.modEport p (fun e => { e with tx := [], lateSlot := [] })) (returnOne p)

/-- EV.PORT.DOWN, or PORT.CONFIG TYPE 0 (R367): RUN and RETURNING enter HOLD. -/
def egressHold (p : Nat) (s : State) : State :=
  let s := returnSelected p s
  match (s.eport p).hold with
  | .run => setDeadline p true (s.modEport p (fun e => { e with hold := .hold }))
  | .returning => setDeadline p true (s.modEport p (fun e => { e with hold := .hold }))
  | _ => s

/-- A flap during HOLD (R367). -/
def egressFlap (p : Nat) (s : State) : State :=
  if (s.eport p).hold = .hold then setDeadline p false s else s

/-- Packets of a port still in another port's queues or egress path. -/
def State.rehomedLeft (s : State) (p : Nat) : Bool :=
  s.sch.queues.any (fun e => e.2.any (fun k => k.rehomed == some p))
    || s.sch.eports.any (fun e => e.2.tx.any (fun k => k.2.rehomed == some p) || e.2.limbo.any (fun k => k.rehomed == some p)
        || e.2.lateSlot.any (fun k => k.2.2.rehomed == some p))

/-- A RETURNING port goes back to RUN once no packet of it is left at the backup (R369). -/
def returnCheck (p : Nat) (s : State) : State :=
  if (s.eport p).hold = .returning ∧ ¬ s.rehomedLeft p then
    notify Ev.portReturned (putLe 1 p) (s.ownersOf p) (s.modEport p (fun e => { e with hold := .run }))
  else s

/-- EV.PORT.UP (R369). -/
def egressUp (p : Nat) (s : State) : State :=
  match (s.eport p).hold with
  | .hold => s.modEport p (fun e => { e with hold := .run })
  | .flushed => s.modEport p (fun e => { e with hold := .run })
  | .rehomed => returnCheck p (s.modEport p (fun e => { e with hold := .returning }))
  | _ => s

/-! ### Gates -/

/-- d = (T − TIME) mod 2^64 as a signed number (R157). -/
def timeDiff (t now : Nat) : Int := sx 64 ((t + 2 ^ 64 - now % 2 ^ 64) % 2 ^ 64)

/-- Gate states and interval of an entry; the last entry lasts until the cycle ends (R362). -/
def GateList.states (l : GateList) (i : Nat) : Nat := (l.entries.getD i (0xFF, 0)).1
def GateList.interval (l : GateList) (i : Nat) : Nat :=
  if i + 1 = l.entries.length then l.cycle - sumOf (l.entries.take i) (fun e => e.2) else (l.entries.getD i (0xFF, 0)).2

/-- How long a TC stays open from the start of an entry on: none when it never closes. -/
def GateList.openFor (l : GateList) (tc : Nat) : Nat → Nat → Option Nat
  | 0, _ => none
  | fuel + 1, i =>
    if (l.states i).testBit tc then
      (l.openFor tc fuel ((i + 1) % max 1 l.entries.length)).map (fun n => n + l.interval i)
    else some 0

/-- A TC's gate is open now (R362): open without a list. -/
def EPort.gateOpen (e : EPort) (tc : Nat) : Bool :=
  match e.list with
  | none => true
  | some l => (l.states e.gateIdx).testBit tc

/-- TIME in ns at which an open gate closes; none if it never does. A pending list replaces the running one at its start. -/
def EPort.gateCloses (e : EPort) (tc : Nat) : Option Nat :=
  let running : Option Nat := match e.list with
    | none => none
    | some l =>
      let next := if e.gapped then 0 else (e.gateIdx + 1) % max 1 l.entries.length
      (l.openFor tc (l.entries.length + 1) next).map (fun n => e.gateEnd + n)
  match e.pendingList with
  | none => running
  | some (start, set, l) =>
    if running.any (fun c => decide (timeDiff c start ≤ 0)) then running
    else if set then (l.openFor tc (l.entries.length + 1) 0).map (fun n => start + n) else none

/-- The per-lane rate class in use: class 1 in Cellar mode and until the port is retrained at full service (R124, R106). -/
def State.laneClass (s : State) (p : Nat) : Nat :=
  match s.pcfg p with
  | none => 1
  | some c => if s.dev.phase ≠ .full ∨ p ∈ s.dev.retrain ∨ p ∈ s.dev.retraining then 1 else max 1 c.cls

/-- CLIENT_RATE of Table LN-11 in Gb/s. -/
def clientGbps (r : Nat) : Nat := 100 * 2 ^ (r - 1)

/-- The port's current rate in Gb/s: lanes × class × 100, or the terminated client's rate on an OTN port (R120, R124, R133). -/
def State.portGbps (s : State) (p : Nat) : Nat :=
  match s.pcfg p with
  | none => 100
  | some c =>
    if c.type = 2 then
      match s.frm.cfg.tribs.find? (fun t => t.1 / 128 == p && t.2.kind == 1) with
      | some t => clientGbps t.2.rate
      | none => 100
    else c.lanes * s.laneClass p * 100

/-- Bytes MACsec adds to a frame of a port (R142). -/
def State.macsecBytes (s : State) (p : Nat) : Nat :=
  let y := s.secy p
  if y.enable && bit y.flags 0 then (if bit y.flags 2 then 32 else 24) else 0

/-- How far an instant lies ahead of TIME, in tenths of a nanosecond (R157, R172). -/
def State.tenthsTo (s : State) (t : Nat) : Int := timeDiff t s.timeNs * 10 - (s.tim.time.toNat * 10 / 2 ^ 48 % 10 : Nat)

/-- R366: a frame of `len` bytes selected now would leave the pins before its gate closes. -/
def State.passesGuard (s : State) (p tc len latency : Nat) : Bool :=
  match (s.eport p).gateCloses tc with
  | none => true
  | some close => decide (((latency + ceilDiv (len * 80) (s.portGbps p) : Nat) : Int) ≤ s.tenthsTo close)

/-! ### Eligibility and selection -/

/-- A child's shaper allows it (R353). -/
def State.shaperOk (s : State) (n : Node) : Bool :=
  match n.shaper with
  | none => true
  | some h => decide (0 ≤ (mgetD s.sch.shapers h {}).credit)

/-- A received PFC pause holds a class (R296). -/
def State.pausedTc (s : State) (p tc : Nat) : Bool := mhas (s.lport p).paused tc

/-- A queue is eligible (R353), apart from its port's state, which `schedulerSelect` checks once. -/
def State.queueEligible (s : State) (p q : Nat) (n : Node) : Bool :=
  match s.equeue q with
  | [] => false
  | k :: _ =>
    !(k.cut && !k.whole) && s.shaperOk n && !s.pausedTc p n.tc && (s.eport p).gateOpen n.tc && !mhas (s.eport p).lateSlot n.tc
      && s.passesGuard p n.tc (k.length + (s.schPort p).gateOverhead + s.macsecBytes p) Config.selectionLatency

/-- What a node offers its parent: the queue, its head's length, the scheduler updates the choice brings, and the nodes whose DRR round
ended with it. -/
structure Pick where
  queue : Nat := 0
  len : Nat := 0
  rr : List (Nat × Nat) := []
  deficits : List (Nat × Int) := []
  left : List Nat := []
deriving DecidableEq, Repr

/-- Children in service order after the one served last. -/
def afterLast (last : Option Nat) (l : List (Nat × Pick)) : List (Nat × Pick) :=
  match last with
  | none => l
  | some k => l.filter (fun c => decide (k < c.1)) ++ l.filter (fun c => decide (c.1 ≤ k))

/-- Rounds of quantum a child needs before its head fits; a child visited at all takes one. -/
def roundsNeeded (deficit : Int) (len quantum : Nat) : Nat := max 1 (ceilDiv ((len : Int) - deficit).toNat (max 1 quantum))

/-- Deficit round robin over eligible children in closed form: the child served last goes on while its deficit covers its head; else the
child that needs the fewest rounds, the first in order among equals, and every child visited before it gains its quantums. -/
def drrPick (deficit : Nat → Int) (quantum : Nat → Nat) (last : Option Nat) (l : List (Nat × Pick)) :
    Option (Nat × Pick × List (Nat × Int) × Bool) :=
  match last with
  | some k =>
    match l.find? (fun c => c.1 == k && decide ((c.2.len : Int) ≤ deficit c.1)) with
    | some c => some (c.1, c.2, [(c.1, deficit c.1 - c.2.len)], false)
    | none => go (afterLast last l)
  | none => go l
where
  go (order : List (Nat × Pick)) : Option (Nat × Pick × List (Nat × Int) × Bool) :=
    let need (c : Nat × Pick) : Nat := roundsNeeded (deficit c.1) c.2.len (quantum c.1)
    let best := order.foldl (fun (b : Option (Nat × Pick)) c =>
      match b with
      | none => some c
      | some d => if need c < need d then some c else some d) none
    match best with
    | none => none
    | some w =>
      let r := need w
      let before := order.takeWhile (fun c => decide (c.1 ≠ w.1))
      let after := (order.dropWhile (fun c => decide (c.1 ≠ w.1))).drop 1
      let gain (n : Nat) (c : Nat × Pick) : Nat × Int := (c.1, deficit c.1 + (n * quantum c.1 : Nat))
      let wraps := decide (1 < r) || (match last with | none => false | some k => decide (w.1 ≤ k))
      some (w.1, w.2, before.map (gain r) ++ [(w.1, deficit w.1 + (r * quantum w.1 : Nat) - w.2.len)] ++ after.map (gain (r - 1)), wraps)

/-- A node's choice in normal mode (R355): strict children first, the lowest PRIO, equal ones in round robin; then the weighted group. -/
def State.pickNormal (s : State) (lvl key : Nat) (l : List (Nat × Pick)) : Option Pick :=
  let prio (c : Nat) : Nat := ((s.node (lvl + 1) c).map Node.prio).getD 8
  let strict := l.filter (fun c => decide (prio c.1 < 8))
  match strict with
  | [] =>
    let w := l.filter (fun c => decide (8 ≤ prio c.1))
    let q (c : Nat) : Nat := ((s.node (lvl + 1) c).map Node.weight).getD 1 * 64
    (drrPick (fun c => mgetD s.sch.deficits (nodeKey (lvl + 1) c) 0) q (mget s.sch.rr (key * 16 + 8)) w).map
      (fun r => { r.2.1 with rr := (key * 16 + 8, r.1) :: r.2.1.rr,
                             deficits := r.2.2.1.map (fun d => (nodeKey (lvl + 1) d.1, d.2)) ++ r.2.1.deficits })
  | c :: t =>
    let best := t.foldl (fun b c => min b (prio c.1)) (prio c.1)
    match afterLast (mget s.sch.rr (key * 16 + best)) (strict.filter (fun c => prio c.1 == best)) with
    | [] => none
    | w :: _ => some { w.2 with rr := (key * 16 + best, w.1) :: w.2.rr }

/-- A node's choice in DRR mode (R356); a node on its way out of DRR mode leaves it when its round would begin again (R357). -/
def State.pickDrr (s : State) (lvl key : Nat) (leaving : Bool) (l : List (Nat × Pick)) : Option Pick :=
  let q (c : Nat) : Nat := ((s.node (lvl + 1) c).map Node.quantum).getD 2048
  match drrPick (fun c => mgetD s.sch.deficits (nodeKey (lvl + 1) c) 0) q (mget s.sch.rr (key * 16 + 9)) l with
  | none => none
  | some r =>
    if leaving && r.2.2.2 then (s.pickNormal lvl key l).map (fun p => { p with left := key :: p.left })
    else some { r.2.1 with rr := (key * 16 + 9, r.1) :: r.2.1.rr,
                           deficits := r.2.2.1.map (fun d => (nodeKey (lvl + 1) d.1, d.2)) ++ r.2.1.deficits }

/-- What a node or queue offers, `fuel` levels down. -/
def State.offer (s : State) (p : Nat) : Nat → Nat → Nat → Option Pick
  | 0, _, q =>
    match s.node 5 q with
    | none => none
    | some n => if s.queueEligible p q n then some { queue := q, len := ((s.equeue q).head?.map EPkt.length).getD 0 } else none
  | fuel + 1, lvl, idx =>
    let own := if lvl = 1 then true else match s.node lvl idx with | none => false | some n => s.shaperOk n
    if !own then none
    else
      let kids := (s.children lvl idx).filterMap (fun c => (s.offer p fuel (lvl + 1) c).map (fun o => (c, o)))
      let key := nodeKey lvl idx
      let e := s.eport p
      if e.drr then s.pickDrr lvl key false kids
      else if key ∈ e.drrLeft then s.pickDrr lvl key true kids
      else s.pickNormal lvl key kids

/-- Packets under a node or queue. -/
def State.backlog (s : State) : Nat → Nat → Nat → Nat
  | 0, _, q => (s.equeue q).length
  | fuel + 1, lvl, idx => sumOf (s.children lvl idx) (fun c => s.backlog fuel (lvl + 1) c)

/-- The keys from a queue up to its port's children. -/
def State.pathOf (s : State) (q : Nat) : List (Nat × Nat) :=
  match s.node 5 q with
  | none => []
  | some n5 => match s.node 4 n5.parent with
    | none => [(5, q)]
    | some n4 => match s.node 3 n4.parent with
      | none => [(5, q), (4, n5.parent)]
      | some n3 => [(5, q), (4, n5.parent), (3, n4.parent), (2, n3.parent)]

/-- A deficit falls to 0 when its child has nothing to send (R357). -/
def clearEmpty (q : Nat) (s : State) : State :=
  foldS (s.pathOf q) s (fun e s =>
    if s.backlog (5 - e.1) e.1 e.2 = 0 then
      { s with sch := { s.sch with deficits := mdel s.sch.deficits (nodeKey e.1 e.2) } } else s)

/-- A packet passes the shapers on its way (R358): each loses LENGTH + OVERHEAD, also below 0. -/
def chargeShapers (q len : Nat) (s : State) : State :=
  foldS (s.pathOf q) s (fun e s =>
    match (s.node e.1 e.2).bind Node.shaper with
    | none => s
    | some h =>
      let oh := ((mget s.sch.cfg.shapers h).map ShaperCfg.overhead).getD 0
      { s with sch := { s.sch with shapers := mmod s.sch.shapers h {} (fun x =>
          { x with credit := x.credit - ((len : Int) + oh) * 65536 }) } })

/-- Causes of DRR mode on a port: Cellar, DRR_TEST, a recovery window of a class marked in Table IF-2 (R356, R503). -/
def State.drrCauses (s : State) (p : Nat) : Nat :=
  flag (decide (s.dev.phase = .cellar)) 0 + flag (s.schPort p).drrTest 1
    + flag (s.flt.log.any (fun r => r.st == 1 && (r.cls == 11 || (r.cls == 2 && r.unit % 8 == p / 8 % 8)))) 2

/-- EV.SCH.MODE. -/
def schModeEvent (p mode cause : Nat) (s : State) : State :=
  notify Ev.schMode (putLe 1 p ++ putLe 1 mode ++ putLe 1 cause) (s.ownersOf p) s

/-- The port enters or begins to leave DRR mode at a selection (R357). Nodes with nothing to send end their round at once. Assumption log entry 20. -/
def drrUpkeep (p : Nat) (s : State) : State :=
  let c := s.drrCauses p
  let e := s.eport p
  if c ≠ 0 then
    let s1 := s.modEport p (fun e => { e with drr := true, drrCause := c, drrLeft := [] })
    if e.drr then s1
    else
      let keys := (s.nodesUnder p) ++ (s.queuesUnder p).map (nodeKey 5)
      schModeEvent p 1 c { s1 with sch := { s1.sch with deficits := s1.sch.deficits.filter (fun d => decide (d.1 ∉ keys)) } }
  else if e.drr then
    let left := (s.nodesUnder p).filter (fun k => decide (0 < s.backlog (5 - k / 2 ^ 20) (k / 2 ^ 20) (k % 2 ^ 20)))
    let s := s.modEport p (fun e => { e with drr := false, drrLeft := left })
    if left = [] then schModeEvent p 0 e.drrCause (s.modEport p (fun e => { e with drrCause := 0 })) else s
  else if e.drrLeft ≠ [] then
    let left := e.drrLeft.filter (fun k => decide (0 < s.backlog (5 - k / 2 ^ 20) (k / 2 ^ 20) (k % 2 ^ 20)))
    if left = [] then schModeEvent p 0 e.drrCause (s.modEport p (fun e => { e with drrLeft := [], drrCause := 0 }))
    else s.modEport p (fun e => { e with drrLeft := left })
  else s

/-- R353: the port node takes its next packet when this one's LENGTH has passed at the port's current rate (assumption log entry 149). -/
def pace (p len : Nat) (s : State) : State :=
  s.modEport p (fun e => { e with paceAt := max s.mono e.paceAt + len * 80 / s.portGbps p })

/-- Apply a choice: the packet leaves its queue for egress processing. -/
def applyPick (p : Nat) (k : Pick) (s : State) : State :=
  match s.equeue k.queue with
  | [] => s
  | pkt :: t =>
    let s := pace p pkt.length s
    let s := { s with sch := { s.sch with
      rr := k.rr.foldl (fun m (e : Nat × Nat) => mset m e.1 e.2) s.sch.rr,
      deficits := k.deficits.foldl (fun m (e : Nat × Int) => mset m e.1 e.2) s.sch.deficits } }
    let s := s.modEport p (fun e => { e with drrLeft := e.drrLeft.filter (fun x => decide (x ∉ k.left)),
                                             tx := e.tx ++ [(k.queue, pkt)] })
    let s := chargeShapers k.queue pkt.length (s.setQueue k.queue t)
    let s := clearEmpty k.queue s
    if k.left ≠ [] ∧ (s.eport p).drrLeft = [] then
      schModeEvent p 0 (s.eport p).drrCause (s.modEport p (fun e => { e with drrCause := 0 }))
    else s

end Sys2Proof.Machine
end

