-- ==== Sys2Proof/Machine/TblOps.lean ====
section
/-! DEFINITION. Table records (Tables PL-5, PL-11, PL-14), epoch tables (R194–R203), capacities (R191) and the steps of a commit (R200). -/
namespace Sys2Proof.Machine

/-! ### NEXT (Table PL-5) -/

def nextKind (n : Next) : Nat := bits n.toNat 31 29
def nextIndex (n : Next) : Nat := bits n.toNat 21 0
/-- KIND of Table PL-5 with an INDEX in its range. -/
def nextOk (n : Next) : Bool :=
  decide (nextKind n ≤ 4) && (nextKind n != 2 || decide (nextIndex n < 65536))
    && (nextKind n != 3 || decide (128 ≤ nextIndex n % 256 ∧ nextIndex n < 16384))
def nextReserved (n : Next) : Bool := decide (bits n.toNat 28 22 ≠ 0)

/-! ### Records -/

/-- Fixed part and, in a set record, the variable part: record length of Table PL-11 or PL-14. -/
def recLength (b : List Byte) : Nat :=
  let set := le b 1 1 == 1
  match le b 0 1 with
  | 1 => 24
  | 2 => 32
  | 3 => if keyUnits (le b 8 1) = 2 then 64 else 48
  | 4 => if set then 24 + le b 16 1 else 24
  | 5 => if set then (16 + 4 * le b 10 2 + 7) / 8 * 8 else 16
  | 6 => 16
  | 7 => if set then 16 + 8 * le b 9 1 else 16
  | 8 => if set then 96 else 16
  | _ => 0

/-- The record's body. -/
def parseTRec (b : List Byte) : TRec :=
  match le b 0 1 with
  | 1 => .lpm false (le b 8 2) (le b 10 1) (be b 12 4) (BitVec.ofNat 32 (le b 16 4))
  | 2 => .lpm true (le b 8 2) (le b 10 1) (be b 16 16) (BitVec.ofNat 32 (le b 12 4))
  | 3 => .exact (le b 8 1) (bytesAt b 24 (20 * keyUnits (le b 8 1))) (BitVec.ofNat 32 (le b 12 4)) (le b 16 2) (le b 18 1)
  | 4 => .encap (le b 8 4) (le b 12 1) (le b 13 1) (le b 14 2) (bytesAt b 24 (le b 16 1))
  | 5 => .group (le b 8 2) ((chunks 4 (le b 10 2) (b.drop 16)).map leVal)
  | 6 => .port (le b 8 1) (le b 9 1) (le b 10 2) (le b 12 1) (le b 13 1) (le b 14 1)
  | 7 => .program (le b 8 1) (le b 10 1) (le b 11 1) (chunks 8 (le b 9 1) (b.drop 16))
  | _ => .classmap (le b 8 1) (bytesAt b 16 64) (bytesAt b 80 8) (bytesAt b 88 8)

/-- TABLE code of a record. -/
def TRec.table : TRec → Nat
  | .lpm v6 _ _ _ _ => if v6 then 2 else 1
  | .exact _ _ _ _ _ => 3
  | .encap _ _ _ _ _ => 4
  | .group _ _ => 5
  | .port _ _ _ _ _ _ => 6
  | .program _ _ _ _ => 7
  | .classmap _ _ _ _ => 8

/-- The body of a record after its 8-byte header, in canonical form. -/
def TRec.body : TRec → List Byte
  | .lpm false vrf len addr next => putLe 2 vrf ++ putLe 1 len ++ [0] ++ putBe 4 addr ++ putLe 4 next.toNat ++ zeros 4
  | .lpm true vrf len addr next => putLe 2 vrf ++ putLe 1 len ++ [0] ++ putLe 4 next.toNat ++ putBe 16 addr
  | .exact kt key next vrf act =>
    putLe 1 kt ++ zeros 3 ++ putLe 4 next.toNat ++ putLe 2 vrf ++ putLe 1 act ++ zeros 5 ++ key ++ zeros (if key.length = 20 then 4 else 0)
  | .encap h v fl sp r => putLe 4 h ++ putLe 1 v ++ putLe 1 fl ++ putLe 2 sp ++ putLe 1 r.length ++ zeros 7 ++ r
  | .group g m => putLe 2 g ++ putLe 2 m.length ++ zeros 4 ++ m.flatMap (putLe 4) ++ zeros (4 * (m.length % 2))
  | .port p prog vrf cm tc vi => putLe 1 p ++ putLe 1 prog ++ putLe 2 vrf ++ putLe 1 cm ++ putLe 1 tc ++ putLe 1 vi ++ [0]
  | .program n miss fl st => putLe 1 n ++ putLe 1 st.length ++ putLe 1 miss ++ putLe 1 fl ++ zeros 4 ++ st.flatMap (fun b => b)
  | .classmap m d p x => putLe 1 m ++ zeros 7 ++ d ++ p ++ x

/-- A record as TBL.STAGE takes it (Table PL-11) with OP 1: the canonical form of R452. -/
def TRec.bytes (r : TRec) : List Byte :=
  putLe 1 r.table ++ putLe 1 1 ++ putLe 2 (r.body.length + 8) ++ zeros 4 ++ r.body

/-- Two records name the same object (R195; assumption log entry 36). -/
def TRec.same : TRec → TRec → Bool
  | .lpm v vrf len a _, .lpm v' vrf' len' a' _ => v == v' && vrf == vrf' && len == len' && a == a'
  | .exact k key _ _ _, .exact k' key' _ _ _ => k == k' && key == key'
  | .encap h v _ _ _, .encap h' v' _ _ _ => h == h' && v == v'
  | .group g _, .group g' _ => g == g'
  | .port p _ _ _ _ _, .port p' _ _ _ _ _ => p == p'
  | .program n _ _ _, .program n' _ _ _ => n == n'
  | .classmap m _ _ _, .classmap m' _ _ _ => m == m'
  | _, _ => false

/-! ### Epoch tables -/

def Tables.setRec (l : List TRec) (r : TRec) : List TRec := l.filter (fun x => !x.same r) ++ [r]

/-- One operation applied to the tables of the epoch being made (R195, R202, R203). -/
def Tables.apply (t : Tables) (o : TOp) : Tables :=
  match o.del, o.body with
  | false, .lpm v a b c n => { t with lpm := Tables.setRec t.lpm (.lpm v a b c n) }
  | true, .lpm v a b c n => { t with lpm := t.lpm.filter (fun x => !x.same (.lpm v a b c n)) }
  | false, .exact k a n v c => { t with exact := Tables.setRec t.exact (.exact k a n v c) }
  | true, .exact k a n v c => { t with exact := t.exact.filter (fun x => !x.same (.exact k a n v c)) }
  | false, .encap h v fl _ _ =>
    { t with present := addOnce t.present (encKey h v), current := if bit fl 0 then mset t.current h v else t.current }
  | true, .encap h v _ _ _ =>
    { t with present := without t.present (encKey h v), current := if mget t.current h = some v then mdel t.current h else t.current }
  | false, .group g m => { t with groups := mset t.groups g m }
  | true, .group g _ => { t with groups := mdel t.groups g }
  | false, .port p a b c d e => { t with ports := mset t.ports p (.port p a b c d e) }
  | true, .port p _ _ _ _ _ => { t with ports := mdel t.ports p }
  | false, .program n a b c => { t with programs := mset t.programs n (.program n a b c) }
  | true, .program n _ _ _ => { t with programs := mdel t.programs n }
  | false, .classmap m a b c => { t with classmaps := mset t.classmaps m (.classmap m a b c) }
  | true, .classmap m _ _ _ => { t with classmaps := mdel t.classmaps m }

def Tables.applyAll (t : Tables) (l : List TOp) : Tables := l.foldl Tables.apply t

/-- The newest committed epoch. -/
def State.newest (s : State) : Option Epoch := s.tbl.epochs.getLast?
def State.newestTables (s : State) : Tables := (s.newest.map Epoch.tables).getD {}
def State.epoch? (s : State) (n : Nat) : Option Epoch := s.tbl.epochs.find? (fun e => e.num == n)
def State.stagingOf (s : State) (vi : Nat) : List TOp := mgetD s.tbl.staging vi []

/-! ### Capacity (R191, Table PL-3) -/

/-- A staging set with one more operation: a later operation on the same object replaces an earlier one (R195). -/
def addOp (l : List TOp) (o : TOp) : List TOp := l.filter (fun x => !x.body.same o.body) ++ [o]

/-- LPM units of a record. -/
def lpmUnits : TRec → Nat | .lpm true _ _ _ _ => 2 | .lpm false _ _ _ _ => 1 | _ => 0
def exactUnits : TRec → Nat | .exact k _ _ _ _ => keyUnits k | _ => 0

/-- LPM units, exact-match units, groups and members of one epoch's tables. -/
def Tables.counts (t : Tables) : List Nat :=
  [sumOf t.lpm lpmUnits, sumOf t.exact exactUnits, t.groups.length, sumOf t.groups (fun g => g.2.length)]

/-- A staged operation replaces or deletes an entry of the newest epoch (R191). -/
def TOp.supersedes (o : TOp) (t : Tables) : Bool :=
  match o.body with
  | .lpm v a b c n => t.lpm.any (fun x => x.same (.lpm v a b c n))
  | .exact k a n v c => t.exact.any (fun x => x.same (.exact k a n v c))
  | _ => false

/-- Entry versions of an epoch that the next newer live epoch no longer holds. -/
def supersededIn (a b : Tables) : Nat :=
  (a.lpm.filter (fun r => decide (r ∉ b.lpm))).length + (a.exact.filter (fun r => decide (r ∉ b.exact))).length

def versionSpace : List Epoch → Nat
  | a :: b :: t => supersededIn a.tables b.tables + versionSpace (b :: t)
  | _ => 0

/-- Versions a staging set would install that the device does not hold: (handle, VERSION, flags, record length). -/
def State.stagedVersions (s : State) (l : List TOp) : List (Nat × Nat × Nat × Nat) :=
  l.filterMap (fun o => match o.del, o.body with
    | false, .encap h v fl _ r => if mhas s.tbl.encaps (encKey h v) then none else some (h, v, fl, r.length)
    | _, _ => none)

/-- Versions that are not current: those the device holds and those a staging set adds, under a set of current versions. -/
def nonCurrent (encaps : AMap EncVer) (current : AMap Nat) (added : List (Nat × Nat × Nat × Nat)) : Nat :=
  (encaps.filter (fun e => mget current (e.1 / 2 ^ 16) != some (e.1 % 2 ^ 16))).length
    + (added.filter (fun v => mget current v.1 != some v.2.1)).length

/-- The eight used figures of USAGE (Table PL-10), counted as R191 says: what the newest epoch has, plus the net additions of every staging set. -/
def State.usage (s : State) (staging : AMap (List TOp)) : List Nat :=
  let base := s.newestTables
  let net (i : Nat) : Nat := sumOf staging (fun e => ((base.applyAll e.2).counts.getD i 0) - (base.counts.getD i 0))
  let newv := staging.flatMap (fun e => s.stagedVersions e.2)
  let handles := ((mkeys s.tbl.encaps).map (fun k => k / 2 ^ 16) ++ newv.map (fun (v : Nat × Nat × Nat × Nat) => v.1)).eraseDups
  let old := nonCurrent s.tbl.encaps base.current []
  let nonCur := old + sumOf staging (fun e => nonCurrent s.tbl.encaps (base.applyAll e.2).current (s.stagedVersions e.2) - old)
  let resident := sumOf s.tbl.encaps (fun e => if bit e.2.flags 1 then e.2.record.length else 0)
    + sumOf newv (fun (v : Nat × Nat × Nat × Nat) => if bit v.2.2.1 1 then v.2.2.2 else 0)
  let space := versionSpace s.tbl.epochs + sumOf staging (fun e => (e.2.filter (fun o => o.supersedes base)).length)
  [base.counts.getD 0 0 + net 0, base.counts.getD 1 0 + net 1, handles.length, nonCur, base.counts.getD 2 0 + net 2,
   base.counts.getD 3 0 + net 3, resident, space]

/-- Capacities of USAGE (Table PL-3). -/
def tblCapacity : List Nat := [12582912, 16777216, 4194304, 1048576, 65536, 1048576, 16777216, 2097152]

/-- EV.TBL.CAPACITY for each table that reaches CAPACITY_WARN percent (R191). -/
def capacityWarn (s : State) : State :=
  let u := s.usage s.tbl.staging
  foldS (List.range 8) s (fun i s =>
    let cap := tblCapacity.getD i 1
    let used := u.getD i 0
    if s.tbl.cfg.warn * cap ≤ used * 100 then
      if i ∈ s.tbl.warned then s
      else notify Ev.tblCapacity (putLe 1 i ++ putLe 1 (min 100 (used * 100 / cap))) []
        { s with tbl := { s.tbl with warned := s.tbl.warned ++ [i] } }
    else { s with tbl := { s.tbl with warned := without s.tbl.warned i } })

/-! ### Programs -/

/-- Widths of the regions that profiles name (R249). -/
def State.profileWidth (s : State) (profiles : AMap (Nat × Nat)) (n : Nat) : Nat :=
  match mget profiles n with
  | none => 0
  | some (r, _) => (mget s.asa.regions r).map Region.width |>.getD 0

/-- The most expensive path from step `i`: table HBM reads and ASA search units (R185). -/
def programCost (width : Nat → Nat) (steps : List (List Byte)) : Nat → Nat → Nat × Nat
  | 0, _ => (0, 0)
  | fuel + 1, i =>
    match steps[i]? with
    | none => (0, 0)
    | some b =>
      let k := le b 0 1
      let a := le b 2 1
      let own : Nat × Nat :=
        if k = 2 then (keyUnits a, 0) else if k = 3 then (if a = 6 then 2 else 1, 0) else if k = 4 then (0, width a) else (0, 0)
      let h := programCost width steps fuel (le b 3 1)
      let m := programCost width steps fuel (le b 4 1)
      (own.1 + max h.1 m.1, own.2 + max h.2 m.2)

def State.programFits (s : State) (profiles : AMap (Nat × Nat)) (steps : List (List Byte)) : Bool :=
  let c := programCost (s.profileWidth profiles) steps 13 0
  decide (c.1 ≤ 4 ∧ c.2 ≤ 4)

/-- Every program of a live epoch or of a staging set. -/
def State.allPrograms (s : State) : List (List (List Byte)) :=
  let steps : TRec → Option (List (List Byte)) := fun r => match r with | .program _ _ _ st => some st | _ => none
  s.tbl.epochs.flatMap (fun e => (mvals e.tables.programs).filterMap steps)
    ++ s.tbl.staging.flatMap (fun e => e.2.filterMap (fun o => if o.del then none else steps o.body))

/-- A program keeps the limits of R185: 12 steps, and its reads and search units. -/
def State.withinBudget (s : State) (steps : List (List Byte)) : Bool := decide (steps.length ≤ 12) && s.programFits s.asa.profiles steps

/-- A step of a program record is well formed: KIND, parameters, ON_HIT and ON_MISS (Table PL-11). -/
def stepOk (n i : Nat) (b : List Byte) : Bool :=
  let k := le b 0 1
  let a := le b 2 1
  let tgt (x : Nat) : Bool := x == 255 || decide (i < x ∧ x < n)
  decide (1 ≤ k ∧ k ≤ 5) && tgt (le b 3 1) && tgt (le b 4 1)
    && (match k with
        | 1 => decide (1 ≤ a ∧ a ≤ 3)
        | 2 => decide (1 ≤ a ∧ a ≤ 7)
        | 3 => a == 4 || a == 6
        | 4 => decide (a < 64)
        | _ => a == 0)

/-! ### Checks of a record (R216, Table PL-11) -/

/-- Whether the low bits of an address beyond the prefix are 0. -/
def prefixClean (w len addr : Nat) : Bool := decide (len ≤ w) && decide (addr % 2 ^ (w - len) = 0)

/-- Reserved bytes of a record: those that must be 0. -/
def recReserved (b : List Byte) : Bool :=
  let z (off n : Nat) : Bool := decide (le b off n ≠ 0)
  let len := le b 2 2
  z 4 4 || (match le b 0 1 with
    | 1 => z 11 1 || z 20 4 || nextReserved (BitVec.ofNat 32 (le b 16 4))
    | 2 => z 11 1 || nextReserved (BitVec.ofNat 32 (le b 12 4))
    | 3 => z 9 3 || z 19 5 || bit (le b 18 1) 7 || nextReserved (BitVec.ofNat 32 (le b 12 4))
        || (keyUnits (le b 8 1) == 1 && z 44 4)
    | 4 => z 17 7 || decide (2 ^ 22 ≤ le b 8 4) || decide (8 ≤ le b 13 1) || bit (le b 14 2) 15
        || (le b 1 1 == 1 && (decide (2 ≤ le b 26 1) || z 33 7))
    | 5 => z 12 4 || (le b 1 1 == 1 && ((chunks 4 (le b 10 2) (b.drop 16)).any (fun m => decide (2 ^ 22 ≤ leVal m)) || z (16 + 4 * le b 10 2) (len - (16 + 4 * le b 10 2))))
    | 6 => z 15 1 || decide (8 ≤ le b 13 1) || decide (64 ≤ le b 14 1)
    | 7 => z 12 4 || decide (2 ≤ le b 11 1)
        || (le b 1 1 == 1 && (chunks 8 (le b 9 1) (b.drop 16)).any (fun st => decide (4 ≤ le st 1 1) || decide (le st 5 1 ≠ 0)
              || (le st 0 1 != 5 && decide (le st 6 2 ≠ 0))))
    | 8 => z 9 7 || (le b 1 1 == 1 && (bytesAt b 16 80).any (fun x => decide (32 ≤ x.toNat)))
    | _ => false)

/-- A delete record has a non-zero field other than a naming field (Table PL-14). -/
def delDirty (b : List Byte) : Bool :=
  let z (off n : Nat) : Bool := decide (le b off n ≠ 0)
  match le b 0 1 with
  | 1 => z 11 1 || z 16 8
  | 2 => z 11 5
  | 3 => z 9 15
  | 4 => z 13 11
  | 5 => z 10 6
  | 6 => z 9 7
  | 7 => z 9 7
  | 8 => z 9 7
  | _ => true

/-- The encapsulation record of Table ES-4 is well formed; its reserved bits are those of `recReserved`. -/
def encapOk (r : List Byte) : Bool :=
  let n := r.length
  let push := le r 3 1
  let fill (off size : Nat) : Bool := le r off 1 == 255 || decide (le r off 1 + size ≤ push)
  decide (16 ≤ n ∧ n ≤ 128 ∧ n % 16 = 0 ∧ le r 0 1 ≤ 3 ∧ le r 1 1 ≤ 8 ∧ push ≤ n - 16 ∧ (le r 1 1 = 0 ∨ le r 0 1 = 2))
    && fill 4 4 && fill 5 2 && fill 6 2 && fill 7 20 && (le r 8 1 == 255 || decide (le r 8 1 < 64))

/-- A record's fields lie in their ranges (TBL_BAD_RECORD otherwise). -/
def recOk (b : List Byte) : Bool :=
  let op := le b 1 1
  let t := le b 0 1
  let set := op == 1
  decide (1 ≤ t ∧ t ≤ 8 ∧ (op = 1 ∨ op = 2)) && (le b 2 2 == recLength b) && (set || !delDirty b)
    && (match parseTRec b with
        | .lpm v6 vrf len addr next => decide (vrf < 16384) && prefixClean (if v6 then 128 else 32) len addr && (!set || nextOk next)
        | .exact kt key next vrf _ =>
          decide (1 ≤ kt ∧ kt ≤ 7) && (!set || (nextOk next && decide (vrf < 16384)))
            && decide (beVal key % 2 ^ (match kt with | 1 => 132 | 2 => 114 | 3 => 18 | 4 => 58 | 5 => 26 | 6 => 42 | _ => 10) = 0)
        | .encap _ _ _ _ r => !set || encapOk r
        | .group _ m => !set || decide (1 ≤ m.length ∧ m.length ≤ 512)
        | .port p prog vrf cm _ _ => decide (p < 192) && (!set || decide (prog < 64 ∧ vrf < 16384 ∧ cm < 64))
        | .program n miss _ st =>
          decide (n < 64) && (!set || (decide (1 ≤ st.length ∧ miss ≤ 1)
            && (upFrom 0 st.length).all (fun i => stepOk st.length i (st.getD i []))))
        | .classmap m _ _ _ => decide (m < 64))

/-- An EXACT key's VRF (or label space, key type 1): the leading field (Table PL-4). -/
def keyVrf (kt : Nat) (key : List Byte) : Nat :=
  if kt = 1 then be key 0 1 else beVal key / 2 ^ (8 * key.length - 14)

/-- Whether an instance other than VI0 may stage or read a record (R423, Table VI-2). -/
def Grant.mayRec (g : Grant) (vi : Nat) (set : Bool) (r : TRec) : Bool :=
  let nx (n : Next) : Bool := !set || nextKind n != 3 || nextIndex n / 256 == vi
  match r with
  | .lpm _ vrf _ _ n => inRange g.vrf vrf && nx n
  | .exact kt key n _ _ => (if kt = 1 then inRange g.label (keyVrf kt key) else inRange g.vrf (keyVrf kt key)) && nx n
  | .encap h _ _ _ _ => inRange g.handle h
  | .group n m => inRange g.group n && m.all (fun h => inRange g.handle h)
  | _ => false

/-- A VRF, label space, handle or group is granted (Table VI-2). -/
def State.hasPartition (s : State) (vi : Nat) : Bool :=
  let g := (s.inst vi).grant
  vi == 0 || decide (0 < g.vrf.2 ∨ 0 < g.label.2 ∨ 0 < g.handle.2 ∨ 0 < g.group.2)

/-- An instance's units in a set of tables (R424). -/
def Grant.lpmUsed (g : Grant) (t : Tables) : Nat :=
  sumOf t.lpm (fun r => match r with | .lpm _ vrf _ _ _ => if inRange g.vrf vrf then lpmUnits r else 0 | _ => 0)
def Grant.exactUsed (g : Grant) (t : Tables) : Nat :=
  sumOf t.exact (fun r => match r with
    | .exact kt key _ _ _ => if (if kt = 1 then inRange g.label (keyVrf kt key) else inRange g.vrf (keyVrf kt key)) then exactUnits r else 0
    | _ => 0)

/-! ### Staging (R191, R202, R203, R210) -/

/-- Equal contents of a version, CURRENT aside (R202). -/
def EncVer.equals (v : EncVer) (fl sp : Nat) (r : List Byte) : Bool := v.flags / 2 == fl / 2 && v.destSp == sp && v.record == r

/-- Versions of a handle that have not retired, and those that the staging sets would add. -/
def State.versionsOf (s : State) (staging : AMap (List TOp)) (h : Nat) : Nat :=
  (s.tbl.encaps.filter (fun e => e.1 / 2 ^ 16 == h)).length
    + (((staging.flatMap (fun e => s.stagedVersions e.2)).filter (fun v => v.1 == h)).map (fun v => v.2.1)).eraseDups.length

/-- A staged operation sets a pair (handle, VERSION) with other contents: versions are immutable, whichever set names them (R202). -/
def TOp.clashes (o : TOp) (h v fl sp : Nat) (rec : List Byte) : Bool :=
  !o.del && (match o.body with
    | .encap h' v' fl' sp' rec' => h' == h && v' == v && !(fl' / 2 == fl / 2 && sp' == sp && rec' == rec)
    | _ => false)

/-- Why a record cannot be staged onto the issuer's set `l`: status and detail; none when it can. -/
def stageRefusal (vi : Nat) (b : List Byte) (l : List TOp) (s : State) : Option (Nat × Nat) :=
  let set := le b 1 1 == 1
  if !recOk b then some (St.eArg, Dt.tblBadRecord)
  else if recReserved b then some (St.eArg, Dt.hifReservedNonzero)
  else if vi ≠ 0 ∧ !(s.inst vi).grant.mayRec vi set (parseTRec b) then some (St.eDenied, Dt.hifNotPermitted)
  else
    let r := parseTRec b
    let l' := addOp l { del := !set, body := r }
    let staging := mset s.tbl.staging vi l'
    let u := s.usage staging
    let grant := (s.inst vi).grant
    let after := s.newestTables.applyAll l'
    let specific : Option (Nat × Nat) :=
      if !set then none
      else match r with
        | .program _ _ _ st => if s.withinBudget st then none else some (St.eArg, Dt.tblProgramBudget)
        | .encap h v fl sp rec =>
          match mget s.tbl.encaps (encKey h v) with
          | some x => if x.equals fl sp rec then none else some (St.eArg, Dt.tblVersionExists)
          | none =>
            if (mset s.tbl.staging vi l).any (fun e => e.2.any (fun o => o.clashes h v fl sp rec)) then some (St.eArg, Dt.tblVersionExists)
            else if 4 < s.versionsOf staging h then some (St.eNospace, Dt.tblVersionLimit)
            else none
        | _ => none
    match specific with
    | some e => some e
    | none =>
      if (List.range 7).any (fun i => decide (tblCapacity.getD i 0 < u.getD i 0)) then some (St.eNospace, Dt.tblCapacity)
      else if tblCapacity.getD 7 0 < u.getD 7 0 then some (St.eNospace, Dt.tblVersionSpace)
      else if vi ≠ 0 ∧ set ∧ ((r.table ≤ 2 ∧ grant.lpmQuota ≠ 0 ∧ grant.lpmQuota < grant.lpmUsed after)
          ∨ (r.table = 3 ∧ grant.exactQuota ≠ 0 ∧ grant.exactQuota < grant.exactUsed after)) then
        some (St.eNospace, Dt.tblCapacity)
      else none

/-- The buffer cut into records by their LENGTH, and the bytes they take. -/
def splitRecs : Nat → List Byte → List (List Byte) × Nat
  | 0, _ => ([], 0)
  | n + 1, b =>
    let len := le b 2 2
    let (t, k) := splitRecs n (b.drop len)
    (fit (max len 96) (b.take len) :: t, k + len)

/-- The records in order: the new set, or the first failing index with its reason. -/
def stageAll (vi : Nat) (s : State) : Nat → List TOp → List (List Byte) → List TOp × Option (Nat × Nat × Nat)
  | _, l, [] => (l, none)
  | i, l, b :: t =>
    match stageRefusal vi b l s with
    | some (st, dt) => (l, some (i, st, dt))
    | none => stageAll vi s (i + 1) (addOp l { del := le b 1 1 == 2, body := parseTRec b }) t

/-! ### Commit (R198–R201) -/

/-- The next epoch number (R213). -/
def nextEpoch (n : Nat) : Nat := if (n + 1) % 65536 = 0 then 1 else (n + 1) % 65536

/-- The number a commit takes. -/
def State.commitNumber (s : State) : Nat := match s.newest with | none => 1 | some e => nextEpoch e.num

/-- Whether a commit's number lies 16,384 or more ahead of the oldest live epoch (R198). -/
def State.spanTooWide (s : State) : Bool :=
  match s.tbl.epochs.head? with
  | none => false
  | some e => decide (16384 ≤ dist 16 e.num s.commitNumber)

/-- Whether a NEXT names nothing in a set of tables (R199). -/
def Tables.dangles (t : Tables) (n : Next) : Bool :=
  (nextKind n == 1 && !mhas t.current (nextIndex n)) || (nextKind n == 2 && !mhas t.groups (nextIndex n))

def TRec.next? : TRec → Option Next
  | .lpm _ _ _ _ n => some n
  | .exact _ _ n _ _ => some n
  | _ => none

/-- A port names a program or class map that does not exist (R199). -/
def Tables.portDangles (t : Tables) (r : TRec) : Bool :=
  match r with | .port _ p _ c _ _ => !mhas t.programs p || !mhas t.classmaps c | _ => false

def Tables.anyDangle (t : Tables) : Bool :=
  (t.lpm ++ t.exact).any (fun r => r.next?.any t.dangles) || (mvals t.ports).any t.portDangles

/-- A staged operation that leaves something dangling in the epoch it would create. -/
def TOp.dangling (t : Tables) (o : TOp) : Bool :=
  match o.del, o.body with
  | false, r => r.next?.any t.dangles || t.portDangles r
  | true, .encap h _ _ _ _ => (t.lpm ++ t.exact).any (fun r => r.next?.any (fun n => nextKind n == 1 && nextIndex n == h && t.dangles n))
  | true, .group g _ => (t.lpm ++ t.exact).any (fun r => r.next?.any (fun n => nextKind n == 2 && nextIndex n == g && t.dangles n))
  | true, .program n _ _ _ => (mvals t.ports).any (fun r => match r with | .port _ p _ _ _ _ => p == n | _ => false)
  | true, .classmap m _ _ _ => (mvals t.ports).any (fun r => match r with | .port _ _ _ c _ _ => c == m | _ => false)
  | _, _ => false

/-- A version installed by a commit or at Cellar entry (R202): a deletion of an equal one is undone. -/
def installVersion (h v fl sp : Nat) (rec : List Byte) (m : AMap EncVer) : AMap EncVer :=
  match mget m (encKey h v) with
  | some x => mset m (encKey h v) { x with flags := fl, deletedAt := none }
  | none => mset m (encKey h v) { flags := fl, destSp := sp, record := rec }

/-- Versions that a change from one set of current versions to another supersedes begin their hold (R205). -/
def beginHolds (now : Nat) (old new : Tables) (m : AMap EncVer) : AMap EncVer :=
  old.current.foldl (fun m c =>
    if mget new.current c.1 = some c.2 then m
    else match mget m (encKey c.1 c.2) with
      | some x => mset m (encKey c.1 c.2) { x with lastCurrent := some now }
      | none => m) m

/-- The versions after a staging set is applied. -/
def commitEncaps (now : Nat) (ops : List TOp) (m : AMap EncVer) : AMap EncVer :=
  ops.foldl (fun m o => match o.del, o.body with
    | false, .encap h v fl sp r => installVersion h v fl sp r m
    | true, .encap h v _ _ _ => (match mget m (encKey h v) with
        | some x => mset m (encKey h v) { x with deletedAt := some now }
        | none => m)
    | _, _ => m) m

/-- A paired port that stamps a new epoch, or searches changed ASA entries, only from an arrival number on (R387). -/
def State.switchPorts (s : State) : List Nat :=
  if s.member then (s.pair.ports.filter (fun e => e.2.sync)).map (fun e => e.1) else []

/-- No arrival number yet: beyond every 48-bit arrival. -/
def noArrival : Nat := 2 ^ 48

/-- The new epoch is current: the older one drains, or stays pinned (Table PL-6). -/
def supersede (l : List Epoch) : List Epoch :=
  l.map (fun e => if e.st = .current then { e with st := if e.pin then .pinned else .draining } else e)

/-- The switch of a commit (R200): the epoch that the operations make becomes current. -/
def commitOps (vi : Nat) (ops : List TOp) (s : State) : State :=
  let prev := (s.newest.map Epoch.num).getD 0
  let old := s.newestTables
  let new := old.applyAll ops
  let num := s.commitNumber
  let encs := beginHolds s.mono old new (commitEncaps s.mono ops s.tbl.encaps)
  let s := { s with tbl := { s.tbl with epochs := supersede s.tbl.epochs ++ [{ num := num, tables := new }], encaps := encs } }
  let s := foldS s.switchPorts s (fun p s =>
    { s with pair := { s.pair with ports := mmod s.pair.ports p {} (fun x => { x with switches := x.switches ++ [(noArrival, num)] }) } })
  let pay := putLe 2 num ++ putLe 2 prev ++ putLe 1 vi ++ zeros 3 ++ putLe 8 s.timeNs
  let s := notify Ev.tblCommitted pay (if vi < 64 then [vi] else []) s
  capacityWarn (count Cn.tblCommits 0 1 s)

/-- The tests of R198 and R199 on an instance's staging set, then the switch. Assumption log entry 38. -/
def commitNow (vi : Nat) (s : State) : Reply :=
  let ops := s.stagingOf vi
  if ops = [] then .err s St.eState Dt.tblNothingStaged
  else if s.spanTooWide then .err s St.eEpochFull Dt.tblEpochSpan
  else
    let new := s.newestTables.applyAll ops
    if new.anyDangle then
      .err s St.eArg Dt.tblDangling (putLe 4 ((ops.findIdx? (fun o => o.dangling new)).getD 0))
    else
      let t := s.timeNs
      let num := s.commitNumber
      .ok (commitOps vi ops { s with tbl := { s.tbl with staging := mdel s.tbl.staging vi } }) (putLe 2 num ++ zeros 2 ++ putLe 8 t)

/-! ### Retirement (R196, R205) -/

/-- A packet stamped with an epoch is still in Mill or Mash, a prediction made under it is not resolved (R219), or a paired port still has it to
stamp (R387). -/
def State.epochBusy (s : State) (n : Nat) : Bool :=
  s.mash.pkts.any (fun p => p.stamp == some n)
    || s.mash.trub.any (fun r => r.2.fill == n)
    || s.pair.ports.any (fun p => p.2.switches.any (fun w =>
        ((s.tbl.epochs.takeWhile (fun e => decide (e.num ≠ w.2))).getLast?.map Epoch.num) == some n))

/-- The conditions of R196 on a draining epoch. -/
def State.mayRetire (s : State) (e : Epoch) : Bool := e.st == .draining && !s.epochBusy e.num

def retireEpoch (n : Nat) (s : State) : State :=
  { s with tbl := { s.tbl with epochs := s.tbl.epochs.filter (fun e => decide (e.num ≠ n)) } }

/-- The Cellar set of a unit in Cellar mode makes a version current (R214). -/
def State.cellarNames (s : State) (h v : Nat) : Bool :=
  s.dev.phase == .cellar && s.dev.cfg.cellar.encaps.any (fun r => match r with | .encap h' v' _ _ _ => h' == h && v' == v | _ => false)

/-- The released and the stored bytes of a stream from its incomplete packet on, as far as its numbers follow each other. -/
def Stream.contiguous (t : Stream) : Nat → Nat → List Byte
  | 0, _ => []
  | fuel + 1, n => match mget t.nums n with
    | some { cell := some c, .. } => c.payload.take (if c.fill = 0 then 256 else c.fill) ++ t.contiguous fuel ((n + 1) % 2 ^ 24)
    | _ => []

/-- The packets that begin in a stream's bytes: (handle, VERSION) of each header (Table FB-3). -/
def namesIn : Nat → List Byte → List (Nat × Nat)
  | 0, _ => []
  | fuel + 1, b =>
    if b.length < 16 then []
    else (bits (be b 0 16) 111 90, bits (be b 0 16) 89 82) :: namesIn fuel (b.drop (16 + be b 0 2 / 4))

/-- A packet in Racking, not yet released, names a version (R204). Cells behind a missing number cannot be read yet (assumption log entry 61). -/
def Stream.names (t : Stream) (h v : Nat) : Bool :=
  match t.expected with
  | none => false
  | some e => decide ((h, v) ∈ namesIn (18 * (t.nums.length + 1)) (t.partial_ ++ (t.contiguous t.nums.length e).drop t.skip_))

/-- The conditions of R205 on a version. -/
def State.versionDone (s : State) (h v : Nat) (x : EncVer) : Bool :=
  x.refs == 0 && !s.rack.streams.any (fun t => t.2.names h v) && !s.cellarNames h v && !s.tbl.epochs.any (fun e => mget e.tables.current h == some v)
    && (match x.lastCurrent, x.deletedAt with
        | none, none => false
        | a, b => s.due (max (a.getD 0) (b.getD 0) + Config.ms s.tbl.cfg.encapHold))

end Sys2Proof.Machine
end

