-- ==== Sys2Proof/Machine/AsaOps.lean ====
section
/-! DEFINITION. The associative search array: layout (R243–R246), matching (R250, R252), search windows (R264–R266), the checks after a
match (R257), insertion with holes (R260), bank power and relocation (R245, R246, R259). -/
namespace Sys2Proof.Machine

/-! ### Layout -/

def State.region? (s : State) (r : Nat) : Option Region := mget s.asa.regions r
def State.setRegion (s : State) (r : Nat) (x : Region) : State := { s with asa := { s.asa with regions := mset s.asa.regions r x } }
def State.bank (s : State) (b : Nat) : Bank := mgetD s.asa.banks b {}
def State.modBank (s : State) (b : Nat) (f : Bank → Bank) : State :=
  { s with asa := { s.asa with banks := mset s.asa.banks b (f (s.bank b)) } }

/-- Entries a block holds (R243), and entries a region can hold. -/
def Region.perBlock (x : Region) : Nat := 2048 / max 1 x.width
def Region.capacity (x : Region) : Nat := x.blocks.length * x.perBlock

/-- The bank, block and row behind a RADDR (R244). -/
def Region.place (x : Region) (raddr : Nat) : Nat × Nat × Nat :=
  let b := x.blocks.getD (raddr / max 1 x.perBlock) (0, 0)
  (b.1, b.2, raddr % max 1 x.perBlock * x.width)

/-- Whether a block is in use, by any region. -/
def State.blockUsed (s : State) (b : Nat × Nat) : Bool := s.asa.regions.any (fun r => decide (b ∈ r.2.blocks))

/-- Banks the host's regions and the reserve may use: not failed, and not bank 0 while it holds the Cellar set (R245). -/
def State.bankUsable (s : State) (b : Nat) : Bool :=
  let st := (s.bank b).st
  decide (b < 8) && st != .failed && st != .cellar && (b != 0 || (s.dev.phase == .full && !s.dev.bank0Wait))

/-- Free blocks of a bank. -/
def State.freeIn (s : State) (b : Nat) : List (Nat × Nat) :=
  ((List.range 16).map (fun k => (b, k))).filter (fun x => !s.blockUsed x)

/-- Free blocks of every usable bank. -/
def State.freeBlocks (s : State) : List (Nat × Nat) := ((List.range 8).filter s.bankUsable).flatMap s.freeIn

/-- Free blocks of powered banks (ASA.STATUS FREE_BLOCKS). -/
def State.poweredFree (s : State) : List (Nat × Nat) :=
  ((List.range 8).filter (fun b => (s.bank b).st == .on && s.bankUsable b)).flatMap s.freeIn

/-- A bank's power, with its domain PD15 + bank (Table BU-2). Assumption log entry 111. -/
def setBankPower (b : Nat) (on : Bool) (s : State) : State :=
  let st := (s.bank b).st
  let s := if st = .off ∧ on then s.modBank b (fun x => { x with st := .on })
    else if st = .on ∧ ¬ on then s.modBank b (fun x => { x with st := .off }) else s
  if (s.bank b).st = st then s
  else domainEvent (15 + b) on { s with pwr := { s.pwr with domains := mset s.pwr.domains (15 + b) (if on then .on else .off) } }

/-- Banks to power: those of the regions, and in ascending order, powered ones first, those that bring the reserve to 16 free blocks
(R245, R246). -/
def State.banksNeeded (s : State) : List Nat :=
  let l := (List.range 8).filter s.bankUsable
  let used := l.filter (fun b => decide ((s.freeIn b).length < 16))
  let rest := (l.filter (fun b => decide (b ∉ used)))
  let order := rest.filter (fun b => (s.bank b).st == .on) ++ rest.filter (fun b => (s.bank b).st != .on)
  let free0 := sumOf used (fun b => (s.freeIn b).length)
  (order.foldl (fun (a : List Nat × Nat) b => if 16 ≤ a.2 then a else (a.1 ++ [b], a.2 + (s.freeIn b).length)) (used, free0)).1

/-- Banks follow the regions and the reserve (R246), from step 9 of Table BU-1 on. Assumption log entry 39. -/
def asaPower (s : State) : State :=
  let need := s.banksNeeded
  foldS ((List.range 8).filter s.bankUsable) s (fun b s => setBankPower b (decide (b ∈ need)) s)

/-! ### Matching -/

/-- Every bit whose mask bit is 1 is equal (R250). -/
def AsaEntry.hits? (e : AsaEntry) (key : List Byte) : Bool :=
  (List.range key.length).all (fun i => (byteAt key i ^^^ byteAt e.key i) &&& byteAt e.mask i == 0)

/-- The lowest RADDR that matches, with its entry (R250). -/
def Region.match? (x : Region) (key : List Byte) : Option (Nat × AsaEntry) := x.entries.find? (fun e => e.2.hits? key)

/-- Some key matches both entries (R252). -/
def AsaEntry.overlaps (a b : AsaEntry) : Bool :=
  (List.range a.key.length).all (fun i => (byteAt a.key i ^^^ byteAt b.key i) &&& byteAt a.mask i &&& byteAt b.mask i == 0)

/-- Action record fields (Table AS-2). -/
def actKind (a : BitVec 64) : Nat := bits a.toNat 63 62
def actFinal (a : BitVec 64) : Bool := a.getLsbD 61
def actTc (a : BitVec 64) : Option Nat := if a.getLsbD 60 then some (bits a.toNat 59 57) else none
def actColour (a : BitVec 64) : Option Nat := if a.getLsbD 56 then some (bits a.toNat 55 54) else none
def actRemark (a : BitVec 64) : Option Nat := if a.getLsbD 53 then some (bits a.toNat 52 47) else none
def actNext (a : BitVec 64) : Next := a.truncate 32

/-! ### Search windows -/

/-- Units of a window at a throttle level (Table AS-3). -/
def levelUnits (l : Nat) : Nat := match l with | 0 => 960 | 1 => 720 | 2 => 480 | _ => 240

/-- The budget at an instant: a new window has nothing taken and the capacity `cap`. -/
def Budget.now (b : Budget) (mono cap : Nat) : Budget := if b.at_ = mono / 400 then b else { at_ := mono / 400, cap := cap }

/-- Whether `n` more fit in the window, behind requests that wait (R189, R264): egress first, but `floor` of the window for ingress. Before the
request stand `aheadIn` of ingress and `aheadEg` of egress: the earlier ones of its direction and all of the other. -/
def Budget.fits (b : Budget) (floor : Nat) (egress : Bool) (aheadIn aheadEg n : Nat) : Bool :=
  if egress then decide (b.egr + aheadEg + n + max b.ing (min (b.ing + aheadIn) floor) ≤ b.cap)
  else decide (b.ing + aheadIn + n + max b.egr (min (b.egr + aheadEg) (b.cap - floor)) ≤ b.cap)

/-- `n` taken by a direction. -/
def Budget.take (b : Budget) (egress : Bool) (n : Nat) : Budget :=
  if egress then { b with egr := b.egr + n } else { b with ing := b.ing + n }

/-- What the requests ahead of one ask: those with a lower number, or all for one that has none yet. -/
def aheadOf (l : List (Nat × Nat)) (mine : Option (Nat × Nat)) : Nat :=
  sumOf (l.filter (fun a => match mine with | none => true | some m => decide (a.1 < m.1))) (fun a => a.2)

/-- The packets in egress processing. -/
def State.inEgress (s : State) : List EPkt :=
  s.sch.eports.flatMap (fun e => e.2.tx.map (fun k => k.2) ++ e.2.lateSlot.map (fun l => l.2.2))

/-- The requests for a budget that wait, by direction. -/
def State.searchAsks (s : State) (egress : Bool) : List (Nat × Nat) :=
  if egress then s.inEgress.filterMap (fun k => k.asaAsk) else s.mash.pkts.filterMap (fun m => m.asaAsk)
def State.readAsks (s : State) (egress : Bool) : List (Nat × Nat) :=
  if egress then s.inEgress.filterMap (fun k => k.rdAsk) else s.mash.pkts.filterMap (fun m => m.rdAsk)

/-- The rest of a request's queue: before it in its own direction, and the whole of the other. -/
def fitsBehind (b : Budget) (floor : Nat) (asks : Bool → List (Nat × Nat)) (egress : Bool) (mine : Option (Nat × Nat)) (n : Nat) : Bool :=
  n == 0 || (if egress then b.fits floor true (aheadOf (asks false) none) (aheadOf (asks true) mine) n
    else b.fits floor false (aheadOf (asks false) mine) (aheadOf (asks true) none) n)

/-- The search budget and the read budget of now. Assumption log entry 40. -/
def State.searchWin (s : State) : Budget := s.asa.win.now s.mono (levelUnits s.asa.level)
def State.readWin (s : State) : Budget := s.mash.reads.now s.mono 1280

/-- Whether a request's search units fit in the window now (R264): INGRESS_MIN percent of it are kept for ingress. -/
def State.unitsFit (s : State) (egress : Bool) (mine : Option (Nat × Nat)) (n : Nat) : Bool :=
  fitsBehind s.searchWin (s.searchWin.cap * s.asa.ingressMin / 100) s.searchAsks egress mine n

/-- Whether a request's table HBM reads fit now (R189): 32 × 10^9 reads/s, of which ingress always receives 8 × 10^9. -/
def State.readsFit (s : State) (egress : Bool) (mine : Option (Nat × Nat)) (n : Nat) : Bool :=
  fitsBehind s.readWin 320 s.readAsks egress mine n

/-- Table HBM reads served. -/
def serveReads (egress : Bool) (n : Nat) (s : State) : State :=
  if n = 0 then s else { s with mash := { s.mash with reads := s.readWin.take egress n } }

/-- The order that a request takes when it begins to wait, unless it has one. -/
def takeAsk (mine : Option (Nat × Nat)) (fits : Bool) (n : Nat) (s : State) : Option (Nat × Nat) × State :=
  match mine, fits with
  | some a, _ => (some a, s)
  | none, true => (none, s)
  | none, false => (some (s.mash.asks, n), { s with mash := { s.mash with asks := s.mash.asks + 1 } })

/-- Units served (R264, ASA_SEARCHES). -/
def serveUnits (egress : Bool) (n : Nat) (s : State) : State :=
  if n = 0 then s
  else
    let s := { s with asa := { s.asa with win := s.searchWin.take egress n } }
    count Cn.asaSearches (b2n egress) n s

/-! ### Bank faults -/

/-- A region's blocks lie in a bank that is reloading, or failed and not yet relocated: its searches wait (R259). -/
def State.regionWaits (s : State) (r : Nat) : Bool :=
  match s.region? r with
  | none => false
  | some x => x.blocks.any (fun b => (s.bank b.1).st == .reloading || (s.bank b.1).st == .failed)

/-- A bank fault is detected: searches of the bank wait and its reload starts (R259). -/
def bankFault (b cause : Nat) (s : State) : State :=
  let st := (s.bank b).st
  if st = .on ∨ st = .cellar then
    fault 11 b cause (s.modBank b (fun x => { x with st := .reloading, cause := cause }))
  else s

/-- One search of `units` in a bank that hit, with the false hits armed there (R257, R511): each strike repeats the search, the third starts
a bank reload. The flag says that the search now waits. -/
def checkHit : Nat → Nat → Bool → Nat → State → Bool × State
  | 0, b, _, _, s => (true, bankFault b 3 s)
  | n + 1, b, egress, units, s =>
    match takeArmed 9 b s with
    | (false, s) => (false, s)
    | (true, s) =>
      let s := count Cn.asaFalseHit 0 1 (openFault 10 b 0 0 1 true s)
      if n = 0 then (true, bankFault b 3 s) else checkHit n b egress units (serveUnits egress units s)

/-- A hit counter rises (R256). -/
def countHit (r raddr : Nat) (s : State) : State :=
  match s.region? r with
  | none => s
  | some x => match mget x.entries raddr with
    | none => s
    | some e => s.setRegion r { x with entries := mset x.entries raddr { e with hits := (e.hits + 1) % 2 ^ 64 } }

/-! ### Insertion and moves (R251, R252, R260) -/

/-- RADDRs left free by the hole pattern; HOLE_INTERVAL 0xFF is none. -/
def Region.isHole (x : Region) (r : Nat) : Bool := x.hole != 0xFF && r % x.hole == x.hole - 1

/-- The entries from `a` up to `b` - 1 moved one place up. -/
def shiftUp (m : AMap AsaEntry) (a b : Nat) : AMap AsaEntry := m.map (fun e => if a ≤ e.1 ∧ e.1 < b then (e.1 + 1, e.2) else e)
def shiftDown (m : AMap AsaEntry) (a b : Nat) : AMap AsaEntry := m.map (fun e => if a ≤ e.1 ∧ e.1 < b then (e.1 - 1, e.2) else e)

/-- The nearest free RADDR at or above a position, and below it. -/
def Region.freeAbove (x : Region) (p : Nat) : Option Nat := (upFrom p (x.capacity - p)).find? (fun r => !mhas x.entries r)
def Region.freeBelow (x : Region) (p : Nat) : Option Nat := ((List.range (min p x.capacity)).reverse).find? (fun r => !mhas x.entries r)

/-- Insert before the entry at `p` (R260): the shift goes toward the nearest free address, the lower one when both are as near. -/
def Region.insertAt (x : Region) (p : Nat) (e : AsaEntry) : Option (Region × Nat) :=
  let up := x.freeAbove p
  let down := x.freeBelow p
  let goUp (f : Nat) : Region × Nat := ({ x with entries := mset (shiftUp x.entries p f) p e }, f - p)
  let goDown (f : Nat) : Region × Nat := ({ x with entries := mset (shiftDown x.entries (f + 1) p) (p - 1) e }, p - 1 - f)
  match up, down with
  | none, none => none
  | some f, none => some (goUp f)
  | none, some f => some (goDown f)
  | some f, some g => some (if f - p < p - g then goUp f else goDown g)

/-- The address after the last entry, past a hole where the region has room (R260). -/
def Region.endPos (x : Region) : Nat :=
  let p := match x.entries.getLast? with | none => 0 | some e => e.1 + 1
  if x.isHole p ∧ p + 1 < x.capacity then p + 1 else p

/-- Insert at the end. -/
def Region.insertEnd (x : Region) (e : AsaEntry) : Option (Region × Nat) :=
  let p := x.endPos
  if p < x.capacity then some ({ x with entries := mset x.entries p e }, 0)
  else match x.freeBelow x.capacity with
    | none => none
    | some f => some ({ x with entries := mset (shiftDown x.entries (f + 1) x.capacity) (x.capacity - 1) e }, x.capacity - 1 - f)

/-- The RADDR of an ENTRY_ID. -/
def Region.raddrOf (x : Region) (id : Nat) : Option Nat := (x.entries.find? (fun e => e.2.id == id)).map (fun e => e.1)

/-- Entries that keep their order in the first `cap` addresses: none when they do not fit (R271). -/
def packInto (cap : Nat) (l : AMap AsaEntry) : Option (AMap AsaEntry × Nat) :=
  let n := l.length
  if cap < n then none
  else
    let l' := (List.range n).map (fun i => let e := l.getD i (0, {}); (min e.1 (cap - (n - i)), e.2))
    some (l', ((List.range n).filter (fun i => decide ((l.getD i (0, {})).1 ≠ (l'.getD i (0, {})).1))).length)

/-- One background step that frees the lowest occupied hole address (R260): the entries from it to the nearest free address above that is
not itself a hole move one place up, or else those down to the nearest such address below one place down. -/
def Region.restoreHole (x : Region) : Option Region :=
  let free (r : Nat) : Bool := !mhas x.entries r && !x.isHole r
  x.entries.findSome? (fun e =>
    if !x.isHole e.1 then none
    else match (upFrom e.1 (x.capacity - e.1)).find? free with
      | some f => some { x with entries := shiftUp x.entries e.1 f }
      | none => ((List.range (min e.1 x.capacity)).reverse.find? free).map (fun f => { x with entries := shiftDown x.entries (f + 1) (e.1 + 1) }))

end Sys2Proof.Machine
end

