-- ==== Sys2Proof/Machine/Policer.lean ====
section
/-! DEFINITION. Policers (R360): RFC 2697 and RFC 4115 meters. Bucket contents are kept in units of 10^-10 byte, so that a rate of CIR
kb/s adds exactly CIR × 125 units per tenth of a nanosecond. -/
namespace Sys2Proof.Machine

/-- Units of a bucket per byte. -/
def polUnit : Nat := 10 ^ 10

/-- Bucket contents after the refill up to now. -/
def PolicerSt.refill (x : PolicerSt) (c : PolicerCfg) (now : Nat) : PolicerSt :=
  let dt := now - x.at_
  let r := c.cir * 125 * dt
  let cNew := min (c.cbs * polUnit) (x.c + r)
  let spill := x.c + r - cNew
  let eNew := if c.mode = 1 then min (c.ebs * polUnit) (x.e + spill) else min (c.ebs * polUnit) (x.e + c.eir * 125 * dt)
  { c := cNew, e := eNew, at_ := now }

/-- The colour a packet gets and the buckets after it: 0 green, 1 yellow, 2 red. A colour-aware meter never improves a colour. -/
def PolicerSt.meter (x : PolicerSt) (c : PolicerCfg) (len colour : Nat) : Nat × PolicerSt :=
  let b := len * polUnit
  let pre := if bit c.flags 0 then colour else 0
  if pre = 0 ∧ b ≤ x.c then (0, { x with c := x.c - b })
  else if pre ≤ 1 ∧ b ≤ x.e then (1, { x with e := x.e - b })
  else (2, x)

/-- The counters of an outcome (R360): packets and bytes. -/
def polCounters (colour : Nat) : Nat × Nat :=
  if colour = 0 then (Cn.polGreen, Cn.polGreenBytes)
  else if colour = 1 then (Cn.polYellow, Cn.polYellowBytes) else (Cn.polRed, Cn.polRedBytes)

/-- A packet passes policer `n`: its colour, whether the policer discards it (red with DROP_RED), and the state; none when the policer
does not exist. -/
def police (n len colour : Nat) (s : State) : Option (Nat × Bool × State) :=
  match mget s.sch.cfg.policers n with
  | none => none
  | some c =>
    let l := ((len : Int) + c.overhead).toNat
    let (col, x) := ((mgetD s.sch.policers n {}).refill c s.mono).meter c l colour
    let s := { s with sch := { s.sch with policers := mset s.sch.policers n x } }
    let (kp, kb) := polCounters col
    some (col, col == 2 && bit c.flags 1, count kb n len (count kp n 1 s))

/-- Set a policer: a new one starts full, a changed one keeps its contents up to the new sizes (R360). -/
def setPolicer (n : Nat) (c : PolicerCfg) (s : State) : State :=
  let x : PolicerSt := match mget s.sch.cfg.policers n with
    | none => { c := c.cbs * polUnit, e := c.ebs * polUnit, at_ := s.mono }
    | some old =>
      let y := (mgetD s.sch.policers n {}).refill old s.mono
      { y with c := min y.c (c.cbs * polUnit), e := min y.e (c.ebs * polUnit) }
  { s with sch := { s.sch with cfg := { s.sch.cfg with policers := mset s.sch.cfg.policers n c },
                               policers := mset s.sch.policers n x } }

end Sys2Proof.Machine
end

