-- ==== Sys2Proof/Machine/Lookup.lean ====
section
/-! DEFINITION. The lookup programs of Mash: the steps of Table PL-2 on a packet's headers and tables (R185–R187), the Cellar program
(R214), and what the run leaves to do: its searches and its POLICE steps in order. The run itself changes nothing. -/
namespace Sys2Proof.Machine

/-- What a program run does beyond its result: an ASA search (region, 64 for the Cellar set; the entry hit by RADDR and ENTRY_ID, its bank; units), a profile that does
not exist, a policer or a colour to take. -/
inductive Deed where
  | search (region : Nat) (hit : Option (Nat × Nat × Nat)) (units : Nat)
  | noProfile
  | police (n : Nat)
  | colour (c : Nat)
deriving DecidableEq, Repr

/-- A program in progress: NEXT (none until a step sets it), VRF, class, current layer. -/
structure Run where
  next : Option Next := none
  vrf : Nat := 0
  tc : Nat := 0
  cur : Layer := []
  lpmHit : Bool := false
  deny : Bool := false
  /-- The own-address punt of R103. -/
  own : Bool := false
  done : Bool := false
  /-- Table HBM reads (Table PL-2). -/
  reads : Nat := 0
  deeds : List Deed := []
deriving DecidableEq, Repr

/-- What a run looks in: the epoch's tables, the regions and profiles its searches see, the packet's port and its port table VRF. -/
structure LookIn where
  tables : Tables := {}
  regions : AMap Region := []
  profiles : AMap (Nat × Nat) := []
  port : Nat := 0
  vrf : Nat := 0
  classmap : Option TRec := none
  outer : Layer := []
deriving DecidableEq, Repr

/-- NEXT of an entry, where it sets one (Table PL-5). -/
def Run.takeNext (r : Run) (n : Next) : Run := if nextKind n = 4 then r else { r with next := some n }

/-- A class map's byte for a field of a layer (R185); none when the layer lacks it. -/
def classByte (m : TRec) (which : Nat) (l : Layer) : Option Nat :=
  match m with
  | .classmap _ d p x =>
    if which = 1 then ((Layer.eth l).bind (fun h => h.tags.head?)).map (fun t => (byteAt p t.1).toNat)
    else if which = 2 then (Layer.ip l).map (fun h => (byteAt d h.dscp).toNat)
    else (Layer.labels l).head?.map (fun t => (byteAt x t.2.1).toNat)
  | _ => none

/-- The longest prefix of a VRF that holds an address. -/
def lpmFind (l : List TRec) (v6 : Bool) (vrf addr : Nat) : Option (Nat × Next) :=
  let w := if v6 then 128 else 32
  l.foldl (fun (best : Option (Nat × Next)) r => match r with
    | .lpm v vr len a n =>
      if v == v6 && vr == vrf && a / 2 ^ (w - len) == addr / 2 ^ (w - len) then
        match best with
        | some b => if b.1 ≤ len then some (len, n) else best
        | none => some (len, n)
      else best
    | _ => best) none

/-- Reads of an IPv6 search: 2 where the VRF holds a prefix longer than /64 that shares the address's first 64 bits (Table PL-2). -/
def lpmReads (l : List TRec) (v6 : Bool) (vrf addr : Nat) : Nat :=
  if v6 && l.any (fun r => match r with
      | .lpm v vr len a _ => v && vr == vrf && decide (64 < len) && a / 2 ^ 64 == addr / 2 ^ 64
      | _ => false) then 2 else 1

/-- An exact-match entry of a key. -/
def exactFind (l : List TRec) (kt : Nat) (key : List Byte) : Option (Next × Nat × Nat) :=
  l.findSome? (fun r => match r with
    | .exact k b n vrf act => if k == kt && b == key then some (n, vrf, act) else none
    | _ => none)

/-- An entry's action (R254) at a step that sets NEXT or does not. -/
def Run.act (r : Run) (a : BitVec 64) (setsNext : Bool) : Run :=
  let r := { r with tc := (actTc a).getD r.tc,
                    deeds := match actColour a with | some c => r.deeds ++ [.colour c] | none => r.deeds }
  if actKind a = 1 then { r with deny := true, done := true }
  else
    let r := if actKind a = 2 ∧ setsNext then r.takeNext (actNext a) else r
    if actFinal a then { r with done := true } else r

/-- One step: whether it hit, and the run after it. Assumption log entry 43. -/
def runStep (w : LookIn) (b : List Byte) (r : Run) : Bool × Run :=
  let kind := le b 0 1
  let sets := bit (le b 1 1) 0
  let layer := if bit (le b 1 1) 1 then r.cur else w.outer
  let a := le b 2 1
  if kind = 1 then
    match w.classmap.bind (fun m => classByte m a layer) with
    | none => (false, r)
    | some v => (true, { r with tc := v % 8, deeds := r.deeds ++ [.colour (v / 8 % 4)] })
  else if kind = 2 then
    let key := exactKey a (if a = 1 then w.vrf else r.vrf) layer
    let r := if key.isSome then { r with reads := r.reads + keyUnits a } else r
    match key.bind (exactFind w.tables.exact a) with
    | none => (false, r)
    | some (n, vrf, act) =>
      let r := if sets then r.takeNext n else r
      let r := if bit act 0 then { r with cur := Layer.below layer } else r
      let r := if bit act 2 then { r with vrf := vrf } else r
      let r := if bit act 3 then { r with tc := bits act 6 4 } else r
      (true, if bit act 1 then { r with done := true } else r)
  else if kind = 3 then
    match (Layer.ip layer).filter (fun h => h.v6 == (a == 6)) with
    | none => (false, { r with lpmHit := false })
    | some h =>
      let r := { r with reads := r.reads + lpmReads w.tables.lpm h.v6 r.vrf h.dst }
      match lpmFind w.tables.lpm h.v6 r.vrf h.dst with
      | none => (false, { r with lpmHit := false })
      | some (_, n) => (true, { (if sets then r.takeNext n else r) with lpmHit := true })
  else if kind = 4 then
    match mget w.profiles a with
    | none => (false, { r with deeds := r.deeds ++ [.noProfile] })
    | some (reg, f) =>
      match mget w.regions reg, (if formatEgress f then none else asaKey f { inPort := w.port, vrf := r.vrf, tc := r.tc } layer) with
      | some x, some key =>
        match x.match? key with
        | none => (false, { r with deeds := r.deeds ++ [.search reg none x.width] })
        | some (p, e) => (true, ({ r with deeds := r.deeds ++ [Deed.search reg (some (p, e.id, (x.place p).1)) x.width] }).act e.action sets)
      | _, _ => (false, r)
  else (true, { r with deeds := r.deeds ++ [.police (le b 6 2 * 16 + r.tc)] })

/-- The program from a step on: every step goes on to a later one (Table PL-11). -/
def runProgram (w : LookIn) (steps : List (List Byte)) : Nat → Nat → Run → Run
  | 0, _, r => r
  | fuel + 1, i, r =>
    match steps[i]? with
    | none => r
    | some b =>
      let (hit, r) := runStep w b r
      if r.done then r else runProgram w steps fuel (if hit then le b 3 1 else le b 4 1) r

/-! ### The Cellar program (R214, R268) -/

/-- The ASA step of the Cellar program for a layer: format 1 for IPv4, 5 for MPLS, 4 for any other packet. -/
def cellarAsa (c : CellarSet) (port : Nat) (r : Run) : Run :=
  let f := if (Layer.labels r.cur) ≠ [] then 5 else if (Layer.ip r.cur).any (fun h => !h.v6) then 1 else 4
  match asaKey f { inPort := port, tc := r.tc } r.cur with
  | none => r
  | some key =>
    match (c.asa.filter (fun e => e.1 == f)).find? (fun e => e.2.hits? key) with
    | none => { r with deeds := r.deeds ++ [.search 64 none 1] }
    | some e => ({ r with deeds := r.deeds ++ [Deed.search 64 (some (0, e.2.id, 0)) 1] }).act e.2.action true

def cellarLpm (c : CellarSet) (r : Run) : Run :=
  match Layer.ip r.cur with
  | none => r
  | some h => match lpmFind c.lpm h.v6 0 h.dst with
    | none => { r with lpmHit := false }
    | some (_, n) => { r.takeNext n with lpmHit := true }

def cellarRun (c : CellarSet) (port : Nat) (outer : Layer) : Run :=
  let r : Run := { tc := c.defTc, cur := outer }
  let kt : Nat := if (Layer.labels outer) ≠ [] then 1 else match Layer.ip outer with
    | some h => if h.v6 then 3 else 2
    | none => 0
  if kt = 0 then cellarAsa c port r
  else match (exactKey kt 0 outer).bind (exactFind c.exact kt) with
    | none => cellarAsa c port (cellarLpm c r)
    | some (n, _, act) =>
      let r := r.takeNext n
      let r := if bit act 3 then { r with tc := bits act 6 4 } else r
      if kt ≠ 1 ∧ nextKind n = 3 then { r with own := true, done := true }
      else if bit act 1 then { r with done := true }
      else if bit act 0 then cellarAsa c port (cellarLpm c { r with cur := Layer.below outer })
      else cellarAsa c port r

/-! ### The end of the program (R187) -/

/-- What the end of a program needs: the handle's current version, a group's members, the punt target, MISS_ACTION and PUNT_OPTIONS. -/
structure RunEnd where
  current : AMap Nat := []
  groups : AMap (List Nat) := []
  hash : Nat := 0
  puntVi : Nat := 0
  missPunt : Bool := false
  puntOptions : Bool := false
  hasOptions : Bool := false
  cellar : Bool := false
deriving DecidableEq, Repr

/-- How a run ends: a handle with its version, a punt, or a discard. -/
inductive Ending where
  | forward (handle version : Nat)
  | punt (vi reason : Nat)
  | drop (reason : Nat)
deriving DecidableEq, Repr

def Run.resolve (r : Run) (w : RunEnd) : Ending :=
  let ttl := decide ((Layer.ttl r.cur).getD 255 ≤ 1)
  let fwd (target : Option Nat) : Ending :=
    if r.lpmHit && ttl then .punt w.puntVi 0x17
    else if w.hasOptions && w.puntOptions then .punt w.puntVi 0x18
    else match target.bind (fun h => (mget w.current h).map (fun v => (h, v))) with
      | some (h, v) => .forward h v
      | none => .drop 1
  if r.deny then .drop 6
  else if r.own then .punt 0 0x15
  else match r.next with
    | none => if w.missPunt then .punt w.puntVi 0x19 else .drop 1
    | some n =>
      if nextKind n = 0 then .drop 2
      else if nextKind n = 1 then fwd (some (nextIndex n))
      else if nextKind n = 3 then .punt (if w.cellar then 0 else nextIndex n / 256 % 64) (nextIndex n % 256)
      else
        let g := mgetD w.groups (nextIndex n) []
        fwd g[w.hash % max 1 g.length]?

end Sys2Proof.Machine
end

