-- ==== Sys2Proof/Machine/MashOps.lean ====
section
/-! DEFINITION. Packets in Mill and Mash: the run-ahead cache (R218–R223), a packet's full lookup (R186–R188), and the issue of results and
resolutions in arrival order per port (R184, R222, R224, R230, R232). -/
namespace Sys2Proof.Machine

def State.modMash (s : State) (f : Mash → Mash) : State := { s with mash := f s.mash }

/-- A packet in Mill or Mash by its name. -/
def State.mpkt? (s : State) (id : Nat) : Option MashPkt := s.mash.pkts.find? (fun m => m.pkt.id == id)
def State.setMpkt (s : State) (m : MashPkt) : State :=
  s.modMash (fun x => { x with pkts := x.pkts.map (fun y => if y.pkt.id == m.pkt.id then m else y) })
def State.dropMpkt (s : State) (id : Nat) : State :=
  s.modMash (fun x => { x with pkts := x.pkts.filter (fun y => y.pkt.id != id) })

/-- A port that PAIR.PORT names, whose frames carry arrival numbers. -/
def State.isPaired (s : State) (p : Nat) : Bool := s.member && mhas s.pair.cfg.ports p

def State.ppair (s : State) (p : Nat) : PairPort := mgetD s.pair.ports p {}
def State.modPpair (s : State) (p : Nat) (f : PairPort → PairPort) : State :=
  { s with pair := { s.pair with ports := mmod s.pair.ports p {} f } }

/-- The port leaves SYNC (R394): on the standby with EV.PAIR.PORT_SYNC, and the active is asked for a run to anchor by (R408). -/
def leaveSync (p : Nat) (s : State) : State :=
  if (s.ppair p).sync then
    let s := s.modPpair p (fun x => { x with sync := false, cut := none, anchored := false, runFrom := none })
    if s.holdsBung then s else (notify Ev.pairPortSync (putLe 1 p ++ [0]) [] s).emit (.anchorAsk p)
  else s

/-- Every paired port leaves SYNC: no partner, or one that must anchor anew, follows it (R407). -/
def leaveSyncAll (s : State) : State := foldS (mkeys s.pair.cfg.ports) s leaveSync

/-- An arrival number at or after a switch point (serial numbers of 48 bits). -/
def reachedPoint (point n : Nat) : Bool := point != noArrival && !older 48 n point

/-! ### Stamps and what a packet sees -/

/-- The epoch Mill stamps (R180, R106), on a paired port by its arrival number (R387); 0 in Cellar mode. -/
def State.stampFor (s : State) (k : Pkt) : Nat :=
  if s.dev.phase ≠ .full then 0
  else
    let late : List Nat := match k.arrival with
      | none => []
      | some n => ((s.ppair k.inPort).switches.filter (fun (w : Nat × Nat) => !reachedPoint w.1 n)).map (fun (w : Nat × Nat) => w.2)
    ((s.tbl.epochs.filter (fun e => decide (e.num ∉ late))).getLast?.map Epoch.num).getD 0

/-- Tables of a live epoch. -/
def State.tablesOf (s : State) (e : Nat) : Tables := ((s.epoch? e).map Epoch.tables).getD {}

/-- ASA regions as a packet's searches see them (R387). -/
def State.regionsFor (s : State) (k : Pkt) : AMap Region :=
  match k.arrival with
  | none => s.asa.regions
  | some n => match (s.ppair k.inPort).asaHeld.find? (fun h => !reachedPoint h.1 n) with
    | some h => h.2
    | none => s.asa.regions

/-- PUNT_VI of a port's entry in an epoch, VI0 without one and in Cellar mode (R182). -/
def State.puntViOf (s : State) (e p : Nat) : Nat :=
  if e = 0 then 0 else match mget (s.tablesOf e).ports p with | some (.port _ _ _ _ _ v) => v | _ => 0

/-- The class of a packet before its program runs: DEFAULT_TC of its port, or of the Cellar set. -/
def State.defaultTc (s : State) (e p : Nat) : Nat :=
  if e = 0 then s.dev.cfg.cellar.defTc else match mget (s.tablesOf e).ports p with | some (.port _ _ _ _ t _) => t | _ => 0

/-- LENGTH of a result: a frame still arriving takes MAX_FRAME of its port (R274). Assumption log entry 44. -/
def State.resLength (s : State) (k : Pkt) : Nat :=
  if 128 ≤ k.inPort then k.bytes.length
  else if s.mono < k.rxAt + ceilDiv (k.bytes.length * 80) (s.portGbps k.inPort) then ((s.pcfg k.inPort).map PortCfg.maxFrame).getD 9216
  else k.bytes.length

/-- The fields of a result that every packet has (Table PL-7). -/
def State.baseRes (s : State) (m : MashPkt) (e : Nat) (p : Parse) : Res :=
  { epoch := e, paired := m.pkt.arrival.isSome, parseTrunc := p.trunc, injected := decide (128 ≤ m.pkt.inPort), cellar := e == 0,
    length := s.resLength m.pkt, tc := s.defaultTc e m.pkt.inPort }

def State.puntRes (s : State) (m : MashPkt) (e : Nat) (p : Parse) (vi reason : Nat) : Res :=
  { s.baseRes m e p with action := 2, puntVi := vi, reason := reason }

/-! ### The run-ahead cache -/

def State.raOf (s : State) (p : Nat) : Bool × Bool × Nat × Nat := mgetD s.tbl.cfg.ra p (false, false, 0, 0)

/-- The first five conditions of R218 (R221). -/
def State.touchesCache (s : State) (m : MashPkt) (e : Nat) (p : Parse) : Bool :=
  e != 0 && decide (m.pkt.inPort < 128) && (s.raOf m.pkt.inPort).1 && m.pkt.arrival.isNone && !p.trunc && !p.err
    && (ipsOf p.hdrs).all (fun h => !h.options && decide (2 ≤ h.ttl)) && (puntClass p.hdrs).isNone && !isPtp p.hdrs

def cacheSet (hash : Word) : Nat := hash.toNat % 2 ^ 17
def State.way (s : State) (w : Nat) : CEntry := mgetD s.mash.cache w {}
def State.setWay (s : State) (w : Nat) (e : CEntry) : State := s.modMash (fun x => { x with cache := mset x.cache w e })
def CEntry.idle (e : CEntry) : Bool := e.npOut == 0 && e.pvOut == 0

/-- The way a packet hits (R220); a FLUSHED way only while one of its counts is above 0, one that failed its parity check not at all (R240). -/
def State.cacheHit (s : State) (port : Nat) (hash check : Word) : Option Nat :=
  (upFrom (cacheSet hash * 8) 8).find? (fun w => match mget s.mash.cache w with
    | none => false
    | some e => decide (w ∉ s.mash.badWays) && e.inPort == port && e.tag == hash.toNat / 2 ^ 17 && e.check == check && !(e.flushed && e.idle))

/-- The way R221 allocates; the lowest way among equals. -/
def State.cacheAlloc (s : State) (hash : Word) : Option Nat :=
  let ws := (upFrom (cacheSet hash * 8) 8).filter (fun w => decide (w ∉ s.mash.badWays))
  match ws.find? (fun w => !(s.way w).valid && (s.way w).idle) with
  | some w => some w
  | none => match ws.find? (fun w => (s.way w).flushed && (s.way w).idle) with
    | some w => some w
    | none =>
      let l := ws.filter (fun w => (s.way w).idle)
      l.foldl (fun (b : Option Nat) w => match b with
        | none => some w
        | some v => if (s.way w).conf < (s.way v).conf ∨ ((s.way w).conf = (s.way v).conf ∧ (s.way v).age < (s.way w).age) then some w
                    else some v) none

/-- UNTRACKED of a set, held above 0 after a parity failure (R240). -/
def State.untrackedOf (s : State) (set : Nat) : Nat := mgetD s.mash.untracked set 0 + (if mhas s.mash.parity set then 1 else 0)

/-- The packet is left untracked (R221). -/
def leaveUntracked (m : MashPkt) (s : State) : State :=
  let set := cacheSet m.hash
  let s := s.modMash (fun x => { x with untracked := mmod x.untracked set 0 (fun n => min 255 (n + 1)) })
  count Cn.raUntracked m.pkt.inPort 1 (s.setMpkt { m with untrackedSet := some set })

/-- A hit: AGE 0, the set's other ways one older. -/
def touchAge (w : Nat) (s : State) : State :=
  foldS (upFrom (w / 8 * 8) 8) s (fun v s =>
    if mhas s.mash.cache v then s.setWay v { s.way v with age := if v = w then 0 else min 7 ((s.way v).age + 1) } else s)

/-- A Trub record for a port: one of its 128, else a shared one (R233). -/
def State.freeTrub (s : State) (p : Nat) : Option Nat :=
  match (upFrom (128 * p) 128).find? (fun i => !mhas s.mash.trub i) with
  | some i => some i
  | none => (upFrom 16384 16384).find? (fun i => !mhas s.mash.trub i)

/-- The youngest open record of an entry takes a link to the next (R233). -/
def linkTrub (way i : Nat) (s : State) : State :=
  s.modMash (fun x => { x with trub := x.trub.map (fun t =>
    if t.2.way = way ∧ t.1 ≠ i ∧ t.2.next.isNone then (t.1, { t.2 with next := some i }) else t) })

/-- The records of an entry younger than a record, by their links. -/
def State.younger (s : State) : Nat → Nat → List Nat
  | 0, _ => []
  | f + 1, i => match (mgetD s.mash.trub i {}).next with
    | none => []
    | some j => j :: s.younger f j

def appendBridge (p : Nat) (i : BridgeItem) (s : State) : State :=
  s.modMash (fun x => { x with bridge := mmod x.bridge p [] (fun l => l ++ [i]) })

/-- The prediction of R219. -/
def CEntry.prediction (e : CEntry) (r : Res) : Res :=
  { r with destSp := e.destSp, tc := e.tc, tsReq := e.tsReq, handle := e.handle, version := e.version, action := 0, colour := 0, prov := true }

/-- Mill's part of the run-ahead (R218–R221): a prediction, a tracked hit, an allocation, or an untracked packet. -/
def runAhead (m : MashPkt) (e : Nat) (p : Parse) (s : State) : State :=
  let port := m.pkt.inPort
  let check := flowCheck p.hdrs
  let (_, strict, mask, minConf) := s.raOf port
  match s.cacheHit port m.hash check with
  | none =>
    match s.cacheAlloc m.hash with
    | none => leaveUntracked m s
    | some w =>
      (s.setWay w { inPort := port, tag := m.hash.toNat / 2 ^ 17, check := check, npOut := 1, fresh := true }).setMpkt
        { m with tracked := some w }
  | some w =>
    let c := s.way w
    let s := touchAge w s
    let c := { c with age := 0 }
    let may := c.valid && !c.flushed && decide (max 1 minConf ≤ c.conf) && (s.epoch? c.fillEpoch).isSome
      && (!strict || c.fillEpoch == e) && bit mask c.tc && c.npOut == 0 && decide (c.pvOut < 255) && s.untrackedOf (w / 8) == 0
    match may, s.freeTrub port with
    | true, some t =>
      let r := c.prediction (s.baseRes m e p)
      let s := s.setWay w { c with pvOut := c.pvOut + 1 }
      let s := s.modMash (fun x => { x with trub := mset x.trub t { port := port, way := w, pkt := m.pkt.id, pred := r, fill := c.fillEpoch } })
      let s := linkTrub w t s
      let s := takeRef r.handle r.version (s.setMpkt { m with tracked := some w, trub := some t })
      appendBridge port (.prediction m.pkt r t) s
    | _, _ =>
      let s := if may then
          let (fire, n, pr) := rated s.mash.pressure port s.mono
          let s := count Cn.raNoTrub port 1 (s.modMash (fun x => { x with pressure := pr }))
          if fire then notify Ev.tblRaPressure (putLe 1 port ++ zeros 3 ++ putLe 4 n) (s.ownersOf port) s else s
        else s
      if 255 ≤ c.npOut then leaveUntracked m s
      else (s.setWay w { c with npOut := c.npOut + 1 }).setMpkt { m with tracked := some w }

/-! ### Results and resolutions -/

/-- The compared fields of R224 agree. -/
def Res.agrees (r q : Res) : Bool :=
  r.destSp == q.destSp && r.tc == q.tc && r.action == q.action && r.handle == q.handle && r.version == q.version && r.tsReq == q.tsReq

/-- R222: what a full result does to its entry. -/
def CEntry.learn (c : CEntry) (v : Verdict) (epoch : Nat) : CEntry :=
  if c.flushed then c
  else match v with
    | .result r =>
      if r.action = 0 then
        if c.valid ∧ r.destSp = c.destSp ∧ r.tc = c.tc ∧ r.handle = c.handle ∧ r.version = c.version ∧ r.tsReq = c.tsReq then
          { c with conf := min 3 (c.conf + 1), fillEpoch := epoch }
        else { c with valid := true, destSp := r.destSp, tc := r.tc, tsReq := r.tsReq, handle := r.handle, version := r.version,
                      fillEpoch := epoch, conf := if c.fresh then 1 else 0, fresh := false }
      else { c with valid := false }
    | .discard _ => { c with valid := false }

/-- The entry learns from a delivered result, and the packet's count falls (R222, R221). -/
def learnResult (m : MashPkt) (v : Verdict) (cascaded : Bool) (s : State) : State :=
  let s := match m.tracked with
    | none => s
    | some w => match mget s.mash.cache w with
      | none => s
      | some c =>
        let c := c.learn v (m.stamp.getD 0)
        s.setWay w (if m.trub.isSome ∧ ¬ cascaded then { c with pvOut := c.pvOut - 1 } else { c with npOut := c.npOut - 1 })
  match m.untrackedSet with
  | none => s
  | some set =>
    let v : Option Nat := match mget s.mash.untracked set with | some (n + 2) => some (n + 1) | _ => none
    s.modMash (fun x => { x with untracked := mput x.untracked set v })

/-- A cascaded packet moves from PV_OUT to NP_OUT; one whose count would pass 255 is treated as untracked (R221, R232). -/
def moveCount (t : Trub) (s : State) : State :=
  match mget s.mash.cache t.way with
  | none => s
  | some c =>
    if c.npOut < 255 then s.setWay t.way { c with pvOut := c.pvOut - 1, npOut := c.npOut + 1 }
    else
      let s := s.setWay t.way { c with pvOut := c.pvOut - 1 }
      match s.mpkt? t.pkt with
      | some m => leaveUntracked { m with tracked := none } s
      | none => s

/-- An unresolved provisional packet is cascaded (R232). -/
def cascadeOne (i : Nat) (t : Trub) (s : State) : State :=
  count Cn.raCascaded t.port 1 (moveCount t (s.modMash (fun x => { x with trub := mset x.trub i { t with cascaded := true } })))

/-- R232: every unresolved provisional packet of a squashed record's entry is cascaded; each is younger than it. -/
def cascade (i : Nat) (s : State) : State :=
  foldS (s.younger s.mash.trub.length i) s (fun j s =>
    match mget s.mash.trub j with
    | none => s
    | some t => if t.issued ∨ t.cascaded then s else cascadeOne j t s)

/-- LKP_DROP or LKP_PUNT of a verdict (R212); a time-out counts in LKP_TIMEOUT instead, and the MAC's own
discards (256, not a reason of Table PL-8) are counted there. -/
def countVerdict (p : Nat) (v : Verdict) (s : State) : State :=
  match v with
  | .result r => if r.action = 2 ∨ r.action = 3 then count Cn.lkpPunt (p * 256 + r.reason) 1 s else s
  | .discard 5 => s
  | .discard 256 => s
  | .discard n => count Cn.lkpDrop (p * 256 + n) 1 s

/-- POLICE and colour operations in order on a packet of `len` bytes: colour, the policer that acted last, whether one discards. Assumption log entry 42. -/
def runPolice : List (Option Nat × Nat) → Nat → Nat → Option Nat → State → Nat × Option Nat × Bool × State
  | [], _, c, n, s => (c, n, false, s)
  | (none, c) :: t, len, _, n, s => runPolice t len c n s
  | (some k, _) :: t, len, c, n, s =>
    match police k len c s with
    | none => runPolice t len c n s
    | some (c', red, s') => if red then (c', some k, true, s') else runPolice t len c' (some k) s'

/-- A result with the outcome of its POLICE steps. -/
def Res.policedBy (r : Res) (c : Nat) (n : Option Nat) : Res := { r with colour := c, policed := n.isSome, policer := n.getD 0 }

/-- A packet's verdict leaves Mash in its place: result, NONE token, discard, or resolution of its prediction. Assumption log entry 59. -/
def issueVerdict (m : MashPkt) (v : Verdict) (s : State) : State :=
  let p := m.pkt.inPort
  let s := s.dropMpkt m.pkt.id
  match m.trub with
  | none =>
    let s := countVerdict p v (learnResult m v false s)
    (match v with
    | .result r =>
      let s := if r.action = 0 ∨ r.action = 3 then takeRef r.handle r.version s else s
      let s := if m.pkt.arrival.isSome ∧ r.action = 2 then appendBridge p (.none_ (m.pkt.arrival.getD 0)) s else s
      appendBridge p (.result m.pkt r) s
    | .discard n => if m.pkt.arrival.isSome ∧ n ≠ 5 then appendBridge p (.none_ (m.pkt.arrival.getD 0)) s else s)
  | some t =>
    let rec_ := mgetD s.mash.trub t {}
    let (v, s) : Verdict × State := match v with
      | .discard n =>
        let (_, _, red, s) := runPolice m.polOps m.pkt.bytes.length 0 none s
        (.discard (if red then 4 else n), s)
      | .result r =>
        let (c, n, red, s) := runPolice m.polOps m.pkt.bytes.length r.colour none s
        (if red then .discard 4 else .result (r.policedBy c n), s)
    let s := countVerdict p v (learnResult m v rec_.cascaded s)
    let s := s.modMash (fun x => { x with trub := mset x.trub t { rec_ with issued := true } })
    match v with
    | .result r =>
      if r.agrees rec_.pred && !rec_.cascaded then appendBridge p (.confirm t r.colour r.policed false) s
      else appendBridge p (.readmit t r rec_.cascaded) (cascade t s)
    | .discard n => appendBridge p (.discard t n rec_.cascaded) (cascade t s)

/-- Verdicts leave in arrival order per port (R184). -/
def issuePort : Nat → Nat → State → State
  | 0, _, s => s
  | fuel + 1, p, s =>
    match s.mash.pkts.find? (fun m => m.pkt.inPort == p) with
    | none => s
    | some m => match m.verdict with
      | none => s
      | some v => issuePort fuel p (issueVerdict m v s)

/-- Switch points that every packet of the port in Mill or Mash, and its arrival count, have passed. -/
def pruneSwitches (p : Nat) (s : State) : State :=
  if !mhas s.pair.ports p then s
  else
    let l := s.mash.pkts.filterMap (fun m => if m.pkt.inPort == p then m.pkt.arrival else none)
    let past (a : Nat) : Bool := reachedPoint a (s.lport p).arrivals && l.all (reachedPoint a)
    s.modPpair p (fun x => { x with switches := x.switches.filter (fun w => !past w.1), asaHeld := x.asaHeld.filter (fun h => !past h.1) })

def issueFrom (p : Nat) (s : State) : State := pruneSwitches p (issuePort (s.mash.pkts.length + 1) p s)

/-- A verdict reached. -/
def decideVerdict (m : MashPkt) (v : Verdict) (s : State) : State := issueFrom m.pkt.inPort (s.setMpkt { m with verdict := some v })

/-! ### The full lookup -/

/-- The program a packet runs, with its run and its end (R186, R187, R214); none for a port without an entry (R212). -/
def State.runFor (s : State) (m : MashPkt) (e : Nat) (p : Parse) : Option (Nat × Run × Ending) :=
  let opts := (ipsOf p.hdrs).any (fun h => !h.v6 && h.options)
  if e = 0 then
    let c := s.dev.cfg.cellar
    let r := cellarRun c m.pkt.inPort p.hdrs
    let cur := c.encaps.filterMap (fun x => match x with | .encap h v _ _ _ => some (h, v) | _ => none)
    some (0, r, r.resolve { current := cur, hash := m.hash.toNat, missPunt := c.missPunt, hasOptions := opts, cellar := true })
  else
    let t := s.tablesOf e
    match mget t.ports m.pkt.inPort with
    | some (.port _ prog vrf cm tc vi) =>
      (match mget t.programs prog with
      | some (.program _ miss fl steps) =>
        let w : LookIn := { tables := t, regions := s.regionsFor m.pkt, profiles := m.profiles, port := m.pkt.inPort, vrf := vrf,
                            classmap := mget t.classmaps cm, outer := p.hdrs }
        let r := runProgram w steps 13 0 { vrf := vrf, tc := tc, cur := p.hdrs }
        some (prog, r, r.resolve { current := t.current, groups := t.groups, hash := m.hash.toNat, puntVi := vi, missPunt := miss == 1,
                                   puntOptions := bit fl 0, hasOptions := opts })
      | _ => none)
    | _ => none

/-- Search units of a run, and whether one of its searches meets a bank that reloads. -/
def Run.units (r : Run) : Nat := sumOf r.deeds (fun d => match d with | .search _ _ u => u | _ => 0)
def State.runWaits (s : State) (r : Run) : Bool :=
  r.deeds.any (fun d => match d with
    | .search reg _ _ => if reg = 64 then (s.bank 0).st == .reloading else s.regionWaits reg
    | _ => false)

/-- A run's searches with each entry's hit kept once: a hit counter rises once for a packet (R256). -/
def onceHits : List (Nat × Nat) → List Deed → List Deed
  | _, [] => []
  | seen, .search reg (some h) u :: t =>
    if (reg, h.2.1) ∈ seen then .search reg none u :: onceHits seen t else .search reg (some h) u :: onceHits ((reg, h.2.1) :: seen) t
  | seen, d :: t => d :: onceHits seen t

/-- The searches of a run: units served, and the check after each match (R257); true when one now waits. -/
def searchAll : List Deed → State → Bool × State
  | [], s => (false, s)
  | .search _ hit u :: t, s =>
    let s := serveUnits false u s
    (match hit with
    | none => searchAll t s
    | some (_, _, b) =>
      let (wait, s) := checkHit 3 b false u s
      if wait then (true, s) else searchAll t s)
  | _ :: t, s => searchAll t s

/-- The hit counter of an entry by ENTRY_ID (R256). Assumption log entry 156. -/
def countHitId (reg id : Nat) (s : State) : State :=
  if reg = 64 then { s with asa := { s.asa with cellarHits := mmod s.asa.cellarHits id 0 (fun n => (n + 1) % 2 ^ 64) } }
  else match (s.region? reg).bind (fun x => x.raddrOf id) with
    | some p => countHit reg p s
    | none => s

/-- Hits, missing profiles, and the POLICE and colour operations: done now, or for a provisional packet left to its confirmation. -/
def doDeeds (prov : Bool) (len : Nat) : List Deed → Nat → Option Nat → List (Option Nat × Nat) → State →
    Nat × Option Nat × Bool × List (Option Nat × Nat) × State
  | [], c, n, ops, s => (c, n, false, ops, s)
  | .search reg hit _ :: t, c, n, ops, s =>
    doDeeds prov len t c n ops (match hit with | some h => countHitId reg h.2.1 s | none => s)
  | .noProfile :: t, c, n, ops, s => doDeeds prov len t c n ops (count Cn.asaNoProfile 0 1 s)
  | .colour k :: t, c, n, ops, s => if prov then doDeeds prov len t c n (ops ++ [(none, k)]) s else doDeeds prov len t k n ops s
  | .police k :: t, c, n, ops, s =>
    if prov then doDeeds prov len t c n (ops ++ [(some k, 0)]) s
    else match police k len c s with
      | none => doDeeds prov len t c n ops s
      | some (c', red, s') => if red then (c', some k, true, ops, s') else doDeeds prov len t c' (some k) ops s'

/-- The result or discard that a run ends with. -/
def State.endingVerdict (s : State) (m : MashPkt) (e : Nat) (p : Parse) (prog : Nat) (r : Run) (x : Ending) : Verdict :=
  let base : Res := { s.baseRes m e p with tc := r.tc, program := prog }
  match x with
  | .drop n => .discard n
  | .punt vi n => .result { base with action := 2, puntVi := vi, reason := n }
  | .forward h v =>
    match mget s.tbl.encaps (encKey h v) with
    | none => .discard 1
    | some ev => .result { base with destSp := ev.destSp, handle := h, version := v, tsReq := m.pkt.tsReq || bit ev.flags 2 }

/-- The packet waits with what does not fit (R189, R266): a search that begins to wait counts. -/
def waitAsk (m : MashPkt) (fitsA fitsR : Bool) (r : Run) (s : State) : State :=
  let (a, s) := takeAsk m.asaAsk fitsA r.units s
  let (d, s) := takeAsk m.rdAsk fitsR r.reads s
  let s := s.setMpkt { m with asaAsk := a, rdAsk := d, bankWait := false }
  if m.asaAsk.isNone && !fitsA then count Cn.asaThrottleWait 0 1 s else s

/-- A packet's full lookup: none when a search or a read must wait (R189, R264–R266, R259). -/
def fullLookup (m : MashPkt) (e : Nat) (s : State) : Option (Verdict × List (Option Nat × Nat)) × State :=
  let p := parseFrame m.pkt.bytes
  if p.err then (some (.discard 3, []), s)
  else match s.runFor m e p with
    | none => (some (.discard 7, []), s)
    | some (prog, r, x) =>
      let fitsA := s.unitsFit false m.asaAsk r.units
      let fitsR := s.readsFit false m.rdAsk r.reads
      if s.runWaits r then (none, s.setMpkt { m with bankWait := true })
      else if !(fitsA && fitsR) then (none, waitAsk m fitsA fitsR r s)
      else
        let (wait, s) := searchAll r.deeds s
        if wait then (none, s.setMpkt { m with asaAsk := none, rdAsk := none, bankWait := true })
        else
          let (c, n, red, ops, s) := doDeeds m.trub.isSome m.pkt.bytes.length (onceHits [] r.deeds) 0 none [] (serveReads false r.reads s)
          let v := if red then .discard 4
            else match s.endingVerdict m e p prog r x with
              | .result q => .result (q.policedBy c n)
              | d => d
          (some (v, ops), s)

end Sys2Proof.Machine
end

