-- ==== Sys2Proof/Machine/FabOps.lean ====
section
/-! DEFINITION. The fabric side's shared operations: the retention region and acknowledgements (R325–R327), the reference counts of sent
packets (R204), and packets as stream bytes (Table FB-3). -/
namespace Sys2Proof.Machine

/-! ### Retention -/

def State.retUsed (s : State) : Nat := s.fab.retention.length
def State.retRoom (s : State) : Bool := decide (s.retUsed < s.adm.retention * 4096)
def State.retCell? (s : State) (key : Nat) : Option RetCell := s.fab.retention.find? (fun c => c.key == key)
def State.setRet (s : State) (c : RetCell) : State :=
  s.modFab (fun f => { f with retention := f.retention.map (fun x => if x.key = c.key then c else x) })

/-- A control entry of a token names a stream. -/
def entryStream (e : List Byte) : Option Nat :=
  if be e 0 1 = 1 ∨ be e 0 1 = 2 then some (streamKey (be e 2 2) (be e 4 2) (be e 6 1)) else none

/-- A cell or token of the stream is unacknowledged. -/
def State.streamUnacked (s : State) (k : Nat) : Bool :=
  s.fab.retention.any (fun c => match c.cell.kind with
    | .data => streamKey c.cell.stream c.cell.sp c.cell.tc == k
    | .ctrl => c.entries.any (fun e => entryStream e == some k)
    | _ => false)

/-- Credit a VOQ holds from every unit. -/
def Voq.credits (v : Voq) : Nat := sumOf v.credit (fun e => e.2)

/-- A stream without unacknowledged cells, tokens or credit is idle: its next cell carries START (R331). -/
def markIdle (k : Nat) (s : State) : State :=
  let v := mgetD s.adm.voqs (k % 2 ^ 18) {}
  if s.streamUnacked k ∨ v.credits ≠ 0 then s
  else match mget s.fab.txs k with
    | none => s
    | some x => s.setTx k (x.1, true)

/-- The packet is still in a VOQ, unresolved in Trub, or in a cell not yet acknowledged. -/
def State.stillHolds (s : State) (id : Nat) : Bool :=
  s.fab.retention.any (fun c => c.pkts.any (fun p => p.1 == id)) || s.adm.voqs.any (fun v => v.2.q.any (fun k => k.pkt.id == id))
    || s.mash.trub.any (fun t => t.2.pkt == id)

/-- The reference of a sent packet ends with the acknowledgement of its last cell (R204). -/
def refDone (p : Nat × Nat × Nat) (s : State) : State := if s.stillHolds p.1 then s else releaseRef p.2.1 p.2.2 s

/-- Streams that a kept cell belongs to or names. -/
def RetCell.streams (c : RetCell) : List Nat :=
  match c.cell.kind with
  | .data => [streamKey c.cell.stream c.cell.sp c.cell.tc]
  | _ => c.entries.filterMap entryStream

/-- Planes that a copy for a unit may take: unused by it whenever one is in the mask (R327). -/
def State.freshPlanes (s : State) (used : List Nat) (dest : Nat) : List Nat :=
  match (s.sprayMask dest).filter (fun p => decide (p ∉ used)) with
  | [] => s.sprayMask dest
  | l => l

/-- A due copy joins the shortest retransmission queue of the planes it may take (R327). -/
def enqueueRetx (key dest : Nat) (used : List Nat) (s : State) : State :=
  match (s.freshPlanes used dest).foldl (fun (b : Option Nat) p => match b with
    | none => some p
    | some q => if (s.plane p).retx.length < (s.plane q).retx.length then some p else some q) none with
  | none => s
  | some p => s.modPlane p (fun x => { x with retx := x.retx ++ [(key, dest)] })

/-- The plane in UP whose queue a copy stands in. -/
def State.retxPlane (s : State) (key dest : Nat) : Option Nat := s.planesUp.find? (fun p => decide ((key, dest) ∈ (s.plane p).retx))

/-- A kept cell is gone: its packets' references and its streams' idle condition follow. -/
def freeCell (c : RetCell) (s : State) : State :=
  let s := s.modFab (fun f => { f with
    retention := f.retention.filter (fun x => decide (x.key ≠ c.key)),
    planes := f.planes.map (fun p => (p.1, { p.2 with retx := p.2.retx.filter (fun x => decide (x.1 ≠ c.key)) })) })
  foldS c.streams (foldS c.pkts s refDone) markIdle

/-- The DATA cells of a withdrawn packet go once no CTRL cell of its VOID token is unacknowledged (R229). -/
def freeWithdrawn (id : Nat) (s : State) : State :=
  if s.fab.retention.any (fun x => x.cell.kind == .ctrl && x.withdrawn == some id) then s
  else foldS (s.fab.retention.filter (fun x => x.withdrawn == some id)) s freeCell

/-- A kept cell goes, and with the last cell of a VOID token the cells that it voids. -/
def dropCell (c : RetCell) (s : State) : State :=
  let s := freeCell c s
  match c.withdrawn with
  | none => s
  | some id => if c.cell.kind = .ctrl then freeWithdrawn id s else s

/-- A unit acknowledged a cell (R326, R388); a withdrawn packet's cell stays until its VOID token is acknowledged (R229). -/
def ackCell (c : RetCell) (from_ : Nat) (s : State) : State :=
  let l := c.copies.filter (fun x => decide (x.1 ≠ from_))
  if l = [] ∧ (c.withdrawn.isNone ∨ c.cell.kind = .ctrl) then dropCell c s else s.setRet { c with copies := l }

/-- Packets taken back before resolution no longer count the cells they had sent, which stay (R229). -/
def forgetCells (id : Nat) (s : State) : State :=
  s.modFab (fun f => { f with retention := f.retention.map (fun c =>
    if c.pkts.any (fun p => p.1 == id) then { c with pkts := c.pkts.filter (fun p => decide (p.1 ≠ id)), withdrawn := some id } else c) })

/-! ### Packets as stream bytes (Table FB-3) -/

def packetHeader (k : VPkt) : List Byte :=
  let off := match (ipsOf (parseFrame k.pkt.bytes).hdrs).head? with | some h => h.off / 2 | none => 0
  let v : Nat := (k.pkt.bytes.length % 2 ^ 14) * 2 ^ 114 + (k.res.colour % 4) * 2 ^ 112 + (k.res.handle % 2 ^ 22) * 2 ^ 90
    + (k.res.version % 256) * 2 ^ 82 + k.pkt.jcrc.toNat * 2 ^ 50 + flag k.res.tsReq 49 + flag k.ecnMark 48 + (off % 256) * 2 ^ 40
    + flag k.res.injected 39
  putBe 16 v

/-- Header and frame of a packet as its stream carries them. -/
def VPkt.streamBytes (k : VPkt) : List Byte := packetHeader k ++ k.pkt.bytes
/-- A packet that occupies its cells alone (R316). -/
def VPkt.alone (k : VPkt) : Bool := k.trub.isSome || k.number.isSome
/-- Bytes of the stream a packet has yet to grant. -/
def VPkt.unsent (k : VPkt) : Nat := 16 + k.pkt.bytes.length - k.sent
/-- Cells a VOQ's packets still need, each packet counted by itself. -/
def VPkt.cellsLeft (k : VPkt) : Nat := ceilDiv k.unsent 256
def Voq.cells (v : Voq) : Nat :=
  sumOf (v.q.filter VPkt.alone) VPkt.cellsLeft + ceilDiv (sumOf (v.q.filter (fun k => !k.alone)) VPkt.unsent) 256

end Sys2Proof.Machine
end

