-- ==== Sys2Proof/Machine/TimeOps.lean ====
section
/-! DEFINITION. Time engine operations: target classes (R157), timestamps (R162–R167), probes (R169), recovered clocks (R175) and the
effects of a step (R161, Table TI-2). -/
namespace Sys2Proof.Machine

/-- Table TI-1. -/
inductive TargetClass where
  | future | due | past
deriving DecidableEq, Repr

def targetClass (t now : Nat) : TargetClass :=
  let d := timeDiff t now
  if 0 < d then .future else if -(2 ^ 62) ≤ d then .due else .past

/-! ### Timestamps -/

/-- TIME in units of 2^-16 ns. -/
def State.time16 (s : State) : Nat := s.tim.time.toNat / 2 ^ 32

/-- Table TI-3 in hundredths of a nanosecond: RX_LAT and TX_LAT of the port's mode, class 1 while the port runs at class 1. -/
def State.latency (s : State) (p : Nat) : Nat × Nat :=
  if s.laneClass p = 1 then (10496, 6080)
  else if ((s.pcfg p).map PortCfg.fec).getD 1 = 2 then (15744, 8832) else (9728, 5632)

/-- TIME.PORT settings of a port. -/
def State.tport (s : State) (p : Nat) : TPortCfg := mgetD s.tim.cfg.ports p {}

/-- How far into the present tick a frame's reference point crosses the PCS boundary, to 0.1 ns (R162): a free value, in 2^-16 ns. Assumption log entry 141. -/
def State.subTick (s : State) : Nat := Config.freeNat s.draw % 8 * 65536 / 10

/-- A receive time referred to the line pins (R162), 2^-16 ns modulo 2^80. -/
def State.rxStamp (s : State) (p : Nat) : Nat :=
  wrapInt 80 ((s.time16 : Int) + s.subTick - (s.latency p).1 * 65536 / 100 - (s.tport p).asym)

/-- A transmit time referred to the line pins (R162), of a frame `sub` into the tick. -/
def State.txStamp (s : State) (p sub : Nat) : Nat :=
  wrapInt 80 ((s.time16 : Int) + sub + (s.latency p).2 * 65536 / 100 - (s.tport p).asym)

/-- One more entry of a queue of `cap` entries; a full queue discards it, counts it and sets OVERFLOW (R167, R173). The flag says that
this opened an overflow episode. -/
def TsQueue.push (q : TsQueue) (cap : Nat) (e : TsEntry) : TsQueue × Bool × Bool :=
  if q.q.length < cap then ({ q with q := q.q ++ [e] }, false, false)
  else ({ q with overflow := true, lost := q.lost + 1 }, true, !q.overflow)

/-- A transmit timestamp entry of a port (R165, R167); `ptpId` is the sequenceId of a PTP event message. A frame with a one-step insertion crosses at
exactly the tick used (R166). -/
def pushTxTs (p : Nat) (ptpId : Option Nat) (oneStep : Bool) (s : State) : State :=
  let q := mgetD s.tim.txq p {}
  let ts := s.txStamp p (if oneStep then 0 else s.subTick)
  let s := if oneStep then s else s.drawn
  let id := ptpId.getD (q.nextId % 2 ^ 16)
  let q := if ptpId.isNone then { q with nextId := (q.nextId + 1) % 2 ^ 16 } else q
  let e : TsEntry := { time := ts / 2 ^ 16, frac := ts % 2 ^ 16, id := id, epoch := s.tim.epoch, assigned := ptpId.isNone,
                       oneStep := oneStep }
  let (q, lost, first) := q.push 64 e
  let s := { s with tim := { s.tim with txq := mset s.tim.txq p q } }
  let s := if lost then count Cn.timeTxtsLost p 1 s else s
  if first then notify Ev.timeTxtsOverflow (putLe 1 p) (s.ownersOf p) s else s

/-- A timestamp entry as 16 bytes (Table TI-4). -/
def TsEntry.bytes (e : TsEntry) : List Byte :=
  putLe 8 e.time ++ putLe 2 e.frac ++ putLe 2 e.id ++ putLe 1 (e.epoch % 4 + flag e.assigned 2 + flag e.oneStep 3) ++ zeros 3

/-! ### Probes (Table TI-5) -/

/-- On a line shared by a pair, probes and answers go out only while the unit holds the bung (R168). -/
def State.mayTransmit (s : State) (p : Nat) : Bool :=
  match mget s.pair.cfg.ports p with
  | none => true
  | some c => decide (c.txMode ≠ 2) || s.holdsBung

def State.probe (s : State) (p : Nat) : Probe := mgetD s.tim.probes p {}
def State.setProbe (s : State) (p : Nat) (x : Probe) : State := { s with tim := { s.tim with probes := mset s.tim.probes p x } }

/-- Start or stop probing as PROBE_ENABLE and the port's state say. -/
def probeRefresh (p : Nat) (s : State) : State :=
  let x := s.probe p
  if (s.tport p).probeEnable && s.portUp p then
    if x.st = .off then s.setProbe p { st := .measuring, seqId := x.seqId, nextAt := s.mono } else s
  else if x.st = .off then s else s.setProbe p { seqId := x.seqId }

/-- Mean of samples. -/
def meanInt (l : List Int) : Int := l.foldl (· + ·) 0 / (max 1 l.length : Nat)

/-- A valid delay sample, in 2^-16 ns (R169). -/
def probeSample (p : Nat) (v : Int) (s : State) : State :=
  let x := s.probe p
  match x.st with
  | .off => s
  | .measuring =>
    let l := x.samples ++ [v]
    if l.length < 8 then s.setProbe p { x with samples := l }
    else s.setProbe p { x with st := .valid, samples := [], baseline := meanInt l, deviating := [] }
  | .valid =>
    let d := v - x.baseline
    if d.natAbs ≤ (s.tport p).threshold * 65536 then s.setProbe p { x with deviating := [] }
    else
      let same := x.deviating.filter (fun e => decide ((0 < e.1 - x.baseline) = (0 < d)))
      let l := same ++ [(v, s.timeNs)]
      if l.length < 3 then s.setProbe p { x with deviating := l }
      else
        let first := (l.head?.map (fun e => e.2)).getD 0
        let mean := meanInt (l.map (fun e => e.1))
        let s := notifyAt first Ev.timeDelayStep
          (putLe 1 p ++ zeros 3 ++ putLe 4 (wrapInt 32 (x.baseline / 65536)) ++ putLe 4 (wrapInt 32 (mean / 65536))) (s.ownersOf p) s
        (count Cn.timeDelayStep p 1 s).setProbe p { x with st := .measuring, samples := [], deviating := [] }

/-! ### Pulses and recovered clocks -/

def State.pulse (s : State) (pin : Nat) : Pulse := mgetD s.tim.pulses pin {}
def State.setPulse (s : State) (pin : Nat) (x : Pulse) : State := { s with tim := { s.tim with pulses := mset s.tim.pulses pin x } }
def State.pulseCfg (s : State) (pin : Nat) : PulseCfg := mgetD s.tim.cfg.pulses pin {}

/-- The first aligned instant after `x` (R172, R363); an instant beyond 2^64 is the first one after TIME has wrapped (R157). -/
def nextAligned (phase period x : Nat) : Nat :=
  let n := if x < phase then phase else phase + ((x - phase) / max 1 period + 1) * period
  if n < 2 ^ 64 then n else phase % max 1 period

/-- TIME has reached an instant (R157). -/
def State.timeReached (s : State) (t : Nat) : Bool := decide (timeDiff t s.timeNs ≤ 0)

/-- The port that a line lane belongs to. -/
def State.portOfLane (s : State) (lane : Nat) : Option Nat :=
  (s.port.cfg.find? (fun e => decide (e.1 ≤ lane ∧ lane < e.1 + e.2.lanes))).map (fun e => e.1)

/-- Squelch or resume the recovered clocks taken from a port (R175). -/
def syncePort (p : Nat) (up : Bool) (s : State) : State :=
  foldS (List.range 4) s (fun pin s =>
    let c := s.pulseCfg pin
    let x := s.pulse pin
    if c.mode = 3 ∧ s.portOfLane c.lane = some p ∧ x.squelched = up then
      let s := s.setPulse pin { x with squelched := !up }
      let s := notify Ev.timeSynceSquelch (putLe 1 pin ++ putLe 1 c.lane ++ putLe 1 (b2n (!up))) (s.ownersOf p) s
      if up then s else count Cn.timeSynceSquelch 0 1 s
    else s)

/-! ### Commands that wait for an instant of their own -/

/-- The wait that a test names has ended. The command that was executing until this instant completes; a parked one becomes ready with its
result and resumes at the next command boundary, and so does an executing one that meets a firmware restart (R67, R76). -/
def completeWaiting (test : Parked → Bool) (result : List Byte) (s : State) : State :=
  let done := s.hif.parked.filter (fun p => test p && p.blocks && s.accepting)
  let keep := s.hif.parked.filter (fun p => !(test p && p.blocks && s.accepting))
  let s := { s with hif := { s.hif with parked := keep.map (fun p =>
      if test p then { p with result := result, ready := true, blocks := false } else p) } }
  if done = [] then s
  else (foldS done s (fun p s => finish p.vi p.entry p.writeOk { p.reply s with result := result })).settled

/-! ### The step tick -/

/-- The first cycle boundary of a list at or after an instant. -/
def GateList.boundary (l : GateList) (t : Nat) : Nat := if t = 0 then nextAligned l.base l.cycle (2 ^ 64 - 1) else nextAligned l.base l.cycle (t - 1)

/-- A gate list in force follows the ticks to the end of its cycle: its instants move with the timeline, and where the cycle has already ended the next one
starts at the first boundary of the new timeline (Table TI-2); a pending start that is no longer in the future becomes the first one that is
(R364). -/
def stepGates (delta : Int) (now : Nat) (e : EPort) : EPort :=
  let move (n : Nat) : Nat := wrapInt 64 ((n : Int) + delta)
  let e := match e.list with
    | none => e
    | some l => { e with gateEnd := if e.gapped then l.boundary now else move e.gateEnd, cycleStart := move e.cycleStart }
  match e.pendingList with
  | none => e
  | some (st, set, l) =>
    if 0 < timeDiff st now then e else { e with pendingList := some (nextAligned l.base l.cycle now, set, l) }

/-- The first instant of a periodic train after a step, in whole ns: after the step tick, and WIDTH after the end of a pulse still high, which ends
after its ticks. -/
def resumeFrom (c : PulseCfg) (x : Pulse) (s : State) : Nat :=
  let now := s.tim.time.toNat
  match x.highUntil with
  | none => now / 2 ^ 48 + 1
  | some h => max (now / 2 ^ 48 + 1) (ceilDiv (now + ceilDiv (h - s.mono) Config.tick * s.tim.increment.toNat) (2 ^ 48) + c.width)

/-- The pulses at a step tick (Table TI-2). -/
def stepPulse (pin : Nat) (s : State) : State :=
  let c := s.pulseCfg pin
  let x := s.pulse pin
  if c.mode = 1 ∧ ¬ x.spent then
    if targetClass c.target s.timeNs = .future then s
    else if targetClass c.target s.timeNs = .due then count Cn.timePulseLate 0 1 (s.setPulse pin { x with late := true })
    else
      let s := s.setPulse pin { x with spent := true }
      count Cn.timePulseCancelled 0 1 (notify Ev.timePulseCancelled (putLe 1 pin ++ zeros 7 ++ putLe 8 c.target) [] s)
  else if c.mode = 2 then
    s.setPulse pin { x with nextEdge := nextAligned c.target c.period (resumeFrom c x s - 1) }
  else s

/-- TIME after a step (R158): a relative step adds its value and fraction, an absolute one replaces TIME. -/
def PendingStep.newTime (p : PendingStep) (old : Time) : Time :=
  let frac : BitVec 112 := BitVec.ofNat 112 (p.frac * 2 ^ 32)
  let base : BitVec 112 := BitVec.ofInt 112 (p.value * 2 ^ 48)
  if p.relative then old + base + frac else base + frac

/-- Whole nanoseconds of a TIME. -/
def timeNsOf (t : Time) : Nat := t.toNat / 2 ^ 48

/-- The step epoch after a step (R158). -/
def nextStepEpoch (ep : Nat) : Nat := (ep + 1) % 4

/-- R158, R161: TIME takes its new value, the step epoch advances, Table TI-2 follows, and TIME.STEP completes. -/
def applyStep (p : PendingStep) (s : State) : State :=
  let delta := timeDiff (timeNsOf (p.newTime s.tim.time)) (timeNsOf s.tim.time)
  let ep := nextStepEpoch s.tim.epoch
  let s := { s with tim := { s.tim with time := p.newTime s.tim.time, epoch := ep, valid := true, step := none } }
  let s := foldS (List.range 4) s stepPulse
  let now := s.timeNs
  let sel := s.cnt.sel.map (fun c => if c.2.alignTime ∧ c.2.bound then (c.1, { c.2 with nextAt := s.nextBoundary c.2.window true }) else c)
  let eps := s.sch.eports.map (fun e => (e.1, stepGates delta now e.2))
  let s := { s with cnt := { s.cnt with sel := sel }, sch := { s.sch with eports := eps } }
  let s := notify Ev.timeStepped (putLe 8 now ++ putLe 1 ep ++ putLe 1 (b2n p.force)) [] s
  let s := count Cn.timeSteps 0 1 s
  completeWaiting (fun x => x.wait == .stepTick) (putLe 8 now ++ putLe 1 ep) s

end Sys2Proof.Machine
end

