-- ==== Sys2Proof/Machine/Mash.lean ====
section
/-! DEFINITION. MILL and MASH families: the end of a parse (R178–R183, R218–R221), the end of a lookup (R187), the time-out (R188) and the
parity faults of the flow cache (R240). -/
namespace Sys2Proof.Machine

/-- The packet waits in its pipe: for search units, for a bank, or for table reads (R189, R259, R266; assumption log entry 144). -/
def MashPkt.waits (m : MashPkt) : Bool := m.verdict.isNone && (m.asaAsk.isSome || m.rdAsk.isSome || m.bankWait)

/-- Pipes that take a packet: active, not resetting (Table BU-4) and with fewer than 64 waiting packets (R266). -/
def State.openPipes (s : State) : List Nat :=
  s.dev.pipes.filter (fun i => decide ((1, i) ∉ s.dev.blockResets) && decide ((s.mash.pkts.filter (fun m => m.pipe == i && m.waits)).length < 64))

/-- The next pipe in round robin (R183). -/
def State.nextPipe (s : State) : Option Nat :=
  match s.openPipes.find? (fun i => decide (s.mash.nextPipe ≤ i)) with
  | some i => some i
  | none => s.openPipes.head?

/-! ### Shares of the pipe rate (R183) in windows of 6.4 µs (assumption log entry 46) -/

/-- A line port's guaranteed share of a window: 20 Gpps × speed ÷ 25.6 Tb/s, in Cellar mode 5 Gpps × speed ÷ 12.8 Tb/s; host ports have none. -/
def State.millShare (s : State) (p : Nat) : Nat :=
  if 128 ≤ p then 0 else if s.dev.phase = .cellar then s.portGbps p * 5 / 2 else s.portGbps p * 5

/-- The window of now. -/
def State.millNow (s : State) : MillWin :=
  let w := s.mono / 64000
  let m := s.mash.mill
  if m.at_ = w then m
  else { at_ := w, prev := if m.at_ + 1 = w then m.used else [], prevBytes := if m.at_ + 1 = w then m.bytes else [] }

/-- A re-striped slice group towards the Q-die cannot carry `len` bytes more of its ports in this window: R183 applies to them (R502). -/
def State.sliceFull (s : State) (p len : Nat) : Bool :=
  let width := (mgetD s.flt.wb (sliceOf p) {}).width
  decide (width < 256 ∧ wbBytes width < mgetD s.millNow.bytes (sliceOf p) 0 + len)

/-- The record of the group's fault carries DEGRADED (R502). -/
def degradeSlice (g : Nat) (s : State) : State :=
  match s.standing 2 g with
  | some r => s.modRec r.id (fun r => { r with degraded := true })
  | none => s

/-- A packet of a port taken by Mill, none when it is in excess: within its port's share, or within what the ports left unused of their shares
in the window before; 8,000 packets per open pipe in all (1.25 Gpps), and what the slice group of its port carries (R502). -/
def State.millTake (s : State) (p len : Nat) : Option MillWin :=
  let m := { s.millNow with bytes := mset s.millNow.bytes (sliceOf p) (mgetD s.millNow.bytes (sliceOf p) 0 + len) }
  let rate := 8000 * s.openPipes.length
  let mine := mgetD m.used p 0
  let kept := sumOf m.prev (fun e => min e.2 (s.millShare e.1))
  let all := sumOf m.used (fun e => e.2)
  let used := mset m.used p (mine + 1)
  if rate ≤ all ∨ s.sliceFull p len then none
  else if mine < s.millShare p then some { m with used := used }
  else if m.extra + kept < rate then some { m with used := used, extra := m.extra + 1 }
  else none

/-- What Mill decides without a lookup: a built-in punt class or PTP (R182, Table PL-8), or a direct inject (R435). Assumption log entry 41. -/
def State.millVerdict (s : State) (m : MashPkt) (e : Nat) (p : Parse) : Option Verdict :=
  match m.pkt.direct with
  | some (sp, tc, h, v) =>
    some (.result { s.baseRes m e p with destSp := sp, tc := tc, handle := h, version := v, tsReq := m.pkt.tsReq })
  | none =>
    if p.err then none
    else match puntClass p.hdrs with
      | some n => some (.result (s.puntRes m e p (s.puntViOf e m.pkt.inPort) n))
      | none =>
        if isPtp p.hdrs && (s.tport m.pkt.inPort).tsEnable && decide (m.pkt.inPort < 128) then
          some (.result (s.puntRes m e p (s.puntViOf e m.pkt.inPort) 0x16))
        else none

/-- Mill finishes a packet. -/
def millFinish (m : MashPkt) (s : State) : State :=
  let port := m.pkt.inPort
  let vi := port - 128
  let p := parseFrame m.pkt.bytes
  let s := if p.trunc then count Cn.millParseTrunc port 1 s else s
  let s := if p.err then count Cn.millParseError port 1 s else s
  if m.pkt.instEpoch.any (fun e => e != (s.inst vi).epoch) then issueFrom port (count Cn.millInjectStale vi 1 (s.dropMpkt m.pkt.id))
  else if decide (128 ≤ port) && s.member && !s.holdsBung then issueFrom port (count Cn.pairInjectStandby vi 1 (s.dropMpkt m.pkt.id))
  else match s.nextPipe, s.millTake port m.pkt.bytes.length with
    | some pipe, some win =>
      let s := s.modMash (fun x => { x with mill := win })
      let e := s.stampFor m.pkt
      let m := { m with stamp := some e, stampAt := s.mono, hash := flowHash s.tbl.cfg.hashSeed p.hdrs, pipe := pipe, profiles := s.asa.profiles }
      let s := (s.setMpkt m).modMash (fun x => { x with nextPipe := pipe + 1 })
      match s.millVerdict m e p with
      | some v => decideVerdict m v s
      | none => if s.touchesCache m e p then runAhead m e p s else s
    | _, _ =>
      let s := if s.sliceFull port m.pkt.bytes.length then degradeSlice (sliceOf port) s else s
      issueFrom port (count Cn.millPpsDrop port 1 (s.dropMpkt m.pkt.id))

/-- Mill takes the packets of a port in their order of arrival. -/
def execMillParseComplete (pkt : Nat) (s : State) : Host.Outcome State Fault Refusal :=
  .next (match s.mpkt? pkt with
    | none => s
    | some m =>
      let first := s.mash.pkts.find? (fun x => x.pkt.inPort == m.pkt.inPort && x.stamp.isNone)
      when (m.stamp.isNone && first == some m && decide (s.dev.phase = .cellar ∨ s.dev.phase = .full)) s (millFinish m s))

/-- A packet's full lookup ends, unless a search of it must wait. -/
def lookupComplete (m : MashPkt) (e : Nat) (s : State) : State :=
  let (v, s) := fullLookup m e s
  match v with
  | none => s
  | some (v, ops) => decideVerdict { m with polOps := ops, asaAsk := none, rdAsk := none, bankWait := false } v s

def execLookupComplete (pkt : Nat) (s : State) : Host.Outcome State Fault Refusal :=
  .next (match s.mpkt? pkt with
    | none => s
    | some m => match m.stamp, m.verdict with
      | some e, none => lookupComplete m e s
      | _, _ => s)

/-- R188: 20 µs after its stamp, a packet without a verdict is refused. -/
def lookupTimeout (m : MashPkt) (s : State) : State :=
  let p := m.pkt.inPort
  let (fire, n, tos) := rated s.tbl.timeouts p s.mono
  let s := count Cn.lkpTimeout p 1 { s with tbl := { s.tbl with timeouts := tos } }
  let s := if fire then notify Ev.tblLookupTimeout (putLe 1 p ++ zeros 3 ++ putLe 4 n) (s.ownersOf p) s else s
  decideVerdict { m with asaAsk := none, rdAsk := none, bankWait := false } (.discard 5) s

def execLookupTimeout (pkt : Nat) (s : State) : Host.Outcome State Fault Refusal :=
  .next (match s.mpkt? pkt with
    | none => s
    | some m => when (m.stamp.isSome && m.verdict.isNone && s.due (m.stampAt + Config.us 20)) s (lookupTimeout m s))

/-- R240: lookups miss the way, and the set's UNTRACKED count is held for 25 µs. -/
def execCacheParityError (set way : Nat) (s : State) : Host.Outcome State Fault Refusal :=
  .next (when (decide (way < 8 ∧ set < 2 ^ 17)) s
    (let s := s.modMash (fun x => { x with parity := mset x.parity set (s.mono + Config.us 25),
                                           badWays := addOnce x.badWays (set * 8 + way) })
     count Cn.raCacheParity (s.way (set * 8 + way)).inPort 1 (fault 13 3 0 s)))

/-- The set is cleared; packets it tracked are tracked no more. -/
def clearSet (set : Nat) (s : State) : State :=
  s.modMash (fun x => { x with
    parity := mdel x.parity set, badWays := x.badWays.filter (fun w => decide (w / 8 ≠ set)), untracked := mdel x.untracked set, cache := x.cache.filter (fun e => decide (e.1 / 8 ≠ set)),
    pkts := x.pkts.map (fun m =>
      { m with tracked := if m.tracked.any (fun w => w / 8 == set) then none else m.tracked,
               untrackedSet := if m.untrackedSet == some set then none else m.untrackedSet }) })

def execCacheSetClear (set : Nat) (s : State) : Host.Outcome State Fault Refusal :=
  .next (match mget s.mash.parity set with
    | none => s
    | some t => when (s.due t) s (clearSet set s))

end Sys2Proof.Machine
end

