-- ==== Sys2Proof/Machine/AdmOps.lean ====
section
/-! DEFINITION. Admission's shared operations: occupancies, which are read off the queues (R280, R284–R287, R428), thresholds and PFC
(R286, R294–R297), placement (R288, R289), WRED (R281), the tests of Table AB-1, expiry (R283), and the pair numbering stage (R385, R386). -/
namespace Sys2Proof.Machine

def State.modAdm (s : State) (f : Adm → Adm) : State := { s with adm := f s.adm }
def voqKey (sp tc : Nat) : Nat := sp * 8 + tc
def State.voq (s : State) (v : Nat) : Voq := mgetD s.adm.voqs v {}

/-! ### Occupancy -/

/-- Bytes a packet still holds in its VOQ: granted cells leave, but a provisional packet's stay until its resolution (R325). -/
def VPkt.left (k : VPkt) : Nat := if k.trub.isSome then k.charge else k.charge - (k.sent - 16)
/-- Bytes of the packets queued in a VOQ. -/
def Voq.bytes (v : Voq) : Nat := sumOf v.q VPkt.left
def Voq.inLoc (v : Voq) (l : Loc) : Nat := sumOf (v.q.filter (fun k => k.loc == l)) VPkt.left
/-- Provisional packets whose cells are all granted: they stay their VOQ's until their resolution (R280, R325). -/
def State.heldPkts (s : State) : List VPkt := (s.mash.trub.filter (fun t => t.2.st == .granted)).filterMap (fun t => t.2.held)
/-- Cascaded packets, which wait in Cask outside every VOQ (R232). -/
def State.asidePkts (s : State) : List VPkt := (s.mash.trub.filter (fun t => t.2.st != .granted)).filterMap (fun t => t.2.held)
/-- Packets behind a numbering stage (R385). -/
def State.stagePkts (s : State) : List (Pkt × Res) :=
  s.pair.ports.flatMap (fun p => p.2.held.filterMap (fun i => match i with | .result k r => some (k, r) | _ => none))
def State.heldBytes (s : State) (v : Nat) : Nat :=
  sumOf (s.heldPkts.filter (fun k => voqKey k.res.destSp k.res.tc == v)) VPkt.charge
/-- VOQ bytes: every accepted and every admitted provisional packet of the VOQ, wherever it lies (R280). -/
def State.voqBytes (s : State) (v : Nat) : Nat := (s.voq v).bytes + s.heldBytes v
/-- Cells of the packets that lie outside every VOQ's chain. -/
def State.outsideCells (s : State) : Nat :=
  sumOf s.asidePkts (fun k => ceilDiv k.charge 256) + sumOf s.stagePkts (fun k => ceilDiv k.1.bytes.length 256)
/-- Ingress pool cells in use: packets lie byte to byte in their VOQ's chain, whose tail takes a whole cell (R285). -/
def State.poolUsed (s : State) : Nat :=
  sumOf s.adm.voqs (fun v => ceilDiv (v.2.inLoc .cask + s.heldBytes v.1) 256) + s.outsideCells

/-- Punt region in MiB: at least 8 in Cellar mode (R284). -/
def State.puntMib (s : State) : Nat := if s.dev.phase = .cellar then max 8 s.adm.punt else s.adm.punt
/-- Ingress pool cells (Table AB-2). -/
def State.poolCells (s : State) : Nat := (192 - s.adm.retention - s.adm.egress - 8 - s.puntMib) * 4096
def State.poolFree (s : State) : Nat := s.poolCells - s.poolUsed

/-- Cask bytes of a port and class: queued, beside the VOQs, and behind the numbering stage. -/
def State.portCask (s : State) (p tc : Nat) : Nat :=
  sumOf s.adm.voqs (fun v => sumOf (v.2.q.filter (fun k => k.loc == .cask && k.pkt.inPort == p && k.res.tc == tc)) VPkt.left)
    + sumOf ((s.heldPkts ++ s.asidePkts).filter (fun k => k.pkt.inPort == p && k.res.tc == tc)) VPkt.charge
    + sumOf (s.stagePkts.filter (fun k => k.1.inPort == p && k.2.tc == tc)) (fun k => k.1.bytes.length)

/-- Bytes of a VOQ in a stack, and the cells of a stack and of all of them in use: a VOQ's packets lie byte to byte (R285). -/
def Voq.stackBytes (v : Voq) (b : Nat) : Nat := sumOf v.q (fun k => sumOf (k.parts.filter (fun p => p.stack == b)) HbmPart.bytes)
def State.stackUsed (s : State) (b : Nat) : Nat := sumOf s.adm.voqs (fun v => ceilDiv (v.2.stackBytes b) 256)
def State.hbmUsed (s : State) : Nat := sumOf (upFrom 2 4) s.stackUsed
def State.prefetchUsed (s : State) : Nat := sumOf s.adm.voqs (fun v => ceilDiv (v.2.inLoc .prefetch) 256)

/-- Egress region cells: what credit reserved, what Racking holds, and the egress queues. -/
def State.egressUsed (s : State) : Nat :=
  sumOf s.fab.creditOut (fun e => e.2) + sumOf s.rack.streams (fun t => (t.2.nums.filter (fun n => n.2.cell.isSome && n.2.st != .released)).length)
    + sumOf s.sch.queues (fun q => ceilDiv (epktBytes q.2) 256)
    + sumOf s.sch.eports (fun p => ceilDiv (epktBytes p.2.limbo + sumOf p.2.tx (fun k => k.2.length) + sumOf p.2.lateSlot (fun k => k.2.2.length)) 256)

/-- Buffer stacks in service. -/
def State.bufStacks (s : State) : List Nat :=
  (upFrom 2 4).filter (fun b => decide (b ∈ s.dev.hbmUp) && decide (b ∉ s.adm.stacksFailed))
/-- The failed pseudo-channels of a stack, and how many rows of it are retired. -/
def State.failedIn (s : State) (b : Nat) : List Nat := (s.adm.pcFailed.filter (fun k => k / 32 == b)).map (fun k => k % 32)
def State.retiredIn (s : State) (b : Nat) : Nat := (s.adm.rowsRetired.filter (fun k => k / 2 ^ 37 == b)).length
/-- A stack's cells: one thirty-second fewer for each failed pseudo-channel, and its retired rows (R287, R301, R303). -/
def State.stackCells (s : State) (b : Nat) : Nat :=
  89478485 * (32 - (s.failedIn b).length) / 32 - Config.rowCells * s.retiredIn b
def State.hbmCapacity (s : State) : Nat := sumOf s.bufStacks s.stackCells

/-- The instance a packet is attributed to by its ingress port (R427). -/
def State.ownerOf (s : State) (p : Nat) : Nat :=
  if 128 ≤ p then p - 128 else ((s.allVis.find? (fun v => decide (p ∈ (s.inst v).grant.ports))).getD 0)
/-- Bytes of an instance (R428). -/
def State.viBytes (s : State) (vi : Nat) : Nat :=
  sumOf s.adm.voqs (fun v => sumOf (v.2.q.filter (fun k => s.ownerOf k.pkt.inPort == vi)) VPkt.left)
    + sumOf (s.heldPkts.filter (fun k => s.ownerOf k.pkt.inPort == vi)) VPkt.charge
def State.overdraftOf (s : State) (vi : Nat) : Nat := if vi = 0 then 0 else s.viBytes vi - (s.inst vi).grant.share
/-- Every instance listed. -/
def State.allInsts (s : State) : List Nat := mkeys s.insts
/-- Punt region bytes of an instance (R429). -/
def State.puntUsed (s : State) (vi : Nat) : Nat := sumOf (s.inst vi).punts (fun c => c.res.length)
/-- Punt bytes an instance may hold: VI0 takes what the others' shares leave (R429). -/
def State.puntLimit (s : State) (vi : Nat) : Nat :=
  if vi = 0 then s.puntMib * 1048576 - sumOf s.allVis (fun v => (s.inst v).grant.puntBytes) else (s.inst vi).grant.puntBytes

/-! ### Headroom and the floor (R286, R294) -/

/-- H of a port in cells (R294). -/
def headroomCells (c : PortCfg) (f : PfcCfg) : Nat :=
  ceilDiv (ceilDiv (c.lanes * 200 * (2 * f.cable * 5 + f.response + 400)) 8 + 2 * c.maxFrame) 256
def classCount (mask : Nat) : Nat := (bitsSet mask 8).length
/-- The headroom reserve in cells for a set of PFC settings. -/
def State.reserveFor (s : State) (pfc : AMap PfcCfg) : Nat :=
  sumOf pfc (fun e => match s.pcfg e.1 with | some c => headroomCells c e.2 * classCount e.2.enable | none => 0)
def State.reserve (s : State) : Nat := s.reserveFor s.adm.cfg.pfc
/-- The floor in cells. -/
def State.floor (s : State) : Nat := s.reserve + s.adm.cfg.xoffMargin * 4096
def State.poolLow (s : State) : Bool := decide (s.poolFree < s.floor)

def State.pfcOf (s : State) (p : Nat) : PfcCfg := mgetD s.adm.cfg.pfc p {}
def State.lossless (s : State) (p tc : Nat) : Bool := decide (p < 128) && bit (s.pfcOf p).enable tc

/-! ### PFC (R293, R295) -/

/-- A PFC frame for one class. Assumption log entry 54. -/
def pfcFrame (p tc quanta : Nat) (s : State) : State :=
  if s.portUp p then s.emit (.pfc p ((List.range 8).map (fun i => if i = tc then some quanta else none))) else s

/-- The XOFF condition of a lossless port-class, its port-level part with hysteresis. -/
def xoffPortNow (s : State) (p tc : Nat) : Bool :=
  let f := s.pfcOf p
  f.xoff != 0 && (let n := s.portCask p tc
    decide (f.xoff * 1024 < n) || (decide (tc ∈ (s.lport p).xoffPort) && decide (f.xoff * 1024 - f.hyst * 1024 ≤ n)))

def pfcClass (p tc : Nat) (s : State) : State :=
  let lvl := xoffPortNow s p tc
  let s := s.modPort p (fun x => { x with xoffPort := if lvl then addOnce x.xoffPort tc else without x.xoffPort tc })
  let want := s.lossless p tc && (s.adm.poolXoff || lvl)
  let has := mhas (s.lport p).xoff tc
  if want && !has then
    let s := s.modPort p (fun x => { x with
      xoff := mset x.xoff tc s.mono, headroom := mset x.headroom tc 0, xoffNo := mmod x.xoffNo tc 0 (fun n => n + 1) })
    count Cn.admPfcXoffTx (p * 8 + tc) 1 (pfcFrame p tc (s.pfcOf p).quanta s)
  else if !want && has then
    pfcFrame p tc 0 (s.modPort p (fun x => { x with xoff := mdel x.xoff tc, headroom := mdel x.headroom tc }))
  else s

/-- Overdraft of an instance, with its event on entering and leaving (R432). -/
def overdraftUpkeep (vi : Nat) (s : State) : State :=
  let od := s.overdraftOf vi
  let now := decide (0 < od)
  if now = (s.inst vi).overdraft then s
  else notify Ev.viOverdraft (putLe 1 vi ++ putLe 1 (b2n now) ++ zeros 6 ++ putLe 8 od) [vi]
    (s.modInst vi (fun i => { i with overdraft := now }))

/-! ### Stripes of buffer HBM (R287) -/

/-- The pseudo-channels of a part's stripe: 9 healthy ones in a row, one further on with each stripe, the parity sector on the last
(assumption log entry 145). -/
def HbmPart.stripe (p : HbmPart) (i : Nat) : List Nat :=
  let ok := (List.range 32).filter (fun c => decide (c ∉ p.avoid))
  (upFrom (p.rot + i) 9).map (fun j => ok.getD (j % max 1 ok.length) 0)
def HbmPart.stripes (p : HbmPart) : List (List Nat) := (List.range (ceilDiv p.bytes 256)).map p.stripe
/-- Stripes of a part with a sector on a pseudo-channel. -/
def HbmPart.on (p : HbmPart) (stack pc : Nat) : Nat := if p.stack = stack then (p.stripes.filter (fun l => decide (pc ∈ l))).length else 0
def VPkt.stripesOn (k : VPkt) (stack pc : Nat) : Nat := sumOf k.parts (fun p => p.on stack pc)
/-- A stripe of the packet uses both pseudo-channels. -/
def VPkt.crosses (k : VPkt) (stack a b : Nat) : Bool :=
  k.parts.any (fun p => p.stack == stack && p.stripes.any (fun l => decide (a ∈ l ∧ b ∈ l)))
/-- Parts cut to so many bytes. -/
def trimParts : Nat → List HbmPart → List HbmPart
  | _, [] => []
  | n, p :: t => if n = 0 then [] else { p with bytes := min n p.bytes } :: trimParts (n - p.bytes) t
/-- Stored stripes that use a pseudo-channel (Table AB-9). -/
def State.storedStripes (s : State) (stack pc : Nat) : Nat := sumOf s.adm.voqs (fun v => sumOf v.2.q (fun k => k.stripesOn stack pc))

/-- The windows of sector faults end when the stripes are freed (Table IF-2). -/
def sectorUpkeep (s : State) : State :=
  foldS (s.flt.log.filter (fun r => r.cls == 7 && r.st == 1)) s (fun r s =>
    if s.adm.voqs.any (fun v => v.2.q.any (fun k => decide (k.stripesOn (r.unit / 32) (r.unit % 32) ≠ 0 ∧ k.hbmAt ≤ r.lastAt))) then s
    else endWindow 7 r.unit s)

/-- Every threshold that follows occupancy: pool floor, XOFF, overdraft, the HBM mark of R289. -/
def poolUpkeep (s : State) : State :=
  let free := s.poolFree
  let low := decide (free < s.floor) || (s.adm.poolXoff && decide (free < s.floor + s.adm.cfg.xonHyst * 4096))
  let full := s.adm.hbmFullSeen && !decide (s.hbmUsed * 10 < s.hbmCapacity * 9)
  let s := s.modAdm (fun a => { a with poolXoff := low, hbmFullSeen := full })
  let ports := ((mkeys s.adm.cfg.pfc) ++ (mkeys (s.port.ports.filter (fun e => e.2.xoff != [] || e.2.xoffPort != [])))).eraseDups
  let s := foldS ports s (fun p s => foldS (List.range 8) s (pfcClass p))
  let s := foldS s.allVis (sectorUpkeep s) overdraftUpkeep
  if s.adm.stacksClosing = [] then s
  else wake (fun w => match w with | .stackDrain b => s.stackUsed b == 0 | _ => false) s

/-! ### VOQs -/

def State.profileOf (s : State) (v : Nat) : Profile := mgetD s.adm.cfg.profiles (mgetD s.adm.cfg.binds v 0) {}

/-- Bytes have reached HBM_ENTER and not since fallen to HBM_EXIT (R289). -/
def Profile.latch (p : Profile) (bytes : Nat) (was : Bool) : Bool :=
  if p.hbmEnter * 4096 ≤ bytes then true else if bytes ≤ p.hbmExit * 4096 then false else was

/-- A VOQ's contents changed. -/
def State.setVoq (s : State) (v : Nat) (x : Voq) : State :=
  s.modAdm (fun a => { a with voqs := mset a.voqs v { x with hbmMode := (s.profileOf v).latch (x.bytes + s.heldBytes v) x.hbmMode } })

def State.modVoq (s : State) (v : Nat) (f : Voq → Voq) : State := s.setVoq v (f (s.voq v))

/-- HBM mode of a VOQ under its present profile (R289). -/
def State.inHbmMode (s : State) (v : Nat) : Bool :=
  let x := s.voq v
  bit (s.profileOf v).flags 2 && ((s.profileOf v).latch (s.voqBytes v) x.hbmMode || (decide (s.poolCells < 2 * s.poolUsed) && !x.q.isEmpty))

/-- The VOQ that holds a packet. -/
def State.voqWith (s : State) (id : Nat) : Option (Nat × VPkt) :=
  s.adm.voqs.findSome? (fun v => (v.2.q.find? (fun k => k.pkt.id == id)).map (fun k => (v.1, k)))
def State.setVpkt (s : State) (v : Nat) (k : VPkt) : State :=
  s.modVoq v (fun x => { x with q := x.q.map (fun y => if y.pkt.id = k.pkt.id then k else y) })
def State.pullVpkt (s : State) (v id : Nat) : State := s.modVoq v (fun x => { x with q := x.q.filter (fun y => decide (y.pkt.id ≠ id)) })

/-- R38: accepted once its last cell is written and it is confirmed. -/
def VPkt.accept (k : VPkt) (now : Nat) : VPkt :=
  if k.ended ∧ k.trub.isNone ∧ k.acceptedAt.isNone then { k with acceptedAt := some now } else k

def State.classCfg (s : State) (tc : Nat) : Nat × Nat := mgetD s.adm.cfg.classes tc (50000, 25000)
/-- The head's sojourn exceeds a number of µs; a packet with a granted cell has none. -/
def VPkt.older (k : VPkt) (now us : Nat) : Bool :=
  k.sent == 0 && (match k.acceptedAt with | some t => decide (t + Config.us us < now) | none => false)

/-- Expired heads of a VOQ are discarded (R283). -/
def expireHeads : Nat → Nat → State → State
  | 0, _, s => s
  | fuel + 1, v, s =>
    match (s.voq v).q with
    | [] => s
    | k :: t =>
      if k.older s.mono (s.classCfg k.res.tc).1 then
        let s := count Cn.sojournExpired k.res.tc 1 (s.setVoq v { s.voq v with q := t })
        expireHeads fuel v (voidNumbers k (releaseRef k.res.handle k.res.version s))
      else s

/-! ### WRED (R281) -/

/-- The average after a decision, in 2^-16 byte. Assumption log entry 51. -/
def wredAvg (avg bytes weight : Nat) : Nat := ((avg : Int) + ((bytes * 65536 : Int) - avg) / (2 ^ weight : Int)).toNat

def Profile.wred (p : Profile) (colour : Nat) : Nat × Nat × Nat :=
  if colour = 0 then (p.minWG, p.maxWG, p.pG) else if colour = 1 then (p.minWY, p.maxWY, p.pY) else (p.minWR, p.maxWR, p.pR)
def Profile.maxFor (p : Profile) (colour : Nat) : Nat := (if colour = 0 then p.maxG else if colour = 1 then p.maxY else p.maxR) * 4096

/-- Whether the draw refuses at an average, given in 2^-16 byte: draw ÷ 2^16 is below p. -/
def wredRefuses (p : Profile) (colour avg draw : Nat) : Bool :=
  let (lo, hi, pm) := p.wred colour
  let u := 4096 * 65536
  if avg < lo * u then false
  else if hi * u ≤ avg then true
  else decide (draw * (100 * ((hi - lo) * u)) < 65536 * (pm * (avg - lo * u)))

/-- The outermost IP header carries ECT(0) or ECT(1). -/
def ectCapable (b : List Byte) : Bool :=
  match (ipsOf (parseFrame b).hdrs).head? with
  | none => false
  | some h =>
    let ecn := if h.v6 then be b h.off 4 / 2 ^ 20 % 4 else be b (h.off + 1) 1 % 4
    ecn == 1 || ecn == 2

/-- Test 5: none refuses; otherwise whether the packet is marked. -/
def wredTest (prof : Profile) (colour avg : Nat) (bytes : List Byte) (s : State) : Option Bool :=
  if bit prof.flags 0 && wredRefuses prof colour avg (Config.wredDraw s.draw).toNat then
    if bit prof.flags 1 && ectCapable bytes then some true else none
  else some false

/-- The slice's generator moves past the draw of test 5 (R281). -/
def wredDrawn (prof : Profile) (s : State) : State := if bit prof.flags 0 then s.drawn else s

/-! ### Placement (R288, R289) -/

/-- Token buckets refilled up to now: k × 50 bytes per tenth of a nanosecond, 256 KiB deep. -/
def refillTokensHbm (s : State) : State :=
  let n := s.bufStacks.length * 50 * (s.mono - s.adm.tokensAt)
  s.modAdm (fun a => { a with writeTokens := min 262144 (a.writeTokens + n), readTokens := min 262144 (a.readTokens + n), tokensAt := s.mono })

/-- Room for a VOQ's bytes in a stack: its free cells, and the end of the VOQ's last cell there. -/
def State.stackRoom (s : State) (v b : Nat) : Nat :=
  let n := (s.voq v).stackBytes b
  (s.stackCells b - s.stackUsed b) * 256 + (ceilDiv n 256 * 256 - n)

/-- A stack and its room in its place among others, the most room first. -/
def insertRoom (x : Nat × Nat) : List (Nat × Nat) → List (Nat × Nat)
  | [] => [x]
  | y :: t => if y.2 < x.2 then x :: y :: t else y :: insertRoom x t

/-- Bytes taken from stacks in their order; none where the room does not suffice. -/
def fillStacks : Nat → List (Nat × Nat) → Option (List (Nat × Nat))
  | n, [] => if n = 0 then some [] else none
  | n, x :: t =>
    if n = 0 then some [] else if x.2 = 0 then fillStacks n t else (fillStacks (n - x.2) t).map (fun l => (x.1, min n x.2) :: l)

/-- The stacks that take a packet's stripes, of those in service and not closing: the one with the most room, then the next
(assumption log entry 50). -/
def State.stacksFor (s : State) (v len : Nat) : Option (List (Nat × Nat)) :=
  fillStacks len (((s.bufStacks.filter (fun b => decide (b ∉ s.adm.stacksClosing))).map (fun b => (b, s.stackRoom v b))).foldr insertRoom [])

/-- The parts of a packet written now; where its rotation begins is a free value. Assumption log entry 53. -/
def State.newParts (s : State) (l : List (Nat × Nat)) : List HbmPart :=
  l.map (fun x => { stack := x.1, bytes := x.2, rot := Config.freeNat s.draw % 32, avoid := s.failedIn x.1 })

/-- Test 7: HBM with its parts, or Cask; a spill is counted, and HBM filling raises its event once. -/
def placePacket (v len : Nat) (s : State) : Option (List HbmPart) × State :=
  if !s.inHbmMode v then (none, s)
  else
    let s := refillTokensHbm s
    match s.stacksFor v len with
    | none =>
      let s := count Cn.admHbmSpill 0 1 s
      if s.adm.hbmFullSeen ∨ s.bufStacks = [] then (none, s)
      else (none, notify Ev.admHbmFull (putLe 8 s.hbmUsed) [] (s.modAdm (fun a => { a with hbmFullSeen := true })))
    | some l =>
      if s.adm.writeTokens < len then (none, count Cn.admHbmSpill 0 1 s)
      else (some (s.newParts l), (s.modAdm (fun a => { a with writeTokens := a.writeTokens - len })).drawn)

/-! ### Refusal and admission -/

/-- The counts of a refusal (R275, R286, R297, R103); a provisional packet's refusal does no more (R228). -/
def countRefused (p reason : Nat) (voq : Option Nat) (tc : Nat) (s : State) : State :=
  let s := count Cn.admRefused (p * 256 + reason) 1 s
  let s := match voq with | some v => s.modVoq v (fun x => { x with refused := x.refused + 1 }) | none => s
  if reason = 7 then s.modAdm (fun a => { a with lastPoolRefusal := some s.mono })
  else if reason = 8 then
    count Cn.admHeadroomOverrun (p * 8 + tc) 1 (s.modPort p (fun x => { x with overruns := x.overruns.note s.mono }))
  else if reason = 2 ∧ s.dev.phase = .cellar then count Cn.puntCellarRefused 0 1 s
  else s

/-- A refusal: its counts, and the events of the pool and the headroom (R286, R297). -/
def refusePkt (p reason : Nat) (voq : Option Nat) (tc : Nat) (s : State) : State :=
  let pool := s.adm.lastPoolRefusal.all (fun t => decide (t + Config.sec 1 ≤ s.mono))
  let overrun := (s.lport p).overruns.quiet s.mono
  let s := countRefused p reason voq tc s
  if reason = 7 ∧ pool then notify Ev.admPoolLow (putLe 4 s.poolFree ++ putLe 4 s.floor) [] s
  else if reason = 8 ∧ overrun then
    notify Ev.admHeadroomOverrun (putLe 1 p ++ putLe 1 tc ++ zeros 2 ++ putLe 4 (s.lport p).overruns.times.length) []
      (s.modPort p (fun x => { x with overruns := { x.overruns with last := some s.mono } }))
  else s

/-- Test 8 on a packet placed in Cask: the reason it fails. -/
def caskTest (p v tc len : Nat) (s : State) : Option Nat :=
  if s.lossless p tc then
    let x := s.lport p
    let h := match s.pcfg p with | some c => headroomCells c (s.pfcOf p) * 256 | none => 0
    if (mhas x.xoff tc && decide (h < mgetD x.headroom tc 0 + len)) || decide (s.poolFree * 256 < len) then some 8 else none
  else if 128 ≤ p then none
  else
    let free := s.poolFree * 256
    let floor := s.floor * 256
    let a := (s.profileOf v).alpha
    let mine := (s.voq v).inLoc .cask + s.heldBytes v + len
    let fits := if 0 ≤ a then decide (mine ≤ (free - floor) * 2 ^ a.toNat) else decide (mine * 2 ^ (-a).toNat ≤ free - floor)
    if floor + len ≤ free ∧ fits then none else some 7

/-- Tests 1, 3 to 6 of Table AB-1: the reason refused, or whether the packet is marked. The average moves at each decision. Assumption log entry 47. -/
def forwardTests (k : Pkt) (r : Res) (s : State) : (Nat ⊕ Bool) × State :=
  let v := voqKey r.destSp r.tc
  let prof := s.profileOf v
  let s := if bit prof.flags 0 then s.modVoq v (fun x => { x with avg := wredAvg x.avg (s.voqBytes v) prof.weight }) else s
  let x := s.voq v
  if (mget s.fab.cfg.spmap r.destSp).isNone then (.inl 1, s)
  else if (x.q.head?.map (fun h => h.older s.mono (s.classCfg r.tc).2)).getD false then (.inl 3, s)
  else if prof.maxFor r.colour < s.voqBytes v + r.length then (.inl 4, s)
  else match wredTest prof r.colour x.avg k.bytes s with
    | none => (.inl 5, wredDrawn prof s)
    | some mark =>
      let s := wredDrawn prof s
      let vi := s.ownerOf k.inPort
      if decide (vi ≠ 0) && decide ((s.inst vi).grant.share < s.viBytes vi + r.length) then (.inl 6, s) else (.inr mark, s)

/-- How many of `n` occurrences an armed injection strikes (R511). -/
def takeArmedN (target unit : Nat) : Nat → State → Nat × State
  | 0, s => (0, s)
  | n + 1, s =>
    match takeArmed target unit s with
    | (false, s) => (0, s)
    | (true, s) => let (m, s) := takeArmedN target unit n s; (m + 1, s)

/-- A forward packet refused or lost: its reference and its number go (R204, R385). -/
def dropForward (k : VPkt) (s : State) : State := voidNumbers k (releaseRef k.res.handle k.res.version s)

/-- A packet's bytes in Cask are charged anew to the headroom of the XOFF assertion they came under, if it stands (R297). -/
def chargeHeadroom (k : VPkt) (old new : Nat) (s : State) : State :=
  let x := s.lport k.pkt.inPort
  if k.headNo = some (mgetD x.xoffNo k.res.tc 0) ∧ mhas x.xoff k.res.tc then
    s.modPort k.pkt.inPort (fun x => { x with headroom := mmod x.headroom k.res.tc 0 (fun n => n - old + new) })
  else s

/-- A packet is dropped wherever it lies, as after a failed FCS check: charge, reference and number go; a record has no copy (R27, R274). -/
def dropBad (k : VPkt) (s : State) : State :=
  let s := match k.trub with
    | none => s
    | some t => s.modMash (fun x => { x with trub := mmod x.trub t {} (fun y => { y with st := .nocopy, held := none }) })
  dropForward k (chargeHeadroom k k.charge 0 s)

/-! ### Faults of buffer HBM (R300–R304) -/

/-- The packets of VOQs that a test picks are discarded: how many. -/
def loseQueuedIf (pick : VPkt → Bool) (s : State) : Nat × State :=
  let l := s.adm.voqs.flatMap (fun v => (v.2.q.filter pick).map (fun k => (v.1, k)))
  (l.length, foldS l s (fun x s => dropBad x.2 (s.pullVpkt x.1 x.2.pkt.id)))

/-- R304: the stack's packets are discarded and its budget goes. -/
def stackFail (stack : Nat) (s : State) : State :=
  let s := count Cn.admHbmStackFail stack 1 (fault 8 stack 0 s)
  let (n, s) := loseQueuedIf (fun k => k.parts.any (fun p => p.stack == stack)) s
  let s := discardUnder 8 stack n (s.modAdm (fun a => { a with stacksFailed := addOnce a.stacksFailed stack }))
  poolUpkeep (notify Ev.admStackFail (putLe 1 stack ++ zeros 3 ++ putLe 4 n) [] s)

/-- R301, R302: a pseudo-channel fails; the packets with a stripe that also uses one failed in its stack and not yet clear are lost, as a
double fault; a third failed one fails the stack. -/
def pcFail (stack pc cause : Nat) (s : State) : State :=
  let key := stack * 32 + pc
  let others := ((mkeys s.adm.pcOpen).filter (fun e => e / 32 == stack && e != key)).map (fun e => e % 32)
  let s := fault 6 key cause s
  let s := s.modAdm (fun a => { a with pcFailed := addOnce a.pcFailed key, pcOpen := mset a.pcOpen key s.mono, ueTimes := mdel a.ueTimes key })
  let s := count Cn.admHbmPcFail stack 1 (notify Ev.admHbmPcFail (putLe 1 stack ++ putLe 1 pc ++ putLe 1 cause) [] s)
  let (n, s) := loseQueuedIf (fun k => others.any (fun a => k.crosses stack a pc)) s
  let s := doubleLoss [6, 7] [6, 7] n s
  if 3 ≤ (s.failedIn stack).length then stackFail stack s else poolUpkeep s

/-- Uncorrectable sectors of a pseudo-channel, rebuilt from their stripes (R300); 16 within 1 ms fail it (R301). -/
def sectorsBad (stack pc n : Nat) (injected : Bool) (s : State) : State :=
  let key := stack * 32 + pc
  if n = 0 then s
  else
    let s := bump (winEvent 6 2) key n (count Cn.admHbmRebuild stack n (openFault 7 key 0 0 n injected s))
    let l := (mgetD s.adm.ueTimes key []).filter (fun t => decide (s.mono < t + Config.ms 1)) ++ List.replicate (min n 16) s.mono
    if key ∈ s.adm.pcFailed then s
    else if 16 ≤ l.length then pcFail stack pc 1 s
    else s.modAdm (fun a => { a with ueTimes := mset a.ueTimes key l })

/-- A counter of every pseudo-channel that a packet's stripes use (Table AB-9). -/
def countSectors (value : Nat) (k : VPkt) (s : State) : State :=
  foldS ((k.parts.map HbmPart.stack).eraseDups) s (fun b s => foldS (List.range 32) s (fun pc s =>
    let n := k.stripesOn b pc
    if n = 0 then s else bump (winEvent 6 value) (b * 32 + pc) n s))

/-- A packet's cells or stripes are written: the sectors count, and injected errors strike (targets 3 and 5 of Table IF-6): corrected, or
rebuilt (R299, R300). Assumption log entry 57. -/
def writeInjections (k : VPkt) (s : State) : State :=
  match k.loc with
  | .cask => let (n, s) := takeArmedN 3 0 (ceilDiv k.charge 256) s; if n = 0 then s else count Cn.admCaskCe 0 n s
  | _ =>
    let k := { k with parts := trimParts k.pkt.bytes.length k.parts }
    let s := countSectors 4 k s
    match s.flt.armed.find? (fun a => a.target == 5 && k.stripesOn (a.unit / 32) (a.unit % 32) != 0) with
    | none => s
    | some a =>
      let (n, s) := takeArmedN 5 a.unit (k.stripesOn (a.unit / 32) (a.unit % 32)) s
      sectorsBad (a.unit / 32) (a.unit % 32) n true s

/-! ### Admission -/

/-- A packet joins its VOQ (R276), its bytes in Cask charged to its port's headroom while XOFF stands (R297). -/
def joinVoq (v : Nat) (k : VPkt) (s : State) : State :=
  let x := s.lport k.pkt.inPort
  let no := if k.loc == .cask && s.lossless k.pkt.inPort k.res.tc && mhas x.xoff k.res.tc then some (mgetD x.xoffNo k.res.tc 0) else none
  let k := { k with headNo := no }.accept s.mono
  chargeHeadroom k 0 k.charge (writeInjections k (s.modVoq v (fun x => { x with q := x.q ++ [k] })))

/-- A frame was admitted: packets and bytes (ADM_ADMITTED). Assumption log entry 52. -/
def countAdmitted (k : Pkt) (s : State) : State := count Cn.admAdmittedBytes k.inPort k.bytes.length (count Cn.admAdmitted k.inPort 1 s)

/-- A forward packet at admission: `held` for one whose cells lie in Cask already, and whether its last one does (R229). -/
def admitForward (k : Pkt) (r : Res) (number : Option Nat) (held : Option Bool) (s : State) : State :=
  let v := voqKey r.destSp r.tc
  let vk : VPkt := { pkt := k, res := r, ended := held.getD false, charge := r.length, number := number }
  match forwardTests k r s with
  | (.inl n, s) => poolUpkeep (dropForward vk (refusePkt k.inPort n (some v) r.tc s))
  | (.inr mark, s) =>
    let vk := { vk with ecnMark := mark }
    let marked (s : State) : State := if mark then count Cn.admWredMark k.inPort 1 s else s
    match (if held.isSome then (none, s) else placePacket v r.length s) with
    | (some l, s) =>
      poolUpkeep (countAdmitted k (joinVoq v { vk with loc := .hbm, parts := l, hbmAt := s.mono } (marked s)))
    | (none, s) =>
      match caskTest k.inPort v r.tc r.length s with
      | some n => poolUpkeep (dropForward vk (refusePkt k.inPort n (some v) r.tc s))
      | none => poolUpkeep (countAdmitted k (joinVoq v vk (marked s)))

/-- A prediction at admission: the same tests, in Cask only; a refusal is final (R277, R228, Table RA-3). Assumption log entry 162. -/
def admitProvisional (k : Pkt) (r : Res) (t : Nat) (s : State) : State :=
  let v := voqKey r.destSp r.tc
  let b := s.voqBytes v
  let refuse (n : Nat) (s : State) : State :=
    let s := s.modMash (fun x => { x with trub := mmod x.trub t {} (fun y => { y with st := .nocopy }) })
    poolUpkeep (releaseRef r.handle r.version (countRefused k.inPort n (some v) r.tc s))
  match forwardTests k r s with
  | (.inl n, s) => refuse n s
  | (.inr mark, s) =>
    match caskTest k.inPort v r.tc r.length s with
    | some n => refuse n s
    | none =>
      let vk : VPkt := { pkt := k, res := r, charge := r.length, trub := some t, ecnMark := mark, seenBytes := b,
                         seenAvg := (s.voq v).avg }
      poolUpkeep (count Cn.raPredicted k.inPort 1 (joinVoq v vk s))

/-- The queue of an instance that takes a class's punts, if enabled (R437). -/
def Inst.puntQueue (i : Inst) (tc : Nat) : Option Nat :=
  let q := i.tcMap.getD tc 0
  if ((mget i.puntQ q).map VQueue.enabled).getD false then some q else none

/-- The capacity of Cellar mode's punt path takes a frame (R103): 16 Gb/s and 2 Mpps beyond what the 8 MiB reserved to the path smooth
(assumption log entry 137); none above it. -/
def State.cellarLoad (s : State) (length : Nat) : Nat × Nat :=
  let (b, f, t) := s.adm.cellarPunt
  (b - (s.mono - t) + 5 * length, f - (s.mono - t) + 5000)
def State.cellarTakes (s : State) (length : Nat) : Bool :=
  decide ((s.cellarLoad length).1 ≤ 5 * 2 ^ 23 ∧ (s.cellarLoad length).2 ≤ 5 * 2 ^ 23)
def cellarPunt (length : Nat) (s : State) : State :=
  { s with adm := { s.adm with cellarPunt := ((s.cellarLoad length).1, (s.cellarLoad length).2, s.mono) } }

/-- A punt copy at admission: test 2 only (R275, R429), in Cellar mode with the capacity of R103. -/
def admitPunt (k : Pkt) (r : Res) (held : Option Bool) (s : State) : State :=
  let vi := r.puntVi
  let i := s.inst vi
  match (if i.st = .active then i.puntQueue r.tc else none) with
  | none => refusePkt k.inPort 2 none r.tc s
  | some q =>
    let cellar := s.dev.phase = .cellar ∧ vi = 0
    if s.puntLimit vi < s.puntUsed vi + r.length ∨ cellar ∧ !s.cellarTakes r.length then refusePkt k.inPort 2 none r.tc s
    else
      let s := if cellar then cellarPunt r.length s else s
      let ahead := (i.punts.filter (fun c => i.puntQueue c.res.tc == some q)).length
      let none_ := decide (((mgetD i.puntQ q {}).bufs).length ≤ ahead)
      let s := if none_ then count Cn.viPuntWait vi 1 s else s
      countAdmitted k
        (s.modInst vi (fun i => { i with punts := i.punts ++ [{ pkt := k, res := r, ended := held.getD false }] }))

/-- A full result at admission: forward, punt, or both (R275). -/
def admitResult (k : Pkt) (r : Res) (number : Option Nat) (held : Option Bool) (s : State) : State :=
  if r.action = 0 then admitForward k r number held s
  else if r.action = 2 then admitPunt k r held s
  else admitPunt k r held (admitForward k r number held s)

/-! ### The last cell of a frame (R27, R38, R274) -/

/-- A packet whose frame ended well: its charge becomes the true length. -/
def VPkt.endWell (k : VPkt) (now : Nat) : VPkt :=
  { k with ended := true, charge := k.pkt.bytes.length, parts := trimParts k.pkt.bytes.length k.parts,
           res := { k.res with length := k.pkt.bytes.length } }.accept now

/-- The last cell of a packet is written. Assumption log entry 48. -/
def lastCell (id : Nat) (s : State) : State :=
  let s := s.allInsts.foldl (fun s vi => s.modInst vi (fun i => { i with punts := i.punts.filterMap (fun c =>
    if c.pkt.id ≠ id then some c
    else if c.pkt.fcsOk then some { c with ended := true, res := { c.res with length := c.pkt.bytes.length } } else none) })) s
  match s.voqWith id with
  | some (v, k) =>
    if k.pkt.fcsOk then
      let (hit, s) : Nat × State := if k.loc = .cask then takeArmedN 4 0 (ceilDiv k.pkt.bytes.length 256) s else (0, s)
      if hit = 0 then poolUpkeep (chargeHeadroom k k.charge k.pkt.bytes.length (s.setVpkt v (k.endWell s.mono)))
      else
        let s := count Cn.admCaskUe 0 hit (openFault 13 1 0 0 hit true s)
        poolUpkeep (discardUnder 13 1 1 (dropBad k (s.pullVpkt v id)))
    else poolUpkeep (dropBad k (s.pullVpkt v id))
  | none =>
    match s.mash.trub.find? (fun t => (t.2.held.map (fun k => k.pkt.id)) == some id) with
    | none => s
    | some (t, r) => match r.held with
      | none => s
      | some k =>
        if k.pkt.fcsOk then
          poolUpkeep (s.modMash (fun x => { x with trub := mset x.trub t { r with held := some (k.endWell s.mono) } }))
        else poolUpkeep (dropBad k s)

/-! ### The pair numbering stage (R385, R386, R394) -/

/-- The member discards the port's results: a standby, or a unit taking over, whose port is out of SYNC (R394, R409); a fenced unit goes on
forwarding (R396). -/
def State.unsynced (s : State) (p : Nat) : Bool :=
  (!s.holdsBung && s.pair.st != .fenced && !(s.ppair p).sync) || (s.ppair p).freshAt.isSome

/-- An arrival before the cut from which the standby numbers the port (R408). -/
def PairPort.beforeCut (x : PairPort) (a : Nat) : Bool := x.cut.any (fun c => older 48 a c)

/-- The RECON answer from the result log (R386): FORWARD, NONE, or UNKNOWN outside it. -/
def reconAnswer (p a : Nat) (s : State) : State :=
  let x := s.ppair p
  let st := ((mget s.pair.cfg.ports p).map PairPortCfg.stream).getD 0
  match mget x.log a with
  | some (.forward sp tc seq) => sendPeer (reconEntryBytes 2 st a sp tc seq) s
  | some .nothing => sendPeer (reconEntryBytes 3 st a 0 0 0) s
  | none =>
    let behind := dist 48 a x.nextArrival
    sendPeer (reconEntryBytes (if behind ≤ 65536 then 3 else 4) st a 0 0 0) s

/-- What the result log keeps: the last 65,536 arrival numbers. A number the partner has asked for is answered now. -/
def logResult (p a : Nat) (r : ReconLog) (s : State) : State :=
  let s := s.modPpair p (fun x =>
    let l := mset x.log a r
    { x with log := l.filter (fun e => decide (dist 48 e.1 a < 65536)), nextArrival := (a + 1) % 2 ^ 48,
             cut := if x.beforeCut ((a + 1) % 2 ^ 48) then x.cut else none })
  if a ∈ (s.ppair p).asked then reconAnswer p a (s.modPpair p (fun x => { x with asked := without x.asked a })) else s

/-- The arrival number of a bridge item. -/
def BridgeItem.arrival : BridgeItem → Option Nat
  | .result k _ => k.arrival
  | .none_ a => some a
  | _ => none

/-- An item whose turn it is at the stage. Assumption log entry 49. -/
def stageTake (p : Nat) (i : BridgeItem) (s : State) : State :=
  let after (k : Pkt) (s : State) : State :=
    if k.id ∈ (s.ppair p).written then lastCell k.id (s.modPpair p (fun x => { x with written := without x.written k.id })) else s
  match i with
  | .none_ a => logResult p a .nothing s
  | .result k r =>
    let a := k.arrival.getD 0
    if r.action = 2 then
      if s.holdsBung then after k (admitPunt k r none s) else count Cn.pairPuntSuppressed p 1 s
    else if s.unsynced p || (s.ppair p).beforeCut a then
      count Cn.pairRxUnsynced p 1 (releaseRef r.handle r.version (logResult p a .nothing s))
    else
      let key := streamKey (s.streamSun k) r.destSp r.tc
      let tx := s.txStream key
      let cells := ceilDiv (16 + k.bytes.length) 256
      let s := logResult p a (.forward r.destSp r.tc tx.1) (s.setTx key ((tx.1 + cells) % 2 ^ 24, tx.2))
      if r.action = 3 ∧ ¬ s.holdsBung then after k (admitForward k r (some tx.1) none (count Cn.pairPuntSuppressed p 1 s))
      else after k (admitResult k r (some tx.1) none s)
  | _ => s

/-- The active names the cut of an anchored port, 64 arrivals or more past the run's first, with the next number of each of its streams there;
the port is then in SYNC (R408). -/
def nameCut (p : Nat) (s : State) : State :=
  let x := s.ppair p
  match x.runFrom with
  | none => s
  | some a =>
    let passed := dist 48 a x.nextArrival
    if s.holdsBung && !x.sync && decide (64 ≤ passed ∧ passed < 2 ^ 47) then
      let st := ((mget s.pair.cfg.ports p).map PairPortCfg.stream).getD 0
      let nexts := (s.fab.txs.filter (fun e => e.1 / 2 ^ 18 == st)).map (fun e => (e.1 / 8 % 32768, e.1 % 8, e.2.1))
      (s.modPpair p (fun x => { x with sync := true, runFrom := none })).emit (.anchorCut p x.nextArrival nexts)
    else s

/-- Results held behind the stage run while nothing is missing; a missing number is queried, or passed over where no query may be sent. -/
def stageRun : Nat → Nat → State → State
  | 0, _, s => s
  | fuel + 1, p, s =>
    let x := s.ppair p
    match x.query, x.held with
    | some _, _ => s
    | none, [] => s
    | none, i :: t =>
      let a := i.arrival.getD x.nextArrival
      let punt := match i with | .result _ r => r.action == 2 | _ => false
      if a == x.nextArrival || punt then
        stageRun fuel p (nameCut p (stageTake p i (s.modPpair p (fun x => { x with held := t }))))
      else if x.sync && s.present s.partnerOf && !x.beforeCut x.nextArrival then
        let st := ((mget s.pair.cfg.ports p).map PairPortCfg.stream).getD 0
        let s := s.modPpair p (fun y => { y with query := some (x.nextArrival, s.mono) })
        count Cn.pairReconQuery p 1 (sendPeer (reconEntryBytes 1 st x.nextArrival 0 0 0) s)
      else stageRun fuel p (s.modPpair p (fun y => { y with nextArrival := a }))

/-- Rounds enough for the stage's held items. -/
def numberAll (p : Nat) (s : State) : State := stageRun (2 * (s.ppair p).held.length + 4) p s

end Sys2Proof.Machine
end

