-- ==== Sys2Proof/Machine/RackOps.lean ====
section
/-! DEFINITION. Racking (R330–R338): stream entries, the states of sequence numbers (Tables FB-5 and FB-6), acknowledgement (R326), the
release of packets in order (R332, R338), and a source that is silent or absent (R336). -/
namespace Sys2Proof.Machine

def State.modRack (s : State) (f : Rack → Rack) : State := { s with rack := f s.rack }
def State.stream (s : State) (k : Nat) : Stream := mgetD s.rack.streams k {}
def State.setStream (s : State) (k : Nat) (t : Stream) : State := s.modRack (fun r => { r with streams := mset r.streams k t })
def State.modStream (s : State) (k : Nat) (f : Stream → Stream) : State := s.setStream k (f (s.stream k))

/-! ### Members -/

/-- Something came from a unit (R336). -/
def heardFrom (src : Nat) (s : State) : State := s.modRack (fun r => { r with lastFrom := mset r.lastFrom src s.mono })
/-- MEMBER_SILENCE, 3 × REQUEST_PERIOD (R336). -/
def State.silence (s : State) : Nat := 3 * Config.ns s.fab.cfg.requestPeriod
def State.silent (s : State) (m : Nat) : Bool := match mget s.rack.lastFrom m with | none => true | some t => s.due (t + s.silence)
/-- Silent or absent. -/
def State.gone (s : State) (m : Nat) : Bool := !s.present m || s.silent m
/-- The pair SUN a unit announces. -/
def State.pairOf (s : State) (m : Nat) : Option Nat :=
  if m = s.dev.cfg.sun then s.pair.cfg.pair.map PairCfg.pairSun else (mget s.pair.heard m).map Heard.pairSun
/-- The other member of a member's pair. -/
def State.mateOf (s : State) (m : Nat) : Option Nat := (s.pairOf m).bind (fun p => (s.membersOf p).find? (fun x => x != m))

/-! ### Credit reservations (R322) -/

def creditKey (sp tc src : Nat) : Nat := (sp * 8 + tc) * 2048 + src
/-- One reserved cell of a source is used or released. -/
def useCredit (sp tc src : Nat) (s : State) : State :=
  let k := creditKey sp tc src
  let n := mgetD s.fab.creditOut k 0
  s.modFab (fun f => { f with creditOut := mput f.creditOut k (if n ≤ 1 then none else some (n - 1)) })

/-! ### Acknowledgement (R326) -/

/-- A number whose cell was received, or that needs none (assumption log entry 56). -/
def Num.answered (n : Num) : Bool := n.cell.isSome || n.st == .void_ || n.st == .released

/-- Numbers in a row from `n` that are answered. -/
def answeredRun (m : AMap Num) : Nat → Nat → Nat
  | 0, _ => 0
  | f + 1, n => match mget m n with
    | some x => if x.answered then 1 + answeredRun m f ((n + 1) % 2 ^ 24) else 0
    | none => 0

/-- CUM_SEQ and BITMAP of a stream. -/
def Stream.ack (t : Stream) (e : Nat) : Nat × Word :=
  let cum := (e + 2 ^ 24 - 1 + answeredRun t.nums 4097 e) % 2 ^ 24
  (cum, BitVec.ofNat 32 (maskOf ((List.range 32).filter (fun i =>
    ((mget t.nums ((cum + 2 + i) % 2 ^ 24)).map Num.answered).getD false))))

/-- The stream's acknowledgement to a unit; none before its START cell (R331). -/
def ackStream (k dest : Nat) (s : State) : State :=
  let t := s.stream k
  match t.expected with
  | none => s
  | some e =>
    let (cum, bm) := t.ack e
    sendEntry [dest] (ackEntryBytes false (k / 2 ^ 18) (k / 8 % 32768) (k % 8) cum bm) s

/-! ### Packets out of cells (Table FB-3, R338) -/

def hdrLen (b : List Byte) : Nat := be b 0 2 / 4

/-- A packet whose header and frame (as far as they came) stand at the front of the bytes. -/
def parsePkt (b : List Byte) (k seq : Nat) (s : State) : EPkt :=
  let v := be b 0 16
  { bytes := (b.drop 16).take (hdrLen b), length := hdrLen b, colour := bits v 113 112, handle := bits v 111 90,
    version := bits v 89 82, jcrc := BitVec.ofNat 32 (bits v 81 50), tsReq := bit v 49, ecnMark := bit v 48, ecnOff := bits v 47 40,
    injected := bit v 39, sp := k / 8 % 32768, tc := k % 8, stream := k, seq := seq, profiles := s.asa.profiles }

/-- Every packet in the egress queues and the egress path, changed or taken out. -/
def mapEgress (f : EPkt → Option EPkt) (s : State) : State :=
  s.modSch (fun x => { x with
    queues := (x.queues.map (fun q => (q.1, q.2.filterMap f))).filter (fun q => q.2 != []),
    eports := x.eports.map (fun e => (e.1, { e.2 with
      tx := e.2.tx.filterMap (fun k => (f k.2).map (fun y => (k.1, y))), limbo := e.2.limbo.filterMap f,
      lateSlot := e.2.lateSlot.filterMap (fun l => (f l.2.2).map (fun y => (l.1, (l.2.1, y)))) })) })

/-- The cut-through packet of a stream still waiting for cells. -/
def EPkt.awaits (p : EPkt) (k seq : Nat) : Bool := !p.whole && p.stream == k && p.seq == seq

/-- The port and class of a stream are in cut-through mode (R338). -/
def State.cutThrough (s : State) (k : Nat) : Bool := bit (mgetD s.fab.cfg.ct (s.localPort (k / 8 % 32768)) 0) (k % 8)

/-- Take every complete packet off the front of the stream's released bytes; `n` is the number just released. -/
def takePackets : Nat → Nat → Nat → State → State
  | 0, _, _, s => s
  | fuel + 1, k, n, s =>
    let t := s.stream k
    if t.partial_.length < 16 then s
    else
      let p := parsePkt t.partial_ k t.partialSeq s
      let s := if t.headed then s else takeRef p.handle p.version s
      if 16 + p.length ≤ t.partial_.length then
        let s := s.setStream k { t with partial_ := t.partial_.drop (16 + p.length), partialSeq := n, headed := false, ctOut := false }
        let s := if t.ctOut then mapEgress (fun x => some (if x.awaits k t.partialSeq then { p with rehomed := x.rehomed, profiles := x.profiles } else x)) s
          else egressRelease p s
        takePackets fuel k n s
      else
        let ct := s.cutThrough k && !t.ctOut
        let s := s.setStream k { t with headed := true, ctOut := t.ctOut || ct }
        if ct then egressRelease { p with whole := false } s else s

/-- A READY cell at its turn. -/
def releaseCell (k n : Nat) (c : Cell) (s : State) : State :=
  let t := s.stream k
  let b := c.payload.take (cellUsed c)
  let t := { t with skip_ := t.skip_ - b.length, partial_ := t.partial_ ++ b.drop t.skip_,
                    partialSeq := if t.partial_ = [] then n else t.partialSeq }
  takePackets 18 k n (s.setStream k t)

/-- A cut-through packet that is being sent ends with an invalid FCS (Table FB-5). -/
def abortTx (k seq : Nat) (s : State) : State :=
  foldS s.sch.eports s (fun e s => if e.2.tx.any (fun x => x.2.awaits k seq) then s.emit (.brokenFrame e.1) else s)

/-- A number without a cell at its turn: the packet it belonged to is discarded with what was released of it, and its bytes in later
cells are passed over (assumption log entry 61). -/
def passNumber (k : Nat) (s : State) : State :=
  let t := s.stream k
  if t.partial_ = [] then s.setStream k { t with skip_ := t.skip_ - 256 }
  else
    let p := parsePkt t.partial_ k t.partialSeq s
    let s := s.setStream k { t with partial_ := [], headed := false, ctOut := false,
                                    skip_ := if t.headed then 16 + p.length - t.partial_.length - 256 else 0 }
    let s := if t.ctOut then
        mapEgress (fun x => if x.awaits k t.partialSeq then none else some x) (abortTx k t.partialSeq s) else s
    if t.headed then releaseRef p.handle p.version s else s

/-! ### Release in order -/

/-- A released number of a paired stream is remembered while a member's copy or VOID may still come (Table FB-6). -/
def keepReleased (n : Nat) (x : Num) (s : State) (t : Stream) : AMap Num :=
  let m := mset t.nums n { x with st := .released }
  let other := s.mateOf x.by_
  let covered := match other with | none => true | some o => decide (o ∈ x.seen ∨ o ∈ x.voids) || !s.present o
  let m := if !t.paired || covered then mdel m n else m
  m.filter (fun e => e.2.st != .released || decide (dist 24 e.1 n < 4096))

/-- Release and skip numbers from the next expected one on. -/
def releaseRun : Nat → Nat → State → State
  | 0, _, s => s
  | fuel + 1, k, s =>
    let t := s.stream k
    match t.expected with
    | none => s
    | some n =>
      match mget t.nums n with
      | none => s
      | some x =>
        let on := { t with expected := some ((n + 1) % 2 ^ 24), expectedSince := s.mono }
        match x.st, x.cell with
        | .ready, some c => releaseRun fuel k (releaseCell k n c (s.setStream k { on with nums := keepReleased n { x with first := t.partial_ == [] && t.skip_ == 0 } s t }))
        | .void_, _ => releaseRun fuel k (passNumber k (s.setStream k { on with nums := mdel t.nums n }))
        | _, _ => s

/-- Something of a later number waits behind the next expected one (R337). -/
def Stream.blocked (t : Stream) : Bool :=
  match t.expected with
  | none => false
  | some e => t.nums.any (fun x => x.1 != e && dist 24 e x.1 < 2 ^ 23 && x.2.st != .released)

def runStream (k : Nat) (was : Bool) (s : State) : State :=
  let s := releaseRun ((s.stream k).nums.length + 1) k s
  let t := s.stream k
  if t.blocked && !was then s.setStream k { t with expectedSince := s.mono } else s

/-! ### Paired numbers (Table FB-6) -/

/-- How a stored copy or lone VOIDs of a paired number resolve now. -/
def State.pairedState (s : State) (stream : Nat) (x : Num) : NumState :=
  let act := mget s.rack.activeOf stream
  if x.st != .open_ && x.st != .held then x.st
  else if x.cell.isSome then
    let ready := match act with
      | some a => a == x.by_ || decide (a ∈ x.seen) || decide (a ∈ x.voids) || s.gone a
      | none => false
    if ready || s.due (x.at_ + Config.us s.fab.cfg.dupWait) then .ready else .held
  else
    let all := x.voids.any (fun m => match s.mateOf m with | none => true | some o => decide (o ∈ x.voids) || s.gone o)
    if all then .void_ else .open_

/-- Resolve what can be resolved of a paired stream, and release. -/
def pairedRun (k : Nat) (s : State) : State :=
  let t := s.stream k
  let nums := t.nums.map (fun e => (e.1, { e.2 with st := s.pairedState (k / 2 ^ 18) e.2 }))
  let voided := (nums.filter (fun e => e.2.st == .void_ && ((mget t.nums e.1).map Num.st) != some .void_)).length
  let s := if voided = 0 then s else count Cn.rackVoid 0 voided s
  runStream k t.blocked (s.setStream k { t with nums := nums })

/-- Every paired stream of a shared SUN, or of all. -/
def pairedAll (sun : Option Nat) (s : State) : State :=
  foldS (mkeys (s.rack.streams.filter (fun t => t.2.paired && (match sun with | none => true | some x => t.1 / 2 ^ 18 == x)))) s pairedRun

/-- Whether a number begins a packet, if the cells before it are all there (assumption log entry 62): `left` bytes of the current packet
are still to come at number `n`. -/
def firstAt (m : AMap Num) (target : Nat) : Nat → Nat → Nat → Option Bool
  | 0, _, _ => none
  | f + 1, n, left =>
    if n = target then some (left == 0)
    else match mget m n with
      | some { cell := some c, .. } =>
        let len := if left = 0 then 16 + hdrLen c.payload else left
        firstAt m target f ((n + 1) % 2 ^ 24) (len - 256)
      | some { st := .void_, .. } => firstAt m target f ((n + 1) % 2 ^ 24) 0
      | _ => none

def jcrcField (c : Cell) : Nat := bits (be c.payload 0 16) 81 50

/-- R335: the first cell of a packet is compared by JCRC, every later one by PCRC. -/
def copiesAgree (t : Stream) (n : Nat) (a b : Cell) (released first : Bool) : Bool :=
  let known := if released then some first
    else match t.expected with
      | some e => firstAt t.nums n 4097 e (if t.partial_ = [] then t.skip_ else 16 + hdrLen t.partial_ - t.partial_.length)
      | none => none
  match known with
  | some true => jcrcField a == jcrcField b
  | some false => a.pcrc == b.pcrc
  | none => a.pcrc == b.pcrc || jcrcField a == jcrcField b

/-- A divergence: counted, reported here, and told to both members (R335, R393). -/
def diverge (k n src : Nat) (s : State) : State :=
  let st := k / 2 ^ 18
  let sp := k / 8 % 32768
  let s := count Cn.rackDiverge src 1 s
  let s := notify Ev.pairDiverge (putLe 2 st ++ putLe 2 sp ++ putLe 1 (k % 8) ++ zeros 3 ++ putLe 4 n ++ putLe 2 s.dev.cfg.sun) [] s
  sendEntry ([src] ++ ((s.mateOf src).map (fun x => [x])).getD []) (divergeEntryBytes st sp (k % 8) n s.dev.cfg.sun) s

/-! ### A cell at Racking -/

/-- A further copy of a number already known from the same unit, or of a resolved one: dropped and acknowledged again (R334). -/
def dupCell (src : Nat) (s : State) : State := count Cn.rackDup src 1 s

/-- The loss of a packet under R328: DOUBLE_FAULT_LOSS inside a double fabric fault, else a discard under R44. -/
def fabricLoss (n : Nat) (s : State) : State :=
  if s.flt.log.any (fun r => r.st == 1 && decide (r.cls ∈ fabricClasses)) then
    doubleLoss fabricClasses fabricClasses n s
  else discardUnder 5 16 n s

/-- A cell for an unpaired number (Table FB-5). -/
def unpairedCell (k : Nat) (c : Cell) (s : State) : State :=
  let t := s.stream k
  let x := mgetD t.nums c.seq {}
  let put (st : NumState) (s : State) : State :=
    let y := { x with st := st, cell := some c, by_ := c.src, at_ := s.mono, seen := addOnce x.seen c.src }
    useCredit c.sp c.tc c.src (s.setStream k { t with nums := mset t.nums c.seq y })
  match x.st with
  | .open_ => if c.prov then put .held (count Cn.rackProvHeld 0 1 s) else put .ready s
  | .confirmed => put .ready s
  | _ => dupCell c.src s

/-- A cell for a paired number (Table FB-6). -/
def pairedCell (k : Nat) (c : Cell) (s : State) : State :=
  let t := s.stream k
  let x := mgetD t.nums c.seq {}
  let act := mget s.rack.activeOf c.stream == some c.src
  if c.src ∈ x.seen then dupCell c.src s
  else
    let s := useCredit c.sp c.tc c.src s
    let seen := addOnce x.seen c.src
    let save (x : Num) (s : State) : State := s.setStream k { t with nums := mset t.nums c.seq x }
    match x.cell with
    | none =>
      if x.st = .void_ then dupCell c.src (save { x with seen := seen } s)
      else save { x with st := .held, cell := some c, by_ := c.src, at_ := s.mono, seen := seen } s
    | some d =>
      if copiesAgree t c.seq d c (x.st == .released) x.first then count Cn.rackPairDup c.src 1 (save { x with seen := seen } s)
      else if act ∧ x.st ≠ .released then
        diverge k c.seq c.src (save { x with cell := some c, by_ := c.src, seen := seen } s)
      else diverge k c.seq c.src (save { x with seen := seen } s)

/-- A cell whose number lies before the next expected one (R334, R337, Table FB-6). -/
def oldCell (k : Nat) (c : Cell) (s : State) : State :=
  let t := s.stream k
  match (if c.paired then mget t.nums c.seq else none) with
  | some _ => pairedCell k c s
  | none =>
    if c.seq ∈ t.skipped then
      fabricLoss 1 (count Cn.rackLate 0 1 (s.setStream k { t with skipped := without t.skipped c.seq }))
    else dupCell c.src s

/-- EV.FAB.PROTOCOL (R333). -/
def windowError (src sp tc seq : Nat) (s : State) : State :=
  count Cn.rackWindow 0 1 (notify Ev.fabProtocol (putLe 2 src ++ putLe 2 sp ++ putLe 1 tc ++ zeros 3 ++ putLe 4 seq) [] s)

/-- A START cell sets the next expected number of a new entry (R331). -/
def Stream.begin_ (t : Stream) (c : Cell) : Stream :=
  if c.start && t.expected.isNone then
    { t with expected := some c.seq, nums := t.nums.filter (fun x => decide (dist 24 c.seq x.1 < 2 ^ 23)) }
  else t

/-- The entry of a stream, if one exists or can be allocated (R330). -/
def State.entryRoom (s : State) (k : Nat) : Bool := mhas s.rack.streams k || decide (s.rack.streams.length < 65536)

/-- Who holds the bung of a shared SUN: the member whose latest cell carried ACTIVE (R335). -/
def noteActive (c : Cell) (s : State) : State :=
  if !c.paired then s
  else if c.active then s.modRack (fun r => { r with activeOf := mset r.activeOf c.stream c.src })
  else if mget s.rack.activeOf c.stream = some c.src then s.modRack (fun r => { r with activeOf := mdel r.activeOf c.stream })
  else s

/-- A DATA cell that passed its checks. -/
def rackCell (c : Cell) (s : State) : State :=
  let k := streamKey c.stream c.sp c.tc
  if !s.entryRoom k then s
  else
    let s := noteActive c s
    let t := s.stream k
    let was := t.blocked
    let begins := c.start && t.expected.isNone
    let t := { (t.begin_ c) with paired := c.paired, srcs := addOnce t.srcs c.src, lastCell := s.mono,
                                 expectedSince := if begins then s.mono else t.expectedSince }
    let s := s.setStream k t
    let place (s : State) : State := if c.paired then pairedCell k c s else unpairedCell k c s
    let far := match t.expected with
      | none => false
      | some e => decide (4096 < dist 24 e c.seq ∧ dist 24 e c.seq < 2 ^ 23)
    if far then windowError c.src c.sp c.tc c.seq s
    else
      let old := match t.expected with | none => false | some e => decide (2 ^ 23 ≤ dist 24 e c.seq)
      let s := if old then oldCell k c s else place s
      let s := if c.paired then pairedRun k s else runStream k was s
      let s := if c.paired && c.active then pairedAll (some c.stream) s else s
      foldS (if begins then t.srcs else [c.src]) s (ackStream k)

/-- R340: PCRC fails at Racking. -/
def pcrcFail (plane : Nat) (s : State) : State := fault 5 plane 0 (count Cn.fabPcrcFail plane 1 s)

/-! ### Tokens -/

def tokenNums (first n : Nat) : List Nat := (upFrom first n).map (fun i => i % 2 ^ 24)

/-- VOID for one number. -/
def voidOne (k src n : Nat) (s : State) : State :=
  let t := s.stream k
  let x := mgetD t.nums n {}
  let sp := k / 8 % 32768
  let old := match t.expected with | none => false | some e => decide (2 ^ 23 ≤ dist 24 e n)
  let far := match t.expected with | none => false | some e => decide (4096 < dist 24 e n ∧ dist 24 e n < 2 ^ 23)
  if far then windowError src sp (k % 8) n s
  else if old && !mhas t.nums n then dupCell src s
  else if t.paired then
    if src ∈ x.voids then dupCell src s
    else
      let s := if src ∈ x.seen then s else useCredit sp (k % 8) src s
      s.setStream k { t with nums := mset t.nums n { x with voids := addOnce x.voids src } }
  else
    match x.st with
    | .void_ => dupCell src s
    | .released => dupCell src s
    | _ =>
      let s := if x.cell.isNone then useCredit sp (k % 8) src s else s
      count Cn.rackVoid 0 1 (s.setStream k { t with nums := mset t.nums n { x with st := .void_, cell := none } })

/-- CONFIRM for one number. -/
def confirmOne (k src n : Nat) (s : State) : State :=
  let t := s.stream k
  let x := mgetD t.nums n {}
  let old := match t.expected with | none => false | some e => decide (4096 < dist 24 e n)
  if old then dupCell src s
  else match x.st with
    | .open_ => s.setStream k { t with nums := mset t.nums n { x with st := .confirmed } }
    | .held => s.setStream k { t with nums := mset t.nums n { x with st := .ready } }
    | _ => dupCell src s

/-- CONFIRM (1) or VOID (2) entry (R332); a stream without an entry is created for a paired one only. Assumption log entry 66. -/
def rackToken (kind src stream sp tc first n : Nat) (s : State) : State :=
  let k := streamKey stream sp tc
  let s := heardFrom src s
  if !mhas s.rack.streams k && (stream == src || !s.entryRoom k) then dupCell src s
  else
    let was := (s.stream k).blocked
    let s := s.modStream k (fun t => { t with paired := decide (stream ≠ src) })
    let s := foldS (tokenNums first n) s (if kind = 1 then confirmOne k src else voidOne k src)
    if stream = src then runStream k was s else pairedRun k s

/-! ### Absence (R336), holes (R337) -/

/-- One unresolved number is passed over. -/
def skipNumber (k n : Nat) (s : State) : State :=
  let t := s.stream k
  let x := mgetD t.nums n {}
  let src := k / 2 ^ 18
  let s := if x.cell.isSome ∨ src ∈ x.seen then s else useCredit (k / 8 % 32768) (k % 8) src s
  s.setStream k { t with nums := mset t.nums n { x with st := .void_, cell := none } }

/-- The lowest number an entry holds. -/
def Stream.lowest (t : Stream) : Option Nat :=
  (mkeys t.nums).foldl (fun (m : Option Nat) n => match m with
    | none => some n
    | some b => if older 24 n b then some n else some b) none

/-- Skip every unresolved number of a stream and release the rest: what remains of an incomplete packet goes too. -/
def skipAll : Nat → Nat → State → State
  | 0, _, s => s
  | fuel + 1, k, s =>
    let t := s.stream k
    match t.expected with
    | none => s
    | some e =>
      if t.nums.all (fun x => decide (2 ^ 23 ≤ dist 24 e x.1)) then passNumber k s
      else skipAll fuel k (runStream k t.blocked (count Cn.rackSkipAbsent 0 1 (skipNumber k e s)))

/-- The source of an unpaired stream is absent. -/
def absentStream (k : Nat) (s : State) : State :=
  let t := s.stream k
  let s := if t.expected.isNone then s.setStream k { t with expected := t.lowest } else s
  skipAll 4098 k (runStream k t.blocked s)

end Sys2Proof.Machine
end

