-- ==== Sys2Proof/Machine/Squash.lean ====
section
/-! DEFINITION. The Q-die end of the Wort Bridge: results, NONE tokens and resolution tokens of a port in their order (R184, R225–R229,
R385), the last cell of a frame, and errors of the Trub log (R239). -/
namespace Sys2Proof.Machine

/-- Going on without an answer, as for UNKNOWN: the missing arrival is passed over and the port treated as diverged (R386, R394). -/
def proceedUnknown (p : Nat) (s : State) : State :=
  leaveSync p (s.modPpair p (fun x => { x with query := none, nextArrival := (x.nextArrival + 1) % 2 ^ 48 }))

/-- A result or a NONE token at the numbering stage of a paired port. -/
def numberItem (p : Nat) (i : BridgeItem) (s : State) : State :=
  let s := s.modPpair p (fun x => { x with held := x.held ++ [i] })
  let s := if (s.ppair p).query.isSome ∧ 32768 ≤ (s.ppair p).held.length then
      proceedUnknown p (count Cn.pairReconOverflow p 1 s) else s
  numberAll p s

/-- The next item of a port on the bridge. -/
def State.bridgeHead (s : State) (p : Nat) : Option BridgeItem := (mgetD s.mash.bridge p []).head?
def popBridge (p : Nat) (s : State) : State :=
  let rest := (mgetD s.mash.bridge p []).drop 1
  s.modMash (fun x => { x with bridge := mput x.bridge p (if rest = [] then none else some rest) })

/-- R385: a NONE token takes no number. -/
def execNoneToken (port : Nat) (s : State) : Host.Outcome State Fault Refusal :=
  .next (match s.bridgeHead port with
    | some (.none_ a) => numberItem port (.none_ a) (popBridge port s)
    | _ => s)

/-- R27, R38: wherever the packet lies, also behind the numbering stage. -/
def execFrameLastCellWrite (pkt : Nat) (s : State) : Host.Outcome State Fault Refusal :=
  .next (match s.pair.ports.find? (fun p => p.2.held.any (fun i => match i with | .result k _ => k.id == pkt | _ => false)) with
    | some (p, _) => s.modPpair p (fun x => { x with written := addOnce x.written pkt })
    | none => lastCell pkt s)

/-! ### Resolutions (Table RA-3) -/

/-- A record's packet, from its VOQ or from beside it. -/
def State.copyOf (s : State) (t : Trub) : Option VPkt :=
  match t.held with
  | some k => some k
  | none => (s.voqWith t.pkt).map (fun x => x.2)

/-- The token for the cells a packet sent provisionally (R234). -/
def sendResolution (kind : Nat) (t : Trub) (s : State) : State :=
  if t.count = 0 then s else sendToken kind s.dev.cfg.sun t.pred.destSp t.pred.tc t.first t.count s

/-- The CTRL cells of a VOID token free the withdrawn packet's cells when they are acknowledged (R229); with no token to send, they go now. -/
def bindVoid (from_ id : Nat) (s : State) : State :=
  let s := s.modFab (fun f => { f with retention := f.retention.map (fun c =>
    if c.cell.kind = .ctrl ∧ from_ ≤ c.key then { c with withdrawn := some id } else c) })
  freeWithdrawn id s

/-- Take a provisional copy out of its VOQ, its granted cells voided and kept until the token is acknowledged. -/
def withdraw (t : Trub) (s : State) : State :=
  let s := match s.voqWith t.pkt with | some (v, _) => s.pullVpkt v t.pkt | none => s
  let s := forgetCells t.pkt s
  if t.count = 0 then s else bindVoid s.fab.nextKey t.pkt (sendResolution 2 t s)

/-- The Q-die withdraws a cascaded copy and keeps its cells outside every VOQ (R232). -/
def holdCascaded (i : Nat) (s : State) : State :=
  match mget s.mash.trub i with
  | none => s
  | some t =>
    if t.st = .open_ ∨ t.st = .granted then
      match s.copyOf t with
      | none => s
      | some k =>
        let s := withdraw t s
        let t' : Trub := { t with st := .cascaded, held := some { k with sent := 0 }, count := 0 }
        s.modMash (fun x => { x with trub := mset x.trub i t' })
    else s

/-- Within one clock, results for one VOQ are decided in ascending slice number (R276). Assumption log entry 158. -/
def State.sliceTurn (s : State) (v slice : Nat) : Bool :=
  s.adm.clock.1 != s.mono || decide (mgetD s.adm.clock.2 v 0 ≤ slice)
def sliceDone (v slice : Nat) (s : State) : State :=
  s.modAdm (fun a => { a with clock := (s.mono, mset (if a.clock.1 = s.mono then a.clock.2 else []) v slice) })

/-- The head of a port's bridge is taken for a decision at the port's slice. -/
def takeAt (p v : Nat) (s : State) : State := popBridge p (sliceDone v (sliceOf p) s)

/-- A prediction at admission; one that a squash cascaded on its way is withdrawn at once (R232, R239). -/
def takePrediction (k : Pkt) (r : Res) (t : Nat) (s : State) : State :=
  let s := admitProvisional k r t s
  if (mgetD s.mash.trub t {}).cascaded then holdCascaded t s else s

/-- A full result or a prediction reaches the Q-die (R276). -/
def execResultAdmission (port : Nat) (s : State) : Host.Outcome State Fault Refusal :=
  .next (match s.bridgeHead port with
    | some (.result k r) =>
      if k.arrival.isSome then numberItem port (.result k r) (popBridge port s)
      else if r.action = 2 then admitResult k r none none (popBridge port s)
      else
        let v := voqKey r.destSp r.tc
        when (s.sliceTurn v (sliceOf port)) s (admitResult k r none none (takeAt port v s))
    | some (.prediction k r t) =>
      let v := voqKey r.destSp r.tc
      when (s.sliceTurn v (sliceOf port)) s (takePrediction k r t (takeAt port v s))
    | _ => s)

/-- Every cascaded record of a cache entry but the squashed one. -/
def holdAll (way except_ : Nat) (s : State) : State :=
  foldS (mkeys (s.mash.trub.filter (fun t => t.2.way == way && t.2.cascaded && t.1 != except_))) s holdCascaded

/-- A record closes: the older record of its entry links to the next younger one, and what it held leaves its VOQ's bytes (R280). -/
def closeTrub (i : Nat) (s : State) : State :=
  match mget s.mash.trub i with
  | none => s
  | some t =>
    let s := s.modMash (fun x => { x with trub := (mdel x.trub i).map (fun y =>
      if y.2.next = some i then (y.1, { y.2 with next := t.next }) else y) })
    let v := voqKey t.pred.destSp t.pred.tc
    if mhas s.adm.voqs v then s.setVoq v (s.voq v) else s

/-- R227, R277: tests 4 and 5 again with the confirmed colour: none refuses with a reason, or whether the packet is marked. -/
def confirmTest (k : VPkt) (colour : Nat) (s : State) : (Nat ⊕ Bool) × State :=
  if colour = 0 then (.inr false, s)
  else
    let p := s.profileOf (voqKey k.res.destSp k.res.tc)
    if p.maxFor colour < k.seenBytes + k.charge then (.inl 4, s)
    else match wredTest p colour k.seenAvg k.pkt.bytes s with
      | none => (.inl 5, wredDrawn p s)
      | some m => (.inr m, wredDrawn p s)

/-- CONFIRM at the Q-die. -/
def applyConfirm (i : Nat) (t : Trub) (colour : Nat) (policed : Bool) (s : State) : State :=
  match s.copyOf t with
  | none => closeTrub i s
  | some k =>
    match confirmTest k colour s with
    | (.inl n, s) =>
      let s := closeTrub i (withdraw t s)
      poolUpkeep (releaseRef k.res.handle k.res.version
        (countRefused k.pkt.inPort n (some (voqKey k.res.destSp k.res.tc)) k.res.tc s))
    | (.inr mark, s) =>
      let s := if mark || k.ecnMark then count Cn.admWredMark k.pkt.inPort 1 s else s
      let s := sendResolution 1 t (closeTrub i s)
      let s := match s.voqWith t.pkt with
        | some (v, x) =>
          s.setVpkt v ({ x with trub := none, ecnMark := x.ecnMark || mark,
                                res := { x.res with colour := colour, policed := policed, prov := false } }.accept s.mono)
        | none => refDone (t.pkt, k.res.handle, k.res.version) s
      poolUpkeep (countAdmitted k.pkt (count Cn.raConfirmed k.pkt.inPort 1 s))

/-- RA_SQUASHED counts a squash by the packet's own resolution, not the end of a cascaded one (Table RA-3). -/
def squashed (t : Trub) (k : VPkt) (s : State) : State := if t.st = .cascaded then s else count Cn.raSquashed k.pkt.inPort 1 s

/-- SQUASH_READMIT (R229): a new admission on the full result. -/
def applyReadmit (i : Nat) (t : Trub) (r : Res) (s : State) : State :=
  match s.copyOf t with
  | none => closeTrub i s
  | some k =>
    let s := closeTrub i (withdraw t s)
    let s := releaseRef t.pred.handle t.pred.version (squashed t k s)
    let s := if r.action = 0 ∨ r.action = 3 then takeRef r.handle r.version s else s
    admitResult k.pkt (if k.ended then { r with length := k.pkt.bytes.length } else r) none (some k.ended) s

/-- SQUASH_DISCARD. -/
def applyDiscard (i : Nat) (t : Trub) (s : State) : State :=
  match s.copyOf t with
  | none => closeTrub i s
  | some k =>
    let s := closeTrub i (withdraw t s)
    poolUpkeep (releaseRef t.pred.handle t.pred.version (squashed t k s))

/-- The next resolution token of a port is applied (R225, Table RA-3). -/
def execResolutionTokenApply (port : Nat) (s : State) : Host.Outcome State Fault Refusal :=
  .next (match s.bridgeHead port with
    | some (.confirm i c pol _) =>
      (match mget s.mash.trub i with
      | none => popBridge port s
      | some t => if t.st = .nocopy then closeTrub i (popBridge port s) else applyConfirm i t c pol (popBridge port s))
    | some (.readmit i r _) =>
      (match mget s.mash.trub i with
      | none => popBridge port s
      | some t =>
        let s := holdAll t.way i (popBridge port s)
        if t.st = .nocopy then closeTrub i s else applyReadmit i t r s)
    | some (.discard i _ _) =>
      (match mget s.mash.trub i with
      | none => popBridge port s
      | some t =>
        let s := holdAll t.way i (popBridge port s)
        if t.st = .nocopy then closeTrub i s else applyDiscard i t s)
    | _ => s)

/-- R239: every unresolved provisional packet of the record's port is treated as cascaded. -/
def trubEcc (index : Nat) (s : State) : State :=
  match mget s.mash.trub index with
    | none => s
    | some t =>
      let s := count Cn.raTrubEcc t.port 1 (fault 13 2 0 s)
      let mine := s.mash.trub.filter (fun x => x.2.port == t.port && !x.2.issued && !x.2.cascaded)
      foldS mine s (fun x s =>
        holdCascaded x.1 (cascadeOne x.1 x.2 s))

def execTrubEccError (index : Nat) (s : State) : Host.Outcome State Fault Refusal := .next (trubEcc index s)

end Sys2Proof.Machine
end

