-- ==== Sys2Proof/Machine/Send.lean ====
section
/-! DEFINITION. The sending half of the fabric side: requests and credit at the source (R320, R322), the matcher's grant (R316, R323–R325),
the retention read port (R324, R388), acknowledgements (R326) and retransmission (R327–R329). -/
namespace Sys2Proof.Machine

/-! ### Requests and credit -/

/-- The VOQ belongs to a paired stream that holds packets or unacknowledged cells (R320). -/
def State.pairedHold (s : State) (v : Nat) : Bool :=
  (s.voq v).q.any (fun k => k.number.isSome) || s.fab.retention.any (fun c => c.cell.kind == .data && c.cell.paired && voqKey c.cell.sp c.cell.tc == v)

/-- Cells of a VOQ beyond the credit of one unit. -/
def Voq.backlog (x : Voq) (u : Nat) : Nat := x.cells - mgetD x.credit u 0

/-- A REQUEST to every unit behind the system port, when one is due (R320). -/
def requestSend (v : Nat) (s : State) : State :=
  let x := s.voq v
  let us := (s.spTargets (v / 8)).filter s.present
  let want := us.any (fun u => decide (0 < x.backlog u))
  let hold := s.pairedHold v
  let period := match x.lastReq with | none => true | some t => s.due (t + Config.ns s.fab.cfg.requestPeriod)
  let due := if want then !x.requesting || period else if hold then period else x.requesting
  if us != [] && due then
    let s := s.modVoq v (fun x => { x with lastReq := some s.mono, requesting := want })
    foldS us s (fun u s => sendEntry [u] (requestEntryBytes (v / 8) (v % 8) hold (x.backlog u)) s)
  else s

def execRequestSend (voq : Nat) (s : State) : Host.Outcome State Fault Refusal := .next (requestSend voq s)

/-- A CREDIT entry: at most 2,048 cells of unused credit (R322). -/
def creditEntry (src sp tc cells : Nat) (s : State) : State :=
  let s := heardFrom src s
  if src ∈ s.spTargets sp then
    s.modVoq (voqKey sp tc) (fun x => { x with credit := mset x.credit src (min 2048 (mgetD x.credit src 0 + cells)) })
  else s

def execCreditEntry (src sp tc cells : Nat) (s : State) : Host.Outcome State Fault Refusal :=
  .next (when (decide (tc < 8)) s (creditEntry src sp tc cells s))

/-! ### The matcher -/

/-- A packet that may give bytes to a cell: ended with a valid FCS, and in Cask or its prefetch region. -/
def VPkt.ready (k : VPkt) : Bool := k.ended && k.loc != .hbm

/-- A packet with `n` more bytes granted; its first grant ends its sojourn (R283). -/
def VPkt.grant (k : VPkt) (n now : Nat) : VPkt := { k with sent := k.sent + n, grantedAt := some (k.grantedAt.getD now) }

/-- Up to `room` bytes from the packets at the head of a VOQ that share cells: bytes, packets touched, and the queue left (R316). -/
def gather (now : Nat) : Nat → List VPkt → List Byte × List VPkt × List VPkt
  | _, [] => ([], [], [])
  | room, k :: t =>
    if room = 0 || k.alone || !k.ready then ([], [], k :: t)
    else
      let n := min room k.unsent
      let b := (k.streamBytes.drop k.sent).take n
      let k' := k.grant n now
      if k'.unsent = 0 then
        let (b2, l2, q2) := gather now (room - n) t
        (b ++ b2, k' :: l2, q2)
      else (b, [k'], k' :: t)

/-- The unit that a grant's first copy leaves for, and whose credit it takes (R388). -/
def State.grantUnit (s : State) (v plane : Nat) : Option Nat :=
  (s.spTargets (v / 8)).find? (fun u => decide (0 < mgetD (s.voq v).credit u 0 ∧ plane ∈ s.sprayMask u))

/-- The granted cell enters retention and leaves on the plane. -/
def launch (v plane unit : Nat) (c : Cell) (pkts : List VPkt) (s : State) : State :=
  let copies := (s.spTargets (v / 8)).map (fun u =>
    if u = unit then (u, 1, [plane], s.mono, false) else ((u, 0, [], s.mono, false) : Nat × Nat × List Nat × Nat × Bool))
  let r : RetCell := { key := s.fab.nextKey, cell := c, copies := copies,
                       pkts := pkts.map (fun k => (k.pkt.id, k.res.handle, k.res.version)) }
  let s := s.modFab (fun f => { f with retention := f.retention ++ [r], nextKey := f.nextKey + 1 })
  let s := s.modVoq v (fun x => { x with credit := mput x.credit unit (let n := mgetD x.credit unit 0; if n ≤ 1 then none else some (n - 1)) })
  poolUpkeep (sendCell plane c s)

/-- The DATA cell of a grant. -/
def grantedCell (v unit : Nat) (k : VPkt) (seq : Nat) (start : Bool) (b : List Byte) (s : State) : Cell :=
  let payload := fit 256 b
  { kind := .data, prov := k.trub.isSome, active := k.number.isSome && s.holdsBung, paired := k.number.isSome, start := start, retx := false,
    reliable := false, dest := unit, src := s.dev.cfg.sun, stream := s.streamSun k.pkt, sp := v / 8, tc := v % 8, seq := seq,
    fill := fillOf b.length, pcrc := pcrcOf payload, payload := payload }

/-- A packet that occupies its cells alone: its next cell (R316, R325). -/
def grantAlone (v plane unit : Nat) (k : VPkt) (t : List VPkt) (s : State) : State :=
  let key := streamKey (s.streamSun k.pkt) (v / 8) (v % 8)
  let (next, idle) := s.txStream key
  let seq := match k.number with | some n => (n + k.sent / 256) % 2 ^ 24 | none => next
  let b := (k.streamBytes.drop k.sent).take 256
  let k' := k.grant b.length s.mono
  let c := grantedCell v unit k seq idle b s
  let s := s.setTx key (if k.number.isSome then next else (next + 1) % 2 ^ 24, false)
  let s := match k.trub with
    | none => s
    | some i =>
      s.modMash (fun m => { m with trub := mmod m.trub i {} (fun r =>
        { r with first := if k.sent = 0 then seq else r.first, count := r.count + 1, st := .granted,
                 held := if k'.unsent = 0 then some k' else r.held }) })
  let s := s.setVoq v { s.voq v with q := if k'.unsent = 0 then t else k' :: t }
  launch v plane unit c [k'] s

/-- Packets that share cells. -/
def grantShared (v plane unit : Nat) (k : VPkt) (s : State) : State :=
  let key := streamKey (s.streamSun k.pkt) (v / 8) (v % 8)
  let (next, idle) := s.txStream key
  let (b, l, q) := gather s.mono 256 (s.voq v).q
  let c := grantedCell v unit k next idle b s
  launch v plane unit c l ((s.setTx key ((next + 1) % 2 ^ 24, false)).setVoq v { s.voq v with q := q })

/-! #### The matching of a clock (R324) -/

/-- A plane interface can take a grant: UP, room in its FIFO, nothing due in its retransmission queue, no cell taken in this clock. -/
def State.busyPlanes (s : State) : List Nat := if s.fab.matcher.busyAt = s.mono then s.fab.matcher.busy else []
def State.planeFree (s : State) (p : Nat) : Bool :=
  s.planeUp p && decide (s.fifo p < 16) && (s.plane p).retx.isEmpty && decide (p ∉ s.busyPlanes)

/-- A VOQ is eligible (R323). -/
def State.eligible (s : State) (v : Nat) : Bool :=
  match (s.voq v).q with
  | [] => false
  | k :: _ => k.ready && s.retRoom && (List.range 16).any (fun p => (s.grantUnit v p).isSome)

/-- A list in the order of a round robin that has reached a place. -/
def robin (from_ : Nat) (l : List Nat) : List Nat := l.filter (fun x => decide (from_ ≤ x)) ++ l.filter (fun x => decide (x < from_))

/-- The VOQ that a request port offers: VOQs belong to port SP mod 8. -/
def State.offered (s : State) (m : Matcher) (port : Nat) : Option Nat :=
  (robin (mgetD m.voqPtr port 0) ((mkeys s.adm.voqs).filter (fun v => v / 8 % 8 == port && s.eligible v))).head?

/-- The plane that a port accepts: the fewest cells in its FIFO, then its pointer's order. -/
def State.accepted (s : State) (ptr : Nat) (l : List Nat) : Option Nat :=
  (robin ptr l).foldl (fun (b : Option Nat) p => match b with
    | none => some p
    | some q => if s.fifo p < s.fifo q then some p else some q) none

/-- One iteration: the new matches (port, VOQ, plane) beside those made. -/
def State.iterate (s : State) (m : Matcher) (made : List (Nat × Nat × Nat)) : List (Nat × Nat × Nat) :=
  let ports := (List.range 8).filter (fun i => !made.any (fun x => x.1 == i))
  let offers := ports.filterMap (fun i => (s.offered m i).map (fun v => (i, v)))
  let planes := (List.range 16).filter (fun p => s.planeFree p && !made.any (fun x => x.2.2 == p))
  let grants := planes.filterMap (fun p =>
    ((robin (mgetD m.portPtr p 0) ((offers.filter (fun o => (s.grantUnit o.2 p).isSome)).map (fun o => o.1))).head?).map (fun i => (p, i)))
  offers.filterMap (fun o =>
    (s.accepted (mgetD m.planePtr o.1 0) ((grants.filter (fun g => g.2 == o.1)).map (fun g => g.1))).map (fun p => (o.1, o.2, p)))

/-- Pointers advance one place past a match of the first iteration. -/
def Matcher.advance (m : Matcher) (l : List (Nat × Nat × Nat)) : Matcher :=
  l.foldl (fun m x => { m with voqPtr := mset m.voqPtr x.1 (x.2.1 + 1), portPtr := mset m.portPtr x.2.2 ((x.1 + 1) % 8),
                               planePtr := mset m.planePtr x.1 ((x.2.2 + 1) % 16) }) m

/-- The matching in force in this clock: three iterations of request, grant and accept. Assumption log entry 159. -/
def State.matching (s : State) : Matcher :=
  let m := s.fab.matcher
  if m.at_ = some s.mono then m
  else
    let a := s.iterate m []
    let b := a ++ s.iterate m a
    let c := b ++ s.iterate m b
    { m.advance a with at_ := some s.mono, pairs := c.map (fun x => (x.2.1, x.2.2)) }

/-- A plane has taken a cell in this clock. -/
def takePlane (p : Nat) (s : State) : State :=
  let b := s.busyPlanes
  s.modFab (fun f => { f with matcher := { f.matcher with busyAt := s.mono, busy := addOnce b p } })

/-- R323, R325: an eligible VOQ's grant to a plane; expired heads go first (R283). -/
def matcherGrant (v plane : Nat) (s : State) : State :=
  let s := expireHeads ((s.voq v).q.length + 1) v s
  match (s.voq v).q, s.grantUnit v plane with
  | k :: t, some unit =>
    if !k.ready || !s.retRoom || !s.planeUp plane then poolUpkeep s
    else if k.alone then grantAlone v plane unit k t s
    else grantShared v plane unit k s
  | _, _ => poolUpkeep s

def execMatcherGrant (voq plane : Nat) (s : State) : Host.Outcome State Fault Refusal :=
  .next (let m := s.matching
    when (decide (plane < 16) && decide ((voq, plane) ∈ m.pairs) && decide (plane ∉ s.busyPlanes)) s
      (matcherGrant voq plane (takePlane plane (s.modFab (fun f =>
        { f with matcher := { m with pairs := m.pairs.filter (fun x => decide (x ≠ (voq, plane))) } })))))

/-! ### The retention read port -/

/-- The plane may carry a copy for a unit: the one whose retransmission queue it stands in, or one that it may take (R327). -/
def State.copyPlane (s : State) (key : Nat) (used : List Nat) (dest plane : Nat) : Bool :=
  match s.retxPlane key dest with
  | some p => p == plane
  | none => decide (plane ∈ s.freshPlanes used dest)

/-- A copy leaves: a retransmission with RETX, or a first copy, which takes that unit's credit (R324, R388). -/
def retentionSend (c : RetCell) (plane dest : Nat) (s : State) : State :=
  match c.copies.find? (fun x => x.1 == dest) with
  | none => s
  | some (_, n, used, _, due) =>
    let v := voqKey c.cell.sp c.cell.tc
    let data := c.cell.kind == .data
    let first := decide (n = 0)
    if !s.copyPlane c.key used dest plane || decide (plane ∈ s.busyPlanes) then s
    else if first && data && decide (mgetD (s.voq v).credit dest 0 = 0) then s
    else if !first && !due then s
    else
      let s := s.setRet { c with copies := c.copies.map (fun x => if x.1 = dest then (dest, n + 1, used ++ [plane], s.mono, false) else x) }
      let s := if first && data then
          s.modVoq v (fun x => { x with credit := mput x.credit dest (let n := mgetD x.credit dest 0; if n ≤ 1 then none else some (n - 1)) })
        else s
      let s := if first then s else
        count Cn.fabRetx plane 1 (s.modPlane plane (fun x => { x with retx := x.retx.filter (fun y => decide (y ≠ (c.key, dest))) }))
      let s := takePlane plane s
      sendCell plane { c.cell with dest := dest, retx := !first, active := c.cell.paired && s.holdsBung } s

def execRetentionSend (cell plane dest : Nat) (s : State) : Host.Outcome State Fault Refusal :=
  .next (match s.retCell? cell with
    | none => s
    | some c => when (decide (plane < 16)) s (retentionSend c plane dest s))

/-! ### Acknowledgements -/

/-- The recovery windows of lane and plane faults end with the last cell that was unacknowledged on the plane at detection (Table IF-2). -/
def fabricWindows (s : State) : State :=
  foldS (s.flt.log.filter (fun r => r.st == 1 && (r.cls == 3 || r.cls == 4))) s (fun r s =>
    let p := if r.cls = 4 then some r.unit else s.planeOf r.unit
    let waits := s.fab.retention.any (fun c => c.copies.any (fun x =>
      match p with
      | none => false
      | some p => decide (p ∈ x.2.2.1) && !(x.2.2.1 == [p] && decide (r.lastAt < x.2.2.2.1))))
    if waits then s else endWindow r.cls r.unit s)

/-- A number that an ACK covers. -/
def ackCovers (cum : Nat) (bm : Word) (n : Nat) : Bool :=
  decide (dist 24 n cum < 2 ^ 23) || (let d := dist 24 (cum + 2) n; decide (d < 32) && bm.getLsbD d)

/-- An ACK entry from a unit (R326). -/
def ackEntry (src : Nat) (control : Bool) (stream sp tc cum : Nat) (bm : Word) (s : State) : State :=
  let s := heardFrom src s
  let mine (c : RetCell) : Bool :=
    c.copies.any (fun x => x.1 == src) && ackCovers cum bm c.cell.seq
      && (if control then c.cell.kind == .ctrl else c.cell.kind == .data && streamKey c.cell.stream c.cell.sp c.cell.tc == streamKey stream sp tc)
  fabricWindows (foldS (s.fab.retention.filter mine) s (fun c s => ackCell c src s))

def execAckEntry (src : Nat) (control : Bool) (stream sp tc cum : Nat) (bitmap : Word) (s : State) : Host.Outcome State Fault Refusal :=
  .next (ackEntry src control stream sp tc cum bitmap s)

/-! ### Time-outs -/

/-- R328: the packets with bytes in a cell, and those that share any of their cells, with all these cells (assumption log entry 63). -/
def State.lostWith (s : State) : Nat → List Nat → List Nat
  | 0, ids => ids
  | fuel + 1, ids =>
    let more := s.fab.retention.flatMap (fun c =>
      let l := c.pkts.map (fun p => p.1)
      if c.cell.kind == .data && l.any (fun i => decide (i ∈ ids)) then l else [])
    let all := (ids ++ more).eraseDups
    if all.length = ids.length then ids else lostWith s fuel all

/-- A lost packet leaves its VOQ or its Trub record, if it is still there. -/
def dropLost (id : Nat) (s : State) : State :=
  let s := match s.voqWith id with | some (v, _) => s.pullVpkt v id | none => s
  s.modMash (fun m => { m with trub := m.trub.map (fun t => if t.2.pkt = id then (t.1, { t.2 with st := .nocopy, held := none, pkt := 0 }) else t) })

/-- The DATA cells with bytes of some packets. -/
def State.cellsOf (s : State) (ids : List Nat) : List RetCell :=
  s.fab.retention.filter (fun x => x.cell.kind == .data && x.pkts.any (fun p => decide (p.1 ∈ ids)))

/-- Packets are lost with their cells, whose numbers are voided. -/
def dropSent (ids : List Nat) (cells : List RetCell) (s : State) : State :=
  let s := foldS cells s (fun x s => sendToken 2 x.cell.stream x.cell.sp x.cell.tc x.cell.seq 1 s)
  foldS cells (foldS ids s dropLost) dropCell

/-- A cell has used up RETX_MAX transmissions. -/
def exhaust (c : RetCell) (dest : Nat) (s : State) : State :=
  let ids := s.lostWith (s.fab.retention.length + 1) (c.pkts.map (fun p => p.1))
  let cells := s.fab.retention.filter (fun x => x.cell.kind == .data && (x.key == c.key || x.pkts.any (fun p => decide (p.1 ∈ ids))))
  let s := notify Ev.fabRetxExhausted (putLe 2 dest ++ putLe 2 c.cell.sp ++ putLe 1 c.cell.tc ++ zeros 3 ++ putLe 4 c.cell.seq) [] s
  let s := dropSent ids cells s
  poolUpkeep (fabricLoss ids.length (fault 5 ((c.copies.find? (fun x => x.1 == dest)).bind (fun x => x.2.2.1.getLast?) |>.getD 16) 0 s))

/-- Three time-outs of one destination on one plane within 100 µs make the plane suspect for 1 ms (R329). Assumption log entry 67. -/
def noteTimeout (plane dest : Nat) (s : State) : State :=
  let k := sunKey plane dest
  let l := (mgetD s.fab.recentTo k []).filter (fun t => decide (s.mono ≤ t + Config.us 100)) ++ [s.mono]
  let s := s.modPlane plane (fun p => { p with timeouts := p.timeouts + 1 })
  if 3 ≤ l.length ∧ !mhas s.fab.suspect k then
    let s := s.modFab (fun f => { f with suspect := mset f.suspect k (s.mono + Config.ms 1), recentTo := mdel f.recentTo k })
    let s := notify Ev.fabPlaneSuspect (putLe 1 plane ++ [0] ++ putLe 2 dest) [] s
    fabricWindows (fault 4 plane 0 (count Cn.fabPlaneSuspect plane 1 s))
  else s.modFab (fun f => { f with recentTo := mset f.recentTo k l })

/-- R327, R328. -/
def ackTimeout (c : RetCell) (dest n : Nat) (used : List Nat) (s : State) : State :=
  let s := match used.getLast? with | some p => noteTimeout p dest s | none => s
  if c.cell.kind == .data && decide (s.fab.cfg.retxMax ≤ n) then exhaust c dest s
  else enqueueRetx c.key dest used
    (s.setRet { c with copies := c.copies.map (fun x => if x.1 = dest then (x.1, x.2.1, x.2.2.1, x.2.2.2.1, true) else x) })

def execCellAckTimeout (cell dest : Nat) (s : State) : Host.Outcome State Fault Refusal :=
  .next (match s.retCell? cell with
    | none => s
    | some c => match c.copies.find? (fun x => x.1 == dest) with
      | none => s
      | some (_, n, used, at_, due) =>
        when (!due && decide (0 < n) && s.due (at_ + Config.us s.fab.cfg.ackTimeout)) s (ackTimeout c dest n used s))

/-- R329: the plane returns to the SUN's spray mask. -/
def execPlaneSuspectEnd (plane sun : Nat) (s : State) : Host.Outcome State Fault Refusal :=
  .next (match mget s.fab.suspect (sunKey plane sun) with
    | none => s
    | some t => when (s.due t) s (s.modFab (fun f => { f with suspect := mdel f.suspect (sunKey plane sun) })))

end Sys2Proof.Machine
end

