-- ==== Sys2Proof/Machine/Tbl.lean ====
section
/-! DEFINITION. TBL family: the TBL and run-ahead commands (Tables PL-9 and RA-5), epoch and version retirement (R196, R198, R205). -/
namespace Sys2Proof.Machine

/-- The slot that runs (0 A, 1 B). -/
def State.slot (s : State) (n : Nat) : Slot := if n = 0 then s.upd.slotA else s.upd.slotB

/-- The part table of a slot's head, 64-byte entries from offset 256 (Tables UP-2, UP-3). -/
def Slot.parts (x : Slot) : List (List Byte) := Machine.chunks 64 (le x.head 6 2) (x.head.drop 256)

/-- Measurement 2: the DIGEST of the running slot's Maltster firmware part (R474). -/
def State.measurement (s : State) : List Byte :=
  match (s.slot s.upd.running).parts.find? (fun b => le b 0 1 == 1) with
  | some b => bytesAt b 16 48
  | none => zeros 48

/-- Measurement 4: the SHA-384 of the running slot's part table (R474). -/
def State.tableMeasurement (s : State) : List Byte :=
  let x := s.slot s.upd.running
  Config.sha384 (bytesAt x.head 256 (64 * le x.head 6 2))

/-- The CDI (Table TK-1): from the UDS, the measurement, SVN, lifecycle fuses (PRODUCTION, 1, whenever firmware runs) and DEBUG. -/
def State.cdi (s : State) : List Byte :=
  Config.hmac Config.uds (Config.sha384 (s.measurement ++ putLe 4 s.hif.svn ++ [1] ++ putLe 1 (b2n s.sec.debug)))

/-! ### Staging -/

def noFailTbl (n : Nat) : List Byte := putLe 4 n ++ putLe 4 0xFFFFFFFF

/-- TBL.STAGE (R191, R202, R210, R216, R423, R424). -/
def bodyTblStage : Body := fun vi e s =>
  let n := e.p 24 4
  let (recs, len) := splitRecs n e.buf
  let l := s.stagingOf vi
  if !s.hasPartition vi then notPermitted vi s
  else if n = 0 ∨ len ≠ e.dataLen then badLen vi s
  else
    match stageAll vi s 0 l recs with
    | (_, some (i, st, dt)) => .err (if st = St.eDenied then count Cn.hifCmdErr vi 1 s else s) st dt (putLe 4 l.length ++ putLe 4 i)
    | (l', none) =>
      .ok (capacityWarn { s with tbl := { s.tbl with staging := mset s.tbl.staging vi l' } }) (noFailTbl l'.length)

/-- TBL.ABORT (R195). -/
def bodyTblAbort : Body := fun vi _ s =>
  if !s.hasPartition vi then notPermitted vi s
  else .ok (capacityWarn { s with tbl := { s.tbl with staging := mdel s.tbl.staging vi } })

/-- E_EPOCH_FULL with TBL_EPOCH_WAIT (R198). -/
def epochFull (s : State) : Reply := .err (count Cn.tblEpochFull 0 1 s) St.eEpochFull Dt.tblEpochWait

/-- The part of a commit after its wait began, at `deadline`: it runs, waits on, or ends (R198, R200). -/
def commitOrWait (vi deadline : Nat) (wait : Bool) (s : State) : Reply :=
  if s.tbl.epochs.length < 4 then commitNow vi s
  else if wait ∧ ¬ s.due deadline then { st := s, wait := some (.epochSlot deadline, false) }
  else epochFull s

/-- TBL.COMMIT (R198–R200). -/
def bodyTblCommit : Body := fun vi e s =>
  if !s.hasPartition vi then notPermitted vi s
  else if s.stagingOf vi = [] then .err s St.eState Dt.tblNothingStaged
  else commitOrWait vi (s.mono + Config.ms s.tbl.cfg.commitWait) (!bit (e.p 24 1) 0) s

/-! ### Reading -/

/-- An encapsulation as a record, CURRENT as the epoch has it (assumption log entry 36). -/
def encRec (t : Tables) (key : Nat) (x : EncVer) : TRec :=
  let h := key / 2 ^ 16
  let v := key % 2 ^ 16
  .encap h v (x.flags / 2 * 2 + b2n (mget t.current h == some v)) x.destSp x.record

/-- The entries of a table code that a set of tables holds. -/
def tableEntries (encaps : AMap EncVer) (t : Tables) : Nat → List TRec
  | 1 => t.lpm.filter (fun r => r.table == 1)
  | 2 => t.lpm.filter (fun r => r.table == 2)
  | 3 => t.exact
  | 4 => (sortUp t.present).filterMap (fun k => (mget encaps k).map (encRec t k))
  | 5 => t.groups.map (fun g => .group g.1 g.2)
  | 6 => mvals t.ports
  | 7 => mvals t.programs
  | 8 => mvals t.classmaps
  | _ => []

/-- TBL.READ (R194). -/
def bodyTblRead : Body := fun vi e s =>
  let b := fit 96 e.buf
  let staging := bit (e.p 26 1) 0
  let r := parseTRec (patch b 1 [1])
  let ops := s.stagingOf vi
  let view : Option (Tables × AMap EncVer) :=
    if staging then some (s.newestTables.applyAll ops, commitEncaps s.mono ops s.tbl.encaps)
    else (s.epoch? (e.p 24 2)).map (fun ep => (ep.tables, s.tbl.encaps))
  let code := le b 0 1
  if code = 0 ∨ 8 < code then .err s St.eArg Dt.tblBadRecord
  else if recReserved (patch b 1 [2]) then badReserved s
  else if vi ≠ 0 ∧ !(s.inst vi).grant.mayRec vi false
      (match r with | .group g _ => .group g [] | r => r) then notPermitted vi s
  else match view with
    | none => .err s St.eState Dt.tblEpochGone
    | some (t, encs) =>
      match (tableEntries encs t code).find? (fun x => x.same r) with
      | none => .read s [0] []
      | some x => if e.dataLen < x.bytes.length then badLen vi s else .read s [1] x.bytes

/-- TBL.PIN (R197, Table PL-6). -/
def bodyTblPin : Body := fun vi e s =>
  let n := e.p 24 2
  let op := e.p 26 1
  let set (f : Epoch → Epoch) : State :=
    { s with tbl := { s.tbl with epochs := s.tbl.epochs.map (fun x => if x.num = n then f x else x) } }
  if !s.hasPartition vi then notPermitted vi s
  else if op = 0 ∨ 2 < op then .err s St.eArg Dt.hifNone
  else match s.epoch? n with
    | none => .err s St.eState Dt.tblEpochGone
    | some x =>
      if op = 2 then .ok (set (fun x => { x with pin := false, st := if x.st = .pinned then .draining else x.st }))
      else if x.pin then .ok s
      else if 3 ≤ (s.tbl.epochs.filter Epoch.pin).length then .err s St.eNospace Dt.tblPinLimit
      else .ok (set (fun x => { x with pin := true, st := if x.st = .draining then .pinned else x.st }))

/-- A word-wise sum modulo 2^16. -/
def addWords (a b : List Nat) : List Nat := (List.range 1024).map (fun i => (a.getD i 0 + b.getD i 0) % 65536)

/-- The table digest of a set of entries (R452). -/
def digestOf (l : List TRec) : List Byte :=
  let v := l.foldl (fun v r => addWords v (Config.shakeWords (putLe 1 r.table ++ r.bytes))) []
  fit 48 (Config.sha384 ((List.range 1024).flatMap (fun i => putLe 2 (v.getD i 0))))

/-- TBL.DIGEST (R208, R453, Table TK-4). Assumption log entry 121. -/
def bodyTblDigest : Body := fun vi e s =>
  let mask := e.p 26 2
  match s.epoch? (e.p 24 2) with
  | none => .err s St.eState Dt.tblEpochGone
  | some ep =>
    if e.dataLen < 664 then badLen vi s
    else
      let part (n : Nat) : List Byte :=
        if bit mask n then
          let l := (tableEntries s.tbl.encaps ep.tables n).filter (fun r => vi == 0 || (s.inst vi).grant.mayRec vi false r)
          putLe 4 l.length ++ zeros 4 ++ digestOf l
        else zeros 56
      let head := putLe 2 1 ++ putLe 2 ep.num ++ putLe 2 mask ++ putLe 2 s.dev.cfg.sun ++ fit 16 Config.serial ++ bytesAt e.raw 32 32
        ++ putLe 8 s.timeNs ++ putLe 4 s.hif.svn ++ putLe 1 (if vi = 0 then 0xFF else vi) ++ zeros 3 ++ s.measurement
        ++ (upFrom 1 8).flatMap part
      .read s [] (head ++ fit 96 (Config.aliasSign s.cdi head))

/-- TBL.STATUS (Table PL-10). -/
def bodyTblStatus : Body := fun vi _ s =>
  let ep (i : Nat) : List Byte := match s.tbl.epochs[i]? with
    | none => putLe 2 0 ++ [0xFF, 0]
    | some x =>
      let st := match x.st with | .current => 0 | .draining => 1 | .pinned => 2
      putLe 2 x.num ++ putLe 1 st ++ putLe 1 (flag x.pin 0)
  let u := s.usage s.tbl.staging
  .read s [] (putLe 2 ((s.newest.map Epoch.num).getD 0) ++ putLe 1 s.tbl.epochs.length ++ [0]
    ++ (List.range 4).flatMap ep ++ zeros 4
    ++ (List.range 8).flatMap (fun i => putLe 4 (u.getD i 0) ++ putLe 4 (tblCapacity.getD i 0))
    ++ putLe 4 (s.stagingOf vi).length ++ zeros 36)

/-! ### Settings -/

/-- The largest MAX_SOJOURN of the eight classes, in µs (R207, R283). -/
def State.maxSojourn (s : State) : Nat :=
  (List.range 8).foldl (fun m c => max m (mgetD s.adm.cfg.classes c (50000, 25000)).1) 0

def orDefault (n d : Nat) : Nat := if n = 0 then d else n

/-- Every cache entry that a test names is marked FLUSHED. -/
def flushCache (f : CEntry → Bool) (s : State) : State :=
  { s with mash := { s.mash with cache := s.mash.cache.map (fun e => if f e.2 then (e.1, { e.2 with flushed := true }) else e) } }

/-- TBL.CONFIG (R207, R238). -/
def bodyTblConfig : Body := fun _ e s =>
  let w := orDefault (e.p 24 2) 1
  let h := orDefault (e.p 26 2) 100
  let p := orDefault (e.p 28 1) 90
  let seed : Word := BitVec.ofNat 32 (e.p 32 4)
  if 100 < w ∨ 10000 < h ∨ p < 50 ∨ 100 < p then .err s St.eArg Dt.hifNone
  else if h * 1000 < s.maxSojourn + 2000 then .err s St.eArg Dt.tblHoldOrder
  else
    let s' := { s with tbl := { s.tbl with cfg := { s.tbl.cfg with commitWait := w, encapHold := h, warn := p, hashSeed := seed } } }
    storing s (.ok (capacityWarn (if seed = s.tbl.cfg.hashSeed then s' else flushCache (fun _ => true) s')))

/-- TBL.RA_CONFIG (R241, R242). -/
def bodyTblRaConfig : Body := fun _ e s =>
  let p := e.p 24 1
  let f := e.p 25 1
  let c := orDefault (e.p 27 1) 1
  if 127 < p ∧ p ≠ 0xFF then .err s St.eArg Dt.tblRaPort
  else if 3 < c then .err s St.eArg Dt.hifNone
  else
    let v : Bool × Bool × Nat × Nat := (bit f 0, bit f 1, e.p 26 1, c)
    let ra := (if p = 0xFF then List.range 128 else [p]).foldl (fun m p => mset m p v) s.tbl.cfg.ra
    storing s (.ok { s with tbl := { s.tbl with cfg := { s.tbl.cfg with ra := ra } } })

/-- TBL.RA_FLUSH (R242). -/
def bodyTblRaFlush : Body := fun _ e s =>
  let p := e.p 24 1
  let hit (c : CEntry) : Bool := !c.flushed && (p == 0xFF || c.inPort == p)
  if 127 < p ∧ p ≠ 0xFF then .err s St.eArg Dt.tblRaPort
  else .ok (flushCache hit s) (putLe 4 ((mvals s.mash.cache).filter hit).length)

def execTblStage (vi : Nat) (io : HostIo) (s : State) : Host.Outcome State Fault Refusal :=
  .next (runCommand 0x0601 vi io bodyTblStage s)
def execTblCommit (vi : Nat) (io : HostIo) (s : State) : Host.Outcome State Fault Refusal :=
  .next (runCommand 0x0602 vi io bodyTblCommit s)
def execTblAbort (vi : Nat) (io : HostIo) (s : State) : Host.Outcome State Fault Refusal :=
  .next (runCommand 0x0603 vi io bodyTblAbort s)
def execTblRead (vi : Nat) (io : HostIo) (s : State) : Host.Outcome State Fault Refusal :=
  .next (runCommand 0x0604 vi io bodyTblRead s)
def execTblPin (vi : Nat) (io : HostIo) (s : State) : Host.Outcome State Fault Refusal :=
  .next (runCommand 0x0605 vi io bodyTblPin s)
def execTblDigest (vi : Nat) (io : HostIo) (s : State) : Host.Outcome State Fault Refusal :=
  .next (runCommand 0x0606 vi io bodyTblDigest s)
def execTblStatus (vi : Nat) (io : HostIo) (s : State) : Host.Outcome State Fault Refusal :=
  .next (runCommand 0x0607 vi io bodyTblStatus s)
def execTblConfig (vi : Nat) (io : HostIo) (s : State) : Host.Outcome State Fault Refusal :=
  .next (runCommand 0x0608 vi io bodyTblConfig s)
def execTblRaConfig (vi : Nat) (io : HostIo) (s : State) : Host.Outcome State Fault Refusal :=
  .next (runCommand 0x0609 vi io bodyTblRaConfig s)
def execTblRaFlush (vi : Nat) (io : HostIo) (s : State) : Host.Outcome State Fault Refusal :=
  .next (runCommand 0x060A vi io bodyTblRaFlush s)

/-! ### Waits and retirement -/

/-- COMMIT_WAIT ends with four epochs live (R198): the commit completes, or, while another command executes or resumes first, at the next
command boundary (R67). -/
def execCommitWaitExpiry (vi : Nat) (s : State) : Host.Outcome State Fault Refusal :=
  .next (match s.hif.parked.find? (fun p => p.vi == vi && (match p.wait with | .epochSlot _ => true | _ => false)) with
    | none => s
    | some p =>
      let dl := match p.wait with | .epochSlot d => d | _ => 0
      when (s.due dl && decide (4 ≤ s.tbl.epochs.length) && s.accepting) s
        (if s.blocked || s.resumable then
          { s with hif := { s.hif with parked := s.hif.parked.map (fun q => if q.vi = vi then { q with wait := .epochFull, ready := true } else q) } }
         else
          let s := { s with hif := { s.hif with parked := s.hif.parked.filter (fun q => q.vi != vi) } }
          (finish vi p.entry p.writeOk (epochFull s)).settled))

/-- R196, Table PL-6. -/
def execEpochRetire (epoch : Nat) (s : State) : Host.Outcome State Fault Refusal :=
  .next (match s.epoch? epoch with
    | none => s
    | some e => when (s.mayRetire e) s
        (wake (fun w => match w with | .epochSlot _ => true | _ => false) (capacityWarn (retireEpoch epoch s))))

/-- R205. -/
def execEncapVersionRetire (handle version : Nat) (s : State) : Host.Outcome State Fault Refusal :=
  .next (match mget s.tbl.encaps (encKey handle version) with
    | none => s
    | some x => when (s.versionDone handle version x) s
        (capacityWarn { s with tbl := { s.tbl with encaps := mdel s.tbl.encaps (encKey handle version) } }))

end Sys2Proof.Machine
end

