-- ==== Sys2Proof/Machine/Adm.lean ====
section
/-! DEFINITION. ADM family: the ADM commands (Tables AB-3 to AB-6), sojourn (R283), HBM migration and prefetch (R290, R291) and the
faults of Cask and buffer HBM (R299–R304). -/
namespace Sys2Proof.Machine

def admRange (s : State) : Reply := .err s St.eArg Dt.admRange
def State.modAdmCfg (s : State) (f : AdmCfg → AdmCfg) : State := s.modAdm (fun a => { a with cfg := f a.cfg })

/-! ### Commands -/

/-- A profile object (Table AB-5). -/
def parseProfile (b : List Byte) : Profile :=
  { flags := le b 0 1, weight := le b 1 1, alpha := sx 8 (le b 2 1), maxG := le b 4 4, maxY := le b 8 4, maxR := le b 12 4,
    minWG := le b 16 4, maxWG := le b 20 4, minWY := le b 24 4, maxWY := le b 28 4, minWR := le b 32 4, maxWR := le b 36 4,
    pG := le b 40 1, pY := le b 41 1, pR := le b 42 1, hbmEnter := le b 44 4, hbmExit := le b 48 4 }

/-- R280, R307: the ranges and orders of a profile. -/
def Profile.ok (p : Profile) : Bool :=
  decide (p.weight ≤ 15 ∧ -6 ≤ p.alpha ∧ p.alpha ≤ 3 ∧ p.maxR ≤ p.maxY ∧ p.maxY ≤ p.maxG ∧ p.pG ≤ 100 ∧ p.pY ≤ 100 ∧ p.pR ≤ 100
      ∧ p.hbmExit < p.hbmEnter)
    && (!bit p.flags 0 || decide (p.minWG < p.maxWG ∧ p.maxWG ≤ p.maxG ∧ p.minWY < p.maxWY ∧ p.maxWY ≤ p.maxY ∧ p.minWR < p.maxWR
      ∧ p.maxWR ≤ p.maxR))

/-- ADM.PROFILE (R279, R307). -/
def bodyAdmProfile : Body := fun vi e s =>
  let n := e.p 24 1
  let op := e.p 25 1
  let b := e.buf
  if op = 1 then
    if e.dataLen ≠ 64 then badLen vi s
    else if decide (8 ≤ le b 0 1 ∨ le b 3 1 ≠ 0 ∨ le b 43 1 ≠ 0) || (bytesAt b 52 12).any (fun x => x != 0) then badReserved s
    else
      let p := parseProfile b
      if !p.ok then admRange s
      else storing s (.ok (s.modAdmCfg (fun c => { c with profiles := mset c.profiles n p })))
  else if op = 2 then
    if e.dataLen ≠ 0 then badLen vi s
    else if n = 0 then .err s St.eState Dt.admProfileInUse
    else if !mhas s.adm.cfg.profiles n then .err s St.eArg Dt.admProfileAbsent
    else if s.adm.cfg.binds.any (fun x => x.2 == n) then .err s St.eState Dt.admProfileInUse
    else storing s (.ok (s.modAdmCfg (fun c => { c with profiles := mdel c.profiles n })))
  else admRange s

/-- ADM.BIND (R279). -/
def bodyAdmBind : Body := fun _ e s =>
  let first := e.p 24 4
  let n := e.p 28 4
  let p := e.p 32 1
  if n = 0 ∨ 262144 < first + n then admRange s
  else if !mhas s.adm.cfg.profiles p then .err s St.eArg Dt.admProfileAbsent
  else
    let b := s.adm.cfg.binds
    let mid := if p = 0 then [] else (upFrom first n).map (fun v => (v, p))
    let new := b.filter (fun x => decide (x.1 < first)) ++ mid ++ b.filter (fun x => decide (first + n ≤ x.1))
    storing s (.ok (s.modAdmCfg (fun c => { c with binds := new })))

/-- ADM.CLASS (R283, R307). -/
def bodyAdmClass : Body := fun _ e s =>
  let tc := e.p 24 1
  let m := orDefault (e.p 28 4) 50000
  let a := orDefault (e.p 32 4) (m / 2)
  if 7 < tc ∨ m < 100 ∨ 5000000 < m ∨ m < a then admRange s
  else if s.tbl.cfg.encapHold * 1000 < m + 2000 then .err s St.eArg Dt.admSojournHold
  else storing s (.ok (s.modAdmCfg (fun c => { c with classes := mset c.classes tc (m, a) })))

/-- ADM.POOL (R284): sizes from the next cold start, thresholds at once. -/
def bodyAdmPool : Body := fun _ e s =>
  let r := orDefault (e.p 24 1) 20
  let g := orDefault (e.p 25 1) 32
  let p := orDefault (e.p 26 1) 4
  let m := orDefault (e.p 27 1) 4
  let h := orDefault (e.p 28 1) 4
  if r < 16 ∨ 32 < r ∨ g < 16 ∨ 64 < g ∨ p < 2 ∨ 16 < p ∨ 64 < m ∨ 16 < h then admRange s
  else
    let s' := s.modAdmCfg (fun c => { c with retention := r, egress := g, punt := p, xoffMargin := m, xonHyst := h })
    storing s (.ok (poolUpkeep s') (putLe 1 (192 - r - g - 8 - p) ++ zeros 3 ++ putLe 4 s.reserve))

/-- ADM.PFC (R294, R307). -/
def bodyAdmPfc : Body := fun _ e s =>
  let p := e.p 24 1
  let f : PfcCfg := { enable := e.p 25 1, cable := orDefault (e.p 26 2) 100, response := orDefault (e.p 28 2) 1000,
                      quanta := orDefault (e.p 30 2) 65535, xoff := e.p 32 4, hyst := e.p 36 4 }
  if 127 < p then admRange s
  else match s.pcfg p with
    | none => .err s St.eState Dt.admNoPort
    | some c =>
      if c.type = 2 then .err s St.eUnsupported Dt.admNotEth
      else if 2000 < f.cable ∨ 10000 < f.response ∨ (f.xoff ≠ 0 ∧ f.xoff ≤ f.hyst) then admRange s
      else
        let pfc := if f.enable = 0 then mdel s.adm.cfg.pfc p else mset s.adm.cfg.pfc p f
        let r := s.reserveFor pfc
        if s.reserve < r ∧ s.poolCells < 2 * r then .err s St.eNospace Dt.admHeadroom
        else
          let h := if f.enable = 0 then 0 else headroomCells c f * 256
          storing s (.ok (poolUpkeep (s.modAdmCfg (fun c => { c with pfc := pfc }))) (putLe 4 h ++ putLe 4 r))

/-- ADM.QUEUE_STATUS (Table AB-4). -/
def bodyAdmQueueStatus : Body := fun vi e s =>
  let n := e.p 24 4
  if 262144 ≤ n then admRange s
  else if vi ≠ 0 ∧ !inRange (s.inst vi).grant.sp (n / 8) then notPermitted vi s
  else
    let v := s.voq n
    let head := v.q.head?
    let age := match head.bind VPkt.acceptedAt with | some t => ((head.bind VPkt.grantedAt).getD s.mono - t) / 10000 | none => 0
    let fl := flag (s.inHbmMode n) 0 + flag ((head.bind VPkt.trub).isSome) 1 + flag (head.any (fun k => k.loc == .prefetch)) 2
    .read s [] (putLe 8 (s.voqBytes n) ++ putLe 8 (v.inLoc .hbm) ++ putLe 4 v.q.length ++ putLe 4 (sat 32 age) ++ putLe 8 (v.avg / 65536)
      ++ putLe 1 (mgetD s.adm.cfg.binds n 0) ++ putLe 1 fl ++ zeros 2 ++ putLe 4 ((head.map VPkt.charge).getD 0) ++ putLe 8 v.refused)

/-- ADM.STATUS (Table AB-4). -/
def bodyAdmStatus : Body := fun _ _ s =>
  let k := s.bufStacks
  .read s [] (putLe 4 s.poolCells ++ putLe 4 s.poolFree ++ putLe 4 s.reserve ++ putLe 1 s.adm.retention ++ putLe 1 s.adm.egress
    ++ putLe 1 8 ++ putLe 1 s.puntMib ++ putLe 4 s.egressUsed ++ putLe 4 s.retUsed ++ putLe 8 s.hbmUsed ++ putLe 8 s.hbmCapacity
    ++ putLe 2 (k.length * 4000) ++ putLe 2 (k.length * 4000) ++ putLe 1 (maskOf (k.map (fun b => b - 2)))
    ++ putLe 1 (b2n s.adm.poolXoff) ++ putLe 2 s.adm.pcFailed.length ++ zeros 16)

def execAdmProfile (vi : Nat) (io : HostIo) (s : State) : Host.Outcome State Fault Refusal :=
  .next (runCommand 0x0801 vi io bodyAdmProfile s)
def execAdmBind (vi : Nat) (io : HostIo) (s : State) : Host.Outcome State Fault Refusal :=
  .next (runCommand 0x0802 vi io bodyAdmBind s)
def execAdmClass (vi : Nat) (io : HostIo) (s : State) : Host.Outcome State Fault Refusal :=
  .next (runCommand 0x0803 vi io bodyAdmClass s)
def execAdmPool (vi : Nat) (io : HostIo) (s : State) : Host.Outcome State Fault Refusal :=
  .next (runCommand 0x0804 vi io bodyAdmPool s)
def execAdmPfc (vi : Nat) (io : HostIo) (s : State) : Host.Outcome State Fault Refusal :=
  .next (runCommand 0x0805 vi io bodyAdmPfc s)
def execAdmQueueStatus (vi : Nat) (io : HostIo) (s : State) : Host.Outcome State Fault Refusal :=
  .next (runCommand 0x0806 vi io bodyAdmQueueStatus s)
def execAdmStatus (vi : Nat) (io : HostIo) (s : State) : Host.Outcome State Fault Refusal :=
  .next (runCommand 0x0807 vi io bodyAdmStatus s)

/-! ### Sojourn, migration, prefetch -/

/-- The age sweep visits the head of a VOQ (R283). -/
def execSojournSweep (voq : Nat) (s : State) : Host.Outcome State Fault Refusal :=
  .next (when (!(s.voq voq).q.isEmpty) s (poolUpkeep (expireHeads ((s.voq voq).q.length + 1) voq s)))

/-- Packets with the VOQ bytes ahead of each. -/
def withOffsets : Nat → List VPkt → List (Nat × VPkt)
  | _, [] => []
  | n, k :: t => (n, k) :: withOffsets (n + k.left) t

/-- R290: an accepted packet more than 64 KiB behind the head moves to HBM. -/
def execHbmMigration (voq : Nat) (s : State) : Host.Outcome State Fault Refusal :=
  .next (when (s.inHbmMode voq) s
    (match (withOffsets 0 (s.voq voq).q).find? (fun x => decide (65536 < x.1) && x.2.loc == .cask && x.2.acceptedAt.isSome && x.2.sent == 0) with
    | none => s
    | some (_, k) =>
      let s := refillTokensHbm s
      match s.stacksFor voq k.charge with
      | none => s
      | some l =>
        if s.adm.writeTokens < k.charge then s
        else
          let k' := { k with loc := .hbm, parts := s.newParts l, hbmAt := s.mono, headNo := none }
          let s := ((s.modAdm (fun a => { a with writeTokens := a.writeTokens - k.charge })).setVpkt voq k').drawn
          poolUpkeep (count Cn.admMigrated 0 k.charge (writeInjections k' s))))

/-- A row whose sectors needed correction in `n` reads now (R303): retired at the second within 1 s, up to 4,096 in a stack. -/
def rowCorrected (stack pc row n : Nat) (s : State) : State :=
  let key := (stack * 32 + pc) * 2 ^ 32 + row % 2 ^ 32
  let again := decide (2 ≤ n) || (match mget s.adm.rowSeen key with | some t => decide (s.mono < t + Config.sec 1) | none => false)
  if key ∈ s.adm.rowsRetired then s
  else if again && decide (s.retiredIn stack < 4096) then
    bump (winEvent 6 5) (stack * 32 + pc) 1 (count Cn.admHbmRowRetired stack 1 (s.modAdm (fun a =>
      { a with rowsRetired := a.rowsRetired ++ [key], rowSeen := mdel a.rowSeen key })))
  else s.modAdm (fun a => { a with rowSeen := mset (a.rowSeen.filter (fun e => decide (s.mono < e.2 + Config.sec 1))) key s.mono })

/-- The stripes of a packet that are read by rebuild: those with a data sector on a failed pseudo-channel (R301). -/
def State.rebuilds (s : State) (k : VPkt) : List (Nat × Nat) :=
  k.parts.flatMap (fun p => p.stripes.flatMap (fun l =>
    ((l.take 8).filter (fun c => decide (p.stack * 32 + c ∈ s.adm.pcFailed))).map (fun c => (p.stack, c))))

/-- A packet's stripes are read: rebuilds of failed pseudo-channels count, and the codes are checked (R300, R303); what they report is a
free value. -/
def hbmRead (k : VPkt) (s : State) : State :=
  let s := countSectors 3 k s
  let s := foldS (s.rebuilds k) s (fun x s => bump (winEvent 6 2) (x.1 * 32 + x.2) 1 (count Cn.admHbmRebuild x.1 1 s))
  let (ce, ue, where_, row) := Config.sectorErrors s.draw
  let s := s.drawn
  match k.parts[where_ % max 1 k.parts.length]? with
  | none => s
  | some p =>
    let pc := (p.stripe (where_ / 4)).getD (where_ / 4 % 8) 0
    let s := if ce = 0 then s else
      rowCorrected p.stack pc row ce (bump (winEvent 6 1) (p.stack * 32 + pc) ce (count Cn.admHbmCe p.stack ce s))
    sectorsBad p.stack pc ue false s

/-- R291: an HBM-resident packet within 32 KiB of a credited head is read into the prefetch region of 8 MiB. -/
def execHbmPrefetch (voq : Nat) (s : State) : Host.Outcome State Fault Refusal :=
  .next (when (decide ((s.voq voq).credits ≠ 0)) s
    (match (withOffsets 0 (s.voq voq).q).find? (fun x => decide (x.1 ≤ 32768) && x.2.loc == .hbm) with
    | none => s
    | some (_, k) =>
      let s := refillTokensHbm s
      if s.adm.readTokens < k.charge ∨ 32768 < s.prefetchUsed + ceilDiv k.charge 256 then s
      else
        let s := hbmRead k (s.modAdm (fun a => { a with readTokens := a.readTokens - k.charge }))
        poolUpkeep (s.setVpkt voq { k with loc := .prefetch, parts := [] })))

/-! ### Faults -/

/-- An accepted packet taken out of its VOQ, out of Trub, the punt region or the numbering stage, by a memory error. -/
def loseQueued (id : Nat) (s : State) : Bool × State :=
  match s.voqWith id with
  | some (v, k) => (true, dropBad k (s.pullVpkt v id))
  | none =>
    match s.mash.trub.findSome? (fun t => t.2.held.filter (fun k => k.pkt.id == id)) with
    | some k => (true, dropBad k s)
    | none =>
      if s.allInsts.any (fun vi => (s.inst vi).punts.any (fun c => c.pkt.id == id)) then
        (true, foldS s.allInsts s (fun vi s => s.modInst vi (fun i => { i with punts := i.punts.filter (fun c => decide (c.pkt.id ≠ id)) })))
      else match s.stagePkts.find? (fun k => k.1.id == id) with
        | none => (false, s)
        | some (k, r) =>
          let none_ (i : BridgeItem) : BridgeItem := match i with | .result x _ => if x.id = id then .none_ (k.arrival.getD 0) else i | _ => i
          (true, releaseRef r.handle r.version (s.modPpair k.inPort (fun x => { x with held := x.held.map none_ })))

/-- The name of a cell at Racking or of a packet in an egress queue: its stream and number (assumption log entry 146). -/
def egressName (stream seq : Nat) : Nat := 2 ^ 64 + stream * 2 ^ 24 + seq

/-- A cell at Racking or a packet in the egress path is lost to a memory error (R44). -/
def loseEgress (stream seq : Nat) (s : State) : Bool × State :=
  let t := s.stream stream
  match mget t.nums seq with
  | some { cell := some _, .. } =>
    let s := s.modStream stream (fun t => { t with nums := mmod t.nums seq {} (fun n => { n with st := .void_, cell := none }) })
    (true, runStream stream t.blocked s)
  | _ =>
    let mine (k : EPkt) : Bool := k.stream == stream && k.seq == seq
    let l := (s.sch.queues.flatMap (fun q => q.2)) ++ s.sch.eports.flatMap (fun e =>
      e.2.tx.map (fun k => k.2) ++ e.2.limbo ++ e.2.lateSlot.map (fun k => k.2.2))
    match l.find? mine with
    | none => (false, s)
    | some k => (true, releaseRef k.handle k.version (mapEgress (fun x => if mine x then none else some x) s))

/-- The packets lost to an uncorrectable error of Cask in what a name stands for: how many (R44, R299). -/
def loseStored (id : Nat) (s : State) : Nat × State :=
  if 2 ^ 64 ≤ id then
    let (b, s) := loseEgress ((id - 2 ^ 64) / 2 ^ 24) ((id - 2 ^ 64) % 2 ^ 24) s
    (b2n b, s)
  else if s.fab.retention.any (fun c => c.pkts.any (fun p => p.1 == id)) then
    let ids := s.lostWith (s.fab.retention.length + 1) [id]
    (ids.length, dropSent ids (s.cellsOf ids) s)
  else
    let (b, s) := loseQueued id s
    (b2n b, s)

/-- A scrub pass of Cask (R299): corrected errors, and packets with an uncorrectable one. -/
def execCaskScrub (corrected : Nat) (bad : List Nat) (s : State) : Host.Outcome State Fault Refusal :=
  .next (
    let s := if corrected = 0 then s else count Cn.admCaskCe 0 corrected s
    poolUpkeep (foldS bad s (fun id s =>
      let s := count Cn.admCaskUe 0 1 (fault 13 1 0 s)
      let (n, s) := loseStored id s
      discardUnder 13 1 n s)))

def execHbmPcFail (stack pc cause : Nat) (s : State) : Host.Outcome State Fault Refusal :=
  .next (when (decide (stack ∈ s.bufStacks ∧ pc < 32 ∧ stack * 32 + pc ∉ s.adm.pcFailed)) s (pcFail stack pc cause s))

/-- No stripe is left that uses the pseudo-channel. -/
def State.pcDrained (s : State) (stack pc : Nat) : Bool := s.storedStripes stack pc == 0

/-- Step 5 of R301. -/
def execHbmPcClear (stack pc : Nat) (s : State) : Host.Outcome State Fault Refusal :=
  .next (match mget s.adm.pcOpen (stack * 32 + pc) with
    | none => s
    | some _ => when (s.pcDrained stack pc) s
        (endWindow 6 (stack * 32 + pc) (notify Ev.admHbmPcClear (putLe 1 stack ++ putLe 1 pc) []
          (s.modAdm (fun a => { a with pcOpen := mdel a.pcOpen (stack * 32 + pc) })))))

def execHbmStackFail (stack : Nat) (s : State) : Host.Outcome State Fault Refusal :=
  .next (when (decide (stack ∈ s.bufStacks)) s (stackFail stack s))

end Sys2Proof.Machine
end

