-- ==== Sys2Proof/Machine/Asa.lean ====
section
/-! DEFINITION. ASA family: the ASA commands (Tables AS-4 to AS-6), scrub, bank faults (R257–R259), hole restoration (R260) and throttling
(R265). -/
namespace Sys2Proof.Machine

/-- An instance's grant covers a region (Table VI-2). -/
def State.mayRegion (s : State) (vi r : Nat) : Bool := vi == 0 || decide (r ∈ (s.inst vi).grant.regions)

/-! ### ASA.REGION -/

def parseBlocks (n : Nat) (b : List Byte) : List (Nat × Nat) := (chunks 2 n b).map (fun x => (le x 0 1, le x 1 1))

/-- Why named blocks cannot join a region; after a bank's relocation into the reserve none can until the host has freed as many (R259). -/
def blockRefusal (l : List (Nat × Nat)) (s : State) : Option (Nat × Nat) :=
  if l.any (fun b => decide (7 < b.1 ∨ 15 < b.2)) then some (St.eArg, Dt.hifNone)
  else if l.any (fun b => b.1 == 0 && (s.dev.phase == .cellar || s.dev.bank0Wait)) then some (St.eState, Dt.hifCellar)
  else if l.any (fun b => s.blockUsed b || !s.bankUsable b.1) || l.eraseDups.length != l.length then some (St.eState, Dt.asaBlockTaken)
  else if 0 < s.asa.short ∨ s.freeBlocks.length < l.length + 16 then some (St.eNospace, Dt.asaReserve)
  else none

/-- Blocks the host has freed repay what relocations took (R259). Assumption log entry 154. -/
def repay (n : Nat) (s : State) : State := { s with asa := { s.asa with short := s.asa.short - n } }

/-- ASA.REGION (R243, R245, R246, R260, R270, R271). -/
def bodyAsaRegion : Body := fun vi e s =>
  let r := e.p 24 1
  let op := e.p 25 1
  let n := e.p 30 2
  let blocks := parseBlocks n e.buf
  let hole := if e.p 29 1 = 0 then 16 else e.p 29 1
  let finish (x : Region) (moves : Nat) (s : State) : Reply :=
    .ok (asaPower (count Cn.asaMoves 0 moves (s.setRegion r x))) (putLe 4 x.capacity)
  if !s.mayRegion vi r || (vi != 0 && (op == 1 || op == 2)) then notPermitted vi s
  else if 63 < r ∨ op = 0 ∨ 4 < op then .err s St.eArg Dt.hifNone
  else if (op = 1 ∨ op = 3) ∧ e.dataLen ≠ 2 * n then badLen vi s
  else if op = 1 then
    if mhas s.asa.regions r then .err s St.eState Dt.asaRegionExists
    else if (e.p 26 1 ≠ 1 ∧ e.p 26 1 ≠ 2 ∧ e.p 26 1 ≠ 4) ∨ 1 < e.p 27 1 ∨ hole ∉ [8, 16, 32, 64, 0xFF] then .err s St.eArg Dt.hifNone
    else match blockRefusal blocks s with
      | some (st, dt) => .err s st dt
      | none => finish { width := e.p 26 1, egress := e.p 27 1 == 1, prio := bit (e.p 28 1) 0, hole := hole, blocks := blocks } 0 s
  else match s.region? r with
    | none => .err s St.eArg Dt.asaNoRegion
    | some x =>
      if op = 2 then
        if s.asa.profiles.any (fun p => p.2.1 == r) || !x.entries.isEmpty then .err s St.eState Dt.asaRegionInUse
        else .ok (asaPower (repay x.blocks.length { s with asa := { s.asa with regions := mdel s.asa.regions r } })) (putLe 4 0)
      else if op = 3 then
        match blockRefusal blocks s with
        | some (st, dt) => .err s st dt
        | none => finish { x with blocks := x.blocks ++ blocks } 0 s
      else if x.blocks.length < n then .err s St.eArg Dt.hifNone
      else
        let x' := { x with blocks := x.blocks.take (x.blocks.length - n) }
        match packInto x'.capacity x.entries with
        | none => .err s St.eNospace Dt.asaFull
        | some (m, moves) => finish { x' with entries := m } moves (repay n s)

/-! ### ASA.PROFILE -/

/-- A program of a live epoch names a profile. -/
def State.profileNamed (s : State) (n : Nat) : Bool :=
  s.tbl.epochs.any (fun e => (mvals e.tables.programs).any (fun r => match r with
    | .program _ _ _ st => st.any (fun b => le b 0 1 == 4 && le b 2 1 == n) | _ => false))
  || s.sch.cfg.ports.any (fun p => p.2.egProfile == some n)

/-- ASA.PROFILE (R248, R270, R271). -/
def bodyAsaProfile : Body := fun vi e s =>
  let n := e.p 24 1
  let op := e.p 25 1
  let r := e.p 26 1
  let f := e.p 27 1
  let other : Bool := match mget s.asa.profiles n with | some p => !s.mayRegion vi p.1 | none => false
  if vi != 0 && (decide (n ∉ (s.inst vi).grant.profiles) || (op == 1 && !s.mayRegion vi r) || (op == 2 && other)) then notPermitted vi s
  else if 63 < n ∨ op = 0 ∨ 2 < op then .err s St.eArg Dt.hifNone
  else if op = 2 then
    if !mhas s.asa.profiles n then .err s St.eArg Dt.hifNone
    else if s.profileNamed n then .err s St.eState Dt.asaProfileInUse
    else .ok { s with asa := { s.asa with profiles := mdel s.asa.profiles n } }
  else if 63 < r ∨ formatWidth f = 0 then .err s St.eArg Dt.hifNone
  else match s.region? r with
    | none => .err s St.eArg Dt.asaNoRegion
    | some x =>
      let m := mset s.asa.profiles n (r, f)
      if x.width ≠ formatWidth f ∨ x.egress ≠ formatEgress f then .err s St.eArg Dt.asaWidth
      else if !s.allPrograms.all (s.programFits m) then .err s St.eArg Dt.tblProgramBudget
      else .ok { s with asa := { s.asa with profiles := m } }

/-! ### ASA.WRITE -/

/-- What ASA.WRITE has done so far. -/
structure AsaRun where
  regions : AMap Region := []
  moves : Nat := 0
  overlaps : Nat := 0
  /-- Equal-priority warnings: region, new and first overlapping ENTRY_ID, PRIORITY. -/
  warns : List (Nat × Nat × Nat × Nat) := []
deriving DecidableEq, Repr

/-- The action suits the direction (R255). -/
def actionFits (egress : Bool) (a : BitVec 64) : Bool :=
  if egress then actKind a == 0 && !actFinal a && (actTc a).isNone && (actColour a).isNone else (actRemark a).isNone

/-- One record onto the regions, or its refusal (R252, R255, R263, R271). -/
def writeRec (b : List Byte) (a : AsaRun) : (Nat × Nat) ⊕ AsaRun :=
  let op := le b 0 1
  let r := le b 1 1
  let id := le b 4 4
  let act : BitVec 64 := BitVec.ofNat 64 (le b 16 8)
  match mget a.regions r with
  | none => .inl (St.eArg, Dt.asaNoRegion)
  | some x =>
    let w := x.width
    if op = 0 ∨ 3 < op ∨ le b 2 2 ≠ (if op = 1 then 24 + 40 * w else 24) ∨ id = 0xFFFFFFFF
        ∨ (le b 8 4 ≠ 0xFFFFFFFF ∧ (op ≠ 1 ∨ x.prio)) ∨ (le b 12 2 ≠ 0 ∧ (op ≠ 1 ∨ !x.prio)) then .inl (St.eArg, Dt.hifNone)
    else if le b 14 2 ≠ 0 ∨ bits act.toNat 46 32 ≠ 0 ∨ actKind act = 3 ∨ (op = 3 ∧ act ≠ 0)
        ∨ (actKind act = 2 ∧ nextReserved (actNext act)) then .inl (St.eArg, Dt.hifReservedNonzero)
    else if op ≠ 3 ∧ !actionFits x.egress act then .inl (St.eArg, Dt.asaActionDir)
    else if op ≠ 3 ∧ actKind act = 2 ∧ !nextOk (actNext act) then .inl (St.eArg, Dt.hifNone)
    else match op, x.raddrOf id with
      | 1, some _ => .inl (St.eArg, Dt.asaIdExists)
      | 1, none =>
        let e : AsaEntry := { id := id, prio := le b 12 2, action := act, key := bytesAt b 24 (20 * w), mask := bytesAt b (24 + 20 * w) (20 * w) }
        let before := le b 8 4
        let pos : Option Nat := if x.prio then (x.entries.find? (fun y => decide (e.prio < y.2.prio))).map (fun y => y.1) else x.raddrOf before
        if !x.prio ∧ before ≠ 0xFFFFFFFF ∧ pos.isNone then .inl (St.eArg, Dt.asaNoId)
        else match (match pos with | none => x.insertEnd e | some p => x.insertAt p e) with
          | none => .inl (St.eNospace, Dt.asaFull)
          | some (x', n) =>
            let ov := if x.prio then x.entries.filter (fun y => y.2.prio == e.prio && y.2.overlaps e) else []
            let warn := match ov with | [] => [] | y :: _ => [(r, id, y.2.id, e.prio)]
            .inr { regions := mset a.regions r x', moves := a.moves + n, overlaps := a.overlaps + ov.length, warns := a.warns ++ warn }
      | _, none => .inl (St.eArg, Dt.asaNoId)
      | 2, some p =>
        let x' := { x with entries := mmod x.entries p {} (fun y => { y with action := act }) }
        .inr { a with regions := mset a.regions r x' }
      | _, some p => .inr { a with regions := mset a.regions r { x with entries := mdel x.entries p } }

def writeRecs : Nat → AsaRun → List (List Byte) → AsaRun × Option (Nat × Nat × Nat)
  | _, a, [] => (a, none)
  | i, a, b :: t =>
    match writeRec b a with
    | .inl (st, dt) => (a, some (i, st, dt))
    | .inr a' => writeRecs (i + 1) a' t

/-- Records cut by their LENGTH, and the bytes they take. -/
def splitAsa : Nat → List Byte → List (List Byte) × Nat
  | 0, _ => ([], 0)
  | n + 1, b =>
    let len := le b 2 2
    let (t, k) := splitAsa n (b.drop len)
    (fit 184 (b.take len) :: t, k + len)

/-- The change as searches of paired-port packets see it only from an arrival number on (R387). -/
def holdOldRegions (s : State) : State :=
  foldS s.switchPorts s (fun p s =>
    { s with pair := { s.pair with ports := mmod s.pair.ports p {} (fun x => { x with asaHeld := x.asaHeld ++ [(noArrival, s.asa.regions)] }) } })

/-- ASA.WRITE (R251, R252, R262, R263). -/
def bodyAsaWrite : Body := fun vi e s =>
  let n := e.p 24 4
  let (recs, len) := splitAsa n e.buf
  if n = 0 ∨ len ≠ e.dataLen then badLen vi s
  else if recs.any (fun b => !s.mayRegion vi (le b 1 1)) then notPermitted vi s
  else match writeRecs 0 { regions := s.asa.regions } recs with
    | (_, some (i, st, dt)) => .err s st dt (putLe 4 0 ++ putLe 4 i)
    | (a, none) =>
      let s := holdOldRegions s
      let s := count Cn.asaMoves 0 a.moves { s with asa := { s.asa with regions := a.regions } }
      let s := foldS a.warns s (fun w s =>
        count Cn.asaEqPrioWarn 0 1 (notify Ev.asaEqualPriority (putLe 1 w.1 ++ zeros 3 ++ putLe 4 w.2.1 ++ putLe 4 w.2.2.1 ++ putLe 2 w.2.2.2) [] s))
      { st := s, detail := if a.warns = [] then Dt.hifNone else Dt.asaEqualPriority,
        result := putLe 4 n ++ putLe 4 0xFFFFFFFF ++ putLe 2 (sat 16 a.overlaps) ++ putLe 4 a.moves }

/-! ### Reading and settings -/

/-- ASA.READ (R256). -/
def bodyAsaRead : Body := fun vi e s =>
  let r := e.p 24 1
  if !s.mayRegion vi r then notPermitted vi s
  else if 1 < e.p 25 1 then .err s St.eArg Dt.hifNone
  else match s.region? r with
    | none => .err s St.eArg Dt.asaNoRegion
    | some x =>
      let at_ := if e.p 25 1 = 0 then x.raddrOf (e.p 28 4) else some (e.p 28 4)
      match at_.bind (fun p => (mget x.entries p).map (fun y => (p, y))) with
      | none => .read s [0] []
      | some (p, y) =>
        let loc := x.place p
        .read s [1] (putLe 1 1 ++ putLe 1 r ++ putLe 2 (24 + 40 * x.width) ++ putLe 4 y.id ++ putLe 4 0xFFFFFFFF ++ putLe 2 y.prio
          ++ zeros 2 ++ putLe 8 y.action.toNat ++ y.key ++ y.mask ++ putLe 8 y.hits ++ putLe 4 p
          ++ putLe 4 (loc.1 * 2 ^ 16 + loc.2.1 * 2 ^ 12 + loc.2.2))

def BankState.code : BankState → Nat | .off => 0 | .on => 1 | .reloading => 2 | .failed => 3 | .cellar => 4

/-- ASA.STATUS (Table AS-5). -/
def bodyAsaStatus : Body := fun _ _ s =>
  .read s [] (putLe 1 s.asa.level ++ putLe 1 s.poweredFree.length ++ (List.range 8).flatMap (fun b => putLe 1 (s.bank b).st.code)
    ++ zeros 6 ++ (List.range 64).flatMap (fun r => match s.region? r with
      | none => zeros 8
      | some x => putLe 4 x.entries.length ++ putLe 4 x.capacity))

/-- ASA.CONFIG (R264, R265). -/
def bodyAsaConfig : Body := fun _ e s =>
  let o := e.p 24 1
  let m := orDefault (e.p 25 1) 25
  let p := orDefault (e.p 26 2) 100
  if 20 < o ∨ m < 25 ∨ 75 < m ∨ p < 10 ∨ 1000 < p then .err s St.eArg Dt.hifNone
  else .ok { s with asa := { s.asa with offset := o, ingressMin := m, scrubPeriod := p } }

def execAsaRegion (vi : Nat) (io : HostIo) (s : State) : Host.Outcome State Fault Refusal :=
  .next (runCommand 0x0701 vi io bodyAsaRegion s)
def execAsaProfile (vi : Nat) (io : HostIo) (s : State) : Host.Outcome State Fault Refusal :=
  .next (runCommand 0x0702 vi io bodyAsaProfile s)
def execAsaWrite (vi : Nat) (io : HostIo) (s : State) : Host.Outcome State Fault Refusal :=
  .next (runCommand 0x0703 vi io bodyAsaWrite s)
def execAsaRead (vi : Nat) (io : HostIo) (s : State) : Host.Outcome State Fault Refusal :=
  .next (runCommand 0x0704 vi io bodyAsaRead s)
def execAsaStatus (vi : Nat) (io : HostIo) (s : State) : Host.Outcome State Fault Refusal :=
  .next (runCommand 0x0705 vi io bodyAsaStatus s)
def execAsaConfig (vi : Nat) (io : HostIo) (s : State) : Host.Outcome State Fault Refusal :=
  .next (runCommand 0x0706 vi io bodyAsaConfig s)

/-! ### Integrity -/

/-- A shadow parity failure ends: the entry is whole again from the master copy and the waiting search may run (R257). -/
def execAsaShadowRestoreDone (region raddr : Nat) (s : State) : Host.Outcome State Fault Refusal :=
  .next (match s.region? region with
    | none => s
    | some x => when (mhas x.entries raddr && s.accepting) s
        (count Cn.asaShadowParity 0 1 (fault 10 (x.place raddr).1 0 s)))

/-- R258: firmware compares the rows with their shadows; `rows` are the (bank, row) pairs that differ. Rows hold no contents of their own in the
model, so a corrupted one fails no match (assumption log entry 143). -/
def execAsaScrub (rows : List (Nat × Nat)) (s : State) : Host.Outcome State Fault Refusal :=
  .next (when (s.accepting && s.due (s.asa.scrubAt + Config.ms s.asa.scrubPeriod)) s
    (foldS (rows.filter (fun r => (s.bank r.1).st == .on || (s.bank r.1).st == .cellar))
      { s with asa := { s.asa with scrubAt := s.mono } }
      (fun r s => count Cn.asaScrubFix 0 1 (fault 10 r.1 0 s))))

/-- R260. -/
def execAsaHoleRestore (region : Nat) (s : State) : Host.Outcome State Fault Refusal :=
  .next (match s.region? region with
    | none => s
    | some x => match x.restoreHole with
      | none => s
      | some x' =>
        let n := (x'.entries.filter (fun e => decide (e ∉ x.entries))).length
        when s.accepting s (count Cn.asaMoves 0 n (s.setRegion region x')))

/-- R259, t0. -/
def execAsaBankFault (bank cause : Nat) (s : State) : Host.Outcome State Fault Refusal :=
  .next (when (decide (bank < 8)) s (bankFault bank cause s))

/-- R259, t1 to t3: the reload and its self-check end. Bank 0 in Cellar mode only reloads in place (R268). -/
def bankReloadDone (b : Nat) (passed : Bool) (s : State) : State :=
  let x := s.bank b
  let s := count Cn.asaBankReload 0 1 (notify Ev.asaBankReload (putLe 1 b ++ putLe 1 x.cause) [] s)
  let second := match x.lastReload with | none => false | some t => decide (s.mono < t + Config.sec 1)
  let cellar0 := b == 0 && (s.dev.phase == .cellar || s.dev.bank0Wait)
  let s := s.modBank b (fun y => { y with lastReload := some s.mono })
  if cellar0 then
    if passed then endWindow 11 b (s.modBank b (fun y => { y with st := .cellar })) else s
  else if passed && !second then endWindow 11 b (s.modBank b (fun y => { y with st := .on }))
  else s.modBank b (fun y => { y with st := .failed })

def execAsaBankReloadDone (bank : Nat) (passed : Bool) (s : State) : Host.Outcome State Fault Refusal :=
  .next (when ((s.bank bank).st == .reloading && s.recoveryTurn 11 bank) s (bankReloadDone bank passed s))

/-- The block lists with the blocks of a failed bank replaced by free blocks of powered banks, as far as these go, and how many. -/
def relocate (b : Nat) (s : State) : AMap Region × Nat :=
  let free := s.poweredFree
  let step (a : List (Nat × Nat) × List (Nat × Nat)) (x : Nat × Nat) : List (Nat × Nat) × List (Nat × Nat) :=
    if x.1 = b then match a.2 with
      | [] => (a.1 ++ [x], [])
      | f :: t => (a.1 ++ [f], t)
    else (a.1 ++ [x], a.2)
  let r := s.asa.regions.foldl (fun (acc : AMap Region × List (Nat × Nat)) e =>
    let (bl, fr) := e.2.blocks.foldl step ([], acc.2)
    (acc.1 ++ [(e.1, { e.2 with blocks := bl })], fr)) ([], free)
  (r.1, free.length - r.2.length)

/-- R259, step 4: the bank's blocks are relocated and the bank is powered off. -/
def execAsaRelocationDone (bank : Nat) (s : State) : Host.Outcome State Fault Refusal :=
  .next (when ((s.bank bank).st == .failed && s.recoveryTurn 11 bank && mgetD s.pwr.domains (15 + bank) .off != .off) s
    (let (regions, n) := relocate bank s
     let s := { s with asa := { s.asa with regions := regions, short := s.asa.short + n },
                       pwr := { s.pwr with domains := mset s.pwr.domains (15 + bank) .off } }
     asaPower (endWindow 11 bank (count Cn.asaBankFailed 0 1
      (notify Ev.asaBankFailed (putLe 1 bank ++ putLe 1 n) [] (domainEvent (15 + bank) false s))))))

/-! ### Throttling (R265, Table AS-3); temperatures in tenths of a degree -/

/-- Tmax by grade, lowered by THROTTLE_OFFSET. -/
def State.asaTmax (s : State) : Int := (if Config.gradeAE then 1100 else 1050) - 10 * s.asa.offset

/-- Entry threshold of a level. -/
def State.levelEntry (s : State) (l : Nat) : Int := s.asaTmax - (if l = 1 then 150 else if l = 2 then 100 else 50)

/-- The level a temperature enters. -/
def State.levelFor (s : State) (t : Int) : Nat :=
  if s.levelEntry 3 ≤ t then 3 else if s.levelEntry 2 ≤ t then 2 else if s.levelEntry 1 ≤ t then 1 else 0

/-- The level changes; the window in progress keeps its capacity (R265). -/
def setLevel (l : Nat) (t : Int) (s : State) : State :=
  let s' := { s with asa := { s.asa with win := s.searchWin, level := l, levelAt := if s.asa.level < l then s.mono else s.asa.levelAt } }
  count Cn.asaThrottleSteps 0 1 (notify Ev.asaThrottle (putLe 1 l ++ putLe 1 s.asa.level ++ putLe 2 (wrapInt 16 t)) [] s')

def execAsaThrottleRaise (temp : Int) (s : State) : Host.Outcome State Fault Refusal :=
  .next (when (decide (s.asa.level < s.levelFor temp)) s (setLevel (s.levelFor temp) temp s))

/-- The temperature has stayed 3 °C below the level's entry threshold for 10 ms, so the last rise is as long ago. -/
def execAsaThrottleLower (temp : Int) (s : State) : Host.Outcome State Fault Refusal :=
  .next (when (decide (0 < s.asa.level) && decide (temp ≤ s.levelEntry s.asa.level - 30) && s.due (s.asa.levelAt + Config.ms 10)) s (setLevel (s.asa.level - 1) temp s))

end Sys2Proof.Machine
end

