-- ==== Sys2Proof/Machine/PairOps.lean ====
section
/-! DEFINITION. The pair's shared operations: what is known of the partner, taking, losing and handing over the bung (R395–R400, Table
PR-4), and the arrival numbers at which commits switch (R387). -/
namespace Sys2Proof.Machine

def State.modPair (s : State) (f : Pair → Pair) : State := { s with pair := f s.pair }

/-- The pair SUN. -/
def State.pairSun (s : State) : Nat := (s.pair.cfg.pair.map PairCfg.pairSun).getD 0xFFFF

/-- Journal bytes sent and not acknowledged, and the age of the oldest unacknowledged mark in tenths of a nanosecond (R402). -/
def State.lagBytes (s : State) : Nat := sumOf s.pair.unacked (fun u => u.2.1) + s.pair.tailBytes
def State.lagAge (s : State) : Nat := match s.pair.unacked.head? with
  | some u => s.mono - u.2.2.1
  | none => match s.pair.tailSince with | some t => s.mono - t | none => 0
def State.staleLag (s : State) : Nat := Config.ms ((s.pair.cfg.pair.map PairCfg.staleLag).getD 2)

/-- The partner's state of Table PR-4 as far as its latest ANNOUNCE and the journal tell (assumption log entry 82). -/
def State.partnerState (s : State) : Nat :=
  match mget s.pair.heard s.partnerOf with
  | none => 0
  | some h => if h.bung then 3 else if h.fenced then 4
    else if h.synced then (if s.peerUp && decide (s.lagAge ≤ s.staleLag) then 6 else 7) else 5

/-- LEAD_p: 64-byte frames in 100 µs at the port's speed (R387). -/
def State.lead (s : State) (p : Nat) : Nat := s.portGbps p * 100000 / 672

/-- Change the first `n` elements of a list that satisfy a test. -/
def mapFirst {α : Type} (test : α → Bool) (f : α → α) : Nat → List α → List α
  | _, [] => []
  | 0, l => l
  | n + 1, x :: t => if test x then f x :: mapFirst test f n t else x :: mapFirst test f (n + 1) t

/-- A port's open switch points are set, those of the given epochs and the first `asas` changes of the ASA, or every one (none); the
active tells the standby. -/
def setPoint (which : Option (List Nat × Nat)) (p : Nat) (s : State) : State :=
  let a := ((s.lport p).arrivals + s.lead p) % 2 ^ 48
  let x := s.ppair p
  let openPoint (w : Nat × Nat) : Bool := w.1 == noArrival && (match which with | none => true | some y => decide (w.2 ∈ y.1))
  let n := match which with | none => x.asaHeld.length | some y => y.2
  let heldOpen := (x.asaHeld.filter (fun h => h.1 == noArrival)).take n
  let s := s.modPpair p (fun x => { x with
    switches := x.switches.map (fun w => if openPoint w then (a, w.2) else w),
    asaHeld := mapFirst (fun h => h.1 == noArrival) (fun h => (a, h.2)) n x.asaHeld })
  if s.pair.st == .active || s.pair.st == .fenced then
    let s := foldS (x.switches.filter openPoint) s (fun w s => s.emit (.arrivalPoint p w.2 a))
    foldS heldOpen s (fun _ s => s.emit (.arrivalPoint p 0 a))
  else s

/-- Every switch point still open: no standby is left to acknowledge the marks. -/
def setPoints (s : State) : State := foldS (mkeys s.pair.cfg.ports) s (setPoint none)

/-- Without a partner, commands that wait for its acknowledgement go on (assumption log entry 83). -/
def becomeSolo (s : State) : State :=
  setPoints (wake (fun w => match w with | .mark _ | .bulkCopy => true | _ => false)
    (s.modPair (fun p => { p with st := .solo, unacked := [], lastAcked := none, sentRenews := [] })))

/-- The bung held beside a live partner: the lease starts (R395). -/
def becomeActive (s : State) : State :=
  s.modPair (fun p => { p with st := .active, lastAcked := some s.mono, sentRenews := [], renewAt := s.mono, handing := none })

/-- The duty of transmitting on shared lines ends (Table PR-2): what their ports have selected goes back to its queues. -/
def darken (s : State) : State := foldS (s.pair.cfg.ports.filter (fun e => e.2.txMode == 2)) s (fun e s => returnSelected e.1 s)

/-- A partner holds the bung, or a higher GEN was seen: duties are dropped and the unit syncs, each paired port anchored anew (R398, R407). -/
def becomeSyncing (gen : Nat) (s : State) : State :=
  let fail (p : Parked) : Parked := match p.wait with
    | .mark _ => if p.ready then p else { p with wait := .bulkCopy }
    | _ => p
  let s := darken { s with hif := { s.hif with parked := s.hif.parked.map fail } }
  leaveSyncAll (s.modPair (fun p => { p with
    st := .syncing, gen := max gen p.gen, highGen := max gen p.highGen, unacked := [], lastAcked := none, sentRenews := [], tA := none,
    tail := [], tailBytes := 0, tailSince := none, handing := none }))

/-- The partner has taken the bung handed to it: the unit becomes its standby (R400). -/
def handedOver (gen : Nat) (s : State) : State :=
  s.modPair (fun p => { p with st := if s.peerUp then .standby else .stale, gen := gen, highGen := max gen p.highGen, tA := some s.mono,
                               lastAcked := none, sentRenews := [], handing := none })

/-- A GEN of the pair was seen (R398). -/
def seeGen (gen : Nat) (s : State) : State :=
  let s := s.modPair (fun p => { p with highGen := max p.highGen gen })
  if s.pair.st = .fenced ∧ s.pair.handing = some gen then handedOver gen s
  else if s.pair.gen < gen ∧ s.pair.st ∈ [PairState.solo, .active, .fenced, .taking] then becomeSyncing gen s else s

/-- The bung is taken with a GEN (R397): duties are enabled at TAKEOVER_COMPLETE. Assumption log entry 86. -/
def takeBung (gen cause : Nat) (s : State) : State :=
  s.modPair (fun p => { p with st := .taking, gen := gen, highGen := max gen p.highGen, takeCause := cause, tail := [], tailBytes := 0,
                               tailSince := none, tA := none, handing := none })

/-- Some plane is UP and lists a SUN other than the unit's own and the pair's; the partner is absent, or has said within 100 µs that it
does not hold the bung (R397). -/
def State.mayTake (s : State) : Bool :=
  s.fab.listings.any (fun l => s.planeUp (l.1 / 2048) && l.1 % 2048 != s.dev.cfg.sun && l.1 % 2048 != s.pairSun)
    && (!s.present s.partnerOf
        || (mget s.pair.heard s.partnerOf).any (fun h => !h.bung && decide (s.mono ≤ h.at_ + Config.us 100)))

/-- The active hands the bung over (R400): cause 1 command, 2 no plane up. Its duties stop at once. -/
def handOver (cause : Nat) (s : State) : State :=
  let g := (s.pair.highGen + 1) % 2 ^ 32
  let s := sendPeer (bungEntryBytes 3 g 0) ((darken s).modPair (fun p => { p with st := .fenced, handing := some g, highGen := g }))
  notify Ev.pairHandover (putLe 4 g ++ putLe 1 cause) [] s

/-- The last plane of an active is gone while its partner is in STANDBY (R400). -/
def noPlaneLeft (s : State) : State :=
  if s.pair.st == .active && s.planesUp == [] && s.partnerState == 6 then handOver 2 s else s

end Sys2Proof.Machine
end

