-- ==== Sys2Proof/Machine/Hif.lean ====
section
/-! DEFINITION. HIF family: the HIF commands (Table HM-26), ring commits and doorbells (R54–R59), the direct registers (R82), the PCIe
link (R52) and interrupt coalescing (R88). -/
namespace Sys2Proof.Machine

/-- A power domain is on. -/
def State.domOn (s : State) (pd : Nat) : Bool := mgetD s.pwr.domains pd .off == .on

/-- A host access reaches the function window: PD2 (the PCIe endpoint) is on and the link is up. -/
def State.hostReach (s : State) (vi : Nat) : Bool := decide (vi < 64) && s.hif.linkUp && s.domOn 2 && !s.dev.inReset

/-! ### HIF commands -/

/-- HIF.NOP (R66). -/
def bodyHifNop : Body := fun _ _ s => .read s [] []

/-- HIF.IDENTIFY (Table HM-27). In ROM recovery mode FW_VERSION and SVN are those of the last firmware started: the manual does not say what
ROM reports there (DESIGN CHOICE, assumption log entry 124). -/
def bodyHifIdentify : Body := fun _ _ s =>
  let slot := if s.hif.recovery then 0xFF else s.upd.running
  .read s [] (putLe 2 0x2560 ++ putLe 1 0xB0 ++ putLe 1 (b2n Config.gradeAE) ++ putLe 4 s.hif.fwVersion ++ putLe 1 slot
    ++ putLe 1 s.hif.fwEpoch ++ putLe 2 s.dev.cfg.sun ++ putLe 4 s.hif.svn ++ fit 16 Config.serial ++ zeros 32)

/-- HIF.JOURNAL_INFO (R72). An empty journal reports LOW 0. -/
def bodyHifJournalInfo : Body := fun vi _ s =>
  let f := s.fn vi
  .read s (putLe 8 (f.low.getD 0) ++ putLe 4 f.journal.length) []

/-- HIF.NOTIFY_MASK (R88). -/
def bodyHifNotifyMask : Body := fun vi e s =>
  .ok (s.modFn vi (fun f => { f with mask := BitVec.ofNat 32 (e.p 24 4) }))

/-- HIF.SET_COALESCE (R88). Entries already posted are not signalled at once when the count falls to their number: the next entry posted, or
the delay, signals them (DESIGN CHOICE, assumption log entry 125). -/
def bodyHifSetCoalesce : Body := fun vi e s =>
  .ok (s.modFn vi (fun f => { f with cqCount := e.p 24 2, cqDelay := e.p 26 2, nqCount := e.p 28 2, nqDelay := e.p 30 2 }))

def execHifNop (vi : Nat) (io : HostIo) (s : State) : Host.Outcome State Fault Refusal :=
  .next (runCommand 0x0100 vi io bodyHifNop s)
def execHifIdentify (vi : Nat) (io : HostIo) (s : State) : Host.Outcome State Fault Refusal :=
  .next (runCommand 0x0101 vi io bodyHifIdentify s)
def execHifJournalInfo (vi : Nat) (io : HostIo) (s : State) : Host.Outcome State Fault Refusal :=
  .next (runCommand 0x0102 vi io bodyHifJournalInfo s)
def execHifNotifyMask (vi : Nat) (io : HostIo) (s : State) : Host.Outcome State Fault Refusal :=
  .next (runCommand 0x0103 vi io bodyHifNotifyMask s)
def execHifSetCoalesce (vi : Nat) (io : HostIo) (s : State) : Host.Outcome State Fault Refusal :=
  .next (runCommand 0x0104 vi io bodyHifSetCoalesce s)

/-! ### Ring configuration -/

/-- A valid set of shadow registers: sizes 4 to 12, bases aligned to 4 KiB (R53, R55). -/
def RingRegs.valid (r : RingRegs) : Bool :=
  [r.sqSize, r.cqSize, r.nqSize].all (fun k => decide (4 ≤ k.toNat ∧ k.toNat ≤ 12))
    && [r.sqLo, r.cqLo, r.nqLo].all (fun b => decide (b.toNat % 4096 = 0))

/-- R54, R55, Table HM-25: a commit in IDLE with a valid set starts the rings; any other commit is rejected. Notifications held when the rings
went IDLE are kept and posted now: the manual does not say that they are dropped (DESIGN CHOICE, assumption log entry 126). -/
def applyCommit (vi : Nat) (s : State) : State :=
  let f := s.fn vi
  if f.ring = .idle ∧ f.shadow.valid then
    flushNotifs f.heldN.length vi (s.modFn vi (fun f => { f with
      active := f.shadow, ring := .running, sq := [], sqHead := 0, sqTail := 0,
      cqTail := 0, cqPhase := true, cqHead := 0, cq := [], nqTail := 0, nqPhase := true, nqHead := 0, nq := [] }))
  else count Cn.hifCfgReject vi 1 (ringFault vi 5 (if f.ring = .running then [vi] else []) s)

/-- R56, Table HM-25: RUNNING drains, HALTED becomes IDLE and abandons the unfetched entries. -/
def applyDisable (vi : Nat) (s : State) : State :=
  match (s.fn vi).ring with
  | .running => drainCheck vi (s.modFn vi (fun f => { f with ring := .draining }))
  | .halted => s.modFn vi (fun f => { f with ring := .idle, sq := [] })
  | _ => s

/-- A doorbell of a live ring with an index beyond its size (R59). EV.HIF.RING_FAULT goes to VI0 and to the function itself, created or not: R59
names no NQ (DESIGN CHOICE, assumption log entry 127). -/
def doorbellReject (vi : Nat) (s : State) : State :=
  count Cn.hifDbReject vi 1 (ringFault vi 4 ([0, vi].eraseDups) s)

/-- R57, R59: the new SQ tail submits the entries up to it; slots the host has not written read as zeros (assumption log entry 6). -/
def applySqTail (vi index : Nat) (slots : List Entry) (s : State) : State :=
  let f := s.fn vi
  if ¬ f.live then s
  else if ringEntries f.active.sqSize ≤ index then doorbellReject vi s
  else
    let n := (index + ringEntries f.active.sqSize - f.sqTail) % ringEntries f.active.sqSize
    let new := slots.take n ++ List.replicate (n - slots.length) ⟨zeros 64, []⟩
    (s.modFn vi (fun f => { f with sq := f.sq ++ new, sqTail := index })).settled

/-- R58, R59: the new CQ head frees the slots before it. -/
def applyCqHead (vi index : Nat) (s : State) : State :=
  let f := s.fn vi
  if ¬ f.live then s
  else if ringEntries f.active.cqSize ≤ index then doorbellReject vi s
  else
    let n := (index + ringEntries f.active.cqSize - f.cqHead) % ringEntries f.active.cqSize
    (s.modFn vi (fun f => { f with cq := f.cq.drop n, cqHead := index })).settled

/-- R59, R63: the new NQ head frees slots, and held notifications are posted. -/
def applyNqHead (vi index : Nat) (s : State) : State :=
  let f := s.fn vi
  if ¬ f.live then s
  else if ringEntries f.active.nqSize ≤ index then doorbellReject vi s
  else
    let n := (index + ringEntries f.active.nqSize - f.nqHead) % ringEntries f.active.nqSize
    flushNotifs f.heldN.length vi (s.modFn vi (fun f => { f with nq := f.nq.drop n, nqHead := index }))

/-- A write held until firmware is ready, or applied at once (R92). -/
def applyWrite (w : HeldWrite) (s : State) : State :=
  match w with
  | .commit vi => applyCommit vi s
  | .disable vi => applyDisable vi s
  | .sqTail vi index slots => applySqTail vi index slots s
  | .cqHead vi index => applyCqHead vi index s
  | .nqHead vi index => applyNqHead vi index s

/-- A ring register write: held in order before firmware accepts commands (R76, R92). -/
def ringWrite (vi : Nat) (w : HeldWrite) (s : State) : State :=
  if ¬ s.hostReach vi then s
  else if s.accepting then applyWrite w s
  else { s with hif := { s.hif with held := s.hif.held ++ [w] } }

/-- Apply the held writes in the order received (R92). Assumption log entry 13. -/
def applyHeld (s : State) : State :=
  foldS s.hif.held { s with hif := { s.hif with held := [] } } applyWrite

def execRingCommit (vi : Nat) (s : State) : Host.Outcome State Fault Refusal := .next (ringWrite vi (.commit vi) s)
def execRingDisable (vi : Nat) (s : State) : Host.Outcome State Fault Refusal := .next (ringWrite vi (.disable vi) s)
/-- INDEX is the low 12 bits of the doorbell (Table HM-22). -/
def execHifSqTailDb (vi index : Nat) (slots : List Entry) (s : State) : Host.Outcome State Fault Refusal :=
  .next (ringWrite vi (.sqTail vi (index % 4096) slots) s)
def execHifCqHeadDb (vi index : Nat) (s : State) : Host.Outcome State Fault Refusal :=
  .next (ringWrite vi (.cqHead vi (index % 4096)) s)
def execHifNqHeadDb (vi index : Nat) (s : State) : Host.Outcome State Fault Refusal :=
  .next (ringWrite vi (.nqHead vi (index % 4096)) s)

/-! ### Direct registers -/

/-- W1C of HIF_FAULT (R15, Table HM-15). -/
def execHifFaultClear (vi : Nat) (value : Word) (s : State) : Host.Outcome State Fault Refusal :=
  .next (when (s.hostReach vi) s (s.modFn vi (fun f => { f with fault := f.fault &&& ~~~ (value &&& 0x3E) })))

/-- The shadow register at an offset, written with its reserved bits ignored (R17, R54, Tables HM-11 and HM-16 to HM-18). -/
def RingRegs.write (r : RingRegs) (offset : Nat) (v : Word) : RingRegs :=
  if offset = 0x40 then { r with sqLo := v &&& 0xFFFFF000 }
  else if offset = 0x44 then { r with sqHi := v }
  else if offset = 0x48 then { r with sqSize := v &&& 0xF }
  else if offset = 0x50 then { r with cqLo := v &&& 0xFFFFF000 }
  else if offset = 0x54 then { r with cqHi := v }
  else if offset = 0x58 then { r with cqSize := v &&& 0xF }
  else if offset = 0x60 then { r with nqLo := v &&& 0xFFFFF000 }
  else if offset = 0x64 then { r with nqHi := v }
  else if offset = 0x68 then { r with nqSize := v &&& 0xF }
  else r

/-- The word an MSI-X table entry keeps of a write: address bits [1:0] read 0, and vector control keeps only Mask (assumption log entry 123). -/
def msixWord (field : Nat) (v : Word) : Word :=
  if field = 0 then v &&& 0xFFFFFFFC else if field = 3 then v &&& 1 else v

/-- A write of word `i` of the MSI-X table; a pending vector that it unmasks is signalled (R49). -/
def msixWrite (vi i : Nat) (v : Word) (s : State) : State :=
  let s := s.modFn vi (fun f => { f with msix := f.msix.set i (msixWord (i % 4) v) })
  let vec := i / 4
  if (s.fn vi).pba.getLsbD vec && !(s.fn vi).masked vec then
    signal vi vec (s.modFn vi (fun f => { f with pba := f.pba &&& ~~~ (BitVec.ofNat 32 (2 ^ vec)) }))
  else s

/-- The word of the MSI-X table at an offset (Table HM-1); none elsewhere. -/
def msixIndex (offset : Nat) : Option Nat :=
  if 0x4000 ≤ offset ∧ offset < 0x4040 ∧ offset % 4 = 0 then some ((offset - 0x4000) / 4) else none

/-- A write to a register without behaviour of its own (R82): the shadow registers and the MSI-X table take it; RO and unlisted offsets ignore
it (R15, R556), and so does a write whose byte enables are not all set (R557). -/
def execRegisterWrite (vi offset : Nat) (value : Word) (allBytes : Bool) (s : State) : Host.Outcome State Fault Refusal :=
  .next (when (s.hostReach vi && allBytes) s
    (match msixIndex offset with
     | some i => msixWrite vi i value s
     | none => s.modFn vi (fun f => { f with shadow := f.shadow.write offset value })))

/-- The oldest unsignalled entry reaches the vector's delay (R88). -/
def execCoalesceDelayExpiry (vi vec : Nat) (s : State) : Host.Outcome State Fault Refusal :=
  .next (match mget (s.fn vi).sig vec with
    | none => s
    | some (_, t0) =>
      when (s.due (t0 + Config.us ((s.fn vi).coalesce vec).2)) s
        (signal vi vec (s.modFn vi (fun f => { f with sig := mdel f.sig vec }))))

/-! ### The PCIe link -/

/-- R52: the link goes down; the device goes on. -/
def execPcieLinkDown (s : State) : Host.Outcome State Fault Refusal :=
  .next (when (s.hif.linkUp && s.domOn 2) s { s with hif := { s.hif with linkUp := false, linkDownAt := s.mono } })

/-- Post what a function held, completions with their result data first (R52, R61). -/
def flushFn (dataOk : Bool) (vi : Nat) (s : State) : State :=
  let cs := (s.fn vi).heldC
  let s := s.modFn vi (fun f => { f with heldC := [] })
  let s := foldS cs s (fun c s =>
    if c.compl.dataWritten && !dataOk then
      writeCompl vi { c with compl := { c.compl with dataWritten := false } } (count Cn.hifCmdErr vi 1 s)
    else writeCompl vi c s)
  drainCheck vi (flushNotifs ((s.fn vi).heldN.length) vi s)

/-- Post everything held, function by function, when the link is up and firmware runs. -/
def flushHeld (dataOk : Bool) (s : State) : State :=
  if s.hif.linkUp && s.accepting then foldS (mkeys s.hif.fns) s (flushFn dataOk) else s

/-- R52: the link returns: held writes are flushed in order, then EV.HIF.LINK_UP on VI0. -/
def execPcieLinkUp (dataOk : Bool) (s : State) : Host.Outcome State Fault Refusal :=
  .next (when (!s.hif.linkUp && s.domOn 2) s
    (let heldCount := sumOf (mvals s.hif.fns) (fun f => f.heldC.length + f.heldN.length)
     let us := (s.mono - s.hif.linkDownAt) / 10000
     let s := flushHeld dataOk { s with hif := { s.hif with linkUp := true } }
     let s := notify Ev.hifLinkUp (putLe 4 (sat 32 us) ++ putLe 4 (sat 32 heldCount)) [] s
     (count Cn.hifLinkDown 0 1 s).settled))

/-- R60: a ring access fails and the function's rings halt. -/
def execRingAccessFailure (vi : Nat) (ring : RingKind) (s : State) : Host.Outcome State Fault Refusal :=
  .next (when ((s.fn vi).live && s.hostReach vi) s
    (let bit := match ring with | .sq => 1 | .cq => 2 | .nq => 3
     let s := s.modFn vi (fun f => { f with ring := .halted })
     count Cn.hifRingFaults vi 1 (ringFault vi bit [0] s)))

end Sys2Proof.Machine
end

