-- ==== Sys2Proof/Machine/PortOps.lean ====
section
/-! DEFINITION. The port state machine (R126, Table LN-3), defects and their consequent actions (R129, R130, Tables LN-2 to LN-5), line
protection requests (R139, R140), MACsec transmit readiness (R144) and the retraining of full service (R106). -/
namespace Sys2Proof.Machine

/-! ### Defects -/

/-- The down causes of Table LN-2. -/
def downMask : Word := 0x1977F

/-- Down causes present on a port. -/
def Port.causes (p : Port) : Word := p.defects &&& downMask

/-- A defect bit set or cleared. -/
def setBit (w : Word) (i : Nat) (on : Bool) : Word :=
  if on then w ||| BitVec.ofNat 32 (2 ^ i) else w &&& ~~~ (BitVec.ofNat 32 (2 ^ i))

/-- The counter of a defect's detection (Table LN-4). -/
def defectCounter (i : Nat) : Option Nat :=
  match i with
  | 0 => some Cn.portLos | 1 => some Cn.portLockLost | 2 => some Cn.portLf | 3 => some Cn.portRf | 7 => some Cn.frmOof
  | 8 => some Cn.frmLof | 9 => some Cn.frmLom | 10 => some Cn.frmAis | 11 => some Cn.frmBdi | 12 => some Cn.frmAis
  | 13 => some Cn.frmBdi | 14 => some Cn.portFecDegrade | _ => none

/-- The port is an OTN port. -/
def State.isOtn (s : State) (p : Nat) : Bool := ((s.pcfg p).map PortCfg.type).getD 0 == 2

/-! ### Port state machine (Table LN-3) -/

/-- EV.PORT.DOWN: the egress hold begins, probes stop, recovered clocks are squelched (R126, R367, R169, R175). -/
def portDownEvent (p : Nat) (s : State) : State :=
  let s := notify Ev.portDown (putLe 1 p ++ zeros 3 ++ putLe 4 (s.lport p).defects.toNat) (s.ownersOf p) s
  egressHold p (syncePort p false (probeRefresh p s))

def CageMap.holds (m : CageMap) (first lanes : Nat) : Bool := decide (m.firstLane ≤ first ∧ first + lanes ≤ m.firstLane + m.lanes)

/-- The cage whose lanes hold a port's (R119). -/
def State.cageOf (s : State) (p lanes : Nat) : Option Nat :=
  (s.dev.cfg.cages.find? (fun c => c.2.holds p lanes)).map (fun c => c.1)

/-- The change of module application that a retraining port needs is requested from the board controller (R106). Assumption log entry 32. -/
def askApplication (p : Nat) (s : State) : State :=
  match s.pcfg p with
  | none => s
  | some c => match s.cageOf p c.lanes with
    | some g => s.emit (.appRequest g (if c.type = 2 then s.portGbps p else c.lanes * max 1 c.cls * 100))
    | none => s

/-- Entry into DOWN. -/
def portEnterDown (p : Nat) (s : State) : State :=
  portDownEvent p (count Cn.portFlaps p 1 (s.modPort p (fun x => { x with st := .down, timer := none })))

/-- A down cause or defect bit changed: the transitions of Table LN-3 that the down causes alone decide. -/
def portEvaluate (p : Nat) (s : State) : State :=
  match s.pcfg p with
  | none => s
  | some c =>
    let x := s.lport p
    let bad := decide (x.causes ≠ 0)
    match x.st with
    | .upWait =>
      if bad then egressFlap p (s.modPort p (fun x => { x with st := .training, timer := none })) else s
    | .up =>
      if !bad then s
      else if c.downDebounce = 0 then portEnterDown p s
      else syncePort p false (s.modPort p (fun x => { x with st := .downWait, timer := some (s.mono + Config.ms c.downDebounce) }))
    | .downWait =>
      if bad then s
      else
        let s := s.modPort p (fun x => { x with st := .up, timer := none })
        probeRefresh p (syncePort p true s)
    | .down =>
      if bad then s
      else s.modPort p (fun x => { x with st := .upWait, timer := some (s.mono + Config.ms c.upDebounce) })
    | _ => s

/-- A retraining begins: down cause RETRAIN, by Table LN-3 (R128). -/
def retrainStart (p : Nat) (s : State) : State :=
  portEvaluate p (s.modPort p (fun x => { x with defects := setBit x.defects 15 true }))

/-- Ports still to retrain start, at most RETRAIN_PORTS at once, in ascending order; after the last EV.DEV.LINE_FULL_RATE (R106). -/
def retrainNext : Nat → State → State
  | 0, s => s
  | fuel + 1, s =>
    match s.dev.retrain with
    | [] =>
      if s.dev.retraining = [] ∧ s.dev.fullRateDue then
        let down := (mkeys s.port.cfg).filter (fun p => !s.portUp p)
        notify Ev.devLineFullRate (putLe 1 s.dev.retrained ++ putLe 1 down.length) []
          { s with dev := { s.dev with retrained := 0, fullRateDue := false } }
      else s
    | p :: t =>
      if s.dev.retrainMax ≤ s.dev.retraining.length then s
      else
        let s := { s with dev := { s.dev with retrain := t } }
        if (s.lport p).st = .disabled then retrainNext fuel s
        else
          let s := askApplication p { s with dev := { s.dev with retrained := s.dev.retrained + 1, retraining := s.dev.retraining ++ [p] } }
          retrainNext fuel (retrainHold p (retrainStart p s))

/-- A port's retraining is over (its lanes lock, or its hold deadline passes). -/
def retrainDone (p : Nat) (s : State) : State :=
  if p ∈ s.dev.retraining then
    retrainNext 129 { s with dev := { s.dev with retraining := without s.dev.retraining p } }
  else s

/-- Entry into UP from UP_WAIT: EV.PORT.UP, and the queues resume (R126, R369). -/
def portEnterUp (p : Nat) (s : State) : State :=
  let s := s.modPort p (fun x => { x with st := .up, timer := none })
  let s := notify Ev.portUp (putLe 1 p) (s.ownersOf p) s
  egressUp p (probeRefresh p (syncePort p true s))

/-- A down cause or defect bit that the device itself sets or clears (MODULE, ADMIN, MACSEC_NO_SA, RETRAIN, LOOP_FAR). -/
def setCause (p bit : Nat) (on : Bool) (s : State) : State :=
  if (s.lport p).defects.getLsbD bit = on then s
  else portEvaluate p (s.modPort p (fun x => { x with defects := setBit x.defects bit on }))

/-- ADMIN down or PORT.CONFIG TYPE 0 (Table LN-3, last row). -/
def portDisable (p : Nat) (s : State) : State :=
  let was := (s.lport p).st
  let s := s.modPort p (fun x => { x with st := .disabled, timer := none })
  if was = .up ∨ was = .downWait then portDownEvent p s else s

/-- Training starts (DISABLED, PORT.CONFIG with ADMIN up). -/
def portTrain (p : Nat) (s : State) : State :=
  if (s.lport p).st = .disabled ∧ (s.lport p).adminUp ∧ (s.pcfg p).isSome then s.modPort p (fun x => { x with st := .training }) else s

/-! ### MACsec transmit readiness -/

/-- The PN space of a cipher suite (R142): 2^32, or 2^64 for XPN. -/
def pnSpace (cipher : Nat) : Nat := if cipher = 1 then 2 ^ 32 else 2 ^ 64

/-- The enabled transmit SA whose packet numbers are not exhausted. -/
def State.txSa (s : State) (p : Nat) : Option (Nat × Sa) :=
  (s.lport p).txSas.find? (fun e => e.2.enabled && decide (e.2.pn < pnSpace (s.secy p).cipher))

/-- PROTECT_FRAMES is set and no usable transmit SA stands: down cause MACSEC_NO_SA (Table LN-2). -/
def macsecRefresh (p : Nat) (s : State) : State :=
  let y := s.secy p
  setCause p 6 (y.enable && bit y.flags 0 && (s.txSa p).isNone) s

/-! ### Protection groups -/

/-- A port-level group carries the port's signal: the lowest layer that protects it (R130). -/
def State.portProtected (s : State) (p : Nat) : Bool :=
  s.frm.cfg.prots.any (fun g => g.2.level == 1 && (g.2.wPort == p || g.2.pPort == p))

/-- Signal fail and signal degrade of a source (Table LN-5). A failure of the whole port triggers the groups of the lowest layer that protects
it: those over the port, or where there is none those over its tributaries (R130). -/
def State.signalFail (s : State) (level p trib : Nat) : Bool :=
  let x := s.lport p
  let server := [0, 8, 9, 10].any (fun i => x.defects.getLsbD i)
  if server then level == 1 || !s.portProtected p
  else level == 2 && (decide (trib ∈ x.tribAis)
        || (x.defects.getLsbD 12 && ((mget s.frm.cfg.tribs (p * 128 + trib)).map Trib.kind).getD 0 == 1))
def State.signalDegrade (s : State) (c : ProtCfg) (p : Nat) : Bool :=
  c.sdTrigger && (s.lport p).defects.getLsbD 14 && (c.level == 1 || !s.portProtected p)

/-- Working has SF or SD. -/
def State.workFails (s : State) (c : ProtCfg) : Bool := s.signalFail c.level c.wPort c.wTrib || s.signalDegrade c c.wPort

/-- R139: the selection (true: protection) that the highest-priority request asks for, and that request's number. -/
def State.protWants (s : State) (c : ProtCfg) (g : Prot) : Bool × Nat :=
  if g.opCmd = 1 then (false, 1)
  else if s.signalFail c.level c.pPort c.pTrib then (false, 2)
  else if g.opCmd = 2 then (true, 3)
  else if s.signalFail c.level c.wPort c.wTrib then (true, 4)
  else if s.signalDegrade c c.pPort then (false, 5)
  else if s.signalDegrade c c.wPort then (true, 6)
  else if g.opCmd = 3 then (true, 7)
  else if g.opCmd = 4 then (false, 7)
  else if !c.revertive then (g.selected, 9)
  else if g.selected && g.wtrAt.isSome then (true, 8)
  else (false, 9)

/-! ### The time-slot interchange (R136, R138, R139) -/

/-- Slots of an OTN port: 20n. -/
def State.slots (s : State) (p : Nat) : Nat := 20 * ((s.pcfg p).map PortCfg.otucN).getD 0

/-- The tributary of a port that holds a slot, with its number. -/
def State.tribAt (s : State) (p slot : Nat) : Option (Nat × Trib) :=
  (s.frm.cfg.tribs.find? (fun t => t.1 / 128 == p && decide (slot ∈ t.2.slots))).map (fun t => (t.1 % 128, t.2))

/-- The selector of a group has chosen protection. -/
def State.onProtection (s : State) (g : Nat) : Bool := (mgetD s.frm.prots g {}).selected

/-- The source that a connection entry naming this port and slot reads: through the selector of the group whose working tributary holds the slot,
then through the selector of the group whose working port it lies on (R138). -/
def State.selSource (s : State) (p slot : Nat) : Nat × Nat :=
  let (p, slot) := match s.tribAt p slot with
    | none => (p, slot)
    | some (n, t) =>
      match s.frm.cfg.prots.find? (fun (g : Nat × ProtCfg) => g.2.level == 2 && g.2.wPort == p && g.2.wTrib == n && s.onProtection g.1) with
      | none => (p, slot)
      | some (_, c) =>
        match mget s.frm.cfg.tribs (c.pPort * 128 + c.pTrib), t.slots.findIdx? (fun x => x == slot) with
        | some u, some i => (c.pPort, u.slots.getD i 0)
        | _, _ => (p, slot)
  match s.frm.cfg.prots.find? (fun (g : Nat × ProtCfg) => g.2.level == 1 && g.2.wPort == p && s.onProtection g.1) with
  | some (_, c) => (c.pPort, slot)
  | none => (p, slot)

/-- The output slot whose connection entry an output slot follows: the transmit side bridges permanently to both sources (R139), so a protection
port follows its working port, and the slots of a protection tributary those of the working one. -/
def State.bridgedFrom (s : State) (p slot : Nat) : Nat × Nat :=
  match s.frm.cfg.prots.find? (fun (g : Nat × ProtCfg) => g.2.level == 1 && g.2.pPort == p) with
  | some (_, c) => (c.wPort, slot)
  | none =>
    match s.tribAt p slot with
    | none => (p, slot)
    | some (n, t) =>
      match s.frm.cfg.prots.find? (fun (g : Nat × ProtCfg) => g.2.level == 2 && g.2.pPort == p && g.2.pTrib == n) with
      | none => (p, slot)
      | some (_, c) =>
        match mget s.frm.cfg.tribs (c.wPort * 128 + c.wTrib), t.slots.findIdx? (fun x => x == slot) with
        | some u, some i => (c.wPort, u.slots.getD i 0)
        | _, _ => (p, slot)

/-- What an output slot carries: the entry of the active page (R136), read through the selectors (R138). -/
def State.tsiSource (s : State) (p slot : Nat) : TsiSource :=
  let (q, i) := s.bridgedFrom p slot
  let w := ((mgetD s.frm.cfg.pages q []).getD i 0).toNat
  if w / 2 ^ 30 = 1 then .client q
  else if w / 2 ^ 30 = 2 then
    let (x, y) := s.selSource (w / 2 ^ 16 % 256) (w % 512)
    .through x y
  else .unequipped

/-- The sources of an output port's slots, in slot order. -/
def State.tsiSources (s : State) (p : Nat) : List TsiSource := (List.range (s.slots p)).map (s.tsiSource p)

/-- Each output port whose sources a swap or a switch has changed carries the new ones from its next frame on: pages and selections apply together,
whichever of a swap and a switch of one frame came first (R138). -/
def tsiChanged (before s : State) : State :=
  foldS ((mkeys s.port.cfg).filter (fun p => s.isOtn p && s.tsiSources p != before.tsiSources p)) s
    (fun p s => s.emit (.tsi p (s.tsiSources p)))

/-- The ports that transmit a port's packet client: its own, and the one a protection group bridges it to (R139). -/
def State.clientPorts (s : State) (p : Nat) : List Nat :=
  let own (n : Nat) : Bool := ((mget s.frm.cfg.tribs (p * 128 + n)).map Trib.kind).getD 0 == 1
  p :: (s.frm.cfg.prots.filter (fun g => g.2.wPort == p && (g.2.level == 1 || own g.2.wTrib))).map (fun g => g.2.pPort)

/-- The selector takes the selection its requests ask for (R140). -/
def protSwitch (n : Nat) (s : State) : State :=
  match mget s.frm.cfg.prots n with
  | none => s
  | some c =>
    let g := mgetD s.frm.prots n {}
    let (sel, req) := s.protWants c g
    let s := tsiChanged s { s with frm := { s.frm with prots := mset s.frm.prots n { g with selected := sel, holdoffAt := none } } }
    if sel = g.selected then s
    else count Cn.frmProtSwitch c.wPort 1 (notify Ev.frmProtSwitch (putLe 2 n ++ putLe 1 (b2n sel) ++ putLe 1 req) [] s)

/-- A group's requests changed: hold-off runs while they ask for another selection, wait-to-restore from when working recovers (R140). Assumption log entry 28. -/
def protRefresh (before : State) (n : Nat) (c : ProtCfg) (s : State) : State :=
  let g := mgetD s.frm.prots n {}
  let g := if s.workFails c then { g with wtrAt := none }
    else if before.workFails c ∧ c.revertive then { g with wtrAt := some (s.mono + Config.sec (60 * c.wtr)) } else g
  let want := (s.protWants c g).1
  let g := if want = g.selected then { g with holdoffAt := none }
    else if g.holdoffAt.isSome then g else { g with holdoffAt := some (s.mono + Config.ms (100 * c.holdoff)) }
  { s with frm := { s.frm with prots := mset s.frm.prots n g } }

/-- Every group after a change of defects. -/
def protRefreshAll (before s : State) : State := foldS s.frm.cfg.prots s (fun e s => protRefresh before e.1 e.2 s)

/-! ### Detection and clearing -/

/-- The forward and backward actions of Table LN-5, each with the defects that start it. Backward bits: 0 remote fault, 1 OTU BDI, 2 ODUCn PM BDI,
3 ODUflex PM BDI. -/
def actionsOf (otn : Bool) (p : Nat) : List (List Nat × (Bool → Output)) :=
  if otn then [([0, 8, 9, 10], .odukAis p), ([0, 8, 9], .backward p 1), ([10], .backward p 2), ([12], .backward p 3)]
  else [([0, 1, 2], .backward p 0)]

/-- An action begins with the first of its defects and ends with the last (R130). -/
def consequent (p : Nat) (before after : Word) (s : State) : State :=
  foldS (actionsOf (s.isOtn p) p) s (fun a s =>
    let was := a.1.any (fun i => before.getLsbD i)
    let now := a.1.any (fun i => after.getLsbD i)
    if was = now then s else s.emit (a.2 now))

/-- ODU AIS at the input of every through tributary of a port while its server layer fails (Table LN-5). -/
def State.throughTribs (s : State) (p : Nat) : List Nat :=
  (s.frm.cfg.tribs.filter (fun t => t.1 / 128 == p && t.2.kind == 2)).map (fun t => t.1 % 128)

/-- A defect rises or clears (R129, R130): bit, tributary or none. A LOF episode ends when LOF clears, or when OOF clears before LOF was detected
(R132). -/
def lineDefect (p i : Nat) (trib : Option Nat) (on : Bool) (s : State) : State :=
  let before := s
  let s := s.modPort p (fun x => { x with
    defects := setBit x.defects i on, oofAt := if i = 7 ∧ on then s.mono else x.oofAt, inFrameAt := if i = 7 ∧ !on then s.mono else x.inFrameAt,
    hunt := if i = 7 then [] else x.hunt, huntOut := if i = 7 then [] else x.huntOut,
    ambigSeen := x.ambigSeen && (on || (i != 8 && (i != 7 || x.defects.getLsbD 8))) })
  let s := if on then match defectCounter i with | some c => count c p 1 s | none => s else s
  let s := if s.isOtn p ∧ i ≠ 14 then
      notify Ev.frmDefect (putLe 1 p ++ putLe 1 (trib.getD 0xFF) ++ putLe 1 i ++ putLe 1 (b2n on)) (s.ownersOf p) s else s
  let s := consequent p (before.lport p).defects (s.lport p).defects s
  let s := if s.isOtn p ∧ (i = 0 ∨ i = 8 ∨ i = 9 ∨ i = 10) then
      let fails := [0, 8, 9, 10].any (fun j => (s.lport p).defects.getLsbD j)
      s.modPort p (fun x => { x with tribAis := if fails then s.throughTribs p else [] }) else s
  portEvaluate p (protRefreshAll before s)

end Sys2Proof.Machine
end

