-- ==== Sys2Proof/Machine/PwrOps.lean ====
section
/-! DEFINITION. Powering domains (R535): at most four ramp at once, the others wait in order. -/
namespace Sys2Proof.Machine

/-- Domains ramping now. -/
def State.rampCount (s : State) : Nat := (s.pwr.domains.filter (fun d => d.2 == .ramping)).length

def State.setDom (s : State) (pd : Nat) (d : DomState) : State :=
  { s with pwr := { s.pwr with domains := mset s.pwr.domains pd d } }

/-- Start the domains that wait while a ramp place is free. -/
def rampNext : Nat → State → State
  | 0, s => s
  | fuel + 1, s =>
    match s.pwr.queue with
    | [] => s
    | pd :: t =>
      if 4 ≤ s.rampCount then s
      else rampNext fuel (({ s with pwr := { s.pwr with queue := t } }).setDom pd .ramping)

/-- Power a domain that is off (R535). -/
def powerOn (pd : Nat) (s : State) : State :=
  if mgetD s.pwr.domains pd .off = .off ∧ pd ∉ s.pwr.queue then
    rampNext 64 { s with pwr := { s.pwr with queue := s.pwr.queue ++ [pd] } }
  else s

/-- Power several domains in order. -/
def powerAll (l : List Nat) (s : State) : State := foldS l s powerOn

/-- The domain of a line lane group (Table BU-2). -/
def lanePd (p : Nat) : Nat := 23 + p / 8

end Sys2Proof.Machine
end

