-- ==== Sys2Proof/Machine/Rack.lean ====
section
/-! DEFINITION. The receiving half of the fabric side: DATA cells, tokens, requests and credit grants (R321, R322), acknowledgements
(R326), and Racking's timers (R330, R335–R337). -/
namespace Sys2Proof.Machine

/-- A DATA cell reaches Racking on a plane. -/
def dataCell (plane : Nat) (c : Cell) (s : State) : State :=
  let s := count Cn.fabCellsRx plane 1 s
  if c.pcrc ≠ pcrcOf c.payload then pcrcFail plane s
  else if c.dest ≠ s.dev.cfg.sun then s
  else rackCell c (heardFrom c.src s)

def execDataCellReceive (plane : Nat) (c : Cell) (s : State) : Host.Outcome State Fault Refusal :=
  .next (when (s.planeUp plane && c.kind == .data) s (dataCell plane c s))

def execConfirmEntry (src stream sp tc first count_ : Nat) (s : State) : Host.Outcome State Fault Refusal :=
  .next (when (decide (tc < 8)) s (rackToken 1 src stream sp tc first count_ s))

def execVoidEntry (src stream sp tc first count_ : Nat) (s : State) : Host.Outcome State Fault Refusal :=
  .next (when (decide (tc < 8)) s (rackToken 2 src stream sp tc first count_ s))

/-! ### Credit at the destination -/

/-- This unit serves a system port: its own, or one of its pair SUN (R319, R388). -/
def State.servesSp (s : State) (sp : Nat) : Bool :=
  match s.spSun sp with
  | none => false
  | some x => x == s.dev.cfg.sun || (s.pair.cfg.pair.map PairCfg.pairSun) == some x

/-- A REQUEST carries the source's backlog; 0 withdraws it (R320, R321). -/
def requestEntry (src sp tc : Nat) (paired : Bool) (backlog : Nat) (s : State) : State :=
  let s := heardFrom src s
  if !s.servesSp sp then s
  else s.modFab (fun f => { f with requests := mput f.requests (creditKey sp tc src) (if backlog = 0 then none else some (backlog, b2n paired)) })

def execRequestEntry (src sp tc : Nat) (paired : Bool) (backlog : Nat) (s : State) : Host.Outcome State Fault Refusal :=
  .next (when (decide (tc < 8 ∧ src < 2048)) s (requestEntry src sp tc paired backlog s))

/-- Occupancy of a port-class in bytes (R321). -/
def State.classOcc (s : State) (p tc : Nat) : Nat :=
  let here (sp : Nat) : Bool := s.servesSp sp && s.localPort sp == p
  256 * sumOf (s.fab.creditOut.filter (fun e => e.1 / 2048 % 8 == tc && here (e.1 / 2048 / 8))) (fun e => e.2)
    + 256 * sumOf (s.rack.streams.filter (fun t => t.1 % 8 == tc && here (t.1 / 8 % 32768)))
        (fun t => (t.2.nums.filter (fun n => n.2.cell.isSome && n.2.st != .released)).length)
    + s.egressBytes p tc
def State.portOcc (s : State) (p : Nat) : Nat := sumOf (List.range 8) (s.classOcc p)
/-- CREDIT_TARGET of a port in bytes. -/
def State.creditTarget (s : State) (p : Nat) : Nat := s.portGbps p * s.fab.cfg.creditRtt / 8

/-- Requesting sources of a port and class, by key: those whose VOQ has room for a grant's credit (R322); none on a port whose packets
are flushed (R368). -/
def State.sources (s : State) (p tc : Nat) : List (Nat × Nat × Nat) :=
  if (s.eport p).hold = .flushed then []
  else s.fab.requests.filter (fun e => e.1 / 2048 % 8 == tc && s.localPort (e.1 / 2048 / 8) == p
    && decide (mgetD s.fab.creditOut e.1 0 + min 16 e.2.1 ≤ 2048))

/-- The first of a rising list after a position, around. -/
def nextAfter (last : Option Nat) (l : List Nat) : Option Nat :=
  match last with
  | none => l.head?
  | some k => match l.find? (fun x => decide (k < x)) with
    | some x => some x
    | none => l.head?

/-- The source of a class that is next, with its grant. Assumption log entry 64. -/
def State.nextSource (s : State) (p tc : Nat) : Option (Nat × Nat) :=
  let l := s.sources p tc
  (nextAfter (mget s.fab.rrClass (2 ^ 20 + p * 8 + tc)) (l.map (fun e => e.1))).map (fun k => (k, min 16 (mgetD s.fab.requests k (0, 0)).1))

/-- The port's target has room for a class's grant. -/
def State.grantFits (s : State) (p tc : Nat) : Bool :=
  match s.nextSource p tc with
  | none => false
  | some (_, g) => decide (s.portOcc p + 256 * g ≤ s.creditTarget p)

/-- The class that the port serves next: round robin, a class above half the target passed over while another can be served (R321). -/
def State.nextClass (s : State) (p : Nat) : Option Nat :=
  let asking := (List.range 8).filter (fun tc => s.sources p tc != [])
  let pass (tc : Nat) : Bool :=
    decide (s.creditTarget p < 2 * s.classOcc p tc) && asking.any (fun x => x != tc && s.grantFits p x)
  nextAfter (mget s.fab.rrClass p) (asking.filter (fun tc => !pass tc))

/-- The stream entry of a grant is held or can be allocated; a paired stream's number is not yet known, so a free entry is asked. -/
def State.grantEntry (s : State) (key : Nat) : Bool :=
  let paired := (mgetD s.fab.requests key (0, 0)).2 == 1
  let k := streamKey (key % 2048) (key / 2048 / 8) (key / 2048 % 8)
  if paired then decide (s.rack.streams.length < 65536) else s.entryRoom k

/-- No entry is free: the credit is deferred (R330). -/
def streamFull (s : State) : State :=
  let (fire, n, r) := s.fab.deferrals.hit s.mono
  let s := (count Cn.rackStreamFull 0 1 s).modFab (fun f => { f with deferrals := r })
  if fire then notify Ev.fabStreamFull (putLe 4 n) [] s else s

/-- The grant of the scheduler's next source on a port. -/
def grantCredit (p tc key g : Nat) (s : State) : State :=
  if !s.grantEntry key then streamFull s
  else
    let (b, fl) := mgetD s.fab.requests key (0, 0)
    let sp := key / 2048 / 8
    let src := key % 2048
    let s := s.modFab (fun f => { f with
      requests := mput f.requests key (if b ≤ g then none else some (b - g, fl)), creditOut := mmod f.creditOut key 0 (fun n => n + g),
      rrClass := mset (mset f.rrClass p tc) (2 ^ 20 + p * 8 + tc) key })
    let s := if fl = 1 then s else
      let k := streamKey src sp tc
      if mhas s.rack.streams k then s else s.setStream k { lastCell := s.mono }
    sendEntry [src] (creditEntryBytes sp tc g) s

/-- The credit scheduler grants its next source (R321, R322). -/
def execCreditGrant (sp tc src : Nat) (s : State) : Host.Outcome State Fault Refusal :=
  .next (
    let p := s.localPort sp
    match s.nextClass p with
    | none => s
    | some c => match s.nextSource p c with
      | none => s
      | some (key, g) =>
        when (c == tc && key == creditKey sp tc src && s.grantFits p c && decide (s.egressUsed + g ≤ s.adm.egress * 4096)
          && decide (mgetD s.fab.creditOut key 0 + g ≤ 2048)) s (grantCredit p c key g s))

/-! ### Timers of Racking -/

/-- R337. -/
def execHoleTimeout (stream sp tc : Nat) (s : State) : Host.Outcome State Fault Refusal :=
  let k := streamKey stream sp tc
  .next (match mget s.rack.streams k with
    | none => s
    | some t => match t.expected with
      | none => s
      | some e =>
        let unresolved := match mget t.nums e with | none => true | some x => x.st == .open_ || x.st == .confirmed || x.st == .held
        let here := (if t.paired then t.srcs else [stream]).any s.present
        when (t.blocked && unresolved && here && s.due (t.expectedSince + Config.us s.fab.cfg.holeTimeout)) s
          (let s := fault 5 16 0 (count Cn.rackHoleTimeout 0 1 s)
           let s := skipNumber k e s
           let s := s.modStream k (fun t => { t with skipped := addOnce t.skipped e })
           runStream k true s))

/-- R335: DUP_WAIT after the arrival of a copy from the member that is not active. -/
def execDupWaitExpiry (stream sp tc seq : Nat) (s : State) : Host.Outcome State Fault Refusal :=
  let k := streamKey stream sp tc
  .next (match mget (s.stream k).nums seq with
    | none => s
    | some x => when ((s.stream k).paired && x.st == .held && s.due (x.at_ + Config.us s.fab.cfg.dupWait)) s (pairedRun k s))

/-- R336: a member has sent nothing for MEMBER_SILENCE. -/
def execMemberSilenceExpiry (sun : Nat) (s : State) : Host.Outcome State Fault Refusal :=
  .next (when (s.silent sun) s (pairedAll none s))

/-- Credit outstanding for a stream. -/
def State.streamCredit (s : State) (k : Nat) (t : Stream) : Bool :=
  (if t.paired then t.srcs else [k / 2 ^ 18]).any (fun m => mhas s.fab.creditOut (creditKey (k / 8 % 32768) (k % 8) m))

/-- R330: the entry is freed 100 µs after its stream's last cell when nothing of it is left. -/
def execStreamEntryFree (stream sp tc : Nat) (s : State) : Host.Outcome State Fault Refusal :=
  let k := streamKey stream sp tc
  .next (match mget s.rack.streams k with
    | none => s
    | some t =>
      let held := t.nums.any (fun n => n.2.cell.isSome && n.2.st != .released)
      let unresolved := t.expected.isSome && t.nums.any (fun n => n.2.st != .released)
      when (!s.streamCredit k t && !held && !unresolved && s.due (t.lastCell + Config.us 100)) s
        (s.modRack (fun r => { r with streams := mdel r.streams k })))

end Sys2Proof.Machine
end

