-- ==== Sys2Proof/Machine/Fab.lean ====
section
/-! DEFINITION. FAB family: the FAB commands (Tables FB-7, FB-8), plane discovery (R108–R110, Table BU-6), lanes (R313), plane loss and
return (R341, R342) and units that leave the fabric (R110, R336). -/
namespace Sys2Proof.Machine

def fabRange (s : State) : Reply := .err s St.eArg Dt.fabRange
def State.modFabCfg (s : State) (f : FabCfg → FabCfg) : State := s.modFab (fun x => { x with cfg := f x.cfg })

/-! ### Units that come and go (R110) -/

/-- The UP planes that list a SUN. -/
def State.listedMask (s : State) (sun : Nat) : List Nat := s.planesUp.filter (fun p => mhas s.fab.listings (sunKey p sun))

/-- Packets that begin in a cell's bytes after the first `left` of them, and how many bytes the last one still wants. -/
def startsIn : Nat → Nat → List Byte → Nat × Nat
  | 0, left, _ => (0, left)
  | f + 1, left, b =>
    if b.length ≤ left then (0, left - b.length)
    else
      let b := b.drop left
      let (n, l) := startsIn f (16 + hdrLen b) b
      (n + 1, l)

/-- Packets known from stored cells in the order of their numbers: those that begin in a cell whose predecessors are there, and one for each
further run of cells. `at_` is the number after the cell before, `left` what its last packet still wants (none: not known). -/
def knownIn : Nat → Option Nat → List (Nat × Cell) → Nat
  | _, _, [] => 0
  | at_, left, (n, c) :: t =>
    if n ≠ at_ then 1 + knownIn ((n + 1) % 2 ^ 24) none t
    else match left with
      | none => knownIn ((n + 1) % 2 ^ 24) none t
      | some l =>
        let (k, l) := startsIn 17 l (c.payload.take (cellUsed c))
        k + knownIn ((n + 1) % 2 ^ 24) (some l) t

/-- The packets of a stream that this unit knows of and cannot release (R45). -/
def Stream.known (t : Stream) : Nat :=
  let e := t.expected.getD 0
  let stored := (mkeys t.nums).filterMap (fun n => ((mget t.nums n).bind Num.cell).map (fun c => (n, c)))
  let order := (stored.filter (fun x => decide (e ≤ x.1))) ++ stored.filter (fun x => decide (x.1 < e))
  if t.partial_ = [] then knownIn e (some t.skip_) order else 1 + knownIn e (some (16 + hdrLen t.partial_ - t.partial_.length)) order

/-- The streams of a unit that it held for this unit's own unpaired ports. -/
def State.ownStreams (s : State) (sun : Nat) : List Nat :=
  mkeys (s.rack.streams.filter (fun t => !t.2.paired && t.1 / 2 ^ 18 == sun && !s.isPaired (s.localPort (t.1 / 8 % 32768))))

/-- What this unit keeps for an absent unit: credit reserved for it, its requests, control cells toward it, its copies of cells for a
pair SUN, the unresolved numbers of its streams (R318, R321, R322, R328, R336, R388). Assumption log entry 163. -/
def unitAbsent (sun : Nat) (s : State) : State :=
  let s := s.modFab (fun f => { f with creditOut := f.creditOut.filter (fun e => decide (e.1 % 2048 ≠ sun)),
                                       requests := f.requests.filter (fun e => decide (e.1 % 2048 ≠ sun)) })
  let s := s.modRack (fun r => { r with ctl := mdel r.ctl sun })
  let mine := s.fab.retention.filter (fun c => c.copies.any (fun x => x.1 == sun)
    && (c.cell.kind == .ctrl || decide (s.spSun c.cell.sp ≠ some sun)))
  let s := foldS mine s (fun c s => ackCell c sun s)
  let inFlight := sumOf (s.ownStreams sun) (fun k => (s.stream k).known)
  let s := if s.member && sun == s.partnerOf && inFlight != 0 then
      count Cn.pairUnpairedLost 0 inFlight (s.modPair (fun p => { p with lost := p.lost + inFlight })) else s
  let s := foldS (mkeys (s.rack.streams.filter (fun t => !t.2.paired && t.1 / 2 ^ 18 == sun))) s absentStream
  pairedAll none s

/-- A SUN's mask turned empty: EV.FAB.SUN_DOWN. -/
def sunLeft (sun : Nat) (s : State) : State :=
  if s.listedMask sun ≠ [] then s
  else
    let s := count Cn.fabSunDown sun 1 (notify Ev.fabSunDown (putLe 2 sun) [] s)
    if s.present sun then s else unitAbsent sun s

/-- A plane no longer lists a SUN. -/
def unlist (plane sun : Nat) (s : State) : State :=
  if mhas s.fab.listings (sunKey plane sun) then
    sunLeft sun (s.modFab (fun f => { f with listings := mdel f.listings (sunKey plane sun) }))
  else s

def State.listingsOf (s : State) (plane : Nat) : List Nat :=
  (mkeys s.fab.listings).filterMap (fun k => if k / 2048 = plane then some (k % 2048) else none)

/-! ### Plane states (Table BU-6) -/

/-- HOLDOFF: 100 ms, or 1 s at the fourth entry within 10 s; an entry by block reset does not count (R341). -/
def enterHoldoff (p : Nat) (byReset : Bool) (s : State) : State :=
  let l := ((s.plane p).holdoffs.filter (fun t => decide (s.mono < t + Config.sec 10))) ++ (if byReset then [] else [s.mono])
  let flap := !byReset && decide (4 ≤ l.length)
  let s := if flap then count Cn.fabPlaneFlap p 1 s else s
  s.modPlane p (fun x => { x with st := .holdoff, holdoffs := l, timer := some (s.mono + if flap then Config.sec 1 else Config.ms 100) })

/-- The plane's key secret is discarded (R459). -/
def dropSecret (link : Nat) (s : State) : State := { s with sec := { s.sec with links := mdel s.sec.links link } }

/-- Copies in a lost plane's retransmission queue, and those last sent on it, join the queues of other planes; cells of its FIFO that nothing
would send again move to other planes (R341). -/
def movePlane (p : Nat) (s : State) : State :=
  let old := (s.plane p).retx
  let s := s.modPlane p (fun x => { x with retx := [] })
  let s := foldS s.fab.retention s (fun c s => foldS c.copies s (fun x s =>
    if x.2.2.2.2 && (decide ((c.key, x.1) ∈ old) || (s.retxPlane c.key x.1).isNone) then enqueueRetx c.key x.1 x.2.2.1 s else s))
  foldS (s.planeLanes p) s (fun l s =>
    let (cs, s) := takeCells l s
    foldS (cs.filter (fun c => c.kind == .ctrl && !c.reliable)) s (fun c s =>
      match (s.sprayMask c.dest).head? with
      | some q => queueCell q c s
      | none => s))

/-- A plane in UP is lost (R341): its unacknowledged cells become due, its listings go, it enters HOLDOFF. -/
def planeLoss (p : Nat) (byReset : Bool) (s : State) : State :=
  let s := s.modFab (fun f => { f with retention := f.retention.map (fun c =>
    { c with copies := c.copies.map (fun x =>
      if x.2.2.1.getLast? = some p then (x.1, x.2.1, x.2.2.1, x.2.2.2.1, true) else x) }) })
  let suns := s.listingsOf p
  let s := movePlane p (notify Ev.fabPlaneDown (putLe 1 p) [] (dropSecret p (enterHoldoff p byReset s)))
  let s := noPlaneLeft (foldS suns s (unlist p))
  if s.planesUp = [] ∧ s.planeMask s.dev.cfg.sun = [] then unitAbsent s.dev.cfg.sun s else s

/-- IDENTIFIED: the reachability timer runs once the SUN is assigned (R109). -/
def identify (p : Nat) (s : State) : State :=
  s.modPlane p (fun x => { x with st := .identified, timer := if s.dev.cfg.sun = 0xFFFF then none else some (s.mono + Config.ms 10) })

/-- DEV.SET_BOARD assigned the SUN. -/
def startReach (s : State) : State :=
  foldS (List.range 16) s (fun p s =>
    if (s.plane p).st = .identified ∧ (s.plane p).timer.isNone then s.modPlane p (fun x => { x with timer := some (s.mono + Config.ms 10) }) else s)

/-- A lane has trained with the right identity. -/
def laneJoins (p : Nat) (s : State) : State :=
  let s := if (s.plane p).st = .absent then s.modPlane p (fun x => { x with st := .forming, timer := some (s.mono + Config.ms 50) }) else s
  if (s.plane p).st = .forming ∧ (s.lanesUp p).length = (s.planeLanes p).length then identify p s else s

/-- Training may complete: the plane's domain is on, both ends agree on ENCRYPT, and an encrypted plane has its secret (R314, R459). -/
def State.laneTrains (s : State) (p : Nat) (encrypts : Bool) : Bool :=
  s.domOn (39 + p) && encrypts == (s.planeCfg p).encrypt && (!encrypts || (mgetD s.sec.links p {}).keyed) && (s.plane p).st != .holdoff

/-- A lane begins with frame 0 (R312). -/
def Lane.begin_ (l : Lane) (now : Nat) : Lane :=
  { l with trained := true, excluded := false, down := false, badTags := 0, framesRx := 0, trainedAt := now, txCells := [] }

/-- R108, R310. -/
def execFabLaneTrained (lane announced : Nat) (far : FarEnd) (s : State) : Host.Outcome State Fault Refusal :=
  .next (match s.planeOf lane with
    | none => s
    | some p =>
      when (s.laneTrains p far.encrypts && !(s.lane lane).trained) s
        (let s := s.modLane lane (fun l => { l with farUnit := far.isUnit, farSerial := far.serial })
         if announced = p then
          laneJoins p (s.modLane lane (fun l => { l.begin_ s.mono with announced := p, encrypts := far.encrypts }))
         else
          let s := s.modLane lane (fun l => { l with trained := false, excluded := true, down := false, announced := announced, encrypts := far.encrypts })
          count Cn.fabLaneMiswire lane 1 (notify Ev.fabLaneMiswire (putLe 1 lane ++ putLe 1 p ++ putLe 1 announced) [] s)))

/-- The fault of a lost lane (R506): lanes of a plane lost within 1 µs are one record, which becomes the plane's when they take it below
MIN_LANES (assumption log entry 68). -/
def laneFault (p lane cause : Nat) (lost : Bool) (s : State) : State :=
  let near (r : FRec) : Bool := r.cls == 3 && r.st == 1 && decide (r.unit ∈ s.planeLanes p) && decide (s.mono ≤ r.detectNs * 10 + Config.us 1)
  let bitOf (l : Nat) : Nat := 2 ^ ((s.planeLanes p).findIdx (fun x => x == l))
  match s.flt.log.find? near with
  | some r =>
    let one := r.detail ||| bitOf lane
    s.modRec r.id (fun r => if lost then { r with cls := 4, unit := p, occurrences := 1, lastAt := s.mono }
      else { r with unit := min r.unit lane, occurrences := r.occurrences + 1, detail := one, lastAt := s.mono })
  | none => if lost then fault 4 p 0 s else openFault 3 lane cause (bitOf lane) 1 false s

/-- R313: a lane goes down; the plane goes on, or is lost below MIN_LANES. -/
def laneDown (lane cause : Nat) (s : State) : State :=
  let (cs, s) := takeCells lane s
  let s := s.modLane lane (fun l => { l with trained := false, down := true })
  let s := match s.planeOf lane with
    | some p => foldS cs s (queueCell p)
    | none => s
  let s := count Cn.fabLaneDown lane 1 (notify Ev.fabLaneDown (putLe 1 lane ++ putLe 1 cause) [] s)
  match s.planeOf lane with
  | none => s
  | some p =>
    let lost := s.planeUp p && decide ((s.lanesUp p).length < (s.planeCfg p).minLanes)
    let s := laneFault p lane cause lost s
    fabricWindows (if lost then planeLoss p false s else s)

def execFabLaneDown (lane cause : Nat) (s : State) : Host.Outcome State Fault Refusal :=
  .next (when ((s.lane lane).inUse) s (laneDown lane cause s))

/-- R313: a retrained lane rejoins its plane. -/
def execFabLaneUp (lane : Nat) (s : State) : Host.Outcome State Fault Refusal :=
  .next (match s.planeOf lane with
    | none => s
    | some p =>
      let l := s.lane lane
      when (l.down && s.laneTrains p l.encrypts) s
        (laneJoins p (notify Ev.fabLaneUp (putLe 1 lane) []
          (s.modLane lane (fun l => l.begin_ s.mono)))))

def execFormationTimerExpiry (plane : Nat) (s : State) : Host.Outcome State Fault Refusal :=
  .next (match (s.plane plane).timer with
    | none => s
    | some t =>
      when ((s.plane plane).st == .forming && s.due t) s
        (if (s.planeCfg plane).minLanes ≤ (s.lanesUp plane).length then identify plane s
         else count Cn.fabPlaneShort plane 1 (s.modPlane plane (fun x => { x with timer := some (s.mono + Config.ms 50) }))))

def execReachabilityTimerExpiry (plane : Nat) (s : State) : Host.Outcome State Fault Refusal :=
  .next (match (s.plane plane).timer with
    | none => s
    | some t => when ((s.plane plane).st == .identified && s.due t) s (enterHoldoff plane false (count Cn.fabPlaneNoreach plane 1 s)))

/-- HOLDOFF ends: the plane is ABSENT and its lanes train afresh (assumption log entry 69). -/
def leaveHoldoff (p : Nat) (s : State) : State :=
  let s := s.modPlane p (fun x => { x with st := .absent, timer := none, listed := 0 })
  foldS (s.planeLanes p) s (fun l s => s.modLane l (fun x => { x with trained := false, excluded := false, down := false }))

def execHoldoffExpiry (plane : Nat) (s : State) : Host.Outcome State Fault Refusal :=
  .next (match (s.plane plane).timer with
    | none => s
    | some t => when ((s.plane plane).st == .holdoff && s.due t) s (leaveHoldoff plane s))

/-! ### Reachability (R110) -/

/-- One SUN of a reachability cell. -/
def listSun (plane sun : Nat) (s : State) : State :=
  let was := s.listedMask sun
  let s := s.modFab (fun f => { f with listings := mset f.listings (sunKey plane sun) s.mono })
  if was = [] then notify Ev.fabSunUp (putLe 2 sun ++ putLe 2 (maskOf (s.listedMask sun))) [] s else s

/-- Whole reachability periods missed before a cell. -/
def missedPeriods (last now : Nat) : Nat := (now - last + Config.us 25) / Config.us 50 - 1

def reachCell (plane : Nat) (suns : List Nat) (s : State) : State :=
  let first := (s.plane plane).st == .identified
  let miss := if first then 0 else missedPeriods (s.plane plane).reachAt s.mono
  let s := s.modPlane plane (fun x => { x with st := .up, timer := none, listed := suns.eraseDups.length, missed := x.missed + miss, reachAt := s.mono })
  let s := if first then notify Ev.fabPlaneUp (putLe 1 plane ++ putLe 1 (s.lanesUp plane).length) [] s else s
  foldS suns.eraseDups s (listSun plane)

def execReachCell (plane : Nat) (suns : List Nat) (s : State) : Host.Outcome State Fault Refusal :=
  .next (when ((s.planeUp plane || ((s.plane plane).st == .identified && s.dev.cfg.sun != 0xFFFF)) && suns.all (fun x => decide (x < 2048))) s
    (reachCell plane suns s))

/-- A SUN omitted for 150 µs; with its last SUN the plane is lost (R341). -/
def execSunListingTimeout (plane sun : Nat) (s : State) : Host.Outcome State Fault Refusal :=
  .next (match mget s.fab.listings (sunKey plane sun) with
    | none => s
    | some t =>
      when (s.planeUp plane && decide (sun < 2048) && s.due (t + Config.us 150)) s
        (let s := unlist plane sun s
         if s.listingsOf plane = [] then fabricWindows (planeLoss plane false (fault 4 plane 0 s)) else s))

/-- R343: in a back-to-back build the unit lists its own SUN on every plane, every 50 µs. -/
def execReachabilitySend (s : State) : Host.Outcome State Fault Refusal :=
  let ps := (List.range 16).filter (fun p => (s.planeCfg p).enabled && (s.planeCfg p).backToBack
    && ((s.plane p).st == .identified || (s.plane p).st == .up))
  .next (when (decide (s.dev.cfg.sun ≠ 0xFFFF) && ps != [] && s.due (s.fab.reachAt + Config.us 50)) s
    (foldS ps (s.modFab (fun f => { f with reachAt := s.mono })) (fun p s => s.emit (.reach p [s.dev.cfg.sun]))))

def execPlaneDownAnnounced (plane : Nat) (s : State) : Host.Outcome State Fault Refusal :=
  .next (when (s.planeUp plane) s (fabricWindows (planeLoss plane false (fault 4 plane 0 s))))

/-! ### Commands -/

/-- The lane list a command gives: unused places left out (Table FB-8). -/
def laneList (b : List Byte) : List Nat := (b.map (fun x => x.toNat)).filter (fun n => n != 0xFF)

/-- A lane of the list belongs to another enabled plane. -/
def State.laneTaken (s : State) (p : Nat) (lanes : List Nat) : Bool :=
  (List.range 16).any (fun q => q != p && (s.planeCfg q).enabled && (s.planeLanes q).any (fun l => decide (l ∈ lanes)))

/-- FAB.PLANE OP 2: a plane in UP is lost, and its domain goes off (R347). -/
def disablePlane (p : Nat) (s : State) : State :=
  let s := if s.planeUp p then planeLoss p false s
    else if (s.plane p).st = .holdoff then s else (dropSecret p (s.modPlane p (fun x => { x with st := .absent, timer := none })))
  let s := foldS (s.planeLanes p) s (fun l s => s.modLane l (fun _ => {}))
  let s := { s with pwr := { s.pwr with queue := without s.pwr.queue (39 + p) } }
  let wasOn := s.domOn (39 + p)
  let s := (s.modFabCfg (fun c => { c with planes := mmod c.planes p {} (fun x => { x with enabled := false }) })).setDom (39 + p) .off
  fabricWindows (rampNext 64 (if wasOn then domainEvent (39 + p) false s else s))

/-- FAB.PLANE (R311, R347). -/
def bodyFabPlane : Body := fun _ e s =>
  let p := e.p 24 1
  let op := e.p 25 1
  let mn := orDefault (e.p 26 1) 8
  let fl := e.p 27 1
  let lanes := laneList (bytesAt e.raw 28 10)
  let eff := if lanes = [] then upFrom (10 * p) 10 else lanes
  let old := s.planeCfg p
  if 15 < p ∨ (op ≠ 1 ∧ op ≠ 2) then fabRange s
  else if op = 2 then storing s (.ok (if old.enabled then disablePlane p s else s))
  else if 10 < mn ∨ lanes.any (fun l => decide (159 < l)) ∨ lanes.eraseDups.length ≠ lanes.length then fabRange s
  else if s.laneTaken p eff then .err s St.eState Dt.fabLaneTaken
  else if (s.plane p).st ≠ .absent ∧ s.planeLanes p ≠ eff then .err s St.eState Dt.fabPlaneBusy
  else
    let c : PlaneCfg := { enabled := true, minLanes := mn, encrypt := bit fl 0, backToBack := bit fl 1, lanes := lanes }
    let s' := powerOn (39 + p) (s.modFabCfg (fun x => { x with planes := mset x.planes p c }))
    let s' := if s'.planeUp p ∧ (s'.lanesUp p).length < mn then fabricWindows (planeLoss p false (fault 4 p 0 s')) else s'
    storing s (.ok s')

/-- What holds a system port's entry (R319). -/
def State.spBusy (s : State) (sp : Nat) : Bool :=
  (List.range 8).any (fun tc => !(s.voq (voqKey sp tc)).q.isEmpty || (s.voq (voqKey sp tc)).credits != 0)
    || s.fab.retention.any (fun c => c.cell.kind == .data && c.cell.sp == sp)
    || s.fab.creditOut.any (fun x => x.1 / 2048 / 8 == sp)
    || s.rack.streams.any (fun t => t.1 / 8 % 32768 == sp
        && (t.2.partial_ != [] || t.2.nums.any (fun n => n.2.cell.isSome && n.2.st != .released)))

/-- FAB.SPMAP records applied in order: the map, or the index, status and detail of the first that fails. -/
def spmapAll (s : State) : Nat → AMap SpEntry → List (List Byte) → AMap SpEntry × Option (Nat × Nat × Nat)
  | _, m, [] => (m, none)
  | i, m, r :: t =>
    let sp := le r 0 2
    let sun := le r 2 2
    let loc := le r 4 1
    let valid := bit (le r 5 1) 0
    if 1 < le r 5 1 ∨ le r 6 2 ≠ 0 then (m, some (i, St.eArg, Dt.hifReservedNonzero))
    else if 32767 < sp ∨ (valid ∧ (2047 < sun ∨ 127 < loc)) then (m, some (i, St.eArg, Dt.fabRange))
    else
      let old := mget m sp
      let new : Option SpEntry := if valid then some { sun := sun, localPort := loc } else none
      if old.isSome ∧ old ≠ new ∧ s.spBusy sp then (m, some (i, St.eState, Dt.fabSpBusy))
      else spmapAll s (i + 1) (mput m sp new) t

/-- FAB.SPMAP (R319). -/
def bodyFabSpmap : Body := fun vi e s =>
  let n := e.p 24 4
  if n = 0 ∨ 32768 < n then fabRange s
  else if e.dataLen ≠ 8 * n then badLen vi s
  else match spmapAll s 0 s.fab.cfg.spmap (chunks 8 n e.buf) with
    | (_, some (i, st, dt)) => .err s st dt (putLe 4 i)
    | (m, none) => storing s (.ok (s.modFabCfg (fun c => { c with spmap := m })) (putLe 4 0xFFFFFFFF))

/-- FAB.CONFIG (R337, R347). -/
def bodyFabConfig : Body := fun _ e s =>
  let a := orDefault (e.p 24 1) 8
  let r := orDefault (e.p 25 1) 4
  let d := orDefault (e.p 26 1) 4
  let h := orDefault (e.p 28 2) 200
  let c := orDefault (e.p 30 2) 3000
  let q := orDefault (e.p 32 2) 2000
  if a < 4 ∨ 62 < a ∨ r < 2 ∨ 8 < r ∨ 20 < d ∨ 10000 < h ∨ c < 1000 ∨ 20000 < c ∨ q < 500 ∨ 20000 < q then fabRange s
  else if h < 2 * r * a + 20 then .err s St.eArg Dt.fabTimeoutOrder
  else storing s (.ok (s.modFabCfg (fun x => { x with ackTimeout := a, retxMax := r, dupWait := d, holeTimeout := h, creditRtt := c, requestPeriod := q })))

/-- FAB.CT (R338). -/
def bodyFabCt : Body := fun _ e s =>
  let p := e.p 24 1
  let m := e.p 25 1
  if 127 < p ∧ p ≠ 0xFF then fabRange s
  else
    let ps := if p = 0xFF then List.range 128 else [p]
    storing s (.ok (s.modFabCfg (fun c => { c with ct := foldS ps c.ct (fun p m' => mput m' p (if m = 0 then none else some m)) })))

/-- SUNs with a non-empty plane mask. -/
def State.sunsReachable (s : State) : Nat := ((mkeys s.fab.listings).filter (fun k => s.planeUp (k / 2048))).map (fun k => k % 2048) |>.eraseDups.length
def State.planesUpMask (s : State) : Nat := maskOf s.planesUp

/-- FAB.STATUS (Table FB-8). -/
def bodyFabStatus : Body := fun _ _ s =>
  .read s [] (putLe 2 s.planesUpMask ++ ((List.range 16).flatMap (fun p => putLe 1 (s.lanesUp p).length))
    ++ putLe 2 (maskOf (((mkeys s.fab.suspect).map (fun k => k / 2048)).eraseDups)) ++ putLe 4 s.retUsed
    ++ putLe 4 (sumOf s.fab.creditOut (fun x => x.2)) ++ putLe 4 s.rack.streams.length ++ putLe 2 s.sunsReachable ++ zeros 30)

def execFabPlane (vi : Nat) (io : HostIo) (s : State) : Host.Outcome State Fault Refusal :=
  .next (runCommand 0x0901 vi io bodyFabPlane s)
def execFabSpmap (vi : Nat) (io : HostIo) (s : State) : Host.Outcome State Fault Refusal :=
  .next (runCommand 0x0902 vi io bodyFabSpmap s)
def execFabConfig (vi : Nat) (io : HostIo) (s : State) : Host.Outcome State Fault Refusal :=
  .next (runCommand 0x0903 vi io bodyFabConfig s)
def execFabCt (vi : Nat) (io : HostIo) (s : State) : Host.Outcome State Fault Refusal :=
  .next (runCommand 0x0904 vi io bodyFabCt s)
def execFabStatus (vi : Nat) (io : HostIo) (s : State) : Host.Outcome State Fault Refusal :=
  .next (runCommand 0x0905 vi io bodyFabStatus s)

end Sys2Proof.Machine
end

