-- ==== Sys2Proof/Machine/Port.lean ====
section
/-! DEFINITION. PORT family: the PORT commands (Tables LN-8 to LN-10, R148–R150), optics discovery (R111, Table BU-7), defects and the
debounce timers. -/
namespace Sys2Proof.Machine

def argErr (s : State) : Reply := .err s St.eArg Dt.hifNone

/-! ### Optics -/

/-- The ports in a cage, in ascending order. -/
def State.portsIn (s : State) (cage : Nat) : List Nat :=
  match mget s.dev.cfg.cages cage with
  | none => []
  | some m => mkeys (s.port.cfg.filter (fun e => m.holds e.1 e.2.lanes))

/-- The port an optics event names: the lowest in the cage, 0xFF for none. -/
def State.cagePort (s : State) (cage : Nat) : Nat := ((s.portsIn cage).head?).getD 0xFF

def State.cage (s : State) (c : Nat) : Cage := mgetD s.dev.cages c {}
def State.setCage (s : State) (c : Nat) (x : Cage) : State := { s with dev := { s.dev with cages := mset s.dev.cages c x } }

/-- Down cause MODULE on every port of a cage (Table LN-2). -/
def moduleCause (cage : Nat) (down : Bool) (s : State) : State := foldS (s.portsIn cage) s (fun p s => setCause p 4 down s)

def cageEvent (ev : Nat × Nat) (cage : Nat) (more : List Byte) (s : State) : State :=
  let p := s.cagePort cage
  notify ev (putLe 1 cage ++ putLe 1 p ++ more) (s.ownersOf p) s

/-- INSERT in EMPTY, and the return from MISMATCH or FAULT (Table BU-7): an application that suits the port's rate (Gb/s) is requested. -/
def cageInsert (cage : Nat) (apps : List Nat) (s : State) : State :=
  let want := (s.portsIn cage).head?.map s.portGbps
  let app := match want with
    | none => apps.head?
    | some r => if r ∈ apps then some r else none
  match app with
  | some r =>
    let s := (s.setCage cage { st := .present, apps := apps, since := s.mono }).emit (.appRequest cage r)
    cageEvent Ev.portModuleIn cage [] s
  | none =>
    let s := s.setCage cage { st := .mismatch, apps := apps, since := s.mono }
    let s := cageEvent Ev.portModuleMismatch cage [] s
    if s.cagePort cage = 0xFF then s else count Cn.portModuleMismatch (s.cagePort cage) 1 s

/-- A port of a cage in MISMATCH or FAULT was reconfigured to a suitable rate (Table BU-7, last row). -/
def cageRefit (p : Nat) (s : State) : State :=
  match s.cageOf p (((s.pcfg p).map PortCfg.lanes).getD 1) with
  | none => s
  | some c =>
    let x := s.cage c
    if (x.st = .mismatch ∨ x.st = .fault) ∧ s.portGbps p ∈ x.apps then cageInsert c x.apps s else s

/-- FAULT (Table BU-7). -/
def cageFault (cage code : Nat) (s : State) : State :=
  let s := s.setCage cage { s.cage cage with st := .fault }
  let s := cageEvent Ev.portModuleFault cage (putLe 2 code) s
  let s := if s.cagePort cage = 0xFF then s else count Cn.portModuleFault (s.cagePort cage) 1 s
  moduleCause cage true s

/-! The board controller's reports arrive over I3C and are handled by firmware. R111 does not say what becomes of a report that comes while
firmware is not ready: it is dropped (DESIGN CHOICE, assumption log entry 134). -/

def execModuleInsert (cage : Nat) (apps : List Nat) (s : State) : Host.Outcome State Fault Refusal :=
  .next (when (s.hif.fwReady && decide ((s.cage cage).st = .empty) && mhas s.dev.cfg.cages cage) s (cageInsert cage apps s))

/-- READY of a present module: port training starts (Table BU-7). -/
def cageReady (cage : Nat) (s : State) : State :=
  if (s.cage cage).st = .present then
    moduleCause cage false (cageEvent Ev.portModuleReady cage [] (s.setCage cage { s.cage cage with st := .ready }))
  else s

/-- READY, and READY after FAULT, which first acts as INSERT in EMPTY (Table BU-7). -/
def execModuleReady (cage : Nat) (s : State) : Host.Outcome State Fault Refusal :=
  .next (when (s.hif.fwReady && decide ((s.cage cage).st = .present ∨ (s.cage cage).st = .fault)) s
    (cageReady cage (if (s.cage cage).st = .fault then cageInsert cage (s.cage cage).apps s else s)))

def execModuleFault (cage code : Nat) (s : State) : Host.Outcome State Fault Refusal :=
  .next (when (s.hif.fwReady && decide ((s.cage cage).st = .present ∨ (s.cage cage).st = .ready)) s (cageFault cage code s))

/-- REMOVE acts in any state, EMPTY included (Table BU-7). -/
def execModuleRemove (cage : Nat) (s : State) : Host.Outcome State Fault Refusal :=
  .next (when (s.hif.fwReady && (mhas s.dev.cfg.cages cage || decide ((s.cage cage).st ≠ .empty))) s
    (moduleCause cage true (cageEvent Ev.portModuleOut cage [] (s.setCage cage {}))))

def execModuleFlag (cage : Nat) (flags : List Byte) (s : State) : Host.Outcome State Fault Refusal :=
  .next (when (s.hif.fwReady && decide ((s.cage cage).st = .ready)) s (cageEvent Ev.portModuleNotify cage (fit 14 flags) s))

/-- 60 s without READY. Table BU-9 gives no CMIS fault code for it: EV.PORT.MODULE_FAULT carries 0 (DESIGN CHOICE, assumption log entry 135). -/
def execModuleReadyTimeout (cage : Nat) (s : State) : Host.Outcome State Fault Refusal :=
  .next (when (s.hif.fwReady && decide ((s.cage cage).st = .present) && s.due ((s.cage cage).since + Config.sec 60)) s
    (cageFault cage 0 s))

/-! ### PORT.CONFIG -/

/-- A tributary, connection entry or protection group refers to an OTN port (R149). -/
def State.otnReferred (s : State) (p : Nat) : Bool :=
  s.frm.cfg.tribs.any (fun t => t.1 / 128 == p)
    || (s.frm.cfg.pages ++ s.frm.cfg.standby).any (fun e => (e.1 == p && e.2.any (fun w => decide (w.toNat / 2 ^ 30 ≠ 0)))
        || e.2.any (fun w => w.toNat / 2 ^ 30 == 2 && w.toNat / 2 ^ 16 % 256 == p))
    || s.frm.cfg.prots.any (fun g => g.2.wPort == p || g.2.pPort == p)

/-- The mode is one of Tables LN-1 and R122; false is E_UNSUPPORTED (R121, R122). -/
def modeSupported (type lanes cls fec n : Nat) : Bool :=
  if type = 1 then decide ((cls = 1 ∨ cls = 2) ∧ (fec = 1 ∨ (fec = 2 ∧ cls = 2)) ∧ lanes ∈ [1, 2, 4, 8])
  else decide (n ∈ [1, 2, 4, 8, 16])

/-- The port goes down with cause RETRAIN and trains again (R128). -/
def portRetrain (p : Nat) (s : State) : State := if (s.lport p).st = .disabled then s else retrainStart p s

/-- A port that changes type leaves its old type's own defects behind (Table LN-2): LOS, MODULE, ADMIN, FEC_DEGRADE, RETRAIN and LOOP_FAR belong to
both types. -/
def dropTypeDefects (p : Nat) (s : State) : State :=
  s.modPort p (fun x => { x with defects := x.defects &&& 0x1C031, tribAis := [], ambigSeen := false, hunt := [], huntOut := [],
                                 txSas := [], rxScs := [] })

/-- Delete a port (TYPE 0): Table LN-3's last row, the hold of R367, and its PFC setting (R294). Assumption log entry 118. -/
def portDelete (p : Nat) (s : State) : State :=
  let s := egressHold p (portDisable p s)
  let s := { s with port := { s.port with cfg := mdel s.port.cfg p },
                    adm := { s.adm with cfg := { s.adm.cfg with pfc := mdel s.adm.cfg.pfc p } } }
  let arrivals := (s.lport p).arrivals
  probeRefresh p (s.modPort p (fun x => { ({} : Port) with adminUp := x.adminUp, loopback := x.loopback, arrivals := arrivals }))

/-- The state of a new or changed port: MODULE while its cage is not READY, training, OTN held down in Cellar mode (R124). -/
def portApply (p : Nat) (c : PortCfg) (s : State) : State :=
  let old := s.pcfg p
  let s := { s with port := { s.port with cfg := mset s.port.cfg p c } }
  let quiet := match old with
    | none => false
    | some o => { o with maxFrame := c.maxFrame, downDebounce := c.downDebounce, upDebounce := c.upDebounce } == c
  let s := if quiet then s else if old.isSome then portRetrain p s else s
  let s := if (old.map PortCfg.type).getD c.type = c.type then s else dropTypeDefects p s
  let cageReady := match s.cageOf p c.lanes with | none => false | some g => (s.cage g).st == .ready
  let s := setCause p 4 (!cageReady) s
  let s := if c.type = 2 ∧ s.dev.phase ≠ .full then setCause p 15 true s else s
  let s := portTrain p s
  let s := if s.dev.phase = .cellar ∨ s.dev.phase = .full then powerOn (lanePd p) s else s
  cageRefit p (macsecRefresh p s)

/-- PORT.CONFIG (R119–R122, R128, R149). A speed at which the port's SecY may not keep its cipher suite is refused as R142 refuses the suite. -/
def bodyPortConfig : Body := fun _ e s =>
  let p := e.p 24 1
  let type := e.p 25 1
  let lanes := e.p 26 1
  let cls := e.p 27 1
  let fec := e.p 28 1
  let n := e.p 29 1
  let maxf := if e.p 30 2 = 0 then 9216 else e.p 30 2
  let down := e.p 34 2
  let up := if e.p 36 2 = 0 then 10 else e.p 36 2
  let sd := if e.p 38 1 = 0 then 4 else e.p 38 1
  let old := s.pcfg p
  let referred := (old.map PortCfg.type).getD 0 == 2 && s.otnReferred p
  if 127 < p ∨ 2 < type then argErr s
  else if type = 0 then
    if old.isNone then argErr s
    else if p ∈ s.frm.swapLeft then .err s St.eBusy Dt.frmSwapPending
    else if referred then .err s St.eState Dt.frmTribInUse
    else storing s (.ok (portDelete p s))
  else if !modeSupported type lanes cls fec n then .err s St.eUnsupported Dt.hifNone
  else if type = 1 ∧ n ≠ 0 then argErr s
  else if type = 2 ∧ (lanes ≠ max 1 (n / 2) ∨ cls ≠ 0 ∨ fec ≠ 0) then argErr s
  else if maxf < 64 ∨ 10240 < maxf ∨ 100 < down ∨ 10000 < up ∨ sd < 2 ∨ 9 < sd then argErr s
  else if p % lanes ≠ 0 then .err s St.eArg Dt.portAlign
  else if (s.cageOf p lanes).isNone then .err s St.eArg Dt.portCage
  else if s.port.cfg.any (fun x => decide (x.1 ≠ p) && rangesMeet (x.1, x.2.lanes) (p, lanes)) then .err s St.eState Dt.portOverlap
  else
    let kept := (old.filter (fun o => o.type == type)).getD {}
    let c : PortCfg := { kept with type := type, lanes := lanes, cls := cls, fec := fec, otucN := n, maxFrame := maxf,
                                   txInvert := e.p 32 1, rxInvert := e.p 33 1, downDebounce := down, upDebounce := up, sdExp := sd }
    if old = some c then .ok s
    else if type = 1 ∧ c.secy.cipher = 1 ∧ 200 < lanes * cls * 100 then .err s St.eUnsupported Dt.portCipherRate
    else if p ∈ s.frm.swapLeft then .err s St.eBusy Dt.frmSwapPending
    else if referred then .err s St.eState Dt.frmTribInUse
    else storing s (.ok (portApply p c s))

/-- PORT.ADMIN (R126, Table LN-10). Assumption log entry 25. Assumption log entry 120. -/
def bodyPortAdmin : Body := fun _ e s =>
  let p := e.p 24 1
  let st := e.p 25 1
  let loop := e.p 26 1
  if 127 < p ∨ 1 < st ∨ 2 < loop then argErr s
  else if (s.pcfg p).isNone then .err s St.eState Dt.hifNone
  else
    let s := s.modPort p (fun x => { x with adminUp := st == 1, loopback := loop })
    let s := if st = 0 then
        portDisable p (s.modPort p (fun x => { x with defects := setBit x.defects 5 true }))
      else portTrain p (s.modPort p (fun x => { x with defects := setBit x.defects 5 false }))
    .ok (setCause p 16 (loop == 2) s)

/-- STATE of Table LN-7. -/
def PortState.code : PortState → Nat
  | .disabled => 0 | .training => 1 | .upWait => 2 | .up => 3 | .downWait => 4 | .down => 5

/-- PORT.STATUS (Table LN-10). -/
def bodyPortStatus : Body := fun vi e s =>
  let p := e.p 24 1
  if 127 < p then argErr s
  else if !s.ownsPort vi p then notPermitted vi s
  else
    let x := s.lport p
    .read s (putLe 1 x.st.code ++ zeros 3 ++ putLe 4 x.defects.toNat ++ putLe 4 (s.counter Cn.portFlaps p)) []

/-! ### MACsec commands -/

/-- An Ethernet port is named, or the refusal. -/
def macsecPort (s : State) (p : Nat) : Option Reply :=
  match s.pcfg p with
  | none => some (if 127 < p then argErr s else .err s St.eState Dt.hifNone)
  | some c => if c.type = 2 then some (.err s St.eUnsupported Dt.hifNone) else none

def State.modPcfg (s : State) (p : Nat) (f : PortCfg → PortCfg) : State :=
  { s with port := { s.port with cfg := mmod s.port.cfg p {} f } }

/-- PORT.MACSEC_SECY (R20, R142, R150): a cipher suite that R142 does not list is unsupported; a change beyond ENABLE removes every SA. -/
def bodyPortMacsecSecy : Body := fun _ e s =>
  let p := e.p 24 1
  let cipher := e.p 26 1
  match macsecPort s p with
  | some r => r
  | none =>
    let thr := if e.p 48 8 = 0 then pnSpace cipher / 4 * 3 else e.p 48 8
    let y : SecY := { enable := e.p 25 1 == 1, cipher := cipher, confOffset := e.p 27 1, validate := e.p 28 1, flags := e.p 29 1,
                      txSci := e.p 32 8, replayWindow := e.p 40 4, pnThreshold := thr }
    if cipher = 0 ∨ 2 < cipher then .err s St.eUnsupported Dt.hifNone
    else if 1 < e.p 25 1 ∨ e.p 27 1 ∉ [0, 30, 50] ∨ 2 < e.p 28 1 ∨ 2 ^ 30 < e.p 40 4 then argErr s
    else if cipher = 1 ∧ 200 < ((s.pcfg p).map (fun c => c.lanes * c.cls * 100)).getD 0 then .err s St.eUnsupported Dt.portCipherRate
    else
      let same := { s.secy p with enable := y.enable } == y
      let s' := s.modPcfg p (fun c => { c with secy := y })
      let s' := if same then s' else s'.modPort p (fun x => { x with txSas := [], rxScs := x.rxScs.map (fun r => (r.1, [])) })
      storing s (.ok (macsecRefresh p s'))

/-- PORT.MACSEC_RXSC (R142, R150). -/
def bodyPortMacsecRxsc : Body := fun _ e s =>
  let p := e.p 24 1
  let op := e.p 25 1
  let sci := e.p 32 8
  match macsecPort s p with
  | some r => r
  | none =>
    let scs := (s.lport p).rxScs
    if op = 1 then
      if mhas scs sci then .ok s
      else if 64 ≤ scs.length ∨ 4096 ≤ sumOf s.port.ports (fun x => x.2.rxScs.length) then .err s St.eNospace Dt.portMacsecLimit
      else storing s (.ok ((s.modPort p (fun x => { x with rxScs := mset x.rxScs sci [] })).modPcfg p (fun c =>
        { c with scis := addOnce c.scis sci })))
    else if op = 2 then
      if !mhas scs sci then argErr s
      else storing s (.ok ((s.modPort p (fun x => { x with rxScs := mdel x.rxScs sci })).modPcfg p (fun c =>
        { c with scis := without c.scis sci })))
    else argErr s

/-- Install, remove or enable a transmit SA (R143, R150): one transmit SA is enabled at a time. -/
def txSaOp (op an : Nat) (key : Nat) (pn : Nat) (m : AMap Sa) : AMap Sa :=
  if op = 1 then mset m an { key := key, pn := pn }
  else if op = 2 then mdel m an
  else m.map (fun e => (e.1, { e.2 with enabled := e.1 == an }))

/-- The same on a receive SC. -/
def rxSaOp (op an : Nat) (key : Nat) (pn : Nat) (m : AMap Sa) : AMap Sa :=
  if op = 1 then mset m an { key := key, pn := pn }
  else if op = 2 then mdel m an
  else mmod m an {} (fun a => { a with enabled := true })

/-- A handle names a SAK that may serve a port (R143, R456). -/
def State.sakFor (s : State) (h p : Nat) : Bool :=
  match mget s.sec.keys h with
  | none => false
  | some k => !k.cak && (k.port == p || k.port == 0xFF)

/-- PORT.MACSEC_SA (R143, R150, R456, R457). KEY_HANDLE is checked and used by OP install only; remove and enable act on the SA that the AN names,
whatever KEY_HANDLE they carry (DESIGN CHOICE, assumption log entry 136). -/
def bodyPortMacsecSa : Body := fun _ e s =>
  let p := e.p 24 1
  let dir := e.p 25 1
  let an := e.p 26 1
  let op := e.p 27 1
  let h := e.p 28 2
  let sci := e.p 32 8
  let pn := e.p 40 8
  match macsecPort s p with
  | some r => r
  | none =>
    if 1 < dir ∨ 3 < an ∨ op = 0 ∨ 3 < op ∨ (dir = 0 ∧ sci ≠ 0) then argErr s
    else if mhas s.sec.mka p then .err s St.eState Dt.secMkaOwns
    else if op = 1 ∧ !s.sakFor h p then .err s St.eArg Dt.portNoKey
    else if dir = 0 then
      let m := (s.lport p).txSas
      let enabled := ((mget m an).map Sa.enabled).getD false
      if op ≠ 1 ∧ !mhas m an then argErr s
      else if op = 2 ∧ enabled then .err s St.eState Dt.portSaActive
      else .ok (macsecRefresh p (s.modPort p (fun x => { x with txSas := txSaOp op an h pn x.txSas })))
    else
      match mget (s.lport p).rxScs sci with
      | none => argErr s
      | some m =>
        if op ≠ 1 ∧ !mhas m an then argErr s
        else .ok (s.modPort p (fun x => { x with rxScs := mset x.rxScs sci (rxSaOp op an h pn m) }))

def execPortConfig (vi : Nat) (io : HostIo) (s : State) : Host.Outcome State Fault Refusal :=
  .next (runCommand 0x0301 vi io bodyPortConfig s)
def execPortAdmin (vi : Nat) (io : HostIo) (s : State) : Host.Outcome State Fault Refusal :=
  .next (runCommand 0x0302 vi io bodyPortAdmin s)
def execPortStatus (vi : Nat) (io : HostIo) (s : State) : Host.Outcome State Fault Refusal :=
  .next (runCommand 0x0303 vi io bodyPortStatus s)
def execPortMacsecSecy (vi : Nat) (io : HostIo) (s : State) : Host.Outcome State Fault Refusal :=
  .next (runCommand 0x0304 vi io bodyPortMacsecSecy s)
def execPortMacsecRxsc (vi : Nat) (io : HostIo) (s : State) : Host.Outcome State Fault Refusal :=
  .next (runCommand 0x0305 vi io bodyPortMacsecRxsc s)
def execPortMacsecSa (vi : Nat) (io : HostIo) (s : State) : Host.Outcome State Fault Refusal :=
  .next (runCommand 0x0306 vi io bodyPortMacsecSa s)

/-! ### Defects and timers -/

/-- A defect of Table LN-2 that the line itself shows: 0–3 on Ethernet, 0 and 7–13 on OTN. -/
def lineBit (otn : Bool) (i : Nat) : Bool := if otn then i == 0 || decide (7 ≤ i ∧ i ≤ 13) else decide (i ≤ 3)

/-- The port exists, and its lane group is powered and not being reset. -/
def State.portLive (s : State) (p : Nat) : Bool := (s.pcfg p).isSome && s.domOn (lanePd p) && decide ((4, p / 8) ∉ s.dev.blockResets)

/-- ODU AIS at the input of one through tributary rises or clears. Assumption log entry 30. -/
def tribDefect (p t : Nat) (on : Bool) (s : State) : State :=
  let before := s
  let s := s.modPort p (fun x => { x with tribAis := if on then addOnce x.tribAis t else without x.tribAis t })
  let s := if on then count Cn.frmAis p 1 s else s
  protRefreshAll before
    (notify Ev.frmDefect (putLe 1 p ++ putLe 1 t ++ putLe 1 12 ++ putLe 1 (b2n on)) (s.ownersOf p) s)

/-- R129: detection. The command comes when the detection condition of Table LN-4 has held on the line for its time; OOF is state, so LOF is
detected only once OOF has persisted for 3 ms (assumption log entry 138). -/
def execLineDefectDetect (port bit : Nat) (trib : Option Nat) (s : State) : Host.Outcome State Fault Refusal :=
  .next (when (s.portLive port && lineBit (s.isOtn port) bit) s
    (match trib with
    | some t =>
      if bit = 12 ∧ ((mget s.frm.cfg.tribs (port * 128 + t)).map Trib.kind).getD 0 = 2 then
        when (decide (t ∉ (s.lport port).tribAis)) s (tribDefect port t true s)
      else when (!(s.lport port).defects.getLsbD bit) s (lineDefect port bit trib true s)
    | none =>
      when (!(s.lport port).defects.getLsbD bit && (bit != 8 || ((s.lport port).defects.getLsbD 7 && s.due ((s.lport port).oofAt + Config.ms 3)))) s
        (lineDefect port bit none true s)))

/-- R129: clearing; OOF clears by the hunt alone, LOF once in-frame has persisted for 3 ms (assumption log entry 138). -/
def execLineDefectClear (port bit : Nat) (trib : Option Nat) (s : State) : Host.Outcome State Fault Refusal :=
  .next (when (s.portLive port && lineBit (s.isOtn port) bit && bit != 7) s
    (match trib with
    | some t =>
      if bit = 12 ∧ ((mget s.frm.cfg.tribs (port * 128 + t)).map Trib.kind).getD 0 = 2 then
        when (decide (t ∈ (s.lport port).tribAis)) s (tribDefect port t false s)
      else when ((s.lport port).defects.getLsbD bit) s (lineDefect port bit trib false s)
    | none =>
      when ((s.lport port).defects.getLsbD bit
          && (bit != 8 || (!(s.lport port).defects.getLsbD 7 && s.due ((s.lport port).inFrameAt + Config.ms 3)))) s
        (lineDefect port bit none false s)))

/-- EV.PORT.FEC_DEGRADE with the defect bit and protection (R129). Assumption log entry 29. Assumption log entry 117. -/
def fecDegrade (p : Nat) (on : Bool) (s : State) : State :=
  lineDefect p 14 none on (notify Ev.portFecDegrade (putLe 1 p ++ putLe 1 (b2n on)) (s.ownersOf p) s)

/-- A 10 ms pre-FEC window ends (R129); how many codewords held its symbol errors is a free value: raised above 10^-SD_EXP, cleared after 10 windows in a row below 10^-(SD_EXP+1). -/
def execFecDegradeWindow (port errors symbols : Nat) (s : State) : Host.Outcome State Fault Refusal :=
  .next (when (s.portLive port) s
    (let sd := ((s.pcfg port).map PortCfg.sdExp).getD 4
     let s := count Cn.portFecSymbols port errors s
     let s := if errors = 0 then s else (count Cn.portFecCorr port (min errors (Config.freeNat s.draw)) s).drawn
     let on := (s.lport port).defects.getLsbD 14
     if !on then (if symbols < errors * 10 ^ sd then fecDegrade port true (s.modPort port (fun x => { x with goodWindows := 0 })) else s)
     else if errors * 10 ^ (sd + 1) < symbols then
       (if (s.lport port).goodWindows + 1 < 10 then s.modPort port (fun x => { x with goodWindows := x.goodWindows + 1 })
        else fecDegrade port false (s.modPort port (fun x => { x with goodWindows := 0 })))
     else s.modPort port (fun x => { x with goodWindows := 0 })))

/-- One hunt cycle over the offsets that show a FAS one frame period after the last cycle, each with its MFAS (R131): a candidate whose MFAS does not
rise by one is excluded for the next cycle, one that shows no FAS starts again; the candidates and the excluded offsets. -/
def huntCycle (shown : List (Nat × Nat)) (x : Port) : AMap (Nat × Nat) × List Nat :=
  let l := shown.filter (fun e => decide (e.1 ∉ x.huntOut))
  let rises (e : Nat × Nat) : Bool := match mget x.hunt e.1 with | none => true | some (_, m) => e.2 % 256 == (m + 1) % 256
  ((l.filter rises).foldl (fun m e => mset m e.1 (((mget x.hunt e.1).map (fun h => h.1)).getD 0 + 1, e.2 % 256)) [],
   (l.filter (fun e => !rises e)).map (fun e => e.1))

/-- Candidates that have shown three consecutive FAS (R131). -/
def qualifying (h : AMap (Nat × Nat)) : Nat := (h.filter (fun e => decide (3 ≤ e.2.1))).length

/-- One hunt cycle (R131, R132): the offsets that show a FAS with their MFAS, once the FlexO alignment markers of every instance are found; the only
candidate that qualifies is in frame; two or more are none. -/
def execAlignmentHuntCycle (port : Nat) (view : HuntView) (s : State) : Host.Outcome State Fault Refusal :=
  let (cands, out) := if view.markers then huntCycle view.shown (s.lport port) else ([], [])
  let n := qualifying cands
  .next (when (s.portLive port && s.isOtn port && (s.lport port).defects.getLsbD 7) s
    (let s := s.modPort port (fun x => { x with hunt := cands, huntOut := out })
     if n = 0 then s
     else if n = 1 then lineDefect port 7 none false s
     else
       let s := count Cn.frmHuntAmbig port 1 s
       if (s.lport port).ambigSeen then s
       else notify Ev.frmHuntAmbig (putLe 1 port ++ zeros 1 ++ putLe 2 n) (s.ownersOf port)
              (s.modPort port (fun x => { x with ambigSeen := true }))))

/-- Lanes lock with no down cause but RETRAIN, which ends with it: UP_DEBOUNCE starts, or DOWN_WAIT returns to UP (Table LN-3). An OTN port locks in full service
only (R124). -/
def execPortLanesLocked (port : Nat) (s : State) : Host.Outcome State Fault Refusal :=
  let x := s.lport port
  let rest := x.causes &&& ~~~ (0x8000 : Word)
  .next (when (s.portLive port && decide (rest = 0) && (!s.isOtn port || decide (s.dev.phase = .full))
      && decide (x.st = .training ∨ ((x.st = .down ∨ x.st = .downWait) ∧ x.causes ≠ 0))) s
    (match s.pcfg port with
     | none => s
     | some c =>
       if x.st = .downWait then
         retrainDone port (portEvaluate port (s.modPort port (fun x => { x with defects := setBit x.defects 15 false })))
       else
       retrainDone port (s.modPort port (fun x =>
         { x with st := .upWait, defects := setBit x.defects 15 false, timer := some (s.mono + Config.ms c.upDebounce) }))))

def execUpDebounceExpiry (port : Nat) (s : State) : Host.Outcome State Fault Refusal :=
  let x := s.lport port
  .next (when (decide (x.st = .upWait) && (x.timer.map s.due).getD false) s (portEnterUp port s))

def execDownDebounceExpiry (port : Nat) (s : State) : Host.Outcome State Fault Refusal :=
  let x := s.lport port
  .next (when (decide (x.st = .downWait) && (x.timer.map s.due).getD false) s (portEnterDown port s))

end Sys2Proof.Machine
end

