-- ==== Sys2Proof/Machine/Flt.lean ====
section
/-! DEFINITION. FLT family: the FLT commands (Table IF-8), error injection (R511), the Wort Bridge's flits and lanes (R502), table HBM
pseudo-channels (R505), mash pipe faults and the closing of fault records (R506). -/
namespace Sys2Proof.Machine

/-! ### The Wort Bridge (R502): lanes 0–2,047 carry data, 2,048–2,079 are repair lanes, four for each slice group -/

def wbGroupOf (lane : Nat) : Nat := if lane < 2048 then lane / 256 else (lane - 2048) / 4
def wbUnit (dir lane : Nat) : Nat := dir * 4096 + lane
def State.wbGroup (s : State) (dir g : Nat) : WbGroup := mgetD s.flt.wb (dir * 8 + g) {}
def State.modWb (s : State) (dir g : Nat) (f : WbGroup → WbGroup) : State :=
  { s with flt := { s.flt with wb := mmod s.flt.wb (dir * 8 + g) {} f } }
/-- Counter index of kind G (Table CT-1). -/
def wbIndex (dir g : Nat) : Nat := g * 2 + dir

/-- The group's repair lanes that could still be placed in service. -/
def WbGroup.spares (x : WbGroup) (g : Nat) : List Nat :=
  (upFrom (2048 + 4 * g) 4).filter (fun l => decide (l ∉ x.failed ∧ l ∉ x.repaired))

/-- The lane carries traffic: a data lane, or a repair lane in service. -/
def WbGroup.carries (x : WbGroup) (lane : Nat) : Bool := decide (lane < 2048) || decide (lane ∈ x.repaired)

/-- A lane fails: a repair lane replaces it, or the group re-stripes (R502). An idle repair lane has nothing to replace. -/
def wbLaneFail (dir lane : Nat) (s : State) : State :=
  let g := wbGroupOf lane
  let x := s.wbGroup dir g
  let y : WbGroup := { x with failed := x.failed ++ [lane] }
  if !x.carries lane then endWindow 1 (wbUnit dir lane) (fault 1 (wbUnit dir lane) 0 (s.modWb dir g (fun _ => y)))
  else if x.pendingRepair.length < (y.spares g).length then
    fault 1 (wbUnit dir lane) 0 (s.modWb dir g (fun _ => { y with pendingRepair := y.pendingRepair ++ [lane] }))
  else fault 2 (dir * 4096 + g) 0 (s.modWb dir g (fun _ => { y with restriping := true }))

def State.wbLaneGood (s : State) (dir lane : Nat) : Bool :=
  s.dev.bridgeUp && decide (dir < 2 ∧ lane < 2080) && !decide (lane ∈ (s.wbGroup dir (wbGroupOf lane)).failed)

def execWbLaneFail (dir lane : Nat) (s : State) : Host.Outcome State Fault Refusal :=
  .next (when (s.wbLaneGood dir lane) s (wbLaneFail dir lane s))

/-- The flits in flight are replayed. -/
def wbReplay (dir g : Nat) (s : State) : State :=
  (count Cn.fltWbReplay (wbIndex dir g) 1 s).emit (.flitReplay dir g (s.wbGroup dir g).expected)

/-- The lowest spare repair lane takes the place of the failed lane. -/
def execWbLaneRepairDone (dir lane : Nat) (s : State) : Host.Outcome State Fault Refusal :=
  .next (
    let g := wbGroupOf lane
    let x := s.wbGroup dir g
    when (decide (lane ∈ x.pendingRepair) && s.recoveryTurn 1 (wbUnit dir lane)) s
      (let y : WbGroup := { x with pendingRepair := without x.pendingRepair lane, repaired := x.repaired ++ (x.spares g).take 1 }
       let s := count Cn.fltWbLaneRepair (wbIndex dir g) 1 (s.modWb dir g (fun _ => y))
       endWindow 1 (wbUnit dir lane) (wbReplay dir g s)))

/-- The largest multiple of 32 healthy lanes (R502). -/
def WbGroup.newWidth (x : WbGroup) : Nat := 32 * (min 256 (260 - x.failed.length) / 32)

/-- The load of a group is above what a width carries: towards the Q-die by the bytes of its ports in the last window, from it a free value
(assumption log entry 100). -/
def State.wbOver (s : State) (dir g width : Nat) : Bool :=
  if dir = 0 then decide (wbBytes width < max (mgetD s.mash.mill.bytes g 0) (mgetD s.mash.mill.prevBytes g 0))
  else decide (Config.freeNat s.draw % 2 = 1)

/-- The group runs at its new width; its record carries DEGRADED where that lies below its load. -/
def execWbRestripeDone (dir group : Nat) (s : State) : Host.Outcome State Fault Refusal :=
  .next (
    let x := s.wbGroup dir group
    when (x.restriping && decide (dir < 2 ∧ group < 8) && s.recoveryTurn 2 (dir * 4096 + group)) s
      (let low := s.wbOver dir group x.newWidth
       let s := s.drawn.modWb dir group (fun x => { x with restriping := false, width := x.newWidth })
       let s := match s.standing 2 (dir * 4096 + group) with
         | some r => s.modRec r.id (fun r => { r with degraded := r.degraded || low })
         | none => s
       endWindow 2 (dir * 4096 + group) (wbReplay dir group s)))

/-- A flit arrives (R502): the next good one is acknowledged; a bad or missing one asks once for a replay from the first that failed; one
already received is acknowledged again. -/
def execWbFlitReceive (dir group seq : Nat) (crcOk : Bool) (s : State) : Host.Outcome State Fault Refusal :=
  .next (
    let x := s.wbGroup dir group
    when (s.dev.bridgeUp && decide (dir < 2 ∧ group < 8)) s
      (if crcOk && decide (seq < x.expected) then s.emit (.flitAck dir group seq)
       else if crcOk && seq == x.expected then
         (s.modWb dir group (fun x => { x with expected := seq + 1, replaying := false })).emit (.flitAck dir group seq)
       else if x.replaying then s
       else wbReplay dir group (s.modWb dir group (fun x => { x with replaying := true }))))

/-! ### Table HBM (R505) -/

def tblPcFail (stack pc : Nat) (s : State) : State :=
  let k := stack * 32 + pc
  fault 9 k 0 { s with flt := { s.flt with tblPcFailed := addOnce s.flt.tblPcFailed k, tblPcCopying := addOnce s.flt.tblPcCopying k } }

/-- A table pseudo-channel in service. -/
def State.tblPcGood (s : State) (stack pc : Nat) : Bool :=
  decide (stack < 2 ∧ pc < 32 ∧ stack ∈ s.dev.hbmUp ∧ stack * 32 + pc ∉ s.flt.tblPcFailed)

def execTblPcFail (stack pc : Nat) (s : State) : Host.Outcome State Fault Refusal :=
  .next (when (s.tblPcGood stack pc) s (tblPcFail stack pc s))

/-- Firmware has copied the range into spare capacity. -/
def execTblPcRecopyDone (stack pc : Nat) (s : State) : Host.Outcome State Fault Refusal :=
  .next (
    let k := stack * 32 + pc
    when (s.hif.fwReady && decide (k ∈ s.flt.tblPcCopying) && s.recoveryTurn 9 k) s
      (endWindow 9 k { s with flt := { s.flt with tblPcCopying := without s.flt.tblPcCopying k } }))

/-! ### Mash pipes (R503, Table BU-4) -/

/-- A pipe is reset: its packets without a result go to the other active pipes with their stamps (R213). -/
def pipeReset (pipe : Nat) (s : State) : State :=
  let s := { s with dev := { s.dev with blockResets := addOnce s.dev.blockResets (1, pipe) } }
  let mine := s.mash.pkts.filter (fun m => m.stamp.isSome && m.verdict.isNone && m.pipe == pipe)
  foldS mine s (fun m s =>
    match s.nextPipe with
    | none => s
    | some p => (s.setMpkt { m with pipe := p, asaAsk := none, rdAsk := none, bankWait := false }).modMash (fun x => { x with nextPipe := p + 1 }))

def execMashPipeFault (pipe : Nat) (s : State) : Host.Outcome State Fault Refusal :=
  .next (when (decide (pipe ∈ s.dev.pipes)) s (pipeReset pipe (fault 12 pipe 0 s)))

/-! ### Records -/

/-- R506: 1 s after the last occurrence. -/
def execFaultRecordClose (record : Nat) (s : State) : Host.Outcome State Fault Refusal :=
  .next (match s.flt.log.find? (fun r => r.id == record) with
    | none => s
    | some r => when (r.st == 2 && s.due (r.lastAt + Config.sec 1)) s (s.modRec record (fun r => { r with st := 3 })))

/-- A record as Table IF-3 lays it out. -/
def FRec.bytes (r : FRec) : List Byte :=
  putLe 4 r.id ++ putLe 1 r.cls ++ putLe 1 r.st ++ putLe 1 r.severity
    ++ putLe 1 (flag r.injected 0 + flag r.double 1 + flag r.degraded 2 + flag r.preempted 3) ++ putLe 2 r.unit ++ putLe 2 r.cause
    ++ putLe 4 r.partner ++ putLe 8 r.detectNs ++ putLe 8 r.detectTime ++ putLe 8 r.windowEnd ++ putLe 4 r.occurrences
    ++ putLe 4 r.discards ++ putLe 4 r.doubleLoss ++ putLe 4 (sat 32 r.interrupt) ++ putLe 8 r.detail

/-- The log in RECORD_ID order. -/
def State.logById (s : State) : List FRec :=
  (sortUp (s.flt.log.map FRec.id)).filterMap (fun i => s.flt.log.find? (fun r => r.id == i))

/-! ### Commands -/

/-- FLT.STATUS (Table IF-8). -/
def bodyFltStatus : Body := fun _ _ s =>
  let l := s.logById
  let open_ := l.filter (fun r => r.st == 1)
  let low := (List.range 8).filter (fun g => [0, 1].any (fun d => decide ((s.wbGroup d g).width < 256)))
  .read s [] (putLe 4 open_.length ++ putLe 4 ((l.head?.map FRec.id).getD 0) ++ putLe 4 ((l.getLast?.map FRec.id).getD 0)
    ++ putLe 4 s.flt.doubles ++ putLe 4 (maskOf (open_.map FRec.cls)) ++ putLe 1 (maskOf low) ++ zeros 11)

/-- FLT.LOG_READ (Table IF-8). -/
def bodyFltLogRead : Body := fun vi e s =>
  let from_ := e.p 24 4
  let n := e.p 28 1
  if n = 0 ∨ 64 < n then argErr s
  else if e.dataLen < 64 * n then badLen vi s
  else
    let l := s.logById
    let gap := match l.head? with | some r => decide (from_ < r.id) | none => false
    let got := (l.filter (fun r => decide (from_ ≤ r.id) && (!bit (e.p 29 1) 0 || r.st == 1))).take n
    let next := match got.getLast? with | some r => r.id + 1 | none => from_
    .read s (putLe 1 got.length ++ putLe 1 (b2n gap) ++ zeros 2 ++ putLe 4 next) (got.flatMap FRec.bytes)

/-- UNIT and COUNT suit a target of Table IF-6, and UNIT names a powered resource that has not failed (R514). -/
def State.injectable (s : State) (target unit n : Nat) : Bool :=
  let many := decide (1 ≤ n ∧ n ≤ 1024)
  let pcOk (stack pc : Nat) : Bool := decide (stack ∈ s.bufStacks ∧ stack * 32 + pc ∉ s.adm.pcFailed)
  let bankOn := (s.bank unit).st == .on || (s.bank unit).st == .cellar
  match target with
  | 1 => many && decide (unit < 128) && s.portLive unit
  | 2 => many && decide (unit < 16) && s.domOn (39 + unit) && (s.plane unit).st != .holdoff
  | 3 | 4 => many && unit == 0 && s.domOn 8
  | 5 => many && pcOk (unit / 32) (unit % 32)
  | 6 => n == 1 && (pcOk (unit / 32) (unit % 32) || s.tblPcGood (unit / 32) (unit % 32))
  | 7 => n == 1 && decide (unit < 160) && (s.lane unit).inUse
  | 8 => n == 1 && s.wbLaneGood (unit / 4096) (unit % 4096)
  | 9 => many && decide (unit < 8) && bankOn
  | 10 => n == 1 && decide (unit < 8) && bankOn
  | 11 => n == 1 && decide (unit < 128) && s.portLive unit
  | _ => false

/-- The error strikes, or is armed for the next occurrences (R511). Which of its three causes an injected lane or pseudo-channel failure
reports is a free value (assumption log entry 101). -/
def strike (target unit n : Nat) (s : State) : State :=
  let cause := 1 + Config.freeNat s.draw % 3
  match target with
  | 6 => if unit / 32 < 2 then tblPcFail (unit / 32) (unit % 32) s else pcFail (unit / 32) (unit % 32) cause s.drawn
  | 7 => laneDown unit cause s.drawn
  | 8 => wbLaneFail (unit / 4096) (unit % 4096) s
  | 10 => bankFault unit 1 s
  | 11 => (match s.mash.trub.find? (fun t => t.2.port == unit) with
    | some t => trubEcc t.1 s
    | none => s)
  | _ =>
    let old := s.flt.armed.find? (fun a => a.target == target && a.unit == unit)
    let rest := s.flt.armed.filter (fun a => !(a.target == target && a.unit == unit))
    { s with flt := { s.flt with armed := rest ++ [{ target := target, unit := unit, left := n + (old.map Armed.left).getD 0 }] } }

/-- FLT.INJECT (R511, R514). Records opened or joined by the injection carry INJECTED. -/
def bodyFltInject : Body := fun _ e s =>
  let target := e.p 24 1
  if !s.injectable target (e.p 26 2) (e.p 28 4) then .err s St.eArg Dt.fltTarget
  else if s.recovering.isSome && !bit (e.p 25 1) 0 then .err s St.eState Dt.fltRecovering
  else
    let id := s.flt.nextId
    let t := strike target (e.p 26 2) (e.p 28 4) (count Cn.fltInjected target 1 s)
    let fresh (r : FRec) : Bool := !decide (r.id < id)
      || s.flt.log.any (fun o => o.id == r.id && decide (o.occurrences ≠ r.occurrences))
    let t := { t with flt := { t.flt with log := t.flt.log.map (fun r => if fresh r then { r with injected := true } else r) } }
    .ok t (putLe 4 (if id < t.flt.nextId then id else 0))

def execFltStatus (vi : Nat) (io : HostIo) (s : State) : Host.Outcome State Fault Refusal :=
  .next (runCommand 0x0F01 vi io bodyFltStatus s)
def execFltLogRead (vi : Nat) (io : HostIo) (s : State) : Host.Outcome State Fault Refusal :=
  .next (runCommand 0x0F02 vi io bodyFltLogRead s)
def execFltInject (vi : Nat) (io : HostIo) (s : State) : Host.Outcome State Fault Refusal :=
  .next (runCommand 0x0F03 vi io bodyFltInject s)

end Sys2Proof.Machine
end

