-- ==== Sys2Proof/Machine/Pair.lean ====
section
/-! DEFINITION. PAIR family: the PAIR commands (Table PR-6), discovery (Table BU-8), the bung (R395–R400, Table PR-4), ANNOUNCE, RECON,
MARK, anchoring (R408), draught checks (R410) and the peer lanes (R405). -/
namespace Sys2Proof.Machine

/-! ### Commands -/

def PairState.code : PairState → Nat
  | .none_ => 0 | .seeking => 1 | .solo => 2 | .active => 3 | .fenced => 4 | .syncing => 5 | .standby => 6 | .stale => 7 | .taking => 8

/-- Discovery and the pair state machine begin (Tables BU-8, PR-4). -/
def startSeeking (s : State) : State :=
  let s := s.modPair (fun p => { p with st := .seeking, disc := .seeking, helloMatches := 0, seekSince := s.mono, helloAt := s.mono,
                                        announceAt := s.mono, draughtAt := s.mono, tA := none, tail := [], tailBytes := 0, tailSince := none })
  if s.dev.phase = .cellar ∨ s.dev.phase = .full then powerOn 55 s else s

/-- The pair configuration is removed: duties and lease stop (Table PR-4, last row). -/
def stopPair (s : State) : State :=
  let s := becomeSolo s
  s.modPair (fun p => { cfg := p.cfg, peerLanes := p.peerLanes, gen := p.gen, highGen := p.highGen, nextMark := p.nextMark })

/-- PAIR.CONFIG (R380, R415). -/
def bodyPairConfig : Body := fun _ e s =>
  let c : PairCfg := { partner := e.p 24 2, pairSun := e.p 26 2, priority := e.p 29 1, wait := orDefault (e.p 30 2) 2000,
                       draught := orDefault (e.p 32 2) 60, staleLag := orDefault (e.p 34 2) 2 }
  let put (c : Option PairCfg) (s : State) : State := s.modPair (fun p => { p with cfg := { p.cfg with pair := c } })
  if e.p 28 1 = 2 then
    if s.holdsBung && decide (s.partnerState = 6 ∨ s.partnerState = 7) then .err s St.eState Dt.pairInUse
    else if s.member then storing s (.ok (stopPair (put none s)))
    else storing s (.ok s)
  else if e.p 28 1 ≠ 1 ∨ 2047 < c.partner ∨ 2047 < c.pairSun ∨ c.wait < 100 ∨ 60000 < c.wait ∨ c.draught < 10 ∨ 3600 < c.draught
      ∨ 1000 < c.staleLag then argErr s
  else if c.partner = s.dev.cfg.sun ∨ c.pairSun = s.dev.cfg.sun ∨ s.pair.cfg.ports.any (fun p => p.2.stream == c.pairSun) then
    .err s St.eArg Dt.pairSunConflict
  else
    let same := s.pair.cfg.pair.any (fun o => o.partner == c.partner && o.pairSun == c.pairSun)
    storing s (.ok (if same then put (some c) s else startSeeking (put (some c) (if s.member then stopPair s else s))))

/-- Both members hold equal settings for a port (R382). -/
def pairRematch (p : Nat) (s : State) : State :=
  let own := (mget s.pair.cfg.ports p).map (fun c => (c.txMode, c.stream))
  s.modPpair p (fun x => { x with matched := own.isSome && x.partner == own })

/-- The sum of the speeds of SHARED ports, in Gb/s (R392). -/
def State.sharedGbps (s : State) (ports : AMap PairPortCfg) : Nat :=
  sumOf (ports.filter (fun e => e.2.txMode == 2)) (fun e => match s.pcfg e.1 with
    | none => 0
    | some c => if c.type = 2 then s.portGbps e.1 else c.lanes * max 1 c.cls * 100)

/-- PAIR.PORT (R381, R390, R392, R415). The port's settings go to the partner (R382). -/
def bodyPairPort : Body := fun _ e s =>
  let p := e.p 24 1
  let c : PairPortCfg := { txMode := e.p 26 1, stream := e.p 28 2 }
  let ports := mset s.pair.cfg.ports p c
  let put (l : AMap PairPortCfg) (s : State) : State := s.modPair (fun x => { x with cfg := { x.cfg with ports := l } })
  if 127 < p then argErr s
  else if !s.member then .err s St.eState Dt.pairNotConfigured
  else if e.p 25 1 = 2 then
    storing s (.ok ((((put (mdel s.pair.cfg.ports p) s).modPair (fun x => { x with ports := mdel x.ports p })).modPort p
      (fun x => { x with arrivals := 0 })).emit (.portExchange p none)))
  else if e.p 25 1 ≠ 1 ∨ c.txMode = 0 ∨ 2 < c.txMode ∨ 2047 < c.stream then argErr s
  else if c.stream = s.dev.cfg.sun ∨ c.stream = s.pairSun ∨ s.pair.cfg.ports.any (fun o => o.1 != p && o.2.stream == c.stream) then
    .err s St.eArg Dt.pairSunConflict
  else if 128 < ports.length then .err s St.eNospace Dt.pairPortLimit
  else if 3200 < s.sharedGbps ports then .err s St.eNospace Dt.pairMarkBudget
  else storing s (.ok ((pairRematch p (put ports s)).emit (.portExchange p (some (c.txMode, c.stream)))))

/-- PAIR.STATE (Table PR-6). -/
def bodyPairState : Body := fun _ _ s =>
  let x := s.pair
  let lease := if x.st = .active then match x.lastAcked with | some t => (t + Config.us 400) / 10 | none => 0 else 0
  let path := if x.st ∈ [PairState.active, .syncing, .standby, .stale] then (if s.peerUp then 1 else 2) else 0
  .read s [] (putLe 1 x.st.code ++ putLe 1 (maskOf x.peerLanes) ++ putLe 1 path ++ [0] ++ putLe 4 x.gen ++ putLe 8 lease
    ++ putLe 8 s.lagBytes ++ putLe 4 (sat 32 (s.lagAge / 10000)) ++ putLe 4 x.draughtFailed
    ++ putLe 16 (maskOf ((mkeys x.ports).filter (fun p => (s.ppair p).sync)))
    ++ putLe 2 (s.partnerOf % 65536) ++ putLe 1 s.partnerState ++ zeros 5 ++ putLe 8 (x.lastDraught / 10))

/-- PAIR.SWITCH (R400, R415): completed once HANDOVER is sent. -/
def bodyPairSwitch : Body := fun _ _ s =>
  if !s.member then .err s St.eState Dt.pairNotConfigured
  else if !s.holdsBung then .err s St.eState Dt.hifStandby
  else if s.pair.st ≠ .active ∨ s.partnerState ≠ 6 then .err s St.eState Dt.pairNotSynced
  else
    let s := handOver 1 s
    .ok s (putLe 4 (s.pair.handing.getD 0))

/-- The draught checks of Table PR-3: which fail is a free value; check 0 punts a test frame to VI0. -/
def draughtRun (s : State) : State :=
  let f := (Config.draughtFails s.draw).toNat
  let s := { s with pair := { s.pair with draughtFailed := f, draughtAt := s.mono, lastDraught := s.mono } }
  let s := if bit f 0 then s
    else
      let k : Pkt := { id := s.mash.nextId, bytes := fit 64 (Config.randomBytes s.draw), rxAt := s.mono }
      admitPunt k { action := 2, puntVi := 0, reason := 0x1A, length := 64 } true
        (s.modMash (fun m => { m with nextId := m.nextId + 1 }))
  foldS (bitsSet f 5) s.drawn (fun n s => count Cn.pairDraughtFail n 1 (notify Ev.pairDraughtFail (putLe 1 n) [] s))

/-- PAIR.DRAUGHT (R410): run on a unit that does not hold the bung; the holder's resources are in use. Assumption log entry 88. -/
def bodyPairDraught : Body := fun _ e s =>
  if !s.member then .err s St.eState Dt.pairNotConfigured
  else if e.p 24 1 ≠ 1 then argErr s
  else
    let s := if s.holdsBung then s else draughtRun s
    .ok s (putLe 4 s.pair.draughtFailed)

def execPairConfig (vi : Nat) (io : HostIo) (s : State) : Host.Outcome State Fault Refusal :=
  .next (runCommand 0x0B01 vi io bodyPairConfig s)
def execPairPort (vi : Nat) (io : HostIo) (s : State) : Host.Outcome State Fault Refusal :=
  .next (runCommand 0x0B02 vi io bodyPairPort s)
def execPairState (vi : Nat) (io : HostIo) (s : State) : Host.Outcome State Fault Refusal :=
  .next (runCommand 0x0B03 vi io bodyPairState s)
def execPairSwitch (vi : Nat) (io : HostIo) (s : State) : Host.Outcome State Fault Refusal :=
  .next (runCommand 0x0B04 vi io bodyPairSwitch s)
def execPairDraught (vi : Nat) (io : HostIo) (s : State) : Host.Outcome State Fault Refusal :=
  .next (runCommand 0x0B05 vi io bodyPairDraught s)

/-! ### Discovery (R113, Table BU-8) -/

/-- The digest of the pair configuration (assumption log entry 84). -/
def State.pairDigest (s : State) : Nat :=
  Config.pairDigest [s.pairSun, min s.partnerOf s.dev.cfg.sun, max s.partnerOf s.dev.cfg.sun]

/-- R113: a hello on each trained peer lane every 100 µs. -/
def execHelloSend (s : State) : Host.Outcome State Fault Refusal :=
  .next (when (s.member && s.pair.peerLanes != [] && s.due s.pair.helloAt) s
    (let h : Hello := { sun := s.dev.cfg.sun, shared := s.pairSun, partner := s.partnerOf, serial := beVal (fit 16 Config.serial),
                        fw := s.hif.fwVersion, digest := s.pairDigest }
     foldS s.pair.peerLanes (s.modPair (fun p => { p with helloAt := s.mono + Config.us 100 })) (fun l s => s.emit (.hello l h))))

/-- Both hold no bung: higher PRIORITY takes, then the lower unit SUN. The partner's PRIORITY as it reaches the unit is a free value
(assumption log entry 84). -/
def election (s : State) : State :=
  let theirs := Config.freeNat s.draw % 256
  let own := (s.pair.cfg.pair.map PairCfg.priority).getD 0
  let s := s.drawn
  if theirs < own ∨ theirs = own ∧ s.dev.cfg.sun < s.partnerOf then
    let g := (s.pair.highGen + 1) % 2 ^ 32
    becomeActive (s.modPair (fun p => { p with gen := g, highGen := g }))
  else becomeSyncing s.pair.highGen s

/-- MATCHED acts on the pair state machine (Table PR-4). -/
def onMatched (s : State) : State :=
  match s.pair.st with
  | .seeking => if (mget s.pair.heard s.partnerOf).any Heard.bung then becomeSyncing s.pair.highGen s else election s
  | .solo => becomeActive (leaveSyncAll s)
  | _ => s

/-- Partner discovery for one hello. Assumption log entry 103. -/
def helloIn (h : Hello) (s : State) : State :=
  let ok := h.shared == s.pairSun && h.partner == s.dev.cfg.sun && h.sun == s.partnerOf && h.digest == s.pairDigest
  let s := s.modPair (fun p => { p with lastHello := s.mono, partnerFw := h.fw, partnerSun := h.sun,
                                        helloMatches := if p.disc == .seeking || !ok then 0 else p.helloMatches + 1 })
  match s.pair.disc with
  | .none_ => s
  | .seeking => s.modPair (fun p => { p with disc := .seen })
  | .matched => if ok then onMatched s else s
  | d =>
    if !ok then
      if d = .seen then
        count Cn.pairPartnerMismatch 0 1 (notify Ev.pairPartnerMismatch (putLe 2 h.shared ++ putLe 2 h.partner) [] (s.modPair (fun p => { p with disc := .mismatch })))
      else s
    else if s.pair.helloMatches < 3 then s
    else onMatched (notify Ev.pairPartnerFound (putLe 2 h.sun ++ putBe 16 h.serial) [] (s.modPair (fun p => { p with disc := .matched })))

def execHelloReceive (h : Hello) (s : State) : Host.Outcome State Fault Refusal :=
  .next (when (s.member && s.pair.peerLanes != []) s (helloIn h s))

/-- 10 ms without a hello (Table BU-8); a MATCHED partner that is also absent is sought again, and a partial copy is discarded (Table
PR-4, SYNCING). -/
def execHelloLoss (s : State) : Host.Outcome State Fault Refusal :=
  .next (when (s.member && s.due (s.pair.lastHello + Config.ms 10)) s
    (match s.pair.disc with
    | .seen | .mismatch =>
      notify Ev.pairPartnerLost (putLe 2 s.pair.partnerSun) [] (s.modPair (fun p => { p with disc := .seeking, helloMatches := 0 }))
    | .matched =>
      if s.present s.partnerOf then s
      else
        let s := s.modPair (fun p => { p with disc := .seeking, helloMatches := 0 })
        if s.pair.st = .syncing then
          s.modPair (fun p => { p with st := .seeking, seekSince := s.mono, tail := [], tailBytes := 0, tailSince := none })
        else s
    | _ => s))

/-- PARTNER_WAIT ends in SEEKING (Table PR-4). -/
def execPartnerWaitExpiry (s : State) : Host.Outcome State Fault Refusal :=
  .next (when (s.pair.st == .seeking && s.due (s.pair.seekSince + Config.ms ((s.pair.cfg.pair.map PairCfg.wait).getD 2000)) && s.mayTake) s
    (let g := (s.pair.highGen + 1) % 2 ^ 32
     becomeSolo (s.modPair (fun p => { p with gen := g, highGen := g }))))

/-- R382: the partner's settings of a port arrive. -/
def execPairPortExchange (port : Nat) (settings : Option (Nat × Nat)) (s : State) : Host.Outcome State Fault Refusal :=
  .next (when (s.member && decide (port < 128)) s (pairRematch port (s.modPpair port (fun x => { x with partner := settings }))))

/-! ### The lease (R395, R396) -/

/-- A BUNG entry on the peer link, or while it is down on two planes. -/
def sendBung (e : List Byte) (s : State) : State :=
  if s.peerUp then s.emit (.peer e)
  else
    let payload := fit 256 e
    let c : Cell := { kind := .ctrl, prov := false, active := false, paired := false, start := false, retx := false, reliable := false,
                      dest := s.partnerOf, src := s.dev.cfg.sun, stream := 0, sp := 0, tc := 0, seq := 0, fill := 1,
                      pcrc := pcrcOf payload, payload := payload }
    foldS ((s.sprayMask s.partnerOf).take 2) s (fun p s => sendCell p c s)

def execBungRenewSend (s : State) : Host.Outcome State Fault Refusal :=
  .next (when (s.pair.st == .active && s.due s.pair.renewAt) s
    (let n := (s.pair.renewNo + 1) % 2 ^ 32
     let s := s.modPair (fun p => { p with renewNo := n, renewAt := s.mono + Config.us 100, sentRenews := mset p.sentRenews n s.mono })
     let s := if s.peerUp then s else count Cn.pairRenewFabric 0 1 s
     sendBung (bungEntryBytes 1 s.pair.gen n) s))

/-- The standby answers at once and notes tA; a unit that takes part otherwise sees the GEN only (R398). -/
def bungRenewIn (gen number : Nat) (s : State) : State :=
  when s.member s
    (let s := seeGen gen s
     if s.pair.st ∈ [PairState.syncing, .standby, .stale] ∧ s.pair.gen ≤ gen then
       sendBung (bungEntryBytes 2 gen number) (s.modPair (fun p => { p with gen := gen, tA := some s.mono }))
     else s)

def execBungRenew (gen number : Nat) (s : State) : Host.Outcome State Fault Refusal := .next (bungRenewIn gen number s)

/-- The lease runs from the sending of the latest RENEW acknowledged (R395). -/
def bungAckIn (gen number : Nat) (s : State) : State :=
  when s.member s
    (let s := seeGen gen s
     match mget s.pair.sentRenews number with
     | some t =>
       if s.pair.st ∈ [PairState.active, .fenced] ∧ gen = s.pair.gen then
         s.modPair (fun p => { p with lastAcked := some (max t (p.lastAcked.getD 0)),
                                      sentRenews := p.sentRenews.filter (fun e => decide (t < e.2)) })
       else s
     | none => s)

def execBungAck (gen number : Nat) (s : State) : Host.Outcome State Fault Refusal := .next (bungAckIn gen number s)

/-- R400: the standby takes the bung at the GEN the HANDOVER carries, and answers. -/
def bungHandoverIn (gen : Nat) (s : State) : State :=
  when (s.pair.st == .standby && decide (s.pair.gen < gen)) s (sendBung (bungEntryBytes 4 gen 0) (takeBung gen 2 s))

def execBungHandover (gen : Nat) (s : State) : Host.Outcome State Fault Refusal := .next (bungHandoverIn gen s)

def bungHandoverAckIn (gen : Nat) (s : State) : State :=
  when (s.pair.st == .fenced && s.pair.handing == some gen) s (handedOver gen s)

def execBungHandoverAck (gen : Nat) (s : State) : Host.Outcome State Fault Refusal := .next (bungHandoverAckIn gen s)

/-- R396: the active fences itself 350 µs after it sent its last acknowledged RENEW. -/
def execLeaseFence (s : State) : Host.Outcome State Fault Refusal :=
  .next (when (s.pair.st == .active && (s.pair.lastAcked.any (fun t => s.due (t + Config.us 350)))) s
    (count Cn.pairFence 0 1 (notify Ev.pairFenced (putLe 4 s.pair.gen) [] ((darken s).modPair (fun p => { p with st := .fenced })))))

/-- R397: the take conditions of a standby, or of a fenced unit. -/
def execBungTake (s : State) : Host.Outcome State Fault Refusal :=
  .next (
    let wait (t : Option Nat) : Bool := t.any (fun t => s.due (t + Config.us 500))
    let g := (s.pair.highGen + 1) % 2 ^ 32
    if (s.pair.st == .standby || s.pair.st == .stale) && wait s.pair.tA && s.mayTake then
      takeBung g (if s.present s.partnerOf && (mget s.pair.heard s.partnerOf).any Heard.fenced then 3 else 1) s
    else if s.pair.st == .fenced && wait s.pair.lastAcked && s.mayTake then
      let s := s.modPair (fun p => { p with gen := g, highGen := g, handing := none })
      if s.present s.partnerOf then becomeActive s else becomeSolo s
    else s)

/-- R406: held packets of SHARED ports that no mark covers are lost when the active fails while the peer link is down. -/
def loseShared (s : State) : State :=
  let shared := (s.pair.cfg.ports.filter (fun e => e.2.txMode == 2)).map (fun e => e.1)
  let lost (k : EPkt) : Bool := decide (s.localPort k.sp ∈ shared)
  let n := sumOf s.sch.queues (fun q => (q.2.filter lost).length) + sumOf s.sch.eports (fun e => (e.2.limbo.filter lost).length)
  let gone := s.sch.queues.flatMap (fun q => q.2.filter lost) ++ s.sch.eports.flatMap (fun e => e.2.limbo.filter lost)
  let s := mapEgress (fun k => if lost k then none else some k) s
  doubleLoss [17] [15] n (foldS gone s (fun k s => releaseRef k.handle k.version s))

/-- R411: a duty of Table PR-3 that fails as it is taken over; which ones fail is a free value. Assumption log entry 160. -/
def dutiesFailed (s : State) : State :=
  foldS (bitsSet (Config.draughtFails s.draw).toNat 5) s.drawn (fun n s => notify Ev.pairDraughtFail (putLe 1 n) [] s)

/-- R397, R409: duties are enabled. A paired port out of SYNC is discarded for 200 µs. -/
def execTakeoverComplete (s : State) : Host.Outcome State Fault Refusal :=
  .next (when (s.pair.st == .taking) s
    (let failed := decide (s.pair.takeCause ≠ 2)
     let s := if failed then fault 17 s.partnerOf s.pair.takeCause s else s
     let s := if failed && s.inWindow 15 0 then loseShared s else s
     let s := notify Ev.pairTakeover (putLe 4 s.pair.gen ++ putLe 1 s.pair.takeCause ++ zeros 3 ++ putLe 4 (sat 32 s.pair.lost)) [] s
     let s := count Cn.pairTakeover 0 1 (s.modPair (fun p => { p with lost := 0, marks := [] }))
     let s := foldS (mkeys s.pair.cfg.ports) s (fun p s =>
       if (s.ppair p).sync then s else s.modPpair p (fun x => { x with freshAt := some (s.mono + Config.us 200), query := none, cut := none }))
     let s := dutiesFailed s
     let s := setPoints (if s.present s.partnerOf then becomeActive s else becomeSolo s)
     let s := if failed then leaveSyncAll s else s
     foldS (mkeys s.pair.cfg.ports) s numberAll))

/-! ### ANNOUNCE and DIVERGE -/

/-- Every unit behind some UP plane but this one. -/
def State.reachableSuns (s : State) : List Nat :=
  (((mkeys s.fab.listings).filter (fun k => s.planeUp (k / 2048))).map (fun k => k % 2048)).eraseDups.filter (fun x => x != s.dev.cfg.sun)

def execAnnounceSend (s : State) : Host.Outcome State Fault Refusal :=
  .next (when (s.member && s.due s.pair.announceAt) s
    (let a : Announce := { pairSun := s.pairSun, sun := s.dev.cfg.sun, gen := s.pair.gen, bung := s.holdsBung || s.pair.st == .taking,
                           fenced := s.pair.st == .fenced, synced := s.pair.st == .standby || s.pair.st == .stale }
     let s := s.modPair (fun p => { p with announceAt := s.mono + Config.us 50 })
     flushMarks (sendEntry s.reachableSuns (announceEntryBytes a) s)))

/-- What an ANNOUNCE of the partner changes. -/
def partnerAnnounced (a : Announce) (s : State) : State :=
  let s := seeGen a.gen s
  let s := if s.pair.st = .seeking ∧ s.pair.disc = .matched then onMatched s else s
  if a.synced then
    let s := endWindow 17 a.sun s
    s
  else s

def announceIn (a : Announce) (s : State) : State :=
  let said := { pairSun := a.pairSun, gen := a.gen, bung := a.bung, fenced := a.fenced, synced := a.synced, at_ := s.mono }
  let s := heardFrom a.sun (s.modPair (fun p => { p with heard := mset p.heard a.sun said }))
  let s := if s.member && a.sun == s.partnerOf && a.pairSun == s.pairSun then partnerAnnounced a s else s
  pairedAll none s

/-- R388, R398: the sender's membership, bung and GEN. -/
def execAnnounceEntry (a : Announce) (s : State) : Host.Outcome State Fault Refusal :=
  .next (when (a.sun != s.dev.cfg.sun) s (announceIn a s))

/-- R393, R394: a divergence of one of the pair's streams. -/
def divergeIn (stream sp tc seq reporter : Nat) (s : State) : State :=
  match s.portOfStream stream with
  | none => s
  | some p =>
    let s := notify Ev.pairDiverge (putLe 2 stream ++ putLe 2 sp ++ putLe 1 tc ++ zeros 3 ++ putLe 4 seq ++ putLe 2 reporter) [] s
    leaveSync p (count Cn.pairDiverge p 1 s)

def execDivergeEntry (stream sp tc seq reporter : Nat) (s : State) : Host.Outcome State Fault Refusal :=
  .next (divergeIn stream sp tc seq reporter s)

/-! ### RECON (R386) -/

/-- A query for a number the stage has not reached is answered when it does (assumption log entry 85). -/
def reconQueryIn (stream arrival : Nat) (s : State) : State :=
  match s.portOfStream stream with
  | none => s
  | some p =>
    let x := s.ppair p
    let ahead := dist 48 x.nextArrival arrival
    if ahead < 65536 ∧ x.query.map (fun q => q.1) ≠ some arrival then s.modPpair p (fun x => { x with asked := addOnce x.asked arrival })
    else if ahead < 65536 then reconAnswer p arrival (s.modPpair p (fun x => { x with asked := without x.asked arrival }))
    else reconAnswer p arrival s

def execReconQuery (stream arrival : Nat) (s : State) : Host.Outcome State Fault Refusal := .next (reconQueryIn stream arrival s)

def reconAnswerIn (stream arrival kind sp tc seq : Nat) (s : State) : State :=
  match s.portOfStream stream with
  | none => s
  | some p =>
    if (s.ppair p).query.map (fun q => q.1) ≠ some arrival then s
    else
      let on (s : State) : State := numberAll p (logResult p arrival .nothing (s.modPpair p (fun x => { x with query := none })))
      if kind = 2 then
        let key := streamKey stream sp tc
        let s := s.setTx key ((seq + 1) % 2 ^ 24, (s.txStream key).2)
        on (count Cn.pairReconVoid p 1 (sendToken 2 stream sp tc seq 1 s))
      else if kind = 3 then on s
      else numberAll p (proceedUnknown p s)

def execReconAnswer (stream arrival kind sp tc seq : Nat) (s : State) : Host.Outcome State Fault Refusal :=
  .next (reconAnswerIn stream arrival kind sp tc seq s)

/-- No answer within 50 µs: as for UNKNOWN. -/
def execReconQueryTimeout (port : Nat) (s : State) : Host.Outcome State Fault Refusal :=
  .next (match (s.ppair port).query with
    | none => s
    | some (_, t) => when (s.due (t + Config.us 50)) s (numberAll port (proceedUnknown port s)))

/-- R387: the standby learns A_p; epoch 0 names a change of the ASA. -/
def execArrivalSwitchPoint (port epoch arrival : Nat) (s : State) : Host.Outcome State Fault Refusal :=
  .next (when (s.member && !s.holdsBung && mhas s.pair.cfg.ports port) s
    (let a := arrival % 2 ^ 48
     let asa : List (Nat × AMap Region) → List (Nat × AMap Region) := fun l =>
       match l.findIdx? (fun h => h.1 == noArrival) with
       | some i => l.mapIdx (fun j h => if j = i then (a, h.2) else h)
       | none => l
     issueFrom port (s.modPpair port (fun x =>
       if epoch = 0 then { x with asaHeld := asa x.asaHeld }
       else { x with switches := x.switches.map (fun w => if w.2 = epoch ∧ w.1 = noArrival then (a, w.2) else w) }))))

/-! ### MARK (R391) -/

/-- A marked copy leaves the standby as its frame left the active: moved or flushed from a port in HOLD, else freed. -/
def dropMarked (k : EPkt) (s : State) : State :=
  let p := s.localPort k.sp
  if (s.eport p).hold = .hold ∧ k.rehomed = none then
    match (s.schPort p).backup with
    | some b => if (s.eport b).hold = .run ∧ s.portUp b then rehomeTo p b k.tc k s else holdFlushed p [k] s
    | none => holdFlushed p [k] s
  else releaseRef k.handle k.version s

def markIn (stream sp tc seq : Nat) (s : State) : State :=
  let key := streamKey stream sp tc
  let p := s.localPort sp
  if s.holdsBung || ((mget s.pair.cfg.ports p).map PairPortCfg.txMode) != some 2 then s
  else
    let s := s.modPair (fun x => { x with marks := mset x.marks key seq })
    let hit (k : EPkt) : Bool := k.stream == key && s.marked p k
    let gone := s.sch.queues.flatMap (fun q => q.2.filter hit) ++ s.sch.eports.flatMap (fun e => e.2.limbo.filter hit)
    foldS gone (mapEgress (fun k => if hit k then none else some k) s) dropMarked

def execMarkEntry (stream sp tc seq : Nat) (s : State) : Host.Outcome State Fault Refusal :=
  .next (when s.member s (markIn stream sp tc seq s))

/-! ### Anchoring (R408) -/

/-- Places in the receive log where the run stands. -/
def runPlaces (run : List (Word × Nat)) : List (Nat × Word × Nat) → List Nat
  | [] => []
  | e :: t =>
    let here := run.length ≤ (e :: t).length && ((e :: t).take run.length).map (fun x => (x.2.1, x.2.2)) == run
    (if here then [e.1] else []) ++ runPlaces run t

/-- The port's count moved by a distance, with every arrival number still in the device. -/
def renumber (p d : Nat) (s : State) : State :=
  let mv (a : Nat) : Nat := (a + d) % 2 ^ 48
  let mvPkt (k : Pkt) : Pkt := if k.inPort = p then { k with arrival := k.arrival.map mv } else k
  let mvItem (i : BridgeItem) : BridgeItem := match i with
    | .result k r => .result (mvPkt k) r
    | .none_ a => .none_ (mv a)
    | i => i
  let s := s.modPort p (fun x => { x with arrivals := mv x.arrivals })
  let s := s.modMash (fun m => { m with
    pkts := m.pkts.map (fun x => { x with pkt := mvPkt x.pkt }),
    bridge := m.bridge.map (fun b => if b.1 = p then (b.1, b.2.map mvItem) else b) })
  s.modPpair p (fun x => { x with nextArrival := mv x.nextArrival, held := x.held.map mvItem, log := [],
                                  rxLog := x.rxLog.map (fun e => (mv e.1, e.2)) })

/-- A run of 64 frames: exactly one match sets the count, else the next run is asked for. -/
def execAnchorRun (port first : Nat) (run : List (Word × Nat)) (s : State) : Host.Outcome State Fault Refusal :=
  .next (when (s.member && !s.holdsBung && mhas s.pair.cfg.ports port && !(s.ppair port).sync && run != []) s
    (match runPlaces run (s.ppair port).rxLog with
    | [a] => renumber port (dist 48 a first) (s.modPpair port (fun x => { x with anchored := true }))
    | _ => s.emit (.anchorAsk port)))

/-- The cut and every stream's next number: the standby numbers an anchored port from there (R408). -/
def execAnchorCut (port cut : Nat) (nexts : List (Nat × Nat × Nat)) (s : State) : Host.Outcome State Fault Refusal :=
  .next (when (s.member && !s.holdsBung && (s.ppair port).matched && (s.ppair port).anchored && !(s.ppair port).sync) s
    (let st := ((mget s.pair.cfg.ports port).map PairPortCfg.stream).getD 0
     let s := foldS nexts s (fun n s => s.setTx (streamKey st n.1 n.2.1) (n.2.2 % 2 ^ 24, (s.txStream (streamKey st n.1 n.2.1)).2))
     let x := s.ppair port
     let c := if older 48 x.nextArrival (cut % 2 ^ 48) then some (cut % 2 ^ 48) else none
     notify Ev.pairPortSync (putLe 1 port ++ [1]) [] (s.modPpair port (fun x => { x with sync := true, anchored := false, cut := c }))))

/-- Every matched port that carries frames is in SYNC (R407, R408). -/
def State.portsAnchored (s : State) : Bool :=
  (mkeys s.pair.cfg.ports).all (fun p => let x := s.ppair p; x.sync || !x.matched || x.rxLog == [])

/-- Bulk copy, anchoring and egress mirror are done (R407): STANDBY, or STALE while the peer link is down. -/
def execSyncComplete (s : State) : Host.Outcome State Fault Refusal :=
  .next (when (s.pair.st == .syncing && (mget s.pair.heard s.partnerOf).any Heard.bung && s.portsAnchored) s
    (let s := notify Ev.pairSynced (putLe 4 s.pair.gen) [] (s.modPair (fun p => { p with st := .standby }))
     if s.peerUp then s
     else notify Ev.pairStale (putLe 1 1 ++ zeros 11) [] (s.modPair (fun p => { p with st := .stale }))))

/-- 200 µs after takeover a port out of SYNC starts its streams afresh (R409). -/
def execUnsyncedPortRestart (port : Nat) (s : State) : Host.Outcome State Fault Refusal :=
  .next (match (s.ppair port).freshAt with
    | none => s
    | some t => when (s.due t) s
      (let st := ((mget s.pair.cfg.ports port).map PairPortCfg.stream).getD 0
       let s := s.modFab (fun f => { f with txs := f.txs.map (fun e => if e.1 / 2 ^ 18 = st then (e.1, (e.2.1, true)) else e) })
       numberAll port (s.modPpair port (fun x => { x with freshAt := none }))))

/-! ### Draught checks and peer lanes -/

def execDraughtPeriod (s : State) : Host.Outcome State Fault Refusal :=
  .next (when ((s.pair.st == .standby || s.pair.st == .stale)
      && s.due (s.pair.draughtAt + Config.sec ((s.pair.cfg.pair.map PairCfg.draught).getD 60))) s (draughtRun s))

/-- STANDBY and STALE follow the peer link and the lag (R405, R406). -/
def staleRefresh (s : State) : State :=
  let pay (on : Bool) : List Byte := putLe 1 (b2n on) ++ zeros 3 ++ putLe 4 (sat 32 s.lagBytes) ++ putLe 4 (sat 32 (s.lagAge / 10000))
  if s.pair.st = .standby ∧ (!s.peerUp ∨ s.staleLag < s.lagAge) then
    notify Ev.pairStale (pay true) [] (s.modPair (fun p => { p with st := .stale }))
  else if s.pair.st = .stale ∧ s.peerUp ∧ 2 * s.lagAge < s.staleLag then
    notify Ev.pairStale (pay false) [] (s.modPair (fun p => { p with st := .standby }))
  else s

/-- The last peer lane is gone: the peer link is down (R405). -/
def peerDown (s : State) : State :=
  staleRefresh (fault 15 0 0 (dropSecret 16 (notify Ev.pairPeerlinkDown [] [] s)))

def execPeerLaneDown (lane : Nat) (s : State) : Host.Outcome State Fault Refusal :=
  .next (when (decide (lane ∈ s.pair.peerLanes)) s
    (let s := bump (winEvent 5 5) lane 1 (s.modPair (fun p => { p with peerLanes := without p.peerLanes lane }))
     if s.peerUp then s else peerDown s))

/-- A peer lane returns once its domain is on and the link is keyed (R460). -/
def execPeerLaneUp (lane : Nat) (s : State) : Host.Outcome State Fault Refusal :=
  .next (when (decide (lane < 4) && s.member && s.domOn 55 && decide ((5, 0) ∉ s.dev.blockResets) && (mget s.sec.links 16).any Link.keyed && decide (lane ∉ s.pair.peerLanes)) s
    (let was := s.peerUp
     let s := s.modPair (fun p => { p with peerLanes := sortUp (lane :: p.peerLanes) })
     if was then s else staleRefresh (endWindow 15 0 (notify Ev.pairPeerlinkUp (putLe 1 1) [] s))))

end Sys2Proof.Machine
end

