-- ==== Sys2Proof/Machine/Reset.lean ====
section
/-! DEFINITION. The warm reset (R73, R76, R97, Table RF-7) and the fallback of a trial (R490), as the families that cause them share them. -/
namespace Sys2Proof.Machine

/-- A command that was read and has changed nothing is read again from the SQ after the restart (R73). -/
def rereads (s : State) (p : Parked) : Bool :=
  (match p.wait with | .epochSlot _ => true | _ => false) && (s.fn p.vi).ring == .running

/-- Its entry is at the SQ head again. -/
def unread (p : Parked) (s : State) : State :=
  s.modFn p.vi (fun f => { f with
    sq := p.entry :: f.sq, sqHead := (f.sqHead + ringEntries f.active.sqSize - 1) % ringEntries f.active.sqSize })

/-- Firmware restarts (Table BU-3, warm): FW_READY clears, ROM verifies the image again; the high-word latches (Table RF-7) and SPDM
connections are lost, everything else is kept. -/
def warmRestart (cause : Nat) (s : State) : State :=
  let (again, kept) := s.hif.parked.partition (rereads s)
  let s := foldS again s unread
  let fns := s.hif.fns.map (fun f => (f.1, { f.2 with latch := none }))
  { s with hif := { s.hif with fwReady := false, restarting := true, restartCause := cause, parked := kept, fns := fns },
           dev := { s.dev with boot := 1, kilnFailed := [] }, sec := { s.sec with spdm := [] } }

/-- A change of a kiln slot, which the directory records. -/
def State.modSlot (s : State) (n : Nat) (f : Slot → Slot) : State :=
  dirWrite (if n = 0 then { s with upd := { s.upd with slotA := f s.upd.slotA } } else { s with upd := { s.upd with slotB := f s.upd.slotB } })

/-- The directory's trial is cleared for a cause of Table UP-6 and its slot returns to VERIFIED; a swap that has not happened is given up
and the standby banks are discarded (R490). -/
def clearTrial (cause : Nat) (s : State) : State :=
  match s.upd.trial with
  | none => s
  | some t =>
    let s := s.modSlot t (fun x => { x with st := .verified, owned := false })
    let u := s.upd
    let gone := u.swap == 1
    count Cn.updFallback 0 1 { s with upd := { u with
      trial := none, trialLeft := 0, lastResult := 3, lastCause := cause, resultDue := true, confirmBy := none, swapAt := none,
      retryAt := none, linkSwap := false, swap := if gone then 0 else u.swap, loaded := if gone then none else u.loaded } }

/-- Fallback found by the trial firmware or the new firmware: the trial is cleared and firmware restarts warm (R490). -/
def fallBack (cause : Nat) (s : State) : State := warmRestart 3 (clearTrial cause s)

end Sys2Proof.Machine
end

