-- ==== Sys2Proof/Machine/Upd.lean ====
section
/-! DEFINITION. UPD family: bundle heads (R473–R475), download sessions (R477–R481), activation and the swap (R482–R488), trial and
confirmation (R489–R493), the UPD commands (Tables UP-7, UP-8). -/
namespace Sys2Proof.Machine

/-! ### Bundle heads (Table UP-2) -/

def Slot.chunkCount (x : Slot) : Nat := le x.head 20 2
def Slot.bodyLen (x : Slot) : Nat := le x.head 12 4
/-- A slot whose bundle is complete holds every chunk. -/
def Slot.whole (x : Slot) : Bool := x.st != .empty && x.st != .downloading
def Slot.chunksHeld (x : Slot) : Nat := if x.st = .empty then 0 else if x.whole then x.chunkCount else x.chunks.length
def Slot.holds (x : Slot) (i : Nat) : Bool := decide (i < x.chunkCount) && (x.whole || x.st == .downloading && mhas x.chunks i)
/-- The table digest of a chunk. -/
def Slot.chunkDigest (x : Slot) (i : Nat) : List Byte := bytesAt x.head (256 + 64 * le x.head 6 2 + 48 * i) 48
/-- The true length of a chunk: only the last may be shorter (R473). -/
def Slot.chunkLen (x : Slot) (i : Nat) : Nat := if i + 1 < x.chunkCount then 65536 else x.bodyLen - 65536 * i

/-- LOAD_CLASS of each part type (Table UP-4); none for a type it does not name. -/
def partClass (t : Nat) : Option Nat :=
  if t = 0 then none else if t ≤ 2 then some 1 else if t ≤ 10 then some 2 else if t ≤ 12 then some 3 else if t ≤ 14 then some 4 else none

/-- The part table names each part type once with its class, every part within the body (R474, Table UP-3). -/
def partsOk (parts : List (List Byte)) (bodyLen : Nat) : Bool :=
  (upFrom 1 14).all (fun t => (parts.filter (fun b => le b 0 1 == t)).length == 1)
    && parts.all (fun b => partClass (le b 0 1) == some (le b 1 1) && le b 2 2 == 0 && decide (le b 4 4 + le b 8 4 ≤ bodyLen))

/-- MAGIC, FORMAT, lengths, PARTS, CHUNKS and the header's ranges agree with R473 and R474. -/
def headOk (h : List Byte) (len : Nat) : Bool :=
  let body := le h 12 4
  let n := le h 20 2
  decide (256 ≤ len) && le h 0 4 == 0x314B5641 && le h 4 2 == 1 && le h 6 2 == 14 && le h 8 4 == len && decide (len ≤ 131072)
    && decide (body ≤ 66977792) && n == ceilDiv body 65536 && le h 16 4 == 256 + 64 * 14 + 48 * n && len == le h 16 4 + 96 + 4627
    && decide (le h 25 1 ≤ 3) && decide (le h 26 1 ≤ 3) && decide (le h 27 1 ≤ 64) && (bytesAt h 40 216).all (fun b => b == 0)
    && partsOk (chunks 64 14 (h.drop 256)) body

/-- The bundle digest (R475). -/
def headDigest (h : List Byte) : List Byte := fit 48 (Config.sha384 (h.take (le h 16 4)))

/-- The body of a complete bundle: its chunks in order. -/
def Slot.body (x : Slot) : List Byte := (List.range x.chunkCount).flatMap (fun i => mgetD x.chunks i [])

/-- The bytes of a part. -/
def Slot.part (x : Slot) (b : List Byte) : List Byte := (x.body.drop (le b 4 4)).take (le b 8 4)

/-- The DIGEST of a part matches its bytes in the slot. -/
def Slot.partDigestOk (x : Slot) (b : List Byte) : Bool := fit 48 (Config.sha384 (x.part b)) == bytesAt b 16 48

/-- R483: every PIPELINE and LINK part matches its DIGEST, and its CHECK once its block holds it. -/
def Slot.partsCheck (x : Slot) : Bool :=
  (x.parts.filter (fun b => le b 1 1 == 2 || le b 1 1 == 3)).all (fun b =>
    x.partDigestOk b && (crc32c (Config.partLoaded (le b 0 1) (x.part b))).toNat == le b 12 4)

/-- R481: the DIGEST of the Maltster firmware part matches across the stored chunks. -/
def Slot.firmwareOk (x : Slot) : Bool := (x.parts.filter (fun b => le b 0 1 == 1)).all x.partDigestOk

/-- R482: a COLD_ONLY part differs from the running one by DIGEST. -/
def Slot.coldOnlyDiffers (x running : Slot) : Bool :=
  (x.parts.filter (fun b => le b 1 1 == 4)).any (fun b => running.parts.all (fun r => le r 0 1 != le b 0 1 || bytesAt r 16 48 != bytesAt b 16 48))

/-! ### Sessions (R477–R481) -/

/-- The slot that a session writes: the one that does not run; in ROM recovery mode the one the directory does not mark running, or A
(R477, R494). -/
def State.target (s : State) : Nat :=
  if s.hif.recovery then (match s.upd.dirRunning with | some r => 1 - r | none => 0) else 1 - s.upd.running

/-- A session stands in the slot under some digest. -/
def Slot.session (x : Slot) : Bool := x.st == .downloading || x.st == .verified

/-- The slot's digest begins with the 32 bytes a command names. -/
def Slot.named (x : Slot) (e : Entry) : Bool := x.digest.take 32 == bytesAt e.raw 32 32

/-- UPD.OPEN (R478, R489, R498). Assumption log entry 96. -/
def bodyUpdOpen : Body := fun vi e s =>
  let h := e.buf
  let t := s.target
  let x := s.slot t
  let d := headDigest h
  let answer (joined : Bool) (x : Slot) : List Byte :=
    putLe 1 t ++ putLe 1 (b2n joined) ++ putLe 2 x.chunkCount ++ putLe 2 x.chunksHeld
  if s.upd.trial.isSome then .err s St.eState Dt.updTrial
  else if e.p 24 4 ≠ e.dataLen then badLen vi s
  else if !headOk h e.dataLen then .err s St.eArg Dt.updBadHead
  else if le h 22 2 ≠ 0x2560 ∨ le h 24 1 ≠ 0xB0 then .err s St.eUnsupported Dt.updWrongDevice
  else if le h 25 1 < s.upd.keyFloor ∨ !Config.bundleSigned h then .err (count Cn.updSigFail 0 1 s) St.eAuth Dt.updSignature
  else if le h 27 1 < s.upd.fusedSvn then .err s St.eState Dt.updSvnLow
  else if x.session && x.digest == d then .read s (answer true x) []
  else if x.session && x.owned then { (Reply.err s St.eSlotBusy Dt.updSlotBusy) with data := fit 48 x.digest }
  else
    let y : Slot := { st := .downloading, owned := true, digest := d, head := h, version := le h 28 4, svn := le h 27 1 }
    .ok (s.modSlot t (fun _ => y)) (answer false y)

/-- The last missing chunk is stored: the firmware part's DIGEST is checked and the slot is VERIFIED (R481). Assumption log entry 97. -/
def lastChunk (t : Nat) (x : Slot) (s : State) : Reply :=
  if x.firmwareOk then
    let s := s.modSlot t (fun y => { y with st := .verified })
    .ok (notify Ev.updReady (putLe 1 t ++ zeros 3 ++ putLe 4 x.version ++ putLe 1 x.svn) [] s) (putLe 2 x.chunkCount ++ putLe 1 2)
  else .err (count Cn.updChunkBad 0 1 (s.modSlot t (fun _ => {}))) St.eAuth Dt.updPartBad

/-- UPD.CHUNK (R479–R481, R498). A stored chunk's bit is set in both directory copies (R480). -/
def bodyUpdChunk : Body := fun vi e s =>
  let t := s.target
  let x := s.slot t
  let i := e.p 24 2
  if !x.session || (!x.named e && !x.owned) then .err s St.eState Dt.updNoSession
  else if !x.named e then .err s St.eSlotBusy Dt.updSlotBusy
  else if x.chunkCount ≤ i then .err s St.eArg Dt.updChunkRange
  else if e.dataLen ≠ x.chunkLen i then badLen vi s
  else if x.holds i then .read s (putLe 2 x.chunksHeld ++ putLe 1 (1 + flag x.whole 1)) []
  else if Config.sha384 e.buf ≠ x.chunkDigest i then .err (count Cn.updChunkBad 0 1 s) St.eAuth Dt.updChunkBad
  else if !Config.flashOk s.draw then
    .err (count Cn.updFlashErr 0 1 (fault 18 (4 + t) 0 (s.drawn.modSlot t (fun y => { y with chunks := mdel y.chunks i })))) St.eState Dt.updFlash
  else
    let s := dirWrite (s.drawn.modSlot t (fun y => { y with chunks := mset y.chunks i e.buf }))
    let y := s.slot t
    if y.chunks.length = y.chunkCount then lastChunk t y s
    else .ok s (putLe 2 y.chunksHeld ++ putLe 1 0)

def SlotState.code : SlotState → Nat
  | .empty => 0 | .downloading => 1 | .verified => 2 | .trial => 3 | .active => 4 | .spare => 5

/-- A slot's part of UPD.STATUS (Table UP-8). -/
def Slot.status (x : Slot) : List Byte :=
  let bitmap := (List.range 128).map (fun b => BitVec.ofNat 8 (maskOf ((List.range 8).filter (fun j => x.holds (8 * b + j)))))
  putLe 1 x.st.code ++ putLe 1 x.svn ++ putLe 2 (if x.st = .empty then 0 else x.chunkCount) ++ putLe 2 x.chunksHeld ++ zeros 2
    ++ putLe 4 x.version ++ zeros 4 ++ fit 48 x.digest ++ bitmap

/-- UPD.STATUS (Table UP-8). -/
def bodyUpdStatus : Body := fun _ _ s =>
  let u := s.upd
  let left := match u.confirmBy with | some t => sat 32 ((t - s.mono) / Config.sec 1) | none => 0xFFFFFFFF
  .read s [] (putLe 1 u.running ++ putLe 1 (u.trial.getD 0xFF) ++ putLe 1 u.trialLeft ++ putLe 1 u.fusedSvn ++ putLe 1 u.keyFloor
    ++ putLe 1 u.lastResult ++ putLe 1 u.lastCause ++ putLe 1 u.swap ++ putLe 4 left ++ zeros 4
    ++ u.slotA.status ++ u.slotB.status)

/-- UPD.ABORT (Table UP-5): a session is cleared; the trial digest asks for a fallback with cause 6 (R490). -/
def bodyUpdAbort : Body := fun _ e s =>
  let n := e.p 24 1
  let x := s.slot n
  if 1 < n then argErr s
  else if !x.named e then .err s St.eState Dt.updNoSession
  else if x.session then .ok (s.modSlot n (fun _ => {}))
  else if s.upd.trial = some n then .ok (fallBack 6 s)
  else .err s St.eState Dt.updNoSession

/-! ### Activation (R482, R483, R488) -/

/-- The slot in VERIFIED under the digest a command names. -/
def State.verifiedSlot (s : State) (e : Entry) : Option Nat :=
  [0, 1].find? (fun n => (s.slot n).st == .verified && (s.slot n).named e)

/-- The conditions of IN_SERVICE (R482, R493, R494). -/
def State.inServiceRefusal (s : State) (x : Slot) : Option Nat :=
  let seen := s.pair.disc != .none_ && s.pair.disc != .seeking
  if s.hif.recovery || s.dev.phase == .fail then some Dt.updNeedsCold
  else if s.hif.fwVersion < le x.head 32 4 then some Dt.updIssuFrom
  else if s.member && seen && decide (s.pair.partnerFw < le x.head 32 4) then some Dt.updIssuFrom
  else if x.coldOnlyDiffers (s.slot s.upd.running) then some Dt.updNeedsCold
  else none

/-- The directory names the slot as trial slot with TRIAL_LEFT 2. -/
def setTrial (n wait window : Nat) (s : State) : State :=
  let s := s.modSlot n (fun x => { x with st := .trial })
  { s with upd := { s.upd with trial := some n, trialLeft := 2, swapWait := wait, confirmWindow := window, swapAt := none, retryAt := none,
                               confirmBy := none } }

/-- UPD.ACTIVATE (R482, R483, R485, R488): IN_SERVICE loads and checks every part, then firmware restarts; COLD resets 10 ms later. -/
def bodyUpdActivate : Body := fun _ e s =>
  let mode := e.p 24 1
  let wait := e.p 26 2
  let window := e.p 28 2
  if mode = 0 ∨ 2 < mode ∨ 10000 < wait ∨ 1440 < window then argErr s
  else if s.upd.trial.isSome then .err s St.eState Dt.updTrial
  else match s.verifiedSlot e with
    | none => .err s St.eState Dt.updNoSession
    | some n =>
      let x := s.slot n
      if mode = 1 then
        match s.inServiceRefusal x with
        | some dt => .err s St.eState dt
        | none =>
          if !x.partsCheck then .err (count Cn.updChunkBad 0 1 s) St.eAuth Dt.updBlockCheck
          else
            let s := setTrial n (orDefault wait 50) window s
            .ok (warmRestart 3 { s with upd := { s.upd with loaded := some n, swap := 1 } })
      else
        let s := setTrial n (orDefault wait 50) window s
        .ok { s with dev := { s.dev with coldAt := some (s.mono + Config.ms 10) } }

/-! ### Confirmation (R492) -/

/-- One fuse: burnt and read back, with up to `n` attempts. -/
def burnFuse : Nat → State → Bool × State
  | 0, s => (false, s)
  | n + 1, s => if Config.fuseOk s.draw then (true, s.drawn) else burnFuse n s.drawn

/-- `n` fuses of a thermometer field in turn, each with three retries; those burnt before a failing one stay burnt (R492). -/
def burnFuses (f : Upd → Upd) : Nat → State → Bool × State
  | 0, s => (true, s)
  | n + 1, s =>
    let (ok, s) := burnFuse 4 s
    if ok then burnFuses f n { s with upd := f s.upd } else (false, s)

/-- EV.UPD.RESULT (Table UP-11). -/
def updResult (s : State) : State :=
  let u := s.upd
  notify Ev.updResult (putLe 1 u.lastResult ++ putLe 1 u.lastCause ++ putLe 1 u.running ++ zeros 1 ++ putLe 4 s.hif.fwVersion
    ++ putLe 1 u.fusedSvn) [] s

/-- The slot is ACTIVE and the other SPARE; the settings are rewritten in its format (R492). -/
def confirmed (n : Nat) (s : State) : State :=
  let s := (s.modSlot n (fun x => { x with st := .active, owned := false })).modSlot (1 - n) (fun x => { x with st := .spare, owned := false })
  let u := s.upd
  let upd : Upd := { u with trial := none, trialLeft := 0, dirRunning := some n, lastResult := 2, lastCause := 0, confirmBy := none }
  let sec := { s.sec with format := le (s.slot n).head 36 2 }
  updResult (saveSettings (saveSettings { s with upd := upd, sec := sec }))

/-- UPD.CONFIRM (R492). -/
def bodyUpdConfirm : Body := fun _ e s =>
  match s.upd.trial with
  | none => .err s St.eState Dt.updNoSession
  | some n =>
    let x := s.slot n
    if !x.named e then .err s St.eState Dt.updNoSession
    else if s.upd.swap = 1 then .err s St.eState Dt.updSwapPending
    else
      let (a, s) := burnFuses (fun u => { u with fusedSvn := u.fusedSvn + 1 }) (x.svn - s.upd.fusedSvn) s
      let (b, s) := if a then burnFuses (fun u => { u with keyFloor := u.keyFloor + 1 }) (le x.head 26 1 - s.upd.keyFloor) s else (false, s)
      if a && b then .ok (confirmed n s) (putLe 1 s.upd.fusedSvn)
      else .err (fault 18 (4 + n) 0 s) St.eState Dt.updFuse

def execUpdOpen (vi : Nat) (io : HostIo) (s : State) : Host.Outcome State Fault Refusal :=
  .next (runCommand 0x0E01 vi io bodyUpdOpen s)
def execUpdChunk (vi : Nat) (io : HostIo) (s : State) : Host.Outcome State Fault Refusal :=
  .next (runCommand 0x0E02 vi io bodyUpdChunk s)
def execUpdStatus (vi : Nat) (io : HostIo) (s : State) : Host.Outcome State Fault Refusal :=
  .next (runCommand 0x0E03 vi io bodyUpdStatus s)
def execUpdAbort (vi : Nat) (io : HostIo) (s : State) : Host.Outcome State Fault Refusal :=
  .next (runCommand 0x0E04 vi io bodyUpdAbort s)
def execUpdActivate (vi : Nat) (io : HostIo) (s : State) : Host.Outcome State Fault Refusal :=
  .next (runCommand 0x0E05 vi io bodyUpdActivate s)
def execUpdConfirm (vi : Nat) (io : HostIo) (s : State) : Host.Outcome State Fault Refusal :=
  .next (runCommand 0x0E06 vi io bodyUpdConfirm s)

/-! ### The swap (R486, R487) -/

/-- The swap epoch, once an epoch was committed after the new firmware became ready. -/
def State.swapReached (s : State) : Option Nat :=
  if s.dev.phase ≠ .full then some 0
  else
    let n := match s.upd.swapBase with | none => 1 | some b => nextEpoch b
    match s.newest with
    | some e => if some e.num = s.upd.swapBase then none else some n
    | none => none

/-- t5 of R485: the pipeline blocks run the microcode of the slot that runs; the LINK parts follow. -/
def swapNow (epoch : Nat) (s : State) : State :=
  let u := s.upd
  { s with upd := { u with swap := 2, swapEpoch := epoch, swapTime := s.timeNs, linkSwap := true, loaded := some u.microcode,
                           microcode := u.running, swapAt := none, retryAt := none } }

/-- UPD_SWAP: the swap epoch has switched. -/
def execUpdSwap (s : State) : Host.Outcome State Fault Refusal :=
  .next (match s.swapReached with
    | some n => when (s.hif.fwReady && s.upd.swap == 1) s (swapNow n s)
    | none => s)

/-- The empty entry that stands for firmware's own commit in the pair journal. Assumption log entry 99. -/
def firmwareCommit : Entry := ⟨putLe 8 0 ++ putLe 2 0x0602 ++ zeros 54, []⟩

/-- Firmware's own commit of the swap epoch, tables unchanged: it obeys R198, is tried again every 1 ms, and is replicated (R486). -/
def swapCommit (s : State) : State :=
  if 4 ≤ s.tbl.epochs.length ∨ s.spanTooWide then
    { s with upd := { s.upd with swapAt := none, retryAt := some (s.mono + Config.ms 1) } }
  else
    let s := commitOps 0xFF [] { s with upd := { s.upd with swapAt := none, retryAt := none } }
    if s.pair.st = .active then (sendJournal 0xFF firmwareCommit (.ok s)).1 else s

/-- Firmware may commit the swap epoch: the swap is pending in full service with no commit yet, on a standalone unit or an active member. -/
def State.swapWaits (s : State) : Bool :=
  s.hif.fwReady && s.upd.swap == 1 && s.swapReached.isNone && (!s.member || s.holdsBung)

def execSwapWaitExpiry (s : State) : Host.Outcome State Fault Refusal :=
  .next (match s.upd.swapAt with
    | some t => when (s.due t && s.swapWaits) s (swapCommit s)
    | none => s)
def execSwapCommitRetry (s : State) : Host.Outcome State Fault Refusal :=
  .next (match s.upd.retryAt with
    | some t => when (s.due t && s.swapWaits) s (swapCommit s)
    | none => s)

/-- t7 of R485: EV.UPD.SWAPPED, and the result ACTIVE while the slot is on trial. -/
def execLinkBankSwapDone (s : State) : Host.Outcome State Fault Refusal :=
  .next (when s.upd.linkSwap s
    (let u := s.upd
     let s := { s with upd := { u with linkSwap := false } }
     let s := notify Ev.updSwapped (putLe 2 u.swapEpoch ++ zeros 6 ++ putLe 8 u.swapTime) [] s
     if u.trial.isSome then updResult { s with upd := { s.upd with lastResult := 1, lastCause := 0 } } else s))

/-- CONFIRM_WINDOW passes without UPD.CONFIRM: cause 5 (R490). -/
def execConfirmWindowExpiry (s : State) : Host.Outcome State Fault Refusal :=
  .next (match s.upd.confirmBy, s.upd.trial with
    | some t, some _ => when (s.due t && s.hif.fwReady) s (fallBack 5 s)
    | _, _ => s)

end Sys2Proof.Machine
end

