-- ==== Sys2Proof/Machine/Bringup.lean ====
section
/-! DEFINITION. Bring-up (R90–R96, Table BU-1): cold reset (Table BU-3), ROM's choice of a kiln slot (R93, R484), the Wort Bridge and HBM
training, entry into Cellar mode (R100). -/
namespace Sys2Proof.Machine

def Phase.code : Phase → Nat
  | .rom => 0 | .init => 1 | .bridge => 2 | .cellar => 3 | .full => 4 | .fail => 0xFE

/-- A change of phase, with EV.DEV.PHASE to every created instance (R425). -/
def toPhase (p : Phase) (s : State) : State :=
  notify Ev.devPhase (putLe 1 p.code ++ putLe 1 s.dev.phase.code) s.allVis { s with dev := { s.dev with phase := p } }

def State.atStep (s : State) (n : Nat) : State := { s with dev := { s.dev with step := n } }

/-! ### Cold reset -/

/-- What a cold reset leaves (Table BU-3): fuses, kiln slots and their directory, and the sealed settings in flash; the GPIO pins keep the
levels the board drives. -/
def coldState (s : State) : State :=
  let r := State.reset
  let sec : Sec := { life := s.sec.life, debug := s.sec.debug, zeroize := s.sec.zeroize, copyA := s.sec.copyA, copyB := s.sec.copyB }
  let u := s.upd
  let upd : Upd := { slotA := u.slotA, slotB := u.slotB, running := u.running, dirRunning := u.dirRunning, trial := u.trial,
                     trialLeft := u.trialLeft, fusedSvn := u.fusedSvn, keyFloor := u.keyFloor, confirmWindow := u.confirmWindow, dirGen := u.dirGen,
                     swapWait := u.swapWait }
  { r with draws := s.draws, out := s.out, pending := s.pending, sec := sec, upd := upd,
           adm := { r.adm with pcFailed := s.adm.pcFailed, rowsRetired := s.adm.rowsRetired },
           pwr := { r.pwr with gpioIn := s.pwr.gpioIn, thermtrip := s.pwr.thermtrip, pwrfault := s.pwr.pwrfault, tap := s.pwr.tap } }

/-- t = 0 of Table BU-1: the lifecycle moves (Table TK-7) and PD0 starts. -/
def startPowerOn (s : State) : State :=
  let s := { s with dev := { s.dev with inReset := false, step := 1 } }
  match s.sec.life with
  | .armed => { s with sec := { s.sec with life := .unlocked, debug := true } }
  | .unlocked => { s with sec := { s.sec with life := .production, debug := false } }
  | _ => s

/-- A cold reset that is not held: the power-on order begins again. -/
def coldReset (s : State) : State := startPowerOn (coldState s)

/-- A cold reset in which the device stays until PORESET_N is cycled (R534, R538). -/
def coldLocked (s : State) : State :=
  let s := coldState s
  { s with dev := { s.dev with inReset := false, locked := true } }

def execPowerOnResetRelease (s : State) : Host.Outcome State Fault Refusal :=
  .next (when s.dev.inReset s (startPowerOn s))

/-- R533: outputs in high impedance, the fault pins released. -/
def execPoresetAssert (s : State) : Host.Outcome State Fault Refusal :=
  .next (let s := coldState s
    { s with pwr := { s.pwr with thermtrip := false, pwrfault := false } })

/-- Step 1 ends (R529). -/
def execRootpllLock (s : State) : Host.Outcome State Fault Refusal :=
  .next (when (decide (s.dev.step = 1)) s
    (powerAll [1, 2, 3] ({ s with pwr := { s.pwr with rootLocked := true } }.atStep 2)))

/-! ### ROM (R93, R484) -/

/-- The slot ROM verifies next: the trial slot while TRIAL_LEFT is above 0, else the running slot of the directory, else slot A; the other
slot once this one has failed. -/
def State.romTarget (s : State) : Nat :=
  let first := match s.upd.trial with
    | some t => if 0 < s.upd.trialLeft then t else s.upd.dirRunning.getD (1 - t)
    | none => s.upd.dirRunning.getD 0
  if first ∈ s.dev.kilnFailed then 1 - first else first

/-- ROM recovery mode (R89, R93). -/
def romRecovery (s : State) : State :=
  (applyHeld { s with hif := { s.hif with recovery := true }, dev := { s.dev with boot := 0 } }).settled

/-- The key engine may use the UDS: ROM runs, has not locked it, and the device is not in RMA, which disables it (R445, Table TK-7). Assumption log entry 165. -/
def State.udsOpen (s : State) : Bool := !s.sec.udsLocked && s.sec.life != .rma

/-- ROM locks the UDS (R445) and starts firmware from a verified slot: TRIAL_LEFT falls, the confirmation window restarts, FW_EPOCH rises (R484, R490). -/
def romBoot (slot : Nat) (s : State) : State :=
  let x := s.slot slot
  let u := s.upd
  let onTrial := decide (u.trial = some slot)
  let s := if onTrial ∨ u.dirRunning = none then dirWrite s else s
  let confirm := if onTrial && decide (0 < u.confirmWindow) then some (s.mono + Config.sec (60 * u.confirmWindow)) else u.confirmBy
  { s with
    upd := { s.upd with
      running := slot, trialLeft := if onTrial then u.trialLeft - 1 else u.trialLeft, confirmBy := confirm,
      dirRunning := if u.dirRunning.isNone then some slot else u.dirRunning },
    sec := { s.sec with udsLocked := true },
    hif := { s.hif with fwVersion := x.version, svn := x.svn, fwEpoch := if s.hif.fwEpoch + 1 < 256 then s.hif.fwEpoch + 1 else 1 },
    dev := { s.dev with boot := 2, kilnFailed := [] } }

/-- A trial that no boot is left for falls back before ROM chooses (Table UP-6, cause 4). -/
def spentTrial (s : State) : State :=
  if s.upd.trial.isSome ∧ s.upd.trialLeft = 0 then clearTrial 4 s else s

/-- ROM's verdict on a slot; an empty or incomplete slot, or one below the SVN fuses, fails. -/
def romVerdict (slot : Nat) (passed : Bool) (s : State) : State :=
  let x := s.slot slot
  if passed && x.whole && decide (s.upd.fusedSvn ≤ x.svn) then romBoot slot s
  else
    let s := if s.upd.trial = some slot then clearTrial 3 s else s
    let s := { s with dev := { s.dev with kilnFailed := addOnce s.dev.kilnFailed slot } }
    if s.dev.kilnFailed.length < 2 then s else romRecovery s

def execKilnVerify (slot : Nat) (passed : Bool) (s : State) : Host.Outcome State Fault Refusal :=
  .next (
    let s' := spentTrial s
    when (decide (s.dev.boot = 1) && decide (slot = s'.romTarget)) s
      (if s.sec.life = .rma then romRecovery s else romVerdict slot passed s'))

/-! ### Training (R95, R96) -/

/-- Phase FAIL (R95). -/
def failBringup (cause : Nat) (s : State) : State :=
  toPhase .fail (notify Ev.devBringupFail (putLe 1 cause) [] { s with dev := { s.dev with failCause := cause } })

def execWortBridgeTrainEnd (passed : Bool) (s : State) : Host.Outcome State Fault Refusal :=
  .next (when (decide (s.dev.step = 5) && s.hif.fwReady && s.dev.phase == .init) s
    (if passed then
      let s := { s with dev := { s.dev with bridgeUp := true }, flt := { s.flt with wb := [] } }
      powerAll (upFrom 9 6) (toPhase .bridge (s.atStep 6))
     else
      let s := { s with dev := { s.dev with bridgeTries := s.dev.bridgeTries + 1 } }
      if s.dev.bridgeTries < 3 then s else count Cn.buBridgeFail 0 1 (failBringup 1 s)))

/-- Line lane groups that hold a configured port, and enabled planes (R91). Table BU-1 lists PD55 without a condition and R91 does not name it:
the peer lanes are powered on a pair member only (DESIGN CHOICE, assumption log entry 130). -/
def State.usedDomains (s : State) : List Nat :=
  (((mkeys s.port.cfg).map lanePd).eraseDups) ++ ((List.range 16).filter (fun p => (s.planeCfg p).enabled)).map (fun p => 39 + p)
    ++ (if s.member then [55] else [])

/-- The Cellar set's encapsulations become versions and are current in Cellar mode (R214). -/
def installCellar (s : State) : State :=
  let m := s.dev.cfg.cellar.encaps.foldl (fun m r => match r with
    | .encap h v fl sp rec => installVersion h v fl sp rec m
    | _ => m) s.tbl.encaps
  { s with tbl := { s.tbl with encaps := m } }

/-- Step 8 of Table BU-1 is done: every used domain is on, or in fault and retried (R536). -/
def State.stepEightDone (s : State) : Bool :=
  s.usedDomains.all (fun d => s.domOn d || mgetD s.pwr.domains d .off == .fault)

/-- Step 9 follows step 8: ASA bank 1. -/
def nextStep (s : State) : State :=
  if s.dev.step = 8 ∧ s.stepEightDone then powerOn 16 (s.atStep 9) else s

/-- Bank 0 holds the Cellar set and Cellar mode is entered (R100, R101); steps 8 and 9 of Table BU-1 follow. -/
def enterCellar (s : State) : State :=
  let s := s.modBank 0 (fun x => { x with st := .cellar })
  let s := { s with dev := { s.dev with pipes := List.range 4, cellarAt := s.monoNs, step := 8 } }
  let s := toPhase .cellar (installCellar s)
  let s := notify Ev.devCellar (putLe 1 (maskOf (s.dev.hbmUp.filter (fun b => decide (b < 2))))) [] s
  nextStep (powerAll s.usedDomains s)

/-- Step 7 is done: PD15 is on and a table stack is trained (R100). -/
def tryCellar (s : State) : State :=
  if s.dev.step = 7 ∧ s.dev.phase = .bridge ∧ s.domOn 15 ∧ (0 ∈ s.dev.hbmUp ∨ 1 ∈ s.dev.hbmUp) then enterCellar s else s

/-- A stack of the HBM domains: 0 and 1 table, 2 to 5 buffer. -/
def hbmDomain (stack : Nat) : Nat := 9 + stack

/-- A parked PWR.DOMAIN that trains a stack is done. -/
def stackTrained (stack : Nat) (s : State) : State :=
  completeWaiting (fun p => p.wait == .domainOn (hbmDomain stack)) [] s

/-- A buffer stack's failed pseudo-channels are trained again, which of them pass being a free value, and its retired rows are repaired within
the repair limit (R303). Assumption log entry 157. -/
def repairStack (stack : Nat) (s : State) : State :=
  let d := s.draw
  let mine := s.adm.rowsRetired.filter (fun k => k / 2 ^ 37 == stack)
  let s := s.drawn
  { s with adm := { s.adm with
    pcFailed := s.adm.pcFailed.filter (fun k => k / 32 != stack || bit (Config.freeNat d) (k % 32)),
    rowsRetired := s.adm.rowsRetired.filter (fun k => decide (k ∉ mine.take Config.repairLimit)) } }

/-- A stack has trained; a table stack that trains late is given a copy of the tables (R190). -/
def hbmTrained (stack : Nat) (s : State) : State :=
  let s := { s with dev := { s.dev with hbmUp := sortUp (stack :: s.dev.hbmUp), hbmFailed := without s.dev.hbmFailed stack } }
  let s := if stack < 2 then { s with tbl := { s.tbl with copies := addOnce s.tbl.copies stack } } else s
  let s := if stack < 2 then (if s.dev.step = 6 then powerOn 15 (s.atStep 7) else tryCellar s)
    else poolUpkeep s
  stackTrained stack s

/-- R96; both table stacks failed: R95. -/
def hbmUntrained (stack : Nat) (s : State) : State :=
  let s := count Cn.buHbmTrainFail 0 1 { s with dev := { s.dev with hbmFailed := addOnce s.dev.hbmFailed stack } }
  let s := if decide (0 ∈ s.dev.hbmFailed ∧ 1 ∈ s.dev.hbmFailed) && s.dev.phase == .bridge then failBringup 2 s
    else notify Ev.devDegraded (putLe 1 stack) [] s
  stackTrained stack s

def execHbmTrainingDone (stack : Nat) (passed : Bool) (s : State) : Host.Outcome State Fault Refusal :=
  .next (when (decide (stack < 6 ∧ stack ∉ s.dev.hbmUp ∧ stack ∉ s.dev.hbmFailed) && s.domOn (hbmDomain stack) && s.hif.fwReady
      && s.dev.phase != .fail) s
    (let s := if passed && decide (2 ≤ stack) then repairStack stack s else s
     if passed && decide ((s.failedIn stack).length < 3) then hbmTrained stack s else hbmUntrained stack s))

/-! ### Domains that complete a step -/

def State.allOn (s : State) (l : List Nat) : Bool := l.all s.domOn

/-- ROM starts at step 3 and switches the flash to 8D-8D-8D (R543). Bring-up goes on when the domains of a step are on, a step only when the step before it is done (R90, Table BU-1); an ASA bank's domain
carries its bank. -/
def afterPower (pd : Nat) (s : State) : State :=
  if s.dev.step = 2 ∧ s.allOn [1, 2, 3] then { (s.atStep 3) with
    dev := { (s.atStep 3).dev with boot := 1, kilnFailed := [] }, pwr := { (s.atStep 3).pwr with xspiOctal := true } }
  else if s.dev.step = 4 ∧ s.allOn [4, 5, 6, 7, 8] then
    { (s.atStep 5) with upd := { s.upd with microcode := s.upd.running } }
  else
    let s := if 15 ≤ pd ∧ pd ≤ 22 ∧ (s.bank (pd - 15)).st = .off then s.modBank (pd - 15) (fun x => { x with st := .on }) else s
    nextStep (tryCellar s)

end Sys2Proof.Machine
end

