-- ==== Sys2Proof/Machine/Dev.lean ====
section
/-! DEFINITION. DEV family: the DEV commands (Tables BU-10 to BU-15, R105, R106, R116–R118), block resets (R99), the end of the Cellar set
(R106) and the board controller's heartbeat (R112). -/
namespace Sys2Proof.Machine

/-! ### DEV.STATUS -/

def Disc.code : Disc → Nat | .none_ => 0 | .seeking => 1 | .seen => 2 | .mismatch => 3 | .matched => 4

/-- Banks searched: bank 0 in Cellar mode, the powered banks in full service (Table BU-5). -/
def State.asaSearched (s : State) : List Nat :=
  if s.dev.phase = .cellar then (List.range 8).filter (fun b => (s.bank b).st == .cellar)
  else if s.dev.phase = .full then (List.range 8).filter (fun b => (s.bank b).st == .on)
  else []

/-- DEV.STATUS (Table BU-12). -/
def bodyDevStatus : Body := fun _ _ s =>
  let d := s.dev
  let groups := (List.range 16).filter (fun g => s.domOn (23 + g))
  let epoch := (s.newest.map Epoch.num).getD 0
  .read s [] (putLe 1 d.phase.code ++ putLe 1 d.failCause ++ putLe 2 (maskOf d.pipes) ++ putLe 1 (maskOf s.asaSearched)
    ++ putLe 1 (maskOf d.hbmUp) ++ putLe 2 s.planesUpMask ++ putLe 2 (maskOf groups) ++ putLe 1 (maskOf s.pair.peerLanes)
    ++ putLe 1 s.pair.disc.code ++ putLe 2 epoch ++ putLe 1 (b2n s.newest.isSome) ++ zeros 1 ++ putLe 8 s.monoNs ++ putLe 8 d.cellarAt
    ++ putLe 8 d.fullAt ++ putLe 2 s.sunsReachable ++ zeros 22)

/-! ### DEV.SERVICE -/

/-- Why the unit may not enter full service (R105). -/
def State.serviceRefusal (s : State) (degradedOk : Bool) : Option Nat :=
  if s.dev.phase ≠ .cellar then some Dt.devNotCellar
  else if s.newest.isNone then some Dt.devNoEpoch
  else if 0 ∉ s.dev.hbmUp ∨ 1 ∉ s.dev.hbmUp ∨ 0 ∉ s.tbl.copies ∨ 1 ∉ s.tbl.copies then some Dt.devTableHbm
  else if s.bufStacks.length < 4 ∧ !degradedOk then some Dt.devBufferHbm
  else none

/-- Versions that only the Cellar set made current begin their hold (R205, R214). -/
def leaveCellarSet (s : State) : State :=
  let m := s.dev.cfg.cellar.encaps.foldl (fun m r => match r with
    | .encap h v _ _ _ => mmod m (encKey h v) {} (fun x => { x with lastCurrent := some s.mono })
    | _ => m) s.tbl.encaps
  { s with tbl := { s.tbl with encaps := m } }

/-- Ports that retrain at full service: those of rate class 2 and the OTN ports, in ascending order (R106, R124). Assumption log entry 26. -/
def State.fullRatePorts (s : State) : List Nat := mkeys (s.port.cfg.filter (fun e => e.2.type == 2 || e.2.cls == 2))

/-- t2 to t7 of R106. Assumption log entry 112. -/
def enterFull (epoch ports : Nat) (s : State) : State :=
  let s := leaveCellarSet s
  let dev : Dev := { s.dev with fullAt := s.monoNs, pipes := List.range 16, bank0Wait := true, retrain := s.fullRatePorts, retraining := [],
                                retrainMax := orDefault ports 8, retrained := 0, fullRateDue := true }
  let s := toPhase .full { s with dev := dev }
  retrainNext 129 (poolUpkeep (notify Ev.devServiceFull (putLe 2 epoch) s.allVis s))

/-- DEV.SERVICE (R105, R106). -/
def bodyDevService : Body := fun _ e s =>
  let ports := e.p 26 2
  let degradedOk := bit (e.p 25 1) 0
  if e.p 24 1 ≠ 1 ∨ 128 < ports then argErr s
  else match s.serviceRefusal degradedOk with
    | some dt => .err (count Cn.devServiceRefused 0 1 s) St.eState dt
    | none =>
      let epoch := (s.newest.map Epoch.num).getD 0
      let detail := if s.bufStacks.length < 4 then Dt.devDegraded else Dt.hifNone
      { st := enterFull epoch ports s, detail := detail, result := putLe 2 epoch ++ zeros 2 ++ putLe 8 s.timeNs }

/-- Packets that Mill stamped in Cellar mode are gone: bank 0 is cleared and joins the free space (R106). -/
def execFullServiceBank0Clear (s : State) : Host.Outcome State Fault Refusal :=
  .next (when (s.dev.bank0Wait && s.dev.phase == .full && !s.mash.pkts.any (fun m => m.stamp == some 0)) s
    (let s := { s with dev := { s.dev with bank0Wait := false }, asa := { s.asa with cellarHits := [] } }
     asaPower (if (s.bank 0).st = .cellar then s.modBank 0 (fun x => { x with st := .on }) else s)))

/-! ### DEV.RESET -/

/-- The lanes of the peer link all leave (Table BU-4, R405). -/
def peerReset (s : State) : State :=
  if s.peerUp then peerDown (s.modPair (fun p => { p with peerLanes := [] })) else s

/-- A block reset starts (Table BU-4). Assumption log entry 115. -/
def blockReset (kind i : Nat) (s : State) : State :=
  let s := { s with dev := { s.dev with blockResets := addOnce s.dev.blockResets (kind, i) } }
  match kind with
  | 1 => pipeReset i s
  | 2 => bankFault i 4 s
  | 3 => if s.planeUp i then fabricWindows (planeLoss i true s)
         else if (s.plane i).st = .absent ∨ (s.plane i).st = .holdoff then s else enterHoldoff i true s
  | 4 => foldS (mkeys (s.port.cfg.filter (fun e => e.1 / 8 == i))) s portRetrain
  | _ => peerReset s

/-- Blocks of each type (Table BU-4). -/
def blockCount (kind : Nat) : Nat := if kind = 2 then 8 else if kind = 5 then 1 else if kind = 0 ∨ 5 < kind then 0 else 16

/-- A block is resetting, by command or by a fault's recovery. -/
def State.resetting (s : State) (kind i : Nat) : Bool :=
  decide ((kind, i) ∈ s.dev.blockResets) || (kind == 2 && (s.bank i).st == .reloading)

/-- DEV.RESET (R97, R99, R116). An INDEX other than 0 with a KIND other than BLOCK is E_ARG: Table BU-14 does not say that it is ignored (DESIGN
CHOICE, assumption log entry 131). -/
def bodyDevReset : Body := fun _ e s =>
  let kind := e.p 24 1
  let type := e.p 25 1
  let i := e.p 26 2
  let confirm := e.p 28 4
  if kind = 2 then
    if confirm ≠ 0 ∨ blockCount type ≤ i then argErr s
    else if s.resetting type i then .err s St.eBusy Dt.devBlockBusy
    else .ok (blockReset type i s)
  else if type ≠ 0 ∨ i ≠ 0 then argErr s
  else if kind = 1 then (if confirm ≠ 0 then argErr s else .ok (warmRestart 1 s))
  else if kind = 3 then
    (if confirm ≠ 0x0C01D000 then argErr s else .ok { s with dev := { s.dev with coldAt := some (s.mono + Config.ms 10) } })
  else argErr s

/-- A block reset ends: EV.DEV.BLOCK_RESET; the block's own recovery ends with it (R99, R341, R506). -/
def execBlockResetDone (kind index : Nat) (s : State) : Host.Outcome State Fault Refusal :=
  .next (when (decide ((kind, index) ∈ s.dev.blockResets) && !(kind == 2 && (s.bank index).st == .reloading) && (kind != 1 || s.recoveryTurn 12 index)) s
    (let s := { s with dev := { s.dev with blockResets := without s.dev.blockResets (kind, index) } }
     let s := if kind = 1 then endWindow 12 index s
       else if kind = 3 ∧ (s.plane index).st = .holdoff then leaveHoldoff index s else s
     count Cn.buBlockReset 0 1 (notify Ev.devBlockReset (putLe 1 kind ++ zeros 1 ++ putLe 2 index) [] s)))

/-! ### DEV.SET_CELLAR_SET (R102, R118) -/

/-- Why a staging record of the set is bad: the tables allowed, set form only. -/
def cellarRecRefusal (tables : List Nat) (b : List Byte) : Option (Nat × Nat) :=
  if !recOk b || le b 1 1 != 1 || decide (le b 0 1 ∉ tables) then some (St.eArg, Dt.tblBadRecord)
  else if recReserved b then some (St.eArg, Dt.hifReservedNonzero)
  else none

/-- Why an ASA record of the set is bad: an insertion at the end of a 160-bit entry; REGION names the key format, 1, 4 or 5 (assumption
log entry 104). -/
def cellarAsaRefusal (b : List Byte) : Option (Nat × Nat) :=
  let act : BitVec 64 := BitVec.ofNat 64 (le b 16 8)
  if le b 0 1 ≠ 1 ∨ le b 1 1 ∉ [1, 4, 5] ∨ le b 2 2 ≠ 64 ∨ le b 4 4 = 0xFFFFFFFF ∨ le b 8 4 ≠ 0xFFFFFFFF ∨ le b 12 2 ≠ 0 then
    some (St.eArg, Dt.tblBadRecord)
  else if le b 14 2 ≠ 0 ∨ bits act.toNat 46 32 ≠ 0 ∨ actKind act = 3 ∨ (actKind act = 2 ∧ nextReserved (actNext act)) then some (St.eArg, Dt.hifReservedNonzero)
  else if !actionFits false act then some (St.eArg, Dt.asaActionDir)
  else if actKind act = 2 ∧ !nextOk (actNext act) then some (St.eArg, Dt.tblBadRecord)
  else none

/-- An ASA record as the set keeps it: key format and entry. -/
def cellarAsaRec (b : List Byte) : Nat × AsaEntry :=
  (le b 1 1, { id := le b 4 4, action := BitVec.ofNat 64 (le b 16 8), key := bytesAt b 24 20, mask := bytesAt b 44 20 })

/-- A NEXT that the set cannot resolve: a group, or a handle that none of its encapsulations names (R118). -/
def cellarDangles (handles : List Nat) (n : Next) : Bool := nextKind n == 2 || (nextKind n == 1 && decide (nextIndex n ∉ handles))

def TRec.handle? : TRec → Option Nat
  | .encap h _ _ _ _ => some h
  | _ => none

/-- The checks of the set as a whole (R118). Two ASA records with one ENTRY_ID are E_ARG with TBL_BAD_RECORD: R118 names no outcome (DESIGN CHOICE,
assumption log entry 132). -/
def cellarRefusal (c : CellarSet) (s : State) : Option (Nat × Nat) :=
  let hs := c.encaps.filterMap TRec.handle?
  let nexts := (c.lpm ++ c.exact).filterMap TRec.next? ++ (c.asa.filter (fun e => actKind e.2.action == 2)).map (fun e => actNext e.2.action)
  let ids := c.asa.map (fun e => e.2.id)
  let conflict (r : TRec) : Bool := match r with
    | .encap h v fl sp rec => (mget s.tbl.encaps (encKey h v)).any (fun x => !x.equals fl sp rec)
    | _ => false
  if nexts.any (cellarDangles hs) then some (St.eArg, Dt.tblDangling)
  else if hs.eraseDups.length ≠ hs.length ∨ ids.eraseDups.length ≠ ids.length then some (St.eArg, Dt.tblBadRecord)
  else if s.dev.phase = .cellar ∧ c.encaps.any conflict then some (St.eArg, Dt.tblVersionExists)
  else none

/-- A set in Cellar mode replaces the one in use: versions it no longer names begin their hold, new ones are installed (R202, R205). -/
def useCellarSet (c : CellarSet) (s : State) : State :=
  let put (s : State) : State := { s with dev := { s.dev with cfg := { s.dev.cfg with cellar := c } }, asa := { s.asa with cellarHits := [] } }
  if s.dev.phase = .cellar then installCellar (put (leaveCellarSet s)) else put s

/-- The records of a DEV.SET_CELLAR_SET buffer: LPM and exact-match records, ASA records, encapsulations, and the bytes they take. -/
def cellarParts (b : List Byte) : List (List Byte) × List (List Byte) × List (List Byte) × Nat :=
  let (recs, k1) := splitRecs (le b 2 2 + le b 4 2) (b.drop 16)
  let (asas, k2) := splitAsa (le b 6 2) (b.drop (16 + k1))
  let (encs, k3) := splitRecs (le b 8 2) (b.drop (16 + k1 + k2))
  (recs, asas, encs, k1 + k2 + k3)

/-- The first record of the buffer that is not in its format. -/
def cellarBad (b : List Byte) : Option (Nat × Nat) :=
  let (recs, asas, encs, _) := cellarParts b
  ((recs.take (le b 2 2)).findSome? (cellarRecRefusal [1, 2])).orElse (fun _ =>
    ((recs.drop (le b 2 2)).findSome? (cellarRecRefusal [3])).orElse (fun _ =>
      (asas.findSome? cellarAsaRefusal).orElse (fun _ => encs.findSome? (cellarRecRefusal [4]))))

/-- The Cellar set that the buffer gives. -/
def cellarOf (b : List Byte) : CellarSet :=
  let (recs, asas, encs, _) := cellarParts b
  { missPunt := le b 0 1 == 1, defTc := le b 10 1, lpm := (recs.take (le b 2 2)).map parseTRec,
    exact := (recs.drop (le b 2 2)).map parseTRec, asa := asas.map cellarAsaRec, encaps := encs.map parseTRec }

/-- A count above its limit of R102, LPM routes counted in units (R118). -/
def cellarTooMany (b : List Byte) : Bool :=
  decide (4096 < le b 2 2 ∨ 1024 < le b 4 2 ∨ 4096 < le b 6 2 ∨ 1024 < le b 8 2)

/-- DEV.SET_CELLAR_SET (R118). -/
def bodyDevSetCellarSet : Body := fun vi e s =>
  let b := e.buf
  if decide (le b 1 1 ≠ 0 ∨ 8 ≤ le b 10 1) || (bytesAt b 11 5).any (fun x => x != 0) then badReserved s
  else if 1 < le b 0 1 then argErr s
  else if cellarTooMany b then .err s St.eNospace Dt.hifNone
  else if 16 + (cellarParts b).2.2.2 ≠ e.dataLen then badLen vi s
  else match cellarBad b with
    | some (st, dt) => .err s st dt
    | none =>
      if 4096 < sumOf (cellarOf b).lpm lpmUnits then .err s St.eNospace Dt.hifNone
      else match cellarRefusal (cellarOf b) s with
        | some (st, dt) => .err s st dt
        | none => storing s (.ok (useCellarSet (cellarOf b) s))

/-! ### DEV.SET_BOARD (R117) -/

/-- The cage map of a descriptor; none when an entry is out of range, names a cage twice or overlaps another (R117). R117 gives no outcome for a
cage named twice: E_ARG (DESIGN CHOICE, assumption log entry 133). -/
def parseCages (recs : List (List Byte)) : Option (AMap CageMap) :=
  let l := recs.map (fun r => (le r 0 1, ({ firstLane := le r 1 1, lanes := le r 2 1 } : CageMap)))
  let ok (c : Nat × CageMap) : Bool := decide (c.2.lanes ∈ [1, 2, 4, 8] ∧ c.2.firstLane + c.2.lanes ≤ 128)
  let lanes := l.flatMap (fun c => upFrom c.2.firstLane c.2.lanes)
  if l.all ok && (l.map (fun c => c.1)).eraseDups.length == l.length && lanes.eraseDups.length == lanes.length then
    some (l.foldl (fun m c => mset m c.1 c.2) [])
  else none

/-- A port in a cage that the new map changes is up. -/
def State.cageInUse (s : State) (m : AMap CageMap) : Bool :=
  s.dev.cfg.cages.any (fun c => decide (mget m c.1 ≠ some c.2) && (s.portsIn c.1).any (fun p => (s.lport p).st == .up || (s.lport p).st == .downWait))

/-- Down cause MODULE as the new map places each port (Table LN-2). -/
def moduleRefresh (s : State) : State :=
  foldS s.port.cfg s (fun e s =>
    setCause e.1 4 (match s.cageOf e.1 e.2.lanes with | some c => decide ((s.cage c).st ≠ .ready) | none => true) s)

/-- DEV.SET_BOARD (R117). -/
def bodyDevSetBoard : Body := fun vi e s =>
  let b := e.buf
  let sun := le b 0 2
  let n := le b 2 1
  let recs := chunks 4 n (b.drop 16)
  if 2047 < sun ∨ 128 < n then argErr s
  else if e.dataLen ≠ 16 + 4 * n then badLen vi s
  else if (bytesAt b 3 13).any (fun x => x != 0) || recs.any (fun r => decide (le r 3 1 ≠ 0)) then badReserved s
  else match parseCages recs with
    | none => argErr s
    | some m =>
      if sun ≠ s.dev.cfg.sun ∧ (s.planesUp ≠ [] ∨ s.member) then .err s St.eState Dt.devSunInUse
      else if s.cageInUse m then .err s St.eState Dt.devCageInUse
      else
        let s' := { s with dev := { s.dev with cfg := { s.dev.cfg with sun := sun, cages := m } } }
        storing s (.ok (moduleRefresh (startReach s')))

def execDevStatus (vi : Nat) (io : HostIo) (s : State) : Host.Outcome State Fault Refusal :=
  .next (runCommand 0x0201 vi io bodyDevStatus s)
def execDevService (vi : Nat) (io : HostIo) (s : State) : Host.Outcome State Fault Refusal :=
  .next (runCommand 0x0202 vi io bodyDevService s)
def execDevReset (vi : Nat) (io : HostIo) (s : State) : Host.Outcome State Fault Refusal :=
  .next (runCommand 0x0203 vi io bodyDevReset s)
def execDevSetCellarSet (vi : Nat) (io : HostIo) (s : State) : Host.Outcome State Fault Refusal :=
  .next (runCommand 0x0204 vi io bodyDevSetCellarSet s)
def execDevSetBoard (vi : Nat) (io : HostIo) (s : State) : Host.Outcome State Fault Refusal :=
  .next (runCommand 0x0205 vi io bodyDevSetBoard s)

/-! ### The board controller's heartbeat (R112) -/

def execBcHeartbeat (s : State) : Host.Outcome State Fault Refusal :=
  .next (when s.hif.fwReady s
    (let back := s.dev.bcLost
     let s := { s with dev := { s.dev with lastBeat := s.mono, bcLost := false } }
     if back then notify Ev.devBcBack [] [] s else s))

def execBcHeartbeatLoss (s : State) : Host.Outcome State Fault Refusal :=
  .next (when (s.hif.fwReady && !s.dev.bcLost && s.due (s.dev.lastBeat + Config.sec 2)) s
    (count Cn.bcLost 0 1 (notify Ev.devBcLost [] [] { s with dev := { s.dev with bcLost := true } })))

end Sys2Proof.Machine
end

