-- ==== Sys2Proof/Machine/Frm.lean ====
section
/-! DEFINITION. FRM family: tributaries (R133–R135), the time-slot interchange (R136, R137), protection groups (R139, R140) and overhead
channels (R141). -/
namespace Sys2Proof.Machine

/-- An OTN port is named, or the refusal (R151). -/
def otnPort (s : State) (p : Nat) : Option Reply :=
  if 127 < p then some (argErr s) else if s.isOtn p then none else some (.err s St.eState Dt.frmNotOtn)

/-- A tributary that a connection entry or protection group names (R151). -/
def State.tribReferred (s : State) (p t : Nat) : Bool :=
  let tr := mgetD s.frm.cfg.tribs (p * 128 + t) {}
  (s.frm.cfg.pages ++ s.frm.cfg.standby).any (fun e =>
      (e.1 == p && e.2.zipIdx.any (fun w => decide (w.1.toNat / 2 ^ 30 ≠ 0) && decide (w.2 ∈ tr.slots)))
        || e.2.any (fun w => w.toNat / 2 ^ 30 == 2 && w.toNat / 2 ^ 16 % 256 == p && decide (w.toNat % 512 ∈ tr.slots)))
    || s.frm.cfg.prots.any (fun g => g.2.level == 2 && ((g.2.wPort == p && g.2.wTrib == t) || (g.2.pPort == p && g.2.pTrib == t)))

/-- FRM.TRIB (R20, R133, R134, R151): a client rate or a mode that Table LN-11 does not list is unsupported. Assumption log entry 33. -/
def bodyFrmTrib : Body := fun _ e s =>
  let p := e.p 24 1
  let t := e.p 25 1
  let op := e.p 26 1
  let kind := e.p 27 1
  let rate := e.p 28 1
  let mode := e.p 29 1
  match otnPort s p with
  | some r => r
  | none =>
    let key := p * 128 + t
    let others := s.frm.cfg.tribs.filter (fun x => decide (x.1 ≠ key))
    let mine := others.filter (fun x => x.1 / 128 == p)
    if 79 < t ∨ op = 0 ∨ 2 < op then argErr s
    else if op = 2 then
      if !mhas s.frm.cfg.tribs key then argErr s
      else if s.tribReferred p t then .err s St.eState Dt.frmTribInUse
      else storing s (.ok { s with frm := { s.frm with cfg := { s.frm.cfg with tribs := mdel s.frm.cfg.tribs key } } })
    else if e.dataLen < 40 then badLen 0 s
    else
      let mask := leVal (e.buf.take 40)
      let slots := bitsSet mask 320
      let tr : Trib := { kind := kind, rate := rate, slip := mode == 1, slots := slots }
      let need := if kind = 1 then Config.clientSlots rate else slots.length
      if (kind = 1 ∧ 5 < rate) ∨ (kind = 2 ∧ 1 < mode) then .err s St.eUnsupported Dt.hifNone
      else if kind = 0 ∨ 2 < kind ∨ (kind = 1 ∧ (rate = 0 ∨ mode ≠ 0)) ∨ (kind = 2 ∧ rate ≠ 0) ∨ slots = []
          ∨ slots.any (fun x => decide (s.slots p ≤ x)) then argErr s
      else if slots.length ≠ need then .err s St.eArg Dt.hifNone (putLe 2 need)
      else if mine.any (fun x => x.2.slots.any (fun y => decide (y ∈ slots))) then .err s St.eArg Dt.frmTsConflict
      else if kind = 1 ∧ mine.any (fun x => x.2.kind == 1) then .err s St.eState Dt.frmClientExists
      else if 1024 ≤ others.length ∨ 80 ≤ mine.length then .err s St.eNospace Dt.frmTribLimit
      else if mget s.frm.cfg.tribs key ≠ none ∧ mget s.frm.cfg.tribs key ≠ some tr ∧ s.tribReferred p t then
        .err s St.eState Dt.frmTribInUse
      else storing s (.ok { s with frm := { s.frm with cfg := { s.frm.cfg with tribs := mset s.frm.cfg.tribs key tr } } } (putLe 2 need))

/-- A page is well formed for its port (R137): each output through tributary names all slots of one input through tributary of another port in order (R133),
client entries stand in the client tributary's slots, every other slot is unequipped. -/
def State.pageOk (s : State) (p : Nat) (page : List Word) : Bool :=
  let kind (i : Nat) : Nat := (page.getD i 0).toNat / 2 ^ 30
  let mine := s.frm.cfg.tribs.filter (fun t => t.1 / 128 == p)
  (List.range page.length).all (fun i =>
      kind i == 0 || mine.any (fun t => t.2.kind == kind i && decide (i ∈ t.2.slots)))
    && (mine.filter (fun t => t.2.kind == 2)).all (fun t =>
      let ks := t.2.slots.map kind
      if ks.all (fun k => k == 0) then true
      else if ks.all (fun k => k == 2) then
        let srcs := t.2.slots.map (fun i => ((page.getD i 0).toNat / 2 ^ 16 % 256, (page.getD i 0).toNat % 512))
        s.frm.cfg.tribs.any (fun u => u.2.kind == 2 && decide (u.1 / 128 ≠ p) && decide (srcs = u.2.slots.map (fun x => (u.1 / 128, x))))
      else false)

/-- FRM.TSI_STAGE (R136, R137); the standby page is stored (R125). -/
def bodyFrmTsiStage : Body := fun _ e s =>
  let p := e.p 24 1
  match otnPort s p with
  | some r => r
  | none =>
    let page : List Word := (chunks 4 (s.slots p) e.buf).map (fun b => BitVec.ofNat 32 (leVal b))
    if p ∈ s.frm.swapLeft then .err s St.eBusy Dt.frmSwapPending
    else if e.dataLen ≠ 4 * s.slots p then badLen 0 s
    else if page.any (fun w => decide (w &&& 0x3F00FE00 ≠ 0)) then badReserved s
    else if page.any (fun w => w.toNat / 2 ^ 30 == 3) then argErr s
    else if !s.pageOk p page then .err s St.eArg Dt.frmTsiSplit
    else storing s (.ok { s with frm := { s.frm with cfg := { s.frm.cfg with standby := mset s.frm.cfg.standby p page } } })

/-- FRM.TSI_SWAP (R136): the common instant T is 10 µs after the check. -/
def bodyFrmTsiSwap : Body := fun _ e s =>
  let ports := bitsSet (e.p 24 16) 128
  let t := s.timeNs + 10000
  if ports = [] then argErr s
  else if !ports.all s.isOtn then .err s St.eState Dt.frmNotOtn
  else if s.frm.swapLeft ≠ [] then .err s St.eBusy Dt.frmSwapPending
  else if s.onTrial then .err s St.eState Dt.updTrial
  else { st := { s with frm := { s.frm with swapLeft := ports, swapAll := ports, swapT := t } },
         result := putLe 8 t, wait := some (.tsiSwap, true) }

/-- Sources of a protection group exist and match (R139): ports of equal n, or tributaries of equal slot count. -/
def State.protPair (s : State) (c : ProtCfg) : Bool :=
  if c.level = 1 then c.wTrib == 0 && c.pTrib == 0 && s.slots c.wPort == s.slots c.pPort
  else match mget s.frm.cfg.tribs (c.wPort * 128 + c.wTrib), mget s.frm.cfg.tribs (c.pPort * 128 + c.pTrib) with
    | some a, some b => a.slots.length == b.slots.length
    | _, _ => false

/-- FRM.PROT (R139, R140). -/
def bodyFrmProt : Body := fun _ e s =>
  let n := e.p 24 2
  let op := e.p 26 1
  let c : ProtCfg := { level := e.p 27 1, wPort := e.p 28 1, wTrib := e.p 29 1, pPort := e.p 30 1, pTrib := e.p 31 1,
                       revertive := bit (e.p 32 1) 0, sdTrigger := bit (e.p 32 1) 1, holdoff := e.p 33 1, wtr := e.p 34 1 }
  let g := mgetD s.frm.prots n {}
  let res (s : State) : List Byte := putLe 1 (b2n (mgetD s.frm.prots n {}).selected)
  if 255 < n ∨ op = 0 ∨ 3 < op then argErr s
  else if op = 1 then
    if c.level = 0 ∨ 2 < c.level ∨ 100 < c.holdoff ∨ c.wtr = 0 ∨ 12 < c.wtr then argErr s
    else if !s.isOtn c.wPort || !s.isOtn c.pPort then .err s St.eState Dt.frmNotOtn
    else if !s.protPair c || (c.wPort == c.pPort && c.wTrib == c.pTrib) then argErr s
    else
      let s' := { s with frm := { s.frm with cfg := { s.frm.cfg with prots := mset s.frm.cfg.prots n c } } }
      let s' := protRefresh s' n c s'
      storing s (.ok s' (res s'))
  else match mget s.frm.cfg.prots n with
    | none => argErr s
    | some c =>
      if op = 2 then
        storing s (.ok { s with frm := { s.frm with cfg := { s.frm.cfg with prots := mdel s.frm.cfg.prots n },
                                                    prots := mdel s.frm.prots n } } (res s))
      else if 4 < e.p 35 1 then argErr s
      else
        let s' := { s with frm := { s.frm with prots := mset s.frm.prots n { g with opCmd := e.p 35 1 } } }
        let s' := protRefresh s' n c s'
        .ok s' (res s')

/-- FRM.OHS (R141). -/
def bodyFrmOhs : Body := fun _ e s =>
  let n := e.p 24 1
  let op := e.p 25 1
  let c : OhsCfg := { port := e.p 26 1, channel := e.p 27 1, drop := bit (e.p 28 1) 0, insert := bit (e.p 28 1) 1 }
  if 7 < n ∨ op = 0 ∨ 2 < op then argErr s
  else if op = 2 then storing s (.ok { s with frm := { s.frm with cfg := { s.frm.cfg with ohs := mdel s.frm.cfg.ohs n } } })
  else match otnPort s c.port with
    | some r => r
    | none =>
      if c.channel = 0 ∨ 5 < c.channel then argErr s
      else storing s (.ok { s with frm := { s.frm with cfg := { s.frm.cfg with ohs := mset s.frm.cfg.ohs n c } } })

/-- FRM.STATUS (Table LN-11). -/
def bodyFrmStatus : Body := fun vi e s =>
  let p := e.p 24 1
  if 127 < p then argErr s
  else if !s.ownsPort vi p then notPermitted vi s
  else if !s.isOtn p then .err s St.eState Dt.frmNotOtn
  else
    let x := s.lport p
    .read s (putLe 4 x.defects.toNat ++ putLe 2 x.tribAis.length ++ putLe 1 (b2n (decide (p ∈ s.frm.swapLeft)))) []

def execFrmTrib (vi : Nat) (io : HostIo) (s : State) : Host.Outcome State Fault Refusal :=
  .next (runCommand 0x0401 vi io bodyFrmTrib s)
def execFrmTsiStage (vi : Nat) (io : HostIo) (s : State) : Host.Outcome State Fault Refusal :=
  .next (runCommand 0x0402 vi io bodyFrmTsiStage s)
def execFrmTsiSwap (vi : Nat) (io : HostIo) (s : State) : Host.Outcome State Fault Refusal :=
  .next (runCommand 0x0403 vi io bodyFrmTsiSwap s)
def execFrmProt (vi : Nat) (io : HostIo) (s : State) : Host.Outcome State Fault Refusal :=
  .next (runCommand 0x0404 vi io bodyFrmProt s)
def execFrmOhs (vi : Nat) (io : HostIo) (s : State) : Host.Outcome State Fault Refusal :=
  .next (runCommand 0x0405 vi io bodyFrmOhs s)
def execFrmStatus (vi : Nat) (io : HostIo) (s : State) : Host.Outcome State Fault Refusal :=
  .next (runCommand 0x0406 vi io bodyFrmStatus s)

/-- A port's first frame boundary at or after T (R136): its standby page becomes active and is copied back; after the last port the
command completes with T and EV.FRM.TSI_SWAPPED carries T. -/
def execTsiSwapInstant (port : Nat) (s : State) : Host.Outcome State Fault Refusal :=
  .next (when (decide (port ∈ s.frm.swapLeft) && decide (s.frm.swapT ≤ s.timeNs)) s
    (let page := mgetD s.frm.cfg.standby port (List.replicate (s.slots port) 0)
     let left := without s.frm.swapLeft port
     let s := tsiChanged s { s with frm := { s.frm with
       cfg := { s.frm.cfg with pages := mset s.frm.cfg.pages port page, standby := mset s.frm.cfg.standby port page }, swapLeft := left } }
     if left ≠ [] then s
     else
       let s := notifyAt s.frm.swapT Ev.frmTsiSwapped (putLe 16 (maskOf s.frm.swapAll)) (s.frm.swapAll.flatMap s.ownersOf) (saveSettings s)
       completeWaiting (fun x => x.wait == .tsiSwap) (putLe 8 s.frm.swapT)
         { s with frm := { s.frm with swapAll := [] } }))

/-- The hold-off of a group ends (R140). -/
def execProtHoldoffExpiry (group : Nat) (s : State) : Host.Outcome State Fault Refusal :=
  .next (when (((mgetD s.frm.prots group {}).holdoffAt.map s.due).getD false) s (protSwitch group s))

/-- Wait-to-restore ends: a revertive group returns to working (R140). -/
def execWaitToRestoreExpiry (group : Nat) (s : State) : Host.Outcome State Fault Refusal :=
  let g := mgetD s.frm.prots group {}
  .next (when ((g.wtrAt.map s.due).getD false) s
    (protSwitch group { s with frm := { s.frm with prots := mset s.frm.prots group { g with wtrAt := none } } }))

/-- A slip-mode buffer repeats or deletes one frame (R135): the output tributary shows which; the event carries the slips of the last second, at
most once a second. The buffer holds two ODUflex frames whose contents no command brings, so no field holds them (assumption log entry 139). -/
def execTsiSlip (port trib : Nat) (deleted : Bool) (s : State) : Host.Outcome State Fault Refusal :=
  let key := port * 128 + trib
  .next (when (s.portLive port && ((mget s.frm.cfg.tribs key).map (fun t => t.kind == 2 && t.slip)).getD false) s
    (let s := count Cn.frmSlip port 1 (s.emit (.odukSlip port trib deleted))
     let (fire, n, sl) := rated s.frm.slips key s.mono
     let s := { s with frm := { s.frm with slips := sl } }
     if fire then notify Ev.frmSlip (putLe 1 port ++ putLe 1 trib ++ zeros 2 ++ putLe 4 n) (s.ownersOf port) s else s))

/-- One OTUC frame of an overhead serial port (R141): `line` is the channel's overhead received, `inserted` what the pin brought of a
4-byte header and `need` bytes. -/
def execOhsFrame (ohs mfas : Nat) (line inserted : List Byte) (need : Nat) (s : State) : Host.Outcome State Fault Refusal :=
  .next (match mget s.frm.cfg.ohs ohs with
    | none => s
    | some c =>
      when (s.portLive c.port && s.isOtn c.port) s
        (let seq := mgetD s.frm.ohsSeq ohs 0
         let hdr : List Byte := [BitVec.ofNat 8 c.port, BitVec.ofNat 8 c.channel, BitVec.ofNat 8 mfas, BitVec.ofNat 8 seq]
         let s := { s with frm := { s.frm with ohsSeq := mset s.frm.ohsSeq ohs ((seq + 1) % 256) } }
         let s := if c.drop then s.emit (.ohs ohs (hdr ++ line)) else s
         if c.insert then
           let body := (inserted.drop 4).take need
           let s := s.emit (.ohsInsert c.port (fit need body))
           if body.length < need then count Cn.frmOhsUnderrun c.port (need - body.length) s else s
         else s))

end Sys2Proof.Machine
end

