-- ==== Sys2Proof/Machine/Sch.lean ====
section
/-! DEFINITION. SCH family: the SCH commands (Tables ES-5 and ES-6, R350–R378), selection, shaper refills, gate instants and the hold
deadline. Egress processing itself is in Transmit.lean. -/
namespace Sys2Proof.Machine

def schRange (s : State) : Reply := .err s St.eArg Dt.schRange

/-! ### SCH.NODE -/

/-- A node record (Table ES-6) of 24 bytes. -/
structure NodeRec where
  lvl : Nat := 2
  del : Bool := false
  idx : Nat := 0
  node : Node := {}
deriving DecidableEq, Repr

def parseNode (b : List Byte) : NodeRec :=
  { lvl := le b 0 1, del := le b 1 1 == 2, idx := le b 4 4,
    node := { prio := le b 2 1, tc := le b 3 1, parent := le b 8 4, weight := le b 12 2,
              shaper := if bit (le b 20 1) 0 then some (le b 14 2) else none,
              quantum := if le b 16 4 = 0 then 2048 else le b 16 4 } }

/-- Table ES-1: objects of a level. -/
def levelCount (lvl : Nat) : Nat :=
  match lvl with | 2 => 1024 | 3 => 8192 | 4 => 32768 | 5 => 131072 | _ => 0

/-- Whether a shaper is attached to a node other than the given one. -/
def SchCfg.attachedElsewhere (c : SchCfg) (h key : Nat) : Bool :=
  c.nodes.any (fun e => decide (e.1 ≠ key) && (match e.2 with | some n => n.shaper == some h | none => false))

/-- A queue block is named by QMAP (with the DEFAULT entries of the mapped system ports) or by REHOME_BLOCK (R378). -/
def State.blockNamed (s : State) (c : SchCfg) (q : Nat) : Bool :=
  c.qmap.any (fun e => e.2 == q / 8)
    || s.fab.cfg.spmap.any (fun e => !mhas c.qmap e.1 && e.2.sun == s.dev.cfg.sun && e.2.localPort == q / 8)
    || (s.port.cfg.any (fun e => ((mgetD c.ports e.1 {}).rehome.getD e.1) == q / 8))

/-- The detail of the first reason to refuse a node record (R378); none when it may be applied. -/
def nodeRefusal (s : State) (c : SchCfg) (b : List Byte) : Option (Nat × Nat) :=
  let r := parseNode b
  let op := le b 1 1
  let key := nodeKey r.lvl r.idx
  if le b 21 3 ≠ 0 ∨ 2 ≤ le b 20 1 then some (St.eArg, Dt.hifReservedNonzero)
  else if r.lvl < 2 ∨ 5 < r.lvl ∨ op = 0 ∨ 2 < op ∨ levelCount r.lvl ≤ r.idx then some (St.eArg, Dt.schRange)
  else if r.del then
    match c.node r.lvl r.idx with
    | none => some (St.eArg, Dt.schRange)
    | some n =>
      if r.lvl < 5 ∧ c.children r.lvl r.idx ≠ [] then some (St.eState, Dt.schInUse)
      else if r.lvl = 5 ∧ (s.equeue r.idx ≠ [] ∨ s.blockNamed c r.idx) then some (St.eState, Dt.schInUse)
      else if n.shaper.isSome then some (St.eState, Dt.schInUse)
      else none
  else
    let n := r.node
    if 8 < n.prio ∨ 7 < n.tc ∨ (r.lvl ≠ 5 ∧ n.tc ≠ 0) ∨ n.weight = 0 ∨ 4095 < n.weight ∨ n.quantum < 64 ∨ 1048576 < n.quantum then
      some (St.eArg, Dt.schRange)
    else if r.lvl = 2 ∧ 127 < n.parent then some (St.eArg, Dt.schNoParent)
    else if 2 < r.lvl ∧ (c.node (r.lvl - 1) n.parent).isNone then some (St.eArg, Dt.schNoParent)
    else match n.shaper with
      | none => none
      | some h =>
        if !mhas c.shapers h then some (St.eArg, Dt.schNoShaper)
        else if c.attachedElsewhere h key then some (St.eState, Dt.schShaperTaken)
        else none

def SchCfg.applyNode (c : SchCfg) (b : List Byte) : SchCfg :=
  let r := parseNode b
  let key := nodeKey r.lvl r.idx
  { c with nodes := mset c.nodes key (if r.del then none else some r.node) }

/-- The records in buffer order, each checked against the result of the earlier ones: the new tree, or the first failing record. Assumption log entry 24. -/
def runNodes (s : State) : Nat → SchCfg → List (List Byte) → SchCfg × Option (Nat × Nat × Nat)
  | _, c, [] => (c, none)
  | i, c, b :: t =>
    match nodeRefusal s c b with
    | some (st, dt) => (c, some (i, st, dt))
    | none => runNodes s (i + 1) (c.applyNode b) t

def noFail : List Byte := putLe 4 0xFFFFFFFF

/-- SCH.NODE (R350, R377, R378): all records or none. -/
def bodySchNode : Body := fun vi e s =>
  let n := e.p 24 4
  let recs := chunks 24 n e.buf
  if e.dataLen ≠ 24 * n then badLen vi s
  else
    match runNodes s 0 s.sch.cfg recs with
    | (_, some (i, st, dt)) => .err s st dt (putLe 4 i)
    | (c, none) =>
      let s' := { s with sch := { s.sch with cfg := c } }
      storing s (.ok (foldS (List.range 128) s' placeLimbo) noFail)

/-- SCH.QMAP (R351). -/
def bodySchQmap : Body := fun vi e s =>
  let n := e.p 24 4
  let ws := (chunks 4 n e.buf).map leVal
  if e.dataLen ≠ 4 * n then badLen vi s
  else match ws.findIdx? (fun w => bit w 15 || bit w 30) with
  | some i => .err s St.eArg Dt.hifReservedNonzero (putLe 4 i)
  | none =>
    let m := ws.foldl (fun m w => if bit w 31 then mdel m (bits w 14 0) else mset m (bits w 14 0) (bits w 29 16)) s.sch.cfg.qmap
    storing s (.ok { s with sch := { s.sch with cfg := { s.sch.cfg with qmap := m } } } noFail)

/-! ### Shapers and policers -/

/-- Tokens of one refill of 1.024 µs in 2^-16 byte: RATE × 0.000128 bytes, rounded down (R358). Assumption log entry 19. -/
def refillTokens (rate : Nat) : Int := (rate * 128 * 65536 / 1000000 : Nat)

/-- SCH.SET_SHAPER (R358, R359). -/
def bodySchSetShaper : Body := fun _ e s =>
  let h := e.p 24 2
  let op := e.p 26 1
  let c : ShaperCfg := { rate := e.p 28 4, burst := e.p 32 4, overhead := sx 8 (e.p 36 1) }
  let x := mgetD s.sch.shapers h {}
  let res := putLe 8 (wrapInt 64 x.credit)
  if op = 0 ∨ 2 < op then schRange s
  else if op = 2 then
    if !mhas s.sch.cfg.shapers h then .err s St.eArg Dt.schNoShaper
    else if s.sch.cfg.attachedElsewhere h 0 then .err s St.eState Dt.schInUse
    else
      let cfg : SchCfg := { s.sch.cfg with shapers := mdel s.sch.cfg.shapers h }
      storing s (.ok { s with sch := { s.sch with cfg := cfg, shapers := mdel s.sch.shapers h } } res)
  else if c.rate < 64 ∨ 1600000000 < c.rate ∨ c.burst < 64 ∨ 16777216 < c.burst ∨ c.overhead < -32 ∨ 63 < c.overhead then schRange s
  else if mhas s.sch.cfg.shapers h then
    storing s (.ok { s with sch := { s.sch with
      shapers := mset s.sch.shapers h { x with next := some (c, bit (e.p 27 1) 0) } } } res)
  else
    let cfg : SchCfg := { s.sch.cfg with shapers := mset s.sch.cfg.shapers h c }
    storing s (.ok { s with sch := { s.sch with cfg := cfg, shapers := mset s.sch.shapers h { refillAt := s.mono + 10240 } } } res)

/-- One refill of a shaper in force, or the change of R359 in its three steps. -/
def shaperRefill (h : Nat) (x : ShaperSt) (s : State) : State :=
  let old := mgetD s.sch.cfg.shapers h {}
  let (c, credit) : ShaperCfg × Int := match x.next with
    | none => (old, x.credit)
    | some (c, forgive) => (c, if forgive ∧ x.credit < 0 then 0 else x.credit)
  let credit := min (credit + refillTokens c.rate) ((c.burst : Int) * 65536)
  let cfg : SchCfg := { s.sch.cfg with shapers := mset s.sch.cfg.shapers h c }
  { s with sch := { s.sch with cfg := cfg, shapers := mset s.sch.shapers h { x with credit := credit, next := none, refillAt := x.refillAt + 10240 } } }

/-- A block of 16 policers granted to an instance (R377, R420). -/
def State.mayPolice (s : State) (vi n : Nat) : Bool := vi == 0 || inRange (s.inst vi).grant.pol (n / 16)

/-- The six counts of a policer. -/
def polCounts (s : State) (n : Nat) : List Byte :=
  [Cn.polGreen, Cn.polYellow, Cn.polRed, Cn.polGreenBytes, Cn.polYellowBytes, Cn.polRedBytes].flatMap (fun c => putLe 8 (s.counter c n))

/-- SCH.SET_POLICER (R360). -/
def bodySchSetPolicer : Body := fun vi e s =>
  let n := e.p 24 4
  let op := e.p 28 1
  let mode := e.p 29 1
  let f := e.p 30 1
  let c : PolicerCfg := { mode := mode, flags := f % 4, overhead := sx 8 (e.p 31 1), cir := e.p 32 4, cbs := e.p 36 4, eir := e.p 40 4,
                          ebs := e.p 44 4 }
  if 1048575 < n ∨ op = 0 ∨ 3 < op then schRange s
  else if !s.mayPolice vi n then notPermitted vi s
  else if op = 1 then
    if mode = 0 ∨ 2 < mode ∨ c.overhead < -32 ∨ 63 < c.overhead ∨ (mode = 1 ∧ c.eir ≠ 0) then schRange s
    else storing s (.ok (setPolicer n c s))
  else if op = 2 then
    storing s (.ok { s with sch := { s.sch with cfg := { s.sch.cfg with policers := mdel s.sch.cfg.policers n },
                                                policers := mdel s.sch.policers n } })
  else if e.dataLen < 48 then badLen vi s
  else
    let s' := if bit f 2 then
        [Cn.polGreen, Cn.polYellow, Cn.polRed, Cn.polGreenBytes, Cn.polYellowBytes, Cn.polRedBytes].foldl (fun (s : State) k =>
          { s with cnt := { s.cnt with vals := mdel s.cnt.vals (counterKey k n) } }) s
      else s
    { st := s', data := polCounts s n, changed := bit f 2 }

/-! ### Gates -/

/-- The lowest rate a port runs at, in Gb/s (R365): class 1 on every lane. -/
def PortCfg.lowestGbps (c : PortCfg) : Nat := c.lanes * 100

/-- The longest run of consecutive open time of a TC in ns, counted across the cycle boundary. -/
def GateList.longestOpen (l : GateList) (tc : Nat) : Nat :=
  let n := l.entries.length
  if (List.range n).all (fun i => (l.states i).testBit tc) then l.cycle
  else (List.range n).foldl (fun m i => max m ((l.openFor tc (n + 1) i).getD l.cycle)) 0

/-- S of R363: the first BASE + N × CYCLE at least 60 µs after the check. -/
def gateStart (base cycle now : Nat) : Nat := (base + ceilDiv (60000 - timeDiff base now).toNat (max 1 cycle) * cycle) % 2 ^ 64

/-- SCH.GATE_LIST (R362–R365). -/
def bodySchGateList : Body := fun vi e s =>
  let p := e.p 24 1
  let op := e.p 25 1
  let n := e.p 26 2
  let cycle := e.p 28 4
  let base := e.p 32 8
  let ws := (chunks 8 n e.buf).map leVal
  let l : GateList := { entries := ws.map (fun w => (w % 256, w / 2 ^ 32)), cycle := cycle, base := base }
  let cfg := (s.pcfg p).getD {}
  let secy := s.secy p
  let need := 10352 + (s.schPort p).gateOverhead + (if secy.enable ∧ bit secy.flags 0 then 32 else 0)
  let needNs := ceilDiv (need * 8) cfg.lowestGbps
  let start := gateStart base cycle s.timeNs
  if 127 < p ∨ op = 0 ∨ 2 < op then schRange s
  else if (s.pcfg p).isNone ∨ s.isOtn p then .err s St.eState Dt.schNoPort
  else if cycle < 1000 ∨ 1000000000 < cycle then schRange s
  else if targetClass base s.timeNs = .past then .err s St.eArg Dt.timePast
  else if op = 2 then
    let s' := s.modEport p (fun x => { x with pendingList := some (start, false, { cycle := cycle, base := base }) })
    storing s (.ok { s' with sch := { s'.sch with cfg := { s'.sch.cfg with gates := mdel s'.sch.cfg.gates p } } } (putLe 8 start))
  else if n = 0 ∨ 256 < n then schRange s
  else if e.dataLen ≠ 8 * n then badLen vi s
  else if ws.any (fun w => decide (bits w 31 8 ≠ 0)) then badReserved s
  else if l.entries.any (fun x => decide (x.2 < 16 ∨ 1000000000 < x.2)) then schRange s
  else if cycle < sumOf l.entries (fun x => x.2) then .err s St.eArg Dt.schGateCycle
  else if (List.range 8).any (fun tc => decide (l.longestOpen tc < needNs)) then .err s St.eArg Dt.schGateShort
  else
    let s' := s.modEport p (fun x => { x with pendingList := some (start, true, l) })
    storing s (.ok { s' with sch := { s'.sch with cfg := { s'.sch.cfg with gates := mset s'.sch.cfg.gates p l } } } (putLe 8 start))

/-! ### Ports, remarking, flushes and status -/

/-- The re-home queues of a backup port exist and descend from it (R378). -/
def State.rehomeReady (s : State) (b block : Nat) : Bool :=
  (upFrom (8 * block) 8).all (fun q => s.queuePort q == some b)

/-- SCH.PORT (R368, R378). -/
def bodySchPort : Body := fun _ e s =>
  let p := e.p 24 1
  let hold := e.p 26 2
  let back := e.p 28 1
  let block := e.p 30 2
  let pol := e.p 32 4
  let prof := e.p 36 1
  let rem := e.p 37 1
  let c : SchPortCfg := { drrTest := bit (e.p 25 1) 0, holdDown := hold, backup := if back = 0xFF then none else some back,
                          gateOverhead := e.p 29 1, rehome := some block, egPolicer := if pol = 0xFFFFFFFF then none else some pol,
                          egProfile := if prof = 0xFF then none else some prof, remark := if rem = 0xFF then none else some rem }
  if 127 < p ∨ 5000 < hold ∨ (back ≠ 0xFF ∧ 127 < back) ∨ 16383 < block ∨ (pol ≠ 0xFFFFFFFF ∧ 65535 < pol) ∨ (prof ≠ 0xFF ∧ 63 < prof)
      ∨ (rem ≠ 0xFF ∧ 63 < rem) then schRange s
  else if (s.pcfg p).isNone then .err s St.eState Dt.schNoPort
  else if back ≠ 0xFF ∧ (back = p ∨ (s.pcfg back).isNone ∨ !s.rehomeReady back (s.rehomeBlock back)) then .err s St.eArg Dt.schBackup
  else storing s (.ok { s with sch := { s.sch with cfg := { s.sch.cfg with ports := mset s.sch.cfg.ports p c } } })

/-- SCH.REMARK (R373). -/
def bodySchRemark : Body := fun _ e s =>
  let code := e.p 24 1
  let vals := (List.range 9).map (fun i => e.p (26 + i) 1)
  if 63 < code ∨ (vals.take 3).any (fun v => decide (63 < v)) ∨ (vals.drop 3).any (fun v => decide (7 < v)) then schRange s
  else storing s (.ok { s with sch := { s.sch with cfg := { s.sch.cfg with remarks := mset s.sch.cfg.remarks code (e.p 25 1, vals) } } })

/-- Discard packets of queues by command (R370): the packets and bytes flushed. -/
def flushQueues (p : Nat) (qs : List Nat) (s : State) : State × Nat × Nat :=
  let l := qs.flatMap s.equeue
  let s := foldS qs s (fun q s => s.setQueue q [])
  let s := foldS l s (fun k s => releaseRef k.handle k.version (markGone p k.stream k.seq s))
  (if l = [] then s else count Cn.pktFlushedCmd p l.length s, l.length, epktBytes l)

/-- Whether an instance is granted an egress queue (R377). -/
def State.ownsQueue (s : State) (vi q : Nat) : Bool := vi == 0 || inRange (s.inst vi).grant.eq q

/-- SCH.FLUSH (R370). -/
def bodySchFlush : Body := fun vi e s =>
  let scope := e.p 24 1
  let t := e.p 28 4
  if scope = 0 ∨ 2 < scope then schRange s
  else if scope = 1 then
    match s.queuePort t with
    | none => schRange s
    | some p =>
      if !s.ownsQueue vi t then notPermitted vi s
      else
        let (s', n, b) := flushQueues p [t] s
        .ok (foldS (mkeys s'.sch.eports) s' returnCheck) (putLe 4 n ++ putLe 8 b)
  else if 127 < t then schRange s
  else if !(s.queuesUnder t).all (s.ownsQueue vi) then notPermitted vi s
  else
    let (s', n, b) := flushQueues t (s.queuesUnder t) s
    .ok (foldS (mkeys s'.sch.eports) s' returnCheck) (putLe 4 n ++ putLe 8 b)

def HoldState.code : HoldState → Nat
  | .run => 0 | .hold => 1 | .rehomed => 2 | .returning => 3 | .flushed => 4

/-- SCH.STATUS (Table ES-6). -/
def bodySchStatus : Body := fun vi e s =>
  let p := e.p 24 1
  if 127 < p then schRange s
  else if vi ≠ 0 ∧ !s.ownsPort vi p then notPermitted vi s
  else
    let x := s.eport p
    let l := (s.queuesUnder p).flatMap s.equeue ++ x.limbo
    let drr := x.drr || !x.drrLeft.isEmpty
    .read s [] (putLe 1 x.hold.code ++ putLe 1 (b2n drr) ++ putLe 1 (if x.drr then s.drrCauses p else x.drrCause)
      ++ putLe 1 (flag x.list.isSome 0 + flag x.pendingList.isSome 1) ++ zeros 4
      ++ putLe 8 (if x.hold = .hold then x.deadline / 10 else 0) ++ putLe 8 ((x.pendingList.map (fun g => g.1)).getD 0)
      ++ putLe 8 (epktBytes l) ++ putLe 4 l.length ++ zeros 28)

def execSchNode (vi : Nat) (io : HostIo) (s : State) : Host.Outcome State Fault Refusal :=
  .next (runCommand 0x0A01 vi io bodySchNode s)
def execSchQmap (vi : Nat) (io : HostIo) (s : State) : Host.Outcome State Fault Refusal :=
  .next (runCommand 0x0A02 vi io bodySchQmap s)
def execSchSetShaper (vi : Nat) (io : HostIo) (s : State) : Host.Outcome State Fault Refusal :=
  .next (runCommand 0x0A03 vi io bodySchSetShaper s)
def execSchSetPolicer (vi : Nat) (io : HostIo) (s : State) : Host.Outcome State Fault Refusal :=
  .next (runCommand 0x0A04 vi io bodySchSetPolicer s)
def execSchGateList (vi : Nat) (io : HostIo) (s : State) : Host.Outcome State Fault Refusal :=
  .next (runCommand 0x0A05 vi io bodySchGateList s)
def execSchPort (vi : Nat) (io : HostIo) (s : State) : Host.Outcome State Fault Refusal :=
  .next (runCommand 0x0A06 vi io bodySchPort s)
def execSchRemark (vi : Nat) (io : HostIo) (s : State) : Host.Outcome State Fault Refusal :=
  .next (runCommand 0x0A07 vi io bodySchRemark s)
def execSchFlush (vi : Nat) (io : HostIo) (s : State) : Host.Outcome State Fault Refusal :=
  .next (runCommand 0x0A08 vi io bodySchFlush s)
def execSchStatus (vi : Nat) (io : HostIo) (s : State) : Host.Outcome State Fault Refusal :=
  .next (runCommand 0x0A09 vi io bodySchStatus s)

/-! ### Events -/

/-- A SHARED port of a pair member without the bung: its queues are dark (R390). -/
def State.dark (s : State) (p : Nat) : Bool := !s.mayTransmit p

/-- The port node selects its next packet (R353, R355–R357); its port is UP, in RUN and free, and its rate allows a further packet. -/
def execSchedulerSelect (port : Nat) (s : State) : Host.Outcome State Fault Refusal :=
  .next (when (decide (port < 128) && s.portUp port && decide ((s.eport port).hold = .run) && (s.eport port).tx.isEmpty && s.due (s.eport port).paceAt && !s.dark port) s
    (let s := drrUpkeep port s
     match s.offer port 4 1 port with
     | none => s
     | some k => applyPick port k s))

/-- A shaper's refill every 1.024 µs (R358, R359). -/
def execShaperRefill (shaper : Nat) (s : State) : Host.Outcome State Fault Refusal :=
  .next (match mget s.sch.shapers shaper with
    | none => s
    | some x => when (s.due x.refillAt) s (shaperRefill shaper x s))

/-- A list begins its first entry at a cycle start. -/
def EPort.enterList (x : EPort) (l : GateList) (start : Nat) : EPort :=
  { x with list := some l, gateIdx := 0, cycleStart := start, gateEnd := (start + l.interval 0) % 2 ^ 64, gapped := false }

/-- At S the new list replaces the previous one, or every gate opens (R363). -/
def execGateListStart (port : Nat) (s : State) : Host.Outcome State Fault Refusal :=
  .next (match (s.eport port).pendingList with
    | none => s
    | some (start, set, l) =>
      when (s.timeReached start) s
        (let s := s.modEport port (fun x =>
           let x := { x with pendingList := none }
           if set then x.enterList l start else { x with list := none, gapped := false })
         if set then notify Ev.schGateStart (putLe 1 port ++ zeros 7 ++ putLe 8 start) (s.ownersOf port) s else s))

/-- The end of an entry (R362): the next entry, or the next cycle; after a step the last entry's states hold until the first cycle
boundary of the timeline (Table TI-2). -/
def EPort.nextGate (x : EPort) (l : GateList) : EPort :=
  if x.gapped then x.enterList l x.gateEnd
  else if x.gateIdx + 1 < l.entries.length then
    { x with gateIdx := x.gateIdx + 1, gateEnd := (x.gateEnd + l.interval (x.gateIdx + 1)) % 2 ^ 64 }
  else
    let boundary := l.boundary x.gateEnd
    if boundary = x.gateEnd then x.enterList l boundary else { x with gateEnd := boundary, gapped := true }

def execGateEntryEnd (port : Nat) (s : State) : Host.Outcome State Fault Refusal :=
  .next (match (s.eport port).list with
    | none => s
    | some l => when (s.timeReached (s.eport port).gateEnd) s (s.modEport port (fun x => x.nextGate l)))

/-- Every down cause present is MACSEC_NO_SA: the hold deadline does not fall due (R367). -/
def State.onlyNoSa (s : State) (p : Nat) : Bool := decide ((s.lport p).causes = (0x40 : Word))

/-- The queues under a port are emptied at its deadline: first-time packets and those once re-homed. -/
def takeQueues (p : Nat) (s : State) : State × List (Nat × EPkt) :=
  let qs := s.queuesUnder p
  let l := qs.flatMap (fun q => (s.equeue q).map (fun k => (s.queueTc q, k)))
  let lim := (s.eport p).limbo.map (fun k => (k.tc, k))
  ((foldS qs s (fun q s => s.setQueue q [])).modEport p (fun x => { x with limbo := [] }), l ++ lim)

/-- R368: re-home to a backup port in RUN, or flush. Packets already re-homed once are flushed. -/
def holdDeadline (p : Nat) (s : State) : State :=
  let (s, l) := takeQueues p s
  let back := (s.schPort p).backup.filter (fun b => (s.eport b).hold == .run)
  let s := match back with
    | some b =>
      let old := l.filter (fun e => e.2.rehomed.isSome)
      let new := l.filter (fun e => e.2.rehomed.isNone)
      let s := foldS new s (fun e s => rehomeTo p b e.1 e.2 s)
      let s := holdFlushed p (old.map (fun e => e.2)) s
      notify Ev.portRehomed (putLe 1 p ++ putLe 1 b ++ zeros 2 ++ putLe 4 new.length) (s.ownersOf p)
        (s.modEport p (fun x => { x with hold := .rehomed }))
    | none =>
      let s := holdFlushed p (l.map (fun e => e.2)) s
      notify Ev.portHoldFlush (putLe 1 p ++ zeros 3 ++ putLe 4 l.length) (s.ownersOf p)
        (s.modEport p (fun x => { x with hold := .flushed }))
  foldS (mkeys s.sch.eports) s returnCheck

def execHoldDeadline (port : Nat) (s : State) : Host.Outcome State Fault Refusal :=
  .next (when (decide ((s.eport port).hold = .hold) && s.due (s.eport port).deadline && !s.onlyNoSa port) s
    (retrainDone port (holdDeadline port s)))

end Sys2Proof.Machine
end

