-- ==== Sys2Proof/Machine/LineRx.lean ====
section
/-! DEFINITION. The receive MAC of a line port: arrival numbers (R384), timestamps (R162), the JCRC (R44), the frames the MAC discards or
consumes (R123, R168, R293, R457), MACsec receive (R145, R146), and PFC in both directions (R293, R296). -/
namespace Sys2Proof.Machine

/-! ### PFC -/

/-- A pause time in tenths of a nanosecond: quanta of 512 bit times at the port's speed. -/
def State.pauseTime (s : State) (p quanta : Nat) : Nat := quanta * 512 * 10 / max 1 (s.portGbps p)

/-- A PFC frame pauses the named classes; quanta 0 ends a pause (R296). Assumption log entry 72. -/
def pfcReceive (p : Nat) (quanta : List (Option Nat)) (s : State) : State :=
  foldS (List.range 8) s (fun tc s =>
    match quanta.getD tc none with
    | none => s
    | some 0 => s.modPort p (fun x => { x with paused := mdel x.paused tc })
    | some q =>
      count Cn.admPfcXoffRx (p * 8 + tc) 1 (s.modPort p (fun x => { x with paused := mset x.paused tc (s.mono + s.pauseTime p q) })))

def execPfcFrameReceive (port : Nat) (quanta : List (Option Nat)) (s : State) : Host.Outcome State Fault Refusal :=
  .next (when (s.portUp port && !s.isOtn port) s (pfcReceive port quanta s))

def execPfcPauseExpiry (port tc : Nat) (s : State) : Host.Outcome State Fault Refusal :=
  .next (match mget (s.lport port).paused tc with
    | none => s
    | some t => when (s.due t) s (s.modPort port (fun x => { x with paused := mdel x.paused tc })))

/-- R293: XOFF is repeated every half of its pause time. -/
def execPfcXoffRepeat (port tc : Nat) (s : State) : Host.Outcome State Fault Refusal :=
  .next (match mget (s.lport port).xoff tc with
    | none => s
    | some t =>
      when (s.due (t + s.pauseTime port (s.pfcOf port).quanta / 2)) s
        (pfcFrame port tc (s.pfcOf port).quanta (s.modPort port (fun x => { x with xoff := mset x.xoff tc s.mono }))))

/-! ### MACsec receive (R145, IEEE 802.1AE) -/

/-- A SecTAG (assumption log entry 70). -/
structure SecTag where
  an : Nat := 0
  enc : Bool := false
  sci : Option Nat := none
  pn : Nat := 0
  size : Nat := 8
deriving DecidableEq, Repr

/-- The SecTAG of a frame; none if it is invalid. -/
def parseSecTag (b : List Byte) (cipher : Nat) (scs : AMap (AMap Sa)) : Option SecTag :=
  let tci := (byteAt b 14).toNat
  let sc := bit tci 5
  let es := bit tci 6
  let scb := bit tci 4
  let size := if sc then 16 else 8
  let pn := be b 16 4
  let sci := if sc then some (be b 20 8) else if es then some (be b 6 6 * 65536 + b2n (!scb)) else if scs.length = 1 then (mkeys scs).head? else none
  if bit tci 7 || (sc && (es || scb)) || (bit tci 3 && !bit tci 2) || decide (47 < (byteAt b 15).toNat) || (cipher == 1 && pn == 0)
      || decide (b.length < 12 + size + 16 + 4) then none
  else some { an := tci % 4, enc := bit tci 3, sci := sci, pn := pn, size := size }

/-- The full packet number: XPN recovers the upper 32 bits from the lowest acceptable one. -/
def fullPn (cipher lowest pn : Nat) : Nat :=
  if cipher = 1 then pn
  else
    let hi := lowest / 2 ^ 32
    if pn < lowest % 2 ^ 32 ∧ 2 ^ 31 ≤ lowest % 2 ^ 32 ∧ pn < 2 ^ 31 then (hi + 1) * 2 ^ 32 + pn else hi * 2 ^ 32 + pn

/-- A SAK with its salt and SSCI as the engine uses it. -/
def State.keyBytes (s : State) (h : Nat) : List Byte :=
  match mget s.sec.keys h with | some k => k.key ++ k.salt ++ putBe 4 k.ssci | none => []

/-- The frame without its SecTAG and ICV, unchecked. -/
def stripTag (b : List Byte) (size : Nat) : List Byte :=
  let body := b.take 12 ++ (b.take (b.length - 20)).drop (12 + size)
  body ++ fcsOf body

/-- A frame at the MACsec engine: what goes on to Mill, none if it is discarded. -/
def macsecRx (p : Nat) (b : List Byte) (s : State) : Option (List Byte) × State :=
  let y := s.secy p
  if !y.enable then (some b, s)
  else if be b 12 2 ≠ 0x88E5 then
    if y.validate = 2 then (none, count Cn.macsecRxNotvalid p 1 s) else (some b, s)
  else match parseSecTag b y.cipher (s.lport p).rxScs with
    | none => (none, count Cn.macsecRxBadtag p 1 s)
    | some t =>
      if y.validate = 0 then (some (stripTag b t.size), count Cn.macsecRxUnchecked p 1 s)
      else
        let sc := t.sci.getD 0
        match (if t.sci.isSome then (mget (s.lport p).rxScs sc).bind (fun m => mget m t.an) else none) with
        | none => (none, count Cn.macsecRxNosa p 1 s)
        | some a =>
          let pn := fullPn y.cipher a.pn t.pn
          if !a.enabled then (none, count Cn.macsecRxNosa p 1 s)
          else if bit y.flags 1 && decide (pn < a.pn) then (none, count Cn.macsecRxLate p 1 s)
          else match Config.macsecOpen y.confOffset (s.keyBytes a.key ++ putBe 8 pn) (b.take (b.length - 4)) with
            | none =>
              if y.validate = 1 && !t.enc then (some (stripTag b t.size), count Cn.macsecRxUnchecked p 1 s)
              else (none, count Cn.macsecRxNotvalid p 1 s)
            | some body =>
              let a' := { a with pn := max a.pn (pn + 1 - y.replayWindow) }
              (some (body ++ fcsOf body),
                s.modPort p (fun x => { x with rxScs := mmod x.rxScs sc [] (fun m => mset m t.an a') }))

/-! ### The receive MAC -/

/-- A PFC frame's quanta by class: named classes only. -/
def pfcQuanta (b : List Byte) : List (Option Nat) :=
  (List.range 8).map (fun i => if bit (be b 16 2) i then some (be b (18 + 2 * i) 2) else none)

/-- A Pdelay message of the port's probe domain (R168). -/
def State.isProbe (s : State) (p : Nat) (b : List Byte) : Bool :=
  (s.tport p).probeEnable && be b 12 2 == 0x88F7 && decide ((byteAt b 14).toNat % 16 ∈ [2, 3, 10]) && (byteAt b 18).toNat == (s.tport p).domain

/-- A NONE token for a frame that the MAC kept to itself, in the port's order (R385). -/
def macNone (k : Pkt) (s : State) : State :=
  match k.arrival with
  | none => s
  | some _ =>
    issueFrom k.inPort (s.modMash (fun x => { x with
      nextId := x.nextId + 1, pkts := x.pkts ++ [{ pkt := k, stamp := some 0, stampAt := s.mono, verdict := some (.discard 256) }] }))

/-- The frame joins the port's packets before Mill. -/
def toMill (k : Pkt) (s : State) : State :=
  s.modMash (fun x => { x with nextId := x.nextId + 1, pkts := x.pkts ++ [{ pkt := k }] })

/-- The arrival number of a frame start on a paired port (R384). -/
def takeArrival (p : Nat) (s : State) : Option Nat × State :=
  if s.isPaired p then
    (some (s.lport p).arrivals, s.modPort p (fun x => { x with arrivals := (x.arrivals + 1) % 2 ^ 48 }))
  else (none, s)

/-- The receive log of a paired port (R408), and on the active every 64th frame the run the standby may anchor by; no row brings the standby's
answer, so whether it found the run is a free value (assumption log entry 153). Assumption log entry 73. -/
def logArrival (p a : Nat) (jcrc : Word) (len : Nat) (s : State) : State :=
  let s := s.modPpair p (fun x => { x with rxLog := x.rxLog.drop (x.rxLog.length - 65535) ++ [(a, jcrc, len)] })
  let l := (s.ppair p).rxLog
  let run := l.drop (l.length - 64)
  if s.holdsBung && !(s.ppair p).sync && decide (a % 64 = 63 ∧ run.length = 64) then
    let first := (run.head?.map (fun x => x.1)).getD 0
    let found := bit (Config.freeNat s.draw) 0 && (s.ppair p).runFrom.isNone
    let s := s.drawn.modPpair p (fun x => { x with runFrom := if found then some first else x.runFrom })
    s.emit (.anchorRun p first (run.map (fun x => (x.2.1, x.2.2))))
  else s

/-- A frame whose FCS fails (R127); whether an uncorrectable codeword touched it is a free value (R129). -/
def fcsFailed (p : Nat) (s : State) : State :=
  let touched := bit (Config.freeNat s.draw) 0
  let s := count Cn.portRxFcs p 1 s.drawn
  if touched then count Cn.portFecUncorr p 1 s else s

/-- A frame after the checks of the MAC: MACsec, then Mill. -/
def frameOn (k : Pkt) (hit : Bool) (s : State) : State :=
  let p := k.inPort
  if !k.fcsOk then toMill k (fcsFailed p s)
  else if hit && (s.secy p).enable && be k.bytes 12 2 == 0x88E5 then discardUnder 14 p 1 (openFault 14 p 0 0 1 true s)
  else match macsecRx p k.bytes s with
    | (none, s) => s
    | (some b, s) => toMill { k with bytes := b, jcrc := if (s.secy p).enable && be k.bytes 12 2 == 0x88E5 then Config.jcrc b else k.jcrc } s

/-- A frame at the MAC. Assumption log entry 71. -/
def frameIn (p : Nat) (bytes : List Byte) (fcsOk : Bool) (s : State) : State :=
  let s := meterRx p bytes.length (count Cn.portRxBytes p bytes.length (count Cn.portRxFrames p 1 s))
  let (arrival, s) := takeArrival p s
  let jcrc := Config.jcrc bytes
  let s := match arrival with | some a => logArrival p a jcrc bytes.length s | none => s
  let ts := s.rxStamp p
  let s := s.drawn
  let (hit, s) := takeArmed 1 p s
  let sent := if hit then flipBit bytes (Config.freeNat s.draw % (8 * max 1 bytes.length)) else bytes
  let s := if hit then s.drawn else s
  let k : Pkt := { id := s.mash.nextId, inPort := p, bytes := sent, fcsOk := fcsOk, jcrc := jcrc, arrival := arrival,
                   rxTs := if (s.tport p).tsEnable then some (ts / 2 ^ 16, ts % 2 ^ 16, s.tim.epoch) else none, rxAt := s.mono }
  if arrival.isSome && !(s.ppair p).matched then count Cn.pairRxUnmatched p 1 s
  else if ((s.pcfg p).map PortCfg.maxFrame).getD 9216 < bytes.length then macNone k (count Cn.portRxOversize p 1 s)
  else if bytes.length < 64 then macNone k (count Cn.portRxRunt p 1 s)
  else if fcsOk && be bytes 12 2 == 0x8808 && be bytes 14 2 == 1 then macNone k (count Cn.portRxPause p 1 s)
  else if fcsOk && be bytes 12 2 == 0x8808 && be bytes 14 2 == 0x0101 then
    macNone k (if s.isOtn p then s else pfcReceive p (pfcQuanta bytes) s)
  else if fcsOk && mhas s.sec.mka p && be bytes 12 2 == 0x888E then s
  else if fcsOk && s.isProbe p bytes then macNone k s
  else frameOn k hit s

/-- The port has a packet client: an Ethernet port, or an OTN port with a client tributary, whose frames reach Mill as the port's own (R133,
R134). -/
def State.hasClient (s : State) (p : Nat) : Bool :=
  !s.isOtn p || s.frm.cfg.tribs.any (fun t => t.1 / 128 == p && t.2.kind == 1)

/-- A frame is received while the port is UP and forwarding has begun; `bytes` hold the frame with its FCS. On an OTN port it is a frame of the
packet client (R134). Assumption log entry 161. -/
def execLineFrameReceive (port : Nat) (bytes : List Byte) (fcsOk : Bool) (s : State) : Host.Outcome State Fault Refusal :=
  .next (when (s.portUp port && s.hasClient port && decide (s.dev.phase = .cellar ∨ s.dev.phase = .full)) s (frameIn port bytes fcsOk s))

end Sys2Proof.Machine
end

