-- ==== Sys2Proof/Machine/Vi.lean ====
section
/-! DEFINITION. VI family: grants (R419–R422), the VI commands (Table VI-11), punt and inject queues (R433–R437, R444) and the instance
reset (R438). -/
namespace Sys2Proof.Machine

def viErr (dt : Nat) (s : State) : Reply := .err s St.eArg dt

/-! ### The resource object (Table VI-1) -/

def parseGrant (b : List Byte) : Grant :=
  { ports := bitsSet (le b 0 16) 128, share := le b 16 8, puntBytes := le b 24 4, puntQueues := le b 28 1, injectQueues := le b 29 1,
    sp := (le b 32 2, le b 34 2), eq := (le b 36 4, le b 40 4), vrf := (le b 44 2, le b 46 2), label := (le b 48 1, le b 49 1),
    handle := (le b 52 4, le b 56 4), group := (le b 60 2, le b 62 2), regions := bitsSet (le b 64 8) 64, pol := (le b 72 2, le b 74 2),
    lpmQuota := le b 76 4, exactQuota := le b 80 4, profiles := bitsSet (le b 84 8) 64 }

def grantReserved (b : List Byte) : Bool := decide (le b 30 2 ≠ 0 ∨ le b 50 2 ≠ 0 ∨ le b 92 36 ≠ 0)

/-- A range with a size stays inside its object's space (R444); a count of 0 grants nothing. -/
def rangeFits (r : Nat × Nat) (space : Nat) : Bool := r.2 == 0 || decide (r.1 + r.2 ≤ space)

def Grant.ok (g : Grant) : Bool :=
  rangeFits g.sp 32768 && rangeFits g.eq 131072 && rangeFits g.vrf 16384 && rangeFits g.label 256 && rangeFits g.handle 4194304
    && rangeFits g.group 65536 && rangeFits g.pol 65536 && decide (g.puntQueues ≤ 8 ∧ g.injectQueues ≤ 8)
    && decide (g.share % 4096 = 0 ∧ g.puntBytes % 4096 = 0)

def listsMeet (a b : List Nat) : Bool := a.any (fun x => decide (x ∈ b))

/-- Two grants hold one object of a kind in common (R420). -/
def Grant.meets (a b : Grant) : Bool :=
  listsMeet a.ports b.ports || rangesMeet a.sp b.sp || rangesMeet a.eq b.eq || rangesMeet a.vrf b.vrf || rangesMeet a.label b.label
    || rangesMeet a.handle b.handle || rangesMeet a.group b.group || listsMeet a.regions b.regions || listsMeet a.profiles b.profiles
    || rangesMeet a.pol b.pol

/-- Other created instances among VI1 to VI63. -/
def State.otherVis (s : State) (vi : Nat) : List Nat := s.allVis.filter (fun v => v != vi)

/-- R421: what the shares take: SHARE plus overdraft of each instance, the larger of its SHARE and its bytes. -/
def State.poolBroken (s : State) (vi : Nat) (g : Grant) : Bool :=
  let shares := max g.share (s.viBytes vi) + sumOf (s.otherVis vi) (fun v => max (s.inst v).grant.share (s.viBytes v))
  let punts := g.puntBytes + sumOf (s.otherVis vi) (fun v => (s.inst v).grant.puntBytes)
  decide ((s.poolCells + s.hbmCapacity) * 256 < shares) || decide (s.puntMib * 1048576 < punts + 1048576)

/-- An object in one range and not in another. -/
def leaves (old new : Nat × Nat) (n : Nat) : Bool := inRange old n && !inRange new n

/-- R422: the new grant leaves out an object that is in use. -/
def State.grantInUse (s : State) (old new : Grant) : Bool :=
  let t := s.newestTables
  t.lpm.any (fun r => match r with | .lpm _ v _ _ _ => leaves old.vrf new.vrf v | _ => false)
    || t.exact.any (fun r => match r with
        | .exact k key _ _ _ => if k = 1 then leaves old.label new.label (keyVrf k key) else leaves old.vrf new.vrf (keyVrf k key)
        | _ => false)
    || t.present.any (fun k => leaves old.handle new.handle (k / 2 ^ 16))
    || t.groups.any (fun g => leaves old.group new.group g.1)
    || s.asa.regions.any (fun r => decide (r.1 ∈ old.regions ∧ r.1 ∉ new.regions))
    || s.adm.voqs.any (fun v => leaves old.sp new.sp (v.1 / 8) && !v.2.q.isEmpty)

/-- The checks of an object for an instance (R16, R420, R421, R444); none when it may be granted. -/
def grantRefusal (vi : Nat) (b : List Byte) (s : State) : Option Reply :=
  let g := parseGrant b
  if grantReserved b then some (badReserved s)
  else if !g.ok then some (viErr Dt.viRange s)
  else if (s.otherVis vi).any (fun v => g.meets (s.inst v).grant) then some (viErr Dt.viOverlap s)
  else if s.poolBroken vi g then some (.err s St.eNospace Dt.viPool)
  else none

/-! ### Create, modify -/

/-- The instance that a command of VI0 names: 1 to 63, created, not RESETTING (Table VI-3, R444). -/
def viTarget (vi : Nat) (s : State) : Option Reply :=
  if vi = 0 ∨ 63 < vi then some (viErr Dt.viRange s)
  else match (s.inst vi).st with
    | .absent => some (.err s St.eState Dt.viAbsent)
    | .resetting => some (.err s St.eBusy Dt.viResetBusy)
    | .active => none

/-- VI.CREATE (R419, Table VI-3): the instance epoch is kept from before. -/
def bodyViCreate : Body := fun issuer e s =>
  let vi := e.p 24 1
  let b := e.buf
  if vi = 0 ∨ 63 < vi then viErr Dt.viRange s
  else if e.dataLen ≠ 128 then badLen issuer s
  else if s.created vi then .err s St.eState Dt.viExists
  else match grantRefusal vi b s with
    | some r => r
    | none => storing s (.ok (s.modInst vi (fun i => { st := .active, epoch := i.epoch, grant := parseGrant b })))

/-- VI.MODIFY (R422, R432): the new SHARE applies before the next admission decision. -/
def bodyViModify : Body := fun issuer e s =>
  let vi := e.p 24 1
  let b := e.buf
  match viTarget vi s with
  | some r => r
  | none =>
    if e.dataLen ≠ 128 then badLen issuer s
    else match grantRefusal vi b s with
      | some r => r
      | none =>
        if s.grantInUse (s.inst vi).grant (parseGrant b) then .err s St.eState Dt.viInUse
        else storing s (.ok (poolUpkeep (s.modInst vi (fun i => { i with grant := parseGrant b }))))

/-! ### The reset sequence (R438) -/

/-- A queue whose ring is disabled: what was posted and not yet issued is squashed; reads already issued go on. -/
def VQueue.disable (q : VQueue) : VQueue := { q with enabled := false, bufs := [], slots := [] }

/-- Step 1 of R438; a limit of 0 means 100 ms. -/
def startReset (vi limit : Nat) (flush destroying : Bool) (s : State) : State :=
  let s := s.modInst vi (fun i => { i with
    st := .resetting, epoch := (i.epoch + 1) % 256, puntQ := i.puntQ.map (fun q => (q.1, q.2.disable)),
    injQ := i.injQ.map (fun q => (q.1, q.2.disable)), flush := flush, destroying := destroying,
    resetDeadline := s.mono + Config.ms (if limit = 0 then 100 else limit) })
  capacityWarn { s with tbl := { s.tbl with staging := mdel s.tbl.staging vi } }

/-- VI.DESTROY (R422, R431): completes when its reset sequence ends. -/
def bodyViDestroy : Body := fun _ e s =>
  let vi := e.p 24 1
  match viTarget vi s with
  | some r => r
  | none =>
    if 10000 < e.p 26 2 then viErr Dt.viRange s
    else if s.grantInUse (s.inst vi).grant {} then .err s St.eState Dt.viInUse
    else if s.onTrial then .err s St.eState Dt.updTrial
    else { st := startReset vi (e.p 26 2) true true s, wait := some (.drain vi, false) }

/-- VI.RESET (R438). -/
def bodyViReset : Body := fun _ e s =>
  let vi := e.p 24 1
  match viTarget vi s with
  | some r => r
  | none =>
    if 10000 < e.p 26 2 then viErr Dt.viRange s
    else { st := startReset vi (e.p 26 2) (bit (e.p 25 1) 0) false s, wait := some (.drain vi, false) }

/-- Accepted packets attributed to an instance whose first cell is not yet granted (R438 step 4). -/
def State.undrained (s : State) (vi : Nat) : List VPkt :=
  s.adm.voqs.flatMap (fun v => v.2.q.filter (fun k => k.acceptedAt.isSome && k.sent == 0 && s.ownerOf k.pkt.inPort == vi))

/-- A read that is issued and not completed. -/
def State.readsOut (s : State) (vi : Nat) : Bool := (s.inst vi).injQ.any (fun q => !q.2.fetched.isEmpty)

/-- Unresolved provisional packets of an instance that are admitted (R438 step 5). -/
def State.unresolved (s : State) (vi : Nat) : AMap Trub :=
  s.mash.trub.filter (fun t => s.ownerOf t.2.port == vi && (s.copyOf t.2).isSome)

/-- Step 5 with FLUSH: how many packets and copies were discarded. Assumption log entry 89. -/
def flushInstance (vi : Nat) (s : State) : Nat × State :=
  let packets := s.undrained vi
  let s := foldS packets s (fun k s =>
    match s.voqWith k.pkt.id with
    | some (v, _) => count Cn.pktFlushedCmd k.pkt.inPort 1 (dropForward k (s.pullVpkt v k.pkt.id))
    | none => s)
  let prov := s.unresolved vi
  let s := foldS prov s (fun t s =>
    let s := releaseRef t.2.pred.handle t.2.pred.version (withdraw t.2 s)
    count Cn.pktFlushedCmd t.2.port 1 (s.modMash (fun x => { x with trub := mset x.trub t.1 { t.2 with st := .nocopy, held := none } })))
  let copies := (s.inst vi).punts
  let s := foldS copies (s.modInst vi (fun i => { i with punts := [] })) (fun c s => count Cn.pktFlushedCmd c.pkt.inPort 1 s)
  (packets.length + prov.length + copies.length, poolUpkeep s)

/-- R431: the grant is released; the instance epoch stays, and the function's journal. A pair's active replicates the command now. -/
def destroyed (vi : Nat) (s : State) : State :=
  let s := saveSettings (s.modInst vi (fun i => { epoch := i.epoch }))
  if s.pair.st = .active then
    match s.hif.parked.find? (fun p => p.wait == .drain vi) with
    | none => s
    | some p =>
      let (s, n) := sendJournal p.vi p.entry (p.reply s)
      { s with hif := { s.hif with parked := s.hif.parked.map (fun q => if q.wait = .drain vi then { q with wait := .mark n } else q) } }
  else completeWaiting (fun p => p.wait == .drain vi) [] s

/-- Steps 5 and 6 of R438: EV.VI.RESET_DONE, then the completion. -/
def resetEnd (vi : Nat) (s : State) : State :=
  let i := s.inst vi
  let left := (s.undrained vi).length + i.punts.length
  let (n, s) := if i.flush then flushInstance vi s else (0, s)
  let left := if i.flush then 0 else left
  let s := notify Ev.viResetDone (putLe 1 vi ++ putLe 1 (b2n i.flush) ++ zeros 2 ++ putLe 4 n ++ putLe 4 left) [vi] s
  let s := s.modInst vi (fun i => { i with st := .active, flush := false, destroying := false, resetDeadline := 0 })
  if i.destroying then destroyed vi s
  else completeWaiting (fun p => p.wait == .drain vi) (putLe 4 n ++ putLe 4 left) s

/-- The drain ends when nothing is left or at the limit, with every issued read completed (R438 steps 2 to 4). -/
def execViResetDrainEnd (vi : Nat) (s : State) : Host.Outcome State Fault Refusal :=
  .next (when (decide ((s.inst vi).st = .resetting) && !s.readsOut vi
      && (((s.undrained vi).isEmpty && (s.inst vi).punts.isEmpty) || s.due (s.inst vi).resetDeadline)) s (resetEnd vi s))

/-! ### Queues (R433, R444) -/

def State.modPuntQ (s : State) (vi q : Nat) (f : VQueue → VQueue) : State :=
  s.modInst vi (fun i => { i with puntQ := mmod i.puntQ q {} f })
def State.modInjQ (s : State) (vi q : Nat) (f : VQueue → VQueue) : State :=
  s.modInst vi (fun i => { i with injQ := mmod i.injQ q {} f })
def State.puntQueueOf (s : State) (vi q : Nat) : VQueue := mgetD (s.inst vi).puntQ q {}
def State.injQueueOf (s : State) (vi q : Nat) : VQueue := mgetD (s.inst vi).injQ q {}

/-- The queues an instance's grant allows in a direction; VI0 has all eight. -/
def State.queueCount (s : State) (vi dir : Nat) : Nat :=
  if vi = 0 then 8 else if dir = 0 then (s.inst vi).grant.puntQueues else (s.inst vi).grant.injectQueues

/-- VI.QUEUE (R437, R443, R444). -/
def bodyViQueue : Body := fun issuer e s =>
  let vi := e.p 24 1
  let dir := e.p 25 1
  let q := e.p 26 1
  let op := e.p 27 1
  let k := e.p 28 1
  let setMap := bit (e.p 29 1) 0
  let map := (bytesAt e.raw 40 8).map (fun x => x.toNat)
  if 63 < vi then viErr Dt.viRange s
  else if issuer ≠ 0 ∧ issuer ≠ vi then notPermitted issuer s
  else if !s.created vi then .err s St.eState Dt.viAbsent
  else if (s.inst vi).st = .resetting then .err s St.eBusy Dt.viResetBusy
  else if 1 < dir ∨ op = 0 ∨ 2 < op then .err s St.eArg Dt.hifNone
  else if s.queueCount vi dir ≤ q ∨ (op = 1 ∧ (k < 4 ∨ 12 < k ∨ e.p 32 8 % 4096 ≠ 0)) ∨ (setMap ∧ map.any (fun x => decide (7 < x))) then
    viErr Dt.viQueue s
  else
    let s := if setMap then s.modInst vi (fun i => { i with tcMap := map }) else s
    let on : VQueue := { enabled := true, base := e.p 32 8, log2 := k }
    if dir = 0 then .ok (s.modPuntQ vi q (fun x => if op = 1 then on else x.disable))
    else if op = 1 then .ok (s.modInjQ vi q (fun x => { on with fetched := x.fetched }))
    else
      let busy := !(s.injQueueOf vi q).fetched.isEmpty
      let s := s.modInjQ vi q VQueue.disable
      if busy then { st := s, wait := some (.injectReads vi q, false) } else .ok s

/-- STATE of Table VI-9. -/
def InstState.code : InstState → Nat | .absent => 0 | .active => 1 | .resetting => 2

/-- VI.STATUS (Table VI-11). -/
def bodyViStatus : Body := fun issuer e s =>
  let vi := e.p 24 1
  let i := s.inst vi
  if 63 < vi then viErr Dt.viRange s
  else if issuer ≠ 0 ∧ issuer ≠ vi then notPermitted issuer s
  else if !s.created vi then .err s St.eState Dt.viAbsent
  else .read s [] (putLe 1 i.st.code ++ putLe 1 i.epoch ++ zeros 2 ++ putLe 4 (s.puntUsed vi) ++ putLe 8 (s.viBytes vi)
    ++ putLe 8 (s.overdraftOf vi) ++ putLe 8 (i.resetDeadline / 10))

def execViCreate (vi : Nat) (io : HostIo) (s : State) : Host.Outcome State Fault Refusal :=
  .next (runCommand 0x0C01 vi io bodyViCreate s)
def execViModify (vi : Nat) (io : HostIo) (s : State) : Host.Outcome State Fault Refusal :=
  .next (runCommand 0x0C02 vi io bodyViModify s)
def execViDestroy (vi : Nat) (io : HostIo) (s : State) : Host.Outcome State Fault Refusal :=
  .next (runCommand 0x0C03 vi io bodyViDestroy s)
def execViReset (vi : Nat) (io : HostIo) (s : State) : Host.Outcome State Fault Refusal :=
  .next (runCommand 0x0C04 vi io bodyViReset s)
def execViQueue (vi : Nat) (io : HostIo) (s : State) : Host.Outcome State Fault Refusal :=
  .next (runCommand 0x0C05 vi io bodyViQueue s)
def execViStatus (vi : Nat) (io : HostIo) (s : State) : Host.Outcome State Fault Refusal :=
  .next (runCommand 0x0C06 vi io bodyViStatus s)

/-! ### Doorbells of the data path page (Tables VI-6, VI-7) -/

/-- Entries of a queue's ring. -/
def VQueue.size (q : VQueue) : Nat := 2 ^ q.log2
/-- Slots between the old tail and a new one. -/
def VQueue.gap (q : VQueue) (index : Nat) : Nat := (index + q.size - q.tail) % q.size
/-- The device moves on by one slot; the phase inverts at the wrap. -/
def VQueue.advance (q : VQueue) : VQueue :=
  if q.head + 1 < q.size then { q with head := q.head + 1 } else { q with head := 0, phase := !q.phase }

/-- R438: a doorbell of an instance in RESETTING is ignored and counted; one of a disabled queue is ignored. -/
def doorbell (vi index : Nat) (q : VQueue) (f : State → State) (s : State) : State :=
  if ¬ s.hostReach vi then s
  else if (s.inst vi).st = .resetting then count Cn.viDbIgnored vi 1 s
  else if ¬ q.enabled then s
  else if q.size ≤ index then doorbellReject vi s
  else f s

/-- R434: the host posts empty buffers. -/
def execViPuntDb (vi q index : Nat) (slots : List PuntBuf) (s : State) : Host.Outcome State Fault Refusal :=
  let x := s.puntQueueOf vi q
  let n := x.gap (index % 4096)
  let new := slots.take n ++ List.replicate (n - slots.length) ⟨0, 0⟩
  .next (doorbell vi (index % 4096) x (fun s => s.modPuntQ vi q (fun x => { x with bufs := x.bufs ++ new, tail := index % 4096 })) s)

/-- R435: the host submits inject entries. -/
def execViInjDb (vi q index : Nat) (slots : List InjSlot) (s : State) : Host.Outcome State Fault Refusal :=
  let x := s.injQueueOf vi q
  let n := x.gap (index % 4096)
  let new := slots.take n ++ List.replicate (n - slots.length) ⟨zeros 64⟩
  .next (doorbell vi (index % 4096) x (fun s => s.modInjQ vi q (fun x => { x with slots := x.slots ++ new, tail := index % 4096 })) s)

/-- R444: a ring access fails: the queue is disabled. -/
def queueFault (vi dir q : Nat) (s : State) : State :=
  let s := if dir = 0 then s.modPuntQ vi q VQueue.disable else s.modInjQ vi q VQueue.disable
  count Cn.viQueueFault vi 1 (notify Ev.viQueueFault (putLe 1 vi ++ putLe 1 dir ++ putLe 1 q) [vi] s)

/-! ### Punt delivery (R434) -/

/-- The punt entry of Table VI-4. -/
def puntEntry (q : VQueue) (b : PuntBuf) (c : PuntCopy) : List Byte :=
  let r := c.res
  let len := c.pkt.bytes.length - 4
  let flags := flag q.phase 0 + flag (decide (b.len < len)) 1 + flag c.pkt.rxTs.isSome 2 + flag r.injected 3 + flag r.cellar 4
    + flag r.parseTrunc 5 + flag r.paired 6
  let (t, f, e) := c.pkt.rxTs.getD (0, 0, 0)
  putLe 8 b.addr ++ putLe 4 b.len ++ putLe 2 (min len b.len) ++ putLe 2 r.length ++ putLe 1 flags ++ putLe 1 r.reason
    ++ putLe 1 c.pkt.inPort ++ putLe 1 r.program ++ putLe 2 r.epoch ++ putLe 2 (if r.action = 3 then r.destSp else 0) ++ putLe 1 r.tc
    ++ putLe 1 (e % 4) ++ putLe 2 f ++ putLe 4 r.policer ++ putLe 8 t ++ putLe 8 (c.pkt.arrival.getD 0) ++ zeros 16

/-- The first punt copy of a queue, in the queue's order. -/
def State.nextPunt (s : State) (vi q : Nat) : Option PuntCopy :=
  (s.inst vi).punts.find? (fun c => (s.inst vi).puntQueue c.res.tc == some q)

/-- One copy written into the buffer at the head, then its entry, then vector 2 (R433). Assumption log entry 90. -/
def deliverPunt (vi q : Nat) (b : PuntBuf) (c : PuntCopy) (s : State) : State :=
  let x := s.puntQueueOf vi q
  let frame := c.pkt.bytes.take (c.pkt.bytes.length - 4)
  let s := s.emit (.puntWrite vi q (frame.take b.len) (puntEntry x b c))
  let s := s.modPuntQ vi q (fun x => { x.advance with bufs := x.bufs.drop 1 })
  let s := s.modInst vi (fun i => { i with punts := i.punts.filter (fun y => decide (y ≠ c)) })
  let s := if b.len < frame.length then count Cn.viPuntTrunc vi 1 s else s
  postVector vi 2 (count Cn.viPuntPkts vi 1 s)

def execPuntDeliver (vi q : Nat) (writeOk : Bool) (s : State) : Host.Outcome State Fault Refusal :=
  .next (match s.nextPunt vi q, (s.puntQueueOf vi q).bufs with
    | some c, b :: _ =>
      when (c.ended && s.hostReach vi) s (if writeOk then deliverPunt vi q b c s else queueFault vi 0 q s)
    | _, _ => s)

/-! ### Inject (R435, R436) -/

/-- An entry that is malformed, or whose DEST_SP lies outside the grant in MODE 1. -/
def State.injectBad (s : State) (vi : Nat) (b : List Byte) : Bool :=
  let len := le b 8 2
  let mode := le b 10 1
  let fl := le b 11 1
  let direct := mode == 1
  decide (len < 60 ∨ 10236 < len ∨ 1 < mode ∨ bits fl 2 1 ≠ 0 ∨ bits fl 6 5 ≠ 0 ∨ le b 15 1 ≠ 0 ∨ le b 20 44 ≠ 0)
    || (direct && (bit (le b 12 2) 15 || decide (8 ≤ le b 14 1 ∨ 2 ^ 30 ≤ le b 16 4)
        || (vi != 0 && !inRange (s.inst vi).grant.sp (le b 12 2 % 32768))))

/-- The entry as written back: FLAGS with STATUS and PHASE. -/
def injectBack (b : List Byte) (status : Nat) (phase : Bool) : List Byte :=
  patch (fit 64 b) 11 (putLe 1 (le b 11 1 % 2 + status * 8 + flag phase 7))

/-- An entry is taken from the ring: rejected at once, or its frame fetched with the instance epoch of now. -/
def injectFetch (vi q : Nat) (e : InjSlot) (frame : List Byte) (s : State) : State :=
  let x := s.injQueueOf vi q
  let s := s.modInjQ vi q (fun x => { x.advance with slots := x.slots.drop 1 })
  if s.injectBad vi e.raw then
    postVector vi 3 (count Cn.viInjectReject vi 1 (s.emit (.injectBack vi q (injectBack e.raw 2 x.phase))))
  else
    let e' : InjSlot := ⟨injectBack e.raw 0 x.phase⟩
    let f := (e', fit (le e.raw 8 2) frame, (s.inst vi).epoch)
    count Cn.viInjectPkts vi 1 (s.modInjQ vi q (fun x => { x with fetched := x.fetched ++ [f] }))

/-- R278, R436: in ring order; none while the pool is below its floor. -/
def execInjectFetch (vi q : Nat) (frame : List Byte) (s : State) : Host.Outcome State Fault Refusal :=
  .next (match (s.injQueueOf vi q).slots with
    | [] => s
    | e :: _ => when (!s.adm.poolXoff && s.hostReach vi) s (injectFetch vi q e frame s))

/-- The packet of a fetched frame on host port 128 + n, its FCS appended (R435). -/
def State.injectPkt (s : State) (vi : Nat) (e : InjSlot) (frame : List Byte) (epoch : Nat) : Pkt :=
  let b := frame ++ fcsOf frame
  let enc := le e.raw 16 4
  { id := s.mash.nextId, inPort := 128 + vi, bytes := b, jcrc := Config.jcrc b, instEpoch := some epoch,
    direct := if le e.raw 10 1 = 1 then some (le e.raw 12 2, le e.raw 14 1, bits enc 21 0, bits enc 29 22) else none,
    tsReq := bit (le e.raw 11 1) 0, rxAt := s.mono }

/-- The oldest issued read completes: the frame goes to Mill and the entry is written back (R435). -/
def injectDone (vi q : Nat) (e : InjSlot) (frame : List Byte) (epoch : Nat) (s : State) : State :=
  postVector vi 3 ((toMill (s.injectPkt vi e frame epoch) s).emit (.injectBack vi q e.raw))

def execInjectReadDone (vi q : Nat) (readOk : Bool) (s : State) : Host.Outcome State Fault Refusal :=
  .next (match (s.injQueueOf vi q).fetched with
    | [] => s
    | (e, frame, epoch) :: t =>
      let s := s.modInjQ vi q (fun x => { x with fetched := t })
      let s := if readOk then injectDone vi q e frame epoch s else queueFault vi 1 q s
      if t = [] then completeWaiting (fun p => p.wait == .injectReads vi q) [] s else s)

end Sys2Proof.Machine
end

