-- ==== Sys2Proof/Machine/Journal.lean ====
section
/-! DEFINITION. The pair journal (R401–R404): the standby applies a command's records at its commit mark, the active resumes commands at
the mark's acknowledgement. -/
namespace Sys2Proof.Machine

/-! ### The standby -/

/-- The replicated commands (R401, Table RF-1) and what each does. -/
def bodyOf (op : Nat) : Option Body :=
  match op with
  | 0x0202 => some bodyDevService
  | 0x0204 => some bodyDevSetCellarSet
  | 0x0601 => some bodyTblStage
  | 0x0602 => some bodyTblCommit
  | 0x0603 => some bodyTblAbort
  | 0x0605 => some bodyTblPin
  | 0x0608 => some bodyTblConfig
  | 0x0609 => some bodyTblRaConfig
  | 0x060A => some bodyTblRaFlush
  | 0x0701 => some bodyAsaRegion
  | 0x0702 => some bodyAsaProfile
  | 0x0703 => some bodyAsaWrite
  | 0x0706 => some bodyAsaConfig
  | 0x0801 => some bodyAdmProfile
  | 0x0802 => some bodyAdmBind
  | 0x0803 => some bodyAdmClass
  | 0x0804 => some bodyAdmPool
  | 0x0805 => some bodyAdmPfc
  | 0x0902 => some bodyFabSpmap
  | 0x0A01 => some bodySchNode
  | 0x0A02 => some bodySchQmap
  | 0x0A03 => some bodySchSetShaper
  | 0x0A04 => some bodySchSetPolicer
  | 0x0A05 => some bodySchGateList
  | 0x0A06 => some bodySchPort
  | 0x0A07 => some bodySchRemark
  | 0x0A08 => some bodySchFlush
  | 0x0C01 => some bodyViCreate
  | 0x0C02 => some bodyViModify
  | 0x0C03 => some bodyViDestroy
  | _ => none

/-- A partner's completion joins the VI's journal in the order of its ID (R403); the journal keeps its newest 4,096. -/
def insertCompl (j : JEntry) (l : List JEntry) : List JEntry :=
  let rest := l.filter (fun x => decide (x.compl.cmdId ≠ j.compl.cmdId))
  let all := rest.filter (fun x => decide (x.compl.cmdId < j.compl.cmdId)) ++ j :: rest.filter (fun x => decide (j.compl.cmdId < x.compl.cmdId))
  all.drop (all.length - 4096)

/-- Run a body as the apply form of a command: a trial of the standby's own does not refuse it. -/
def applyForm (body : Body) (vi : Nat) (e : Entry) (s : State) : Reply :=
  let u := s.upd
  let plain (x : Slot) : Slot := if x.st = .trial then { x with st := .verified } else x
  let r := body vi e { s with upd := { u with slotA := plain u.slotA, slotB := plain u.slotB } }
  { r with st := { r.st with upd := { r.st.upd with slotA := u.slotA, slotB := u.slotB } } }

/-- The beginning of a bulk copy (R407): the replicated state gives way to what the records that follow carry. The tables are empty in the copy's
epoch, packets in flight take the epoch that the copy commits, entry versions still counted stay on hold (R205), instances that the active
does not know are gone. Commands whose effect is replaced so have had none (R79) and complete with HIF_STANDBY (assumption log entry 83). -/
def bulkBegin (epoch : Nat) (vis : List Nat) (s : State) : State :=
  let held : AMap EncVer := ((s.tbl.encaps.filter (fun e => decide (0 < e.2.refs))).map (fun e => (e.1, { e.2 with lastCurrent := some s.mono })))
  let fail (p : Parked) : Parked :=
    if p.wait = .bulkCopy then { p with status := St.eState, detail := Dt.hifStandby, result := [], data := [], ready := true } else p
  { s with
    tbl := { s.tbl with cfg := {}, epochs := [{ num := epoch }], staging := [], encaps := held },
    mash := { s.mash with pkts := s.mash.pkts.map (fun k => if k.stamp.isSome && k.stamp != some 0 then { k with stamp := some (nextEpoch epoch) } else k) },
    asa := { s.asa with regions := [], profiles := [] },
    adm := { s.adm with cfg := {} },
    sch := { s.sch with cfg := {}, shapers := [], policers := [], eports := s.sch.eports.map (fun e => (e.1, { e.2 with list := none, pendingList := none })) },
    fab := { s.fab with cfg := { s.fab.cfg with spmap := [] } },
    dev := { s.dev with cfg := { s.dev.cfg with cellar := {} } },
    insts := s.insts.map (fun e => if e.1 = 0 ∨ e.1 ∈ vis then e else (e.1, { epoch := e.2.epoch })),
    hif := { s.hif with parked := s.hif.parked.map fail } }

/-- A command's records are applied; none while its commit must wait for an epoch slot (assumption log entry 87). -/
def applyCommand (vi : Nat) (e : Entry) (status detail : Nat) (result : List Byte) (s : State) : Option State :=
  let j : JEntry := { compl := { cmdId := e.cmdId, status := status, detail := detail, result := fit 12 result }, crc := e.crc }
  let journal (s : State) : State := s.modFn vi (fun f => { f with journal := insertCompl j f.journal })
  if e.opcode = 0x0602 ∧ 4 ≤ s.tbl.epochs.length then none
  else if vi = 0xFF ∧ e.opcode = 0x0602 then some (commitOps 0xFF [] s)
  else match bodyOf e.opcode with
    | none => some (journal s)
    | some body =>
      let body := if e.opcode = 0x0C01 ∧ s.created (e.p 24 1) then bodyViModify else body
      let r := applyForm body vi e s
      some (journal (if r.status = St.ok then r.st else s))

/-- The records before a mark, all at one instant; none when one of them must wait. -/
def applyRecs : List JournalRec → State → Option State
  | [], s => some s
  | .mark _ :: t, s => applyRecs t s
  | .bulk epoch vis :: t, s => applyRecs t (bulkBegin epoch vis s)
  | .command vi e st dt res :: t, s => (applyCommand vi e st dt res s).bind (applyRecs t)

/-- Every whole command of the tail is applied at its mark, and the mark acknowledged. -/
def applyTail : Nat → State → State
  | 0, s => s
  | fuel + 1, s =>
    let isMark (r : JournalRec) : Bool := match r with | .mark _ => true | _ => false
    let before := s.pair.tail.takeWhile (fun r => !isMark r)
    match s.pair.tail.drop before.length with
    | .mark n :: rest =>
      match applyRecs before s with
      | none => s
      | some t =>
        let t := t.modPair (fun p => { p with tail := rest, tailSince := if rest = [] then none else some s.mono,
                                              tailBytes := if rest = [] then 0 else p.tailBytes })
        applyTail fuel (t.emit (.journal [.mark n]))
    | _ => s

/-- R402. -/
def execJournalEntry (recs : List JournalRec) (bytes : Nat) (s : State) : Host.Outcome State Fault Refusal :=
  .next (when (s.member && (s.pair.st == .syncing || s.pair.st == .standby || s.pair.st == .stale)) s
    (let s := s.modPair (fun p => { p with tail := p.tail ++ recs, tailBytes := p.tailBytes + bytes,
                                           tailSince := if p.tail = [] ∧ recs ≠ [] then some s.mono else p.tailSince })
     staleRefresh (applyTail (s.pair.tail.length + 1) s)))

/-! ### The active -/

/-- The standby holds every command up to a mark: their completions may go, and their switch points are set (R37, R387). -/
def execJournalMarkAck (mark : Nat) (s : State) : Host.Outcome State Fault Refusal :=
  .next (
    let done := s.pair.unacked.filter (fun u => decide (u.1 ≤ mark))
    when ((s.pair.st == .active || s.pair.st == .fenced) && done != []) s
      (let s := count Cn.pairJournalBytes 0 (sumOf done (fun u => u.2.1))
         (s.modPair (fun p => { p with unacked := p.unacked.filter (fun u => decide (mark < u.1)) }))
       let s := wake (fun w => match w with | .mark k => decide (k ≤ mark) | _ => false) s
       let eps := (done.map (fun u => u.2.2.2)).filter (fun x => x != 0 && x != 2 ^ 16)
       let asas := (done.filter (fun u => u.2.2.2 == 2 ^ 16)).length
       foldS (mkeys s.pair.cfg.ports) s (setPoint (some (eps, asas)))))

end Sys2Proof.Machine
end

