-- ==== Sys2Proof/Machine/MkaOps.lean ====
section
/-! DEFINITION. Sealed MACsec Key Agreement (R457, R458) and the key store (R454): handles, the SAK that a key server distributes, and the
state of a port's instance. -/
namespace Sys2Proof.Machine

def State.modSec (s : State) (f : Sec → Sec) : State := { s with sec := f s.sec }
def State.modMka (s : State) (p : Nat) (f : Mka → Mka) : State :=
  s.modSec (fun x => { x with mka := mmod x.mka p {} f })

/-! ### The key store -/

/-- The lowest free handle of a type (R454, Table TK-5). -/
def State.freeHandle (s : State) (cak : Bool) : Option Nat :=
  (if cak then upFrom 0x5000 1024 else upFrom 1 20479).find? (fun h => !mhas s.sec.keys h)

def State.setKey (s : State) (h : Nat) (k : Key) : State := s.modSec (fun x => { x with keys := mset x.keys h k })
def State.eraseKey (s : State) (h : Nat) : State := s.modSec (fun x => { x with keys := mdel x.keys h })

/-- An SA that is installed uses the key. -/
def State.saUses (s : State) (h : Nat) : Bool :=
  s.port.ports.any (fun p => p.2.txSas.any (fun a => a.2.key == h) || p.2.rxScs.any (fun c => c.2.any (fun a => a.2.key == h)))
/-- An installed SA or a sealed MKA instance uses the key (R456). -/
def State.keyInUse (s : State) (h : Nat) : Bool := s.saUses h || s.sec.mka.any (fun m => m.2.cak == h || m.2.sak == some h)

/-! ### States of R458 -/

/-- SECURED with a live peer and an enabled SA, NO_PEER without a live peer; otherwise as before. -/
def State.mkaStateNow (s : State) (p : Nat) (m : Mka) : Nat :=
  if m.peers = [] then 2 else if (s.lport p).txSas.any (fun a => a.2.enabled) then 1 else m.state

def mkaEvent (p st peers : Nat) (s : State) : State := notify Ev.secMka (putLe 1 p ++ putLe 1 st ++ putLe 1 peers) (s.ownersOf p) s

/-- A change of the instance's state raises EV.SEC.MKA. -/
def mkaRefresh (p : Nat) (s : State) : State :=
  match mget s.sec.mka p with
  | none => s
  | some m =>
    let st := s.mkaStateNow p m
    if st = m.state then s else mkaEvent p st m.peers.length (s.modMka p (fun x => { x with state := st }))

/-! ### SAKs -/

/-- A SAK is installed and enabled in both directions under an AN; the SAs it replaces lose their key (R457). -/
def installSak (p an : Nat) (key : List Byte) (s : State) : State :=
  match s.freeHandle false with
  | none => s
  | some h =>
    let old := (mget (s.lport p).txSas an).map Sa.key
    let sa : Sa := { key := h, enabled := true }
    let s := s.setKey h { port := p, key := key }
    let s := s.modPort p (fun x => { x with
      txSas := (mset x.txSas an sa).map (fun a => (a.1, { a.2 with enabled := a.1 == an })),
      rxScs := x.rxScs.map (fun c => (c.1, mset c.2 an sa)) })
    let s := s.modMka p (fun m => { m with an := an, sak := some h })
    let s := match old with
      | some k => if s.keyInUse k then s else s.eraseKey k
      | none => s
    mkaRefresh p (macsecRefresh p s)

/-- The SCIs' part of the election between equal priorities is a free value (assumption log entry 91). -/
def State.isKeyServer (s : State) (m : Mka) : Bool :=
  m.peers.all (fun q => decide (m.priority < q.2.1) || (m.priority == q.2.1 && bit (Config.freeNat (s.draw + q.1)) 0))

/-- The key server draws a SAK, installs it under the next AN and distributes it. -/
def distributeSak (p : Nat) (s : State) : State :=
  match mget s.sec.mka p with
  | none => s
  | some m =>
    if m.peers = [] ∨ !s.isKeyServer m then s
    else
      let s := installSak p ((m.an + 1) % 4) (fit 32 (Config.randomBytes s.draw)) s.drawn
      s.emit (.mkpdu p ((mget s.sec.mka p).bind Mka.sak))

/-- R457: a new SAK at the SecY's PN_THRESHOLD. -/
def mkaThreshold (p : Nat) (s : State) : State := distributeSak p s

/-- The live peers of an instance changed. -/
def peersChanged (p : Nat) (s : State) : State := mkaRefresh p (distributeSak p s)

end Sys2Proof.Machine
end

