-- ==== Sys2Proof/Machine/Spdm.lean ====
section
/-! DEFINITION. SPDM attestation (R448–R451, Tables TK-2 and TK-3). The message formats and code numbers are those of SPDM 1.2 and 1.3
(DMTF DSP0274), which R450 names and does not restate (assumption log entry 150). -/
namespace Sys2Proof.Machine

/-! ### What is attested -/

/-- The contents of a measurement (Table TK-2). -/
def State.measurementOf (s : State) (n : Nat) : List Byte :=
  let c := s.sec.cfg
  if n = 1 then Config.romVersion
  else if n = 2 then s.measurement
  else if n = 3 then putLe 4 s.hif.fwVersion ++ putLe 4 s.hif.svn
  else if n = 4 then s.tableMeasurement
  else if n = 5 then putLe 1 (b2n s.sec.debug) ++ putLe 1 (b2n Config.gradeAE) ++ putLe 1 s.sec.zeroize
  else if n = 6 then c.anchors.flatMap (fun a => putLe 1 a.1 ++ putLe 1 a.2.1 ++ a.2.2) ++ putLe 1 (b2n c.ownerOnly) ++ putLe 4 c.rekeyInterval
    ++ (mkeys s.sec.mka).flatMap (putLe 1)
  else putLe 8 s.sec.measured.1 ++ putLe 1 s.sec.measured.2

/-- The DMTF value type of a measurement (Table TK-2). -/
def measurementType (n : Nat) : Nat := if n = 1 then 0 else if n = 3 then 6 else if n = 5 then 2 else if n = 6 ∨ n = 7 then 3 else 1

/-- A measurement block: index, DMTF specification, size, and the SHA-384 of the contents under its type. -/
def State.measurementBlock (s : State) (n : Nat) : List Byte :=
  putLe 1 n ++ putLe 1 1 ++ putLe 2 51 ++ putLe 1 (measurementType n) ++ putLe 2 48 ++ fit 48 (Config.sha384 (s.measurementOf n))

/-- The Alias certificate, which carries measurements 2 to 5, the SVN and DEBUG (R449). -/
def State.aliasCert (s : State) : List Byte :=
  Config.aliasCert s.cdi ((upFrom 2 4).flatMap s.measurementOf ++ putLe 4 s.hif.svn ++ putLe 1 (b2n s.sec.debug))

/-- The certificates of a slot, root first (R449): slot 0 Yilesteo's, slot 1 the owner's once installed. -/
def State.certs (s : State) (slot : Nat) : Option (List Byte) :=
  if slot = 0 then some (Config.deviceChain ++ s.aliasCert)
  else if slot = 1 then s.sec.cfg.ownerChain.map (fun c => c ++ s.aliasCert)
  else none

/-- The chain object of a slot: its length, the hash of its root, its certificates. -/
def State.certChain (s : State) (slot : Nat) : Option (List Byte) :=
  (s.certs slot).map (fun c => putLe 2 (52 + c.length) ++ zeros 2 ++ fit 48 (Config.sha384 (Config.rootCert c)) ++ c)

/-- The slots present, as a mask. -/
def State.slotMask (s : State) : Nat := 1 + 2 * b2n s.sec.cfg.ownerChain.isSome

/-- The digest of a chain. -/
def chainHash (c : List Byte) : List Byte := fit 48 (Config.sha384 c)

/-! ### Responses -/

/-- An SPDM ERROR. -/
def spdmError (version code data : Nat) : List Byte := putLe 1 version ++ putLe 1 0x7F ++ putLe 1 code ++ putLe 1 data

/-- The head of a response. -/
def spdmHead (version code p1 p2 : Nat) : List Byte := putLe 1 version ++ putLe 1 code ++ putLe 1 p1 ++ putLe 1 p2

/-- The requests of Table TK-3. -/
def spdmSupported (code : Nat) : Bool := [0x81, 0x82, 0x83, 0x84, 0xE0, 0xE1, 0xE3].contains code

/-- VERSION: 1.2 and 1.3. -/
def versionResponse : List Byte := spdmHead 0x10 0x04 0 0 ++ [0, 2] ++ putLe 2 0x1200 ++ putLe 2 0x1300

/-- CAPABILITIES: CERT_CAP, CHAL_CAP, MEAS_CAP with signature, MEAS_FRESH_CAP; CTExponent 20; messages as SEC.SPDM carries them. -/
def capabilitiesResponse (version : Nat) : List Byte :=
  spdmHead version 0x61 0 0 ++ [0, 20] ++ zeros 2 ++ putLe 4 0x36 ++ putLe 4 4096 ++ putLe 4 4096

/-- ALGORITHMS: P-384, SHA-384 and the DMTF specification. -/
def algorithmsResponse (version : Nat) : List Byte :=
  spdmHead version 0x63 0 0 ++ putLe 2 36 ++ [1, 0] ++ putLe 4 4 ++ putLe 4 0x80 ++ putLe 4 2 ++ zeros 16

/-- The requester offers what the device supports. -/
def offersAlgorithms (req : List Byte) : Bool := bit (le req 6 1) 0 && bit (le req 8 4) 7 && bit (le req 12 4) 1

/-- The summary over the measurements that a CHALLENGE asks for: none, TCB or all. -/
def State.summary (s : State) (kind : Nat) : List Byte :=
  if kind = 0 then []
  else
    let l := (upFrom 1 7).filter (fun n => kind == 0xFF || Config.tcbMeasurement n)
    fit 48 (Config.sha384 (l.flatMap s.measurementBlock))

/-- The requester's context that 1.3 repeats. -/
def spdmContext (version : Nat) (req : List Byte) (at_ : Nat) : List Byte := if version = 0x13 then bytesAt req at_ 8 else []

/-- CHALLENGE_AUTH and the transcript after it, over what was exchanged before. -/
def challengeResponse (c : Spdm) (chain req : List Byte) (s : State) : List Byte :=
  let r := spdmHead c.version 0x03 (le req 2 1) s.slotMask ++ chainHash chain ++ fit 32 (Config.randomBytes s.draw)
    ++ s.summary (le req 3 1) ++ zeros 2 ++ spdmContext c.version req 36
  r ++ fit 96 (Config.spdmSign s.cdi (putLe 1 c.version ++ [0x03] ++ c.vca ++ c.certsAsked ++ req ++ r))

/-- MEASUREMENTS of an operation: how many there are, one, or all. -/
def State.measurementRecord (s : State) (op : Nat) : Nat × List Byte :=
  if op = 0 then (0, [])
  else if op = 0xFF then (7, (upFrom 1 7).flatMap s.measurementBlock)
  else (1, s.measurementBlock op)

/-- MEASUREMENTS, signed when asked. -/
def measurementsResponse (c : Spdm) (req : List Byte) (s : State) : List Byte :=
  let op := le req 3 1
  let signed := bit (le req 2 1) 0
  let (n, rec_) := s.measurementRecord op
  let r := spdmHead c.version 0x60 (if op = 0 then 7 else 0) (if signed then le req 36 1 else 0) ++ putLe 1 n ++ putLe 3 rec_.length ++ rec_
    ++ fit 32 (Config.randomBytes s.draw) ++ zeros 2 ++ spdmContext c.version req (if signed then 37 else 4)
  if signed then r ++ fit 96 (Config.spdmSign s.cdi (putLe 1 c.version ++ [0x60] ++ c.vca ++ c.measAsked ++ req ++ r)) else r

/-- A portion of a certificate chain, at most 3,072 bytes. -/
def certificateResponse (version slot : Nat) (chain : List Byte) (off want : Nat) : List Byte :=
  let part := (chain.drop off).take (min want 3072)
  spdmHead version 0x02 slot 0 ++ putLe 2 part.length ++ putLe 2 (chain.length - off - part.length) ++ part

/-- The fewest bytes a request has in a version. -/
def spdmMinimum (version code p1 : Nat) : Nat :=
  let extra := if version = 0x13 then 8 else 0
  if code = 0xE1 then 20 else if code = 0xE3 then 32 else if code = 0x82 then 8 else if code = 0x83 then 36 + extra
  else if code = 0xE0 then (if bit p1 0 then 37 else 4) + extra else 4

/-! ### The responder -/

/-- The requests after negotiation. -/
def spdmNegotiated (c : Spdm) (req : List Byte) (s : State) : Spdm × List Byte :=
  let code := le req 1 1
  let p1 := le req 2 1
  let p2 := le req 3 1
  let bad := (c, spdmError c.version 0x01 0)
  let asked (r : List Byte) : Spdm × List Byte := ({ c with certsAsked := c.certsAsked ++ req ++ r, measAsked := [] }, r)
  if code = 0x81 then
    asked (spdmHead c.version 0x01 (if c.version = 0x13 then 3 else 0) s.slotMask
      ++ [0, 1].flatMap (fun n => ((s.certChain n).map chainHash).getD []))
  else if code = 0x82 then
    match s.certChain (p1 % 16) with
    | some chain => if chain.length ≤ le req 4 2 then bad else asked (certificateResponse c.version (p1 % 16) chain (le req 4 2) (le req 6 2))
    | none => bad
  else if code = 0x83 then
    match s.certChain (p1 % 16) with
    | some chain =>
      if p2 = 0 ∨ p2 = 1 ∨ p2 = 0xFF then ({ c with certsAsked := [], measAsked := [] }, challengeResponse c chain req s) else bad
    | none => bad
  else if 7 < p2 ∧ p2 ≠ 0xFF ∨ bit p1 0 ∧ (s.certChain (le req 36 1 % 16)).isNone then bad
  else
    let r := measurementsResponse c req s
    ({ c with measAsked := if bit p1 0 then [] else c.measAsked ++ req ++ r }, r)

/-- One SPDM request of an instance: the connection after it and the response (R450, R451). -/
def spdmAnswer (c : Spdm) (req : List Byte) (s : State) : Spdm × List Byte :=
  let version := le req 0 1
  let code := le req 1 1
  let shown := if c.version = 0 then 0x10 else c.version
  if !spdmSupported code then (c, spdmError shown 0x07 code)
  else if code = 0x84 then
    if version ≠ 0x10 then (c, spdmError 0x10 0x41 0)
    else ({ stage := 1, vca := req ++ versionResponse }, versionResponse)
  else if c.stage = 0 then (c, spdmError shown 0x04 0)
  else if (if c.version = 0 then decide (version ≠ 0x12 ∧ version ≠ 0x13) else decide (version ≠ c.version)) then (c, spdmError shown 0x41 0)
  else if req.length < spdmMinimum version code (le req 2 1) then (c, spdmError version 0x01 0)
  else if code = 0xE1 then
    if c.stage ≠ 1 then (c, spdmError version 0x04 0)
    else
      let r := capabilitiesResponse version
      ({ c with version := version, stage := 2, vca := c.vca ++ req ++ r }, r)
  else if code = 0xE3 then
    if c.stage ≠ 2 then (c, spdmError shown 0x04 0)
    else if !offersAlgorithms req then (c, spdmError version 0x01 0)
    else
      let r := algorithmsResponse version
      ({ c with stage := 3, vca := c.vca ++ req ++ r }, r)
  else if c.stage ≠ 3 then (c, spdmError shown 0x04 0)
  else spdmNegotiated c req s

end Sys2Proof.Machine
end

