-- ==== Sys2Proof/Machine/Sec.lean ====
section
/-! DEFINITION. SEC family: the SEC commands (Table TK-9), link handshakes and rekeys (R459–R461) and sealed MACsec Key Agreement (R457). -/
namespace Sys2Proof.Machine

def State.modSecCfg (s : State) (f : SecCfg → SecCfg) : State := s.modSec (fun x => { x with cfg := f x.cfg })

/-! ### Attestation -/

/-- SEC.SPDM (R451): each instance has its own connection. -/
def bodySecSpdm : Body := fun vi e s =>
  let n := e.p 24 2
  if n < 4 ∨ 4096 < n then argErr s
  else if e.dataLen < n then badLen vi s
  else
    let (c, resp) := spdmAnswer (mgetD s.sec.spdm vi {}) (e.buf.take n) s
    { st := (s.modSec (fun x => { x with spdm := mset x.spdm vi c })).drawn, result := putLe 2 resp.length, data := resp }

/-- The copy in use: 1 for copy B (R464). -/
def State.copyInUse (s : State) : Nat :=
  if s.opens s.sec.copyA && (!s.opens s.sec.copyB || decide (s.sec.copyB.gen ≤ s.sec.copyA.gen)) then 0
  else b2n (s.opens s.sec.copyB)

def Lifecycle.code : Lifecycle → Nat | .production => 1 | .armed => 2 | .unlocked => 3 | .rma => 4

/-- SEC.STATUS (Table TK-9). -/
def bodySecStatus : Body := fun _ _ s =>
  let x := s.sec
  let copies := flag (s.opens x.copyA) 0 + flag (s.opens x.copyB) 1 + 4 * s.copyInUse
  .read s [] (putLe 1 x.life.code ++ putLe 1 x.zeroize ++ putLe 1 copies ++ putLe 1 (maskOf (mkeys x.cfg.anchors))
    ++ putLe 2 (x.keys.filter (fun k => !k.2.cak)).length ++ putLe 2 (x.keys.filter (fun k => k.2.cak)).length
    ++ putLe 8 s.settingsGen ++ putLe 1 (b2n x.cfg.ownerChain.isSome) ++ zeros 15)

/-- SEC.IMPORT_PUB (R455). -/
def bodySecImportPub : Body := fun _ _ s =>
  let pub := fit 97 (Config.importPub s.cdi)
  .read s [] (pub ++ zeros 7 ++ fit 96 (Config.aliasSign s.cdi (pub ++ fit 16 Config.serial)))

/-! ### Keys -/

/-- SEC.KEY_IMPORT (R454–R456, R469). -/
def bodySecKeyImport : Body := fun vi e s =>
  let b := e.buf
  let persist := bit (e.p 24 1) 0
  let type := le b 1 1
  if e.dataLen ≠ 192 then badLen vi s
  else if le b 3 5 ≠ 0 ∨ le b 105 3 ≠ 0 ∨ le b 184 8 ≠ 0 then badReserved s
  else if le b 0 1 ≠ 1 ∨ type = 0 ∨ 2 < type then .err (count Cn.secImportFail 0 1 s) St.eAuth Dt.secBadWrap
  else match Config.unwrapKey s.cdi b with
    | none => .err (count Cn.secImportFail 0 1 s) St.eAuth Dt.secBadWrap
    | some key =>
      let cak := type == 2
      if persist && !cak then .err s St.eArg Dt.secNoKey
      else match s.freeHandle cak with
        | none => .err s St.eNospace Dt.secStoreFull
        | some h =>
          let k : Key := { cak := cak, port := le b 2 1, key := fit 32 key, salt := bytesAt b 168 12, ssci := le b 180 4 }
          let s' := s.setKey h k
          if persist then storing s (.ok (s'.modSecCfg (fun c => { c with caks := mset c.caks h (k.port, k.key) })) (putLe 2 h))
          else .ok s' (putLe 2 h)

/-- SEC.KEY_DELETE (R456). -/
def bodySecKeyDelete : Body := fun _ e s =>
  let h := e.p 24 2
  if !mhas s.sec.keys h then .err s St.eArg Dt.secNoKey
  else if s.keyInUse h then .err s St.eState Dt.secKeyInUse
  else if mhas s.sec.cfg.caks h then storing s (.ok ((s.eraseKey h).modSecCfg (fun c => { c with caks := mdel c.caks h })))
  else .ok (s.eraseKey h)

/-- Sealed MKA leaves a port: its SAs and SAKs go (R458). -/
def mkaRemove (p : Nat) (s : State) : State :=
  let keys := (mvals (s.lport p).txSas).map Sa.key
  let s := s.modPort p (fun x => { x with txSas := [], rxScs := x.rxScs.map (fun c => (c.1, [])) })
  let s := foldS keys (s.modSec (fun x => { x with mka := mdel x.mka p })) (fun h s => if s.keyInUse h then s else s.eraseKey h)
  mkaEvent p 3 0 (macsecRefresh p s)

/-- SEC.MKA (R457, R458). -/
def bodySecMka : Body := fun _ e s =>
  let p := e.p 24 1
  let op := e.p 25 1
  let h := e.p 26 2
  let n := e.p 29 1
  let hello := orDefault (e.p 30 2) 2000
  match macsecPort s p with
  | some r => r
  | none =>
    if op = 2 then (if mhas s.sec.mka p then .ok (mkaRemove p s) else argErr s)
    else if op ≠ 1 then argErr s
    else if s.isPaired p then .err s St.eState Dt.secPaired
    else if n = 0 ∨ 32 < n ∨ hello < 500 ∨ 2000 < hello then argErr s
    else if !(mget s.sec.keys h).any (fun k => k.cak && (k.port == p || k.port == 0xFF)) then .err s St.eArg Dt.secNoKey
    else
      let m : Mka := { cak := h, priority := e.p 28 1, hello := hello, ckn := bytesAt e.raw 32 n, nextHello := s.mono }
      .ok (s.modMka p (fun x => { m with an := x.an, sak := x.sak }))

/-! ### Links -/

/-- The link policy trusts a chain that ends at a root: an owner anchor with LINK usage or, with OWNER_ONLY clear, the Yilesteo root, which `[]`
stands for (R462, R463). Assumption log entry 167. -/
def State.trusts (s : State) (root : List Byte) : Bool :=
  s.sec.cfg.anchors.any (fun a => bit a.2.1 0 && a.2.2 == root) || (!s.sec.cfg.ownerOnly && root == [])

/-- SEC.LINK (R461, R462, Table TK-9). Assumption log entry 93. -/
def bodySecLink : Body := fun _ e s =>
  let op := e.p 24 1
  let t := e.p 25 1
  let iv := orDefault (e.p 28 4) 86400
  if op = 1 then
    if iv < 60 ∨ 604800 < iv then argErr s
    else storing s (.ok (s.modSecCfg (fun c => { c with ownerOnly := bit (e.p 26 1) 0, rekeyInterval := iv })))
  else if op = 2 then
    if 16 < t then argErr s
    else if !(s.link t).keyed then .err s St.eState Dt.hifNone
    else if (s.link t).running then .ok s
    else .ok (startHandshake t s)
  else argErr s

/-- SEC.TRUST (R463). Assumption log entry 92. -/
def bodySecTrust : Body := fun vi e s =>
  let n := e.p 24 1
  let op := e.p 25 1
  let a := s.sec.cfg.anchors
  if 3 < n ∨ op = 0 ∨ 2 < op then argErr s
  else if op = 1 then
    if e.dataLen ≠ 97 then badLen vi s
    else if 4 ≤ a.length then .err s St.eNospace Dt.secAnchorFull
    else storing s (.ok (s.modSecCfg (fun c => { c with anchors := mset c.anchors n (e.p 26 1, e.buf) })))
  else if !mhas a n then argErr s
  else storing s (.ok (s.modSecCfg (fun c => { c with anchors := mdel c.anchors n })))

/-- SEC.OWNER_CERT (R449, R469). -/
def bodySecOwnerCert : Body := fun vi e s =>
  let op := e.p 24 1
  if op = 1 then
    if e.dataLen < Config.deviceCsr.length then badLen vi s
    else .read s (putLe 4 Config.deviceCsr.length) Config.deviceCsr
  else if op = 2 then
    if e.dataLen = 0 ∨ 8192 < e.dataLen then badLen vi s
    else if !Config.chainEndsInDeviceId e.buf then .err s St.eAuth Dt.secChain
    else storing s (.ok (s.modSecCfg (fun c => { c with ownerChain := some e.buf })))
  else if op = 3 then storing s (.ok (s.modSecCfg (fun c => { c with ownerChain := none })))
  else argErr s

/-! ### Debug and zeroisation -/

/-- A submitted token (Table TK-7). Assumption log entry 94. -/
def submitToken (scope : Nat) (token : List Byte) (s : State) : Reply :=
  if s.sec.life = .unlocked ∨ s.sec.life = .rma ∨ (s.sec.life = .armed ∧ scope = 1) then .err s St.eState Dt.secLifecycle
  else
    let keys := (s.sec.cfg.anchors.filter (fun a => bit a.2.1 1)).map (fun a => a.2.2)
    if !s.sec.challenge.any (fun c => Config.tokenValid c token scope keys) then
      .err (count Cn.secDebugAttempt 0 1 s) St.eAuth Dt.secToken
    else .ok (s.modSec (fun x => { x with life := if scope = 1 then .armed else .rma }))

/-- SEC.DEBUG (R467). -/
def bodySecDebug : Body := fun vi e s =>
  let op := e.p 24 1
  let scope := e.p 25 1
  if op = 1 then
    if e.dataLen < 32 then badLen vi s
    else
      let c := fit 32 (Config.randomBytes s.draw)
      { st := (s.modSec (fun x => { x with challenge := some c })).drawn, data := c }
  else if op ≠ 2 ∨ scope = 0 ∨ 2 < scope then argErr s
  else if e.dataLen ≠ 96 then badLen vi s
  else submitToken scope e.buf s

/-- SEC.ZEROIZE (R466): cold reset follows 10 ms after the completion. -/
def bodySecZeroize : Body := fun _ e s =>
  if e.p 24 4 ≠ 0x5EC0DE then .err s St.eArg Dt.secConfirm
  else if 16 ≤ s.sec.zeroize then .err s St.eState Dt.secLifecycle
  else
    let s := s.modSec (fun x => { x with zeroize := x.zeroize + 1, keys := [], copyA := {}, copyB := {} })
    .ok { s with dev := { s.dev with coldAt := some (s.mono + Config.ms 10) } }

def execSecSpdm (vi : Nat) (io : HostIo) (s : State) : Host.Outcome State Fault Refusal :=
  .next (runCommand 0x0D01 vi io bodySecSpdm s)
def execSecStatus (vi : Nat) (io : HostIo) (s : State) : Host.Outcome State Fault Refusal :=
  .next (runCommand 0x0D02 vi io bodySecStatus s)
def execSecImportPub (vi : Nat) (io : HostIo) (s : State) : Host.Outcome State Fault Refusal :=
  .next (runCommand 0x0D03 vi io bodySecImportPub s)
def execSecKeyImport (vi : Nat) (io : HostIo) (s : State) : Host.Outcome State Fault Refusal :=
  .next (runCommand 0x0D04 vi io bodySecKeyImport s)
def execSecKeyDelete (vi : Nat) (io : HostIo) (s : State) : Host.Outcome State Fault Refusal :=
  .next (runCommand 0x0D05 vi io bodySecKeyDelete s)
def execSecMka (vi : Nat) (io : HostIo) (s : State) : Host.Outcome State Fault Refusal :=
  .next (runCommand 0x0D06 vi io bodySecMka s)
def execSecLink (vi : Nat) (io : HostIo) (s : State) : Host.Outcome State Fault Refusal :=
  .next (runCommand 0x0D07 vi io bodySecLink s)
def execSecTrust (vi : Nat) (io : HostIo) (s : State) : Host.Outcome State Fault Refusal :=
  .next (runCommand 0x0D08 vi io bodySecTrust s)
def execSecOwnerCert (vi : Nat) (io : HostIo) (s : State) : Host.Outcome State Fault Refusal :=
  .next (runCommand 0x0D09 vi io bodySecOwnerCert s)
def execSecDebug (vi : Nat) (io : HostIo) (s : State) : Host.Outcome State Fault Refusal :=
  .next (runCommand 0x0D0A vi io bodySecDebug s)
def execSecZeroize (vi : Nat) (io : HostIo) (s : State) : Host.Outcome State Fault Refusal :=
  .next (runCommand 0x0D0B vi io bodySecZeroize s)

/-! ### Handshakes (R459–R461) -/

/-- A link whose lanes are encrypted: a plane with ENCRYPT, or a member's peer link, with its domain on. -/
def State.linkEncrypted (s : State) (l : Nat) : Bool :=
  if l = 16 then s.member && s.domOn 55 else decide (l < 16) && (s.planeCfg l).encrypt && s.domOn (39 + l)

/-- A handshake fails: traffic goes on in the current slot, and a rekey is tried again after 1 s. -/
def linkFailed (l cause : Nat) (s : State) : State :=
  let s := count Cn.secLinkAuthFail l 1 (notify Ev.secLinkAuthFail (putLe 1 l ++ putLe 1 cause) [] s)
  s.modLink l (fun x => { x with running := false, ephemeral := false, retryAt := if x.keyed then some (s.mono + Config.sec 1) else none })

/-- The secret stands: the first one keys slot 0; a new one goes to the other slot, the sender switches, and the old slot is accepted
for 1 ms more. Assumption log entry 95. -/
def linkKeyed (l : Nat) (s : State) : State :=
  s.modLink l (fun x =>
    if x.keyed then { x with running := false, ephemeral := false, slot := 1 - x.slot, gen := x.gen + 1, lastAt := s.mono,
                             oldKept := true, oldUntil := if l = 16 then some (s.mono + Config.ms 1) else none, retryAt := none }
    else { x with keyed := true, running := false, ephemeral := false, slot := 0, gen := 0, lastAt := s.mono, oldKept := false, oldUntil := none,
                  retryAt := none })

/-- R459: the far end's public key is answered with this end's; its verified transcript keys the link; R460 for the peer link. -/
def execLinkHandshakeMessage (link : Nat) (m : Handshake) (s : State) : Host.Outcome State Fault Refusal :=
  .next (when (s.linkEncrypted link) s
    (match m with
    | .ephemeral _ =>
      let started := (s.link link).running
      let s := if started then s else startHandshake link s
      s.modLink link (fun x => { x with ephemeral := true })
    | .verified root far pair =>
      if !(s.link link).ephemeral then s
      else if !s.trusts root then linkFailed link (if root = [] then 3 else 1) s
      else if link = 16 ∧ (far ≠ s.partnerOf ∨ pair ≠ s.pairSun) then linkFailed link 4 s
      else linkKeyed link s
    | .failed cause => linkFailed link cause s))

/-- R461: REKEY_INTERVAL since the link's last handshake. -/
def execRekeyIntervalExpiry (link : Nat) (s : State) : Host.Outcome State Fault Refusal :=
  let x := s.link link
  .next (when (x.keyed && !x.running && x.retryAt.isNone && s.due (x.lastAt + Config.sec s.sec.cfg.rekeyInterval)) s (startHandshake link s))

/-- t3 of R461. -/
def execOldKeySlotExpiry (link : Nat) (s : State) : Host.Outcome State Fault Refusal :=
  let x := s.link link
  .next (when (x.oldUntil.any s.due) s
    (notify Ev.secLinkRekey (putLe 1 link ++ zeros 3 ++ putLe 4 x.gen) [] 
      (s.modLink link (fun x => { x with oldKept := false, oldUntil := none }))))

def execHandshakeRetry (link : Nat) (s : State) : Host.Outcome State Fault Refusal :=
  .next (when ((s.link link).retryAt.any s.due) s (startHandshake link s))

/-! ### MKA (R457, R458, IEEE 802.1X-2020 clause 9) -/

/-- The SAK of the elected key server is taken over. -/
def takeSak (p : Nat) (m : Mkpdu) (s : State) : State :=
  match mget s.sec.mka p, m.sak with
  | some k, some (an, key) => if mhas k.peers m.member && !s.isKeyServer k then installSak p (an % 4) key s else s
  | _, _ => s

/-- A good MKPDU: a peer that lists this member is live for 6 s more. -/
def mkpduGood (p : Nat) (m : Mkpdu) (k : Mka) (s : State) : State :=
  let fresh := m.live && !mhas k.peers m.member
  let s := if m.live then s.modMka p (fun x => { x with peers := mset x.peers m.member (m.priority, s.mono + Config.sec 6) }) else s
  let s := if fresh then peersChanged p s else s
  mkaRefresh p (takeSak p m s)

def execMkpduReceive (port : Nat) (m : Mkpdu) (s : State) : Host.Outcome State Fault Refusal :=
  .next (match mget s.sec.mka port with
    | none => s
    | some k =>
      when (s.portLive port) s
        (if m.icvOk then mkpduGood port m k s else count Cn.secMkaIcvFail port 1 s))

/-- The hello timer: an MKPDU, with the SAK in use if this member is key server. -/
def execMkaHello (port : Nat) (s : State) : Host.Outcome State Fault Refusal :=
  .next (match mget s.sec.mka port with
    | none => s
    | some k =>
      when (s.portLive port && s.due k.nextHello) s
        ((s.modMka port (fun x => { x with nextHello := s.mono + Config.ms k.hello })).emit
          (.mkpdu port (if s.isKeyServer k then k.sak else none))))

/-- R458: a peer is lost 6 s after its last MKPDU. -/
def execMkaLifetimeExpiry (port peer : Nat) (s : State) : Host.Outcome State Fault Refusal :=
  .next (match (mget s.sec.mka port).bind (fun k => mget k.peers peer) with
    | none => s
    | some (_, t) =>
      when (s.due t) s (peersChanged port (s.modMka port (fun x => { x with peers := mdel x.peers peer }))))

end Sys2Proof.Machine
end

