-- ==== Sys2Proof/Machine/LinkRx.lean ====
section
/-! DEFINITION. A link frame at a fabric lane (R312–R315): the TAG, its cells, and the entries of a CTRL cell by KIND (Tables FB-4, PR-1),
with the reliable control stream that carries them (R318). -/
namespace Sys2Proof.Machine

/-! ### The reliable control stream -/

/-- The next expected number, past those already received. -/
def ctlAdvance (got : List Nat) : Nat → Nat → Nat
  | 0, e => e
  | fuel + 1, e => if e ∈ got then ctlAdvance got fuel ((e + 1) % 2 ^ 24) else e

/-- A number of the stream arrives: the stream after it, and whether it is new. The first number from a unit sets the expected one; a
number within 4,096 of it that was not yet seen is new (assumption log entry 65). -/
def ctlTake (t : Option CtlStream) (n : Nat) : CtlStream × Bool :=
  match t with
  | none => ({ expected := (n + 1) % 2 ^ 24, got := [n] }, true)
  | some t =>
    let behind := dist 24 n t.expected
    let fresh := decide (n ∉ t.got) && (decide (2 ^ 23 ≤ behind) || decide (behind ≤ 4096))
    if fresh then
      let got := n :: t.got
      let e := ctlAdvance got 4098 t.expected
      ({ expected := e, got := got.filter (fun x => decide (2 ^ 23 ≤ dist 24 x e) || decide (dist 24 x e ≤ 4096)) }, true)
    else (t, false)

/-- The acknowledgement of a control stream (R326). -/
def ctlAck (src : Nat) (s : State) : State :=
  match mget s.rack.ctl src with
  | none => s
  | some t =>
    let cum := (t.expected + 2 ^ 24 - 1) % 2 ^ 24
    let bm := maskOf ((List.range 32).filter (fun i => decide ((cum + 2 + i) % 2 ^ 24 ∈ t.got)))
    sendEntry [src] (ackEntryBytes true 0 0 0 cum (BitVec.ofNat 32 bm)) s

/-! ### Entries -/

/-- BUNG by its byte 1. -/
def bungEntryIn (e : List Byte) (s : State) : State :=
  let gen := be e 2 4
  match be e 1 1 with
  | 1 => bungRenewIn gen (be e 6 4) s
  | 2 => bungAckIn gen (be e 6 4) s
  | 3 => bungHandoverIn gen s
  | 4 => bungHandoverAckIn gen s
  | _ => s

/-- RECON by its byte 1. -/
def reconEntryIn (e : List Byte) (s : State) : State :=
  let kind := be e 1 1
  if kind = 1 then reconQueryIn (be e 2 2) (be e 4 6) s
  else if 2 ≤ kind ∧ kind ≤ 4 then reconAnswerIn (be e 2 2) (be e 4 6) kind (be e 10 2) (be e 12 1) (be e 13 3) s
  else s

def announceOf (e : List Byte) : Announce :=
  let f := be e 10 1
  { pairSun := be e 2 2, sun := be e 4 2, gen := be e 6 4, bung := bit f 0, fenced := bit f 1, synced := bit f 2 }

/-- One control entry of a unit. A JOURNAL entry's bytes are taken with the whole journal by JOURNAL_ENTRY (assumption log entry 107). -/
def ctlEntry (src : Nat) (e : List Byte) (s : State) : State :=
  let tokTc := be e 6 1
  match be e 0 1 with
  | 1 => when (decide (tokTc < 8)) s (rackToken 1 src (be e 2 2) (be e 4 2) tokTc (be e 7 3) (be e 10 1) s)
  | 2 => when (decide (tokTc < 8)) s (rackToken 2 src (be e 2 2) (be e 4 2) tokTc (be e 7 3) (be e 10 1) s)
  | 3 => when (decide (be e 4 1 < 8)) s (requestEntry src (be e 2 2) (be e 4 1) (bit (be e 5 1) 0) (be e 6 4) s)
  | 4 => when (decide (be e 4 1 < 8)) s (creditEntry src (be e 2 2) (be e 4 1) (be e 6 2) s)
  | 5 => ackEntry src (bit (be e 1 1) 0) (be e 2 2) (be e 4 2) tokTc (be e 7 3) (BitVec.ofNat 32 (be e 10 4)) s
  | 6 => divergeIn (be e 2 2) (be e 4 2) tokTc (be e 7 3) (be e 10 2) s
  | 7 => when ((announceOf e).sun != s.dev.cfg.sun) s (announceIn (announceOf e) s)
  | 8 => bungEntryIn e s
  | 9 => reconEntryIn e s
  | 10 => when s.member s (markIn (be e 2 2) (be e 4 2) tokTc (be e 7 3) s)
  | _ => s

/-- A CTRL cell: PCRC, the control number of a reliable one, its entries, and the acknowledgement. -/
def ctrlCell (plane : Nat) (c : Cell) (s : State) : State :=
  let s := count Cn.fabCellsRx plane 1 s
  if c.pcrc ≠ pcrcOf c.payload then pcrcFail plane s
  else if c.dest ≠ s.dev.cfg.sun then s
  else
    let s := heardFrom c.src s
    let apply (s : State) : State := foldS (cellEntries c) s (ctlEntry c.src)
    if c.reliable then
      let (t, fresh) := ctlTake (mget s.rack.ctl c.src) c.seq
      let s := s.modRack (fun r => { r with ctl := mset r.ctl c.src t })
      ctlAck c.src (if fresh then apply s else s)
    else apply s

/-- A REACH cell; the layout of its list is the far end's (assumption log entry 108). -/
def reachIn (plane : Nat) (c : Cell) (s : State) : State :=
  let suns := (Config.reachList c.payload).filter (fun x => decide (x < 2048))
  when (s.planeUp plane || ((s.plane plane).st == .identified && s.dev.cfg.sun != 0xFFFF)) s (reachCell plane suns s)

def cellIn (plane : Nat) (c : Cell) (s : State) : State :=
  match c.kind with
  | .idle => s
  | .data => when (s.planeUp plane) s (dataCell plane c s)
  | .ctrl => when (s.planeUp plane) s (ctrlCell plane c s)
  | .reach => reachIn plane c s

/-- The cells whose way back to Racking ends (R343). -/
def loopTick (s : State) : State :=
  let now := s.fab.loop.filter (fun e => decide (e.1 ≤ s.mono))
  if now = [] then s
  else foldS now (s.modFab (fun f => { f with loop := f.loop.filter (fun e => decide (s.mono < e.1)) })) (fun e s => cellIn e.2.1 e.2.2 s)

/-! ### Frames -/

/-- A key slot is accepted on a plane: the current one, or the old one until t3, 1 ms after the first frame with the new one (R314, R461);
any while the plane is not encrypted. -/
def State.slotOk (s : State) (plane slot : Nat) : Bool :=
  let x := s.link plane
  !(s.planeCfg plane).encrypt || slot == x.slot || (x.oldKept && x.oldUntil.all (fun t => decide (s.mono < t)))

/-- The first frame with the new slot starts the last millisecond of the old one. Assumption log entry 164. -/
def noteSlot (plane slot : Nat) (s : State) : State :=
  let x := s.link plane
  if (s.planeCfg plane).encrypt && x.oldKept && x.oldUntil.isNone && slot == x.slot then
    s.modLink plane (fun x => { x with oldUntil := some (s.mono + Config.ms 1) })
  else s

/-- A frame whose TAG fails (R314); the fourth in a row takes the lane down (R313). -/
def badFrame (lane : Nat) (s : State) : State :=
  let l := s.lane lane
  let (fire, n, r) := l.auth.hit s.mono
  let s := count Cn.fabLinkAuthFail lane 1 (s.modLane lane (fun l => { l with auth := r, badTags := l.badTags + 1 }))
  let s := if fire then notify Ev.fabLinkAuth (putLe 1 lane ++ zeros 3 ++ putLe 4 n) [] s else s
  if 4 ≤ l.badTags + 1 then laneDown lane 2 (s.modLane lane (fun l => { l with badTags := 0 })) else s

/-- A good frame: its cells in order; frame number 2^62 asks for a rekey (R461). -/
def goodFrame (lane plane : Nat) (cells : List Cell) (s : State) : State :=
  let s := bump (winEvent 3 2) lane 1 (s.modLane lane (fun l => { l with badTags := 0, framesRx := l.framesRx + 1 }))
  let s := if (s.lane lane).framesRx = 2 ^ 62 ∧ (s.link plane).keyed ∧ !(s.link plane).running then startHandshake plane s else s
  foldS cells s (cellIn plane)

/-- R312. -/
def execFabLinkFrameReceive (lane slot : Nat) (tagOk : Bool) (cells : List Cell) (s : State) : Host.Outcome State Fault Refusal :=
  .next (match s.planeOf lane with
    | none => s
    | some p =>
      when ((s.lane lane).inUse) s
        (if tagOk && s.slotOk p slot then goodFrame lane p cells (noteSlot p slot s) else badFrame lane s))

end Sys2Proof.Machine
end

