-- ==== Sys2Proof/Machine/Pwr.lean ====
section
/-! DEFINITION. PWR family: power domains and their faults (R535, R536, Table PH-4), the reference clock (R530), rails (R534), thermal states
(R537–R539), GPIO pins and the PWR commands (Tables PH-9, PH-10, R548, R549). Temperatures are in tenths of a degree. -/
namespace Sys2Proof.Machine

/-! ### Stacks and faulted domains -/

/-- A table stack leaves service: every read comes from the other copy (Table PH-4, R190). Assumption log entry 114. -/
def tableStackOut (stack : Nat) (s : State) : State :=
  let s := count Cn.admHbmStackFail stack 1 { s with dev := { s.dev with
    hbmUp := without s.dev.hbmUp stack, hbmFailed := addOnce s.dev.hbmFailed stack }, tbl := { s.tbl with copies := without s.tbl.copies stack } }
  if decide (0 ∈ s.dev.hbmFailed ∧ 1 ∈ s.dev.hbmFailed) && s.dev.phase == .bridge then failBringup 2 s else s

/-- An HBM stack fails. -/
def hbmStackOut (stack : Nat) (s : State) : State := if stack < 2 then tableStackOut stack s else stackFail stack s

/-- A plane whose domain is gone. -/
def planePowerLost (p : Nat) (s : State) : State :=
  let s := if s.planeUp p then fabricWindows (planeLoss p false (fault 4 p 0 s))
    else if (s.plane p).st = .holdoff then s else dropSecret p (s.modPlane p (fun x => { x with st := .absent, timer := none }))
  foldS (s.planeLanes p) s (fun l s => s.modLane l (fun _ => {}))

/-- The consequences of Table PH-4 for PD9 to PD55. -/
def domainLost (pd : Nat) (s : State) : State :=
  if pd ≤ 14 then hbmStackOut (pd - 9) s
  else if pd ≤ 22 then
    let s := fault 11 (pd - 15) 0 (s.modBank (pd - 15) (fun x => { x with st := .failed, cause := 0 }))
    if s.dev.phase = .cellar ∨ s.dev.phase = .full then asaPower s else s
  else if pd ≤ 38 then foldS (mkeys (s.port.cfg.filter (fun e => lanePd e.1 == pd))) s portRetrain
  else if pd ≤ 54 then planePowerLost (pd - 39) s
  else peerReset s

def execDomainPowerGood (pd : Nat) (s : State) : Host.Outcome State Fault Refusal :=
  .next (when (mgetD s.pwr.domains pd .off == .ramping) s
    (afterPower pd (domainEvent pd true (rampNext 64 (s.setDom pd .on)))))

/-- R536: cause 1, power-good fails to assert while the domain ramps; 2, it drops while the domain is on. -/
def execDomainFault (pd cause : Nat) (s : State) : Host.Outcome State Fault Refusal :=
  let d := mgetD s.pwr.domains pd .off
  .next (when (decide (1 ≤ pd ∧ pd ≤ 55) && ((cause == 1 && d == .ramping) || (cause == 2 && d == .on))) s
    (if pd ≤ 8 then
      let s := coldLocked s
      { s with pwr := { s.pwr with pwrfault := true } }
     else
      let s := rampNext 64 (s.setDom pd .fault)
      let s := count Cn.pwrDomainFault 0 1 (notify Ev.pwrDomainFault (putLe 1 pd ++ putLe 1 cause) [] s)
      let s := if 23 ≤ pd then { s with pwr := { s.pwr with retryAt := mset s.pwr.retryAt pd (s.mono + Config.sec 10) } } else s
      let s := nextStep (domainLost pd s)
      completeWaiting (fun p => p.wait == .domainOn pd) [] s))

/-- R536: every 10 s firmware powers the domain again. -/
def execDomainRetry (pd : Nat) (s : State) : Host.Outcome State Fault Refusal :=
  .next (match mget s.pwr.retryAt pd with
    | none => s
    | some t =>
      when (s.due t && s.hif.fwReady && mgetD s.pwr.domains pd .off == .fault) s
        (powerOn pd (({ s with pwr := { s.pwr with retryAt := mdel s.pwr.retryAt pd } }).setDom pd .off)))

/-! ### Reference clock (R530) -/

def RefState.code : RefState → Nat | .locked => 0 | .holdover => 1 | .outOfRange => 2 | .relocking => 3

def setRef (r : RefState) (severity : Nat) (s : State) : State :=
  notify (Ev.pwrRef.1, severity) (putLe 1 r.code) [] { s with pwr := { s.pwr with ref := r } }

def execRefclkLoss (s : State) : Host.Outcome State Fault Refusal :=
  .next (when (s.pwr.rootLocked && (s.pwr.ref == .locked || s.pwr.ref == .relocking)) s
    (count Cn.pwrRefLost 0 1 (setRef .holdover 2 { s with pwr := { s.pwr with refAt := s.mono } })))

/-- The reference has been present for 10 ms: ROOTPLL relocks by slewing, or stays in holdover. -/
def execRefclkRelock (inRange : Bool) (s : State) : Host.Outcome State Fault Refusal :=
  .next (when ((s.pwr.ref == .holdover || s.pwr.ref == .outOfRange) && s.due (s.pwr.refAt + Config.ms 10)) s
    (if inRange then { s with pwr := { s.pwr with ref := .relocking } }
     else if s.pwr.ref = .outOfRange then s else setRef .outOfRange 0 s))

def execRefclkRelockDone (s : State) : Host.Outcome State Fault Refusal :=
  .next (when (s.pwr.ref == .relocking) s (setRef .locked 0 s))

/-! ### Rails and temperatures -/

/-- R534: PWRFAULT_N and a cold reset that holds. -/
def execRailUndervoltage (rail : Nat) (s : State) : Host.Outcome State Fault Refusal :=
  .next (when (decide (rail < 15) && !s.dev.inReset) s
    (let s := coldLocked s
     { s with pwr := { s.pwr with pwrfault := true } }))

/-- Tmax by grade (R537). -/
def dieTmax : Int := if Config.gradeAE then 1100 else 1050

/-- Entry thresholds of WARN (1) and CRIT (2) (Table PH-5). -/
def thermalEntry (st : Nat) : Int := if st = 2 then dieTmax else dieTmax - 50

/-- The state a temperature enters. -/
def thermalFor (t : Int) : Nat := if thermalEntry 2 ≤ t then 2 else if thermalEntry 1 ≤ t then 1 else 0

/-- EV.PWR.THERMAL: severity 2 for WARN, 3 for CRIT, 0 for NORMAL. Assumption log entry 110. -/
def thermalEvent (new old severity source : Nat) (t : Int) (s : State) : State :=
  notify (Ev.pwrThermal.1, severity) (putLe 1 new ++ putLe 1 old ++ putLe 2 (wrapInt 16 t) ++ putLe 1 source) [] s

def setThermal (st source : Nat) (t : Int) (s : State) : State :=
  thermalEvent st s.pwr.thermal (if st = 0 then 0 else st + 1) source t { s with pwr := { s.pwr with thermal := st, thermalAt := if s.pwr.thermal < st then s.mono else s.pwr.thermalAt } }

def execThermalStateEnter (source : Nat) (temp : Int) (s : State) : Host.Outcome State Fault Refusal :=
  let st := thermalFor temp
  .next (when (decide (source < 2 ∧ s.pwr.thermal < st) && s.pwr.rootLocked) s
    (count (if st = 2 then Cn.pwrThermCrit else Cn.pwrThermWarn) 0 1 (setThermal st source temp s)))

/-- The temperature has stayed 3 °C below the state's threshold for 10 ms. -/
def execThermalStateLeave (source : Nat) (temp : Int) (s : State) : Host.Outcome State Fault Refusal :=
  .next (when (decide (source < 2 ∧ s.pwr.thermal ≠ 0 ∧ temp ≤ thermalEntry s.pwr.thermal - 30) && s.due (s.pwr.thermalAt + Config.ms 10)) s
    (setThermal (if s.pwr.thermal = 2 ∧ thermalEntry 1 - 30 < temp then 1 else 0) source temp s))

/-- R538: PD1–PD55 go off without firmware; THERMTRIP_N. -/
def execThermalTrip (s : State) : Host.Outcome State Fault Refusal :=
  .next (when (!s.dev.inReset) s
    (let s := coldLocked s
     { s with pwr := { s.pwr with thermtrip := true } }))

/-- R539: refresh doubles from 85 °C, the event at 95 °C, the stack fails at 105 °C. -/
def execHbmThermal (stack : Nat) (temp : Int) (s : State) : Host.Outcome State Fault Refusal :=
  .next (when (decide (stack < 6) && s.domOn (9 + stack)) s
    (let w := s.pwr.hbmWarned
     let hot := decide (950 ≤ temp)
     let s := { s with pwr := { s.pwr with
       refresh2x := if 850 ≤ temp then addOnce s.pwr.refresh2x stack else without s.pwr.refresh2x stack,
       hbmWarned := if hot then addOnce w stack else without w stack } }
     let s := if hot && decide (stack ∉ w) then thermalEvent 1 0 2 (2 + stack) temp s else s
     let live := if stack < 2 then decide (stack ∈ s.dev.hbmUp) else decide (stack ∈ s.bufStacks)
     if 1050 ≤ temp && live then hbmStackOut stack s else s))

/-! ### GPIO (R548) -/

def State.gpioCfg (s : State) (pin : Nat) : GpioCfg := mgetD s.pwr.gpio pin {}
/-- The level at an undriven pin follows its pull. -/
def State.gpioExt (s : State) (pin : Nat) : Bool := (mget s.pwr.gpioIn pin).getD ((s.gpioCfg pin).pull == 2)
/-- The level of a pin: driven by an output, low when an open-drain output pulls it, else what the board drives. -/
def State.gpioLevel (s : State) (pin : Nat) : Bool :=
  let out := mgetD s.pwr.gpioOut pin false
  match (s.gpioCfg pin).mode with
  | 1 => out
  | 2 => out && s.gpioExt pin
  | _ => s.gpioExt pin

/-- The level of a pin changes from outside: EV.PWR.GPIO on a configured edge of an input, unless it follows the last one by less than DEBOUNCE
(assumption log entry 152). -/
def execGpioEdge (pin : Nat) (level : Bool) (s : State) : Host.Outcome State Fault Refusal :=
  .next (when (decide (pin < 16) && s.gpioExt pin != level) s
    (let c := s.gpioCfg pin
     let calm : Bool := match mget s.pwr.gpioAt pin with | none => true | some t => s.due (t + Config.us c.debounce)
     let s := { s with pwr := { s.pwr with gpioIn := mset s.pwr.gpioIn pin level, gpioAt := mset s.pwr.gpioAt pin s.mono } }
     if c.mode = 0 ∧ calm ∧ bit c.edge (if level then 0 else 1) then notify Ev.pwrGpio (putLe 1 pin ++ putLe 1 (b2n level)) [] s else s))

/-! ### Commands -/

/-- A sensor reading: a free value (assumption log entry 105). -/
def sensor (n : Nat) (s : State) : List Byte := putLe 2 (Config.measured s.draw 0x100 0 n).toNat

/-- PWR.STATUS (Table PH-10). -/
def bodyPwrStatus : Body := fun _ _ s =>
  let on := (List.range 56).filter s.domOn
  .read s.drawn [] (putLe 1 s.pwr.thermal ++ putLe 1 s.asa.level ++ (List.range 8).flatMap (fun n => sensor n s) ++ putLe 1 s.pwr.ref.code
    ++ zeros 1 ++ putLe 8 (maskOf on) ++ zeros 4 ++ putLe 8 (s.counter Cn.pwrRefLost 0) ++ putLe 8 (s.counter Cn.pwrThermWarn 0)
    ++ putLe 8 (s.counter Cn.pwrThermCrit 0) ++ putLe 8 (s.counter Cn.pwrDomainFault 0))

/-- A domain's owner still uses it (R549). -/
def State.domainInUse (s : State) (pd : Nat) : Bool :=
  if 23 ≤ pd ∧ pd ≤ 38 then s.port.cfg.any (fun e => lanePd e.1 == pd)
  else if 39 ≤ pd ∧ pd ≤ 54 then (s.planeCfg (pd - 39)).enabled
  else pd == 55 && s.member

/-- A domain goes off. -/
def domainOff (pd : Nat) (s : State) : State := domainEvent pd false (rampNext 64 (s.setDom pd .off))

/-- An empty buffer stack goes off: the budget falls to the remaining stacks (R549, R288). -/
def stackOff (stack : Nat) (s : State) : State :=
  let s := s.modAdm (fun a => { a with stacksClosing := without a.stacksClosing stack })
  poolUpkeep (domainOff (9 + stack) { s with dev := { s.dev with hbmUp := without s.dev.hbmUp stack, hbmFailed := without s.dev.hbmFailed stack } })

/-- A domain is ramping, waits for a ramp place, or its stack drains. -/
def State.switching (s : State) (pd : Nat) : Bool :=
  mgetD s.pwr.domains pd .off == .ramping || decide (pd ∈ s.pwr.queue) || (decide (9 ≤ pd) && decide (pd - 9 ∈ s.adm.stacksClosing))

/-- PWR.DOMAIN (R535, R549). Assumption log entry 113. -/
def bodyPwrDomain : Body := fun _ e s =>
  let pd := e.p 24 1
  let op := e.p 25 1
  let d := mgetD s.pwr.domains pd .off
  if !(decide (11 ≤ pd ∧ pd ≤ 14) || decide (23 ≤ pd ∧ pd ≤ 55)) then .err s St.eArg Dt.pwrFixed
  else if op ≠ 1 ∧ op ≠ 2 then .err s St.eArg Dt.pwrRange
  else if s.switching pd then .err s St.eBusy Dt.pwrBusy
  else if op = 1 then
    if d = .on then .ok s
    else
      let s := powerOn pd (s.setDom pd .off)
      if pd ≤ 14 then { st := s, wait := some (.domainOn pd, true) } else .ok s
  else if s.domainInUse pd then .err s St.eState Dt.pwrInUse
  else if d ≠ .on then .ok (s.setDom pd .off)
  else if pd ≤ 14 then
    let b := pd - 9
    let s' := s.modAdm (fun a => { a with stacksClosing := addOnce a.stacksClosing b })
    if s.stackUsed b = 0 then .ok (stackOff b s') else { st := s', wait := some (.stackDrain b, false) }
  else .ok (domainOff pd s)

/-- Levels of the pins (Table PH-10). -/
def State.gpioLevels (s : State) : List Byte := putLe 2 (maskOf ((List.range 16).filter s.gpioLevel))

/-- PWR.GPIO (R548). -/
def bodyPwrGpio : Body := fun _ e s =>
  let pin := e.p 24 1
  let op := e.p 25 1
  let mode := e.p 26 1
  let level := e.p 27 1
  let edge := e.p 28 1
  let pull := e.p 30 1
  let range : Reply := .err s St.eArg Dt.pwrRange
  if op = 3 then .read s s.gpioLevels []
  else if 15 < pin ∨ (op ≠ 1 ∧ op ≠ 2) ∨ 1 < level then range
  else if op = 2 then
    let s := { s with pwr := { s.pwr with gpioOut := mset s.pwr.gpioOut pin (level == 1) } }
    .ok s s.gpioLevels
  else if 2 < mode ∨ 3 < edge ∨ 2 < pull then range
  else
    let c : GpioCfg := { mode := mode, level := level == 1, edge := edge, debounce := e.p 29 1, pull := pull }
    let s' := { s with pwr := { s.pwr with gpio := mset s.pwr.gpio pin c, gpioOut := mset s.pwr.gpioOut pin (level == 1) } }
    storing s (.ok s' s'.gpioLevels)

def execPwrStatus (vi : Nat) (io : HostIo) (s : State) : Host.Outcome State Fault Refusal :=
  .next (runCommand 0x1101 vi io bodyPwrStatus s)
def execPwrDomain (vi : Nat) (io : HostIo) (s : State) : Host.Outcome State Fault Refusal :=
  .next (runCommand 0x1102 vi io bodyPwrDomain s)
def execPwrGpio (vi : Nat) (io : HostIo) (s : State) : Host.Outcome State Fault Refusal :=
  .next (runCommand 0x1103 vi io bodyPwrGpio s)

end Sys2Proof.Machine
end

