-- ==== Sys2Proof/Machine/Restart.lean ====
section
/-! DEFINITION. Restarts: function-level reset (R51, Table RF-7), the watchdog and cold resets (R97, R116), the import of the sealed
settings (R94, R464), FW_READY (R76, R98, R490, R491), and the resumption of a parked command (R67). -/
namespace Sys2Proof.Machine

/-! ### Function-level reset -/

/-- The rings of a function are disabled, at once or when firmware is ready (R51, R92). -/
def disableRings (vi : Nat) (s : State) : State :=
  if s.accepting then applyDisable vi s else { s with hif := { s.hif with held := s.hif.held ++ [.disable vi] } }

/-- Table RF-7 and R88, and PCIe for the MSI-X table: shadowed registers, faults, window selection, latch, mask and coalescing of the function return to reset. -/
def resetRegs (f : Fn) : Fn :=
  { f with shadow := {}, msix := ({} : Fn).msix, pba := 0, fault := 0, winSel := 0, latch := none, mask := 0x3FFFE, cqCount := 1, cqDelay := 0, nqCount := 1, nqDelay := 0 }

def execFunctionLevelReset (vi : Nat) (s : State) : Host.Outcome State Fault Refusal :=
  .next (when (s.hostReach vi) s
    (let s := s.modFn vi resetRegs
     let s := if vi = 0 then foldS (List.range 64) s disableRings else disableRings vi s
     if vi ≠ 0 ∧ (s.inst vi).st = .active then startReset vi 0 false false s else s))

/-! ### Watchdog and cold resets -/

/-- R97: the restart is a FIRMWARE fault (Table IF-1). -/
def execMaltsterWatchdog (s : State) : Host.Outcome State Fault Refusal :=
  .next (when (s.hif.fwReady || decide (s.dev.boot = 2)) s (warmRestart 2 (fault 16 0 0 s)))

/-- R116, R466, R488: 10 ms after the completion. -/
def execColdResetAssert (s : State) : Host.Outcome State Fault Refusal :=
  .next (when (s.dev.coldAt.any s.due) s (coldReset s))

def execBcColdReset (s : State) : Host.Outcome State Fault Refusal :=
  .next (when (!s.dev.inReset && !s.dev.locked) s (coldReset s))

/-! ### Settings -/

/-- A configured port at start: no module known, an OTN port held until full service (R124), its receive SCs. -/
def importPort (p : Nat) (c : PortCfg) (s : State) : State :=
  let x : Port := { rxScs := c.scis.map (fun i => (i, [])), defects := setBit (setBit 0 4 true) 15 (c.type == 2) }
  portTrain p (macsecRefresh p (s.modPort p (fun _ => x)))

/-- Line ports, framing and time. A recovered-clock pin is squelched until its port is UP (R175). -/
def importLine (x : Settings) (s : State) : State :=
  let s := { s with port := { cfg := x.ports }, frm := { cfg := x.frm }, tim := { s.tim with cfg := x.time } }
  let s := foldS x.ports s (fun e s => importPort e.1 e.2 s)
  let dark (pin : Nat) (s : State) : State :=
    if (s.pulseCfg pin).mode = 3 then s.setPulse pin { s.pulse pin with squelched := true } else stepPulse pin s
  foldS (List.range 4) s dark

/-- The egress scheduler: shapers empty, policers full, gate lists waiting for their start. -/
def importSch (x : SchCfg) (s : State) : State :=
  let shapers : AMap ShaperSt := x.shapers.map (fun e => (e.1, { refillAt := s.mono + 10240 }))
  let policers : AMap PolicerSt := x.policers.map (fun e => (e.1, { c := e.2.cbs * polUnit, e := e.2.ebs * polUnit, at_ := s.mono }))
  let s := { s with sch := { s.sch with cfg := x, shapers := shapers, policers := policers } }
  foldS x.gates s (fun g s => s.modEport g.1 (fun e => { e with pendingList := some (gateStart g.2.base g.2.cycle s.timeNs, true, g.2) }))

/-- Instances, pair, keys and pins. A debug boot's key store is empty (Table TK-7). -/
def importUnit (x : Settings) (s : State) : State :=
  let insts : AMap Inst := x.grants.map (fun e => (e.1, { st := .active, grant := e.2 }))
  let caks : AMap Key := x.sec.caks.map (fun e => (e.1, { cak := true, port := e.2.1, key := e.2.2 }))
  let s := { s with insts := (0, s.inst 0) :: insts,
                    sec := { s.sec with cfg := x.sec, keys := if s.sec.debug then [] else caks },
                    pwr := { s.pwr with gpio := x.gpio, gpioOut := x.gpio.map (fun e => (e.1, e.2.level)) },
                    pair := { s.pair with cfg := x.pair } }
  if x.pair.pair.isSome then
    foldS x.pair.ports (startSeeking s) (fun e s => s.emit (.portExchange e.1 (some (e.2.txMode, e.2.stream))))
  else s

/-- The stored settings take effect (R464); region sizes apply at a cold start (R284). -/
def importSettings (x : Settings) (s : State) : State :=
  let s := { s with dev := { s.dev with cfg := x.dev }, tbl := { s.tbl with cfg := x.tbl }, fab := { s.fab with cfg := x.fab },
                    adm := { s.adm with cfg := x.adm, retention := x.adm.retention, egress := x.adm.egress, punt := x.adm.punt } }
  importUnit x (importSch x.sch (importLine x s))

/-- R94: defaults, reported. Assumption log entry 119. -/
def settingsDefault (s : State) : State :=
  count Cn.buSettingsDefault 0 1 (notify Ev.devSettingsDefault [] [] (importSettings {} s))

/-- R491: no image is left to fall back to: defaults, result DEFAULTS, and the running slot ACTIVE without a confirmation. -/
def defaultsResult (s : State) : State :=
  let n := s.upd.running
  let s := (settingsDefault s).modSlot n (fun x => { x with st := .active, owned := false })
  let s := s.modSlot (1 - n) (fun x => if x.st = .active then { x with st := .spare } else x)
  { s with upd := { s.upd with dirRunning := some n, lastResult := 4, lastCause := 0, resultDue := true } }

/-- The format of a copy is one that the running firmware imports (Table UP-6, cause 1). -/
def State.formatOk (s : State) (x : Settings) : Bool :=
  let h := (s.slot s.upd.running).head
  decide (le h 38 2 ≤ x.format ∧ x.format ≤ le h 36 2)

/-! ### FW_READY -/

/-- The running image is the trial. -/
def State.runsTrial (s : State) : Bool := s.upd.trial == some s.upd.running

/-- EV.HIF.FW_RESTART (R76): to VI0 and to every created instance whose rings post notifications, DRAINING ones among them. R76 says every
function whose rings are running, R425 every created instance (DESIGN CHOICE between the two, assumption log entry 128). -/
def restartEvent (s : State) : State :=
  notify Ev.hifFwRestart (putLe 1 s.hif.fwEpoch ++ putLe 1 s.hif.restartCause ++ zeros 2 ++ putLe 4 s.hif.fwVersion) s.allVis s

/-- The microcode that blocks run is another slot's: a swap is pending, at once outside full service (R486, R491). Assumption log entry 98. -/
def swapStart (s : State) : State :=
  let u := s.upd
  if s.dev.step < 5 then s
  else if u.microcode = u.running then (if u.swap = 1 then { s with upd := { u with swap := 0, swapAt := none, retryAt := none } } else s)
  else
    let s := { s with upd := { u with
      swap := 1, swapBase := s.newest.map Epoch.num, swapAt := some (s.mono + Config.ms u.swapWait) } }
    if s.dev.phase = .full then s else swapNow 0 s

/-- R98: the training step in progress (5 or 6 of Table BU-1) begins again. -/
def retrainStep (s : State) : State :=
  match s.dev.phase with
  | .init => { s with dev := { s.dev with bridgeTries := 0 } }
  | .bridge => if s.dev.step = 6 then { s with dev := { s.dev with hbmUp := [], hbmFailed := [] }, tbl := { s.tbl with copies := [] } } else s
  | _ => s

/-- The end of a firmware start: FW_READY, the phase INIT and step 4 after a cold start, what was held, and the events. -/
def becomeReady (cold : Bool) (s : State) : State :=
  let again := s.hif.restarting
  let sec := { s.sec with format := if s.upd.trial.isSome then s.sec.format else le (s.slot s.upd.running).head 36 2,
                          measured := (s.settingsGen, s.copyInUse) }
  let s := { s with sec := sec, hif := { s.hif with fwReady := true, restarting := false }, dev := { s.dev with boot := 0 } }
  let s := if cold then powerAll (upFrom 4 5) (toPhase .init { (s.atStep 4) with dev := { (s.atStep 4).dev with lastBeat := s.mono } })
    else retrainStep s
  let s := endWindow 16 0 (if again then restartEvent (flushHeld true s) else s)
  let s := if cold && s.sec.debug then notify Ev.secDebugUnlocked [] [] s else s
  let s := swapStart s
  let s := if s.upd.resultDue then updResult { s with upd := { s.upd with resultDue := false } } else s
  (applyHeld s).settled

/-- The import at a cold start: the copy in use, or defaults. -/
def coldImport (copy : Option Settings) (settingsOk : Bool) (s : State) : State :=
  match copy with
  | none => settingsDefault s
  | some x => if settingsOk && s.formatOk x then importSettings x s else defaultsResult s

/-- Restarted firmware has checked its retained state and settings (the operands); a trial that cannot use them falls back (R490). The
settings are read at every start, and imported at a cold one; a warm start keeps the state it finds (assumption log entry 109). -/
def firmwareReady (retainedOk settingsOk : Bool) (s : State) : State :=
  let cold := s.dev.phase == .rom
  let (copy, s1) := readCopies s
  let badFormat := !settingsOk || copy.any (fun x => !s.formatOk x)
  if s.runsTrial && !cold && !retainedOk then fallBack 2 s
  else if s.runsTrial && copy.isSome && badFormat then fallBack 1 s
  else if cold then becomeReady true (coldImport copy settingsOk s1)
  else if copy.isSome && badFormat && s.upd.trial.isNone then becomeReady false (defaultsResult s1)
  else becomeReady false s1

def execFwReady (retainedOk settingsOk : Bool) (s : State) : Host.Outcome State Fault Refusal :=
  .next (when (decide (s.dev.boot = 2)) s (firmwareReady retainedOk settingsOk s))

/-! ### Parked commands -/

/-- What a parked command does when its wait has ended. -/
def resume (p : Parked) (s : State) : State :=
  let c := (cmdInfo p.entry.opcode).getD { op := 0 }
  match p.wait with
  | .epochSlot deadline => conclude c p.vi p.entry p.writeOk (commitOrWait p.vi deadline true s)
  | .mark _ => (finish p.vi p.entry p.writeOk (p.reply s)).settled
  | .bulkCopy =>
    match (s.fn p.vi).journaled p.entry.cmdId with
    | some j => (answer p.vi p.entry j.compl s).settled
    | none => (finish p.vi p.entry p.writeOk (p.reply s)).settled
  | .epochFull => (finish p.vi p.entry p.writeOk (epochFull s)).settled
  | .stackDrain b => conclude c p.vi p.entry p.writeOk (p.reply (stackOff b s))
  | _ => conclude c p.vi p.entry p.writeOk (p.reply s)

/-- R67: at a command boundary. Of several commands whose wait has ended the one parked first resumes first (assumption log entry 129). -/
def execCommandResume (vi : Nat) (s : State) : Host.Outcome State Fault Refusal :=
  .next (match s.hif.parked.find? (fun p => p.ready) with
    | none => s
    | some p =>
      when (p.vi == vi && s.accepting && !s.blocked) s
        (resume p { s with hif := { s.hif with parked := s.hif.parked.filter (fun q => q.vi != vi) } }))

end Sys2Proof.Machine
end

