-- ==== Sys2Proof/Machine/Time.lean ====
section
/-! DEFINITION. TIME family: the TIME commands (Tables TI-6 and TI-7), the step tick, pulse pins and probes. -/
namespace Sys2Proof.Machine

def timeRange (s : State) : Reply := .err s St.eArg Dt.timeRange

/-- TIME.CONFIG (R159). -/
def bodyTimeConfig : Body := fun _ e s =>
  let v := if e.p 24 8 = 0 then 1000000 else e.p 24 8
  if 2 ^ 62 < v then timeRange s else .ok { s with tim := { s.tim with stepLimit := v } }

/-- TIME.SET_INCREMENT (R154): within ±500 ppm of nominal. -/
def bodyTimeSetIncrement : Body := fun _ e s =>
  let v := e.p 24 8
  let nominal := 0x0000CCCCCCCCCCCD
  if nominal < (max v nominal - min v nominal) * 2000 then timeRange s
  else
    let s := { s with tim := { s.tim with increment := BitVec.ofNat 64 v } }
    .ok s (putLe 8 ((s.tim.time + BitVec.ofNat 112 v).toNat / 2 ^ 48))

/-- The ticks from the check of TIME.STEP to its step tick: the first tick at least 1 µs later (R158). -/
def stepTicks : Nat := 1250

/-- R159: the size of a step in 2^-48 ns. -/
def stepSize (s : State) (absolute : Bool) (value frac : Nat) : Nat :=
  if absolute then
    let now := s.tim.time + s.tim.increment.zeroExtend 112 * BitVec.ofNat 112 stepTicks
    (BitVec.ofNat 112 (value * 2 ^ 48 + frac * 2 ^ 32) - now).toInt.natAbs
  else (sx 64 value).natAbs * 2 ^ 48

/-- Entries of the transmit and capture queues with a step epoch (R160). -/
def State.epochQueued (s : State) (ep : Nat) : Bool :=
  s.tim.txq.any (fun q => q.2.q.any (fun e => e.epoch == ep)) || s.tim.capq.any (fun q => q.2.q.any (fun e => e.epoch == ep))

/-- TIME.STEP (R158–R160): completed at its step tick. -/
def bodyTimeStep : Body := fun _ e s =>
  let mode := e.p 24 1
  let force := bit (e.p 25 1) 0
  let frac := e.p 26 2
  let v := e.p 32 8
  let refused := count Cn.timeStepRefused 0 1 s
  if mode ≠ 1 ∧ mode ≠ 2 then timeRange s
  else if s.tim.valid ∧ ¬ force ∧ s.tim.stepLimit * 2 ^ 48 < stepSize s (mode == 2) v frac then
    .err refused St.eArg Dt.timeStepLimit
  else if s.epochQueued ((s.tim.epoch + 1) % 4) then .err refused St.eBusy Dt.timeEpochWrap
  else
    let st : PendingStep := { relative := mode == 1, value := if mode = 1 then sx 64 v else (v : Int), frac := frac, force := force,
                              at_ := s.mono + stepTicks * Config.tick }
    { st := { s with tim := { s.tim with step := some st } }, wait := some (.stepTick, true) }

/-- TIME.GET (Table TI-7). -/
def bodyTimeGet : Body := fun _ _ s =>
  .read s [] (putLe 8 s.timeNs ++ putLe 2 (s.time16 % 2 ^ 16) ++ putLe 1 s.tim.epoch ++ putLe 1 (b2n s.tim.valid) ++ zeros 4
    ++ putLe 8 s.monoNs ++ putLe 8 s.tim.increment.toNat)

/-- PROBE_STATE of TIME.PORT. -/
def ProbeState.code : ProbeState → Nat
  | .off => 0 | .measuring => 1 | .valid => 2

/-- An Ethernet port is named: none, or the refusal. -/
def notEthPort (s : State) (p : Nat) : Option Reply :=
  match s.pcfg p with
  | none => some (timeRange s)
  | some c => if c.type = 2 then some (.err s St.eUnsupported Dt.timeNotEth) else none

/-- TIME.PORT (R162, R168). Assumption log entry 22. -/
def bodyTimePort : Body := fun _ e s =>
  let p := e.p 24 1
  let f := e.p 25 1
  let iv := if e.p 26 2 = 0 then 125 else e.p 26 2
  let th := if e.p 32 2 = 0 then 100 else e.p 32 2
  match notEthPort s p with
  | some r => r
  | none =>
    if 1000 < iv then timeRange s
    else
      let c : TPortCfg := { tsEnable := bit f 0, probeEnable := bit f 1, oneStep := bit f 2, interval := iv, asym := sx 32 (e.p 28 4),
                            threshold := th, domain := e.p 34 1 }
      let s' := probeRefresh p { s with tim := { s.tim with cfg := { s.tim.cfg with ports := mset s.tim.cfg.ports p c } } }
      let x := s'.probe p
      let b := if x.st = .valid then wrapInt 64 x.baseline else 0
      storing s (.ok s' (putLe 8 b ++ putLe 1 x.st.code))

/-- Read up to `n` entries of a queue: the entries, COUNT, FLAGS and LOST, and the queue after (R167). -/
def TsQueue.read (q : TsQueue) (n : Nat) : TsQueue × List Byte × List Byte :=
  let l := q.q.take n
  ({ q with q := q.q.drop n, overflow := false, lost := 0 },
   putLe 1 l.length ++ putLe 1 (b2n q.overflow) ++ zeros 2 ++ putLe 4 (sat 32 q.lost), l.flatMap TsEntry.bytes)

/-- TIME.TX_TS_READ (R167). -/
def bodyTimeTxTsRead : Body := fun vi e s =>
  let p := e.p 24 1
  let n := e.p 25 1
  match notEthPort s p with
  | some r => r
  | none =>
    if !s.ownsPort vi p then notPermitted vi s
    else if n = 0 ∨ 64 < n then timeRange s
    else if e.dataLen < 16 * n then badLen vi s
    else
      let (q, res, data) := (mgetD s.tim.txq p {}).read n
      { st := { s with tim := { s.tim with txq := mset s.tim.txq p q } }, result := res, data := data }

/-- TIME of the first tick after now. -/
def State.nextTickNs (s : State) : Nat := (s.tim.time + s.tim.increment.zeroExtend 112).toNat / 2 ^ 48

/-- TIME.PULSE_OUT (R172, R175). -/
def bodyTimePulseOut : Body := fun _ e s =>
  let pin := e.p 24 1
  let mode := e.p 25 1
  let lane := e.p 26 1
  let freq := e.p 27 1
  let width := e.p 28 4 + e.p 52 4 * 2 ^ 32
  let target := e.p 32 8
  let period := e.p 40 8
  let c : PulseCfg := { mode := mode, lane := lane, freq := freq, width := width, target := target, period := period,
                        comp := sx 16 (e.p 48 2) }
  let old := s.pulse pin
  let set (x : Pulse) (first : Nat) : Reply :=
    let s := if x.late then count Cn.timePulseLate 0 1 s else s
    let s' := { s with tim := { s.tim with cfg := { s.tim.cfg with pulses := mset s.tim.cfg.pulses pin c } } }
    storing s (.ok (s'.setPulse pin { x with highUntil := old.highUntil }) (putLe 8 first))
  if 3 < pin ∨ 3 < mode then timeRange s
  else if mode ≠ 3 ∧ (lane ≠ 0 ∨ freq ≠ 0) then timeRange s
  else if mode = 0 then set {} 0
  else if mode = 1 then
    if width < 10 ∨ 2 ^ 39 < width then timeRange s
    else if targetClass target s.timeNs = .future then set {} target
    else if targetClass target s.timeNs = .due then set { late := true } s.nextTickNs
    else .err s St.eArg Dt.timePast
  else if mode = 2 then
    if period < 100 ∨ 2 ^ 40 < period ∨ width < 10 ∨ period < 2 * width ∨ period ≤ target then timeRange s
    else
      let first := nextAligned target period s.timeNs
      set { nextEdge := first } first
  else if 127 < lane ∨ (freq ≠ 1 ∧ freq ≠ 2) then timeRange s
  else match s.portOfLane lane with
    | none => timeRange s
    | some p =>
      match notEthPort s p with
      | some r => r
      | none => set { squelched := !s.portUp p } 0

/-- TIME.PULSE_IN (R173). -/
def bodyTimePulseIn : Body := fun _ e s =>
  let pin := e.p 24 1
  let edge := e.p 25 1
  if 1 < pin ∨ 2 < edge then timeRange s
  else
    let c : PulseInCfg := { edge := edge, comp := sx 16 (e.p 26 2) }
    storing s (.ok { s with tim := { s.tim with cfg := { s.tim.cfg with pulseIns := mset s.tim.cfg.pulseIns pin c } } })

/-- TIME.CAPTURE_READ (R173). -/
def bodyTimeCaptureRead : Body := fun vi e s =>
  let pin := e.p 24 1
  let n := e.p 25 1
  if 1 < pin ∨ n = 0 ∨ 16 < n then timeRange s
  else if e.dataLen < 16 * n then badLen vi s
  else
    let (q, res, data) := (mgetD s.tim.capq pin {}).read n
    { st := { s with tim := { s.tim with capq := mset s.tim.capq pin q } }, result := res, data := data }

def execTimeConfig (vi : Nat) (io : HostIo) (s : State) : Host.Outcome State Fault Refusal :=
  .next (runCommand 0x0501 vi io bodyTimeConfig s)
def execTimeSetIncrement (vi : Nat) (io : HostIo) (s : State) : Host.Outcome State Fault Refusal :=
  .next (runCommand 0x0502 vi io bodyTimeSetIncrement s)
def execTimeStep (vi : Nat) (io : HostIo) (s : State) : Host.Outcome State Fault Refusal :=
  .next (runCommand 0x0503 vi io bodyTimeStep s)
def execTimeGet (vi : Nat) (io : HostIo) (s : State) : Host.Outcome State Fault Refusal :=
  .next (runCommand 0x0504 vi io bodyTimeGet s)
def execTimePort (vi : Nat) (io : HostIo) (s : State) : Host.Outcome State Fault Refusal :=
  .next (runCommand 0x0505 vi io bodyTimePort s)
def execTimeTxTsRead (vi : Nat) (io : HostIo) (s : State) : Host.Outcome State Fault Refusal :=
  .next (runCommand 0x0506 vi io bodyTimeTxTsRead s)
def execTimePulseOut (vi : Nat) (io : HostIo) (s : State) : Host.Outcome State Fault Refusal :=
  .next (runCommand 0x0507 vi io bodyTimePulseOut s)
def execTimePulseIn (vi : Nat) (io : HostIo) (s : State) : Host.Outcome State Fault Refusal :=
  .next (runCommand 0x0508 vi io bodyTimePulseIn s)
def execTimeCaptureRead (vi : Nat) (io : HostIo) (s : State) : Host.Outcome State Fault Refusal :=
  .next (runCommand 0x0509 vi io bodyTimeCaptureRead s)

/-- The step tick (R158, R161). -/
def execTimeStepTick (s : State) : Host.Outcome State Fault Refusal :=
  .next (match s.tim.step with
    | none => s
    | some p => when (s.due p.at_) s (applyStep p s))

/-- TIME, advanced by the pin's OUT_COMP, has reached an instant (R172). -/
def State.pulseReached (s : State) (c : PulseCfg) (t : Nat) : Bool := decide (s.tenthsTo t ≤ c.comp)

/-- The instant of a rising edge on the monotonic counter, to 0.1 ns: within the tick that has just passed, or this tick for one that is late
(R172). -/
def State.edgeAt (s : State) (c : PulseCfg) (t : Nat) : Nat :=
  let lag := (c.comp - s.tenthsTo t).toNat
  if lag < Config.tick then s.mono - lag else s.mono

/-- The pin goes high at an instant for WIDTH. -/
def pulseHigh (pin : Nat) (c : PulseCfg) (x : Pulse) (at_ : Nat) (s : State) : State :=
  (s.setPulse pin { x with highUntil := some (at_ + c.width * 10) }).emit (.pulse pin true at_)

/-- A one-shot target is reached (R172); one that was due at its check, or at a step, fires at the next tick (R157, Table TI-2). -/
def execPulseOneShotFire (pin : Nat) (s : State) : Host.Outcome State Fault Refusal :=
  let c := s.pulseCfg pin
  let x := s.pulse pin
  .next (when (c.mode == 1 && !x.spent && decide (targetClass c.target s.timeNs ≠ .past) && (x.late || s.pulseReached c c.target)) s
    (pulseHigh pin c { x with spent := true } (if x.late then s.mono else s.edgeAt c c.target) s))

/-- An aligned instant of a periodic train is reached (R172). -/
def execPulsePeriodicEdge (pin : Nat) (s : State) : Host.Outcome State Fault Refusal :=
  let c := s.pulseCfg pin
  let x := s.pulse pin
  .next (when (c.mode == 2 && s.pulseReached c x.nextEdge) s (pulseHigh pin c { x with nextEdge := nextAligned c.target c.period x.nextEdge } (s.edgeAt c x.nextEdge) s))

/-- WIDTH after the edge the pin goes low (R172). -/
def execPulseWidthEnd (pin : Nat) (s : State) : Host.Outcome State Fault Refusal :=
  let x := s.pulse pin
  .next (match x.highUntil with
    | none => s
    | some h => when (s.due h) s ((s.setPulse pin { x with highUntil := none }).emit (.pulse pin false h)))

/-- A selected edge on a pulse input (R173): its time, IN_COMP taken off, joins the capture queue. -/
def execPulseInEdge (pin : Nat) (rising : Bool) (s : State) : Host.Outcome State Fault Refusal :=
  let c := mgetD s.tim.cfg.pulseIns pin {}
  .next (when (decide (pin < 2) && decide (2 ≤ s.dev.step) && (if rising then c.edge == 1 else c.edge == 2)) s
    (let q := mgetD s.tim.capq pin {}
     let t := wrapInt 80 ((s.time16 : Int) - c.comp * 65536 / 10)
     let en : TsEntry := { time := t / 2 ^ 16, frac := t % 2 ^ 16, id := q.nextId, epoch := s.tim.epoch }
     let (q, lost, first) := { q with nextId := (q.nextId + 1) % 2 ^ 16 }.push 16 en
     let s := { s with tim := { s.tim with capq := mset s.tim.capq pin q } }
     let s := if lost then count Cn.timeCaptureLost 0 1 s else s
     if first then notify Ev.timeCaptureOverflow (putLe 1 pin) [] s else s))

/-- PROBE_INTERVAL expires and a Pdelay_Req leaves (R168). -/
def execProbeSend (port : Nat) (s : State) : Host.Outcome State Fault Refusal :=
  let x := s.probe port
  let c := s.tport port
  .next (when (decide (x.st ≠ .off) && x.waiting.isNone && s.due x.nextAt && s.mayTransmit port) s
    ((s.setProbe port { x with seqId := (x.seqId + 1) % 2 ^ 16, waiting := some (x.seqId, s.txStamp port s.subTick),
                               nextAt := s.mono + Config.ms c.interval }).drawn.emit (.probe port x.seqId c.domain)))

/-- A received Pdelay_Req is answered in hardware (R168). -/
def execPdelayReqReceive (port seqId domain : Nat) (s : State) : Host.Outcome State Fault Refusal :=
  .next (when ((s.tport port).probeEnable && (s.tport port).domain == domain && s.portUp port && s.mayTransmit port) s
    (s.drawn.drawn.emit (.probeAnswer port seqId (s.rxStamp port) (s.drawn.txStamp port s.drawn.subTick))))

/-- A response completes a sample ((t4 − t1) − (t3 − t2)) ÷ 2 (R168, R169); t2 and t3 in 2^-16 ns. -/
def execPdelayRespReceive (port seqId t2 t3 : Nat) (s : State) : Host.Outcome State Fault Refusal :=
  let x := s.probe port
  .next (match x.waiting with
    | none => s
    | some (id, t1) =>
      when (decide (x.st ≠ .off) && id == seqId && s.portUp port) s
        (let v := (((s.rxStamp port : Int) - t1) - ((t3 : Int) - t2)) / 2
         probeSample port v (s.drawn.setProbe port { x with waiting := none, unanswered := 0 })))

/-- A probe goes unanswered within PROBE_INTERVAL; the third in a row raises EV.TIME.PROBE_LOST (R169). -/
def execProbeUnanswered (port : Nat) (s : State) : Host.Outcome State Fault Refusal :=
  let x := s.probe port
  .next (when (decide (x.st ≠ .off) && x.waiting.isSome && s.due x.nextAt) s
    (if x.unanswered + 1 < 3 then s.setProbe port { x with waiting := none, unanswered := x.unanswered + 1 }
     else
       let s := s.setProbe port { x with st := .measuring, samples := [], deviating := [], waiting := none, unanswered := 0 }
       count Cn.timeProbeLost port 1 (notify Ev.timeProbeLost (putLe 1 port) (s.ownersOf port) s)))

end Sys2Proof.Machine
end

