-- ==== Sys2Proof/Machine/Transmit.lean ====
section
/-! DEFINITION. Egress processing and the transmit MAC (Table ES-3): the egress search and policer, the rewrite by an encapsulation record
(Table ES-4), remarking (R373), timestamps (R165, R166), MACsec (R142, R144), the gate check (R366), the JCRC check (R501) and
transmission. -/
namespace Sys2Proof.Machine

/-! ### Headers and their places -/

/-- The headers of a frame with their offsets, from a place of the parser on. -/
def locate (b : List Byte) (w n : Nat) : Nat → Expect → Parse → List (Nat × Hdr)
  | 0, _, _ => []
  | fuel + 1, e, p =>
    let (e', p') := parseStep b w n e p
    let new := if p.hdrs.length < p'.hdrs.length then (p'.hdrs.getLast?.map (fun h => (p.off, h))).toList else []
    match e' with
    | .stop => new
    | _ => new ++ locate b w n fuel e' p'

/-- The headers of a frame with its FCS. -/
def headersAt (b : List Byte) : List (Nat × Hdr) :=
  let n := b.length - 4
  locate (b.take 256) (min n 256) n 24 .eth {}

/-- Where the frame inside a tunnel begins (STRIP 3); none without a tunnel. -/
def tunnelPoint (b : List Byte) (w n : Nat) : Nat → Expect → Parse → Option Nat
  | 0, _, _ => none
  | fuel + 1, e, p =>
    if p.tunnels = 0 then
      match e with
      | .vxlan => some (p.off + 8)
      | .gre =>
        let fl := be b p.off 2
        some (p.off + 4 + 4 * (b2n (bit fl 15) + b2n (bit fl 13) + b2n (bit fl 12)))
      | .stop => none
      | _ => some p.off
    else
      let (e', p') := parseStep b w n e p
      match e' with
      | .stop => none
      | _ => tunnelPoint b w n fuel e' p'

def Hdr.isEth : Hdr → Bool | .eth _ => true | _ => false
def Hdr.isLabel : Hdr → Bool | .mpls _ _ _ => true | _ => false
def Hdr.asIp : Hdr → Option IpHdr | .ip h => some h | _ => none

/-- Bytes of the Ethernet header and its tags. -/
def ethBytes (b : List Byte) : Nat :=
  match (parseFrame b).hdrs.head? with
  | some (.eth h) => 14 + 4 * h.tags.length
  | _ => 14

/-- Bytes of an IP header at a place. -/
def ipBytes (b : List Byte) (h : IpHdr) : Nat := if h.v6 then 40 else be b h.off 1 % 16 * 4

/-! ### Edits -/

/-- The checksum of an IPv4 header computed anew. -/
def fixIpv4 (b : List Byte) (off : Nat) : List Byte :=
  let z := patch b (off + 10) [0, 0]
  let n := be b off 1 % 16 * 4
  patch z (off + 10) (putBe 2 (65535 - fold16 (onesSum (bytesAt z off n))))

/-- ECN of an IP header, and the frame with it set. -/
def ecnOf (b : List Byte) (h : IpHdr) : Nat := if h.v6 then be b (h.off + 1) 1 / 16 % 4 else be b (h.off + 1) 1 % 4
def setEcn (b : List Byte) (h : IpHdr) (e : Nat) : List Byte :=
  let x := be b (h.off + 1) 1
  if h.v6 then patch b (h.off + 1) (putBe 1 (x / 64 * 64 + e * 16 + x % 16))
  else fixIpv4 (patch b (h.off + 1) (putBe 1 (x / 4 * 4 + e))) h.off

/-- DSCP of an IP header set. -/
def setDscp (b : List Byte) (h : IpHdr) (d : Nat) : List Byte :=
  let x := be b h.off 2
  if h.v6 then patch b h.off (putBe 2 (x / 4096 * 4096 + d % 64 * 64 + x % 64))
  else fixIpv4 (patch b (h.off + 1) (putBe 1 (d % 64 * 4 + x % 4))) h.off

/-- TTL or hop limit of a header one lower (not below 0). -/
def decTtl (b : List Byte) (h : IpHdr) : List Byte :=
  let o := if h.v6 then h.off + 7 else h.off + 8
  let b := patch b o (putBe 1 (be b o 1 - 1))
  if h.v6 then b else fixIpv4 b h.off

/-- The normal mode of RFC 6040 at decapsulation; CE over a Not-ECT inner header leaves it Not-ECT (assumption log entry 75). -/
def ecnDecap (outer inner : Nat) : Nat :=
  if inner = 0 ∨ inner = 3 then inner
  else if outer = 3 then 3
  else if inner = 2 ∧ outer = 1 then 1 else inner

/-- The strip point of a record (Table ES-4). -/
def stripPoint (b : List Byte) (strip pop : Nat) : Nat :=
  let e := ethBytes b
  let n := b.length - 4
  if strip = 0 then 0
  else if strip = 1 then e
  else if strip = 2 then e + 4 * pop
  else match tunnelPoint (b.take 256) (min n 256) n 24 .eth {} with
    | some o => o
    | none => match (ipsOf (parseFrame b).hdrs).head? with
      | some h => h.off + ipBytes b h
      | none => e

/-- The fills of PUSH: TTL, IPv4 total or IPv6 payload length, UDP length, IPv4 checksum; `rest` bytes follow PUSH (Table ES-4). -/
def fillPush (r push : List Byte) (ttl rest : Nat) : List Byte :=
  let n := push.length
  let t := le r 4 1
  let l := le r 5 1
  let u := le r 6 1
  let c := le r 7 1
  let push := if t ≠ 0xFF ∧ t + 4 ≤ n then patch push (t + 3) (putBe 1 ttl) else push
  let push := if l = 0xFF ∨ n < l + 2 then push
    else if 4 ≤ l ∧ c + 2 ≠ l ∧ be push (l - 4) 1 / 16 = 6 ∧ be push (l - 2) 1 / 16 ≠ 4 then
      patch push l (putBe 2 (n + rest - (l - 4) - 40))
    else patch push l (putBe 2 (n + rest - (l - 2)))
  let push := if u = 0xFF ∨ n < u + 2 then push else patch push u (putBe 2 (n + rest - (u - 4)))
  if c = 0xFF ∨ n < c + 20 then push else fixIpv4 push c

/-- Steps 3 to 5 of Table ES-3: the frame without FCS after marking, stripping, TTL and pushing. -/
def rewrite (r : List Byte) (mark : Bool) (ecnOff : Nat) (b : List Byte) : List Byte :=
  let hs := headersAt b
  let b := match (if mark then hs.findSome? (fun e => if e.1 = 2 * ecnOff then Hdr.asIp e.2 else none) else none) with
    | some h => setEcn b h 3
    | none => b
  let cut := stripPoint b (le r 0 1) (le r 1 1)
  let below := hs.filter (fun e => decide (cut ≤ e.1))
  let inner := below.findSome? (fun e => Hdr.asIp e.2)
  let b := match (if le r 0 1 = 3 then (hs.filter (fun e => decide (e.1 < cut))).findSome? (fun e => Hdr.asIp e.2) else none), inner with
    | some o, some i => setEcn b i (ecnDecap (ecnOf b o) (ecnOf b i))
    | _, _ => b
  let b := match inner with
    | some i => if bit (le r 2 1) 0 then decTtl b i else b
    | none => b
  let ttl := match below.find? (fun e => !e.2.isEth) with
    | some (o, .mpls _ _ _) => be b (o + 3) 1
    | some (o, .ip h) => be b (if h.v6 then o + 7 else o + 8) 1
    | _ => 0
  let body := (b.take (b.length - 4)).drop cut
  fillPush r ((r.drop 16).take (le r 3 1)) ttl body.length ++ body

/-! ### Remark (R373) -/

/-- A remark entry for a colour, in the outermost header of each kind of a frame without FCS. -/
def remarkBy (e : Nat × List Nat) (colour : Nat) (b : List Byte) : List Byte :=
  let hs := headersAt (b ++ zeros 4)
  let b := match (if bit e.1 0 then hs.findSome? (fun x => Hdr.asIp x.2) else none) with
    | some h => setDscp b h (e.2.getD colour 0)
    | none => b
  let tag := be b 12 2
  let b := if bit e.1 1 && decide (tag = 0x8100 ∨ tag = 0x88A8 ∨ tag = 0x9100) then
      patch b 14 (putBe 1 (e.2.getD (3 + colour) 0 % 8 * 32 + be b 14 1 % 32)) else b
  match (if bit e.1 2 then hs.find? (fun x => x.2.isLabel) else none) with
  | some (o, _) => let x := be b (o + 2) 1; patch b (o + 2) (putBe 1 (x / 16 * 16 + e.2.getD (6 + colour) 0 % 8 * 2 + x % 2))
  | none => b

/-- The code applied: the egress entry's, the record's, the port's (R373). -/
def remark (asa : Option Nat) (r : List Byte) (p colour : Nat) (b : List Byte) (s : State) : List Byte :=
  let rec_ := if le r 8 1 = 0xFF then none else some (le r 8 1)
  match (asa.orElse (fun _ => rec_.orElse (fun _ => (s.schPort p).remark))).bind (fun c => mget s.sch.cfg.remarks c) with
  | some e => remarkBy e colour b
  | none => b

/-! ### The egress search and policer -/

/-- The search a packet asks for (Table ES-3, step 1): region and key; none without a profile or without a header the format needs. -/
def State.egressKey (s : State) (p : Nat) (k : EPkt) : Option (Nat × Region × List Byte) :=
  match ((s.schPort p).egProfile).bind (mget k.profiles) with
  | none => none
  | some (reg, f) =>
    let key := if formatEgress f then asaKey f { sp := k.sp, tc := k.tc, colour := k.colour } (parseFrame k.bytes).hdrs else none
    match s.region? reg, key with
    | some x, some key => some (reg, x, key)
    | _, _ => none

/-- Step 1 once the search is served: the remark code of the entry hit, none for a miss (R255); `none` outside while the search waits (R259). -/
def egressSearch (p : Nat) (k : EPkt) (s : State) : Option (Option Nat) × State :=
  match s.egressKey p k with
  | none =>
    (some none, if (s.schPort p).egProfile.any (fun n => !mhas k.profiles n) then count Cn.asaNoProfile 0 1 s else s)
  | some (reg, x, key) =>
    let s := serveUnits true x.width s
    match x.match? key with
    | none => (some none, s)
    | some (raddr, e) =>
      let (wait, s) := checkHit 3 (x.place raddr).1 true x.width s
      if wait then (none, s) else (some (actRemark e.action), countHit reg raddr s)

/-- Table HBM reads of a record: none for a resident one, else one per 64 bytes (R189). -/
def EncVer.reads (v : EncVer) : Nat := if bit v.flags 1 then 0 else ceilDiv v.record.length 64

/-- Step 2: the colour used for remarking (R361). -/
def egressPolice (p : Nat) (k : EPkt) (s : State) : Nat × State :=
  match (s.schPort p).egPolicer with
  | none => (k.colour, s)
  | some n => match police (n * 16 + 8 + k.tc) k.length k.colour s with
    | none => (k.colour, s)
    | some (c, _, s) => (c, s)

/-! ### Timestamps -/

/-- Where a PTP message begins in a frame, under whatever labels or tunnel, and whether UDP carries it (Table PL-1). -/
def ptpAt (b : List Byte) : Option (Nat × Bool) :=
  (headersAt b).findSome? (fun x => match x.2 with
    | .eth h => if h.etype = 0x88F7 then some (x.1 + 14 + 4 * h.tags.length, false) else none
    | .ip i => if i.proto = 17 ∧ i.ports.any (fun p => p.2 == 319 || p.2 == 320) then some (i.l4off + 8, true) else none
    | .mpls _ _ _ => none)

/-- The sequenceId of a PTP event message (R165). -/
def ptpEventId (b : List Byte) : Option Nat :=
  (ptpAt b).bind (fun x => if be b x.1 1 % 16 ≤ 3 then some (be b (x.1 + 30) 2) else none)

/-- A one's complement sum with some words replaced (the UDP checksum after an edit); 0 stays 0 (no checksum). -/
def sumEdit (old : Nat) (before after : List Byte) : Nat :=
  if old = 0 then 0
  else
    let n := 65535 - fold16 ((65535 - old) + onesSum after + (65535 * 8 - onesSum before % 65535))
    if n = 0 then 65535 else n

/-- Step 7 with ONE_STEP: the transmit time in the originTimestamp of a Sync whose twoStepFlag is clear (R166, assumption log entry 76). -/
def oneStepInsert (stamp : Nat) (b : List Byte) : Option (List Byte) :=
  match ptpAt (b ++ zeros 4) with
  | none => none
  | some (o, udp) =>
    if be b o 1 % 16 = 0 ∧ ¬ bit (be b (o + 6) 1) 1 then
      let ns := stamp / 2 ^ 16
      let new := putBe 6 (ns / 10 ^ 9) ++ putBe 4 (ns % 10 ^ 9)
      let out := patch b (o + 34) new
      some (if udp then patch out (o - 2) (putBe 2 (sumEdit (be b (o - 2) 2) (bytesAt b (o + 34) 10) new)) else out)
    else none

/-! ### MACsec transmit (R142, R144) -/

/-- The frame secured by the transmit SA, whose next packet number rises. Assumption log entry 78. -/
def macsecTx (p : Nat) (b : List Byte) (s : State) : List Byte × State :=
  let y := s.secy p
  if !(y.enable && bit y.flags 0) then (b, s)
  else match s.txSa p with
    | none => (b, s)
    | some (an, a) =>
      let out := Config.macsecSeal ((match mget s.sec.keys a.key with | some k => k.key ++ k.salt ++ putBe 4 k.ssci | none => []) ++ putBe 8 y.txSci)
        a.pn (y.flags + an * 256 + y.confOffset * 1024) b
      let thr := if y.pnThreshold = 0 then pnSpace y.cipher / 4 * 3 else y.pnThreshold
      let pn := a.pn + 1
      let first := decide (thr ≤ pn) && !a.pnEvent
      let s := s.modPort p (fun x => { x with txSas := mset x.txSas an { a with pn := pn, pnEvent := a.pnEvent || first } })
      let s := if first then notify Ev.portMacsecPn (putLe 1 p ++ putLe 1 an ++ zeros 6 ++ putLe 8 pn) (s.ownersOf p) s else s
      let s := if first then mkaThreshold p s else s
      let s := if pnSpace y.cipher ≤ pn then notify Ev.portMacsecExhausted (putLe 1 p ++ putLe 1 an) (s.ownersOf p) s else s
      (out, s)

/-! ### Transmission -/

/-- The version a packet carries (R204). -/
def State.version? (s : State) (k : EPkt) : Option EncVer := mget s.tbl.encaps (encKey k.handle k.version)

/-- R366 with the frame's true length: its last bit leaves the pins before its gate closes. Assumption log entry 77. -/
def State.txFits (s : State) (p : Nat) (k : EPkt) : Bool :=
  let len := match s.version? k with
    | none => 0
    | some v => (rewrite v.record k.ecnMark k.ecnOff k.bytes).length + 4 + s.macsecBytes p
  (s.eport p).list.isNone || ((s.eport p).gateOpen k.tc && s.passesGuard p k.tc len ((s.latency p).2 / 10))

/-- The frame to send next: one whose transmit slot's gate is open again, or the selected one. -/
def State.nextTx (s : State) (p : Nat) : Option (Nat × EPkt) :=
  match (s.eport p).lateSlot.find? (fun x => s.txFits p x.2.2) with
  | some x => some x.2
  | none => (s.eport p).tx.head?

/-- The egress path without a frame. -/
def dropTx (p : Nat) (k : Nat × EPkt) (s : State) : State :=
  s.modEport p (fun e => { e with tx := e.tx.filter (fun x => decide (x ≠ k)), lateSlot := e.lateSlot.filter (fun x => decide (x.2 ≠ k)) })

/-- The packet has left the egress path: its reference ends at the rewrite, and a port waiting for it may return (R204, R369). -/
def leftEgress (k : EPkt) (s : State) : State :=
  let s := releaseRef k.handle k.version s
  match k.rehomed with
  | some o => returnCheck o s
  | none => s

/-- A cut-through packet whose cells are not all there: the frame ends with an invalid FCS and the packet goes back (R339). Assumption log entry 79. -/
def underrun (p : Nat) (k : Nat × EPkt) (s : State) : State :=
  let s := count Cn.fabCtUnderrun p 1 ((returnOne p (k.1, { k.2 with cut := true }) s).emit (.brokenFrame p))
  let (fire, n, r) := (s.eport p).underruns.hit s.mono
  let s := s.modEport p (fun e => { e with underruns := r })
  if fire then notify Ev.fabCtUnderrun (putLe 1 p ++ zeros 3 ++ putLe 4 n) [] s else s

/-- Both table stacks have lost an overlapping range (Table IF-5): whether this record lies in it is a free value. Assumption log entry 80. -/
def State.recordLost (s : State) : Bool :=
  s.flt.tblPcCopying.any (fun a => decide (a < 32)) && s.flt.tblPcCopying.any (fun a => decide (32 ≤ a)) && decide (Config.freeNat s.draw % 2 = 1)

/-- The rewritten frame goes to the line (steps 7 to 9 of Table ES-3), for the packet client of a protected working source to both sources (R139);
`b` has no FCS. Assumption log entry 168. -/
def sendFrame (p : Nat) (k : EPkt) (b : List Byte) (s : State) : State :=
  let on := (s.tport p).tsEnable && !s.isOtn p
  let one := if on && (s.tport p).oneStep then oneStepInsert (s.txStamp p 0) b else none
  let b := one.getD b
  let s := if on && k.tsReq then pushTxTs p (ptpEventId k.bytes) one.isSome s else s
  let (b, s) := macsecTx p b s
  if Config.jcrc k.bytes ≠ k.jcrc then
    macsecRefresh p (leftEgress k (discardUnder 14 p 1 (fault 14 p 0 (s.emit (.brokenFrame p)))))
  else
    let frame := b ++ fcsOf b
    let s := foldS (s.clientPorts p) s (fun q s => s.emit (.lineFrame q frame))
    let s := meterTx p frame.length (count Cn.portTxBytes p frame.length (count Cn.portTxFrames p 1 s))
    macsecRefresh p (leftEgress k (markGone p k.stream k.seq s))

/-- A packet of the egress path with what it asks for. -/
def askTx (p : Nat) (k : Nat × EPkt) (a r : Option (Nat × Nat)) (s : State) : State :=
  let k' := (k.1, { k.2 with asaAsk := a, rdAsk := r })
  s.modEport p (fun e => { e with tx := e.tx.map (fun x => if x = k then k' else x),
                                  lateSlot := e.lateSlot.map (fun l => if l.2 = k then (l.1, k') else l) })

/-- A whole packet in egress processing, from Table ES-3 step 1 on. It waits there for its search and its record's reads (R189, R266). -/
def egressProcess (p : Nat) (k : Nat × EPkt) (v : EncVer) (s : State) : State :=
  let want := s.egressKey p k.2
  let units := (want.map (fun w => w.2.1.width)).getD 0
  let fitsA := s.unitsFit true k.2.asaAsk units
  let fitsR := s.readsFit true k.2.rdAsk v.reads
  if want.any (fun w => s.regionWaits w.1) then s
  else if !(fitsA && fitsR) then
    let (a, s) := takeAsk k.2.asaAsk fitsA units s
    let (r, s) := takeAsk k.2.rdAsk fitsR v.reads s
    askTx p k a r (if k.2.asaAsk.isNone && !fitsA then count Cn.asaThrottleWait 1 1 s else s)
  else match egressSearch p k.2 s with
    | (none, s) => askTx p k none none s
    | (some code, s) =>
      let (c, s) := egressPolice p k.2 (dropTx p k (serveReads true v.reads s))
      sendFrame p k.2 (remark code v.record p c (rewrite v.record k.2.ecnMark k.2.ecnOff k.2.bytes) s) s

/-- The frame waits in its class's transmit slot for its gate (R366). -/
def holdLate (p : Nat) (k : Nat × EPkt) (s : State) : State :=
  count Cn.schGateLate (p * 8 + k.2.tc) 1 ((dropTx p k s).modEport p (fun e => { e with lateSlot := mset e.lateSlot k.2.tc k }))

/-- A selected frame's turn at the egress processor. -/
def transmit (p : Nat) (k : Nat × EPkt) (s : State) : State :=
  if !k.2.whole then underrun p k (dropTx p k s)
  else match s.version? k.2 with
    | none =>
      leftEgress k.2 (count Cn.encapVersionMiss 0 1
        (notify Ev.tblEncapMiss (putLe 4 k.2.handle ++ putLe 1 k.2.version ++ [0] ++ putLe 2 (k.2.stream / 2 ^ 18))
          (s.allVis.filter (fun v => inRange (s.inst v).grant.handle k.2.handle)) (dropTx p k s)))
    | some v =>
      if s.recordLost then leftEgress k.2 (doubleLoss [9] [9] 1 (dropTx p k s)).drawn
      else if s.txFits p k.2 then egressProcess p k v s
      else holdLate p k s

/-- The port transmits its selected packet, or one that waited in a transmit slot for its gate (R366, R371); on a shared line only the bung
holder transmits (R390). -/
def execLineFrameTransmit (port : Nat) (s : State) : Host.Outcome State Fault Refusal :=
  .next (when (s.portUp port && s.mayTransmit port && decide ((s.eport port).hold = .run)) s
    (match s.nextTx port with
    | none => s
    | some k => transmit port k s))

end Sys2Proof.Machine
end

