-- ==== Sys2Proof/Machine/Window.lean ====
section
/-! DEFINITION. The diagnostic window (R83–R86, R426, R518, R520): the values of banks 0x01 to 0x08, and the direct registers as a read
returns them (Tables HM-12 to HM-24). -/
namespace Sys2Proof.Machine

/-! ### Selection -/

def winBank (sel : Word) : Nat := bits sel.toNat 23 16
def winChannel (sel : Word) : Nat := bits sel.toNat 15 0

/-- Channels of a bank (Table HM-10); 0 for an undefined one. -/
def bankChannels (bank : Nat) : Nat :=
  match bank with
  | 1 => 128 | 2 => 128 | 3 => 160 | 4 => 16 | 5 => 4 | 6 => 192 | 7 => 64 | 8 => 64 | _ => 0

def winBad (sel : Word) : Bool := winBank sel != 0 && decide (bankChannels (winBank sel) ≤ winChannel sel)

/-- What an instance other than VI0 may select (R426). -/
def State.winAllowed (s : State) (vi : Nat) (sel : Word) : Bool :=
  let c := winChannel sel
  vi == 0 || (match winBank sel with
    | 1 => s.port.cfg.any (fun e => s.ownsPort vi e.1 && decide (e.1 ≤ c ∧ c < e.1 + e.2.lanes))
    | 2 => s.ownsPort vi c
    | 7 => c == vi
    | _ => false)

def State.winDenied (s : State) (vi : Nat) (sel : Word) : Bool := winBank sel != 0 && !winBad sel && !s.winAllowed vi sel
def State.winValid (s : State) (vi : Nat) (sel : Word) : Bool := winBank sel != 0 && !winBad sel && s.winAllowed vi sel

/-! ### Values -/

/-- A value of the hardware that the manual gives no number for (assumption log entry 5). -/
def State.measuredAt (s : State) (bank ch v : Nat) : Nat := (Config.measured s.draw bank ch v).toNat

/-- The counters behind a value (R520): more than one where the value is their sum. -/
def State.winCounters (s : State) (bank ch v : Nat) : List (Nat × Nat) :=
  let one (ev : Nat) : List (Nat × Nat) := [(ev, ch)]
  match bank, v with
  | 2, 1 => one Cn.portRxFrames | 2, 2 => one Cn.portRxBytes | 2, 3 => one Cn.portTxFrames | 2, 4 => one Cn.portTxBytes
  | 2, 5 => one Cn.portFecCorr | 2, 6 => one Cn.portFecUncorr | 2, 7 => one Cn.portFecSymbols
  | 2, 8 => one Cn.portRxFcs | 2, 9 => one Cn.portRxOversize | 2, 10 => one Cn.portFlaps
  | 2, 11 => one Cn.macsecRxNotvalid | 2, 12 => one Cn.macsecRxNosa | 2, 13 => one Cn.macsecRxLate
  | 3, 5 => one Cn.fabLinkAuthFail | 3, 6 => one Cn.fabLaneDown
  | 4, 1 => one Cn.fabCellsTx | 4, 2 => one Cn.fabCellsRx | 4, 3 => one Cn.fabRetx | 4, 7 => one Cn.fabPcrcFail
  | 7, 4 => one Cn.viPuntPkts | 7, 5 => one Cn.viInjectPkts
  | 7, 6 => ((List.range 192).filter (fun p => s.ownerOf p == ch)).map (fun p => (Cn.admRefused, p * 256 + 6))
  | 7, 7 => one Cn.millInjectStale
  | 2, 14 | 2, 15 => if s.isOtn ch then one (winEvent bank v) else []
  | 1, 3 | 1, 4 | 1, 5 | 3, 1 | 3, 2 | 3, 3 | 3, 4 | 5, 1 | 5, 2 | 5, 3 | 5, 4 | 5, 5 | 5, 7 | 6, 1 | 6, 2 | 6, 3 | 6, 4 | 6, 5 => one (winEvent bank v)
  | _, _ => []

/-- A count whose events no command brings: how far it has risen since its last read is a free value (assumption log entry 140). -/
def freeCount (bank v : Nat) : Bool :=
  match bank, v with
  | 1, 3 | 1, 4 | 1, 5 | 2, 14 | 2, 15 | 3, 3 | 3, 4 | 5, 1 | 5, 2 | 5, 3 | 5, 4 | 5, 7 => true
  | _, _ => false

/-- The counters behind a value, brought up to date at a read. -/
def State.riseCounts (s : State) (bank ch v : Nat) : State :=
  if freeCount bank v then foldS (s.winCounters bank ch v) s.drawn (fun c t => bump c.1 c.2 (Config.freeNat s.draw) t) else s

/-- A line lane's signalling rate in kb/s: of an Ethernet port without the inner FEC as Table LN-1 gives it; with it, or on an OTN port, another
standard sets the rate, and the value is free (assumption log entry 140). -/
def State.laneRate (s : State) (lane : Nat) : Option Nat :=
  (s.portOfLane lane).bind (fun p => (s.pcfg p).bind (fun c =>
    if c.type ≠ 1 then none else if s.laneClass p = 1 then some 106250000 else if c.fec = 2 then none else some 212500000))

/-- Bank 0x01 (Table LN-6): the settings and power the model holds; what only the lane measures is free. -/
def State.lineLaneValue (s : State) (lane v : Nat) : Nat :=
  let m := s.measuredAt 1 lane v
  if v = 0 then
    let inv (f : PortCfg → Nat) : Bool := s.port.cfg.any (fun e => decide (e.1 ≤ lane ∧ lane < e.1 + e.2.lanes) && bit (f e.2) (lane - e.1))
    (if s.domOn (lanePd lane) then m % 8 else 0) + flag (inv PortCfg.rxInvert) 3 + flag (inv PortCfg.txInvert) 4 + flag (s.domOn (lanePd lane)) 5
  else if v = 1 then (s.laneRate lane).getD m
  else if v < 7 then m else 0

/-- Bank 0x02 (Table LN-7), values that are no counters. -/
def State.linePortValue (s : State) (p v : Nat) : Nat :=
  if v = 0 then (s.lport p).st.code + (s.lport p).defects.toNat * 65536
  else 0

/-- Bank 0x03 (Table FB-12). -/
def State.fabLaneValue (s : State) (lane v : Nat) : Nat :=
  let l := s.lane lane
  let p := (s.planeOf lane).getD 16
  if v = 0 then
    flag l.trained 0 + flag l.inUse 1 + flag l.encrypts 2 + flag ((mgetD s.sec.links p {}).slot == 1) 3 + l.announced % 16 * 256
      + flag l.farUnit 12
  else if v < 8 then s.measuredAt 3 lane v else 0

def PlaneState.code : PlaneState → Nat | .absent => 0 | .forming => 1 | .identified => 2 | .up => 3 | .holdoff => 4

/-- Bank 0x04 (Table FB-13). -/
def State.planeValue (s : State) (p v : Nat) : Nat :=
  let x := s.plane p
  match v with
  | 0 => x.st.code + (s.lanesUp p).length * 256 + flag (s.fab.suspect.any (fun e => e.1 / 2048 == p && decide (s.mono < e.2))) 16
  | 4 => x.timeouts
  | 5 => x.listed
  | 6 => x.missed
  | _ => 0

/-- Bank 0x05 (Table PR-10). -/
def State.peerLaneValue (s : State) (l v : Nat) : Nat :=
  let m := s.measuredAt 5 l v
  if v = 0 then flag (decide (l ∈ s.pair.peerLanes)) 0 + flag (bit m 1) 1 + flag ((mgetD s.sec.links 16 {}).keyed) 2
  else if v < 8 then m else 0

/-- Bank 0x06 (Table AB-9). -/
def State.hbmPcValue (s : State) (n v : Nat) : Nat :=
  let stack := n / 32
  let buffer := decide (2 ≤ stack)
  let failed := decide (n ∈ s.adm.pcFailed ∨ n ∈ s.flt.tblPcFailed ∨ stack ∈ s.adm.stacksFailed ∨ stack ∈ s.dev.hbmFailed)
  let st := if !s.domOn (9 + stack) then 0 else if failed then 2 else if stack ∈ s.dev.hbmUp then 1 else 3
  if v = 0 then st + flag buffer 2
  else if v = 6 then s.measuredAt 6 n v
  else if v = 7 ∧ buffer then s.storedStripes stack (n % 32)
  else 0

/-- Bank 0x07 (Table VI-9), values that are no counters. -/
def State.viValue (s : State) (vi v : Nat) : Nat :=
  let i := s.inst vi
  let st := match i.st with | .absent => 0 | .active => 1 | .resetting => 2
  match v with
  | 0 => st + i.epoch % 256 * 256
  | 1 => s.viBytes vi
  | 2 => s.overdraftOf vi
  | 3 => s.puntUsed vi
  | _ => 0

/-- Bank 0x08 (Table CT-4). -/
def State.selValue (s : State) (n v : Nat) : Nat :=
  let c := mgetD s.cnt.sel n {}
  match v with
  | 0 => if c.bound then c.event + 2 ^ 12 + flag c.pending.isSome 13 + flag c.alignTime 14 + flag c.index.isNone 15 + c.index.getD 0 % 2 ^ 24 * 65536
         else flag c.pending.isSome 13
  | 1 => c.total
  | 2 => c.last
  | 3 => c.seq % 2 ^ 32 + c.lastEvent * 2 ^ 32
  | 4 => c.boundaryMono
  | 5 => c.boundaryTime
  | 6 => c.peak
  | 7 => c.window
  | _ => 0

/-- The 64-bit value `v` of a channel; 0 beyond the bank's table. -/
def State.winValue (s : State) (bank ch v : Nat) : Nat :=
  match s.winCounters bank ch v with
  | [] =>
    (match bank with
     | 1 => s.lineLaneValue ch v | 2 => s.linePortValue ch v | 3 => s.fabLaneValue ch v | 4 => s.planeValue ch v
     | 5 => s.peerLaneValue ch v | 6 => s.hbmPcValue ch v | 7 => s.viValue ch v | 8 => s.selValue ch v | _ => 0) % 2 ^ 64
  | l => sumOf l (fun c => s.counter c.1 c.2) % 2 ^ 64

/-- What a function's WIN_DATA shows: 0 unless the selection is valid (R86). -/
def State.winShown (s : State) (vi v : Nat) : Nat :=
  let sel := (s.fn vi).winSel
  if s.winValid vi sel then s.winValue (winBank sel) (winChannel sel) v else 0

/-- The high word of a pair: the latch if it belongs to the pair, else live (R518). -/
def State.winHigh (s : State) (vi v : Nat) : Word :=
  match (s.fn vi).latch with
  | some (w, h) => if w = v then h else BitVec.ofNat 32 (s.winShown vi v / 2 ^ 32)
  | none => BitVec.ofNat 32 (s.winShown vi v / 2 ^ 32)

/-- WIN_OVF (Table CT-3). -/
def State.winOvf (s : State) (vi : Nat) : Nat :=
  let sel := (s.fn vi).winSel
  if s.winValid vi sel then
    maskOf ((List.range 16).filter (fun v => (s.winCounters (winBank sel) (winChannel sel) v).any (fun c => decide (counterKey c.1 c.2 ∈ s.cnt.ovf))))
  else 0

/-! ### The commands -/

/-- R83, R84, R86: the selection of one function. -/
def execHifWinSel (vi : Nat) (value : Word) (s : State) : Host.Outcome State Fault Refusal :=
  .next (when (s.hostReach vi) s
    (let sel := value &&& 0x00FFFFFF
     let s := s.modFn vi (fun f => { f with winSel := sel })
     if s.winDenied vi sel then count Cn.hifWinDenied vi 1 s else s))

/-- R518: a read of the low word of value `v` returns the low half and latches the high half. -/
def execWinDataLowRead (vi : Nat) (v : Nat) (s : State) : Host.Outcome State Fault Refusal :=
  .next (when (s.hostReach vi && decide (v < 16)) s
    (let sel := (s.fn vi).winSel
     let s := if s.winValid vi sel then s.riseCounts (winBank sel) (winChannel sel) v else s
     let n := s.winShown vi v
     let s := s.drawn.modFn vi (fun f => { f with latch := some (v, BitVec.ofNat 32 (n / 2 ^ 32)) })
     s.emit (.readAnswer vi (0x2100 + 8 * v) (BitVec.ofNat 32 (n % 2 ^ 32)))))

/-- R520: the flags of the values written with 1 are cleared for every reader. -/
def execWinOvf (vi : Nat) (value : Word) (s : State) : Host.Outcome State Fault Refusal :=
  let sel := (s.fn vi).winSel
  .next (when (s.hostReach vi && s.winValid vi sel) s
    (let keys := (bitsSet value.toNat 16).flatMap (fun v => (s.winCounters (winBank sel) (winChannel sel) v).map (fun c => counterKey c.1 c.2))
     { s with cnt := { s.cnt with ovf := s.cnt.ovf.filter (fun k => decide (k ∉ keys)) } }))

/-! ### The direct registers as a read returns them -/

def RingState.code : RingState → Nat | .idle => 0 | .running => 1 | .draining => 2 | .halted => 3

/-- HIF_STATUS of a function (Table HM-14). PAIR_STANDBY is 1 for a member in SYNCING, STANDBY or STALE; PAIR_ACTIVE in SOLO, ACTIVE or TAKING
(assumption log entry 106). -/
def State.hifStatus (s : State) (vi : Nat) : Nat :=
  let st := s.pair.st
  flag s.hif.fwReady 0 + flag (s.dev.phase == .cellar) 1 + flag s.hif.recovery 2 + flag ((s.fn vi).ring == .halted) 3
    + flag (st == .solo || st == .active || st == .taking) 4 + flag (st == .syncing || st == .standby || st == .stale) 5
    + s.hif.fwEpoch % 256 * 256

/-- WIN_STATUS (Table HM-24). -/
def State.winStatus (s : State) (vi : Nat) : Nat :=
  let sel := (s.fn vi).winSel
  flag (s.winValid vi sel) 0 + flag (winBad sel) 1 + flag (s.winDenied vi sel) 2

/-- VI_DP_STATUS (Table VI-8). -/
def State.viDpStatus (s : State) (vi : Nat) : Nat :=
  let i := s.inst vi
  let on (m : AMap VQueue) : Nat := maskOf ((List.range 8).filter (fun q => (mgetD m q {}).enabled))
  flag (decide (i.st = .resetting)) 0 + flag i.overdraft 1 + i.epoch % 256 * 2 ^ 8 + on i.puntQ * 2 ^ 16 + on i.injQ * 2 ^ 24

/-- A read of a direct register (Table RF-6); offsets it does not list read 0 (R556). Assumption log entry 171. -/
def State.readReg (s : State) (vi offset : Nat) : Word :=
  let f := s.fn vi
  let r := f.shadow
  let pend := decide (f.shadow ≠ f.active)
  match offset with
  | 0x0000 => if Config.gradeAE then 0x2560B010 else 0x2560B000
  | 0x0004 => BitVec.ofNat 32 vi
  | 0x0008 => BitVec.ofNat 32 (s.hifStatus vi)
  | 0x000C => f.fault
  | 0x0040 => r.sqLo | 0x0044 => r.sqHi | 0x0048 => r.sqSize
  | 0x0050 => r.cqLo | 0x0054 => r.cqHi | 0x0058 => r.cqSize
  | 0x0060 => r.nqLo | 0x0064 => r.nqHi | 0x0068 => r.nqSize
  | 0x0074 => BitVec.ofNat 32 (f.ring.code + flag pend 2 + f.sqHead * 65536)
  | 0x0078 => BitVec.ofNat 32 (f.cqTail + flag f.cqPhase 12)
  | 0x007C => BitVec.ofNat 32 (f.nqTail + flag f.nqPhase 12)
  | 0x2000 => f.winSel
  | 0x2004 => BitVec.ofNat 32 (s.winStatus vi)
  | 0x2008 => BitVec.ofNat 32 (s.winOvf vi)
  | 0x3040 => BitVec.ofNat 32 (s.viDpStatus vi)
  | 0x4800 => f.pba
  | o =>
    if 0x2100 ≤ o ∧ o < 0x2180 ∧ o % 4 = 0 then
      let v := (o - 0x2100) / 8
      if o % 8 = 0 then BitVec.ofNat 32 (s.winShown vi v % 2 ^ 32) else s.winHigh vi v
    else match msixIndex o with
      | some i => f.msix.getD i 0
      | none => 0

/-! ### Reads by width (R557) -/

/-- A read of four bytes or fewer: the register, with the latch that a low word of WIN_DATA sets (R518). -/
def readFour (vi offset : Nat) (s : State) : Word × State :=
  let w := s.readReg vi offset
  if 0x2100 ≤ offset ∧ offset < 0x2180 ∧ offset % 8 = 0 then
    let v := (offset - 0x2100) / 8
    (w, s.modFn vi (fun f => { f with latch := some (v, BitVec.ofNat 32 (s.winShown vi v / 2 ^ 32)) }))
  else (w, s)

/-- An 8-byte read at an aligned offset: two reads of four bytes, the lower address first. -/
def readEight (vi offset : Nat) (s : State) : (Word × Word) × State :=
  let (lo, s) := readFour vi offset s
  let (hi, s) := readFour vi (offset + 4) s
  ((lo, hi), s)

end Sys2Proof.Machine
end

