-- ==== Sys2Proof/Machine/Dispatch.lean ====
section
/-! DEFINITION. One arm per command of spec/opcode_table.json, each a direct call of the command's meaning. -/
namespace Sys2Proof.Machine

/-- The effect of a command on everything but the queue. -/
def exec (i : Instr) (s : State) : Host.Outcome State Fault Refusal :=
  match i with
  | .hifNop vi io => Sys2Proof.Machine.execHifNop vi io s
  | .hifIdentify vi io => Sys2Proof.Machine.execHifIdentify vi io s
  | .hifJournalInfo vi io => Sys2Proof.Machine.execHifJournalInfo vi io s
  | .hifNotifyMask vi io => Sys2Proof.Machine.execHifNotifyMask vi io s
  | .hifSetCoalesce vi io => Sys2Proof.Machine.execHifSetCoalesce vi io s
  | .commandResume vi => Sys2Proof.Machine.execCommandResume vi s
  | .ringCommit vi => Sys2Proof.Machine.execRingCommit vi s
  | .ringDisable vi => Sys2Proof.Machine.execRingDisable vi s
  | .hifSqTailDb vi index slots => Sys2Proof.Machine.execHifSqTailDb vi index slots s
  | .hifCqHeadDb vi index => Sys2Proof.Machine.execHifCqHeadDb vi index s
  | .hifNqHeadDb vi index => Sys2Proof.Machine.execHifNqHeadDb vi index s
  | .hifFaultClear vi value => Sys2Proof.Machine.execHifFaultClear vi value s
  | .hifWinSel vi value => Sys2Proof.Machine.execHifWinSel vi value s
  | .winDataLowRead vi v => Sys2Proof.Machine.execWinDataLowRead vi v s
  | .winOvf vi value => Sys2Proof.Machine.execWinOvf vi value s
  | .viPuntDb vi q index slots => Sys2Proof.Machine.execViPuntDb vi q index slots s
  | .viInjDb vi q index slots => Sys2Proof.Machine.execViInjDb vi q index slots s
  | .registerWrite vi offset value allBytes => Sys2Proof.Machine.execRegisterWrite vi offset value allBytes s
  | .coalesceDelayExpiry vi vec => Sys2Proof.Machine.execCoalesceDelayExpiry vi vec s
  | .pcieLinkDown => Sys2Proof.Machine.execPcieLinkDown s
  | .pcieLinkUp dataOk => Sys2Proof.Machine.execPcieLinkUp dataOk s
  | .ringAccessFailure vi ring => Sys2Proof.Machine.execRingAccessFailure vi ring s
  | .functionLevelReset vi => Sys2Proof.Machine.execFunctionLevelReset vi s
  | .maltsterWatchdog => Sys2Proof.Machine.execMaltsterWatchdog s
  | .fwReady retainedOk settingsOk => Sys2Proof.Machine.execFwReady retainedOk settingsOk s
  | .coldResetAssert => Sys2Proof.Machine.execColdResetAssert s
  | .bcColdReset => Sys2Proof.Machine.execBcColdReset s
  | .powerOnResetRelease => Sys2Proof.Machine.execPowerOnResetRelease s
  | .poresetAssert => Sys2Proof.Machine.execPoresetAssert s
  | .kilnVerify slot passed => Sys2Proof.Machine.execKilnVerify slot passed s
  | .wortBridgeTrainEnd passed => Sys2Proof.Machine.execWortBridgeTrainEnd passed s
  | .hbmTrainingDone stack passed => Sys2Proof.Machine.execHbmTrainingDone stack passed s
  | .blockResetDone kind index => Sys2Proof.Machine.execBlockResetDone kind index s
  | .fullServiceBank0Clear => Sys2Proof.Machine.execFullServiceBank0Clear s
  | .devStatus vi io => Sys2Proof.Machine.execDevStatus vi io s
  | .devService vi io => Sys2Proof.Machine.execDevService vi io s
  | .devReset vi io => Sys2Proof.Machine.execDevReset vi io s
  | .devSetCellarSet vi io => Sys2Proof.Machine.execDevSetCellarSet vi io s
  | .devSetBoard vi io => Sys2Proof.Machine.execDevSetBoard vi io s
  | .moduleInsert cage apps => Sys2Proof.Machine.execModuleInsert cage apps s
  | .moduleReady cage => Sys2Proof.Machine.execModuleReady cage s
  | .moduleFault cage code => Sys2Proof.Machine.execModuleFault cage code s
  | .moduleRemove cage => Sys2Proof.Machine.execModuleRemove cage s
  | .moduleFlag cage flags => Sys2Proof.Machine.execModuleFlag cage flags s
  | .moduleReadyTimeout cage => Sys2Proof.Machine.execModuleReadyTimeout cage s
  | .bcHeartbeat => Sys2Proof.Machine.execBcHeartbeat s
  | .bcHeartbeatLoss => Sys2Proof.Machine.execBcHeartbeatLoss s
  | .helloSend => Sys2Proof.Machine.execHelloSend s
  | .helloReceive h => Sys2Proof.Machine.execHelloReceive h s
  | .helloLoss => Sys2Proof.Machine.execHelloLoss s
  | .portConfig vi io => Sys2Proof.Machine.execPortConfig vi io s
  | .portAdmin vi io => Sys2Proof.Machine.execPortAdmin vi io s
  | .portStatus vi io => Sys2Proof.Machine.execPortStatus vi io s
  | .portMacsecSecy vi io => Sys2Proof.Machine.execPortMacsecSecy vi io s
  | .portMacsecRxsc vi io => Sys2Proof.Machine.execPortMacsecRxsc vi io s
  | .portMacsecSa vi io => Sys2Proof.Machine.execPortMacsecSa vi io s
  | .frmTrib vi io => Sys2Proof.Machine.execFrmTrib vi io s
  | .frmTsiStage vi io => Sys2Proof.Machine.execFrmTsiStage vi io s
  | .frmTsiSwap vi io => Sys2Proof.Machine.execFrmTsiSwap vi io s
  | .frmProt vi io => Sys2Proof.Machine.execFrmProt vi io s
  | .frmOhs vi io => Sys2Proof.Machine.execFrmOhs vi io s
  | .frmStatus vi io => Sys2Proof.Machine.execFrmStatus vi io s
  | .lineDefectDetect port bit trib => Sys2Proof.Machine.execLineDefectDetect port bit trib s
  | .lineDefectClear port bit trib => Sys2Proof.Machine.execLineDefectClear port bit trib s
  | .fecDegradeWindow port errors symbols => Sys2Proof.Machine.execFecDegradeWindow port errors symbols s
  | .alignmentHuntCycle port view => Sys2Proof.Machine.execAlignmentHuntCycle port view s
  | .portLanesLocked port => Sys2Proof.Machine.execPortLanesLocked port s
  | .upDebounceExpiry port => Sys2Proof.Machine.execUpDebounceExpiry port s
  | .downDebounceExpiry port => Sys2Proof.Machine.execDownDebounceExpiry port s
  | .protHoldoffExpiry group => Sys2Proof.Machine.execProtHoldoffExpiry group s
  | .waitToRestoreExpiry group => Sys2Proof.Machine.execWaitToRestoreExpiry group s
  | .tsiSwapInstant port => Sys2Proof.Machine.execTsiSwapInstant port s
  | .tsiSlip port trib deleted => Sys2Proof.Machine.execTsiSlip port trib deleted s
  | .ohsFrame ohs mfas line inserted need => Sys2Proof.Machine.execOhsFrame ohs mfas line inserted need s
  | .lineFrameReceive port bytes fcsOk => Sys2Proof.Machine.execLineFrameReceive port bytes fcsOk s
  | .pfcFrameReceive port quanta => Sys2Proof.Machine.execPfcFrameReceive port quanta s
  | .pfcPauseExpiry port tc => Sys2Proof.Machine.execPfcPauseExpiry port tc s
  | .pfcXoffRepeat port tc => Sys2Proof.Machine.execPfcXoffRepeat port tc s
  | .timeConfig vi io => Sys2Proof.Machine.execTimeConfig vi io s
  | .timeSetIncrement vi io => Sys2Proof.Machine.execTimeSetIncrement vi io s
  | .timeStep vi io => Sys2Proof.Machine.execTimeStep vi io s
  | .timeStepTick => Sys2Proof.Machine.execTimeStepTick s
  | .timeGet vi io => Sys2Proof.Machine.execTimeGet vi io s
  | .timePort vi io => Sys2Proof.Machine.execTimePort vi io s
  | .timeTxTsRead vi io => Sys2Proof.Machine.execTimeTxTsRead vi io s
  | .timePulseOut vi io => Sys2Proof.Machine.execTimePulseOut vi io s
  | .timePulseIn vi io => Sys2Proof.Machine.execTimePulseIn vi io s
  | .timeCaptureRead vi io => Sys2Proof.Machine.execTimeCaptureRead vi io s
  | .pulseOneShotFire pin => Sys2Proof.Machine.execPulseOneShotFire pin s
  | .pulsePeriodicEdge pin => Sys2Proof.Machine.execPulsePeriodicEdge pin s
  | .pulseInEdge pin rising => Sys2Proof.Machine.execPulseInEdge pin rising s
  | .probeSend port => Sys2Proof.Machine.execProbeSend port s
  | .pdelayReqReceive port seqId domain => Sys2Proof.Machine.execPdelayReqReceive port seqId domain s
  | .pdelayRespReceive port seqId t2 t3 => Sys2Proof.Machine.execPdelayRespReceive port seqId t2 t3 s
  | .probeUnanswered port => Sys2Proof.Machine.execProbeUnanswered port s
  | .millParseComplete pkt => Sys2Proof.Machine.execMillParseComplete pkt s
  | .lookupComplete pkt => Sys2Proof.Machine.execLookupComplete pkt s
  | .lookupTimeout pkt => Sys2Proof.Machine.execLookupTimeout pkt s
  | .resultAdmission port => Sys2Proof.Machine.execResultAdmission port s
  | .noneToken port => Sys2Proof.Machine.execNoneToken port s
  | .frameLastCellWrite pkt => Sys2Proof.Machine.execFrameLastCellWrite pkt s
  | .resolutionTokenApply port => Sys2Proof.Machine.execResolutionTokenApply port s
  | .trubEccError index => Sys2Proof.Machine.execTrubEccError index s
  | .cacheParityError set way => Sys2Proof.Machine.execCacheParityError set way s
  | .cacheSetClear set => Sys2Proof.Machine.execCacheSetClear set s
  | .tblStage vi io => Sys2Proof.Machine.execTblStage vi io s
  | .tblCommit vi io => Sys2Proof.Machine.execTblCommit vi io s
  | .tblAbort vi io => Sys2Proof.Machine.execTblAbort vi io s
  | .tblRead vi io => Sys2Proof.Machine.execTblRead vi io s
  | .tblPin vi io => Sys2Proof.Machine.execTblPin vi io s
  | .tblDigest vi io => Sys2Proof.Machine.execTblDigest vi io s
  | .tblStatus vi io => Sys2Proof.Machine.execTblStatus vi io s
  | .tblConfig vi io => Sys2Proof.Machine.execTblConfig vi io s
  | .tblRaConfig vi io => Sys2Proof.Machine.execTblRaConfig vi io s
  | .tblRaFlush vi io => Sys2Proof.Machine.execTblRaFlush vi io s
  | .commitWaitExpiry vi => Sys2Proof.Machine.execCommitWaitExpiry vi s
  | .epochRetire epoch => Sys2Proof.Machine.execEpochRetire epoch s
  | .encapVersionRetire handle version => Sys2Proof.Machine.execEncapVersionRetire handle version s
  | .asaRegion vi io => Sys2Proof.Machine.execAsaRegion vi io s
  | .asaProfile vi io => Sys2Proof.Machine.execAsaProfile vi io s
  | .asaWrite vi io => Sys2Proof.Machine.execAsaWrite vi io s
  | .asaRead vi io => Sys2Proof.Machine.execAsaRead vi io s
  | .asaStatus vi io => Sys2Proof.Machine.execAsaStatus vi io s
  | .asaConfig vi io => Sys2Proof.Machine.execAsaConfig vi io s
  | .asaShadowRestoreDone region raddr => Sys2Proof.Machine.execAsaShadowRestoreDone region raddr s
  | .asaScrub rows => Sys2Proof.Machine.execAsaScrub rows s
  | .asaHoleRestore region => Sys2Proof.Machine.execAsaHoleRestore region s
  | .asaBankFault bank cause => Sys2Proof.Machine.execAsaBankFault bank cause s
  | .asaBankReloadDone bank passed => Sys2Proof.Machine.execAsaBankReloadDone bank passed s
  | .asaRelocationDone bank => Sys2Proof.Machine.execAsaRelocationDone bank s
  | .asaThrottleRaise temp => Sys2Proof.Machine.execAsaThrottleRaise temp s
  | .asaThrottleLower temp => Sys2Proof.Machine.execAsaThrottleLower temp s
  | .admProfile vi io => Sys2Proof.Machine.execAdmProfile vi io s
  | .admBind vi io => Sys2Proof.Machine.execAdmBind vi io s
  | .admClass vi io => Sys2Proof.Machine.execAdmClass vi io s
  | .admPool vi io => Sys2Proof.Machine.execAdmPool vi io s
  | .admPfc vi io => Sys2Proof.Machine.execAdmPfc vi io s
  | .admQueueStatus vi io => Sys2Proof.Machine.execAdmQueueStatus vi io s
  | .admStatus vi io => Sys2Proof.Machine.execAdmStatus vi io s
  | .sojournSweep voq => Sys2Proof.Machine.execSojournSweep voq s
  | .hbmMigration voq => Sys2Proof.Machine.execHbmMigration voq s
  | .hbmPrefetch voq => Sys2Proof.Machine.execHbmPrefetch voq s
  | .caskScrub corrected bad => Sys2Proof.Machine.execCaskScrub corrected bad s
  | .hbmPcFail stack pc cause => Sys2Proof.Machine.execHbmPcFail stack pc cause s
  | .hbmPcClear stack pc => Sys2Proof.Machine.execHbmPcClear stack pc s
  | .hbmStackFail stack => Sys2Proof.Machine.execHbmStackFail stack s
  | .fabPlane vi io => Sys2Proof.Machine.execFabPlane vi io s
  | .fabSpmap vi io => Sys2Proof.Machine.execFabSpmap vi io s
  | .fabConfig vi io => Sys2Proof.Machine.execFabConfig vi io s
  | .fabCt vi io => Sys2Proof.Machine.execFabCt vi io s
  | .fabStatus vi io => Sys2Proof.Machine.execFabStatus vi io s
  | .fabLaneTrained lane announced far => Sys2Proof.Machine.execFabLaneTrained lane announced far s
  | .fabLaneDown lane cause => Sys2Proof.Machine.execFabLaneDown lane cause s
  | .fabLaneUp lane => Sys2Proof.Machine.execFabLaneUp lane s
  | .formationTimerExpiry plane => Sys2Proof.Machine.execFormationTimerExpiry plane s
  | .reachabilityTimerExpiry plane => Sys2Proof.Machine.execReachabilityTimerExpiry plane s
  | .holdoffExpiry plane => Sys2Proof.Machine.execHoldoffExpiry plane s
  | .reachCell plane suns => Sys2Proof.Machine.execReachCell plane suns s
  | .sunListingTimeout plane sun => Sys2Proof.Machine.execSunListingTimeout plane sun s
  | .reachabilitySend => Sys2Proof.Machine.execReachabilitySend s
  | .fabLinkFrameReceive lane slot tagOk cells => Sys2Proof.Machine.execFabLinkFrameReceive lane slot tagOk cells s
  | .matcherGrant voq plane => Sys2Proof.Machine.execMatcherGrant voq plane s
  | .retentionSend cell plane dest => Sys2Proof.Machine.execRetentionSend cell plane dest s
  | .requestSend voq => Sys2Proof.Machine.execRequestSend voq s
  | .creditGrant sp tc src => Sys2Proof.Machine.execCreditGrant sp tc src s
  | .dataCellReceive plane c => Sys2Proof.Machine.execDataCellReceive plane c s
  | .confirmEntry src stream sp tc first count => Sys2Proof.Machine.execConfirmEntry src stream sp tc first count s
  | .voidEntry src stream sp tc first count => Sys2Proof.Machine.execVoidEntry src stream sp tc first count s
  | .requestEntry src sp tc paired backlog => Sys2Proof.Machine.execRequestEntry src sp tc paired backlog s
  | .creditEntry src sp tc cells => Sys2Proof.Machine.execCreditEntry src sp tc cells s
  | .ackEntry src control stream sp tc cum bitmap => Sys2Proof.Machine.execAckEntry src control stream sp tc cum bitmap s
  | .cellAckTimeout cell dest => Sys2Proof.Machine.execCellAckTimeout cell dest s
  | .planeSuspectEnd plane sun => Sys2Proof.Machine.execPlaneSuspectEnd plane sun s
  | .holeTimeout stream sp tc => Sys2Proof.Machine.execHoleTimeout stream sp tc s
  | .dupWaitExpiry stream sp tc seq => Sys2Proof.Machine.execDupWaitExpiry stream sp tc seq s
  | .memberSilenceExpiry sun => Sys2Proof.Machine.execMemberSilenceExpiry sun s
  | .streamEntryFree stream sp tc => Sys2Proof.Machine.execStreamEntryFree stream sp tc s
  | .schNode vi io => Sys2Proof.Machine.execSchNode vi io s
  | .schQmap vi io => Sys2Proof.Machine.execSchQmap vi io s
  | .schSetShaper vi io => Sys2Proof.Machine.execSchSetShaper vi io s
  | .schSetPolicer vi io => Sys2Proof.Machine.execSchSetPolicer vi io s
  | .schGateList vi io => Sys2Proof.Machine.execSchGateList vi io s
  | .schPort vi io => Sys2Proof.Machine.execSchPort vi io s
  | .schRemark vi io => Sys2Proof.Machine.execSchRemark vi io s
  | .schFlush vi io => Sys2Proof.Machine.execSchFlush vi io s
  | .schStatus vi io => Sys2Proof.Machine.execSchStatus vi io s
  | .schedulerSelect port => Sys2Proof.Machine.execSchedulerSelect port s
  | .lineFrameTransmit port => Sys2Proof.Machine.execLineFrameTransmit port s
  | .shaperRefill shaper => Sys2Proof.Machine.execShaperRefill shaper s
  | .gateListStart port => Sys2Proof.Machine.execGateListStart port s
  | .gateEntryEnd port => Sys2Proof.Machine.execGateEntryEnd port s
  | .holdDeadline port => Sys2Proof.Machine.execHoldDeadline port s
  | .pairConfig vi io => Sys2Proof.Machine.execPairConfig vi io s
  | .pairPort vi io => Sys2Proof.Machine.execPairPort vi io s
  | .pairState vi io => Sys2Proof.Machine.execPairState vi io s
  | .pairSwitch vi io => Sys2Proof.Machine.execPairSwitch vi io s
  | .pairDraught vi io => Sys2Proof.Machine.execPairDraught vi io s
  | .pairPortExchange port settings => Sys2Proof.Machine.execPairPortExchange port settings s
  | .partnerWaitExpiry => Sys2Proof.Machine.execPartnerWaitExpiry s
  | .bungRenewSend => Sys2Proof.Machine.execBungRenewSend s
  | .bungRenew gen number => Sys2Proof.Machine.execBungRenew gen number s
  | .bungAck gen number => Sys2Proof.Machine.execBungAck gen number s
  | .bungHandover gen => Sys2Proof.Machine.execBungHandover gen s
  | .bungHandoverAck gen => Sys2Proof.Machine.execBungHandoverAck gen s
  | .leaseFence => Sys2Proof.Machine.execLeaseFence s
  | .bungTake => Sys2Proof.Machine.execBungTake s
  | .takeoverComplete => Sys2Proof.Machine.execTakeoverComplete s
  | .announceSend => Sys2Proof.Machine.execAnnounceSend s
  | .announceEntry a => Sys2Proof.Machine.execAnnounceEntry a s
  | .divergeEntry stream sp tc seq reporter => Sys2Proof.Machine.execDivergeEntry stream sp tc seq reporter s
  | .reconQuery stream arrival => Sys2Proof.Machine.execReconQuery stream arrival s
  | .reconAnswer stream arrival kind sp tc seq => Sys2Proof.Machine.execReconAnswer stream arrival kind sp tc seq s
  | .reconQueryTimeout port => Sys2Proof.Machine.execReconQueryTimeout port s
  | .arrivalSwitchPoint port epoch arrival => Sys2Proof.Machine.execArrivalSwitchPoint port epoch arrival s
  | .markEntry stream sp tc seq => Sys2Proof.Machine.execMarkEntry stream sp tc seq s
  | .journalEntry recs bytes => Sys2Proof.Machine.execJournalEntry recs bytes s
  | .journalMarkAck mark => Sys2Proof.Machine.execJournalMarkAck mark s
  | .anchorRun port first run => Sys2Proof.Machine.execAnchorRun port first run s
  | .syncComplete => Sys2Proof.Machine.execSyncComplete s
  | .unsyncedPortRestart port => Sys2Proof.Machine.execUnsyncedPortRestart port s
  | .draughtPeriod => Sys2Proof.Machine.execDraughtPeriod s
  | .peerLaneDown lane => Sys2Proof.Machine.execPeerLaneDown lane s
  | .peerLaneUp lane => Sys2Proof.Machine.execPeerLaneUp lane s
  | .viCreate vi io => Sys2Proof.Machine.execViCreate vi io s
  | .viModify vi io => Sys2Proof.Machine.execViModify vi io s
  | .viDestroy vi io => Sys2Proof.Machine.execViDestroy vi io s
  | .viReset vi io => Sys2Proof.Machine.execViReset vi io s
  | .viQueue vi io => Sys2Proof.Machine.execViQueue vi io s
  | .viStatus vi io => Sys2Proof.Machine.execViStatus vi io s
  | .viResetDrainEnd vi => Sys2Proof.Machine.execViResetDrainEnd vi s
  | .puntDeliver vi q writeOk => Sys2Proof.Machine.execPuntDeliver vi q writeOk s
  | .injectFetch vi q frame => Sys2Proof.Machine.execInjectFetch vi q frame s
  | .injectReadDone vi q readOk => Sys2Proof.Machine.execInjectReadDone vi q readOk s
  | .secSpdm vi io => Sys2Proof.Machine.execSecSpdm vi io s
  | .secStatus vi io => Sys2Proof.Machine.execSecStatus vi io s
  | .secImportPub vi io => Sys2Proof.Machine.execSecImportPub vi io s
  | .secKeyImport vi io => Sys2Proof.Machine.execSecKeyImport vi io s
  | .secKeyDelete vi io => Sys2Proof.Machine.execSecKeyDelete vi io s
  | .secMka vi io => Sys2Proof.Machine.execSecMka vi io s
  | .secLink vi io => Sys2Proof.Machine.execSecLink vi io s
  | .secTrust vi io => Sys2Proof.Machine.execSecTrust vi io s
  | .secOwnerCert vi io => Sys2Proof.Machine.execSecOwnerCert vi io s
  | .secDebug vi io => Sys2Proof.Machine.execSecDebug vi io s
  | .secZeroize vi io => Sys2Proof.Machine.execSecZeroize vi io s
  | .linkHandshakeMessage link m => Sys2Proof.Machine.execLinkHandshakeMessage link m s
  | .rekeyIntervalExpiry link => Sys2Proof.Machine.execRekeyIntervalExpiry link s
  | .oldKeySlotExpiry link => Sys2Proof.Machine.execOldKeySlotExpiry link s
  | .handshakeRetry link => Sys2Proof.Machine.execHandshakeRetry link s
  | .mkpduReceive port m => Sys2Proof.Machine.execMkpduReceive port m s
  | .mkaHello port => Sys2Proof.Machine.execMkaHello port s
  | .updOpen vi io => Sys2Proof.Machine.execUpdOpen vi io s
  | .updChunk vi io => Sys2Proof.Machine.execUpdChunk vi io s
  | .updStatus vi io => Sys2Proof.Machine.execUpdStatus vi io s
  | .updAbort vi io => Sys2Proof.Machine.execUpdAbort vi io s
  | .updActivate vi io => Sys2Proof.Machine.execUpdActivate vi io s
  | .updConfirm vi io => Sys2Proof.Machine.execUpdConfirm vi io s
  | .updSwap => Sys2Proof.Machine.execUpdSwap s
  | .swapWaitExpiry => Sys2Proof.Machine.execSwapWaitExpiry s
  | .linkBankSwapDone => Sys2Proof.Machine.execLinkBankSwapDone s
  | .confirmWindowExpiry => Sys2Proof.Machine.execConfirmWindowExpiry s
  | .fltStatus vi io => Sys2Proof.Machine.execFltStatus vi io s
  | .fltLogRead vi io => Sys2Proof.Machine.execFltLogRead vi io s
  | .fltInject vi io => Sys2Proof.Machine.execFltInject vi io s
  | .wbFlitReceive dir group seq crcOk => Sys2Proof.Machine.execWbFlitReceive dir group seq crcOk s
  | .wbLaneFail dir lane => Sys2Proof.Machine.execWbLaneFail dir lane s
  | .wbLaneRepairDone dir lane => Sys2Proof.Machine.execWbLaneRepairDone dir lane s
  | .wbRestripeDone dir group => Sys2Proof.Machine.execWbRestripeDone dir group s
  | .tblPcFail stack pc => Sys2Proof.Machine.execTblPcFail stack pc s
  | .tblPcRecopyDone stack pc => Sys2Proof.Machine.execTblPcRecopyDone stack pc s
  | .mashPipeFault pipe => Sys2Proof.Machine.execMashPipeFault pipe s
  | .faultRecordClose record => Sys2Proof.Machine.execFaultRecordClose record s
  | .cntRead vi io => Sys2Proof.Machine.execCntRead vi io s
  | .cntSelect vi io => Sys2Proof.Machine.execCntSelect vi io s
  | .cntMeter vi io => Sys2Proof.Machine.execCntMeter vi io s
  | .cntMeterRead vi io => Sys2Proof.Machine.execCntMeterRead vi io s
  | .cntDescribe vi io => Sys2Proof.Machine.execCntDescribe vi io s
  | .cntWindowBoundary counter => Sys2Proof.Machine.execCntWindowBoundary counter s
  | .meterWindowBoundary port => Sys2Proof.Machine.execMeterWindowBoundary port s
  | .pwrStatus vi io => Sys2Proof.Machine.execPwrStatus vi io s
  | .pwrDomain vi io => Sys2Proof.Machine.execPwrDomain vi io s
  | .pwrGpio vi io => Sys2Proof.Machine.execPwrGpio vi io s
  | .domainPowerGood pd => Sys2Proof.Machine.execDomainPowerGood pd s
  | .domainFault pd cause => Sys2Proof.Machine.execDomainFault pd cause s
  | .domainRetry pd => Sys2Proof.Machine.execDomainRetry pd s
  | .refclkLoss => Sys2Proof.Machine.execRefclkLoss s
  | .refclkRelock inRange => Sys2Proof.Machine.execRefclkRelock inRange s
  | .railUndervoltage rail => Sys2Proof.Machine.execRailUndervoltage rail s
  | .thermalStateEnter source temp => Sys2Proof.Machine.execThermalStateEnter source temp s
  | .thermalStateLeave source temp => Sys2Proof.Machine.execThermalStateLeave source temp s
  | .thermalTrip => Sys2Proof.Machine.execThermalTrip s
  | .hbmThermal stack temp => Sys2Proof.Machine.execHbmThermal stack temp s
  | .gpioEdge pin level => Sys2Proof.Machine.execGpioEdge pin level s
  | .rootpllLock => Sys2Proof.Machine.execRootpllLock s
  | .refclkRelockDone => Sys2Proof.Machine.execRefclkRelockDone s
  | .pulseWidthEnd pin => Sys2Proof.Machine.execPulseWidthEnd pin s
  | .mkaLifetimeExpiry port peer => Sys2Proof.Machine.execMkaLifetimeExpiry port peer s
  | .anchorCut port cut nexts => Sys2Proof.Machine.execAnchorCut port cut nexts s
  | .swapCommitRetry => Sys2Proof.Machine.execSwapCommitRetry s
  | .planeDownAnnounced plane => Sys2Proof.Machine.execPlaneDownAnnounced plane s

end Sys2Proof.Machine
end

