-- ==== Sys2Proof/Machine/Step.lean ====
section
/-! DEFINITION. One step of the block: the command at the front of the queue, or one tick of the 1.25 GHz clock on an empty queue
(assumption log entry 1). -/
namespace Sys2Proof.Machine

/-- The tick of the time engine: INCREMENT is added to TIME (R153), once the engine is powered (step 2 of Table BU-1). -/
def tickTime (s : State) : Tim :=
  if 2 ≤ s.dev.step ∧ ¬ s.dev.inReset then { s.tim with time := s.tim.time + s.tim.increment.zeroExtend 112 } else s.tim

/-- One 0.8 ns tick of the ROOTPLL (R153, R156): the local monotonic counter starts at 0 at cold reset and counts its ticks; before it locks, or while
the device is held in reset, there is none. The link frames of the fabric lanes end in their time (R312), and cells on the
loop paths reach Racking in theirs (R343). -/
def idle (s : State) : State :=
  if s.pwr.rootLocked then
    let s := loopTick (linkTick s)
    { s with mono := s.mono + Config.tick, tim := tickTime s }
  else s

/-- One step. -/
def step (s : State) : Host.Outcome State Fault Refusal :=
  match s.pending with
  | [] => .next (idle s)
  | c :: rest => exec c { s with pending := rest }

/-- The command that a word of spec/opcode_table.json spells, put at the front of the queue; the table gives no row any bits, so no word
spells one and the state is unchanged. -/
def State.withFetchWord (s : State) (nbits w : Nat) : State :=
  match Sys2Proof.decodeTableWord nbits w with
  | some c => { s with pending := c :: s.pending }
  | none => s

end Sys2Proof.Machine
end

