-- ==== Sys2Proof/Safety.lean ====
section
/-! DEFINITION. What a claim about a run speaks of: that the block goes on (no meaning of this model faults or refuses), and which parts of the
state a change may touch. -/
namespace Sys2Proof

/-- The step answers a next state. -/
def Machine.Goes (s : Machine.State) : Prop := ∃ t, Machine.step s = .next t

namespace Machine

/-- The link and firmware state of the host interface, beside its functions' rings and the commands that wait. -/
abbrev Hif.core (h : Hif) : Hif := { h with fns := [], held := [], parked := [], served := none }

/-- The commands and register writes that wait for firmware, and whose turn it is. -/
abbrev Hif.queue (h : Hif) : List HeldWrite × List Parked × Option Nat := (h.held, h.parked, h.served)

/-- The fault log, its next record and what double faults left. -/
abbrev Flt.records (f : Flt) : List FRec × Nat × Nat × List Nat := (f.log, f.nextId, f.doubles, f.dblEventFor)

/-- The fault state beside the log. -/
abbrev Flt.rest (f : Flt) : Flt := { f with log := [], nextId := 0, doubles := 0, dblEventFor := [] }

/-- The parts of the state. In the host interface, the functions (`rings`) and what waits for firmware (`queue`) are parts of their own, in
the time engine the increment, in the tables the live epochs, in the fault state the log. -/
inductive Part where
  | mono | draws | rings | queue | hif | dev | port | frm | incr | tim | epochs | tbl | mash | asa | adm | fab | rack | sch | pair | insts | sec | upd | log | flt
  | cnt | pwr | out | pending
deriving DecidableEq, Repr

/-- A part holds in `t` what it holds in `s`. -/
def Part.same (p : Part) (s t : State) : Prop :=
  match p with
  | .mono => t.mono = s.mono
  | .draws => t.draws = s.draws
  | .rings => t.hif.fns = s.hif.fns
  | .queue => t.hif.queue = s.hif.queue
  | .hif => t.hif.core = s.hif.core
  | .dev => t.dev = s.dev
  | .port => t.port = s.port
  | .frm => t.frm = s.frm
  | .incr => t.tim.increment = s.tim.increment
  | .tim => { t.tim with increment := 0 } = { s.tim with increment := 0 }
  | .epochs => t.tbl.epochs = s.tbl.epochs
  | .tbl => { t.tbl with epochs := [] } = { s.tbl with epochs := [] }
  | .mash => t.mash = s.mash
  | .asa => t.asa = s.asa
  | .adm => t.adm = s.adm
  | .fab => t.fab = s.fab
  | .rack => t.rack = s.rack
  | .sch => t.sch = s.sch
  | .pair => t.pair = s.pair
  | .insts => t.insts = s.insts
  | .sec => t.sec = s.sec
  | .upd => t.upd = s.upd
  | .log => t.flt.records = s.flt.records
  | .flt => t.flt.rest = s.flt.rest
  | .cnt => t.cnt = s.cnt
  | .pwr => t.pwr = s.pwr
  | .out => t.out = s.out
  | .pending => t.pending = s.pending

/-- From `s` to `t` only the listed parts change. -/
structure Changes (ps : List Part) (s t : State) : Prop where
  /-- Every other part is as it was. -/
  same : ∀ p, p ∉ ps → p.same s t

/-! ### Commands of the rings -/

/-- The state a command of function `vi` executes in: its entry is taken from the submission ring (R57, R67). -/
def taken (vi : Nat) (s : State) : State := popSq vi { s with hif := { s.hif with served := some vi } }

/-- The command `op` at the head of the ring of function `vi` starts, its entry being `e`, and no check before execution refuses it. -/
def starts (op vi : Nat) (io : HostIo) (e : Entry) (s : State) : Bool :=
  s.canStart op vi && decide ((s.fn vi).sq.head? = some e)
    && (match cmdInfo op with
      | none => false
      | some c => (preCheck c vi io e (taken vi s)).isNone)

/-- A command that started is concluded with this reply: journaled and posted, and the rings served on (R66, R73); a replicated change of an
ACTIVE unit waits for its journal mark first (R402), a command that waits for its own condition is parked with the reply (R67). -/
def completed (vi : Nat) (io : HostIo) (e : Entry) (r : Reply) : State :=
  conclude ((cmdInfo e.opcode).getD { op := e.opcode }) vi e io.writeOk r

/-! ### What a command may change, and the commands of the rings -/

/-- The parts of the state that a command may change. No command changes the queue of waiting commands. -/
def footprint : Instr → List Part
  | .hifNop .. | .hifIdentify .. | .hifJournalInfo .. | .hifNotifyMask .. | .hifSetCoalesce .. | .devStatus .. | .portStatus ..
  | .frmStatus .. | .timeGet .. | .tblRead .. | .tblDigest .. | .tblStatus .. | .asaRead .. | .asaStatus .. | .admQueueStatus ..
  | .admStatus .. | .fabStatus .. | .schStatus .. | .pairState .. | .journalMarkAck .. | .viStatus .. | .secStatus .. | .secImportPub ..
  | .updStatus .. | .fltStatus .. | .cntRead .. | .cntSelect .. | .cntMeter .. | .cntMeterRead .. | .cntDescribe ..
      => [.rings, .queue, .pair, .cnt, .out]
  | .commandResume .. => [.rings, .queue, .dev, .port, .epochs, .tbl, .adm, .pair, .insts, .log, .cnt, .pwr, .out]
  | .ringCommit .. | .ringDisable .. | .hifSqTailDb .. | .hifCqHeadDb .. | .hifNqHeadDb .. | .commitWaitExpiry ..
      => [.rings, .queue, .cnt, .out]
  | .hifFaultClear .. | .asaShadowRestoreDone .. => [.draws, .rings, .log, .cnt, .out]
  | .hifWinSel .. | .ringAccessFailure .. | .moduleFlag .. => [.rings, .cnt, .out]
  | .winDataLowRead .. => [.draws, .rings, .cnt, .out]
  | .winOvf .. | .cntWindowBoundary .. | .meterWindowBoundary .. => [.cnt]
  | .viPuntDb .. | .viInjDb .. | .injectFetch .. => [.rings, .insts, .cnt, .out]
  | .registerWrite .. | .coalesceDelayExpiry .. => [.rings, .out]
  | .pcieLinkDown => [.hif]
  | .pcieLinkUp .. => [.rings, .queue, .hif, .cnt, .out]
  | .functionLevelReset .. => [.draws, .rings, .queue, .tbl, .insts, .log, .cnt, .out]
  | .maltsterWatchdog => [.draws, .rings, .queue, .hif, .dev, .sec, .log, .cnt, .out]
  | .fwReady ..
      => [.rings, .queue, .hif, .dev, .port, .frm, .tim, .tbl, .adm, .fab, .sch, .pair, .insts, .sec, .upd, .log, .cnt, .pwr, .out]
  | .coldResetAssert | .bcColdReset | .poresetAssert | .railUndervoltage .. | .thermalTrip
      => [.mono, .rings, .queue, .hif, .dev, .port, .frm, .incr, .tim, .epochs, .tbl, .mash, .asa, .adm, .fab, .rack, .sch, .pair, .insts, .sec, .upd, .log, .flt, .cnt, .pwr]
  | .powerOnResetRelease => [.dev, .sec]
  | .kilnVerify .. | .confirmWindowExpiry => [.rings, .queue, .hif, .dev, .sec, .upd, .cnt, .out]
  | .wortBridgeTrainEnd .. => [.rings, .dev, .flt, .cnt, .pwr, .out]
  | .hbmTrainingDone .. => [.draws, .rings, .queue, .dev, .port, .tbl, .asa, .adm, .insts, .log, .cnt, .pwr, .out]
  | .blockResetDone .. => [.rings, .dev, .fab, .log, .cnt, .out]
  | .fullServiceBank0Clear => [.rings, .dev, .asa, .cnt, .pwr, .out]
  | .devService .. => [.rings, .queue, .dev, .port, .tim, .tbl, .adm, .sch, .pair, .insts, .log, .cnt, .out]
  | .devReset ..
      => [.draws, .rings, .queue, .hif, .dev, .port, .tim, .tbl, .mash, .asa, .fab, .rack, .sch, .pair, .sec, .log, .flt, .cnt, .out]
  | .devSetCellarSet .. => [.rings, .queue, .dev, .tbl, .asa, .pair, .sec, .cnt, .out]
  | .devSetBoard .. => [.rings, .queue, .dev, .port, .tim, .fab, .sch, .pair, .sec, .cnt, .out]
  | .moduleInsert .. | .bcHeartbeat | .bcHeartbeatLoss => [.rings, .dev, .cnt, .out]
  | .moduleReady .. | .moduleFault .. | .moduleReadyTimeout .. => [.draws, .rings, .dev, .port, .tim, .sch, .log, .cnt, .out]
  | .moduleRemove .. | .portLanesLocked .. => [.rings, .dev, .port, .tim, .sch, .cnt, .out]
  | .helloSend => [.pair, .out]
  | .helloReceive .. => [.draws, .rings, .queue, .sch, .pair, .cnt, .out]
  | .helloLoss | .divergeEntry .. | .syncComplete => [.rings, .pair, .cnt, .out]
  | .portConfig .. => [.draws, .rings, .queue, .dev, .port, .tim, .adm, .sch, .pair, .sec, .log, .cnt, .pwr, .out]
  | .portAdmin .. | .portMacsecSa .. => [.rings, .queue, .port, .tim, .sch, .pair, .cnt, .out]
  | .portMacsecSecy .. | .secMka .. => [.rings, .queue, .port, .tim, .sch, .pair, .sec, .cnt, .out]
  | .portMacsecRxsc .. | .pairPort .. => [.rings, .queue, .port, .pair, .sec, .cnt, .out]
  | .frmTrib .. | .frmTsiStage .. | .frmProt .. | .frmOhs .. => [.rings, .queue, .frm, .pair, .sec, .cnt, .out]
  | .frmTsiSwap .. => [.rings, .queue, .frm, .pair, .cnt, .out]
  | .lineDefectDetect .. | .lineDefectClear .. | .alignmentHuntCycle .. => [.rings, .port, .frm, .tim, .sch, .cnt, .out]
  | .fecDegradeWindow .. => [.draws, .rings, .port, .frm, .tim, .sch, .cnt, .out]
  | .upDebounceExpiry .. | .downDebounceExpiry .. => [.rings, .port, .tim, .sch, .cnt, .out]
  | .protHoldoffExpiry .. | .waitToRestoreExpiry .. | .tsiSlip .. | .ohsFrame .. => [.rings, .frm, .cnt, .out]
  | .tsiSwapInstant .. => [.rings, .queue, .frm, .sec, .cnt, .out]
  | .lineFrameReceive .. => [.draws, .rings, .port, .tbl, .mash, .sch, .pair, .log, .flt, .cnt, .out]
  | .pfcFrameReceive .. => [.rings, .port, .cnt, .out]
  | .pfcPauseExpiry .. => [.port]
  | .pfcXoffRepeat .. => [.port, .out]
  | .timeConfig .. | .timeStep .. => [.rings, .queue, .tim, .pair, .cnt, .out]
  | .timeSetIncrement .. => [.rings, .queue, .incr, .tim, .pair, .cnt, .out]
  | .timeStepTick => [.rings, .queue, .tim, .sch, .cnt, .out]
  | .timePort .. | .timePulseOut .. | .timePulseIn .. => [.rings, .queue, .tim, .pair, .sec, .cnt, .out]
  | .timeTxTsRead .. | .timeCaptureRead .. => [.rings, .queue, .tim, .pair, .log, .cnt, .out]
  | .pulseOneShotFire .. | .pulsePeriodicEdge .. | .pulseWidthEnd .. => [.tim, .out]
  | .pulseInEdge .. | .probeUnanswered .. => [.rings, .tim, .cnt, .out]
  | .probeSend .. => [.draws, .tim, .out]
  | .pdelayReqReceive .. => [.draws, .out]
  | .pdelayRespReceive .. => [.draws, .rings, .tim, .cnt, .out]
  | .millParseComplete .. => [.rings, .tbl, .mash, .sch, .pair, .log, .cnt, .out]
  | .lookupComplete .. => [.draws, .rings, .tbl, .mash, .asa, .sch, .pair, .log, .flt, .cnt, .out]
  | .lookupTimeout .. | .arrivalSwitchPoint .. => [.rings, .tbl, .mash, .sch, .pair, .cnt, .out]
  | .resultAdmission .. | .noneToken .. | .frameLastCellWrite .. | .reconAnswer .. | .reconQueryTimeout .. | .unsyncedPortRestart ..
      => [.draws, .rings, .queue, .port, .tbl, .mash, .adm, .fab, .pair, .insts, .log, .flt, .cnt, .out]
  | .resolutionTokenApply .. | .hbmMigration .. | .hbmPrefetch .. | .hbmPcFail .. | .hbmStackFail .. | .matcherGrant ..
  | .cellAckTimeout .. => [.draws, .rings, .queue, .port, .tbl, .mash, .adm, .fab, .insts, .log, .flt, .cnt, .out]
  | .trubEccError .. => [.draws, .rings, .tbl, .mash, .adm, .fab, .log, .flt, .cnt, .out]
  | .cacheParityError .. => [.draws, .rings, .mash, .log, .cnt, .out]
  | .cacheSetClear .. => [.mash]
  | .tblStage .. | .tblAbort .. => [.rings, .queue, .tbl, .pair, .cnt, .out]
  | .tblCommit .. | .tblPin .. => [.rings, .queue, .epochs, .tbl, .pair, .cnt, .out]
  | .tblConfig .. => [.rings, .queue, .tbl, .mash, .pair, .sec, .cnt, .out]
  | .tblRaConfig .. => [.rings, .queue, .tbl, .pair, .sec, .cnt, .out]
  | .tblRaFlush .. => [.rings, .queue, .mash, .pair, .cnt, .out]
  | .epochRetire .. => [.rings, .queue, .epochs, .tbl, .cnt, .out]
  | .encapVersionRetire .. => [.rings, .tbl, .cnt, .out]
  | .asaRegion .. => [.rings, .queue, .asa, .pair, .cnt, .pwr, .out]
  | .asaProfile .. | .asaWrite .. | .asaConfig .. => [.rings, .queue, .asa, .pair, .cnt, .out]
  | .asaScrub .. | .asaBankFault .. => [.draws, .rings, .asa, .log, .cnt, .out]
  | .asaHoleRestore .. | .asaThrottleRaise .. | .asaThrottleLower .. => [.rings, .asa, .cnt, .out]
  | .asaBankReloadDone .. => [.rings, .asa, .log, .cnt, .out]
  | .asaRelocationDone .. => [.rings, .asa, .log, .cnt, .pwr, .out]
  | .admProfile .. | .admBind .. | .admClass .. => [.rings, .queue, .adm, .pair, .sec, .cnt, .out]
  | .admPool .. | .admPfc .. | .viModify .. => [.rings, .queue, .port, .adm, .pair, .insts, .sec, .log, .cnt, .out]
  | .sojournSweep .. => [.draws, .rings, .queue, .port, .tbl, .adm, .fab, .insts, .log, .flt, .cnt, .out]
  | .caskScrub .. | .dataCellReceive ..
      => [.draws, .rings, .queue, .port, .tbl, .mash, .adm, .fab, .rack, .sch, .pair, .insts, .log, .flt, .cnt, .out]
  | .hbmPcClear .. => [.rings, .adm, .log, .cnt, .out]
  | .fabPlane .. => [.draws, .rings, .queue, .tbl, .fab, .rack, .sch, .pair, .sec, .log, .flt, .cnt, .pwr, .out]
  | .fabSpmap .. | .fabCt .. => [.rings, .queue, .fab, .pair, .sec, .cnt, .out]
  | .fabConfig .. | .viResetDrainEnd ..
      => [.draws, .rings, .queue, .port, .tbl, .mash, .adm, .fab, .pair, .insts, .sec, .log, .flt, .cnt, .out]
  | .fabLaneTrained .. | .fabLaneUp .. | .formationTimerExpiry .. | .reachabilityTimerExpiry .. | .reachCell ..
      => [.rings, .fab, .cnt, .out]
  | .fabLaneDown .. | .sunListingTimeout .. | .planeDownAnnounced ..
      => [.draws, .rings, .tbl, .fab, .rack, .sch, .pair, .sec, .log, .flt, .cnt, .out]
  | .holdoffExpiry .. | .planeSuspectEnd .. => [.fab]
  | .reachabilitySend => [.fab, .out]
  | .fabLinkFrameReceive ..
      => [.draws, .rings, .queue, .port, .tbl, .mash, .adm, .fab, .rack, .sch, .pair, .insts, .sec, .log, .flt, .cnt, .out]
  | .retentionSend .. | .requestSend .. => [.draws, .rings, .adm, .fab, .flt, .cnt, .out]
  | .creditGrant .. | .streamEntryFree .. => [.draws, .rings, .queue, .port, .tbl, .mash, .adm, .fab, .rack, .insts, .log, .flt, .cnt, .out]
  | .confirmEntry .. | .voidEntry .. | .dupWaitExpiry .. | .memberSilenceExpiry ..
      => [.draws, .rings, .tbl, .fab, .rack, .sch, .pair, .flt, .cnt, .out]
  | .requestEntry .. => [.fab, .rack]
  | .creditEntry .. => [.adm, .rack]
  | .ackEntry .. => [.rings, .tbl, .fab, .rack, .log, .cnt, .out]
  | .holeTimeout .. => [.draws, .rings, .tbl, .fab, .rack, .sch, .pair, .sec, .upd, .log, .flt, .cnt, .out]
  | .schNode .. | .schQmap .. | .schSetShaper .. | .schSetPolicer .. | .schGateList .. | .schPort .. | .schRemark ..
      => [.rings, .queue, .sch, .pair, .sec, .cnt, .out]
  | .schFlush .. => [.draws, .rings, .queue, .tbl, .fab, .sch, .pair, .flt, .cnt, .out]
  | .schedulerSelect .. | .gateListStart .. => [.rings, .sch, .cnt, .out]
  | .lineFrameTransmit .. => [.draws, .rings, .port, .tim, .tbl, .mash, .asa, .fab, .sch, .pair, .sec, .log, .flt, .cnt, .out]
  | .shaperRefill .. | .gateEntryEnd .. => [.sch]
  | .holdDeadline .. => [.draws, .rings, .dev, .port, .tim, .tbl, .fab, .sch, .pair, .flt, .cnt, .out]
  | .pairConfig .. | .pwrGpio .. => [.rings, .queue, .pair, .sec, .cnt, .pwr, .out]
  | .pairSwitch .. | .bungRenew .. => [.draws, .rings, .queue, .fab, .sch, .pair, .flt, .cnt, .out]
  | .pairDraught .. => [.draws, .rings, .queue, .port, .mash, .adm, .pair, .insts, .cnt, .out]
  | .pairPortExchange .. | .bungHandoverAck .. => [.pair]
  | .partnerWaitExpiry | .bungTake => [.queue, .pair, .out]
  | .bungRenewSend | .bungHandover .. | .announceSend | .reconQuery .. => [.draws, .rings, .fab, .pair, .flt, .cnt, .out]
  | .bungAck .. => [.rings, .queue, .sch, .pair, .cnt, .out]
  | .leaseFence => [.rings, .sch, .pair, .cnt, .out]
  | .takeoverComplete => [.draws, .rings, .queue, .port, .tbl, .mash, .adm, .fab, .sch, .pair, .insts, .log, .flt, .cnt, .out]
  | .announceEntry .. => [.draws, .rings, .queue, .tbl, .fab, .rack, .sch, .pair, .log, .flt, .cnt, .out]
  | .markEntry .. => [.draws, .rings, .tbl, .fab, .sch, .pair, .flt, .cnt, .out]
  | .journalEntry ..
      => [.draws, .rings, .queue, .dev, .port, .tim, .epochs, .tbl, .mash, .asa, .adm, .fab, .sch, .pair, .insts, .sec, .upd, .log, .flt, .cnt, .pwr, .out]
  | .anchorRun .. => [.port, .mash, .pair, .out]
  | .draughtPeriod => [.draws, .rings, .port, .mash, .adm, .pair, .insts, .cnt, .out]
  | .peerLaneDown .. => [.draws, .rings, .pair, .sec, .log, .cnt, .out]
  | .peerLaneUp .. => [.rings, .pair, .log, .cnt, .out]
  | .viCreate .. => [.rings, .queue, .pair, .insts, .sec, .cnt, .out]
  | .viDestroy .. | .viReset .. => [.rings, .queue, .tbl, .pair, .insts, .cnt, .out]
  | .viQueue .. => [.rings, .queue, .pair, .insts, .cnt, .out]
  | .puntDeliver .. => [.rings, .insts, .log, .cnt, .out]
  | .injectReadDone .. => [.rings, .queue, .mash, .insts, .cnt, .out]
  | .secSpdm .. | .secDebug .. => [.draws, .rings, .queue, .pair, .sec, .cnt, .out]
  | .secKeyImport .. | .secKeyDelete .. | .secLink .. | .secTrust .. | .secOwnerCert .. => [.rings, .queue, .pair, .sec, .cnt, .out]
  | .secZeroize .. => [.rings, .queue, .dev, .pair, .sec, .cnt, .out]
  | .linkHandshakeMessage .. | .oldKeySlotExpiry .. => [.rings, .sec, .cnt, .out]
  | .rekeyIntervalExpiry .. | .handshakeRetry .. | .mkaHello .. => [.sec, .out]
  | .mkpduReceive .. | .mkaLifetimeExpiry .. => [.draws, .rings, .port, .tim, .sch, .sec, .cnt, .out]
  | .updOpen .. => [.rings, .queue, .pair, .upd, .cnt, .out]
  | .updChunk .. => [.draws, .rings, .queue, .pair, .upd, .log, .cnt, .out]
  | .updAbort .. | .updActivate .. => [.rings, .queue, .hif, .dev, .pair, .sec, .upd, .cnt, .out]
  | .updConfirm .. => [.draws, .rings, .queue, .pair, .sec, .upd, .log, .cnt, .out]
  | .updSwap => [.upd]
  | .swapWaitExpiry | .swapCommitRetry => [.rings, .epochs, .tbl, .pair, .upd, .cnt, .out]
  | .linkBankSwapDone => [.rings, .upd, .cnt, .out]
  | .fltLogRead .. => [.rings, .queue, .pair, .log, .cnt, .out]
  | .fltInject ..
      => [.draws, .rings, .queue, .port, .tbl, .mash, .asa, .adm, .fab, .rack, .sch, .pair, .insts, .sec, .log, .flt, .cnt, .out]
  | .wbFlitReceive .. => [.rings, .flt, .cnt, .out]
  | .wbLaneFail .. | .wbRestripeDone .. | .tblPcFail .. => [.draws, .rings, .log, .flt, .cnt, .out]
  | .wbLaneRepairDone .. | .tblPcRecopyDone .. => [.rings, .log, .flt, .cnt, .out]
  | .mashPipeFault .. => [.draws, .rings, .dev, .mash, .log, .cnt, .out]
  | .faultRecordClose .. => [.log]
  | .pwrStatus .. => [.draws, .rings, .queue, .pair, .cnt, .out]
  | .pwrDomain .. => [.rings, .queue, .dev, .port, .adm, .pair, .insts, .log, .cnt, .pwr, .out]
  | .domainPowerGood .. => [.draws, .rings, .dev, .tbl, .asa, .upd, .log, .cnt, .pwr, .out]
  | .domainFault ..
      => [.mono, .draws, .rings, .queue, .hif, .dev, .port, .frm, .incr, .tim, .epochs, .tbl, .mash, .asa, .adm, .fab, .rack, .sch, .pair, .insts, .sec, .upd, .log, .flt, .cnt, .pwr, .out]
  | .domainRetry .. => [.draws, .rings, .log, .cnt, .pwr, .out]
  | .refclkLoss | .refclkRelock .. | .thermalStateEnter .. | .thermalStateLeave .. | .gpioEdge .. | .refclkRelockDone
      => [.rings, .cnt, .pwr, .out]
  | .hbmThermal .. => [.draws, .rings, .queue, .dev, .port, .tbl, .mash, .adm, .fab, .insts, .log, .flt, .cnt, .pwr, .out]
  | .rootpllLock => [.dev, .pwr]
  | .anchorCut .. => [.rings, .fab, .pair, .cnt, .out]

/-- A command that firmware takes from a submission ring (Table RF-1): its opcode, its function and what the host gives with it. -/
def ringCommand : Instr → Option (Nat × Nat × HostIo)
  | .hifNop vi io => some (0x0100, vi, io)
  | .hifIdentify vi io => some (0x0101, vi, io)
  | .hifJournalInfo vi io => some (0x0102, vi, io)
  | .hifNotifyMask vi io => some (0x0103, vi, io)
  | .hifSetCoalesce vi io => some (0x0104, vi, io)
  | .devStatus vi io => some (0x0201, vi, io)
  | .devService vi io => some (0x0202, vi, io)
  | .devReset vi io => some (0x0203, vi, io)
  | .devSetCellarSet vi io => some (0x0204, vi, io)
  | .devSetBoard vi io => some (0x0205, vi, io)
  | .portConfig vi io => some (0x0301, vi, io)
  | .portAdmin vi io => some (0x0302, vi, io)
  | .portStatus vi io => some (0x0303, vi, io)
  | .portMacsecSecy vi io => some (0x0304, vi, io)
  | .portMacsecRxsc vi io => some (0x0305, vi, io)
  | .portMacsecSa vi io => some (0x0306, vi, io)
  | .frmTrib vi io => some (0x0401, vi, io)
  | .frmTsiStage vi io => some (0x0402, vi, io)
  | .frmTsiSwap vi io => some (0x0403, vi, io)
  | .frmProt vi io => some (0x0404, vi, io)
  | .frmOhs vi io => some (0x0405, vi, io)
  | .frmStatus vi io => some (0x0406, vi, io)
  | .timeConfig vi io => some (0x0501, vi, io)
  | .timeSetIncrement vi io => some (0x0502, vi, io)
  | .timeStep vi io => some (0x0503, vi, io)
  | .timeGet vi io => some (0x0504, vi, io)
  | .timePort vi io => some (0x0505, vi, io)
  | .timeTxTsRead vi io => some (0x0506, vi, io)
  | .timePulseOut vi io => some (0x0507, vi, io)
  | .timePulseIn vi io => some (0x0508, vi, io)
  | .timeCaptureRead vi io => some (0x0509, vi, io)
  | .tblStage vi io => some (0x0601, vi, io)
  | .tblCommit vi io => some (0x0602, vi, io)
  | .tblAbort vi io => some (0x0603, vi, io)
  | .tblRead vi io => some (0x0604, vi, io)
  | .tblPin vi io => some (0x0605, vi, io)
  | .tblDigest vi io => some (0x0606, vi, io)
  | .tblStatus vi io => some (0x0607, vi, io)
  | .tblConfig vi io => some (0x0608, vi, io)
  | .tblRaConfig vi io => some (0x0609, vi, io)
  | .tblRaFlush vi io => some (0x060A, vi, io)
  | .asaRegion vi io => some (0x0701, vi, io)
  | .asaProfile vi io => some (0x0702, vi, io)
  | .asaWrite vi io => some (0x0703, vi, io)
  | .asaRead vi io => some (0x0704, vi, io)
  | .asaStatus vi io => some (0x0705, vi, io)
  | .asaConfig vi io => some (0x0706, vi, io)
  | .admProfile vi io => some (0x0801, vi, io)
  | .admBind vi io => some (0x0802, vi, io)
  | .admClass vi io => some (0x0803, vi, io)
  | .admPool vi io => some (0x0804, vi, io)
  | .admPfc vi io => some (0x0805, vi, io)
  | .admQueueStatus vi io => some (0x0806, vi, io)
  | .admStatus vi io => some (0x0807, vi, io)
  | .fabPlane vi io => some (0x0901, vi, io)
  | .fabSpmap vi io => some (0x0902, vi, io)
  | .fabConfig vi io => some (0x0903, vi, io)
  | .fabCt vi io => some (0x0904, vi, io)
  | .fabStatus vi io => some (0x0905, vi, io)
  | .schNode vi io => some (0x0A01, vi, io)
  | .schQmap vi io => some (0x0A02, vi, io)
  | .schSetShaper vi io => some (0x0A03, vi, io)
  | .schSetPolicer vi io => some (0x0A04, vi, io)
  | .schGateList vi io => some (0x0A05, vi, io)
  | .schPort vi io => some (0x0A06, vi, io)
  | .schRemark vi io => some (0x0A07, vi, io)
  | .schFlush vi io => some (0x0A08, vi, io)
  | .schStatus vi io => some (0x0A09, vi, io)
  | .pairConfig vi io => some (0x0B01, vi, io)
  | .pairPort vi io => some (0x0B02, vi, io)
  | .pairState vi io => some (0x0B03, vi, io)
  | .pairSwitch vi io => some (0x0B04, vi, io)
  | .pairDraught vi io => some (0x0B05, vi, io)
  | .viCreate vi io => some (0x0C01, vi, io)
  | .viModify vi io => some (0x0C02, vi, io)
  | .viDestroy vi io => some (0x0C03, vi, io)
  | .viReset vi io => some (0x0C04, vi, io)
  | .viQueue vi io => some (0x0C05, vi, io)
  | .viStatus vi io => some (0x0C06, vi, io)
  | .secSpdm vi io => some (0x0D01, vi, io)
  | .secStatus vi io => some (0x0D02, vi, io)
  | .secImportPub vi io => some (0x0D03, vi, io)
  | .secKeyImport vi io => some (0x0D04, vi, io)
  | .secKeyDelete vi io => some (0x0D05, vi, io)
  | .secMka vi io => some (0x0D06, vi, io)
  | .secLink vi io => some (0x0D07, vi, io)
  | .secTrust vi io => some (0x0D08, vi, io)
  | .secOwnerCert vi io => some (0x0D09, vi, io)
  | .secDebug vi io => some (0x0D0A, vi, io)
  | .secZeroize vi io => some (0x0D0B, vi, io)
  | .updOpen vi io => some (0x0E01, vi, io)
  | .updChunk vi io => some (0x0E02, vi, io)
  | .updStatus vi io => some (0x0E03, vi, io)
  | .updAbort vi io => some (0x0E04, vi, io)
  | .updActivate vi io => some (0x0E05, vi, io)
  | .updConfirm vi io => some (0x0E06, vi, io)
  | .fltStatus vi io => some (0x0F01, vi, io)
  | .fltLogRead vi io => some (0x0F02, vi, io)
  | .fltInject vi io => some (0x0F03, vi, io)
  | .cntRead vi io => some (0x1001, vi, io)
  | .cntSelect vi io => some (0x1002, vi, io)
  | .cntMeter vi io => some (0x1003, vi, io)
  | .cntMeterRead vi io => some (0x1004, vi, io)
  | .cntDescribe vi io => some (0x1005, vi, io)
  | .pwrStatus vi io => some (0x1101, vi, io)
  | .pwrDomain vi io => some (0x1102, vi, io)
  | .pwrGpio vi io => some (0x1103, vi, io)
  | .commandResume .. | .ringCommit .. | .ringDisable .. | .hifSqTailDb .. | .hifCqHeadDb .. | .hifNqHeadDb .. | .hifFaultClear ..
  | .hifWinSel .. | .winDataLowRead .. | .winOvf .. | .viPuntDb .. | .viInjDb .. | .registerWrite .. | .coalesceDelayExpiry ..
  | .pcieLinkDown | .pcieLinkUp .. | .ringAccessFailure .. | .functionLevelReset .. | .maltsterWatchdog | .fwReady .. | .coldResetAssert
  | .bcColdReset | .powerOnResetRelease | .poresetAssert | .kilnVerify .. | .wortBridgeTrainEnd .. | .hbmTrainingDone ..
  | .blockResetDone .. | .fullServiceBank0Clear | .moduleInsert .. | .moduleReady .. | .moduleFault .. | .moduleRemove ..
  | .moduleFlag .. | .moduleReadyTimeout .. | .bcHeartbeat | .bcHeartbeatLoss | .helloSend | .helloReceive .. | .helloLoss
  | .lineDefectDetect .. | .lineDefectClear .. | .fecDegradeWindow .. | .alignmentHuntCycle .. | .portLanesLocked ..
  | .upDebounceExpiry .. | .downDebounceExpiry .. | .protHoldoffExpiry .. | .waitToRestoreExpiry .. | .tsiSwapInstant .. | .tsiSlip ..
  | .ohsFrame .. | .lineFrameReceive .. | .pfcFrameReceive .. | .pfcPauseExpiry .. | .pfcXoffRepeat .. | .timeStepTick
  | .pulseOneShotFire .. | .pulsePeriodicEdge .. | .pulseInEdge .. | .probeSend .. | .pdelayReqReceive .. | .pdelayRespReceive ..
  | .probeUnanswered .. | .millParseComplete .. | .lookupComplete .. | .lookupTimeout .. | .resultAdmission .. | .noneToken ..
  | .frameLastCellWrite .. | .resolutionTokenApply .. | .trubEccError .. | .cacheParityError .. | .cacheSetClear ..
  | .commitWaitExpiry .. | .epochRetire .. | .encapVersionRetire .. | .asaShadowRestoreDone .. | .asaScrub .. | .asaHoleRestore ..
  | .asaBankFault .. | .asaBankReloadDone .. | .asaRelocationDone .. | .asaThrottleRaise .. | .asaThrottleLower .. | .sojournSweep ..
  | .hbmMigration .. | .hbmPrefetch .. | .caskScrub .. | .hbmPcFail .. | .hbmPcClear .. | .hbmStackFail .. | .fabLaneTrained ..
  | .fabLaneDown .. | .fabLaneUp .. | .formationTimerExpiry .. | .reachabilityTimerExpiry .. | .holdoffExpiry .. | .reachCell ..
  | .sunListingTimeout .. | .reachabilitySend | .fabLinkFrameReceive .. | .matcherGrant .. | .retentionSend .. | .requestSend ..
  | .creditGrant .. | .dataCellReceive .. | .confirmEntry .. | .voidEntry .. | .requestEntry .. | .creditEntry .. | .ackEntry ..
  | .cellAckTimeout .. | .planeSuspectEnd .. | .holeTimeout .. | .dupWaitExpiry .. | .memberSilenceExpiry .. | .streamEntryFree ..
  | .schedulerSelect .. | .lineFrameTransmit .. | .shaperRefill .. | .gateListStart .. | .gateEntryEnd .. | .holdDeadline ..
  | .pairPortExchange .. | .partnerWaitExpiry | .bungRenewSend | .bungRenew .. | .bungAck .. | .bungHandover .. | .bungHandoverAck ..
  | .leaseFence | .bungTake | .takeoverComplete | .announceSend | .announceEntry .. | .divergeEntry .. | .reconQuery .. | .reconAnswer ..
  | .reconQueryTimeout .. | .arrivalSwitchPoint .. | .markEntry .. | .journalEntry .. | .journalMarkAck .. | .anchorRun ..
  | .syncComplete | .unsyncedPortRestart .. | .draughtPeriod | .peerLaneDown .. | .peerLaneUp .. | .viResetDrainEnd .. | .puntDeliver ..
  | .injectFetch .. | .injectReadDone .. | .linkHandshakeMessage .. | .rekeyIntervalExpiry .. | .oldKeySlotExpiry .. | .handshakeRetry ..
  | .mkpduReceive .. | .mkaHello .. | .updSwap | .swapWaitExpiry | .linkBankSwapDone | .confirmWindowExpiry | .wbFlitReceive ..
  | .wbLaneFail .. | .wbLaneRepairDone .. | .wbRestripeDone .. | .tblPcFail .. | .tblPcRecopyDone .. | .mashPipeFault ..
  | .faultRecordClose .. | .cntWindowBoundary .. | .meterWindowBoundary .. | .domainPowerGood .. | .domainFault .. | .domainRetry ..
  | .refclkLoss | .refclkRelock .. | .railUndervoltage .. | .thermalStateEnter .. | .thermalStateLeave .. | .thermalTrip | .hbmThermal ..
  | .gpioEdge .. | .rootpllLock | .refclkRelockDone | .pulseWidthEnd .. | .mkaLifetimeExpiry .. | .anchorCut .. | .swapCommitRetry
  | .planeDownAnnounced .. => none

/-! ### The invariant -/

/-- What every step keeps: at most four epochs are live and none but the newest is CURRENT (R196, Table PL-6), and INCREMENT lies within
±500 ppm of its nominal value (R154). -/
structure Inv (s : State) : Prop where
  /-- At most four live epochs. -/
  live : s.tbl.epochs.length ≤ 4
  /-- Only the newest is CURRENT. -/
  current : ∀ e, e ∈ s.tbl.epochs.dropLast → e.st ≠ .current
  /-- At most 500 ppm above nominal. -/
  fast : (s.tim.increment.toNat - 0xCCCCCCCCCCCD) * 2000 ≤ 0xCCCCCCCCCCCD
  /-- At most 500 ppm below nominal. -/
  slow : (0xCCCCCCCCCCCD - s.tim.increment.toNat) * 2000 ≤ 0xCCCCCCCCCCCD

end Machine
end Sys2Proof
end

