-- ==== Sys2Proof/Certificates/Slice0/Obligations.lean ====
section
/-! DEFINITION. The statements about the model, from the numbered rules of spec/. -/

open Sys2Proof Sys2Proof.Machine

/-- Commands of family HIF, each at the head of its function's ring, when no check refuses it (R66): the completion and, for the two that
write, the mask and the coalescing settings of the issuing function alone (R72, R88, Table HM-27). -/
def Obligations.HifCommandsComplete : Prop :=
  ∀ (vi : Nat) (io : HostIo) (e : Entry) (s : State),
    (starts 0x0100 vi io e s = true → exec (.hifNop vi io) s = .next (completed vi io e (.read (taken vi s) [] [])))
  ∧ (starts 0x0101 vi io e s = true → ∃ d, exec (.hifIdentify vi io) s = .next (completed vi io e (.read (taken vi s) [] d))
      ∧ d.length = 64 ∧ (putLe 2 0x2560 ++ putLe 1 0xB0 ++ putLe 1 (b2n Config.gradeAE) ++ putLe 4 s.hif.fwVersion) <+: d)
  ∧ (starts 0x0102 vi io e s = true → exec (.hifJournalInfo vi io) s = .next (completed vi io e (.read (taken vi s)
      (putLe 8 ((s.fn vi).low.getD 0) ++ putLe 4 (s.fn vi).journal.length) [])))
  ∧ (starts 0x0103 vi io e s = true → exec (.hifNotifyMask vi io) s = .next (completed vi io e (.ok
      ((taken vi s).modFn vi (fun f => { f with mask := BitVec.ofNat 32 (e.p 24 4) })))))
  ∧ (starts 0x0104 vi io e s = true → exec (.hifSetCoalesce vi io) s = .next (completed vi io e (.ok
      ((taken vi s).modFn vi (fun f => { f with cqCount := e.p 24 2, cqDelay := e.p 26 2, nqCount := e.p 28 2, nqDelay := e.p 30 2 })))))

/-- The direct registers, written while the host reaches the function: a ring commit from IDLE with a valid set starts the rings (R54), a
disable drains running rings, which go IDLE at once when nothing is unfinished (R56), and the doorbells submit and free slots (R57–R59). -/
def Obligations.RingRegistersComplete : Prop :=
  ∀ (vi index : Nat) (slots : List Entry) (s : State), s.hostReach vi = true → s.accepting = true →
    ((s.fn vi).ring = .idle → (s.fn vi).shadow.valid = true →
      exec (.ringCommit vi) s = .next (flushNotifs (s.fn vi).heldN.length vi (s.modFn vi (fun f => { f with
        active := (s.fn vi).shadow, ring := .running, sq := [], sqHead := 0, sqTail := 0, cqTail := 0, cqPhase := true, cqHead := 0,
        cq := [], nqTail := 0, nqPhase := true, nqHead := 0, nq := [] }))))
  ∧ ((s.fn vi).ring = .running → (s.fn vi).heldC = [] → s.hif.parked.all (fun p => p.vi != vi) = true → ∃ t,
      exec (.ringDisable vi) s = .next t ∧ (t.fn vi).ring = .idle ∧ (t.fn vi).sq = [] ∧ (t.fn vi).cq = (s.fn vi).cq
        ∧ (t.fn vi).nq = (s.fn vi).nq ∧ Changes [.rings] s t)
  ∧ ((s.fn vi).live = true → index < 4096 → index < ringEntries (s.fn vi).active.sqSize → (s.fn vi).sqTail ≤ index →
      slots.length = index - (s.fn vi).sqTail →
      exec (.hifSqTailDb vi index slots) s =
        .next (s.modFn vi (fun f => { f with sq := f.sq ++ slots, sqTail := index })).settled)
  ∧ ((s.fn vi).live = true → index < 4096 → index < ringEntries (s.fn vi).active.cqSize → (s.fn vi).cqHead ≤ index →
      exec (.hifCqHeadDb vi index) s =
        .next (s.modFn vi (fun f => { f with cq := f.cq.drop (index - (s.fn vi).cqHead), cqHead := index })).settled)
  ∧ ((s.fn vi).live = true → index < 4096 → index < ringEntries (s.fn vi).active.nqSize → (s.fn vi).nqHead ≤ index →
      exec (.hifNqHeadDb vi index) s =
        .next (flushNotifs (s.fn vi).heldN.length vi (s.modFn vi (fun f => { f with nq := f.nq.drop (index - (s.fn vi).nqHead), nqHead := index }))))

/-- Every write of the other direct registers of a function and every read of a WIN_DATA low word. HIF_FAULT clears the bits written 1, and no
others (R15, Table HM-15); WIN_SEL takes the selection and counts a denied one (R83, R84); a low word returns the value and latches its high
half (R518); WIN_OVF clears the flags of the values written 1 of a valid selection and does nothing otherwise (R520); the shadow registers
keep what their fields hold of a write (R54), a vector that a write of its MSI-X word unmasks while it is pending is signalled (R49; the words
themselves are as PCIe has them, assumption log entry 123), a write whose byte enables are not all set is ignored (R557), and while the
function is out of reach nothing happens (R52). -/
def Obligations.DirectRegistersComplete : Prop :=
  ∀ (vi off v : Nat) (value : Word) (allBytes : Bool) (s : State),
    (s.hostReach vi = true →
      exec (.hifFaultClear vi value) s = .next (s.modFn vi (fun f => { f with fault := f.fault &&& ~~~ (value &&& 0x3E) }))
    ∧ (s.winDenied vi (value &&& 0x00FFFFFF) = false → exec (.hifWinSel vi value) s =
        .next (s.modFn vi (fun f => { f with winSel := value &&& 0x00FFFFFF })))
    ∧ (s.winDenied vi (value &&& 0x00FFFFFF) = true → exec (.hifWinSel vi value) s =
        .next (count Cn.hifWinDenied vi 1 (s.modFn vi (fun f => { f with winSel := value &&& 0x00FFFFFF }))))
    ∧ (∀ u, u = (if s.winValid vi (s.fn vi).winSel then s.riseCounts (winBank (s.fn vi).winSel) (winChannel (s.fn vi).winSel) v else s) →
        v < 16 → exec (.winDataLowRead vi v) s = .next ((u.drawn.modFn vi (fun f => { f with
          latch := some (v, BitVec.ofNat 32 (u.winShown vi v / 2 ^ 32)) })).emit
          (.readAnswer vi (0x2100 + 8 * v) (BitVec.ofNat 32 (u.winShown vi v % 2 ^ 32)))))
    ∧ (16 ≤ v → exec (.winDataLowRead vi v) s = .next s)
    ∧ (s.winValid vi (s.fn vi).winSel = true → exec (.winOvf vi value) s = .next { s with cnt := { s.cnt with
        ovf := s.cnt.ovf.filter (fun k => (bitsSet value.toNat 16).all (fun i =>
          (s.winCounters (winBank (s.fn vi).winSel) (winChannel (s.fn vi).winSel) i).all (fun c => decide (k ≠ counterKey c.1 c.2)))) } })
    ∧ (s.winValid vi (s.fn vi).winSel = false → exec (.winOvf vi value) s = .next s)
    ∧ exec (.registerWrite vi 0x40 value true) s = .next (s.modFn vi (fun f => { f with shadow := { f.shadow with sqLo := value &&& 0xFFFFF000 } }))
    ∧ exec (.registerWrite vi 0x44 value true) s = .next (s.modFn vi (fun f => { f with shadow := { f.shadow with sqHi := value } }))
    ∧ exec (.registerWrite vi 0x48 value true) s = .next (s.modFn vi (fun f => { f with shadow := { f.shadow with sqSize := value &&& 0xF } }))
    ∧ exec (.registerWrite vi 0x50 value true) s = .next (s.modFn vi (fun f => { f with shadow := { f.shadow with cqLo := value &&& 0xFFFFF000 } }))
    ∧ exec (.registerWrite vi 0x54 value true) s = .next (s.modFn vi (fun f => { f with shadow := { f.shadow with cqHi := value } }))
    ∧ exec (.registerWrite vi 0x58 value true) s = .next (s.modFn vi (fun f => { f with shadow := { f.shadow with cqSize := value &&& 0xF } }))
    ∧ exec (.registerWrite vi 0x60 value true) s = .next (s.modFn vi (fun f => { f with shadow := { f.shadow with nqLo := value &&& 0xFFFFF000 } }))
    ∧ exec (.registerWrite vi 0x64 value true) s = .next (s.modFn vi (fun f => { f with shadow := { f.shadow with nqHi := value } }))
    ∧ exec (.registerWrite vi 0x68 value true) s = .next (s.modFn vi (fun f => { f with shadow := { f.shadow with nqSize := value &&& 0xF } }))
    ∧ (∀ i t, i < 16 → t = s.modFn vi (fun f => { f with
          msix := f.msix.set i (if i % 4 = 0 then value &&& 0xFFFFFFFC else if i % 4 = 3 then value &&& 1 else value) }) →
        exec (.registerWrite vi (0x4000 + 4 * i) value true) s = .next
          (if (t.fn vi).pba.getLsbD (i / 4) && !(t.fn vi).masked (i / 4)
           then (t.modFn vi (fun f => { f with pba := f.pba &&& ~~~ (BitVec.ofNat 32 (2 ^ (i / 4))) })).emit (.msix vi (i / 4)) else t))
    ∧ (off ∉ [0x40, 0x44, 0x48, 0x50, 0x54, 0x58, 0x60, 0x64, 0x68] → (∀ i, i < 16 → off ≠ 0x4000 + 4 * i) → ∃ t,
        exec (.registerWrite vi off value true) s = .next t ∧ (∀ w, t.fn w = s.fn w) ∧ Changes [.rings] s t)
    ∧ exec (.registerWrite vi off value false) s = .next s)
  ∧ (s.hostReach vi = false → ∀ i ∈ [Instr.hifFaultClear vi value, .hifWinSel vi value, .winDataLowRead vi v, .winOvf vi value,
      .registerWrite vi off value allBytes], exec i s = .next s)

/-- The doorbells of the data-path queues submit the buffers and entries up to the new tail (R434, R435). -/
def Obligations.QueueDoorbellsComplete : Prop :=
  ∀ (vi q index : Nat) (s : State), s.hostReach vi = true → (s.inst vi).st ≠ .resetting → index < 4096 →
    (∀ slots : List PuntBuf, (s.puntQueueOf vi q).enabled = true → index < (s.puntQueueOf vi q).size →
      slots.length = (s.puntQueueOf vi q).gap index → ∃ t, exec (.viPuntDb vi q index slots) s = .next t
        ∧ (t.puntQueueOf vi q).tail = index ∧ (t.puntQueueOf vi q).bufs = (s.puntQueueOf vi q).bufs ++ slots ∧ Changes [.insts] s t)
  ∧ (∀ slots : List InjSlot, (s.injQueueOf vi q).enabled = true → index < (s.injQueueOf vi q).size →
      slots.length = (s.injQueueOf vi q).gap index → ∃ t, exec (.viInjDb vi q index slots) s = .next t
        ∧ (t.injQueueOf vi q).tail = index ∧ (t.injQueueOf vi q).slots = (s.injQueueOf vi q).slots ++ slots ∧ Changes [.insts] s t)

/-- Events of the PCIe link and of the rings (R52, R60, R67, R88). -/
def Obligations.PcieEventsComplete : Prop :=
  ∀ s : State,
    (∀ vi vec n t0, mget (s.fn vi).sig vec = some (n, t0) → s.due (t0 + Config.us ((s.fn vi).coalesce vec).2) = true →
      ((s.fn vi).masked vec = false →
        exec (.coalesceDelayExpiry vi vec) s = .next ((s.modFn vi (fun f => { f with sig := mdel f.sig vec })).emit (.msix vi vec)))
      ∧ ((s.fn vi).masked vec = true →
        exec (.coalesceDelayExpiry vi vec) s = .next ((s.modFn vi (fun f => { f with sig := mdel f.sig vec })).modFn vi (fun f => { f with
          pba := f.pba ||| BitVec.ofNat 32 (2 ^ vec) }))))
  ∧ (s.hif.linkUp = true → s.domOn 2 = true →
      exec .pcieLinkDown s = .next { s with hif := { s.hif with linkUp := false, linkDownAt := s.mono } })
  ∧ (∀ dataOk, s.hif.linkUp = false → s.domOn 2 = true → ∃ t, exec (.pcieLinkUp dataOk) s = .next t
      ∧ Changes [.rings, .queue, .cnt, .out] { s with hif := { s.hif with linkUp := true } } t)
  ∧ (∀ vi, (s.fn vi).live = true → s.hostReach vi = true → exec (.ringAccessFailure vi .cq) s =
      .next (count Cn.hifRingFaults vi 1 (ringFault vi 2 [0] (s.modFn vi (fun f => { f with ring := .halted })))))

/-- The command parked first whose wait has ended resumes at a command boundary, whatever it waited for (R67), and completes with what it was
parked with: a replicated one at its mark (R402), a commit that finds an epoch slot or ends its wait (R198), a command whose effect the bulk copy
replaced (R79), a buffer stack switched off once it has drained (R549), and every other one (a reset's drain, a queue's reads, a domain, a step, a
swap). Which of several resumes first is the model's choice (assumption log entry 129). A function-level reset returns the registers of its
function to reset, keeps its journal, drains its rings (all rings for VI0), and resets its instance (R51, Table RF-7). -/
def Obligations.ResumeAndFunctionResetComplete : Prop :=
  ∀ (vi : Nat) (s : State),
    (∀ p u c, s.hif.parked.find? (fun p => p.ready) = some p → p.vi = vi → s.accepting = true → s.blocked = false →
      u = { s with hif := { s.hif with parked := s.hif.parked.filter (fun q => q.vi != vi) } } → c = (cmdInfo p.entry.opcode).getD { op := 0 } →
      (∀ n, p.wait = .mark n → exec (.commandResume vi) s = .next (finish vi p.entry p.writeOk (p.reply u)).settled)
      ∧ (∀ d, p.wait = .epochSlot d → s.tbl.epochs.length < 4 → exec (.commandResume vi) s = .next (conclude c vi p.entry p.writeOk (commitNow vi u)))
      ∧ (∀ d, p.wait = .epochSlot d → 4 ≤ s.tbl.epochs.length → d ≤ s.mono →
          exec (.commandResume vi) s = .next (conclude c vi p.entry p.writeOk (epochFull u)))
      ∧ (∀ d, p.wait = .epochSlot d → 4 ≤ s.tbl.epochs.length → s.mono < d → exec (.commandResume vi) s = .next
          { u with hif := { u.hif with parked := u.hif.parked ++ [{ vi := vi, entry := p.entry, writeOk := p.writeOk, wait := .epochSlot d }] } })
      ∧ (p.wait = .epochFull → exec (.commandResume vi) s = .next (finish vi p.entry p.writeOk (epochFull u)).settled)
      ∧ (∀ j, p.wait = .bulkCopy → (s.fn vi).journaled p.entry.cmdId = some j →
          exec (.commandResume vi) s = .next (answer vi p.entry j.compl u).settled)
      ∧ (p.wait = .bulkCopy → (s.fn vi).journaled p.entry.cmdId = none →
          exec (.commandResume vi) s = .next (finish vi p.entry p.writeOk (p.reply u)).settled)
      ∧ (∀ b, p.wait = .stackDrain b → exec (.commandResume vi) s = .next (conclude c vi p.entry p.writeOk (p.reply (stackOff b u))))
      ∧ ((∃ v, p.wait = .drain v ∨ (∃ q, p.wait = .injectReads v q) ∨ p.wait = .domainOn v) ∨ p.wait = .stepTick ∨ p.wait = .tsiSwap →
          exec (.commandResume vi) s = .next (conclude c vi p.entry p.writeOk (p.reply u))))
  ∧ (s.hif.parked.find? (fun p => p.ready) = none ∨ s.accepting = false ∨ s.blocked = true → exec (.commandResume vi) s = .next s)
  ∧ (∀ u, u = disableRings vi (s.modFn vi resetRegs) → s.hostReach vi = true →
      (vi ≠ 0 → (s.inst vi).st ≠ .active → exec (.functionLevelReset vi) s = .next u)
      ∧ (vi ≠ 0 → (s.inst vi).st = .active → ∃ t, exec (.functionLevelReset vi) s = .next t ∧ t = startReset vi 0 false false u
          ∧ (t.inst vi).st = .resetting ∧ (t.inst vi).epoch = ((s.inst vi).epoch + 1) % 256)
      ∧ (vi = 0 → exec (.functionLevelReset vi) s = .next (foldS (List.range 64) (s.modFn 0 resetRegs) disableRings))
      ∧ (u.fn vi).shadow = {} ∧ (u.fn vi).fault = 0 ∧ (u.fn vi).winSel = 0 ∧ (u.fn vi).latch = none ∧ (u.fn vi).mask = 0x3FFFE
      ∧ (u.fn vi).cqCount = 1 ∧ (u.fn vi).cqDelay = 0 ∧ (u.fn vi).nqCount = 1 ∧ (u.fn vi).nqDelay = 0
      ∧ (u.fn vi).journal = (s.fn vi).journal ∧ (∀ v, v ≠ vi → u.fn v = s.fn v) ∧ Changes [.rings, .queue] s u
      ∧ (s.accepting = true → (s.fn vi).ring = .idle → (u.fn vi).ring = .idle)
      ∧ (s.accepting = true → (s.fn vi).ring = .halted → (u.fn vi).ring = .idle ∧ (u.fn vi).sq = [])
      ∧ (s.accepting = true → (s.fn vi).ring = .running → (s.fn vi).heldC = [] → s.hif.parked.all (fun p => p.vi != vi) = true →
          (u.fn vi).ring = .idle ∧ (u.fn vi).sq = [])
      ∧ (s.accepting = true → (s.fn vi).ring = .running → s.hif.parked.any (fun p => p.vi == vi) = true → (u.fn vi).ring = .draining)
      ∧ (s.accepting = false → u.hif.held = s.hif.held ++ [.disable vi]))
  ∧ (s.hostReach vi = false → exec (.functionLevelReset vi) s = .next s)

/-- Firmware starts: the watchdog clears FW_READY and ROM verifies the image again (R97, Table BU-3). Started firmware sets FW_READY: a cold start
enters INIT with step 4 of Table BU-1, with the settings of the copy in use or the defaults (R94, R98); a warm one keeps the modes of the device
(R76). A trial that cannot use the retained state or the settings falls back (R490). -/
def Obligations.FirmwareRestartsComplete : Prop :=
  ∀ s : State,
    (s.hif.fwReady = true ∨ s.dev.boot = 2 → ∃ t, exec .maltsterWatchdog s = .next t ∧ t.hif.fwReady = false ∧ t.hif.restarting = true
      ∧ t.dev = { s.dev with boot := 1, kilnFailed := [] } ∧ t.sec = { s.sec with spdm := [] }
      ∧ Changes [.draws, .rings, .queue, .hif, .dev, .sec, .log, .cnt, .out] s t)
  ∧ (s.dev.boot = 2 → s.dev.phase = .full → s.upd.trial = none → s.upd.microcode = s.upd.running → s.upd.swap = 0 →
      s.upd.resultDue = false → (readCopies s).1 = none → ∀ retained settings, ∃ t, exec (.fwReady retained settings) s = .next t
      ∧ t.hif.fwReady = true ∧ t.hif.restarting = false ∧ t.dev = { s.dev with boot := 0 }
      ∧ Changes [.rings, .queue, .hif, .dev, .sec, .log, .cnt, .out] s t)
  ∧ (s.dev.boot = 2 → s.dev.phase = .rom → s.upd.trial = none → ∀ retained settings, ∃ t, exec (.fwReady retained settings) s = .next t
      ∧ t.hif.fwReady = true ∧ t.hif.restarting = false ∧ t.dev.boot = 0 ∧ t.dev.phase = .init ∧ t.dev.step = 4)
  ∧ (s.dev.boot = 2 → s.runsTrial = true → s.dev.phase ≠ .rom → ∀ settings, exec (.fwReady false settings) s = .next (fallBack 2 s))
  ∧ (∀ x, s.dev.boot = 2 → s.runsTrial = true → (readCopies s).1 = some x → exec (.fwReady true false) s = .next (fallBack 1 s))

/-- Resets (R90, R97, R116, R533, Table BU-3): a cold reset, however it comes, leaves the state of reset but for what the board and the
flash keep, and starts the power-on order; the release of PORESET_N starts it from where it is. -/
def Obligations.ResetsComplete : Prop :=
  ∀ s : State,
    (s.dev.inReset = true → s.sec.life = .production → exec .powerOnResetRelease s =
      .next { s with dev := { s.dev with inReset := false, step := 1 } })
  ∧ (s.dev.inReset = true → s.sec.life = .armed → exec .powerOnResetRelease s = .next { s with
      dev := { s.dev with inReset := false, step := 1 }, sec := { s.sec with life := .unlocked, debug := true } })
  ∧ (s.dev.inReset = false → s.dev.locked = false → ∃ t, exec .bcColdReset s = .next t ∧ t.dev.step = 1 ∧ t.dev.phase = .rom
      ∧ t.hif = {} ∧ t.tbl = {} ∧ t.cnt = {} ∧ t.mono = 0 ∧ t.tim = {} ∧ t.insts = [(0, { st := .active })] ∧ t.flt = {}
      ∧ t.upd.slotA = s.upd.slotA ∧ t.upd.slotB = s.upd.slotB ∧ t.sec.copyA = s.sec.copyA ∧ t.sec.copyB = s.sec.copyB
      ∧ t.pending = s.pending)
  ∧ (∀ at_, s.dev.coldAt = some at_ → at_ ≤ s.mono → exec .coldResetAssert s = .next (coldReset s))
  ∧ (∃ t, exec .poresetAssert s = .next t ∧ t.dev = {} ∧ t.hif = {} ∧ t.tbl = {} ∧ t.pwr.thermtrip = false ∧ t.pwr.pwrfault = false
      ∧ t.upd.slotA = s.upd.slotA ∧ t.upd.slotB = s.upd.slotB ∧ t.sec.life = s.sec.life)

/-- The steps of the power-on order (R90–R96, R98, Table BU-1): the root PLL locks; ROM starts firmware from a slot that passes, and goes on to
the other slot or to ROM recovery mode when one fails (R93); the Wort Bridge trains, or is given up at the third failure (R95); a table stack that
trains in step 6 ends it, a buffer stack joins the pool, and a stack that does not train is left out (R96). -/
def Obligations.BringupComplete : Prop :=
  ∀ s : State,
    (s.dev.step = 1 → ∃ t, exec .rootpllLock s = .next t ∧ t.dev = { s.dev with step := 2 } ∧ t.pwr.rootLocked = true
      ∧ Changes [.dev, .pwr] s t)
  ∧ (∀ slot, s.dev.boot = 1 → s.upd.trial = none → slot = s.romTarget → s.sec.life ≠ .rma → (s.slot slot).whole = true →
      s.upd.fusedSvn ≤ (s.slot slot).svn → ∃ t, exec (.kilnVerify slot true) s = .next t ∧ t.upd.running = slot
        ∧ t.hif.fwVersion = (s.slot slot).version ∧ t.hif.svn = (s.slot slot).svn
        ∧ t.hif.fwEpoch = (if s.hif.fwEpoch + 1 < 256 then s.hif.fwEpoch + 1 else 1) ∧ t.sec = { s.sec with udsLocked := true }
        ∧ t.dev = { s.dev with boot := 2, kilnFailed := [] } ∧ Changes [.hif, .dev, .sec, .upd] s t)
  ∧ (∀ slot, s.dev.boot = 1 → s.upd.trial = none → slot = s.romTarget → s.sec.life ≠ .rma → s.dev.kilnFailed = [] →
      exec (.kilnVerify slot false) s = .next { s with dev := { s.dev with kilnFailed := [slot] } })
  ∧ (∀ slot other, s.dev.boot = 1 → s.upd.trial = none → slot = s.romTarget → s.sec.life ≠ .rma → s.dev.kilnFailed = [other] → other ≠ slot →
      exec (.kilnVerify slot false) s = .next (romRecovery { s with dev := { s.dev with kilnFailed := addOnce [other] slot } }))
  ∧ (∀ slot passed, s.dev.boot = 1 → s.upd.trial = none → slot = s.romTarget → s.sec.life = .rma →
      exec (.kilnVerify slot passed) s = .next (romRecovery s))
  ∧ (s.dev.step = 5 → s.hif.fwReady = true → s.dev.phase = .init → ∃ t, exec (.wortBridgeTrainEnd true) s = .next t
      ∧ Changes [.rings, .cnt, .pwr, .out]
          { s with dev := { s.dev with bridgeUp := true, step := 6, phase := .bridge }, flt := { s.flt with wb := [] } } t)
  ∧ (s.dev.step = 5 → s.hif.fwReady = true → s.dev.phase = .init → s.dev.bridgeTries < 2 → exec (.wortBridgeTrainEnd false) s =
      .next { s with dev := { s.dev with bridgeTries := s.dev.bridgeTries + 1 } })
  ∧ (s.dev.step = 5 → s.hif.fwReady = true → s.dev.phase = .init → s.dev.bridgeTries = 2 → ∃ t, exec (.wortBridgeTrainEnd false) s = .next t
      ∧ t.dev = { s.dev with bridgeTries := 3, phase := .fail, failCause := 1 } ∧ Changes [.rings, .dev, .cnt, .out] s t)
  ∧ (∀ stack passed u, stack < 6 → stack ∉ s.dev.hbmUp → stack ∉ s.dev.hbmFailed → s.domOn (9 + stack) = true →
      s.hif.fwReady = true → s.dev.phase ≠ .fail → u = (if passed && decide (2 ≤ stack) then repairStack stack s else s) →
      (2 ≤ stack → passed = true → (u.failedIn stack).length < 3 → ∃ t, exec (.hbmTrainingDone stack passed) s = .next t
        ∧ t.dev = { s.dev with hbmUp := sortUp (stack :: s.dev.hbmUp), hbmFailed := without s.dev.hbmFailed stack }
        ∧ Changes [.draws, .rings, .queue, .dev, .port, .adm, .insts, .log, .cnt, .out] s t)
      ∧ (stack < 2 → s.dev.step = 6 → passed = true → (u.failedIn stack).length < 3 → ∃ t, exec (.hbmTrainingDone stack passed) s = .next t
        ∧ t.dev = { s.dev with hbmUp := sortUp (stack :: s.dev.hbmUp), hbmFailed := without s.dev.hbmFailed stack, step := 7 }
        ∧ t.tbl = { s.tbl with copies := addOnce s.tbl.copies stack } ∧ Changes [.rings, .queue, .dev, .tbl, .log, .cnt, .pwr, .out] s t)
      ∧ (passed = false → ¬ (s.dev.phase = .bridge ∧ 0 ∈ addOnce s.dev.hbmFailed stack ∧ 1 ∈ addOnce s.dev.hbmFailed stack) → ∃ t,
        exec (.hbmTrainingDone stack passed) s = .next t ∧ t.dev = { s.dev with hbmFailed := addOnce s.dev.hbmFailed stack }
        ∧ Changes [.rings, .queue, .dev, .log, .cnt, .out] s t)
      ∧ (passed = false → s.dev.phase = .bridge → 0 ∈ addOnce s.dev.hbmFailed stack → 1 ∈ addOnce s.dev.hbmFailed stack → ∃ t,
        exec (.hbmTrainingDone stack passed) s = .next t
        ∧ t.dev = { s.dev with hbmFailed := addOnce s.dev.hbmFailed stack, phase := .fail, failCause := 2 }
        ∧ Changes [.rings, .queue, .dev, .log, .cnt, .out] s t))

/-- Commands of family DEV. Full service, in the degraded form too (R105, R106); the warm and the cold reset and the reset of a block (R97, R99,
R116); a Cellar set whose records are in their format and resolve, used and stored (R118), among them the empty one; a board descriptor with every
cage in range, none named twice and none of them in use, stored with the ports' causes brought up to date (R117). -/
def Obligations.DevCommandsComplete : Prop :=
  ∀ (vi : Nat) (io : HostIo) (e : Entry) (s : State),
    (starts 0x0201 vi io e s = true → ∃ d, exec (.devStatus vi io) s = .next (completed vi io e (.read (taken vi s) [] d))
      ∧ d.length = 64 ∧ (putLe 1 s.dev.phase.code ++ putLe 1 s.dev.failCause ++ putLe 2 (maskOf s.dev.pipes)) <+: d)
  ∧ (starts 0x0202 vi io e s = true → e.p 24 1 = 1 → e.p 26 2 ≤ 128 → s.serviceRefusal (bit (e.p 25 1) 0) = none →
      exec (.devService vi io) s = .next (completed vi io e {
        st := enterFull ((s.newest.map Epoch.num).getD 0) (e.p 26 2) (taken vi s),
        detail := if s.bufStacks.length < 4 then Dt.devDegraded else Dt.hifNone,
        result := putLe 2 ((s.newest.map Epoch.num).getD 0) ++ zeros 2 ++ putLe 8 s.timeNs }))
  ∧ (starts 0x0203 vi io e s = true → e.p 24 1 = 1 → e.p 25 1 = 0 → e.p 26 2 = 0 → e.p 28 4 = 0 →
      exec (.devReset vi io) s = .next (completed vi io e (.ok (warmRestart 1 (taken vi s)))))
  ∧ (starts 0x0203 vi io e s = true → e.p 24 1 = 3 → e.p 25 1 = 0 → e.p 26 2 = 0 → e.p 28 4 = 0x0C01D000 →
      exec (.devReset vi io) s = .next (completed vi io e (.ok
        { taken vi s with dev := { s.dev with coldAt := some (s.mono + Config.ms 10) } })))
  ∧ (starts 0x0203 vi io e s = true → e.p 24 1 = 2 → e.p 28 4 = 0 → e.p 26 2 < blockCount (e.p 25 1) →
      s.resetting (e.p 25 1) (e.p 26 2) = false → exec (.devReset vi io) s = .next (completed vi io e (.ok
        (blockReset (e.p 25 1) (e.p 26 2) (taken vi s)))))
  ∧ (starts 0x0204 vi io e s = true → le e.buf 1 1 = 0 → le e.buf 10 1 < 8 → (bytesAt e.buf 11 5).any (fun x => x != 0) = false →
      le e.buf 0 1 ≤ 1 → cellarTooMany e.buf = false → e.dataLen = 16 + (cellarParts e.buf).2.2.2 → cellarBad e.buf = none →
      sumOf (cellarOf e.buf).lpm lpmUnits ≤ 4096 → cellarRefusal (cellarOf e.buf) s = none → s.onTrial = false →
      exec (.devSetCellarSet vi io) s = .next (completed vi io e (.ok (saveSettings (useCellarSet (cellarOf e.buf) (taken vi s))))))
  ∧ (starts 0x0204 vi io e s = true → e.dataLen = 16 → e.buf = zeros 16 → s.dev.phase ≠ .cellar → s.onTrial = false →
      exec (.devSetCellarSet vi io) s = .next (completed vi io e (.ok (saveSettings
        { taken vi s with dev := { s.dev with cfg := { s.dev.cfg with cellar := { missPunt := false } } },
                          asa := { s.asa with cellarHits := [] } }))))
  ∧ (∀ m, starts 0x0205 vi io e s = true → le e.buf 0 2 ≤ 2047 → le e.buf 2 1 ≤ 128 → e.dataLen = 16 + 4 * le e.buf 2 1 →
      (bytesAt e.buf 3 13).any (fun x => x != 0) = false → (chunks 4 (le e.buf 2 1) (e.buf.drop 16)).any (fun r => decide (le r 3 1 ≠ 0)) = false →
      parseCages (chunks 4 (le e.buf 2 1) (e.buf.drop 16)) = some m → (le e.buf 0 2 = s.dev.cfg.sun ∨ (s.planesUp = [] ∧ s.member = false)) →
      s.cageInUse m = false → s.onTrial = false → exec (.devSetBoard vi io) s = .next (completed vi io e (.ok (saveSettings
        (moduleRefresh (startReach { taken vi s with dev := { s.dev with cfg := { s.dev.cfg with sun := le e.buf 0 2, cages := m } } }))))))

/-- Events of the board controller (R112), and the ends of a block reset (R99) and of the Cellar set (R106). -/
def Obligations.DevEventsComplete : Prop :=
  ∀ s : State,
    (∀ kind i u, (kind, i) ∈ s.dev.blockResets → (kind = 2 → (s.bank i).st ≠ .reloading) → (kind = 1 → s.recoveryTurn 12 i = true) →
      u = { s with dev := { s.dev with blockResets := without s.dev.blockResets (kind, i) } } → ∃ t, exec (.blockResetDone kind i) s = .next t
      ∧ t.dev = u.dev
      ∧ (kind = 1 → Changes [.rings, .log, .cnt, .out] u t)
      ∧ (kind = 3 → (s.plane i).st = .holdoff → Changes [.rings, .cnt, .out] (leaveHoldoff i u) t)
      ∧ (kind = 2 ∨ kind = 4 ∨ kind = 5 ∨ (kind = 3 ∧ (s.plane i).st ≠ .holdoff) → Changes [.rings, .cnt, .out] u t))
  ∧ (s.dev.bank0Wait = true → s.dev.phase = .full → s.mash.pkts.all (fun m => m.stamp != some 0) = true → ∃ t,
      exec .fullServiceBank0Clear s = .next t ∧ t.dev = { s.dev with bank0Wait := false } ∧ t.asa.cellarHits = []
      ∧ Changes [.rings, .dev, .asa, .cnt, .pwr, .out] s t)
  ∧ (s.hif.fwReady = true → s.dev.bcLost = false → exec .bcHeartbeat s = .next { s with dev := { s.dev with lastBeat := s.mono, bcLost := false } })
  ∧ (s.hif.fwReady = true → s.dev.bcLost = true → exec .bcHeartbeat s =
      .next (notify Ev.devBcBack [] [] { s with dev := { s.dev with lastBeat := s.mono, bcLost := false } }))
  ∧ (s.hif.fwReady = true → s.dev.bcLost = false → s.due (s.dev.lastBeat + Config.sec 2) = true → ∃ t, exec .bcHeartbeatLoss s = .next t
      ∧ Changes [.rings, .cnt, .out] { s with dev := { s.dev with bcLost := true } } t)

/-- Commands of family PWR (R535, R548, R549, Tables PH-9 and PH-10): a domain that the host may switch goes on or off; a buffer stack that goes on
completes when it has trained, one that goes off once it is empty (R288). A pin is configured and stored, or written; levels are read. -/
def Obligations.PwrCommandsComplete : Prop :=
  ∀ (vi : Nat) (io : HostIo) (e : Entry) (s : State),
    (starts 0x1101 vi io e s = true → ∃ d, exec (.pwrStatus vi io) s = .next (completed vi io e (.read (taken vi s).drawn [] d))
      ∧ d.length = 64 ∧ (putLe 1 s.pwr.thermal ++ putLe 1 s.asa.level) <+: d)
  ∧ (∀ pd, starts 0x1102 vi io e s = true → pd = e.p 24 1 → s.switching pd = false → (11 ≤ pd ∧ pd ≤ 14 ∨ 23 ≤ pd ∧ pd ≤ 55) →
      (e.p 25 1 = 1 → s.domOn pd = true → exec (.pwrDomain vi io) s = .next (completed vi io e (.ok (taken vi s))))
      ∧ (e.p 25 1 = 1 → s.domOn pd = false → 23 ≤ pd →
          exec (.pwrDomain vi io) s = .next (completed vi io e (.ok (powerOn pd ((taken vi s).setDom pd .off)))))
      ∧ (e.p 25 1 = 1 → s.domOn pd = false → pd ≤ 14 → exec (.pwrDomain vi io) s = .next (completed vi io e
          { st := powerOn pd ((taken vi s).setDom pd .off), wait := some (.domainOn pd, true) }))
      ∧ (e.p 25 1 = 2 → s.domainInUse pd = false → s.domOn pd = false →
          exec (.pwrDomain vi io) s = .next (completed vi io e (.ok ((taken vi s).setDom pd .off))))
      ∧ (e.p 25 1 = 2 → s.domainInUse pd = false → s.domOn pd = true → 23 ≤ pd →
          exec (.pwrDomain vi io) s = .next (completed vi io e (.ok (domainOff pd (taken vi s)))))
      ∧ (∀ u, e.p 25 1 = 2 → s.domOn pd = true → pd ≤ 14 →
          u = (taken vi s).modAdm (fun a => { a with stacksClosing := addOnce a.stacksClosing (pd - 9) }) →
          (s.stackUsed (pd - 9) = 0 → exec (.pwrDomain vi io) s = .next (completed vi io e (.ok (stackOff (pd - 9) u))))
          ∧ (s.stackUsed (pd - 9) ≠ 0 → exec (.pwrDomain vi io) s = .next (completed vi io e
              { st := u, wait := some (.stackDrain (pd - 9), false) }))))
  ∧ (starts 0x1103 vi io e s = true → e.p 25 1 = 3 → exec (.pwrGpio vi io) s = .next (completed vi io e (.read (taken vi s) s.gpioLevels [])))
  ∧ (starts 0x1103 vi io e s = true → e.p 25 1 = 2 → e.p 24 1 < 16 → e.p 27 1 ≤ 1 → ∃ u, exec (.pwrGpio vi io) s =
      .next (completed vi io e (.ok u u.gpioLevels))
      ∧ u = { taken vi s with pwr := { s.pwr with gpioOut := mset s.pwr.gpioOut (e.p 24 1) (e.p 27 1 == 1) } })
  ∧ (∀ u, starts 0x1103 vi io e s = true → e.p 25 1 = 1 → e.p 24 1 < 16 → e.p 26 1 ≤ 2 → e.p 27 1 ≤ 1 → e.p 28 1 ≤ 3 → e.p 30 1 ≤ 2 →
      s.onTrial = false → u = { taken vi s with pwr := { s.pwr with
        gpio := mset s.pwr.gpio (e.p 24 1)
          { mode := e.p 26 1, level := e.p 27 1 == 1, edge := e.p 28 1, debounce := e.p 29 1, pull := e.p 30 1 },
        gpioOut := mset s.pwr.gpioOut (e.p 24 1) (e.p 27 1 == 1) } } →
      exec (.pwrGpio vi io) s = .next (completed vi io e (.ok (saveSettings u) u.gpioLevels)))

/-- Power domains, the reference clock, rails, temperatures and pins (R530, R534–R539, R548). A domain whose power is good is on, and the
power-on order goes on with it (Table BU-1); a fault of an always-on domain, of a rail or of the temperature trip locks the device (R534, R536,
R538); any other domain's fault has its consequences (Table PH-4) and ends a command that waited for it. -/
def Obligations.PowerAndThermalEventsComplete : Prop :=
  ∀ s : State,
    (∀ pd u, mgetD s.pwr.domains pd .off = .ramping → u = rampNext 64 (s.setDom pd .on) → ∃ t, exec (.domainPowerGood pd) s = .next t
      ∧ (s.dev.step = 2 → u.allOn [1, 2, 3] = true → t.dev = { s.dev with step := 3, boot := 1, kilnFailed := [] } ∧ t.pwr.xspiOctal = true)
      ∧ (s.dev.step = 4 → u.allOn [4, 5, 6, 7, 8] = true → t.dev = { s.dev with step := 5 } ∧ t.upd = { s.upd with microcode := s.upd.running })
      ∧ (s.dev.step = 0 ∨ s.dev.step = 9 → (pd < 15 ∨ 22 < pd) → Changes [.rings, .cnt, .out] u t)
      ∧ (s.dev.step = 0 ∨ s.dev.step = 9 → 15 ≤ pd → pd ≤ 22 → (s.bank (pd - 15)).st = .off → (t.bank (pd - 15)).st = .on))
  ∧ (∀ pd, 1 ≤ pd → pd ≤ 8 → s.domOn pd = true → ∃ t, exec (.domainFault pd 2) s = .next t ∧ t.pwr.pwrfault = true ∧ t.dev.locked = true
      ∧ t.dev.step = 0 ∧ t.hif = {})
  ∧ (∀ pd, 1 ≤ pd → pd ≤ 8 → mgetD s.pwr.domains pd .off = .ramping → ∃ t, exec (.domainFault pd 1) s = .next t ∧ t.pwr.pwrfault = true
      ∧ t.dev.locked = true ∧ t.dev.step = 0 ∧ t.hif = {})
  ∧ (∀ pd cause u, 9 ≤ pd → pd ≤ 55 → (cause = 1 ∧ mgetD s.pwr.domains pd .off = .ramping ∨ cause = 2 ∧ mgetD s.pwr.domains pd .off = .on) →
      u = count Cn.pwrDomainFault 0 1 (notify Ev.pwrDomainFault (putLe 1 pd ++ putLe 1 cause) [] (rampNext 64 (s.setDom pd .fault))) →
      (pd < 23 → exec (.domainFault pd cause) s = .next (completeWaiting (fun p => p.wait == .domainOn pd) [] (nextStep (domainLost pd u))))
      ∧ (23 ≤ pd → exec (.domainFault pd cause) s = .next (completeWaiting (fun p => p.wait == .domainOn pd) [] (nextStep (domainLost pd
          { u with pwr := { u.pwr with retryAt := mset u.pwr.retryAt pd (s.mono + Config.sec 10) } })))))
  ∧ (∀ pd, 15 ≤ pd → pd ≤ 22 → mgetD s.pwr.domains pd .off = .ramping → s.dev.phase ≠ .cellar → s.dev.phase ≠ .full → s.dev.step ≠ 8 → ∃ t,
      exec (.domainFault pd 1) s = .next t ∧ t.pwr = (rampNext 64 (s.setDom pd .fault)).pwr ∧ (t.bank (pd - 15)).st = .failed)
  ∧ (∀ pd at_, mget s.pwr.retryAt pd = some at_ → at_ ≤ s.mono → s.hif.fwReady = true → mgetD s.pwr.domains pd .off = .fault →
      exec (.domainRetry pd) s = .next (powerOn pd (({ s with pwr := { s.pwr with retryAt := mdel s.pwr.retryAt pd } }).setDom pd .off)))
  ∧ (s.pwr.rootLocked = true → (s.pwr.ref = .locked ∨ s.pwr.ref = .relocking) → ∃ t, exec .refclkLoss s = .next t
      ∧ Changes [.rings, .cnt, .out] { s with pwr := { s.pwr with refAt := s.mono, ref := .holdover } } t)
  ∧ ((s.pwr.ref = .holdover ∨ s.pwr.ref = .outOfRange) → s.due (s.pwr.refAt + Config.ms 10) = true →
      exec (.refclkRelock true) s = .next { s with pwr := { s.pwr with ref := .relocking } })
  ∧ (s.pwr.ref = .holdover → s.due (s.pwr.refAt + Config.ms 10) = true → ∃ t, exec (.refclkRelock false) s = .next t
      ∧ Changes [.rings, .cnt, .out] { s with pwr := { s.pwr with ref := .outOfRange } } t)
  ∧ (s.pwr.ref = .outOfRange → exec (.refclkRelock false) s = .next s)
  ∧ (s.pwr.ref = .relocking → ∃ t, exec .refclkRelockDone s = .next t
      ∧ Changes [.rings, .cnt, .out] { s with pwr := { s.pwr with ref := .locked } } t)
  ∧ (∀ rail, rail < 15 → s.dev.inReset = false → ∃ t, exec (.railUndervoltage rail) s = .next t ∧ t.pwr.pwrfault = true
      ∧ t.dev.locked = true ∧ t.dev.step = 0 ∧ t.hif = {})
  ∧ (∀ source temp, source < 2 → s.pwr.thermal < thermalFor temp → s.pwr.rootLocked = true → ∃ t,
      exec (.thermalStateEnter source temp) s = .next t
      ∧ Changes [.rings, .cnt, .out] { s with pwr := { s.pwr with thermal := thermalFor temp, thermalAt := s.mono } } t)
  ∧ (∀ source temp, source < 2 → s.pwr.thermal ≠ 0 → temp ≤ thermalEntry s.pwr.thermal - 30 → s.due (s.pwr.thermalAt + Config.ms 10) = true → ∃ t,
      exec (.thermalStateLeave source temp) s = .next t
      ∧ Changes [.rings, .cnt, .out] { s with pwr := { s.pwr with
          thermal := if s.pwr.thermal = 2 ∧ thermalEntry 1 - 30 < temp then 1 else 0 } } t)
  ∧ (s.dev.inReset = false → ∃ t, exec .thermalTrip s = .next t ∧ t.pwr.thermtrip = true ∧ t.dev.locked = true ∧ t.hif = {})
  ∧ (∀ stack temp, stack < 6 → s.domOn (9 + stack) = true →
      (temp < 850 → exec (.hbmThermal stack temp) s = .next { s with pwr := { s.pwr with
          refresh2x := without s.pwr.refresh2x stack, hbmWarned := without s.pwr.hbmWarned stack } })
      ∧ (850 ≤ temp → temp < 950 → exec (.hbmThermal stack temp) s = .next { s with pwr := { s.pwr with
          refresh2x := addOnce s.pwr.refresh2x stack, hbmWarned := without s.pwr.hbmWarned stack } })
      ∧ (950 ≤ temp → temp < 1050 → ∃ t, exec (.hbmThermal stack temp) s = .next t ∧ Changes [.rings, .cnt, .out] { s with pwr := { s.pwr with
          refresh2x := addOnce s.pwr.refresh2x stack, hbmWarned := addOnce s.pwr.hbmWarned stack } } t)
      ∧ (1050 ≤ temp → stack ∈ s.pwr.hbmWarned → stack ∈ (if stack < 2 then s.dev.hbmUp else s.bufStacks) →
          exec (.hbmThermal stack temp) s = .next (hbmStackOut stack { s with pwr := { s.pwr with
            refresh2x := addOnce s.pwr.refresh2x stack, hbmWarned := addOnce s.pwr.hbmWarned stack } })))
  ∧ (∀ pin level, pin < 16 → s.gpioExt pin ≠ level → ∃ t, exec (.gpioEdge pin level) s = .next t
      ∧ Changes [.rings, .cnt, .out] { s with pwr := { s.pwr with
          gpioIn := mset s.pwr.gpioIn pin level, gpioAt := mset s.pwr.gpioAt pin s.mono } } t)

/-- Commands of family FLT: the status; the records from an ID on, as many as asked for and only those being recovered if asked (Table IF-8); the
injection of an error, which arms its target for the next occurrences or strikes at once, counts, and marks the records that it opens or that it
adds to (R511, R514). -/
def Obligations.FltCommandsComplete : Prop :=
  ∀ (vi : Nat) (io : HostIo) (e : Entry) (s : State),
    (starts 0x0F01 vi io e s = true → ∃ d, exec (.fltStatus vi io) s = .next (completed vi io e (.read (taken vi s) [] d))
      ∧ d.length = 32 ∧ (putLe 4 (s.logById.filter (fun r => r.st == 1)).length ++ putLe 4 ((s.logById.head?.map FRec.id).getD 0)) <+: d)
  ∧ (∀ got, starts 0x0F02 vi io e s = true → 1 ≤ e.p 28 1 → e.p 28 1 ≤ 64 → 64 * e.p 28 1 ≤ e.dataLen →
      got = (s.logById.filter (fun r => decide (e.p 24 4 ≤ r.id) && (!bit (e.p 29 1) 0 || r.st == 1))).take (e.p 28 1) →
      exec (.fltLogRead vi io) s = .next (completed vi io e (.read (taken vi s)
        (putLe 1 got.length ++ putLe 1 (b2n (s.logById.head?.any (fun r => decide (e.p 24 4 < r.id)))) ++ zeros 2
          ++ putLe 4 ((got.getLast?.map (fun r => r.id + 1)).getD (e.p 24 4))) (got.flatMap FRec.bytes))))
  ∧ (∀ target unit n t mark, starts 0x0F03 vi io e s = true → target = e.p 24 1 → unit = e.p 26 2 → n = e.p 28 4 →
      s.injectable target unit n = true → (s.recovering = none ∨ bit (e.p 25 1) 0 = true) →
      t = strike target unit n (count Cn.fltInjected target 1 (taken vi s)) →
      mark = (fun r : FRec => if s.flt.nextId ≤ r.id ∨ s.flt.log.any (fun o => o.id == r.id && decide (o.occurrences ≠ r.occurrences))
        then { r with injected := true } else r) →
      exec (.fltInject vi io) s = .next (completed vi io e (.ok { t with flt := { t.flt with log := t.flt.log.map mark } } (putLe 4 (if s.flt.nextId < t.flt.nextId then s.flt.nextId else 0)))))
  ∧ (∀ target unit n old, target ∈ [1, 2, 3, 4, 5, 9] →
      old = ((s.flt.armed.find? (fun a => a.target == target && a.unit == unit)).map Armed.left).getD 0 →
      strike target unit n s = { s with flt := { s.flt with
        armed := s.flt.armed.filter (fun a => !(a.target == target && a.unit == unit)) ++ [{ target := target, unit := unit, left := n + old }] } })
  ∧ (∀ unit n, strike 8 unit n s = wbLaneFail (unit / 4096) (unit % 4096) s ∧ strike 10 unit n s = bankFault unit 1 s
      ∧ (unit / 32 < 2 → strike 6 unit n s = tblPcFail (unit / 32) (unit % 32) s)
      ∧ (2 ≤ unit / 32 → ∃ cause, 1 ≤ cause ∧ cause ≤ 3 ∧ strike 6 unit n s = pcFail (unit / 32) (unit % 32) cause s.drawn)
      ∧ (∃ cause, 1 ≤ cause ∧ cause ≤ 3 ∧ strike 7 unit n s = laneDown unit cause s.drawn)
      ∧ (∀ x, s.mash.trub.find? (fun t => t.2.port == unit) = some x → strike 11 unit n s = trubEcc x.1 s))

/-- Events of the Wort Bridge, of table HBM, of the mash pipes and of the fault log (R502, R503, R505, R506). A step of a recovery ends only when no
recovery that goes before it runs (R508). -/
def Obligations.FaultEventsComplete : Prop :=
  ∀ s : State,
    (∀ dir g seq, dir < 2 → g < 8 → s.dev.bridgeUp = true →
      (seq < (s.wbGroup dir g).expected → exec (.wbFlitReceive dir g seq true) s = .next (s.emit (.flitAck dir g seq)))
      ∧ (seq = (s.wbGroup dir g).expected → exec (.wbFlitReceive dir g seq true) s =
          .next ((s.modWb dir g (fun x => { x with expected := seq + 1, replaying := false })).emit (.flitAck dir g seq)))
      ∧ (∀ ok, (ok = false ∨ (s.wbGroup dir g).expected < seq) →
          ((s.wbGroup dir g).replaying = true → exec (.wbFlitReceive dir g seq ok) s = .next s)
          ∧ ((s.wbGroup dir g).replaying = false → exec (.wbFlitReceive dir g seq ok) s =
              .next (wbReplay dir g (s.modWb dir g (fun x => { x with replaying := true }))))))
  ∧ (∀ dir lane x, dir < 2 → lane < 2080 → s.dev.bridgeUp = true → x = s.wbGroup dir (wbGroupOf lane) → lane ∉ x.failed →
      (∃ t, exec (.wbLaneFail dir lane) s = .next t ∧
        (lane < 2048 ∨ lane ∈ x.repaired → x.pendingRepair.length < (({ x with failed := x.failed ++ [lane] } : WbGroup).spares (wbGroupOf lane)).length →
          Changes [.draws, .rings, .log, .cnt, .out] (s.modWb dir (wbGroupOf lane) (fun x => { x with
            failed := x.failed ++ [lane], pendingRepair := x.pendingRepair ++ [lane] })) t)
        ∧ (lane < 2048 ∨ lane ∈ x.repaired → (({ x with failed := x.failed ++ [lane] } : WbGroup).spares (wbGroupOf lane)).length ≤ x.pendingRepair.length →
          Changes [.draws, .rings, .log, .cnt, .out] (s.modWb dir (wbGroupOf lane) (fun x => { x with
            failed := x.failed ++ [lane], restriping := true })) t)
        ∧ (2048 ≤ lane → lane ∉ x.repaired →
          Changes [.draws, .rings, .log, .cnt, .out] (s.modWb dir (wbGroupOf lane) (fun x => { x with failed := x.failed ++ [lane] })) t)))
  ∧ (∀ dir lane, lane ∈ (s.wbGroup dir (wbGroupOf lane)).pendingRepair → s.recoveryTurn 1 (wbUnit dir lane) = true → ∃ t,
      exec (.wbLaneRepairDone dir lane) s = .next t
      ∧ Changes [.rings, .log, .cnt, .out] (s.modWb dir (wbGroupOf lane) (fun x => { x with
          pendingRepair := without x.pendingRepair lane, repaired := x.repaired ++ (x.spares (wbGroupOf lane)).take 1 })) t)
  ∧ (∀ dir g, dir < 2 → g < 8 → (s.wbGroup dir g).restriping = true → s.recoveryTurn 2 (dir * 4096 + g) = true → ∃ t,
      exec (.wbRestripeDone dir g) s = .next t
      ∧ Changes [.draws, .rings, .log, .cnt, .out]
          (s.modWb dir g (fun x => { x with restriping := false, width := 32 * (min 256 (260 - x.failed.length) / 32) })) t)
  ∧ (∀ stack pc, s.tblPcGood stack pc = true → ∃ t, exec (.tblPcFail stack pc) s = .next t
      ∧ Changes [.draws, .rings, .log, .cnt, .out] { s with flt := { s.flt with
          tblPcFailed := addOnce s.flt.tblPcFailed (stack * 32 + pc), tblPcCopying := addOnce s.flt.tblPcCopying (stack * 32 + pc) } } t)
  ∧ (∀ stack pc, s.hif.fwReady = true → stack * 32 + pc ∈ s.flt.tblPcCopying → s.recoveryTurn 9 (stack * 32 + pc) = true → ∃ t,
      exec (.tblPcRecopyDone stack pc) s = .next t
      ∧ Changes [.rings, .log, .cnt, .out]
          { s with flt := { s.flt with tblPcCopying := without s.flt.tblPcCopying (stack * 32 + pc) } } t)
  ∧ (∀ pipe, pipe ∈ s.dev.pipes → ∃ t, exec (.mashPipeFault pipe) s = .next t ∧ t = pipeReset pipe (fault 12 pipe 0 s)
      ∧ t.dev = { s.dev with blockResets := addOnce s.dev.blockResets (1, pipe) }
      ∧ Changes [.draws, .rings, .dev, .mash, .log, .cnt, .out] s t
      ∧ (s.mash.pkts.all (fun m => !(m.stamp.isSome && m.verdict.isNone && m.pipe == pipe)) = true → t.mash = s.mash))
  ∧ (∀ record r, s.flt.log.find? (fun r => r.id == record) = some r → r.st = 2 → s.due (r.lastAt + Config.sec 1) = true →
      exec (.faultRecordClose record) s = .next { s with flt := { s.flt with
        log := s.flt.log.map (fun r => if r.id = record then { r with st := 3 } else r) } })

/-- Commands of family TIME that write settings, TIME itself and the pins: the step limit, INCREMENT within ±500 ppm of nominal, a step within the
limit, or forced, or before TIME is VALID, which completes at its step tick, a port's timestamping and probes, and every mode of the pins (R154,
R158, R159, R168, R172, R173, R175). -/
def Obligations.TimeSettingCommandsComplete : Prop :=
  ∀ (vi : Nat) (io : HostIo) (e : Entry) (s : State),
    (∀ v, starts 0x0501 vi io e s = true → v = (if e.p 24 8 = 0 then 1000000 else e.p 24 8) → v ≤ 2 ^ 62 → exec (.timeConfig vi io) s =
      .next (completed vi io e (.ok { taken vi s with tim := { s.tim with stepLimit := v } })))
  ∧ (starts 0x0502 vi io e s = true → ((e.p 24 8 : Int) - 0x0000CCCCCCCCCCCD).natAbs * 2000 ≤ 0x0000CCCCCCCCCCCD →
      exec (.timeSetIncrement vi io) s = .next (completed vi io e (.ok
        { taken vi s with tim := { s.tim with increment := BitVec.ofNat 64 (e.p 24 8) } }
        (putLe 8 ((s.tim.time + BitVec.ofNat 112 (e.p 24 8)).toNat / 2 ^ 48)))))
  ∧ (∀ mode, starts 0x0503 vi io e s = true → mode = e.p 24 1 → (mode = 1 ∨ mode = 2) → s.epochQueued ((s.tim.epoch + 1) % 4) = false →
      (s.tim.valid = false ∨ bit (e.p 25 1) 0 = true ∨ stepSize s (mode == 2) (e.p 32 8) (e.p 26 2) ≤ s.tim.stepLimit * 2 ^ 48) →
      exec (.timeStep vi io) s = .next (completed vi io e { st := { taken vi s with tim := { s.tim with
        step := some { relative := mode == 1, value := if mode = 1 then sx 64 (e.p 32 8) else (e.p 32 8 : Int), frac := e.p 26 2,
                       force := bit (e.p 25 1) 0, at_ := s.mono + 1250 * Config.tick } } }, wait := some (.stepTick, true) }))
  ∧ (∀ p c u, starts 0x0505 vi io e s = true → p = e.p 24 1 → s.pcfg p = some c → c.type = 1 → e.p 26 2 ≤ 1000 → s.onTrial = false →
      u = probeRefresh p { taken vi s with tim := { s.tim with cfg := { s.tim.cfg with ports := mset s.tim.cfg.ports p {
        tsEnable := bit (e.p 25 1) 0, probeEnable := bit (e.p 25 1) 1, oneStep := bit (e.p 25 1) 2, asym := sx 32 (e.p 28 4), domain := e.p 34 1,
        interval := if e.p 26 2 = 0 then 125 else e.p 26 2, threshold := if e.p 32 2 = 0 then 100 else e.p 32 2 } } } } →
      exec (.timePort vi io) s = .next (completed vi io e (.ok (saveSettings u)
        (putLe 8 (if (u.probe p).st = .valid then wrapInt 64 (u.probe p).baseline else 0) ++ putLe 1 (u.probe p).st.code))))
  ∧ (∀ pin c set, starts 0x0507 vi io e s = true → pin = e.p 24 1 → pin < 4 → s.onTrial = false →
      c = ({ mode := e.p 25 1, lane := e.p 26 1, freq := e.p 27 1, width := e.p 28 4 + e.p 52 4 * 2 ^ 32, target := e.p 32 8,
             period := e.p 40 8, comp := sx 16 (e.p 48 2) } : PulseCfg) →
      set = (fun (x : Pulse) (u : State) (first : Nat) => Host.Outcome.next (completed vi io e (.ok (saveSettings
        (({ u with tim := { u.tim with cfg := { u.tim.cfg with pulses := mset u.tim.cfg.pulses pin c } } } : State).setPulse pin
          { x with highUntil := (s.pulse pin).highUntil })) (putLe 8 first)))) →
      (c.mode = 0 → c.lane = 0 → c.freq = 0 → exec (.timePulseOut vi io) s = set {} (taken vi s) 0)
      ∧ (c.mode = 1 → c.lane = 0 → c.freq = 0 → 10 ≤ c.width → c.width ≤ 2 ^ 39 → targetClass c.target s.timeNs = .future →
          exec (.timePulseOut vi io) s = set {} (taken vi s) c.target)
      ∧ (c.mode = 1 → c.lane = 0 → c.freq = 0 → 10 ≤ c.width → c.width ≤ 2 ^ 39 → targetClass c.target s.timeNs = .due →
          exec (.timePulseOut vi io) s = set { late := true } (count Cn.timePulseLate 0 1 (taken vi s)) s.nextTickNs)
      ∧ (∀ first, c.mode = 2 → c.lane = 0 → c.freq = 0 → 100 ≤ c.period → c.period ≤ 2 ^ 40 → 10 ≤ c.width → 2 * c.width ≤ c.period →
          c.target < c.period → first = nextAligned c.target c.period s.timeNs →
          exec (.timePulseOut vi io) s = set { nextEdge := first } (taken vi s) first)
      ∧ (∀ p pc, c.mode = 3 → c.lane ≤ 127 → (c.freq = 1 ∨ c.freq = 2) → s.portOfLane c.lane = some p → s.pcfg p = some pc → pc.type = 1 →
          exec (.timePulseOut vi io) s = set { squelched := !s.portUp p } (taken vi s) 0))
  ∧ (starts 0x0508 vi io e s = true → e.p 24 1 < 2 → e.p 25 1 ≤ 2 → s.onTrial = false → exec (.timePulseIn vi io) s =
      .next (completed vi io e (.ok (saveSettings { taken vi s with
        tim := { s.tim with
          cfg := { s.tim.cfg with pulseIns := mset s.tim.cfg.pulseIns (e.p 24 1) { edge := e.p 25 1, comp := sx 16 (e.p 26 2) } } } }))))

/-- Commands of family TIME that read: TIME, and the timestamp queues, whose entries they take (R167, R173, Table TI-7). -/
def Obligations.TimeReadCommandsComplete : Prop :=
  ∀ (vi : Nat) (io : HostIo) (e : Entry) (s : State),
    (starts 0x0504 vi io e s = true → ∃ d, exec (.timeGet vi io) s = .next (completed vi io e (.read (taken vi s) [] d)) ∧ d.length = 32
      ∧ (putLe 8 s.timeNs ++ putLe 2 (s.time16 % 2 ^ 16) ++ putLe 1 s.tim.epoch ++ putLe 1 (b2n s.tim.valid)) <+: d)
  ∧ (∀ c q, starts 0x0506 vi io e s = true → s.pcfg (e.p 24 1) = some c → c.type = 1 → s.ownsPort vi (e.p 24 1) = true →
      0 < e.p 25 1 → e.p 25 1 ≤ 64 → 16 * e.p 25 1 ≤ e.dataLen → mgetD s.tim.txq (e.p 24 1) {} = q →
      exec (.timeTxTsRead vi io) s = .next (completed vi io e
        { st := { taken vi s with
            tim := { s.tim with
              txq := mset s.tim.txq (e.p 24 1) { q with q := q.q.drop (e.p 25 1), overflow := false, lost := 0 } } },
          result := putLe 1 (q.q.take (e.p 25 1)).length ++ putLe 1 (b2n q.overflow) ++ zeros 2 ++ putLe 4 (sat 32 q.lost),
          data := (q.q.take (e.p 25 1)).flatMap TsEntry.bytes }))
  ∧ (∀ q, starts 0x0509 vi io e s = true → e.p 24 1 < 2 → 0 < e.p 25 1 → e.p 25 1 ≤ 16 → 16 * e.p 25 1 ≤ e.dataLen →
      mgetD s.tim.capq (e.p 24 1) {} = q → exec (.timeCaptureRead vi io) s = .next (completed vi io e
        { st := { taken vi s with
            tim := { s.tim with
              capq := mset s.tim.capq (e.p 24 1) { q with q := q.q.drop (e.p 25 1), overflow := false, lost := 0 } } },
          result := putLe 1 (q.q.take (e.p 25 1)).length ++ putLe 1 (b2n q.overflow) ++ zeros 2 ++ putLe 4 (sat 32 q.lost),
          data := (q.q.take (e.p 25 1)).flatMap TsEntry.bytes }))

/-- The step tick and the pulse pins (R158, R172, R173); a rising edge leaves at its own instant and keeps the pin high for WIDTH; an edge on a
pulse input is captured, and counted as lost when the queue is full. -/
def Obligations.TimeEventsComplete : Prop :=
  ∀ s : State,
    let edge (pin at_ : Nat) (x : Pulse) : State :=
      (s.setPulse pin { x with highUntil := some (at_ + (s.pulseCfg pin).width * 10) }).emit (.pulse pin true at_)
    (∀ p, s.tim.step = some p → p.at_ ≤ s.mono → ∃ t, exec .timeStepTick s = .next t ∧ t.tim.time = p.newTime s.tim.time
      ∧ t.tim.epoch = (s.tim.epoch + 1) % 4 ∧ t.tim.valid = true ∧ t.tim.step = none ∧ t.tim.increment = s.tim.increment
      ∧ Changes [.rings, .queue, .tim, .sch, .cnt, .out] s t)
  ∧ (∀ pin, (s.pulseCfg pin).mode = 1 → (s.pulse pin).spent = false → targetClass (s.pulseCfg pin).target s.timeNs ≠ .past →
      (s.pulse pin).late = false → s.pulseReached (s.pulseCfg pin) (s.pulseCfg pin).target = true →
      exec (.pulseOneShotFire pin) s = .next (edge pin (s.edgeAt (s.pulseCfg pin) (s.pulseCfg pin).target) { s.pulse pin with spent := true }))
  ∧ (∀ pin, (s.pulseCfg pin).mode = 1 → (s.pulse pin).spent = false → targetClass (s.pulseCfg pin).target s.timeNs ≠ .past →
      (s.pulse pin).late = true → exec (.pulseOneShotFire pin) s = .next (edge pin s.mono { s.pulse pin with spent := true }))
  ∧ (∀ pin, (s.pulseCfg pin).mode = 2 → s.pulseReached (s.pulseCfg pin) (s.pulse pin).nextEdge = true →
      exec (.pulsePeriodicEdge pin) s = .next (edge pin (s.edgeAt (s.pulseCfg pin) (s.pulse pin).nextEdge) { s.pulse pin with
        nextEdge := nextAligned (s.pulseCfg pin).target (s.pulseCfg pin).period (s.pulse pin).nextEdge }))
  ∧ (∀ pin h, (s.pulse pin).highUntil = some h → h ≤ s.mono → exec (.pulseWidthEnd pin) s =
      .next ((s.setPulse pin { s.pulse pin with highUntil := none }).emit (.pulse pin false h)))
  ∧ (∀ pin rising q, pin < 2 → 2 ≤ s.dev.step → (mgetD s.tim.cfg.pulseIns pin {}).edge = (if rising then 1 else 2) → q = mgetD s.tim.capq pin {} →
      (q.q.length < 16 → ∃ t x, exec (.pulseInEdge pin rising) s = .next t ∧ (mgetD t.tim.capq pin {}).q = q.q ++ [x]
        ∧ x.epoch = s.tim.epoch ∧ x.id = q.nextId ∧ (mgetD t.tim.capq pin {}).nextId = (q.nextId + 1) % 2 ^ 16 ∧ Changes [.tim] s t)
      ∧ (16 ≤ q.q.length → ∃ t, exec (.pulseInEdge pin rising) s = .next t ∧ mgetD t.tim.capq pin {} =
          { q with nextId := (q.nextId + 1) % 2 ^ 16, overflow := true, lost := q.lost + 1 } ∧ Changes [.rings, .tim, .cnt, .out] s t))

/-- Path-delay probes: sent, answered, sampled and missed; the third unanswered in a row is reported and the measurement begins again (R168,
R169). -/
def Obligations.ProbeEventsComplete : Prop :=
  ∀ (port : Nat) (s : State),
    ((s.probe port).st ≠ .off → (s.probe port).waiting = none → s.due (s.probe port).nextAt = true → s.mayTransmit port = true →
      exec (.probeSend port) s = .next ((s.setProbe port { s.probe port with
        seqId := ((s.probe port).seqId + 1) % 2 ^ 16, waiting := some ((s.probe port).seqId, s.txStamp port s.subTick),
        nextAt := s.mono + Config.ms (s.tport port).interval }).drawn.emit (.probe port (s.probe port).seqId (s.tport port).domain)))
  ∧ (∀ seq, (s.tport port).probeEnable = true → s.portUp port = true → s.mayTransmit port = true →
      exec (.pdelayReqReceive port seq (s.tport port).domain) s =
        .next (s.drawn.drawn.emit (.probeAnswer port seq (s.rxStamp port) (s.drawn.txStamp port s.drawn.subTick))))
  ∧ (∀ seq t1 t2 t3, (s.probe port).st ≠ .off → (s.probe port).waiting = some (seq, t1) → s.portUp port = true →
      exec (.pdelayRespReceive port seq t2 t3) s = .next (probeSample port ((((s.rxStamp port : Int) - t1) - ((t3 : Int) - t2)) / 2)
        (s.drawn.setProbe port { s.probe port with waiting := none, unanswered := 0 })))
  ∧ (∀ seq t1 t2 t3, (s.probe port).st = .measuring → (s.probe port).waiting = some (seq, t1) → s.portUp port = true →
      (s.probe port).samples.length < 7 → ∃ t, exec (.pdelayRespReceive port seq t2 t3) s = .next t
      ∧ (t.probe port).samples = (s.probe port).samples ++ [(((s.rxStamp port : Int) - t1) - ((t3 : Int) - t2)) / 2]
      ∧ (t.probe port).waiting = none ∧ (t.probe port).unanswered = 0 ∧ Changes [.draws, .tim] s t)
  ∧ (∀ w, (s.probe port).st ≠ .off → (s.probe port).waiting = some w → s.due (s.probe port).nextAt = true →
      (s.probe port).unanswered < 2 → exec (.probeUnanswered port) s =
        .next (s.setProbe port { s.probe port with waiting := none, unanswered := (s.probe port).unanswered + 1 }))
  ∧ (∀ w, (s.probe port).st ≠ .off → (s.probe port).waiting = some w → s.due (s.probe port).nextAt = true →
      2 ≤ (s.probe port).unanswered → ∃ t, exec (.probeUnanswered port) s = .next t ∧ Changes [.rings, .cnt, .out] (s.setProbe port
        { s.probe port with st := .measuring, samples := [], deviating := [], waiting := none, unanswered := 0 }) t)

/-- Commands of family CNT: values and overflow flags of a run of one event's counters, cleared or not; the binding of a selectable counter, whole
events included, and its release; the window of one meter or of all; the reading of a meter, its peaks cleared or not; the kind of an event (R515,
R520–R525, Table CT-6). -/
def Obligations.CntCommandsComplete : Prop :=
  ∀ (vi : Nat) (io : HostIo) (e : Entry) (s : State),
    (∀ k keys, starts 0x1001 vi io e s = true → counterKind (e.p 24 2) = some k → 1 ≤ e.p 32 4 → e.p 32 4 ≤ 65536 →
      e.p 28 4 + e.p 32 4 ≤ kindSize k → (∀ i, e.p 28 4 ≤ i → i < e.p 28 4 + e.p 32 4 → s.mayCount vi k i = true) →
      8 * e.p 32 4 + ceilDiv (e.p 32 4) 8 ≤ e.dataLen → keys = (upFrom (e.p 28 4) (e.p 32 4)).map (counterKey (e.p 24 2)) → ∃ d u,
      exec (.cntRead vi io) s = .next (completed vi io e
        { st := u, result := putLe 8 s.monoNs ++ putLe 4 0, data := d, changed := bit (e.p 26 1) 0 })
      ∧ d = keys.flatMap (fun key => putLe 8 (mgetD s.cnt.vals key 0)) ++ packFlags (keys.map (fun key => decide (key ∈ s.cnt.ovf)))
      ∧ (bit (e.p 26 1) 0 = false → u = taken vi s)
      ∧ (bit (e.p 26 1) 0 = true → u = { taken vi s with cnt := { s.cnt with ovf := s.cnt.ovf.filter (fun key => decide (key ∉ keys)) } }))
  ∧ (∀ k n c, starts 0x1002 vi io e s = true → n = e.p 24 1 → n < 64 → e.p 25 1 = 1 → counterKind (e.p 26 2) = some k →
      (e.p 28 4 < kindSize k ∨ e.p 28 4 = 0xFFFFFFFF) → 0 < e.p 32 4 → e.p 32 4 ≤ 1000000 → c = mgetD s.cnt.sel n {} →
      (∀ at_ al p, p = (e.p 26 2, (if e.p 28 4 = 0xFFFFFFFF then none else some (e.p 28 4)), e.p 32 4, bit (e.p 36 1) 0) →
        (c.bound = true ∧ at_ = c.nextAt ∧ al = c.alignTime
          ∨ c.bound = false ∧ at_ = s.nextBoundary (e.p 32 4) (bit (e.p 36 1) 0) ∧ al = bit (e.p 36 1) 0) →
        exec (.cntSelect vi io) s = .next (completed vi io e (.ok ((taken vi s).modSel n (fun c => { c with
          pending := some (some p), nextAt := at_, alignTime := al })) (putLe 8 (s.boundaryNs at_ al))))))
  ∧ (∀ n c, starts 0x1002 vi io e s = true → n = e.p 24 1 → n < 64 → e.p 25 1 = 2 → c = mgetD s.cnt.sel n {} →
      (c.bound = true → exec (.cntSelect vi io) s = .next (completed vi io e (.ok ((taken vi s).modSel n (fun c => { c with pending := some none }))
        (putLe 8 (s.boundaryNs c.nextAt c.alignTime)))))
      ∧ (c.bound = false → exec (.cntSelect vi io) s = .next (completed vi io e (.ok ((taken vi s).modSel n (fun c => { c with pending := none }))
        (putLe 8 s.monoNs)))))
  ∧ (∀ w, starts 0x1003 vi io e s = true → w = (if e.p 28 4 = 0 then 1000 else e.p 28 4) → w ≤ 1000000 →
      (e.p 24 1 < 128 → exec (.cntMeter vi io) s = .next (completed vi io e (.ok { taken vi s with cnt := { s.cnt with
        meters := mmod s.cnt.meters (e.p 24 1) {} (fun m => { m with newWindow := some w }) } })))
      ∧ (e.p 24 1 = 0xFF → ∃ u, exec (.cntMeter vi io) s = .next (completed vi io e (.ok u)) ∧ Changes [.cnt] (taken vi s) u
          ∧ ∀ p, p < 128 → mgetD u.cnt.meters p {} = { mgetD s.cnt.meters p {} with newWindow := some w }))
  ∧ (∀ p, starts 0x1004 vi io e s = true → p = e.p 24 1 → p < 128 → s.ownsPort vi p = true → ∃ d u, exec (.cntMeterRead vi io) s =
      .next (completed vi io e { st := u, data := d, changed := bit (e.p 25 1) 0 }) ∧ d.length = 64
      ∧ (s.portUp p = true → (putLe 8 (mgetD s.cnt.meters p {}).lastRxB ++ putLe 8 (mgetD s.cnt.meters p {}).lastRxF
          ++ putLe 8 (mgetD s.cnt.meters p {}).lastTxB ++ putLe 8 (mgetD s.cnt.meters p {}).lastTxF) <+: d)
      ∧ (s.portUp p = false → zeros 32 <+: d)
      ∧ (bit (e.p 25 1) 0 = false → u = taken vi s)
      ∧ (bit (e.p 25 1) 0 = true → u = { taken vi s with cnt := { s.cnt with
          meters := mset s.cnt.meters p { mgetD s.cnt.meters p {} with rxPeak := 0, txPeak := 0 } } }))
  ∧ (∀ k, starts 0x1005 vi io e s = true → counterKind (e.p 24 2) = some k → exec (.cntDescribe vi io) s =
      .next (completed vi io e (.read (taken vi s) (putLe 1 k ++ zeros 3 ++ putLe 4 (kindSize k)) [])))

/-- The boundaries of selectable counters and of bandwidth meters (R521, R522, R524): the window is stored and a new one begins, of the new binding
where one waits; a binding that was released ends; other counters and meters stay. The meter of a port that is not UP stores 0. -/
def Obligations.CntEventsComplete : Prop :=
  ∀ s : State,
    (∀ n c, mget s.cnt.sel n = some c → (c.bound = true ∨ c.pending ≠ none) →
      (c.alignTime = false ∧ c.nextAt ≤ s.mono ∨ c.alignTime = true ∧ c.nextAt ≤ s.timeNs) → ∃ t d,
      exec (.cntWindowBoundary n) s = .next t ∧ (∀ m, m ≠ n → mget t.cnt.sel m = mget s.cnt.sel m) ∧ mget t.cnt.sel n = some d
      ∧ d.current = (if c.bound || c.pending.isSome then 0 else c.current)
      ∧ (c.bound = true → d.last = c.current ∧ d.seq = (c.seq + 1) % 2 ^ 32)
      ∧ (c.bound = true → c.pending = none → d.peak = max c.peak c.current ∧ d.total = c.total
          ∧ d.nextAt = (if c.alignTime then c.nextAt + c.window * 1000 else c.nextAt + Config.us c.window))
      ∧ (c.pending = some none → d.bound = false)
      ∧ (∀ ev idx w al, c.pending = some (some (ev, idx, w, al)) → d.bound = true ∧ d.event = ev ∧ d.index = idx ∧ d.window = w ∧ d.alignTime = al
          ∧ d.total = 0 ∧ d.peak = 0 ∧ d.nextAt = s.nextBoundary w al)
      ∧ d.pending = none ∧ t.cnt.vals = s.cnt.vals ∧ t.cnt.ovf = s.cnt.ovf ∧ t.cnt.meters = s.cnt.meters ∧ Changes [.cnt] s t)
  ∧ (∀ port m, port < 128 → mgetD s.cnt.meters port {} = m → s.due (nextMultiple (Config.us m.window) m.boundary) = true →
      (s.portUp port = true → exec (.meterWindowBoundary port) s = .next { s with
        cnt := { s.cnt with
          meters := mset s.cnt.meters port
            { m with
               lastRxF := m.rxF, lastRxB := m.rxB, lastTxF := m.txF, lastTxB := m.txB, rxF := 0, rxB := 0, txF := 0, txB := 0,
               rxPeak := max m.rxPeak m.rxB, txPeak := max m.txPeak m.txB, boundary := nextMultiple (Config.us m.window) m.boundary,
               window := m.newWindow.getD m.window, newWindow := none } } })
      ∧ (s.portUp port = false → exec (.meterWindowBoundary port) s = .next { s with
        cnt := { s.cnt with
          meters := mset s.cnt.meters port
            { m with
               lastRxF := 0, lastRxB := 0, lastTxF := 0, lastTxB := 0, rxF := 0, rxB := 0, txF := 0, txB := 0,
               boundary := nextMultiple (Config.us m.window) m.boundary,
               window := m.newWindow.getD m.window, newWindow := none } } }))

/-- Commands of family PORT (R119–R122, R126, R128, R142, R143, R148–R150): a port is configured, left as it is or deleted, brought up or down, and
its SecY, receive SCs and SAs are set, added, removed and enabled. What is said of a port is said of that port alone. -/
def Obligations.PortCommandsComplete : Prop :=
  ∀ (vi p : Nat) (io : HostIo) (e : Entry) (s : State), p = e.p 24 1 →
    (starts 0x0301 vi io e s = true → p < 128 → p ∉ s.frm.swapLeft → ((s.pcfg p).map PortCfg.type = some 2 → s.otnReferred p = false) →
      s.onTrial = false →
      (e.p 25 1 = 0 → (s.pcfg p).isSome = true → ∃ u, exec (.portConfig vi io) s = .next (completed vi io e (.ok (saveSettings u)))
        ∧ u = portDelete p (taken vi s))
      ∧ (∀ type lanes c, type = e.p 25 1 → lanes = e.p 26 1 → (type = 1 ∨ type = 2) →
          modeSupported type lanes (e.p 27 1) (e.p 28 1) (e.p 29 1) = true → (type = 1 → e.p 29 1 = 0) →
          (type = 2 → lanes = max 1 (e.p 29 1 / 2) ∧ e.p 27 1 = 0 ∧ e.p 28 1 = 0) →
          c = { (((s.pcfg p).filter (fun o => o.type == type)).getD {}) with
            type := type, lanes := lanes, cls := e.p 27 1, fec := e.p 28 1, otucN := e.p 29 1, txInvert := e.p 32 1, rxInvert := e.p 33 1,
            maxFrame := if e.p 30 2 = 0 then 9216 else e.p 30 2, downDebounce := e.p 34 2,
            upDebounce := if e.p 36 2 = 0 then 10 else e.p 36 2, sdExp := if e.p 38 1 = 0 then 4 else e.p 38 1 } →
          64 ≤ c.maxFrame → c.maxFrame ≤ 10240 → c.downDebounce ≤ 100 → c.upDebounce ≤ 10000 → 2 ≤ c.sdExp → c.sdExp ≤ 9 →
          p % lanes = 0 → (s.cageOf p lanes).isSome = true →
          s.port.cfg.any (fun x => decide (x.1 ≠ p) && rangesMeet (x.1, x.2.lanes) (p, lanes)) = false →
          (s.pcfg p = some c → exec (.portConfig vi io) s = .next (completed vi io e (.ok (taken vi s))))
          ∧ (s.pcfg p ≠ some c → (type = 1 → c.secy.cipher = 1 → lanes * c.cls * 100 ≤ 200) →
              exec (.portConfig vi io) s = .next (completed vi io e (.ok (saveSettings (portApply p c (taken vi s))))))))
  ∧ (starts 0x0302 vi io e s = true → p < 128 → e.p 26 1 ≤ 2 → (s.pcfg p).isSome = true →
      (∀ u, e.p 25 1 = 1 → u = (taken vi s).modPort p (fun x => { x with adminUp := true, loopback := e.p 26 1, defects := setBit x.defects 5 false }) →
        exec (.portAdmin vi io) s = .next (completed vi io e (.ok (setCause p 16 (e.p 26 1 == 2) (portTrain p u)))))
      ∧ (∀ u, e.p 25 1 = 0 → u = (taken vi s).modPort p (fun x => { x with adminUp := false, loopback := e.p 26 1, defects := setBit x.defects 5 true }) →
        exec (.portAdmin vi io) s = .next (completed vi io e (.ok (setCause p 16 (e.p 26 1 == 2) (portDisable p u)))))
      ∧ (e.p 25 1 = 1 → e.p 26 1 = 0 → (s.lport p).st = .disabled → (s.lport p).defects.getLsbD 16 = false → ∃ u,
        exec (.portAdmin vi io) s = .next (completed vi io e (.ok u)) ∧ u.lport p = { s.lport p with
          adminUp := true, loopback := 0, st := .training, defects := setBit (s.lport p).defects 5 false }
        ∧ (∀ q, q ≠ p → u.lport q = s.lport q) ∧ u.port.cfg = s.port.cfg ∧ Changes [.port] (taken vi s) u))
  ∧ (starts 0x0303 vi io e s = true → p < 128 → s.ownsPort vi p = true → exec (.portStatus vi io) s =
      .next (completed vi io e (.read (taken vi s) (putLe 1 (s.lport p).st.code ++ zeros 3
        ++ putLe 4 (s.lport p).defects.toNat ++ putLe 4 (s.counter Cn.portFlaps p)) [])))
  ∧ (∀ c y u, starts 0x0304 vi io e s = true → s.pcfg p = some c → c.type = 1 → e.p 25 1 ≤ 1 → (e.p 26 1 = 1 ∨ e.p 26 1 = 2) →
      e.p 27 1 ∈ [0, 30, 50] → e.p 28 1 ≤ 2 → e.p 40 4 ≤ 2 ^ 30 → (e.p 26 1 = 1 → c.lanes * c.cls * 100 ≤ 200) → s.onTrial = false →
      y = ({ enable := e.p 25 1 == 1, cipher := e.p 26 1, confOffset := e.p 27 1, validate := e.p 28 1, flags := e.p 29 1, txSci := e.p 32 8,
             replayWindow := e.p 40 4, pnThreshold := if e.p 48 8 = 0 then pnSpace (e.p 26 1) / 4 * 3 else e.p 48 8 } : SecY) →
      u = (taken vi s).modPcfg p (fun c => { c with secy := y }) →
      ({ s.secy p with enable := y.enable } = y →
        exec (.portMacsecSecy vi io) s = .next (completed vi io e (.ok (saveSettings (macsecRefresh p u)))))
      ∧ ({ s.secy p with enable := y.enable } ≠ y → exec (.portMacsecSecy vi io) s = .next (completed vi io e (.ok (saveSettings
          (macsecRefresh p (u.modPort p (fun x => { x with txSas := [], rxScs := x.rxScs.map (fun r => (r.1, [])) }))))))))
  ∧ (∀ c sci, starts 0x0305 vi io e s = true → s.pcfg p = some c → c.type = 1 → sci = e.p 32 8 →
      (e.p 25 1 = 1 → mhas (s.lport p).rxScs sci = true → exec (.portMacsecRxsc vi io) s = .next (completed vi io e (.ok (taken vi s))))
      ∧ (e.p 25 1 = 1 → mhas (s.lport p).rxScs sci = false → (s.lport p).rxScs.length < 64 →
          sumOf s.port.ports (fun x => x.2.rxScs.length) < 4096 → s.onTrial = false →
          exec (.portMacsecRxsc vi io) s = .next (completed vi io e (.ok (saveSettings
            (((taken vi s).modPort p (fun x => { x with rxScs := mset x.rxScs sci [] })).modPcfg p (fun c => { c with scis := addOnce c.scis sci }))))))
      ∧ (e.p 25 1 = 2 → mhas (s.lport p).rxScs sci = true → s.onTrial = false →
          exec (.portMacsecRxsc vi io) s = .next (completed vi io e (.ok (saveSettings
            (((taken vi s).modPort p (fun x => { x with rxScs := mdel x.rxScs sci })).modPcfg p (fun c => { c with scis := without c.scis sci })))))))
  ∧ (∀ c an key sci, starts 0x0306 vi io e s = true → s.pcfg p = some c → c.type = 1 → an = e.p 26 1 → an ≤ 3 → mhas s.sec.mka p = false →
      key = e.p 28 2 → sci = e.p 32 8 →
      (e.p 25 1 = 0 → sci = 0 →
        (e.p 27 1 = 1 → s.sakFor key p = true → exec (.portMacsecSa vi io) s = .next (completed vi io e (.ok (macsecRefresh p
          ((taken vi s).modPort p (fun x => { x with txSas := mset x.txSas an { key := key, pn := e.p 40 8 } }))))))
        ∧ (e.p 27 1 = 2 → mhas (s.lport p).txSas an = true → ((mget (s.lport p).txSas an).map Sa.enabled).getD false = false →
          exec (.portMacsecSa vi io) s = .next (completed vi io e (.ok (macsecRefresh p
            ((taken vi s).modPort p (fun x => { x with txSas := mdel x.txSas an }))))))
        ∧ (e.p 27 1 = 3 → mhas (s.lport p).txSas an = true → exec (.portMacsecSa vi io) s = .next (completed vi io e (.ok (macsecRefresh p
          ((taken vi s).modPort p (fun x => { x with txSas := x.txSas.map (fun a => (a.1, { a.2 with enabled := a.1 == an })) })))))))
      ∧ (∀ m, e.p 25 1 = 1 → mget (s.lport p).rxScs sci = some m →
        (e.p 27 1 = 1 → s.sakFor key p = true → exec (.portMacsecSa vi io) s = .next (completed vi io e (.ok ((taken vi s).modPort p (fun x =>
          { x with rxScs := mset x.rxScs sci (mset m an { key := key, pn := e.p 40 8 }) })))))
        ∧ (e.p 27 1 = 2 → mhas m an = true → exec (.portMacsecSa vi io) s = .next (completed vi io e (.ok ((taken vi s).modPort p (fun x =>
          { x with rxScs := mset x.rxScs sci (mdel m an) })))))
        ∧ (e.p 27 1 = 3 → mhas m an = true → exec (.portMacsecSa vi io) s = .next (completed vi io e (.ok ((taken vi s).modPort p (fun x =>
          { x with rxScs := mset x.rxScs sci (mmod m an {} (fun a => { a with enabled := true })) })))))))

/-- The reports of the board controller on a module, while firmware is ready (R111, Table BU-7): an application that suits the cage's ports is
requested, or the module is a mismatch; a module that becomes READY, fails or goes takes the cause MODULE from the ports of its cage or gives it to
them. -/
def Obligations.ModuleEventsComplete : Prop :=
  ∀ (cage : Nat) (s : State), s.hif.fwReady = true →
    (∀ apps want, (s.cage cage).st = .empty → mhas s.dev.cfg.cages cage = true →
      want = (match s.portsIn cage with | [] => apps.head? | p :: _ => if s.portGbps p ∈ apps then some (s.portGbps p) else none) →
      (∀ r, want = some r → ∃ t, exec (.moduleInsert cage apps) s = .next t ∧ t.cage cage = { st := .present, apps := apps, since := s.mono }
        ∧ (∀ q, q ≠ cage → t.cage q = s.cage q) ∧ .appRequest cage r ∈ t.out ∧ Changes [.rings, .dev, .cnt, .out] s t)
      ∧ (want = none → ∃ t, exec (.moduleInsert cage apps) s = .next t ∧ t.cage cage = { st := .mismatch, apps := apps, since := s.mono }
        ∧ (∀ q, q ≠ cage → t.cage q = s.cage q) ∧ Changes [.rings, .dev, .cnt, .out] s t))
  ∧ ((s.cage cage).st = .present → ∃ t, exec (.moduleReady cage) s = .next t
      ∧ t = moduleCause cage false (cageEvent Ev.portModuleReady cage [] (s.setCage cage { s.cage cage with st := .ready }))
      ∧ t.dev = (s.setCage cage { s.cage cage with st := .ready }).dev)
  ∧ ((s.cage cage).st = .fault → exec (.moduleReady cage) s = .next (cageReady cage (cageInsert cage (s.cage cage).apps s)))
  ∧ (∀ code, (s.cage cage).st = .present ∨ (s.cage cage).st = .ready → ∃ t, exec (.moduleFault cage code) s = .next t
      ∧ t.dev = (s.setCage cage { s.cage cage with st := .fault }).dev ∧ (s.portsIn cage = [] →
        Changes [.rings, .cnt, .out] (s.setCage cage { s.cage cage with st := .fault }) t))
  ∧ (mhas s.dev.cfg.cages cage = true ∨ (s.cage cage).st ≠ .empty → ∃ t, exec (.moduleRemove cage) s = .next t ∧ t.dev = (s.setCage cage {}).dev
      ∧ t = moduleCause cage true (cageEvent Ev.portModuleOut cage [] (s.setCage cage {})))
  ∧ (∀ flags, (s.cage cage).st = .ready → exec (.moduleFlag cage flags) s =
      .next (notify Ev.portModuleNotify (putLe 1 cage ++ putLe 1 (s.cagePort cage) ++ fit 14 flags) (s.ownersOf (s.cagePort cage)) s))
  ∧ ((s.cage cage).st = .present → s.due ((s.cage cage).since + Config.sec 60) = true → ∃ t, exec (.moduleReadyTimeout cage) s = .next t
      ∧ t.dev = (s.setCage cage { s.cage cage with st := .fault }).dev ∧ (s.portsIn cage = [] →
        Changes [.rings, .cnt, .out] (s.setCage cage { s.cage cage with st := .fault }) t))

/-- Line defects and the port state machine (R126, R129–R132, Tables LN-3 to LN-5). A defect that the line shows rises and clears with its
consequences, OOF by the hunt alone, LOF after 3 ms of OOF or of none (assumption log entry 138), AIS of one through tributary by itself. -/
def Obligations.LineEventsComplete : Prop :=
  ∀ (port : Nat) (s : State),
    (∀ i, s.portLive port = true → lineBit (s.isOtn port) i = true → (s.lport port).defects.getLsbD i = false →
      (i = 8 → (s.lport port).defects.getLsbD 7 = true ∧ s.due ((s.lport port).oofAt + Config.ms 3) = true) →
      exec (.lineDefectDetect port i none) s = .next (lineDefect port i none true s))
  ∧ (∀ i, s.portLive port = true → s.isOtn port = false → i ≤ 3 → (s.lport port).defects.getLsbD i = false → ∃ t,
      exec (.lineDefectDetect port i none) s = .next t ∧ (t.lport port).defects = setBit (s.lport port).defects i true
      ∧ (∀ q, q ≠ port → t.lport q = s.lport q))
  ∧ (∀ i trib through, s.portLive port = true → lineBit (s.isOtn port) i = true →
      through = (i == 12 && (mget s.frm.cfg.tribs (port * 128 + trib)).any (fun x => x.kind == 2)) →
      (through = true → trib ∉ (s.lport port).tribAis → exec (.lineDefectDetect port i (some trib)) s = .next (tribDefect port trib true s))
      ∧ (through = false → (s.lport port).defects.getLsbD i = false →
          exec (.lineDefectDetect port i (some trib)) s = .next (lineDefect port i (some trib) true s))
      ∧ (i ≠ 7 → through = true → trib ∈ (s.lport port).tribAis → exec (.lineDefectClear port i (some trib)) s = .next (tribDefect port trib false s))
      ∧ (i ≠ 7 → through = false → (s.lport port).defects.getLsbD i = true →
          exec (.lineDefectClear port i (some trib)) s = .next (lineDefect port i (some trib) false s)))
  ∧ (∀ i, s.portLive port = true → lineBit (s.isOtn port) i = true → i ≠ 7 → (s.lport port).defects.getLsbD i = true →
      (i = 8 → (s.lport port).defects.getLsbD 7 = false ∧ s.due ((s.lport port).inFrameAt + Config.ms 3) = true) →
      exec (.lineDefectClear port i none) s = .next (lineDefect port i none false s))
  ∧ (∀ i, s.portLive port = true → s.isOtn port = false → i ≤ 3 → (s.lport port).defects.getLsbD i = true → ∃ t,
      exec (.lineDefectClear port i none) s = .next t ∧ (t.lport port).defects = setBit (s.lport port).defects i false
      ∧ (∀ q, q ≠ port → t.lport q = s.lport q))
  ∧ (∀ c errors symbols u, s.portLive port = true → s.pcfg port = some c →
      u = (if errors = 0 then count Cn.portFecSymbols port 0 s else
        (count Cn.portFecCorr port (min errors (Config.freeNat (count Cn.portFecSymbols port errors s).draw))
          (count Cn.portFecSymbols port errors s)).drawn) →
      ((s.lport port).defects.getLsbD 14 = false → errors * 10 ^ c.sdExp ≤ symbols → exec (.fecDegradeWindow port errors symbols) s = .next u)
      ∧ ((s.lport port).defects.getLsbD 14 = false → symbols < errors * 10 ^ c.sdExp → ∃ t, exec (.fecDegradeWindow port errors symbols) s = .next t
          ∧ (t.lport port).defects = setBit (s.lport port).defects 14 true ∧ (∀ q, q ≠ port → t.lport q = s.lport q))
      ∧ ((s.lport port).defects.getLsbD 14 = true → symbols ≤ errors * 10 ^ (c.sdExp + 1) →
          exec (.fecDegradeWindow port errors symbols) s = .next (u.modPort port (fun x => { x with goodWindows := 0 })))
      ∧ ((s.lport port).defects.getLsbD 14 = true → errors * 10 ^ (c.sdExp + 1) < symbols → (s.lport port).goodWindows < 9 →
          exec (.fecDegradeWindow port errors symbols) s = .next (u.modPort port (fun x => { x with goodWindows := x.goodWindows + 1 })))
      ∧ ((s.lport port).defects.getLsbD 14 = true → errors * 10 ^ (c.sdExp + 1) < symbols → 9 ≤ (s.lport port).goodWindows →
          exec (.fecDegradeWindow port errors symbols) s = .next (fecDegrade port false (u.modPort port (fun x => { x with goodWindows := 0 })))))
  ∧ (∀ view h u, s.portLive port = true → s.isOtn port = true → (s.lport port).defects.getLsbD 7 = true →
      h = (if view.markers then huntCycle view.shown (s.lport port) else ([], [])) → u = s.modPort port (fun x => { x with hunt := h.1, huntOut := h.2 }) →
      (qualifying h.1 = 0 → exec (.alignmentHuntCycle port view) s = .next u)
      ∧ (qualifying h.1 = 1 → ∃ t, exec (.alignmentHuntCycle port view) s = .next t
          ∧ (t.lport port).defects = setBit (s.lport port).defects 7 false ∧ (t.lport port).hunt = [] ∧ (∀ q, q ≠ port → t.lport q = s.lport q))
      ∧ (2 ≤ qualifying h.1 → ∃ t, exec (.alignmentHuntCycle port view) s = .next t ∧ Changes [.rings, .cnt, .out]
          (s.modPort port (fun x => { x with hunt := h.1, huntOut := h.2, ambigSeen := true })) t))
  ∧ (∀ c u, s.portLive port = true → (s.isOtn port = false ∨ s.dev.phase = .full) → s.pcfg port = some c →
      (s.lport port).causes &&& ~~~ (0x8000 : Word) = 0 → u = s.modPort port (fun x => { x with
        st := .upWait, defects := setBit x.defects 15 false, timer := some (s.mono + Config.ms c.upDebounce) }) →
      ((s.lport port).st = .training ∨ (s.lport port).st = .down ∧ (s.lport port).causes ≠ 0 →
        exec (.portLanesLocked port) s = .next (retrainDone port u) ∧ (port ∉ s.dev.retraining → exec (.portLanesLocked port) s = .next u))
      ∧ ((s.lport port).st = .downWait → (s.lport port).causes ≠ 0 → exec (.portLanesLocked port) s = .next (retrainDone port
          (portEvaluate port (s.modPort port (fun x => { x with defects := setBit x.defects 15 false }))))))
  ∧ (∀ at_, (s.lport port).st = .upWait → (s.lport port).timer = some at_ → at_ ≤ s.mono → ∃ t,
      exec (.upDebounceExpiry port) s = .next t ∧ t.port = (s.modPort port (fun x => { x with st := .up, timer := none })).port)
  ∧ (∀ at_, (s.lport port).st = .downWait → (s.lport port).timer = some at_ → at_ ≤ s.mono → ∃ t,
      exec (.downDebounceExpiry port) s = .next t ∧ t.port = (s.modPort port (fun x => { x with st := .down, timer := none })).port)

/-- Commands of family FRM (R133, R134, R136, R137, R139, R141, R148, R151). -/
def Obligations.FrmCommandsComplete : Prop :=
  ∀ (vi : Nat) (io : HostIo) (e : Entry) (s : State),
    (starts 0x0401 vi io e s = true → e.p 24 1 < 128 → s.isOtn (e.p 24 1) = true → e.p 25 1 < 80 → e.p 26 1 = 2 →
      mhas s.frm.cfg.tribs (e.p 24 1 * 128 + e.p 25 1) = true → s.tribReferred (e.p 24 1) (e.p 25 1) = false → s.onTrial = false →
      exec (.frmTrib vi io) s = .next (completed vi io e (.ok (saveSettings { taken vi s with
        frm := { s.frm with cfg := { s.frm.cfg with tribs := mdel s.frm.cfg.tribs (e.p 24 1 * 128 + e.p 25 1) } } }))))
  ∧ (∀ p k tr need, p = e.p 24 1 → k = p * 128 + e.p 25 1 → starts 0x0401 vi io e s = true → p < 128 → s.isOtn p = true → e.p 25 1 < 80 →
      e.p 26 1 = 1 → 40 ≤ e.dataLen → tr = ({ kind := e.p 27 1, rate := e.p 28 1, slip := e.p 29 1 == 1, slots := bitsSet (leVal (e.buf.take 40)) 320 } : Trib) →
      need = (if tr.kind = 1 then Config.clientSlots tr.rate else tr.slots.length) →
      ((tr.kind = 1 ∧ 1 ≤ tr.rate ∧ tr.rate ≤ 5 ∧ e.p 29 1 = 0) ∨ (tr.kind = 2 ∧ tr.rate = 0 ∧ e.p 29 1 ≤ 1)) →
      tr.slots ≠ [] → (∀ x ∈ tr.slots, x < s.slots p) → tr.slots.length = need →
      (∀ x ∈ s.frm.cfg.tribs, x.1 ≠ k → x.1 / 128 = p → (∀ y ∈ x.2.slots, y ∉ tr.slots) ∧ (tr.kind = 1 → x.2.kind ≠ 1)) →
      (s.frm.cfg.tribs.filter (fun x => decide (x.1 ≠ k))).length < 1024 →
      (s.frm.cfg.tribs.filter (fun x => decide (x.1 ≠ k) && x.1 / 128 == p)).length < 80 →
      (mget s.frm.cfg.tribs k = none ∨ mget s.frm.cfg.tribs k = some tr ∨ s.tribReferred p (e.p 25 1) = false) → s.onTrial = false →
      exec (.frmTrib vi io) s = .next (completed vi io e (.ok (saveSettings { taken vi s with
        frm := { s.frm with cfg := { s.frm.cfg with tribs := mset s.frm.cfg.tribs k tr } } }) (putLe 2 need))))
  ∧ (∀ page, starts 0x0402 vi io e s = true → e.p 24 1 < 128 → s.isOtn (e.p 24 1) = true → e.p 24 1 ∉ s.frm.swapLeft →
      e.dataLen = 4 * s.slots (e.p 24 1) → page = (chunks 4 (s.slots (e.p 24 1)) e.buf).map (fun b => BitVec.ofNat 32 (leVal b)) →
      page.any (fun w => decide (w &&& 0x3F00FE00 ≠ 0)) = false → page.any (fun w => w.toNat / 2 ^ 30 == 3) = false →
      s.pageOk (e.p 24 1) page = true → s.onTrial = false → exec (.frmTsiStage vi io) s = .next (completed vi io e (.ok (saveSettings
        { taken vi s with frm := { s.frm with cfg := { s.frm.cfg with standby := mset s.frm.cfg.standby (e.p 24 1) page } } }))))
  ∧ (starts 0x0403 vi io e s = true → bitsSet (e.p 24 16) 128 ≠ [] → (bitsSet (e.p 24 16) 128).all s.isOtn = true → s.frm.swapLeft = [] →
      s.onTrial = false → exec (.frmTsiSwap vi io) s = .next (completed vi io e {
        st := { taken vi s with
          frm := { s.frm with swapLeft := bitsSet (e.p 24 16) 128, swapAll := bitsSet (e.p 24 16) 128, swapT := s.timeNs + 10000 } },
        result := putLe 8 (s.timeNs + 10000), wait := some (.tsiSwap, true) }))
  ∧ (∀ n c u, n = e.p 24 2 → c = ({
        level := e.p 27 1, wPort := e.p 28 1, wTrib := e.p 29 1, pPort := e.p 30 1, pTrib := e.p 31 1,
        revertive := bit (e.p 32 1) 0, sdTrigger := bit (e.p 32 1) 1, holdoff := e.p 33 1, wtr := e.p 34 1 } : ProtCfg) →
      u = ({ taken vi s with frm := { s.frm with cfg := { s.frm.cfg with prots := mset s.frm.cfg.prots n c } } } : State) →
      starts 0x0404 vi io e s = true → n < 256 → e.p 26 1 = 1 → (c.level = 1 ∨ c.level = 2) → c.holdoff ≤ 100 → 1 ≤ c.wtr → c.wtr ≤ 12 →
      s.isOtn c.wPort = true → s.isOtn c.pPort = true → s.protPair c = true → (c.wPort ≠ c.pPort ∨ c.wTrib ≠ c.pTrib) → s.onTrial = false →
      exec (.frmProt vi io) s = .next (completed vi io e (.ok (saveSettings (protRefresh u n c u))
        (putLe 1 (b2n (mgetD (protRefresh u n c u).frm.prots n {}).selected)))))
  ∧ (∀ n c u, n = e.p 24 2 →
      u = ({ taken vi s with frm := { s.frm with prots := mset s.frm.prots n { mgetD s.frm.prots n {} with opCmd := e.p 35 1 } } } : State) →
      starts 0x0404 vi io e s = true → n < 256 → e.p 26 1 = 3 → mget s.frm.cfg.prots n = some c → e.p 35 1 ≤ 4 →
      exec (.frmProt vi io) s = .next (completed vi io e (.ok (protRefresh u n c u)
        (putLe 1 (b2n (mgetD (protRefresh u n c u).frm.prots n {}).selected)))))
  ∧ (starts 0x0404 vi io e s = true → e.p 24 2 < 256 → e.p 26 1 = 2 → mhas s.frm.cfg.prots (e.p 24 2) = true → s.onTrial = false →
      exec (.frmProt vi io) s = .next (completed vi io e (.ok (saveSettings { taken vi s with
        frm := { s.frm with cfg := { s.frm.cfg with prots := mdel s.frm.cfg.prots (e.p 24 2) },
                            prots := mdel s.frm.prots (e.p 24 2) } })
        (putLe 1 (b2n (mgetD s.frm.prots (e.p 24 2) {}).selected)))))
  ∧ (starts 0x0405 vi io e s = true → e.p 24 1 < 8 → e.p 25 1 = 2 → s.onTrial = false →
      exec (.frmOhs vi io) s = .next (completed vi io e (.ok (saveSettings { taken vi s with
        frm := { s.frm with cfg := { s.frm.cfg with ohs := mdel s.frm.cfg.ohs (e.p 24 1) } } }))))
  ∧ (starts 0x0405 vi io e s = true → e.p 24 1 < 8 → e.p 25 1 = 1 → e.p 26 1 < 128 → s.isOtn (e.p 26 1) = true → 1 ≤ e.p 27 1 →
      e.p 27 1 ≤ 5 → s.onTrial = false → exec (.frmOhs vi io) s = .next (completed vi io e (.ok (saveSettings { taken vi s with
        frm := { s.frm with
          cfg := { s.frm.cfg with
            ohs := mset s.frm.cfg.ohs (e.p 24 1)
              { port := e.p 26 1, channel := e.p 27 1, drop := bit (e.p 28 1) 0, insert := bit (e.p 28 1) 1 } } } }))))
  ∧ (starts 0x0406 vi io e s = true → e.p 24 1 < 128 → s.ownsPort vi (e.p 24 1) = true → s.isOtn (e.p 24 1) = true →
      exec (.frmStatus vi io) s = .next (completed vi io e (.read (taken vi s) (putLe 4 (s.lport (e.p 24 1)).defects.toNat
        ++ putLe 2 (s.lport (e.p 24 1)).tribAis.length ++ putLe 1 (b2n (decide (e.p 24 1 ∈ s.frm.swapLeft)))) [])))

/-- Protection groups, the interchange and the overhead channels as time and the line move them (R135, R136, R140, R141). -/
def Obligations.FrmEventsComplete : Prop :=
  ∀ s : State,
    (∀ g c at_, mget s.frm.cfg.prots g = some c → (mgetD s.frm.prots g {}).holdoffAt = some at_ → at_ ≤ s.mono → ∃ t,
      exec (.protHoldoffExpiry g) s = .next t ∧ Changes [.rings, .cnt, .out] { s with
        frm := { s.frm with
          prots := mset s.frm.prots g { mgetD s.frm.prots g {} with
            selected := (s.protWants c (mgetD s.frm.prots g {})).1, holdoffAt := none } } } t)
  ∧ (∀ g at_, mget s.frm.cfg.prots g = none → (mgetD s.frm.prots g {}).wtrAt = some at_ → at_ ≤ s.mono →
      exec (.waitToRestoreExpiry g) s = .next { s with
        frm := { s.frm with prots := mset s.frm.prots g { mgetD s.frm.prots g {} with wtrAt := none } } })
  ∧ (∀ g c at_, mget s.frm.cfg.prots g = some c → (mgetD s.frm.prots g {}).wtrAt = some at_ → at_ ≤ s.mono → ∃ t,
      exec (.waitToRestoreExpiry g) s = .next t ∧ (mgetD t.frm.prots g {}).wtrAt = none
      ∧ (mgetD t.frm.prots g {}).selected = (s.protWants c { mgetD s.frm.prots g {} with wtrAt := none }).1
      ∧ (∀ h, h ≠ g → mgetD t.frm.prots h {} = mgetD s.frm.prots h {}) ∧ Changes [.rings, .frm, .cnt, .out] s t)
  ∧ (∀ port, port ∈ s.frm.swapLeft → without s.frm.swapLeft port ≠ [] → s.frm.swapT ≤ s.timeNs →
      exec (.tsiSwapInstant port) s = .next (tsiChanged s { s with
        frm := { s.frm with
          cfg := { s.frm.cfg with
            pages := mset s.frm.cfg.pages port (mgetD s.frm.cfg.standby port (List.replicate (s.slots port) 0)),
            standby := mset s.frm.cfg.standby port (mgetD s.frm.cfg.standby port (List.replicate (s.slots port) 0)) },
          swapLeft := without s.frm.swapLeft port } }))
  ∧ (∀ port, s.frm.swapLeft = [port] → s.frm.swapT ≤ s.timeNs → ∃ t, exec (.tsiSwapInstant port) s = .next t
      ∧ t.frm.swapLeft = [] ∧ t.frm.cfg.pages = mset s.frm.cfg.pages port (mgetD s.frm.cfg.standby port (List.replicate (s.slots port) 0))
      ∧ Changes [.rings, .queue, .frm, .sec, .cnt, .out] s t)
  ∧ (∀ port trib tr del, s.portLive port = true → mget s.frm.cfg.tribs (port * 128 + trib) = some tr → tr.kind = 2 → tr.slip = true →
      ∃ t, exec (.tsiSlip port trib del) s = .next t ∧ .odukSlip port trib del ∈ t.out
      ∧ Changes [.rings, .cnt, .out] { s with frm := { s.frm with slips := (rated s.frm.slips (port * 128 + trib) s.mono).2.2 } } t)
  ∧ (∀ n c mfas line inserted need body u v, mget s.frm.cfg.ohs n = some c → s.portLive c.port = true → s.isOtn c.port = true →
      u = ({ s with frm := { s.frm with ohsSeq := mset s.frm.ohsSeq n ((mgetD s.frm.ohsSeq n 0 + 1) % 256) } } : State) →
      v = (if c.drop then u.emit (.ohs n ([BitVec.ofNat 8 c.port, BitVec.ofNat 8 c.channel, BitVec.ofNat 8 mfas,
        BitVec.ofNat 8 (mgetD s.frm.ohsSeq n 0)] ++ line)) else u) →
      body = (inserted.drop 4).take need →
      (c.insert = false → exec (.ohsFrame n mfas line inserted need) s = .next v)
      ∧ (c.insert = true → need ≤ body.length →
          exec (.ohsFrame n mfas line inserted need) s = .next (v.emit (.ohsInsert c.port (fit need body))))
      ∧ (c.insert = true → body.length < need → exec (.ohsFrame n mfas line inserted need) s = .next
          (count Cn.frmOhsUnderrun c.port (need - body.length) (v.emit (.ohsInsert c.port (fit need body))))))

/-- The receive MAC of a line port (R123): a frame that reaches a port with a packet client is taken by the MAC, one that no check keeps back goes
on to Mill whole, an oversize frame or a runt goes no further, and PFC pauses classes for their time and no longer (R293, R296). -/
def Obligations.ReceiveMacEventsComplete : Prop :=
  ∀ (port : Nat) (s : State),
    (∀ bytes fcs, s.portUp port = true → s.hasClient port = true → (s.dev.phase = .cellar ∨ s.dev.phase = .full) →
      exec (.lineFrameReceive port bytes fcs) s = .next (frameIn port bytes fcs s)
      ∧ Changes [.draws, .rings, .port, .tbl, .mash, .sch, .pair, .log, .flt, .cnt, .out] s (frameIn port bytes fcs s))
  ∧ (∀ c bytes fcs, s.portUp port = true → s.hasClient port = true → (s.dev.phase = .cellar ∨ s.dev.phase = .full) → s.pcfg port = some c →
      s.isPaired port = false → (bytes.length < 64 ∨ c.maxFrame < bytes.length) → ∃ t,
      exec (.lineFrameReceive port bytes fcs) s = .next t ∧ t.mash = s.mash)
  ∧ (∀ c bytes, s.portUp port = true → s.pcfg port = some c → s.hasClient port = true → (s.dev.phase = .cellar ∨ s.dev.phase = .full) →
      s.isPaired port = false → s.flt.armed = [] → (s.secy port).enable = false → s.isProbe port bytes = false →
      (mhas s.sec.mka port = true → be bytes 12 2 ≠ 0x888E) →
      64 ≤ bytes.length → bytes.length ≤ c.maxFrame → be bytes 12 2 ≠ 0x8808 → ∃ t k, exec (.lineFrameReceive port bytes true) s = .next t
      ∧ t.mash.pkts = s.mash.pkts ++ [{ pkt := k }] ∧ k.inPort = port ∧ k.bytes = bytes ∧ k.id = s.mash.nextId ∧ k.fcsOk = true
      ∧ t.mash.nextId = s.mash.nextId + 1 ∧ Changes [.draws, .rings, .mash, .cnt, .out] s t)
  ∧ (∀ quanta, s.portUp port = true → s.isOtn port = false → exec (.pfcFrameReceive port quanta) s = .next (pfcReceive port quanta s)
      ∧ Changes [.rings, .port, .cnt, .out] s (pfcReceive port quanta s))
  ∧ (∀ q, s.portUp port = true → s.isOtn port = false → 0 < q → ∃ t, exec (.pfcFrameReceive port [some q]) s = .next t
      ∧ Changes [.rings, .cnt, .out] (s.modPort port (fun x => { x with paused := mset x.paused 0 (s.mono + s.pauseTime port q) })) t)
  ∧ (∀ tc at_, mget (s.lport port).paused tc = some at_ → at_ ≤ s.mono → exec (.pfcPauseExpiry port tc) s =
      .next (s.modPort port (fun x => { x with paused := mdel x.paused tc })))
  ∧ (∀ tc at_, mget (s.lport port).xoff tc = some at_ → s.due (at_ + s.pauseTime port (s.pfcOf port).quanta / 2) = true →
      exec (.pfcXoffRepeat port tc) s = .next (pfcFrame port tc (s.pfcOf port).quanta
        (s.modPort port (fun x => { x with xoff := mset x.xoff tc s.mono }))))

/-- Mill and Mash (R183, R186–R188, R212, R240): a packet that no rule before the lookup decides waits in the next pipe with its stamp; its
lookup ends in a verdict, a time-out after 20 µs in a discard; a flow cache parity error holds its set and ends after 25 µs. -/
def Obligations.MillAndMashComplete : Prop :=
  ∀ s : State,
    (∀ pkt m, s.mpkt? pkt = some m → s.mash.pkts.find? (fun x => x.pkt.inPort == m.pkt.inPort && x.stamp.isNone) = some m →
      m.stamp = none → (s.dev.phase = .cellar ∨ s.dev.phase = .full) → exec (.millParseComplete pkt) s = .next (millFinish m s))
  ∧ (∀ pkt m pipe win p, s.mpkt? pkt = some m → s.mash.pkts.find? (fun x => x.pkt.inPort == m.pkt.inPort && x.stamp.isNone) = some m →
      m.stamp = none → s.dev.phase = .full → p = parseFrame m.pkt.bytes → p.trunc = false → p.err = false → m.pkt.inPort < 128 →
      m.pkt.instEpoch = none → m.pkt.direct = none → puntClass p.hdrs = none → isPtp p.hdrs = false →
      (s.raOf m.pkt.inPort).1 = false → s.nextPipe = some pipe →
      s.millTake m.pkt.inPort m.pkt.bytes.length = some win → exec (.millParseComplete pkt) s =
        .next (((s.modMash (fun x => { x with mill := win })).setMpkt { m with
          stamp := some (s.stampFor m.pkt), stampAt := s.mono, hash := flowHash s.tbl.cfg.hashSeed p.hdrs,
          pipe := pipe, profiles := s.asa.profiles }).modMash (fun x => { x with nextPipe := pipe + 1 })))
  ∧ (∀ pkt m epoch, s.mpkt? pkt = some m → m.stamp = some epoch → m.verdict = none → (parseFrame m.pkt.bytes).err = false → epoch ≠ 0 →
      mget (s.tablesOf epoch).ports m.pkt.inPort = none →
      exec (.lookupComplete pkt) s = .next (decideVerdict { m with polOps := [], asaAsk := none, rdAsk := none, bankWait := false } (.discard 7) s))
  ∧ (∀ pkt m epoch v ops u, s.mpkt? pkt = some m → m.stamp = some epoch → m.verdict = none → fullLookup m epoch s = (some (v, ops), u) →
      exec (.lookupComplete pkt) s = .next (decideVerdict { m with polOps := ops, asaAsk := none, rdAsk := none, bankWait := false } v u))
  ∧ (∀ pkt m epoch u, s.mpkt? pkt = some m → m.stamp = some epoch → m.verdict = none → fullLookup m epoch s = (none, u) →
      exec (.lookupComplete pkt) s = .next u)
  ∧ (∀ pkt m epoch, s.mpkt? pkt = some m → m.stamp = some epoch → m.verdict = none → m.stampAt + Config.us 20 ≤ s.mono →
      exec (.lookupTimeout pkt) s = .next (lookupTimeout m s))
  ∧ (∀ pkt m epoch n tos, s.mpkt? pkt = some m → m.stamp = some epoch → m.verdict = none → m.stampAt + Config.us 20 ≤ s.mono →
      rated s.tbl.timeouts m.pkt.inPort s.mono = (false, n, tos) → exec (.lookupTimeout pkt) s =
        .next (decideVerdict { m with asaAsk := none, rdAsk := none, bankWait := false } (.discard 5)
          (count Cn.lkpTimeout m.pkt.inPort 1 { s with tbl := { s.tbl with timeouts := tos } })))
  ∧ (∀ set way, way < 8 → set < 2 ^ 17 → ∃ t, exec (.cacheParityError set way) s = .next t
      ∧ t.mash = { s.mash with
        parity := mset s.mash.parity set (s.mono + Config.us 25), badWays := addOnce s.mash.badWays (set * 8 + way) } ∧ Changes [.draws, .rings, .mash, .log, .cnt, .out] s t)
  ∧ (∀ set at_, mget s.mash.parity set = some at_ → at_ ≤ s.mono → ∃ t, exec (.cacheSetClear set) s = .next t
      ∧ t.mash.cache = s.mash.cache.filter (fun c => decide (c.1 / 8 ≠ set)) ∧ t.mash.parity = mdel s.mash.parity set
      ∧ t.mash.badWays = s.mash.badWays.filter (fun w => decide (w / 8 ≠ set)) ∧ t.mash.untracked = mdel s.mash.untracked set ∧ t.mash.trub = s.mash.trub ∧ t.mash.bridge = s.mash.bridge ∧ Changes [.mash] s t)

/-- The Q-die end of the Wort Bridge (R38, R225–R227, R239, R276, R385): what arrives next of a port leaves the bridge, and a packet that
passes every test joins its VOQ. -/
def Obligations.QDieComplete : Prop :=
  ∀ s : State,
    (∀ port k r, s.bridgeHead port = some (.result k r) →
      (k.arrival ≠ none → exec (.resultAdmission port) s = .next (numberItem port (.result k r) (popBridge port s)))
      ∧ (k.arrival = none → r.action = 2 → exec (.resultAdmission port) s = .next (admitResult k r none none (popBridge port s)))
      ∧ (k.arrival = none → r.action ≠ 2 → s.sliceTurn (voqKey r.destSp r.tc) (sliceOf port) = true → exec (.resultAdmission port) s =
          .next (admitResult k r none none (takeAt port (voqKey r.destSp r.tc) s))))
  ∧ (∀ port k r i, s.bridgeHead port = some (.prediction k r i) → s.sliceTurn (voqKey r.destSp r.tc) (sliceOf port) = true →
      exec (.resultAdmission port) s = .next (takePrediction k r i (takeAt port (voqKey r.destSp r.tc) s)))
  ∧ (∀ port a, s.bridgeHead port = some (.none_ a) → exec (.noneToken port) s = .next (numberItem port (.none_ a) (popBridge port s)))
  ∧ (∀ pkt, (∀ e ∈ s.pair.ports, ∀ k r, .result k r ∈ e.2.held → k.id ≠ pkt) → exec (.frameLastCellWrite pkt) s = .next (lastCell pkt s))
  ∧ (∀ pkt e, s.pair.ports.find? (fun e => e.2.held.any (fun i => match i with | .result k _ => k.id == pkt | _ => false)) = some e →
      exec (.frameLastCellWrite pkt) s = .next (s.modPpair e.1 (fun x => { x with written := addOnce x.written pkt })))
  ∧ (∀ port i t, mget s.mash.trub i = some t →
      (∀ c pol cas, s.bridgeHead port = some (.confirm i c pol cas) → exec (.resolutionTokenApply port) s = .next
        (if t.st = .nocopy then closeTrub i (popBridge port s) else applyConfirm i t c pol (popBridge port s)))
      ∧ (∀ r cas, s.bridgeHead port = some (.readmit i r cas) → exec (.resolutionTokenApply port) s = .next
        (if t.st = .nocopy then closeTrub i (holdAll t.way i (popBridge port s)) else applyReadmit i t r (holdAll t.way i (popBridge port s))))
      ∧ (∀ why cas, s.bridgeHead port = some (.discard i why cas) → exec (.resolutionTokenApply port) s = .next
        (if t.st = .nocopy then closeTrub i (holdAll t.way i (popBridge port s)) else applyDiscard i t (holdAll t.way i (popBridge port s)))))
  ∧ (∀ i t, mget s.mash.trub i = some t → exec (.trubEccError i) s = .next (trubEcc i s))
  ∧ (∀ port k r u, s.bridgeHead port = some (.result k r) → k.arrival = none → r.action = 0 →
      s.sliceTurn (voqKey r.destSp r.tc) (sliceOf port) = true → u = takeAt port (voqKey r.destSp r.tc) s →
      forwardTests k r u = (.inr false, u) → u.inHbmMode (voqKey r.destSp r.tc) = false →
      caskTest k.inPort (voqKey r.destSp r.tc) r.tc r.length u = none → exec (.resultAdmission port) s =
        .next (poolUpkeep (countAdmitted k (joinVoq (voqKey r.destSp r.tc) { pkt := k, res := r, charge := r.length } u))))
  ∧ (∀ port k r i u, s.bridgeHead port = some (.prediction k r i) →
      s.sliceTurn (voqKey r.destSp r.tc) (sliceOf port) = true → u = takeAt port (voqKey r.destSp r.tc) s →
      (mgetD s.mash.trub i {}).cascaded = false → forwardTests k r u = (.inr false, u) →
      caskTest k.inPort (voqKey r.destSp r.tc) r.tc r.length u = none → exec (.resultAdmission port) s =
        .next (poolUpkeep (count Cn.raPredicted k.inPort 1 (joinVoq (voqKey r.destSp r.tc)
          { pkt := k, res := r, charge := r.length, trub := some i, seenBytes := u.voqBytes (voqKey r.destSp r.tc),
            seenAvg := (u.voq (voqKey r.destSp r.tc)).avg } u))))
  ∧ (∀ port a, s.bridgeHead port = some (.none_ a) → (s.ppair port).query = none → (s.ppair port).held = [] →
      (s.ppair port).nextArrival = a → a ∉ (s.ppair port).asked → ∃ t, exec (.noneToken port) s = .next t
        ∧ (t.ppair port).nextArrival = (a + 1) % 2 ^ 48 ∧ (t.ppair port).held = [] ∧ mget (t.ppair port).log a = some .nothing
        ∧ Changes [.mash, .pair] s t)
  ∧ (∀ pkt v k, s.pair.ports = [] → s.voqWith pkt = some (v, k) → k.pkt.fcsOk = true → s.flt.armed = [] → ∃ u,
      Changes [.insts] s u ∧ exec (.frameLastCellWrite pkt) s =
        .next (poolUpkeep (chargeHeadroom k k.charge k.pkt.bytes.length (u.setVpkt v (k.endWell s.mono)))))
  ∧ (∀ port i t v k pol cas, s.bridgeHead port = some (.confirm i 0 pol cas) → mget s.mash.trub i = some t → t.st = .open_ →
      t.held = none → t.count = 0 → s.voqWith t.pkt = some (v, k) → k.ecnMark = false → exec (.resolutionTokenApply port) s =
        .next (poolUpkeep (countAdmitted k.pkt (count Cn.raConfirmed k.pkt.inPort 1
          ((closeTrub i (popBridge port s)).setVpkt v (VPkt.accept { k with
            trub := none, res := { k.res with colour := 0, policed := pol, prov := false } } s.mono))))))
  ∧ (∀ i t, mget s.mash.trub i = some t → t.st = .nocopy → mget s.mash.cache t.way = none →
      s.mash.trub.filter (fun x => x.2.port == t.port && !x.2.issued && !x.2.cascaded) = [(i, t)] → exec (.trubEccError i) s =
        .next (count Cn.raCascaded t.port 1 ((count Cn.raTrubEcc t.port 1 (fault 13 2 0 s)).modMash (fun m => { m with
          trub := mset m.trub i { t with cascaded := true } }))))

/-- Commands of family ADM (R279, R283, R284, R294, R307, Tables AB-4 to AB-6). -/
def Obligations.AdmCommandsComplete : Prop :=
  ∀ (vi : Nat) (io : HostIo) (e : Entry) (s : State),
    (starts 0x0801 vi io e s = true → e.p 25 1 = 1 → e.dataLen = 64 → le e.buf 0 1 < 8 → le e.buf 3 1 = 0 → le e.buf 43 1 = 0 →
      (bytesAt e.buf 52 12).any (fun x => x != 0) = false → (parseProfile e.buf).ok = true → s.onTrial = false →
      exec (.admProfile vi io) s = .next (completed vi io e (.ok (saveSettings { taken vi s with
        adm := { s.adm with cfg := { s.adm.cfg with profiles := mset s.adm.cfg.profiles (e.p 24 1) (parseProfile e.buf) } } }))))
  ∧ (starts 0x0801 vi io e s = true → e.p 25 1 = 2 → e.dataLen = 0 → e.p 24 1 ≠ 0 → mhas s.adm.cfg.profiles (e.p 24 1) = true →
      s.adm.cfg.binds.any (fun x => x.2 == e.p 24 1) = false → s.onTrial = false →
      exec (.admProfile vi io) s = .next (completed vi io e (.ok (saveSettings { taken vi s with
        adm := { s.adm with cfg := { s.adm.cfg with profiles := mdel s.adm.cfg.profiles (e.p 24 1) } } }))))
  ∧ (∀ mid, starts 0x0802 vi io e s = true → e.p 28 4 ≠ 0 → e.p 24 4 + e.p 28 4 ≤ 262144 → mhas s.adm.cfg.profiles (e.p 32 1) = true →
      mid = (if e.p 32 1 = 0 then [] else (upFrom (e.p 24 4) (e.p 28 4)).map (fun v => (v, e.p 32 1))) →
      s.onTrial = false → exec (.admBind vi io) s = .next (completed vi io e (.ok (saveSettings { taken vi s with
        adm := { s.adm with
          cfg := { s.adm.cfg with
            binds := s.adm.cfg.binds.filter (fun x => decide (x.1 < e.p 24 4)) ++ mid
              ++ s.adm.cfg.binds.filter (fun x => decide (e.p 24 4 + e.p 28 4 ≤ x.1)) } } }))))
  ∧ (∀ m a, starts 0x0803 vi io e s = true → e.p 24 1 ≤ 7 → m = (if e.p 28 4 = 0 then 50000 else e.p 28 4) →
      a = (if e.p 32 4 = 0 then m / 2 else e.p 32 4) → 100 ≤ m → m ≤ 5000000 → a ≤ m →
      m + 2000 ≤ s.tbl.cfg.encapHold * 1000 → s.onTrial = false →
      exec (.admClass vi io) s = .next (completed vi io e (.ok (saveSettings { taken vi s with
        adm := { s.adm with cfg := { s.adm.cfg with classes := mset s.adm.cfg.classes (e.p 24 1) (m, a) } } }))))
  ∧ (∀ r g p m h, starts 0x0804 vi io e s = true → r = (if e.p 24 1 = 0 then 20 else e.p 24 1) → g = (if e.p 25 1 = 0 then 32 else e.p 25 1) →
      p = (if e.p 26 1 = 0 then 4 else e.p 26 1) → m = (if e.p 27 1 = 0 then 4 else e.p 27 1) → h = (if e.p 28 1 = 0 then 4 else e.p 28 1) →
      16 ≤ r → r ≤ 32 → 16 ≤ g → g ≤ 64 → 2 ≤ p → p ≤ 16 → m ≤ 64 → h ≤ 16 → s.onTrial = false →
      exec (.admPool vi io) s = .next (completed vi io e (.ok (saveSettings (poolUpkeep { taken vi s with
        adm := { s.adm with
          cfg := { s.adm.cfg with retention := r, egress := g, punt := p, xoffMargin := m, xonHyst := h } } }))
        (putLe 1 (192 - r - g - 8 - p) ++ zeros 3 ++ putLe 4 s.reserve))))
  ∧ (∀ c f pfc h, starts 0x0805 vi io e s = true → e.p 24 1 ≤ 127 → s.pcfg (e.p 24 1) = some c → c.type ≠ 2 →
      f = ({
        enable := e.p 25 1, cable := if e.p 26 2 = 0 then 100 else e.p 26 2, response := if e.p 28 2 = 0 then 1000 else e.p 28 2,
        quanta := if e.p 30 2 = 0 then 65535 else e.p 30 2, xoff := e.p 32 4, hyst := e.p 36 4 } : PfcCfg) →
      f.cable ≤ 2000 → f.response ≤ 10000 → (f.xoff = 0 ∨ f.hyst < f.xoff) →
      pfc = (if f.enable = 0 then mdel s.adm.cfg.pfc (e.p 24 1) else mset s.adm.cfg.pfc (e.p 24 1) f) →
      h = (if f.enable = 0 then 0 else headroomCells c f * 256) →
      (s.reserveFor pfc ≤ s.reserve ∨ 2 * s.reserveFor pfc ≤ s.poolCells) → s.onTrial = false →
      exec (.admPfc vi io) s = .next (completed vi io e (.ok (saveSettings (poolUpkeep { taken vi s with
        adm := { s.adm with cfg := { s.adm.cfg with pfc := pfc } } })) (putLe 4 h ++ putLe 4 (s.reserveFor pfc)))))
  ∧ (starts 0x0806 vi io e s = true → e.p 24 4 < 262144 → (vi = 0 ∨ inRange (s.inst vi).grant.sp (e.p 24 4 / 8) = true) → ∃ d,
      exec (.admQueueStatus vi io) s = .next (completed vi io e (.read (taken vi s) [] d)) ∧ d.length = 48
      ∧ (putLe 8 (s.voqBytes (e.p 24 4)) ++ putLe 8 ((s.voq (e.p 24 4)).inLoc .hbm) ++ putLe 4 (s.voq (e.p 24 4)).q.length) <+: d)
  ∧ (starts 0x0807 vi io e s = true → ∃ d, exec (.admStatus vi io) s = .next (completed vi io e (.read (taken vi s) [] d)) ∧ d.length = 64
      ∧ (putLe 4 s.poolCells ++ putLe 4 s.poolFree ++ putLe 4 s.reserve) <+: d)

/-- Sojourn, migration, prefetch and the faults of Cask and buffer HBM (R283, R290, R291, R299, R301, R304). -/
def Obligations.AdmEventsComplete : Prop :=
  ∀ s : State,
    (∀ voq, (s.voq voq).q ≠ [] → exec (.sojournSweep voq) s = .next (poolUpkeep (expireHeads ((s.voq voq).q.length + 1) voq s))
      ∧ Changes [.draws, .rings, .queue, .port, .tbl, .adm, .fab, .insts, .log, .flt, .cnt, .out] s (poolUpkeep (expireHeads ((s.voq voq).q.length + 1) voq s)))
  ∧ (∀ voq k q, (s.voq voq).q = k :: q → k.older s.mono (s.classCfg k.res.tc).1 = false →
      exec (.sojournSweep voq) s = .next (poolUpkeep s))
  ∧ (∀ voq k, (s.voq voq).q = [k] → k.older s.mono (s.classCfg k.res.tc).1 = true → exec (.sojournSweep voq) s =
      .next (poolUpkeep (voidNumbers k (releaseRef k.res.handle k.res.version
        (count Cn.sojournExpired k.res.tc 1 (s.setVoq voq { s.voq voq with q := [] }))))))
  ∧ (∀ voq n k k' l, s.inHbmMode voq = true → (withOffsets 0 (s.voq voq).q).find? (fun x => decide (65536 < x.1) && x.2.loc == .cask
        && x.2.acceptedAt.isSome && x.2.sent == 0) = some (n, k) → (refillTokensHbm s).stacksFor voq k.charge = some l →
      k.charge ≤ (refillTokensHbm s).adm.writeTokens →
      k' = { k with loc := .hbm, parts := (refillTokensHbm s).newParts l, hbmAt := s.mono, headNo := none } →
      exec (.hbmMigration voq) s = .next (poolUpkeep (count Cn.admMigrated 0 k.charge (writeInjections k'
        (((refillTokensHbm s).modAdm (fun a => { a with writeTokens := a.writeTokens - k.charge })).setVpkt voq k').drawn))))
  ∧ (∀ voq n k, (s.voq voq).credits ≠ 0 → (withOffsets 0 (s.voq voq).q).find? (fun x => decide (x.1 ≤ 32768) && x.2.loc == .hbm) =
        some (n, k) → k.charge ≤ (refillTokensHbm s).adm.readTokens → s.prefetchUsed + ceilDiv k.charge 256 ≤ 32768 →
      exec (.hbmPrefetch voq) s = .next (poolUpkeep ((hbmRead k ((refillTokensHbm s).modAdm (fun a => { a with
        readTokens := a.readTokens - k.charge }))).setVpkt voq { k with loc := .prefetch, parts := [] })))
  ∧ (∀ n bad u, u = (if n = 0 then s else count Cn.admCaskCe 0 n s) → exec (.caskScrub n bad) s = .next (poolUpkeep (bad.foldl (fun s id =>
      discardUnder 13 1 (loseStored id (count Cn.admCaskUe 0 1 (fault 13 1 0 s))).1 (loseStored id (count Cn.admCaskUe 0 1 (fault 13 1 0 s))).2) u)))
  ∧ (∀ stack pc cause, stack ∈ s.bufStacks → pc < 32 → stack * 32 + pc ∉ s.adm.pcFailed → ∃ t,
      exec (.hbmPcFail stack pc cause) s = .next t ∧ stack * 32 + pc ∈ t.adm.pcFailed
      ∧ Changes [.draws, .rings, .queue, .port, .tbl, .mash, .adm, .fab, .insts, .log, .flt, .cnt, .out] s t)
  ∧ (∀ stack pc at_, mget s.adm.pcOpen (stack * 32 + pc) = some at_ → s.pcDrained stack pc = true → ∃ t,
      exec (.hbmPcClear stack pc) s = .next t ∧ t.adm = { s.adm with pcOpen := mdel s.adm.pcOpen (stack * 32 + pc) }
      ∧ Changes [.rings, .adm, .log, .cnt, .out] s t)
  ∧ (∀ stack, stack ∈ s.bufStacks → ∃ t, exec (.hbmStackFail stack) s = .next t ∧ stack ∈ t.adm.stacksFailed
      ∧ Changes [.draws, .rings, .queue, .port, .tbl, .mash, .adm, .fab, .insts, .log, .flt, .cnt, .out] s t)

/-- Commands of family TBL and of the run-ahead (R191, R194, R195, R197–R200, R202, R207, R208, R241, R242, R452, R453). -/
def Obligations.TblCommandsComplete : Prop :=
  ∀ (vi : Nat) (io : HostIo) (e : Entry) (s : State),
    (∀ recs l, starts 0x0601 vi io e s = true → s.hasPartition vi = true → e.p 24 4 ≠ 0 → splitRecs (e.p 24 4) e.buf = (recs, e.dataLen) →
      stageAll vi (taken vi s) 0 (s.stagingOf vi) recs = (l, none) →
      exec (.tblStage vi io) s = .next (completed vi io e (.ok (capacityWarn { taken vi s with
        tbl := { s.tbl with staging := mset s.tbl.staging vi l } }) (putLe 4 l.length ++ putLe 4 0xFFFFFFFF))))
  ∧ (∀ ops, starts 0x0602 vi io e s = true → s.hasPartition vi = true → s.stagingOf vi = ops → ops ≠ [] → s.tbl.epochs.length < 4 →
      s.spanTooWide = false → (s.newestTables.applyAll ops).anyDangle = false →
      exec (.tblCommit vi io) s = .next (completed vi io e (.ok (commitOps vi ops { taken vi s with
        tbl := { s.tbl with staging := mdel s.tbl.staging vi } }) (putLe 2 s.commitNumber ++ zeros 2 ++ putLe 8 s.timeNs))))
  ∧ (starts 0x0602 vi io e s = true → s.hasPartition vi = true → s.stagingOf vi ≠ [] → 4 ≤ s.tbl.epochs.length → bit (e.p 24 1) 0 = false →
      0 < s.tbl.cfg.commitWait → exec (.tblCommit vi io) s = .next (completed vi io e {
        st := taken vi s, wait := some (.epochSlot (s.mono + Config.ms s.tbl.cfg.commitWait), false) }))
  ∧ (starts 0x0603 vi io e s = true → s.hasPartition vi = true →
      exec (.tblAbort vi io) s = .next (completed vi io e (.ok (capacityWarn { taken vi s with
        tbl := { s.tbl with staging := mdel s.tbl.staging vi } }))))
  ∧ (∀ r t encs x, starts 0x0604 vi io e s = true → le (fit 96 e.buf) 0 1 ≠ 0 → le (fit 96 e.buf) 0 1 ≤ 8 →
      r = parseTRec (patch (fit 96 e.buf) 1 [1]) → recReserved (patch (fit 96 e.buf) 1 [2]) = false →
      ((bit (e.p 26 1) 0 = false ∧ (∃ ep, s.epoch? (e.p 24 2) = some ep ∧ t = ep.tables) ∧ encs = s.tbl.encaps)
        ∨ (bit (e.p 26 1) 0 = true ∧ t = s.newestTables.applyAll (s.stagingOf vi) ∧ encs = commitEncaps s.mono (s.stagingOf vi) s.tbl.encaps)) →
      (vi = 0 ∨ (s.inst vi).grant.mayRec vi false (match r with | .group g _ => .group g [] | r => r) = true) →
      (tableEntries encs t (le (fit 96 e.buf) 0 1)).find? (fun y => y.same r) = x →
      (∀ y, x = some y → y.bytes.length ≤ e.dataLen) → exec (.tblRead vi io) s =
        .next (completed vi io e (.read (taken vi s) [if x.isSome then 1 else 0] ((x.map TRec.bytes).getD []))))
  ∧ (∀ ep, starts 0x0605 vi io e s = true → s.hasPartition vi = true → e.p 26 1 = 1 → s.epoch? (e.p 24 2) = some ep → ep.pin = false →
      (s.tbl.epochs.filter Epoch.pin).length < 3 → exec (.tblPin vi io) s = .next (completed vi io e (.ok { taken vi s with
        tbl := { s.tbl with
          epochs := s.tbl.epochs.map (fun x => if x.num = e.p 24 2 then
            { x with pin := true, st := if x.st = .draining then .pinned else x.st } else x) } })))
  ∧ (∀ ep, starts 0x0605 vi io e s = true → s.hasPartition vi = true → e.p 26 1 = 1 → s.epoch? (e.p 24 2) = some ep → ep.pin = true →
      exec (.tblPin vi io) s = .next (completed vi io e (.ok (taken vi s))))
  ∧ (∀ ep, starts 0x0605 vi io e s = true → s.hasPartition vi = true → e.p 26 1 = 2 → s.epoch? (e.p 24 2) = some ep →
      exec (.tblPin vi io) s = .next (completed vi io e (.ok { taken vi s with
        tbl := { s.tbl with
          epochs := s.tbl.epochs.map (fun x => if x.num = e.p 24 2 then
            { x with pin := false, st := if x.st = .pinned then .draining else x.st } else x) } })))
  ∧ (∀ ep, starts 0x0606 vi io e s = true → s.epoch? (e.p 24 2) = some ep → 664 ≤ e.dataLen → ∃ d,
      exec (.tblDigest vi io) s = .next (completed vi io e (.read (taken vi s) [] d)) ∧ d.length = 664
      ∧ (putLe 2 1 ++ putLe 2 ep.num ++ putLe 2 (e.p 26 2) ++ putLe 2 s.dev.cfg.sun) <+: d)
  ∧ (starts 0x0607 vi io e s = true → ∃ d, exec (.tblStatus vi io) s = .next (completed vi io e (.read (taken vi s) [] d))
      ∧ d.length = 128 ∧ (putLe 2 ((s.newest.map Epoch.num).getD 0) ++ putLe 1 s.tbl.epochs.length) <+: d)
  ∧ (∀ w h p seed u, starts 0x0608 vi io e s = true → w = (if e.p 24 2 = 0 then 1 else e.p 24 2) → h = (if e.p 26 2 = 0 then 100 else e.p 26 2) →
      p = (if e.p 28 1 = 0 then 90 else e.p 28 1) → seed = BitVec.ofNat 32 (e.p 32 4) → w ≤ 100 → h ≤ 10000 → 50 ≤ p →
      p ≤ 100 → s.maxSojourn + 2000 ≤ h * 1000 → s.onTrial = false →
      u = ({ taken vi s with
        tbl := { s.tbl with cfg := { s.tbl.cfg with commitWait := w, encapHold := h, warn := p, hashSeed := seed } } } : State) →
      exec (.tblConfig vi io) s = .next (completed vi io e (.ok (saveSettings (capacityWarn
        (if seed = s.tbl.cfg.hashSeed then u else flushCache (fun _ => true) u))))))
  ∧ (∀ c v ports, starts 0x0609 vi io e s = true → (e.p 24 1 ≤ 127 ∧ ports = [e.p 24 1] ∨ e.p 24 1 = 0xFF ∧ ports = List.range 128) →
      c = (if e.p 27 1 = 0 then 1 else e.p 27 1) → c ≤ 3 → s.onTrial = false → v = (bit (e.p 25 1) 0, bit (e.p 25 1) 1, e.p 26 1, c) →
      exec (.tblRaConfig vi io) s = .next (completed vi io e (.ok (saveSettings { taken vi s with
        tbl := { s.tbl with cfg := { s.tbl.cfg with ra := ports.foldl (fun m p => mset m p v) s.tbl.cfg.ra } } }))))
  ∧ (∀ hit, starts 0x060A vi io e s = true → (e.p 24 1 ≤ 127 ∨ e.p 24 1 = 0xFF) →
      hit = (fun c : CEntry => !c.flushed && (e.p 24 1 == 0xFF || c.inPort == e.p 24 1)) →
      exec (.tblRaFlush vi io) s = .next (completed vi io e (.ok (flushCache hit (taken vi s)) (putLe 4 ((mvals s.mash.cache).filter hit).length))))

/-- Commit waits that end, and the retirement of epochs and encapsulation versions (R196, R198, R205). -/
def Obligations.TblEventsComplete : Prop :=
  ∀ s : State,
    (∀ vi p dl, p ∈ s.hif.parked → p.vi = vi → p.wait = .epochSlot dl → (∀ q, q ∈ s.hif.parked → q.vi = vi → q = p) → dl ≤ s.mono → 4 ≤ s.tbl.epochs.length → s.accepting = true →
      (s.blocked = false → s.resumable = false → exec (.commitWaitExpiry vi) s = .next (completed vi ⟨true, p.writeOk⟩ p.entry (epochFull { s with
        hif := { s.hif with parked := s.hif.parked.filter (fun q => q.vi != vi) } })))
      ∧ (s.blocked = true ∨ s.resumable = true → exec (.commitWaitExpiry vi) s = .next { s with
          hif := { s.hif with
            parked := s.hif.parked.map (fun q => if q.vi = vi then { q with wait := .epochFull, ready := true } else q) } }))
  ∧ (∀ n ep, s.epoch? n = some ep → ep.st = .draining → s.epochBusy n = false → ∃ t, exec (.epochRetire n) s = .next t
      ∧ t.tbl.epochs = s.tbl.epochs.filter (fun x => decide (x.num ≠ n))
      ∧ (∀ p, p ∈ t.hif.parked → (∀ dl, p.wait = .epochSlot dl → p.ready = true) ∧ ((∀ dl, p.wait ≠ .epochSlot dl) → p ∈ s.hif.parked))
      ∧ Changes [.rings, .queue, .epochs, .tbl, .cnt, .out] s t)
  ∧ (∀ h v x, mget s.tbl.encaps (encKey h v) = some x → s.versionDone h v x = true → ∃ t, exec (.encapVersionRetire h v) s = .next t
      ∧ t.tbl.encaps = mdel s.tbl.encaps (encKey h v) ∧ Changes [.rings, .tbl, .cnt, .out] s t)

/-- Commands of family ASA (R243, R245, R248, R251, R256, R264, R265, R270, R271). -/
def Obligations.AsaCommandsComplete : Prop :=
  ∀ (vi : Nat) (io : HostIo) (e : Entry) (s : State),
    (∀ x, starts 0x0701 vi io e s = true → vi = 0 → e.p 24 1 ≤ 63 → e.p 25 1 = 1 → e.dataLen = 2 * e.p 30 2 →
      mhas s.asa.regions (e.p 24 1) = false → (x.width = 1 ∨ x.width = 2 ∨ x.width = 4) → e.p 26 1 = x.width →
      e.p 27 1 = b2n x.egress → x.prio = bit (e.p 28 1) 0 → x.hole = (if e.p 29 1 = 0 then 16 else e.p 29 1) → x.hole ∈ [8, 16, 32, 64, 0xFF] →
      x.blocks = parseBlocks (e.p 30 2) e.buf → x.entries = [] → blockRefusal x.blocks s = none →
      exec (.asaRegion vi io) s = .next (completed vi io e (.ok (asaPower (count Cn.asaMoves 0 0 ((taken vi s).setRegion (e.p 24 1) x)))
        (putLe 4 x.capacity))))
  ∧ (∀ x, starts 0x0701 vi io e s = true → vi = 0 → e.p 24 1 ≤ 63 → e.p 25 1 = 2 → s.region? (e.p 24 1) = some x → x.entries = [] →
      s.asa.profiles.any (fun p => p.2.1 == e.p 24 1) = false → exec (.asaRegion vi io) s = .next (completed vi io e (.ok (asaPower (repay x.blocks.length
        { taken vi s with asa := { s.asa with regions := mdel s.asa.regions (e.p 24 1) } })) (putLe 4 0))))
  ∧ (∀ x y blocks, starts 0x0701 vi io e s = true → s.mayRegion vi (e.p 24 1) = true → e.p 24 1 ≤ 63 → e.p 25 1 = 3 → e.dataLen = 2 * e.p 30 2 →
      s.region? (e.p 24 1) = some x → blocks = parseBlocks (e.p 30 2) e.buf → blockRefusal blocks s = none → y = { x with blocks := x.blocks ++ blocks } →
      exec (.asaRegion vi io) s = .next (completed vi io e (.ok (asaPower (count Cn.asaMoves 0 0 ((taken vi s).setRegion (e.p 24 1) y)))
        (putLe 4 y.capacity))))
  ∧ (∀ x y m moves, starts 0x0701 vi io e s = true → s.mayRegion vi (e.p 24 1) = true → e.p 24 1 ≤ 63 → e.p 25 1 = 4 →
      s.region? (e.p 24 1) = some x → e.p 30 2 ≤ x.blocks.length → y = { x with blocks := x.blocks.take (x.blocks.length - e.p 30 2) } →
      packInto y.capacity x.entries = some (m, moves) →
      exec (.asaRegion vi io) s = .next (completed vi io e (.ok (asaPower (count Cn.asaMoves 0 moves
        ((repay (e.p 30 2) (taken vi s)).setRegion (e.p 24 1) { y with entries := m }))) (putLe 4 ({ y with entries := m } : Region).capacity))))
  ∧ (∀ q, starts 0x0702 vi io e s = true → mget s.asa.profiles (e.p 24 1) = some q →
      (vi = 0 ∨ e.p 24 1 ∈ (s.inst vi).grant.profiles ∧ s.mayRegion vi q.1 = true) → e.p 24 1 ≤ 63 → e.p 25 1 = 2 →
      s.profileNamed (e.p 24 1) = false →
      exec (.asaProfile vi io) s = .next (completed vi io e (.ok { taken vi s with
        asa := { s.asa with profiles := mdel s.asa.profiles (e.p 24 1) } })))
  ∧ (∀ x m, starts 0x0702 vi io e s = true → (vi = 0 ∨ e.p 24 1 ∈ (s.inst vi).grant.profiles ∧ s.mayRegion vi (e.p 26 1) = true) →
      e.p 24 1 ≤ 63 → e.p 25 1 = 1 → e.p 26 1 ≤ 63 → formatWidth (e.p 27 1) ≠ 0 → s.region? (e.p 26 1) = some x →
      x.width = formatWidth (e.p 27 1) → x.egress = formatEgress (e.p 27 1) →
      m = mset s.asa.profiles (e.p 24 1) (e.p 26 1, e.p 27 1) → s.allPrograms.all (s.programFits m) = true →
      exec (.asaProfile vi io) s = .next (completed vi io e (.ok { taken vi s with asa := { s.asa with profiles := m } })))
  ∧ (∀ recs a, starts 0x0703 vi io e s = true → e.p 24 4 ≠ 0 → splitAsa (e.p 24 4) e.buf = (recs, e.dataLen) →
      recs.any (fun b => !s.mayRegion vi (le b 1 1)) = false → writeRecs 0 { regions := s.asa.regions } recs = (a, none) →
      exec (.asaWrite vi io) s = .next (completed vi io e {
        st := a.warns.foldl (fun s w => count Cn.asaEqPrioWarn 0 1 (notify Ev.asaEqualPriority (putLe 1 w.1 ++ zeros 3 ++ putLe 4 w.2.1
          ++ putLe 4 w.2.2.1 ++ putLe 2 w.2.2.2) [] s)) (count Cn.asaMoves 0 a.moves { holdOldRegions (taken vi s) with
            asa := { s.asa with regions := a.regions } }),
        detail := if a.warns = [] then Dt.hifNone else Dt.asaEqualPriority,
        result := putLe 4 (e.p 24 4) ++ putLe 4 0xFFFFFFFF ++ putLe 2 (sat 16 a.overlaps) ++ putLe 4 a.moves }))
  ∧ (∀ x, starts 0x0704 vi io e s = true → s.mayRegion vi (e.p 24 1) = true → s.region? (e.p 24 1) = some x → e.p 25 1 ≤ 1 →
      (∀ p, (if e.p 25 1 = 0 then x.raddrOf (e.p 28 4) else some (e.p 28 4)) = some p → mget x.entries p = none) →
      exec (.asaRead vi io) s = .next (completed vi io e (.read (taken vi s) [0] [])))
  ∧ (∀ x p y, starts 0x0704 vi io e s = true → s.mayRegion vi (e.p 24 1) = true → s.region? (e.p 24 1) = some x →
      ((e.p 25 1 = 0 ∧ x.raddrOf (e.p 28 4) = some p) ∨ (e.p 25 1 = 1 ∧ e.p 28 4 = p)) → mget x.entries p = some y → ∃ d,
      exec (.asaRead vi io) s = .next (completed vi io e (.read (taken vi s) [1] d))
      ∧ (putLe 1 1 ++ putLe 1 (e.p 24 1) ++ putLe 2 (24 + 40 * x.width) ++ putLe 4 y.id) <+: d)
  ∧ (starts 0x0705 vi io e s = true → ∃ d, exec (.asaStatus vi io) s = .next (completed vi io e (.read (taken vi s) [] d))
      ∧ d.length = 528 ∧ (putLe 1 s.asa.level ++ putLe 1 s.poweredFree.length) <+: d)
  ∧ (∀ m p, starts 0x0706 vi io e s = true → e.p 24 1 ≤ 20 → m = (if e.p 25 1 = 0 then 25 else e.p 25 1) → p = (if e.p 26 2 = 0 then 100 else e.p 26 2) → 25 ≤ m → m ≤ 75 → 10 ≤ p → p ≤ 1000 →
      exec (.asaConfig vi io) s = .next (completed vi io e (.ok { taken vi s with
        asa := { s.asa with offset := e.p 24 1, ingressMin := m, scrubPeriod := p } })))

/-- Faults of the array, hole restoration and throttling (R257–R260, R265, Table AS-3). -/
def Obligations.AsaEventsComplete : Prop :=
  ∀ s : State,
    (∀ r a x, s.region? r = some x → mhas x.entries a = true → s.accepting = true → exec (.asaShadowRestoreDone r a) s =
      .next (count Cn.asaShadowParity 0 1 (fault 10 (x.place a).1 0 s)))
  ∧ (s.accepting = true → s.asa.scrubAt + Config.ms s.asa.scrubPeriod ≤ s.mono → exec (.asaScrub []) s = .next { s with asa := { s.asa with scrubAt := s.mono } })
  ∧ (∀ rows, s.accepting = true → s.asa.scrubAt + Config.ms s.asa.scrubPeriod ≤ s.mono →
      exec (.asaScrub rows) s =
      .next ((rows.filter (fun r => (s.bank r.1).st == .on || (s.bank r.1).st == .cellar)).foldl
        (fun s r => count Cn.asaScrubFix 0 1 (fault 10 r.1 0 s)) { s with asa := { s.asa with scrubAt := s.mono } }))
  ∧ (∀ b row, s.accepting = true → s.asa.scrubAt + Config.ms s.asa.scrubPeriod ≤ s.mono → (s.bank b).st = .on →
      exec (.asaScrub [(b, row)]) s =
      .next (count Cn.asaScrubFix 0 1 (fault 10 b 0 { s with asa := { s.asa with scrubAt := s.mono } })))
  ∧ (∀ r x y, s.region? r = some x → x.restoreHole = some y → s.accepting = true → ∃ t, exec (.asaHoleRestore r) s = .next t
      ∧ t.asa = { s.asa with regions := mset s.asa.regions r y } ∧ Changes [.rings, .asa, .cnt, .out] s t)
  ∧ (∀ b cause, b < 8 → exec (.asaBankFault b cause) s = .next (bankFault b cause s)
      ∧ Changes [.draws, .rings, .asa, .log, .cnt, .out] s (bankFault b cause s))
  ∧ (∀ b passed, (s.bank b).st = .reloading → s.recoveryTurn 11 b = true → exec (.asaBankReloadDone b passed) s = .next (bankReloadDone b passed s)
      ∧ Changes [.rings, .asa, .log, .cnt, .out] s (bankReloadDone b passed s))
  ∧ (∀ b cause, b < 8 → (s.bank b).st = .on → ∃ t, exec (.asaBankFault b cause) s = .next t ∧ (t.bank b).st = .reloading
      ∧ (t.bank b).cause = cause ∧ t.asa.regions = s.asa.regions ∧ Changes [.draws, .rings, .asa, .log, .cnt, .out] s t)
  ∧ (∀ b, (s.bank b).st = .reloading → s.recoveryTurn 11 b = true → b ≠ 0 → (s.bank b).lastReload = none → ∃ t, exec (.asaBankReloadDone b true) s = .next t
      ∧ (t.bank b).st = .on ∧ (t.bank b).lastReload = some s.mono ∧ Changes [.rings, .asa, .log, .cnt, .out] s t)
  ∧ (∀ b, (s.bank b).st = .reloading → s.recoveryTurn 11 b = true → b ≠ 0 → ∃ t, exec (.asaBankReloadDone b false) s = .next t
      ∧ (t.bank b).st = .failed ∧ Changes [.rings, .asa, .cnt, .out] s t)
  ∧ (∀ b, (s.bank b).st = .failed → s.recoveryTurn 11 b = true → mgetD s.pwr.domains (15 + b) .off ≠ .off → ∃ t,
      exec (.asaRelocationDone b) s = .next t ∧ t.asa.regions = (relocate b s).1 ∧ t.asa.short = s.asa.short + (relocate b s).2
      ∧ Changes [.rings, .asa, .log, .cnt, .pwr, .out] s t)
  ∧ (∀ temp, s.asa.level < s.levelFor temp → ∃ t, exec (.asaThrottleRaise temp) s = .next t
      ∧ t.asa = { s.asa with win := s.searchWin, level := s.levelFor temp, levelAt := s.mono } ∧ Changes [.rings, .asa, .cnt, .out] s t)
  ∧ (∀ temp, 0 < s.asa.level → temp ≤ s.levelEntry s.asa.level - 30 → s.asa.levelAt + Config.ms 10 ≤ s.mono → ∃ t, exec (.asaThrottleLower temp) s = .next t
      ∧ t.asa = { s.asa with win := s.searchWin, level := s.asa.level - 1 } ∧ Changes [.rings, .asa, .cnt, .out] s t)

/-- Commands of family FAB (R311, R319, R337, R338, Tables FB-7 and FB-8). -/
def Obligations.FabCommandsComplete : Prop :=
  ∀ (vi : Nat) (io : HostIo) (e : Entry) (s : State),
    (∀ c, starts 0x0901 vi io e s = true → e.p 24 1 ≤ 15 → e.p 25 1 = 1 → c.lanes = laneList (bytesAt e.raw 28 10) → c.enabled = true →
      e.p 26 1 = c.minLanes → 1 ≤ c.minLanes → c.minLanes ≤ 10 → c.encrypt = bit (e.p 27 1) 0 → c.backToBack = bit (e.p 27 1) 1 →
      c.lanes.any (fun l => decide (159 < l)) = false → c.lanes.eraseDups.length = c.lanes.length →
      s.laneTaken (e.p 24 1) (if c.lanes = [] then upFrom (10 * e.p 24 1) 10 else c.lanes) = false → (s.plane (e.p 24 1)).st = .absent →
      s.onTrial = false → ∃ u, exec (.fabPlane vi io) s = .next (completed vi io e (.ok (saveSettings u)))
        ∧ u.fab = { s.fab with cfg := { s.fab.cfg with planes := mset s.fab.cfg.planes (e.p 24 1) c } }
        ∧ Changes [.fab, .pwr] (taken vi s) u)
  ∧ (∀ p c eff u, starts 0x0901 vi io e s = true → p = e.p 24 1 → p ≤ 15 → e.p 25 1 = 1 →
      c = ({
        enabled := true, minLanes := orDefault (e.p 26 1) 8, encrypt := bit (e.p 27 1) 0, backToBack := bit (e.p 27 1) 1,
        lanes := laneList (bytesAt e.raw 28 10) } : PlaneCfg) → c.minLanes ≤ 10 →
      c.lanes.any (fun l => decide (159 < l)) = false → c.lanes.eraseDups.length = c.lanes.length →
      eff = (if c.lanes = [] then upFrom (10 * p) 10 else c.lanes) → s.laneTaken p eff = false →
      ((s.plane p).st = .absent ∨ s.planeLanes p = eff) → s.onTrial = false →
      u = powerOn (39 + p) { taken vi s with fab := { s.fab with cfg := { s.fab.cfg with planes := mset s.fab.cfg.planes p c } } } →
      exec (.fabPlane vi io) s = .next (completed vi io e (.ok (saveSettings
        (if u.planeUp p = true ∧ (u.lanesUp p).length < c.minLanes then fabricWindows (planeLoss p false (fault 4 p 0 u)) else u)))))
  ∧ (starts 0x0901 vi io e s = true → e.p 24 1 ≤ 15 → e.p 25 1 = 2 → s.onTrial = false →
      exec (.fabPlane vi io) s = .next (completed vi io e (.ok (saveSettings
        (if (s.planeCfg (e.p 24 1)).enabled then disablePlane (e.p 24 1) (taken vi s) else taken vi s)))))
  ∧ (∀ m, starts 0x0902 vi io e s = true → e.p 24 4 ≠ 0 → e.p 24 4 ≤ 32768 → e.dataLen = 8 * e.p 24 4 →
      spmapAll (taken vi s) 0 s.fab.cfg.spmap (chunks 8 (e.p 24 4) e.buf) = (m, none) → s.onTrial = false →
      exec (.fabSpmap vi io) s = .next (completed vi io e (.ok (saveSettings { taken vi s with
        fab := { s.fab with cfg := { s.fab.cfg with spmap := m } } }) (putLe 4 0xFFFFFFFF))))
  ∧ (∀ a r d h c q, starts 0x0903 vi io e s = true → a = orDefault (e.p 24 1) 8 → r = orDefault (e.p 25 1) 4 → d = orDefault (e.p 26 1) 4 →
      h = orDefault (e.p 28 2) 200 → c = orDefault (e.p 30 2) 3000 → q = orDefault (e.p 32 2) 2000 →
      4 ≤ a → a ≤ 62 → 2 ≤ r → r ≤ 8 → d ≤ 20 → h ≤ 10000 → 1000 ≤ c → c ≤ 20000 → 500 ≤ q → q ≤ 20000 →
      2 * r * a + 20 ≤ h → s.onTrial = false →
      exec (.fabConfig vi io) s = .next (completed vi io e (.ok (saveSettings { taken vi s with
        fab := { s.fab with
          cfg := { s.fab.cfg with ackTimeout := a, retxMax := r, dupWait := d, holeTimeout := h, creditRtt := c, requestPeriod := q } } }))))
  ∧ (∀ ports, starts 0x0904 vi io e s = true → (e.p 24 1 ≤ 127 ∧ ports = [e.p 24 1] ∨ e.p 24 1 = 0xFF ∧ ports = List.range 128) →
      s.onTrial = false → exec (.fabCt vi io) s = .next (completed vi io e (.ok (saveSettings { taken vi s with
        fab := { s.fab with
          cfg := { s.fab.cfg with
            ct := ports.foldl (fun m p => mput m p (if e.p 25 1 = 0 then none else some (e.p 25 1))) s.fab.cfg.ct } } }))))
  ∧ (starts 0x0905 vi io e s = true → ∃ d, exec (.fabStatus vi io) s = .next (completed vi io e (.read (taken vi s) [] d))
      ∧ d.length = 64 ∧ (putLe 2 s.planesUpMask ++ (List.range 16).flatMap (fun p => putLe 1 (s.lanesUp p).length)) <+: d)

/-- Lanes, planes and reachability (R108–R110, R313, R341, R343, Table BU-6). -/
def Obligations.PlaneEventsComplete : Prop :=
  ∀ s : State,
    (∀ lane p far, s.planeOf lane = some p → s.laneTrains p far.encrypts = true → (s.lane lane).trained = false → ∃ t,
      exec (.fabLaneTrained lane p far) s = .next t ∧ t.lane lane = { s.lane lane with
        trained := true, excluded := false, down := false, announced := p, encrypts := far.encrypts, badTags := 0, framesRx := 0,
        farUnit := far.isUnit, farSerial := far.serial, trainedAt := s.mono, txCells := [] }
      ∧ Changes [.fab] s t)
  ∧ (∀ lane p q far, s.planeOf lane = some p → s.laneTrains p far.encrypts = true → (s.lane lane).trained = false → q ≠ p → ∃ t,
      exec (.fabLaneTrained lane q far) s = .next t ∧ t.lane lane = { s.lane lane with
        trained := false, excluded := true, down := false, announced := q, encrypts := far.encrypts, farUnit := far.isUnit, farSerial := far.serial }
      ∧ Changes [.rings, .fab, .cnt, .out] s t)
  ∧ (∀ lane cause, (s.lane lane).inUse = true → exec (.fabLaneDown lane cause) s = .next (laneDown lane cause s))
  ∧ (∀ lane p cause u, s.planeOf lane = some p → (s.lane lane).inUse = true →
      (s.lane lane).txCells = [] → u = (takeCells lane s).2.modLane lane (fun l => { l with trained := false, down := true }) →
      (u.planeCfg p).minLanes ≤ (u.lanesUp p).length →
      exec (.fabLaneDown lane cause) s = .next (fabricWindows (laneFault p lane cause false
        (count Cn.fabLaneDown lane 1 (notify Ev.fabLaneDown (putLe 1 lane ++ putLe 1 cause) [] u)))))
  ∧ (∀ lane p, s.planeOf lane = some p → (s.lane lane).down = true → s.laneTrains p (s.lane lane).encrypts = true → ∃ t,
      exec (.fabLaneUp lane) s = .next t ∧ (t.lane lane).inUse = true ∧ Changes [.rings, .fab, .cnt, .out] s t)
  ∧ (∀ p at_, (s.plane p).timer = some at_ → (s.plane p).st = .forming → at_ ≤ s.mono → (s.planeCfg p).minLanes ≤ (s.lanesUp p).length →
      exec (.formationTimerExpiry p) s = .next (s.modPlane p (fun x => { x with
        st := .identified, timer := if s.dev.cfg.sun = 0xFFFF then none else some (s.mono + Config.ms 10) })))
  ∧ (∀ p at_, (s.plane p).timer = some at_ → (s.plane p).st = .forming → at_ ≤ s.mono → (s.lanesUp p).length < (s.planeCfg p).minLanes →
      exec (.formationTimerExpiry p) s = .next (count Cn.fabPlaneShort p 1 (s.modPlane p (fun x => { x with timer := some (s.mono + Config.ms 50) }))))
  ∧ (∀ p at_, (s.plane p).timer = some at_ → (s.plane p).st = .identified → at_ ≤ s.mono → ∃ t,
      exec (.reachabilityTimerExpiry p) s = .next t ∧ (t.plane p).st = .holdoff ∧ Changes [.rings, .fab, .cnt, .out] s t)
  ∧ (∀ p at_, (s.plane p).timer = some at_ → (s.plane p).st = .holdoff → at_ ≤ s.mono → ∃ t,
      exec (.holdoffExpiry p) s = .next t ∧ (t.plane p).st = .absent ∧ (t.plane p).timer = none
      ∧ (∀ l, l ∈ s.planeLanes p → (t.lane l).trained = false) ∧ Changes [.fab] s t)
  ∧ (∀ p suns, (s.planeUp p = true ∨ ((s.plane p).st = .identified ∧ s.dev.cfg.sun ≠ 0xFFFF)) → (∀ x, x ∈ suns → x < 2048) →
      exec (.reachCell p suns) s = .next (reachCell p suns s))
  ∧ (∀ p suns, (s.plane p).st = .identified → s.dev.cfg.sun ≠ 0xFFFF → (∀ x, x ∈ suns → x < 2048) → ∃ t,
      exec (.reachCell p suns) s = .next t ∧ (t.plane p).st = .up ∧ (∀ x, x ∈ suns → mget t.fab.listings (sunKey p x) = some s.mono)
      ∧ Changes [.rings, .fab, .cnt, .out] s t)
  ∧ (∀ p sun at_ u, s.planeUp p = true → sun < 2048 → mget s.fab.listings (sunKey p sun) = some at_ → at_ + Config.us 150 ≤ s.mono →
      u = sunLeft sun (s.modFab (fun f => { f with listings := mdel f.listings (sunKey p sun) })) →
      exec (.sunListingTimeout p sun) s = .next (if u.listingsOf p = [] then fabricWindows (planeLoss p false (fault 4 p 0 u)) else u))
  ∧ (∀ p sun at_ u, s.planeUp p = true → sun < 2048 → mget s.fab.listings (sunKey p sun) = some at_ → at_ + Config.us 150 ≤ s.mono →
      u = s.modFab (fun f => { f with listings := mdel f.listings (sunKey p sun) }) → u.listedMask sun ≠ [] → u.listingsOf p ≠ [] →
      exec (.sunListingTimeout p sun) s = .next u)
  ∧ (∀ ps, ps = (List.range 16).filter (fun p => (s.planeCfg p).enabled && (s.planeCfg p).backToBack
        && ((s.plane p).st == .identified || (s.plane p).st == .up)) → ps ≠ [] → s.dev.cfg.sun ≠ 0xFFFF →
      s.fab.reachAt + Config.us 50 ≤ s.mono → exec .reachabilitySend s = .next { s with
        fab := { s.fab with reachAt := s.mono }, out := s.out ++ ps.map (fun p => .reach p [s.dev.cfg.sun]) })
  ∧ (∀ p, s.planeUp p = true → exec (.planeDownAnnounced p) s = .next (fabricWindows (planeLoss p false (fault 4 p 0 s))))
  ∧ (∀ p q, s.planeUp p = true → q < 16 → q ≠ p → s.planeUp q = true → s.listingsOf p = [] → ∃ t,
      exec (.planeDownAnnounced p) s = .next t ∧ (t.plane p).st = .holdoff ∧ mget t.sec.links p = none
      ∧ Changes [.draws, .rings, .fab, .sec, .log, .cnt, .out] s t)

/-- The sending half of the fabric side (R316, R320–R329, R388) and link frames (R312). -/
def Obligations.FabricSendComplete : Prop :=
  ∀ s : State,
    (∀ lane p slot tagOk cells, s.planeOf lane = some p → (s.lane lane).inUse = true →
      ((tagOk = true ∧ s.slotOk p slot = true) → exec (.fabLinkFrameReceive lane slot tagOk cells) s = .next (goodFrame lane p cells (noteSlot p slot s)))
      ∧ ((tagOk = false ∨ s.slotOk p slot = false) → exec (.fabLinkFrameReceive lane slot tagOk cells) s = .next (badFrame lane s)))
  ∧ (∀ v plane m, plane < 16 → m = s.matching → (v, plane) ∈ m.pairs → plane ∉ s.busyPlanes → exec (.matcherGrant v plane) s =
      .next (matcherGrant v plane (takePlane plane (s.modFab (fun f => { f with
        matcher := { m with pairs := m.pairs.filter (fun x => decide (x ≠ (v, plane))) } })))))
  ∧ (∀ cell plane dest c, s.retCell? cell = some c → plane < 16 → exec (.retentionSend cell plane dest) s = .next (retentionSend c plane dest s))
  ∧ (∀ v, exec (.requestSend v) s = .next (requestSend v s))
  ∧ (∀ src sp tc cells, tc < 8 → exec (.creditEntry src sp tc cells) s = .next (creditEntry src sp tc cells s))
  ∧ (∀ src sp tc paired backlog, tc < 8 → src < 2048 → exec (.requestEntry src sp tc paired backlog) s = .next (requestEntry src sp tc paired backlog s))
  ∧ (∀ sp tc src g, s.nextClass (s.localPort sp) = some tc → s.nextSource (s.localPort sp) tc = some (creditKey sp tc src, g) →
      s.grantFits (s.localPort sp) tc = true → s.egressUsed + g ≤ s.adm.egress * 4096 →
      mgetD s.fab.creditOut (creditKey sp tc src) 0 + g ≤ 2048 →
      exec (.creditGrant sp tc src) s = .next (grantCredit (s.localPort sp) tc (creditKey sp tc src) g s))
  ∧ (∀ src control stream sp tc cum bm, exec (.ackEntry src control stream sp tc cum bm) s = .next (ackEntry src control stream sp tc cum bm s))
  ∧ (∀ cell dest c n used at_, s.retCell? cell = some c → c.copies.find? (fun x => x.1 == dest) = some (dest, n, used, at_, false) → 0 < n →
      at_ + Config.us s.fab.cfg.ackTimeout ≤ s.mono → exec (.cellAckTimeout cell dest) s = .next (ackTimeout c dest n used s))
  ∧ (∀ lane p slot cells, s.planeOf lane = some p → (s.lane lane).inUse = true → s.slotOk p slot = true →
      (s.lane lane).framesRx + 1 ≠ 2 ^ 62 → exec (.fabLinkFrameReceive lane slot true cells) s =
        .next (foldS cells (bump (winEvent 3 2) lane 1
          ((noteSlot p slot s).modLane lane (fun l => { l with badTags := 0, framesRx := l.framesRx + 1 }))) (cellIn p)))
  ∧ (∀ v plane k q unit, plane < 16 → (v, plane) ∈ s.matching.pairs → plane ∉ s.busyPlanes → (s.voq v).q = k :: q → k.older s.mono (s.classCfg k.res.tc).1 = false →
      s.grantUnit v plane = some unit → k.ready = true → s.retRoom = true → s.planeUp plane = true → k.alone = false → ∃ t r,
      exec (.matcherGrant v plane) s = .next t ∧ t.fab.retention = s.fab.retention ++ [r] ∧ r.key = s.fab.nextKey ∧ r.cell.kind = .data
      ∧ r.cell.sp = v / 8 ∧ r.cell.tc = v % 8 ∧ r.cell.seq = (s.txStream (streamKey (s.streamSun k.pkt) (v / 8) (v % 8))).1
      ∧ (t.txStream (streamKey (s.streamSun k.pkt) (v / 8) (v % 8))).1 = (r.cell.seq + 1) % 2 ^ 24
      ∧ Changes [.draws, .rings, .queue, .port, .adm, .fab, .insts, .log, .flt, .cnt, .out] s t)
  ∧ (∀ cell plane dest c n used at_, s.retCell? cell = some c → plane < 16 →
      c.copies.find? (fun x => x.1 == dest) = some (dest, n, used, at_, true) → n ≠ 0 → s.copyPlane c.key used dest plane = true →
      plane ∉ s.busyPlanes → exec (.retentionSend cell plane dest) s = .next (sendCell plane { c.cell with
        dest := dest, retx := true, active := c.cell.paired && s.holdsBung } (takePlane plane (count Cn.fabRetx plane 1 ((s.setRet { c with
          copies := c.copies.map (fun x => if x.1 = dest then (dest, n + 1, used ++ [plane], s.mono, false) else x) }).modPlane plane
            (fun x => { x with retx := x.retx.filter (fun y => decide (y ≠ (c.key, dest))) }))))))
  ∧ (∀ v us, us = (s.spTargets (v / 8)).filter s.present → us.any (fun u => decide (0 < (s.voq v).backlog u)) = true →
      (s.voq v).requesting = false → exec (.requestSend v) s = .next (foldS us
        (s.modVoq v (fun x => { x with lastReq := some s.mono, requesting := true }))
        (fun u s' => sendEntry [u] (requestEntryBytes (v / 8) (v % 8) (s.pairedHold v) ((s.voq v).backlog u)) s')))
  ∧ (∀ src sp tc cells, tc < 8 → src ∈ s.spTargets sp → exec (.creditEntry src sp tc cells) s = .next ((heardFrom src s).modVoq
      (voqKey sp tc) (fun x => { x with credit := mset x.credit src (min 2048 (mgetD x.credit src 0 + cells)) })))
  ∧ (∀ src sp tc paired backlog, tc < 8 → src < 2048 → s.servesSp sp = true → 0 < backlog →
      exec (.requestEntry src sp tc paired backlog) s = .next ((heardFrom src s).modFab (fun f => { f with
        requests := mset f.requests (creditKey sp tc src) (backlog, b2n paired) })))
  ∧ (∀ sp tc src g b fl, tc < 8 → src < 2048 → s.nextClass (s.localPort sp) = some tc →
      s.nextSource (s.localPort sp) tc = some (creditKey sp tc src, g) → s.grantFits (s.localPort sp) tc = true →
      s.egressUsed + g ≤ s.adm.egress * 4096 → mgetD s.fab.creditOut (creditKey sp tc src) 0 + g ≤ 2048 →
      s.grantEntry (creditKey sp tc src) = true → mget s.fab.requests (creditKey sp tc src) = some (b, fl) →
      (fl = 1 ∨ mhas s.rack.streams (streamKey src sp tc) = true) →
      exec (.creditGrant sp tc src) s = .next (sendEntry [src] (creditEntryBytes sp tc g) (s.modFab (fun f => { f with
        requests := mput f.requests (creditKey sp tc src) (if b ≤ g then none else some (b - g, fl)),
        creditOut := mmod f.creditOut (creditKey sp tc src) 0 (fun n => n + g),
        rrClass := mset (mset f.rrClass (s.localPort sp) tc) (2 ^ 20 + s.localPort sp * 8 + tc) (creditKey sp tc src) }))))
  ∧ (∀ src stream sp tc cum bm c, s.fab.retention.filter (fun c => c.copies.any (fun x => x.1 == src) && ackCovers cum bm c.cell.seq
        && (c.cell.kind == .data && streamKey c.cell.stream c.cell.sp c.cell.tc == streamKey stream sp tc)) = [c] →
      c.copies.filter (fun x => decide (x.1 ≠ src)) = [] → c.withdrawn = none →
      exec (.ackEntry src false stream sp tc cum bm) s = .next (fabricWindows (dropCell c (heardFrom src s))))
  ∧ (∀ cell dest c n used at_ p l, s.retCell? cell = some c → c.copies.find? (fun x => x.1 == dest) = some (dest, n, used, at_, false) →
      0 < n → at_ + Config.us s.fab.cfg.ackTimeout ≤ s.mono → n < s.fab.cfg.retxMax → used.getLast? = some p →
      l = (mgetD s.fab.recentTo (sunKey p dest) []).filter (fun t => decide (s.mono ≤ t + Config.us 100)) ++ [s.mono] → l.length < 3 →
      exec (.cellAckTimeout cell dest) s = .next (enqueueRetx c.key dest used (((s.modPlane p (fun x => { x with timeouts := x.timeouts + 1 })).modFab (fun f => { f with
        recentTo := mset f.recentTo (sunKey p dest) l })).setRet { c with
          copies := c.copies.map (fun x => if x.1 = dest then (x.1, x.2.1, x.2.2.1, x.2.2.2.1, true) else x) })))
  ∧ (∀ p sun at_, mget s.fab.suspect (sunKey p sun) = some at_ → at_ ≤ s.mono → exec (.planeSuspectEnd p sun) s =
      .next (s.modFab (fun f => { f with suspect := mdel f.suspect (sunKey p sun) })))

/-- Racking (R326, R330, R332, R335–R337, R340, Tables FB-5 and FB-6). -/
def Obligations.RackingComplete : Prop :=
  ∀ s : State,
    (∀ p c, s.planeUp p = true → c.kind = .data → exec (.dataCellReceive p c) s = .next (dataCell p c s))
  ∧ (∀ src stream sp tc first n, tc < 8 → exec (.confirmEntry src stream sp tc first n) s = .next (rackToken 1 src stream sp tc first n s)
      ∧ exec (.voidEntry src stream sp tc first n) s = .next (rackToken 2 src stream sp tc first n s))
  ∧ (∀ p c, s.planeUp p = true → c.kind = .data → c.pcrc = pcrcOf c.payload → c.dest = s.dev.cfg.sun →
      exec (.dataCellReceive p c) s = .next (rackCell c (heardFrom c.src (count Cn.fabCellsRx p 1 s))))
  ∧ (∀ p c, s.planeUp p = true → c.kind = .data → c.pcrc ≠ pcrcOf c.payload → exec (.dataCellReceive p c) s =
      .next (fault 5 p 0 (count Cn.fabPcrcFail p 1 (count Cn.fabCellsRx p 1 s))))
  ∧ (∀ src sp tc n k x at_, tc < 8 → k = streamKey src sp tc → mhas s.rack.streams k = true → (s.stream k).paired = false →
      (s.stream k).blocked = true → (s.stream k).expected = some at_ → mget (s.stream k).nums at_ = none → n < 2 ^ 24 →
      dist 24 at_ n ≤ 4096 → mget (s.stream k).nums n = some x → x.st = .held → ∃ t,
      exec (.confirmEntry src src sp tc n 1) s = .next t ∧ mget (t.stream k).nums n = some { x with st := .ready }
      ∧ (∀ m, m ≠ n → mget (t.stream k).nums m = mget (s.stream k).nums m) ∧ (∀ j, j ≠ k → t.stream j = s.stream j) ∧ Changes [.rack] s t)
  ∧ (∀ src sp tc n k x at_, tc < 8 → k = streamKey src sp tc → mhas s.rack.streams k = true → (s.stream k).paired = false →
      (s.stream k).blocked = true → (s.stream k).expected = some at_ → mget (s.stream k).nums at_ = none → n < 2 ^ 24 →
      dist 24 at_ n ≤ 4096 → mget (s.stream k).nums n = some x → x.st = .held → x.cell.isSome = true → ∃ t,
      exec (.voidEntry src src sp tc n 1) s = .next t ∧ mget (t.stream k).nums n = some { x with st := .void_, cell := none }
      ∧ (∀ m, m ≠ n → mget (t.stream k).nums m = mget (s.stream k).nums m) ∧ (∀ j, j ≠ k → t.stream j = s.stream j)
      ∧ Changes [.rings, .rack, .cnt, .out] s t)
  ∧ (∀ stream sp tc k x at_, k = streamKey stream sp tc → mget s.rack.streams k = some x → x.expected = some at_ →
      (∀ y, mget x.nums at_ = some y → y.st = .open_ ∨ y.st = .confirmed ∨ y.st = .held) →
      (if x.paired then x.srcs else [stream]).any s.present = true → x.blocked = true → x.expectedSince + Config.us s.fab.cfg.holeTimeout ≤ s.mono →
      exec (.holeTimeout stream sp tc) s = .next (runStream k true ((skipNumber k at_ (fault 5 16 0 (count Cn.rackHoleTimeout 0 1 s))).modStream k
        (fun y => { y with skipped := addOnce y.skipped at_ }))))
  ∧ (∀ stream sp tc n k x, k = streamKey stream sp tc → mget (s.stream k).nums n = some x → (s.stream k).paired = true → x.st = .held →
      x.at_ + Config.us s.fab.cfg.dupWait ≤ s.mono → exec (.dupWaitExpiry stream sp tc n) s = .next (pairedRun k s))
  ∧ (∀ sun, s.silent sun = true → exec (.memberSilenceExpiry sun) s = .next (pairedAll none s))
  ∧ (∀ stream sp tc k x, k = streamKey stream sp tc → mget s.rack.streams k = some x → s.streamCredit k x = false →
      x.nums.any (fun n => n.2.cell.isSome && n.2.st != .released) = false → (x.expected.isSome && x.nums.any (fun n => n.2.st != .released)) = false →
      x.lastCell + Config.us 100 ≤ s.mono → exec (.streamEntryFree stream sp tc) s =
        .next (s.modRack (fun r => { r with streams := mdel r.streams k })))

/-- Commands of family SCH (R350, R351, R358, R360, R363, R368, R370, R373, R377, R378, Table ES-6). -/
def Obligations.SchCommandsComplete : Prop :=
  ∀ (vi : Nat) (io : HostIo) (e : Entry) (s : State),
    (∀ c, starts 0x0A01 vi io e s = true → e.dataLen = 24 * e.p 24 4 →
      runNodes (taken vi s) 0 s.sch.cfg (chunks 24 (e.p 24 4) e.buf) = (c, none) → s.onTrial = false →
      exec (.schNode vi io) s = .next (completed vi io e (.ok (saveSettings (foldS (List.range 128)
        { taken vi s with sch := { s.sch with cfg := c } } placeLimbo)) (putLe 4 0xFFFFFFFF))))
  ∧ (∀ ws, starts 0x0A02 vi io e s = true → e.dataLen = 4 * e.p 24 4 → ws = (chunks 4 (e.p 24 4) e.buf).map leVal →
      ws.any (fun w => bit w 15 || bit w 30) = false → s.onTrial = false →
      exec (.schQmap vi io) s = .next (completed vi io e (.ok (saveSettings { taken vi s with
        sch := { s.sch with
          cfg := { s.sch.cfg with
            qmap := ws.foldl (fun m w => if bit w 31 then mdel m (bits w 14 0) else mset m (bits w 14 0) (bits w 29 16)) s.sch.cfg.qmap } } })
        (putLe 4 0xFFFFFFFF))))
  ∧ (∀ c, starts 0x0A03 vi io e s = true → e.p 26 1 = 1 → c = { rate := e.p 28 4, burst := e.p 32 4, overhead := sx 8 (e.p 36 1) } →
      64 ≤ c.rate → c.rate ≤ 1600000000 → 64 ≤ c.burst → c.burst ≤ 16777216 → -32 ≤ c.overhead → c.overhead ≤ 63 →
      mhas s.sch.cfg.shapers (e.p 24 2) = true → s.onTrial = false →
      exec (.schSetShaper vi io) s = .next (completed vi io e (.ok (saveSettings { taken vi s with
        sch := { s.sch with
          shapers := mset s.sch.shapers (e.p 24 2) { mgetD s.sch.shapers (e.p 24 2) {} with next := some (c, bit (e.p 27 1) 0) } } })
        (putLe 8 (wrapInt 64 (mgetD s.sch.shapers (e.p 24 2) {}).credit)))))
  ∧ (∀ c, starts 0x0A03 vi io e s = true → e.p 26 1 = 1 → c = { rate := e.p 28 4, burst := e.p 32 4, overhead := sx 8 (e.p 36 1) } →
      64 ≤ c.rate → c.rate ≤ 1600000000 → 64 ≤ c.burst → c.burst ≤ 16777216 → -32 ≤ c.overhead → c.overhead ≤ 63 →
      mhas s.sch.cfg.shapers (e.p 24 2) = false → s.onTrial = false →
      exec (.schSetShaper vi io) s = .next (completed vi io e (.ok (saveSettings { taken vi s with
        sch := { s.sch with
          cfg := { s.sch.cfg with shapers := mset s.sch.cfg.shapers (e.p 24 2) c },
          shapers := mset s.sch.shapers (e.p 24 2) { refillAt := s.mono + 10240 } } })
        (putLe 8 (wrapInt 64 (mgetD s.sch.shapers (e.p 24 2) {}).credit)))))
  ∧ (starts 0x0A03 vi io e s = true → e.p 26 1 = 2 → mhas s.sch.cfg.shapers (e.p 24 2) = true →
      s.sch.cfg.attachedElsewhere (e.p 24 2) 0 = false → s.onTrial = false →
      exec (.schSetShaper vi io) s = .next (completed vi io e (.ok (saveSettings { taken vi s with
        sch := { s.sch with
          cfg := { s.sch.cfg with shapers := mdel s.sch.cfg.shapers (e.p 24 2) },
          shapers := mdel s.sch.shapers (e.p 24 2) } }) (putLe 8 (wrapInt 64 (mgetD s.sch.shapers (e.p 24 2) {}).credit)))))
  ∧ (starts 0x0A04 vi io e s = true → e.p 24 4 ≤ 1048575 → e.p 28 1 = 2 → s.mayPolice vi (e.p 24 4) = true → s.onTrial = false →
      exec (.schSetPolicer vi io) s = .next (completed vi io e (.ok (saveSettings { taken vi s with
        sch := { s.sch with
          cfg := { s.sch.cfg with policers := mdel s.sch.cfg.policers (e.p 24 4) },
          policers := mdel s.sch.policers (e.p 24 4) } }))))
  ∧ (∀ c, starts 0x0A04 vi io e s = true → e.p 24 4 ≤ 1048575 → e.p 28 1 = 1 → s.mayPolice vi (e.p 24 4) = true → (c.mode = 1 ∧ c.eir = 0 ∨ c.mode = 2) →
      c = {
        mode := e.p 29 1, flags := e.p 30 1 % 4, overhead := sx 8 (e.p 31 1), cir := e.p 32 4, cbs := e.p 36 4, eir := e.p 40 4, ebs := e.p 44 4 } →
      -32 ≤ c.overhead → c.overhead ≤ 63 → s.onTrial = false →
      exec (.schSetPolicer vi io) s = .next (completed vi io e (.ok (saveSettings (setPolicer (e.p 24 4) c (taken vi s))))))
  ∧ (∀ n, starts 0x0A04 vi io e s = true → n = e.p 24 4 → n ≤ 1048575 → e.p 28 1 = 3 → s.mayPolice vi n = true → 48 ≤ e.dataLen →
      (bit (e.p 30 1) 2 = false → exec (.schSetPolicer vi io) s = .next (completed vi io e (.read (taken vi s) [] (polCounts (taken vi s) n))))
      ∧ (bit (e.p 30 1) 2 = true → exec (.schSetPolicer vi io) s = .next (completed vi io e {
          st := [Cn.polGreen, Cn.polYellow, Cn.polRed, Cn.polGreenBytes, Cn.polYellowBytes, Cn.polRedBytes].foldl (fun (s : State) k =>
            { s with cnt := { s.cnt with vals := mdel s.cnt.vals (counterKey k n) } }) (taken vi s),
          data := polCounts (taken vi s) n, changed := true })))
  ∧ (∀ p c start ws l, starts 0x0A05 vi io e s = true → p = e.p 24 1 → p ≤ 127 → e.p 25 1 = 1 → s.pcfg p = some c → c.type ≠ 2 →
      1000 ≤ e.p 28 4 → e.p 28 4 ≤ 1000000000 → targetClass (e.p 32 8) s.timeNs ≠ .past → start = gateStart (e.p 32 8) (e.p 28 4) s.timeNs →
      1 ≤ e.p 26 2 → e.p 26 2 ≤ 256 → e.dataLen = 8 * e.p 26 2 → ws = (chunks 8 (e.p 26 2) e.buf).map leVal →
      ws.any (fun w => decide (bits w 31 8 ≠ 0)) = false →
      l = ({ entries := ws.map (fun w => (w % 256, w / 2 ^ 32)), cycle := e.p 28 4, base := e.p 32 8 } : GateList) →
      (∀ x, x ∈ l.entries → 16 ≤ x.2 ∧ x.2 ≤ 1000000000) → sumOf l.entries (fun x => x.2) ≤ e.p 28 4 →
      (∀ tc, tc < 8 → ceilDiv ((10352 + (s.schPort p).gateOverhead + (if (s.secy p).enable = true ∧ bit (s.secy p).flags 0 = true then 32 else 0)) * 8)
        c.lowestGbps ≤ l.longestOpen tc) → s.onTrial = false →
      exec (.schGateList vi io) s = .next (completed vi io e (.ok (saveSettings { (taken vi s).modEport p
        (fun x => { x with pendingList := some (start, true, l) }) with
          sch := { ((taken vi s).modEport p (fun x => { x with pendingList := some (start, true, l) })).sch with
            cfg := { s.sch.cfg with gates := mset s.sch.cfg.gates p l } } }) (putLe 8 start))))
  ∧ (∀ c start, starts 0x0A05 vi io e s = true → e.p 24 1 ≤ 127 → e.p 25 1 = 2 → s.pcfg (e.p 24 1) = some c → c.type ≠ 2 → 1000 ≤ e.p 28 4 →
      e.p 28 4 ≤ 1000000000 → targetClass (e.p 32 8) s.timeNs ≠ .past → start = gateStart (e.p 32 8) (e.p 28 4) s.timeNs →
      s.onTrial = false → ∃ u, exec (.schGateList vi io) s = .next (completed vi io e (.ok (saveSettings u) (putLe 8 start)))
        ∧ u.eport (e.p 24 1) = { s.eport (e.p 24 1) with
            pendingList := some (start, false, { cycle := e.p 28 4, base := e.p 32 8 }) }
        ∧ u.sch.cfg = { s.sch.cfg with gates := mdel s.sch.cfg.gates (e.p 24 1) } ∧ Changes [.sch] (taken vi s) u)
  ∧ (∀ p b pol prof rem, p = e.p 24 1 → b = e.p 28 1 → pol = e.p 32 4 → prof = e.p 36 1 → rem = e.p 37 1 →
      starts 0x0A06 vi io e s = true → p ≤ 127 → e.p 26 2 ≤ 5000 → e.p 30 2 ≤ 16383 → (pol = 0xFFFFFFFF ∨ pol ≤ 65535) →
      (prof = 0xFF ∨ prof ≤ 63) → (rem = 0xFF ∨ rem ≤ 63) → (s.pcfg p).isSome = true →
      (b = 0xFF ∨ (b ≤ 127 ∧ b ≠ p ∧ (s.pcfg b).isSome = true ∧ s.rehomeReady b (s.rehomeBlock b) = true)) → s.onTrial = false →
      exec (.schPort vi io) s = .next (completed vi io e (.ok (saveSettings { taken vi s with
        sch := { s.sch with
          cfg := { s.sch.cfg with
            ports := mset s.sch.cfg.ports p {
              drrTest := bit (e.p 25 1) 0, holdDown := e.p 26 2, backup := if b = 0xFF then none else some b,
              gateOverhead := e.p 29 1, rehome := some (e.p 30 2), egPolicer := if pol = 0xFFFFFFFF then none else some pol,
              egProfile := if prof = 0xFF then none else some prof, remark := if rem = 0xFF then none else some rem } } } }))))
  ∧ (∀ vals, starts 0x0A07 vi io e s = true → e.p 24 1 ≤ 63 → vals = (List.range 9).map (fun i => e.p (26 + i) 1) →
      (vals.take 3).any (fun v => decide (63 < v)) = false → (vals.drop 3).any (fun v => decide (7 < v)) = false → s.onTrial = false →
      exec (.schRemark vi io) s = .next (completed vi io e (.ok (saveSettings { taken vi s with
        sch := { s.sch with cfg := { s.sch.cfg with remarks := mset s.sch.cfg.remarks (e.p 24 1) (e.p 25 1, vals) } } }))))
  ∧ (∀ p, starts 0x0A08 vi io e s = true → e.p 24 1 = 1 → s.queuePort (e.p 28 4) = some p → s.ownsQueue vi (e.p 28 4) = true → ∃ u,
      exec (.schFlush vi io) s = .next (completed vi io e (.ok u (putLe 4 (s.equeue (e.p 28 4)).length
        ++ putLe 8 (epktBytes (s.equeue (e.p 28 4)))))) ∧ u.equeue (e.p 28 4) = []
        ∧ Changes [.draws, .rings, .tbl, .fab, .sch, .pair, .flt, .cnt, .out] (taken vi s) u)
  ∧ (∀ p qs, starts 0x0A08 vi io e s = true →
      ((e.p 24 1 = 1 ∧ s.queuePort (e.p 28 4) = some p ∧ qs = [e.p 28 4])
        ∨ (e.p 24 1 = 2 ∧ p = e.p 28 4 ∧ p ≤ 127 ∧ qs = s.queuesUnder p)) → qs.all (s.ownsQueue vi) = true →
      exec (.schFlush vi io) s = .next (completed vi io e (.ok
        ((mkeys (flushQueues p qs (taken vi s)).1.sch.eports).foldl (fun s k => returnCheck k s) (flushQueues p qs (taken vi s)).1)
        (putLe 4 (qs.flatMap s.equeue).length ++ putLe 8 (epktBytes (qs.flatMap s.equeue))))))
  ∧ (starts 0x0A09 vi io e s = true → e.p 24 1 ≤ 127 → (vi = 0 ∨ s.ownsPort vi (e.p 24 1) = true) → ∃ d, exec (.schStatus vi io) s = .next (completed vi io e (.read (taken vi s) [] d))
      ∧ d.length = 64 ∧ (putLe 1 (s.eport (e.p 24 1)).hold.code) <+: d)

/-- Selection, transmission, shapers, gates and the hold deadline (R353, R358, R359, R362, R363, R368, R371, Table ES-3). -/
def Obligations.SchEventsComplete : Prop :=
  ∀ s : State,
    (∀ port, port < 128 → s.portUp port = true → (s.eport port).hold = .run → (s.eport port).tx = [] → (s.eport port).paceAt ≤ s.mono →
      s.dark port = false →
      ((drrUpkeep port s).offer port 4 1 port = none → exec (.schedulerSelect port) s = .next (drrUpkeep port s))
      ∧ (∀ k, (drrUpkeep port s).offer port 4 1 port = some k → exec (.schedulerSelect port) s = .next (applyPick port k (drrUpkeep port s))))
  ∧ (∀ port k, s.portUp port = true → s.mayTransmit port = true → (s.eport port).hold = .run → s.nextTx port = some k →
      exec (.lineFrameTransmit port) s = .next (transmit port k s))
  ∧ (∀ h x c credit, mget s.sch.shapers h = some x → x.refillAt ≤ s.mono →
      (c, credit) = (match x.next with
        | none => (mgetD s.sch.cfg.shapers h {}, x.credit)
        | some (n, forgive) => (n, if forgive = true ∧ x.credit < 0 then 0 else x.credit)) →
      exec (.shaperRefill h) s = .next { s with
        sch := { s.sch with
          cfg := { s.sch.cfg with shapers := mset s.sch.cfg.shapers h c },
          shapers := mset s.sch.shapers h { x with
            credit := min (credit + refillTokens c.rate) ((c.burst : Int) * 65536), next := none, refillAt := x.refillAt + 10240 } } })
  ∧ (∀ port start l, (s.eport port).pendingList = some (start, false, l) → s.timeReached start = true →
      exec (.gateListStart port) s = .next (s.modEport port (fun x => { x with pendingList := none, list := none, gapped := false })))
  ∧ (∀ port, (s.eport port).hold = .hold → (s.eport port).deadline ≤ s.mono → s.onlyNoSa port = false →
      exec (.holdDeadline port) s = .next (retrainDone port (holdDeadline port s)))
  ∧ (∀ port k pkt l, port < 128 → s.portUp port = true → (s.eport port).hold = .run → (s.eport port).tx = [] → (s.eport port).paceAt ≤ s.mono → s.dark port = false →
      s.drrCauses port = 0 → (s.eport port).drr = false → (s.eport port).drrLeft = [] → s.offer port 4 1 port = some k →
      s.equeue k.queue = pkt :: l → k.left = [] → ∃ t, exec (.schedulerSelect port) s = .next t
        ∧ (t.eport port).tx = [(k.queue, pkt)] ∧ t.equeue k.queue = l ∧ (∀ q, q ≠ k.queue → t.equeue q = s.equeue q) ∧ Changes [.sch] s t)
  ∧ (∀ port k v b, s.portUp port = true → s.mayTransmit port = true → (s.eport port).hold = .run → (s.eport port).lateSlot = [] → (s.eport port).tx = [k] →
      k.2.whole = true → s.version? k.2 = some v → s.flt.tblPcCopying = [] → (s.eport port).list = none →
      (s.schPort port).egProfile = none → (s.schPort port).egPolicer = none → (s.secy port).enable = false →
      s.readsFit true k.2.rdAsk v.reads = true →
      (s.tport port).tsEnable = false → k.2.jcrc = Config.jcrc k.2.bytes → b = remark none v.record port k.2.colour
        (rewrite v.record k.2.ecnMark k.2.ecnOff k.2.bytes) s → ∃ t, exec (.lineFrameTransmit port) s = .next t
      ∧ .lineFrame port (b ++ fcsOf b) ∈ t.out
      ∧ Changes [.draws, .rings, .port, .tim, .tbl, .mash, .asa, .fab, .sch, .pair, .sec, .log, .flt, .cnt, .out] s t)
  ∧ (∀ h x c, mget s.sch.shapers h = some x → x.refillAt ≤ s.mono → x.next = none → mget s.sch.cfg.shapers h = some c →
      exec (.shaperRefill h) s = .next { s with
        sch := { s.sch with
          cfg := { s.sch.cfg with shapers := mset s.sch.cfg.shapers h c },
          shapers := mset s.sch.shapers h { x with
            credit := min (x.credit + refillTokens c.rate) ((c.burst : Int) * 65536), refillAt := x.refillAt + 10240 } } })
  ∧ (∀ port start l, (s.eport port).pendingList = some (start, true, l) → s.timeReached start = true → ∃ t,
      exec (.gateListStart port) s = .next t ∧ t.eport port = { s.eport port with
        pendingList := none, list := some l, gateIdx := 0, cycleStart := start, gateEnd := (start + l.interval 0) % 2 ^ 64, gapped := false }
      ∧ Changes [.rings, .sch, .cnt, .out] s t)
  ∧ (∀ port l, (s.eport port).list = some l → s.timeReached (s.eport port).gateEnd = true →
      exec (.gateEntryEnd port) s = .next (s.modEport port (fun x => x.nextGate l)))
  ∧ (∀ port, (s.eport port).hold = .hold → (s.eport port).deadline ≤ s.mono → s.onlyNoSa port = false → (s.schPort port).backup = none →
      port ∉ s.dev.retraining → ∃ t, exec (.holdDeadline port) s = .next t ∧ (t.eport port).hold = .flushed
      ∧ Changes [.draws, .rings, .tbl, .fab, .sch, .pair, .flt, .cnt, .out] s t)

/-- Commands of family PAIR (R380–R382, R390, R400, R410, R415, Table PR-6). -/
def Obligations.PairCommandsComplete : Prop :=
  ∀ (vi : Nat) (io : HostIo) (e : Entry) (s : State),
    (∀ c o, starts 0x0B01 vi io e s = true → e.p 28 1 = 1 → c.priority = e.p 29 1 → c.partner = e.p 24 2 → c.pairSun = e.p 26 2 →
      c.wait = orDefault (e.p 30 2) 2000 → c.draught = orDefault (e.p 32 2) 60 → c.staleLag = orDefault (e.p 34 2) 2 → c.partner ≤ 2047 → c.pairSun ≤ 2047 → 100 ≤ c.wait → c.wait ≤ 60000 →
      10 ≤ c.draught → c.draught ≤ 3600 → c.staleLag ≤ 1000 → c.partner ≠ s.dev.cfg.sun → c.pairSun ≠ s.dev.cfg.sun →
      s.pair.cfg.ports.any (fun p => p.2.stream == c.pairSun) = false → s.onTrial = false → s.pair.cfg.pair = o →
      exec (.pairConfig vi io) s = .next (completed vi io e (.ok (saveSettings (match o with
        | none => startSeeking { taken vi s with pair := { s.pair with cfg := { s.pair.cfg with pair := some c } } }
        | some x =>
          if x.partner = c.partner ∧ x.pairSun = c.pairSun then
            { taken vi s with pair := { s.pair with cfg := { s.pair.cfg with pair := some c } } }
          else startSeeking ((stopPair (taken vi s)).modPair (fun p => { p with cfg := { p.cfg with pair := some c } })))))))
  ∧ (starts 0x0B01 vi io e s = true → e.p 28 1 = 2 → (s.holdsBung = false ∨ (s.partnerState ≠ 6 ∧ s.partnerState ≠ 7)) → s.onTrial = false →
      exec (.pairConfig vi io) s = .next (completed vi io e (.ok (saveSettings (if s.member then
        stopPair { taken vi s with pair := { s.pair with cfg := { s.pair.cfg with pair := none } } } else taken vi s)))))
  ∧ (∀ p, starts 0x0B02 vi io e s = true → p = e.p 24 1 → p ≤ 127 → s.member = true → e.p 25 1 = 2 → s.onTrial = false →
      exec (.pairPort vi io) s = .next (completed vi io e (.ok (saveSettings ((({ taken vi s with
        pair := { s.pair with cfg := { s.pair.cfg with ports := mdel s.pair.cfg.ports p }, ports := mdel s.pair.ports p } } : State).modPort p
          (fun x => { x with arrivals := 0 })).emit (.portExchange p none))))))
  ∧ (∀ c, starts 0x0B02 vi io e s = true → e.p 24 1 ≤ 127 → s.member = true → e.p 25 1 = 1 → c = { txMode := e.p 26 1, stream := e.p 28 2 } →
      1 ≤ c.txMode → c.txMode ≤ 2 → c.stream ≤ 2047 → c.stream ≠ s.dev.cfg.sun → c.stream ≠ s.pairSun →
      s.pair.cfg.ports.any (fun o => o.1 != e.p 24 1 && o.2.stream == c.stream) = false →
      (mset s.pair.cfg.ports (e.p 24 1) c).length ≤ 128 → s.sharedGbps (mset s.pair.cfg.ports (e.p 24 1) c) ≤ 3200 → s.onTrial = false →
      exec (.pairPort vi io) s = .next (completed vi io e (.ok (saveSettings ((pairRematch (e.p 24 1) { taken vi s with
        pair := { s.pair with cfg := { s.pair.cfg with ports := mset s.pair.cfg.ports (e.p 24 1) c } } }).emit
          (.portExchange (e.p 24 1) (some (c.txMode, c.stream))))))))
  ∧ (starts 0x0B03 vi io e s = true → ∃ d, exec (.pairState vi io) s = .next (completed vi io e (.read (taken vi s) [] d))
      ∧ d.length = 64 ∧ (putLe 1 s.pair.st.code ++ putLe 1 (maskOf s.pair.peerLanes)) <+: d)
  ∧ (starts 0x0B04 vi io e s = true → s.member = true → s.pair.st = .active → s.partnerState = 6 → ∃ u,
      exec (.pairSwitch vi io) s = .next (completed vi io e (.ok u (putLe 4 ((s.pair.highGen + 1) % 2 ^ 32))))
      ∧ u.pair = { s.pair with st := .fenced, handing := some ((s.pair.highGen + 1) % 2 ^ 32), highGen := (s.pair.highGen + 1) % 2 ^ 32 }
      ∧ Changes [.draws, .rings, .fab, .sch, .pair, .flt, .cnt, .out] (taken vi s) u)
  ∧ (starts 0x0B05 vi io e s = true → s.member = true → e.p 24 1 = 1 → s.holdsBung = true →
      exec (.pairDraught vi io) s = .next (completed vi io e (.ok (taken vi s) (putLe 4 s.pair.draughtFailed))))
  ∧ (starts 0x0B05 vi io e s = true → s.member = true → e.p 24 1 = 1 → s.holdsBung = false → ∃ u,
      exec (.pairDraught vi io) s = .next (completed vi io e (.ok u (putLe 4 u.pair.draughtFailed))) ∧ u.pair.draughtAt = s.mono ∧ u.pair.lastDraught = s.mono
      ∧ Changes [.draws, .rings, .port, .mash, .adm, .pair, .insts, .cnt, .out] (taken vi s) u)

/-- Discovery and the bung between partners (R113, R382, R395–R400, Tables BU-8 and PR-4). -/
def Obligations.LeaseEventsComplete : Prop :=
  ∀ s : State,
    (s.member = true → s.pair.peerLanes ≠ [] → s.pair.helloAt ≤ s.mono → ∃ h : Hello, exec .helloSend s = .next { s with
        pair := { s.pair with helloAt := s.mono + Config.us 100 }, out := s.out ++ s.pair.peerLanes.map (fun l => .hello l h) }
      ∧ h.sun = s.dev.cfg.sun ∧ h.shared = s.pairSun ∧ h.partner = s.partnerOf ∧ h.digest = s.pairDigest)
  ∧ (∀ h, s.member = true → s.pair.peerLanes ≠ [] → exec (.helloReceive h) s = .next (helloIn h s))
  ∧ (∀ h, s.member = true → s.pair.peerLanes ≠ [] → s.pair.disc = .seeking → exec (.helloReceive h) s = .next { s with
        pair := { s.pair with lastHello := s.mono, partnerFw := h.fw, partnerSun := h.sun, helloMatches := 0, disc := .seen } })
  ∧ (s.member = true → s.pair.lastHello + Config.ms 10 ≤ s.mono → (s.pair.disc = .seen ∨ s.pair.disc = .mismatch) → exec .helloLoss s =
      .next (notify Ev.pairPartnerLost (putLe 2 s.pair.partnerSun) [] { s with pair := { s.pair with disc := .seeking, helloMatches := 0 } }))
  ∧ (s.member = true → s.pair.lastHello + Config.ms 10 ≤ s.mono → s.pair.disc = .matched → s.present s.partnerOf = false → exec .helloLoss s =
      .next { s with
        pair := if s.pair.st = .syncing then
            { s.pair with disc := .seeking, helloMatches := 0, st := .seeking, seekSince := s.mono, tail := [], tailBytes := 0, tailSince := none }
          else { s.pair with disc := .seeking, helloMatches := 0 } })
  ∧ (∀ c, s.pair.cfg.pair = some c → s.pair.st = .seeking → s.pair.seekSince + Config.ms c.wait ≤ s.mono → s.mayTake = true → ∃ t,
      exec .partnerWaitExpiry s = .next t ∧ t.pair.st = .solo ∧ t.pair.gen = (s.pair.highGen + 1) % 2 ^ 32 ∧ Changes [.queue, .pair, .out] s t)
  ∧ (∀ port x own, s.member = true → port < 128 → own = (mget s.pair.cfg.ports port).map (fun c => (c.txMode, c.stream)) → ∃ t,
      exec (.pairPortExchange port x) s = .next t ∧ t.ppair port = { s.ppair port with partner := x, matched := own.isSome && x == own }
      ∧ (∀ q, q ≠ port → t.ppair q = s.ppair q) ∧ Changes [.pair] s t)
  ∧ (∀ n, s.pair.st = .active → s.pair.renewAt ≤ s.mono → s.peerUp = true → n = (s.pair.renewNo + 1) % 2 ^ 32 →
      exec .bungRenewSend s = .next { s with
        pair := { s.pair with renewNo := n, renewAt := s.mono + Config.us 100, sentRenews := mset s.pair.sentRenews n s.mono },
        out := s.out ++ [.peer (bungEntryBytes 1 s.pair.gen n)] })
  ∧ (∀ n u, s.pair.st = .active → s.pair.renewAt ≤ s.mono → s.peerUp = false → n = (s.pair.renewNo + 1) % 2 ^ 32 → u = ({ s with
        pair := { s.pair with renewNo := n, renewAt := s.mono + Config.us 100, sentRenews := mset s.pair.sentRenews n s.mono } } : State) →
      exec .bungRenewSend s = .next (sendBung (bungEntryBytes 1 s.pair.gen n) (count Cn.pairRenewFabric 0 1 u)))
  ∧ (∀ gen n, exec (.bungRenew gen n) s = .next (bungRenewIn gen n s) ∧ exec (.bungAck gen n) s = .next (bungAckIn gen n s)
      ∧ exec (.bungHandover gen) s = .next (bungHandoverIn gen s))
  ∧ (∀ gen n, s.member = true → s.pair.st = .standby → s.pair.gen ≤ gen → s.peerUp = true → exec (.bungRenew gen n) s = .next { s with
        pair := { s.pair with gen := gen, highGen := max s.pair.highGen gen, tA := some s.mono },
        out := s.out ++ [.peer (bungEntryBytes 2 gen n)] })
  ∧ (∀ n at_, s.member = true → s.pair.st = .active → mget s.pair.sentRenews n = some at_ → exec (.bungAck s.pair.gen n) s = .next { s with
        pair := { s.pair with
          highGen := max s.pair.highGen s.pair.gen, lastAcked := some (max at_ (s.pair.lastAcked.getD 0)),
          sentRenews := s.pair.sentRenews.filter (fun x => decide (at_ < x.2)) } })
  ∧ (∀ gen, s.pair.st = .standby → s.pair.gen < gen → s.peerUp = true → ∃ t, exec (.bungHandover gen) s = .next t ∧ t.pair.st = .taking
      ∧ t.pair.gen = gen ∧ t.out = s.out ++ [.peer (bungEntryBytes 4 gen 0)] ∧ Changes [.pair, .out] s t)
  ∧ (∀ gen, s.pair.st = .fenced → s.pair.handing = some gen → ∃ t, exec (.bungHandoverAck gen) s = .next t
      ∧ t.pair.st = (if s.peerUp then .standby else .stale) ∧ t.pair.gen = gen ∧ t.pair.handing = none ∧ Changes [.pair] s t)
  ∧ (∀ at_, s.pair.st = .active → s.pair.lastAcked = some at_ → at_ + Config.us 350 ≤ s.mono → exec .leaseFence s =
      .next (count Cn.pairFence 0 1 (notify Ev.pairFenced (putLe 4 s.pair.gen) [] { darken s with pair := { s.pair with st := .fenced } })))
  ∧ (∀ at_, (s.pair.st = .standby ∨ s.pair.st = .stale) → s.pair.tA = some at_ → at_ + Config.us 500 ≤ s.mono → s.mayTake = true → ∃ t,
      exec .bungTake s = .next t ∧ t.pair.st = .taking ∧ t.pair.gen = (s.pair.highGen + 1) % 2 ^ 32 ∧ Changes [.pair] s t)
  ∧ (∀ at_ u, s.pair.st = .fenced → s.pair.lastAcked = some at_ → at_ + Config.us 500 ≤ s.mono → s.mayTake = true → u = ({ s with
        pair := { s.pair with gen := (s.pair.highGen + 1) % 2 ^ 32, highGen := (s.pair.highGen + 1) % 2 ^ 32, handing := none } } : State) →
      exec .bungTake s = .next (if s.present s.partnerOf then becomeActive u else becomeSolo u))
  ∧ (s.pair.st = .taking → ∃ t, exec .takeoverComplete s = .next t
      ∧ Changes [.draws, .rings, .queue, .port, .tbl, .mash, .adm, .fab, .sch, .pair, .insts, .log, .flt, .cnt, .out] s t)
  ∧ (s.pair.st = .taking → s.pair.takeCause = 2 → s.pair.cfg.ports = [] → ∃ t, exec .takeoverComplete s = .next t
      ∧ t.pair.st = (if s.present s.partnerOf then .active else .solo) ∧ t.pair.gen = s.pair.gen ∧ t.pair.marks = []
      ∧ Changes [.draws, .rings, .queue, .pair, .cnt, .out] s t)

/-- ANNOUNCE, RECON, MARK, anchoring, the journal, draught checks and the peer lanes (R386–R388, R391, R393, R394, R402, R405–R410). -/
def Obligations.PairStreamsComplete : Prop :=
  ∀ s : State,
    (∀ a : Announce, s.member = true → s.pair.announceAt ≤ s.mono → a.pairSun = s.pairSun → a.sun = s.dev.cfg.sun →
      a.gen = s.pair.gen → a.bung = (s.holdsBung || s.pair.st == .taking) → a.fenced = (s.pair.st == .fenced) →
      a.synced = (s.pair.st == .standby || s.pair.st == .stale) → exec .announceSend s = .next (flushMarks (sendEntry s.reachableSuns
        (announceEntryBytes a) { s with pair := { s.pair with announceAt := s.mono + Config.us 50 } })))
  ∧ (∀ a : Announce, a.sun ≠ s.dev.cfg.sun → exec (.announceEntry a) s = .next (announceIn a s))
  ∧ (∀ stream sp tc n who, exec (.divergeEntry stream sp tc n who) s = .next (divergeIn stream sp tc n who s))
  ∧ (∀ stream a kind sp tc n, exec (.reconQuery stream a) s = .next (reconQueryIn stream a s)
      ∧ exec (.reconAnswer stream a kind sp tc n) s = .next (reconAnswerIn stream a kind sp tc n s))
  ∧ (∀ p a at_, (s.ppair p).query = some (a, at_) → at_ + Config.us 50 ≤ s.mono →
      exec (.reconQueryTimeout p) s = .next (numberAll p (proceedUnknown p s)))
  ∧ (∀ stream sp tc n, s.member = true → exec (.markEntry stream sp tc n) s = .next (markIn stream sp tc n s))
  ∧ (∀ a : Announce, a.sun ≠ s.dev.cfg.sun → a.sun ≠ s.partnerOf → exec (.announceEntry a) s = .next (pairedAll none (heardFrom a.sun { s with
        pair := { s.pair with
          heard := mset s.pair.heard a.sun
            { pairSun := a.pairSun, gen := a.gen, bung := a.bung, fenced := a.fenced, synced := a.synced, at_ := s.mono } } })))
  ∧ (∀ stream sp tc n who p, s.portOfStream stream = some p → ∃ t, exec (.divergeEntry stream sp tc n who) s = .next t
      ∧ (t.ppair p).sync = false ∧ Changes [.rings, .pair, .cnt, .out] s t)
  ∧ (∀ stream a p, s.portOfStream stream = some p → dist 48 (s.ppair p).nextArrival a < 65536 → (s.ppair p).query = none → ∃ t,
      exec (.reconQuery stream a) s = .next t ∧ t.ppair p = { s.ppair p with asked := addOnce (s.ppair p).asked a } ∧ Changes [.pair] s t)
  ∧ (∀ stream a sp tc n p at_, s.portOfStream stream = some p → (s.ppair p).query = some (a, at_) → (s.ppair p).held = [] →
      a ∉ (s.ppair p).asked → ∃ t, exec (.reconAnswer stream a 3 sp tc n) s = .next t ∧ (t.ppair p).query = none
      ∧ (t.ppair p).nextArrival = (a + 1) % 2 ^ 48 ∧ mget (t.ppair p).log a = some .nothing ∧ Changes [.pair] s t)
  ∧ (∀ p a at_, (s.ppair p).query = some (a, at_) → at_ + Config.us 50 ≤ s.mono → (s.ppair p).held = [] → ∃ t,
      exec (.reconQueryTimeout p) s = .next t ∧ (t.ppair p).query = none ∧ (t.ppair p).nextArrival = ((s.ppair p).nextArrival + 1) % 2 ^ 48
      ∧ (t.ppair p).sync = false ∧ Changes [.rings, .pair, .cnt, .out] s t)
  ∧ (∀ p epoch a, s.member = true → s.holdsBung = false → mhas s.pair.cfg.ports p = true → epoch ≠ 0 → a < 2 ^ 48 →
      exec (.arrivalSwitchPoint p epoch a) s = .next (issueFrom p (s.modPpair p (fun x => { x with
        switches := x.switches.map (fun w => if w.2 = epoch ∧ w.1 = noArrival then (a, w.2) else w) }))))
  ∧ (∀ p a, s.member = true → s.holdsBung = false → mhas s.pair.cfg.ports p = true → ∃ t, exec (.arrivalSwitchPoint p 0 a) s = .next (issueFrom p t)
      ∧ (t.ppair p).asaHeld.length = (s.ppair p).asaHeld.length ∧ (∀ q, q ≠ p → t.ppair q = s.ppair q)
      ∧ (∀ i, (s.ppair p).asaHeld.findIdx? (fun h => h.1 == noArrival) = some i →
          (t.ppair p).asaHeld[i]? = ((s.ppair p).asaHeld[i]?).map (fun h => (a % 2 ^ 48, h.2)) ∧ (∀ j, j ≠ i → (t.ppair p).asaHeld[j]? = (s.ppair p).asaHeld[j]?))
      ∧ Changes [.pair] s t)
  ∧ (∀ stream sp tc n, s.member = true → s.holdsBung = false →
      (mget s.pair.cfg.ports (s.localPort sp)).map PairPortCfg.txMode = some 2 → ∃ t, exec (.markEntry stream sp tc n) s = .next t
      ∧ t.pair = { s.pair with marks := mset s.pair.marks (streamKey stream sp tc) n }
      ∧ Changes [.draws, .rings, .tbl, .fab, .sch, .pair, .flt, .cnt, .out] s t)
  ∧ (∀ p first run a, s.member = true → s.holdsBung = false → mhas s.pair.cfg.ports p = true → (s.ppair p).sync = false → run ≠ [] →
      runPlaces run (s.ppair p).rxLog = [a] → ∃ t, exec (.anchorRun p first run) s = .next t ∧ (t.ppair p).anchored = true
      ∧ (t.lport p).arrivals = ((s.lport p).arrivals + dist 48 a first) % 2 ^ 48 ∧ Changes [.port, .mash, .pair] s t)
  ∧ (∀ p first run, s.member = true → s.holdsBung = false → mhas s.pair.cfg.ports p = true → (s.ppair p).sync = false → run ≠ [] →
      (∀ a, runPlaces run (s.ppair p).rxLog ≠ [a]) → exec (.anchorRun p first run) s = .next { s with out := s.out ++ [.anchorAsk p] })
  ∧ (∀ p cut nexts, s.member = true → s.holdsBung = false → (s.ppair p).matched = true → (s.ppair p).anchored = true →
      (s.ppair p).sync = false → ∃ t, exec (.anchorCut p cut nexts) s = .next t ∧ t.ppair p = { s.ppair p with
        sync := true, anchored := false,
        cut := if older 48 (s.ppair p).nextArrival (cut % 2 ^ 48) then some (cut % 2 ^ 48) else none } ∧ Changes [.rings, .fab, .pair, .cnt, .out] s t)
  ∧ (∀ h, s.pair.st = .syncing → mget s.pair.heard s.partnerOf = some h → h.bung = true → s.portsAnchored = true → s.peerUp = true → exec .syncComplete s =
      .next (notify Ev.pairSynced (putLe 4 s.pair.gen) [] { s with pair := { s.pair with st := .standby } }))
  ∧ (∀ h, s.pair.st = .syncing → mget s.pair.heard s.partnerOf = some h → h.bung = true → s.portsAnchored = true → s.peerUp = false →
      exec .syncComplete s = .next (notify Ev.pairStale (putLe 1 1 ++ zeros 11) [] (State.modPair (notify Ev.pairSynced (putLe 4 s.pair.gen) []
        { s with pair := { s.pair with st := .standby } }) (fun x => { x with st := .stale }))))
  ∧ (∀ p at_ st, (s.ppair p).freshAt = some at_ → at_ ≤ s.mono → st = ((mget s.pair.cfg.ports p).map PairPortCfg.stream).getD 0 →
      exec (.unsyncedPortRestart p) s = .next (numberAll p (State.modPpair { s with
        fab := { s.fab with txs := s.fab.txs.map (fun e => if e.1 / 2 ^ 18 = st then (e.1, (e.2.1, true)) else e) } } p
          (fun x => { x with freshAt := none }))))
  ∧ (∀ p at_, (s.ppair p).freshAt = some at_ → at_ ≤ s.mono → (s.ppair p).held = [] → ∃ t, exec (.unsyncedPortRestart p) s = .next t
      ∧ t.ppair p = { s.ppair p with freshAt := none } ∧ Changes [.fab, .pair] s t)
  ∧ (∀ c, s.pair.cfg.pair = some c → (s.pair.st = .standby ∨ s.pair.st = .stale) → s.pair.draughtAt + Config.sec c.draught ≤ s.mono → ∃ t,
      exec .draughtPeriod s = .next t ∧ t.pair.draughtAt = s.mono ∧ t.pair.lastDraught = s.mono
      ∧ Changes [.draws, .rings, .port, .mash, .adm, .pair, .insts, .cnt, .out] s t)
  ∧ (∀ lane, lane ∈ s.pair.peerLanes → without s.pair.peerLanes lane ≠ [] → exec (.peerLaneDown lane) s = .next (bump (winEvent 5 5) lane 1
        { s with pair := { s.pair with peerLanes := without s.pair.peerLanes lane } }))
  ∧ (∀ lane, s.pair.peerLanes = [lane] → ∃ t, exec (.peerLaneDown lane) s = .next t ∧ t.pair.peerLanes = [] ∧ mget t.sec.links 16 = none
      ∧ Changes [.draws, .rings, .pair, .sec, .log, .cnt, .out] s t)
  ∧ (∀ lane k, lane < 4 → s.member = true → s.domOn 55 = true → (5, 0) ∉ s.dev.blockResets → mget s.sec.links 16 = some k →
      k.keyed = true → lane ∉ s.pair.peerLanes → s.pair.peerLanes ≠ [] → exec (.peerLaneUp lane) s = .next { s with
        pair := { s.pair with peerLanes := sortUp (lane :: s.pair.peerLanes) } })
  ∧ (∀ lane k, lane < 4 → s.member = true → s.domOn 55 = true → (5, 0) ∉ s.dev.blockResets → mget s.sec.links 16 = some k →
      k.keyed = true → s.pair.peerLanes = [] → exec (.peerLaneUp lane) s = .next (staleRefresh (endWindow 15 0
        (notify Ev.pairPeerlinkUp (putLe 1 1) [] { s with pair := { s.pair with peerLanes := [lane] } }))))

/-- The pair journal on both members (R37, R402): records wait in the tail for their mark and are then applied in order; on the active the
acknowledgement of a mark lets the commands up to it complete. -/
def Obligations.JournalComplete : Prop :=
  ∀ s : State,
    (∀ recs bytes u, s.member = true → (s.pair.st = .syncing ∨ s.pair.st = .standby ∨ s.pair.st = .stale) → u = ({ s with
        pair := { s.pair with
          tail := s.pair.tail ++ recs, tailBytes := s.pair.tailBytes + bytes,
          tailSince := if s.pair.tail = [] ∧ recs ≠ [] then some s.mono else s.pair.tailSince } } : State) →
      exec (.journalEntry recs bytes) s = .next (staleRefresh (applyTail ((s.pair.tail ++ recs).length + 1) u)))
  ∧ (∀ recs bytes, s.member = true → s.pair.st = .standby → (∀ r, r ∈ s.pair.tail ++ recs → ∀ n, r ≠ .mark n) →
      exec (.journalEntry recs bytes) s = .next (staleRefresh { s with
        pair := { s.pair with
          tail := s.pair.tail ++ recs, tailBytes := s.pair.tailBytes + bytes,
          tailSince := if s.pair.tail = [] ∧ recs ≠ [] then some s.mono else s.pair.tailSince } }))
  ∧ (∀ vi e st dt res n bytes t u, s.member = true → s.pair.st = .standby → s.pair.tail = [] → u = { s with
        pair := { s.pair with
          tail := [.command vi e st dt res, .mark n], tailBytes := s.pair.tailBytes + bytes, tailSince := some s.mono } } →
      applyCommand vi e st dt res u = some t → exec (.journalEntry [.command vi e st dt res, .mark n] bytes) s =
        .next (staleRefresh ((t.modPair (fun p => { p with tail := [], tailSince := none, tailBytes := 0 })).emit (.journal [.mark n]))))
  ∧ (∀ mark, (s.pair.st = .active ∨ s.pair.st = .fenced) → s.pair.unacked.filter (fun u => decide (u.1 ≤ mark)) ≠ [] → ∃ t, exec (.journalMarkAck mark) s = .next t
      ∧ t.pair.unacked = s.pair.unacked.filter (fun u => decide (mark < u.1))
      ∧ (∀ p n, p ∈ t.hif.parked → p.wait = .mark n → n ≤ mark → p.ready = true) ∧ Changes [.rings, .queue, .pair, .cnt, .out] s t)

/-- Commands of family VI (R419–R422, R431, R437, R438, R443, R444, Tables VI-1, VI-3, VI-11). -/
def Obligations.ViCommandsComplete : Prop :=
  ∀ (vi t : Nat) (io : HostIo) (e : Entry) (s : State), t = e.p 24 1 →
    (starts 0x0C01 vi io e s = true → t ≠ 0 → t ≤ 63 → e.dataLen = 128 → (s.inst t).st = .absent → grantRefusal t e.buf s = none →
      s.onTrial = false → exec (.viCreate vi io) s = .next (completed vi io e (.ok (saveSettings { taken vi s with
        insts := mset s.insts t { st := .active, epoch := (s.inst t).epoch, grant := parseGrant e.buf } }))))
  ∧ (starts 0x0C02 vi io e s = true → t ≠ 0 → t ≤ 63 → e.dataLen = 128 → (s.inst t).st = .active → grantRefusal t e.buf s = none →
      s.grantInUse (s.inst t).grant (parseGrant e.buf) = false → s.onTrial = false →
      exec (.viModify vi io) s = .next (completed vi io e (.ok (saveSettings (poolUpkeep { taken vi s with
        insts := mset s.insts t { s.inst t with grant := parseGrant e.buf } })))))
  ∧ (starts 0x0C03 vi io e s = true → t ≠ 0 → t ≤ 63 → (s.inst t).st = .active → e.p 26 2 ≤ 10000 →
      s.grantInUse (s.inst t).grant {} = false → s.onTrial = false → ∃ u,
      exec (.viDestroy vi io) s = .next (park vi e io.writeOk { st := u } (.drain t) false) ∧ (u.inst t).st = .resetting
        ∧ (u.inst t).epoch = ((s.inst t).epoch + 1) % 256 ∧ (u.inst t).destroying = true ∧ Changes [.rings, .tbl, .insts, .cnt, .out] (taken vi s) u)
  ∧ (starts 0x0C04 vi io e s = true → t ≠ 0 → t ≤ 63 → (s.inst t).st = .active → e.p 26 2 ≤ 10000 → ∃ u,
      exec (.viReset vi io) s = .next (park vi e io.writeOk { st := u } (.drain t) false) ∧ (u.inst t).st = .resetting
        ∧ (u.inst t).epoch = ((s.inst t).epoch + 1) % 256 ∧ (u.inst t).flush = bit (e.p 25 1) 0
        ∧ (u.inst t).resetDeadline = s.mono + Config.ms (if e.p 26 2 = 0 then 100 else e.p 26 2) ∧ Changes [.rings, .tbl, .insts, .cnt, .out] (taken vi s) u)
  ∧ (starts 0x0C05 vi io e s = true → t ≤ 63 → (vi = 0 ∨ vi = t) → s.created t = true → (s.inst t).st ≠ .resetting → e.p 25 1 = 0 →
      e.p 27 1 = 1 → e.p 26 1 < s.queueCount t 0 → 4 ≤ e.p 28 1 → e.p 28 1 ≤ 12 → e.p 32 8 % 4096 = 0 → bit (e.p 29 1) 0 = false →
      exec (.viQueue vi io) s = .next (completed vi io e (.ok ((taken vi s).modPuntQ t (e.p 26 1)
        (fun _ => { enabled := true, base := e.p 32 8, log2 := e.p 28 1 })))))
  ∧ (starts 0x0C05 vi io e s = true → t ≤ 63 → (vi = 0 ∨ vi = t) → s.created t = true → (s.inst t).st ≠ .resetting → e.p 25 1 = 1 →
      e.p 27 1 = 2 → e.p 26 1 < s.queueCount t 1 → bit (e.p 29 1) 0 = false → (s.injQueueOf t (e.p 26 1)).fetched = [] →
      exec (.viQueue vi io) s = .next (completed vi io e (.ok ((taken vi s).modInjQ t (e.p 26 1) VQueue.disable))))
  ∧ (∀ q u on, starts 0x0C05 vi io e s = true → t ≤ 63 → (vi = 0 ∨ vi = t) → s.created t = true → (s.inst t).st ≠ .resetting → q = e.p 26 1 →
      (bit (e.p 29 1) 0 = true → ∀ x, x ∈ bytesAt e.raw 40 8 → x.toNat ≤ 7) →
      u = (if bit (e.p 29 1) 0 then (taken vi s).modInst t (fun i => { i with tcMap := (bytesAt e.raw 40 8).map (fun x => x.toNat) }) else taken vi s) →
      on = ({ enabled := true, base := e.p 32 8, log2 := e.p 28 1 } : VQueue) →
      (e.p 27 1 = 1 → 4 ≤ e.p 28 1 → e.p 28 1 ≤ 12 → e.p 32 8 % 4096 = 0 →
        (e.p 25 1 = 0 → q < s.queueCount t 0 → exec (.viQueue vi io) s = .next (completed vi io e (.ok (u.modPuntQ t q (fun _ => on)))))
        ∧ (e.p 25 1 = 1 → q < s.queueCount t 1 → exec (.viQueue vi io) s = .next (completed vi io e (.ok (u.modInjQ t q
            (fun x => { on with fetched := x.fetched }))))))
      ∧ (e.p 27 1 = 2 →
        (e.p 25 1 = 0 → q < s.queueCount t 0 → exec (.viQueue vi io) s = .next (completed vi io e (.ok (u.modPuntQ t q VQueue.disable))))
        ∧ (e.p 25 1 = 1 → q < s.queueCount t 1 → (s.injQueueOf t q).fetched = [] →
            exec (.viQueue vi io) s = .next (completed vi io e (.ok (u.modInjQ t q VQueue.disable))))
        ∧ (e.p 25 1 = 1 → q < s.queueCount t 1 → (s.injQueueOf t q).fetched ≠ [] → exec (.viQueue vi io) s = .next (completed vi io e {
            st := u.modInjQ t q VQueue.disable, wait := some (.injectReads t q, false) }))))
  ∧ (starts 0x0C06 vi io e s = true → t ≤ 63 → (vi = 0 ∨ vi = t) → s.created t = true → ∃ d,
      exec (.viStatus vi io) s = .next (completed vi io e (.read (taken vi s) [] d)) ∧ d.length = 32
        ∧ (putLe 1 (s.inst t).st.code ++ putLe 1 (s.inst t).epoch) <+: d)

/-- The end of an instance reset, and the punt and inject queues (R278, R433–R436, R438, R444). -/
def Obligations.ViQueuesComplete : Prop :=
  ∀ (vi q : Nat) (s : State),
    ((s.inst vi).st = .resetting → s.readsOut vi = false →
      ((s.undrained vi = [] ∧ (s.inst vi).punts = []) ∨ (s.inst vi).resetDeadline ≤ s.mono) → exec (.viResetDrainEnd vi) s = .next (resetEnd vi s))
  ∧ ((s.inst vi).st = .resetting → s.readsOut vi = false → (s.inst vi).resetDeadline ≤ s.mono → (s.inst vi).destroying = false → ∃ t,
      exec (.viResetDrainEnd vi) s = .next t
        ∧ Changes [.draws, .rings, .queue, .port, .tbl, .mash, .adm, .fab, .pair, .insts, .sec, .log, .flt, .cnt, .out] s t
        ∧ ((s.hif.parked.filter (fun p => p.wait == .drain vi)) = [] → (t.inst vi).st = .active))
  ∧ (∀ c b l, s.nextPunt vi q = some c → (s.puntQueueOf vi q).bufs = b :: l → c.ended = true → s.hostReach vi = true → ∃ t,
      exec (.puntDeliver vi q true) s = .next t ∧ (t.puntQueueOf vi q).bufs = l
        ∧ (t.inst vi).punts = (s.inst vi).punts.filter (fun y => decide (y ≠ c)) ∧ Changes [.rings, .insts, .log, .cnt, .out] s t)
  ∧ (∀ c b l, s.nextPunt vi q = some c → (s.puntQueueOf vi q).bufs = b :: l → c.ended = true → s.hostReach vi = true → ∃ t,
      exec (.puntDeliver vi q false) s = .next t ∧ t.puntQueueOf vi q = (s.puntQueueOf vi q).disable
        ∧ Changes [.rings, .insts, .log, .cnt, .out] s t)
  ∧ (∀ x l frame, (s.injQueueOf vi q).slots = x :: l → s.adm.poolXoff = false → s.hostReach vi = true → s.injectBad vi x.raw = false →
      ∃ t, exec (.injectFetch vi q frame) s = .next t ∧ (t.injQueueOf vi q).slots = l
        ∧ (t.injQueueOf vi q).fetched = (s.injQueueOf vi q).fetched
            ++ [(⟨injectBack x.raw 0 (s.injQueueOf vi q).phase⟩, fit (le x.raw 8 2) frame, (s.inst vi).epoch)]
        ∧ Changes [.rings, .insts, .cnt, .out] s t)
  ∧ (∀ x l frame, (s.injQueueOf vi q).slots = x :: l → s.adm.poolXoff = false → s.hostReach vi = true → s.injectBad vi x.raw = true →
      ∃ t, exec (.injectFetch vi q frame) s = .next t ∧ (t.injQueueOf vi q).slots = l
        ∧ (t.injQueueOf vi q).fetched = (s.injQueueOf vi q).fetched ∧ .injectBack vi q (injectBack x.raw 2 (s.injQueueOf vi q).phase) ∈ t.out
        ∧ Changes [.rings, .insts, .cnt, .out] s t)
  ∧ (∀ x frame epoch y l, (s.injQueueOf vi q).fetched = (x, frame, epoch) :: y :: l →
      exec (.injectReadDone vi q true) s = .next (injectDone vi q x frame epoch (s.modInjQ vi q (fun z => { z with fetched := y :: l }))))
  ∧ (∀ x frame epoch, (s.injQueueOf vi q).fetched = [(x, frame, epoch)] → exec (.injectReadDone vi q true) s =
      .next (completeWaiting (fun p => p.wait == .injectReads vi q) []
        (injectDone vi q x frame epoch (s.modInjQ vi q (fun z => { z with fetched := [] })))))
  ∧ (∀ x frame epoch y l, (s.injQueueOf vi q).fetched = (x, frame, epoch) :: y :: l →
      exec (.injectReadDone vi q false) s = .next (queueFault vi 1 q (s.modInjQ vi q (fun z => { z with fetched := y :: l }))))
  ∧ (∀ x frame epoch, (s.injQueueOf vi q).fetched = [(x, frame, epoch)] → exec (.injectReadDone vi q false) s =
      .next (completeWaiting (fun p => p.wait == .injectReads vi q) []
        (queueFault vi 1 q (s.modInjQ vi q (fun z => { z with fetched := [] })))))

/-- Commands of family SEC (R449, R451, R454–R458, R461–R463, R466, R467, Table TK-9). -/
def Obligations.SecCommandsComplete : Prop :=
  ∀ (vi : Nat) (io : HostIo) (e : Entry) (s : State),
    (∀ c resp, starts 0x0D01 vi io e s = true → 4 ≤ e.p 24 2 → e.p 24 2 ≤ 4096 → e.p 24 2 ≤ e.dataLen →
      spdmAnswer (mgetD s.sec.spdm vi {}) (e.buf.take (e.p 24 2)) (taken vi s) = (c, resp) →
      exec (.secSpdm vi io) s = .next (completed vi io e { st := { taken vi s with
        sec := { s.sec with spdm := mset s.sec.spdm vi c }, draws := s.draws + 1 }, result := putLe 2 resp.length, data := resp }))
  ∧ (starts 0x0D02 vi io e s = true → ∃ d, exec (.secStatus vi io) s = .next (completed vi io e (.read (taken vi s) [] d)) ∧ d.length = 32
        ∧ (putLe 1 s.sec.life.code ++ putLe 1 s.sec.zeroize) <+: d)
  ∧ (starts 0x0D03 vi io e s = true → ∃ d, exec (.secImportPub vi io) s = .next (completed vi io e (.read (taken vi s) [] d))
        ∧ d.length = 200 ∧ fit 97 (Config.importPub s.cdi) <+: d)
  ∧ (∀ h, starts 0x0D04 vi io e s = true → e.dataLen = 192 → le e.buf 3 5 = 0 → le e.buf 105 3 = 0 → le e.buf 184 8 = 0 →
      le e.buf 0 1 = 1 → (le e.buf 1 1 = 1 ∨ le e.buf 1 1 = 2) → bit (e.p 24 1) 0 = false → s.freeHandle (le e.buf 1 1 == 2) = some h →
      (∀ key, Config.unwrapKey s.cdi e.buf = some key → exec (.secKeyImport vi io) s = .next (completed vi io e (.ok ((taken vi s).setKey h
        { cak := le e.buf 1 1 == 2, port := le e.buf 2 1, key := fit 32 key, salt := bytesAt e.buf 168 12, ssci := le e.buf 180 4 })
        (putLe 2 h))))
      ∧ (Config.unwrapKey s.cdi e.buf = none → exec (.secKeyImport vi io) s = .next (completed vi io e
          (.err (count Cn.secImportFail 0 1 (taken vi s)) St.eAuth Dt.secBadWrap))))
  ∧ (∀ h, starts 0x0D04 vi io e s = true → e.dataLen = 192 → le e.buf 3 5 = 0 → le e.buf 105 3 = 0 → le e.buf 184 8 = 0 →
      le e.buf 0 1 = 1 → le e.buf 1 1 = 2 → bit (e.p 24 1) 0 = true → s.freeHandle true = some h → s.onTrial = false →
      ∀ key, Config.unwrapKey s.cdi e.buf = some key → exec (.secKeyImport vi io) s = .next (completed vi io e (.ok (saveSettings { taken vi s with
        sec := { s.sec with
          keys := mset s.sec.keys h { cak := true, port := le e.buf 2 1, key := fit 32 key, salt := bytesAt e.buf 168 12, ssci := le e.buf 180 4 },
          cfg := { s.sec.cfg with caks := mset s.sec.cfg.caks h (le e.buf 2 1, fit 32 key) } } }) (putLe 2 h))))
  ∧ (∀ h, starts 0x0D05 vi io e s = true → h = e.p 24 2 → mhas s.sec.keys h = true → s.keyInUse h = false → mhas s.sec.cfg.caks h = true →
      s.onTrial = false → exec (.secKeyDelete vi io) s = .next (completed vi io e (.ok (saveSettings { taken vi s with
        sec := { s.sec with keys := mdel s.sec.keys h, cfg := { s.sec.cfg with caks := mdel s.sec.cfg.caks h } } }))))
  ∧ (starts 0x0D05 vi io e s = true → mhas s.sec.keys (e.p 24 2) = true → s.keyInUse (e.p 24 2) = false → mhas s.sec.cfg.caks (e.p 24 2) = false →
      exec (.secKeyDelete vi io) s = .next (completed vi io e (.ok { taken vi s with
        sec := { s.sec with keys := mdel s.sec.keys (e.p 24 2) } })))
  ∧ (∀ c k, starts 0x0D06 vi io e s = true → s.pcfg (e.p 24 1) = some c → c.type ≠ 2 → e.p 25 1 = 1 → s.isPaired (e.p 24 1) = false →
      1 ≤ e.p 29 1 → e.p 29 1 ≤ 32 → 500 ≤ orDefault (e.p 30 2) 2000 → orDefault (e.p 30 2) 2000 ≤ 2000 → mget s.sec.keys (e.p 26 2) = some k →
      k.cak = true → (k.port = e.p 24 1 ∨ k.port = 0xFF) → exec (.secMka vi io) s = .next (completed vi io e (.ok ((taken vi s).modMka (e.p 24 1)
        (fun x => { cak := e.p 26 2, priority := e.p 28 1, hello := orDefault (e.p 30 2) 2000, ckn := bytesAt e.raw 32 (e.p 29 1),
                    nextHello := s.mono, an := x.an, sak := x.sak })))))
  ∧ (∀ c, starts 0x0D06 vi io e s = true → s.pcfg (e.p 24 1) = some c → c.type ≠ 2 → e.p 25 1 = 2 → mhas s.sec.mka (e.p 24 1) = true →
      exec (.secMka vi io) s = .next (completed vi io e (.ok (mkaRemove (e.p 24 1) (taken vi s)))))
  ∧ (starts 0x0D07 vi io e s = true → e.p 24 1 = 1 → 60 ≤ orDefault (e.p 28 4) 86400 → orDefault (e.p 28 4) 86400 ≤ 604800 → s.onTrial = false →
      exec (.secLink vi io) s = .next (completed vi io e (.ok (saveSettings { taken vi s with
        sec := { s.sec with
          cfg := { s.sec.cfg with ownerOnly := bit (e.p 26 1) 0, rekeyInterval := orDefault (e.p 28 4) 86400 } } }))))
  ∧ (starts 0x0D07 vi io e s = true → e.p 24 1 = 2 → e.p 25 1 ≤ 16 → (s.link (e.p 25 1)).keyed = true → (s.link (e.p 25 1)).running = false →
      exec (.secLink vi io) s = .next (completed vi io e (.ok { taken vi s with
        sec := { s.sec with
          links := mset s.sec.links (e.p 25 1) { s.link (e.p 25 1) with running := true, ephemeral := false, retryAt := none } },
        out := s.out ++ [.handshake (e.p 25 1)] })))
  ∧ (starts 0x0D07 vi io e s = true → e.p 24 1 = 2 → e.p 25 1 ≤ 16 → (s.link (e.p 25 1)).keyed = true → (s.link (e.p 25 1)).running = true →
      exec (.secLink vi io) s = .next (completed vi io e (.ok (taken vi s))))
  ∧ (starts 0x0D09 vi io e s = true → e.p 24 1 = 1 →
      exec (.secOwnerCert vi io) s = .next (completed vi io e (if Config.deviceCsr.length ≤ e.dataLen
        then .read (taken vi s) (putLe 4 Config.deviceCsr.length) Config.deviceCsr else badLen vi (taken vi s))))
  ∧ (starts 0x0D08 vi io e s = true → e.p 24 1 ≤ 3 → e.p 25 1 = 1 → e.dataLen = 97 → s.sec.cfg.anchors.length < 4 → s.onTrial = false →
      exec (.secTrust vi io) s = .next (completed vi io e (.ok (saveSettings { taken vi s with
        sec := { s.sec with cfg := { s.sec.cfg with anchors := mset s.sec.cfg.anchors (e.p 24 1) (e.p 26 1, e.buf) } } }))))
  ∧ (starts 0x0D08 vi io e s = true → e.p 24 1 ≤ 3 → e.p 25 1 = 2 → mhas s.sec.cfg.anchors (e.p 24 1) = true → s.onTrial = false →
      exec (.secTrust vi io) s = .next (completed vi io e (.ok (saveSettings { taken vi s with
        sec := { s.sec with cfg := { s.sec.cfg with anchors := mdel s.sec.cfg.anchors (e.p 24 1) } } }))))
  ∧ (starts 0x0D09 vi io e s = true → e.p 24 1 = 2 → 0 < e.dataLen → e.dataLen ≤ 8192 → s.onTrial = false →
      (Config.chainEndsInDeviceId e.buf = true → exec (.secOwnerCert vi io) s = .next (completed vi io e (.ok (saveSettings { taken vi s with
        sec := { s.sec with cfg := { s.sec.cfg with ownerChain := some e.buf } } }))))
      ∧ (Config.chainEndsInDeviceId e.buf = false → exec (.secOwnerCert vi io) s = .next (completed vi io e
          (.err (taken vi s) St.eAuth Dt.secChain))))
  ∧ (starts 0x0D09 vi io e s = true → e.p 24 1 = 3 → s.onTrial = false →
      exec (.secOwnerCert vi io) s = .next (completed vi io e (.ok (saveSettings { taken vi s with
        sec := { s.sec with cfg := { s.sec.cfg with ownerChain := none } } }))))
  ∧ (starts 0x0D0A vi io e s = true → e.p 24 1 = 1 → 32 ≤ e.dataLen → exec (.secDebug vi io) s = .next (completed vi io e
        { st := { taken vi s with
            sec := { s.sec with challenge := some (fit 32 (Config.randomBytes s.draw)) }, draws := s.draws + 1 },
          data := fit 32 (Config.randomBytes s.draw) }))
  ∧ (∀ c scope, starts 0x0D0A vi io e s = true → e.p 24 1 = 2 → e.p 25 1 = scope → (scope = 1 ∨ scope = 2) → e.dataLen = 96 →
      (s.sec.life = .production ∨ (s.sec.life = .armed ∧ scope = 2)) → s.sec.challenge = some c →
      (Config.tokenValid c e.buf scope ((s.sec.cfg.anchors.filter (fun a => bit a.2.1 1)).map (fun a => a.2.2)) = true →
        exec (.secDebug vi io) s = .next (completed vi io e (.ok { taken vi s with
          sec := { s.sec with life := if scope = 1 then .armed else .rma } })))
      ∧ (Config.tokenValid c e.buf scope ((s.sec.cfg.anchors.filter (fun a => bit a.2.1 1)).map (fun a => a.2.2)) = false →
        exec (.secDebug vi io) s = .next (completed vi io e (.err (count Cn.secDebugAttempt 0 1 (taken vi s)) St.eAuth Dt.secToken))))
  ∧ (starts 0x0D0B vi io e s = true → e.p 24 4 = 0x5EC0DE → s.sec.zeroize < 16 → exec (.secZeroize vi io) s = .next (completed vi io e (.ok
        { taken vi s with
          sec := { s.sec with zeroize := s.sec.zeroize + 1, keys := [], copyA := {}, copyB := {} },
          dev := { s.dev with coldAt := some (s.mono + Config.ms 10) } })))

/-- Link handshakes and rekeys (R459–R461) and sealed MACsec Key Agreement (R457, R458). -/
def Obligations.SecEventsComplete : Prop :=
  ∀ s : State,
    (∀ l pub, s.linkEncrypted l = true → (s.link l).running = true → exec (.linkHandshakeMessage l (.ephemeral pub)) s = .next { s with
        sec := { s.sec with links := mset s.sec.links l { s.link l with ephemeral := true } } })
  ∧ (∀ l pub, s.linkEncrypted l = true → (s.link l).running = false → exec (.linkHandshakeMessage l (.ephemeral pub)) s = .next { s with
        sec := { s.sec with links := mset s.sec.links l { s.link l with running := true, ephemeral := true, retryAt := none } },
        out := s.out ++ [.handshake l] })
  ∧ (∀ root far pair, s.linkEncrypted 16 = true → (s.link 16).ephemeral = true → s.trusts root = true → (far ≠ s.partnerOf ∨ pair ≠ s.pairSun) →
      exec (.linkHandshakeMessage 16 (.verified root far pair)) s = exec (.linkHandshakeMessage 16 (.failed 4)) s)
  ∧ (∀ p m k, mget s.sec.mka p = some k → s.portLive p = true → m.icvOk = true → exec (.mkpduReceive p m) s = .next (mkpduGood p m k s))
  ∧ (∀ l root far pair, s.linkEncrypted l = true → (s.link l).ephemeral = true → (s.link l).keyed = true → s.trusts root = true →
      (l = 16 → far = s.partnerOf ∧ pair = s.pairSun) → exec (.linkHandshakeMessage l (.verified root far pair)) s = .next { s with
        sec := { s.sec with
          links := mset s.sec.links l { s.link l with
            running := false, ephemeral := false, slot := 1 - (s.link l).slot, gen := (s.link l).gen + 1, lastAt := s.mono, oldKept := true,
            oldUntil := if l = 16 then some (s.mono + 10000000) else none, retryAt := none } } })
  ∧ (∀ l root far pair, s.linkEncrypted l = true → (s.link l).ephemeral = true → (s.link l).keyed = false → s.trusts root = true →
      (l = 16 → far = s.partnerOf ∧ pair = s.pairSun) → exec (.linkHandshakeMessage l (.verified root far pair)) s = .next { s with
        sec := { s.sec with
          links := mset s.sec.links l { s.link l with
            keyed := true, running := false, ephemeral := false, slot := 0, gen := 0, lastAt := s.mono, oldKept := false, oldUntil := none,
            retryAt := none } } })
  ∧ (∀ l root far pair, s.linkEncrypted l = true → (s.link l).ephemeral = true → s.trusts root = false →
      exec (.linkHandshakeMessage l (.verified root far pair)) s =
        exec (.linkHandshakeMessage l (.failed (if root = [] then 3 else 1))) s)
  ∧ (∀ l cause, s.linkEncrypted l = true → ∃ t, exec (.linkHandshakeMessage l (.failed cause)) s = .next t
      ∧ t.link l = { s.link l with
          running := false, ephemeral := false, retryAt := if (s.link l).keyed then some (s.mono + 10000000000) else none }
      ∧ Changes [.rings, .sec, .cnt, .out] s t)
  ∧ (∀ l, (s.link l).keyed = true → (s.link l).running = false → (s.link l).retryAt = none →
      (s.link l).lastAt + Config.sec s.sec.cfg.rekeyInterval ≤ s.mono → exec (.rekeyIntervalExpiry l) s = .next { s with
        sec := { s.sec with links := mset s.sec.links l { s.link l with running := true, ephemeral := false, retryAt := none } },
        out := s.out ++ [.handshake l] })
  ∧ (∀ l at_, (s.link l).retryAt = some at_ → at_ ≤ s.mono → exec (.handshakeRetry l) s = .next { s with
        sec := { s.sec with links := mset s.sec.links l { s.link l with running := true, ephemeral := false, retryAt := none } },
        out := s.out ++ [.handshake l] })
  ∧ (∀ l at_, (s.link l).oldUntil = some at_ → at_ ≤ s.mono → exec (.oldKeySlotExpiry l) s = .next (notify Ev.secLinkRekey
        (putLe 1 l ++ zeros 3 ++ putLe 4 (s.link l).gen) [] { s with
          sec := { s.sec with links := mset s.sec.links l { s.link l with oldKept := false, oldUntil := none } } }))
  ∧ (∀ p m k, mget s.sec.mka p = some k → s.portLive p = true → m.icvOk = true → m.live = true → mhas k.peers m.member = true → m.sak = none →
      exec (.mkpduReceive p m) s = .next (mkaRefresh p { s with
        sec := { s.sec with
          mka := mset s.sec.mka p { k with peers := mset k.peers m.member (m.priority, s.mono + 60000000000) } } }))
  ∧ (∀ p m k, mget s.sec.mka p = some k → s.portLive p = true → m.icvOk = false →
      exec (.mkpduReceive p m) s = .next (count Cn.secMkaIcvFail p 1 s))
  ∧ (∀ p k, mget s.sec.mka p = some k → s.portLive p = true → k.nextHello ≤ s.mono → exec (.mkaHello p) s = .next { s with
        sec := { s.sec with mka := mset s.sec.mka p { k with nextHello := s.mono + Config.ms k.hello } },
        out := s.out ++ [.mkpdu p (if s.isKeyServer k then k.sak else none)] })
  ∧ (∀ p k peer pr at_, mget s.sec.mka p = some k → mget k.peers peer = some (pr, at_) → at_ ≤ s.mono →
      exec (.mkaLifetimeExpiry p peer) s = .next (peersChanged p { s with
        sec := { s.sec with mka := mset s.sec.mka p { k with peers := mdel k.peers peer } } }))

/-- Commands of family UPD (R477–R483, R485, R488, R490, R492, Tables UP-5, UP-7, UP-8). -/
def Obligations.UpdCommandsComplete : Prop :=
  ∀ (vi : Nat) (io : HostIo) (e : Entry) (s : State),
    (∀ y, starts 0x0E01 vi io e s = true → s.upd.trial = none → e.p 24 4 = e.dataLen → headOk e.buf e.dataLen = true → le e.buf 22 2 = 0x2560 →
      le e.buf 24 1 = 0xB0 → s.upd.keyFloor ≤ le e.buf 25 1 → s.upd.fusedSvn ≤ le e.buf 27 1 →
      ((s.slot s.target).session = false ∨ ((s.slot s.target).owned = false ∧ (s.slot s.target).digest ≠ headDigest e.buf)) →
      y = { st := .downloading, owned := true, digest := headDigest e.buf, head := e.buf, version := le e.buf 28 4, svn := le e.buf 27 1 } →
      (Config.bundleSigned e.buf = true → exec (.updOpen vi io) s = .next (completed vi io e (.ok ((taken vi s).modSlot s.target (fun _ => y))
        (putLe 1 s.target ++ putLe 1 0 ++ putLe 2 (le e.buf 20 2) ++ putLe 2 0))))
      ∧ (Config.bundleSigned e.buf = false → exec (.updOpen vi io) s = .next (completed vi io e
          (.err (count Cn.updSigFail 0 1 (taken vi s)) St.eAuth Dt.updSignature))))
  ∧ (starts 0x0E01 vi io e s = true → s.upd.trial = none → e.p 24 4 = e.dataLen → headOk e.buf e.dataLen = true → le e.buf 22 2 = 0x2560 →
      le e.buf 24 1 = 0xB0 → s.upd.keyFloor ≤ le e.buf 25 1 → s.upd.fusedSvn ≤ le e.buf 27 1 → (s.slot s.target).session = true →
      (s.slot s.target).digest = headDigest e.buf →
      (Config.bundleSigned e.buf = true → exec (.updOpen vi io) s = .next (completed vi io e
        (.read (taken vi s) (putLe 1 s.target ++ putLe 1 1 ++ putLe 2 (s.slot s.target).chunkCount ++ putLe 2 (s.slot s.target).chunksHeld) [])))
      ∧ (Config.bundleSigned e.buf = false → exec (.updOpen vi io) s = .next (completed vi io e
          (.err (count Cn.updSigFail 0 1 (taken vi s)) St.eAuth Dt.updSignature))))
  ∧ (∀ x y u, starts 0x0E02 vi io e s = true → x = s.slot s.target → x.session = true → x.named e = true → e.p 24 2 < x.chunkCount →
      e.dataLen = x.chunkLen (e.p 24 2) → x.holds (e.p 24 2) = false → y = { x with chunks := mset x.chunks (e.p 24 2) e.buf } →
      u = { taken vi s with draws := s.draws + 1 } → y.chunks.length < y.chunkCount →
      (Config.sha384 e.buf = x.chunkDigest (e.p 24 2) → Config.flashOk s.draw = true → exec (.updChunk vi io) s = .next (completed vi io e
        (.ok (dirWrite (u.modSlot s.target (fun _ => y))) (putLe 2 y.chunksHeld ++ putLe 1 0))))
      ∧ (Config.sha384 e.buf = x.chunkDigest (e.p 24 2) → Config.flashOk s.draw = false → exec (.updChunk vi io) s = .next (completed vi io e
        (.err (count Cn.updFlashErr 0 1 (fault 18 (4 + s.target) 0 (u.modSlot s.target (fun _ =>
          { x with chunks := mdel x.chunks (e.p 24 2) })))) St.eState Dt.updFlash)))
      ∧ (Config.sha384 e.buf ≠ x.chunkDigest (e.p 24 2) → exec (.updChunk vi io) s = .next (completed vi io e
        (.err (count Cn.updChunkBad 0 1 (taken vi s)) St.eAuth Dt.updChunkBad))))
  ∧ (∀ x y u, starts 0x0E02 vi io e s = true → x = s.slot s.target → x.session = true → x.named e = true → e.p 24 2 < x.chunkCount →
      e.dataLen = x.chunkLen (e.p 24 2) → x.holds (e.p 24 2) = false → y = { x with chunks := mset x.chunks (e.p 24 2) e.buf } →
      u = { taken vi s with draws := s.draws + 1 } → y.chunks.length = y.chunkCount →
      (Config.sha384 e.buf = x.chunkDigest (e.p 24 2) → Config.flashOk s.draw = true → y.firmwareOk = true → exec (.updChunk vi io) s = .next (completed vi io e
        (.ok (notify Ev.updReady (putLe 1 s.target ++ zeros 3 ++ putLe 4 x.version ++ putLe 1 x.svn) []
          ((dirWrite (u.modSlot s.target (fun _ => y))).modSlot s.target (fun _ => { y with st := .verified }))) (putLe 2 x.chunkCount ++ putLe 1 2))))
      ∧ (Config.sha384 e.buf = x.chunkDigest (e.p 24 2) → Config.flashOk s.draw = true → y.firmwareOk = false → exec (.updChunk vi io) s = .next (completed vi io e
        (.err (count Cn.updChunkBad 0 1 ((dirWrite (u.modSlot s.target (fun _ => y))).modSlot s.target (fun _ => {}))) St.eAuth Dt.updPartBad))))
  ∧ (∀ x, starts 0x0E02 vi io e s = true → x = s.slot s.target → x.session = true → x.named e = true → e.p 24 2 < x.chunkCount →
      e.dataLen = x.chunkLen (e.p 24 2) → x.holds (e.p 24 2) = true → exec (.updChunk vi io) s = .next (completed vi io e
        (.read (taken vi s) (putLe 2 x.chunksHeld ++ putLe 1 (1 + flag x.whole 1)) [])))
  ∧ (starts 0x0E03 vi io e s = true → ∃ d, exec (.updStatus vi io) s = .next (completed vi io e (.read (taken vi s) [] d)) ∧ d.length = 400
        ∧ (putLe 1 s.upd.running ++ putLe 1 (s.upd.trial.getD 0xFF)) <+: d)
  ∧ (starts 0x0E04 vi io e s = true → e.p 24 1 ≤ 1 → (s.slot (e.p 24 1)).named e = true → (s.slot (e.p 24 1)).session = true →
      exec (.updAbort vi io) s = .next (completed vi io e (.ok ((taken vi s).modSlot (e.p 24 1) (fun _ => {})))))
  ∧ (starts 0x0E04 vi io e s = true → e.p 24 1 ≤ 1 → (s.slot (e.p 24 1)).named e = true → (s.slot (e.p 24 1)).session = false →
      s.upd.trial = some (e.p 24 1) → exec (.updAbort vi io) s = .next (completed vi io e (.ok (fallBack 6 (taken vi s)))))
  ∧ (∀ n x, starts 0x0E05 vi io e s = true → e.p 24 1 = 1 → e.p 26 2 ≤ 10000 → e.p 28 2 ≤ 1440 → s.upd.trial = none →
      s.verifiedSlot e = some n → x = s.slot n → s.hif.recovery = false → s.dev.phase ≠ .fail → le x.head 32 4 ≤ s.hif.fwVersion →
      (s.member = true → s.pair.disc = .none_ ∨ s.pair.disc = .seeking ∨ le x.head 32 4 ≤ s.pair.partnerFw) →
      (x.coldOnlyDiffers (s.slot s.upd.running) = false → x.partsCheck = true → ∃ u,
        exec (.updActivate vi io) s = .next (completed vi io e (.ok u)) ∧ u.upd.trial = some n ∧ u.upd.trialLeft = 2
        ∧ u.upd.swapWait = orDefault (e.p 26 2) 50 ∧ u.upd.confirmWindow = e.p 28 2 ∧ u.upd.swap = 1 ∧ u.upd.loaded = some n
        ∧ (u.slot n).st = .trial ∧ u.hif.restarting = true ∧ u.hif.fwReady = false
        ∧ Changes [.rings, .queue, .hif, .dev, .sec, .upd] (taken vi s) u)
      ∧ (x.coldOnlyDiffers (s.slot s.upd.running) = false → x.partsCheck = false →
        exec (.updActivate vi io) s = .next (completed vi io e (.err (count Cn.updChunkBad 0 1 (taken vi s)) St.eAuth Dt.updBlockCheck)))
      ∧ (x.coldOnlyDiffers (s.slot s.upd.running) = true →
        exec (.updActivate vi io) s = .next (completed vi io e (.err (taken vi s) St.eState Dt.updNeedsCold))))
  ∧ (∀ n, starts 0x0E05 vi io e s = true → e.p 24 1 = 2 → e.p 26 2 ≤ 10000 → e.p 28 2 ≤ 1440 → s.upd.trial = none → s.verifiedSlot e = some n →
      ∃ u, exec (.updActivate vi io) s = .next (completed vi io e (.ok u)) ∧ u.upd.trial = some n ∧ u.upd.trialLeft = 2
        ∧ u.upd.swapWait = orDefault (e.p 26 2) 50 ∧ u.upd.confirmWindow = e.p 28 2 ∧ (u.slot n).st = .trial
        ∧ u.dev = { s.dev with coldAt := some (s.mono + 100000000) } ∧ Changes [.dev, .upd] (taken vi s) u)
  ∧ (∀ n, starts 0x0E06 vi io e s = true → s.upd.trial = some n → (s.slot n).named e = true → s.upd.swap ≠ 1 → (s.slot n).svn ≤ s.upd.fusedSvn →
      le (s.slot n).head 26 1 ≤ s.upd.keyFloor → exec (.updConfirm vi io) s = .next (completed vi io e (.ok (confirmed n (taken vi s))
        (putLe 1 s.upd.fusedSvn))))
  ∧ (∀ n a u b v, starts 0x0E06 vi io e s = true → s.upd.trial = some n → (s.slot n).named e = true → s.upd.swap ≠ 1 →
      burnFuses (fun x => { x with fusedSvn := x.fusedSvn + 1 }) ((s.slot n).svn - s.upd.fusedSvn) (taken vi s) = (a, u) →
      burnFuses (fun x => { x with keyFloor := x.keyFloor + 1 }) (le (s.slot n).head 26 1 - u.upd.keyFloor) u = (b, v) →
      (a = true → b = true → exec (.updConfirm vi io) s = .next (completed vi io e (.ok (confirmed n v) (putLe 1 v.upd.fusedSvn))))
      ∧ (a = true → b = false → exec (.updConfirm vi io) s = .next (completed vi io e (.err (fault 18 (4 + n) 0 v) St.eState Dt.updFuse)))
      ∧ (a = false → exec (.updConfirm vi io) s = .next (completed vi io e (.err (fault 18 (4 + n) 0 u) St.eState Dt.updFuse))))
  ∧ (∀ n, starts 0x0E06 vi io e s = true → s.upd.trial = some n → (s.slot n).named e = true → s.upd.swap ≠ 1 →
      (s.slot n).svn = s.upd.fusedSvn + 1 → le (s.slot n).head 26 1 ≤ s.upd.keyFloor →
      (∀ k, k < 4 → (∀ i, i < k → Config.fuseOk (s.draw + i) = false) → Config.fuseOk (s.draw + k) = true →
        exec (.updConfirm vi io) s = .next (completed vi io e (.ok (confirmed n { taken vi s with
          upd := { s.upd with fusedSvn := s.upd.fusedSvn + 1 }, draws := s.draws + k + 1 }) (putLe 1 (s.upd.fusedSvn + 1)))))
      ∧ ((∀ i, i < 4 → Config.fuseOk (s.draw + i) = false) → exec (.updConfirm vi io) s = .next (completed vi io e
        (.err (fault 18 (4 + n) 0 { taken vi s with draws := s.draws + 4 }) St.eState Dt.updFuse))))

/-- The swap, its commit and its end, and the confirmation window (R485–R487, R490). -/
def Obligations.UpdEventsComplete : Prop :=
  ∀ s : State,
    (∀ n, s.swapReached = some n → s.hif.fwReady = true → s.upd.swap = 1 → exec .updSwap s = .next { s with
        upd := { s.upd with
          swap := 2, swapEpoch := n, swapTime := s.timeNs, linkSwap := true, loaded := some s.upd.microcode, microcode := s.upd.running, swapAt := none, retryAt := none } })
  ∧ (∀ at_, at_ ≤ s.mono → s.swapWaits = true → (s.upd.swapAt = some at_ → exec .swapWaitExpiry s = .next (swapCommit s))
      ∧ (s.upd.retryAt = some at_ → exec .swapCommitRetry s = .next (swapCommit s)))
  ∧ (∀ at_, s.upd.swapAt = some at_ → at_ ≤ s.mono → s.swapWaits = true → s.tbl.epochs.length < 4 → s.spanTooWide = false →
      s.pair.st ≠ .active → exec .swapWaitExpiry s = .next (commitOps 0xFF [] { s with upd := { s.upd with swapAt := none, retryAt := none } }))
  ∧ (∀ at_, s.upd.swapAt = some at_ → at_ ≤ s.mono → s.swapWaits = true → 4 ≤ s.tbl.epochs.length → exec .swapWaitExpiry s = .next { s with
        upd := { s.upd with swapAt := none, retryAt := some (s.mono + 10000000) } })
  ∧ (∀ at_, s.upd.retryAt = some at_ → at_ ≤ s.mono → s.swapWaits = true → s.tbl.epochs.length < 4 → s.spanTooWide = false →
      s.pair.st ≠ .active → exec .swapCommitRetry s = .next (commitOps 0xFF [] { s with upd := { s.upd with swapAt := none, retryAt := none } }))
  ∧ (∀ at_, s.upd.retryAt = some at_ → at_ ≤ s.mono → s.swapWaits = true → 4 ≤ s.tbl.epochs.length → exec .swapCommitRetry s = .next { s with
        upd := { s.upd with swapAt := none, retryAt := some (s.mono + 10000000) } })
  ∧ (s.upd.linkSwap = true → s.upd.trial = none → exec .linkBankSwapDone s = .next (notify Ev.updSwapped
        (putLe 2 s.upd.swapEpoch ++ zeros 6 ++ putLe 8 s.upd.swapTime) [] { s with upd := { s.upd with linkSwap := false } }))
  ∧ (∀ n, s.upd.linkSwap = true → s.upd.trial = some n → ∃ t, exec .linkBankSwapDone s = .next t ∧ t.upd.linkSwap = false
      ∧ t.upd.lastResult = 1 ∧ t.upd.lastCause = 0 ∧ Changes [.rings, .upd, .cnt, .out] s t)
  ∧ (∀ n at_, s.upd.confirmBy = some at_ → s.upd.trial = some n → at_ ≤ s.mono → s.hif.fwReady = true →
      exec .confirmWindowExpiry s = .next (fallBack 5 s))

/-- A step takes the command at the front of the queue and is that command's effect with the queue's rest; with no command waiting it is one
0.8 ns tick of the clocks once ROOTPLL has locked, at which frames and cells in flight move on and INCREMENT is added to TIME once the engine
has power (R153, R154, R156; the queue and the tick are the model's own, assumption log entries 1 and 2). -/
def Obligations.StepRunsTheFrontCommand : Prop :=
  (∀ (c : Instr) (s : State), Machine.step { s with pending := c :: s.pending } = exec c s)
  ∧ (∀ s : State, s.pending = [] → s.pwr.rootLocked = false → Machine.step s = .next s)
  ∧ (∀ s : State, s.pending = [] → s.pwr.rootLocked = true → 2 ≤ s.dev.step → s.dev.inReset = false →
      Machine.step s = .next { loopTick (linkTick s) with
        mono := s.mono + 8, tim := { s.tim with time := s.tim.time + s.tim.increment.zeroExtend 112 } })
  ∧ (∀ s : State, s.pending = [] → s.pwr.rootLocked = true → (s.dev.step < 2 ∨ s.dev.inReset = true) →
      Machine.step s = .next { loopTick (linkTick s) with mono := s.mono + 8 })
  ∧ (∀ s : State, s.fab.loop = [] → s.fab.lanes.filter (fun l => l.2.inUse) = [] → loopTick (linkTick s) = s)

/-- What cold reset leaves where the spec says it: INCREMENT nominal (R154), every ring idle (Table HM-25), journals, counters, the fault log,
the key store and the buffers empty, no epoch live, VI0 alone created (R419), domain PD0 alone on (Table BU-1). -/
def Obligations.ResetState : Prop :=
  State.reset.tim.increment = 0xCCCCCCCCCCCD
  ∧ (∀ vi, (State.reset.fn vi).ring = .idle ∧ (State.reset.fn vi).journal = [] ∧ (State.reset.fn vi).sq = [] ∧ (State.reset.fn vi).fault = 0)
  ∧ (∀ vi, State.reset.created vi = decide (vi = 0)) ∧ (∀ pd, mgetD State.reset.pwr.domains pd .off = if pd = 0 then .on else .off)
  ∧ (∀ p, State.reset.pcfg p = none ∧ (State.reset.lport p).st = .disabled) ∧ State.reset.tbl.epochs = [] ∧ State.reset.tbl.staging = []
  ∧ (∀ ev i, State.reset.counter ev i = 0) ∧ State.reset.flt.log = [] ∧ State.reset.sec.keys = [] ∧ State.reset.adm.voqs = []
  ∧ State.reset.hif.parked = [] ∧ State.reset.hif.fwReady = false ∧ State.reset.pending = []

/-- The state after reset meets the invariant. -/
def Obligations.ResetMeetsInvariant : Prop := Inv State.reset

/-- From every state that meets it, every step keeps the invariant: at most four epochs live, none but the newest CURRENT (R196, Table PL-6),
and INCREMENT within ±500 ppm of nominal (R154). -/
def Obligations.StepKeepsInvariant : Prop :=
  ∀ s t : State, Inv s → Machine.step s = .next t → Inv t

/-- Every command goes on, in every state, and changes no part of the state outside its footprint; none changes the queue. -/
def Obligations.CommandsStayWithinFootprint : Prop :=
  ∀ (c : Instr) (s : State), (∃ t, exec c s = .next t ∧ Changes (footprint c) s t) ∧ .pending ∉ footprint c

/-- R66: a command of a function starts only when it is the next of that function's ring and none before it is unfinished; an entry that
firmware took has its completion journaled before another of the ring starts, or is parked, unfinished: for its own condition, or, when it
changed replicated state of an ACTIVE unit, until the journal's mark (R67, R402). -/
def Obligations.RingCommandsRunInOrder : Prop :=
  (∀ (c : Instr) (op vi : Nat) (io : HostIo) (s : State), ringCommand c = some (op, vi, io) →
    ((s.fn vi).sq.head?.map Entry.opcode ≠ some op ∨ s.busyVi vi = true ∨ (s.fn vi).ring ≠ .running) → exec c s = .next s)
  ∧ (∀ (vi : Nat) (e : Entry) (w : Bool) (r : Reply), ∃ j, ((finish vi e w r).fn vi).journal.getLast? = some j ∧ j.compl.cmdId = e.cmdId
      ∧ j.crc = e.crc ∧ ((finish vi e w r).fn vi).journal.length ≤ 4096)
  ∧ (∀ (info : CmdInfo) (vi : Nat) (e : Entry) (w : Bool) (r : Reply),
      (r.wait ≠ none ∨ replicates info r = true) → (conclude info vi e w r).busyVi vi = true)
  ∧ (∀ (info : CmdInfo) (vi : Nat) (e : Entry) (w : Bool) (r : Reply), r.wait = none → replicates info r = false →
      conclude info vi e w r = (finish vi e w r).settled)
  ∧ (∀ (info : CmdInfo) (vi : Nat) (e : Entry) (w : Bool) (r : Reply), r.wait = none → replicates info r = true →
      conclude info vi e w r = park vi e w { r with st := (sendJournal vi e r).1 } (.mark (sendJournal vi e r).2) false)

/-- R68: a command whose issuer may not use it, and one of a function whose instance does not exist, completes with the error of the rule,
which HIF_CMD_ERR counts, and has no other effect. -/
def Obligations.ForeignIssuersAreRefused : Prop :=
  ∀ (c : Instr) (op vi : Nat) (io : HostIo) (e : Entry) (info : CmdInfo) (s : State), ringCommand c = some (op, vi, io) →
    s.canStart op vi = true → (s.fn vi).sq.head? = some e → cmdInfo op = some info → s.hif.recovery = false →
    (info.issuer = .vi0 → vi ≠ 0 → s.created vi = true → exec c s = .next (completed vi io e
        (.err (count Cn.hifCmdErr vi 1 (taken vi s)) St.eDenied Dt.hifNotPermitted)))
    ∧ (info.issuer ≠ .any → s.created vi = false → exec c s = .next (completed vi io e
        (.err (count Cn.hifCmdErr vi 1 (taken vi s)) St.eState Dt.hifInstanceAbsent)))
    ∧ ((info.issuer = .vi0 ∧ vi ≠ 0 ∨ info.issuer ≠ .any ∧ s.created vi = false) → ∀ t, exec c s = .next t → Changes [.rings, .queue, .cnt, .out] s t)

/-- R74, R75: an entry whose CMD_ID is journaled with the same CRC is taken and executes nothing; its completion is posted as first given,
REPLAYED, with no result data written and nothing journaled. -/
def Obligations.JournaledCompletionsAreReplayed : Prop :=
  ∀ (fuel vi : Nat) (e : Entry) (l : List Entry) (j : JEntry) (s : State), s.accepting = true → s.blocked = false → s.resumable = false →
    s.nextServed = some vi → (s.fn vi).sq = e :: l → (s.fn vi).journaled e.cmdId = some j → j.crc = e.crc → ∃ t c,
      settle (fuel + 1) s = settle fuel t ∧ (t.fn vi).cq = (s.fn vi).cq ++ [c] ∧ c.cmdId = e.cmdId ∧ c.status = j.compl.status
      ∧ c.detail = j.compl.detail ∧ c.result = j.compl.result ∧ c.replayed = true ∧ c.dataWritten = false
      ∧ (∀ f i d, Output.dataWrite f i d ∈ t.out → Output.dataWrite f i d ∈ s.out) ∧ (t.fn vi).journal = (s.fn vi).journal
      ∧ Changes [.rings, .queue, .cnt, .out] s t

/-- R65: an entry with an opcode that firmware does not define completes with E_UNSUPPORTED and detail HIF_BAD_OPCODE, which HIF_CMD_ERR
counts. -/
def Obligations.UndefinedOpcodesAreUnsupported : Prop :=
  ∀ (fuel vi : Nat) (e : Entry) (l : List Entry) (s : State), s.accepting = true → s.blocked = false → s.resumable = false →
    s.nextServed = some vi → (s.fn vi).sq = e :: l → treat (s.fn vi) e = .execute → cmdInfo e.opcode = none → ∃ t c,
      settle (fuel + 1) s = settle fuel t ∧ (t.fn vi).cq = (s.fn vi).cq ++ [c] ∧ c.cmdId = e.cmdId ∧ c.status = St.eUnsupported
      ∧ c.detail = Dt.hifBadOpcode ∧ t.counter Cn.hifCmdErr vi = (s.counter Cn.hifCmdErr vi + 1) % 2 ^ 64
      ∧ Changes [.rings, .queue, .cnt, .out] s t
end

