-- ==== Sys2Proof/Laws/Changes.lean ====
section
/-! SUPPORT. How `Changes` composes: along a chain of operations, through conditionals, folds and record updates. -/

set_option Elab.async false

namespace Sys2Proof.Machine

theorem Part.same_refl (p : Part) (s : State) : p.same s s := by cases p <;> rfl

theorem Part.same_trans (p : Part) {s t u : State} (h : p.same s t) (k : p.same t u) : p.same s u := by
  cases p <;> simp only [Part.same] at * <;> rw [k, h]

/-- Nothing changes. -/
theorem Changes.rfl {ps : List Part} {s : State} : Changes ps s s := ⟨fun p _ => p.same_refl s⟩

/-- One more operation on the way. -/
theorem Changes.via {ps qs : List Part} {s t u : State} (h : Changes ps s t) (k : Changes qs t u) (sub : ∀ p ∈ qs, p ∈ ps) :
    Changes ps s u := ⟨fun p hp => p.same_trans (h.same p hp) (k.same p (fun hq => hp (sub p hq)))⟩

theorem Changes.weaken {ps qs : List Part} {s t : State} (k : Changes qs s t) (sub : ∀ p ∈ qs, p ∈ ps) : Changes ps s t :=
  Changes.via Changes.rfl k sub

theorem Changes.ite {ps : List Part} {s t u : State} {c : Prop} [Decidable c] (h : Changes ps s t) (k : Changes ps s u) :
    Changes ps s (if c then t else u) := by split <;> assumption

theorem Changes.when {ps : List Part} {s t u : State} {b : Bool} (h : Changes ps s t) (k : Changes ps s u) :
    Changes ps s (when b t u) := by unfold Machine.when; split <;> assumption

theorem Changes.foldl {α : Type} {ps : List Part} {s : State} (f : State → α → State) (hf : ∀ x a, Changes ps x (f x a)) (l : List α) :
    ∀ t, Changes ps s t → Changes ps s (l.foldl f t) := by
  induction l with
  | nil => exact fun _ h => h
  | cons a l ih => exact fun t h => ih _ (Changes.via h (hf t a) (fun _ h => h))

theorem Changes.foldS {α : Type} {ps : List Part} {s t : State} {l : List α} {f : α → State → State}
    (h : Changes ps s t) (hf : ∀ a x, Changes ps x (f a x)) : Changes ps s (foldS l t f) :=
  Changes.foldl (fun x a => f a x) (fun x a => hf a x) l t h

theorem Changes.set_mono {ps : List Part} {s t : State} {x} (h : Changes ps s t) (m : Part.mono ∈ ps) : Changes ps s { t with mono := x } := by
  refine ⟨fun p hp => ?_⟩; cases p <;> first | exact h.same _ hp | exact absurd m hp
theorem Changes.set_draws {ps : List Part} {s t : State} {x} (h : Changes ps s t) (m : Part.draws ∈ ps) : Changes ps s { t with draws := x } := by
  refine ⟨fun p hp => ?_⟩; cases p <;> first | exact h.same _ hp | exact absurd m hp
theorem Changes.set_rings {ps : List Part} {s t : State} {x : Hif} (h : Changes ps s t) (e : x.core = t.hif.core) (q : x.queue = t.hif.queue)
    (m : Part.rings ∈ ps) : Changes ps s { t with hif := x } := by
  refine ⟨fun p hp => ?_⟩; cases p <;> first | exact h.same _ hp | exact absurd m hp | exact e.trans (h.same .hif hp) | exact q.trans (h.same .queue hp)
theorem Changes.set_queue {ps : List Part} {s t : State} {x : Hif} (h : Changes ps s t) (e : x.core = t.hif.core) (q : x.fns = t.hif.fns)
    (m : Part.queue ∈ ps) : Changes ps s { t with hif := x } := by
  refine ⟨fun p hp => ?_⟩; cases p <;> first | exact h.same _ hp | exact absurd m hp | exact e.trans (h.same .hif hp) | exact q.trans (h.same .rings hp)
theorem Changes.set_core {ps : List Part} {s t : State} {x : Hif} (h : Changes ps s t) (e : x.queue = t.hif.queue) (q : x.fns = t.hif.fns)
    (m : Part.hif ∈ ps) : Changes ps s { t with hif := x } := by
  refine ⟨fun p hp => ?_⟩; cases p <;> first | exact h.same _ hp | exact absurd m hp | exact e.trans (h.same .queue hp) | exact q.trans (h.same .rings hp)
theorem Changes.set_hif {ps : List Part} {s t : State} {x : Hif} (h : Changes ps s t) (m : Part.hif ∈ ps) (n : Part.rings ∈ ps)
    (o : Part.queue ∈ ps) : Changes ps s { t with hif := x } := by
  refine ⟨fun p hp => ?_⟩; cases p <;> first | exact h.same _ hp | exact absurd m hp | exact absurd n hp | exact absurd o hp
theorem Changes.set_dev {ps : List Part} {s t : State} {x} (h : Changes ps s t) (m : Part.dev ∈ ps) : Changes ps s { t with dev := x } := by
  refine ⟨fun p hp => ?_⟩; cases p <;> first | exact h.same _ hp | exact absurd m hp
theorem Changes.set_port {ps : List Part} {s t : State} {x} (h : Changes ps s t) (m : Part.port ∈ ps) : Changes ps s { t with port := x } := by
  refine ⟨fun p hp => ?_⟩; cases p <;> first | exact h.same _ hp | exact absurd m hp
theorem Changes.set_frm {ps : List Part} {s t : State} {x} (h : Changes ps s t) (m : Part.frm ∈ ps) : Changes ps s { t with frm := x } := by
  refine ⟨fun p hp => ?_⟩; cases p <;> first | exact h.same _ hp | exact absurd m hp
theorem Changes.set_mash {ps : List Part} {s t : State} {x} (h : Changes ps s t) (m : Part.mash ∈ ps) : Changes ps s { t with mash := x } := by
  refine ⟨fun p hp => ?_⟩; cases p <;> first | exact h.same _ hp | exact absurd m hp
theorem Changes.set_asa {ps : List Part} {s t : State} {x} (h : Changes ps s t) (m : Part.asa ∈ ps) : Changes ps s { t with asa := x } := by
  refine ⟨fun p hp => ?_⟩; cases p <;> first | exact h.same _ hp | exact absurd m hp
theorem Changes.set_adm {ps : List Part} {s t : State} {x} (h : Changes ps s t) (m : Part.adm ∈ ps) : Changes ps s { t with adm := x } := by
  refine ⟨fun p hp => ?_⟩; cases p <;> first | exact h.same _ hp | exact absurd m hp
theorem Changes.set_fab {ps : List Part} {s t : State} {x} (h : Changes ps s t) (m : Part.fab ∈ ps) : Changes ps s { t with fab := x } := by
  refine ⟨fun p hp => ?_⟩; cases p <;> first | exact h.same _ hp | exact absurd m hp
theorem Changes.set_rack {ps : List Part} {s t : State} {x} (h : Changes ps s t) (m : Part.rack ∈ ps) : Changes ps s { t with rack := x } := by
  refine ⟨fun p hp => ?_⟩; cases p <;> first | exact h.same _ hp | exact absurd m hp
theorem Changes.set_sch {ps : List Part} {s t : State} {x} (h : Changes ps s t) (m : Part.sch ∈ ps) : Changes ps s { t with sch := x } := by
  refine ⟨fun p hp => ?_⟩; cases p <;> first | exact h.same _ hp | exact absurd m hp
theorem Changes.set_pair {ps : List Part} {s t : State} {x} (h : Changes ps s t) (m : Part.pair ∈ ps) : Changes ps s { t with pair := x } := by
  refine ⟨fun p hp => ?_⟩; cases p <;> first | exact h.same _ hp | exact absurd m hp
theorem Changes.set_insts {ps : List Part} {s t : State} {x} (h : Changes ps s t) (m : Part.insts ∈ ps) : Changes ps s { t with insts := x } := by
  refine ⟨fun p hp => ?_⟩; cases p <;> first | exact h.same _ hp | exact absurd m hp
theorem Changes.set_sec {ps : List Part} {s t : State} {x} (h : Changes ps s t) (m : Part.sec ∈ ps) : Changes ps s { t with sec := x } := by
  refine ⟨fun p hp => ?_⟩; cases p <;> first | exact h.same _ hp | exact absurd m hp
theorem Changes.set_upd {ps : List Part} {s t : State} {x} (h : Changes ps s t) (m : Part.upd ∈ ps) : Changes ps s { t with upd := x } := by
  refine ⟨fun p hp => ?_⟩; cases p <;> first | exact h.same _ hp | exact absurd m hp
theorem Changes.set_log {ps : List Part} {s t : State} {x : Flt} (h : Changes ps s t) (e : x.rest = t.flt.rest) (m : Part.log ∈ ps) :
    Changes ps s { t with flt := x } := by
  refine ⟨fun p hp => ?_⟩; cases p <;> first | exact h.same _ hp | exact absurd m hp | exact e.trans (h.same .flt hp)
theorem Changes.set_rest {ps : List Part} {s t : State} {x : Flt} (h : Changes ps s t) (e : x.records = t.flt.records) (m : Part.flt ∈ ps) :
    Changes ps s { t with flt := x } := by
  refine ⟨fun p hp => ?_⟩; cases p <;> first | exact h.same _ hp | exact absurd m hp | exact e.trans (h.same .log hp)
theorem Changes.set_flt {ps : List Part} {s t : State} {x : Flt} (h : Changes ps s t) (m : Part.flt ∈ ps) (n : Part.log ∈ ps) :
    Changes ps s { t with flt := x } := by
  refine ⟨fun p hp => ?_⟩; cases p <;> first | exact h.same _ hp | exact absurd m hp | exact absurd n hp
theorem Changes.set_cnt {ps : List Part} {s t : State} {x} (h : Changes ps s t) (m : Part.cnt ∈ ps) : Changes ps s { t with cnt := x } := by
  refine ⟨fun p hp => ?_⟩; cases p <;> first | exact h.same _ hp | exact absurd m hp
theorem Changes.set_pwr {ps : List Part} {s t : State} {x} (h : Changes ps s t) (m : Part.pwr ∈ ps) : Changes ps s { t with pwr := x } := by
  refine ⟨fun p hp => ?_⟩; cases p <;> first | exact h.same _ hp | exact absurd m hp
theorem Changes.set_out {ps : List Part} {s t : State} {x} (h : Changes ps s t) (m : Part.out ∈ ps) : Changes ps s { t with out := x } := by
  refine ⟨fun p hp => ?_⟩; cases p <;> first | exact h.same _ hp | exact absurd m hp
theorem Changes.set_pending {ps : List Part} {s t : State} {x} (h : Changes ps s t) (m : Part.pending ∈ ps) : Changes ps s { t with pending := x } := by
  refine ⟨fun p hp => ?_⟩; cases p <;> first | exact h.same _ hp | exact absurd m hp
theorem Changes.set_tim {ps : List Part} {s t : State} {x : Tim} (h : Changes ps s t) (e : x.increment = t.tim.increment)
    (m : Part.tim ∈ ps) : Changes ps s { t with tim := x } := by
  refine ⟨fun p hp => ?_⟩; cases p <;> first | exact h.same _ hp | exact absurd m hp | exact e.trans (h.same .incr hp)
theorem Changes.set_incr {ps : List Part} {s t : State} {x : Tim} (h : Changes ps s t) (m : Part.tim ∈ ps) (n : Part.incr ∈ ps) :
    Changes ps s { t with tim := x } := by
  refine ⟨fun p hp => ?_⟩; cases p <;> first | exact h.same _ hp | exact absurd m hp | exact absurd n hp
theorem Changes.set_tbl {ps : List Part} {s t : State} {x : Tbl} (h : Changes ps s t) (e : x.epochs = t.tbl.epochs)
    (m : Part.tbl ∈ ps) : Changes ps s { t with tbl := x } := by
  refine ⟨fun p hp => ?_⟩; cases p <;> first | exact h.same _ hp | exact absurd m hp | exact e.trans (h.same .epochs hp)
theorem Changes.set_epochs {ps : List Part} {s t : State} {x : Tbl} (h : Changes ps s t) (m : Part.tbl ∈ ps) (n : Part.epochs ∈ ps) :
    Changes ps s { t with tbl := x } := by
  refine ⟨fun p hp => ?_⟩; cases p <;> first | exact h.same _ hp | exact absurd m hp | exact absurd n hp

theorem Changes.ite_st {ps : List Part} {s : State} {a b : Reply} {c : Prop} [Decidable c] (h : Changes ps s a.st) (k : Changes ps s b.st) :
    Changes ps s (if c then a else b).st := by split <;> assumption
theorem Changes.mk_st {ps : List Part} {s t : State} {a b c d e f} (h : Changes ps s t) :
    Changes ps s (Reply.mk t a b c d e f).st := h
theorem Changes.ok_st {ps : List Part} {s t : State} {l} (h : Changes ps s t) : Changes ps s (Reply.ok t l).st := h
theorem Changes.err_st {ps : List Part} {s t : State} {a b l} (h : Changes ps s t) : Changes ps s (Reply.err t a b l).st := h
theorem Changes.read_st {ps : List Part} {s t : State} {a b} (h : Changes ps s t) : Changes ps s (Reply.read t a b).st := h
theorem Changes.pair_snd {α : Type} {ps : List Part} {s t : State} {a : α} (h : Changes ps s t) : Changes ps s (a, t).2 := h
theorem Changes.ite_snd {α : Type} {ps : List Part} {s : State} {a b : α × State} {c : Prop} [Decidable c] (h : Changes ps s a.2)
    (k : Changes ps s b.2) : Changes ps s (if c then a else b).2 := by split <;> assumption
theorem Changes.of_pair {α : Type} {ps : List Part} {s t : State} {a : α} {f : α × State} (e : f = (a, t)) (h : Changes ps s f.2) :
    Changes ps s t := by subst e; exact h
/-- Several parts written at once over `t`. -/
theorem Changes.set_all {ps : List Part} {s u : State} (t : State) (h : Changes ps s t) (k : ∀ p, p ∉ ps → p.same t u) : Changes ps s u :=
  Changes.via h ⟨k⟩ (fun _ h => h)
/-- A chain of checks that each may answer. -/
theorem Changes.opt_ite {ps : List Part} {s : State} {c : Prop} [Decidable c] {a r : Reply} {o : Option Reply}
    (h : (if c then some a else o) = some r) (k : Changes ps s a.st) (l : o = some r → Changes ps s r.st) : Changes ps s r.st := by
  by_cases x : c
  · rw [if_pos x] at h; cases h; exact k
  · rw [if_neg x] at h; exact l h
theorem Changes.trans {ps : List Part} {s t u : State} (h : Changes ps s t) (k : Changes ps t u) : Changes ps s u :=
  Changes.via h k (fun _ h => h)
theorem Changes.pair_fst {α : Type} {ps : List Part} {s t : State} {a : α} (h : Changes ps s t) : Changes ps s (t, a).1 := h
theorem Changes.ite_fst {α : Type} {ps : List Part} {s : State} {a b : State × α} {c : Prop} [Decidable c] (h : Changes ps s a.1)
    (k : Changes ps s b.1) : Changes ps s (if c then a else b).1 := by split <;> assumption
theorem Changes.of_fst {α : Type} {ps : List Part} {s t : State} {a : α} {f : State × α} (e : f = (t, a)) (h : Changes ps s f.1) :
    Changes ps s t := by subst e; exact h

end Sys2Proof.Machine
end

