-- ==== Sys2Proof/Laws/Ops.lean ====
section
/-! SUPPORT. What each operation of Machine/Ops.lean can change. -/

set_option Elab.async false

namespace Sys2Proof.Machine

theorem State.modFn_changes (s : State) (vi : Nat) (f : Fn → Fn) : Changes [.rings] s (State.modFn s vi f) := by
  unfold State.modFn
  refine Changes.set_rings ?_ (by with_reducible rfl) (by with_reducible rfl) (by decide)
  exact Changes.rfl
theorem State.modInst_changes (s : State) (vi : Nat) (f : Inst → Inst) : Changes [.insts] s (State.modInst s vi f) := by
  unfold State.modInst
  refine Changes.set_insts ?_ (by decide)
  exact Changes.rfl
theorem State.emit_changes (s : State) (o : Output) : Changes [.out] s (State.emit s o) := by
  unfold State.emit
  refine Changes.set_out ?_ (by decide)
  exact Changes.rfl
theorem State.drawn_changes (s : State) : Changes [.draws] s (State.drawn s) := by
  unfold State.drawn
  refine Changes.set_draws ?_ (by decide)
  exact Changes.rfl
theorem signal_changes (vi vec : Nat) (s : State) : Changes [.rings, .out] s (signal vi vec s) := by
  unfold signal
  refine Changes.ite ?_ ?_
  · refine Changes.via ?_ (State.modFn_changes ..) (by decide +kernel)
    exact Changes.rfl
  · refine Changes.via ?_ (State.emit_changes ..) (by decide +kernel)
    exact Changes.rfl
theorem postVector_changes (vi vec : Nat) (s : State) : Changes [.rings, .out] s (postVector vi vec s) := by
  unfold postVector
  extract_lets x1
  dsimp only
  refine Changes.ite ?_ ?_
  · refine Changes.via ?_ (signal_changes ..) (by decide +kernel)
    refine Changes.via ?_ (State.modFn_changes ..) (by decide +kernel)
    exact Changes.rfl
  · refine Changes.via ?_ (State.modFn_changes ..) (by decide +kernel)
    exact Changes.rfl
theorem writeNotif_changes (vi : Nat) (n : Notif) (s : State) : Changes [.rings, .out] s (writeNotif vi n s) := by
  unfold writeNotif
  extract_lets x1 x2
  dsimp only
  refine Changes.via ?_ (postVector_changes ..) (by decide +kernel)
  refine Changes.via ?_ (State.modFn_changes ..) (by decide +kernel)
  exact Changes.rfl
theorem bump_changes (ev idx n : Nat) (s : State) : Changes [.cnt] s (bump ev idx n s) := by
  unfold bump
  extract_lets x1 x2 x3 x4
  refine Changes.set_cnt ?_ (by decide)
  exact Changes.rfl
theorem raiseTo_changes (a0 : Nat) (vi : Nat) (n : Notif) (s : State) : Changes [.rings, .cnt, .out] s (raiseTo a0 vi n s) := by
  induction a0 generalizing vi n s with
  | zero =>
    unfold raiseTo
    extract_lets x1 x2 x3 x4 x5
    refine Changes.ite ?_ ?_
    · exact Changes.rfl
    · refine Changes.ite ?_ ?_
      · refine Changes.via ?_ (State.modFn_changes ..) (by decide +kernel)
        subst x3
        refine Changes.via ?_ (State.modFn_changes ..) (by decide +kernel)
        exact Changes.rfl
      · refine Changes.ite ?_ ?_
        · refine Changes.via ?_ (writeNotif_changes ..) (by decide +kernel)
          subst x3
          refine Changes.via ?_ (State.modFn_changes ..) (by decide +kernel)
          exact Changes.rfl
        · refine Changes.ite ?_ ?_
          · refine Changes.via ?_ (State.modFn_changes ..) (by decide +kernel)
            subst x3
            refine Changes.via ?_ (State.modFn_changes ..) (by decide +kernel)
            exact Changes.rfl
          · dsimp only
            subst x5
            refine Changes.via ?_ (State.modFn_changes ..) (by decide +kernel)
            refine Changes.via ?_ (bump_changes ..) (by decide +kernel)
            subst x3
            refine Changes.via ?_ (State.modFn_changes ..) (by decide +kernel)
            exact Changes.rfl
  | succ a0 ih =>
    unfold raiseTo
    extract_lets x1 x2 x3 x4 x5
    refine Changes.ite ?_ ?_
    · exact Changes.rfl
    · refine Changes.ite ?_ ?_
      · refine Changes.via ?_ (State.modFn_changes ..) (by decide +kernel)
        subst x3
        refine Changes.via ?_ (State.modFn_changes ..) (by decide +kernel)
        exact Changes.rfl
      · refine Changes.ite ?_ ?_
        · refine Changes.via ?_ (writeNotif_changes ..) (by decide +kernel)
          subst x3
          refine Changes.via ?_ (State.modFn_changes ..) (by decide +kernel)
          exact Changes.rfl
        · refine Changes.ite ?_ ?_
          · refine Changes.via ?_ (State.modFn_changes ..) (by decide +kernel)
            subst x3
            refine Changes.via ?_ (State.modFn_changes ..) (by decide +kernel)
            exact Changes.rfl
          · dsimp only
            refine Changes.ite ?_ ?_
            · refine Changes.via ?_ (ih ..) (by decide +kernel)
              subst x5
              refine Changes.via ?_ (State.modFn_changes ..) (by decide +kernel)
              refine Changes.via ?_ (bump_changes ..) (by decide +kernel)
              subst x3
              refine Changes.via ?_ (State.modFn_changes ..) (by decide +kernel)
              exact Changes.rfl
            · subst x5
              refine Changes.via ?_ (State.modFn_changes ..) (by decide +kernel)
              refine Changes.via ?_ (bump_changes ..) (by decide +kernel)
              subst x3
              refine Changes.via ?_ (State.modFn_changes ..) (by decide +kernel)
              exact Changes.rfl
theorem notifyOne_changes (vi : Nat) (ev : Nat × Nat) (payload : List Byte) (s : State) : Changes [.rings, .cnt, .out] s (notifyOne vi ev payload s) := by
  unfold notifyOne
  refine Changes.via ?_ (raiseTo_changes ..) (by decide +kernel)
  exact Changes.rfl
theorem notifyAt_changes (time : Nat) (ev : Nat × Nat) (payload : List Byte) (vis : List Nat) (s : State) : Changes [.rings, .cnt, .out] s (notifyAt time ev payload vis s) := by
  unfold notifyAt
  refine Changes.foldS ?_ (fun _ _ => ?_)
  · exact Changes.rfl
  · refine Changes.via ?_ (raiseTo_changes ..) (by decide +kernel)
    exact Changes.rfl
theorem notify_changes (ev : Nat × Nat) (payload : List Byte) (vis : List Nat) (s : State) : Changes [.rings, .cnt, .out] s (notify ev payload vis s) := by
  unfold notify
  refine Changes.via ?_ (notifyAt_changes ..) (by decide +kernel)
  exact Changes.rfl
theorem count_changes (ev idx n : Nat) (s : State) : Changes [.rings, .cnt, .out] s (count ev idx n s) := by
  unfold count
  extract_lets x1 x2
  refine Changes.ite ?_ ?_
  · refine Changes.via ?_ (notify_changes ..) (by decide +kernel)
    subst x2
    refine Changes.via ?_ (bump_changes ..) (by decide +kernel)
    exact Changes.rfl
  · subst x2
    refine Changes.via ?_ (bump_changes ..) (by decide +kernel)
    exact Changes.rfl
theorem domainEvent_changes (pd : Nat) (on : Bool) (s : State) : Changes [.rings, .cnt, .out] s (domainEvent pd on s) := by
  unfold domainEvent
  refine Changes.via ?_ (notify_changes ..) (by decide +kernel)
  exact Changes.rfl
theorem flushNotifs_changes  (a0 : Nat) (a1 : Nat) (s : State) : Changes [.rings, .out] s (flushNotifs  a0 a1 s) := by
  induction a0 generalizing a1 s with
  | zero =>
    unfold flushNotifs
    exact Changes.rfl
  | succ a0 ih =>
    unfold flushNotifs
    extract_lets x1
    split
    · exact Changes.rfl
    · refine Changes.ite ?_ ?_
      · refine Changes.via ?_ (ih ..) (by decide +kernel)
        refine Changes.via ?_ (writeNotif_changes ..) (by decide +kernel)
        refine Changes.via ?_ (State.modFn_changes ..) (by decide +kernel)
        exact Changes.rfl
      · exact Changes.rfl
theorem ringFault_changes (vi bit : Nat) (tos : List Nat) (s : State) : Changes [.rings, .cnt, .out] s (ringFault vi bit tos s) := by
  unfold ringFault
  extract_lets x1 x2 x3
  refine Changes.via ?_ (postVector_changes ..) (by decide +kernel)
  subst x3
  refine Changes.foldS ?_ (fun _ _ => ?_)
  · subst x1
    refine Changes.via ?_ (State.modFn_changes ..) (by decide +kernel)
    exact Changes.rfl
  · refine Changes.via ?_ (notifyOne_changes ..) (by decide +kernel)
    exact Changes.rfl
theorem writeCompl_changes (vi : Nat) (c : HeldCompl) (s : State) : Changes [.rings, .out] s (writeCompl vi c s) := by
  unfold writeCompl
  extract_lets x1 x2 x3 x4
  dsimp only
  refine Changes.via ?_ (postVector_changes ..) (by decide +kernel)
  refine Changes.via ?_ (State.modFn_changes ..) (by decide +kernel)
  subst x2
  refine Changes.ite ?_ ?_
  · refine Changes.via ?_ (State.emit_changes ..) (by decide +kernel)
    exact Changes.rfl
  · exact Changes.rfl
theorem postCompl_changes (vi : Nat) (c : HeldCompl) (s : State) : Changes [.rings, .out] s (postCompl vi c s) := by
  unfold postCompl
  refine Changes.ite ?_ ?_
  · exact Changes.rfl
  · refine Changes.ite ?_ ?_
    · refine Changes.via ?_ (writeCompl_changes ..) (by decide +kernel)
      exact Changes.rfl
    · refine Changes.via ?_ (State.modFn_changes ..) (by decide +kernel)
      exact Changes.rfl
theorem drainCheck_changes (vi : Nat) (s : State) : Changes [.rings] s (drainCheck vi s) := by
  unfold drainCheck
  extract_lets x1
  refine Changes.ite ?_ ?_
  · refine Changes.via ?_ (State.modFn_changes ..) (by decide +kernel)
    exact Changes.rfl
  · exact Changes.rfl
theorem dirWrite_changes (s : State) : Changes [.upd] s (dirWrite s) := by
  unfold dirWrite
  extract_lets x1 x2 x3
  refine Changes.set_upd ?_ (by decide)
  exact Changes.rfl

end Sys2Proof.Machine
end

