-- ==== Sys2Proof/Laws/Commands.lean ====
section
/-! SUPPORT. What each operation of Machine/Commands.lean can change. -/

set_option Elab.async false

namespace Sys2Proof.Machine

theorem Reply.ok_changes (s : State) (result : List Byte := []) : Changes [] s (Reply.ok s result).st := by
  unfold Reply.ok
  refine Changes.mk_st ?_
  exact Changes.rfl
theorem Reply.err_changes (s : State) (status detail : Nat) (result : List Byte := []) : Changes [] s (Reply.err s status detail result).st := by
  unfold Reply.err
  refine Changes.mk_st ?_
  exact Changes.rfl
theorem Reply.read_changes (s : State) (result data : List Byte) : Changes [] s (Reply.read s result data).st := by
  unfold Reply.read
  refine Changes.mk_st ?_
  exact Changes.rfl
theorem badLen_changes (vi : Nat) (s : State) : Changes [.rings, .cnt, .out] s (badLen vi s).st := by
  unfold badLen
  refine Changes.err_st ?_
  refine Changes.via ?_ (count_changes ..) (by decide +kernel)
  exact Changes.rfl
theorem notPermitted_changes (vi : Nat) (s : State) : Changes [.rings, .cnt, .out] s (notPermitted vi s).st := by
  unfold notPermitted
  refine Changes.err_st ?_
  refine Changes.via ?_ (count_changes ..) (by decide +kernel)
  exact Changes.rfl
theorem badReserved_changes (s : State) : Changes [] s (badReserved s).st := by
  unfold badReserved
  refine Changes.err_st ?_
  exact Changes.rfl
theorem popSq_changes (vi : Nat) (s : State) : Changes [.rings] s (popSq vi s) := by
  unfold popSq
  refine Changes.via ?_ (State.modFn_changes ..) (by decide +kernel)
  exact Changes.rfl
theorem finish_changes (vi : Nat) (e : Entry) (writeOk : Bool) (r : Reply) : Changes [.rings, .cnt, .out] r.st (finish vi e writeOk r) := by
  unfold finish
  extract_lets x1 x2
  dsimp only
  refine Changes.via ?_ (drainCheck_changes ..) (by decide +kernel)
  refine Changes.ite ?_ ?_
  · refine Changes.via ?_ (notifyOne_changes ..) (by decide +kernel)
    refine Changes.via ?_ (postCompl_changes ..) (by decide +kernel)
    refine Changes.via ?_ (State.modFn_changes ..) (by decide +kernel)
    subst x2
    refine Changes.ite ?_ ?_
    · refine Changes.via ?_ (count_changes ..) (by decide +kernel)
      exact Changes.rfl
    · exact Changes.rfl
  · refine Changes.via ?_ (postCompl_changes ..) (by decide +kernel)
    refine Changes.via ?_ (State.modFn_changes ..) (by decide +kernel)
    subst x2
    refine Changes.ite ?_ ?_
    · refine Changes.via ?_ (count_changes ..) (by decide +kernel)
      exact Changes.rfl
    · exact Changes.rfl
theorem answer_changes (vi : Nat) (e : Entry) (c : Compl) (s : State) : Changes [.rings, .cnt, .out] s (answer vi e c s) := by
  unfold answer
  extract_lets x1 x2
  refine Changes.via ?_ (drainCheck_changes ..) (by decide +kernel)
  subst x2
  refine Changes.ite ?_ ?_
  · refine Changes.via ?_ (notifyOne_changes ..) (by decide +kernel)
    subst x1
    refine Changes.via ?_ (postCompl_changes ..) (by decide +kernel)
    exact Changes.rfl
  · subst x1
    refine Changes.via ?_ (postCompl_changes ..) (by decide +kernel)
    exact Changes.rfl
theorem nonExecuting_changes (vi : Nat) (e : Entry) (s t : State) (h : nonExecuting vi e s = some t) : Changes [.rings, .cnt, .out] s t := by
  have k (st dt cn : Nat) : Changes [.rings, .cnt, .out] s (answer vi e { cmdId := e.cmdId, status := st, detail := dt } (count cn vi 1 s)) := by
    refine Changes.via ?_ (answer_changes ..) (by decide +kernel)
    refine Changes.via ?_ (count_changes ..) (by decide +kernel)
    exact Changes.rfl
  unfold nonExecuting at h
  extract_lets x1 x2 at h
  split at h
  · cases h
    refine Changes.via ?_ (answer_changes ..) (by decide +kernel)
    refine Changes.via ?_ (count_changes ..) (by decide +kernel)
    exact Changes.rfl
  · cases h
    exact k ..
  · cases h
    exact k ..
  · cases h
    exact k ..
  · split at h
    · cases h
    · cases h
      refine Changes.via ?_ (finish_changes ..) (by decide +kernel)
      refine Changes.err_st ?_
      refine Changes.via ?_ (count_changes ..) (by decide +kernel)
      exact Changes.rfl
theorem settle_changes (a0 : Nat) (s : State) : Changes [.rings, .queue, .cnt, .out] s (settle a0 s) := by
  induction a0 generalizing s with
  | zero =>
    unfold settle
    exact Changes.rfl
  | succ a0 ih =>
    unfold settle
    refine Changes.ite ?_ Changes.rfl
    split
    · exact Changes.rfl
    · split
      · exact Changes.rfl
      · extract_lets x0 x1
        split
        · exact Changes.rfl
        · rename_i h
          have k : Changes [.rings, .queue] s x1 := by
            refine Changes.via ?_ (popSq_changes ..) (by decide)
            exact Changes.set_queue Changes.rfl (by with_reducible rfl) (by with_reducible rfl) (by decide)
          clear_value x1
          exact Changes.trans (Changes.via (Changes.via Changes.rfl k (by decide)) (nonExecuting_changes _ _ _ _ h) (by decide)) (ih _)
theorem State.settled_changes (s : State) : Changes [.rings, .queue, .cnt, .out] s (State.settled s) := by
  unfold State.settled
  refine Changes.via ?_ (settle_changes ..) (by decide +kernel)
  exact Changes.rfl
/-- A refused command changes no part but its function's rings, counters and outputs. -/
theorem preCheck_changes (c : CmdInfo) (vi : Nat) (io : HostIo) (e : Entry) (s : State) (r : Reply) (h : preCheck c vi io e s = some r) :
    Changes [.rings, .cnt, .out] s r.st := by
  have k (a b : Nat) : Changes [.rings, .cnt, .out] s (Reply.err (count Cn.hifCmdErr vi 1 s) a b).st := count_changes ..
  have l : Changes [.rings, .cnt, .out] s (badLen vi s).st := badLen_changes ..
  have z (a b : Nat) : Changes [.rings, .cnt, .out] s (Reply.err s a b).st := Changes.rfl
  unfold preCheck at h
  exact Changes.opt_ite h (z ..) (fun h => Changes.opt_ite h (k ..) (fun h => Changes.opt_ite h (k ..) (fun h =>
    Changes.opt_ite h (z ..) (fun h => Changes.opt_ite h (z ..) (fun h => Changes.opt_ite h (z ..) (fun h =>
    Changes.opt_ite h (z ..) (fun h => Changes.opt_ite h (k ..) (fun h => Changes.opt_ite h l (fun h =>
    Changes.opt_ite h (k ..) (fun h => nomatch h))))))))))
theorem sendJournal_changes (vi : Nat) (e : Entry) (r : Reply) : Changes [.pair, .out] r.st (sendJournal vi e r).1 := by
  unfold sendJournal
  exact Changes.via (Changes.set_pair Changes.rfl (by decide)) (State.emit_changes ..) (by decide)
theorem park_changes (vi : Nat) (e : Entry) (writeOk : Bool) (r : Reply) (w : Wait) (blocks : Bool) : Changes [.queue] r.st (park vi e writeOk r w blocks) := by
  unfold park
  extract_lets x1 x2 x3
  refine Changes.set_queue ?_ (by with_reducible rfl) (by with_reducible rfl) (by decide)
  subst x2
  exact Changes.rfl
theorem conclude_changes (c : CmdInfo) (vi : Nat) (e : Entry) (w : Bool) (r : Reply) :
    Changes [.rings, .queue, .pair, .cnt, .out] r.st (conclude c vi e w r) := by
  unfold conclude
  split
  · exact Changes.via Changes.rfl (park_changes ..) (by decide)
  · refine Changes.ite ?_ ?_
    · exact Changes.via (Changes.via Changes.rfl (sendJournal_changes vi e r) (by decide))
        (park_changes vi e w { r with st := (sendJournal vi e r).1 } (.mark (sendJournal vi e r).2) false) (by decide)
    · exact Changes.via (Changes.via Changes.rfl (finish_changes ..) (by decide)) (State.settled_changes ..) (by decide)
/-- What a command changes, given what its body changes. -/
theorem runCommand_changes {ps : List Part} (op vi : Nat) (io : HostIo) (body : Body) (s : State)
    (hb : ∀ e t, Changes ps t (body vi e t).st) : Changes (.rings :: .queue :: .pair :: .cnt :: .out :: ps) s (runCommand op vi io body s) := by
  unfold runCommand
  refine Changes.ite ?_ Changes.rfl
  split
  · rename_i e _ c _ _
    refine Changes.via ?_ (conclude_changes ..) (by simp)
    generalize hs : popSq vi { s with hif := { s.hif with served := some vi } } = s1
    have h1 : Changes [.rings, .queue] s s1 := hs ▸ Changes.via (Changes.set_queue Changes.rfl (by with_reducible rfl) (by with_reducible rfl) (by decide)) (popSq_changes ..) (by decide)
    split
    · rename_i h
      exact Changes.via (Changes.weaken h1 (by simp)) (preCheck_changes _ _ _ _ _ _ h) (by simp)
    · exact Changes.via (Changes.weaken h1 (by simp)) (hb e s1) (by intro p hp; simp [hp])
  · exact Changes.rfl

/-- A command that starts is concluded with its body's reply. -/
theorem runCommand_starts {op vi : Nat} {io : HostIo} {e : Entry} {s : State} (body : Body) (h : starts op vi io e s = true) :
    runCommand op vi io body s = completed vi io e (body vi e (taken vi s)) := by
  unfold starts at h
  simp only [Bool.and_eq_true, decide_eq_true_eq] at h
  obtain ⟨⟨hc, hq⟩, hi⟩ := h
  have ho : e.opcode = op := by
    unfold State.canStart at hc
    simp only [Bool.and_eq_true, decide_eq_true_eq, hq] at hc
    simpa using hc.1.2
  unfold runCommand completed
  rw [if_pos hc]
  cases hl : (s.fn vi).sq with
  | nil => rw [hl] at hq; exact nomatch hq
  | cons a l =>
    rw [hl] at hq
    obtain rfl : a = e := by simpa using hq
    cases hk : cmdInfo op with
    | none => rw [hk] at hi; exact nomatch hi
    | some c =>
      rw [hk, Option.isNone_iff_eq_none] at hi
      change conclude c vi a io.writeOk (match preCheck c vi io a (taken vi s) with | some r => r | none => body vi a (taken vi s)) = _
      rw [hi, ho, hk]
      rfl

/-- A reply with no wait of its own, of a change that is not replicated, completes at once. -/
theorem completed_now {vi : Nat} {io : HostIo} {e : Entry} {r : Reply} (hw : r.wait = none)
    (hr : replicates ((cmdInfo e.opcode).getD { op := e.opcode }) r = false) : completed vi io e r = (finish vi e io.writeOk r).settled := by
  unfold completed conclude
  rw [hw, hr]
  rfl

/-- A reply that waits is parked with what it completes with. -/
theorem completed_waits {vi : Nat} {io : HostIo} {e : Entry} {r : Reply} {w : Wait} {b : Bool} (hw : r.wait = some (w, b)) :
    completed vi io e r = park vi e io.writeOk r w b := by
  unfold completed conclude
  rw [hw]
theorem Parked.reply_changes (p : Parked) (s : State) : Changes [] s (Parked.reply p s).st := by
  unfold Parked.reply
  refine Changes.mk_st ?_
  exact Changes.rfl
theorem wake_changes (f : Wait → Bool) (s : State) : Changes [.queue] s (wake f s) := by
  unfold wake
  refine Changes.set_queue ?_ (by with_reducible rfl) (by with_reducible rfl) (by decide)
  exact Changes.rfl

end Sys2Proof.Machine
end

