-- ==== Sys2Proof/Laws/Records.lean ====
section
/-! SUPPORT. What each operation of Machine/Records.lean can change. -/

set_option Elab.async false

namespace Sys2Proof.Machine

theorem State.modRec_changes (s : State) (id : Nat) (f : FRec → FRec) : Changes [.log] s (State.modRec s id f) := by
  unfold State.modRec
  refine Changes.set_log ?_ (by with_reducible rfl) (by decide)
  exact Changes.rfl
theorem openFault_changes (cls unit cause detail occurrences : Nat) (injected : Bool) (s : State) : Changes [.draws, .rings, .log, .cnt, .out] s (openFault cls unit cause detail occurrences injected s) := by
  unfold openFault
  split
  · refine Changes.via ?_ (State.modRec_changes ..) (by decide +kernel)
    exact Changes.rfl
  · extract_lets x1 x2 x3 x4 x5 x6 x7
    split
    · refine Changes.via ?_ (count_changes ..) (by decide +kernel)
      subst x6
      refine Changes.set_log ?_ (by with_reducible rfl) (by decide)
      subst x3
      refine Changes.via ?_ (State.drawn_changes ..) (by decide +kernel)
      exact Changes.rfl
    · extract_lets x8
      refine Changes.via ?_ (notify_changes ..) (by decide +kernel)
      refine Changes.via ?_ (count_changes ..) (by decide +kernel)
      subst x8
      refine Changes.set_log ?_ (by with_reducible rfl) (by decide)
      subst x6
      refine Changes.set_log ?_ (by with_reducible rfl) (by decide)
      subst x3
      refine Changes.via ?_ (State.drawn_changes ..) (by decide +kernel)
      exact Changes.rfl
theorem fault_changes (cls unit cause : Nat) (s : State) : Changes [.draws, .rings, .log, .cnt, .out] s (fault cls unit cause s) := by
  unfold fault
  refine Changes.via ?_ (openFault_changes ..) (by decide +kernel)
  exact Changes.rfl
theorem endWindow_changes (cls unit : Nat) (s : State) : Changes [.rings, .log, .cnt, .out] s (endWindow cls unit s) := by
  unfold endWindow
  split
  · exact Changes.rfl
  · extract_lets x1
    refine Changes.via ?_ (notify_changes ..) (by decide +kernel)
    refine Changes.via ?_ (State.modRec_changes ..) (by decide +kernel)
    exact Changes.rfl
theorem discardUnder_changes (cls unit n : Nat) (s : State) : Changes [.rings, .log, .cnt, .out] s (discardUnder cls unit n s) := by
  unfold discardUnder
  refine Changes.ite ?_ ?_
  · exact Changes.rfl
  · extract_lets x1
    refine Changes.via ?_ (count_changes ..) (by decide +kernel)
    subst x1
    split
    · refine Changes.via ?_ (State.modRec_changes ..) (by decide +kernel)
      exact Changes.rfl
    · exact Changes.rfl
theorem doubleLoss_changes (later first : List Nat) (n : Nat) (s : State) : Changes [.rings, .log, .cnt, .out] s (doubleLoss later first n s) := by
  unfold doubleLoss
  refine Changes.ite ?_ ?_
  · exact Changes.rfl
  · split
    · refine Changes.via ?_ (count_changes ..) (by decide +kernel)
      exact Changes.rfl
    · extract_lets x1 x2
      refine Changes.ite ?_ ?_
      · subst x1
        refine Changes.via ?_ (count_changes ..) (by decide +kernel)
        refine Changes.via ?_ (State.modRec_changes ..) (by decide +kernel)
        exact Changes.rfl
      · refine Changes.via ?_ (notify_changes ..) (by decide +kernel)
        refine Changes.set_log ?_ (by with_reducible rfl) (by decide)
        subst x1
        refine Changes.via ?_ (count_changes ..) (by decide +kernel)
        refine Changes.via ?_ (State.modRec_changes ..) (by decide +kernel)
        exact Changes.rfl
theorem takeArmed_changes (target unit : Nat) (s : State) : Changes [.flt] s (takeArmed target unit s).2 := by
  unfold takeArmed
  split
  · refine Changes.pair_snd ?_
    exact Changes.rfl
  · extract_lets x1 x2 x3
    refine Changes.pair_snd ?_
    refine Changes.set_rest ?_ (by with_reducible rfl) (by decide)
    exact Changes.rfl

end Sys2Proof.Machine
end

