-- ==== Sys2Proof/Laws/CellOps.lean ====
section
/-! SUPPORT. What each operation of Machine/CellOps.lean can change. -/

set_option Elab.async false

namespace Sys2Proof.Machine

theorem State.modFab_changes (s : State) (f : Fab → Fab) : Changes [.fab] s (State.modFab s f) := by
  unfold State.modFab
  refine Changes.set_fab ?_ (by decide)
  exact Changes.rfl
theorem State.modPlane_changes (s : State) (p : Nat) (f : Plane → Plane) : Changes [.fab] s (State.modPlane s p f) := by
  unfold State.modPlane
  refine Changes.via ?_ (State.modFab_changes ..) (by decide +kernel)
  exact Changes.rfl
theorem State.modLane_changes (s : State) (l : Nat) (f : Lane → Lane) : Changes [.fab] s (State.modLane s l f) := by
  unfold State.modLane
  refine Changes.via ?_ (State.modFab_changes ..) (by decide +kernel)
  exact Changes.rfl
theorem State.setTx_changes (s : State) (k : Nat) (x : Nat × Bool) : Changes [.fab] s (State.setTx s k x) := by
  unfold State.setTx
  refine Changes.via ?_ (State.modFab_changes ..) (by decide +kernel)
  exact Changes.rfl
theorem queueCell_changes (plane : Nat) (c : Cell) (s : State) : Changes [.fab] s (queueCell plane c s) := by
  unfold queueCell
  refine Changes.ite ?_ ?_
  · refine Changes.via ?_ (State.modFab_changes ..) (by decide +kernel)
    exact Changes.rfl
  · split
    · exact Changes.rfl
    · refine Changes.via ?_ (State.modLane_changes ..) (by decide +kernel)
      exact Changes.rfl
theorem takeCells_changes (lane : Nat) (s : State) : Changes [.fab] s (takeCells lane s).2 := by
  unfold takeCells
  refine Changes.pair_snd ?_
  refine Changes.ite ?_ ?_
  · exact Changes.rfl
  · refine Changes.via ?_ (State.modLane_changes ..) (by decide +kernel)
    exact Changes.rfl
theorem State.modLink_changes (s : State) (l : Nat) (f : Link → Link) : Changes [.sec] s (State.modLink s l f) := by
  unfold State.modLink
  refine Changes.set_sec ?_ (by decide)
  exact Changes.rfl
theorem startHandshake_changes (l : Nat) (s : State) : Changes [.sec, .out] s (startHandshake l s) := by
  unfold startHandshake
  refine Changes.via ?_ (State.emit_changes ..) (by decide +kernel)
  refine Changes.via ?_ (State.modLink_changes ..) (by decide +kernel)
  exact Changes.rfl
theorem endFrame_changes (lane : Nat) (l : Lane) (s : State) : Changes [.fab, .sec, .cnt, .out] s (endFrame lane l s) := by
  unfold endFrame
  extract_lets x1 x2 x3 x4 x5
  refine Changes.ite ?_ ?_
  · subst x3
    refine Changes.ite ?_ ?_
    · refine Changes.via ?_ (startHandshake_changes ..) (by decide +kernel)
      subst x1
      refine Changes.via ?_ (bump_changes ..) (by decide +kernel)
      exact Changes.rfl
    · subst x1
      refine Changes.via ?_ (bump_changes ..) (by decide +kernel)
      exact Changes.rfl
  · refine Changes.via ?_ (State.emit_changes ..) (by decide +kernel)
    refine Changes.via ?_ (State.modLane_changes ..) (by decide +kernel)
    subst x3
    refine Changes.ite ?_ ?_
    · refine Changes.via ?_ (startHandshake_changes ..) (by decide +kernel)
      subst x1
      refine Changes.via ?_ (bump_changes ..) (by decide +kernel)
      exact Changes.rfl
    · subst x1
      refine Changes.via ?_ (bump_changes ..) (by decide +kernel)
      exact Changes.rfl
theorem linkTick_changes (s : State) : Changes [.fab, .sec, .cnt, .out] s (linkTick s) := by
  unfold linkTick
  refine Changes.foldS ?_ (fun _ _ => ?_)
  · exact Changes.rfl
  · refine Changes.ite ?_ ?_
    · refine Changes.via ?_ (endFrame_changes ..) (by decide +kernel)
      exact Changes.rfl
    · exact Changes.rfl
theorem sendCell_changes (plane : Nat) (c : Cell) (s : State) : Changes [.draws, .rings, .fab, .flt, .cnt, .out] s (sendCell plane c s) := by
  unfold sendCell
  dsimp only
  refine Changes.ite ?_ ?_
  · refine Changes.via ?_ (State.drawn_changes ..) (by decide +kernel)
    refine Changes.via ?_ (queueCell_changes ..) (by decide +kernel)
    refine Changes.via ?_ (State.emit_changes ..) (by decide +kernel)
    refine Changes.via ?_ (count_changes ..) (by decide +kernel)
    refine Changes.via ?_ (takeArmed_changes ..) (by decide +kernel)
    exact Changes.rfl
  · refine Changes.via ?_ (queueCell_changes ..) (by decide +kernel)
    refine Changes.via ?_ (State.emit_changes ..) (by decide +kernel)
    refine Changes.via ?_ (count_changes ..) (by decide +kernel)
    refine Changes.via ?_ (takeArmed_changes ..) (by decide +kernel)
    exact Changes.rfl
theorem sendCtrl_changes (dest : Nat) (entries : List (List Byte)) (s : State) : Changes [.draws, .rings, .fab, .flt, .cnt, .out] s (sendCtrl dest entries s) := by
  unfold sendCtrl
  extract_lets x1 x2 x3 x4 x5 x6 x7
  subst x5
  split
  · refine Changes.via ?_ (sendCell_changes ..) (by decide +kernel)
    subst x7
    refine Changes.ite ?_ ?_
    · refine Changes.via ?_ (State.modFab_changes ..) (by decide +kernel)
      exact Changes.rfl
    · exact Changes.rfl
  · subst x7
    refine Changes.ite ?_ ?_
    · refine Changes.via ?_ (State.modFab_changes ..) (by decide +kernel)
      exact Changes.rfl
    · exact Changes.rfl
theorem sendEntry_changes (dests : List Nat) (e : List Byte) (s : State) : Changes [.draws, .rings, .fab, .flt, .cnt, .out] s (sendEntry dests e s) := by
  unfold sendEntry
  refine Changes.foldS ?_ (fun _ _ => ?_)
  · exact Changes.rfl
  · refine Changes.via ?_ (sendCtrl_changes ..) (by decide +kernel)
    exact Changes.rfl
theorem sendToken_changes (kind stream sp tc first n : Nat) (s : State) : Changes [.draws, .rings, .fab, .flt, .cnt, .out] s (sendToken kind stream sp tc first n s) := by
  unfold sendToken
  refine Changes.foldS ?_ (fun _ _ => ?_)
  · exact Changes.rfl
  · refine Changes.via ?_ (sendEntry_changes ..) (by decide +kernel)
    exact Changes.rfl
theorem voidNumbers_changes (k : VPkt) (s : State) : Changes [.draws, .rings, .fab, .flt, .cnt, .out] s (voidNumbers k s) := by
  unfold voidNumbers
  split
  · exact Changes.rfl
  · extract_lets x1
    refine Changes.via ?_ (count_changes ..) (by decide +kernel)
    refine Changes.via ?_ (sendToken_changes ..) (by decide +kernel)
    exact Changes.rfl
theorem sendPeer_changes (e : List Byte) (s : State) : Changes [.draws, .rings, .fab, .flt, .cnt, .out] s (sendPeer e s) := by
  unfold sendPeer
  refine Changes.ite ?_ ?_
  · refine Changes.via ?_ (State.emit_changes ..) (by decide +kernel)
    exact Changes.rfl
  · refine Changes.via ?_ (sendCtrl_changes ..) (by decide +kernel)
    exact Changes.rfl
theorem sendMark_changes (k seq : Nat) (s : State) : Changes [.draws, .rings, .fab, .pair, .flt, .cnt, .out] s (sendMark k seq s) := by
  unfold sendMark
  extract_lets x1 x2 x3
  refine Changes.ite ?_ ?_
  · split
    · refine Changes.via ?_ (State.emit_changes ..) (by decide +kernel)
      exact Changes.rfl
    · refine Changes.via ?_ (State.emit_changes ..) (by decide +kernel)
      exact Changes.rfl
  · refine Changes.ite ?_ ?_
    · refine Changes.via ?_ (sendCtrl_changes ..) (by decide +kernel)
      refine Changes.set_pair ?_ (by decide)
      exact Changes.rfl
    · refine Changes.set_pair ?_ (by decide)
      exact Changes.rfl
theorem flushMarks_changes (s : State) : Changes [.draws, .rings, .fab, .pair, .flt, .cnt, .out] s (flushMarks s) := by
  unfold flushMarks
  refine Changes.foldS ?_ (fun _ _ => ?_)
  · exact Changes.rfl
  · refine Changes.via ?_ (sendMark_changes ..) (by decide +kernel)
    exact Changes.rfl
theorem markGone_changes (port : Nat) (k seq : Nat) (s : State) : Changes [.draws, .rings, .fab, .pair, .flt, .cnt, .out] s (markGone port k seq s) := by
  unfold markGone
  refine Changes.ite ?_ ?_
  · refine Changes.via ?_ (sendMark_changes ..) (by decide +kernel)
    exact Changes.rfl
  · exact Changes.rfl

end Sys2Proof.Machine
end

