-- ==== Sys2Proof/Laws/Settings.lean ====
section
/-! SUPPORT. What each operation of Machine/Settings.lean can change. -/

set_option Elab.async false

namespace Sys2Proof.Machine

theorem saveSettings_changes (s : State) : Changes [.sec] s (saveSettings s) := by
  unfold saveSettings
  extract_lets x1 x2 x3 x4
  refine Changes.ite ?_ ?_
  · refine Changes.set_sec ?_ (by decide)
    exact Changes.rfl
  · refine Changes.set_sec ?_ (by decide)
    exact Changes.rfl
theorem Changes.storing {ps : List Part} {s₀ s : State} {r : Reply} (h : Changes ps s₀ s) (k : Changes ps s₀ r.st) (m : Part.sec ∈ ps) :
    Changes ps s₀ (storing s r).st := by
  unfold Machine.storing
  split
  · exact k
  · split
    · exact h
    · exact Changes.via k (saveSettings_changes ..) (by intro p hp; cases hp with | head => exact m | tail _ h => cases h)
theorem readCopies_changes (s : State) : Changes [.rings, .sec, .cnt, .out] s (readCopies s).2 := by
  unfold readCopies
  extract_lets x1 x2 x3 x4
  refine Changes.ite_snd ?_ ?_
  · refine Changes.ite_snd ?_ ?_
    · refine Changes.pair_snd ?_
      exact Changes.rfl
    · refine Changes.pair_snd ?_
      exact Changes.rfl
  · refine Changes.ite_snd ?_ ?_
    · refine Changes.pair_snd ?_
      subst x3
      dsimp -zeta only
      refine Changes.via ?_ (count_changes ..) (by decide +kernel)
      refine Changes.via ?_ (notify_changes ..) (by decide +kernel)
      refine Changes.set_sec ?_ (by decide)
      exact Changes.rfl
    · refine Changes.ite_snd ?_ ?_
      · refine Changes.pair_snd ?_
        subst x3
        dsimp -zeta only
        refine Changes.via ?_ (count_changes ..) (by decide +kernel)
        refine Changes.via ?_ (notify_changes ..) (by decide +kernel)
        refine Changes.set_sec ?_ (by decide)
        exact Changes.rfl
      · refine Changes.pair_snd ?_
        exact Changes.rfl

/-- Outside a trial, a changing command that succeeds answers its own reply with the settings saved. -/
theorem storing_ok {s t : State} {r : List Byte} (h : s.onTrial = false) :
    storing s (.ok t r) = .ok (saveSettings t) r := by
  simp [storing, Reply.ok, h, St.ok]

end Sys2Proof.Machine
end

