-- ==== Sys2Proof/Laws/Cnt.lean ====
section
/-! SUPPORT. What each operation of Machine/Cnt.lean can change. -/

set_option Elab.async false

namespace Sys2Proof.Machine

theorem bodyCntRead_changes (vi : Nat) (e : Entry) (s : State) : Changes [.rings, .cnt, .out] s (bodyCntRead vi e s).st := by
  unfold bodyCntRead
  extract_lets x1 x2 x3 x4 x5 x6 x7 x8 x9
  split
  · refine Changes.err_st ?_
    exact Changes.rfl
  · refine Changes.ite_st ?_ ?_
    · refine Changes.err_st ?_
      exact Changes.rfl
    · refine Changes.ite_st ?_ ?_
      · refine Changes.err_st ?_
        exact Changes.rfl
      · refine Changes.ite_st ?_ ?_
        · refine Changes.via ?_ (notPermitted_changes ..) (by decide +kernel)
          exact Changes.rfl
        · refine Changes.ite_st ?_ ?_
          · refine Changes.via ?_ (badLen_changes ..) (by decide +kernel)
            exact Changes.rfl
          · refine Changes.mk_st ?_
            subst x9
            refine Changes.ite ?_ ?_
            · refine Changes.set_cnt ?_ (by decide)
              exact Changes.rfl
            · exact Changes.rfl
theorem State.modSel_changes (s : State) (n : Nat) (f : Sel → Sel) : Changes [.cnt] s (State.modSel s n f) := by
  unfold State.modSel
  refine Changes.set_cnt ?_ (by decide)
  exact Changes.rfl
theorem bodyCntSelect_changes (vi : Nat) (e : Entry) (s : State) : Changes [.cnt] s (bodyCntSelect vi e s).st := by
  unfold bodyCntSelect
  extract_lets x1 x2 x3 x4 x5 x6 x7 x8 x9 x10
  refine Changes.ite_st ?_ ?_
  · refine Changes.err_st ?_
    exact Changes.rfl
  · refine Changes.ite_st ?_ ?_
    · refine Changes.ite_st ?_ ?_
      · refine Changes.ok_st ?_
        refine Changes.via ?_ (State.modSel_changes ..) (by decide +kernel)
        exact Changes.rfl
      · refine Changes.ok_st ?_
        refine Changes.via ?_ (State.modSel_changes ..) (by decide +kernel)
        exact Changes.rfl
    · refine Changes.ite_st ?_ ?_
      · refine Changes.err_st ?_
        exact Changes.rfl
      · split
        · refine Changes.err_st ?_
          exact Changes.rfl
        · refine Changes.ite_st ?_ ?_
          · refine Changes.err_st ?_
            exact Changes.rfl
          · refine Changes.ite_st ?_ ?_
            · refine Changes.err_st ?_
              exact Changes.rfl
            · refine Changes.ok_st ?_
              refine Changes.via ?_ (State.modSel_changes ..) (by decide +kernel)
              exact Changes.rfl
theorem bodyCntMeter_changes (vi : Nat) (e : Entry) (s : State) : Changes [.cnt] s (bodyCntMeter vi e s).st := by
  unfold bodyCntMeter
  extract_lets x1 x2 x3
  refine Changes.ite_st ?_ ?_
  · refine Changes.err_st ?_
    exact Changes.rfl
  · refine Changes.ok_st ?_
    refine Changes.foldS ?_ (fun _ _ => ?_)
    · exact Changes.rfl
    · refine Changes.set_cnt ?_ (by decide)
      exact Changes.rfl
theorem bodyCntMeterRead_changes (vi : Nat) (e : Entry) (s : State) : Changes [.rings, .cnt, .out] s (bodyCntMeterRead vi e s).st := by
  unfold bodyCntMeterRead
  extract_lets x1 x2 x3 x4 x5 x6 x7
  refine Changes.ite_st ?_ ?_
  · refine Changes.err_st ?_
    exact Changes.rfl
  · refine Changes.ite_st ?_ ?_
    · refine Changes.via ?_ (notPermitted_changes ..) (by decide +kernel)
      exact Changes.rfl
    · refine Changes.mk_st ?_
      subst x7
      refine Changes.ite ?_ ?_
      · refine Changes.set_cnt ?_ (by decide)
        exact Changes.rfl
      · exact Changes.rfl
theorem bodyCntDescribe_changes (vi : Nat) (e : Entry) (s : State) : Changes [] s (bodyCntDescribe vi e s).st := by
  unfold bodyCntDescribe
  split
  · refine Changes.err_st ?_
    exact Changes.rfl
  · refine Changes.read_st ?_
    exact Changes.rfl
theorem execCntRead_changes (vi : Nat) (io : HostIo) (s : State) : ∃ t, execCntRead vi io s = .next t ∧ Changes [.rings, .queue, .pair, .cnt, .out] s t :=
  ⟨_, rfl, Changes.weaken (runCommand_changes _ _ _ _ _ (bodyCntRead_changes vi)) (by decide)⟩
theorem execCntSelect_changes (vi : Nat) (io : HostIo) (s : State) : ∃ t, execCntSelect vi io s = .next t ∧ Changes [.rings, .queue, .pair, .cnt, .out] s t :=
  ⟨_, rfl, Changes.weaken (runCommand_changes _ _ _ _ _ (bodyCntSelect_changes vi)) (by decide)⟩
theorem execCntMeter_changes (vi : Nat) (io : HostIo) (s : State) : ∃ t, execCntMeter vi io s = .next t ∧ Changes [.rings, .queue, .pair, .cnt, .out] s t :=
  ⟨_, rfl, Changes.weaken (runCommand_changes _ _ _ _ _ (bodyCntMeter_changes vi)) (by decide)⟩
theorem execCntMeterRead_changes (vi : Nat) (io : HostIo) (s : State) : ∃ t, execCntMeterRead vi io s = .next t ∧ Changes [.rings, .queue, .pair, .cnt, .out] s t :=
  ⟨_, rfl, Changes.weaken (runCommand_changes _ _ _ _ _ (bodyCntMeterRead_changes vi)) (by decide)⟩
theorem execCntDescribe_changes (vi : Nat) (io : HostIo) (s : State) : ∃ t, execCntDescribe vi io s = .next t ∧ Changes [.rings, .queue, .pair, .cnt, .out] s t :=
  ⟨_, rfl, Changes.weaken (runCommand_changes _ _ _ _ _ (bodyCntDescribe_changes vi)) (by decide)⟩
theorem execCntWindowBoundary_changes (counter : Nat) (s : State) : ∃ t, execCntWindowBoundary counter s = .next t ∧ Changes [.cnt] s t := by
  refine ⟨_, rfl, ?_⟩
  split
  · exact Changes.rfl
  · refine Changes.when ?_ ?_
    · exact Changes.rfl
    · refine Changes.via ?_ (State.modSel_changes ..) (by decide +kernel)
      exact Changes.rfl
theorem execMeterWindowBoundary_changes (port : Nat) (s : State) : ∃ t, execMeterWindowBoundary port s = .next t ∧ Changes [.cnt] s t := by
  refine ⟨_, rfl, ?_⟩
  refine Changes.when ?_ ?_
  · exact Changes.rfl
  · refine Changes.set_cnt ?_ (by decide)
    exact Changes.rfl
theorem meterRx_changes (port len : Nat) (s : State) : Changes [.cnt] s (meterRx port len s) := by
  unfold meterRx
  refine Changes.ite ?_ ?_
  · refine Changes.set_cnt ?_ (by decide)
    exact Changes.rfl
  · exact Changes.rfl
theorem meterTx_changes (port len : Nat) (s : State) : Changes [.cnt] s (meterTx port len s) := by
  unfold meterTx
  refine Changes.ite ?_ ?_
  · refine Changes.set_cnt ?_ (by decide)
    exact Changes.rfl
  · exact Changes.rfl

end Sys2Proof.Machine
end

