-- ==== Sys2Proof/Laws/SchOps.lean ====
section
/-! SUPPORT. What each operation of Machine/SchOps.lean can change. -/

set_option Elab.async false

namespace Sys2Proof.Machine

theorem State.modSch_changes (s : State) (f : Sch → Sch) : Changes [.sch] s (State.modSch s f) := by
  unfold State.modSch
  refine Changes.set_sch ?_ (by decide)
  exact Changes.rfl
theorem State.modEport_changes (s : State) (p : Nat) (f : EPort → EPort) : Changes [.sch] s (State.modEport s p f) := by
  unfold State.modEport
  refine Changes.set_sch ?_ (by decide)
  exact Changes.rfl
theorem State.modPort_changes (s : State) (p : Nat) (f : Port → Port) : Changes [.port] s (State.modPort s p f) := by
  unfold State.modPort
  refine Changes.set_port ?_ (by decide)
  exact Changes.rfl
theorem releaseRef_changes (handle version : Nat) (s : State) : Changes [.tbl] s (releaseRef handle version s) := by
  unfold releaseRef
  split
  · exact Changes.rfl
  · refine Changes.set_tbl ?_ (by with_reducible rfl) (by decide)
    exact Changes.rfl
theorem takeRef_changes (handle version : Nat) (s : State) : Changes [.tbl] s (takeRef handle version s) := by
  unfold takeRef
  split
  · exact Changes.rfl
  · refine Changes.set_tbl ?_ (by with_reducible rfl) (by decide)
    exact Changes.rfl
theorem State.setQueue_changes (s : State) (q : Nat) (l : List EPkt) : Changes [.sch] s (State.setQueue s q l) := by
  unfold State.setQueue
  refine Changes.set_sch ?_ (by decide)
  exact Changes.rfl
theorem placeUnder_changes (p want tc : Nat) (k : EPkt) (s : State) : Changes [.rings, .sch, .cnt, .out] s (placeUnder p want tc k s) := by
  unfold placeUnder
  refine Changes.ite ?_ ?_
  · refine Changes.via ?_ (State.setQueue_changes ..) (by decide +kernel)
    exact Changes.rfl
  · extract_lets x1
    split
    · refine Changes.via ?_ (State.setQueue_changes ..) (by decide +kernel)
      subst x1
      refine Changes.via ?_ (count_changes ..) (by decide +kernel)
      exact Changes.rfl
    · refine Changes.via ?_ (State.modEport_changes ..) (by decide +kernel)
      subst x1
      refine Changes.via ?_ (count_changes ..) (by decide +kernel)
      exact Changes.rfl
theorem holdFlushed_changes (p : Nat) (l : List EPkt) (s : State) : Changes [.draws, .rings, .tbl, .fab, .pair, .flt, .cnt, .out] s (holdFlushed p l s) := by
  unfold holdFlushed
  refine Changes.ite ?_ ?_
  · exact Changes.rfl
  · refine Changes.via ?_ (count_changes ..) (by decide +kernel)
    refine Changes.foldS ?_ (fun _ _ => ?_)
    · exact Changes.rfl
    · refine Changes.via ?_ (releaseRef_changes ..) (by decide +kernel)
      refine Changes.via ?_ (markGone_changes ..) (by decide +kernel)
      exact Changes.rfl
theorem rehomeTo_changes (p b tc : Nat) (k : EPkt) (s : State) : Changes [.draws, .rings, .tbl, .fab, .sch, .pair, .flt, .cnt, .out] s (rehomeTo p b tc k s) := by
  unfold rehomeTo
  extract_lets x1 x2
  refine Changes.ite ?_ ?_
  · refine Changes.via ?_ (holdFlushed_changes ..) (by decide +kernel)
    subst x1
    refine Changes.via ?_ (markGone_changes ..) (by decide +kernel)
    refine Changes.via ?_ (count_changes ..) (by decide +kernel)
    exact Changes.rfl
  · refine Changes.via ?_ (placeUnder_changes ..) (by decide +kernel)
    subst x1
    refine Changes.via ?_ (markGone_changes ..) (by decide +kernel)
    refine Changes.via ?_ (count_changes ..) (by decide +kernel)
    exact Changes.rfl
theorem egressRelease_changes (k : EPkt) (s : State) : Changes [.draws, .rings, .tbl, .fab, .sch, .pair, .flt, .cnt, .out] s (egressRelease k s) := by
  unfold egressRelease
  extract_lets x1
  refine Changes.ite ?_ ?_
  · refine Changes.via ?_ (releaseRef_changes ..) (by decide +kernel)
    exact Changes.rfl
  · split
    · refine Changes.via ?_ (holdFlushed_changes ..) (by decide +kernel)
      exact Changes.rfl
    · refine Changes.via ?_ (rehomeTo_changes ..) (by decide +kernel)
      exact Changes.rfl
    · refine Changes.via ?_ (placeUnder_changes ..) (by decide +kernel)
      exact Changes.rfl
theorem placeLimbo_changes (p : Nat) (s : State) : Changes [.sch] s (placeLimbo p s) := by
  unfold placeLimbo
  extract_lets x1
  refine Changes.ite ?_ ?_
  · exact Changes.rfl
  · refine Changes.foldS ?_ (fun _ _ => ?_)
    · refine Changes.via ?_ (State.modEport_changes ..) (by decide +kernel)
      exact Changes.rfl
    · split
      · refine Changes.via ?_ (State.setQueue_changes ..) (by decide +kernel)
        exact Changes.rfl
      · exact Changes.rfl
theorem setDeadline_changes (p : Nat) (entry : Bool) (s : State) : Changes [.sch] s (setDeadline p entry s) := by
  unfold setDeadline
  extract_lets x1 x2 x3 x4
  refine Changes.via ?_ (State.modEport_changes ..) (by decide +kernel)
  exact Changes.rfl
theorem retrainHold_changes (p : Nat) (s : State) : Changes [.sch] s (retrainHold p s) := by
  unfold retrainHold
  refine Changes.ite ?_ ?_
  · refine Changes.via ?_ (State.modEport_changes ..) (by decide +kernel)
    exact Changes.rfl
  · exact Changes.rfl
theorem returnOne_changes (p : Nat) (k : Nat × EPkt) (s : State) : Changes [.sch] s (returnOne p k s) := by
  unfold returnOne
  extract_lets x1 x2
  refine Changes.ite ?_ ?_
  · refine Changes.via ?_ (State.setQueue_changes ..) (by decide +kernel)
    exact Changes.rfl
  · split
    · refine Changes.via ?_ (State.setQueue_changes ..) (by decide +kernel)
      exact Changes.rfl
    · refine Changes.via ?_ (State.modEport_changes ..) (by decide +kernel)
      exact Changes.rfl
theorem returnSelected_changes (p : Nat) (s : State) : Changes [.sch] s (returnSelected p s) := by
  unfold returnSelected
  extract_lets x1 x2
  refine Changes.foldS ?_ (fun _ _ => ?_)
  · refine Changes.via ?_ (State.modEport_changes ..) (by decide +kernel)
    exact Changes.rfl
  · refine Changes.via ?_ (returnOne_changes ..) (by decide +kernel)
    exact Changes.rfl
theorem egressHold_changes (p : Nat) (s : State) : Changes [.sch] s (egressHold p s) := by
  unfold egressHold
  extract_lets x1
  split
  · refine Changes.via ?_ (setDeadline_changes ..) (by decide +kernel)
    refine Changes.via ?_ (State.modEport_changes ..) (by decide +kernel)
    subst x1
    refine Changes.via ?_ (returnSelected_changes ..) (by decide +kernel)
    exact Changes.rfl
  · refine Changes.via ?_ (setDeadline_changes ..) (by decide +kernel)
    refine Changes.via ?_ (State.modEport_changes ..) (by decide +kernel)
    subst x1
    refine Changes.via ?_ (returnSelected_changes ..) (by decide +kernel)
    exact Changes.rfl
  · subst x1
    refine Changes.via ?_ (returnSelected_changes ..) (by decide +kernel)
    exact Changes.rfl
theorem egressFlap_changes (p : Nat) (s : State) : Changes [.sch] s (egressFlap p s) := by
  unfold egressFlap
  refine Changes.ite ?_ ?_
  · refine Changes.via ?_ (setDeadline_changes ..) (by decide +kernel)
    exact Changes.rfl
  · exact Changes.rfl
theorem returnCheck_changes (p : Nat) (s : State) : Changes [.rings, .sch, .cnt, .out] s (returnCheck p s) := by
  unfold returnCheck
  refine Changes.ite ?_ ?_
  · refine Changes.via ?_ (notify_changes ..) (by decide +kernel)
    refine Changes.via ?_ (State.modEport_changes ..) (by decide +kernel)
    exact Changes.rfl
  · exact Changes.rfl
theorem egressUp_changes (p : Nat) (s : State) : Changes [.rings, .sch, .cnt, .out] s (egressUp p s) := by
  unfold egressUp
  split
  · refine Changes.via ?_ (State.modEport_changes ..) (by decide +kernel)
    exact Changes.rfl
  · refine Changes.via ?_ (State.modEport_changes ..) (by decide +kernel)
    exact Changes.rfl
  · refine Changes.via ?_ (returnCheck_changes ..) (by decide +kernel)
    refine Changes.via ?_ (State.modEport_changes ..) (by decide +kernel)
    exact Changes.rfl
  · exact Changes.rfl
theorem clearEmpty_changes (q : Nat) (s : State) : Changes [.sch] s (clearEmpty q s) := by
  unfold clearEmpty
  refine Changes.foldS ?_ (fun _ _ => ?_)
  · exact Changes.rfl
  · refine Changes.ite ?_ ?_
    · refine Changes.set_sch ?_ (by decide)
      exact Changes.rfl
    · exact Changes.rfl
theorem chargeShapers_changes (q len : Nat) (s : State) : Changes [.sch] s (chargeShapers q len s) := by
  unfold chargeShapers
  refine Changes.foldS ?_ (fun _ _ => ?_)
  · exact Changes.rfl
  · split
    · exact Changes.rfl
    · extract_lets x1 x2
      refine Changes.set_sch ?_ (by decide)
      exact Changes.rfl
theorem schModeEvent_changes (p mode cause : Nat) (s : State) : Changes [.rings, .cnt, .out] s (schModeEvent p mode cause s) := by
  unfold schModeEvent
  refine Changes.via ?_ (notify_changes ..) (by decide +kernel)
  exact Changes.rfl
theorem drrUpkeep_changes (p : Nat) (s : State) : Changes [.rings, .sch, .cnt, .out] s (drrUpkeep p s) := by
  unfold drrUpkeep
  extract_lets x1 x2 x3 x4 x5 x6 x7 x8
  refine Changes.ite ?_ ?_
  · refine Changes.ite ?_ ?_
    · subst x3
      refine Changes.via ?_ (State.modEport_changes ..) (by decide +kernel)
      exact Changes.rfl
    · refine Changes.via ?_ (schModeEvent_changes ..) (by decide +kernel)
      refine Changes.set_sch ?_ (by decide)
      subst x3
      refine Changes.via ?_ (State.modEport_changes ..) (by decide +kernel)
      exact Changes.rfl
  · refine Changes.ite ?_ ?_
    · refine Changes.ite ?_ ?_
      · refine Changes.via ?_ (schModeEvent_changes ..) (by decide +kernel)
        refine Changes.via ?_ (State.modEport_changes ..) (by decide +kernel)
        subst x7
        refine Changes.via ?_ (State.modEport_changes ..) (by decide +kernel)
        exact Changes.rfl
      · subst x7
        refine Changes.via ?_ (State.modEport_changes ..) (by decide +kernel)
        exact Changes.rfl
    · refine Changes.ite ?_ ?_
      · refine Changes.ite ?_ ?_
        · refine Changes.via ?_ (schModeEvent_changes ..) (by decide +kernel)
          refine Changes.via ?_ (State.modEport_changes ..) (by decide +kernel)
          exact Changes.rfl
        · refine Changes.via ?_ (State.modEport_changes ..) (by decide +kernel)
          exact Changes.rfl
      · exact Changes.rfl
theorem pace_changes (p len : Nat) (s : State) : Changes [.sch] s (pace p len s) := by
  unfold pace
  refine Changes.via ?_ (State.modEport_changes ..) (by decide +kernel)
  exact Changes.rfl
theorem applyPick_changes (p : Nat) (k : Pick) (s : State) : Changes [.rings, .sch, .cnt, .out] s (applyPick p k s) := by
  unfold applyPick
  split
  · exact Changes.rfl
  · extract_lets x1 x2 x3 x4 x5 x6
    refine Changes.ite ?_ ?_
    · refine Changes.via ?_ (schModeEvent_changes ..) (by decide +kernel)
      refine Changes.via ?_ (State.modEport_changes ..) (by decide +kernel)
      subst x6
      refine Changes.via ?_ (clearEmpty_changes ..) (by decide +kernel)
      subst x5
      refine Changes.via ?_ (chargeShapers_changes ..) (by decide +kernel)
      refine Changes.via ?_ (State.setQueue_changes ..) (by decide +kernel)
      subst x4
      refine Changes.via ?_ (State.modEport_changes ..) (by decide +kernel)
      subst x3
      refine Changes.set_sch ?_ (by decide)
      subst x1
      refine Changes.via ?_ (pace_changes ..) (by decide +kernel)
      exact Changes.rfl
    · subst x6
      refine Changes.via ?_ (clearEmpty_changes ..) (by decide +kernel)
      subst x5
      refine Changes.via ?_ (chargeShapers_changes ..) (by decide +kernel)
      refine Changes.via ?_ (State.setQueue_changes ..) (by decide +kernel)
      subst x4
      refine Changes.via ?_ (State.modEport_changes ..) (by decide +kernel)
      subst x3
      refine Changes.set_sch ?_ (by decide)
      subst x1
      refine Changes.via ?_ (pace_changes ..) (by decide +kernel)
      exact Changes.rfl

end Sys2Proof.Machine
end

