-- ==== Sys2Proof/Laws/TblOps.lean ====
section
/-! SUPPORT. What each operation of Machine/TblOps.lean can change. -/

set_option Elab.async false

namespace Sys2Proof.Machine

theorem capacityWarn_changes (s : State) : Changes [.rings, .tbl, .cnt, .out] s (capacityWarn s) := by
  unfold capacityWarn
  extract_lets x1
  refine Changes.foldS ?_ (fun _ _ => ?_)
  · exact Changes.rfl
  · extract_lets x2 x3 x4
    refine Changes.ite ?_ ?_
    · refine Changes.ite ?_ ?_
      · exact Changes.rfl
      · refine Changes.via ?_ (notify_changes ..) (by decide +kernel)
        refine Changes.set_tbl ?_ (by with_reducible rfl) (by decide)
        exact Changes.rfl
    · refine Changes.set_tbl ?_ (by with_reducible rfl) (by decide)
      exact Changes.rfl
theorem commitOps_changes (vi : Nat) (ops : List TOp) (s : State) : Changes [.rings, .epochs, .tbl, .pair, .cnt, .out] s (commitOps vi ops s) := by
  unfold commitOps
  extract_lets x1 x2 x3 x4 x5 x6 x7 x8 x9 x10
  refine Changes.via ?_ (capacityWarn_changes ..) (by decide +kernel)
  refine Changes.via ?_ (count_changes ..) (by decide +kernel)
  subst x10
  refine Changes.via ?_ (notify_changes ..) (by decide +kernel)
  subst x8
  refine Changes.foldS ?_ (fun _ _ => ?_)
  · subst x7
    refine Changes.set_epochs ?_ (by decide) (by decide)
    exact Changes.rfl
  · refine Changes.set_pair ?_ (by decide)
    exact Changes.rfl
theorem commitNow_changes (vi : Nat) (s : State) : Changes [.rings, .epochs, .tbl, .pair, .cnt, .out] s (commitNow vi s).st := by
  unfold commitNow
  extract_lets x1 x2 x3 x4 x5
  refine Changes.ite_st ?_ ?_
  · refine Changes.err_st ?_
    exact Changes.rfl
  · refine Changes.ite_st ?_ ?_
    · refine Changes.err_st ?_
      exact Changes.rfl
    · refine Changes.ite_st ?_ ?_
      · refine Changes.err_st ?_
        exact Changes.rfl
      · refine Changes.ok_st ?_
        refine Changes.via ?_ (commitOps_changes ..) (by decide +kernel)
        refine Changes.set_tbl ?_ (by with_reducible rfl) (by decide)
        exact Changes.rfl
theorem retireEpoch_changes (n : Nat) (s : State) : Changes [.epochs, .tbl] s (retireEpoch n s) := by
  unfold retireEpoch
  refine Changes.set_epochs ?_ (by decide) (by decide)
  exact Changes.rfl

end Sys2Proof.Machine
end

