-- ==== Sys2Proof/Laws/AsaOps.lean ====
section
/-! SUPPORT. What each operation of Machine/AsaOps.lean can change. -/

set_option Elab.async false

namespace Sys2Proof.Machine

theorem State.setRegion_changes (s : State) (r : Nat) (x : Region) : Changes [.asa] s (State.setRegion s r x) := by
  unfold State.setRegion
  refine Changes.set_asa ?_ (by decide)
  exact Changes.rfl
theorem State.modBank_changes (s : State) (b : Nat) (f : Bank → Bank) : Changes [.asa] s (State.modBank s b f) := by
  unfold State.modBank
  refine Changes.set_asa ?_ (by decide)
  exact Changes.rfl
theorem setBankPower_changes (b : Nat) (on : Bool) (s : State) : Changes [.rings, .asa, .cnt, .pwr, .out] s (setBankPower b on s) := by
  unfold setBankPower
  extract_lets x1 x2 x3
  refine Changes.ite ?_ ?_
  · subst x2
    refine Changes.ite ?_ ?_
    · refine Changes.via ?_ (State.modBank_changes ..) (by decide +kernel)
      exact Changes.rfl
    · refine Changes.ite ?_ ?_
      · refine Changes.via ?_ (State.modBank_changes ..) (by decide +kernel)
        exact Changes.rfl
      · exact Changes.rfl
  · refine Changes.via ?_ (domainEvent_changes ..) (by decide +kernel)
    refine Changes.set_pwr ?_ (by decide)
    subst x2
    refine Changes.ite ?_ ?_
    · refine Changes.via ?_ (State.modBank_changes ..) (by decide +kernel)
      exact Changes.rfl
    · refine Changes.ite ?_ ?_
      · refine Changes.via ?_ (State.modBank_changes ..) (by decide +kernel)
        exact Changes.rfl
      · exact Changes.rfl
theorem asaPower_changes (s : State) : Changes [.rings, .asa, .cnt, .pwr, .out] s (asaPower s) := by
  unfold asaPower
  extract_lets x1
  refine Changes.foldS ?_ (fun _ _ => ?_)
  · exact Changes.rfl
  · refine Changes.via ?_ (setBankPower_changes ..) (by decide +kernel)
    exact Changes.rfl
theorem serveReads_changes (egress : Bool) (n : Nat) (s : State) : Changes [.mash] s (serveReads egress n s) := by
  unfold serveReads
  refine Changes.ite ?_ ?_
  · exact Changes.rfl
  · refine Changes.set_mash ?_ (by decide)
    exact Changes.rfl
theorem takeAsk_changes (mine : Option (Nat × Nat)) (fits : Bool) (n : Nat) (s : State) : Changes [.mash] s (takeAsk mine fits n s).2 := by
  unfold takeAsk
  split
  · refine Changes.pair_snd ?_
    exact Changes.rfl
  · refine Changes.pair_snd ?_
    exact Changes.rfl
  · refine Changes.pair_snd ?_
    refine Changes.set_mash ?_ (by decide)
    exact Changes.rfl
theorem serveUnits_changes (egress : Bool) (n : Nat) (s : State) : Changes [.rings, .asa, .cnt, .out] s (serveUnits egress n s) := by
  unfold serveUnits
  refine Changes.ite ?_ ?_
  · exact Changes.rfl
  · extract_lets x1 x2
    refine Changes.via ?_ (count_changes ..) (by decide +kernel)
    subst x2
    refine Changes.set_asa ?_ (by decide)
    exact Changes.rfl
theorem bankFault_changes (b cause : Nat) (s : State) : Changes [.draws, .rings, .asa, .log, .cnt, .out] s (bankFault b cause s) := by
  unfold bankFault
  extract_lets x1
  refine Changes.ite ?_ ?_
  · refine Changes.via ?_ (fault_changes ..) (by decide +kernel)
    refine Changes.via ?_ (State.modBank_changes ..) (by decide +kernel)
    exact Changes.rfl
  · exact Changes.rfl
theorem checkHit_changes  (a0 : Nat) (a1 : Nat) (a2 : Bool) (a3 : Nat) (s : State) : Changes [.draws, .rings, .asa, .log, .flt, .cnt, .out] s (checkHit  a0 a1 a2 a3 s).2 := by
  induction a0 generalizing a1 a2 a3 s with
  | zero =>
    unfold checkHit
    refine Changes.pair_snd ?_
    refine Changes.via ?_ (bankFault_changes ..) (by decide +kernel)
    exact Changes.rfl
  | succ a0 ih =>
    unfold checkHit
    split
    · refine Changes.pair_snd ?_
      refine Changes.of_pair (by assumption) ?_
      refine Changes.via ?_ (takeArmed_changes ..) (by decide +kernel)
      exact Changes.rfl
    · extract_lets x1
      refine Changes.ite_snd ?_ ?_
      · refine Changes.pair_snd ?_
        refine Changes.via ?_ (bankFault_changes ..) (by decide +kernel)
        subst x1
        refine Changes.via ?_ (count_changes ..) (by decide +kernel)
        refine Changes.via ?_ (openFault_changes ..) (by decide +kernel)
        refine Changes.of_pair (by assumption) ?_
        refine Changes.via ?_ (takeArmed_changes ..) (by decide +kernel)
        exact Changes.rfl
      · refine Changes.via ?_ (ih ..) (by decide +kernel)
        refine Changes.via ?_ (serveUnits_changes ..) (by decide +kernel)
        subst x1
        refine Changes.via ?_ (count_changes ..) (by decide +kernel)
        refine Changes.via ?_ (openFault_changes ..) (by decide +kernel)
        refine Changes.of_pair (by assumption) ?_
        refine Changes.via ?_ (takeArmed_changes ..) (by decide +kernel)
        exact Changes.rfl
theorem countHit_changes (r raddr : Nat) (s : State) : Changes [.asa] s (countHit r raddr s) := by
  unfold countHit
  split
  · exact Changes.rfl
  · split
    · exact Changes.rfl
    · refine Changes.via ?_ (State.setRegion_changes ..) (by decide +kernel)
      exact Changes.rfl

end Sys2Proof.Machine
end

