-- ==== Sys2Proof/Laws/Policer.lean ====
section
/-! SUPPORT. What each operation of Machine/Policer.lean can change. -/

set_option Elab.async false

namespace Sys2Proof.Machine

theorem police_some {n len c c' : Nat} {b : Bool} {s t : State} (h : police n len c s = some (c', b, t)) : Changes [.rings, .sch, .cnt, .out] s t := by
  unfold police at h
  split at h
  · cases h
  · extract_lets x1 x2 at h
    cases h
    refine Changes.via ?_ (count_changes ..) (by decide +kernel)
    refine Changes.via ?_ (count_changes ..) (by decide +kernel)
    refine Changes.set_sch ?_ (by decide)
    exact Changes.rfl
theorem setPolicer_changes (n : Nat) (c : PolicerCfg) (s : State) : Changes [.sch] s (setPolicer n c s) := by
  unfold setPolicer
  extract_lets x1 x2 x3
  refine Changes.set_sch ?_ (by decide)
  exact Changes.rfl

end Sys2Proof.Machine
end

