-- ==== Sys2Proof/Laws/MashOps.lean ====
section
/-! SUPPORT. What each operation of Machine/MashOps.lean can change. -/

set_option Elab.async false

namespace Sys2Proof.Machine

theorem State.modMash_changes (s : State) (f : Mash → Mash) : Changes [.mash] s (State.modMash s f) := by
  unfold State.modMash
  refine Changes.set_mash ?_ (by decide)
  exact Changes.rfl
theorem State.setMpkt_changes (s : State) (m : MashPkt) : Changes [.mash] s (State.setMpkt s m) := by
  unfold State.setMpkt
  refine Changes.via ?_ (State.modMash_changes ..) (by decide +kernel)
  exact Changes.rfl
theorem State.dropMpkt_changes (s : State) (id : Nat) : Changes [.mash] s (State.dropMpkt s id) := by
  unfold State.dropMpkt
  refine Changes.via ?_ (State.modMash_changes ..) (by decide +kernel)
  exact Changes.rfl
theorem State.modPpair_changes (s : State) (p : Nat) (f : PairPort → PairPort) : Changes [.pair] s (State.modPpair s p f) := by
  unfold State.modPpair
  refine Changes.set_pair ?_ (by decide)
  exact Changes.rfl
theorem leaveSync_changes (p : Nat) (s : State) : Changes [.rings, .pair, .cnt, .out] s (leaveSync p s) := by
  unfold leaveSync
  refine Changes.ite ?_ ?_
  · extract_lets x1
    refine Changes.ite ?_ ?_
    · subst x1
      refine Changes.via ?_ (State.modPpair_changes ..) (by decide +kernel)
      exact Changes.rfl
    · refine Changes.via ?_ (State.emit_changes ..) (by decide +kernel)
      refine Changes.via ?_ (notify_changes ..) (by decide +kernel)
      subst x1
      refine Changes.via ?_ (State.modPpair_changes ..) (by decide +kernel)
      exact Changes.rfl
  · exact Changes.rfl
theorem leaveSyncAll_changes (s : State) : Changes [.rings, .pair, .cnt, .out] s (leaveSyncAll s) := by
  unfold leaveSyncAll
  refine Changes.foldS ?_ (fun _ _ => ?_)
  · exact Changes.rfl
  · refine Changes.via ?_ (leaveSync_changes ..) (by decide +kernel)
    exact Changes.rfl
theorem State.setWay_changes (s : State) (w : Nat) (e : CEntry) : Changes [.mash] s (State.setWay s w e) := by
  unfold State.setWay
  refine Changes.via ?_ (State.modMash_changes ..) (by decide +kernel)
  exact Changes.rfl
theorem leaveUntracked_changes (m : MashPkt) (s : State) : Changes [.rings, .mash, .cnt, .out] s (leaveUntracked m s) := by
  unfold leaveUntracked
  extract_lets x1 x2
  refine Changes.via ?_ (count_changes ..) (by decide +kernel)
  refine Changes.via ?_ (State.setMpkt_changes ..) (by decide +kernel)
  subst x2
  refine Changes.via ?_ (State.modMash_changes ..) (by decide +kernel)
  exact Changes.rfl
theorem touchAge_changes (w : Nat) (s : State) : Changes [.mash] s (touchAge w s) := by
  unfold touchAge
  refine Changes.foldS ?_ (fun _ _ => ?_)
  · exact Changes.rfl
  · refine Changes.ite ?_ ?_
    · refine Changes.via ?_ (State.setWay_changes ..) (by decide +kernel)
      exact Changes.rfl
    · exact Changes.rfl
theorem linkTrub_changes (way i : Nat) (s : State) : Changes [.mash] s (linkTrub way i s) := by
  unfold linkTrub
  refine Changes.via ?_ (State.modMash_changes ..) (by decide +kernel)
  exact Changes.rfl
theorem appendBridge_changes (p : Nat) (i : BridgeItem) (s : State) : Changes [.mash] s (appendBridge p i s) := by
  unfold appendBridge
  refine Changes.via ?_ (State.modMash_changes ..) (by decide +kernel)
  exact Changes.rfl
theorem runAhead_changes (m : MashPkt) (e : Nat) (p : Parse) (s : State) : Changes [.rings, .tbl, .mash, .cnt, .out] s (runAhead m e p s) := by
  unfold runAhead
  extract_lets x1 x2
  dsimp only
  split
  · split
    · refine Changes.via ?_ (leaveUntracked_changes ..) (by decide +kernel)
      exact Changes.rfl
    · refine Changes.via ?_ (State.setMpkt_changes ..) (by decide +kernel)
      refine Changes.via ?_ (State.setWay_changes ..) (by decide +kernel)
      exact Changes.rfl
  · split
    · refine Changes.via ?_ (appendBridge_changes ..) (by decide +kernel)
      refine Changes.via ?_ (takeRef_changes ..) (by decide +kernel)
      refine Changes.via ?_ (State.setMpkt_changes ..) (by decide +kernel)
      refine Changes.via ?_ (linkTrub_changes ..) (by decide +kernel)
      refine Changes.via ?_ (State.modMash_changes ..) (by decide +kernel)
      refine Changes.via ?_ (State.setWay_changes ..) (by decide +kernel)
      refine Changes.via ?_ (touchAge_changes ..) (by decide +kernel)
      exact Changes.rfl
    · refine Changes.ite ?_ ?_
      · refine Changes.via ?_ (leaveUntracked_changes ..) (by decide +kernel)
        refine Changes.ite ?_ ?_
        · refine Changes.ite ?_ ?_
          · refine Changes.via ?_ (notify_changes ..) (by decide +kernel)
            refine Changes.via ?_ (count_changes ..) (by decide +kernel)
            refine Changes.via ?_ (State.modMash_changes ..) (by decide +kernel)
            refine Changes.via ?_ (touchAge_changes ..) (by decide +kernel)
            exact Changes.rfl
          · refine Changes.via ?_ (count_changes ..) (by decide +kernel)
            refine Changes.via ?_ (State.modMash_changes ..) (by decide +kernel)
            refine Changes.via ?_ (touchAge_changes ..) (by decide +kernel)
            exact Changes.rfl
        · refine Changes.via ?_ (touchAge_changes ..) (by decide +kernel)
          exact Changes.rfl
      · refine Changes.via ?_ (State.setMpkt_changes ..) (by decide +kernel)
        refine Changes.via ?_ (State.setWay_changes ..) (by decide +kernel)
        refine Changes.ite ?_ ?_
        · refine Changes.ite ?_ ?_
          · refine Changes.via ?_ (notify_changes ..) (by decide +kernel)
            refine Changes.via ?_ (count_changes ..) (by decide +kernel)
            refine Changes.via ?_ (State.modMash_changes ..) (by decide +kernel)
            refine Changes.via ?_ (touchAge_changes ..) (by decide +kernel)
            exact Changes.rfl
          · refine Changes.via ?_ (count_changes ..) (by decide +kernel)
            refine Changes.via ?_ (State.modMash_changes ..) (by decide +kernel)
            refine Changes.via ?_ (touchAge_changes ..) (by decide +kernel)
            exact Changes.rfl
        · refine Changes.via ?_ (touchAge_changes ..) (by decide +kernel)
          exact Changes.rfl
theorem learnResult_changes (m : MashPkt) (v : Verdict) (cascaded : Bool) (s : State) : Changes [.mash] s (learnResult m v cascaded s) := by
  unfold learnResult
  extract_lets x1
  split
  · subst x1
    split
    · exact Changes.rfl
    · split
      · exact Changes.rfl
      · extract_lets x2
        refine Changes.via ?_ (State.setWay_changes ..) (by decide +kernel)
        exact Changes.rfl
  · extract_lets x3
    refine Changes.via ?_ (State.modMash_changes ..) (by decide +kernel)
    subst x1
    split
    · exact Changes.rfl
    · split
      · exact Changes.rfl
      · extract_lets x4
        refine Changes.via ?_ (State.setWay_changes ..) (by decide +kernel)
        exact Changes.rfl
theorem moveCount_changes (t : Trub) (s : State) : Changes [.rings, .mash, .cnt, .out] s (moveCount t s) := by
  unfold moveCount
  split
  · exact Changes.rfl
  · refine Changes.ite ?_ ?_
    · refine Changes.via ?_ (State.setWay_changes ..) (by decide +kernel)
      exact Changes.rfl
    · extract_lets x1
      split
      · refine Changes.via ?_ (leaveUntracked_changes ..) (by decide +kernel)
        subst x1
        refine Changes.via ?_ (State.setWay_changes ..) (by decide +kernel)
        exact Changes.rfl
      · subst x1
        refine Changes.via ?_ (State.setWay_changes ..) (by decide +kernel)
        exact Changes.rfl
theorem cascadeOne_changes (i : Nat) (t : Trub) (s : State) : Changes [.rings, .mash, .cnt, .out] s (cascadeOne i t s) := by
  unfold cascadeOne
  refine Changes.via ?_ (count_changes ..) (by decide +kernel)
  refine Changes.via ?_ (moveCount_changes ..) (by decide +kernel)
  refine Changes.via ?_ (State.modMash_changes ..) (by decide +kernel)
  exact Changes.rfl
theorem cascade_changes (i : Nat) (s : State) : Changes [.rings, .mash, .cnt, .out] s (cascade i s) := by
  unfold cascade
  refine Changes.foldS ?_ (fun _ _ => ?_)
  · exact Changes.rfl
  · split
    · exact Changes.rfl
    · refine Changes.ite ?_ ?_
      · exact Changes.rfl
      · refine Changes.via ?_ (cascadeOne_changes ..) (by decide +kernel)
        exact Changes.rfl
theorem countVerdict_changes (p : Nat) (v : Verdict) (s : State) : Changes [.rings, .cnt, .out] s (countVerdict p v s) := by
  unfold countVerdict
  split
  · refine Changes.ite ?_ ?_
    · refine Changes.via ?_ (count_changes ..) (by decide +kernel)
      exact Changes.rfl
    · exact Changes.rfl
  · exact Changes.rfl
  · exact Changes.rfl
  · refine Changes.via ?_ (count_changes ..) (by decide +kernel)
    exact Changes.rfl
theorem runPolice_changes  (a0 : List (Option Nat × Nat)) (a1 : Nat) (a2 : Nat) (a3 : Option Nat) (s : State) : Changes [.rings, .sch, .cnt, .out] s (runPolice  a0 a1 a2 a3 s).2.2.2 := by
  fun_induction runPolice  a0 a1 a2 a3 s
  · refine Changes.pair_snd ?_
    exact Changes.rfl
  · refine Changes.trans ?_ (by assumption)
    exact Changes.rfl
  · refine Changes.trans ?_ (by assumption)
    exact Changes.rfl
  · refine Changes.pair_snd ?_
    refine Changes.via ?_ (police_some (by assumption)) (by decide)
    exact Changes.rfl
  · refine Changes.trans ?_ (by assumption)
    refine Changes.via ?_ (police_some (by assumption)) (by decide)
    exact Changes.rfl
theorem issueVerdict_changes (m : MashPkt) (v : Verdict) (s : State) : Changes [.rings, .tbl, .mash, .sch, .cnt, .out] s (issueVerdict m v s) := by
  unfold issueVerdict
  extract_lets x1 x2 x3
  split
  · split
    · extract_lets x4 x5
      refine Changes.via ?_ (appendBridge_changes ..) (by decide +kernel)
      subst x5
      refine Changes.ite ?_ ?_
      · refine Changes.via ?_ (appendBridge_changes ..) (by decide +kernel)
        subst x4
        refine Changes.ite ?_ ?_
        · refine Changes.via ?_ (takeRef_changes ..) (by decide +kernel)
          subst x3
          refine Changes.via ?_ (countVerdict_changes ..) (by decide +kernel)
          refine Changes.via ?_ (learnResult_changes ..) (by decide +kernel)
          subst x2
          refine Changes.via ?_ (State.dropMpkt_changes ..) (by decide +kernel)
          exact Changes.rfl
        · subst x3
          refine Changes.via ?_ (countVerdict_changes ..) (by decide +kernel)
          refine Changes.via ?_ (learnResult_changes ..) (by decide +kernel)
          subst x2
          refine Changes.via ?_ (State.dropMpkt_changes ..) (by decide +kernel)
          exact Changes.rfl
      · subst x4
        refine Changes.ite ?_ ?_
        · refine Changes.via ?_ (takeRef_changes ..) (by decide +kernel)
          subst x3
          refine Changes.via ?_ (countVerdict_changes ..) (by decide +kernel)
          refine Changes.via ?_ (learnResult_changes ..) (by decide +kernel)
          subst x2
          refine Changes.via ?_ (State.dropMpkt_changes ..) (by decide +kernel)
          exact Changes.rfl
        · subst x3
          refine Changes.via ?_ (countVerdict_changes ..) (by decide +kernel)
          refine Changes.via ?_ (learnResult_changes ..) (by decide +kernel)
          subst x2
          refine Changes.via ?_ (State.dropMpkt_changes ..) (by decide +kernel)
          exact Changes.rfl
    · refine Changes.ite ?_ ?_
      · refine Changes.via ?_ (appendBridge_changes ..) (by decide +kernel)
        subst x3
        refine Changes.via ?_ (countVerdict_changes ..) (by decide +kernel)
        refine Changes.via ?_ (learnResult_changes ..) (by decide +kernel)
        subst x2
        refine Changes.via ?_ (State.dropMpkt_changes ..) (by decide +kernel)
        exact Changes.rfl
      · subst x3
        refine Changes.via ?_ (countVerdict_changes ..) (by decide +kernel)
        refine Changes.via ?_ (learnResult_changes ..) (by decide +kernel)
        subst x2
        refine Changes.via ?_ (State.dropMpkt_changes ..) (by decide +kernel)
        exact Changes.rfl
  · extract_lets x6
    dsimp only
    split
    · refine Changes.ite ?_ ?_
      · refine Changes.via ?_ (appendBridge_changes ..) (by decide +kernel)
        refine Changes.via ?_ (State.modMash_changes ..) (by decide +kernel)
        refine Changes.via ?_ (countVerdict_changes ..) (by decide +kernel)
        refine Changes.via ?_ (learnResult_changes ..) (by decide +kernel)
        split
        · refine Changes.pair_snd ?_
          refine Changes.via ?_ (runPolice_changes ..) (by decide +kernel)
          subst x2
          refine Changes.via ?_ (State.dropMpkt_changes ..) (by decide +kernel)
          exact Changes.rfl
        · refine Changes.pair_snd ?_
          refine Changes.via ?_ (runPolice_changes ..) (by decide +kernel)
          subst x2
          refine Changes.via ?_ (State.dropMpkt_changes ..) (by decide +kernel)
          exact Changes.rfl
      · refine Changes.via ?_ (appendBridge_changes ..) (by decide +kernel)
        refine Changes.via ?_ (cascade_changes ..) (by decide +kernel)
        refine Changes.via ?_ (State.modMash_changes ..) (by decide +kernel)
        refine Changes.via ?_ (countVerdict_changes ..) (by decide +kernel)
        refine Changes.via ?_ (learnResult_changes ..) (by decide +kernel)
        split
        · refine Changes.pair_snd ?_
          refine Changes.via ?_ (runPolice_changes ..) (by decide +kernel)
          subst x2
          refine Changes.via ?_ (State.dropMpkt_changes ..) (by decide +kernel)
          exact Changes.rfl
        · refine Changes.pair_snd ?_
          refine Changes.via ?_ (runPolice_changes ..) (by decide +kernel)
          subst x2
          refine Changes.via ?_ (State.dropMpkt_changes ..) (by decide +kernel)
          exact Changes.rfl
    · refine Changes.via ?_ (appendBridge_changes ..) (by decide +kernel)
      refine Changes.via ?_ (cascade_changes ..) (by decide +kernel)
      refine Changes.via ?_ (State.modMash_changes ..) (by decide +kernel)
      refine Changes.via ?_ (countVerdict_changes ..) (by decide +kernel)
      refine Changes.via ?_ (learnResult_changes ..) (by decide +kernel)
      split
      · refine Changes.pair_snd ?_
        refine Changes.via ?_ (runPolice_changes ..) (by decide +kernel)
        subst x2
        refine Changes.via ?_ (State.dropMpkt_changes ..) (by decide +kernel)
        exact Changes.rfl
      · refine Changes.pair_snd ?_
        refine Changes.via ?_ (runPolice_changes ..) (by decide +kernel)
        subst x2
        refine Changes.via ?_ (State.dropMpkt_changes ..) (by decide +kernel)
        exact Changes.rfl
theorem issuePort_changes  (a0 : Nat) (a1 : Nat) (s : State) : Changes [.rings, .tbl, .mash, .sch, .cnt, .out] s (issuePort  a0 a1 s) := by
  induction a0 generalizing a1 s with
  | zero =>
    unfold issuePort
    exact Changes.rfl
  | succ a0 ih =>
    unfold issuePort
    split
    · exact Changes.rfl
    · split
      · exact Changes.rfl
      · refine Changes.via ?_ (ih ..) (by decide +kernel)
        refine Changes.via ?_ (issueVerdict_changes ..) (by decide +kernel)
        exact Changes.rfl
theorem pruneSwitches_changes (p : Nat) (s : State) : Changes [.pair] s (pruneSwitches p s) := by
  unfold pruneSwitches
  refine Changes.ite ?_ ?_
  · exact Changes.rfl
  · extract_lets x1 x2
    refine Changes.via ?_ (State.modPpair_changes ..) (by decide +kernel)
    exact Changes.rfl
theorem issueFrom_changes (p : Nat) (s : State) : Changes [.rings, .tbl, .mash, .sch, .pair, .cnt, .out] s (issueFrom p s) := by
  unfold issueFrom
  refine Changes.via ?_ (pruneSwitches_changes ..) (by decide +kernel)
  refine Changes.via ?_ (issuePort_changes ..) (by decide +kernel)
  exact Changes.rfl
theorem decideVerdict_changes (m : MashPkt) (v : Verdict) (s : State) : Changes [.rings, .tbl, .mash, .sch, .pair, .cnt, .out] s (decideVerdict m v s) := by
  unfold decideVerdict
  refine Changes.via ?_ (issueFrom_changes ..) (by decide +kernel)
  refine Changes.via ?_ (State.setMpkt_changes ..) (by decide +kernel)
  exact Changes.rfl
theorem searchAll_changes  (a0 : List Deed) (s : State) : Changes [.draws, .rings, .asa, .log, .flt, .cnt, .out] s (searchAll  a0 s).2 := by
  fun_induction searchAll  a0 s
  · refine Changes.pair_snd ?_
    exact Changes.rfl
  · refine Changes.trans ?_ (by assumption)
    rename_i y _
    subst y
    refine Changes.via ?_ (serveUnits_changes ..) (by decide +kernel)
    exact Changes.rfl
  · refine Changes.pair_snd ?_
    refine Changes.of_pair (by assumption) ?_
    refine Changes.via ?_ (checkHit_changes ..) (by decide +kernel)
    rename_i y _ _ _ _ _
    subst y
    refine Changes.via ?_ (serveUnits_changes ..) (by decide +kernel)
    exact Changes.rfl
  · refine Changes.trans ?_ (by assumption)
    refine Changes.of_pair (by assumption) ?_
    refine Changes.via ?_ (checkHit_changes ..) (by decide +kernel)
    rename_i y _ _ _ _ _ _ _ _
    subst y
    refine Changes.via ?_ (serveUnits_changes ..) (by decide +kernel)
    exact Changes.rfl
  · refine Changes.trans ?_ (by assumption)
    exact Changes.rfl
theorem countHitId_changes (reg id : Nat) (s : State) : Changes [.asa] s (countHitId reg id s) := by
  unfold countHitId
  refine Changes.ite ?_ ?_
  · refine Changes.set_asa ?_ (by decide)
    exact Changes.rfl
  · split
    · refine Changes.via ?_ (countHit_changes ..) (by decide +kernel)
      exact Changes.rfl
    · exact Changes.rfl
theorem doDeeds_changes (prov : Bool) (len : Nat) (a0 : List Deed) (a1 : Nat) (a2 : Option Nat) (a3 : List (Option Nat × Nat)) (s : State) : Changes [.rings, .asa, .sch, .cnt, .out] s (doDeeds prov len a0 a1 a2 a3 s).2.2.2.2 := by
  fun_induction doDeeds prov len a0 a1 a2 a3 s
  · refine Changes.pair_snd ?_
    exact Changes.rfl
  · refine Changes.trans ?_ (by assumption)
    split
    · refine Changes.via ?_ (countHitId_changes ..) (by decide +kernel)
      exact Changes.rfl
    · exact Changes.rfl
  · refine Changes.trans ?_ (by assumption)
    refine Changes.via ?_ (count_changes ..) (by decide +kernel)
    exact Changes.rfl
  · refine Changes.trans ?_ (by assumption)
    exact Changes.rfl
  · refine Changes.trans ?_ (by assumption)
    exact Changes.rfl
  · refine Changes.trans ?_ (by assumption)
    exact Changes.rfl
  · refine Changes.trans ?_ (by assumption)
    exact Changes.rfl
  · refine Changes.pair_snd ?_
    refine Changes.via ?_ (police_some (by assumption)) (by decide)
    exact Changes.rfl
  · refine Changes.trans ?_ (by assumption)
    refine Changes.via ?_ (police_some (by assumption)) (by decide)
    exact Changes.rfl
theorem waitAsk_changes (m : MashPkt) (fitsA fitsR : Bool) (r : Run) (s : State) : Changes [.rings, .mash, .cnt, .out] s (waitAsk m fitsA fitsR r s) := by
  unfold waitAsk
  dsimp only
  refine Changes.ite ?_ ?_
  · refine Changes.via ?_ (count_changes ..) (by decide +kernel)
    refine Changes.via ?_ (State.setMpkt_changes ..) (by decide +kernel)
    refine Changes.via ?_ (takeAsk_changes ..) (by decide +kernel)
    refine Changes.via ?_ (takeAsk_changes ..) (by decide +kernel)
    exact Changes.rfl
  · refine Changes.via ?_ (State.setMpkt_changes ..) (by decide +kernel)
    refine Changes.via ?_ (takeAsk_changes ..) (by decide +kernel)
    refine Changes.via ?_ (takeAsk_changes ..) (by decide +kernel)
    exact Changes.rfl
theorem fullLookup_changes (m : MashPkt) (e : Nat) (s : State) : Changes [.draws, .rings, .mash, .asa, .sch, .log, .flt, .cnt, .out] s (fullLookup m e s).2 := by
  unfold fullLookup
  extract_lets x1
  refine Changes.ite_snd ?_ ?_
  · refine Changes.pair_snd ?_
    exact Changes.rfl
  · split
    · refine Changes.pair_snd ?_
      exact Changes.rfl
    · extract_lets x2 x3
      refine Changes.ite_snd ?_ ?_
      · refine Changes.pair_snd ?_
        refine Changes.via ?_ (State.setMpkt_changes ..) (by decide +kernel)
        exact Changes.rfl
      · refine Changes.ite_snd ?_ ?_
        · refine Changes.pair_snd ?_
          refine Changes.via ?_ (waitAsk_changes ..) (by decide +kernel)
          exact Changes.rfl
        · dsimp only
          refine Changes.ite_snd ?_ ?_
          · refine Changes.pair_snd ?_
            refine Changes.via ?_ (State.setMpkt_changes ..) (by decide +kernel)
            refine Changes.via ?_ (searchAll_changes ..) (by decide +kernel)
            exact Changes.rfl
          · refine Changes.pair_snd ?_
            refine Changes.via ?_ (doDeeds_changes ..) (by decide +kernel)
            refine Changes.via ?_ (serveReads_changes ..) (by decide +kernel)
            refine Changes.via ?_ (searchAll_changes ..) (by decide +kernel)
            exact Changes.rfl

end Sys2Proof.Machine
end

