-- ==== Sys2Proof/Laws/FabOps.lean ====
section
/-! SUPPORT. What each operation of Machine/FabOps.lean can change. -/

set_option Elab.async false

namespace Sys2Proof.Machine

theorem State.setRet_changes (s : State) (c : RetCell) : Changes [.fab] s (State.setRet s c) := by
  unfold State.setRet
  refine Changes.via ?_ (State.modFab_changes ..) (by decide +kernel)
  exact Changes.rfl
theorem markIdle_changes (k : Nat) (s : State) : Changes [.fab] s (markIdle k s) := by
  unfold markIdle
  extract_lets x1
  refine Changes.ite ?_ ?_
  · exact Changes.rfl
  · split
    · exact Changes.rfl
    · refine Changes.via ?_ (State.setTx_changes ..) (by decide +kernel)
      exact Changes.rfl
theorem refDone_changes (p : Nat × Nat × Nat) (s : State) : Changes [.tbl] s (refDone p s) := by
  unfold refDone
  refine Changes.ite ?_ ?_
  · exact Changes.rfl
  · refine Changes.via ?_ (releaseRef_changes ..) (by decide +kernel)
    exact Changes.rfl
theorem enqueueRetx_changes (key dest : Nat) (used : List Nat) (s : State) : Changes [.fab] s (enqueueRetx key dest used s) := by
  unfold enqueueRetx
  split
  · exact Changes.rfl
  · refine Changes.via ?_ (State.modPlane_changes ..) (by decide +kernel)
    exact Changes.rfl
theorem freeCell_changes (c : RetCell) (s : State) : Changes [.tbl, .fab] s (freeCell c s) := by
  unfold freeCell
  extract_lets x1
  refine Changes.foldS ?_ (fun _ _ => ?_)
  · refine Changes.foldS ?_ (fun _ _ => ?_)
    · subst x1
      refine Changes.via ?_ (State.modFab_changes ..) (by decide +kernel)
      exact Changes.rfl
    · refine Changes.via ?_ (refDone_changes ..) (by decide +kernel)
      exact Changes.rfl
  · refine Changes.via ?_ (markIdle_changes ..) (by decide +kernel)
    exact Changes.rfl
theorem freeWithdrawn_changes (id : Nat) (s : State) : Changes [.tbl, .fab] s (freeWithdrawn id s) := by
  unfold freeWithdrawn
  refine Changes.ite ?_ ?_
  · exact Changes.rfl
  · refine Changes.foldS ?_ (fun _ _ => ?_)
    · exact Changes.rfl
    · refine Changes.via ?_ (freeCell_changes ..) (by decide +kernel)
      exact Changes.rfl
theorem dropCell_changes (c : RetCell) (s : State) : Changes [.tbl, .fab] s (dropCell c s) := by
  unfold dropCell
  extract_lets x1
  split
  · subst x1
    refine Changes.via ?_ (freeCell_changes ..) (by decide +kernel)
    exact Changes.rfl
  · refine Changes.ite ?_ ?_
    · refine Changes.via ?_ (freeWithdrawn_changes ..) (by decide +kernel)
      subst x1
      refine Changes.via ?_ (freeCell_changes ..) (by decide +kernel)
      exact Changes.rfl
    · subst x1
      refine Changes.via ?_ (freeCell_changes ..) (by decide +kernel)
      exact Changes.rfl
theorem ackCell_changes (c : RetCell) (from_ : Nat) (s : State) : Changes [.tbl, .fab] s (ackCell c from_ s) := by
  unfold ackCell
  extract_lets x1
  refine Changes.ite ?_ ?_
  · refine Changes.via ?_ (dropCell_changes ..) (by decide +kernel)
    exact Changes.rfl
  · refine Changes.via ?_ (State.setRet_changes ..) (by decide +kernel)
    exact Changes.rfl
theorem forgetCells_changes (id : Nat) (s : State) : Changes [.fab] s (forgetCells id s) := by
  unfold forgetCells
  refine Changes.via ?_ (State.modFab_changes ..) (by decide +kernel)
  exact Changes.rfl

end Sys2Proof.Machine
end

