-- ==== Sys2Proof/Laws/TimeOps.lean ====
section
/-! SUPPORT. What each operation of Machine/TimeOps.lean can change. -/

set_option Elab.async false

namespace Sys2Proof.Machine

theorem pushTxTs_changes (p : Nat) (ptpId : Option Nat) (oneStep : Bool) (s : State) : Changes [.draws, .rings, .tim, .cnt, .out] s (pushTxTs p ptpId oneStep s) := by
  unfold pushTxTs
  extract_lets x1 x2 x3 x4 x5 x6 x7
  dsimp only
  refine Changes.ite ?_ ?_
  · refine Changes.via ?_ (notify_changes ..) (by decide +kernel)
    refine Changes.ite ?_ ?_
    · refine Changes.via ?_ (count_changes ..) (by decide +kernel)
      refine Changes.set_tim ?_ (by with_reducible rfl) (by decide)
      subst x3
      refine Changes.ite ?_ ?_
      · exact Changes.rfl
      · refine Changes.via ?_ (State.drawn_changes ..) (by decide +kernel)
        exact Changes.rfl
    · refine Changes.set_tim ?_ (by with_reducible rfl) (by decide)
      subst x3
      refine Changes.ite ?_ ?_
      · exact Changes.rfl
      · refine Changes.via ?_ (State.drawn_changes ..) (by decide +kernel)
        exact Changes.rfl
  · refine Changes.ite ?_ ?_
    · refine Changes.via ?_ (count_changes ..) (by decide +kernel)
      refine Changes.set_tim ?_ (by with_reducible rfl) (by decide)
      subst x3
      refine Changes.ite ?_ ?_
      · exact Changes.rfl
      · refine Changes.via ?_ (State.drawn_changes ..) (by decide +kernel)
        exact Changes.rfl
    · refine Changes.set_tim ?_ (by with_reducible rfl) (by decide)
      subst x3
      refine Changes.ite ?_ ?_
      · exact Changes.rfl
      · refine Changes.via ?_ (State.drawn_changes ..) (by decide +kernel)
        exact Changes.rfl
theorem State.setProbe_changes (s : State) (p : Nat) (x : Probe) : Changes [.tim] s (State.setProbe s p x) := by
  unfold State.setProbe
  refine Changes.set_tim ?_ (by with_reducible rfl) (by decide)
  exact Changes.rfl
theorem probeRefresh_changes (p : Nat) (s : State) : Changes [.tim] s (probeRefresh p s) := by
  unfold probeRefresh
  extract_lets x1
  refine Changes.ite ?_ ?_
  · refine Changes.ite ?_ ?_
    · refine Changes.via ?_ (State.setProbe_changes ..) (by decide +kernel)
      exact Changes.rfl
    · exact Changes.rfl
  · refine Changes.ite ?_ ?_
    · exact Changes.rfl
    · refine Changes.via ?_ (State.setProbe_changes ..) (by decide +kernel)
      exact Changes.rfl
theorem probeSample_changes (p : Nat) (v : Int) (s : State) : Changes [.rings, .tim, .cnt, .out] s (probeSample p v s) := by
  unfold probeSample
  extract_lets x1 x2 x3 x4 x5 x6 x7 x8
  split
  · exact Changes.rfl
  · refine Changes.ite ?_ ?_
    · refine Changes.via ?_ (State.setProbe_changes ..) (by decide +kernel)
      exact Changes.rfl
    · refine Changes.via ?_ (State.setProbe_changes ..) (by decide +kernel)
      exact Changes.rfl
  · refine Changes.ite ?_ ?_
    · refine Changes.via ?_ (State.setProbe_changes ..) (by decide +kernel)
      exact Changes.rfl
    · refine Changes.ite ?_ ?_
      · refine Changes.via ?_ (State.setProbe_changes ..) (by decide +kernel)
        exact Changes.rfl
      · refine Changes.via ?_ (State.setProbe_changes ..) (by decide +kernel)
        refine Changes.via ?_ (count_changes ..) (by decide +kernel)
        subst x8
        refine Changes.via ?_ (notifyAt_changes ..) (by decide +kernel)
        exact Changes.rfl
theorem State.setPulse_changes (s : State) (pin : Nat) (x : Pulse) : Changes [.tim] s (State.setPulse s pin x) := by
  unfold State.setPulse
  refine Changes.set_tim ?_ (by with_reducible rfl) (by decide)
  exact Changes.rfl
theorem syncePort_changes (p : Nat) (up : Bool) (s : State) : Changes [.rings, .tim, .cnt, .out] s (syncePort p up s) := by
  unfold syncePort
  refine Changes.foldS ?_ (fun _ _ => ?_)
  · exact Changes.rfl
  · extract_lets x1 x2 x3 x4
    refine Changes.ite ?_ ?_
    · refine Changes.ite ?_ ?_
      · subst x4
        refine Changes.via ?_ (notify_changes ..) (by decide +kernel)
        subst x3
        refine Changes.via ?_ (State.setPulse_changes ..) (by decide +kernel)
        exact Changes.rfl
      · refine Changes.via ?_ (count_changes ..) (by decide +kernel)
        subst x4
        refine Changes.via ?_ (notify_changes ..) (by decide +kernel)
        subst x3
        refine Changes.via ?_ (State.setPulse_changes ..) (by decide +kernel)
        exact Changes.rfl
    · exact Changes.rfl
theorem completeWaiting_changes (test : Parked → Bool) (result : List Byte) (s : State) : Changes [.rings, .queue, .cnt, .out] s (completeWaiting test result s) := by
  unfold completeWaiting
  extract_lets x1 x2 x3 x4
  refine Changes.ite ?_ ?_
  · subst x4
    refine Changes.set_queue ?_ (by with_reducible rfl) (by with_reducible rfl) (by decide)
    exact Changes.rfl
  · refine Changes.via ?_ (State.settled_changes ..) (by decide +kernel)
    refine Changes.foldS ?_ (fun _ _ => ?_)
    · subst x4
      refine Changes.set_queue ?_ (by with_reducible rfl) (by with_reducible rfl) (by decide)
      exact Changes.rfl
    · refine Changes.via ?_ (finish_changes ..) (by decide +kernel)
      extract_lets x5
      refine Changes.mk_st ?_
      subst x5
      refine Changes.via ?_ (Parked.reply_changes ..) (by decide +kernel)
      exact Changes.rfl
theorem stepPulse_changes (pin : Nat) (s : State) : Changes [.rings, .tim, .cnt, .out] s (stepPulse pin s) := by
  unfold stepPulse
  extract_lets x1 x2 x3
  refine Changes.ite ?_ ?_
  · refine Changes.ite ?_ ?_
    · exact Changes.rfl
    · refine Changes.ite ?_ ?_
      · refine Changes.via ?_ (count_changes ..) (by decide +kernel)
        refine Changes.via ?_ (State.setPulse_changes ..) (by decide +kernel)
        exact Changes.rfl
      · refine Changes.via ?_ (count_changes ..) (by decide +kernel)
        refine Changes.via ?_ (notify_changes ..) (by decide +kernel)
        subst x3
        refine Changes.via ?_ (State.setPulse_changes ..) (by decide +kernel)
        exact Changes.rfl
  · refine Changes.ite ?_ ?_
    · refine Changes.via ?_ (State.setPulse_changes ..) (by decide +kernel)
      exact Changes.rfl
    · exact Changes.rfl
theorem applyStep_changes (p : PendingStep) (s : State) : Changes [.rings, .queue, .tim, .sch, .cnt, .out] s (applyStep p s) := by
  unfold applyStep
  extract_lets x1 x2 x3 x4 x5 x6 x7 x8 x9 x10 x11 x12 x13
  refine Changes.via ?_ (completeWaiting_changes ..) (by decide +kernel)
  subst x13
  refine Changes.via ?_ (count_changes ..) (by decide +kernel)
  subst x12
  refine Changes.via ?_ (notify_changes ..) (by decide +kernel)
  subst x11
  refine Changes.set_all (x5) ?_ (fun p hp => by clear_value x5; cases p <;> first | exact absurd (by decide) hp | rfl)
  subst x5
  refine Changes.foldS ?_ (fun _ _ => ?_)
  · subst x4
    refine Changes.set_tim ?_ (by with_reducible rfl) (by decide)
    exact Changes.rfl
  · refine Changes.via ?_ (stepPulse_changes ..) (by decide +kernel)
    exact Changes.rfl

end Sys2Proof.Machine
end

