-- ==== Sys2Proof/Laws/Mash.lean ====
section
/-! SUPPORT. What each operation of Machine/Mash.lean can change. -/

set_option Elab.async false

namespace Sys2Proof.Machine

theorem degradeSlice_changes (g : Nat) (s : State) : Changes [.log] s (degradeSlice g s) := by
  unfold degradeSlice
  split
  · refine Changes.via ?_ (State.modRec_changes ..) (by decide +kernel)
    exact Changes.rfl
  · exact Changes.rfl
theorem millFinish_changes (m : MashPkt) (s : State) : Changes [.rings, .tbl, .mash, .sch, .pair, .log, .cnt, .out] s (millFinish m s) := by
  unfold millFinish
  extract_lets x1 x2 x3 x4 x5 x6
  refine Changes.ite ?_ ?_
  · refine Changes.via ?_ (issueFrom_changes ..) (by decide +kernel)
    refine Changes.via ?_ (count_changes ..) (by decide +kernel)
    refine Changes.via ?_ (State.dropMpkt_changes ..) (by decide +kernel)
    subst x5
    refine Changes.ite ?_ ?_
    · refine Changes.via ?_ (count_changes ..) (by decide +kernel)
      subst x4
      refine Changes.ite ?_ ?_
      · refine Changes.via ?_ (count_changes ..) (by decide +kernel)
        exact Changes.rfl
      · exact Changes.rfl
    · subst x4
      refine Changes.ite ?_ ?_
      · refine Changes.via ?_ (count_changes ..) (by decide +kernel)
        exact Changes.rfl
      · exact Changes.rfl
  · refine Changes.ite ?_ ?_
    · refine Changes.via ?_ (issueFrom_changes ..) (by decide +kernel)
      refine Changes.via ?_ (count_changes ..) (by decide +kernel)
      refine Changes.via ?_ (State.dropMpkt_changes ..) (by decide +kernel)
      subst x5
      refine Changes.ite ?_ ?_
      · refine Changes.via ?_ (count_changes ..) (by decide +kernel)
        subst x4
        refine Changes.ite ?_ ?_
        · refine Changes.via ?_ (count_changes ..) (by decide +kernel)
          exact Changes.rfl
        · exact Changes.rfl
      · subst x4
        refine Changes.ite ?_ ?_
        · refine Changes.via ?_ (count_changes ..) (by decide +kernel)
          exact Changes.rfl
        · exact Changes.rfl
    · split
      · extract_lets x7 x8 x9 x10
        split
        · refine Changes.via ?_ (decideVerdict_changes ..) (by decide +kernel)
          subst x10
          refine Changes.via ?_ (State.modMash_changes ..) (by decide +kernel)
          refine Changes.via ?_ (State.setMpkt_changes ..) (by decide +kernel)
          subst x7
          refine Changes.via ?_ (State.modMash_changes ..) (by decide +kernel)
          subst x5
          refine Changes.ite ?_ ?_
          · refine Changes.via ?_ (count_changes ..) (by decide +kernel)
            subst x4
            refine Changes.ite ?_ ?_
            · refine Changes.via ?_ (count_changes ..) (by decide +kernel)
              exact Changes.rfl
            · exact Changes.rfl
          · subst x4
            refine Changes.ite ?_ ?_
            · refine Changes.via ?_ (count_changes ..) (by decide +kernel)
              exact Changes.rfl
            · exact Changes.rfl
        · refine Changes.ite ?_ ?_
          · refine Changes.via ?_ (runAhead_changes ..) (by decide +kernel)
            subst x10
            refine Changes.via ?_ (State.modMash_changes ..) (by decide +kernel)
            refine Changes.via ?_ (State.setMpkt_changes ..) (by decide +kernel)
            subst x7
            refine Changes.via ?_ (State.modMash_changes ..) (by decide +kernel)
            subst x5
            refine Changes.ite ?_ ?_
            · refine Changes.via ?_ (count_changes ..) (by decide +kernel)
              subst x4
              refine Changes.ite ?_ ?_
              · refine Changes.via ?_ (count_changes ..) (by decide +kernel)
                exact Changes.rfl
              · exact Changes.rfl
            · subst x4
              refine Changes.ite ?_ ?_
              · refine Changes.via ?_ (count_changes ..) (by decide +kernel)
                exact Changes.rfl
              · exact Changes.rfl
          · subst x10
            refine Changes.via ?_ (State.modMash_changes ..) (by decide +kernel)
            refine Changes.via ?_ (State.setMpkt_changes ..) (by decide +kernel)
            subst x7
            refine Changes.via ?_ (State.modMash_changes ..) (by decide +kernel)
            subst x5
            refine Changes.ite ?_ ?_
            · refine Changes.via ?_ (count_changes ..) (by decide +kernel)
              subst x4
              refine Changes.ite ?_ ?_
              · refine Changes.via ?_ (count_changes ..) (by decide +kernel)
                exact Changes.rfl
              · exact Changes.rfl
            · subst x4
              refine Changes.ite ?_ ?_
              · refine Changes.via ?_ (count_changes ..) (by decide +kernel)
                exact Changes.rfl
              · exact Changes.rfl
      · refine Changes.via ?_ (issueFrom_changes ..) (by decide +kernel)
        refine Changes.via ?_ (count_changes ..) (by decide +kernel)
        refine Changes.via ?_ (State.dropMpkt_changes ..) (by decide +kernel)
        subst x6
        refine Changes.ite ?_ ?_
        · refine Changes.via ?_ (degradeSlice_changes ..) (by decide +kernel)
          subst x5
          refine Changes.ite ?_ ?_
          · refine Changes.via ?_ (count_changes ..) (by decide +kernel)
            subst x4
            refine Changes.ite ?_ ?_
            · refine Changes.via ?_ (count_changes ..) (by decide +kernel)
              exact Changes.rfl
            · exact Changes.rfl
          · subst x4
            refine Changes.ite ?_ ?_
            · refine Changes.via ?_ (count_changes ..) (by decide +kernel)
              exact Changes.rfl
            · exact Changes.rfl
        · subst x5
          refine Changes.ite ?_ ?_
          · refine Changes.via ?_ (count_changes ..) (by decide +kernel)
            subst x4
            refine Changes.ite ?_ ?_
            · refine Changes.via ?_ (count_changes ..) (by decide +kernel)
              exact Changes.rfl
            · exact Changes.rfl
          · subst x4
            refine Changes.ite ?_ ?_
            · refine Changes.via ?_ (count_changes ..) (by decide +kernel)
              exact Changes.rfl
            · exact Changes.rfl
theorem execMillParseComplete_changes (pkt : Nat) (s : State) : ∃ t, execMillParseComplete pkt s = .next t ∧ Changes [.rings, .tbl, .mash, .sch, .pair, .log, .cnt, .out] s t := by
  refine ⟨_, rfl, ?_⟩
  split
  · exact Changes.rfl
  · extract_lets x1
    refine Changes.when ?_ ?_
    · exact Changes.rfl
    · refine Changes.via ?_ (millFinish_changes ..) (by decide +kernel)
      exact Changes.rfl
theorem lookupComplete_changes (m : MashPkt) (e : Nat) (s : State) : Changes [.draws, .rings, .tbl, .mash, .asa, .sch, .pair, .log, .flt, .cnt, .out] s (lookupComplete m e s) := by
  unfold lookupComplete
  dsimp only
  split
  · refine Changes.via ?_ (fullLookup_changes ..) (by decide +kernel)
    exact Changes.rfl
  · refine Changes.via ?_ (decideVerdict_changes ..) (by decide +kernel)
    refine Changes.via ?_ (fullLookup_changes ..) (by decide +kernel)
    exact Changes.rfl
theorem execLookupComplete_changes (pkt : Nat) (s : State) : ∃ t, execLookupComplete pkt s = .next t ∧ Changes [.draws, .rings, .tbl, .mash, .asa, .sch, .pair, .log, .flt, .cnt, .out] s t := by
  refine ⟨_, rfl, ?_⟩
  split
  · exact Changes.rfl
  · split
    · refine Changes.via ?_ (lookupComplete_changes ..) (by decide +kernel)
      exact Changes.rfl
    · exact Changes.rfl
theorem lookupTimeout_changes (m : MashPkt) (s : State) : Changes [.rings, .tbl, .mash, .sch, .pair, .cnt, .out] s (lookupTimeout m s) := by
  unfold lookupTimeout
  extract_lets x1 x2
  dsimp only
  refine Changes.via ?_ (decideVerdict_changes ..) (by decide +kernel)
  refine Changes.ite ?_ ?_
  · refine Changes.via ?_ (notify_changes ..) (by decide +kernel)
    refine Changes.via ?_ (count_changes ..) (by decide +kernel)
    refine Changes.set_tbl ?_ (by with_reducible rfl) (by decide)
    exact Changes.rfl
  · refine Changes.via ?_ (count_changes ..) (by decide +kernel)
    refine Changes.set_tbl ?_ (by with_reducible rfl) (by decide)
    exact Changes.rfl
theorem execLookupTimeout_changes (pkt : Nat) (s : State) : ∃ t, execLookupTimeout pkt s = .next t ∧ Changes [.rings, .tbl, .mash, .sch, .pair, .cnt, .out] s t := by
  refine ⟨_, rfl, ?_⟩
  split
  · exact Changes.rfl
  · refine Changes.when ?_ ?_
    · exact Changes.rfl
    · refine Changes.via ?_ (lookupTimeout_changes ..) (by decide +kernel)
      exact Changes.rfl
theorem execCacheParityError_changes (set way : Nat) (s : State) : ∃ t, execCacheParityError set way s = .next t ∧ Changes [.draws, .rings, .mash, .log, .cnt, .out] s t := by
  refine ⟨_, rfl, ?_⟩
  refine Changes.when ?_ ?_
  · exact Changes.rfl
  · extract_lets x1
    refine Changes.via ?_ (count_changes ..) (by decide +kernel)
    refine Changes.via ?_ (fault_changes ..) (by decide +kernel)
    subst x1
    refine Changes.via ?_ (State.modMash_changes ..) (by decide +kernel)
    exact Changes.rfl
theorem clearSet_changes (set : Nat) (s : State) : Changes [.mash] s (clearSet set s) := by
  unfold clearSet
  refine Changes.via ?_ (State.modMash_changes ..) (by decide +kernel)
  exact Changes.rfl
theorem execCacheSetClear_changes (set : Nat) (s : State) : ∃ t, execCacheSetClear set s = .next t ∧ Changes [.mash] s t := by
  refine ⟨_, rfl, ?_⟩
  split
  · exact Changes.rfl
  · refine Changes.when ?_ ?_
    · exact Changes.rfl
    · refine Changes.via ?_ (clearSet_changes ..) (by decide +kernel)
      exact Changes.rfl

end Sys2Proof.Machine
end

