-- ==== Sys2Proof/Laws/AdmOps.lean ====
section
/-! SUPPORT. What each operation of Machine/AdmOps.lean can change. -/

set_option Elab.async false

namespace Sys2Proof.Machine

theorem State.modAdm_changes (s : State) (f : Adm → Adm) : Changes [.adm] s (State.modAdm s f) := by
  unfold State.modAdm
  refine Changes.set_adm ?_ (by decide)
  exact Changes.rfl
theorem pfcFrame_changes (p tc quanta : Nat) (s : State) : Changes [.out] s (pfcFrame p tc quanta s) := by
  unfold pfcFrame
  refine Changes.ite ?_ ?_
  · refine Changes.via ?_ (State.emit_changes ..) (by decide +kernel)
    exact Changes.rfl
  · exact Changes.rfl
theorem pfcClass_changes (p tc : Nat) (s : State) : Changes [.rings, .port, .cnt, .out] s (pfcClass p tc s) := by
  unfold pfcClass
  extract_lets x1 x2 x3 x4 x5
  refine Changes.ite ?_ ?_
  · refine Changes.via ?_ (count_changes ..) (by decide +kernel)
    refine Changes.via ?_ (pfcFrame_changes ..) (by decide +kernel)
    subst x5
    refine Changes.via ?_ (State.modPort_changes ..) (by decide +kernel)
    subst x2
    refine Changes.via ?_ (State.modPort_changes ..) (by decide +kernel)
    exact Changes.rfl
  · refine Changes.ite ?_ ?_
    · refine Changes.via ?_ (pfcFrame_changes ..) (by decide +kernel)
      refine Changes.via ?_ (State.modPort_changes ..) (by decide +kernel)
      subst x2
      refine Changes.via ?_ (State.modPort_changes ..) (by decide +kernel)
      exact Changes.rfl
    · subst x2
      refine Changes.via ?_ (State.modPort_changes ..) (by decide +kernel)
      exact Changes.rfl
theorem overdraftUpkeep_changes (vi : Nat) (s : State) : Changes [.rings, .insts, .cnt, .out] s (overdraftUpkeep vi s) := by
  unfold overdraftUpkeep
  extract_lets x1 x2
  refine Changes.ite ?_ ?_
  · exact Changes.rfl
  · refine Changes.via ?_ (notify_changes ..) (by decide +kernel)
    refine Changes.via ?_ (State.modInst_changes ..) (by decide +kernel)
    exact Changes.rfl
theorem sectorUpkeep_changes (s : State) : Changes [.rings, .log, .cnt, .out] s (sectorUpkeep s) := by
  unfold sectorUpkeep
  refine Changes.foldS ?_ (fun _ _ => ?_)
  · exact Changes.rfl
  · refine Changes.ite ?_ ?_
    · exact Changes.rfl
    · refine Changes.via ?_ (endWindow_changes ..) (by decide +kernel)
      exact Changes.rfl
theorem poolUpkeep_changes (s : State) : Changes [.rings, .queue, .port, .adm, .insts, .log, .cnt, .out] s (poolUpkeep s) := by
  unfold poolUpkeep
  extract_lets x1 x2 x3 x4 x5 x6 x7
  refine Changes.ite ?_ ?_
  · subst x7
    refine Changes.foldS ?_ (fun _ _ => ?_)
    · refine Changes.via ?_ (sectorUpkeep_changes ..) (by decide +kernel)
      subst x6
      refine Changes.foldS ?_ (fun _ _ => ?_)
      · subst x4
        refine Changes.via ?_ (State.modAdm_changes ..) (by decide +kernel)
        exact Changes.rfl
      · refine Changes.foldS ?_ (fun _ _ => ?_)
        · exact Changes.rfl
        · refine Changes.via ?_ (pfcClass_changes ..) (by decide +kernel)
          exact Changes.rfl
    · refine Changes.via ?_ (overdraftUpkeep_changes ..) (by decide +kernel)
      exact Changes.rfl
  · refine Changes.via ?_ (wake_changes ..) (by decide +kernel)
    subst x7
    refine Changes.foldS ?_ (fun _ _ => ?_)
    · refine Changes.via ?_ (sectorUpkeep_changes ..) (by decide +kernel)
      subst x6
      refine Changes.foldS ?_ (fun _ _ => ?_)
      · subst x4
        refine Changes.via ?_ (State.modAdm_changes ..) (by decide +kernel)
        exact Changes.rfl
      · refine Changes.foldS ?_ (fun _ _ => ?_)
        · exact Changes.rfl
        · refine Changes.via ?_ (pfcClass_changes ..) (by decide +kernel)
          exact Changes.rfl
    · refine Changes.via ?_ (overdraftUpkeep_changes ..) (by decide +kernel)
      exact Changes.rfl
theorem State.setVoq_changes (s : State) (v : Nat) (x : Voq) : Changes [.adm] s (State.setVoq s v x) := by
  unfold State.setVoq
  refine Changes.via ?_ (State.modAdm_changes ..) (by decide +kernel)
  exact Changes.rfl
theorem State.modVoq_changes (s : State) (v : Nat) (f : Voq → Voq) : Changes [.adm] s (State.modVoq s v f) := by
  unfold State.modVoq
  refine Changes.via ?_ (State.setVoq_changes ..) (by decide +kernel)
  exact Changes.rfl
theorem State.setVpkt_changes (s : State) (v : Nat) (k : VPkt) : Changes [.adm] s (State.setVpkt s v k) := by
  unfold State.setVpkt
  refine Changes.via ?_ (State.modVoq_changes ..) (by decide +kernel)
  exact Changes.rfl
theorem State.pullVpkt_changes (s : State) (v id : Nat) : Changes [.adm] s (State.pullVpkt s v id) := by
  unfold State.pullVpkt
  refine Changes.via ?_ (State.modVoq_changes ..) (by decide +kernel)
  exact Changes.rfl
theorem expireHeads_changes  (a0 : Nat) (a1 : Nat) (s : State) : Changes [.draws, .rings, .tbl, .adm, .fab, .flt, .cnt, .out] s (expireHeads  a0 a1 s) := by
  induction a0 generalizing a1 s with
  | zero =>
    unfold expireHeads
    exact Changes.rfl
  | succ a0 ih =>
    unfold expireHeads
    split
    · exact Changes.rfl
    · refine Changes.ite ?_ ?_
      · extract_lets x1 x2
        refine Changes.via ?_ (ih ..) (by decide +kernel)
        refine Changes.via ?_ (voidNumbers_changes ..) (by decide +kernel)
        refine Changes.via ?_ (releaseRef_changes ..) (by decide +kernel)
        subst x2
        refine Changes.via ?_ (count_changes ..) (by decide +kernel)
        refine Changes.via ?_ (State.setVoq_changes ..) (by decide +kernel)
        exact Changes.rfl
      · exact Changes.rfl
theorem wredDrawn_changes (prof : Profile) (s : State) : Changes [.draws] s (wredDrawn prof s) := by
  unfold wredDrawn
  refine Changes.ite ?_ ?_
  · refine Changes.via ?_ (State.drawn_changes ..) (by decide +kernel)
    exact Changes.rfl
  · exact Changes.rfl
theorem refillTokensHbm_changes (s : State) : Changes [.adm] s (refillTokensHbm s) := by
  unfold refillTokensHbm
  extract_lets x1
  refine Changes.via ?_ (State.modAdm_changes ..) (by decide +kernel)
  exact Changes.rfl
theorem placePacket_changes (v len : Nat) (s : State) : Changes [.draws, .rings, .adm, .cnt, .out] s (placePacket v len s).2 := by
  unfold placePacket
  refine Changes.ite_snd ?_ ?_
  · refine Changes.pair_snd ?_
    exact Changes.rfl
  · extract_lets x1 x2
    split
    · refine Changes.ite_snd ?_ ?_
      · refine Changes.pair_snd ?_
        subst x2
        refine Changes.via ?_ (count_changes ..) (by decide +kernel)
        subst x1
        refine Changes.via ?_ (refillTokensHbm_changes ..) (by decide +kernel)
        exact Changes.rfl
      · refine Changes.pair_snd ?_
        refine Changes.via ?_ (notify_changes ..) (by decide +kernel)
        refine Changes.via ?_ (State.modAdm_changes ..) (by decide +kernel)
        subst x2
        refine Changes.via ?_ (count_changes ..) (by decide +kernel)
        subst x1
        refine Changes.via ?_ (refillTokensHbm_changes ..) (by decide +kernel)
        exact Changes.rfl
    · refine Changes.ite_snd ?_ ?_
      · refine Changes.pair_snd ?_
        refine Changes.via ?_ (count_changes ..) (by decide +kernel)
        subst x1
        refine Changes.via ?_ (refillTokensHbm_changes ..) (by decide +kernel)
        exact Changes.rfl
      · refine Changes.pair_snd ?_
        refine Changes.via ?_ (State.drawn_changes ..) (by decide +kernel)
        refine Changes.via ?_ (State.modAdm_changes ..) (by decide +kernel)
        subst x1
        refine Changes.via ?_ (refillTokensHbm_changes ..) (by decide +kernel)
        exact Changes.rfl
theorem countRefused_changes (p reason : Nat) (voq : Option Nat) (tc : Nat) (s : State) : Changes [.rings, .port, .adm, .cnt, .out] s (countRefused p reason voq tc s) := by
  unfold countRefused
  extract_lets x1 x2
  refine Changes.ite ?_ ?_
  · refine Changes.via ?_ (State.modAdm_changes ..) (by decide +kernel)
    subst x2
    split
    · refine Changes.via ?_ (State.modVoq_changes ..) (by decide +kernel)
      subst x1
      refine Changes.via ?_ (count_changes ..) (by decide +kernel)
      exact Changes.rfl
    · subst x1
      refine Changes.via ?_ (count_changes ..) (by decide +kernel)
      exact Changes.rfl
  · refine Changes.ite ?_ ?_
    · refine Changes.via ?_ (count_changes ..) (by decide +kernel)
      refine Changes.via ?_ (State.modPort_changes ..) (by decide +kernel)
      subst x2
      split
      · refine Changes.via ?_ (State.modVoq_changes ..) (by decide +kernel)
        subst x1
        refine Changes.via ?_ (count_changes ..) (by decide +kernel)
        exact Changes.rfl
      · subst x1
        refine Changes.via ?_ (count_changes ..) (by decide +kernel)
        exact Changes.rfl
    · refine Changes.ite ?_ ?_
      · refine Changes.via ?_ (count_changes ..) (by decide +kernel)
        subst x2
        split
        · refine Changes.via ?_ (State.modVoq_changes ..) (by decide +kernel)
          subst x1
          refine Changes.via ?_ (count_changes ..) (by decide +kernel)
          exact Changes.rfl
        · subst x1
          refine Changes.via ?_ (count_changes ..) (by decide +kernel)
          exact Changes.rfl
      · subst x2
        split
        · refine Changes.via ?_ (State.modVoq_changes ..) (by decide +kernel)
          subst x1
          refine Changes.via ?_ (count_changes ..) (by decide +kernel)
          exact Changes.rfl
        · subst x1
          refine Changes.via ?_ (count_changes ..) (by decide +kernel)
          exact Changes.rfl
theorem refusePkt_changes (p reason : Nat) (voq : Option Nat) (tc : Nat) (s : State) : Changes [.rings, .port, .adm, .cnt, .out] s (refusePkt p reason voq tc s) := by
  unfold refusePkt
  extract_lets x1 x2 x3
  refine Changes.ite ?_ ?_
  · refine Changes.via ?_ (notify_changes ..) (by decide +kernel)
    subst x3
    refine Changes.via ?_ (countRefused_changes ..) (by decide +kernel)
    exact Changes.rfl
  · refine Changes.ite ?_ ?_
    · refine Changes.via ?_ (notify_changes ..) (by decide +kernel)
      refine Changes.via ?_ (State.modPort_changes ..) (by decide +kernel)
      subst x3
      refine Changes.via ?_ (countRefused_changes ..) (by decide +kernel)
      exact Changes.rfl
    · subst x3
      refine Changes.via ?_ (countRefused_changes ..) (by decide +kernel)
      exact Changes.rfl
theorem forwardTests_changes (k : Pkt) (r : Res) (s : State) : Changes [.draws, .adm] s (forwardTests k r s).2 := by
  unfold forwardTests
  extract_lets x1 x2 x3 x4 x5 x6
  refine Changes.ite_snd ?_ ?_
  · refine Changes.pair_snd ?_
    subst x3
    refine Changes.ite ?_ ?_
    · refine Changes.via ?_ (State.modVoq_changes ..) (by decide +kernel)
      exact Changes.rfl
    · exact Changes.rfl
  · refine Changes.ite_snd ?_ ?_
    · refine Changes.pair_snd ?_
      subst x3
      refine Changes.ite ?_ ?_
      · refine Changes.via ?_ (State.modVoq_changes ..) (by decide +kernel)
        exact Changes.rfl
      · exact Changes.rfl
    · refine Changes.ite_snd ?_ ?_
      · refine Changes.pair_snd ?_
        subst x3
        refine Changes.ite ?_ ?_
        · refine Changes.via ?_ (State.modVoq_changes ..) (by decide +kernel)
          exact Changes.rfl
        · exact Changes.rfl
      · split
        · refine Changes.pair_snd ?_
          refine Changes.via ?_ (wredDrawn_changes ..) (by decide +kernel)
          subst x3
          refine Changes.ite ?_ ?_
          · refine Changes.via ?_ (State.modVoq_changes ..) (by decide +kernel)
            exact Changes.rfl
          · exact Changes.rfl
        · refine Changes.ite_snd ?_ ?_
          · refine Changes.pair_snd ?_
            subst x5
            refine Changes.via ?_ (wredDrawn_changes ..) (by decide +kernel)
            subst x3
            refine Changes.ite ?_ ?_
            · refine Changes.via ?_ (State.modVoq_changes ..) (by decide +kernel)
              exact Changes.rfl
            · exact Changes.rfl
          · refine Changes.pair_snd ?_
            subst x5
            refine Changes.via ?_ (wredDrawn_changes ..) (by decide +kernel)
            subst x3
            refine Changes.ite ?_ ?_
            · refine Changes.via ?_ (State.modVoq_changes ..) (by decide +kernel)
              exact Changes.rfl
            · exact Changes.rfl
theorem takeArmedN_changes (target unit : Nat) (a0 : Nat) (s : State) : Changes [.flt] s (takeArmedN target unit a0 s).2 := by
  induction a0 generalizing s with
  | zero =>
    unfold takeArmedN
    refine Changes.pair_snd ?_
    exact Changes.rfl
  | succ a0 ih =>
    unfold takeArmedN
    split
    · refine Changes.pair_snd ?_
      refine Changes.of_pair (by assumption) ?_
      refine Changes.via ?_ (takeArmed_changes ..) (by decide +kernel)
      exact Changes.rfl
    · dsimp only
      refine Changes.via ?_ (ih ..) (by decide +kernel)
      refine Changes.of_pair (by assumption) ?_
      refine Changes.via ?_ (takeArmed_changes ..) (by decide +kernel)
      exact Changes.rfl
theorem dropForward_changes (k : VPkt) (s : State) : Changes [.draws, .rings, .tbl, .fab, .flt, .cnt, .out] s (dropForward k s) := by
  unfold dropForward
  refine Changes.via ?_ (voidNumbers_changes ..) (by decide +kernel)
  refine Changes.via ?_ (releaseRef_changes ..) (by decide +kernel)
  exact Changes.rfl
theorem chargeHeadroom_changes (k : VPkt) (old new : Nat) (s : State) : Changes [.port] s (chargeHeadroom k old new s) := by
  unfold chargeHeadroom
  extract_lets x1
  refine Changes.ite ?_ ?_
  · refine Changes.via ?_ (State.modPort_changes ..) (by decide +kernel)
    exact Changes.rfl
  · exact Changes.rfl
theorem dropBad_changes (k : VPkt) (s : State) : Changes [.draws, .rings, .port, .tbl, .mash, .fab, .flt, .cnt, .out] s (dropBad k s) := by
  unfold dropBad
  extract_lets x1
  refine Changes.via ?_ (dropForward_changes ..) (by decide +kernel)
  refine Changes.via ?_ (chargeHeadroom_changes ..) (by decide +kernel)
  subst x1
  split
  · exact Changes.rfl
  · refine Changes.via ?_ (State.modMash_changes ..) (by decide +kernel)
    exact Changes.rfl
theorem loseQueuedIf_changes (pick : VPkt → Bool) (s : State) : Changes [.draws, .rings, .port, .tbl, .mash, .adm, .fab, .flt, .cnt, .out] s (loseQueuedIf pick s).2 := by
  unfold loseQueuedIf
  extract_lets x1
  refine Changes.pair_snd ?_
  refine Changes.foldS ?_ (fun _ _ => ?_)
  · exact Changes.rfl
  · refine Changes.via ?_ (dropBad_changes ..) (by decide +kernel)
    refine Changes.via ?_ (State.pullVpkt_changes ..) (by decide +kernel)
    exact Changes.rfl
theorem stackFail_changes (stack : Nat) (s : State) : Changes [.draws, .rings, .queue, .port, .tbl, .mash, .adm, .fab, .insts, .log, .flt, .cnt, .out] s (stackFail stack s) := by
  unfold stackFail
  extract_lets x1
  dsimp only
  refine Changes.via ?_ (poolUpkeep_changes ..) (by decide +kernel)
  refine Changes.via ?_ (notify_changes ..) (by decide +kernel)
  refine Changes.via ?_ (discardUnder_changes ..) (by decide +kernel)
  refine Changes.via ?_ (State.modAdm_changes ..) (by decide +kernel)
  refine Changes.via ?_ (loseQueuedIf_changes ..) (by decide +kernel)
  subst x1
  refine Changes.via ?_ (count_changes ..) (by decide +kernel)
  refine Changes.via ?_ (fault_changes ..) (by decide +kernel)
  exact Changes.rfl
theorem pcFail_changes (stack pc cause : Nat) (s : State) : Changes [.draws, .rings, .queue, .port, .tbl, .mash, .adm, .fab, .insts, .log, .flt, .cnt, .out] s (pcFail stack pc cause s) := by
  unfold pcFail
  extract_lets x1 x2 x3 x4 x5
  dsimp only
  refine Changes.ite ?_ ?_
  · refine Changes.via ?_ (stackFail_changes ..) (by decide +kernel)
    refine Changes.via ?_ (doubleLoss_changes ..) (by decide +kernel)
    refine Changes.via ?_ (loseQueuedIf_changes ..) (by decide +kernel)
    subst x5
    refine Changes.via ?_ (count_changes ..) (by decide +kernel)
    refine Changes.via ?_ (notify_changes ..) (by decide +kernel)
    subst x4
    refine Changes.via ?_ (State.modAdm_changes ..) (by decide +kernel)
    subst x3
    refine Changes.via ?_ (fault_changes ..) (by decide +kernel)
    exact Changes.rfl
  · refine Changes.via ?_ (poolUpkeep_changes ..) (by decide +kernel)
    refine Changes.via ?_ (doubleLoss_changes ..) (by decide +kernel)
    refine Changes.via ?_ (loseQueuedIf_changes ..) (by decide +kernel)
    subst x5
    refine Changes.via ?_ (count_changes ..) (by decide +kernel)
    refine Changes.via ?_ (notify_changes ..) (by decide +kernel)
    subst x4
    refine Changes.via ?_ (State.modAdm_changes ..) (by decide +kernel)
    subst x3
    refine Changes.via ?_ (fault_changes ..) (by decide +kernel)
    exact Changes.rfl
theorem sectorsBad_changes (stack pc n : Nat) (injected : Bool) (s : State) : Changes [.draws, .rings, .queue, .port, .tbl, .mash, .adm, .fab, .insts, .log, .flt, .cnt, .out] s (sectorsBad stack pc n injected s) := by
  unfold sectorsBad
  extract_lets x1 x2 x3
  refine Changes.ite ?_ ?_
  · exact Changes.rfl
  · refine Changes.ite ?_ ?_
    · subst x2
      refine Changes.via ?_ (bump_changes ..) (by decide +kernel)
      refine Changes.via ?_ (count_changes ..) (by decide +kernel)
      refine Changes.via ?_ (openFault_changes ..) (by decide +kernel)
      exact Changes.rfl
    · refine Changes.ite ?_ ?_
      · refine Changes.via ?_ (pcFail_changes ..) (by decide +kernel)
        subst x2
        refine Changes.via ?_ (bump_changes ..) (by decide +kernel)
        refine Changes.via ?_ (count_changes ..) (by decide +kernel)
        refine Changes.via ?_ (openFault_changes ..) (by decide +kernel)
        exact Changes.rfl
      · refine Changes.via ?_ (State.modAdm_changes ..) (by decide +kernel)
        subst x2
        refine Changes.via ?_ (bump_changes ..) (by decide +kernel)
        refine Changes.via ?_ (count_changes ..) (by decide +kernel)
        refine Changes.via ?_ (openFault_changes ..) (by decide +kernel)
        exact Changes.rfl
theorem countSectors_changes (value : Nat) (k : VPkt) (s : State) : Changes [.cnt] s (countSectors value k s) := by
  unfold countSectors
  refine Changes.foldS ?_ (fun _ _ => ?_)
  · exact Changes.rfl
  · refine Changes.foldS ?_ (fun _ _ => ?_)
    · exact Changes.rfl
    · extract_lets x1
      refine Changes.ite ?_ ?_
      · exact Changes.rfl
      · refine Changes.via ?_ (bump_changes ..) (by decide +kernel)
        exact Changes.rfl
theorem writeInjections_changes (k : VPkt) (s : State) : Changes [.draws, .rings, .queue, .port, .tbl, .mash, .adm, .fab, .insts, .log, .flt, .cnt, .out] s (writeInjections k s) := by
  unfold writeInjections
  split
  · dsimp only
    refine Changes.ite ?_ ?_
    · refine Changes.via ?_ (takeArmedN_changes ..) (by decide +kernel)
      exact Changes.rfl
    · refine Changes.via ?_ (count_changes ..) (by decide +kernel)
      refine Changes.via ?_ (takeArmedN_changes ..) (by decide +kernel)
      exact Changes.rfl
  · extract_lets x1 x2
    split
    · subst x2
      refine Changes.via ?_ (countSectors_changes ..) (by decide +kernel)
      exact Changes.rfl
    · dsimp only
      refine Changes.via ?_ (sectorsBad_changes ..) (by decide +kernel)
      refine Changes.via ?_ (takeArmedN_changes ..) (by decide +kernel)
      subst x2
      refine Changes.via ?_ (countSectors_changes ..) (by decide +kernel)
      exact Changes.rfl
theorem joinVoq_changes (v : Nat) (k : VPkt) (s : State) : Changes [.draws, .rings, .queue, .port, .tbl, .mash, .adm, .fab, .insts, .log, .flt, .cnt, .out] s (joinVoq v k s) := by
  unfold joinVoq
  extract_lets x1 x2 x3
  refine Changes.via ?_ (chargeHeadroom_changes ..) (by decide +kernel)
  refine Changes.via ?_ (writeInjections_changes ..) (by decide +kernel)
  refine Changes.via ?_ (State.modVoq_changes ..) (by decide +kernel)
  exact Changes.rfl
theorem countAdmitted_changes (k : Pkt) (s : State) : Changes [.rings, .cnt, .out] s (countAdmitted k s) := by
  unfold countAdmitted
  refine Changes.via ?_ (count_changes ..) (by decide +kernel)
  refine Changes.via ?_ (count_changes ..) (by decide +kernel)
  exact Changes.rfl
theorem admitForward_changes (k : Pkt) (r : Res) (number : Option Nat) (held : Option Bool) (s : State) : Changes [.draws, .rings, .queue, .port, .tbl, .mash, .adm, .fab, .insts, .log, .flt, .cnt, .out] s (admitForward k r number held s) := by
  unfold admitForward
  extract_lets x1 x2
  split
  · refine Changes.via ?_ (poolUpkeep_changes ..) (by decide +kernel)
    refine Changes.via ?_ (dropForward_changes ..) (by decide +kernel)
    refine Changes.via ?_ (refusePkt_changes ..) (by decide +kernel)
    refine Changes.of_pair (by assumption) ?_
    refine Changes.via ?_ (forwardTests_changes ..) (by decide +kernel)
    exact Changes.rfl
  · extract_lets x3 x4
    split
    · refine Changes.via ?_ (poolUpkeep_changes ..) (by decide +kernel)
      refine Changes.via ?_ (countAdmitted_changes ..) (by decide +kernel)
      refine Changes.via ?_ (joinVoq_changes ..) (by decide +kernel)
      subst x4
      dsimp -zeta only
      refine Changes.ite ?_ ?_
      · refine Changes.via ?_ (count_changes ..) (by decide +kernel)
        refine Changes.of_pair (by assumption) ?_
        refine Changes.ite_snd ?_ ?_
        · refine Changes.pair_snd ?_
          refine Changes.of_pair (by assumption) ?_
          refine Changes.via ?_ (forwardTests_changes ..) (by decide +kernel)
          exact Changes.rfl
        · refine Changes.via ?_ (placePacket_changes ..) (by decide +kernel)
          refine Changes.of_pair (by assumption) ?_
          refine Changes.via ?_ (forwardTests_changes ..) (by decide +kernel)
          exact Changes.rfl
      · refine Changes.of_pair (by assumption) ?_
        refine Changes.ite_snd ?_ ?_
        · refine Changes.pair_snd ?_
          refine Changes.of_pair (by assumption) ?_
          refine Changes.via ?_ (forwardTests_changes ..) (by decide +kernel)
          exact Changes.rfl
        · refine Changes.via ?_ (placePacket_changes ..) (by decide +kernel)
          refine Changes.of_pair (by assumption) ?_
          refine Changes.via ?_ (forwardTests_changes ..) (by decide +kernel)
          exact Changes.rfl
    · split
      · refine Changes.via ?_ (poolUpkeep_changes ..) (by decide +kernel)
        refine Changes.via ?_ (dropForward_changes ..) (by decide +kernel)
        refine Changes.via ?_ (refusePkt_changes ..) (by decide +kernel)
        refine Changes.of_pair (by assumption) ?_
        refine Changes.ite_snd ?_ ?_
        · refine Changes.pair_snd ?_
          refine Changes.of_pair (by assumption) ?_
          refine Changes.via ?_ (forwardTests_changes ..) (by decide +kernel)
          exact Changes.rfl
        · refine Changes.via ?_ (placePacket_changes ..) (by decide +kernel)
          refine Changes.of_pair (by assumption) ?_
          refine Changes.via ?_ (forwardTests_changes ..) (by decide +kernel)
          exact Changes.rfl
      · refine Changes.via ?_ (poolUpkeep_changes ..) (by decide +kernel)
        refine Changes.via ?_ (countAdmitted_changes ..) (by decide +kernel)
        refine Changes.via ?_ (joinVoq_changes ..) (by decide +kernel)
        subst x4
        dsimp -zeta only
        refine Changes.ite ?_ ?_
        · refine Changes.via ?_ (count_changes ..) (by decide +kernel)
          refine Changes.of_pair (by assumption) ?_
          refine Changes.ite_snd ?_ ?_
          · refine Changes.pair_snd ?_
            refine Changes.of_pair (by assumption) ?_
            refine Changes.via ?_ (forwardTests_changes ..) (by decide +kernel)
            exact Changes.rfl
          · refine Changes.via ?_ (placePacket_changes ..) (by decide +kernel)
            refine Changes.of_pair (by assumption) ?_
            refine Changes.via ?_ (forwardTests_changes ..) (by decide +kernel)
            exact Changes.rfl
        · refine Changes.of_pair (by assumption) ?_
          refine Changes.ite_snd ?_ ?_
          · refine Changes.pair_snd ?_
            refine Changes.of_pair (by assumption) ?_
            refine Changes.via ?_ (forwardTests_changes ..) (by decide +kernel)
            exact Changes.rfl
          · refine Changes.via ?_ (placePacket_changes ..) (by decide +kernel)
            refine Changes.of_pair (by assumption) ?_
            refine Changes.via ?_ (forwardTests_changes ..) (by decide +kernel)
            exact Changes.rfl
theorem admitProvisional_changes (k : Pkt) (r : Res) (t : Nat) (s : State) : Changes [.draws, .rings, .queue, .port, .tbl, .mash, .adm, .fab, .insts, .log, .flt, .cnt, .out] s (admitProvisional k r t s) := by
  unfold admitProvisional
  extract_lets x1 x2 x3
  split
  · subst x3
    dsimp -zeta only
    extract_lets x4
    refine Changes.via ?_ (poolUpkeep_changes ..) (by decide +kernel)
    refine Changes.via ?_ (releaseRef_changes ..) (by decide +kernel)
    refine Changes.via ?_ (countRefused_changes ..) (by decide +kernel)
    subst x4
    refine Changes.via ?_ (State.modMash_changes ..) (by decide +kernel)
    refine Changes.of_pair (by assumption) ?_
    refine Changes.via ?_ (forwardTests_changes ..) (by decide +kernel)
    exact Changes.rfl
  · split
    · subst x3
      dsimp -zeta only
      extract_lets x5
      refine Changes.via ?_ (poolUpkeep_changes ..) (by decide +kernel)
      refine Changes.via ?_ (releaseRef_changes ..) (by decide +kernel)
      refine Changes.via ?_ (countRefused_changes ..) (by decide +kernel)
      subst x5
      refine Changes.via ?_ (State.modMash_changes ..) (by decide +kernel)
      refine Changes.of_pair (by assumption) ?_
      refine Changes.via ?_ (forwardTests_changes ..) (by decide +kernel)
      exact Changes.rfl
    · extract_lets x6
      refine Changes.via ?_ (poolUpkeep_changes ..) (by decide +kernel)
      refine Changes.via ?_ (count_changes ..) (by decide +kernel)
      refine Changes.via ?_ (joinVoq_changes ..) (by decide +kernel)
      refine Changes.of_pair (by assumption) ?_
      refine Changes.via ?_ (forwardTests_changes ..) (by decide +kernel)
      exact Changes.rfl
theorem cellarPunt_changes (length : Nat) (s : State) : Changes [.adm] s (cellarPunt length s) := by
  unfold cellarPunt
  refine Changes.set_adm ?_ (by decide)
  exact Changes.rfl
theorem admitPunt_changes (k : Pkt) (r : Res) (held : Option Bool) (s : State) : Changes [.rings, .port, .adm, .insts, .cnt, .out] s (admitPunt k r held s) := by
  unfold admitPunt
  extract_lets x1 x2 x3 x4
  split
  · refine Changes.via ?_ (refusePkt_changes ..) (by decide +kernel)
    exact Changes.rfl
  · refine Changes.ite ?_ ?_
    · refine Changes.via ?_ (refusePkt_changes ..) (by decide +kernel)
      exact Changes.rfl
    · extract_lets x5 x6 x7
      refine Changes.via ?_ (countAdmitted_changes ..) (by decide +kernel)
      refine Changes.via ?_ (State.modInst_changes ..) (by decide +kernel)
      subst x7
      refine Changes.ite ?_ ?_
      · refine Changes.via ?_ (count_changes ..) (by decide +kernel)
        subst x4
        refine Changes.ite ?_ ?_
        · refine Changes.via ?_ (cellarPunt_changes ..) (by decide +kernel)
          exact Changes.rfl
        · exact Changes.rfl
      · subst x4
        refine Changes.ite ?_ ?_
        · refine Changes.via ?_ (cellarPunt_changes ..) (by decide +kernel)
          exact Changes.rfl
        · exact Changes.rfl
theorem admitResult_changes (k : Pkt) (r : Res) (number : Option Nat) (held : Option Bool) (s : State) : Changes [.draws, .rings, .queue, .port, .tbl, .mash, .adm, .fab, .insts, .log, .flt, .cnt, .out] s (admitResult k r number held s) := by
  unfold admitResult
  refine Changes.ite ?_ ?_
  · refine Changes.via ?_ (admitForward_changes ..) (by decide +kernel)
    exact Changes.rfl
  · refine Changes.ite ?_ ?_
    · refine Changes.via ?_ (admitPunt_changes ..) (by decide +kernel)
      exact Changes.rfl
    · refine Changes.via ?_ (admitPunt_changes ..) (by decide +kernel)
      refine Changes.via ?_ (admitForward_changes ..) (by decide +kernel)
      exact Changes.rfl
theorem lastCell_changes (id : Nat) (s : State) : Changes [.draws, .rings, .queue, .port, .tbl, .mash, .adm, .fab, .insts, .log, .flt, .cnt, .out] s (lastCell id s) := by
  unfold lastCell
  extract_lets x1
  split
  · refine Changes.ite ?_ ?_
    · dsimp only
      refine Changes.ite ?_ ?_
      · refine Changes.via ?_ (poolUpkeep_changes ..) (by decide +kernel)
        refine Changes.via ?_ (chargeHeadroom_changes ..) (by decide +kernel)
        refine Changes.via ?_ (State.setVpkt_changes ..) (by decide +kernel)
        refine Changes.ite_snd ?_ ?_
        · refine Changes.via ?_ (takeArmedN_changes ..) (by decide +kernel)
          subst x1
          refine Changes.foldl _ (fun _ _ => ?_) _ _ ?_
          · refine Changes.via ?_ (State.modInst_changes ..) (by decide +kernel)
            exact Changes.rfl
          · exact Changes.rfl
        · refine Changes.pair_snd ?_
          subst x1
          refine Changes.foldl _ (fun _ _ => ?_) _ _ ?_
          · refine Changes.via ?_ (State.modInst_changes ..) (by decide +kernel)
            exact Changes.rfl
          · exact Changes.rfl
      · refine Changes.via ?_ (poolUpkeep_changes ..) (by decide +kernel)
        refine Changes.via ?_ (discardUnder_changes ..) (by decide +kernel)
        refine Changes.via ?_ (dropBad_changes ..) (by decide +kernel)
        refine Changes.via ?_ (State.pullVpkt_changes ..) (by decide +kernel)
        refine Changes.via ?_ (count_changes ..) (by decide +kernel)
        refine Changes.via ?_ (openFault_changes ..) (by decide +kernel)
        refine Changes.ite_snd ?_ ?_
        · refine Changes.via ?_ (takeArmedN_changes ..) (by decide +kernel)
          subst x1
          refine Changes.foldl _ (fun _ _ => ?_) _ _ ?_
          · refine Changes.via ?_ (State.modInst_changes ..) (by decide +kernel)
            exact Changes.rfl
          · exact Changes.rfl
        · refine Changes.pair_snd ?_
          subst x1
          refine Changes.foldl _ (fun _ _ => ?_) _ _ ?_
          · refine Changes.via ?_ (State.modInst_changes ..) (by decide +kernel)
            exact Changes.rfl
          · exact Changes.rfl
    · refine Changes.via ?_ (poolUpkeep_changes ..) (by decide +kernel)
      refine Changes.via ?_ (dropBad_changes ..) (by decide +kernel)
      refine Changes.via ?_ (State.pullVpkt_changes ..) (by decide +kernel)
      subst x1
      refine Changes.foldl _ (fun _ _ => ?_) _ _ ?_
      · refine Changes.via ?_ (State.modInst_changes ..) (by decide +kernel)
        exact Changes.rfl
      · exact Changes.rfl
  · split
    · subst x1
      refine Changes.foldl _ (fun _ _ => ?_) _ _ ?_
      · refine Changes.via ?_ (State.modInst_changes ..) (by decide +kernel)
        exact Changes.rfl
      · exact Changes.rfl
    · split
      · subst x1
        refine Changes.foldl _ (fun _ _ => ?_) _ _ ?_
        · refine Changes.via ?_ (State.modInst_changes ..) (by decide +kernel)
          exact Changes.rfl
        · exact Changes.rfl
      · refine Changes.ite ?_ ?_
        · refine Changes.via ?_ (poolUpkeep_changes ..) (by decide +kernel)
          refine Changes.via ?_ (State.modMash_changes ..) (by decide +kernel)
          subst x1
          refine Changes.foldl _ (fun _ _ => ?_) _ _ ?_
          · refine Changes.via ?_ (State.modInst_changes ..) (by decide +kernel)
            exact Changes.rfl
          · exact Changes.rfl
        · refine Changes.via ?_ (poolUpkeep_changes ..) (by decide +kernel)
          refine Changes.via ?_ (dropBad_changes ..) (by decide +kernel)
          subst x1
          refine Changes.foldl _ (fun _ _ => ?_) _ _ ?_
          · refine Changes.via ?_ (State.modInst_changes ..) (by decide +kernel)
            exact Changes.rfl
          · exact Changes.rfl
theorem reconAnswer_changes (p a : Nat) (s : State) : Changes [.draws, .rings, .fab, .flt, .cnt, .out] s (reconAnswer p a s) := by
  unfold reconAnswer
  extract_lets x1 x2 x3
  split
  · refine Changes.via ?_ (sendPeer_changes ..) (by decide +kernel)
    exact Changes.rfl
  · refine Changes.via ?_ (sendPeer_changes ..) (by decide +kernel)
    exact Changes.rfl
  · refine Changes.via ?_ (sendPeer_changes ..) (by decide +kernel)
    exact Changes.rfl
theorem logResult_changes (p a : Nat) (r : ReconLog) (s : State) : Changes [.draws, .rings, .fab, .pair, .flt, .cnt, .out] s (logResult p a r s) := by
  unfold logResult
  extract_lets x1
  refine Changes.ite ?_ ?_
  · refine Changes.via ?_ (reconAnswer_changes ..) (by decide +kernel)
    refine Changes.via ?_ (State.modPpair_changes ..) (by decide +kernel)
    subst x1
    refine Changes.via ?_ (State.modPpair_changes ..) (by decide +kernel)
    exact Changes.rfl
  · subst x1
    refine Changes.via ?_ (State.modPpair_changes ..) (by decide +kernel)
    exact Changes.rfl
theorem stageTake_changes (p : Nat) (i : BridgeItem) (s : State) : Changes [.draws, .rings, .queue, .port, .tbl, .mash, .adm, .fab, .pair, .insts, .log, .flt, .cnt, .out] s (stageTake p i s) := by
  unfold stageTake
  extract_lets x1
  split
  · refine Changes.via ?_ (logResult_changes ..) (by decide +kernel)
    exact Changes.rfl
  · extract_lets x2 x3 x4 x5 x6
    refine Changes.ite ?_ ?_
    · refine Changes.ite ?_ ?_
      · subst x1
        dsimp -zeta only
        refine Changes.ite ?_ ?_
        · refine Changes.via ?_ (lastCell_changes ..) (by decide +kernel)
          refine Changes.via ?_ (State.modPpair_changes ..) (by decide +kernel)
          refine Changes.via ?_ (admitPunt_changes ..) (by decide +kernel)
          exact Changes.rfl
        · refine Changes.via ?_ (admitPunt_changes ..) (by decide +kernel)
          exact Changes.rfl
      · refine Changes.via ?_ (count_changes ..) (by decide +kernel)
        exact Changes.rfl
    · refine Changes.ite ?_ ?_
      · refine Changes.via ?_ (count_changes ..) (by decide +kernel)
        refine Changes.via ?_ (releaseRef_changes ..) (by decide +kernel)
        refine Changes.via ?_ (logResult_changes ..) (by decide +kernel)
        exact Changes.rfl
      · refine Changes.ite ?_ ?_
        · subst x1
          dsimp -zeta only
          refine Changes.ite ?_ ?_
          · refine Changes.via ?_ (lastCell_changes ..) (by decide +kernel)
            refine Changes.via ?_ (State.modPpair_changes ..) (by decide +kernel)
            refine Changes.via ?_ (admitForward_changes ..) (by decide +kernel)
            refine Changes.via ?_ (count_changes ..) (by decide +kernel)
            subst x6
            refine Changes.via ?_ (logResult_changes ..) (by decide +kernel)
            refine Changes.via ?_ (State.setTx_changes ..) (by decide +kernel)
            exact Changes.rfl
          · refine Changes.via ?_ (admitForward_changes ..) (by decide +kernel)
            refine Changes.via ?_ (count_changes ..) (by decide +kernel)
            subst x6
            refine Changes.via ?_ (logResult_changes ..) (by decide +kernel)
            refine Changes.via ?_ (State.setTx_changes ..) (by decide +kernel)
            exact Changes.rfl
        · subst x1
          dsimp -zeta only
          refine Changes.ite ?_ ?_
          · refine Changes.via ?_ (lastCell_changes ..) (by decide +kernel)
            refine Changes.via ?_ (State.modPpair_changes ..) (by decide +kernel)
            refine Changes.via ?_ (admitResult_changes ..) (by decide +kernel)
            subst x6
            refine Changes.via ?_ (logResult_changes ..) (by decide +kernel)
            refine Changes.via ?_ (State.setTx_changes ..) (by decide +kernel)
            exact Changes.rfl
          · refine Changes.via ?_ (admitResult_changes ..) (by decide +kernel)
            subst x6
            refine Changes.via ?_ (logResult_changes ..) (by decide +kernel)
            refine Changes.via ?_ (State.setTx_changes ..) (by decide +kernel)
            exact Changes.rfl
  · exact Changes.rfl
theorem nameCut_changes (p : Nat) (s : State) : Changes [.pair, .out] s (nameCut p s) := by
  unfold nameCut
  extract_lets x1 x2 x3
  split
  · exact Changes.rfl
  · extract_lets x4
    refine Changes.ite ?_ ?_
    · refine Changes.via ?_ (State.emit_changes ..) (by decide +kernel)
      refine Changes.via ?_ (State.modPpair_changes ..) (by decide +kernel)
      exact Changes.rfl
    · exact Changes.rfl
theorem stageRun_changes  (a0 : Nat) (a1 : Nat) (s : State) : Changes [.draws, .rings, .queue, .port, .tbl, .mash, .adm, .fab, .pair, .insts, .log, .flt, .cnt, .out] s (stageRun  a0 a1 s) := by
  induction a0 generalizing a1 s with
  | zero =>
    unfold stageRun
    exact Changes.rfl
  | succ a0 ih =>
    unfold stageRun
    extract_lets x1 x2 x3
    split
    · exact Changes.rfl
    · exact Changes.rfl
    · extract_lets x4 x5
      refine Changes.ite ?_ ?_
      · refine Changes.via ?_ (ih ..) (by decide +kernel)
        refine Changes.via ?_ (nameCut_changes ..) (by decide +kernel)
        refine Changes.via ?_ (stageTake_changes ..) (by decide +kernel)
        refine Changes.via ?_ (State.modPpair_changes ..) (by decide +kernel)
        exact Changes.rfl
      · refine Changes.ite ?_ ?_
        · refine Changes.via ?_ (count_changes ..) (by decide +kernel)
          refine Changes.via ?_ (sendPeer_changes ..) (by decide +kernel)
          subst x3
          refine Changes.via ?_ (State.modPpair_changes ..) (by decide +kernel)
          exact Changes.rfl
        · refine Changes.via ?_ (ih ..) (by decide +kernel)
          refine Changes.via ?_ (State.modPpair_changes ..) (by decide +kernel)
          exact Changes.rfl
theorem numberAll_changes (p : Nat) (s : State) : Changes [.draws, .rings, .queue, .port, .tbl, .mash, .adm, .fab, .pair, .insts, .log, .flt, .cnt, .out] s (numberAll p s) := by
  unfold numberAll
  refine Changes.via ?_ (stageRun_changes ..) (by decide +kernel)
  exact Changes.rfl

end Sys2Proof.Machine
end

