-- ==== Sys2Proof/Laws/RackOps.lean ====
section
/-! SUPPORT. What each operation of Machine/RackOps.lean can change. -/

set_option Elab.async false

namespace Sys2Proof.Machine

theorem State.modRack_changes (s : State) (f : Rack → Rack) : Changes [.rack] s (State.modRack s f) := by
  unfold State.modRack
  refine Changes.set_rack ?_ (by decide)
  exact Changes.rfl
theorem State.setStream_changes (s : State) (k : Nat) (t : Stream) : Changes [.rack] s (State.setStream s k t) := by
  unfold State.setStream
  refine Changes.via ?_ (State.modRack_changes ..) (by decide +kernel)
  exact Changes.rfl
theorem State.modStream_changes (s : State) (k : Nat) (f : Stream → Stream) : Changes [.rack] s (State.modStream s k f) := by
  unfold State.modStream
  refine Changes.via ?_ (State.setStream_changes ..) (by decide +kernel)
  exact Changes.rfl
theorem heardFrom_changes (src : Nat) (s : State) : Changes [.rack] s (heardFrom src s) := by
  unfold heardFrom
  refine Changes.via ?_ (State.modRack_changes ..) (by decide +kernel)
  exact Changes.rfl
theorem useCredit_changes (sp tc src : Nat) (s : State) : Changes [.fab] s (useCredit sp tc src s) := by
  unfold useCredit
  extract_lets x1 x2
  refine Changes.via ?_ (State.modFab_changes ..) (by decide +kernel)
  exact Changes.rfl
theorem ackStream_changes (k dest : Nat) (s : State) : Changes [.draws, .rings, .fab, .flt, .cnt, .out] s (ackStream k dest s) := by
  unfold ackStream
  extract_lets x1
  split
  · exact Changes.rfl
  · dsimp only
    refine Changes.via ?_ (sendEntry_changes ..) (by decide +kernel)
    exact Changes.rfl
theorem mapEgress_changes (f : EPkt → Option EPkt) (s : State) : Changes [.sch] s (mapEgress f s) := by
  unfold mapEgress
  refine Changes.via ?_ (State.modSch_changes ..) (by decide +kernel)
  exact Changes.rfl
theorem takePackets_changes  (a0 : Nat) (a1 : Nat) (a2 : Nat) (s : State) : Changes [.draws, .rings, .tbl, .fab, .rack, .sch, .pair, .flt, .cnt, .out] s (takePackets  a0 a1 a2 s) := by
  induction a0 generalizing a1 a2 s with
  | zero =>
    unfold takePackets
    exact Changes.rfl
  | succ a0 ih =>
    unfold takePackets
    extract_lets x1 x2 x3 x4 x5 x6 x7
    refine Changes.ite ?_ ?_
    · exact Changes.rfl
    · refine Changes.ite ?_ ?_
      · refine Changes.via ?_ (ih ..) (by decide +kernel)
        subst x5
        refine Changes.ite ?_ ?_
        · refine Changes.via ?_ (mapEgress_changes ..) (by decide +kernel)
          subst x4
          refine Changes.via ?_ (State.setStream_changes ..) (by decide +kernel)
          subst x3
          refine Changes.ite ?_ ?_
          · exact Changes.rfl
          · refine Changes.via ?_ (takeRef_changes ..) (by decide +kernel)
            exact Changes.rfl
        · refine Changes.via ?_ (egressRelease_changes ..) (by decide +kernel)
          subst x4
          refine Changes.via ?_ (State.setStream_changes ..) (by decide +kernel)
          subst x3
          refine Changes.ite ?_ ?_
          · exact Changes.rfl
          · refine Changes.via ?_ (takeRef_changes ..) (by decide +kernel)
            exact Changes.rfl
      · refine Changes.ite ?_ ?_
        · refine Changes.via ?_ (egressRelease_changes ..) (by decide +kernel)
          subst x7
          refine Changes.via ?_ (State.setStream_changes ..) (by decide +kernel)
          subst x3
          refine Changes.ite ?_ ?_
          · exact Changes.rfl
          · refine Changes.via ?_ (takeRef_changes ..) (by decide +kernel)
            exact Changes.rfl
        · subst x7
          refine Changes.via ?_ (State.setStream_changes ..) (by decide +kernel)
          subst x3
          refine Changes.ite ?_ ?_
          · exact Changes.rfl
          · refine Changes.via ?_ (takeRef_changes ..) (by decide +kernel)
            exact Changes.rfl
theorem releaseCell_changes (k n : Nat) (c : Cell) (s : State) : Changes [.draws, .rings, .tbl, .fab, .rack, .sch, .pair, .flt, .cnt, .out] s (releaseCell k n c s) := by
  unfold releaseCell
  extract_lets x1 x2 x3
  refine Changes.via ?_ (takePackets_changes ..) (by decide +kernel)
  refine Changes.via ?_ (State.setStream_changes ..) (by decide +kernel)
  exact Changes.rfl
theorem abortTx_changes (k seq : Nat) (s : State) : Changes [.out] s (abortTx k seq s) := by
  unfold abortTx
  refine Changes.foldS ?_ (fun _ _ => ?_)
  · exact Changes.rfl
  · refine Changes.ite ?_ ?_
    · refine Changes.via ?_ (State.emit_changes ..) (by decide +kernel)
      exact Changes.rfl
    · exact Changes.rfl
theorem passNumber_changes (k : Nat) (s : State) : Changes [.tbl, .rack, .sch, .out] s (passNumber k s) := by
  unfold passNumber
  extract_lets x1 x2 x3 x4
  refine Changes.ite ?_ ?_
  · refine Changes.via ?_ (State.setStream_changes ..) (by decide +kernel)
    exact Changes.rfl
  · refine Changes.ite ?_ ?_
    · refine Changes.via ?_ (releaseRef_changes ..) (by decide +kernel)
      subst x4
      refine Changes.ite ?_ ?_
      · refine Changes.via ?_ (mapEgress_changes ..) (by decide +kernel)
        refine Changes.via ?_ (abortTx_changes ..) (by decide +kernel)
        subst x3
        refine Changes.via ?_ (State.setStream_changes ..) (by decide +kernel)
        exact Changes.rfl
      · subst x3
        refine Changes.via ?_ (State.setStream_changes ..) (by decide +kernel)
        exact Changes.rfl
    · subst x4
      refine Changes.ite ?_ ?_
      · refine Changes.via ?_ (mapEgress_changes ..) (by decide +kernel)
        refine Changes.via ?_ (abortTx_changes ..) (by decide +kernel)
        subst x3
        refine Changes.via ?_ (State.setStream_changes ..) (by decide +kernel)
        exact Changes.rfl
      · subst x3
        refine Changes.via ?_ (State.setStream_changes ..) (by decide +kernel)
        exact Changes.rfl
theorem releaseRun_changes  (a0 : Nat) (a1 : Nat) (s : State) : Changes [.draws, .rings, .tbl, .fab, .rack, .sch, .pair, .flt, .cnt, .out] s (releaseRun  a0 a1 s) := by
  induction a0 generalizing a1 s with
  | zero =>
    unfold releaseRun
    exact Changes.rfl
  | succ a0 ih =>
    unfold releaseRun
    extract_lets x1
    split
    · exact Changes.rfl
    · split
      · exact Changes.rfl
      · extract_lets x2
        split
        · refine Changes.via ?_ (ih ..) (by decide +kernel)
          refine Changes.via ?_ (releaseCell_changes ..) (by decide +kernel)
          refine Changes.via ?_ (State.setStream_changes ..) (by decide +kernel)
          exact Changes.rfl
        · refine Changes.via ?_ (ih ..) (by decide +kernel)
          refine Changes.via ?_ (passNumber_changes ..) (by decide +kernel)
          refine Changes.via ?_ (State.setStream_changes ..) (by decide +kernel)
          exact Changes.rfl
        · exact Changes.rfl
theorem runStream_changes (k : Nat) (was : Bool) (s : State) : Changes [.draws, .rings, .tbl, .fab, .rack, .sch, .pair, .flt, .cnt, .out] s (runStream k was s) := by
  unfold runStream
  extract_lets x1 x2
  refine Changes.ite ?_ ?_
  · refine Changes.via ?_ (State.setStream_changes ..) (by decide +kernel)
    subst x1
    refine Changes.via ?_ (releaseRun_changes ..) (by decide +kernel)
    exact Changes.rfl
  · subst x1
    refine Changes.via ?_ (releaseRun_changes ..) (by decide +kernel)
    exact Changes.rfl
theorem pairedRun_changes (k : Nat) (s : State) : Changes [.draws, .rings, .tbl, .fab, .rack, .sch, .pair, .flt, .cnt, .out] s (pairedRun k s) := by
  unfold pairedRun
  extract_lets x1 x2 x3 x4
  refine Changes.via ?_ (runStream_changes ..) (by decide +kernel)
  refine Changes.via ?_ (State.setStream_changes ..) (by decide +kernel)
  subst x4
  refine Changes.ite ?_ ?_
  · exact Changes.rfl
  · refine Changes.via ?_ (count_changes ..) (by decide +kernel)
    exact Changes.rfl
theorem pairedAll_changes (sun : Option Nat) (s : State) : Changes [.draws, .rings, .tbl, .fab, .rack, .sch, .pair, .flt, .cnt, .out] s (pairedAll sun s) := by
  unfold pairedAll
  refine Changes.foldS ?_ (fun _ _ => ?_)
  · exact Changes.rfl
  · refine Changes.via ?_ (pairedRun_changes ..) (by decide +kernel)
    exact Changes.rfl
theorem diverge_changes (k n src : Nat) (s : State) : Changes [.draws, .rings, .fab, .flt, .cnt, .out] s (diverge k n src s) := by
  unfold diverge
  extract_lets x1 x2 x3 x4
  refine Changes.via ?_ (sendEntry_changes ..) (by decide +kernel)
  subst x4
  refine Changes.via ?_ (notify_changes ..) (by decide +kernel)
  subst x3
  refine Changes.via ?_ (count_changes ..) (by decide +kernel)
  exact Changes.rfl
theorem dupCell_changes (src : Nat) (s : State) : Changes [.rings, .cnt, .out] s (dupCell src s) := by
  unfold dupCell
  refine Changes.via ?_ (count_changes ..) (by decide +kernel)
  exact Changes.rfl
theorem fabricLoss_changes (n : Nat) (s : State) : Changes [.rings, .log, .cnt, .out] s (fabricLoss n s) := by
  unfold fabricLoss
  refine Changes.ite ?_ ?_
  · refine Changes.via ?_ (doubleLoss_changes ..) (by decide +kernel)
    exact Changes.rfl
  · refine Changes.via ?_ (discardUnder_changes ..) (by decide +kernel)
    exact Changes.rfl
theorem unpairedCell_changes (k : Nat) (c : Cell) (s : State) : Changes [.rings, .fab, .rack, .cnt, .out] s (unpairedCell k c s) := by
  unfold unpairedCell
  extract_lets x1 x2 x3
  split
  · refine Changes.ite ?_ ?_
    · subst x3
      dsimp -zeta only
      extract_lets x4
      refine Changes.via ?_ (useCredit_changes ..) (by decide +kernel)
      refine Changes.via ?_ (State.setStream_changes ..) (by decide +kernel)
      refine Changes.via ?_ (count_changes ..) (by decide +kernel)
      exact Changes.rfl
    · subst x3
      dsimp -zeta only
      extract_lets x5
      refine Changes.via ?_ (useCredit_changes ..) (by decide +kernel)
      refine Changes.via ?_ (State.setStream_changes ..) (by decide +kernel)
      exact Changes.rfl
  · subst x3
    dsimp -zeta only
    extract_lets x6
    refine Changes.via ?_ (useCredit_changes ..) (by decide +kernel)
    refine Changes.via ?_ (State.setStream_changes ..) (by decide +kernel)
    exact Changes.rfl
  · refine Changes.via ?_ (dupCell_changes ..) (by decide +kernel)
    exact Changes.rfl
theorem pairedCell_changes (k : Nat) (c : Cell) (s : State) : Changes [.draws, .rings, .fab, .rack, .flt, .cnt, .out] s (pairedCell k c s) := by
  unfold pairedCell
  extract_lets x1 x2 x3 x4 x5 x6
  refine Changes.ite ?_ ?_
  · refine Changes.via ?_ (dupCell_changes ..) (by decide +kernel)
    exact Changes.rfl
  · split
    · refine Changes.ite ?_ ?_
      · refine Changes.via ?_ (dupCell_changes ..) (by decide +kernel)
        subst x6
        dsimp -zeta only
        refine Changes.via ?_ (State.setStream_changes ..) (by decide +kernel)
        subst x4
        refine Changes.via ?_ (useCredit_changes ..) (by decide +kernel)
        exact Changes.rfl
      · subst x6
        dsimp -zeta only
        refine Changes.via ?_ (State.setStream_changes ..) (by decide +kernel)
        subst x4
        refine Changes.via ?_ (useCredit_changes ..) (by decide +kernel)
        exact Changes.rfl
    · refine Changes.ite ?_ ?_
      · refine Changes.via ?_ (count_changes ..) (by decide +kernel)
        subst x6
        dsimp -zeta only
        refine Changes.via ?_ (State.setStream_changes ..) (by decide +kernel)
        subst x4
        refine Changes.via ?_ (useCredit_changes ..) (by decide +kernel)
        exact Changes.rfl
      · refine Changes.ite ?_ ?_
        · refine Changes.via ?_ (diverge_changes ..) (by decide +kernel)
          subst x6
          dsimp -zeta only
          refine Changes.via ?_ (State.setStream_changes ..) (by decide +kernel)
          subst x4
          refine Changes.via ?_ (useCredit_changes ..) (by decide +kernel)
          exact Changes.rfl
        · refine Changes.via ?_ (diverge_changes ..) (by decide +kernel)
          subst x6
          dsimp -zeta only
          refine Changes.via ?_ (State.setStream_changes ..) (by decide +kernel)
          subst x4
          refine Changes.via ?_ (useCredit_changes ..) (by decide +kernel)
          exact Changes.rfl
theorem oldCell_changes (k : Nat) (c : Cell) (s : State) : Changes [.draws, .rings, .fab, .rack, .log, .flt, .cnt, .out] s (oldCell k c s) := by
  unfold oldCell
  extract_lets x1
  split
  · refine Changes.via ?_ (pairedCell_changes ..) (by decide +kernel)
    exact Changes.rfl
  · refine Changes.ite ?_ ?_
    · refine Changes.via ?_ (fabricLoss_changes ..) (by decide +kernel)
      refine Changes.via ?_ (count_changes ..) (by decide +kernel)
      refine Changes.via ?_ (State.setStream_changes ..) (by decide +kernel)
      exact Changes.rfl
    · refine Changes.via ?_ (dupCell_changes ..) (by decide +kernel)
      exact Changes.rfl
theorem windowError_changes (src sp tc seq : Nat) (s : State) : Changes [.rings, .cnt, .out] s (windowError src sp tc seq s) := by
  unfold windowError
  refine Changes.via ?_ (count_changes ..) (by decide +kernel)
  refine Changes.via ?_ (notify_changes ..) (by decide +kernel)
  exact Changes.rfl
theorem noteActive_changes (c : Cell) (s : State) : Changes [.rack] s (noteActive c s) := by
  unfold noteActive
  refine Changes.ite ?_ ?_
  · exact Changes.rfl
  · refine Changes.ite ?_ ?_
    · refine Changes.via ?_ (State.modRack_changes ..) (by decide +kernel)
      exact Changes.rfl
    · refine Changes.ite ?_ ?_
      · refine Changes.via ?_ (State.modRack_changes ..) (by decide +kernel)
        exact Changes.rfl
      · exact Changes.rfl
theorem rackCell_changes (c : Cell) (s : State) : Changes [.draws, .rings, .queue, .port, .tbl, .mash, .adm, .fab, .rack, .sch, .pair, .insts, .log, .flt, .cnt, .out] s (rackCell c s) := by
  unfold rackCell
  extract_lets x1 x2 x3 x4 x5 x6 x7 x8 x9 x10 x11 x12 x13 x14
  refine Changes.ite ?_ ?_
  · exact Changes.rfl
  · refine Changes.ite ?_ ?_
    · refine Changes.via ?_ (windowError_changes ..) (by decide +kernel)
      subst x8
      refine Changes.via ?_ (State.setStream_changes ..) (by decide +kernel)
      subst x2
      refine Changes.via ?_ (noteActive_changes ..) (by decide +kernel)
      exact Changes.rfl
    · refine Changes.foldS ?_ (fun _ _ => ?_)
      · subst x14
        refine Changes.ite ?_ ?_
        · refine Changes.via ?_ (pairedAll_changes ..) (by decide +kernel)
          subst x13
          refine Changes.ite ?_ ?_
          · refine Changes.via ?_ (pairedRun_changes ..) (by decide +kernel)
            subst x12
            refine Changes.ite ?_ ?_
            · refine Changes.via ?_ (oldCell_changes ..) (by decide +kernel)
              subst x8
              refine Changes.via ?_ (State.setStream_changes ..) (by decide +kernel)
              subst x2
              refine Changes.via ?_ (noteActive_changes ..) (by decide +kernel)
              exact Changes.rfl
            · subst x9
              dsimp -zeta only
              refine Changes.ite ?_ ?_
              · refine Changes.via ?_ (pairedCell_changes ..) (by decide +kernel)
                subst x8
                refine Changes.via ?_ (State.setStream_changes ..) (by decide +kernel)
                subst x2
                refine Changes.via ?_ (noteActive_changes ..) (by decide +kernel)
                exact Changes.rfl
              · refine Changes.via ?_ (unpairedCell_changes ..) (by decide +kernel)
                subst x8
                refine Changes.via ?_ (State.setStream_changes ..) (by decide +kernel)
                subst x2
                refine Changes.via ?_ (noteActive_changes ..) (by decide +kernel)
                exact Changes.rfl
          · refine Changes.via ?_ (runStream_changes ..) (by decide +kernel)
            subst x12
            refine Changes.ite ?_ ?_
            · refine Changes.via ?_ (oldCell_changes ..) (by decide +kernel)
              subst x8
              refine Changes.via ?_ (State.setStream_changes ..) (by decide +kernel)
              subst x2
              refine Changes.via ?_ (noteActive_changes ..) (by decide +kernel)
              exact Changes.rfl
            · subst x9
              dsimp -zeta only
              refine Changes.ite ?_ ?_
              · refine Changes.via ?_ (pairedCell_changes ..) (by decide +kernel)
                subst x8
                refine Changes.via ?_ (State.setStream_changes ..) (by decide +kernel)
                subst x2
                refine Changes.via ?_ (noteActive_changes ..) (by decide +kernel)
                exact Changes.rfl
              · refine Changes.via ?_ (unpairedCell_changes ..) (by decide +kernel)
                subst x8
                refine Changes.via ?_ (State.setStream_changes ..) (by decide +kernel)
                subst x2
                refine Changes.via ?_ (noteActive_changes ..) (by decide +kernel)
                exact Changes.rfl
        · subst x13
          refine Changes.ite ?_ ?_
          · refine Changes.via ?_ (pairedRun_changes ..) (by decide +kernel)
            subst x12
            refine Changes.ite ?_ ?_
            · refine Changes.via ?_ (oldCell_changes ..) (by decide +kernel)
              subst x8
              refine Changes.via ?_ (State.setStream_changes ..) (by decide +kernel)
              subst x2
              refine Changes.via ?_ (noteActive_changes ..) (by decide +kernel)
              exact Changes.rfl
            · subst x9
              dsimp -zeta only
              refine Changes.ite ?_ ?_
              · refine Changes.via ?_ (pairedCell_changes ..) (by decide +kernel)
                subst x8
                refine Changes.via ?_ (State.setStream_changes ..) (by decide +kernel)
                subst x2
                refine Changes.via ?_ (noteActive_changes ..) (by decide +kernel)
                exact Changes.rfl
              · refine Changes.via ?_ (unpairedCell_changes ..) (by decide +kernel)
                subst x8
                refine Changes.via ?_ (State.setStream_changes ..) (by decide +kernel)
                subst x2
                refine Changes.via ?_ (noteActive_changes ..) (by decide +kernel)
                exact Changes.rfl
          · refine Changes.via ?_ (runStream_changes ..) (by decide +kernel)
            subst x12
            refine Changes.ite ?_ ?_
            · refine Changes.via ?_ (oldCell_changes ..) (by decide +kernel)
              subst x8
              refine Changes.via ?_ (State.setStream_changes ..) (by decide +kernel)
              subst x2
              refine Changes.via ?_ (noteActive_changes ..) (by decide +kernel)
              exact Changes.rfl
            · subst x9
              dsimp -zeta only
              refine Changes.ite ?_ ?_
              · refine Changes.via ?_ (pairedCell_changes ..) (by decide +kernel)
                subst x8
                refine Changes.via ?_ (State.setStream_changes ..) (by decide +kernel)
                subst x2
                refine Changes.via ?_ (noteActive_changes ..) (by decide +kernel)
                exact Changes.rfl
              · refine Changes.via ?_ (unpairedCell_changes ..) (by decide +kernel)
                subst x8
                refine Changes.via ?_ (State.setStream_changes ..) (by decide +kernel)
                subst x2
                refine Changes.via ?_ (noteActive_changes ..) (by decide +kernel)
                exact Changes.rfl
      · refine Changes.via ?_ (ackStream_changes ..) (by decide +kernel)
        exact Changes.rfl
theorem pcrcFail_changes (plane : Nat) (s : State) : Changes [.draws, .rings, .log, .cnt, .out] s (pcrcFail plane s) := by
  unfold pcrcFail
  refine Changes.via ?_ (fault_changes ..) (by decide +kernel)
  refine Changes.via ?_ (count_changes ..) (by decide +kernel)
  exact Changes.rfl
theorem voidOne_changes (k src n : Nat) (s : State) : Changes [.rings, .fab, .rack, .cnt, .out] s (voidOne k src n s) := by
  unfold voidOne
  extract_lets x1 x2 x3 x4 x5 x6 x7
  refine Changes.ite ?_ ?_
  · refine Changes.via ?_ (windowError_changes ..) (by decide +kernel)
    exact Changes.rfl
  · refine Changes.ite ?_ ?_
    · refine Changes.via ?_ (dupCell_changes ..) (by decide +kernel)
      exact Changes.rfl
    · refine Changes.ite ?_ ?_
      · refine Changes.ite ?_ ?_
        · refine Changes.via ?_ (dupCell_changes ..) (by decide +kernel)
          exact Changes.rfl
        · refine Changes.via ?_ (State.setStream_changes ..) (by decide +kernel)
          subst x6
          refine Changes.ite ?_ ?_
          · exact Changes.rfl
          · refine Changes.via ?_ (useCredit_changes ..) (by decide +kernel)
            exact Changes.rfl
      · split
        · refine Changes.via ?_ (dupCell_changes ..) (by decide +kernel)
          exact Changes.rfl
        · refine Changes.via ?_ (dupCell_changes ..) (by decide +kernel)
          exact Changes.rfl
        · refine Changes.via ?_ (count_changes ..) (by decide +kernel)
          refine Changes.via ?_ (State.setStream_changes ..) (by decide +kernel)
          subst x7
          refine Changes.ite ?_ ?_
          · refine Changes.via ?_ (useCredit_changes ..) (by decide +kernel)
            exact Changes.rfl
          · exact Changes.rfl
theorem confirmOne_changes (k src n : Nat) (s : State) : Changes [.rings, .rack, .cnt, .out] s (confirmOne k src n s) := by
  unfold confirmOne
  extract_lets x1 x2 x3
  refine Changes.ite ?_ ?_
  · refine Changes.via ?_ (dupCell_changes ..) (by decide +kernel)
    exact Changes.rfl
  · split
    · refine Changes.via ?_ (State.setStream_changes ..) (by decide +kernel)
      exact Changes.rfl
    · refine Changes.via ?_ (State.setStream_changes ..) (by decide +kernel)
      exact Changes.rfl
    · refine Changes.via ?_ (dupCell_changes ..) (by decide +kernel)
      exact Changes.rfl
theorem rackToken_changes (kind src stream sp tc first n : Nat) (s : State) : Changes [.draws, .rings, .tbl, .fab, .rack, .sch, .pair, .flt, .cnt, .out] s (rackToken kind src stream sp tc first n s) := by
  unfold rackToken
  extract_lets x1 x2 x3 x4 x5
  refine Changes.ite ?_ ?_
  · refine Changes.via ?_ (dupCell_changes ..) (by decide +kernel)
    subst x2
    refine Changes.via ?_ (heardFrom_changes ..) (by decide +kernel)
    exact Changes.rfl
  · refine Changes.ite ?_ ?_
    · refine Changes.via ?_ (runStream_changes ..) (by decide +kernel)
      subst x5
      refine Changes.foldS ?_ (fun _ _ => ?_)
      · subst x4
        refine Changes.via ?_ (State.modStream_changes ..) (by decide +kernel)
        subst x2
        refine Changes.via ?_ (heardFrom_changes ..) (by decide +kernel)
        exact Changes.rfl
      · split
        · refine Changes.via ?_ (confirmOne_changes ..) (by decide +kernel)
          exact Changes.rfl
        · refine Changes.via ?_ (voidOne_changes ..) (by decide +kernel)
          exact Changes.rfl
    · refine Changes.via ?_ (pairedRun_changes ..) (by decide +kernel)
      subst x5
      refine Changes.foldS ?_ (fun _ _ => ?_)
      · subst x4
        refine Changes.via ?_ (State.modStream_changes ..) (by decide +kernel)
        subst x2
        refine Changes.via ?_ (heardFrom_changes ..) (by decide +kernel)
        exact Changes.rfl
      · split
        · refine Changes.via ?_ (confirmOne_changes ..) (by decide +kernel)
          exact Changes.rfl
        · refine Changes.via ?_ (voidOne_changes ..) (by decide +kernel)
          exact Changes.rfl
theorem skipNumber_changes (k n : Nat) (s : State) : Changes [.fab, .rack] s (skipNumber k n s) := by
  unfold skipNumber
  extract_lets x1 x2 x3 x4
  refine Changes.via ?_ (State.setStream_changes ..) (by decide +kernel)
  subst x4
  refine Changes.ite ?_ ?_
  · exact Changes.rfl
  · refine Changes.via ?_ (useCredit_changes ..) (by decide +kernel)
    exact Changes.rfl
theorem skipAll_changes  (a0 : Nat) (a1 : Nat) (s : State) : Changes [.draws, .rings, .tbl, .fab, .rack, .sch, .pair, .flt, .cnt, .out] s (skipAll  a0 a1 s) := by
  induction a0 generalizing a1 s with
  | zero =>
    unfold skipAll
    exact Changes.rfl
  | succ a0 ih =>
    unfold skipAll
    extract_lets x1
    split
    · exact Changes.rfl
    · refine Changes.ite ?_ ?_
      · refine Changes.via ?_ (passNumber_changes ..) (by decide +kernel)
        exact Changes.rfl
      · refine Changes.via ?_ (ih ..) (by decide +kernel)
        refine Changes.via ?_ (runStream_changes ..) (by decide +kernel)
        refine Changes.via ?_ (count_changes ..) (by decide +kernel)
        refine Changes.via ?_ (skipNumber_changes ..) (by decide +kernel)
        exact Changes.rfl
theorem absentStream_changes (k : Nat) (s : State) : Changes [.draws, .rings, .tbl, .fab, .rack, .sch, .pair, .flt, .cnt, .out] s (absentStream k s) := by
  unfold absentStream
  extract_lets x1 x2
  refine Changes.via ?_ (skipAll_changes ..) (by decide +kernel)
  refine Changes.via ?_ (runStream_changes ..) (by decide +kernel)
  subst x2
  refine Changes.ite ?_ ?_
  · refine Changes.via ?_ (State.setStream_changes ..) (by decide +kernel)
    exact Changes.rfl
  · exact Changes.rfl

end Sys2Proof.Machine
end

