-- ==== Sys2Proof/Laws/Squash.lean ====
section
/-! SUPPORT. What each operation of Machine/Squash.lean can change. -/

set_option Elab.async false

namespace Sys2Proof.Machine

theorem proceedUnknown_changes (p : Nat) (s : State) : Changes [.rings, .pair, .cnt, .out] s (proceedUnknown p s) := by
  unfold proceedUnknown
  refine Changes.via ?_ (leaveSync_changes ..) (by decide +kernel)
  refine Changes.via ?_ (State.modPpair_changes ..) (by decide +kernel)
  exact Changes.rfl
theorem numberItem_changes (p : Nat) (i : BridgeItem) (s : State) : Changes [.draws, .rings, .queue, .port, .tbl, .mash, .adm, .fab, .pair, .insts, .log, .flt, .cnt, .out] s (numberItem p i s) := by
  unfold numberItem
  extract_lets x1 x2
  refine Changes.via ?_ (numberAll_changes ..) (by decide +kernel)
  subst x2
  refine Changes.ite ?_ ?_
  · refine Changes.via ?_ (proceedUnknown_changes ..) (by decide +kernel)
    refine Changes.via ?_ (count_changes ..) (by decide +kernel)
    subst x1
    refine Changes.via ?_ (State.modPpair_changes ..) (by decide +kernel)
    exact Changes.rfl
  · subst x1
    refine Changes.via ?_ (State.modPpair_changes ..) (by decide +kernel)
    exact Changes.rfl
theorem popBridge_changes (p : Nat) (s : State) : Changes [.mash] s (popBridge p s) := by
  unfold popBridge
  extract_lets x1
  refine Changes.via ?_ (State.modMash_changes ..) (by decide +kernel)
  exact Changes.rfl
theorem execNoneToken_changes (port : Nat) (s : State) : ∃ t, execNoneToken port s = .next t ∧ Changes [.draws, .rings, .queue, .port, .tbl, .mash, .adm, .fab, .pair, .insts, .log, .flt, .cnt, .out] s t := by
  refine ⟨_, rfl, ?_⟩
  split
  · refine Changes.via ?_ (numberItem_changes ..) (by decide +kernel)
    refine Changes.via ?_ (popBridge_changes ..) (by decide +kernel)
    exact Changes.rfl
  · exact Changes.rfl
theorem execFrameLastCellWrite_changes (pkt : Nat) (s : State) : ∃ t, execFrameLastCellWrite pkt s = .next t ∧ Changes [.draws, .rings, .queue, .port, .tbl, .mash, .adm, .fab, .pair, .insts, .log, .flt, .cnt, .out] s t := by
  refine ⟨_, rfl, ?_⟩
  split
  · refine Changes.via ?_ (State.modPpair_changes ..) (by decide +kernel)
    exact Changes.rfl
  · refine Changes.via ?_ (lastCell_changes ..) (by decide +kernel)
    exact Changes.rfl
theorem sendResolution_changes (kind : Nat) (t : Trub) (s : State) : Changes [.draws, .rings, .fab, .flt, .cnt, .out] s (sendResolution kind t s) := by
  unfold sendResolution
  refine Changes.ite ?_ ?_
  · exact Changes.rfl
  · refine Changes.via ?_ (sendToken_changes ..) (by decide +kernel)
    exact Changes.rfl
theorem bindVoid_changes (from_ id : Nat) (s : State) : Changes [.tbl, .fab] s (bindVoid from_ id s) := by
  unfold bindVoid
  extract_lets x1
  refine Changes.via ?_ (freeWithdrawn_changes ..) (by decide +kernel)
  subst x1
  refine Changes.via ?_ (State.modFab_changes ..) (by decide +kernel)
  exact Changes.rfl
theorem withdraw_changes (t : Trub) (s : State) : Changes [.draws, .rings, .tbl, .adm, .fab, .flt, .cnt, .out] s (withdraw t s) := by
  unfold withdraw
  extract_lets x1 x2
  refine Changes.ite ?_ ?_
  · subst x2
    refine Changes.via ?_ (forgetCells_changes ..) (by decide +kernel)
    subst x1
    split
    · refine Changes.via ?_ (State.pullVpkt_changes ..) (by decide +kernel)
      exact Changes.rfl
    · exact Changes.rfl
  · refine Changes.via ?_ (bindVoid_changes ..) (by decide +kernel)
    refine Changes.via ?_ (sendResolution_changes ..) (by decide +kernel)
    subst x2
    refine Changes.via ?_ (forgetCells_changes ..) (by decide +kernel)
    subst x1
    split
    · refine Changes.via ?_ (State.pullVpkt_changes ..) (by decide +kernel)
      exact Changes.rfl
    · exact Changes.rfl
theorem holdCascaded_changes (i : Nat) (s : State) : Changes [.draws, .rings, .tbl, .mash, .adm, .fab, .flt, .cnt, .out] s (holdCascaded i s) := by
  unfold holdCascaded
  split
  · exact Changes.rfl
  · refine Changes.ite ?_ ?_
    · split
      · exact Changes.rfl
      · extract_lets x1 x2
        refine Changes.via ?_ (State.modMash_changes ..) (by decide +kernel)
        subst x1
        refine Changes.via ?_ (withdraw_changes ..) (by decide +kernel)
        exact Changes.rfl
    · exact Changes.rfl
theorem sliceDone_changes (v slice : Nat) (s : State) : Changes [.adm] s (sliceDone v slice s) := by
  unfold sliceDone
  refine Changes.via ?_ (State.modAdm_changes ..) (by decide +kernel)
  exact Changes.rfl
theorem takeAt_changes (p v : Nat) (s : State) : Changes [.mash, .adm] s (takeAt p v s) := by
  unfold takeAt
  refine Changes.via ?_ (popBridge_changes ..) (by decide +kernel)
  refine Changes.via ?_ (sliceDone_changes ..) (by decide +kernel)
  exact Changes.rfl
theorem takePrediction_changes (k : Pkt) (r : Res) (t : Nat) (s : State) : Changes [.draws, .rings, .queue, .port, .tbl, .mash, .adm, .fab, .insts, .log, .flt, .cnt, .out] s (takePrediction k r t s) := by
  unfold takePrediction
  extract_lets x1
  refine Changes.ite ?_ ?_
  · refine Changes.via ?_ (holdCascaded_changes ..) (by decide +kernel)
    subst x1
    refine Changes.via ?_ (admitProvisional_changes ..) (by decide +kernel)
    exact Changes.rfl
  · subst x1
    refine Changes.via ?_ (admitProvisional_changes ..) (by decide +kernel)
    exact Changes.rfl
theorem execResultAdmission_changes (port : Nat) (s : State) : ∃ t, execResultAdmission port s = .next t ∧ Changes [.draws, .rings, .queue, .port, .tbl, .mash, .adm, .fab, .pair, .insts, .log, .flt, .cnt, .out] s t := by
  refine ⟨_, rfl, ?_⟩
  split
  · refine Changes.ite ?_ ?_
    · refine Changes.via ?_ (numberItem_changes ..) (by decide +kernel)
      refine Changes.via ?_ (popBridge_changes ..) (by decide +kernel)
      exact Changes.rfl
    · refine Changes.ite ?_ ?_
      · refine Changes.via ?_ (admitResult_changes ..) (by decide +kernel)
        refine Changes.via ?_ (popBridge_changes ..) (by decide +kernel)
        exact Changes.rfl
      · extract_lets x1
        refine Changes.when ?_ ?_
        · exact Changes.rfl
        · refine Changes.via ?_ (admitResult_changes ..) (by decide +kernel)
          refine Changes.via ?_ (takeAt_changes ..) (by decide +kernel)
          exact Changes.rfl
  · extract_lets x2
    refine Changes.when ?_ ?_
    · exact Changes.rfl
    · refine Changes.via ?_ (takePrediction_changes ..) (by decide +kernel)
      refine Changes.via ?_ (takeAt_changes ..) (by decide +kernel)
      exact Changes.rfl
  · exact Changes.rfl
theorem holdAll_changes (way except_ : Nat) (s : State) : Changes [.draws, .rings, .tbl, .mash, .adm, .fab, .flt, .cnt, .out] s (holdAll way except_ s) := by
  unfold holdAll
  refine Changes.foldS ?_ (fun _ _ => ?_)
  · exact Changes.rfl
  · refine Changes.via ?_ (holdCascaded_changes ..) (by decide +kernel)
    exact Changes.rfl
theorem closeTrub_changes (i : Nat) (s : State) : Changes [.mash, .adm] s (closeTrub i s) := by
  unfold closeTrub
  split
  · exact Changes.rfl
  · extract_lets x1 x2
    refine Changes.ite ?_ ?_
    · refine Changes.via ?_ (State.setVoq_changes ..) (by decide +kernel)
      subst x1
      refine Changes.via ?_ (State.modMash_changes ..) (by decide +kernel)
      exact Changes.rfl
    · subst x1
      refine Changes.via ?_ (State.modMash_changes ..) (by decide +kernel)
      exact Changes.rfl
theorem confirmTest_changes (k : VPkt) (colour : Nat) (s : State) : Changes [.draws] s (confirmTest k colour s).2 := by
  unfold confirmTest
  refine Changes.ite_snd ?_ ?_
  · refine Changes.pair_snd ?_
    exact Changes.rfl
  · extract_lets x1
    refine Changes.ite_snd ?_ ?_
    · refine Changes.pair_snd ?_
      exact Changes.rfl
    · split
      · refine Changes.pair_snd ?_
        refine Changes.via ?_ (wredDrawn_changes ..) (by decide +kernel)
        exact Changes.rfl
      · refine Changes.pair_snd ?_
        refine Changes.via ?_ (wredDrawn_changes ..) (by decide +kernel)
        exact Changes.rfl
theorem applyConfirm_changes (i : Nat) (t : Trub) (colour : Nat) (policed : Bool) (s : State) : Changes [.draws, .rings, .queue, .port, .tbl, .mash, .adm, .fab, .insts, .log, .flt, .cnt, .out] s (applyConfirm i t colour policed s) := by
  unfold applyConfirm
  split
  · refine Changes.via ?_ (closeTrub_changes ..) (by decide +kernel)
    exact Changes.rfl
  · split
    · extract_lets x1
      refine Changes.via ?_ (poolUpkeep_changes ..) (by decide +kernel)
      refine Changes.via ?_ (releaseRef_changes ..) (by decide +kernel)
      refine Changes.via ?_ (countRefused_changes ..) (by decide +kernel)
      subst x1
      refine Changes.via ?_ (closeTrub_changes ..) (by decide +kernel)
      refine Changes.via ?_ (withdraw_changes ..) (by decide +kernel)
      refine Changes.of_pair (by assumption) ?_
      refine Changes.via ?_ (confirmTest_changes ..) (by decide +kernel)
      exact Changes.rfl
    · extract_lets x2 x3 x4
      refine Changes.via ?_ (poolUpkeep_changes ..) (by decide +kernel)
      refine Changes.via ?_ (countAdmitted_changes ..) (by decide +kernel)
      refine Changes.via ?_ (count_changes ..) (by decide +kernel)
      subst x4
      split
      · refine Changes.via ?_ (State.setVpkt_changes ..) (by decide +kernel)
        subst x3
        refine Changes.via ?_ (sendResolution_changes ..) (by decide +kernel)
        refine Changes.via ?_ (closeTrub_changes ..) (by decide +kernel)
        subst x2
        refine Changes.ite ?_ ?_
        · refine Changes.via ?_ (count_changes ..) (by decide +kernel)
          refine Changes.of_pair (by assumption) ?_
          refine Changes.via ?_ (confirmTest_changes ..) (by decide +kernel)
          exact Changes.rfl
        · refine Changes.of_pair (by assumption) ?_
          refine Changes.via ?_ (confirmTest_changes ..) (by decide +kernel)
          exact Changes.rfl
      · refine Changes.via ?_ (refDone_changes ..) (by decide +kernel)
        subst x3
        refine Changes.via ?_ (sendResolution_changes ..) (by decide +kernel)
        refine Changes.via ?_ (closeTrub_changes ..) (by decide +kernel)
        subst x2
        refine Changes.ite ?_ ?_
        · refine Changes.via ?_ (count_changes ..) (by decide +kernel)
          refine Changes.of_pair (by assumption) ?_
          refine Changes.via ?_ (confirmTest_changes ..) (by decide +kernel)
          exact Changes.rfl
        · refine Changes.of_pair (by assumption) ?_
          refine Changes.via ?_ (confirmTest_changes ..) (by decide +kernel)
          exact Changes.rfl
theorem squashed_changes (t : Trub) (k : VPkt) (s : State) : Changes [.rings, .cnt, .out] s (squashed t k s) := by
  unfold squashed
  refine Changes.ite ?_ ?_
  · exact Changes.rfl
  · refine Changes.via ?_ (count_changes ..) (by decide +kernel)
    exact Changes.rfl
theorem applyReadmit_changes (i : Nat) (t : Trub) (r : Res) (s : State) : Changes [.draws, .rings, .queue, .port, .tbl, .mash, .adm, .fab, .insts, .log, .flt, .cnt, .out] s (applyReadmit i t r s) := by
  unfold applyReadmit
  split
  · refine Changes.via ?_ (closeTrub_changes ..) (by decide +kernel)
    exact Changes.rfl
  · extract_lets x1 x2 x3
    refine Changes.via ?_ (admitResult_changes ..) (by decide +kernel)
    subst x3
    refine Changes.ite ?_ ?_
    · refine Changes.via ?_ (takeRef_changes ..) (by decide +kernel)
      subst x2
      refine Changes.via ?_ (releaseRef_changes ..) (by decide +kernel)
      refine Changes.via ?_ (squashed_changes ..) (by decide +kernel)
      subst x1
      refine Changes.via ?_ (closeTrub_changes ..) (by decide +kernel)
      refine Changes.via ?_ (withdraw_changes ..) (by decide +kernel)
      exact Changes.rfl
    · subst x2
      refine Changes.via ?_ (releaseRef_changes ..) (by decide +kernel)
      refine Changes.via ?_ (squashed_changes ..) (by decide +kernel)
      subst x1
      refine Changes.via ?_ (closeTrub_changes ..) (by decide +kernel)
      refine Changes.via ?_ (withdraw_changes ..) (by decide +kernel)
      exact Changes.rfl
theorem applyDiscard_changes (i : Nat) (t : Trub) (s : State) : Changes [.draws, .rings, .queue, .port, .tbl, .mash, .adm, .fab, .insts, .log, .flt, .cnt, .out] s (applyDiscard i t s) := by
  unfold applyDiscard
  split
  · refine Changes.via ?_ (closeTrub_changes ..) (by decide +kernel)
    exact Changes.rfl
  · extract_lets x1
    refine Changes.via ?_ (poolUpkeep_changes ..) (by decide +kernel)
    refine Changes.via ?_ (releaseRef_changes ..) (by decide +kernel)
    refine Changes.via ?_ (squashed_changes ..) (by decide +kernel)
    subst x1
    refine Changes.via ?_ (closeTrub_changes ..) (by decide +kernel)
    refine Changes.via ?_ (withdraw_changes ..) (by decide +kernel)
    exact Changes.rfl
theorem execResolutionTokenApply_changes (port : Nat) (s : State) : ∃ t, execResolutionTokenApply port s = .next t ∧ Changes [.draws, .rings, .queue, .port, .tbl, .mash, .adm, .fab, .insts, .log, .flt, .cnt, .out] s t := by
  refine ⟨_, rfl, ?_⟩
  split
  · split
    · refine Changes.via ?_ (popBridge_changes ..) (by decide +kernel)
      exact Changes.rfl
    · refine Changes.ite ?_ ?_
      · refine Changes.via ?_ (closeTrub_changes ..) (by decide +kernel)
        refine Changes.via ?_ (popBridge_changes ..) (by decide +kernel)
        exact Changes.rfl
      · refine Changes.via ?_ (applyConfirm_changes ..) (by decide +kernel)
        refine Changes.via ?_ (popBridge_changes ..) (by decide +kernel)
        exact Changes.rfl
  · split
    · refine Changes.via ?_ (popBridge_changes ..) (by decide +kernel)
      exact Changes.rfl
    · extract_lets x1
      refine Changes.ite ?_ ?_
      · refine Changes.via ?_ (closeTrub_changes ..) (by decide +kernel)
        subst x1
        refine Changes.via ?_ (holdAll_changes ..) (by decide +kernel)
        refine Changes.via ?_ (popBridge_changes ..) (by decide +kernel)
        exact Changes.rfl
      · refine Changes.via ?_ (applyReadmit_changes ..) (by decide +kernel)
        subst x1
        refine Changes.via ?_ (holdAll_changes ..) (by decide +kernel)
        refine Changes.via ?_ (popBridge_changes ..) (by decide +kernel)
        exact Changes.rfl
  · split
    · refine Changes.via ?_ (popBridge_changes ..) (by decide +kernel)
      exact Changes.rfl
    · extract_lets x2
      refine Changes.ite ?_ ?_
      · refine Changes.via ?_ (closeTrub_changes ..) (by decide +kernel)
        subst x2
        refine Changes.via ?_ (holdAll_changes ..) (by decide +kernel)
        refine Changes.via ?_ (popBridge_changes ..) (by decide +kernel)
        exact Changes.rfl
      · refine Changes.via ?_ (applyDiscard_changes ..) (by decide +kernel)
        subst x2
        refine Changes.via ?_ (holdAll_changes ..) (by decide +kernel)
        refine Changes.via ?_ (popBridge_changes ..) (by decide +kernel)
        exact Changes.rfl
  · exact Changes.rfl
theorem trubEcc_changes (index : Nat) (s : State) : Changes [.draws, .rings, .tbl, .mash, .adm, .fab, .log, .flt, .cnt, .out] s (trubEcc index s) := by
  unfold trubEcc
  split
  · exact Changes.rfl
  · extract_lets x1 x2
    refine Changes.foldS ?_ (fun _ _ => ?_)
    · subst x1
      refine Changes.via ?_ (count_changes ..) (by decide +kernel)
      refine Changes.via ?_ (fault_changes ..) (by decide +kernel)
      exact Changes.rfl
    · refine Changes.via ?_ (holdCascaded_changes ..) (by decide +kernel)
      refine Changes.via ?_ (cascadeOne_changes ..) (by decide +kernel)
      exact Changes.rfl
theorem execTrubEccError_changes (index : Nat) (s : State) : ∃ t, execTrubEccError index s = .next t ∧ Changes [.draws, .rings, .tbl, .mash, .adm, .fab, .log, .flt, .cnt, .out] s t := by
  refine ⟨_, rfl, ?_⟩
  refine Changes.via ?_ (trubEcc_changes ..) (by decide +kernel)
  exact Changes.rfl

end Sys2Proof.Machine
end

