-- ==== Sys2Proof/Laws/Send.lean ====
section
/-! SUPPORT. What each operation of Machine/Send.lean can change. -/

set_option Elab.async false

namespace Sys2Proof.Machine

theorem requestSend_changes (v : Nat) (s : State) : Changes [.draws, .rings, .adm, .fab, .flt, .cnt, .out] s (requestSend v s) := by
  unfold requestSend
  extract_lets x1 x2 x3 x4 x5 x6 x7
  refine Changes.ite ?_ ?_
  · refine Changes.foldS ?_ (fun _ _ => ?_)
    · subst x7
      refine Changes.via ?_ (State.modVoq_changes ..) (by decide +kernel)
      exact Changes.rfl
    · refine Changes.via ?_ (sendEntry_changes ..) (by decide +kernel)
      exact Changes.rfl
  · exact Changes.rfl
theorem execRequestSend_changes (voq : Nat) (s : State) : ∃ t, execRequestSend voq s = .next t ∧ Changes [.draws, .rings, .adm, .fab, .flt, .cnt, .out] s t := by
  refine ⟨_, rfl, ?_⟩
  refine Changes.via ?_ (requestSend_changes ..) (by decide +kernel)
  exact Changes.rfl
theorem creditEntry_changes (src sp tc cells : Nat) (s : State) : Changes [.adm, .rack] s (creditEntry src sp tc cells s) := by
  unfold creditEntry
  extract_lets x1
  refine Changes.ite ?_ ?_
  · refine Changes.via ?_ (State.modVoq_changes ..) (by decide +kernel)
    subst x1
    refine Changes.via ?_ (heardFrom_changes ..) (by decide +kernel)
    exact Changes.rfl
  · subst x1
    refine Changes.via ?_ (heardFrom_changes ..) (by decide +kernel)
    exact Changes.rfl
theorem execCreditEntry_changes (src sp tc cells : Nat) (s : State) : ∃ t, execCreditEntry src sp tc cells s = .next t ∧ Changes [.adm, .rack] s t := by
  refine ⟨_, rfl, ?_⟩
  refine Changes.when ?_ ?_
  · exact Changes.rfl
  · refine Changes.via ?_ (creditEntry_changes ..) (by decide +kernel)
    exact Changes.rfl
theorem launch_changes (v plane unit : Nat) (c : Cell) (pkts : List VPkt) (s : State) : Changes [.draws, .rings, .queue, .port, .adm, .fab, .insts, .log, .flt, .cnt, .out] s (launch v plane unit c pkts s) := by
  unfold launch
  extract_lets x1 x2 x3 x4
  refine Changes.via ?_ (poolUpkeep_changes ..) (by decide +kernel)
  refine Changes.via ?_ (sendCell_changes ..) (by decide +kernel)
  subst x4
  refine Changes.via ?_ (State.modVoq_changes ..) (by decide +kernel)
  subst x3
  refine Changes.via ?_ (State.modFab_changes ..) (by decide +kernel)
  exact Changes.rfl
theorem grantAlone_changes (v plane unit : Nat) (k : VPkt) (t : List VPkt) (s : State) : Changes [.draws, .rings, .queue, .port, .mash, .adm, .fab, .insts, .log, .flt, .cnt, .out] s (grantAlone v plane unit k t s) := by
  unfold grantAlone
  extract_lets x1 x2 x3
  dsimp only
  refine Changes.via ?_ (launch_changes ..) (by decide +kernel)
  refine Changes.via ?_ (State.setVoq_changes ..) (by decide +kernel)
  split
  · refine Changes.via ?_ (State.setTx_changes ..) (by decide +kernel)
    exact Changes.rfl
  · refine Changes.via ?_ (State.modMash_changes ..) (by decide +kernel)
    refine Changes.via ?_ (State.setTx_changes ..) (by decide +kernel)
    exact Changes.rfl
theorem grantShared_changes (v plane unit : Nat) (k : VPkt) (s : State) : Changes [.draws, .rings, .queue, .port, .adm, .fab, .insts, .log, .flt, .cnt, .out] s (grantShared v plane unit k s) := by
  unfold grantShared
  extract_lets x1 x2
  dsimp only
  refine Changes.via ?_ (launch_changes ..) (by decide +kernel)
  refine Changes.via ?_ (State.setVoq_changes ..) (by decide +kernel)
  refine Changes.via ?_ (State.setTx_changes ..) (by decide +kernel)
  exact Changes.rfl
theorem takePlane_changes (p : Nat) (s : State) : Changes [.fab] s (takePlane p s) := by
  unfold takePlane
  extract_lets x1
  refine Changes.via ?_ (State.modFab_changes ..) (by decide +kernel)
  exact Changes.rfl
theorem matcherGrant_changes (v plane : Nat) (s : State) : Changes [.draws, .rings, .queue, .port, .tbl, .mash, .adm, .fab, .insts, .log, .flt, .cnt, .out] s (matcherGrant v plane s) := by
  unfold matcherGrant
  extract_lets x1
  split
  · refine Changes.ite ?_ ?_
    · refine Changes.via ?_ (poolUpkeep_changes ..) (by decide +kernel)
      subst x1
      refine Changes.via ?_ (expireHeads_changes ..) (by decide +kernel)
      exact Changes.rfl
    · refine Changes.ite ?_ ?_
      · refine Changes.via ?_ (grantAlone_changes ..) (by decide +kernel)
        subst x1
        refine Changes.via ?_ (expireHeads_changes ..) (by decide +kernel)
        exact Changes.rfl
      · refine Changes.via ?_ (grantShared_changes ..) (by decide +kernel)
        subst x1
        refine Changes.via ?_ (expireHeads_changes ..) (by decide +kernel)
        exact Changes.rfl
  · refine Changes.via ?_ (poolUpkeep_changes ..) (by decide +kernel)
    subst x1
    refine Changes.via ?_ (expireHeads_changes ..) (by decide +kernel)
    exact Changes.rfl
theorem execMatcherGrant_changes (voq plane : Nat) (s : State) : ∃ t, execMatcherGrant voq plane s = .next t ∧ Changes [.draws, .rings, .queue, .port, .tbl, .mash, .adm, .fab, .insts, .log, .flt, .cnt, .out] s t := by
  refine ⟨_, rfl, ?_⟩
  extract_lets x1
  refine Changes.when ?_ ?_
  · exact Changes.rfl
  · refine Changes.via ?_ (matcherGrant_changes ..) (by decide +kernel)
    refine Changes.via ?_ (takePlane_changes ..) (by decide +kernel)
    refine Changes.via ?_ (State.modFab_changes ..) (by decide +kernel)
    exact Changes.rfl
theorem retentionSend_changes (c : RetCell) (plane dest : Nat) (s : State) : Changes [.draws, .rings, .adm, .fab, .flt, .cnt, .out] s (retentionSend c plane dest s) := by
  unfold retentionSend
  split
  · exact Changes.rfl
  · extract_lets x1 x2 x3 x4 x5 x6 x7 x8
    refine Changes.ite ?_ ?_
    · exact Changes.rfl
    · refine Changes.ite ?_ ?_
      · exact Changes.rfl
      · refine Changes.ite ?_ ?_
        · exact Changes.rfl
        · refine Changes.via ?_ (sendCell_changes ..) (by decide +kernel)
          subst x7
          refine Changes.via ?_ (takePlane_changes ..) (by decide +kernel)
          subst x6
          refine Changes.ite ?_ ?_
          · subst x5
            refine Changes.ite ?_ ?_
            · refine Changes.via ?_ (State.modVoq_changes ..) (by decide +kernel)
              subst x4
              refine Changes.via ?_ (State.setRet_changes ..) (by decide +kernel)
              exact Changes.rfl
            · subst x4
              refine Changes.via ?_ (State.setRet_changes ..) (by decide +kernel)
              exact Changes.rfl
          · refine Changes.via ?_ (count_changes ..) (by decide +kernel)
            refine Changes.via ?_ (State.modPlane_changes ..) (by decide +kernel)
            subst x5
            refine Changes.ite ?_ ?_
            · refine Changes.via ?_ (State.modVoq_changes ..) (by decide +kernel)
              subst x4
              refine Changes.via ?_ (State.setRet_changes ..) (by decide +kernel)
              exact Changes.rfl
            · subst x4
              refine Changes.via ?_ (State.setRet_changes ..) (by decide +kernel)
              exact Changes.rfl
theorem execRetentionSend_changes (cell plane dest : Nat) (s : State) : ∃ t, execRetentionSend cell plane dest s = .next t ∧ Changes [.draws, .rings, .adm, .fab, .flt, .cnt, .out] s t := by
  refine ⟨_, rfl, ?_⟩
  split
  · exact Changes.rfl
  · refine Changes.when ?_ ?_
    · exact Changes.rfl
    · refine Changes.via ?_ (retentionSend_changes ..) (by decide +kernel)
      exact Changes.rfl
theorem fabricWindows_changes (s : State) : Changes [.rings, .log, .cnt, .out] s (fabricWindows s) := by
  unfold fabricWindows
  refine Changes.foldS ?_ (fun _ _ => ?_)
  · exact Changes.rfl
  · extract_lets x1 x2
    refine Changes.ite ?_ ?_
    · exact Changes.rfl
    · refine Changes.via ?_ (endWindow_changes ..) (by decide +kernel)
      exact Changes.rfl
theorem ackEntry_changes (src : Nat) (control : Bool) (stream sp tc cum : Nat) (bm : Word) (s : State) : Changes [.rings, .tbl, .fab, .rack, .log, .cnt, .out] s (ackEntry src control stream sp tc cum bm s) := by
  unfold ackEntry
  extract_lets x1 x2
  refine Changes.via ?_ (fabricWindows_changes ..) (by decide +kernel)
  refine Changes.foldS ?_ (fun _ _ => ?_)
  · subst x1
    refine Changes.via ?_ (heardFrom_changes ..) (by decide +kernel)
    exact Changes.rfl
  · refine Changes.via ?_ (ackCell_changes ..) (by decide +kernel)
    exact Changes.rfl
theorem execAckEntry_changes (src : Nat) (control : Bool) (stream sp tc cum : Nat) (bitmap : Word) (s : State) : ∃ t, execAckEntry src control stream sp tc cum bitmap s = .next t ∧ Changes [.rings, .tbl, .fab, .rack, .log, .cnt, .out] s t := by
  refine ⟨_, rfl, ?_⟩
  refine Changes.via ?_ (ackEntry_changes ..) (by decide +kernel)
  exact Changes.rfl
theorem dropLost_changes (id : Nat) (s : State) : Changes [.mash, .adm] s (dropLost id s) := by
  unfold dropLost
  extract_lets x1
  refine Changes.via ?_ (State.modMash_changes ..) (by decide +kernel)
  subst x1
  split
  · refine Changes.via ?_ (State.pullVpkt_changes ..) (by decide +kernel)
    exact Changes.rfl
  · exact Changes.rfl
theorem dropSent_changes (ids : List Nat) (cells : List RetCell) (s : State) : Changes [.draws, .rings, .tbl, .mash, .adm, .fab, .flt, .cnt, .out] s (dropSent ids cells s) := by
  unfold dropSent
  extract_lets x1
  refine Changes.foldS ?_ (fun _ _ => ?_)
  · refine Changes.foldS ?_ (fun _ _ => ?_)
    · subst x1
      refine Changes.foldS ?_ (fun _ _ => ?_)
      · exact Changes.rfl
      · refine Changes.via ?_ (sendToken_changes ..) (by decide +kernel)
        exact Changes.rfl
    · refine Changes.via ?_ (dropLost_changes ..) (by decide +kernel)
      exact Changes.rfl
  · refine Changes.via ?_ (dropCell_changes ..) (by decide +kernel)
    exact Changes.rfl
theorem exhaust_changes (c : RetCell) (dest : Nat) (s : State) : Changes [.draws, .rings, .queue, .port, .tbl, .mash, .adm, .fab, .insts, .log, .flt, .cnt, .out] s (exhaust c dest s) := by
  unfold exhaust
  extract_lets x1 x2 x3 x4
  refine Changes.via ?_ (poolUpkeep_changes ..) (by decide +kernel)
  refine Changes.via ?_ (fabricLoss_changes ..) (by decide +kernel)
  refine Changes.via ?_ (fault_changes ..) (by decide +kernel)
  subst x4
  refine Changes.via ?_ (dropSent_changes ..) (by decide +kernel)
  subst x3
  refine Changes.via ?_ (notify_changes ..) (by decide +kernel)
  exact Changes.rfl
theorem noteTimeout_changes (plane dest : Nat) (s : State) : Changes [.draws, .rings, .fab, .log, .cnt, .out] s (noteTimeout plane dest s) := by
  unfold noteTimeout
  extract_lets x1 x2 x3 x4 x5
  refine Changes.ite ?_ ?_
  · refine Changes.via ?_ (fabricWindows_changes ..) (by decide +kernel)
    refine Changes.via ?_ (fault_changes ..) (by decide +kernel)
    refine Changes.via ?_ (count_changes ..) (by decide +kernel)
    subst x5
    refine Changes.via ?_ (notify_changes ..) (by decide +kernel)
    subst x4
    refine Changes.via ?_ (State.modFab_changes ..) (by decide +kernel)
    subst x3
    refine Changes.via ?_ (State.modPlane_changes ..) (by decide +kernel)
    exact Changes.rfl
  · refine Changes.via ?_ (State.modFab_changes ..) (by decide +kernel)
    subst x3
    refine Changes.via ?_ (State.modPlane_changes ..) (by decide +kernel)
    exact Changes.rfl
theorem ackTimeout_changes (c : RetCell) (dest n : Nat) (used : List Nat) (s : State) : Changes [.draws, .rings, .queue, .port, .tbl, .mash, .adm, .fab, .insts, .log, .flt, .cnt, .out] s (ackTimeout c dest n used s) := by
  unfold ackTimeout
  extract_lets x1
  refine Changes.ite ?_ ?_
  · refine Changes.via ?_ (exhaust_changes ..) (by decide +kernel)
    subst x1
    split
    · refine Changes.via ?_ (noteTimeout_changes ..) (by decide +kernel)
      exact Changes.rfl
    · exact Changes.rfl
  · refine Changes.via ?_ (enqueueRetx_changes ..) (by decide +kernel)
    refine Changes.via ?_ (State.setRet_changes ..) (by decide +kernel)
    subst x1
    split
    · refine Changes.via ?_ (noteTimeout_changes ..) (by decide +kernel)
      exact Changes.rfl
    · exact Changes.rfl
theorem execCellAckTimeout_changes (cell dest : Nat) (s : State) : ∃ t, execCellAckTimeout cell dest s = .next t ∧ Changes [.draws, .rings, .queue, .port, .tbl, .mash, .adm, .fab, .insts, .log, .flt, .cnt, .out] s t := by
  refine ⟨_, rfl, ?_⟩
  split
  · exact Changes.rfl
  · split
    · exact Changes.rfl
    · refine Changes.when ?_ ?_
      · exact Changes.rfl
      · refine Changes.via ?_ (ackTimeout_changes ..) (by decide +kernel)
        exact Changes.rfl
theorem execPlaneSuspectEnd_changes (plane sun : Nat) (s : State) : ∃ t, execPlaneSuspectEnd plane sun s = .next t ∧ Changes [.fab] s t := by
  refine ⟨_, rfl, ?_⟩
  split
  · exact Changes.rfl
  · refine Changes.when ?_ ?_
    · exact Changes.rfl
    · refine Changes.via ?_ (State.modFab_changes ..) (by decide +kernel)
      exact Changes.rfl

end Sys2Proof.Machine
end

