-- ==== Sys2Proof/Laws/Tbl.lean ====
section
/-! SUPPORT. What each operation of Machine/Tbl.lean can change. -/

set_option Elab.async false

namespace Sys2Proof.Machine

theorem bodyTblStage_changes (vi : Nat) (e : Entry) (s : State) : Changes [.rings, .tbl, .cnt, .out] s (bodyTblStage vi e s).st := by
  unfold bodyTblStage
  extract_lets x1 x2 x3
  dsimp only
  refine Changes.ite_st ?_ ?_
  · refine Changes.via ?_ (notPermitted_changes ..) (by decide +kernel)
    exact Changes.rfl
  · refine Changes.ite_st ?_ ?_
    · refine Changes.via ?_ (badLen_changes ..) (by decide +kernel)
      exact Changes.rfl
    · split
      · refine Changes.err_st ?_
        refine Changes.ite ?_ ?_
        · refine Changes.via ?_ (count_changes ..) (by decide +kernel)
          exact Changes.rfl
        · exact Changes.rfl
      · refine Changes.ok_st ?_
        refine Changes.via ?_ (capacityWarn_changes ..) (by decide +kernel)
        refine Changes.set_tbl ?_ (by with_reducible rfl) (by decide)
        exact Changes.rfl
theorem bodyTblAbort_changes (vi : Nat) (e : Entry) (s : State) : Changes [.rings, .tbl, .cnt, .out] s (bodyTblAbort vi e s).st := by
  unfold bodyTblAbort
  refine Changes.ite_st ?_ ?_
  · refine Changes.via ?_ (notPermitted_changes ..) (by decide +kernel)
    exact Changes.rfl
  · refine Changes.ok_st ?_
    refine Changes.via ?_ (capacityWarn_changes ..) (by decide +kernel)
    refine Changes.set_tbl ?_ (by with_reducible rfl) (by decide)
    exact Changes.rfl
theorem epochFull_changes (s : State) : Changes [.rings, .cnt, .out] s (epochFull s).st := by
  unfold epochFull
  refine Changes.err_st ?_
  refine Changes.via ?_ (count_changes ..) (by decide +kernel)
  exact Changes.rfl
theorem commitOrWait_changes (vi deadline : Nat) (wait : Bool) (s : State) : Changes [.rings, .epochs, .tbl, .pair, .cnt, .out] s (commitOrWait vi deadline wait s).st := by
  unfold commitOrWait
  refine Changes.ite_st ?_ ?_
  · refine Changes.via ?_ (commitNow_changes ..) (by decide +kernel)
    exact Changes.rfl
  · refine Changes.ite_st ?_ ?_
    · refine Changes.mk_st ?_
      exact Changes.rfl
    · refine Changes.via ?_ (epochFull_changes ..) (by decide +kernel)
      exact Changes.rfl
theorem bodyTblCommit_changes (vi : Nat) (e : Entry) (s : State) : Changes [.rings, .epochs, .tbl, .pair, .cnt, .out] s (bodyTblCommit vi e s).st := by
  unfold bodyTblCommit
  refine Changes.ite_st ?_ ?_
  · refine Changes.via ?_ (notPermitted_changes ..) (by decide +kernel)
    exact Changes.rfl
  · refine Changes.ite_st ?_ ?_
    · refine Changes.err_st ?_
      exact Changes.rfl
    · refine Changes.via ?_ (commitOrWait_changes ..) (by decide +kernel)
      exact Changes.rfl
theorem bodyTblRead_changes (vi : Nat) (e : Entry) (s : State) : Changes [.rings, .cnt, .out] s (bodyTblRead vi e s).st := by
  unfold bodyTblRead
  extract_lets x1 x2 x3 x4 x5 x6
  refine Changes.ite_st ?_ ?_
  · refine Changes.err_st ?_
    exact Changes.rfl
  · refine Changes.ite_st ?_ ?_
    · refine Changes.via ?_ (badReserved_changes ..) (by decide +kernel)
      exact Changes.rfl
    · refine Changes.ite_st ?_ ?_
      · refine Changes.via ?_ (notPermitted_changes ..) (by decide +kernel)
        exact Changes.rfl
      · subst x5
        split
        · refine Changes.err_st ?_
          exact Changes.rfl
        · split
          · refine Changes.read_st ?_
            exact Changes.rfl
          · refine Changes.ite_st ?_ ?_
            · refine Changes.via ?_ (badLen_changes ..) (by decide +kernel)
              exact Changes.rfl
            · refine Changes.read_st ?_
              exact Changes.rfl
theorem bodyTblPin_changes (vi : Nat) (e : Entry) (s : State) : Changes [.rings, .epochs, .tbl, .cnt, .out] s (bodyTblPin vi e s).st := by
  unfold bodyTblPin
  extract_lets x1 x2 x3 x4
  refine Changes.ite_st ?_ ?_
  · refine Changes.via ?_ (notPermitted_changes ..) (by decide +kernel)
    exact Changes.rfl
  · refine Changes.ite_st ?_ ?_
    · refine Changes.err_st ?_
      exact Changes.rfl
    · split
      · refine Changes.err_st ?_
        exact Changes.rfl
      · refine Changes.ite_st ?_ ?_
        · refine Changes.ok_st ?_
          subst x4
          dsimp -zeta only
          refine Changes.set_epochs ?_ (by decide) (by decide)
          exact Changes.rfl
        · refine Changes.ite_st ?_ ?_
          · refine Changes.ok_st ?_
            exact Changes.rfl
          · refine Changes.ite_st ?_ ?_
            · refine Changes.err_st ?_
              exact Changes.rfl
            · refine Changes.ok_st ?_
              subst x4
              dsimp -zeta only
              refine Changes.set_epochs ?_ (by decide) (by decide)
              exact Changes.rfl
theorem bodyTblDigest_changes (vi : Nat) (e : Entry) (s : State) : Changes [.rings, .cnt, .out] s (bodyTblDigest vi e s).st := by
  unfold bodyTblDigest
  extract_lets x1
  split
  · refine Changes.err_st ?_
    exact Changes.rfl
  · refine Changes.ite_st ?_ ?_
    · refine Changes.via ?_ (badLen_changes ..) (by decide +kernel)
      exact Changes.rfl
    · extract_lets x2 x3
      refine Changes.read_st ?_
      exact Changes.rfl
theorem bodyTblStatus_changes (vi : Nat) (e : Entry) (s : State) : Changes [] s (bodyTblStatus vi e s).st := by
  unfold bodyTblStatus
  extract_lets x1 x2
  refine Changes.read_st ?_
  exact Changes.rfl
theorem flushCache_changes (f : CEntry → Bool) (s : State) : Changes [.mash] s (flushCache f s) := by
  unfold flushCache
  refine Changes.set_mash ?_ (by decide)
  exact Changes.rfl
theorem bodyTblConfig_changes (vi : Nat) (e : Entry) (s : State) : Changes [.rings, .tbl, .mash, .sec, .cnt, .out] s (bodyTblConfig vi e s).st := by
  unfold bodyTblConfig
  extract_lets x1 x2 x3 x4 x5 x6 x7
  refine Changes.ite_st ?_ ?_
  · refine Changes.err_st ?_
    exact Changes.rfl
  · refine Changes.ite_st ?_ ?_
    · refine Changes.err_st ?_
      exact Changes.rfl
    · refine Changes.storing ?_ ?_ (by decide)
      · exact Changes.rfl
      · refine Changes.ok_st ?_
        refine Changes.via ?_ (capacityWarn_changes ..) (by decide +kernel)
        refine Changes.ite ?_ ?_
        · subst x7
          refine Changes.set_tbl ?_ (by with_reducible rfl) (by decide)
          exact Changes.rfl
        · refine Changes.via ?_ (flushCache_changes ..) (by decide +kernel)
          subst x7
          refine Changes.set_tbl ?_ (by with_reducible rfl) (by decide)
          exact Changes.rfl
theorem bodyTblRaConfig_changes (vi : Nat) (e : Entry) (s : State) : Changes [.tbl, .sec] s (bodyTblRaConfig vi e s).st := by
  unfold bodyTblRaConfig
  extract_lets x1 x2 x3 x4 x5 x6 x7
  refine Changes.ite_st ?_ ?_
  · refine Changes.err_st ?_
    exact Changes.rfl
  · refine Changes.ite_st ?_ ?_
    · refine Changes.err_st ?_
      exact Changes.rfl
    · refine Changes.storing ?_ ?_ (by decide)
      · exact Changes.rfl
      · refine Changes.ok_st ?_
        refine Changes.set_tbl ?_ (by with_reducible rfl) (by decide)
        exact Changes.rfl
theorem bodyTblRaFlush_changes (vi : Nat) (e : Entry) (s : State) : Changes [.mash] s (bodyTblRaFlush vi e s).st := by
  unfold bodyTblRaFlush
  extract_lets x1 x2
  refine Changes.ite_st ?_ ?_
  · refine Changes.err_st ?_
    exact Changes.rfl
  · refine Changes.ok_st ?_
    refine Changes.via ?_ (flushCache_changes ..) (by decide +kernel)
    exact Changes.rfl
theorem execTblStage_changes (vi : Nat) (io : HostIo) (s : State) : ∃ t, execTblStage vi io s = .next t ∧ Changes [.rings, .queue, .tbl, .pair, .cnt, .out] s t :=
  ⟨_, rfl, Changes.weaken (runCommand_changes _ _ _ _ _ (bodyTblStage_changes vi)) (by decide)⟩
theorem execTblCommit_changes (vi : Nat) (io : HostIo) (s : State) : ∃ t, execTblCommit vi io s = .next t ∧ Changes [.rings, .queue, .epochs, .tbl, .pair, .cnt, .out] s t :=
  ⟨_, rfl, Changes.weaken (runCommand_changes _ _ _ _ _ (bodyTblCommit_changes vi)) (by decide)⟩
theorem execTblAbort_changes (vi : Nat) (io : HostIo) (s : State) : ∃ t, execTblAbort vi io s = .next t ∧ Changes [.rings, .queue, .tbl, .pair, .cnt, .out] s t :=
  ⟨_, rfl, Changes.weaken (runCommand_changes _ _ _ _ _ (bodyTblAbort_changes vi)) (by decide)⟩
theorem execTblRead_changes (vi : Nat) (io : HostIo) (s : State) : ∃ t, execTblRead vi io s = .next t ∧ Changes [.rings, .queue, .pair, .cnt, .out] s t :=
  ⟨_, rfl, Changes.weaken (runCommand_changes _ _ _ _ _ (bodyTblRead_changes vi)) (by decide)⟩
theorem execTblPin_changes (vi : Nat) (io : HostIo) (s : State) : ∃ t, execTblPin vi io s = .next t ∧ Changes [.rings, .queue, .epochs, .tbl, .pair, .cnt, .out] s t :=
  ⟨_, rfl, Changes.weaken (runCommand_changes _ _ _ _ _ (bodyTblPin_changes vi)) (by decide)⟩
theorem execTblDigest_changes (vi : Nat) (io : HostIo) (s : State) : ∃ t, execTblDigest vi io s = .next t ∧ Changes [.rings, .queue, .pair, .cnt, .out] s t :=
  ⟨_, rfl, Changes.weaken (runCommand_changes _ _ _ _ _ (bodyTblDigest_changes vi)) (by decide)⟩
theorem execTblStatus_changes (vi : Nat) (io : HostIo) (s : State) : ∃ t, execTblStatus vi io s = .next t ∧ Changes [.rings, .queue, .pair, .cnt, .out] s t :=
  ⟨_, rfl, Changes.weaken (runCommand_changes _ _ _ _ _ (bodyTblStatus_changes vi)) (by decide)⟩
theorem execTblConfig_changes (vi : Nat) (io : HostIo) (s : State) : ∃ t, execTblConfig vi io s = .next t ∧ Changes [.rings, .queue, .tbl, .mash, .pair, .sec, .cnt, .out] s t :=
  ⟨_, rfl, Changes.weaken (runCommand_changes _ _ _ _ _ (bodyTblConfig_changes vi)) (by decide)⟩
theorem execTblRaConfig_changes (vi : Nat) (io : HostIo) (s : State) : ∃ t, execTblRaConfig vi io s = .next t ∧ Changes [.rings, .queue, .tbl, .pair, .sec, .cnt, .out] s t :=
  ⟨_, rfl, Changes.weaken (runCommand_changes _ _ _ _ _ (bodyTblRaConfig_changes vi)) (by decide)⟩
theorem execTblRaFlush_changes (vi : Nat) (io : HostIo) (s : State) : ∃ t, execTblRaFlush vi io s = .next t ∧ Changes [.rings, .queue, .mash, .pair, .cnt, .out] s t :=
  ⟨_, rfl, Changes.weaken (runCommand_changes _ _ _ _ _ (bodyTblRaFlush_changes vi)) (by decide)⟩
theorem execCommitWaitExpiry_changes (vi : Nat) (s : State) : ∃ t, execCommitWaitExpiry vi s = .next t ∧ Changes [.rings, .queue, .cnt, .out] s t := by
  refine ⟨_, rfl, ?_⟩
  split
  · exact Changes.rfl
  · extract_lets x1 x2 x3
    refine Changes.when ?_ ?_
    · exact Changes.rfl
    · refine Changes.ite ?_ ?_
      · refine Changes.set_queue ?_ (by with_reducible rfl) (by with_reducible rfl) (by decide)
        exact Changes.rfl
      · refine Changes.via ?_ (State.settled_changes ..) (by decide +kernel)
        refine Changes.via ?_ (finish_changes ..) (by decide +kernel)
        refine Changes.via ?_ (epochFull_changes ..) (by decide +kernel)
        subst x3
        refine Changes.set_queue ?_ (by with_reducible rfl) (by with_reducible rfl) (by decide)
        exact Changes.rfl
theorem execEpochRetire_changes (epoch : Nat) (s : State) : ∃ t, execEpochRetire epoch s = .next t ∧ Changes [.rings, .queue, .epochs, .tbl, .cnt, .out] s t := by
  refine ⟨_, rfl, ?_⟩
  split
  · exact Changes.rfl
  · refine Changes.when ?_ ?_
    · exact Changes.rfl
    · refine Changes.via ?_ (wake_changes ..) (by decide +kernel)
      refine Changes.via ?_ (capacityWarn_changes ..) (by decide +kernel)
      refine Changes.via ?_ (retireEpoch_changes ..) (by decide +kernel)
      exact Changes.rfl
theorem execEncapVersionRetire_changes (handle version : Nat) (s : State) : ∃ t, execEncapVersionRetire handle version s = .next t ∧ Changes [.rings, .tbl, .cnt, .out] s t := by
  refine ⟨_, rfl, ?_⟩
  split
  · exact Changes.rfl
  · refine Changes.when ?_ ?_
    · exact Changes.rfl
    · refine Changes.via ?_ (capacityWarn_changes ..) (by decide +kernel)
      refine Changes.set_tbl ?_ (by with_reducible rfl) (by decide)
      exact Changes.rfl

end Sys2Proof.Machine
end

