-- ==== Sys2Proof/Laws/Adm.lean ====
section
/-! SUPPORT. What each operation of Machine/Adm.lean can change. -/

set_option Elab.async false

namespace Sys2Proof.Machine

theorem admRange_changes (s : State) : Changes [] s (admRange s).st := by
  unfold admRange
  refine Changes.err_st ?_
  exact Changes.rfl
theorem State.modAdmCfg_changes (s : State) (f : AdmCfg → AdmCfg) : Changes [.adm] s (State.modAdmCfg s f) := by
  unfold State.modAdmCfg
  refine Changes.via ?_ (State.modAdm_changes ..) (by decide +kernel)
  exact Changes.rfl
theorem bodyAdmProfile_changes (vi : Nat) (e : Entry) (s : State) : Changes [.rings, .adm, .sec, .cnt, .out] s (bodyAdmProfile vi e s).st := by
  unfold bodyAdmProfile
  extract_lets x1 x2 x3 x4
  refine Changes.ite_st ?_ ?_
  · refine Changes.ite_st ?_ ?_
    · refine Changes.via ?_ (badLen_changes ..) (by decide +kernel)
      exact Changes.rfl
    · refine Changes.ite_st ?_ ?_
      · refine Changes.via ?_ (badReserved_changes ..) (by decide +kernel)
        exact Changes.rfl
      · refine Changes.ite_st ?_ ?_
        · refine Changes.via ?_ (admRange_changes ..) (by decide +kernel)
          exact Changes.rfl
        · refine Changes.storing ?_ ?_ (by decide)
          · exact Changes.rfl
          · refine Changes.ok_st ?_
            refine Changes.via ?_ (State.modAdmCfg_changes ..) (by decide +kernel)
            exact Changes.rfl
  · refine Changes.ite_st ?_ ?_
    · refine Changes.ite_st ?_ ?_
      · refine Changes.via ?_ (badLen_changes ..) (by decide +kernel)
        exact Changes.rfl
      · refine Changes.ite_st ?_ ?_
        · refine Changes.err_st ?_
          exact Changes.rfl
        · refine Changes.ite_st ?_ ?_
          · refine Changes.err_st ?_
            exact Changes.rfl
          · refine Changes.ite_st ?_ ?_
            · refine Changes.err_st ?_
              exact Changes.rfl
            · refine Changes.storing ?_ ?_ (by decide)
              · exact Changes.rfl
              · refine Changes.ok_st ?_
                refine Changes.via ?_ (State.modAdmCfg_changes ..) (by decide +kernel)
                exact Changes.rfl
    · refine Changes.via ?_ (admRange_changes ..) (by decide +kernel)
      exact Changes.rfl
theorem bodyAdmBind_changes (vi : Nat) (e : Entry) (s : State) : Changes [.adm, .sec] s (bodyAdmBind vi e s).st := by
  unfold bodyAdmBind
  extract_lets x1 x2 x3 x4 x5 x6
  refine Changes.ite_st ?_ ?_
  · refine Changes.via ?_ (admRange_changes ..) (by decide +kernel)
    exact Changes.rfl
  · refine Changes.ite_st ?_ ?_
    · refine Changes.err_st ?_
      exact Changes.rfl
    · refine Changes.storing ?_ ?_ (by decide)
      · exact Changes.rfl
      · refine Changes.ok_st ?_
        refine Changes.via ?_ (State.modAdmCfg_changes ..) (by decide +kernel)
        exact Changes.rfl
theorem bodyAdmClass_changes (vi : Nat) (e : Entry) (s : State) : Changes [.adm, .sec] s (bodyAdmClass vi e s).st := by
  unfold bodyAdmClass
  extract_lets x1 x2 x3
  refine Changes.ite_st ?_ ?_
  · refine Changes.via ?_ (admRange_changes ..) (by decide +kernel)
    exact Changes.rfl
  · refine Changes.ite_st ?_ ?_
    · refine Changes.err_st ?_
      exact Changes.rfl
    · refine Changes.storing ?_ ?_ (by decide)
      · exact Changes.rfl
      · refine Changes.ok_st ?_
        refine Changes.via ?_ (State.modAdmCfg_changes ..) (by decide +kernel)
        exact Changes.rfl
theorem bodyAdmPool_changes (vi : Nat) (e : Entry) (s : State) : Changes [.rings, .queue, .port, .adm, .insts, .sec, .log, .cnt, .out] s (bodyAdmPool vi e s).st := by
  unfold bodyAdmPool
  extract_lets x1 x2 x3 x4 x5 x6
  refine Changes.ite_st ?_ ?_
  · refine Changes.via ?_ (admRange_changes ..) (by decide +kernel)
    exact Changes.rfl
  · refine Changes.storing ?_ ?_ (by decide)
    · exact Changes.rfl
    · refine Changes.ok_st ?_
      refine Changes.via ?_ (poolUpkeep_changes ..) (by decide +kernel)
      subst x6
      refine Changes.via ?_ (State.modAdmCfg_changes ..) (by decide +kernel)
      exact Changes.rfl
theorem bodyAdmPfc_changes (vi : Nat) (e : Entry) (s : State) : Changes [.rings, .queue, .port, .adm, .insts, .sec, .log, .cnt, .out] s (bodyAdmPfc vi e s).st := by
  unfold bodyAdmPfc
  extract_lets x1 x2 x3 x4
  refine Changes.ite_st ?_ ?_
  · refine Changes.via ?_ (admRange_changes ..) (by decide +kernel)
    exact Changes.rfl
  · split
    · refine Changes.err_st ?_
      exact Changes.rfl
    · refine Changes.ite_st ?_ ?_
      · refine Changes.err_st ?_
        exact Changes.rfl
      · refine Changes.ite_st ?_ ?_
        · refine Changes.via ?_ (admRange_changes ..) (by decide +kernel)
          exact Changes.rfl
        · refine Changes.ite_st ?_ ?_
          · refine Changes.err_st ?_
            exact Changes.rfl
          · extract_lets x5
            refine Changes.storing ?_ ?_ (by decide)
            · exact Changes.rfl
            · refine Changes.ok_st ?_
              refine Changes.via ?_ (poolUpkeep_changes ..) (by decide +kernel)
              refine Changes.via ?_ (State.modAdmCfg_changes ..) (by decide +kernel)
              exact Changes.rfl
theorem bodyAdmQueueStatus_changes (vi : Nat) (e : Entry) (s : State) : Changes [.rings, .cnt, .out] s (bodyAdmQueueStatus vi e s).st := by
  unfold bodyAdmQueueStatus
  extract_lets x1 x2 x3 x4 x5
  refine Changes.ite_st ?_ ?_
  · refine Changes.via ?_ (admRange_changes ..) (by decide +kernel)
    exact Changes.rfl
  · refine Changes.ite_st ?_ ?_
    · refine Changes.via ?_ (notPermitted_changes ..) (by decide +kernel)
      exact Changes.rfl
    · refine Changes.read_st ?_
      exact Changes.rfl
theorem bodyAdmStatus_changes (vi : Nat) (e : Entry) (s : State) : Changes [] s (bodyAdmStatus vi e s).st := by
  unfold bodyAdmStatus
  extract_lets x1
  refine Changes.read_st ?_
  exact Changes.rfl
theorem execAdmProfile_changes (vi : Nat) (io : HostIo) (s : State) : ∃ t, execAdmProfile vi io s = .next t ∧ Changes [.rings, .queue, .adm, .pair, .sec, .cnt, .out] s t :=
  ⟨_, rfl, Changes.weaken (runCommand_changes _ _ _ _ _ (bodyAdmProfile_changes vi)) (by decide)⟩
theorem execAdmBind_changes (vi : Nat) (io : HostIo) (s : State) : ∃ t, execAdmBind vi io s = .next t ∧ Changes [.rings, .queue, .adm, .pair, .sec, .cnt, .out] s t :=
  ⟨_, rfl, Changes.weaken (runCommand_changes _ _ _ _ _ (bodyAdmBind_changes vi)) (by decide)⟩
theorem execAdmClass_changes (vi : Nat) (io : HostIo) (s : State) : ∃ t, execAdmClass vi io s = .next t ∧ Changes [.rings, .queue, .adm, .pair, .sec, .cnt, .out] s t :=
  ⟨_, rfl, Changes.weaken (runCommand_changes _ _ _ _ _ (bodyAdmClass_changes vi)) (by decide)⟩
theorem execAdmPool_changes (vi : Nat) (io : HostIo) (s : State) : ∃ t, execAdmPool vi io s = .next t ∧ Changes [.rings, .queue, .port, .adm, .pair, .insts, .sec, .log, .cnt, .out] s t :=
  ⟨_, rfl, Changes.weaken (runCommand_changes _ _ _ _ _ (bodyAdmPool_changes vi)) (by decide)⟩
theorem execAdmPfc_changes (vi : Nat) (io : HostIo) (s : State) : ∃ t, execAdmPfc vi io s = .next t ∧ Changes [.rings, .queue, .port, .adm, .pair, .insts, .sec, .log, .cnt, .out] s t :=
  ⟨_, rfl, Changes.weaken (runCommand_changes _ _ _ _ _ (bodyAdmPfc_changes vi)) (by decide)⟩
theorem execAdmQueueStatus_changes (vi : Nat) (io : HostIo) (s : State) : ∃ t, execAdmQueueStatus vi io s = .next t ∧ Changes [.rings, .queue, .pair, .cnt, .out] s t :=
  ⟨_, rfl, Changes.weaken (runCommand_changes _ _ _ _ _ (bodyAdmQueueStatus_changes vi)) (by decide)⟩
theorem execAdmStatus_changes (vi : Nat) (io : HostIo) (s : State) : ∃ t, execAdmStatus vi io s = .next t ∧ Changes [.rings, .queue, .pair, .cnt, .out] s t :=
  ⟨_, rfl, Changes.weaken (runCommand_changes _ _ _ _ _ (bodyAdmStatus_changes vi)) (by decide)⟩
theorem execSojournSweep_changes (voq : Nat) (s : State) : ∃ t, execSojournSweep voq s = .next t ∧ Changes [.draws, .rings, .queue, .port, .tbl, .adm, .fab, .insts, .log, .flt, .cnt, .out] s t := by
  refine ⟨_, rfl, ?_⟩
  refine Changes.when ?_ ?_
  · exact Changes.rfl
  · refine Changes.via ?_ (poolUpkeep_changes ..) (by decide +kernel)
    refine Changes.via ?_ (expireHeads_changes ..) (by decide +kernel)
    exact Changes.rfl
theorem execHbmMigration_changes (voq : Nat) (s : State) : ∃ t, execHbmMigration voq s = .next t ∧ Changes [.draws, .rings, .queue, .port, .tbl, .mash, .adm, .fab, .insts, .log, .flt, .cnt, .out] s t := by
  refine ⟨_, rfl, ?_⟩
  refine Changes.when ?_ ?_
  · exact Changes.rfl
  · split
    · exact Changes.rfl
    · extract_lets x1
      split
      · subst x1
        refine Changes.via ?_ (refillTokensHbm_changes ..) (by decide +kernel)
        exact Changes.rfl
      · refine Changes.ite ?_ ?_
        · subst x1
          refine Changes.via ?_ (refillTokensHbm_changes ..) (by decide +kernel)
          exact Changes.rfl
        · extract_lets x2 x3
          refine Changes.via ?_ (poolUpkeep_changes ..) (by decide +kernel)
          refine Changes.via ?_ (count_changes ..) (by decide +kernel)
          refine Changes.via ?_ (writeInjections_changes ..) (by decide +kernel)
          subst x3
          refine Changes.via ?_ (State.drawn_changes ..) (by decide +kernel)
          refine Changes.via ?_ (State.setVpkt_changes ..) (by decide +kernel)
          refine Changes.via ?_ (State.modAdm_changes ..) (by decide +kernel)
          subst x1
          refine Changes.via ?_ (refillTokensHbm_changes ..) (by decide +kernel)
          exact Changes.rfl
theorem rowCorrected_changes (stack pc row n : Nat) (s : State) : Changes [.rings, .adm, .cnt, .out] s (rowCorrected stack pc row n s) := by
  unfold rowCorrected
  extract_lets x1 x2
  refine Changes.ite ?_ ?_
  · exact Changes.rfl
  · refine Changes.ite ?_ ?_
    · refine Changes.via ?_ (bump_changes ..) (by decide +kernel)
      refine Changes.via ?_ (count_changes ..) (by decide +kernel)
      refine Changes.via ?_ (State.modAdm_changes ..) (by decide +kernel)
      exact Changes.rfl
    · refine Changes.via ?_ (State.modAdm_changes ..) (by decide +kernel)
      exact Changes.rfl
theorem hbmRead_changes (k : VPkt) (s : State) : Changes [.draws, .rings, .queue, .port, .tbl, .mash, .adm, .fab, .insts, .log, .flt, .cnt, .out] s (hbmRead k s) := by
  unfold hbmRead
  extract_lets x1 x2 x3
  dsimp only
  split
  · subst x3
    refine Changes.via ?_ (State.drawn_changes ..) (by decide +kernel)
    subst x2
    refine Changes.foldS ?_ (fun _ _ => ?_)
    · subst x1
      refine Changes.via ?_ (countSectors_changes ..) (by decide +kernel)
      exact Changes.rfl
    · refine Changes.via ?_ (bump_changes ..) (by decide +kernel)
      refine Changes.via ?_ (count_changes ..) (by decide +kernel)
      exact Changes.rfl
  · refine Changes.via ?_ (sectorsBad_changes ..) (by decide +kernel)
    refine Changes.ite ?_ ?_
    · subst x3
      refine Changes.via ?_ (State.drawn_changes ..) (by decide +kernel)
      subst x2
      refine Changes.foldS ?_ (fun _ _ => ?_)
      · subst x1
        refine Changes.via ?_ (countSectors_changes ..) (by decide +kernel)
        exact Changes.rfl
      · refine Changes.via ?_ (bump_changes ..) (by decide +kernel)
        refine Changes.via ?_ (count_changes ..) (by decide +kernel)
        exact Changes.rfl
    · refine Changes.via ?_ (rowCorrected_changes ..) (by decide +kernel)
      refine Changes.via ?_ (bump_changes ..) (by decide +kernel)
      refine Changes.via ?_ (count_changes ..) (by decide +kernel)
      subst x3
      refine Changes.via ?_ (State.drawn_changes ..) (by decide +kernel)
      subst x2
      refine Changes.foldS ?_ (fun _ _ => ?_)
      · subst x1
        refine Changes.via ?_ (countSectors_changes ..) (by decide +kernel)
        exact Changes.rfl
      · refine Changes.via ?_ (bump_changes ..) (by decide +kernel)
        refine Changes.via ?_ (count_changes ..) (by decide +kernel)
        exact Changes.rfl
theorem execHbmPrefetch_changes (voq : Nat) (s : State) : ∃ t, execHbmPrefetch voq s = .next t ∧ Changes [.draws, .rings, .queue, .port, .tbl, .mash, .adm, .fab, .insts, .log, .flt, .cnt, .out] s t := by
  refine ⟨_, rfl, ?_⟩
  refine Changes.when ?_ ?_
  · exact Changes.rfl
  · split
    · exact Changes.rfl
    · extract_lets x1 x2
      refine Changes.ite ?_ ?_
      · subst x1
        refine Changes.via ?_ (refillTokensHbm_changes ..) (by decide +kernel)
        exact Changes.rfl
      · refine Changes.via ?_ (poolUpkeep_changes ..) (by decide +kernel)
        refine Changes.via ?_ (State.setVpkt_changes ..) (by decide +kernel)
        subst x2
        refine Changes.via ?_ (hbmRead_changes ..) (by decide +kernel)
        refine Changes.via ?_ (State.modAdm_changes ..) (by decide +kernel)
        subst x1
        refine Changes.via ?_ (refillTokensHbm_changes ..) (by decide +kernel)
        exact Changes.rfl
theorem loseQueued_changes (id : Nat) (s : State) : Changes [.draws, .rings, .port, .tbl, .mash, .adm, .fab, .pair, .insts, .flt, .cnt, .out] s (loseQueued id s).2 := by
  unfold loseQueued
  split
  · refine Changes.pair_snd ?_
    refine Changes.via ?_ (dropBad_changes ..) (by decide +kernel)
    refine Changes.via ?_ (State.pullVpkt_changes ..) (by decide +kernel)
    exact Changes.rfl
  · split
    · refine Changes.pair_snd ?_
      refine Changes.via ?_ (dropBad_changes ..) (by decide +kernel)
      exact Changes.rfl
    · refine Changes.ite_snd ?_ ?_
      · refine Changes.pair_snd ?_
        refine Changes.foldS ?_ (fun _ _ => ?_)
        · exact Changes.rfl
        · refine Changes.via ?_ (State.modInst_changes ..) (by decide +kernel)
          exact Changes.rfl
      · split
        · refine Changes.pair_snd ?_
          exact Changes.rfl
        · extract_lets x1
          refine Changes.pair_snd ?_
          refine Changes.via ?_ (releaseRef_changes ..) (by decide +kernel)
          refine Changes.via ?_ (State.modPpair_changes ..) (by decide +kernel)
          exact Changes.rfl
theorem loseEgress_changes (stream seq : Nat) (s : State) : Changes [.draws, .rings, .tbl, .fab, .rack, .sch, .pair, .flt, .cnt, .out] s (loseEgress stream seq s).2 := by
  unfold loseEgress
  extract_lets x1 x2 x3 x4
  split
  · refine Changes.pair_snd ?_
    refine Changes.via ?_ (runStream_changes ..) (by decide +kernel)
    subst x2
    refine Changes.via ?_ (State.modStream_changes ..) (by decide +kernel)
    exact Changes.rfl
  · split
    · refine Changes.pair_snd ?_
      exact Changes.rfl
    · refine Changes.pair_snd ?_
      refine Changes.via ?_ (releaseRef_changes ..) (by decide +kernel)
      refine Changes.via ?_ (mapEgress_changes ..) (by decide +kernel)
      exact Changes.rfl
theorem loseStored_changes (id : Nat) (s : State) : Changes [.draws, .rings, .port, .tbl, .mash, .adm, .fab, .rack, .sch, .pair, .insts, .flt, .cnt, .out] s (loseStored id s).2 := by
  unfold loseStored
  refine Changes.ite_snd ?_ ?_
  · dsimp only
    refine Changes.via ?_ (loseEgress_changes ..) (by decide +kernel)
    exact Changes.rfl
  · refine Changes.ite_snd ?_ ?_
    · extract_lets x1
      refine Changes.pair_snd ?_
      refine Changes.via ?_ (dropSent_changes ..) (by decide +kernel)
      exact Changes.rfl
    · dsimp only
      refine Changes.via ?_ (loseQueued_changes ..) (by decide +kernel)
      exact Changes.rfl
theorem execCaskScrub_changes (corrected : Nat) (bad : List Nat) (s : State) : ∃ t, execCaskScrub corrected bad s = .next t ∧ Changes [.draws, .rings, .queue, .port, .tbl, .mash, .adm, .fab, .rack, .sch, .pair, .insts, .log, .flt, .cnt, .out] s t := by
  refine ⟨_, rfl, ?_⟩
  extract_lets x1
  refine Changes.via ?_ (poolUpkeep_changes ..) (by decide +kernel)
  refine Changes.foldS ?_ (fun _ _ => ?_)
  · subst x1
    refine Changes.ite ?_ ?_
    · exact Changes.rfl
    · refine Changes.via ?_ (count_changes ..) (by decide +kernel)
      exact Changes.rfl
  · extract_lets x2
    dsimp only
    refine Changes.via ?_ (discardUnder_changes ..) (by decide +kernel)
    refine Changes.via ?_ (loseStored_changes ..) (by decide +kernel)
    subst x2
    refine Changes.via ?_ (count_changes ..) (by decide +kernel)
    refine Changes.via ?_ (fault_changes ..) (by decide +kernel)
    exact Changes.rfl
theorem execHbmPcFail_changes (stack pc cause : Nat) (s : State) : ∃ t, execHbmPcFail stack pc cause s = .next t ∧ Changes [.draws, .rings, .queue, .port, .tbl, .mash, .adm, .fab, .insts, .log, .flt, .cnt, .out] s t := by
  refine ⟨_, rfl, ?_⟩
  refine Changes.when ?_ ?_
  · exact Changes.rfl
  · refine Changes.via ?_ (pcFail_changes ..) (by decide +kernel)
    exact Changes.rfl
theorem execHbmPcClear_changes (stack pc : Nat) (s : State) : ∃ t, execHbmPcClear stack pc s = .next t ∧ Changes [.rings, .adm, .log, .cnt, .out] s t := by
  refine ⟨_, rfl, ?_⟩
  split
  · exact Changes.rfl
  · refine Changes.when ?_ ?_
    · exact Changes.rfl
    · refine Changes.via ?_ (endWindow_changes ..) (by decide +kernel)
      refine Changes.via ?_ (notify_changes ..) (by decide +kernel)
      refine Changes.via ?_ (State.modAdm_changes ..) (by decide +kernel)
      exact Changes.rfl
theorem execHbmStackFail_changes (stack : Nat) (s : State) : ∃ t, execHbmStackFail stack s = .next t ∧ Changes [.draws, .rings, .queue, .port, .tbl, .mash, .adm, .fab, .insts, .log, .flt, .cnt, .out] s t := by
  refine ⟨_, rfl, ?_⟩
  refine Changes.when ?_ ?_
  · exact Changes.rfl
  · refine Changes.via ?_ (stackFail_changes ..) (by decide +kernel)
    exact Changes.rfl

end Sys2Proof.Machine
end

