-- ==== Sys2Proof/Laws/Asa.lean ====
section
/-! SUPPORT. What each operation of Machine/Asa.lean can change. -/

set_option Elab.async false

namespace Sys2Proof.Machine

theorem repay_changes (n : Nat) (s : State) : Changes [.asa] s (repay n s) := by
  unfold repay
  refine Changes.set_asa ?_ (by decide)
  exact Changes.rfl
theorem bodyAsaRegion_changes (vi : Nat) (e : Entry) (s : State) : Changes [.rings, .asa, .cnt, .pwr, .out] s (bodyAsaRegion vi e s).st := by
  unfold bodyAsaRegion
  extract_lets x1 x2 x3 x4 x5 x6 x7
  refine Changes.ite_st ?_ ?_
  · refine Changes.via ?_ (notPermitted_changes ..) (by decide +kernel)
    exact Changes.rfl
  · refine Changes.ite_st ?_ ?_
    · refine Changes.err_st ?_
      exact Changes.rfl
    · refine Changes.ite_st ?_ ?_
      · refine Changes.via ?_ (badLen_changes ..) (by decide +kernel)
        exact Changes.rfl
      · refine Changes.ite_st ?_ ?_
        · refine Changes.ite_st ?_ ?_
          · refine Changes.err_st ?_
            exact Changes.rfl
          · refine Changes.ite_st ?_ ?_
            · refine Changes.err_st ?_
              exact Changes.rfl
            · split
              · refine Changes.err_st ?_
                exact Changes.rfl
              · subst x6
                dsimp -zeta only
                refine Changes.ok_st ?_
                refine Changes.via ?_ (asaPower_changes ..) (by decide +kernel)
                refine Changes.via ?_ (count_changes ..) (by decide +kernel)
                refine Changes.via ?_ (State.setRegion_changes ..) (by decide +kernel)
                exact Changes.rfl
        · split
          · refine Changes.err_st ?_
            exact Changes.rfl
          · refine Changes.ite_st ?_ ?_
            · refine Changes.ite_st ?_ ?_
              · refine Changes.err_st ?_
                exact Changes.rfl
              · refine Changes.ok_st ?_
                refine Changes.via ?_ (asaPower_changes ..) (by decide +kernel)
                refine Changes.via ?_ (repay_changes ..) (by decide +kernel)
                refine Changes.set_asa ?_ (by decide)
                exact Changes.rfl
            · refine Changes.ite_st ?_ ?_
              · split
                · refine Changes.err_st ?_
                  exact Changes.rfl
                · subst x6
                  dsimp -zeta only
                  refine Changes.ok_st ?_
                  refine Changes.via ?_ (asaPower_changes ..) (by decide +kernel)
                  refine Changes.via ?_ (count_changes ..) (by decide +kernel)
                  refine Changes.via ?_ (State.setRegion_changes ..) (by decide +kernel)
                  exact Changes.rfl
              · refine Changes.ite_st ?_ ?_
                · refine Changes.err_st ?_
                  exact Changes.rfl
                · extract_lets x8
                  split
                  · refine Changes.err_st ?_
                    exact Changes.rfl
                  · subst x6
                    dsimp -zeta only
                    refine Changes.ok_st ?_
                    refine Changes.via ?_ (asaPower_changes ..) (by decide +kernel)
                    refine Changes.via ?_ (count_changes ..) (by decide +kernel)
                    refine Changes.via ?_ (State.setRegion_changes ..) (by decide +kernel)
                    refine Changes.via ?_ (repay_changes ..) (by decide +kernel)
                    exact Changes.rfl
theorem bodyAsaProfile_changes (vi : Nat) (e : Entry) (s : State) : Changes [.rings, .asa, .cnt, .out] s (bodyAsaProfile vi e s).st := by
  unfold bodyAsaProfile
  extract_lets x1 x2 x3 x4 x5 x6 x7
  refine Changes.ite_st ?_ ?_
  · refine Changes.via ?_ (notPermitted_changes ..) (by decide +kernel)
    exact Changes.rfl
  · refine Changes.ite_st ?_ ?_
    · refine Changes.err_st ?_
      exact Changes.rfl
    · refine Changes.ite_st ?_ ?_
      · refine Changes.ite_st ?_ ?_
        · refine Changes.err_st ?_
          exact Changes.rfl
        · refine Changes.ite_st ?_ ?_
          · refine Changes.err_st ?_
            exact Changes.rfl
          · refine Changes.ok_st ?_
            refine Changes.set_asa ?_ (by decide)
            exact Changes.rfl
      · refine Changes.ite_st ?_ ?_
        · refine Changes.err_st ?_
          exact Changes.rfl
        · split
          · refine Changes.err_st ?_
            exact Changes.rfl
          · refine Changes.ite_st ?_ ?_
            · refine Changes.err_st ?_
              exact Changes.rfl
            · refine Changes.ite_st ?_ ?_
              · refine Changes.err_st ?_
                exact Changes.rfl
              · refine Changes.ok_st ?_
                refine Changes.set_asa ?_ (by decide)
                exact Changes.rfl
theorem holdOldRegions_changes (s : State) : Changes [.pair] s (holdOldRegions s) := by
  unfold holdOldRegions
  refine Changes.foldS ?_ (fun _ _ => ?_)
  · exact Changes.rfl
  · refine Changes.set_pair ?_ (by decide)
    exact Changes.rfl
theorem bodyAsaWrite_changes (vi : Nat) (e : Entry) (s : State) : Changes [.rings, .asa, .pair, .cnt, .out] s (bodyAsaWrite vi e s).st := by
  unfold bodyAsaWrite
  extract_lets x1 x2 x3
  dsimp only
  refine Changes.ite_st ?_ ?_
  · refine Changes.via ?_ (badLen_changes ..) (by decide +kernel)
    exact Changes.rfl
  · refine Changes.ite_st ?_ ?_
    · refine Changes.via ?_ (notPermitted_changes ..) (by decide +kernel)
      exact Changes.rfl
    · split
      · refine Changes.err_st ?_
        exact Changes.rfl
      · refine Changes.mk_st ?_
        refine Changes.foldS ?_ (fun _ _ => ?_)
        · refine Changes.via ?_ (count_changes ..) (by decide +kernel)
          refine Changes.set_asa ?_ (by decide)
          subst x2
          refine Changes.via ?_ (holdOldRegions_changes ..) (by decide +kernel)
          exact Changes.rfl
        · refine Changes.via ?_ (count_changes ..) (by decide +kernel)
          refine Changes.via ?_ (notify_changes ..) (by decide +kernel)
          exact Changes.rfl
theorem bodyAsaRead_changes (vi : Nat) (e : Entry) (s : State) : Changes [.rings, .cnt, .out] s (bodyAsaRead vi e s).st := by
  unfold bodyAsaRead
  extract_lets x1
  refine Changes.ite_st ?_ ?_
  · refine Changes.via ?_ (notPermitted_changes ..) (by decide +kernel)
    exact Changes.rfl
  · refine Changes.ite_st ?_ ?_
    · refine Changes.err_st ?_
      exact Changes.rfl
    · split
      · refine Changes.err_st ?_
        exact Changes.rfl
      · extract_lets x2
        split
        · refine Changes.read_st ?_
          exact Changes.rfl
        · extract_lets x3
          refine Changes.read_st ?_
          exact Changes.rfl
theorem bodyAsaStatus_changes (vi : Nat) (e : Entry) (s : State) : Changes [] s (bodyAsaStatus vi e s).st := by
  unfold bodyAsaStatus
  refine Changes.read_st ?_
  exact Changes.rfl
theorem bodyAsaConfig_changes (vi : Nat) (e : Entry) (s : State) : Changes [.asa] s (bodyAsaConfig vi e s).st := by
  unfold bodyAsaConfig
  extract_lets x1 x2 x3 x4
  refine Changes.ite_st ?_ ?_
  · refine Changes.err_st ?_
    exact Changes.rfl
  · refine Changes.ok_st ?_
    refine Changes.set_asa ?_ (by decide)
    exact Changes.rfl
theorem execAsaRegion_changes (vi : Nat) (io : HostIo) (s : State) : ∃ t, execAsaRegion vi io s = .next t ∧ Changes [.rings, .queue, .asa, .pair, .cnt, .pwr, .out] s t :=
  ⟨_, rfl, Changes.weaken (runCommand_changes _ _ _ _ _ (bodyAsaRegion_changes vi)) (by decide)⟩
theorem execAsaProfile_changes (vi : Nat) (io : HostIo) (s : State) : ∃ t, execAsaProfile vi io s = .next t ∧ Changes [.rings, .queue, .asa, .pair, .cnt, .out] s t :=
  ⟨_, rfl, Changes.weaken (runCommand_changes _ _ _ _ _ (bodyAsaProfile_changes vi)) (by decide)⟩
theorem execAsaWrite_changes (vi : Nat) (io : HostIo) (s : State) : ∃ t, execAsaWrite vi io s = .next t ∧ Changes [.rings, .queue, .asa, .pair, .cnt, .out] s t :=
  ⟨_, rfl, Changes.weaken (runCommand_changes _ _ _ _ _ (bodyAsaWrite_changes vi)) (by decide)⟩
theorem execAsaRead_changes (vi : Nat) (io : HostIo) (s : State) : ∃ t, execAsaRead vi io s = .next t ∧ Changes [.rings, .queue, .pair, .cnt, .out] s t :=
  ⟨_, rfl, Changes.weaken (runCommand_changes _ _ _ _ _ (bodyAsaRead_changes vi)) (by decide)⟩
theorem execAsaStatus_changes (vi : Nat) (io : HostIo) (s : State) : ∃ t, execAsaStatus vi io s = .next t ∧ Changes [.rings, .queue, .pair, .cnt, .out] s t :=
  ⟨_, rfl, Changes.weaken (runCommand_changes _ _ _ _ _ (bodyAsaStatus_changes vi)) (by decide)⟩
theorem execAsaConfig_changes (vi : Nat) (io : HostIo) (s : State) : ∃ t, execAsaConfig vi io s = .next t ∧ Changes [.rings, .queue, .asa, .pair, .cnt, .out] s t :=
  ⟨_, rfl, Changes.weaken (runCommand_changes _ _ _ _ _ (bodyAsaConfig_changes vi)) (by decide)⟩
theorem execAsaShadowRestoreDone_changes (region raddr : Nat) (s : State) : ∃ t, execAsaShadowRestoreDone region raddr s = .next t ∧ Changes [.draws, .rings, .log, .cnt, .out] s t := by
  refine ⟨_, rfl, ?_⟩
  split
  · exact Changes.rfl
  · refine Changes.when ?_ ?_
    · exact Changes.rfl
    · refine Changes.via ?_ (count_changes ..) (by decide +kernel)
      refine Changes.via ?_ (fault_changes ..) (by decide +kernel)
      exact Changes.rfl
theorem execAsaScrub_changes (rows : List (Nat × Nat)) (s : State) : ∃ t, execAsaScrub rows s = .next t ∧ Changes [.draws, .rings, .asa, .log, .cnt, .out] s t := by
  refine ⟨_, rfl, ?_⟩
  refine Changes.when ?_ ?_
  · exact Changes.rfl
  · refine Changes.foldS ?_ (fun _ _ => ?_)
    · refine Changes.set_asa ?_ (by decide)
      exact Changes.rfl
    · refine Changes.via ?_ (count_changes ..) (by decide +kernel)
      refine Changes.via ?_ (fault_changes ..) (by decide +kernel)
      exact Changes.rfl
theorem execAsaHoleRestore_changes (region : Nat) (s : State) : ∃ t, execAsaHoleRestore region s = .next t ∧ Changes [.rings, .asa, .cnt, .out] s t := by
  refine ⟨_, rfl, ?_⟩
  split
  · exact Changes.rfl
  · split
    · exact Changes.rfl
    · extract_lets x1
      refine Changes.when ?_ ?_
      · exact Changes.rfl
      · refine Changes.via ?_ (count_changes ..) (by decide +kernel)
        refine Changes.via ?_ (State.setRegion_changes ..) (by decide +kernel)
        exact Changes.rfl
theorem execAsaBankFault_changes (bank cause : Nat) (s : State) : ∃ t, execAsaBankFault bank cause s = .next t ∧ Changes [.draws, .rings, .asa, .log, .cnt, .out] s t := by
  refine ⟨_, rfl, ?_⟩
  refine Changes.when ?_ ?_
  · exact Changes.rfl
  · refine Changes.via ?_ (bankFault_changes ..) (by decide +kernel)
    exact Changes.rfl
theorem bankReloadDone_changes (b : Nat) (passed : Bool) (s : State) : Changes [.rings, .asa, .log, .cnt, .out] s (bankReloadDone b passed s) := by
  unfold bankReloadDone
  extract_lets x1 x2 x3 x4 x5
  refine Changes.ite ?_ ?_
  · refine Changes.ite ?_ ?_
    · refine Changes.via ?_ (endWindow_changes ..) (by decide +kernel)
      refine Changes.via ?_ (State.modBank_changes ..) (by decide +kernel)
      subst x5
      refine Changes.via ?_ (State.modBank_changes ..) (by decide +kernel)
      subst x2
      refine Changes.via ?_ (count_changes ..) (by decide +kernel)
      refine Changes.via ?_ (notify_changes ..) (by decide +kernel)
      exact Changes.rfl
    · subst x5
      refine Changes.via ?_ (State.modBank_changes ..) (by decide +kernel)
      subst x2
      refine Changes.via ?_ (count_changes ..) (by decide +kernel)
      refine Changes.via ?_ (notify_changes ..) (by decide +kernel)
      exact Changes.rfl
  · refine Changes.ite ?_ ?_
    · refine Changes.via ?_ (endWindow_changes ..) (by decide +kernel)
      refine Changes.via ?_ (State.modBank_changes ..) (by decide +kernel)
      subst x5
      refine Changes.via ?_ (State.modBank_changes ..) (by decide +kernel)
      subst x2
      refine Changes.via ?_ (count_changes ..) (by decide +kernel)
      refine Changes.via ?_ (notify_changes ..) (by decide +kernel)
      exact Changes.rfl
    · refine Changes.via ?_ (State.modBank_changes ..) (by decide +kernel)
      subst x5
      refine Changes.via ?_ (State.modBank_changes ..) (by decide +kernel)
      subst x2
      refine Changes.via ?_ (count_changes ..) (by decide +kernel)
      refine Changes.via ?_ (notify_changes ..) (by decide +kernel)
      exact Changes.rfl
theorem execAsaBankReloadDone_changes (bank : Nat) (passed : Bool) (s : State) : ∃ t, execAsaBankReloadDone bank passed s = .next t ∧ Changes [.rings, .asa, .log, .cnt, .out] s t := by
  refine ⟨_, rfl, ?_⟩
  refine Changes.when ?_ ?_
  · exact Changes.rfl
  · refine Changes.via ?_ (bankReloadDone_changes ..) (by decide +kernel)
    exact Changes.rfl
theorem execAsaRelocationDone_changes (bank : Nat) (s : State) : ∃ t, execAsaRelocationDone bank s = .next t ∧ Changes [.rings, .asa, .log, .cnt, .pwr, .out] s t := by
  refine ⟨_, rfl, ?_⟩
  refine Changes.when ?_ ?_
  · exact Changes.rfl
  · dsimp only
    refine Changes.via ?_ (asaPower_changes ..) (by decide +kernel)
    refine Changes.via ?_ (endWindow_changes ..) (by decide +kernel)
    refine Changes.via ?_ (count_changes ..) (by decide +kernel)
    refine Changes.via ?_ (notify_changes ..) (by decide +kernel)
    refine Changes.via ?_ (domainEvent_changes ..) (by decide +kernel)
    refine Changes.set_all (s) ?_ (fun p hp => by cases p <;> first | exact absurd (by decide) hp | rfl)
    exact Changes.rfl
theorem setLevel_changes (l : Nat) (t : Int) (s : State) : Changes [.rings, .asa, .cnt, .out] s (setLevel l t s) := by
  unfold setLevel
  extract_lets x1 x2
  refine Changes.via ?_ (count_changes ..) (by decide +kernel)
  refine Changes.via ?_ (notify_changes ..) (by decide +kernel)
  subst x2
  refine Changes.set_asa ?_ (by decide)
  exact Changes.rfl
theorem execAsaThrottleRaise_changes (temp : Int) (s : State) : ∃ t, execAsaThrottleRaise temp s = .next t ∧ Changes [.rings, .asa, .cnt, .out] s t := by
  refine ⟨_, rfl, ?_⟩
  refine Changes.when ?_ ?_
  · exact Changes.rfl
  · refine Changes.via ?_ (setLevel_changes ..) (by decide +kernel)
    exact Changes.rfl
theorem execAsaThrottleLower_changes (temp : Int) (s : State) : ∃ t, execAsaThrottleLower temp s = .next t ∧ Changes [.rings, .asa, .cnt, .out] s t := by
  refine ⟨_, rfl, ?_⟩
  refine Changes.when ?_ ?_
  · exact Changes.rfl
  · refine Changes.via ?_ (setLevel_changes ..) (by decide +kernel)
    exact Changes.rfl

end Sys2Proof.Machine
end

