-- ==== Sys2Proof/Laws/PairOps.lean ====
section
/-! SUPPORT. What each operation of Machine/PairOps.lean can change. -/

set_option Elab.async false

namespace Sys2Proof.Machine

theorem State.modPair_changes (s : State) (f : Pair → Pair) : Changes [.pair] s (State.modPair s f) := by
  unfold State.modPair
  refine Changes.set_pair ?_ (by decide)
  exact Changes.rfl
theorem setPoint_changes (which : Option (List Nat × Nat)) (p : Nat) (s : State) : Changes [.pair, .out] s (setPoint which p s) := by
  unfold setPoint
  extract_lets x1 x2 x3 x4 x5 x6 x7
  refine Changes.ite ?_ ?_
  · refine Changes.foldS ?_ (fun _ _ => ?_)
    · subst x7
      refine Changes.foldS ?_ (fun _ _ => ?_)
      · subst x6
        refine Changes.via ?_ (State.modPpair_changes ..) (by decide +kernel)
        exact Changes.rfl
      · refine Changes.via ?_ (State.emit_changes ..) (by decide +kernel)
        exact Changes.rfl
    · refine Changes.via ?_ (State.emit_changes ..) (by decide +kernel)
      exact Changes.rfl
  · subst x6
    refine Changes.via ?_ (State.modPpair_changes ..) (by decide +kernel)
    exact Changes.rfl
theorem setPoints_changes (s : State) : Changes [.pair, .out] s (setPoints s) := by
  unfold setPoints
  refine Changes.foldS ?_ (fun _ _ => ?_)
  · exact Changes.rfl
  · refine Changes.via ?_ (setPoint_changes ..) (by decide +kernel)
    exact Changes.rfl
theorem becomeSolo_changes (s : State) : Changes [.queue, .pair, .out] s (becomeSolo s) := by
  unfold becomeSolo
  refine Changes.via ?_ (setPoints_changes ..) (by decide +kernel)
  refine Changes.via ?_ (wake_changes ..) (by decide +kernel)
  refine Changes.via ?_ (State.modPair_changes ..) (by decide +kernel)
  exact Changes.rfl
theorem becomeActive_changes (s : State) : Changes [.pair] s (becomeActive s) := by
  unfold becomeActive
  refine Changes.via ?_ (State.modPair_changes ..) (by decide +kernel)
  exact Changes.rfl
theorem darken_changes (s : State) : Changes [.sch] s (darken s) := by
  unfold darken
  refine Changes.foldS ?_ (fun _ _ => ?_)
  · exact Changes.rfl
  · refine Changes.via ?_ (returnSelected_changes ..) (by decide +kernel)
    exact Changes.rfl
theorem becomeSyncing_changes (gen : Nat) (s : State) : Changes [.rings, .queue, .sch, .pair, .cnt, .out] s (becomeSyncing gen s) := by
  unfold becomeSyncing
  extract_lets x1 x2 x3
  refine Changes.via ?_ (leaveSyncAll_changes ..) (by decide +kernel)
  refine Changes.via ?_ (State.modPair_changes ..) (by decide +kernel)
  subst x3
  refine Changes.via ?_ (darken_changes ..) (by decide +kernel)
  refine Changes.set_queue ?_ (by with_reducible rfl) (by with_reducible rfl) (by decide)
  exact Changes.rfl
theorem handedOver_changes (gen : Nat) (s : State) : Changes [.pair] s (handedOver gen s) := by
  unfold handedOver
  refine Changes.via ?_ (State.modPair_changes ..) (by decide +kernel)
  exact Changes.rfl
theorem seeGen_changes (gen : Nat) (s : State) : Changes [.rings, .queue, .sch, .pair, .cnt, .out] s (seeGen gen s) := by
  unfold seeGen
  extract_lets x1
  refine Changes.ite ?_ ?_
  · refine Changes.via ?_ (handedOver_changes ..) (by decide +kernel)
    subst x1
    refine Changes.via ?_ (State.modPair_changes ..) (by decide +kernel)
    exact Changes.rfl
  · refine Changes.ite ?_ ?_
    · refine Changes.via ?_ (becomeSyncing_changes ..) (by decide +kernel)
      subst x1
      refine Changes.via ?_ (State.modPair_changes ..) (by decide +kernel)
      exact Changes.rfl
    · subst x1
      refine Changes.via ?_ (State.modPair_changes ..) (by decide +kernel)
      exact Changes.rfl
theorem takeBung_changes (gen cause : Nat) (s : State) : Changes [.pair] s (takeBung gen cause s) := by
  unfold takeBung
  refine Changes.via ?_ (State.modPair_changes ..) (by decide +kernel)
  exact Changes.rfl
theorem handOver_changes (cause : Nat) (s : State) : Changes [.draws, .rings, .fab, .sch, .pair, .flt, .cnt, .out] s (handOver cause s) := by
  unfold handOver
  extract_lets x1 x2
  refine Changes.via ?_ (notify_changes ..) (by decide +kernel)
  subst x2
  refine Changes.via ?_ (sendPeer_changes ..) (by decide +kernel)
  refine Changes.via ?_ (State.modPair_changes ..) (by decide +kernel)
  refine Changes.via ?_ (darken_changes ..) (by decide +kernel)
  exact Changes.rfl
theorem noPlaneLeft_changes (s : State) : Changes [.draws, .rings, .fab, .sch, .pair, .flt, .cnt, .out] s (noPlaneLeft s) := by
  unfold noPlaneLeft
  refine Changes.ite ?_ ?_
  · refine Changes.via ?_ (handOver_changes ..) (by decide +kernel)
    exact Changes.rfl
  · exact Changes.rfl

end Sys2Proof.Machine
end

