-- ==== Sys2Proof/Laws/Hif.lean ====
section
/-! SUPPORT. What each operation of Machine/Hif.lean can change. -/

set_option Elab.async false

namespace Sys2Proof.Machine

theorem bodyHifNop_changes (vi : Nat) (e : Entry) (s : State) : Changes [] s (bodyHifNop vi e s).st := by
  unfold bodyHifNop
  refine Changes.read_st ?_
  exact Changes.rfl
theorem bodyHifIdentify_changes (vi : Nat) (e : Entry) (s : State) : Changes [] s (bodyHifIdentify vi e s).st := by
  unfold bodyHifIdentify
  extract_lets x1
  refine Changes.read_st ?_
  exact Changes.rfl
theorem bodyHifJournalInfo_changes (vi : Nat) (e : Entry) (s : State) : Changes [] s (bodyHifJournalInfo vi e s).st := by
  unfold bodyHifJournalInfo
  extract_lets x1
  refine Changes.read_st ?_
  exact Changes.rfl
theorem bodyHifNotifyMask_changes (vi : Nat) (e : Entry) (s : State) : Changes [.rings] s (bodyHifNotifyMask vi e s).st := by
  unfold bodyHifNotifyMask
  refine Changes.ok_st ?_
  refine Changes.via ?_ (State.modFn_changes ..) (by decide +kernel)
  exact Changes.rfl
theorem bodyHifSetCoalesce_changes (vi : Nat) (e : Entry) (s : State) : Changes [.rings] s (bodyHifSetCoalesce vi e s).st := by
  unfold bodyHifSetCoalesce
  refine Changes.ok_st ?_
  refine Changes.via ?_ (State.modFn_changes ..) (by decide +kernel)
  exact Changes.rfl
theorem execHifNop_changes (vi : Nat) (io : HostIo) (s : State) : ∃ t, execHifNop vi io s = .next t ∧ Changes [.rings, .queue, .pair, .cnt, .out] s t :=
  ⟨_, rfl, Changes.weaken (runCommand_changes _ _ _ _ _ (bodyHifNop_changes vi)) (by decide)⟩
theorem execHifIdentify_changes (vi : Nat) (io : HostIo) (s : State) : ∃ t, execHifIdentify vi io s = .next t ∧ Changes [.rings, .queue, .pair, .cnt, .out] s t :=
  ⟨_, rfl, Changes.weaken (runCommand_changes _ _ _ _ _ (bodyHifIdentify_changes vi)) (by decide)⟩
theorem execHifJournalInfo_changes (vi : Nat) (io : HostIo) (s : State) : ∃ t, execHifJournalInfo vi io s = .next t ∧ Changes [.rings, .queue, .pair, .cnt, .out] s t :=
  ⟨_, rfl, Changes.weaken (runCommand_changes _ _ _ _ _ (bodyHifJournalInfo_changes vi)) (by decide)⟩
theorem execHifNotifyMask_changes (vi : Nat) (io : HostIo) (s : State) : ∃ t, execHifNotifyMask vi io s = .next t ∧ Changes [.rings, .queue, .pair, .cnt, .out] s t :=
  ⟨_, rfl, Changes.weaken (runCommand_changes _ _ _ _ _ (bodyHifNotifyMask_changes vi)) (by decide)⟩
theorem execHifSetCoalesce_changes (vi : Nat) (io : HostIo) (s : State) : ∃ t, execHifSetCoalesce vi io s = .next t ∧ Changes [.rings, .queue, .pair, .cnt, .out] s t :=
  ⟨_, rfl, Changes.weaken (runCommand_changes _ _ _ _ _ (bodyHifSetCoalesce_changes vi)) (by decide)⟩
theorem applyCommit_changes (vi : Nat) (s : State) : Changes [.rings, .cnt, .out] s (applyCommit vi s) := by
  unfold applyCommit
  extract_lets x1
  refine Changes.ite ?_ ?_
  · refine Changes.via ?_ (flushNotifs_changes ..) (by decide +kernel)
    refine Changes.via ?_ (State.modFn_changes ..) (by decide +kernel)
    exact Changes.rfl
  · refine Changes.via ?_ (count_changes ..) (by decide +kernel)
    refine Changes.via ?_ (ringFault_changes ..) (by decide +kernel)
    exact Changes.rfl
theorem applyDisable_changes (vi : Nat) (s : State) : Changes [.rings] s (applyDisable vi s) := by
  unfold applyDisable
  split
  · refine Changes.via ?_ (drainCheck_changes ..) (by decide +kernel)
    refine Changes.via ?_ (State.modFn_changes ..) (by decide +kernel)
    exact Changes.rfl
  · refine Changes.via ?_ (State.modFn_changes ..) (by decide +kernel)
    exact Changes.rfl
  · exact Changes.rfl
theorem doorbellReject_changes (vi : Nat) (s : State) : Changes [.rings, .cnt, .out] s (doorbellReject vi s) := by
  unfold doorbellReject
  refine Changes.via ?_ (count_changes ..) (by decide +kernel)
  refine Changes.via ?_ (ringFault_changes ..) (by decide +kernel)
  exact Changes.rfl
theorem applySqTail_changes (vi index : Nat) (slots : List Entry) (s : State) : Changes [.rings, .queue, .cnt, .out] s (applySqTail vi index slots s) := by
  unfold applySqTail
  extract_lets x1 x2 x3
  refine Changes.ite ?_ ?_
  · exact Changes.rfl
  · refine Changes.ite ?_ ?_
    · refine Changes.via ?_ (doorbellReject_changes ..) (by decide +kernel)
      exact Changes.rfl
    · refine Changes.via ?_ (State.settled_changes ..) (by decide +kernel)
      refine Changes.via ?_ (State.modFn_changes ..) (by decide +kernel)
      exact Changes.rfl
theorem applyCqHead_changes (vi index : Nat) (s : State) : Changes [.rings, .queue, .cnt, .out] s (applyCqHead vi index s) := by
  unfold applyCqHead
  extract_lets x1 x2
  refine Changes.ite ?_ ?_
  · exact Changes.rfl
  · refine Changes.ite ?_ ?_
    · refine Changes.via ?_ (doorbellReject_changes ..) (by decide +kernel)
      exact Changes.rfl
    · refine Changes.via ?_ (State.settled_changes ..) (by decide +kernel)
      refine Changes.via ?_ (State.modFn_changes ..) (by decide +kernel)
      exact Changes.rfl
theorem applyNqHead_changes (vi index : Nat) (s : State) : Changes [.rings, .cnt, .out] s (applyNqHead vi index s) := by
  unfold applyNqHead
  extract_lets x1 x2
  refine Changes.ite ?_ ?_
  · exact Changes.rfl
  · refine Changes.ite ?_ ?_
    · refine Changes.via ?_ (doorbellReject_changes ..) (by decide +kernel)
      exact Changes.rfl
    · refine Changes.via ?_ (flushNotifs_changes ..) (by decide +kernel)
      refine Changes.via ?_ (State.modFn_changes ..) (by decide +kernel)
      exact Changes.rfl
theorem applyWrite_changes (w : HeldWrite) (s : State) : Changes [.rings, .queue, .cnt, .out] s (applyWrite w s) := by
  unfold applyWrite
  split
  · refine Changes.via ?_ (applyCommit_changes ..) (by decide +kernel)
    exact Changes.rfl
  · refine Changes.via ?_ (applyDisable_changes ..) (by decide +kernel)
    exact Changes.rfl
  · refine Changes.via ?_ (applySqTail_changes ..) (by decide +kernel)
    exact Changes.rfl
  · refine Changes.via ?_ (applyCqHead_changes ..) (by decide +kernel)
    exact Changes.rfl
  · refine Changes.via ?_ (applyNqHead_changes ..) (by decide +kernel)
    exact Changes.rfl
theorem ringWrite_changes (vi : Nat) (w : HeldWrite) (s : State) : Changes [.rings, .queue, .cnt, .out] s (ringWrite vi w s) := by
  unfold ringWrite
  refine Changes.ite ?_ ?_
  · exact Changes.rfl
  · refine Changes.ite ?_ ?_
    · refine Changes.via ?_ (applyWrite_changes ..) (by decide +kernel)
      exact Changes.rfl
    · refine Changes.set_queue ?_ (by with_reducible rfl) (by with_reducible rfl) (by decide)
      exact Changes.rfl
theorem applyHeld_changes (s : State) : Changes [.rings, .queue, .cnt, .out] s (applyHeld s) := by
  unfold applyHeld
  refine Changes.foldS ?_ (fun _ _ => ?_)
  · refine Changes.set_queue ?_ (by with_reducible rfl) (by with_reducible rfl) (by decide)
    exact Changes.rfl
  · refine Changes.via ?_ (applyWrite_changes ..) (by decide +kernel)
    exact Changes.rfl
theorem execRingCommit_changes (vi : Nat) (s : State) : ∃ t, execRingCommit vi s = .next t ∧ Changes [.rings, .queue, .cnt, .out] s t := by
  refine ⟨_, rfl, ?_⟩
  refine Changes.via ?_ (ringWrite_changes ..) (by decide +kernel)
  exact Changes.rfl
theorem execRingDisable_changes (vi : Nat) (s : State) : ∃ t, execRingDisable vi s = .next t ∧ Changes [.rings, .queue, .cnt, .out] s t := by
  refine ⟨_, rfl, ?_⟩
  refine Changes.via ?_ (ringWrite_changes ..) (by decide +kernel)
  exact Changes.rfl
theorem execHifSqTailDb_changes (vi index : Nat) (slots : List Entry) (s : State) : ∃ t, execHifSqTailDb vi index slots s = .next t ∧ Changes [.rings, .queue, .cnt, .out] s t := by
  refine ⟨_, rfl, ?_⟩
  refine Changes.via ?_ (ringWrite_changes ..) (by decide +kernel)
  exact Changes.rfl
theorem execHifCqHeadDb_changes (vi index : Nat) (s : State) : ∃ t, execHifCqHeadDb vi index s = .next t ∧ Changes [.rings, .queue, .cnt, .out] s t := by
  refine ⟨_, rfl, ?_⟩
  refine Changes.via ?_ (ringWrite_changes ..) (by decide +kernel)
  exact Changes.rfl
theorem execHifNqHeadDb_changes (vi index : Nat) (s : State) : ∃ t, execHifNqHeadDb vi index s = .next t ∧ Changes [.rings, .queue, .cnt, .out] s t := by
  refine ⟨_, rfl, ?_⟩
  refine Changes.via ?_ (ringWrite_changes ..) (by decide +kernel)
  exact Changes.rfl
theorem execHifFaultClear_changes (vi : Nat) (value : Word) (s : State) : ∃ t, execHifFaultClear vi value s = .next t ∧ Changes [.draws, .rings, .log, .cnt, .out] s t := by
  refine ⟨_, rfl, ?_⟩
  refine Changes.when ?_ ?_
  · exact Changes.rfl
  · refine Changes.via ?_ (State.modFn_changes ..) (by decide +kernel)
    exact Changes.rfl
theorem msixWrite_changes (vi i : Nat) (v : Word) (s : State) : Changes [.rings, .out] s (msixWrite vi i v s) := by
  unfold msixWrite
  extract_lets x1 x2
  refine Changes.ite ?_ ?_
  · refine Changes.via ?_ (signal_changes ..) (by decide +kernel)
    refine Changes.via ?_ (State.modFn_changes ..) (by decide +kernel)
    subst x1
    refine Changes.via ?_ (State.modFn_changes ..) (by decide +kernel)
    exact Changes.rfl
  · subst x1
    refine Changes.via ?_ (State.modFn_changes ..) (by decide +kernel)
    exact Changes.rfl
theorem execRegisterWrite_changes (vi offset : Nat) (value : Word) (allBytes : Bool) (s : State) : ∃ t, execRegisterWrite vi offset value allBytes s = .next t ∧ Changes [.rings, .out] s t := by
  refine ⟨_, rfl, ?_⟩
  refine Changes.when ?_ ?_
  · exact Changes.rfl
  · split
    · refine Changes.via ?_ (msixWrite_changes ..) (by decide +kernel)
      exact Changes.rfl
    · refine Changes.via ?_ (State.modFn_changes ..) (by decide +kernel)
      exact Changes.rfl
theorem execCoalesceDelayExpiry_changes (vi vec : Nat) (s : State) : ∃ t, execCoalesceDelayExpiry vi vec s = .next t ∧ Changes [.rings, .out] s t := by
  refine ⟨_, rfl, ?_⟩
  split
  · exact Changes.rfl
  · refine Changes.when ?_ ?_
    · exact Changes.rfl
    · refine Changes.via ?_ (signal_changes ..) (by decide +kernel)
      refine Changes.via ?_ (State.modFn_changes ..) (by decide +kernel)
      exact Changes.rfl
theorem execPcieLinkDown_changes (s : State) : ∃ t, execPcieLinkDown s = .next t ∧ Changes [.hif] s t := by
  refine ⟨_, rfl, ?_⟩
  refine Changes.when ?_ ?_
  · exact Changes.rfl
  · refine Changes.set_core ?_ (by with_reducible rfl) (by with_reducible rfl) (by decide)
    exact Changes.rfl
theorem flushFn_changes (dataOk : Bool) (vi : Nat) (s : State) : Changes [.rings, .cnt, .out] s (flushFn dataOk vi s) := by
  unfold flushFn
  extract_lets x1 x2 x3
  refine Changes.via ?_ (drainCheck_changes ..) (by decide +kernel)
  refine Changes.via ?_ (flushNotifs_changes ..) (by decide +kernel)
  subst x3
  refine Changes.foldS ?_ (fun _ _ => ?_)
  · subst x2
    refine Changes.via ?_ (State.modFn_changes ..) (by decide +kernel)
    exact Changes.rfl
  · refine Changes.ite ?_ ?_
    · refine Changes.via ?_ (writeCompl_changes ..) (by decide +kernel)
      refine Changes.via ?_ (count_changes ..) (by decide +kernel)
      exact Changes.rfl
    · refine Changes.via ?_ (writeCompl_changes ..) (by decide +kernel)
      exact Changes.rfl
theorem flushHeld_changes (dataOk : Bool) (s : State) : Changes [.rings, .cnt, .out] s (flushHeld dataOk s) := by
  unfold flushHeld
  refine Changes.ite ?_ ?_
  · refine Changes.foldS ?_ (fun _ _ => ?_)
    · exact Changes.rfl
    · refine Changes.via ?_ (flushFn_changes ..) (by decide +kernel)
      exact Changes.rfl
  · exact Changes.rfl
theorem execPcieLinkUp_changes (dataOk : Bool) (s : State) : ∃ t, execPcieLinkUp dataOk s = .next t ∧ Changes [.rings, .queue, .hif, .cnt, .out] s t := by
  refine ⟨_, rfl, ?_⟩
  refine Changes.when ?_ ?_
  · exact Changes.rfl
  · extract_lets x1 x2 x3 x4 x5
    refine Changes.via ?_ (State.settled_changes ..) (by decide +kernel)
    refine Changes.via ?_ (count_changes ..) (by decide +kernel)
    subst x5
    refine Changes.via ?_ (notify_changes ..) (by decide +kernel)
    subst x4
    refine Changes.via ?_ (flushHeld_changes ..) (by decide +kernel)
    refine Changes.set_core ?_ (by with_reducible rfl) (by with_reducible rfl) (by decide)
    exact Changes.rfl
theorem execRingAccessFailure_changes (vi : Nat) (ring : RingKind) (s : State) : ∃ t, execRingAccessFailure vi ring s = .next t ∧ Changes [.rings, .cnt, .out] s t := by
  refine ⟨_, rfl, ?_⟩
  refine Changes.when ?_ ?_
  · exact Changes.rfl
  · extract_lets x1 x2
    refine Changes.via ?_ (count_changes ..) (by decide +kernel)
    refine Changes.via ?_ (ringFault_changes ..) (by decide +kernel)
    subst x2
    refine Changes.via ?_ (State.modFn_changes ..) (by decide +kernel)
    exact Changes.rfl

end Sys2Proof.Machine
end

