-- ==== Sys2Proof/Laws/PortOps.lean ====
section
/-! SUPPORT. What each operation of Machine/PortOps.lean can change. -/

set_option Elab.async false

namespace Sys2Proof.Machine

theorem portDownEvent_changes (p : Nat) (s : State) : Changes [.rings, .tim, .sch, .cnt, .out] s (portDownEvent p s) := by
  unfold portDownEvent
  extract_lets x1
  refine Changes.via ?_ (egressHold_changes ..) (by decide +kernel)
  refine Changes.via ?_ (syncePort_changes ..) (by decide +kernel)
  refine Changes.via ?_ (probeRefresh_changes ..) (by decide +kernel)
  subst x1
  refine Changes.via ?_ (notify_changes ..) (by decide +kernel)
  exact Changes.rfl
theorem askApplication_changes (p : Nat) (s : State) : Changes [.out] s (askApplication p s) := by
  unfold askApplication
  split
  · exact Changes.rfl
  · split
    · refine Changes.via ?_ (State.emit_changes ..) (by decide +kernel)
      exact Changes.rfl
    · exact Changes.rfl
theorem portEnterDown_changes (p : Nat) (s : State) : Changes [.rings, .port, .tim, .sch, .cnt, .out] s (portEnterDown p s) := by
  unfold portEnterDown
  refine Changes.via ?_ (portDownEvent_changes ..) (by decide +kernel)
  refine Changes.via ?_ (count_changes ..) (by decide +kernel)
  refine Changes.via ?_ (State.modPort_changes ..) (by decide +kernel)
  exact Changes.rfl
theorem portEvaluate_changes (p : Nat) (s : State) : Changes [.rings, .port, .tim, .sch, .cnt, .out] s (portEvaluate p s) := by
  unfold portEvaluate
  split
  · exact Changes.rfl
  · extract_lets x1 x2 x3
    split
    · refine Changes.ite ?_ ?_
      · refine Changes.via ?_ (egressFlap_changes ..) (by decide +kernel)
        refine Changes.via ?_ (State.modPort_changes ..) (by decide +kernel)
        exact Changes.rfl
      · exact Changes.rfl
    · refine Changes.ite ?_ ?_
      · exact Changes.rfl
      · refine Changes.ite ?_ ?_
        · refine Changes.via ?_ (portEnterDown_changes ..) (by decide +kernel)
          exact Changes.rfl
        · refine Changes.via ?_ (syncePort_changes ..) (by decide +kernel)
          refine Changes.via ?_ (State.modPort_changes ..) (by decide +kernel)
          exact Changes.rfl
    · refine Changes.ite ?_ ?_
      · exact Changes.rfl
      · refine Changes.via ?_ (probeRefresh_changes ..) (by decide +kernel)
        refine Changes.via ?_ (syncePort_changes ..) (by decide +kernel)
        subst x3
        refine Changes.via ?_ (State.modPort_changes ..) (by decide +kernel)
        exact Changes.rfl
    · refine Changes.ite ?_ ?_
      · exact Changes.rfl
      · refine Changes.via ?_ (State.modPort_changes ..) (by decide +kernel)
        exact Changes.rfl
    · exact Changes.rfl
theorem retrainStart_changes (p : Nat) (s : State) : Changes [.rings, .port, .tim, .sch, .cnt, .out] s (retrainStart p s) := by
  unfold retrainStart
  refine Changes.via ?_ (portEvaluate_changes ..) (by decide +kernel)
  refine Changes.via ?_ (State.modPort_changes ..) (by decide +kernel)
  exact Changes.rfl
theorem retrainNext_changes  (a0 : Nat) (s : State) : Changes [.rings, .dev, .port, .tim, .sch, .cnt, .out] s (retrainNext  a0 s) := by
  induction a0 generalizing s with
  | zero =>
    unfold retrainNext
    exact Changes.rfl
  | succ a0 ih =>
    unfold retrainNext
    split
    · refine Changes.ite ?_ ?_
      · extract_lets x1 x2
        refine Changes.via ?_ (notify_changes ..) (by decide +kernel)
        refine Changes.set_dev ?_ (by decide)
        exact Changes.rfl
      · exact Changes.rfl
    · refine Changes.ite ?_ ?_
      · exact Changes.rfl
      · extract_lets x3 x4 x5 x6
        refine Changes.ite ?_ ?_
        · refine Changes.via ?_ (ih ..) (by decide +kernel)
          subst x4
          refine Changes.set_dev ?_ (by decide)
          exact Changes.rfl
        · refine Changes.via ?_ (ih ..) (by decide +kernel)
          refine Changes.via ?_ (retrainHold_changes ..) (by decide +kernel)
          refine Changes.via ?_ (retrainStart_changes ..) (by decide +kernel)
          subst x6
          refine Changes.via ?_ (askApplication_changes ..) (by decide +kernel)
          refine Changes.set_dev ?_ (by decide)
          subst x4
          refine Changes.set_dev ?_ (by decide)
          exact Changes.rfl
theorem retrainDone_changes (p : Nat) (s : State) : Changes [.rings, .dev, .port, .tim, .sch, .cnt, .out] s (retrainDone p s) := by
  unfold retrainDone
  refine Changes.ite ?_ ?_
  · refine Changes.via ?_ (retrainNext_changes ..) (by decide +kernel)
    refine Changes.set_dev ?_ (by decide)
    exact Changes.rfl
  · exact Changes.rfl
theorem portEnterUp_changes (p : Nat) (s : State) : Changes [.rings, .port, .tim, .sch, .cnt, .out] s (portEnterUp p s) := by
  unfold portEnterUp
  extract_lets x1 x2
  refine Changes.via ?_ (egressUp_changes ..) (by decide +kernel)
  refine Changes.via ?_ (probeRefresh_changes ..) (by decide +kernel)
  refine Changes.via ?_ (syncePort_changes ..) (by decide +kernel)
  subst x2
  refine Changes.via ?_ (notify_changes ..) (by decide +kernel)
  subst x1
  refine Changes.via ?_ (State.modPort_changes ..) (by decide +kernel)
  exact Changes.rfl
theorem setCause_changes (p bit : Nat) (on : Bool) (s : State) : Changes [.rings, .port, .tim, .sch, .cnt, .out] s (setCause p bit on s) := by
  unfold setCause
  refine Changes.ite ?_ ?_
  · exact Changes.rfl
  · refine Changes.via ?_ (portEvaluate_changes ..) (by decide +kernel)
    refine Changes.via ?_ (State.modPort_changes ..) (by decide +kernel)
    exact Changes.rfl
theorem portDisable_changes (p : Nat) (s : State) : Changes [.rings, .port, .tim, .sch, .cnt, .out] s (portDisable p s) := by
  unfold portDisable
  extract_lets x1 x2
  refine Changes.ite ?_ ?_
  · refine Changes.via ?_ (portDownEvent_changes ..) (by decide +kernel)
    subst x2
    refine Changes.via ?_ (State.modPort_changes ..) (by decide +kernel)
    exact Changes.rfl
  · subst x2
    refine Changes.via ?_ (State.modPort_changes ..) (by decide +kernel)
    exact Changes.rfl
theorem portTrain_changes (p : Nat) (s : State) : Changes [.port] s (portTrain p s) := by
  unfold portTrain
  refine Changes.ite ?_ ?_
  · refine Changes.via ?_ (State.modPort_changes ..) (by decide +kernel)
    exact Changes.rfl
  · exact Changes.rfl
theorem macsecRefresh_changes (p : Nat) (s : State) : Changes [.rings, .port, .tim, .sch, .cnt, .out] s (macsecRefresh p s) := by
  unfold macsecRefresh
  extract_lets x1
  refine Changes.via ?_ (setCause_changes ..) (by decide +kernel)
  exact Changes.rfl
theorem tsiChanged_changes (before s : State) : Changes [.out] s (tsiChanged before s) := by
  unfold tsiChanged
  refine Changes.foldS ?_ (fun _ _ => ?_)
  · exact Changes.rfl
  · refine Changes.via ?_ (State.emit_changes ..) (by decide +kernel)
    exact Changes.rfl
theorem protSwitch_changes (n : Nat) (s : State) : Changes [.rings, .frm, .cnt, .out] s (protSwitch n s) := by
  unfold protSwitch
  split
  · exact Changes.rfl
  · extract_lets x1 x2
    dsimp only
    refine Changes.ite ?_ ?_
    · refine Changes.via ?_ (tsiChanged_changes ..) (by decide +kernel)
      refine Changes.set_frm ?_ (by decide)
      exact Changes.rfl
    · refine Changes.via ?_ (count_changes ..) (by decide +kernel)
      refine Changes.via ?_ (notify_changes ..) (by decide +kernel)
      refine Changes.via ?_ (tsiChanged_changes ..) (by decide +kernel)
      refine Changes.set_frm ?_ (by decide)
      exact Changes.rfl
theorem protRefresh_changes (before : State) (n : Nat) (c : ProtCfg) (s : State) : Changes [.frm] s (protRefresh before n c s) := by
  unfold protRefresh
  extract_lets x1 x2 x3 x4 x5
  refine Changes.set_frm ?_ (by decide)
  exact Changes.rfl
theorem protRefreshAll_changes (before s : State) : Changes [.frm] s (protRefreshAll before s) := by
  unfold protRefreshAll
  refine Changes.foldS ?_ (fun _ _ => ?_)
  · exact Changes.rfl
  · refine Changes.via ?_ (protRefresh_changes ..) (by decide +kernel)
    exact Changes.rfl
theorem consequent_changes (p : Nat) (before after : Word) (s : State) : Changes [.out] s (consequent p before after s) := by
  unfold consequent
  refine Changes.foldS ?_ (fun _ _ => ?_)
  · exact Changes.rfl
  · extract_lets x1 x2
    refine Changes.ite ?_ ?_
    · exact Changes.rfl
    · refine Changes.via ?_ (State.emit_changes ..) (by decide +kernel)
      exact Changes.rfl
theorem lineDefect_changes (p i : Nat) (trib : Option Nat) (on : Bool) (s : State) : Changes [.rings, .port, .frm, .tim, .sch, .cnt, .out] s (lineDefect p i trib on s) := by
  unfold lineDefect
  extract_lets x1 x2 x3 x4 x5 x6 x7
  refine Changes.via ?_ (portEvaluate_changes ..) (by decide +kernel)
  refine Changes.via ?_ (protRefreshAll_changes ..) (by decide +kernel)
  subst x7
  refine Changes.ite ?_ ?_
  · refine Changes.via ?_ (State.modPort_changes ..) (by decide +kernel)
    subst x5
    refine Changes.via ?_ (consequent_changes ..) (by decide +kernel)
    subst x4
    refine Changes.ite ?_ ?_
    · refine Changes.via ?_ (notify_changes ..) (by decide +kernel)
      subst x3
      refine Changes.ite ?_ ?_
      · split
        · refine Changes.via ?_ (count_changes ..) (by decide +kernel)
          subst x2
          refine Changes.via ?_ (State.modPort_changes ..) (by decide +kernel)
          exact Changes.rfl
        · subst x2
          refine Changes.via ?_ (State.modPort_changes ..) (by decide +kernel)
          exact Changes.rfl
      · subst x2
        refine Changes.via ?_ (State.modPort_changes ..) (by decide +kernel)
        exact Changes.rfl
    · subst x3
      refine Changes.ite ?_ ?_
      · split
        · refine Changes.via ?_ (count_changes ..) (by decide +kernel)
          subst x2
          refine Changes.via ?_ (State.modPort_changes ..) (by decide +kernel)
          exact Changes.rfl
        · subst x2
          refine Changes.via ?_ (State.modPort_changes ..) (by decide +kernel)
          exact Changes.rfl
      · subst x2
        refine Changes.via ?_ (State.modPort_changes ..) (by decide +kernel)
        exact Changes.rfl
  · subst x5
    refine Changes.via ?_ (consequent_changes ..) (by decide +kernel)
    subst x4
    refine Changes.ite ?_ ?_
    · refine Changes.via ?_ (notify_changes ..) (by decide +kernel)
      subst x3
      refine Changes.ite ?_ ?_
      · split
        · refine Changes.via ?_ (count_changes ..) (by decide +kernel)
          subst x2
          refine Changes.via ?_ (State.modPort_changes ..) (by decide +kernel)
          exact Changes.rfl
        · subst x2
          refine Changes.via ?_ (State.modPort_changes ..) (by decide +kernel)
          exact Changes.rfl
      · subst x2
        refine Changes.via ?_ (State.modPort_changes ..) (by decide +kernel)
        exact Changes.rfl
    · subst x3
      refine Changes.ite ?_ ?_
      · split
        · refine Changes.via ?_ (count_changes ..) (by decide +kernel)
          subst x2
          refine Changes.via ?_ (State.modPort_changes ..) (by decide +kernel)
          exact Changes.rfl
        · subst x2
          refine Changes.via ?_ (State.modPort_changes ..) (by decide +kernel)
          exact Changes.rfl
      · subst x2
        refine Changes.via ?_ (State.modPort_changes ..) (by decide +kernel)
        exact Changes.rfl

end Sys2Proof.Machine
end

