-- ==== Sys2Proof/Laws/PwrOps.lean ====
section
/-! SUPPORT. What each operation of Machine/PwrOps.lean can change. -/

set_option Elab.async false

namespace Sys2Proof.Machine

theorem State.setDom_changes (s : State) (pd : Nat) (d : DomState) : Changes [.pwr] s (State.setDom s pd d) := by
  unfold State.setDom
  refine Changes.set_pwr ?_ (by decide)
  exact Changes.rfl
theorem rampNext_changes  (a0 : Nat) (s : State) : Changes [.pwr] s (rampNext  a0 s) := by
  induction a0 generalizing s with
  | zero =>
    unfold rampNext
    exact Changes.rfl
  | succ a0 ih =>
    unfold rampNext
    split
    · exact Changes.rfl
    · refine Changes.ite ?_ ?_
      · exact Changes.rfl
      · refine Changes.via ?_ (ih ..) (by decide +kernel)
        refine Changes.via ?_ (State.setDom_changes ..) (by decide +kernel)
        refine Changes.set_pwr ?_ (by decide)
        exact Changes.rfl
theorem powerOn_changes (pd : Nat) (s : State) : Changes [.pwr] s (powerOn pd s) := by
  unfold powerOn
  refine Changes.ite ?_ ?_
  · refine Changes.via ?_ (rampNext_changes ..) (by decide +kernel)
    refine Changes.set_pwr ?_ (by decide)
    exact Changes.rfl
  · exact Changes.rfl
theorem powerAll_changes (l : List Nat) (s : State) : Changes [.pwr] s (powerAll l s) := by
  unfold powerAll
  refine Changes.foldS ?_ (fun _ _ => ?_)
  · exact Changes.rfl
  · refine Changes.via ?_ (powerOn_changes ..) (by decide +kernel)
    exact Changes.rfl

end Sys2Proof.Machine
end

