-- ==== Sys2Proof/Laws/Rack.lean ====
section
/-! SUPPORT. What each operation of Machine/Rack.lean can change. -/

set_option Elab.async false

namespace Sys2Proof.Machine

theorem dataCell_changes (plane : Nat) (c : Cell) (s : State) : Changes [.draws, .rings, .queue, .port, .tbl, .mash, .adm, .fab, .rack, .sch, .pair, .insts, .log, .flt, .cnt, .out] s (dataCell plane c s) := by
  unfold dataCell
  extract_lets x1
  refine Changes.ite ?_ ?_
  · refine Changes.via ?_ (pcrcFail_changes ..) (by decide +kernel)
    subst x1
    refine Changes.via ?_ (count_changes ..) (by decide +kernel)
    exact Changes.rfl
  · refine Changes.ite ?_ ?_
    · subst x1
      refine Changes.via ?_ (count_changes ..) (by decide +kernel)
      exact Changes.rfl
    · refine Changes.via ?_ (rackCell_changes ..) (by decide +kernel)
      refine Changes.via ?_ (heardFrom_changes ..) (by decide +kernel)
      subst x1
      refine Changes.via ?_ (count_changes ..) (by decide +kernel)
      exact Changes.rfl
theorem execDataCellReceive_changes (plane : Nat) (c : Cell) (s : State) : ∃ t, execDataCellReceive plane c s = .next t ∧ Changes [.draws, .rings, .queue, .port, .tbl, .mash, .adm, .fab, .rack, .sch, .pair, .insts, .log, .flt, .cnt, .out] s t := by
  refine ⟨_, rfl, ?_⟩
  refine Changes.when ?_ ?_
  · exact Changes.rfl
  · refine Changes.via ?_ (dataCell_changes ..) (by decide +kernel)
    exact Changes.rfl
theorem execConfirmEntry_changes (src stream sp tc first count_ : Nat) (s : State) : ∃ t, execConfirmEntry src stream sp tc first count_ s = .next t ∧ Changes [.draws, .rings, .tbl, .fab, .rack, .sch, .pair, .flt, .cnt, .out] s t := by
  refine ⟨_, rfl, ?_⟩
  refine Changes.when ?_ ?_
  · exact Changes.rfl
  · refine Changes.via ?_ (rackToken_changes ..) (by decide +kernel)
    exact Changes.rfl
theorem execVoidEntry_changes (src stream sp tc first count_ : Nat) (s : State) : ∃ t, execVoidEntry src stream sp tc first count_ s = .next t ∧ Changes [.draws, .rings, .tbl, .fab, .rack, .sch, .pair, .flt, .cnt, .out] s t := by
  refine ⟨_, rfl, ?_⟩
  refine Changes.when ?_ ?_
  · exact Changes.rfl
  · refine Changes.via ?_ (rackToken_changes ..) (by decide +kernel)
    exact Changes.rfl
theorem requestEntry_changes (src sp tc : Nat) (paired : Bool) (backlog : Nat) (s : State) : Changes [.fab, .rack] s (requestEntry src sp tc paired backlog s) := by
  unfold requestEntry
  extract_lets x1
  refine Changes.ite ?_ ?_
  · subst x1
    refine Changes.via ?_ (heardFrom_changes ..) (by decide +kernel)
    exact Changes.rfl
  · refine Changes.via ?_ (State.modFab_changes ..) (by decide +kernel)
    subst x1
    refine Changes.via ?_ (heardFrom_changes ..) (by decide +kernel)
    exact Changes.rfl
theorem execRequestEntry_changes (src sp tc : Nat) (paired : Bool) (backlog : Nat) (s : State) : ∃ t, execRequestEntry src sp tc paired backlog s = .next t ∧ Changes [.fab, .rack] s t := by
  refine ⟨_, rfl, ?_⟩
  refine Changes.when ?_ ?_
  · exact Changes.rfl
  · refine Changes.via ?_ (requestEntry_changes ..) (by decide +kernel)
    exact Changes.rfl
theorem streamFull_changes (s : State) : Changes [.rings, .fab, .cnt, .out] s (streamFull s) := by
  unfold streamFull
  dsimp only
  refine Changes.ite ?_ ?_
  · refine Changes.via ?_ (notify_changes ..) (by decide +kernel)
    refine Changes.via ?_ (State.modFab_changes ..) (by decide +kernel)
    refine Changes.via ?_ (count_changes ..) (by decide +kernel)
    exact Changes.rfl
  · refine Changes.via ?_ (State.modFab_changes ..) (by decide +kernel)
    refine Changes.via ?_ (count_changes ..) (by decide +kernel)
    exact Changes.rfl
theorem grantCredit_changes (p tc key g : Nat) (s : State) : Changes [.draws, .rings, .queue, .port, .tbl, .mash, .adm, .fab, .rack, .insts, .log, .flt, .cnt, .out] s (grantCredit p tc key g s) := by
  unfold grantCredit
  refine Changes.ite ?_ ?_
  · refine Changes.via ?_ (streamFull_changes ..) (by decide +kernel)
    exact Changes.rfl
  · dsimp only
    refine Changes.via ?_ (sendEntry_changes ..) (by decide +kernel)
    refine Changes.ite ?_ ?_
    · refine Changes.via ?_ (State.modFab_changes ..) (by decide +kernel)
      exact Changes.rfl
    · refine Changes.ite ?_ ?_
      · refine Changes.via ?_ (State.modFab_changes ..) (by decide +kernel)
        exact Changes.rfl
      · refine Changes.via ?_ (State.setStream_changes ..) (by decide +kernel)
        refine Changes.via ?_ (State.modFab_changes ..) (by decide +kernel)
        exact Changes.rfl
theorem execCreditGrant_changes (sp tc src : Nat) (s : State) : ∃ t, execCreditGrant sp tc src s = .next t ∧ Changes [.draws, .rings, .queue, .port, .tbl, .mash, .adm, .fab, .rack, .insts, .log, .flt, .cnt, .out] s t := by
  refine ⟨_, rfl, ?_⟩
  extract_lets x1
  split
  · exact Changes.rfl
  · split
    · exact Changes.rfl
    · refine Changes.when ?_ ?_
      · exact Changes.rfl
      · refine Changes.via ?_ (grantCredit_changes ..) (by decide +kernel)
        exact Changes.rfl
theorem execHoleTimeout_changes (stream sp tc : Nat) (s : State) : ∃ t, execHoleTimeout stream sp tc s = .next t ∧ Changes [.draws, .rings, .tbl, .fab, .rack, .sch, .pair, .sec, .upd, .log, .flt, .cnt, .out] s t := by
  refine ⟨_, rfl, ?_⟩
  split
  · exact Changes.rfl
  · split
    · exact Changes.rfl
    · extract_lets x1 x2 x3 x4 x5
      refine Changes.when ?_ ?_
      · exact Changes.rfl
      · refine Changes.via ?_ (runStream_changes ..) (by decide +kernel)
        subst x5
        refine Changes.via ?_ (State.modStream_changes ..) (by decide +kernel)
        subst x4
        refine Changes.via ?_ (skipNumber_changes ..) (by decide +kernel)
        subst x3
        refine Changes.via ?_ (fault_changes ..) (by decide +kernel)
        refine Changes.via ?_ (count_changes ..) (by decide +kernel)
        exact Changes.rfl
theorem execDupWaitExpiry_changes (stream sp tc seq : Nat) (s : State) : ∃ t, execDupWaitExpiry stream sp tc seq s = .next t ∧ Changes [.draws, .rings, .tbl, .fab, .rack, .sch, .pair, .flt, .cnt, .out] s t := by
  refine ⟨_, rfl, ?_⟩
  split
  · exact Changes.rfl
  · refine Changes.when ?_ ?_
    · exact Changes.rfl
    · refine Changes.via ?_ (pairedRun_changes ..) (by decide +kernel)
      exact Changes.rfl
theorem execMemberSilenceExpiry_changes (sun : Nat) (s : State) : ∃ t, execMemberSilenceExpiry sun s = .next t ∧ Changes [.draws, .rings, .tbl, .fab, .rack, .sch, .pair, .flt, .cnt, .out] s t := by
  refine ⟨_, rfl, ?_⟩
  refine Changes.when ?_ ?_
  · exact Changes.rfl
  · refine Changes.via ?_ (pairedAll_changes ..) (by decide +kernel)
    exact Changes.rfl
theorem execStreamEntryFree_changes (stream sp tc : Nat) (s : State) : ∃ t, execStreamEntryFree stream sp tc s = .next t ∧ Changes [.draws, .rings, .queue, .port, .tbl, .mash, .adm, .fab, .rack, .insts, .log, .flt, .cnt, .out] s t := by
  refine ⟨_, rfl, ?_⟩
  split
  · exact Changes.rfl
  · extract_lets x1 x2
    refine Changes.when ?_ ?_
    · exact Changes.rfl
    · refine Changes.via ?_ (State.modRack_changes ..) (by decide +kernel)
      exact Changes.rfl

end Sys2Proof.Machine
end

