-- ==== Sys2Proof/Laws/Fab.lean ====
section
/-! SUPPORT. What each operation of Machine/Fab.lean can change. -/

set_option Elab.async false

namespace Sys2Proof.Machine

theorem fabRange_changes (s : State) : Changes [] s (fabRange s).st := by
  unfold fabRange
  refine Changes.err_st ?_
  exact Changes.rfl
theorem State.modFabCfg_changes (s : State) (f : FabCfg → FabCfg) : Changes [.fab] s (State.modFabCfg s f) := by
  unfold State.modFabCfg
  refine Changes.via ?_ (State.modFab_changes ..) (by decide +kernel)
  exact Changes.rfl
theorem unitAbsent_changes (sun : Nat) (s : State) : Changes [.draws, .rings, .tbl, .fab, .rack, .sch, .pair, .flt, .cnt, .out] s (unitAbsent sun s) := by
  unfold unitAbsent
  extract_lets x1 x2 x3 x4 x5 x6 x7
  refine Changes.via ?_ (pairedAll_changes ..) (by decide +kernel)
  subst x7
  refine Changes.foldS ?_ (fun _ _ => ?_)
  · subst x6
    refine Changes.ite ?_ ?_
    · refine Changes.via ?_ (count_changes ..) (by decide +kernel)
      refine Changes.via ?_ (State.modPair_changes ..) (by decide +kernel)
      subst x4
      refine Changes.foldS ?_ (fun _ _ => ?_)
      · subst x2
        refine Changes.via ?_ (State.modRack_changes ..) (by decide +kernel)
        subst x1
        refine Changes.via ?_ (State.modFab_changes ..) (by decide +kernel)
        exact Changes.rfl
      · refine Changes.via ?_ (ackCell_changes ..) (by decide +kernel)
        exact Changes.rfl
    · subst x4
      refine Changes.foldS ?_ (fun _ _ => ?_)
      · subst x2
        refine Changes.via ?_ (State.modRack_changes ..) (by decide +kernel)
        subst x1
        refine Changes.via ?_ (State.modFab_changes ..) (by decide +kernel)
        exact Changes.rfl
      · refine Changes.via ?_ (ackCell_changes ..) (by decide +kernel)
        exact Changes.rfl
  · refine Changes.via ?_ (absentStream_changes ..) (by decide +kernel)
    exact Changes.rfl
theorem sunLeft_changes (sun : Nat) (s : State) : Changes [.draws, .rings, .tbl, .fab, .rack, .sch, .pair, .flt, .cnt, .out] s (sunLeft sun s) := by
  unfold sunLeft
  refine Changes.ite ?_ ?_
  · exact Changes.rfl
  · extract_lets x1
    refine Changes.ite ?_ ?_
    · subst x1
      refine Changes.via ?_ (count_changes ..) (by decide +kernel)
      refine Changes.via ?_ (notify_changes ..) (by decide +kernel)
      exact Changes.rfl
    · refine Changes.via ?_ (unitAbsent_changes ..) (by decide +kernel)
      subst x1
      refine Changes.via ?_ (count_changes ..) (by decide +kernel)
      refine Changes.via ?_ (notify_changes ..) (by decide +kernel)
      exact Changes.rfl
theorem unlist_changes (plane sun : Nat) (s : State) : Changes [.draws, .rings, .tbl, .fab, .rack, .sch, .pair, .flt, .cnt, .out] s (unlist plane sun s) := by
  unfold unlist
  refine Changes.ite ?_ ?_
  · refine Changes.via ?_ (sunLeft_changes ..) (by decide +kernel)
    refine Changes.via ?_ (State.modFab_changes ..) (by decide +kernel)
    exact Changes.rfl
  · exact Changes.rfl
theorem enterHoldoff_changes (p : Nat) (byReset : Bool) (s : State) : Changes [.rings, .fab, .cnt, .out] s (enterHoldoff p byReset s) := by
  unfold enterHoldoff
  extract_lets x1 x2 x3
  refine Changes.via ?_ (State.modPlane_changes ..) (by decide +kernel)
  subst x3
  refine Changes.ite ?_ ?_
  · refine Changes.via ?_ (count_changes ..) (by decide +kernel)
    exact Changes.rfl
  · exact Changes.rfl
theorem dropSecret_changes (link : Nat) (s : State) : Changes [.sec] s (dropSecret link s) := by
  unfold dropSecret
  refine Changes.set_sec ?_ (by decide)
  exact Changes.rfl
theorem movePlane_changes (p : Nat) (s : State) : Changes [.fab] s (movePlane p s) := by
  unfold movePlane
  extract_lets x1 x2 x3
  refine Changes.foldS ?_ (fun _ _ => ?_)
  · subst x3
    refine Changes.foldS ?_ (fun _ _ => ?_)
    · subst x2
      refine Changes.via ?_ (State.modPlane_changes ..) (by decide +kernel)
      exact Changes.rfl
    · refine Changes.foldS ?_ (fun _ _ => ?_)
      · exact Changes.rfl
      · refine Changes.ite ?_ ?_
        · refine Changes.via ?_ (enqueueRetx_changes ..) (by decide +kernel)
          exact Changes.rfl
        · exact Changes.rfl
  · dsimp only
    refine Changes.foldS ?_ (fun _ _ => ?_)
    · refine Changes.via ?_ (takeCells_changes ..) (by decide +kernel)
      exact Changes.rfl
    · split
      · refine Changes.via ?_ (queueCell_changes ..) (by decide +kernel)
        exact Changes.rfl
      · exact Changes.rfl
theorem planeLoss_changes (p : Nat) (byReset : Bool) (s : State) : Changes [.draws, .rings, .tbl, .fab, .rack, .sch, .pair, .sec, .flt, .cnt, .out] s (planeLoss p byReset s) := by
  unfold planeLoss
  extract_lets x1 x2 x3 x4
  refine Changes.ite ?_ ?_
  · refine Changes.via ?_ (unitAbsent_changes ..) (by decide +kernel)
    subst x4
    refine Changes.via ?_ (noPlaneLeft_changes ..) (by decide +kernel)
    refine Changes.foldS ?_ (fun _ _ => ?_)
    · subst x3
      refine Changes.via ?_ (movePlane_changes ..) (by decide +kernel)
      refine Changes.via ?_ (notify_changes ..) (by decide +kernel)
      refine Changes.via ?_ (dropSecret_changes ..) (by decide +kernel)
      refine Changes.via ?_ (enterHoldoff_changes ..) (by decide +kernel)
      subst x1
      refine Changes.via ?_ (State.modFab_changes ..) (by decide +kernel)
      exact Changes.rfl
    · refine Changes.via ?_ (unlist_changes ..) (by decide +kernel)
      exact Changes.rfl
  · subst x4
    refine Changes.via ?_ (noPlaneLeft_changes ..) (by decide +kernel)
    refine Changes.foldS ?_ (fun _ _ => ?_)
    · subst x3
      refine Changes.via ?_ (movePlane_changes ..) (by decide +kernel)
      refine Changes.via ?_ (notify_changes ..) (by decide +kernel)
      refine Changes.via ?_ (dropSecret_changes ..) (by decide +kernel)
      refine Changes.via ?_ (enterHoldoff_changes ..) (by decide +kernel)
      subst x1
      refine Changes.via ?_ (State.modFab_changes ..) (by decide +kernel)
      exact Changes.rfl
    · refine Changes.via ?_ (unlist_changes ..) (by decide +kernel)
      exact Changes.rfl
theorem identify_changes (p : Nat) (s : State) : Changes [.fab] s (identify p s) := by
  unfold identify
  refine Changes.via ?_ (State.modPlane_changes ..) (by decide +kernel)
  exact Changes.rfl
theorem startReach_changes (s : State) : Changes [.fab] s (startReach s) := by
  unfold startReach
  refine Changes.foldS ?_ (fun _ _ => ?_)
  · exact Changes.rfl
  · refine Changes.ite ?_ ?_
    · refine Changes.via ?_ (State.modPlane_changes ..) (by decide +kernel)
      exact Changes.rfl
    · exact Changes.rfl
theorem laneJoins_changes (p : Nat) (s : State) : Changes [.fab] s (laneJoins p s) := by
  unfold laneJoins
  extract_lets x1
  refine Changes.ite ?_ ?_
  · refine Changes.via ?_ (identify_changes ..) (by decide +kernel)
    subst x1
    refine Changes.ite ?_ ?_
    · refine Changes.via ?_ (State.modPlane_changes ..) (by decide +kernel)
      exact Changes.rfl
    · exact Changes.rfl
  · subst x1
    refine Changes.ite ?_ ?_
    · refine Changes.via ?_ (State.modPlane_changes ..) (by decide +kernel)
      exact Changes.rfl
    · exact Changes.rfl
theorem execFabLaneTrained_changes (lane announced : Nat) (far : FarEnd) (s : State) : ∃ t, execFabLaneTrained lane announced far s = .next t ∧ Changes [.rings, .fab, .cnt, .out] s t := by
  refine ⟨_, rfl, ?_⟩
  split
  · exact Changes.rfl
  · refine Changes.when ?_ ?_
    · exact Changes.rfl
    · extract_lets x1 x2
      refine Changes.ite ?_ ?_
      · refine Changes.via ?_ (laneJoins_changes ..) (by decide +kernel)
        refine Changes.via ?_ (State.modLane_changes ..) (by decide +kernel)
        subst x1
        refine Changes.via ?_ (State.modLane_changes ..) (by decide +kernel)
        exact Changes.rfl
      · refine Changes.via ?_ (count_changes ..) (by decide +kernel)
        refine Changes.via ?_ (notify_changes ..) (by decide +kernel)
        subst x2
        refine Changes.via ?_ (State.modLane_changes ..) (by decide +kernel)
        subst x1
        refine Changes.via ?_ (State.modLane_changes ..) (by decide +kernel)
        exact Changes.rfl
theorem laneFault_changes (p lane cause : Nat) (lost : Bool) (s : State) : Changes [.draws, .rings, .log, .cnt, .out] s (laneFault p lane cause lost s) := by
  unfold laneFault
  extract_lets x1 x2
  split
  · extract_lets x3
    refine Changes.via ?_ (State.modRec_changes ..) (by decide +kernel)
    exact Changes.rfl
  · refine Changes.ite ?_ ?_
    · refine Changes.via ?_ (fault_changes ..) (by decide +kernel)
      exact Changes.rfl
    · refine Changes.via ?_ (openFault_changes ..) (by decide +kernel)
      exact Changes.rfl
theorem laneDown_changes (lane cause : Nat) (s : State) : Changes [.draws, .rings, .tbl, .fab, .rack, .sch, .pair, .sec, .log, .flt, .cnt, .out] s (laneDown lane cause s) := by
  unfold laneDown
  dsimp only
  split
  · refine Changes.via ?_ (count_changes ..) (by decide +kernel)
    refine Changes.via ?_ (notify_changes ..) (by decide +kernel)
    split
    · refine Changes.foldS ?_ (fun _ _ => ?_)
      · refine Changes.via ?_ (State.modLane_changes ..) (by decide +kernel)
        refine Changes.via ?_ (takeCells_changes ..) (by decide +kernel)
        exact Changes.rfl
      · refine Changes.via ?_ (queueCell_changes ..) (by decide +kernel)
        exact Changes.rfl
    · refine Changes.via ?_ (State.modLane_changes ..) (by decide +kernel)
      refine Changes.via ?_ (takeCells_changes ..) (by decide +kernel)
      exact Changes.rfl
  · refine Changes.via ?_ (fabricWindows_changes ..) (by decide +kernel)
    refine Changes.ite ?_ ?_
    · refine Changes.via ?_ (planeLoss_changes ..) (by decide +kernel)
      refine Changes.via ?_ (laneFault_changes ..) (by decide +kernel)
      refine Changes.via ?_ (count_changes ..) (by decide +kernel)
      refine Changes.via ?_ (notify_changes ..) (by decide +kernel)
      split
      · refine Changes.foldS ?_ (fun _ _ => ?_)
        · refine Changes.via ?_ (State.modLane_changes ..) (by decide +kernel)
          refine Changes.via ?_ (takeCells_changes ..) (by decide +kernel)
          exact Changes.rfl
        · refine Changes.via ?_ (queueCell_changes ..) (by decide +kernel)
          exact Changes.rfl
      · refine Changes.via ?_ (State.modLane_changes ..) (by decide +kernel)
        refine Changes.via ?_ (takeCells_changes ..) (by decide +kernel)
        exact Changes.rfl
    · refine Changes.via ?_ (laneFault_changes ..) (by decide +kernel)
      refine Changes.via ?_ (count_changes ..) (by decide +kernel)
      refine Changes.via ?_ (notify_changes ..) (by decide +kernel)
      split
      · refine Changes.foldS ?_ (fun _ _ => ?_)
        · refine Changes.via ?_ (State.modLane_changes ..) (by decide +kernel)
          refine Changes.via ?_ (takeCells_changes ..) (by decide +kernel)
          exact Changes.rfl
        · refine Changes.via ?_ (queueCell_changes ..) (by decide +kernel)
          exact Changes.rfl
      · refine Changes.via ?_ (State.modLane_changes ..) (by decide +kernel)
        refine Changes.via ?_ (takeCells_changes ..) (by decide +kernel)
        exact Changes.rfl
theorem execFabLaneDown_changes (lane cause : Nat) (s : State) : ∃ t, execFabLaneDown lane cause s = .next t ∧ Changes [.draws, .rings, .tbl, .fab, .rack, .sch, .pair, .sec, .log, .flt, .cnt, .out] s t := by
  refine ⟨_, rfl, ?_⟩
  refine Changes.when ?_ ?_
  · exact Changes.rfl
  · refine Changes.via ?_ (laneDown_changes ..) (by decide +kernel)
    exact Changes.rfl
theorem execFabLaneUp_changes (lane : Nat) (s : State) : ∃ t, execFabLaneUp lane s = .next t ∧ Changes [.rings, .fab, .cnt, .out] s t := by
  refine ⟨_, rfl, ?_⟩
  split
  · exact Changes.rfl
  · extract_lets x1
    refine Changes.when ?_ ?_
    · exact Changes.rfl
    · refine Changes.via ?_ (laneJoins_changes ..) (by decide +kernel)
      refine Changes.via ?_ (notify_changes ..) (by decide +kernel)
      refine Changes.via ?_ (State.modLane_changes ..) (by decide +kernel)
      exact Changes.rfl
theorem execFormationTimerExpiry_changes (plane : Nat) (s : State) : ∃ t, execFormationTimerExpiry plane s = .next t ∧ Changes [.rings, .fab, .cnt, .out] s t := by
  refine ⟨_, rfl, ?_⟩
  split
  · exact Changes.rfl
  · refine Changes.when ?_ ?_
    · exact Changes.rfl
    · refine Changes.ite ?_ ?_
      · refine Changes.via ?_ (identify_changes ..) (by decide +kernel)
        exact Changes.rfl
      · refine Changes.via ?_ (count_changes ..) (by decide +kernel)
        refine Changes.via ?_ (State.modPlane_changes ..) (by decide +kernel)
        exact Changes.rfl
theorem execReachabilityTimerExpiry_changes (plane : Nat) (s : State) : ∃ t, execReachabilityTimerExpiry plane s = .next t ∧ Changes [.rings, .fab, .cnt, .out] s t := by
  refine ⟨_, rfl, ?_⟩
  split
  · exact Changes.rfl
  · refine Changes.when ?_ ?_
    · exact Changes.rfl
    · refine Changes.via ?_ (enterHoldoff_changes ..) (by decide +kernel)
      refine Changes.via ?_ (count_changes ..) (by decide +kernel)
      exact Changes.rfl
theorem leaveHoldoff_changes (p : Nat) (s : State) : Changes [.fab] s (leaveHoldoff p s) := by
  unfold leaveHoldoff
  extract_lets x1
  refine Changes.foldS ?_ (fun _ _ => ?_)
  · subst x1
    refine Changes.via ?_ (State.modPlane_changes ..) (by decide +kernel)
    exact Changes.rfl
  · refine Changes.via ?_ (State.modLane_changes ..) (by decide +kernel)
    exact Changes.rfl
theorem execHoldoffExpiry_changes (plane : Nat) (s : State) : ∃ t, execHoldoffExpiry plane s = .next t ∧ Changes [.fab] s t := by
  refine ⟨_, rfl, ?_⟩
  split
  · exact Changes.rfl
  · refine Changes.when ?_ ?_
    · exact Changes.rfl
    · refine Changes.via ?_ (leaveHoldoff_changes ..) (by decide +kernel)
      exact Changes.rfl
theorem listSun_changes (plane sun : Nat) (s : State) : Changes [.rings, .fab, .cnt, .out] s (listSun plane sun s) := by
  unfold listSun
  extract_lets x1 x2
  refine Changes.ite ?_ ?_
  · refine Changes.via ?_ (notify_changes ..) (by decide +kernel)
    subst x2
    refine Changes.via ?_ (State.modFab_changes ..) (by decide +kernel)
    exact Changes.rfl
  · subst x2
    refine Changes.via ?_ (State.modFab_changes ..) (by decide +kernel)
    exact Changes.rfl
theorem reachCell_changes (plane : Nat) (suns : List Nat) (s : State) : Changes [.rings, .fab, .cnt, .out] s (reachCell plane suns s) := by
  unfold reachCell
  extract_lets x1 x2 x3 x4
  refine Changes.foldS ?_ (fun _ _ => ?_)
  · subst x4
    refine Changes.ite ?_ ?_
    · refine Changes.via ?_ (notify_changes ..) (by decide +kernel)
      subst x3
      refine Changes.via ?_ (State.modPlane_changes ..) (by decide +kernel)
      exact Changes.rfl
    · subst x3
      refine Changes.via ?_ (State.modPlane_changes ..) (by decide +kernel)
      exact Changes.rfl
  · refine Changes.via ?_ (listSun_changes ..) (by decide +kernel)
    exact Changes.rfl
theorem execReachCell_changes (plane : Nat) (suns : List Nat) (s : State) : ∃ t, execReachCell plane suns s = .next t ∧ Changes [.rings, .fab, .cnt, .out] s t := by
  refine ⟨_, rfl, ?_⟩
  refine Changes.when ?_ ?_
  · exact Changes.rfl
  · refine Changes.via ?_ (reachCell_changes ..) (by decide +kernel)
    exact Changes.rfl
theorem execSunListingTimeout_changes (plane sun : Nat) (s : State) : ∃ t, execSunListingTimeout plane sun s = .next t ∧ Changes [.draws, .rings, .tbl, .fab, .rack, .sch, .pair, .sec, .log, .flt, .cnt, .out] s t := by
  refine ⟨_, rfl, ?_⟩
  split
  · exact Changes.rfl
  · refine Changes.when ?_ ?_
    · exact Changes.rfl
    · extract_lets x1
      refine Changes.ite ?_ ?_
      · refine Changes.via ?_ (fabricWindows_changes ..) (by decide +kernel)
        refine Changes.via ?_ (planeLoss_changes ..) (by decide +kernel)
        refine Changes.via ?_ (fault_changes ..) (by decide +kernel)
        subst x1
        refine Changes.via ?_ (unlist_changes ..) (by decide +kernel)
        exact Changes.rfl
      · subst x1
        refine Changes.via ?_ (unlist_changes ..) (by decide +kernel)
        exact Changes.rfl
theorem execReachabilitySend_changes (s : State) : ∃ t, execReachabilitySend s = .next t ∧ Changes [.fab, .out] s t := by
  refine ⟨_, rfl, ?_⟩
  refine Changes.when ?_ ?_
  · exact Changes.rfl
  · refine Changes.foldS ?_ (fun _ _ => ?_)
    · refine Changes.via ?_ (State.modFab_changes ..) (by decide +kernel)
      exact Changes.rfl
    · refine Changes.via ?_ (State.emit_changes ..) (by decide +kernel)
      exact Changes.rfl
theorem execPlaneDownAnnounced_changes (plane : Nat) (s : State) : ∃ t, execPlaneDownAnnounced plane s = .next t ∧ Changes [.draws, .rings, .tbl, .fab, .rack, .sch, .pair, .sec, .log, .flt, .cnt, .out] s t := by
  refine ⟨_, rfl, ?_⟩
  refine Changes.when ?_ ?_
  · exact Changes.rfl
  · refine Changes.via ?_ (fabricWindows_changes ..) (by decide +kernel)
    refine Changes.via ?_ (planeLoss_changes ..) (by decide +kernel)
    refine Changes.via ?_ (fault_changes ..) (by decide +kernel)
    exact Changes.rfl
theorem disablePlane_changes (p : Nat) (s : State) : Changes [.draws, .rings, .tbl, .fab, .rack, .sch, .pair, .sec, .log, .flt, .cnt, .pwr, .out] s (disablePlane p s) := by
  unfold disablePlane
  extract_lets x1 x2 x3 x4 x5 x6
  refine Changes.via ?_ (fabricWindows_changes ..) (by decide +kernel)
  refine Changes.via ?_ (rampNext_changes ..) (by decide +kernel)
  refine Changes.ite ?_ ?_
  · refine Changes.via ?_ (domainEvent_changes ..) (by decide +kernel)
    subst x6
    refine Changes.via ?_ (State.setDom_changes ..) (by decide +kernel)
    refine Changes.via ?_ (State.modFabCfg_changes ..) (by decide +kernel)
    subst x4
    refine Changes.set_pwr ?_ (by decide)
    subst x2
    refine Changes.foldS ?_ (fun _ _ => ?_)
    · subst x1
      refine Changes.ite ?_ ?_
      · refine Changes.via ?_ (planeLoss_changes ..) (by decide +kernel)
        exact Changes.rfl
      · refine Changes.ite ?_ ?_
        · exact Changes.rfl
        · refine Changes.via ?_ (dropSecret_changes ..) (by decide +kernel)
          refine Changes.via ?_ (State.modPlane_changes ..) (by decide +kernel)
          exact Changes.rfl
    · refine Changes.via ?_ (State.modLane_changes ..) (by decide +kernel)
      exact Changes.rfl
  · subst x6
    refine Changes.via ?_ (State.setDom_changes ..) (by decide +kernel)
    refine Changes.via ?_ (State.modFabCfg_changes ..) (by decide +kernel)
    subst x4
    refine Changes.set_pwr ?_ (by decide)
    subst x2
    refine Changes.foldS ?_ (fun _ _ => ?_)
    · subst x1
      refine Changes.ite ?_ ?_
      · refine Changes.via ?_ (planeLoss_changes ..) (by decide +kernel)
        exact Changes.rfl
      · refine Changes.ite ?_ ?_
        · exact Changes.rfl
        · refine Changes.via ?_ (dropSecret_changes ..) (by decide +kernel)
          refine Changes.via ?_ (State.modPlane_changes ..) (by decide +kernel)
          exact Changes.rfl
    · refine Changes.via ?_ (State.modLane_changes ..) (by decide +kernel)
      exact Changes.rfl
theorem bodyFabPlane_changes (vi : Nat) (e : Entry) (s : State) : Changes [.draws, .rings, .tbl, .fab, .rack, .sch, .pair, .sec, .log, .flt, .cnt, .pwr, .out] s (bodyFabPlane vi e s).st := by
  unfold bodyFabPlane
  extract_lets x1 x2 x3 x4 x5 x6 x7 x8 x9 x10
  refine Changes.ite_st ?_ ?_
  · refine Changes.via ?_ (fabRange_changes ..) (by decide +kernel)
    exact Changes.rfl
  · refine Changes.ite_st ?_ ?_
    · refine Changes.storing ?_ ?_ (by decide)
      · exact Changes.rfl
      · refine Changes.ok_st ?_
        refine Changes.ite ?_ ?_
        · refine Changes.via ?_ (disablePlane_changes ..) (by decide +kernel)
          exact Changes.rfl
        · exact Changes.rfl
    · refine Changes.ite_st ?_ ?_
      · refine Changes.via ?_ (fabRange_changes ..) (by decide +kernel)
        exact Changes.rfl
      · refine Changes.ite_st ?_ ?_
        · refine Changes.err_st ?_
          exact Changes.rfl
        · refine Changes.ite_st ?_ ?_
          · refine Changes.err_st ?_
            exact Changes.rfl
          · refine Changes.storing ?_ ?_ (by decide)
            · exact Changes.rfl
            · refine Changes.ok_st ?_
              subst x10
              refine Changes.ite ?_ ?_
              · refine Changes.via ?_ (fabricWindows_changes ..) (by decide +kernel)
                refine Changes.via ?_ (planeLoss_changes ..) (by decide +kernel)
                refine Changes.via ?_ (fault_changes ..) (by decide +kernel)
                subst x9
                refine Changes.via ?_ (powerOn_changes ..) (by decide +kernel)
                refine Changes.via ?_ (State.modFabCfg_changes ..) (by decide +kernel)
                exact Changes.rfl
              · subst x9
                refine Changes.via ?_ (powerOn_changes ..) (by decide +kernel)
                refine Changes.via ?_ (State.modFabCfg_changes ..) (by decide +kernel)
                exact Changes.rfl
theorem bodyFabSpmap_changes (vi : Nat) (e : Entry) (s : State) : Changes [.rings, .fab, .sec, .cnt, .out] s (bodyFabSpmap vi e s).st := by
  unfold bodyFabSpmap
  extract_lets x1
  refine Changes.ite_st ?_ ?_
  · refine Changes.via ?_ (fabRange_changes ..) (by decide +kernel)
    exact Changes.rfl
  · refine Changes.ite_st ?_ ?_
    · refine Changes.via ?_ (badLen_changes ..) (by decide +kernel)
      exact Changes.rfl
    · split
      · refine Changes.err_st ?_
        exact Changes.rfl
      · refine Changes.storing ?_ ?_ (by decide)
        · exact Changes.rfl
        · refine Changes.ok_st ?_
          refine Changes.via ?_ (State.modFabCfg_changes ..) (by decide +kernel)
          exact Changes.rfl
theorem bodyFabConfig_changes (vi : Nat) (e : Entry) (s : State) : Changes [.draws, .rings, .queue, .port, .tbl, .mash, .adm, .fab, .insts, .sec, .log, .flt, .cnt, .out] s (bodyFabConfig vi e s).st := by
  unfold bodyFabConfig
  extract_lets x1 x2 x3 x4 x5 x6
  refine Changes.ite_st ?_ ?_
  · refine Changes.via ?_ (fabRange_changes ..) (by decide +kernel)
    exact Changes.rfl
  · refine Changes.ite_st ?_ ?_
    · refine Changes.err_st ?_
      exact Changes.rfl
    · refine Changes.storing ?_ ?_ (by decide)
      · exact Changes.rfl
      · refine Changes.ok_st ?_
        refine Changes.via ?_ (State.modFabCfg_changes ..) (by decide +kernel)
        exact Changes.rfl
theorem bodyFabCt_changes (vi : Nat) (e : Entry) (s : State) : Changes [.fab, .sec] s (bodyFabCt vi e s).st := by
  unfold bodyFabCt
  extract_lets x1 x2 x3
  refine Changes.ite_st ?_ ?_
  · refine Changes.via ?_ (fabRange_changes ..) (by decide +kernel)
    exact Changes.rfl
  · refine Changes.storing ?_ ?_ (by decide)
    · exact Changes.rfl
    · refine Changes.ok_st ?_
      refine Changes.via ?_ (State.modFabCfg_changes ..) (by decide +kernel)
      exact Changes.rfl
theorem bodyFabStatus_changes (vi : Nat) (e : Entry) (s : State) : Changes [] s (bodyFabStatus vi e s).st := by
  unfold bodyFabStatus
  refine Changes.read_st ?_
  exact Changes.rfl
theorem execFabPlane_changes (vi : Nat) (io : HostIo) (s : State) : ∃ t, execFabPlane vi io s = .next t ∧ Changes [.draws, .rings, .queue, .tbl, .fab, .rack, .sch, .pair, .sec, .log, .flt, .cnt, .pwr, .out] s t :=
  ⟨_, rfl, Changes.weaken (runCommand_changes _ _ _ _ _ (bodyFabPlane_changes vi)) (by decide)⟩
theorem execFabSpmap_changes (vi : Nat) (io : HostIo) (s : State) : ∃ t, execFabSpmap vi io s = .next t ∧ Changes [.rings, .queue, .fab, .pair, .sec, .cnt, .out] s t :=
  ⟨_, rfl, Changes.weaken (runCommand_changes _ _ _ _ _ (bodyFabSpmap_changes vi)) (by decide)⟩
theorem execFabConfig_changes (vi : Nat) (io : HostIo) (s : State) : ∃ t, execFabConfig vi io s = .next t ∧ Changes [.draws, .rings, .queue, .port, .tbl, .mash, .adm, .fab, .pair, .insts, .sec, .log, .flt, .cnt, .out] s t :=
  ⟨_, rfl, Changes.weaken (runCommand_changes _ _ _ _ _ (bodyFabConfig_changes vi)) (by decide)⟩
theorem execFabCt_changes (vi : Nat) (io : HostIo) (s : State) : ∃ t, execFabCt vi io s = .next t ∧ Changes [.rings, .queue, .fab, .pair, .sec, .cnt, .out] s t :=
  ⟨_, rfl, Changes.weaken (runCommand_changes _ _ _ _ _ (bodyFabCt_changes vi)) (by decide)⟩
theorem execFabStatus_changes (vi : Nat) (io : HostIo) (s : State) : ∃ t, execFabStatus vi io s = .next t ∧ Changes [.rings, .queue, .pair, .cnt, .out] s t :=
  ⟨_, rfl, Changes.weaken (runCommand_changes _ _ _ _ _ (bodyFabStatus_changes vi)) (by decide)⟩

end Sys2Proof.Machine
end

