-- ==== Sys2Proof/Laws/Port.lean ====
section
/-! SUPPORT. What each operation of Machine/Port.lean can change. -/

set_option Elab.async false

namespace Sys2Proof.Machine

theorem argErr_changes (s : State) : Changes [] s (argErr s).st := by
  unfold argErr
  refine Changes.err_st ?_
  exact Changes.rfl
theorem State.setCage_changes (s : State) (c : Nat) (x : Cage) : Changes [.dev] s (State.setCage s c x) := by
  unfold State.setCage
  refine Changes.set_dev ?_ (by decide)
  exact Changes.rfl
theorem moduleCause_changes (cage : Nat) (down : Bool) (s : State) : Changes [.rings, .port, .tim, .sch, .cnt, .out] s (moduleCause cage down s) := by
  unfold moduleCause
  refine Changes.foldS ?_ (fun _ _ => ?_)
  · exact Changes.rfl
  · refine Changes.via ?_ (setCause_changes ..) (by decide +kernel)
    exact Changes.rfl
theorem cageEvent_changes (ev : Nat × Nat) (cage : Nat) (more : List Byte) (s : State) : Changes [.rings, .cnt, .out] s (cageEvent ev cage more s) := by
  unfold cageEvent
  extract_lets x1
  refine Changes.via ?_ (notify_changes ..) (by decide +kernel)
  exact Changes.rfl
theorem cageInsert_changes (cage : Nat) (apps : List Nat) (s : State) : Changes [.rings, .dev, .cnt, .out] s (cageInsert cage apps s) := by
  unfold cageInsert
  extract_lets x1 x2 x3 x4
  subst x2
  split
  · extract_lets x5
    refine Changes.via ?_ (cageEvent_changes ..) (by decide +kernel)
    subst x5
    refine Changes.via ?_ (State.emit_changes ..) (by decide +kernel)
    refine Changes.via ?_ (State.setCage_changes ..) (by decide +kernel)
    exact Changes.rfl
  · refine Changes.ite ?_ ?_
    · subst x4
      refine Changes.via ?_ (cageEvent_changes ..) (by decide +kernel)
      subst x3
      refine Changes.via ?_ (State.setCage_changes ..) (by decide +kernel)
      exact Changes.rfl
    · refine Changes.via ?_ (count_changes ..) (by decide +kernel)
      subst x4
      refine Changes.via ?_ (cageEvent_changes ..) (by decide +kernel)
      subst x3
      refine Changes.via ?_ (State.setCage_changes ..) (by decide +kernel)
      exact Changes.rfl
theorem cageRefit_changes (p : Nat) (s : State) : Changes [.draws, .rings, .dev, .log, .cnt, .out] s (cageRefit p s) := by
  unfold cageRefit
  split
  · exact Changes.rfl
  · extract_lets x1
    refine Changes.ite ?_ ?_
    · refine Changes.via ?_ (cageInsert_changes ..) (by decide +kernel)
      exact Changes.rfl
    · exact Changes.rfl
theorem cageFault_changes (cage code : Nat) (s : State) : Changes [.draws, .rings, .dev, .port, .tim, .sch, .log, .cnt, .out] s (cageFault cage code s) := by
  unfold cageFault
  extract_lets x1 x2 x3 x4
  refine Changes.via ?_ (moduleCause_changes ..) (by decide +kernel)
  subst x4
  refine Changes.ite ?_ ?_
  · subst x3
    refine Changes.via ?_ (cageEvent_changes ..) (by decide +kernel)
    subst x2
    refine Changes.via ?_ (State.setCage_changes ..) (by decide +kernel)
    exact Changes.rfl
  · refine Changes.via ?_ (count_changes ..) (by decide +kernel)
    subst x3
    refine Changes.via ?_ (cageEvent_changes ..) (by decide +kernel)
    subst x2
    refine Changes.via ?_ (State.setCage_changes ..) (by decide +kernel)
    exact Changes.rfl
theorem execModuleInsert_changes (cage : Nat) (apps : List Nat) (s : State) : ∃ t, execModuleInsert cage apps s = .next t ∧ Changes [.rings, .dev, .cnt, .out] s t := by
  refine ⟨_, rfl, ?_⟩
  refine Changes.when ?_ ?_
  · exact Changes.rfl
  · refine Changes.via ?_ (cageInsert_changes ..) (by decide +kernel)
    exact Changes.rfl
theorem cageReady_changes (cage : Nat) (s : State) : Changes [.rings, .dev, .port, .tim, .sch, .cnt, .out] s (cageReady cage s) := by
  unfold cageReady
  refine Changes.ite ?_ ?_
  · refine Changes.via ?_ (moduleCause_changes ..) (by decide +kernel)
    refine Changes.via ?_ (cageEvent_changes ..) (by decide +kernel)
    refine Changes.via ?_ (State.setCage_changes ..) (by decide +kernel)
    exact Changes.rfl
  · exact Changes.rfl
theorem execModuleReady_changes (cage : Nat) (s : State) : ∃ t, execModuleReady cage s = .next t ∧ Changes [.draws, .rings, .dev, .port, .tim, .sch, .log, .cnt, .out] s t := by
  refine ⟨_, rfl, ?_⟩
  refine Changes.when ?_ ?_
  · exact Changes.rfl
  · refine Changes.via ?_ (cageReady_changes ..) (by decide +kernel)
    refine Changes.ite ?_ ?_
    · refine Changes.via ?_ (cageInsert_changes ..) (by decide +kernel)
      exact Changes.rfl
    · exact Changes.rfl
theorem execModuleFault_changes (cage code : Nat) (s : State) : ∃ t, execModuleFault cage code s = .next t ∧ Changes [.draws, .rings, .dev, .port, .tim, .sch, .log, .cnt, .out] s t := by
  refine ⟨_, rfl, ?_⟩
  refine Changes.when ?_ ?_
  · exact Changes.rfl
  · refine Changes.via ?_ (cageFault_changes ..) (by decide +kernel)
    exact Changes.rfl
theorem execModuleRemove_changes (cage : Nat) (s : State) : ∃ t, execModuleRemove cage s = .next t ∧ Changes [.rings, .dev, .port, .tim, .sch, .cnt, .out] s t := by
  refine ⟨_, rfl, ?_⟩
  refine Changes.when ?_ ?_
  · exact Changes.rfl
  · refine Changes.via ?_ (moduleCause_changes ..) (by decide +kernel)
    refine Changes.via ?_ (cageEvent_changes ..) (by decide +kernel)
    refine Changes.via ?_ (State.setCage_changes ..) (by decide +kernel)
    exact Changes.rfl
theorem execModuleFlag_changes (cage : Nat) (flags : List Byte) (s : State) : ∃ t, execModuleFlag cage flags s = .next t ∧ Changes [.rings, .cnt, .out] s t := by
  refine ⟨_, rfl, ?_⟩
  refine Changes.when ?_ ?_
  · exact Changes.rfl
  · refine Changes.via ?_ (cageEvent_changes ..) (by decide +kernel)
    exact Changes.rfl
theorem execModuleReadyTimeout_changes (cage : Nat) (s : State) : ∃ t, execModuleReadyTimeout cage s = .next t ∧ Changes [.draws, .rings, .dev, .port, .tim, .sch, .log, .cnt, .out] s t := by
  refine ⟨_, rfl, ?_⟩
  refine Changes.when ?_ ?_
  · exact Changes.rfl
  · refine Changes.via ?_ (cageFault_changes ..) (by decide +kernel)
    exact Changes.rfl
theorem portRetrain_changes (p : Nat) (s : State) : Changes [.rings, .port, .tim, .sch, .cnt, .out] s (portRetrain p s) := by
  unfold portRetrain
  refine Changes.ite ?_ ?_
  · exact Changes.rfl
  · refine Changes.via ?_ (retrainStart_changes ..) (by decide +kernel)
    exact Changes.rfl
theorem dropTypeDefects_changes (p : Nat) (s : State) : Changes [.port] s (dropTypeDefects p s) := by
  unfold dropTypeDefects
  refine Changes.via ?_ (State.modPort_changes ..) (by decide +kernel)
  exact Changes.rfl
theorem portDelete_changes (p : Nat) (s : State) : Changes [.rings, .port, .tim, .adm, .sch, .cnt, .out] s (portDelete p s) := by
  unfold portDelete
  extract_lets x1 x2 x3 x4 x5 x6 x7
  refine Changes.via ?_ (probeRefresh_changes ..) (by decide +kernel)
  refine Changes.via ?_ (State.modPort_changes ..) (by decide +kernel)
  subst x5
  refine Changes.set_all (x1) ?_ (fun p hp => by clear_value x1; cases p <;> first | exact absurd (by decide) hp | rfl)
  subst x1
  refine Changes.via ?_ (egressHold_changes ..) (by decide +kernel)
  refine Changes.via ?_ (portDisable_changes ..) (by decide +kernel)
  exact Changes.rfl
theorem portApply_changes (p : Nat) (c : PortCfg) (s : State) : Changes [.draws, .rings, .dev, .port, .tim, .sch, .log, .cnt, .pwr, .out] s (portApply p c s) := by
  unfold portApply
  extract_lets x1 x2 x3 x4 x5 x6 x7 x8 x9 x10 x11
  refine Changes.via ?_ (cageRefit_changes ..) (by decide +kernel)
  refine Changes.via ?_ (macsecRefresh_changes ..) (by decide +kernel)
  subst x11
  refine Changes.ite ?_ ?_
  · refine Changes.via ?_ (powerOn_changes ..) (by decide +kernel)
    subst x10
    refine Changes.via ?_ (portTrain_changes ..) (by decide +kernel)
    subst x9
    refine Changes.ite ?_ ?_
    · refine Changes.via ?_ (setCause_changes ..) (by decide +kernel)
      subst x8
      refine Changes.via ?_ (setCause_changes ..) (by decide +kernel)
      subst x6
      refine Changes.ite ?_ ?_
      · subst x5
        refine Changes.ite ?_ ?_
        · subst x3
          refine Changes.set_port ?_ (by decide)
          exact Changes.rfl
        · refine Changes.ite ?_ ?_
          · refine Changes.via ?_ (portRetrain_changes ..) (by decide +kernel)
            subst x3
            refine Changes.set_port ?_ (by decide)
            exact Changes.rfl
          · subst x3
            refine Changes.set_port ?_ (by decide)
            exact Changes.rfl
      · refine Changes.via ?_ (dropTypeDefects_changes ..) (by decide +kernel)
        subst x5
        refine Changes.ite ?_ ?_
        · subst x3
          refine Changes.set_port ?_ (by decide)
          exact Changes.rfl
        · refine Changes.ite ?_ ?_
          · refine Changes.via ?_ (portRetrain_changes ..) (by decide +kernel)
            subst x3
            refine Changes.set_port ?_ (by decide)
            exact Changes.rfl
          · subst x3
            refine Changes.set_port ?_ (by decide)
            exact Changes.rfl
    · subst x8
      refine Changes.via ?_ (setCause_changes ..) (by decide +kernel)
      subst x6
      refine Changes.ite ?_ ?_
      · subst x5
        refine Changes.ite ?_ ?_
        · subst x3
          refine Changes.set_port ?_ (by decide)
          exact Changes.rfl
        · refine Changes.ite ?_ ?_
          · refine Changes.via ?_ (portRetrain_changes ..) (by decide +kernel)
            subst x3
            refine Changes.set_port ?_ (by decide)
            exact Changes.rfl
          · subst x3
            refine Changes.set_port ?_ (by decide)
            exact Changes.rfl
      · refine Changes.via ?_ (dropTypeDefects_changes ..) (by decide +kernel)
        subst x5
        refine Changes.ite ?_ ?_
        · subst x3
          refine Changes.set_port ?_ (by decide)
          exact Changes.rfl
        · refine Changes.ite ?_ ?_
          · refine Changes.via ?_ (portRetrain_changes ..) (by decide +kernel)
            subst x3
            refine Changes.set_port ?_ (by decide)
            exact Changes.rfl
          · subst x3
            refine Changes.set_port ?_ (by decide)
            exact Changes.rfl
  · subst x10
    refine Changes.via ?_ (portTrain_changes ..) (by decide +kernel)
    subst x9
    refine Changes.ite ?_ ?_
    · refine Changes.via ?_ (setCause_changes ..) (by decide +kernel)
      subst x8
      refine Changes.via ?_ (setCause_changes ..) (by decide +kernel)
      subst x6
      refine Changes.ite ?_ ?_
      · subst x5
        refine Changes.ite ?_ ?_
        · subst x3
          refine Changes.set_port ?_ (by decide)
          exact Changes.rfl
        · refine Changes.ite ?_ ?_
          · refine Changes.via ?_ (portRetrain_changes ..) (by decide +kernel)
            subst x3
            refine Changes.set_port ?_ (by decide)
            exact Changes.rfl
          · subst x3
            refine Changes.set_port ?_ (by decide)
            exact Changes.rfl
      · refine Changes.via ?_ (dropTypeDefects_changes ..) (by decide +kernel)
        subst x5
        refine Changes.ite ?_ ?_
        · subst x3
          refine Changes.set_port ?_ (by decide)
          exact Changes.rfl
        · refine Changes.ite ?_ ?_
          · refine Changes.via ?_ (portRetrain_changes ..) (by decide +kernel)
            subst x3
            refine Changes.set_port ?_ (by decide)
            exact Changes.rfl
          · subst x3
            refine Changes.set_port ?_ (by decide)
            exact Changes.rfl
    · subst x8
      refine Changes.via ?_ (setCause_changes ..) (by decide +kernel)
      subst x6
      refine Changes.ite ?_ ?_
      · subst x5
        refine Changes.ite ?_ ?_
        · subst x3
          refine Changes.set_port ?_ (by decide)
          exact Changes.rfl
        · refine Changes.ite ?_ ?_
          · refine Changes.via ?_ (portRetrain_changes ..) (by decide +kernel)
            subst x3
            refine Changes.set_port ?_ (by decide)
            exact Changes.rfl
          · subst x3
            refine Changes.set_port ?_ (by decide)
            exact Changes.rfl
      · refine Changes.via ?_ (dropTypeDefects_changes ..) (by decide +kernel)
        subst x5
        refine Changes.ite ?_ ?_
        · subst x3
          refine Changes.set_port ?_ (by decide)
          exact Changes.rfl
        · refine Changes.ite ?_ ?_
          · refine Changes.via ?_ (portRetrain_changes ..) (by decide +kernel)
            subst x3
            refine Changes.set_port ?_ (by decide)
            exact Changes.rfl
          · subst x3
            refine Changes.set_port ?_ (by decide)
            exact Changes.rfl
theorem bodyPortConfig_changes (vi : Nat) (e : Entry) (s : State) : Changes [.draws, .rings, .dev, .port, .tim, .adm, .sch, .sec, .log, .cnt, .pwr, .out] s (bodyPortConfig vi e s).st := by
  unfold bodyPortConfig
  extract_lets x1 x2 x3 x4 x5 x6 x7 x8 x9 x10 x11 x12 x13 x14
  refine Changes.ite_st ?_ ?_
  · refine Changes.via ?_ (argErr_changes ..) (by decide +kernel)
    exact Changes.rfl
  · refine Changes.ite_st ?_ ?_
    · refine Changes.ite_st ?_ ?_
      · refine Changes.via ?_ (argErr_changes ..) (by decide +kernel)
        exact Changes.rfl
      · refine Changes.ite_st ?_ ?_
        · refine Changes.err_st ?_
          exact Changes.rfl
        · refine Changes.ite_st ?_ ?_
          · refine Changes.err_st ?_
            exact Changes.rfl
          · refine Changes.storing ?_ ?_ (by decide)
            · exact Changes.rfl
            · refine Changes.ok_st ?_
              refine Changes.via ?_ (portDelete_changes ..) (by decide +kernel)
              exact Changes.rfl
    · refine Changes.ite_st ?_ ?_
      · refine Changes.err_st ?_
        exact Changes.rfl
      · refine Changes.ite_st ?_ ?_
        · refine Changes.via ?_ (argErr_changes ..) (by decide +kernel)
          exact Changes.rfl
        · refine Changes.ite_st ?_ ?_
          · refine Changes.via ?_ (argErr_changes ..) (by decide +kernel)
            exact Changes.rfl
          · refine Changes.ite_st ?_ ?_
            · refine Changes.via ?_ (argErr_changes ..) (by decide +kernel)
              exact Changes.rfl
            · refine Changes.ite_st ?_ ?_
              · refine Changes.err_st ?_
                exact Changes.rfl
              · refine Changes.ite_st ?_ ?_
                · refine Changes.err_st ?_
                  exact Changes.rfl
                · refine Changes.ite_st ?_ ?_
                  · refine Changes.err_st ?_
                    exact Changes.rfl
                  · refine Changes.ite_st ?_ ?_
                    · refine Changes.ok_st ?_
                      exact Changes.rfl
                    · refine Changes.ite_st ?_ ?_
                      · refine Changes.err_st ?_
                        exact Changes.rfl
                      · refine Changes.ite_st ?_ ?_
                        · refine Changes.err_st ?_
                          exact Changes.rfl
                        · refine Changes.ite_st ?_ ?_
                          · refine Changes.err_st ?_
                            exact Changes.rfl
                          · refine Changes.storing ?_ ?_ (by decide)
                            · exact Changes.rfl
                            · refine Changes.ok_st ?_
                              refine Changes.via ?_ (portApply_changes ..) (by decide +kernel)
                              exact Changes.rfl
theorem bodyPortAdmin_changes (vi : Nat) (e : Entry) (s : State) : Changes [.rings, .port, .tim, .sch, .cnt, .out] s (bodyPortAdmin vi e s).st := by
  unfold bodyPortAdmin
  extract_lets x1 x2 x3 x4 x5
  refine Changes.ite_st ?_ ?_
  · refine Changes.via ?_ (argErr_changes ..) (by decide +kernel)
    exact Changes.rfl
  · refine Changes.ite_st ?_ ?_
    · refine Changes.err_st ?_
      exact Changes.rfl
    · refine Changes.ok_st ?_
      refine Changes.via ?_ (setCause_changes ..) (by decide +kernel)
      subst x5
      refine Changes.ite ?_ ?_
      · refine Changes.via ?_ (portDisable_changes ..) (by decide +kernel)
        refine Changes.via ?_ (State.modPort_changes ..) (by decide +kernel)
        subst x4
        refine Changes.via ?_ (State.modPort_changes ..) (by decide +kernel)
        exact Changes.rfl
      · refine Changes.via ?_ (portTrain_changes ..) (by decide +kernel)
        refine Changes.via ?_ (State.modPort_changes ..) (by decide +kernel)
        subst x4
        refine Changes.via ?_ (State.modPort_changes ..) (by decide +kernel)
        exact Changes.rfl
theorem bodyPortStatus_changes (vi : Nat) (e : Entry) (s : State) : Changes [.rings, .cnt, .out] s (bodyPortStatus vi e s).st := by
  unfold bodyPortStatus
  extract_lets x1 x2
  refine Changes.ite_st ?_ ?_
  · refine Changes.via ?_ (argErr_changes ..) (by decide +kernel)
    exact Changes.rfl
  · refine Changes.ite_st ?_ ?_
    · refine Changes.via ?_ (notPermitted_changes ..) (by decide +kernel)
      exact Changes.rfl
    · refine Changes.read_st ?_
      exact Changes.rfl
theorem macsecPort_some {s : State} {p : Nat} {r : Reply} (h : macsecPort s p = some r) : Changes [] s r.st := by
  unfold macsecPort at h
  repeat' (split at h)
  all_goals first
    | cases h; exact Changes.rfl
    | cases h
theorem State.modPcfg_changes (s : State) (p : Nat) (f : PortCfg → PortCfg) : Changes [.port] s (State.modPcfg s p f) := by
  unfold State.modPcfg
  refine Changes.set_port ?_ (by decide)
  exact Changes.rfl
theorem bodyPortMacsecSecy_changes (vi : Nat) (e : Entry) (s : State) : Changes [.rings, .port, .tim, .sch, .sec, .cnt, .out] s (bodyPortMacsecSecy vi e s).st := by
  unfold bodyPortMacsecSecy
  extract_lets x1 x2 x3 x4 x5 x6 x7 x8
  split
  · refine Changes.via ?_ (macsecPort_some (by assumption)) (by decide)
    exact Changes.rfl
  · refine Changes.ite_st ?_ ?_
    · refine Changes.err_st ?_
      exact Changes.rfl
    · refine Changes.ite_st ?_ ?_
      · refine Changes.via ?_ (argErr_changes ..) (by decide +kernel)
        exact Changes.rfl
      · refine Changes.ite_st ?_ ?_
        · refine Changes.err_st ?_
          exact Changes.rfl
        · refine Changes.storing ?_ ?_ (by decide)
          · exact Changes.rfl
          · refine Changes.ok_st ?_
            refine Changes.via ?_ (macsecRefresh_changes ..) (by decide +kernel)
            subst x8
            refine Changes.ite ?_ ?_
            · subst x7
              refine Changes.via ?_ (State.modPcfg_changes ..) (by decide +kernel)
              exact Changes.rfl
            · refine Changes.via ?_ (State.modPort_changes ..) (by decide +kernel)
              subst x7
              refine Changes.via ?_ (State.modPcfg_changes ..) (by decide +kernel)
              exact Changes.rfl
theorem bodyPortMacsecRxsc_changes (vi : Nat) (e : Entry) (s : State) : Changes [.port, .sec] s (bodyPortMacsecRxsc vi e s).st := by
  unfold bodyPortMacsecRxsc
  extract_lets x1 x2 x3 x4
  split
  · refine Changes.via ?_ (macsecPort_some (by assumption)) (by decide)
    exact Changes.rfl
  · refine Changes.ite_st ?_ ?_
    · refine Changes.ite_st ?_ ?_
      · refine Changes.ok_st ?_
        exact Changes.rfl
      · refine Changes.ite_st ?_ ?_
        · refine Changes.err_st ?_
          exact Changes.rfl
        · refine Changes.storing ?_ ?_ (by decide)
          · exact Changes.rfl
          · refine Changes.ok_st ?_
            refine Changes.via ?_ (State.modPcfg_changes ..) (by decide +kernel)
            refine Changes.via ?_ (State.modPort_changes ..) (by decide +kernel)
            exact Changes.rfl
    · refine Changes.ite_st ?_ ?_
      · refine Changes.ite_st ?_ ?_
        · refine Changes.via ?_ (argErr_changes ..) (by decide +kernel)
          exact Changes.rfl
        · refine Changes.storing ?_ ?_ (by decide)
          · exact Changes.rfl
          · refine Changes.ok_st ?_
            refine Changes.via ?_ (State.modPcfg_changes ..) (by decide +kernel)
            refine Changes.via ?_ (State.modPort_changes ..) (by decide +kernel)
            exact Changes.rfl
      · refine Changes.via ?_ (argErr_changes ..) (by decide +kernel)
        exact Changes.rfl
theorem bodyPortMacsecSa_changes (vi : Nat) (e : Entry) (s : State) : Changes [.rings, .port, .tim, .sch, .cnt, .out] s (bodyPortMacsecSa vi e s).st := by
  unfold bodyPortMacsecSa
  extract_lets x1 x2 x3 x4 x5 x6 x7 x8 x9
  split
  · refine Changes.via ?_ (macsecPort_some (by assumption)) (by decide)
    exact Changes.rfl
  · refine Changes.ite_st ?_ ?_
    · refine Changes.via ?_ (argErr_changes ..) (by decide +kernel)
      exact Changes.rfl
    · refine Changes.ite_st ?_ ?_
      · refine Changes.err_st ?_
        exact Changes.rfl
      · refine Changes.ite_st ?_ ?_
        · refine Changes.err_st ?_
          exact Changes.rfl
        · refine Changes.ite_st ?_ ?_
          · refine Changes.ite_st ?_ ?_
            · refine Changes.via ?_ (argErr_changes ..) (by decide +kernel)
              exact Changes.rfl
            · refine Changes.ite_st ?_ ?_
              · refine Changes.err_st ?_
                exact Changes.rfl
              · refine Changes.ok_st ?_
                refine Changes.via ?_ (macsecRefresh_changes ..) (by decide +kernel)
                refine Changes.via ?_ (State.modPort_changes ..) (by decide +kernel)
                exact Changes.rfl
          · split
            · refine Changes.via ?_ (argErr_changes ..) (by decide +kernel)
              exact Changes.rfl
            · refine Changes.ite_st ?_ ?_
              · refine Changes.via ?_ (argErr_changes ..) (by decide +kernel)
                exact Changes.rfl
              · refine Changes.ok_st ?_
                refine Changes.via ?_ (State.modPort_changes ..) (by decide +kernel)
                exact Changes.rfl
theorem execPortConfig_changes (vi : Nat) (io : HostIo) (s : State) : ∃ t, execPortConfig vi io s = .next t ∧ Changes [.draws, .rings, .queue, .dev, .port, .tim, .adm, .sch, .pair, .sec, .log, .cnt, .pwr, .out] s t :=
  ⟨_, rfl, Changes.weaken (runCommand_changes _ _ _ _ _ (bodyPortConfig_changes vi)) (by decide)⟩
theorem execPortAdmin_changes (vi : Nat) (io : HostIo) (s : State) : ∃ t, execPortAdmin vi io s = .next t ∧ Changes [.rings, .queue, .port, .tim, .sch, .pair, .cnt, .out] s t :=
  ⟨_, rfl, Changes.weaken (runCommand_changes _ _ _ _ _ (bodyPortAdmin_changes vi)) (by decide)⟩
theorem execPortStatus_changes (vi : Nat) (io : HostIo) (s : State) : ∃ t, execPortStatus vi io s = .next t ∧ Changes [.rings, .queue, .pair, .cnt, .out] s t :=
  ⟨_, rfl, Changes.weaken (runCommand_changes _ _ _ _ _ (bodyPortStatus_changes vi)) (by decide)⟩
theorem execPortMacsecSecy_changes (vi : Nat) (io : HostIo) (s : State) : ∃ t, execPortMacsecSecy vi io s = .next t ∧ Changes [.rings, .queue, .port, .tim, .sch, .pair, .sec, .cnt, .out] s t :=
  ⟨_, rfl, Changes.weaken (runCommand_changes _ _ _ _ _ (bodyPortMacsecSecy_changes vi)) (by decide)⟩
theorem execPortMacsecRxsc_changes (vi : Nat) (io : HostIo) (s : State) : ∃ t, execPortMacsecRxsc vi io s = .next t ∧ Changes [.rings, .queue, .port, .pair, .sec, .cnt, .out] s t :=
  ⟨_, rfl, Changes.weaken (runCommand_changes _ _ _ _ _ (bodyPortMacsecRxsc_changes vi)) (by decide)⟩
theorem execPortMacsecSa_changes (vi : Nat) (io : HostIo) (s : State) : ∃ t, execPortMacsecSa vi io s = .next t ∧ Changes [.rings, .queue, .port, .tim, .sch, .pair, .cnt, .out] s t :=
  ⟨_, rfl, Changes.weaken (runCommand_changes _ _ _ _ _ (bodyPortMacsecSa_changes vi)) (by decide)⟩
theorem tribDefect_changes (p t : Nat) (on : Bool) (s : State) : Changes [.rings, .port, .frm, .cnt, .out] s (tribDefect p t on s) := by
  unfold tribDefect
  extract_lets x1 x2 x3
  refine Changes.via ?_ (protRefreshAll_changes ..) (by decide +kernel)
  refine Changes.via ?_ (notify_changes ..) (by decide +kernel)
  subst x3
  refine Changes.ite ?_ ?_
  · refine Changes.via ?_ (count_changes ..) (by decide +kernel)
    subst x2
    refine Changes.via ?_ (State.modPort_changes ..) (by decide +kernel)
    exact Changes.rfl
  · subst x2
    refine Changes.via ?_ (State.modPort_changes ..) (by decide +kernel)
    exact Changes.rfl
theorem execLineDefectDetect_changes (port bit : Nat) (trib : Option Nat) (s : State) : ∃ t, execLineDefectDetect port bit trib s = .next t ∧ Changes [.rings, .port, .frm, .tim, .sch, .cnt, .out] s t := by
  refine ⟨_, rfl, ?_⟩
  refine Changes.when ?_ ?_
  · exact Changes.rfl
  · split
    · refine Changes.ite ?_ ?_
      · refine Changes.when ?_ ?_
        · exact Changes.rfl
        · refine Changes.via ?_ (tribDefect_changes ..) (by decide +kernel)
          exact Changes.rfl
      · refine Changes.when ?_ ?_
        · exact Changes.rfl
        · refine Changes.via ?_ (lineDefect_changes ..) (by decide +kernel)
          exact Changes.rfl
    · refine Changes.when ?_ ?_
      · exact Changes.rfl
      · refine Changes.via ?_ (lineDefect_changes ..) (by decide +kernel)
        exact Changes.rfl
theorem execLineDefectClear_changes (port bit : Nat) (trib : Option Nat) (s : State) : ∃ t, execLineDefectClear port bit trib s = .next t ∧ Changes [.rings, .port, .frm, .tim, .sch, .cnt, .out] s t := by
  refine ⟨_, rfl, ?_⟩
  refine Changes.when ?_ ?_
  · exact Changes.rfl
  · split
    · refine Changes.ite ?_ ?_
      · refine Changes.when ?_ ?_
        · exact Changes.rfl
        · refine Changes.via ?_ (tribDefect_changes ..) (by decide +kernel)
          exact Changes.rfl
      · refine Changes.when ?_ ?_
        · exact Changes.rfl
        · refine Changes.via ?_ (lineDefect_changes ..) (by decide +kernel)
          exact Changes.rfl
    · refine Changes.when ?_ ?_
      · exact Changes.rfl
      · refine Changes.via ?_ (lineDefect_changes ..) (by decide +kernel)
        exact Changes.rfl
theorem fecDegrade_changes (p : Nat) (on : Bool) (s : State) : Changes [.rings, .port, .frm, .tim, .sch, .cnt, .out] s (fecDegrade p on s) := by
  unfold fecDegrade
  refine Changes.via ?_ (lineDefect_changes ..) (by decide +kernel)
  refine Changes.via ?_ (notify_changes ..) (by decide +kernel)
  exact Changes.rfl
theorem execFecDegradeWindow_changes (port errors symbols : Nat) (s : State) : ∃ t, execFecDegradeWindow port errors symbols s = .next t ∧ Changes [.draws, .rings, .port, .frm, .tim, .sch, .cnt, .out] s t := by
  refine ⟨_, rfl, ?_⟩
  refine Changes.when ?_ ?_
  · exact Changes.rfl
  · extract_lets x1 x2 x3 x4
    refine Changes.ite ?_ ?_
    · refine Changes.ite ?_ ?_
      · refine Changes.via ?_ (fecDegrade_changes ..) (by decide +kernel)
        refine Changes.via ?_ (State.modPort_changes ..) (by decide +kernel)
        subst x3
        refine Changes.ite ?_ ?_
        · subst x2
          refine Changes.via ?_ (count_changes ..) (by decide +kernel)
          exact Changes.rfl
        · refine Changes.via ?_ (State.drawn_changes ..) (by decide +kernel)
          refine Changes.via ?_ (count_changes ..) (by decide +kernel)
          subst x2
          refine Changes.via ?_ (count_changes ..) (by decide +kernel)
          exact Changes.rfl
      · subst x3
        refine Changes.ite ?_ ?_
        · subst x2
          refine Changes.via ?_ (count_changes ..) (by decide +kernel)
          exact Changes.rfl
        · refine Changes.via ?_ (State.drawn_changes ..) (by decide +kernel)
          refine Changes.via ?_ (count_changes ..) (by decide +kernel)
          subst x2
          refine Changes.via ?_ (count_changes ..) (by decide +kernel)
          exact Changes.rfl
    · refine Changes.ite ?_ ?_
      · refine Changes.ite ?_ ?_
        · refine Changes.via ?_ (State.modPort_changes ..) (by decide +kernel)
          subst x3
          refine Changes.ite ?_ ?_
          · subst x2
            refine Changes.via ?_ (count_changes ..) (by decide +kernel)
            exact Changes.rfl
          · refine Changes.via ?_ (State.drawn_changes ..) (by decide +kernel)
            refine Changes.via ?_ (count_changes ..) (by decide +kernel)
            subst x2
            refine Changes.via ?_ (count_changes ..) (by decide +kernel)
            exact Changes.rfl
        · refine Changes.via ?_ (fecDegrade_changes ..) (by decide +kernel)
          refine Changes.via ?_ (State.modPort_changes ..) (by decide +kernel)
          subst x3
          refine Changes.ite ?_ ?_
          · subst x2
            refine Changes.via ?_ (count_changes ..) (by decide +kernel)
            exact Changes.rfl
          · refine Changes.via ?_ (State.drawn_changes ..) (by decide +kernel)
            refine Changes.via ?_ (count_changes ..) (by decide +kernel)
            subst x2
            refine Changes.via ?_ (count_changes ..) (by decide +kernel)
            exact Changes.rfl
      · refine Changes.via ?_ (State.modPort_changes ..) (by decide +kernel)
        subst x3
        refine Changes.ite ?_ ?_
        · subst x2
          refine Changes.via ?_ (count_changes ..) (by decide +kernel)
          exact Changes.rfl
        · refine Changes.via ?_ (State.drawn_changes ..) (by decide +kernel)
          refine Changes.via ?_ (count_changes ..) (by decide +kernel)
          subst x2
          refine Changes.via ?_ (count_changes ..) (by decide +kernel)
          exact Changes.rfl
theorem execAlignmentHuntCycle_changes (port : Nat) (view : HuntView) (s : State) : ∃ t, execAlignmentHuntCycle port view s = .next t ∧ Changes [.rings, .port, .frm, .tim, .sch, .cnt, .out] s t := by
  refine ⟨_, rfl, ?_⟩
  refine Changes.when ?_ ?_
  · exact Changes.rfl
  · extract_lets x1 x2
    refine Changes.ite ?_ ?_
    · subst x1
      refine Changes.via ?_ (State.modPort_changes ..) (by decide +kernel)
      exact Changes.rfl
    · refine Changes.ite ?_ ?_
      · refine Changes.via ?_ (lineDefect_changes ..) (by decide +kernel)
        subst x1
        refine Changes.via ?_ (State.modPort_changes ..) (by decide +kernel)
        exact Changes.rfl
      · refine Changes.ite ?_ ?_
        · subst x2
          refine Changes.via ?_ (count_changes ..) (by decide +kernel)
          subst x1
          refine Changes.via ?_ (State.modPort_changes ..) (by decide +kernel)
          exact Changes.rfl
        · refine Changes.via ?_ (notify_changes ..) (by decide +kernel)
          refine Changes.via ?_ (State.modPort_changes ..) (by decide +kernel)
          subst x2
          refine Changes.via ?_ (count_changes ..) (by decide +kernel)
          subst x1
          refine Changes.via ?_ (State.modPort_changes ..) (by decide +kernel)
          exact Changes.rfl
theorem execPortLanesLocked_changes (port : Nat) (s : State) : ∃ t, execPortLanesLocked port s = .next t ∧ Changes [.rings, .dev, .port, .tim, .sch, .cnt, .out] s t := by
  refine ⟨_, rfl, ?_⟩
  refine Changes.when ?_ ?_
  · exact Changes.rfl
  · split
    · exact Changes.rfl
    · refine Changes.ite ?_ ?_
      · refine Changes.via ?_ (retrainDone_changes ..) (by decide +kernel)
        refine Changes.via ?_ (portEvaluate_changes ..) (by decide +kernel)
        refine Changes.via ?_ (State.modPort_changes ..) (by decide +kernel)
        exact Changes.rfl
      · refine Changes.via ?_ (retrainDone_changes ..) (by decide +kernel)
        refine Changes.via ?_ (State.modPort_changes ..) (by decide +kernel)
        exact Changes.rfl
theorem execUpDebounceExpiry_changes (port : Nat) (s : State) : ∃ t, execUpDebounceExpiry port s = .next t ∧ Changes [.rings, .port, .tim, .sch, .cnt, .out] s t := by
  refine ⟨_, rfl, ?_⟩
  refine Changes.when ?_ ?_
  · exact Changes.rfl
  · refine Changes.via ?_ (portEnterUp_changes ..) (by decide +kernel)
    exact Changes.rfl
theorem execDownDebounceExpiry_changes (port : Nat) (s : State) : ∃ t, execDownDebounceExpiry port s = .next t ∧ Changes [.rings, .port, .tim, .sch, .cnt, .out] s t := by
  refine ⟨_, rfl, ?_⟩
  refine Changes.when ?_ ?_
  · exact Changes.rfl
  · refine Changes.via ?_ (portEnterDown_changes ..) (by decide +kernel)
    exact Changes.rfl

end Sys2Proof.Machine
end

