-- ==== Sys2Proof/Laws/Flt.lean ====
section
/-! SUPPORT. What each operation of Machine/Flt.lean can change. -/

set_option Elab.async false

namespace Sys2Proof.Machine

theorem State.modWb_changes (s : State) (dir g : Nat) (f : WbGroup → WbGroup) : Changes [.flt] s (State.modWb s dir g f) := by
  unfold State.modWb
  refine Changes.set_rest ?_ (by with_reducible rfl) (by decide)
  exact Changes.rfl
theorem wbLaneFail_changes (dir lane : Nat) (s : State) : Changes [.draws, .rings, .log, .flt, .cnt, .out] s (wbLaneFail dir lane s) := by
  unfold wbLaneFail
  extract_lets x1 x2 x3
  refine Changes.ite ?_ ?_
  · refine Changes.via ?_ (endWindow_changes ..) (by decide +kernel)
    refine Changes.via ?_ (fault_changes ..) (by decide +kernel)
    refine Changes.via ?_ (State.modWb_changes ..) (by decide +kernel)
    exact Changes.rfl
  · refine Changes.ite ?_ ?_
    · refine Changes.via ?_ (fault_changes ..) (by decide +kernel)
      refine Changes.via ?_ (State.modWb_changes ..) (by decide +kernel)
      exact Changes.rfl
    · refine Changes.via ?_ (fault_changes ..) (by decide +kernel)
      refine Changes.via ?_ (State.modWb_changes ..) (by decide +kernel)
      exact Changes.rfl
theorem execWbLaneFail_changes (dir lane : Nat) (s : State) : ∃ t, execWbLaneFail dir lane s = .next t ∧ Changes [.draws, .rings, .log, .flt, .cnt, .out] s t := by
  refine ⟨_, rfl, ?_⟩
  refine Changes.when ?_ ?_
  · exact Changes.rfl
  · refine Changes.via ?_ (wbLaneFail_changes ..) (by decide +kernel)
    exact Changes.rfl
theorem wbReplay_changes (dir g : Nat) (s : State) : Changes [.rings, .cnt, .out] s (wbReplay dir g s) := by
  unfold wbReplay
  refine Changes.via ?_ (State.emit_changes ..) (by decide +kernel)
  refine Changes.via ?_ (count_changes ..) (by decide +kernel)
  exact Changes.rfl
theorem execWbLaneRepairDone_changes (dir lane : Nat) (s : State) : ∃ t, execWbLaneRepairDone dir lane s = .next t ∧ Changes [.rings, .log, .flt, .cnt, .out] s t := by
  refine ⟨_, rfl, ?_⟩
  extract_lets x1 x2 x3 x4
  refine Changes.when ?_ ?_
  · exact Changes.rfl
  · refine Changes.via ?_ (endWindow_changes ..) (by decide +kernel)
    refine Changes.via ?_ (wbReplay_changes ..) (by decide +kernel)
    subst x4
    refine Changes.via ?_ (count_changes ..) (by decide +kernel)
    refine Changes.via ?_ (State.modWb_changes ..) (by decide +kernel)
    exact Changes.rfl
theorem execWbRestripeDone_changes (dir group : Nat) (s : State) : ∃ t, execWbRestripeDone dir group s = .next t ∧ Changes [.draws, .rings, .log, .flt, .cnt, .out] s t := by
  refine ⟨_, rfl, ?_⟩
  extract_lets x1 x2 x3 x4
  refine Changes.when ?_ ?_
  · exact Changes.rfl
  · refine Changes.via ?_ (endWindow_changes ..) (by decide +kernel)
    refine Changes.via ?_ (wbReplay_changes ..) (by decide +kernel)
    subst x4
    split
    · refine Changes.via ?_ (State.modRec_changes ..) (by decide +kernel)
      subst x3
      refine Changes.via ?_ (State.modWb_changes ..) (by decide +kernel)
      refine Changes.via ?_ (State.drawn_changes ..) (by decide +kernel)
      exact Changes.rfl
    · subst x3
      refine Changes.via ?_ (State.modWb_changes ..) (by decide +kernel)
      refine Changes.via ?_ (State.drawn_changes ..) (by decide +kernel)
      exact Changes.rfl
theorem execWbFlitReceive_changes (dir group seq : Nat) (crcOk : Bool) (s : State) : ∃ t, execWbFlitReceive dir group seq crcOk s = .next t ∧ Changes [.rings, .flt, .cnt, .out] s t := by
  refine ⟨_, rfl, ?_⟩
  extract_lets x1
  refine Changes.when ?_ ?_
  · exact Changes.rfl
  · refine Changes.ite ?_ ?_
    · refine Changes.via ?_ (State.emit_changes ..) (by decide +kernel)
      exact Changes.rfl
    · refine Changes.ite ?_ ?_
      · refine Changes.via ?_ (State.emit_changes ..) (by decide +kernel)
        refine Changes.via ?_ (State.modWb_changes ..) (by decide +kernel)
        exact Changes.rfl
      · refine Changes.ite ?_ ?_
        · exact Changes.rfl
        · refine Changes.via ?_ (wbReplay_changes ..) (by decide +kernel)
          refine Changes.via ?_ (State.modWb_changes ..) (by decide +kernel)
          exact Changes.rfl
theorem tblPcFail_changes (stack pc : Nat) (s : State) : Changes [.draws, .rings, .log, .flt, .cnt, .out] s (tblPcFail stack pc s) := by
  unfold tblPcFail
  extract_lets x1 x2
  refine Changes.via ?_ (fault_changes ..) (by decide +kernel)
  refine Changes.set_rest ?_ (by with_reducible rfl) (by decide)
  exact Changes.rfl
theorem execTblPcFail_changes (stack pc : Nat) (s : State) : ∃ t, execTblPcFail stack pc s = .next t ∧ Changes [.draws, .rings, .log, .flt, .cnt, .out] s t := by
  refine ⟨_, rfl, ?_⟩
  refine Changes.when ?_ ?_
  · exact Changes.rfl
  · refine Changes.via ?_ (tblPcFail_changes ..) (by decide +kernel)
    exact Changes.rfl
theorem execTblPcRecopyDone_changes (stack pc : Nat) (s : State) : ∃ t, execTblPcRecopyDone stack pc s = .next t ∧ Changes [.rings, .log, .flt, .cnt, .out] s t := by
  refine ⟨_, rfl, ?_⟩
  extract_lets x1 x2
  refine Changes.when ?_ ?_
  · exact Changes.rfl
  · refine Changes.via ?_ (endWindow_changes ..) (by decide +kernel)
    refine Changes.set_rest ?_ (by with_reducible rfl) (by decide)
    exact Changes.rfl
theorem pipeReset_changes (pipe : Nat) (s : State) : Changes [.dev, .mash] s (pipeReset pipe s) := by
  unfold pipeReset
  extract_lets x1 x2 x3
  refine Changes.foldS ?_ (fun _ _ => ?_)
  · subst x2
    refine Changes.set_dev ?_ (by decide)
    exact Changes.rfl
  · split
    · exact Changes.rfl
    · refine Changes.via ?_ (State.modMash_changes ..) (by decide +kernel)
      refine Changes.via ?_ (State.setMpkt_changes ..) (by decide +kernel)
      exact Changes.rfl
theorem execMashPipeFault_changes (pipe : Nat) (s : State) : ∃ t, execMashPipeFault pipe s = .next t ∧ Changes [.draws, .rings, .dev, .mash, .log, .cnt, .out] s t := by
  refine ⟨_, rfl, ?_⟩
  refine Changes.when ?_ ?_
  · exact Changes.rfl
  · refine Changes.via ?_ (pipeReset_changes ..) (by decide +kernel)
    refine Changes.via ?_ (fault_changes ..) (by decide +kernel)
    exact Changes.rfl
theorem execFaultRecordClose_changes (record : Nat) (s : State) : ∃ t, execFaultRecordClose record s = .next t ∧ Changes [.log] s t := by
  refine ⟨_, rfl, ?_⟩
  split
  · exact Changes.rfl
  · refine Changes.when ?_ ?_
    · exact Changes.rfl
    · refine Changes.via ?_ (State.modRec_changes ..) (by decide +kernel)
      exact Changes.rfl
theorem bodyFltStatus_changes (vi : Nat) (e : Entry) (s : State) : Changes [] s (bodyFltStatus vi e s).st := by
  unfold bodyFltStatus
  extract_lets x1 x2 x3
  refine Changes.read_st ?_
  exact Changes.rfl
theorem bodyFltLogRead_changes (vi : Nat) (e : Entry) (s : State) : Changes [.rings, .log, .cnt, .out] s (bodyFltLogRead vi e s).st := by
  unfold bodyFltLogRead
  extract_lets x1 x2 x3 x4 x5 x6
  refine Changes.ite_st ?_ ?_
  · refine Changes.via ?_ (argErr_changes ..) (by decide +kernel)
    exact Changes.rfl
  · refine Changes.ite_st ?_ ?_
    · refine Changes.via ?_ (badLen_changes ..) (by decide +kernel)
      exact Changes.rfl
    · refine Changes.read_st ?_
      exact Changes.rfl
theorem strike_changes (target unit n : Nat) (s : State) : Changes [.draws, .rings, .queue, .port, .tbl, .mash, .asa, .adm, .fab, .rack, .sch, .pair, .insts, .sec, .log, .flt, .cnt, .out] s (strike target unit n s) := by
  unfold strike
  extract_lets x1 x2 x3 x4
  split
  · refine Changes.ite ?_ ?_
    · refine Changes.via ?_ (tblPcFail_changes ..) (by decide +kernel)
      exact Changes.rfl
    · refine Changes.via ?_ (pcFail_changes ..) (by decide +kernel)
      refine Changes.via ?_ (State.drawn_changes ..) (by decide +kernel)
      exact Changes.rfl
  · refine Changes.via ?_ (laneDown_changes ..) (by decide +kernel)
    refine Changes.via ?_ (State.drawn_changes ..) (by decide +kernel)
    exact Changes.rfl
  · refine Changes.via ?_ (wbLaneFail_changes ..) (by decide +kernel)
    exact Changes.rfl
  · refine Changes.via ?_ (bankFault_changes ..) (by decide +kernel)
    exact Changes.rfl
  · split
    · refine Changes.via ?_ (trubEcc_changes ..) (by decide +kernel)
      exact Changes.rfl
    · exact Changes.rfl
  · refine Changes.set_rest ?_ (by with_reducible rfl) (by decide)
    exact Changes.rfl
theorem bodyFltInject_changes (vi : Nat) (e : Entry) (s : State) : Changes [.draws, .rings, .queue, .port, .tbl, .mash, .asa, .adm, .fab, .rack, .sch, .pair, .insts, .sec, .log, .flt, .cnt, .out] s (bodyFltInject vi e s).st := by
  unfold bodyFltInject
  extract_lets x1 x2 x3 x4 x5 x6
  refine Changes.ite_st ?_ ?_
  · refine Changes.err_st ?_
    exact Changes.rfl
  · refine Changes.ite_st ?_ ?_
    · refine Changes.err_st ?_
      exact Changes.rfl
    · refine Changes.ok_st ?_
      subst x6
      refine Changes.set_log ?_ (by with_reducible rfl) (by decide)
      subst x3
      refine Changes.via ?_ (strike_changes ..) (by decide +kernel)
      refine Changes.via ?_ (count_changes ..) (by decide +kernel)
      exact Changes.rfl
theorem execFltStatus_changes (vi : Nat) (io : HostIo) (s : State) : ∃ t, execFltStatus vi io s = .next t ∧ Changes [.rings, .queue, .pair, .cnt, .out] s t :=
  ⟨_, rfl, Changes.weaken (runCommand_changes _ _ _ _ _ (bodyFltStatus_changes vi)) (by decide)⟩
theorem execFltLogRead_changes (vi : Nat) (io : HostIo) (s : State) : ∃ t, execFltLogRead vi io s = .next t ∧ Changes [.rings, .queue, .pair, .log, .cnt, .out] s t :=
  ⟨_, rfl, Changes.weaken (runCommand_changes _ _ _ _ _ (bodyFltLogRead_changes vi)) (by decide)⟩
theorem execFltInject_changes (vi : Nat) (io : HostIo) (s : State) : ∃ t, execFltInject vi io s = .next t ∧ Changes [.draws, .rings, .queue, .port, .tbl, .mash, .asa, .adm, .fab, .rack, .sch, .pair, .insts, .sec, .log, .flt, .cnt, .out] s t :=
  ⟨_, rfl, Changes.weaken (runCommand_changes _ _ _ _ _ (bodyFltInject_changes vi)) (by decide)⟩

end Sys2Proof.Machine
end

