-- ==== Sys2Proof/Laws/Pair.lean ====
section
/-! SUPPORT. What each operation of Machine/Pair.lean can change. -/

set_option Elab.async false

namespace Sys2Proof.Machine

theorem startSeeking_changes (s : State) : Changes [.pair, .pwr] s (startSeeking s) := by
  unfold startSeeking
  extract_lets x1
  refine Changes.ite ?_ ?_
  · refine Changes.via ?_ (powerOn_changes ..) (by decide +kernel)
    subst x1
    refine Changes.via ?_ (State.modPair_changes ..) (by decide +kernel)
    exact Changes.rfl
  · subst x1
    refine Changes.via ?_ (State.modPair_changes ..) (by decide +kernel)
    exact Changes.rfl
theorem stopPair_changes (s : State) : Changes [.queue, .pair, .out] s (stopPair s) := by
  unfold stopPair
  extract_lets x1
  refine Changes.via ?_ (State.modPair_changes ..) (by decide +kernel)
  subst x1
  refine Changes.via ?_ (becomeSolo_changes ..) (by decide +kernel)
  exact Changes.rfl
theorem bodyPairConfig_changes (vi : Nat) (e : Entry) (s : State) : Changes [.queue, .pair, .sec, .pwr, .out] s (bodyPairConfig vi e s).st := by
  unfold bodyPairConfig
  extract_lets x1 x2 x3
  refine Changes.ite_st ?_ ?_
  · refine Changes.ite_st ?_ ?_
    · refine Changes.err_st ?_
      exact Changes.rfl
    · refine Changes.ite_st ?_ ?_
      · refine Changes.storing ?_ ?_ (by decide)
        · exact Changes.rfl
        · refine Changes.ok_st ?_
          refine Changes.via ?_ (stopPair_changes ..) (by decide +kernel)
          subst x2
          dsimp -zeta only
          refine Changes.via ?_ (State.modPair_changes ..) (by decide +kernel)
          exact Changes.rfl
      · refine Changes.storing ?_ ?_ (by decide)
        · exact Changes.rfl
        · refine Changes.ok_st ?_
          exact Changes.rfl
  · refine Changes.ite_st ?_ ?_
    · refine Changes.via ?_ (argErr_changes ..) (by decide +kernel)
      exact Changes.rfl
    · refine Changes.ite_st ?_ ?_
      · refine Changes.err_st ?_
        exact Changes.rfl
      · refine Changes.storing ?_ ?_ (by decide)
        · exact Changes.rfl
        · refine Changes.ok_st ?_
          refine Changes.ite ?_ ?_
          · subst x2
            dsimp -zeta only
            refine Changes.via ?_ (State.modPair_changes ..) (by decide +kernel)
            exact Changes.rfl
          · refine Changes.via ?_ (startSeeking_changes ..) (by decide +kernel)
            subst x2
            dsimp -zeta only
            refine Changes.via ?_ (State.modPair_changes ..) (by decide +kernel)
            refine Changes.ite ?_ ?_
            · refine Changes.via ?_ (stopPair_changes ..) (by decide +kernel)
              exact Changes.rfl
            · exact Changes.rfl
theorem pairRematch_changes (p : Nat) (s : State) : Changes [.pair] s (pairRematch p s) := by
  unfold pairRematch
  extract_lets x1
  refine Changes.via ?_ (State.modPpair_changes ..) (by decide +kernel)
  exact Changes.rfl
theorem bodyPairPort_changes (vi : Nat) (e : Entry) (s : State) : Changes [.port, .pair, .sec, .out] s (bodyPairPort vi e s).st := by
  unfold bodyPairPort
  extract_lets x1 x2 x3 x4
  refine Changes.ite_st ?_ ?_
  · refine Changes.via ?_ (argErr_changes ..) (by decide +kernel)
    exact Changes.rfl
  · refine Changes.ite_st ?_ ?_
    · refine Changes.err_st ?_
      exact Changes.rfl
    · refine Changes.ite_st ?_ ?_
      · refine Changes.storing ?_ ?_ (by decide)
        · exact Changes.rfl
        · refine Changes.ok_st ?_
          refine Changes.via ?_ (State.emit_changes ..) (by decide +kernel)
          refine Changes.via ?_ (State.modPort_changes ..) (by decide +kernel)
          refine Changes.via ?_ (State.modPair_changes ..) (by decide +kernel)
          subst x4
          dsimp -zeta only
          refine Changes.via ?_ (State.modPair_changes ..) (by decide +kernel)
          exact Changes.rfl
      · refine Changes.ite_st ?_ ?_
        · refine Changes.via ?_ (argErr_changes ..) (by decide +kernel)
          exact Changes.rfl
        · refine Changes.ite_st ?_ ?_
          · refine Changes.err_st ?_
            exact Changes.rfl
          · refine Changes.ite_st ?_ ?_
            · refine Changes.err_st ?_
              exact Changes.rfl
            · refine Changes.ite_st ?_ ?_
              · refine Changes.err_st ?_
                exact Changes.rfl
              · refine Changes.storing ?_ ?_ (by decide)
                · exact Changes.rfl
                · refine Changes.ok_st ?_
                  refine Changes.via ?_ (State.emit_changes ..) (by decide +kernel)
                  refine Changes.via ?_ (pairRematch_changes ..) (by decide +kernel)
                  subst x4
                  dsimp -zeta only
                  refine Changes.via ?_ (State.modPair_changes ..) (by decide +kernel)
                  exact Changes.rfl
theorem bodyPairState_changes (vi : Nat) (e : Entry) (s : State) : Changes [] s (bodyPairState vi e s).st := by
  unfold bodyPairState
  extract_lets x1 x2 x3
  refine Changes.read_st ?_
  exact Changes.rfl
theorem bodyPairSwitch_changes (vi : Nat) (e : Entry) (s : State) : Changes [.draws, .rings, .fab, .sch, .pair, .flt, .cnt, .out] s (bodyPairSwitch vi e s).st := by
  unfold bodyPairSwitch
  refine Changes.ite_st ?_ ?_
  · refine Changes.err_st ?_
    exact Changes.rfl
  · refine Changes.ite_st ?_ ?_
    · refine Changes.err_st ?_
      exact Changes.rfl
    · refine Changes.ite_st ?_ ?_
      · refine Changes.err_st ?_
        exact Changes.rfl
      · extract_lets x1
        refine Changes.ok_st ?_
        subst x1
        refine Changes.via ?_ (handOver_changes ..) (by decide +kernel)
        exact Changes.rfl
theorem draughtRun_changes (s : State) : Changes [.draws, .rings, .port, .mash, .adm, .pair, .insts, .cnt, .out] s (draughtRun s) := by
  unfold draughtRun
  extract_lets x1 x2 x3 x4 x5
  refine Changes.foldS ?_ (fun _ _ => ?_)
  · refine Changes.via ?_ (State.drawn_changes ..) (by decide +kernel)
    subst x5
    refine Changes.ite ?_ ?_
    · subst x3
      refine Changes.set_pair ?_ (by decide)
      exact Changes.rfl
    · refine Changes.via ?_ (admitPunt_changes ..) (by decide +kernel)
      refine Changes.via ?_ (State.modMash_changes ..) (by decide +kernel)
      subst x3
      refine Changes.set_pair ?_ (by decide)
      exact Changes.rfl
  · refine Changes.via ?_ (count_changes ..) (by decide +kernel)
    refine Changes.via ?_ (notify_changes ..) (by decide +kernel)
    exact Changes.rfl
theorem bodyPairDraught_changes (vi : Nat) (e : Entry) (s : State) : Changes [.draws, .rings, .port, .mash, .adm, .pair, .insts, .cnt, .out] s (bodyPairDraught vi e s).st := by
  unfold bodyPairDraught
  refine Changes.ite_st ?_ ?_
  · refine Changes.err_st ?_
    exact Changes.rfl
  · refine Changes.ite_st ?_ ?_
    · refine Changes.via ?_ (argErr_changes ..) (by decide +kernel)
      exact Changes.rfl
    · extract_lets x1
      refine Changes.ok_st ?_
      subst x1
      refine Changes.ite ?_ ?_
      · exact Changes.rfl
      · refine Changes.via ?_ (draughtRun_changes ..) (by decide +kernel)
        exact Changes.rfl
theorem execPairConfig_changes (vi : Nat) (io : HostIo) (s : State) : ∃ t, execPairConfig vi io s = .next t ∧ Changes [.rings, .queue, .pair, .sec, .cnt, .pwr, .out] s t :=
  ⟨_, rfl, Changes.weaken (runCommand_changes _ _ _ _ _ (bodyPairConfig_changes vi)) (by decide)⟩
theorem execPairPort_changes (vi : Nat) (io : HostIo) (s : State) : ∃ t, execPairPort vi io s = .next t ∧ Changes [.rings, .queue, .port, .pair, .sec, .cnt, .out] s t :=
  ⟨_, rfl, Changes.weaken (runCommand_changes _ _ _ _ _ (bodyPairPort_changes vi)) (by decide)⟩
theorem execPairState_changes (vi : Nat) (io : HostIo) (s : State) : ∃ t, execPairState vi io s = .next t ∧ Changes [.rings, .queue, .pair, .cnt, .out] s t :=
  ⟨_, rfl, Changes.weaken (runCommand_changes _ _ _ _ _ (bodyPairState_changes vi)) (by decide)⟩
theorem execPairSwitch_changes (vi : Nat) (io : HostIo) (s : State) : ∃ t, execPairSwitch vi io s = .next t ∧ Changes [.draws, .rings, .queue, .fab, .sch, .pair, .flt, .cnt, .out] s t :=
  ⟨_, rfl, Changes.weaken (runCommand_changes _ _ _ _ _ (bodyPairSwitch_changes vi)) (by decide)⟩
theorem execPairDraught_changes (vi : Nat) (io : HostIo) (s : State) : ∃ t, execPairDraught vi io s = .next t ∧ Changes [.draws, .rings, .queue, .port, .mash, .adm, .pair, .insts, .cnt, .out] s t :=
  ⟨_, rfl, Changes.weaken (runCommand_changes _ _ _ _ _ (bodyPairDraught_changes vi)) (by decide)⟩
theorem execHelloSend_changes (s : State) : ∃ t, execHelloSend s = .next t ∧ Changes [.pair, .out] s t := by
  refine ⟨_, rfl, ?_⟩
  refine Changes.when ?_ ?_
  · exact Changes.rfl
  · extract_lets x1
    refine Changes.foldS ?_ (fun _ _ => ?_)
    · refine Changes.via ?_ (State.modPair_changes ..) (by decide +kernel)
      exact Changes.rfl
    · refine Changes.via ?_ (State.emit_changes ..) (by decide +kernel)
      exact Changes.rfl
theorem election_changes (s : State) : Changes [.draws, .rings, .queue, .sch, .pair, .cnt, .out] s (election s) := by
  unfold election
  extract_lets x1 x2 x3 x4
  refine Changes.ite ?_ ?_
  · refine Changes.via ?_ (becomeActive_changes ..) (by decide +kernel)
    refine Changes.via ?_ (State.modPair_changes ..) (by decide +kernel)
    subst x3
    refine Changes.via ?_ (State.drawn_changes ..) (by decide +kernel)
    exact Changes.rfl
  · refine Changes.via ?_ (becomeSyncing_changes ..) (by decide +kernel)
    subst x3
    refine Changes.via ?_ (State.drawn_changes ..) (by decide +kernel)
    exact Changes.rfl
theorem onMatched_changes (s : State) : Changes [.draws, .rings, .queue, .sch, .pair, .cnt, .out] s (onMatched s) := by
  unfold onMatched
  split
  · refine Changes.ite ?_ ?_
    · refine Changes.via ?_ (becomeSyncing_changes ..) (by decide +kernel)
      exact Changes.rfl
    · refine Changes.via ?_ (election_changes ..) (by decide +kernel)
      exact Changes.rfl
  · refine Changes.via ?_ (becomeActive_changes ..) (by decide +kernel)
    refine Changes.via ?_ (leaveSyncAll_changes ..) (by decide +kernel)
    exact Changes.rfl
  · exact Changes.rfl
theorem helloIn_changes (h : Hello) (s : State) : Changes [.draws, .rings, .queue, .sch, .pair, .cnt, .out] s (helloIn h s) := by
  unfold helloIn
  extract_lets x1 x2
  split
  · subst x2
    refine Changes.via ?_ (State.modPair_changes ..) (by decide +kernel)
    exact Changes.rfl
  · refine Changes.via ?_ (State.modPair_changes ..) (by decide +kernel)
    subst x2
    refine Changes.via ?_ (State.modPair_changes ..) (by decide +kernel)
    exact Changes.rfl
  · refine Changes.ite ?_ ?_
    · refine Changes.via ?_ (onMatched_changes ..) (by decide +kernel)
      subst x2
      refine Changes.via ?_ (State.modPair_changes ..) (by decide +kernel)
      exact Changes.rfl
    · subst x2
      refine Changes.via ?_ (State.modPair_changes ..) (by decide +kernel)
      exact Changes.rfl
  · refine Changes.ite ?_ ?_
    · refine Changes.ite ?_ ?_
      · refine Changes.via ?_ (count_changes ..) (by decide +kernel)
        refine Changes.via ?_ (notify_changes ..) (by decide +kernel)
        refine Changes.via ?_ (State.modPair_changes ..) (by decide +kernel)
        subst x2
        refine Changes.via ?_ (State.modPair_changes ..) (by decide +kernel)
        exact Changes.rfl
      · subst x2
        refine Changes.via ?_ (State.modPair_changes ..) (by decide +kernel)
        exact Changes.rfl
    · refine Changes.ite ?_ ?_
      · subst x2
        refine Changes.via ?_ (State.modPair_changes ..) (by decide +kernel)
        exact Changes.rfl
      · refine Changes.via ?_ (onMatched_changes ..) (by decide +kernel)
        refine Changes.via ?_ (notify_changes ..) (by decide +kernel)
        refine Changes.via ?_ (State.modPair_changes ..) (by decide +kernel)
        subst x2
        refine Changes.via ?_ (State.modPair_changes ..) (by decide +kernel)
        exact Changes.rfl
theorem execHelloReceive_changes (h : Hello) (s : State) : ∃ t, execHelloReceive h s = .next t ∧ Changes [.draws, .rings, .queue, .sch, .pair, .cnt, .out] s t := by
  refine ⟨_, rfl, ?_⟩
  refine Changes.when ?_ ?_
  · exact Changes.rfl
  · refine Changes.via ?_ (helloIn_changes ..) (by decide +kernel)
    exact Changes.rfl
theorem execHelloLoss_changes (s : State) : ∃ t, execHelloLoss s = .next t ∧ Changes [.rings, .pair, .cnt, .out] s t := by
  refine ⟨_, rfl, ?_⟩
  refine Changes.when ?_ ?_
  · exact Changes.rfl
  · split
    · refine Changes.via ?_ (notify_changes ..) (by decide +kernel)
      refine Changes.via ?_ (State.modPair_changes ..) (by decide +kernel)
      exact Changes.rfl
    · refine Changes.via ?_ (notify_changes ..) (by decide +kernel)
      refine Changes.via ?_ (State.modPair_changes ..) (by decide +kernel)
      exact Changes.rfl
    · refine Changes.ite ?_ ?_
      · exact Changes.rfl
      · extract_lets x1
        refine Changes.ite ?_ ?_
        · refine Changes.via ?_ (State.modPair_changes ..) (by decide +kernel)
          subst x1
          refine Changes.via ?_ (State.modPair_changes ..) (by decide +kernel)
          exact Changes.rfl
        · subst x1
          refine Changes.via ?_ (State.modPair_changes ..) (by decide +kernel)
          exact Changes.rfl
    · exact Changes.rfl
theorem execPartnerWaitExpiry_changes (s : State) : ∃ t, execPartnerWaitExpiry s = .next t ∧ Changes [.queue, .pair, .out] s t := by
  refine ⟨_, rfl, ?_⟩
  refine Changes.when ?_ ?_
  · exact Changes.rfl
  · extract_lets x1
    refine Changes.via ?_ (becomeSolo_changes ..) (by decide +kernel)
    refine Changes.via ?_ (State.modPair_changes ..) (by decide +kernel)
    exact Changes.rfl
theorem execPairPortExchange_changes (port : Nat) (settings : Option (Nat × Nat)) (s : State) : ∃ t, execPairPortExchange port settings s = .next t ∧ Changes [.pair] s t := by
  refine ⟨_, rfl, ?_⟩
  refine Changes.when ?_ ?_
  · exact Changes.rfl
  · refine Changes.via ?_ (pairRematch_changes ..) (by decide +kernel)
    refine Changes.via ?_ (State.modPpair_changes ..) (by decide +kernel)
    exact Changes.rfl
theorem sendBung_changes (e : List Byte) (s : State) : Changes [.draws, .rings, .fab, .flt, .cnt, .out] s (sendBung e s) := by
  unfold sendBung
  refine Changes.ite ?_ ?_
  · refine Changes.via ?_ (State.emit_changes ..) (by decide +kernel)
    exact Changes.rfl
  · extract_lets x1 x2
    refine Changes.foldS ?_ (fun _ _ => ?_)
    · exact Changes.rfl
    · refine Changes.via ?_ (sendCell_changes ..) (by decide +kernel)
      exact Changes.rfl
theorem execBungRenewSend_changes (s : State) : ∃ t, execBungRenewSend s = .next t ∧ Changes [.draws, .rings, .fab, .pair, .flt, .cnt, .out] s t := by
  refine ⟨_, rfl, ?_⟩
  refine Changes.when ?_ ?_
  · exact Changes.rfl
  · extract_lets x1 x2 x3
    refine Changes.via ?_ (sendBung_changes ..) (by decide +kernel)
    subst x3
    refine Changes.ite ?_ ?_
    · subst x2
      refine Changes.via ?_ (State.modPair_changes ..) (by decide +kernel)
      exact Changes.rfl
    · refine Changes.via ?_ (count_changes ..) (by decide +kernel)
      subst x2
      refine Changes.via ?_ (State.modPair_changes ..) (by decide +kernel)
      exact Changes.rfl
theorem bungRenewIn_changes (gen number : Nat) (s : State) : Changes [.draws, .rings, .queue, .fab, .sch, .pair, .flt, .cnt, .out] s (bungRenewIn gen number s) := by
  unfold bungRenewIn
  refine Changes.when ?_ ?_
  · exact Changes.rfl
  · extract_lets x1
    refine Changes.ite ?_ ?_
    · refine Changes.via ?_ (sendBung_changes ..) (by decide +kernel)
      refine Changes.via ?_ (State.modPair_changes ..) (by decide +kernel)
      subst x1
      refine Changes.via ?_ (seeGen_changes ..) (by decide +kernel)
      exact Changes.rfl
    · subst x1
      refine Changes.via ?_ (seeGen_changes ..) (by decide +kernel)
      exact Changes.rfl
theorem execBungRenew_changes (gen number : Nat) (s : State) : ∃ t, execBungRenew gen number s = .next t ∧ Changes [.draws, .rings, .queue, .fab, .sch, .pair, .flt, .cnt, .out] s t := by
  refine ⟨_, rfl, ?_⟩
  refine Changes.via ?_ (bungRenewIn_changes ..) (by decide +kernel)
  exact Changes.rfl
theorem bungAckIn_changes (gen number : Nat) (s : State) : Changes [.rings, .queue, .sch, .pair, .cnt, .out] s (bungAckIn gen number s) := by
  unfold bungAckIn
  refine Changes.when ?_ ?_
  · exact Changes.rfl
  · extract_lets x1
    split
    · refine Changes.ite ?_ ?_
      · refine Changes.via ?_ (State.modPair_changes ..) (by decide +kernel)
        subst x1
        refine Changes.via ?_ (seeGen_changes ..) (by decide +kernel)
        exact Changes.rfl
      · subst x1
        refine Changes.via ?_ (seeGen_changes ..) (by decide +kernel)
        exact Changes.rfl
    · subst x1
      refine Changes.via ?_ (seeGen_changes ..) (by decide +kernel)
      exact Changes.rfl
theorem execBungAck_changes (gen number : Nat) (s : State) : ∃ t, execBungAck gen number s = .next t ∧ Changes [.rings, .queue, .sch, .pair, .cnt, .out] s t := by
  refine ⟨_, rfl, ?_⟩
  refine Changes.via ?_ (bungAckIn_changes ..) (by decide +kernel)
  exact Changes.rfl
theorem bungHandoverIn_changes (gen : Nat) (s : State) : Changes [.draws, .rings, .fab, .pair, .flt, .cnt, .out] s (bungHandoverIn gen s) := by
  unfold bungHandoverIn
  refine Changes.when ?_ ?_
  · exact Changes.rfl
  · refine Changes.via ?_ (sendBung_changes ..) (by decide +kernel)
    refine Changes.via ?_ (takeBung_changes ..) (by decide +kernel)
    exact Changes.rfl
theorem execBungHandover_changes (gen : Nat) (s : State) : ∃ t, execBungHandover gen s = .next t ∧ Changes [.draws, .rings, .fab, .pair, .flt, .cnt, .out] s t := by
  refine ⟨_, rfl, ?_⟩
  refine Changes.via ?_ (bungHandoverIn_changes ..) (by decide +kernel)
  exact Changes.rfl
theorem bungHandoverAckIn_changes (gen : Nat) (s : State) : Changes [.pair] s (bungHandoverAckIn gen s) := by
  unfold bungHandoverAckIn
  refine Changes.when ?_ ?_
  · exact Changes.rfl
  · refine Changes.via ?_ (handedOver_changes ..) (by decide +kernel)
    exact Changes.rfl
theorem execBungHandoverAck_changes (gen : Nat) (s : State) : ∃ t, execBungHandoverAck gen s = .next t ∧ Changes [.pair] s t := by
  refine ⟨_, rfl, ?_⟩
  refine Changes.via ?_ (bungHandoverAckIn_changes ..) (by decide +kernel)
  exact Changes.rfl
theorem execLeaseFence_changes (s : State) : ∃ t, execLeaseFence s = .next t ∧ Changes [.rings, .sch, .pair, .cnt, .out] s t := by
  refine ⟨_, rfl, ?_⟩
  refine Changes.when ?_ ?_
  · exact Changes.rfl
  · refine Changes.via ?_ (count_changes ..) (by decide +kernel)
    refine Changes.via ?_ (notify_changes ..) (by decide +kernel)
    refine Changes.via ?_ (State.modPair_changes ..) (by decide +kernel)
    refine Changes.via ?_ (darken_changes ..) (by decide +kernel)
    exact Changes.rfl
theorem execBungTake_changes (s : State) : ∃ t, execBungTake s = .next t ∧ Changes [.queue, .pair, .out] s t := by
  refine ⟨_, rfl, ?_⟩
  extract_lets x1 x2 x3
  refine Changes.ite ?_ ?_
  · refine Changes.via ?_ (takeBung_changes ..) (by decide +kernel)
    exact Changes.rfl
  · refine Changes.ite ?_ ?_
    · refine Changes.ite ?_ ?_
      · refine Changes.via ?_ (becomeActive_changes ..) (by decide +kernel)
        subst x3
        refine Changes.via ?_ (State.modPair_changes ..) (by decide +kernel)
        exact Changes.rfl
      · refine Changes.via ?_ (becomeSolo_changes ..) (by decide +kernel)
        subst x3
        refine Changes.via ?_ (State.modPair_changes ..) (by decide +kernel)
        exact Changes.rfl
    · exact Changes.rfl
theorem loseShared_changes (s : State) : Changes [.rings, .tbl, .sch, .log, .cnt, .out] s (loseShared s) := by
  unfold loseShared
  extract_lets x1 x2 x3 x4 x5
  refine Changes.via ?_ (doubleLoss_changes ..) (by decide +kernel)
  refine Changes.foldS ?_ (fun _ _ => ?_)
  · subst x5
    refine Changes.via ?_ (mapEgress_changes ..) (by decide +kernel)
    exact Changes.rfl
  · refine Changes.via ?_ (releaseRef_changes ..) (by decide +kernel)
    exact Changes.rfl
theorem dutiesFailed_changes (s : State) : Changes [.draws, .rings, .cnt, .out] s (dutiesFailed s) := by
  unfold dutiesFailed
  refine Changes.foldS ?_ (fun _ _ => ?_)
  · refine Changes.via ?_ (State.drawn_changes ..) (by decide +kernel)
    exact Changes.rfl
  · refine Changes.via ?_ (notify_changes ..) (by decide +kernel)
    exact Changes.rfl
theorem execTakeoverComplete_changes (s : State) : ∃ t, execTakeoverComplete s = .next t ∧ Changes [.draws, .rings, .queue, .port, .tbl, .mash, .adm, .fab, .sch, .pair, .insts, .log, .flt, .cnt, .out] s t := by
  refine ⟨_, rfl, ?_⟩
  refine Changes.when ?_ ?_
  · exact Changes.rfl
  · extract_lets x1 x2 x3 x4 x5 x6 x7 x8 x9
    refine Changes.foldS ?_ (fun _ _ => ?_)
    · subst x9
      refine Changes.ite ?_ ?_
      · refine Changes.via ?_ (leaveSyncAll_changes ..) (by decide +kernel)
        subst x8
        refine Changes.via ?_ (setPoints_changes ..) (by decide +kernel)
        refine Changes.ite ?_ ?_
        · refine Changes.via ?_ (becomeActive_changes ..) (by decide +kernel)
          subst x7
          refine Changes.via ?_ (dutiesFailed_changes ..) (by decide +kernel)
          subst x6
          refine Changes.foldS ?_ (fun _ _ => ?_)
          · subst x5
            refine Changes.via ?_ (count_changes ..) (by decide +kernel)
            refine Changes.via ?_ (State.modPair_changes ..) (by decide +kernel)
            subst x4
            refine Changes.via ?_ (notify_changes ..) (by decide +kernel)
            subst x3
            refine Changes.ite ?_ ?_
            · refine Changes.via ?_ (loseShared_changes ..) (by decide +kernel)
              subst x2
              refine Changes.ite ?_ ?_
              · refine Changes.via ?_ (fault_changes ..) (by decide +kernel)
                exact Changes.rfl
              · exact Changes.rfl
            · subst x2
              refine Changes.ite ?_ ?_
              · refine Changes.via ?_ (fault_changes ..) (by decide +kernel)
                exact Changes.rfl
              · exact Changes.rfl
          · refine Changes.ite ?_ ?_
            · exact Changes.rfl
            · refine Changes.via ?_ (State.modPpair_changes ..) (by decide +kernel)
              exact Changes.rfl
        · refine Changes.via ?_ (becomeSolo_changes ..) (by decide +kernel)
          subst x7
          refine Changes.via ?_ (dutiesFailed_changes ..) (by decide +kernel)
          subst x6
          refine Changes.foldS ?_ (fun _ _ => ?_)
          · subst x5
            refine Changes.via ?_ (count_changes ..) (by decide +kernel)
            refine Changes.via ?_ (State.modPair_changes ..) (by decide +kernel)
            subst x4
            refine Changes.via ?_ (notify_changes ..) (by decide +kernel)
            subst x3
            refine Changes.ite ?_ ?_
            · refine Changes.via ?_ (loseShared_changes ..) (by decide +kernel)
              subst x2
              refine Changes.ite ?_ ?_
              · refine Changes.via ?_ (fault_changes ..) (by decide +kernel)
                exact Changes.rfl
              · exact Changes.rfl
            · subst x2
              refine Changes.ite ?_ ?_
              · refine Changes.via ?_ (fault_changes ..) (by decide +kernel)
                exact Changes.rfl
              · exact Changes.rfl
          · refine Changes.ite ?_ ?_
            · exact Changes.rfl
            · refine Changes.via ?_ (State.modPpair_changes ..) (by decide +kernel)
              exact Changes.rfl
      · subst x8
        refine Changes.via ?_ (setPoints_changes ..) (by decide +kernel)
        refine Changes.ite ?_ ?_
        · refine Changes.via ?_ (becomeActive_changes ..) (by decide +kernel)
          subst x7
          refine Changes.via ?_ (dutiesFailed_changes ..) (by decide +kernel)
          subst x6
          refine Changes.foldS ?_ (fun _ _ => ?_)
          · subst x5
            refine Changes.via ?_ (count_changes ..) (by decide +kernel)
            refine Changes.via ?_ (State.modPair_changes ..) (by decide +kernel)
            subst x4
            refine Changes.via ?_ (notify_changes ..) (by decide +kernel)
            subst x3
            refine Changes.ite ?_ ?_
            · refine Changes.via ?_ (loseShared_changes ..) (by decide +kernel)
              subst x2
              refine Changes.ite ?_ ?_
              · refine Changes.via ?_ (fault_changes ..) (by decide +kernel)
                exact Changes.rfl
              · exact Changes.rfl
            · subst x2
              refine Changes.ite ?_ ?_
              · refine Changes.via ?_ (fault_changes ..) (by decide +kernel)
                exact Changes.rfl
              · exact Changes.rfl
          · refine Changes.ite ?_ ?_
            · exact Changes.rfl
            · refine Changes.via ?_ (State.modPpair_changes ..) (by decide +kernel)
              exact Changes.rfl
        · refine Changes.via ?_ (becomeSolo_changes ..) (by decide +kernel)
          subst x7
          refine Changes.via ?_ (dutiesFailed_changes ..) (by decide +kernel)
          subst x6
          refine Changes.foldS ?_ (fun _ _ => ?_)
          · subst x5
            refine Changes.via ?_ (count_changes ..) (by decide +kernel)
            refine Changes.via ?_ (State.modPair_changes ..) (by decide +kernel)
            subst x4
            refine Changes.via ?_ (notify_changes ..) (by decide +kernel)
            subst x3
            refine Changes.ite ?_ ?_
            · refine Changes.via ?_ (loseShared_changes ..) (by decide +kernel)
              subst x2
              refine Changes.ite ?_ ?_
              · refine Changes.via ?_ (fault_changes ..) (by decide +kernel)
                exact Changes.rfl
              · exact Changes.rfl
            · subst x2
              refine Changes.ite ?_ ?_
              · refine Changes.via ?_ (fault_changes ..) (by decide +kernel)
                exact Changes.rfl
              · exact Changes.rfl
          · refine Changes.ite ?_ ?_
            · exact Changes.rfl
            · refine Changes.via ?_ (State.modPpair_changes ..) (by decide +kernel)
              exact Changes.rfl
    · refine Changes.via ?_ (numberAll_changes ..) (by decide +kernel)
      exact Changes.rfl
theorem execAnnounceSend_changes (s : State) : ∃ t, execAnnounceSend s = .next t ∧ Changes [.draws, .rings, .fab, .pair, .flt, .cnt, .out] s t := by
  refine ⟨_, rfl, ?_⟩
  refine Changes.when ?_ ?_
  · exact Changes.rfl
  · extract_lets x1 x2
    refine Changes.via ?_ (flushMarks_changes ..) (by decide +kernel)
    refine Changes.via ?_ (sendEntry_changes ..) (by decide +kernel)
    subst x2
    refine Changes.via ?_ (State.modPair_changes ..) (by decide +kernel)
    exact Changes.rfl
theorem partnerAnnounced_changes (a : Announce) (s : State) : Changes [.draws, .rings, .queue, .sch, .pair, .log, .cnt, .out] s (partnerAnnounced a s) := by
  unfold partnerAnnounced
  extract_lets x1 x2 x3
  refine Changes.ite ?_ ?_
  · subst x3
    refine Changes.via ?_ (endWindow_changes ..) (by decide +kernel)
    subst x2
    refine Changes.ite ?_ ?_
    · refine Changes.via ?_ (onMatched_changes ..) (by decide +kernel)
      subst x1
      refine Changes.via ?_ (seeGen_changes ..) (by decide +kernel)
      exact Changes.rfl
    · subst x1
      refine Changes.via ?_ (seeGen_changes ..) (by decide +kernel)
      exact Changes.rfl
  · subst x2
    refine Changes.ite ?_ ?_
    · refine Changes.via ?_ (onMatched_changes ..) (by decide +kernel)
      subst x1
      refine Changes.via ?_ (seeGen_changes ..) (by decide +kernel)
      exact Changes.rfl
    · subst x1
      refine Changes.via ?_ (seeGen_changes ..) (by decide +kernel)
      exact Changes.rfl
theorem announceIn_changes (a : Announce) (s : State) : Changes [.draws, .rings, .queue, .tbl, .fab, .rack, .sch, .pair, .log, .flt, .cnt, .out] s (announceIn a s) := by
  unfold announceIn
  extract_lets x1 x2 x3
  refine Changes.via ?_ (pairedAll_changes ..) (by decide +kernel)
  subst x3
  refine Changes.ite ?_ ?_
  · refine Changes.via ?_ (partnerAnnounced_changes ..) (by decide +kernel)
    subst x2
    refine Changes.via ?_ (heardFrom_changes ..) (by decide +kernel)
    refine Changes.via ?_ (State.modPair_changes ..) (by decide +kernel)
    exact Changes.rfl
  · subst x2
    refine Changes.via ?_ (heardFrom_changes ..) (by decide +kernel)
    refine Changes.via ?_ (State.modPair_changes ..) (by decide +kernel)
    exact Changes.rfl
theorem execAnnounceEntry_changes (a : Announce) (s : State) : ∃ t, execAnnounceEntry a s = .next t ∧ Changes [.draws, .rings, .queue, .tbl, .fab, .rack, .sch, .pair, .log, .flt, .cnt, .out] s t := by
  refine ⟨_, rfl, ?_⟩
  refine Changes.when ?_ ?_
  · exact Changes.rfl
  · refine Changes.via ?_ (announceIn_changes ..) (by decide +kernel)
    exact Changes.rfl
theorem divergeIn_changes (stream sp tc seq reporter : Nat) (s : State) : Changes [.rings, .pair, .cnt, .out] s (divergeIn stream sp tc seq reporter s) := by
  unfold divergeIn
  split
  · exact Changes.rfl
  · extract_lets x1
    refine Changes.via ?_ (leaveSync_changes ..) (by decide +kernel)
    refine Changes.via ?_ (count_changes ..) (by decide +kernel)
    subst x1
    refine Changes.via ?_ (notify_changes ..) (by decide +kernel)
    exact Changes.rfl
theorem execDivergeEntry_changes (stream sp tc seq reporter : Nat) (s : State) : ∃ t, execDivergeEntry stream sp tc seq reporter s = .next t ∧ Changes [.rings, .pair, .cnt, .out] s t := by
  refine ⟨_, rfl, ?_⟩
  refine Changes.via ?_ (divergeIn_changes ..) (by decide +kernel)
  exact Changes.rfl
theorem reconQueryIn_changes (stream arrival : Nat) (s : State) : Changes [.draws, .rings, .fab, .pair, .flt, .cnt, .out] s (reconQueryIn stream arrival s) := by
  unfold reconQueryIn
  split
  · exact Changes.rfl
  · extract_lets x1 x2
    refine Changes.ite ?_ ?_
    · refine Changes.via ?_ (State.modPpair_changes ..) (by decide +kernel)
      exact Changes.rfl
    · refine Changes.ite ?_ ?_
      · refine Changes.via ?_ (reconAnswer_changes ..) (by decide +kernel)
        refine Changes.via ?_ (State.modPpair_changes ..) (by decide +kernel)
        exact Changes.rfl
      · refine Changes.via ?_ (reconAnswer_changes ..) (by decide +kernel)
        exact Changes.rfl
theorem execReconQuery_changes (stream arrival : Nat) (s : State) : ∃ t, execReconQuery stream arrival s = .next t ∧ Changes [.draws, .rings, .fab, .pair, .flt, .cnt, .out] s t := by
  refine ⟨_, rfl, ?_⟩
  refine Changes.via ?_ (reconQueryIn_changes ..) (by decide +kernel)
  exact Changes.rfl
theorem reconAnswerIn_changes (stream arrival kind sp tc seq : Nat) (s : State) : Changes [.draws, .rings, .queue, .port, .tbl, .mash, .adm, .fab, .pair, .insts, .log, .flt, .cnt, .out] s (reconAnswerIn stream arrival kind sp tc seq s) := by
  unfold reconAnswerIn
  split
  · exact Changes.rfl
  · refine Changes.ite ?_ ?_
    · exact Changes.rfl
    · extract_lets x1 x2 x3
      refine Changes.ite ?_ ?_
      · subst x1
        dsimp -zeta only
        refine Changes.via ?_ (numberAll_changes ..) (by decide +kernel)
        refine Changes.via ?_ (logResult_changes ..) (by decide +kernel)
        refine Changes.via ?_ (State.modPpair_changes ..) (by decide +kernel)
        refine Changes.via ?_ (count_changes ..) (by decide +kernel)
        refine Changes.via ?_ (sendToken_changes ..) (by decide +kernel)
        subst x3
        refine Changes.via ?_ (State.setTx_changes ..) (by decide +kernel)
        exact Changes.rfl
      · refine Changes.ite ?_ ?_
        · subst x1
          dsimp -zeta only
          refine Changes.via ?_ (numberAll_changes ..) (by decide +kernel)
          refine Changes.via ?_ (logResult_changes ..) (by decide +kernel)
          refine Changes.via ?_ (State.modPpair_changes ..) (by decide +kernel)
          exact Changes.rfl
        · refine Changes.via ?_ (numberAll_changes ..) (by decide +kernel)
          refine Changes.via ?_ (proceedUnknown_changes ..) (by decide +kernel)
          exact Changes.rfl
theorem execReconAnswer_changes (stream arrival kind sp tc seq : Nat) (s : State) : ∃ t, execReconAnswer stream arrival kind sp tc seq s = .next t ∧ Changes [.draws, .rings, .queue, .port, .tbl, .mash, .adm, .fab, .pair, .insts, .log, .flt, .cnt, .out] s t := by
  refine ⟨_, rfl, ?_⟩
  refine Changes.via ?_ (reconAnswerIn_changes ..) (by decide +kernel)
  exact Changes.rfl
theorem execReconQueryTimeout_changes (port : Nat) (s : State) : ∃ t, execReconQueryTimeout port s = .next t ∧ Changes [.draws, .rings, .queue, .port, .tbl, .mash, .adm, .fab, .pair, .insts, .log, .flt, .cnt, .out] s t := by
  refine ⟨_, rfl, ?_⟩
  split
  · exact Changes.rfl
  · refine Changes.when ?_ ?_
    · exact Changes.rfl
    · refine Changes.via ?_ (numberAll_changes ..) (by decide +kernel)
      refine Changes.via ?_ (proceedUnknown_changes ..) (by decide +kernel)
      exact Changes.rfl
theorem execArrivalSwitchPoint_changes (port epoch arrival : Nat) (s : State) : ∃ t, execArrivalSwitchPoint port epoch arrival s = .next t ∧ Changes [.rings, .tbl, .mash, .sch, .pair, .cnt, .out] s t := by
  refine ⟨_, rfl, ?_⟩
  refine Changes.when ?_ ?_
  · exact Changes.rfl
  · extract_lets x1 x2
    refine Changes.via ?_ (issueFrom_changes ..) (by decide +kernel)
    refine Changes.via ?_ (State.modPpair_changes ..) (by decide +kernel)
    exact Changes.rfl
theorem dropMarked_changes (k : EPkt) (s : State) : Changes [.draws, .rings, .tbl, .fab, .sch, .pair, .flt, .cnt, .out] s (dropMarked k s) := by
  unfold dropMarked
  extract_lets x1
  refine Changes.ite ?_ ?_
  · split
    · refine Changes.ite ?_ ?_
      · refine Changes.via ?_ (rehomeTo_changes ..) (by decide +kernel)
        exact Changes.rfl
      · refine Changes.via ?_ (holdFlushed_changes ..) (by decide +kernel)
        exact Changes.rfl
    · refine Changes.via ?_ (holdFlushed_changes ..) (by decide +kernel)
      exact Changes.rfl
  · refine Changes.via ?_ (releaseRef_changes ..) (by decide +kernel)
    exact Changes.rfl
theorem markIn_changes (stream sp tc seq : Nat) (s : State) : Changes [.draws, .rings, .tbl, .fab, .sch, .pair, .flt, .cnt, .out] s (markIn stream sp tc seq s) := by
  unfold markIn
  extract_lets x1 x2 x3 x4 x5
  refine Changes.ite ?_ ?_
  · exact Changes.rfl
  · refine Changes.foldS ?_ (fun _ _ => ?_)
    · refine Changes.via ?_ (mapEgress_changes ..) (by decide +kernel)
      subst x3
      refine Changes.via ?_ (State.modPair_changes ..) (by decide +kernel)
      exact Changes.rfl
    · refine Changes.via ?_ (dropMarked_changes ..) (by decide +kernel)
      exact Changes.rfl
theorem execMarkEntry_changes (stream sp tc seq : Nat) (s : State) : ∃ t, execMarkEntry stream sp tc seq s = .next t ∧ Changes [.draws, .rings, .tbl, .fab, .sch, .pair, .flt, .cnt, .out] s t := by
  refine ⟨_, rfl, ?_⟩
  refine Changes.when ?_ ?_
  · exact Changes.rfl
  · refine Changes.via ?_ (markIn_changes ..) (by decide +kernel)
    exact Changes.rfl
theorem renumber_changes (p d : Nat) (s : State) : Changes [.port, .mash, .pair] s (renumber p d s) := by
  unfold renumber
  extract_lets x1 x2 x3 x4 x5
  refine Changes.via ?_ (State.modPpair_changes ..) (by decide +kernel)
  subst x5
  refine Changes.via ?_ (State.modMash_changes ..) (by decide +kernel)
  subst x4
  refine Changes.via ?_ (State.modPort_changes ..) (by decide +kernel)
  exact Changes.rfl
theorem execAnchorRun_changes (port first : Nat) (run : List (Word × Nat)) (s : State) : ∃ t, execAnchorRun port first run s = .next t ∧ Changes [.port, .mash, .pair, .out] s t := by
  refine ⟨_, rfl, ?_⟩
  refine Changes.when ?_ ?_
  · exact Changes.rfl
  · split
    · refine Changes.via ?_ (renumber_changes ..) (by decide +kernel)
      refine Changes.via ?_ (State.modPpair_changes ..) (by decide +kernel)
      exact Changes.rfl
    · refine Changes.via ?_ (State.emit_changes ..) (by decide +kernel)
      exact Changes.rfl
theorem execAnchorCut_changes (port cut : Nat) (nexts : List (Nat × Nat × Nat)) (s : State) : ∃ t, execAnchorCut port cut nexts s = .next t ∧ Changes [.rings, .fab, .pair, .cnt, .out] s t := by
  refine ⟨_, rfl, ?_⟩
  refine Changes.when ?_ ?_
  · exact Changes.rfl
  · extract_lets x1 x2 x3 x4
    refine Changes.via ?_ (notify_changes ..) (by decide +kernel)
    refine Changes.via ?_ (State.modPpair_changes ..) (by decide +kernel)
    subst x2
    refine Changes.foldS ?_ (fun _ _ => ?_)
    · exact Changes.rfl
    · refine Changes.via ?_ (State.setTx_changes ..) (by decide +kernel)
      exact Changes.rfl
theorem execSyncComplete_changes (s : State) : ∃ t, execSyncComplete s = .next t ∧ Changes [.rings, .pair, .cnt, .out] s t := by
  refine ⟨_, rfl, ?_⟩
  refine Changes.when ?_ ?_
  · exact Changes.rfl
  · extract_lets x1
    refine Changes.ite ?_ ?_
    · subst x1
      refine Changes.via ?_ (notify_changes ..) (by decide +kernel)
      refine Changes.via ?_ (State.modPair_changes ..) (by decide +kernel)
      exact Changes.rfl
    · refine Changes.via ?_ (notify_changes ..) (by decide +kernel)
      refine Changes.via ?_ (State.modPair_changes ..) (by decide +kernel)
      subst x1
      refine Changes.via ?_ (notify_changes ..) (by decide +kernel)
      refine Changes.via ?_ (State.modPair_changes ..) (by decide +kernel)
      exact Changes.rfl
theorem execUnsyncedPortRestart_changes (port : Nat) (s : State) : ∃ t, execUnsyncedPortRestart port s = .next t ∧ Changes [.draws, .rings, .queue, .port, .tbl, .mash, .adm, .fab, .pair, .insts, .log, .flt, .cnt, .out] s t := by
  refine ⟨_, rfl, ?_⟩
  split
  · exact Changes.rfl
  · refine Changes.when ?_ ?_
    · exact Changes.rfl
    · extract_lets x1 x2
      refine Changes.via ?_ (numberAll_changes ..) (by decide +kernel)
      refine Changes.via ?_ (State.modPpair_changes ..) (by decide +kernel)
      subst x2
      refine Changes.via ?_ (State.modFab_changes ..) (by decide +kernel)
      exact Changes.rfl
theorem execDraughtPeriod_changes (s : State) : ∃ t, execDraughtPeriod s = .next t ∧ Changes [.draws, .rings, .port, .mash, .adm, .pair, .insts, .cnt, .out] s t := by
  refine ⟨_, rfl, ?_⟩
  refine Changes.when ?_ ?_
  · exact Changes.rfl
  · refine Changes.via ?_ (draughtRun_changes ..) (by decide +kernel)
    exact Changes.rfl
theorem staleRefresh_changes (s : State) : Changes [.rings, .pair, .cnt, .out] s (staleRefresh s) := by
  unfold staleRefresh
  extract_lets x1
  refine Changes.ite ?_ ?_
  · refine Changes.via ?_ (notify_changes ..) (by decide +kernel)
    refine Changes.via ?_ (State.modPair_changes ..) (by decide +kernel)
    exact Changes.rfl
  · refine Changes.ite ?_ ?_
    · refine Changes.via ?_ (notify_changes ..) (by decide +kernel)
      refine Changes.via ?_ (State.modPair_changes ..) (by decide +kernel)
      exact Changes.rfl
    · exact Changes.rfl
theorem peerDown_changes (s : State) : Changes [.draws, .rings, .pair, .sec, .log, .cnt, .out] s (peerDown s) := by
  unfold peerDown
  refine Changes.via ?_ (staleRefresh_changes ..) (by decide +kernel)
  refine Changes.via ?_ (fault_changes ..) (by decide +kernel)
  refine Changes.via ?_ (dropSecret_changes ..) (by decide +kernel)
  refine Changes.via ?_ (notify_changes ..) (by decide +kernel)
  exact Changes.rfl
theorem execPeerLaneDown_changes (lane : Nat) (s : State) : ∃ t, execPeerLaneDown lane s = .next t ∧ Changes [.draws, .rings, .pair, .sec, .log, .cnt, .out] s t := by
  refine ⟨_, rfl, ?_⟩
  refine Changes.when ?_ ?_
  · exact Changes.rfl
  · extract_lets x1
    refine Changes.ite ?_ ?_
    · subst x1
      refine Changes.via ?_ (bump_changes ..) (by decide +kernel)
      refine Changes.via ?_ (State.modPair_changes ..) (by decide +kernel)
      exact Changes.rfl
    · refine Changes.via ?_ (peerDown_changes ..) (by decide +kernel)
      subst x1
      refine Changes.via ?_ (bump_changes ..) (by decide +kernel)
      refine Changes.via ?_ (State.modPair_changes ..) (by decide +kernel)
      exact Changes.rfl
theorem execPeerLaneUp_changes (lane : Nat) (s : State) : ∃ t, execPeerLaneUp lane s = .next t ∧ Changes [.rings, .pair, .log, .cnt, .out] s t := by
  refine ⟨_, rfl, ?_⟩
  refine Changes.when ?_ ?_
  · exact Changes.rfl
  · extract_lets x1 x2
    refine Changes.ite ?_ ?_
    · subst x2
      refine Changes.via ?_ (State.modPair_changes ..) (by decide +kernel)
      exact Changes.rfl
    · refine Changes.via ?_ (staleRefresh_changes ..) (by decide +kernel)
      refine Changes.via ?_ (endWindow_changes ..) (by decide +kernel)
      refine Changes.via ?_ (notify_changes ..) (by decide +kernel)
      subst x2
      refine Changes.via ?_ (State.modPair_changes ..) (by decide +kernel)
      exact Changes.rfl

end Sys2Proof.Machine
end

