-- ==== Sys2Proof/Laws/Reset.lean ====
section
/-! SUPPORT. What each operation of Machine/Reset.lean can change. -/

set_option Elab.async false

namespace Sys2Proof.Machine

theorem unread_changes (p : Parked) (s : State) : Changes [.rings] s (unread p s) := by
  unfold unread
  refine Changes.via ?_ (State.modFn_changes ..) (by decide +kernel)
  exact Changes.rfl
theorem warmRestart_changes (cause : Nat) (s : State) : Changes [.rings, .queue, .hif, .dev, .sec] s (warmRestart cause s) := by
  unfold warmRestart
  dsimp only
  refine Changes.set_all (foldS (List.partition (rereads s) s.hif.parked).fst s unread) ?_ (fun p hp => by cases p <;> first | exact absurd (by decide) hp | rfl)
  refine Changes.foldS ?_ (fun _ _ => ?_)
  · exact Changes.rfl
  · refine Changes.via ?_ (unread_changes ..) (by decide +kernel)
    exact Changes.rfl
theorem State.modSlot_changes (s : State) (n : Nat) (f : Slot → Slot) : Changes [.upd] s (State.modSlot s n f) := by
  unfold State.modSlot
  refine Changes.via ?_ (dirWrite_changes ..) (by decide +kernel)
  refine Changes.ite ?_ ?_
  · refine Changes.set_upd ?_ (by decide)
    exact Changes.rfl
  · refine Changes.set_upd ?_ (by decide)
    exact Changes.rfl
theorem clearTrial_changes (cause : Nat) (s : State) : Changes [.rings, .upd, .cnt, .out] s (clearTrial cause s) := by
  unfold clearTrial
  split
  · exact Changes.rfl
  · extract_lets x1 x2 x3
    refine Changes.via ?_ (count_changes ..) (by decide +kernel)
    refine Changes.set_upd ?_ (by decide)
    subst x1
    refine Changes.via ?_ (State.modSlot_changes ..) (by decide +kernel)
    exact Changes.rfl
theorem fallBack_changes (cause : Nat) (s : State) : Changes [.rings, .queue, .hif, .dev, .sec, .upd, .cnt, .out] s (fallBack cause s) := by
  unfold fallBack
  refine Changes.via ?_ (warmRestart_changes ..) (by decide +kernel)
  refine Changes.via ?_ (clearTrial_changes ..) (by decide +kernel)
  exact Changes.rfl

end Sys2Proof.Machine
end

