-- ==== Sys2Proof/Laws/Upd.lean ====
section
/-! SUPPORT. What each operation of Machine/Upd.lean can change. -/

set_option Elab.async false

namespace Sys2Proof.Machine

theorem bodyUpdOpen_changes (vi : Nat) (e : Entry) (s : State) : Changes [.rings, .upd, .cnt, .out] s (bodyUpdOpen vi e s).st := by
  unfold bodyUpdOpen
  extract_lets x1 x2 x3 x4 x5 x6 x7
  refine Changes.ite_st ?_ ?_
  · refine Changes.err_st ?_
    exact Changes.rfl
  · refine Changes.ite_st ?_ ?_
    · refine Changes.via ?_ (badLen_changes ..) (by decide +kernel)
      exact Changes.rfl
    · refine Changes.ite_st ?_ ?_
      · refine Changes.err_st ?_
        exact Changes.rfl
      · refine Changes.ite_st ?_ ?_
        · refine Changes.err_st ?_
          exact Changes.rfl
        · refine Changes.ite_st ?_ ?_
          · refine Changes.err_st ?_
            refine Changes.via ?_ (count_changes ..) (by decide +kernel)
            exact Changes.rfl
          · refine Changes.ite_st ?_ ?_
            · refine Changes.err_st ?_
              exact Changes.rfl
            · refine Changes.ite_st ?_ ?_
              · refine Changes.read_st ?_
                exact Changes.rfl
              · refine Changes.ite_st ?_ ?_
                · refine Changes.mk_st ?_
                  subst x6
                  refine Changes.err_st ?_
                  exact Changes.rfl
                · refine Changes.ok_st ?_
                  refine Changes.via ?_ (State.modSlot_changes ..) (by decide +kernel)
                  exact Changes.rfl
theorem lastChunk_changes (t : Nat) (x : Slot) (s : State) : Changes [.rings, .upd, .cnt, .out] s (lastChunk t x s).st := by
  unfold lastChunk
  refine Changes.ite_st ?_ ?_
  · extract_lets x1
    refine Changes.ok_st ?_
    refine Changes.via ?_ (notify_changes ..) (by decide +kernel)
    subst x1
    refine Changes.via ?_ (State.modSlot_changes ..) (by decide +kernel)
    exact Changes.rfl
  · refine Changes.err_st ?_
    refine Changes.via ?_ (count_changes ..) (by decide +kernel)
    refine Changes.via ?_ (State.modSlot_changes ..) (by decide +kernel)
    exact Changes.rfl
theorem bodyUpdChunk_changes (vi : Nat) (e : Entry) (s : State) : Changes [.draws, .rings, .upd, .log, .cnt, .out] s (bodyUpdChunk vi e s).st := by
  unfold bodyUpdChunk
  extract_lets x1 x2 x3 x4 x5
  refine Changes.ite_st ?_ ?_
  · refine Changes.err_st ?_
    exact Changes.rfl
  · refine Changes.ite_st ?_ ?_
    · refine Changes.err_st ?_
      exact Changes.rfl
    · refine Changes.ite_st ?_ ?_
      · refine Changes.err_st ?_
        exact Changes.rfl
      · refine Changes.ite_st ?_ ?_
        · refine Changes.via ?_ (badLen_changes ..) (by decide +kernel)
          exact Changes.rfl
        · refine Changes.ite_st ?_ ?_
          · refine Changes.read_st ?_
            exact Changes.rfl
          · refine Changes.ite_st ?_ ?_
            · refine Changes.err_st ?_
              refine Changes.via ?_ (count_changes ..) (by decide +kernel)
              exact Changes.rfl
            · refine Changes.ite_st ?_ ?_
              · refine Changes.err_st ?_
                refine Changes.via ?_ (count_changes ..) (by decide +kernel)
                refine Changes.via ?_ (fault_changes ..) (by decide +kernel)
                refine Changes.via ?_ (State.modSlot_changes ..) (by decide +kernel)
                refine Changes.via ?_ (State.drawn_changes ..) (by decide +kernel)
                exact Changes.rfl
              · refine Changes.ite_st ?_ ?_
                · refine Changes.via ?_ (lastChunk_changes ..) (by decide +kernel)
                  subst x4
                  refine Changes.via ?_ (dirWrite_changes ..) (by decide +kernel)
                  refine Changes.via ?_ (State.modSlot_changes ..) (by decide +kernel)
                  refine Changes.via ?_ (State.drawn_changes ..) (by decide +kernel)
                  exact Changes.rfl
                · refine Changes.ok_st ?_
                  subst x4
                  refine Changes.via ?_ (dirWrite_changes ..) (by decide +kernel)
                  refine Changes.via ?_ (State.modSlot_changes ..) (by decide +kernel)
                  refine Changes.via ?_ (State.drawn_changes ..) (by decide +kernel)
                  exact Changes.rfl
theorem bodyUpdStatus_changes (vi : Nat) (e : Entry) (s : State) : Changes [] s (bodyUpdStatus vi e s).st := by
  unfold bodyUpdStatus
  extract_lets x1 x2
  refine Changes.read_st ?_
  exact Changes.rfl
theorem bodyUpdAbort_changes (vi : Nat) (e : Entry) (s : State) : Changes [.rings, .queue, .hif, .dev, .sec, .upd, .cnt, .out] s (bodyUpdAbort vi e s).st := by
  unfold bodyUpdAbort
  extract_lets x1 x2
  refine Changes.ite_st ?_ ?_
  · refine Changes.via ?_ (argErr_changes ..) (by decide +kernel)
    exact Changes.rfl
  · refine Changes.ite_st ?_ ?_
    · refine Changes.err_st ?_
      exact Changes.rfl
    · refine Changes.ite_st ?_ ?_
      · refine Changes.ok_st ?_
        refine Changes.via ?_ (State.modSlot_changes ..) (by decide +kernel)
        exact Changes.rfl
      · refine Changes.ite_st ?_ ?_
        · refine Changes.ok_st ?_
          refine Changes.via ?_ (fallBack_changes ..) (by decide +kernel)
          exact Changes.rfl
        · refine Changes.err_st ?_
          exact Changes.rfl
theorem setTrial_changes (n wait window : Nat) (s : State) : Changes [.upd] s (setTrial n wait window s) := by
  unfold setTrial
  extract_lets x1 x2
  refine Changes.set_upd ?_ (by decide)
  subst x1
  refine Changes.via ?_ (State.modSlot_changes ..) (by decide +kernel)
  exact Changes.rfl
theorem bodyUpdActivate_changes (vi : Nat) (e : Entry) (s : State) : Changes [.rings, .queue, .hif, .dev, .sec, .upd, .cnt, .out] s (bodyUpdActivate vi e s).st := by
  unfold bodyUpdActivate
  extract_lets x1 x2 x3
  refine Changes.ite_st ?_ ?_
  · refine Changes.via ?_ (argErr_changes ..) (by decide +kernel)
    exact Changes.rfl
  · refine Changes.ite_st ?_ ?_
    · refine Changes.err_st ?_
      exact Changes.rfl
    · split
      · refine Changes.err_st ?_
        exact Changes.rfl
      · extract_lets x4 x5 x6 x7
        refine Changes.ite_st ?_ ?_
        · split
          · refine Changes.err_st ?_
            exact Changes.rfl
          · refine Changes.ite_st ?_ ?_
            · refine Changes.err_st ?_
              refine Changes.via ?_ (count_changes ..) (by decide +kernel)
              exact Changes.rfl
            · refine Changes.ok_st ?_
              refine Changes.via ?_ (warmRestart_changes ..) (by decide +kernel)
              refine Changes.set_upd ?_ (by decide)
              subst x5
              refine Changes.via ?_ (setTrial_changes ..) (by decide +kernel)
              exact Changes.rfl
        · refine Changes.ok_st ?_
          refine Changes.set_dev ?_ (by decide)
          subst x5
          refine Changes.via ?_ (setTrial_changes ..) (by decide +kernel)
          exact Changes.rfl
theorem burnFuse_changes  (a0 : Nat) (s : State) : Changes [.draws] s (burnFuse  a0 s).2 := by
  induction a0 generalizing s with
  | zero =>
    unfold burnFuse
    refine Changes.pair_snd ?_
    exact Changes.rfl
  | succ a0 ih =>
    unfold burnFuse
    refine Changes.ite_snd ?_ ?_
    · refine Changes.pair_snd ?_
      refine Changes.via ?_ (State.drawn_changes ..) (by decide +kernel)
      exact Changes.rfl
    · refine Changes.via ?_ (ih ..) (by decide +kernel)
      refine Changes.via ?_ (State.drawn_changes ..) (by decide +kernel)
      exact Changes.rfl
theorem burnFuses_changes (f : Upd → Upd) (a0 : Nat) (s : State) : Changes [.draws, .upd] s (burnFuses f a0 s).2 := by
  induction a0 generalizing s with
  | zero =>
    unfold burnFuses
    refine Changes.pair_snd ?_
    exact Changes.rfl
  | succ a0 ih =>
    unfold burnFuses
    dsimp only
    refine Changes.ite_snd ?_ ?_
    · refine Changes.via ?_ (ih ..) (by decide +kernel)
      refine Changes.set_upd ?_ (by decide)
      refine Changes.via ?_ (burnFuse_changes ..) (by decide +kernel)
      exact Changes.rfl
    · refine Changes.pair_snd ?_
      refine Changes.via ?_ (burnFuse_changes ..) (by decide +kernel)
      exact Changes.rfl
theorem updResult_changes (s : State) : Changes [.rings, .cnt, .out] s (updResult s) := by
  unfold updResult
  extract_lets x1
  refine Changes.via ?_ (notify_changes ..) (by decide +kernel)
  exact Changes.rfl
theorem confirmed_changes (n : Nat) (s : State) : Changes [.rings, .sec, .upd, .cnt, .out] s (confirmed n s) := by
  unfold confirmed
  extract_lets x1 x2 x3 x4 x5
  refine Changes.via ?_ (updResult_changes ..) (by decide +kernel)
  refine Changes.via ?_ (saveSettings_changes ..) (by decide +kernel)
  refine Changes.via ?_ (saveSettings_changes ..) (by decide +kernel)
  refine Changes.set_all (x1) ?_ (fun p hp => by clear_value x1; cases p <;> first | exact absurd (by decide) hp | rfl)
  subst x1
  refine Changes.via ?_ (State.modSlot_changes ..) (by decide +kernel)
  refine Changes.via ?_ (State.modSlot_changes ..) (by decide +kernel)
  exact Changes.rfl
theorem bodyUpdConfirm_changes (vi : Nat) (e : Entry) (s : State) : Changes [.draws, .rings, .sec, .upd, .log, .cnt, .out] s (bodyUpdConfirm vi e s).st := by
  unfold bodyUpdConfirm
  split
  · refine Changes.err_st ?_
    exact Changes.rfl
  · extract_lets x1
    refine Changes.ite_st ?_ ?_
    · refine Changes.err_st ?_
      exact Changes.rfl
    · refine Changes.ite_st ?_ ?_
      · refine Changes.err_st ?_
        exact Changes.rfl
      · dsimp only
        refine Changes.ite_st ?_ ?_
        · refine Changes.ok_st ?_
          refine Changes.via ?_ (confirmed_changes ..) (by decide +kernel)
          refine Changes.ite_snd ?_ ?_
          · refine Changes.via ?_ (burnFuses_changes ..) (by decide +kernel)
            refine Changes.via ?_ (burnFuses_changes ..) (by decide +kernel)
            exact Changes.rfl
          · refine Changes.pair_snd ?_
            refine Changes.via ?_ (burnFuses_changes ..) (by decide +kernel)
            exact Changes.rfl
        · refine Changes.err_st ?_
          refine Changes.via ?_ (fault_changes ..) (by decide +kernel)
          refine Changes.ite_snd ?_ ?_
          · refine Changes.via ?_ (burnFuses_changes ..) (by decide +kernel)
            refine Changes.via ?_ (burnFuses_changes ..) (by decide +kernel)
            exact Changes.rfl
          · refine Changes.pair_snd ?_
            refine Changes.via ?_ (burnFuses_changes ..) (by decide +kernel)
            exact Changes.rfl
theorem execUpdOpen_changes (vi : Nat) (io : HostIo) (s : State) : ∃ t, execUpdOpen vi io s = .next t ∧ Changes [.rings, .queue, .pair, .upd, .cnt, .out] s t :=
  ⟨_, rfl, Changes.weaken (runCommand_changes _ _ _ _ _ (bodyUpdOpen_changes vi)) (by decide)⟩
theorem execUpdChunk_changes (vi : Nat) (io : HostIo) (s : State) : ∃ t, execUpdChunk vi io s = .next t ∧ Changes [.draws, .rings, .queue, .pair, .upd, .log, .cnt, .out] s t :=
  ⟨_, rfl, Changes.weaken (runCommand_changes _ _ _ _ _ (bodyUpdChunk_changes vi)) (by decide)⟩
theorem execUpdStatus_changes (vi : Nat) (io : HostIo) (s : State) : ∃ t, execUpdStatus vi io s = .next t ∧ Changes [.rings, .queue, .pair, .cnt, .out] s t :=
  ⟨_, rfl, Changes.weaken (runCommand_changes _ _ _ _ _ (bodyUpdStatus_changes vi)) (by decide)⟩
theorem execUpdAbort_changes (vi : Nat) (io : HostIo) (s : State) : ∃ t, execUpdAbort vi io s = .next t ∧ Changes [.rings, .queue, .hif, .dev, .pair, .sec, .upd, .cnt, .out] s t :=
  ⟨_, rfl, Changes.weaken (runCommand_changes _ _ _ _ _ (bodyUpdAbort_changes vi)) (by decide)⟩
theorem execUpdActivate_changes (vi : Nat) (io : HostIo) (s : State) : ∃ t, execUpdActivate vi io s = .next t ∧ Changes [.rings, .queue, .hif, .dev, .pair, .sec, .upd, .cnt, .out] s t :=
  ⟨_, rfl, Changes.weaken (runCommand_changes _ _ _ _ _ (bodyUpdActivate_changes vi)) (by decide)⟩
theorem execUpdConfirm_changes (vi : Nat) (io : HostIo) (s : State) : ∃ t, execUpdConfirm vi io s = .next t ∧ Changes [.draws, .rings, .queue, .pair, .sec, .upd, .log, .cnt, .out] s t :=
  ⟨_, rfl, Changes.weaken (runCommand_changes _ _ _ _ _ (bodyUpdConfirm_changes vi)) (by decide)⟩
theorem swapNow_changes (epoch : Nat) (s : State) : Changes [.upd] s (swapNow epoch s) := by
  unfold swapNow
  extract_lets x1
  refine Changes.set_upd ?_ (by decide)
  exact Changes.rfl
theorem execUpdSwap_changes (s : State) : ∃ t, execUpdSwap s = .next t ∧ Changes [.upd] s t := by
  refine ⟨_, rfl, ?_⟩
  split
  · refine Changes.when ?_ ?_
    · exact Changes.rfl
    · refine Changes.via ?_ (swapNow_changes ..) (by decide +kernel)
      exact Changes.rfl
  · exact Changes.rfl
theorem swapCommit_changes (s : State) : Changes [.rings, .epochs, .tbl, .pair, .upd, .cnt, .out] s (swapCommit s) := by
  unfold swapCommit
  refine Changes.ite ?_ ?_
  · refine Changes.set_upd ?_ (by decide)
    exact Changes.rfl
  · extract_lets x1 x2
    refine Changes.ite ?_ ?_
    · refine Changes.via ?_ (sendJournal_changes ..) (by decide +kernel)
      refine Changes.ok_st ?_
      subst x2
      refine Changes.via ?_ (commitOps_changes ..) (by decide +kernel)
      refine Changes.set_upd ?_ (by decide)
      exact Changes.rfl
    · subst x2
      refine Changes.via ?_ (commitOps_changes ..) (by decide +kernel)
      refine Changes.set_upd ?_ (by decide)
      exact Changes.rfl
theorem execSwapWaitExpiry_changes (s : State) : ∃ t, execSwapWaitExpiry s = .next t ∧ Changes [.rings, .epochs, .tbl, .pair, .upd, .cnt, .out] s t := by
  refine ⟨_, rfl, ?_⟩
  split
  · refine Changes.when ?_ ?_
    · exact Changes.rfl
    · refine Changes.via ?_ (swapCommit_changes ..) (by decide +kernel)
      exact Changes.rfl
  · exact Changes.rfl
theorem execSwapCommitRetry_changes (s : State) : ∃ t, execSwapCommitRetry s = .next t ∧ Changes [.rings, .epochs, .tbl, .pair, .upd, .cnt, .out] s t := by
  refine ⟨_, rfl, ?_⟩
  split
  · refine Changes.when ?_ ?_
    · exact Changes.rfl
    · refine Changes.via ?_ (swapCommit_changes ..) (by decide +kernel)
      exact Changes.rfl
  · exact Changes.rfl
theorem execLinkBankSwapDone_changes (s : State) : ∃ t, execLinkBankSwapDone s = .next t ∧ Changes [.rings, .upd, .cnt, .out] s t := by
  refine ⟨_, rfl, ?_⟩
  refine Changes.when ?_ ?_
  · exact Changes.rfl
  · extract_lets x1 x2 x3 x4
    refine Changes.ite ?_ ?_
    · refine Changes.via ?_ (updResult_changes ..) (by decide +kernel)
      refine Changes.set_upd ?_ (by decide)
      subst x3
      refine Changes.via ?_ (notify_changes ..) (by decide +kernel)
      subst x2
      refine Changes.set_upd ?_ (by decide)
      exact Changes.rfl
    · subst x3
      refine Changes.via ?_ (notify_changes ..) (by decide +kernel)
      subst x2
      refine Changes.set_upd ?_ (by decide)
      exact Changes.rfl
theorem execConfirmWindowExpiry_changes (s : State) : ∃ t, execConfirmWindowExpiry s = .next t ∧ Changes [.rings, .queue, .hif, .dev, .sec, .upd, .cnt, .out] s t := by
  refine ⟨_, rfl, ?_⟩
  split
  · refine Changes.when ?_ ?_
    · exact Changes.rfl
    · refine Changes.via ?_ (fallBack_changes ..) (by decide +kernel)
      exact Changes.rfl
  · exact Changes.rfl

end Sys2Proof.Machine
end

