-- ==== Sys2Proof/Laws/Bringup.lean ====
section
/-! SUPPORT. What each operation of Machine/Bringup.lean can change. -/

set_option Elab.async false

namespace Sys2Proof.Machine

theorem toPhase_changes (p : Phase) (s : State) : Changes [.rings, .dev, .cnt, .out] s (toPhase p s) := by
  unfold toPhase
  refine Changes.via ?_ (notify_changes ..) (by decide +kernel)
  refine Changes.set_dev ?_ (by decide)
  exact Changes.rfl
theorem State.atStep_changes (s : State) (n : Nat) : Changes [.dev] s (State.atStep s n) := by
  unfold State.atStep
  refine Changes.set_dev ?_ (by decide)
  exact Changes.rfl
theorem coldState_changes (s : State) : Changes [.mono, .rings, .queue, .hif, .dev, .port, .frm, .incr, .tim, .epochs, .tbl, .mash, .asa, .adm, .fab, .rack, .sch, .pair, .insts, .sec, .upd, .log, .flt, .cnt, .pwr] s (coldState s) :=
  ⟨fun p hp => by cases p <;> first | exact absurd (by decide) hp | rfl⟩
theorem startPowerOn_changes (s : State) : Changes [.dev, .sec] s (startPowerOn s) := by
  unfold startPowerOn
  extract_lets x1 x2 x3
  split
  · refine Changes.set_sec ?_ (by decide)
    subst x2
    refine Changes.set_dev ?_ (by decide)
    exact Changes.rfl
  · refine Changes.set_sec ?_ (by decide)
    subst x2
    refine Changes.set_dev ?_ (by decide)
    exact Changes.rfl
  · subst x2
    refine Changes.set_dev ?_ (by decide)
    exact Changes.rfl
theorem coldReset_changes (s : State) : Changes [.mono, .rings, .queue, .hif, .dev, .port, .frm, .incr, .tim, .epochs, .tbl, .mash, .asa, .adm, .fab, .rack, .sch, .pair, .insts, .sec, .upd, .log, .flt, .cnt, .pwr] s (coldReset s) := by
  unfold coldReset
  refine Changes.via ?_ (startPowerOn_changes ..) (by decide +kernel)
  refine Changes.via ?_ (coldState_changes ..) (by decide +kernel)
  exact Changes.rfl
theorem coldLocked_changes (s : State) : Changes [.mono, .rings, .queue, .hif, .dev, .port, .frm, .incr, .tim, .epochs, .tbl, .mash, .asa, .adm, .fab, .rack, .sch, .pair, .insts, .sec, .upd, .log, .flt, .cnt, .pwr] s (coldLocked s) := by
  unfold coldLocked
  extract_lets x1 x2
  refine Changes.set_dev ?_ (by decide)
  subst x1
  refine Changes.via ?_ (coldState_changes ..) (by decide +kernel)
  exact Changes.rfl
theorem execPowerOnResetRelease_changes (s : State) : ∃ t, execPowerOnResetRelease s = .next t ∧ Changes [.dev, .sec] s t := by
  refine ⟨_, rfl, ?_⟩
  refine Changes.when ?_ ?_
  · exact Changes.rfl
  · refine Changes.via ?_ (startPowerOn_changes ..) (by decide +kernel)
    exact Changes.rfl
theorem execPoresetAssert_changes (s : State) : ∃ t, execPoresetAssert s = .next t ∧ Changes [.mono, .rings, .queue, .hif, .dev, .port, .frm, .incr, .tim, .epochs, .tbl, .mash, .asa, .adm, .fab, .rack, .sch, .pair, .insts, .sec, .upd, .log, .flt, .cnt, .pwr] s t := by
  refine ⟨_, rfl, ?_⟩
  extract_lets x1 x2
  refine Changes.set_pwr ?_ (by decide)
  subst x1
  refine Changes.via ?_ (coldState_changes ..) (by decide +kernel)
  exact Changes.rfl
theorem execRootpllLock_changes (s : State) : ∃ t, execRootpllLock s = .next t ∧ Changes [.dev, .pwr] s t := by
  refine ⟨_, rfl, ?_⟩
  refine Changes.when ?_ ?_
  · exact Changes.rfl
  · refine Changes.via ?_ (powerAll_changes ..) (by decide +kernel)
    refine Changes.via ?_ (State.atStep_changes ..) (by decide +kernel)
    refine Changes.set_pwr ?_ (by decide)
    exact Changes.rfl
theorem romRecovery_changes (s : State) : Changes [.rings, .queue, .hif, .dev, .cnt, .out] s (romRecovery s) := by
  unfold romRecovery
  refine Changes.via ?_ (State.settled_changes ..) (by decide +kernel)
  refine Changes.via ?_ (applyHeld_changes ..) (by decide +kernel)
  refine Changes.set_all (s) ?_ (fun p hp => by cases p <;> first | exact absurd (by decide) hp | rfl)
  exact Changes.rfl
theorem romBoot_changes (slot : Nat) (s : State) : Changes [.hif, .dev, .sec, .upd] s (romBoot slot s) := by
  unfold romBoot
  extract_lets x1 x2 x3 x4 x5 x6 x7 x8 x9
  refine Changes.set_all (x4) ?_ (fun p hp => by clear_value x4; cases p <;> first | exact absurd (by decide) hp | rfl)
  subst x4
  refine Changes.ite ?_ ?_
  · refine Changes.via ?_ (dirWrite_changes ..) (by decide +kernel)
    exact Changes.rfl
  · exact Changes.rfl
theorem spentTrial_changes (s : State) : Changes [.rings, .upd, .cnt, .out] s (spentTrial s) := by
  unfold spentTrial
  refine Changes.ite ?_ ?_
  · refine Changes.via ?_ (clearTrial_changes ..) (by decide +kernel)
    exact Changes.rfl
  · exact Changes.rfl
theorem romVerdict_changes (slot : Nat) (passed : Bool) (s : State) : Changes [.rings, .queue, .hif, .dev, .sec, .upd, .cnt, .out] s (romVerdict slot passed s) := by
  unfold romVerdict
  extract_lets x1 x2 x3 x4
  refine Changes.ite ?_ ?_
  · refine Changes.via ?_ (romBoot_changes ..) (by decide +kernel)
    exact Changes.rfl
  · refine Changes.ite ?_ ?_
    · subst x4
      refine Changes.set_dev ?_ (by decide)
      subst x2
      refine Changes.ite ?_ ?_
      · refine Changes.via ?_ (clearTrial_changes ..) (by decide +kernel)
        exact Changes.rfl
      · exact Changes.rfl
    · refine Changes.via ?_ (romRecovery_changes ..) (by decide +kernel)
      subst x4
      refine Changes.set_dev ?_ (by decide)
      subst x2
      refine Changes.ite ?_ ?_
      · refine Changes.via ?_ (clearTrial_changes ..) (by decide +kernel)
        exact Changes.rfl
      · exact Changes.rfl
theorem execKilnVerify_changes (slot : Nat) (passed : Bool) (s : State) : ∃ t, execKilnVerify slot passed s = .next t ∧ Changes [.rings, .queue, .hif, .dev, .sec, .upd, .cnt, .out] s t := by
  refine ⟨_, rfl, ?_⟩
  extract_lets x1
  refine Changes.when ?_ ?_
  · exact Changes.rfl
  · refine Changes.ite ?_ ?_
    · refine Changes.via ?_ (romRecovery_changes ..) (by decide +kernel)
      exact Changes.rfl
    · refine Changes.via ?_ (romVerdict_changes ..) (by decide +kernel)
      subst x1
      refine Changes.via ?_ (spentTrial_changes ..) (by decide +kernel)
      exact Changes.rfl
theorem failBringup_changes (cause : Nat) (s : State) : Changes [.rings, .dev, .cnt, .out] s (failBringup cause s) := by
  unfold failBringup
  refine Changes.via ?_ (toPhase_changes ..) (by decide +kernel)
  refine Changes.via ?_ (notify_changes ..) (by decide +kernel)
  refine Changes.set_dev ?_ (by decide)
  exact Changes.rfl
theorem execWortBridgeTrainEnd_changes (passed : Bool) (s : State) : ∃ t, execWortBridgeTrainEnd passed s = .next t ∧ Changes [.rings, .dev, .flt, .cnt, .pwr, .out] s t := by
  refine ⟨_, rfl, ?_⟩
  refine Changes.when ?_ ?_
  · exact Changes.rfl
  · refine Changes.ite ?_ ?_
    · extract_lets x1 x2 x3
      refine Changes.via ?_ (powerAll_changes ..) (by decide +kernel)
      refine Changes.via ?_ (toPhase_changes ..) (by decide +kernel)
      refine Changes.via ?_ (State.atStep_changes ..) (by decide +kernel)
      subst x3
      refine Changes.set_all (s) ?_ (fun p hp => by cases p <;> first | exact absurd (by decide) hp | rfl)
      exact Changes.rfl
    · extract_lets x4 x5
      refine Changes.ite ?_ ?_
      · subst x5
        refine Changes.set_dev ?_ (by decide)
        exact Changes.rfl
      · refine Changes.via ?_ (count_changes ..) (by decide +kernel)
        refine Changes.via ?_ (failBringup_changes ..) (by decide +kernel)
        subst x5
        refine Changes.set_dev ?_ (by decide)
        exact Changes.rfl
theorem installCellar_changes (s : State) : Changes [.tbl] s (installCellar s) := by
  unfold installCellar
  extract_lets x1 x2
  refine Changes.set_tbl ?_ (by with_reducible rfl) (by decide)
  exact Changes.rfl
theorem nextStep_changes (s : State) : Changes [.draws, .rings, .dev, .log, .cnt, .pwr, .out] s (nextStep s) := by
  unfold nextStep
  refine Changes.ite ?_ ?_
  · refine Changes.via ?_ (powerOn_changes ..) (by decide +kernel)
    refine Changes.via ?_ (State.atStep_changes ..) (by decide +kernel)
    exact Changes.rfl
  · exact Changes.rfl
theorem enterCellar_changes (s : State) : Changes [.draws, .rings, .dev, .tbl, .asa, .log, .cnt, .pwr, .out] s (enterCellar s) := by
  unfold enterCellar
  extract_lets x1 x2 x3 x4 x5
  refine Changes.via ?_ (nextStep_changes ..) (by decide +kernel)
  refine Changes.via ?_ (powerAll_changes ..) (by decide +kernel)
  subst x5
  refine Changes.via ?_ (notify_changes ..) (by decide +kernel)
  subst x4
  refine Changes.via ?_ (toPhase_changes ..) (by decide +kernel)
  refine Changes.via ?_ (installCellar_changes ..) (by decide +kernel)
  subst x3
  refine Changes.set_dev ?_ (by decide)
  subst x1
  refine Changes.via ?_ (State.modBank_changes ..) (by decide +kernel)
  exact Changes.rfl
theorem tryCellar_changes (s : State) : Changes [.draws, .rings, .dev, .tbl, .asa, .log, .cnt, .pwr, .out] s (tryCellar s) := by
  unfold tryCellar
  refine Changes.ite ?_ ?_
  · refine Changes.via ?_ (enterCellar_changes ..) (by decide +kernel)
    exact Changes.rfl
  · exact Changes.rfl
theorem stackTrained_changes (stack : Nat) (s : State) : Changes [.rings, .queue, .cnt, .out] s (stackTrained stack s) := by
  unfold stackTrained
  refine Changes.via ?_ (completeWaiting_changes ..) (by decide +kernel)
  exact Changes.rfl
theorem repairStack_changes (stack : Nat) (s : State) : Changes [.draws, .adm] s (repairStack stack s) := by
  unfold repairStack
  extract_lets x1 x2 x3 x4
  refine Changes.set_adm ?_ (by decide)
  subst x3
  refine Changes.via ?_ (State.drawn_changes ..) (by decide +kernel)
  exact Changes.rfl
theorem hbmTrained_changes (stack : Nat) (s : State) : Changes [.draws, .rings, .queue, .dev, .port, .tbl, .asa, .adm, .insts, .log, .cnt, .pwr, .out] s (hbmTrained stack s) := by
  unfold hbmTrained
  extract_lets x1 x2 x3 x4 x5
  refine Changes.via ?_ (stackTrained_changes ..) (by decide +kernel)
  subst x5
  refine Changes.ite ?_ ?_
  · refine Changes.ite ?_ ?_
    · refine Changes.via ?_ (powerOn_changes ..) (by decide +kernel)
      refine Changes.via ?_ (State.atStep_changes ..) (by decide +kernel)
      subst x4
      refine Changes.ite ?_ ?_
      · refine Changes.set_tbl ?_ (by with_reducible rfl) (by decide)
        subst x2
        refine Changes.set_dev ?_ (by decide)
        exact Changes.rfl
      · subst x2
        refine Changes.set_dev ?_ (by decide)
        exact Changes.rfl
    · refine Changes.via ?_ (tryCellar_changes ..) (by decide +kernel)
      subst x4
      refine Changes.ite ?_ ?_
      · refine Changes.set_tbl ?_ (by with_reducible rfl) (by decide)
        subst x2
        refine Changes.set_dev ?_ (by decide)
        exact Changes.rfl
      · subst x2
        refine Changes.set_dev ?_ (by decide)
        exact Changes.rfl
  · refine Changes.via ?_ (poolUpkeep_changes ..) (by decide +kernel)
    subst x4
    refine Changes.ite ?_ ?_
    · refine Changes.set_tbl ?_ (by with_reducible rfl) (by decide)
      subst x2
      refine Changes.set_dev ?_ (by decide)
      exact Changes.rfl
    · subst x2
      refine Changes.set_dev ?_ (by decide)
      exact Changes.rfl
theorem hbmUntrained_changes (stack : Nat) (s : State) : Changes [.rings, .queue, .dev, .cnt, .out] s (hbmUntrained stack s) := by
  unfold hbmUntrained
  extract_lets x1 x2 x3
  refine Changes.via ?_ (stackTrained_changes ..) (by decide +kernel)
  subst x3
  refine Changes.ite ?_ ?_
  · refine Changes.via ?_ (failBringup_changes ..) (by decide +kernel)
    subst x2
    refine Changes.via ?_ (count_changes ..) (by decide +kernel)
    refine Changes.set_dev ?_ (by decide)
    exact Changes.rfl
  · refine Changes.via ?_ (notify_changes ..) (by decide +kernel)
    subst x2
    refine Changes.via ?_ (count_changes ..) (by decide +kernel)
    refine Changes.set_dev ?_ (by decide)
    exact Changes.rfl
theorem execHbmTrainingDone_changes (stack : Nat) (passed : Bool) (s : State) : ∃ t, execHbmTrainingDone stack passed s = .next t ∧ Changes [.draws, .rings, .queue, .dev, .port, .tbl, .asa, .adm, .insts, .log, .cnt, .pwr, .out] s t := by
  refine ⟨_, rfl, ?_⟩
  refine Changes.when ?_ ?_
  · exact Changes.rfl
  · extract_lets x1
    refine Changes.ite ?_ ?_
    · refine Changes.via ?_ (hbmTrained_changes ..) (by decide +kernel)
      subst x1
      refine Changes.ite ?_ ?_
      · refine Changes.via ?_ (repairStack_changes ..) (by decide +kernel)
        exact Changes.rfl
      · exact Changes.rfl
    · refine Changes.via ?_ (hbmUntrained_changes ..) (by decide +kernel)
      subst x1
      refine Changes.ite ?_ ?_
      · refine Changes.via ?_ (repairStack_changes ..) (by decide +kernel)
        exact Changes.rfl
      · exact Changes.rfl
theorem afterPower_changes (pd : Nat) (s : State) : Changes [.draws, .rings, .dev, .tbl, .asa, .upd, .log, .cnt, .pwr, .out] s (afterPower pd s) := by
  unfold afterPower
  refine Changes.ite ?_ ?_
  · extract_lets x1 x2 x3
    refine Changes.set_all (x1) ?_ (fun p hp => by clear_value x1; cases p <;> first | exact absurd (by decide) hp | rfl)
    subst x1
    refine Changes.via ?_ (State.atStep_changes ..) (by decide +kernel)
    exact Changes.rfl
  · refine Changes.ite ?_ ?_
    · extract_lets x4 x5
      refine Changes.set_upd ?_ (by decide)
      subst x4
      refine Changes.via ?_ (State.atStep_changes ..) (by decide +kernel)
      exact Changes.rfl
    · extract_lets x6
      refine Changes.via ?_ (nextStep_changes ..) (by decide +kernel)
      refine Changes.via ?_ (tryCellar_changes ..) (by decide +kernel)
      subst x6
      refine Changes.ite ?_ ?_
      · refine Changes.via ?_ (State.modBank_changes ..) (by decide +kernel)
        exact Changes.rfl
      · exact Changes.rfl

end Sys2Proof.Machine
end

