-- ==== Sys2Proof/Laws/Dev.lean ====
section
/-! SUPPORT. What each operation of Machine/Dev.lean can change. -/

set_option Elab.async false

namespace Sys2Proof.Machine

theorem bodyDevStatus_changes (vi : Nat) (e : Entry) (s : State) : Changes [] s (bodyDevStatus vi e s).st := by
  unfold bodyDevStatus
  extract_lets x1 x2 x3
  refine Changes.read_st ?_
  exact Changes.rfl
theorem leaveCellarSet_changes (s : State) : Changes [.tbl] s (leaveCellarSet s) := by
  unfold leaveCellarSet
  extract_lets x1 x2
  refine Changes.set_tbl ?_ (by with_reducible rfl) (by decide)
  exact Changes.rfl
theorem enterFull_changes (epoch ports : Nat) (s : State) : Changes [.rings, .queue, .dev, .port, .tim, .tbl, .adm, .sch, .insts, .log, .cnt, .out] s (enterFull epoch ports s) := by
  unfold enterFull
  extract_lets x1 x2 x3 x4
  refine Changes.via ?_ (retrainNext_changes ..) (by decide +kernel)
  refine Changes.via ?_ (poolUpkeep_changes ..) (by decide +kernel)
  refine Changes.via ?_ (notify_changes ..) (by decide +kernel)
  subst x4
  refine Changes.via ?_ (toPhase_changes ..) (by decide +kernel)
  refine Changes.set_dev ?_ (by decide)
  subst x1
  refine Changes.via ?_ (leaveCellarSet_changes ..) (by decide +kernel)
  exact Changes.rfl
theorem bodyDevService_changes (vi : Nat) (e : Entry) (s : State) : Changes [.rings, .queue, .dev, .port, .tim, .tbl, .adm, .sch, .insts, .log, .cnt, .out] s (bodyDevService vi e s).st := by
  unfold bodyDevService
  extract_lets x1 x2 x3 x4
  refine Changes.ite_st ?_ ?_
  · refine Changes.via ?_ (argErr_changes ..) (by decide +kernel)
    exact Changes.rfl
  · split
    · refine Changes.err_st ?_
      refine Changes.via ?_ (count_changes ..) (by decide +kernel)
      exact Changes.rfl
    · refine Changes.mk_st ?_
      refine Changes.via ?_ (enterFull_changes ..) (by decide +kernel)
      exact Changes.rfl
theorem execFullServiceBank0Clear_changes (s : State) : ∃ t, execFullServiceBank0Clear s = .next t ∧ Changes [.rings, .dev, .asa, .cnt, .pwr, .out] s t := by
  refine ⟨_, rfl, ?_⟩
  refine Changes.when ?_ ?_
  · exact Changes.rfl
  · extract_lets x1 x2 x3
    refine Changes.via ?_ (asaPower_changes ..) (by decide +kernel)
    refine Changes.ite ?_ ?_
    · refine Changes.via ?_ (State.modBank_changes ..) (by decide +kernel)
      subst x3
      refine Changes.set_all (s) ?_ (fun p hp => by cases p <;> first | exact absurd (by decide) hp | rfl)
      exact Changes.rfl
    · subst x3
      refine Changes.set_all (s) ?_ (fun p hp => by cases p <;> first | exact absurd (by decide) hp | rfl)
      exact Changes.rfl
theorem peerReset_changes (s : State) : Changes [.draws, .rings, .pair, .sec, .log, .cnt, .out] s (peerReset s) := by
  unfold peerReset
  refine Changes.ite ?_ ?_
  · refine Changes.via ?_ (peerDown_changes ..) (by decide +kernel)
    refine Changes.via ?_ (State.modPair_changes ..) (by decide +kernel)
    exact Changes.rfl
  · exact Changes.rfl
theorem blockReset_changes (kind i : Nat) (s : State) : Changes [.draws, .rings, .dev, .port, .tim, .tbl, .mash, .asa, .fab, .rack, .sch, .pair, .sec, .log, .flt, .cnt, .out] s (blockReset kind i s) := by
  unfold blockReset
  extract_lets x1 x2
  split
  · refine Changes.via ?_ (pipeReset_changes ..) (by decide +kernel)
    subst x2
    refine Changes.set_dev ?_ (by decide)
    exact Changes.rfl
  · refine Changes.via ?_ (bankFault_changes ..) (by decide +kernel)
    subst x2
    refine Changes.set_dev ?_ (by decide)
    exact Changes.rfl
  · refine Changes.ite ?_ ?_
    · refine Changes.via ?_ (fabricWindows_changes ..) (by decide +kernel)
      refine Changes.via ?_ (planeLoss_changes ..) (by decide +kernel)
      subst x2
      refine Changes.set_dev ?_ (by decide)
      exact Changes.rfl
    · refine Changes.ite ?_ ?_
      · subst x2
        refine Changes.set_dev ?_ (by decide)
        exact Changes.rfl
      · refine Changes.via ?_ (enterHoldoff_changes ..) (by decide +kernel)
        subst x2
        refine Changes.set_dev ?_ (by decide)
        exact Changes.rfl
  · refine Changes.foldS ?_ (fun _ _ => ?_)
    · subst x2
      refine Changes.set_dev ?_ (by decide)
      exact Changes.rfl
    · refine Changes.via ?_ (portRetrain_changes ..) (by decide +kernel)
      exact Changes.rfl
  · refine Changes.via ?_ (peerReset_changes ..) (by decide +kernel)
    subst x2
    refine Changes.set_dev ?_ (by decide)
    exact Changes.rfl
theorem bodyDevReset_changes (vi : Nat) (e : Entry) (s : State) : Changes [.draws, .rings, .queue, .hif, .dev, .port, .tim, .tbl, .mash, .asa, .fab, .rack, .sch, .pair, .sec, .log, .flt, .cnt, .out] s (bodyDevReset vi e s).st := by
  unfold bodyDevReset
  extract_lets x1 x2 x3 x4 x5
  refine Changes.ite_st ?_ ?_
  · refine Changes.ite_st ?_ ?_
    · refine Changes.via ?_ (argErr_changes ..) (by decide +kernel)
      exact Changes.rfl
    · refine Changes.ite_st ?_ ?_
      · refine Changes.err_st ?_
        exact Changes.rfl
      · refine Changes.ok_st ?_
        refine Changes.via ?_ (blockReset_changes ..) (by decide +kernel)
        exact Changes.rfl
  · refine Changes.ite_st ?_ ?_
    · refine Changes.via ?_ (argErr_changes ..) (by decide +kernel)
      exact Changes.rfl
    · refine Changes.ite_st ?_ ?_
      · refine Changes.ite_st ?_ ?_
        · refine Changes.via ?_ (argErr_changes ..) (by decide +kernel)
          exact Changes.rfl
        · refine Changes.ok_st ?_
          refine Changes.via ?_ (warmRestart_changes ..) (by decide +kernel)
          exact Changes.rfl
      · refine Changes.ite_st ?_ ?_
        · refine Changes.ite_st ?_ ?_
          · refine Changes.via ?_ (argErr_changes ..) (by decide +kernel)
            exact Changes.rfl
          · refine Changes.ok_st ?_
            refine Changes.set_dev ?_ (by decide)
            exact Changes.rfl
        · refine Changes.via ?_ (argErr_changes ..) (by decide +kernel)
          exact Changes.rfl
theorem execBlockResetDone_changes (kind index : Nat) (s : State) : ∃ t, execBlockResetDone kind index s = .next t ∧ Changes [.rings, .dev, .fab, .log, .cnt, .out] s t := by
  refine ⟨_, rfl, ?_⟩
  refine Changes.when ?_ ?_
  · exact Changes.rfl
  · extract_lets x1 x2 x3
    refine Changes.via ?_ (count_changes ..) (by decide +kernel)
    refine Changes.via ?_ (notify_changes ..) (by decide +kernel)
    subst x3
    refine Changes.ite ?_ ?_
    · refine Changes.via ?_ (endWindow_changes ..) (by decide +kernel)
      subst x2
      refine Changes.set_dev ?_ (by decide)
      exact Changes.rfl
    · refine Changes.ite ?_ ?_
      · refine Changes.via ?_ (leaveHoldoff_changes ..) (by decide +kernel)
        subst x2
        refine Changes.set_dev ?_ (by decide)
        exact Changes.rfl
      · subst x2
        refine Changes.set_dev ?_ (by decide)
        exact Changes.rfl
theorem useCellarSet_changes (c : CellarSet) (s : State) : Changes [.dev, .tbl, .asa] s (useCellarSet c s) := by
  unfold useCellarSet
  extract_lets x1
  refine Changes.ite ?_ ?_
  · refine Changes.via ?_ (installCellar_changes ..) (by decide +kernel)
    subst x1
    dsimp -zeta only
    refine Changes.set_all (leaveCellarSet s) ?_ (fun p hp => by cases p <;> first | exact absurd (by decide) hp | rfl)
    refine Changes.via ?_ (leaveCellarSet_changes ..) (by decide +kernel)
    exact Changes.rfl
  · subst x1
    dsimp -zeta only
    refine Changes.set_all (s) ?_ (fun p hp => by cases p <;> first | exact absurd (by decide) hp | rfl)
    exact Changes.rfl
theorem bodyDevSetCellarSet_changes (vi : Nat) (e : Entry) (s : State) : Changes [.rings, .dev, .tbl, .asa, .sec, .cnt, .out] s (bodyDevSetCellarSet vi e s).st := by
  unfold bodyDevSetCellarSet
  extract_lets x1
  refine Changes.ite_st ?_ ?_
  · refine Changes.via ?_ (badReserved_changes ..) (by decide +kernel)
    exact Changes.rfl
  · refine Changes.ite_st ?_ ?_
    · refine Changes.via ?_ (argErr_changes ..) (by decide +kernel)
      exact Changes.rfl
    · refine Changes.ite_st ?_ ?_
      · refine Changes.err_st ?_
        exact Changes.rfl
      · refine Changes.ite_st ?_ ?_
        · refine Changes.via ?_ (badLen_changes ..) (by decide +kernel)
          exact Changes.rfl
        · split
          · refine Changes.err_st ?_
            exact Changes.rfl
          · refine Changes.ite_st ?_ ?_
            · refine Changes.err_st ?_
              exact Changes.rfl
            · split
              · refine Changes.err_st ?_
                exact Changes.rfl
              · refine Changes.storing ?_ ?_ (by decide)
                · exact Changes.rfl
                · refine Changes.ok_st ?_
                  refine Changes.via ?_ (useCellarSet_changes ..) (by decide +kernel)
                  exact Changes.rfl
theorem moduleRefresh_changes (s : State) : Changes [.rings, .port, .tim, .sch, .cnt, .out] s (moduleRefresh s) := by
  unfold moduleRefresh
  refine Changes.foldS ?_ (fun _ _ => ?_)
  · exact Changes.rfl
  · refine Changes.via ?_ (setCause_changes ..) (by decide +kernel)
    exact Changes.rfl
theorem bodyDevSetBoard_changes (vi : Nat) (e : Entry) (s : State) : Changes [.rings, .dev, .port, .tim, .fab, .sch, .sec, .cnt, .out] s (bodyDevSetBoard vi e s).st := by
  unfold bodyDevSetBoard
  extract_lets x1 x2 x3 x4 x5 x6
  refine Changes.ite_st ?_ ?_
  · refine Changes.via ?_ (argErr_changes ..) (by decide +kernel)
    exact Changes.rfl
  · refine Changes.ite_st ?_ ?_
    · refine Changes.via ?_ (badLen_changes ..) (by decide +kernel)
      exact Changes.rfl
    · refine Changes.ite_st ?_ ?_
      · refine Changes.via ?_ (badReserved_changes ..) (by decide +kernel)
        exact Changes.rfl
      · split
        · refine Changes.via ?_ (argErr_changes ..) (by decide +kernel)
          exact Changes.rfl
        · refine Changes.ite_st ?_ ?_
          · refine Changes.err_st ?_
            exact Changes.rfl
          · refine Changes.ite_st ?_ ?_
            · refine Changes.err_st ?_
              exact Changes.rfl
            · extract_lets x7
              refine Changes.storing ?_ ?_ (by decide)
              · exact Changes.rfl
              · refine Changes.ok_st ?_
                refine Changes.via ?_ (moduleRefresh_changes ..) (by decide +kernel)
                refine Changes.via ?_ (startReach_changes ..) (by decide +kernel)
                subst x7
                refine Changes.set_dev ?_ (by decide)
                exact Changes.rfl
theorem execDevStatus_changes (vi : Nat) (io : HostIo) (s : State) : ∃ t, execDevStatus vi io s = .next t ∧ Changes [.rings, .queue, .pair, .cnt, .out] s t :=
  ⟨_, rfl, Changes.weaken (runCommand_changes _ _ _ _ _ (bodyDevStatus_changes vi)) (by decide)⟩
theorem execDevService_changes (vi : Nat) (io : HostIo) (s : State) : ∃ t, execDevService vi io s = .next t ∧ Changes [.rings, .queue, .dev, .port, .tim, .tbl, .adm, .sch, .pair, .insts, .log, .cnt, .out] s t :=
  ⟨_, rfl, Changes.weaken (runCommand_changes _ _ _ _ _ (bodyDevService_changes vi)) (by decide)⟩
theorem execDevReset_changes (vi : Nat) (io : HostIo) (s : State) : ∃ t, execDevReset vi io s = .next t ∧ Changes [.draws, .rings, .queue, .hif, .dev, .port, .tim, .tbl, .mash, .asa, .fab, .rack, .sch, .pair, .sec, .log, .flt, .cnt, .out] s t :=
  ⟨_, rfl, Changes.weaken (runCommand_changes _ _ _ _ _ (bodyDevReset_changes vi)) (by decide)⟩
theorem execDevSetCellarSet_changes (vi : Nat) (io : HostIo) (s : State) : ∃ t, execDevSetCellarSet vi io s = .next t ∧ Changes [.rings, .queue, .dev, .tbl, .asa, .pair, .sec, .cnt, .out] s t :=
  ⟨_, rfl, Changes.weaken (runCommand_changes _ _ _ _ _ (bodyDevSetCellarSet_changes vi)) (by decide)⟩
theorem execDevSetBoard_changes (vi : Nat) (io : HostIo) (s : State) : ∃ t, execDevSetBoard vi io s = .next t ∧ Changes [.rings, .queue, .dev, .port, .tim, .fab, .sch, .pair, .sec, .cnt, .out] s t :=
  ⟨_, rfl, Changes.weaken (runCommand_changes _ _ _ _ _ (bodyDevSetBoard_changes vi)) (by decide)⟩
theorem execBcHeartbeat_changes (s : State) : ∃ t, execBcHeartbeat s = .next t ∧ Changes [.rings, .dev, .cnt, .out] s t := by
  refine ⟨_, rfl, ?_⟩
  refine Changes.when ?_ ?_
  · exact Changes.rfl
  · extract_lets x1 x2 x3
    refine Changes.ite ?_ ?_
    · refine Changes.via ?_ (notify_changes ..) (by decide +kernel)
      subst x3
      refine Changes.set_dev ?_ (by decide)
      exact Changes.rfl
    · subst x3
      refine Changes.set_dev ?_ (by decide)
      exact Changes.rfl
theorem execBcHeartbeatLoss_changes (s : State) : ∃ t, execBcHeartbeatLoss s = .next t ∧ Changes [.rings, .dev, .cnt, .out] s t := by
  refine ⟨_, rfl, ?_⟩
  refine Changes.when ?_ ?_
  · exact Changes.rfl
  · refine Changes.via ?_ (count_changes ..) (by decide +kernel)
    refine Changes.via ?_ (notify_changes ..) (by decide +kernel)
    refine Changes.set_dev ?_ (by decide)
    exact Changes.rfl

end Sys2Proof.Machine
end

