-- ==== Sys2Proof/Laws/Frm.lean ====
section
/-! SUPPORT. What each operation of Machine/Frm.lean can change. -/

set_option Elab.async false

namespace Sys2Proof.Machine

theorem otnPort_some {s : State} {p : Nat} {r : Reply} (h : otnPort s p = some r) : Changes [] s r.st := by
  unfold otnPort at h
  repeat' (split at h)
  all_goals first
    | cases h; exact Changes.rfl
    | cases h
theorem bodyFrmTrib_changes (vi : Nat) (e : Entry) (s : State) : Changes [.rings, .frm, .sec, .cnt, .out] s (bodyFrmTrib vi e s).st := by
  unfold bodyFrmTrib
  extract_lets x1 x2 x3 x4 x5 x6 x7 x8 x9 x10 x11 x12 x13 x14 x15
  split
  · refine Changes.via ?_ (otnPort_some (by assumption)) (by decide)
    exact Changes.rfl
  · refine Changes.ite_st ?_ ?_
    · refine Changes.via ?_ (argErr_changes ..) (by decide +kernel)
      exact Changes.rfl
    · refine Changes.ite_st ?_ ?_
      · refine Changes.ite_st ?_ ?_
        · refine Changes.via ?_ (argErr_changes ..) (by decide +kernel)
          exact Changes.rfl
        · refine Changes.ite_st ?_ ?_
          · refine Changes.err_st ?_
            exact Changes.rfl
          · refine Changes.storing ?_ ?_ (by decide)
            · exact Changes.rfl
            · refine Changes.ok_st ?_
              refine Changes.set_frm ?_ (by decide)
              exact Changes.rfl
      · refine Changes.ite_st ?_ ?_
        · refine Changes.via ?_ (badLen_changes ..) (by decide +kernel)
          exact Changes.rfl
        · refine Changes.ite_st ?_ ?_
          · refine Changes.err_st ?_
            exact Changes.rfl
          · refine Changes.ite_st ?_ ?_
            · refine Changes.via ?_ (argErr_changes ..) (by decide +kernel)
              exact Changes.rfl
            · refine Changes.ite_st ?_ ?_
              · refine Changes.err_st ?_
                exact Changes.rfl
              · refine Changes.ite_st ?_ ?_
                · refine Changes.err_st ?_
                  exact Changes.rfl
                · refine Changes.ite_st ?_ ?_
                  · refine Changes.err_st ?_
                    exact Changes.rfl
                  · refine Changes.ite_st ?_ ?_
                    · refine Changes.err_st ?_
                      exact Changes.rfl
                    · refine Changes.ite_st ?_ ?_
                      · refine Changes.err_st ?_
                        exact Changes.rfl
                      · refine Changes.storing ?_ ?_ (by decide)
                        · exact Changes.rfl
                        · refine Changes.ok_st ?_
                          refine Changes.set_frm ?_ (by decide)
                          exact Changes.rfl
theorem bodyFrmTsiStage_changes (vi : Nat) (e : Entry) (s : State) : Changes [.rings, .frm, .sec, .cnt, .out] s (bodyFrmTsiStage vi e s).st := by
  unfold bodyFrmTsiStage
  extract_lets x1 x2 x3 x4
  split
  · refine Changes.via ?_ (otnPort_some (by assumption)) (by decide)
    exact Changes.rfl
  · refine Changes.ite_st ?_ ?_
    · refine Changes.err_st ?_
      exact Changes.rfl
    · refine Changes.ite_st ?_ ?_
      · refine Changes.via ?_ (badLen_changes ..) (by decide +kernel)
        exact Changes.rfl
      · refine Changes.ite_st ?_ ?_
        · refine Changes.via ?_ (badReserved_changes ..) (by decide +kernel)
          exact Changes.rfl
        · refine Changes.ite_st ?_ ?_
          · refine Changes.via ?_ (argErr_changes ..) (by decide +kernel)
            exact Changes.rfl
          · refine Changes.ite_st ?_ ?_
            · refine Changes.err_st ?_
              exact Changes.rfl
            · refine Changes.storing ?_ ?_ (by decide)
              · exact Changes.rfl
              · refine Changes.ok_st ?_
                refine Changes.set_frm ?_ (by decide)
                exact Changes.rfl
theorem bodyFrmTsiSwap_changes (vi : Nat) (e : Entry) (s : State) : Changes [.frm] s (bodyFrmTsiSwap vi e s).st := by
  unfold bodyFrmTsiSwap
  extract_lets x1 x2 x3
  refine Changes.ite_st ?_ ?_
  · refine Changes.via ?_ (argErr_changes ..) (by decide +kernel)
    exact Changes.rfl
  · refine Changes.ite_st ?_ ?_
    · refine Changes.err_st ?_
      exact Changes.rfl
    · refine Changes.ite_st ?_ ?_
      · refine Changes.err_st ?_
        exact Changes.rfl
      · refine Changes.ite_st ?_ ?_
        · refine Changes.err_st ?_
          exact Changes.rfl
        · refine Changes.mk_st ?_
          refine Changes.set_frm ?_ (by decide)
          exact Changes.rfl
theorem bodyFrmProt_changes (vi : Nat) (e : Entry) (s : State) : Changes [.frm, .sec] s (bodyFrmProt vi e s).st := by
  unfold bodyFrmProt
  extract_lets x1 x2 x3 x4 x5 x6 x7 x8 x9 x10
  refine Changes.ite_st ?_ ?_
  · refine Changes.via ?_ (argErr_changes ..) (by decide +kernel)
    exact Changes.rfl
  · refine Changes.ite_st ?_ ?_
    · refine Changes.ite_st ?_ ?_
      · refine Changes.via ?_ (argErr_changes ..) (by decide +kernel)
        exact Changes.rfl
      · refine Changes.ite_st ?_ ?_
        · refine Changes.err_st ?_
          exact Changes.rfl
        · refine Changes.ite_st ?_ ?_
          · refine Changes.via ?_ (argErr_changes ..) (by decide +kernel)
            exact Changes.rfl
          · refine Changes.storing ?_ ?_ (by decide)
            · exact Changes.rfl
            · refine Changes.ok_st ?_
              subst x9
              refine Changes.via ?_ (protRefresh_changes ..) (by decide +kernel)
              subst x8
              refine Changes.set_frm ?_ (by decide)
              exact Changes.rfl
    · split
      · refine Changes.via ?_ (argErr_changes ..) (by decide +kernel)
        exact Changes.rfl
      · refine Changes.ite_st ?_ ?_
        · refine Changes.storing ?_ ?_ (by decide)
          · exact Changes.rfl
          · refine Changes.ok_st ?_
            refine Changes.set_frm ?_ (by decide)
            exact Changes.rfl
        · refine Changes.ite_st ?_ ?_
          · refine Changes.via ?_ (argErr_changes ..) (by decide +kernel)
            exact Changes.rfl
          · extract_lets x11
            refine Changes.ok_st ?_
            subst x11
            refine Changes.via ?_ (protRefresh_changes ..) (by decide +kernel)
            subst x10
            refine Changes.set_frm ?_ (by decide)
            exact Changes.rfl
theorem bodyFrmOhs_changes (vi : Nat) (e : Entry) (s : State) : Changes [.frm, .sec] s (bodyFrmOhs vi e s).st := by
  unfold bodyFrmOhs
  extract_lets x1 x2 x3 x4 x5
  refine Changes.ite_st ?_ ?_
  · refine Changes.via ?_ (argErr_changes ..) (by decide +kernel)
    exact Changes.rfl
  · refine Changes.ite_st ?_ ?_
    · refine Changes.storing ?_ ?_ (by decide)
      · exact Changes.rfl
      · refine Changes.ok_st ?_
        refine Changes.set_frm ?_ (by decide)
        exact Changes.rfl
    · split
      · refine Changes.via ?_ (otnPort_some (by assumption)) (by decide)
        exact Changes.rfl
      · refine Changes.ite_st ?_ ?_
        · refine Changes.via ?_ (argErr_changes ..) (by decide +kernel)
          exact Changes.rfl
        · refine Changes.storing ?_ ?_ (by decide)
          · exact Changes.rfl
          · refine Changes.ok_st ?_
            refine Changes.set_frm ?_ (by decide)
            exact Changes.rfl
theorem bodyFrmStatus_changes (vi : Nat) (e : Entry) (s : State) : Changes [.rings, .cnt, .out] s (bodyFrmStatus vi e s).st := by
  unfold bodyFrmStatus
  extract_lets x1 x2
  refine Changes.ite_st ?_ ?_
  · refine Changes.via ?_ (argErr_changes ..) (by decide +kernel)
    exact Changes.rfl
  · refine Changes.ite_st ?_ ?_
    · refine Changes.via ?_ (notPermitted_changes ..) (by decide +kernel)
      exact Changes.rfl
    · refine Changes.ite_st ?_ ?_
      · refine Changes.err_st ?_
        exact Changes.rfl
      · refine Changes.read_st ?_
        exact Changes.rfl
theorem execFrmTrib_changes (vi : Nat) (io : HostIo) (s : State) : ∃ t, execFrmTrib vi io s = .next t ∧ Changes [.rings, .queue, .frm, .pair, .sec, .cnt, .out] s t :=
  ⟨_, rfl, Changes.weaken (runCommand_changes _ _ _ _ _ (bodyFrmTrib_changes vi)) (by decide)⟩
theorem execFrmTsiStage_changes (vi : Nat) (io : HostIo) (s : State) : ∃ t, execFrmTsiStage vi io s = .next t ∧ Changes [.rings, .queue, .frm, .pair, .sec, .cnt, .out] s t :=
  ⟨_, rfl, Changes.weaken (runCommand_changes _ _ _ _ _ (bodyFrmTsiStage_changes vi)) (by decide)⟩
theorem execFrmTsiSwap_changes (vi : Nat) (io : HostIo) (s : State) : ∃ t, execFrmTsiSwap vi io s = .next t ∧ Changes [.rings, .queue, .frm, .pair, .cnt, .out] s t :=
  ⟨_, rfl, Changes.weaken (runCommand_changes _ _ _ _ _ (bodyFrmTsiSwap_changes vi)) (by decide)⟩
theorem execFrmProt_changes (vi : Nat) (io : HostIo) (s : State) : ∃ t, execFrmProt vi io s = .next t ∧ Changes [.rings, .queue, .frm, .pair, .sec, .cnt, .out] s t :=
  ⟨_, rfl, Changes.weaken (runCommand_changes _ _ _ _ _ (bodyFrmProt_changes vi)) (by decide)⟩
theorem execFrmOhs_changes (vi : Nat) (io : HostIo) (s : State) : ∃ t, execFrmOhs vi io s = .next t ∧ Changes [.rings, .queue, .frm, .pair, .sec, .cnt, .out] s t :=
  ⟨_, rfl, Changes.weaken (runCommand_changes _ _ _ _ _ (bodyFrmOhs_changes vi)) (by decide)⟩
theorem execFrmStatus_changes (vi : Nat) (io : HostIo) (s : State) : ∃ t, execFrmStatus vi io s = .next t ∧ Changes [.rings, .queue, .pair, .cnt, .out] s t :=
  ⟨_, rfl, Changes.weaken (runCommand_changes _ _ _ _ _ (bodyFrmStatus_changes vi)) (by decide)⟩
theorem execTsiSwapInstant_changes (port : Nat) (s : State) : ∃ t, execTsiSwapInstant port s = .next t ∧ Changes [.rings, .queue, .frm, .sec, .cnt, .out] s t := by
  refine ⟨_, rfl, ?_⟩
  refine Changes.when ?_ ?_
  · exact Changes.rfl
  · extract_lets x1 x2 x3 x4 x5 x6 x7
    refine Changes.ite ?_ ?_
    · subst x5
      refine Changes.via ?_ (tsiChanged_changes ..) (by decide +kernel)
      refine Changes.set_frm ?_ (by decide)
      exact Changes.rfl
    · refine Changes.via ?_ (completeWaiting_changes ..) (by decide +kernel)
      refine Changes.set_frm ?_ (by decide)
      subst x6
      refine Changes.via ?_ (notifyAt_changes ..) (by decide +kernel)
      refine Changes.via ?_ (saveSettings_changes ..) (by decide +kernel)
      subst x5
      refine Changes.via ?_ (tsiChanged_changes ..) (by decide +kernel)
      refine Changes.set_frm ?_ (by decide)
      exact Changes.rfl
theorem execProtHoldoffExpiry_changes (group : Nat) (s : State) : ∃ t, execProtHoldoffExpiry group s = .next t ∧ Changes [.rings, .frm, .cnt, .out] s t := by
  refine ⟨_, rfl, ?_⟩
  refine Changes.when ?_ ?_
  · exact Changes.rfl
  · refine Changes.via ?_ (protSwitch_changes ..) (by decide +kernel)
    exact Changes.rfl
theorem execWaitToRestoreExpiry_changes (group : Nat) (s : State) : ∃ t, execWaitToRestoreExpiry group s = .next t ∧ Changes [.rings, .frm, .cnt, .out] s t := by
  refine ⟨_, rfl, ?_⟩
  refine Changes.when ?_ ?_
  · exact Changes.rfl
  · refine Changes.via ?_ (protSwitch_changes ..) (by decide +kernel)
    refine Changes.set_frm ?_ (by decide)
    exact Changes.rfl
theorem execTsiSlip_changes (port trib : Nat) (deleted : Bool) (s : State) : ∃ t, execTsiSlip port trib deleted s = .next t ∧ Changes [.rings, .frm, .cnt, .out] s t := by
  refine ⟨_, rfl, ?_⟩
  refine Changes.when ?_ ?_
  · exact Changes.rfl
  · extract_lets x1 x2
    dsimp only
    refine Changes.ite ?_ ?_
    · refine Changes.via ?_ (notify_changes ..) (by decide +kernel)
      refine Changes.set_frm ?_ (by decide)
      subst x1
      refine Changes.via ?_ (count_changes ..) (by decide +kernel)
      refine Changes.via ?_ (State.emit_changes ..) (by decide +kernel)
      exact Changes.rfl
    · refine Changes.set_frm ?_ (by decide)
      subst x1
      refine Changes.via ?_ (count_changes ..) (by decide +kernel)
      refine Changes.via ?_ (State.emit_changes ..) (by decide +kernel)
      exact Changes.rfl
theorem execOhsFrame_changes (ohs mfas : Nat) (line inserted : List Byte) (need : Nat) (s : State) : ∃ t, execOhsFrame ohs mfas line inserted need s = .next t ∧ Changes [.rings, .frm, .cnt, .out] s t := by
  refine ⟨_, rfl, ?_⟩
  split
  · exact Changes.rfl
  · refine Changes.when ?_ ?_
    · exact Changes.rfl
    · extract_lets x1 x2 x3 x4 x5 x6 x7
      refine Changes.ite ?_ ?_
      · refine Changes.ite ?_ ?_
        · refine Changes.via ?_ (count_changes ..) (by decide +kernel)
          subst x7
          refine Changes.via ?_ (State.emit_changes ..) (by decide +kernel)
          subst x5
          refine Changes.ite ?_ ?_
          · refine Changes.via ?_ (State.emit_changes ..) (by decide +kernel)
            subst x4
            refine Changes.set_frm ?_ (by decide)
            exact Changes.rfl
          · subst x4
            refine Changes.set_frm ?_ (by decide)
            exact Changes.rfl
        · subst x7
          refine Changes.via ?_ (State.emit_changes ..) (by decide +kernel)
          subst x5
          refine Changes.ite ?_ ?_
          · refine Changes.via ?_ (State.emit_changes ..) (by decide +kernel)
            subst x4
            refine Changes.set_frm ?_ (by decide)
            exact Changes.rfl
          · subst x4
            refine Changes.set_frm ?_ (by decide)
            exact Changes.rfl
      · subst x5
        refine Changes.ite ?_ ?_
        · refine Changes.via ?_ (State.emit_changes ..) (by decide +kernel)
          subst x4
          refine Changes.set_frm ?_ (by decide)
          exact Changes.rfl
        · subst x4
          refine Changes.set_frm ?_ (by decide)
          exact Changes.rfl

end Sys2Proof.Machine
end

