-- ==== Sys2Proof/Laws/Sch.lean ====
section
/-! SUPPORT. What each operation of Machine/Sch.lean can change. -/

set_option Elab.async false

namespace Sys2Proof.Machine

theorem schRange_changes (s : State) : Changes [] s (schRange s).st := by
  unfold schRange
  refine Changes.err_st ?_
  exact Changes.rfl
theorem bodySchNode_changes (vi : Nat) (e : Entry) (s : State) : Changes [.rings, .sch, .sec, .cnt, .out] s (bodySchNode vi e s).st := by
  unfold bodySchNode
  extract_lets x1 x2 x3
  refine Changes.ite_st ?_ ?_
  · refine Changes.via ?_ (badLen_changes ..) (by decide +kernel)
    exact Changes.rfl
  · split
    · refine Changes.err_st ?_
      exact Changes.rfl
    · extract_lets x4
      refine Changes.storing ?_ ?_ (by decide)
      · exact Changes.rfl
      · refine Changes.ok_st ?_
        refine Changes.foldS ?_ (fun _ _ => ?_)
        · subst x4
          refine Changes.set_sch ?_ (by decide)
          exact Changes.rfl
        · refine Changes.via ?_ (placeLimbo_changes ..) (by decide +kernel)
          exact Changes.rfl
theorem bodySchQmap_changes (vi : Nat) (e : Entry) (s : State) : Changes [.rings, .sch, .sec, .cnt, .out] s (bodySchQmap vi e s).st := by
  unfold bodySchQmap
  extract_lets x1 x2 x3 x4 x5
  refine Changes.ite_st ?_ ?_
  · refine Changes.via ?_ (badLen_changes ..) (by decide +kernel)
    exact Changes.rfl
  · split
    · refine Changes.err_st ?_
      exact Changes.rfl
    · refine Changes.storing ?_ ?_ (by decide)
      · exact Changes.rfl
      · refine Changes.ok_st ?_
        refine Changes.set_sch ?_ (by decide)
        exact Changes.rfl
theorem bodySchSetShaper_changes (vi : Nat) (e : Entry) (s : State) : Changes [.sch, .sec] s (bodySchSetShaper vi e s).st := by
  unfold bodySchSetShaper
  extract_lets x1 x2 x3 x4 x5 x6 x7 x8 x9
  refine Changes.ite_st ?_ ?_
  · refine Changes.via ?_ (schRange_changes ..) (by decide +kernel)
    exact Changes.rfl
  · refine Changes.ite_st ?_ ?_
    · refine Changes.ite_st ?_ ?_
      · refine Changes.err_st ?_
        exact Changes.rfl
      · refine Changes.ite_st ?_ ?_
        · refine Changes.err_st ?_
          exact Changes.rfl
        · refine Changes.storing ?_ ?_ (by decide)
          · exact Changes.rfl
          · refine Changes.ok_st ?_
            refine Changes.set_sch ?_ (by decide)
            exact Changes.rfl
    · refine Changes.ite_st ?_ ?_
      · refine Changes.via ?_ (schRange_changes ..) (by decide +kernel)
        exact Changes.rfl
      · refine Changes.ite_st ?_ ?_
        · refine Changes.storing ?_ ?_ (by decide)
          · exact Changes.rfl
          · refine Changes.ok_st ?_
            refine Changes.set_sch ?_ (by decide)
            exact Changes.rfl
        · refine Changes.storing ?_ ?_ (by decide)
          · exact Changes.rfl
          · refine Changes.ok_st ?_
            refine Changes.set_sch ?_ (by decide)
            exact Changes.rfl
theorem shaperRefill_changes (h : Nat) (x : ShaperSt) (s : State) : Changes [.sch] s (shaperRefill h x s) := by
  unfold shaperRefill
  extract_lets x1 x2 x3
  dsimp only
  refine Changes.set_sch ?_ (by decide)
  exact Changes.rfl
theorem bodySchSetPolicer_changes (vi : Nat) (e : Entry) (s : State) : Changes [.rings, .sch, .sec, .cnt, .out] s (bodySchSetPolicer vi e s).st := by
  unfold bodySchSetPolicer
  extract_lets x1 x2 x3 x4 x5 x6 x7 x8
  refine Changes.ite_st ?_ ?_
  · refine Changes.via ?_ (schRange_changes ..) (by decide +kernel)
    exact Changes.rfl
  · refine Changes.ite_st ?_ ?_
    · refine Changes.via ?_ (notPermitted_changes ..) (by decide +kernel)
      exact Changes.rfl
    · refine Changes.ite_st ?_ ?_
      · refine Changes.ite_st ?_ ?_
        · refine Changes.via ?_ (schRange_changes ..) (by decide +kernel)
          exact Changes.rfl
        · refine Changes.storing ?_ ?_ (by decide)
          · exact Changes.rfl
          · refine Changes.ok_st ?_
            refine Changes.via ?_ (setPolicer_changes ..) (by decide +kernel)
            exact Changes.rfl
      · refine Changes.ite_st ?_ ?_
        · refine Changes.storing ?_ ?_ (by decide)
          · exact Changes.rfl
          · refine Changes.ok_st ?_
            refine Changes.set_sch ?_ (by decide)
            exact Changes.rfl
        · refine Changes.ite_st ?_ ?_
          · refine Changes.via ?_ (badLen_changes ..) (by decide +kernel)
            exact Changes.rfl
          · refine Changes.mk_st ?_
            subst x8
            refine Changes.ite ?_ ?_
            · refine Changes.foldl _ (fun _ _ => ?_) _ _ ?_
              · refine Changes.set_cnt ?_ (by decide)
                exact Changes.rfl
              · exact Changes.rfl
            · exact Changes.rfl
theorem bodySchGateList_changes (vi : Nat) (e : Entry) (s : State) : Changes [.rings, .sch, .sec, .cnt, .out] s (bodySchGateList vi e s).st := by
  unfold bodySchGateList
  extract_lets x1 x2 x3 x4 x5 x6 x7 x8 x9 x10 x11 x12 x13 x14 x15 x16 x17 x18
  refine Changes.ite_st ?_ ?_
  · refine Changes.via ?_ (schRange_changes ..) (by decide +kernel)
    exact Changes.rfl
  · refine Changes.ite_st ?_ ?_
    · refine Changes.err_st ?_
      exact Changes.rfl
    · refine Changes.ite_st ?_ ?_
      · refine Changes.via ?_ (schRange_changes ..) (by decide +kernel)
        exact Changes.rfl
      · refine Changes.ite_st ?_ ?_
        · refine Changes.err_st ?_
          exact Changes.rfl
        · refine Changes.ite_st ?_ ?_
          · refine Changes.storing ?_ ?_ (by decide)
            · exact Changes.rfl
            · refine Changes.ok_st ?_
              refine Changes.set_sch ?_ (by decide)
              subst x13
              refine Changes.via ?_ (State.modEport_changes ..) (by decide +kernel)
              exact Changes.rfl
          · refine Changes.ite_st ?_ ?_
            · refine Changes.via ?_ (schRange_changes ..) (by decide +kernel)
              exact Changes.rfl
            · refine Changes.ite_st ?_ ?_
              · refine Changes.via ?_ (badLen_changes ..) (by decide +kernel)
                exact Changes.rfl
              · refine Changes.ite_st ?_ ?_
                · refine Changes.via ?_ (badReserved_changes ..) (by decide +kernel)
                  exact Changes.rfl
                · refine Changes.ite_st ?_ ?_
                  · refine Changes.via ?_ (schRange_changes ..) (by decide +kernel)
                    exact Changes.rfl
                  · refine Changes.ite_st ?_ ?_
                    · refine Changes.err_st ?_
                      exact Changes.rfl
                    · refine Changes.ite_st ?_ ?_
                      · refine Changes.err_st ?_
                        exact Changes.rfl
                      · refine Changes.storing ?_ ?_ (by decide)
                        · exact Changes.rfl
                        · refine Changes.ok_st ?_
                          refine Changes.set_sch ?_ (by decide)
                          subst x16
                          refine Changes.via ?_ (State.modEport_changes ..) (by decide +kernel)
                          exact Changes.rfl
theorem bodySchPort_changes (vi : Nat) (e : Entry) (s : State) : Changes [.sch, .sec] s (bodySchPort vi e s).st := by
  unfold bodySchPort
  extract_lets x1 x2 x3 x4 x5 x6 x7 x8 x9 x10
  refine Changes.ite_st ?_ ?_
  · refine Changes.via ?_ (schRange_changes ..) (by decide +kernel)
    exact Changes.rfl
  · refine Changes.ite_st ?_ ?_
    · refine Changes.err_st ?_
      exact Changes.rfl
    · refine Changes.ite_st ?_ ?_
      · refine Changes.err_st ?_
        exact Changes.rfl
      · refine Changes.storing ?_ ?_ (by decide)
        · exact Changes.rfl
        · refine Changes.ok_st ?_
          refine Changes.set_sch ?_ (by decide)
          exact Changes.rfl
theorem bodySchRemark_changes (vi : Nat) (e : Entry) (s : State) : Changes [.sch, .sec] s (bodySchRemark vi e s).st := by
  unfold bodySchRemark
  extract_lets x1 x2 x3 x4
  refine Changes.ite_st ?_ ?_
  · refine Changes.via ?_ (schRange_changes ..) (by decide +kernel)
    exact Changes.rfl
  · refine Changes.storing ?_ ?_ (by decide)
    · exact Changes.rfl
    · refine Changes.ok_st ?_
      refine Changes.set_sch ?_ (by decide)
      exact Changes.rfl
theorem flushQueues_changes (p : Nat) (qs : List Nat) (s : State) : Changes [.draws, .rings, .tbl, .fab, .sch, .pair, .flt, .cnt, .out] s (flushQueues p qs s).1 := by
  unfold flushQueues
  extract_lets x1 x2 x3
  refine Changes.pair_fst ?_
  refine Changes.ite ?_ ?_
  · subst x3
    refine Changes.foldS ?_ (fun _ _ => ?_)
    · subst x2
      refine Changes.foldS ?_ (fun _ _ => ?_)
      · exact Changes.rfl
      · refine Changes.via ?_ (State.setQueue_changes ..) (by decide +kernel)
        exact Changes.rfl
    · refine Changes.via ?_ (releaseRef_changes ..) (by decide +kernel)
      refine Changes.via ?_ (markGone_changes ..) (by decide +kernel)
      exact Changes.rfl
  · refine Changes.via ?_ (count_changes ..) (by decide +kernel)
    subst x3
    refine Changes.foldS ?_ (fun _ _ => ?_)
    · subst x2
      refine Changes.foldS ?_ (fun _ _ => ?_)
      · exact Changes.rfl
      · refine Changes.via ?_ (State.setQueue_changes ..) (by decide +kernel)
        exact Changes.rfl
    · refine Changes.via ?_ (releaseRef_changes ..) (by decide +kernel)
      refine Changes.via ?_ (markGone_changes ..) (by decide +kernel)
      exact Changes.rfl
theorem bodySchFlush_changes (vi : Nat) (e : Entry) (s : State) : Changes [.draws, .rings, .tbl, .fab, .sch, .pair, .flt, .cnt, .out] s (bodySchFlush vi e s).st := by
  unfold bodySchFlush
  extract_lets x1 x2
  refine Changes.ite_st ?_ ?_
  · refine Changes.via ?_ (schRange_changes ..) (by decide +kernel)
    exact Changes.rfl
  · refine Changes.ite_st ?_ ?_
    · split
      · refine Changes.via ?_ (schRange_changes ..) (by decide +kernel)
        exact Changes.rfl
      · refine Changes.ite_st ?_ ?_
        · refine Changes.via ?_ (notPermitted_changes ..) (by decide +kernel)
          exact Changes.rfl
        · dsimp only
          refine Changes.ok_st ?_
          refine Changes.foldS ?_ (fun _ _ => ?_)
          · refine Changes.via ?_ (flushQueues_changes ..) (by decide +kernel)
            exact Changes.rfl
          · refine Changes.via ?_ (returnCheck_changes ..) (by decide +kernel)
            exact Changes.rfl
    · refine Changes.ite_st ?_ ?_
      · refine Changes.via ?_ (schRange_changes ..) (by decide +kernel)
        exact Changes.rfl
      · refine Changes.ite_st ?_ ?_
        · refine Changes.via ?_ (notPermitted_changes ..) (by decide +kernel)
          exact Changes.rfl
        · dsimp only
          refine Changes.ok_st ?_
          refine Changes.foldS ?_ (fun _ _ => ?_)
          · refine Changes.via ?_ (flushQueues_changes ..) (by decide +kernel)
            exact Changes.rfl
          · refine Changes.via ?_ (returnCheck_changes ..) (by decide +kernel)
            exact Changes.rfl
theorem bodySchStatus_changes (vi : Nat) (e : Entry) (s : State) : Changes [.rings, .cnt, .out] s (bodySchStatus vi e s).st := by
  unfold bodySchStatus
  extract_lets x1 x2 x3 x4
  refine Changes.ite_st ?_ ?_
  · refine Changes.via ?_ (schRange_changes ..) (by decide +kernel)
    exact Changes.rfl
  · refine Changes.ite_st ?_ ?_
    · refine Changes.via ?_ (notPermitted_changes ..) (by decide +kernel)
      exact Changes.rfl
    · refine Changes.read_st ?_
      exact Changes.rfl
theorem execSchNode_changes (vi : Nat) (io : HostIo) (s : State) : ∃ t, execSchNode vi io s = .next t ∧ Changes [.rings, .queue, .sch, .pair, .sec, .cnt, .out] s t :=
  ⟨_, rfl, Changes.weaken (runCommand_changes _ _ _ _ _ (bodySchNode_changes vi)) (by decide)⟩
theorem execSchQmap_changes (vi : Nat) (io : HostIo) (s : State) : ∃ t, execSchQmap vi io s = .next t ∧ Changes [.rings, .queue, .sch, .pair, .sec, .cnt, .out] s t :=
  ⟨_, rfl, Changes.weaken (runCommand_changes _ _ _ _ _ (bodySchQmap_changes vi)) (by decide)⟩
theorem execSchSetShaper_changes (vi : Nat) (io : HostIo) (s : State) : ∃ t, execSchSetShaper vi io s = .next t ∧ Changes [.rings, .queue, .sch, .pair, .sec, .cnt, .out] s t :=
  ⟨_, rfl, Changes.weaken (runCommand_changes _ _ _ _ _ (bodySchSetShaper_changes vi)) (by decide)⟩
theorem execSchSetPolicer_changes (vi : Nat) (io : HostIo) (s : State) : ∃ t, execSchSetPolicer vi io s = .next t ∧ Changes [.rings, .queue, .sch, .pair, .sec, .cnt, .out] s t :=
  ⟨_, rfl, Changes.weaken (runCommand_changes _ _ _ _ _ (bodySchSetPolicer_changes vi)) (by decide)⟩
theorem execSchGateList_changes (vi : Nat) (io : HostIo) (s : State) : ∃ t, execSchGateList vi io s = .next t ∧ Changes [.rings, .queue, .sch, .pair, .sec, .cnt, .out] s t :=
  ⟨_, rfl, Changes.weaken (runCommand_changes _ _ _ _ _ (bodySchGateList_changes vi)) (by decide)⟩
theorem execSchPort_changes (vi : Nat) (io : HostIo) (s : State) : ∃ t, execSchPort vi io s = .next t ∧ Changes [.rings, .queue, .sch, .pair, .sec, .cnt, .out] s t :=
  ⟨_, rfl, Changes.weaken (runCommand_changes _ _ _ _ _ (bodySchPort_changes vi)) (by decide)⟩
theorem execSchRemark_changes (vi : Nat) (io : HostIo) (s : State) : ∃ t, execSchRemark vi io s = .next t ∧ Changes [.rings, .queue, .sch, .pair, .sec, .cnt, .out] s t :=
  ⟨_, rfl, Changes.weaken (runCommand_changes _ _ _ _ _ (bodySchRemark_changes vi)) (by decide)⟩
theorem execSchFlush_changes (vi : Nat) (io : HostIo) (s : State) : ∃ t, execSchFlush vi io s = .next t ∧ Changes [.draws, .rings, .queue, .tbl, .fab, .sch, .pair, .flt, .cnt, .out] s t :=
  ⟨_, rfl, Changes.weaken (runCommand_changes _ _ _ _ _ (bodySchFlush_changes vi)) (by decide)⟩
theorem execSchStatus_changes (vi : Nat) (io : HostIo) (s : State) : ∃ t, execSchStatus vi io s = .next t ∧ Changes [.rings, .queue, .pair, .cnt, .out] s t :=
  ⟨_, rfl, Changes.weaken (runCommand_changes _ _ _ _ _ (bodySchStatus_changes vi)) (by decide)⟩
theorem execSchedulerSelect_changes (port : Nat) (s : State) : ∃ t, execSchedulerSelect port s = .next t ∧ Changes [.rings, .sch, .cnt, .out] s t := by
  refine ⟨_, rfl, ?_⟩
  refine Changes.when ?_ ?_
  · exact Changes.rfl
  · extract_lets x1
    split
    · subst x1
      refine Changes.via ?_ (drrUpkeep_changes ..) (by decide +kernel)
      exact Changes.rfl
    · refine Changes.via ?_ (applyPick_changes ..) (by decide +kernel)
      subst x1
      refine Changes.via ?_ (drrUpkeep_changes ..) (by decide +kernel)
      exact Changes.rfl
theorem execShaperRefill_changes (shaper : Nat) (s : State) : ∃ t, execShaperRefill shaper s = .next t ∧ Changes [.sch] s t := by
  refine ⟨_, rfl, ?_⟩
  split
  · exact Changes.rfl
  · refine Changes.when ?_ ?_
    · exact Changes.rfl
    · refine Changes.via ?_ (shaperRefill_changes ..) (by decide +kernel)
      exact Changes.rfl
theorem execGateListStart_changes (port : Nat) (s : State) : ∃ t, execGateListStart port s = .next t ∧ Changes [.rings, .sch, .cnt, .out] s t := by
  refine ⟨_, rfl, ?_⟩
  split
  · exact Changes.rfl
  · refine Changes.when ?_ ?_
    · exact Changes.rfl
    · extract_lets x1
      refine Changes.ite ?_ ?_
      · refine Changes.via ?_ (notify_changes ..) (by decide +kernel)
        subst x1
        refine Changes.via ?_ (State.modEport_changes ..) (by decide +kernel)
        exact Changes.rfl
      · subst x1
        refine Changes.via ?_ (State.modEport_changes ..) (by decide +kernel)
        exact Changes.rfl
theorem execGateEntryEnd_changes (port : Nat) (s : State) : ∃ t, execGateEntryEnd port s = .next t ∧ Changes [.sch] s t := by
  refine ⟨_, rfl, ?_⟩
  split
  · exact Changes.rfl
  · refine Changes.when ?_ ?_
    · exact Changes.rfl
    · refine Changes.via ?_ (State.modEport_changes ..) (by decide +kernel)
      exact Changes.rfl
theorem takeQueues_changes (p : Nat) (s : State) : Changes [.sch] s (takeQueues p s).1 := by
  unfold takeQueues
  extract_lets x1 x2 x3
  refine Changes.pair_fst ?_
  refine Changes.via ?_ (State.modEport_changes ..) (by decide +kernel)
  refine Changes.foldS ?_ (fun _ _ => ?_)
  · exact Changes.rfl
  · refine Changes.via ?_ (State.setQueue_changes ..) (by decide +kernel)
    exact Changes.rfl
theorem holdDeadline_changes (p : Nat) (s : State) : Changes [.draws, .rings, .tbl, .fab, .sch, .pair, .flt, .cnt, .out] s (holdDeadline p s) := by
  unfold holdDeadline
  dsimp only
  refine Changes.foldS ?_ (fun _ _ => ?_)
  · split
    · refine Changes.via ?_ (notify_changes ..) (by decide +kernel)
      refine Changes.via ?_ (State.modEport_changes ..) (by decide +kernel)
      refine Changes.via ?_ (holdFlushed_changes ..) (by decide +kernel)
      refine Changes.foldS ?_ (fun _ _ => ?_)
      · refine Changes.via ?_ (takeQueues_changes ..) (by decide +kernel)
        exact Changes.rfl
      · refine Changes.via ?_ (rehomeTo_changes ..) (by decide +kernel)
        exact Changes.rfl
    · refine Changes.via ?_ (notify_changes ..) (by decide +kernel)
      refine Changes.via ?_ (State.modEport_changes ..) (by decide +kernel)
      refine Changes.via ?_ (holdFlushed_changes ..) (by decide +kernel)
      refine Changes.via ?_ (takeQueues_changes ..) (by decide +kernel)
      exact Changes.rfl
  · refine Changes.via ?_ (returnCheck_changes ..) (by decide +kernel)
    exact Changes.rfl
theorem execHoldDeadline_changes (port : Nat) (s : State) : ∃ t, execHoldDeadline port s = .next t ∧ Changes [.draws, .rings, .dev, .port, .tim, .tbl, .fab, .sch, .pair, .flt, .cnt, .out] s t := by
  refine ⟨_, rfl, ?_⟩
  refine Changes.when ?_ ?_
  · exact Changes.rfl
  · refine Changes.via ?_ (retrainDone_changes ..) (by decide +kernel)
    refine Changes.via ?_ (holdDeadline_changes ..) (by decide +kernel)
    exact Changes.rfl

end Sys2Proof.Machine
end

