-- ==== Sys2Proof/Laws/LineRx.lean ====
section
/-! SUPPORT. What each operation of Machine/LineRx.lean can change. -/

set_option Elab.async false

namespace Sys2Proof.Machine

theorem pfcReceive_changes (p : Nat) (quanta : List (Option Nat)) (s : State) : Changes [.rings, .port, .cnt, .out] s (pfcReceive p quanta s) := by
  unfold pfcReceive
  refine Changes.foldS ?_ (fun _ _ => ?_)
  · exact Changes.rfl
  · split
    · exact Changes.rfl
    · refine Changes.via ?_ (State.modPort_changes ..) (by decide +kernel)
      exact Changes.rfl
    · refine Changes.via ?_ (count_changes ..) (by decide +kernel)
      refine Changes.via ?_ (State.modPort_changes ..) (by decide +kernel)
      exact Changes.rfl
theorem execPfcFrameReceive_changes (port : Nat) (quanta : List (Option Nat)) (s : State) : ∃ t, execPfcFrameReceive port quanta s = .next t ∧ Changes [.rings, .port, .cnt, .out] s t := by
  refine ⟨_, rfl, ?_⟩
  refine Changes.when ?_ ?_
  · exact Changes.rfl
  · refine Changes.via ?_ (pfcReceive_changes ..) (by decide +kernel)
    exact Changes.rfl
theorem execPfcPauseExpiry_changes (port tc : Nat) (s : State) : ∃ t, execPfcPauseExpiry port tc s = .next t ∧ Changes [.port] s t := by
  refine ⟨_, rfl, ?_⟩
  split
  · exact Changes.rfl
  · refine Changes.when ?_ ?_
    · exact Changes.rfl
    · refine Changes.via ?_ (State.modPort_changes ..) (by decide +kernel)
      exact Changes.rfl
theorem execPfcXoffRepeat_changes (port tc : Nat) (s : State) : ∃ t, execPfcXoffRepeat port tc s = .next t ∧ Changes [.port, .out] s t := by
  refine ⟨_, rfl, ?_⟩
  split
  · exact Changes.rfl
  · refine Changes.when ?_ ?_
    · exact Changes.rfl
    · refine Changes.via ?_ (pfcFrame_changes ..) (by decide +kernel)
      refine Changes.via ?_ (State.modPort_changes ..) (by decide +kernel)
      exact Changes.rfl
theorem macsecRx_changes (p : Nat) (b : List Byte) (s : State) : Changes [.rings, .port, .cnt, .out] s (macsecRx p b s).2 := by
  unfold macsecRx
  extract_lets x1
  refine Changes.ite_snd ?_ ?_
  · refine Changes.pair_snd ?_
    exact Changes.rfl
  · refine Changes.ite_snd ?_ ?_
    · refine Changes.ite_snd ?_ ?_
      · refine Changes.pair_snd ?_
        refine Changes.via ?_ (count_changes ..) (by decide +kernel)
        exact Changes.rfl
      · refine Changes.pair_snd ?_
        exact Changes.rfl
    · split
      · refine Changes.pair_snd ?_
        refine Changes.via ?_ (count_changes ..) (by decide +kernel)
        exact Changes.rfl
      · refine Changes.ite_snd ?_ ?_
        · refine Changes.pair_snd ?_
          refine Changes.via ?_ (count_changes ..) (by decide +kernel)
          exact Changes.rfl
        · extract_lets x2
          split
          · refine Changes.pair_snd ?_
            refine Changes.via ?_ (count_changes ..) (by decide +kernel)
            exact Changes.rfl
          · extract_lets x3 x4
            refine Changes.ite_snd ?_ ?_
            · refine Changes.pair_snd ?_
              refine Changes.via ?_ (count_changes ..) (by decide +kernel)
              exact Changes.rfl
            · refine Changes.ite_snd ?_ ?_
              · refine Changes.pair_snd ?_
                refine Changes.via ?_ (count_changes ..) (by decide +kernel)
                exact Changes.rfl
              · split
                · refine Changes.ite_snd ?_ ?_
                  · refine Changes.pair_snd ?_
                    refine Changes.via ?_ (count_changes ..) (by decide +kernel)
                    exact Changes.rfl
                  · refine Changes.pair_snd ?_
                    refine Changes.via ?_ (count_changes ..) (by decide +kernel)
                    exact Changes.rfl
                · refine Changes.pair_snd ?_
                  refine Changes.via ?_ (State.modPort_changes ..) (by decide +kernel)
                  exact Changes.rfl
theorem macNone_changes (k : Pkt) (s : State) : Changes [.rings, .tbl, .mash, .sch, .pair, .cnt, .out] s (macNone k s) := by
  unfold macNone
  split
  · exact Changes.rfl
  · refine Changes.via ?_ (issueFrom_changes ..) (by decide +kernel)
    refine Changes.via ?_ (State.modMash_changes ..) (by decide +kernel)
    exact Changes.rfl
theorem toMill_changes (k : Pkt) (s : State) : Changes [.mash] s (toMill k s) := by
  unfold toMill
  refine Changes.via ?_ (State.modMash_changes ..) (by decide +kernel)
  exact Changes.rfl
theorem takeArrival_changes (p : Nat) (s : State) : Changes [.port] s (takeArrival p s).2 := by
  unfold takeArrival
  refine Changes.ite_snd ?_ ?_
  · refine Changes.pair_snd ?_
    refine Changes.via ?_ (State.modPort_changes ..) (by decide +kernel)
    exact Changes.rfl
  · refine Changes.pair_snd ?_
    exact Changes.rfl
theorem logArrival_changes (p a : Nat) (jcrc : Word) (len : Nat) (s : State) : Changes [.draws, .pair, .out] s (logArrival p a jcrc len s) := by
  unfold logArrival
  extract_lets x1 x2 x3 x4 x5 x6
  refine Changes.ite ?_ ?_
  · refine Changes.via ?_ (State.emit_changes ..) (by decide +kernel)
    subst x6
    refine Changes.via ?_ (State.modPpair_changes ..) (by decide +kernel)
    refine Changes.via ?_ (State.drawn_changes ..) (by decide +kernel)
    subst x1
    refine Changes.via ?_ (State.modPpair_changes ..) (by decide +kernel)
    exact Changes.rfl
  · subst x1
    refine Changes.via ?_ (State.modPpair_changes ..) (by decide +kernel)
    exact Changes.rfl
theorem fcsFailed_changes (p : Nat) (s : State) : Changes [.draws, .rings, .cnt, .out] s (fcsFailed p s) := by
  unfold fcsFailed
  extract_lets x1 x2
  refine Changes.ite ?_ ?_
  · refine Changes.via ?_ (count_changes ..) (by decide +kernel)
    subst x2
    refine Changes.via ?_ (count_changes ..) (by decide +kernel)
    refine Changes.via ?_ (State.drawn_changes ..) (by decide +kernel)
    exact Changes.rfl
  · subst x2
    refine Changes.via ?_ (count_changes ..) (by decide +kernel)
    refine Changes.via ?_ (State.drawn_changes ..) (by decide +kernel)
    exact Changes.rfl
theorem frameOn_changes (k : Pkt) (hit : Bool) (s : State) : Changes [.draws, .rings, .port, .mash, .log, .cnt, .out] s (frameOn k hit s) := by
  unfold frameOn
  extract_lets x1
  refine Changes.ite ?_ ?_
  · refine Changes.via ?_ (toMill_changes ..) (by decide +kernel)
    refine Changes.via ?_ (fcsFailed_changes ..) (by decide +kernel)
    exact Changes.rfl
  · refine Changes.ite ?_ ?_
    · refine Changes.via ?_ (discardUnder_changes ..) (by decide +kernel)
      refine Changes.via ?_ (openFault_changes ..) (by decide +kernel)
      exact Changes.rfl
    · split
      · refine Changes.of_pair (by assumption) ?_
        refine Changes.via ?_ (macsecRx_changes ..) (by decide +kernel)
        exact Changes.rfl
      · refine Changes.via ?_ (toMill_changes ..) (by decide +kernel)
        refine Changes.of_pair (by assumption) ?_
        refine Changes.via ?_ (macsecRx_changes ..) (by decide +kernel)
        exact Changes.rfl
theorem frameIn_changes (p : Nat) (bytes : List Byte) (fcsOk : Bool) (s : State) : Changes [.draws, .rings, .port, .tbl, .mash, .sch, .pair, .log, .flt, .cnt, .out] s (frameIn p bytes fcsOk s) := by
  unfold frameIn
  extract_lets x1 x2
  dsimp only
  refine Changes.ite ?_ ?_
  · refine Changes.via ?_ (count_changes ..) (by decide +kernel)
    refine Changes.ite ?_ ?_
    · refine Changes.via ?_ (State.drawn_changes ..) (by decide +kernel)
      refine Changes.via ?_ (takeArmed_changes ..) (by decide +kernel)
      refine Changes.via ?_ (State.drawn_changes ..) (by decide +kernel)
      split
      · refine Changes.via ?_ (logArrival_changes ..) (by decide +kernel)
        refine Changes.via ?_ (takeArrival_changes ..) (by decide +kernel)
        subst x1
        refine Changes.via ?_ (meterRx_changes ..) (by decide +kernel)
        refine Changes.via ?_ (count_changes ..) (by decide +kernel)
        refine Changes.via ?_ (count_changes ..) (by decide +kernel)
        exact Changes.rfl
      · refine Changes.via ?_ (takeArrival_changes ..) (by decide +kernel)
        subst x1
        refine Changes.via ?_ (meterRx_changes ..) (by decide +kernel)
        refine Changes.via ?_ (count_changes ..) (by decide +kernel)
        refine Changes.via ?_ (count_changes ..) (by decide +kernel)
        exact Changes.rfl
    · refine Changes.via ?_ (takeArmed_changes ..) (by decide +kernel)
      refine Changes.via ?_ (State.drawn_changes ..) (by decide +kernel)
      split
      · refine Changes.via ?_ (logArrival_changes ..) (by decide +kernel)
        refine Changes.via ?_ (takeArrival_changes ..) (by decide +kernel)
        subst x1
        refine Changes.via ?_ (meterRx_changes ..) (by decide +kernel)
        refine Changes.via ?_ (count_changes ..) (by decide +kernel)
        refine Changes.via ?_ (count_changes ..) (by decide +kernel)
        exact Changes.rfl
      · refine Changes.via ?_ (takeArrival_changes ..) (by decide +kernel)
        subst x1
        refine Changes.via ?_ (meterRx_changes ..) (by decide +kernel)
        refine Changes.via ?_ (count_changes ..) (by decide +kernel)
        refine Changes.via ?_ (count_changes ..) (by decide +kernel)
        exact Changes.rfl
  · refine Changes.ite ?_ ?_
    · refine Changes.via ?_ (macNone_changes ..) (by decide +kernel)
      refine Changes.via ?_ (count_changes ..) (by decide +kernel)
      refine Changes.ite ?_ ?_
      · refine Changes.via ?_ (State.drawn_changes ..) (by decide +kernel)
        refine Changes.via ?_ (takeArmed_changes ..) (by decide +kernel)
        refine Changes.via ?_ (State.drawn_changes ..) (by decide +kernel)
        split
        · refine Changes.via ?_ (logArrival_changes ..) (by decide +kernel)
          refine Changes.via ?_ (takeArrival_changes ..) (by decide +kernel)
          subst x1
          refine Changes.via ?_ (meterRx_changes ..) (by decide +kernel)
          refine Changes.via ?_ (count_changes ..) (by decide +kernel)
          refine Changes.via ?_ (count_changes ..) (by decide +kernel)
          exact Changes.rfl
        · refine Changes.via ?_ (takeArrival_changes ..) (by decide +kernel)
          subst x1
          refine Changes.via ?_ (meterRx_changes ..) (by decide +kernel)
          refine Changes.via ?_ (count_changes ..) (by decide +kernel)
          refine Changes.via ?_ (count_changes ..) (by decide +kernel)
          exact Changes.rfl
      · refine Changes.via ?_ (takeArmed_changes ..) (by decide +kernel)
        refine Changes.via ?_ (State.drawn_changes ..) (by decide +kernel)
        split
        · refine Changes.via ?_ (logArrival_changes ..) (by decide +kernel)
          refine Changes.via ?_ (takeArrival_changes ..) (by decide +kernel)
          subst x1
          refine Changes.via ?_ (meterRx_changes ..) (by decide +kernel)
          refine Changes.via ?_ (count_changes ..) (by decide +kernel)
          refine Changes.via ?_ (count_changes ..) (by decide +kernel)
          exact Changes.rfl
        · refine Changes.via ?_ (takeArrival_changes ..) (by decide +kernel)
          subst x1
          refine Changes.via ?_ (meterRx_changes ..) (by decide +kernel)
          refine Changes.via ?_ (count_changes ..) (by decide +kernel)
          refine Changes.via ?_ (count_changes ..) (by decide +kernel)
          exact Changes.rfl
    · refine Changes.ite ?_ ?_
      · refine Changes.via ?_ (macNone_changes ..) (by decide +kernel)
        refine Changes.via ?_ (count_changes ..) (by decide +kernel)
        refine Changes.ite ?_ ?_
        · refine Changes.via ?_ (State.drawn_changes ..) (by decide +kernel)
          refine Changes.via ?_ (takeArmed_changes ..) (by decide +kernel)
          refine Changes.via ?_ (State.drawn_changes ..) (by decide +kernel)
          split
          · refine Changes.via ?_ (logArrival_changes ..) (by decide +kernel)
            refine Changes.via ?_ (takeArrival_changes ..) (by decide +kernel)
            subst x1
            refine Changes.via ?_ (meterRx_changes ..) (by decide +kernel)
            refine Changes.via ?_ (count_changes ..) (by decide +kernel)
            refine Changes.via ?_ (count_changes ..) (by decide +kernel)
            exact Changes.rfl
          · refine Changes.via ?_ (takeArrival_changes ..) (by decide +kernel)
            subst x1
            refine Changes.via ?_ (meterRx_changes ..) (by decide +kernel)
            refine Changes.via ?_ (count_changes ..) (by decide +kernel)
            refine Changes.via ?_ (count_changes ..) (by decide +kernel)
            exact Changes.rfl
        · refine Changes.via ?_ (takeArmed_changes ..) (by decide +kernel)
          refine Changes.via ?_ (State.drawn_changes ..) (by decide +kernel)
          split
          · refine Changes.via ?_ (logArrival_changes ..) (by decide +kernel)
            refine Changes.via ?_ (takeArrival_changes ..) (by decide +kernel)
            subst x1
            refine Changes.via ?_ (meterRx_changes ..) (by decide +kernel)
            refine Changes.via ?_ (count_changes ..) (by decide +kernel)
            refine Changes.via ?_ (count_changes ..) (by decide +kernel)
            exact Changes.rfl
          · refine Changes.via ?_ (takeArrival_changes ..) (by decide +kernel)
            subst x1
            refine Changes.via ?_ (meterRx_changes ..) (by decide +kernel)
            refine Changes.via ?_ (count_changes ..) (by decide +kernel)
            refine Changes.via ?_ (count_changes ..) (by decide +kernel)
            exact Changes.rfl
      · refine Changes.ite ?_ ?_
        · refine Changes.via ?_ (macNone_changes ..) (by decide +kernel)
          refine Changes.via ?_ (count_changes ..) (by decide +kernel)
          refine Changes.ite ?_ ?_
          · refine Changes.via ?_ (State.drawn_changes ..) (by decide +kernel)
            refine Changes.via ?_ (takeArmed_changes ..) (by decide +kernel)
            refine Changes.via ?_ (State.drawn_changes ..) (by decide +kernel)
            split
            · refine Changes.via ?_ (logArrival_changes ..) (by decide +kernel)
              refine Changes.via ?_ (takeArrival_changes ..) (by decide +kernel)
              subst x1
              refine Changes.via ?_ (meterRx_changes ..) (by decide +kernel)
              refine Changes.via ?_ (count_changes ..) (by decide +kernel)
              refine Changes.via ?_ (count_changes ..) (by decide +kernel)
              exact Changes.rfl
            · refine Changes.via ?_ (takeArrival_changes ..) (by decide +kernel)
              subst x1
              refine Changes.via ?_ (meterRx_changes ..) (by decide +kernel)
              refine Changes.via ?_ (count_changes ..) (by decide +kernel)
              refine Changes.via ?_ (count_changes ..) (by decide +kernel)
              exact Changes.rfl
          · refine Changes.via ?_ (takeArmed_changes ..) (by decide +kernel)
            refine Changes.via ?_ (State.drawn_changes ..) (by decide +kernel)
            split
            · refine Changes.via ?_ (logArrival_changes ..) (by decide +kernel)
              refine Changes.via ?_ (takeArrival_changes ..) (by decide +kernel)
              subst x1
              refine Changes.via ?_ (meterRx_changes ..) (by decide +kernel)
              refine Changes.via ?_ (count_changes ..) (by decide +kernel)
              refine Changes.via ?_ (count_changes ..) (by decide +kernel)
              exact Changes.rfl
            · refine Changes.via ?_ (takeArrival_changes ..) (by decide +kernel)
              subst x1
              refine Changes.via ?_ (meterRx_changes ..) (by decide +kernel)
              refine Changes.via ?_ (count_changes ..) (by decide +kernel)
              refine Changes.via ?_ (count_changes ..) (by decide +kernel)
              exact Changes.rfl
        · refine Changes.ite ?_ ?_
          · refine Changes.via ?_ (macNone_changes ..) (by decide +kernel)
            refine Changes.ite ?_ ?_
            · refine Changes.ite ?_ ?_
              · refine Changes.via ?_ (State.drawn_changes ..) (by decide +kernel)
                refine Changes.via ?_ (takeArmed_changes ..) (by decide +kernel)
                refine Changes.via ?_ (State.drawn_changes ..) (by decide +kernel)
                split
                · refine Changes.via ?_ (logArrival_changes ..) (by decide +kernel)
                  refine Changes.via ?_ (takeArrival_changes ..) (by decide +kernel)
                  subst x1
                  refine Changes.via ?_ (meterRx_changes ..) (by decide +kernel)
                  refine Changes.via ?_ (count_changes ..) (by decide +kernel)
                  refine Changes.via ?_ (count_changes ..) (by decide +kernel)
                  exact Changes.rfl
                · refine Changes.via ?_ (takeArrival_changes ..) (by decide +kernel)
                  subst x1
                  refine Changes.via ?_ (meterRx_changes ..) (by decide +kernel)
                  refine Changes.via ?_ (count_changes ..) (by decide +kernel)
                  refine Changes.via ?_ (count_changes ..) (by decide +kernel)
                  exact Changes.rfl
              · refine Changes.via ?_ (takeArmed_changes ..) (by decide +kernel)
                refine Changes.via ?_ (State.drawn_changes ..) (by decide +kernel)
                split
                · refine Changes.via ?_ (logArrival_changes ..) (by decide +kernel)
                  refine Changes.via ?_ (takeArrival_changes ..) (by decide +kernel)
                  subst x1
                  refine Changes.via ?_ (meterRx_changes ..) (by decide +kernel)
                  refine Changes.via ?_ (count_changes ..) (by decide +kernel)
                  refine Changes.via ?_ (count_changes ..) (by decide +kernel)
                  exact Changes.rfl
                · refine Changes.via ?_ (takeArrival_changes ..) (by decide +kernel)
                  subst x1
                  refine Changes.via ?_ (meterRx_changes ..) (by decide +kernel)
                  refine Changes.via ?_ (count_changes ..) (by decide +kernel)
                  refine Changes.via ?_ (count_changes ..) (by decide +kernel)
                  exact Changes.rfl
            · refine Changes.via ?_ (pfcReceive_changes ..) (by decide +kernel)
              refine Changes.ite ?_ ?_
              · refine Changes.via ?_ (State.drawn_changes ..) (by decide +kernel)
                refine Changes.via ?_ (takeArmed_changes ..) (by decide +kernel)
                refine Changes.via ?_ (State.drawn_changes ..) (by decide +kernel)
                split
                · refine Changes.via ?_ (logArrival_changes ..) (by decide +kernel)
                  refine Changes.via ?_ (takeArrival_changes ..) (by decide +kernel)
                  subst x1
                  refine Changes.via ?_ (meterRx_changes ..) (by decide +kernel)
                  refine Changes.via ?_ (count_changes ..) (by decide +kernel)
                  refine Changes.via ?_ (count_changes ..) (by decide +kernel)
                  exact Changes.rfl
                · refine Changes.via ?_ (takeArrival_changes ..) (by decide +kernel)
                  subst x1
                  refine Changes.via ?_ (meterRx_changes ..) (by decide +kernel)
                  refine Changes.via ?_ (count_changes ..) (by decide +kernel)
                  refine Changes.via ?_ (count_changes ..) (by decide +kernel)
                  exact Changes.rfl
              · refine Changes.via ?_ (takeArmed_changes ..) (by decide +kernel)
                refine Changes.via ?_ (State.drawn_changes ..) (by decide +kernel)
                split
                · refine Changes.via ?_ (logArrival_changes ..) (by decide +kernel)
                  refine Changes.via ?_ (takeArrival_changes ..) (by decide +kernel)
                  subst x1
                  refine Changes.via ?_ (meterRx_changes ..) (by decide +kernel)
                  refine Changes.via ?_ (count_changes ..) (by decide +kernel)
                  refine Changes.via ?_ (count_changes ..) (by decide +kernel)
                  exact Changes.rfl
                · refine Changes.via ?_ (takeArrival_changes ..) (by decide +kernel)
                  subst x1
                  refine Changes.via ?_ (meterRx_changes ..) (by decide +kernel)
                  refine Changes.via ?_ (count_changes ..) (by decide +kernel)
                  refine Changes.via ?_ (count_changes ..) (by decide +kernel)
                  exact Changes.rfl
          · refine Changes.ite ?_ ?_
            · refine Changes.ite ?_ ?_
              · refine Changes.via ?_ (State.drawn_changes ..) (by decide +kernel)
                refine Changes.via ?_ (takeArmed_changes ..) (by decide +kernel)
                refine Changes.via ?_ (State.drawn_changes ..) (by decide +kernel)
                split
                · refine Changes.via ?_ (logArrival_changes ..) (by decide +kernel)
                  refine Changes.via ?_ (takeArrival_changes ..) (by decide +kernel)
                  subst x1
                  refine Changes.via ?_ (meterRx_changes ..) (by decide +kernel)
                  refine Changes.via ?_ (count_changes ..) (by decide +kernel)
                  refine Changes.via ?_ (count_changes ..) (by decide +kernel)
                  exact Changes.rfl
                · refine Changes.via ?_ (takeArrival_changes ..) (by decide +kernel)
                  subst x1
                  refine Changes.via ?_ (meterRx_changes ..) (by decide +kernel)
                  refine Changes.via ?_ (count_changes ..) (by decide +kernel)
                  refine Changes.via ?_ (count_changes ..) (by decide +kernel)
                  exact Changes.rfl
              · refine Changes.via ?_ (takeArmed_changes ..) (by decide +kernel)
                refine Changes.via ?_ (State.drawn_changes ..) (by decide +kernel)
                split
                · refine Changes.via ?_ (logArrival_changes ..) (by decide +kernel)
                  refine Changes.via ?_ (takeArrival_changes ..) (by decide +kernel)
                  subst x1
                  refine Changes.via ?_ (meterRx_changes ..) (by decide +kernel)
                  refine Changes.via ?_ (count_changes ..) (by decide +kernel)
                  refine Changes.via ?_ (count_changes ..) (by decide +kernel)
                  exact Changes.rfl
                · refine Changes.via ?_ (takeArrival_changes ..) (by decide +kernel)
                  subst x1
                  refine Changes.via ?_ (meterRx_changes ..) (by decide +kernel)
                  refine Changes.via ?_ (count_changes ..) (by decide +kernel)
                  refine Changes.via ?_ (count_changes ..) (by decide +kernel)
                  exact Changes.rfl
            · refine Changes.ite ?_ ?_
              · refine Changes.via ?_ (macNone_changes ..) (by decide +kernel)
                refine Changes.ite ?_ ?_
                · refine Changes.via ?_ (State.drawn_changes ..) (by decide +kernel)
                  refine Changes.via ?_ (takeArmed_changes ..) (by decide +kernel)
                  refine Changes.via ?_ (State.drawn_changes ..) (by decide +kernel)
                  split
                  · refine Changes.via ?_ (logArrival_changes ..) (by decide +kernel)
                    refine Changes.via ?_ (takeArrival_changes ..) (by decide +kernel)
                    subst x1
                    refine Changes.via ?_ (meterRx_changes ..) (by decide +kernel)
                    refine Changes.via ?_ (count_changes ..) (by decide +kernel)
                    refine Changes.via ?_ (count_changes ..) (by decide +kernel)
                    exact Changes.rfl
                  · refine Changes.via ?_ (takeArrival_changes ..) (by decide +kernel)
                    subst x1
                    refine Changes.via ?_ (meterRx_changes ..) (by decide +kernel)
                    refine Changes.via ?_ (count_changes ..) (by decide +kernel)
                    refine Changes.via ?_ (count_changes ..) (by decide +kernel)
                    exact Changes.rfl
                · refine Changes.via ?_ (takeArmed_changes ..) (by decide +kernel)
                  refine Changes.via ?_ (State.drawn_changes ..) (by decide +kernel)
                  split
                  · refine Changes.via ?_ (logArrival_changes ..) (by decide +kernel)
                    refine Changes.via ?_ (takeArrival_changes ..) (by decide +kernel)
                    subst x1
                    refine Changes.via ?_ (meterRx_changes ..) (by decide +kernel)
                    refine Changes.via ?_ (count_changes ..) (by decide +kernel)
                    refine Changes.via ?_ (count_changes ..) (by decide +kernel)
                    exact Changes.rfl
                  · refine Changes.via ?_ (takeArrival_changes ..) (by decide +kernel)
                    subst x1
                    refine Changes.via ?_ (meterRx_changes ..) (by decide +kernel)
                    refine Changes.via ?_ (count_changes ..) (by decide +kernel)
                    refine Changes.via ?_ (count_changes ..) (by decide +kernel)
                    exact Changes.rfl
              · refine Changes.via ?_ (frameOn_changes ..) (by decide +kernel)
                refine Changes.ite ?_ ?_
                · refine Changes.via ?_ (State.drawn_changes ..) (by decide +kernel)
                  refine Changes.via ?_ (takeArmed_changes ..) (by decide +kernel)
                  refine Changes.via ?_ (State.drawn_changes ..) (by decide +kernel)
                  split
                  · refine Changes.via ?_ (logArrival_changes ..) (by decide +kernel)
                    refine Changes.via ?_ (takeArrival_changes ..) (by decide +kernel)
                    subst x1
                    refine Changes.via ?_ (meterRx_changes ..) (by decide +kernel)
                    refine Changes.via ?_ (count_changes ..) (by decide +kernel)
                    refine Changes.via ?_ (count_changes ..) (by decide +kernel)
                    exact Changes.rfl
                  · refine Changes.via ?_ (takeArrival_changes ..) (by decide +kernel)
                    subst x1
                    refine Changes.via ?_ (meterRx_changes ..) (by decide +kernel)
                    refine Changes.via ?_ (count_changes ..) (by decide +kernel)
                    refine Changes.via ?_ (count_changes ..) (by decide +kernel)
                    exact Changes.rfl
                · refine Changes.via ?_ (takeArmed_changes ..) (by decide +kernel)
                  refine Changes.via ?_ (State.drawn_changes ..) (by decide +kernel)
                  split
                  · refine Changes.via ?_ (logArrival_changes ..) (by decide +kernel)
                    refine Changes.via ?_ (takeArrival_changes ..) (by decide +kernel)
                    subst x1
                    refine Changes.via ?_ (meterRx_changes ..) (by decide +kernel)
                    refine Changes.via ?_ (count_changes ..) (by decide +kernel)
                    refine Changes.via ?_ (count_changes ..) (by decide +kernel)
                    exact Changes.rfl
                  · refine Changes.via ?_ (takeArrival_changes ..) (by decide +kernel)
                    subst x1
                    refine Changes.via ?_ (meterRx_changes ..) (by decide +kernel)
                    refine Changes.via ?_ (count_changes ..) (by decide +kernel)
                    refine Changes.via ?_ (count_changes ..) (by decide +kernel)
                    exact Changes.rfl
theorem execLineFrameReceive_changes (port : Nat) (bytes : List Byte) (fcsOk : Bool) (s : State) : ∃ t, execLineFrameReceive port bytes fcsOk s = .next t ∧ Changes [.draws, .rings, .port, .tbl, .mash, .sch, .pair, .log, .flt, .cnt, .out] s t := by
  refine ⟨_, rfl, ?_⟩
  refine Changes.when ?_ ?_
  · exact Changes.rfl
  · refine Changes.via ?_ (frameIn_changes ..) (by decide +kernel)
    exact Changes.rfl

end Sys2Proof.Machine
end

