-- ==== Sys2Proof/Laws/Vi.lean ====
section
/-! SUPPORT. What each operation of Machine/Vi.lean can change. -/

set_option Elab.async false

namespace Sys2Proof.Machine

theorem viErr_changes (dt : Nat) (s : State) : Changes [] s (viErr dt s).st := by
  unfold viErr
  refine Changes.err_st ?_
  exact Changes.rfl
theorem grantRefusal_some {vi : Nat} {b : List Byte} {s : State} {r : Reply} (h : grantRefusal vi b s = some r) : Changes [] s r.st := by
  have z (a b : Nat) : Changes [] s (Reply.err s a b).st := Changes.rfl
  have v (d : Nat) : Changes [] s (viErr d s).st := Changes.rfl
  unfold grantRefusal at h
  exact Changes.opt_ite h Changes.rfl (fun h => Changes.opt_ite h (v _) (fun h => Changes.opt_ite h (v _) (fun h =>
    Changes.opt_ite h (z ..) (fun h => nomatch h))))
theorem viTarget_some {vi : Nat} {s : State} {r : Reply} (h : viTarget vi s = some r) : Changes [] s r.st := by
  unfold viTarget at h
  repeat' (split at h)
  all_goals first
    | cases h; exact Changes.rfl
    | cases h
theorem bodyViCreate_changes (vi : Nat) (e : Entry) (s : State) : Changes [.rings, .insts, .sec, .cnt, .out] s (bodyViCreate vi e s).st := by
  unfold bodyViCreate
  extract_lets x1 x2
  refine Changes.ite_st ?_ ?_
  · refine Changes.via ?_ (viErr_changes ..) (by decide +kernel)
    exact Changes.rfl
  · refine Changes.ite_st ?_ ?_
    · refine Changes.via ?_ (badLen_changes ..) (by decide +kernel)
      exact Changes.rfl
    · refine Changes.ite_st ?_ ?_
      · refine Changes.err_st ?_
        exact Changes.rfl
      · split
        · refine Changes.via ?_ (grantRefusal_some (by assumption)) (by decide)
          exact Changes.rfl
        · refine Changes.storing ?_ ?_ (by decide)
          · exact Changes.rfl
          · refine Changes.ok_st ?_
            refine Changes.via ?_ (State.modInst_changes ..) (by decide +kernel)
            exact Changes.rfl
theorem bodyViModify_changes (vi : Nat) (e : Entry) (s : State) : Changes [.rings, .queue, .port, .adm, .insts, .sec, .log, .cnt, .out] s (bodyViModify vi e s).st := by
  unfold bodyViModify
  extract_lets x1 x2
  split
  · refine Changes.via ?_ (viTarget_some (by assumption)) (by decide)
    exact Changes.rfl
  · refine Changes.ite_st ?_ ?_
    · refine Changes.via ?_ (badLen_changes ..) (by decide +kernel)
      exact Changes.rfl
    · split
      · refine Changes.via ?_ (grantRefusal_some (by assumption)) (by decide)
        exact Changes.rfl
      · refine Changes.ite_st ?_ ?_
        · refine Changes.err_st ?_
          exact Changes.rfl
        · refine Changes.storing ?_ ?_ (by decide)
          · exact Changes.rfl
          · refine Changes.ok_st ?_
            refine Changes.via ?_ (poolUpkeep_changes ..) (by decide +kernel)
            refine Changes.via ?_ (State.modInst_changes ..) (by decide +kernel)
            exact Changes.rfl
theorem startReset_changes (vi limit : Nat) (flush destroying : Bool) (s : State) : Changes [.rings, .tbl, .insts, .cnt, .out] s (startReset vi limit flush destroying s) := by
  unfold startReset
  extract_lets x1 x2
  refine Changes.via ?_ (capacityWarn_changes ..) (by decide +kernel)
  refine Changes.set_tbl ?_ (by with_reducible rfl) (by decide)
  subst x1
  refine Changes.via ?_ (State.modInst_changes ..) (by decide +kernel)
  exact Changes.rfl
theorem bodyViDestroy_changes (vi : Nat) (e : Entry) (s : State) : Changes [.rings, .tbl, .insts, .cnt, .out] s (bodyViDestroy vi e s).st := by
  unfold bodyViDestroy
  extract_lets x1
  split
  · refine Changes.via ?_ (viTarget_some (by assumption)) (by decide)
    exact Changes.rfl
  · refine Changes.ite_st ?_ ?_
    · refine Changes.via ?_ (viErr_changes ..) (by decide +kernel)
      exact Changes.rfl
    · refine Changes.ite_st ?_ ?_
      · refine Changes.err_st ?_
        exact Changes.rfl
      · refine Changes.ite_st ?_ ?_
        · refine Changes.err_st ?_
          exact Changes.rfl
        · refine Changes.mk_st ?_
          refine Changes.via ?_ (startReset_changes ..) (by decide +kernel)
          exact Changes.rfl
theorem bodyViReset_changes (vi : Nat) (e : Entry) (s : State) : Changes [.rings, .tbl, .insts, .cnt, .out] s (bodyViReset vi e s).st := by
  unfold bodyViReset
  extract_lets x1
  split
  · refine Changes.via ?_ (viTarget_some (by assumption)) (by decide)
    exact Changes.rfl
  · refine Changes.ite_st ?_ ?_
    · refine Changes.via ?_ (viErr_changes ..) (by decide +kernel)
      exact Changes.rfl
    · refine Changes.mk_st ?_
      refine Changes.via ?_ (startReset_changes ..) (by decide +kernel)
      exact Changes.rfl
theorem flushInstance_changes (vi : Nat) (s : State) : Changes [.draws, .rings, .queue, .port, .tbl, .mash, .adm, .fab, .insts, .log, .flt, .cnt, .out] s (flushInstance vi s).2 := by
  unfold flushInstance
  extract_lets x1 x2 x3 x4 x5 x6
  refine Changes.pair_snd ?_
  refine Changes.via ?_ (poolUpkeep_changes ..) (by decide +kernel)
  subst x6
  refine Changes.foldS ?_ (fun _ _ => ?_)
  · refine Changes.via ?_ (State.modInst_changes ..) (by decide +kernel)
    subst x4
    refine Changes.foldS ?_ (fun _ _ => ?_)
    · subst x2
      refine Changes.foldS ?_ (fun _ _ => ?_)
      · exact Changes.rfl
      · split
        · refine Changes.via ?_ (count_changes ..) (by decide +kernel)
          refine Changes.via ?_ (dropForward_changes ..) (by decide +kernel)
          refine Changes.via ?_ (State.pullVpkt_changes ..) (by decide +kernel)
          exact Changes.rfl
        · exact Changes.rfl
    · extract_lets x7 x8
      refine Changes.via ?_ (count_changes ..) (by decide +kernel)
      refine Changes.via ?_ (State.modMash_changes ..) (by decide +kernel)
      subst x7
      refine Changes.via ?_ (releaseRef_changes ..) (by decide +kernel)
      refine Changes.via ?_ (withdraw_changes ..) (by decide +kernel)
      exact Changes.rfl
  · refine Changes.via ?_ (count_changes ..) (by decide +kernel)
    exact Changes.rfl
theorem destroyed_changes (vi : Nat) (s : State) : Changes [.rings, .queue, .pair, .insts, .sec, .cnt, .out] s (destroyed vi s) := by
  unfold destroyed
  extract_lets x1
  refine Changes.ite ?_ ?_
  · split
    · subst x1
      refine Changes.via ?_ (saveSettings_changes ..) (by decide +kernel)
      refine Changes.via ?_ (State.modInst_changes ..) (by decide +kernel)
      exact Changes.rfl
    · dsimp only
      refine Changes.set_queue ?_ (by with_reducible rfl) (by with_reducible rfl) (by decide)
      refine Changes.via ?_ (sendJournal_changes ..) (by decide +kernel)
      refine Changes.via ?_ (Parked.reply_changes ..) (by decide +kernel)
      subst x1
      refine Changes.via ?_ (saveSettings_changes ..) (by decide +kernel)
      refine Changes.via ?_ (State.modInst_changes ..) (by decide +kernel)
      exact Changes.rfl
  · refine Changes.via ?_ (completeWaiting_changes ..) (by decide +kernel)
    subst x1
    refine Changes.via ?_ (saveSettings_changes ..) (by decide +kernel)
    refine Changes.via ?_ (State.modInst_changes ..) (by decide +kernel)
    exact Changes.rfl
theorem resetEnd_changes (vi : Nat) (s : State) : Changes [.draws, .rings, .queue, .port, .tbl, .mash, .adm, .fab, .pair, .insts, .sec, .log, .flt, .cnt, .out] s (resetEnd vi s) := by
  unfold resetEnd
  extract_lets x1 x2 x3
  dsimp only
  refine Changes.ite ?_ ?_
  · refine Changes.via ?_ (destroyed_changes ..) (by decide +kernel)
    refine Changes.via ?_ (State.modInst_changes ..) (by decide +kernel)
    refine Changes.via ?_ (notify_changes ..) (by decide +kernel)
    refine Changes.ite_snd ?_ ?_
    · refine Changes.via ?_ (flushInstance_changes ..) (by decide +kernel)
      exact Changes.rfl
    · refine Changes.pair_snd ?_
      exact Changes.rfl
  · refine Changes.via ?_ (completeWaiting_changes ..) (by decide +kernel)
    refine Changes.via ?_ (State.modInst_changes ..) (by decide +kernel)
    refine Changes.via ?_ (notify_changes ..) (by decide +kernel)
    refine Changes.ite_snd ?_ ?_
    · refine Changes.via ?_ (flushInstance_changes ..) (by decide +kernel)
      exact Changes.rfl
    · refine Changes.pair_snd ?_
      exact Changes.rfl
theorem execViResetDrainEnd_changes (vi : Nat) (s : State) : ∃ t, execViResetDrainEnd vi s = .next t ∧ Changes [.draws, .rings, .queue, .port, .tbl, .mash, .adm, .fab, .pair, .insts, .sec, .log, .flt, .cnt, .out] s t := by
  refine ⟨_, rfl, ?_⟩
  refine Changes.when ?_ ?_
  · exact Changes.rfl
  · refine Changes.via ?_ (resetEnd_changes ..) (by decide +kernel)
    exact Changes.rfl
theorem State.modPuntQ_changes (s : State) (vi q : Nat) (f : VQueue → VQueue) : Changes [.insts] s (State.modPuntQ s vi q f) := by
  unfold State.modPuntQ
  refine Changes.via ?_ (State.modInst_changes ..) (by decide +kernel)
  exact Changes.rfl
theorem State.modInjQ_changes (s : State) (vi q : Nat) (f : VQueue → VQueue) : Changes [.insts] s (State.modInjQ s vi q f) := by
  unfold State.modInjQ
  refine Changes.via ?_ (State.modInst_changes ..) (by decide +kernel)
  exact Changes.rfl
theorem bodyViQueue_changes (vi : Nat) (e : Entry) (s : State) : Changes [.rings, .insts, .cnt, .out] s (bodyViQueue vi e s).st := by
  unfold bodyViQueue
  extract_lets x1 x2 x3 x4 x5 x6 x7 x8 x9 x10 x11
  refine Changes.ite_st ?_ ?_
  · refine Changes.via ?_ (viErr_changes ..) (by decide +kernel)
    exact Changes.rfl
  · refine Changes.ite_st ?_ ?_
    · refine Changes.via ?_ (notPermitted_changes ..) (by decide +kernel)
      exact Changes.rfl
    · refine Changes.ite_st ?_ ?_
      · refine Changes.err_st ?_
        exact Changes.rfl
      · refine Changes.ite_st ?_ ?_
        · refine Changes.err_st ?_
          exact Changes.rfl
        · refine Changes.ite_st ?_ ?_
          · refine Changes.err_st ?_
            exact Changes.rfl
          · refine Changes.ite_st ?_ ?_
            · refine Changes.via ?_ (viErr_changes ..) (by decide +kernel)
              exact Changes.rfl
            · refine Changes.ite_st ?_ ?_
              · refine Changes.ok_st ?_
                refine Changes.via ?_ (State.modPuntQ_changes ..) (by decide +kernel)
                subst x8
                refine Changes.ite ?_ ?_
                · refine Changes.via ?_ (State.modInst_changes ..) (by decide +kernel)
                  exact Changes.rfl
                · exact Changes.rfl
              · refine Changes.ite_st ?_ ?_
                · refine Changes.ok_st ?_
                  refine Changes.via ?_ (State.modInjQ_changes ..) (by decide +kernel)
                  subst x8
                  refine Changes.ite ?_ ?_
                  · refine Changes.via ?_ (State.modInst_changes ..) (by decide +kernel)
                    exact Changes.rfl
                  · exact Changes.rfl
                · refine Changes.ite_st ?_ ?_
                  · refine Changes.mk_st ?_
                    subst x11
                    refine Changes.via ?_ (State.modInjQ_changes ..) (by decide +kernel)
                    subst x8
                    refine Changes.ite ?_ ?_
                    · refine Changes.via ?_ (State.modInst_changes ..) (by decide +kernel)
                      exact Changes.rfl
                    · exact Changes.rfl
                  · refine Changes.ok_st ?_
                    subst x11
                    refine Changes.via ?_ (State.modInjQ_changes ..) (by decide +kernel)
                    subst x8
                    refine Changes.ite ?_ ?_
                    · refine Changes.via ?_ (State.modInst_changes ..) (by decide +kernel)
                      exact Changes.rfl
                    · exact Changes.rfl
theorem bodyViStatus_changes (vi : Nat) (e : Entry) (s : State) : Changes [.rings, .cnt, .out] s (bodyViStatus vi e s).st := by
  unfold bodyViStatus
  extract_lets x1 x2
  refine Changes.ite_st ?_ ?_
  · refine Changes.via ?_ (viErr_changes ..) (by decide +kernel)
    exact Changes.rfl
  · refine Changes.ite_st ?_ ?_
    · refine Changes.via ?_ (notPermitted_changes ..) (by decide +kernel)
      exact Changes.rfl
    · refine Changes.ite_st ?_ ?_
      · refine Changes.err_st ?_
        exact Changes.rfl
      · refine Changes.read_st ?_
        exact Changes.rfl
theorem execViCreate_changes (vi : Nat) (io : HostIo) (s : State) : ∃ t, execViCreate vi io s = .next t ∧ Changes [.rings, .queue, .pair, .insts, .sec, .cnt, .out] s t :=
  ⟨_, rfl, Changes.weaken (runCommand_changes _ _ _ _ _ (bodyViCreate_changes vi)) (by decide)⟩
theorem execViModify_changes (vi : Nat) (io : HostIo) (s : State) : ∃ t, execViModify vi io s = .next t ∧ Changes [.rings, .queue, .port, .adm, .pair, .insts, .sec, .log, .cnt, .out] s t :=
  ⟨_, rfl, Changes.weaken (runCommand_changes _ _ _ _ _ (bodyViModify_changes vi)) (by decide)⟩
theorem execViDestroy_changes (vi : Nat) (io : HostIo) (s : State) : ∃ t, execViDestroy vi io s = .next t ∧ Changes [.rings, .queue, .tbl, .pair, .insts, .cnt, .out] s t :=
  ⟨_, rfl, Changes.weaken (runCommand_changes _ _ _ _ _ (bodyViDestroy_changes vi)) (by decide)⟩
theorem execViReset_changes (vi : Nat) (io : HostIo) (s : State) : ∃ t, execViReset vi io s = .next t ∧ Changes [.rings, .queue, .tbl, .pair, .insts, .cnt, .out] s t :=
  ⟨_, rfl, Changes.weaken (runCommand_changes _ _ _ _ _ (bodyViReset_changes vi)) (by decide)⟩
theorem execViQueue_changes (vi : Nat) (io : HostIo) (s : State) : ∃ t, execViQueue vi io s = .next t ∧ Changes [.rings, .queue, .pair, .insts, .cnt, .out] s t :=
  ⟨_, rfl, Changes.weaken (runCommand_changes _ _ _ _ _ (bodyViQueue_changes vi)) (by decide)⟩
theorem execViStatus_changes (vi : Nat) (io : HostIo) (s : State) : ∃ t, execViStatus vi io s = .next t ∧ Changes [.rings, .queue, .pair, .cnt, .out] s t :=
  ⟨_, rfl, Changes.weaken (runCommand_changes _ _ _ _ _ (bodyViStatus_changes vi)) (by decide)⟩
theorem doorbell_changes {ps : List Part} (vi index : Nat) (q : VQueue) (f : State → State) (s : State) (hf : ∀ x, Changes ps x (f x)) :
    Changes (.rings :: .cnt :: .out :: ps) s (doorbell vi index q f s) := by
  unfold doorbell
  refine Changes.ite Changes.rfl (Changes.ite ?_ (Changes.ite Changes.rfl (Changes.ite ?_ ?_)))
  · exact Changes.via Changes.rfl (count_changes ..) (fun p hp => by revert hp; cases p <;> simp)
  · exact Changes.via Changes.rfl (doorbellReject_changes ..) (fun p hp => by revert hp; cases p <;> simp)
  · exact Changes.via Changes.rfl (hf s) (fun p hp => by simp [hp])
theorem execViPuntDb_changes (vi q index : Nat) (slots : List PuntBuf) (s : State) :
    ∃ t, execViPuntDb vi q index slots s = .next t ∧ Changes [.rings, .insts, .cnt, .out] s t :=
  ⟨_, rfl, Changes.weaken (doorbell_changes (ps := [.insts]) _ _ _ _ _ (fun x => by
    unfold State.modPuntQ
    exact State.modInst_changes ..)) (by decide)⟩
theorem execViInjDb_changes (vi q index : Nat) (slots : List InjSlot) (s : State) :
    ∃ t, execViInjDb vi q index slots s = .next t ∧ Changes [.rings, .insts, .cnt, .out] s t :=
  ⟨_, rfl, Changes.weaken (doorbell_changes (ps := [.insts]) _ _ _ _ _ (fun x => by
    unfold State.modInjQ
    exact State.modInst_changes ..)) (by decide)⟩
theorem queueFault_changes (vi dir q : Nat) (s : State) : Changes [.rings, .insts, .cnt, .out] s (queueFault vi dir q s) := by
  unfold queueFault
  extract_lets x1
  refine Changes.via ?_ (count_changes ..) (by decide +kernel)
  refine Changes.via ?_ (notify_changes ..) (by decide +kernel)
  subst x1
  refine Changes.ite ?_ ?_
  · refine Changes.via ?_ (State.modPuntQ_changes ..) (by decide +kernel)
    exact Changes.rfl
  · refine Changes.via ?_ (State.modInjQ_changes ..) (by decide +kernel)
    exact Changes.rfl
theorem deliverPunt_changes (vi q : Nat) (b : PuntBuf) (c : PuntCopy) (s : State) : Changes [.rings, .insts, .log, .cnt, .out] s (deliverPunt vi q b c s) := by
  unfold deliverPunt
  extract_lets x1 x2 x3 x4 x5 x6
  refine Changes.via ?_ (postVector_changes ..) (by decide +kernel)
  refine Changes.via ?_ (count_changes ..) (by decide +kernel)
  subst x6
  refine Changes.ite ?_ ?_
  · refine Changes.via ?_ (count_changes ..) (by decide +kernel)
    subst x5
    refine Changes.via ?_ (State.modInst_changes ..) (by decide +kernel)
    subst x4
    refine Changes.via ?_ (State.modPuntQ_changes ..) (by decide +kernel)
    subst x3
    refine Changes.via ?_ (State.emit_changes ..) (by decide +kernel)
    exact Changes.rfl
  · subst x5
    refine Changes.via ?_ (State.modInst_changes ..) (by decide +kernel)
    subst x4
    refine Changes.via ?_ (State.modPuntQ_changes ..) (by decide +kernel)
    subst x3
    refine Changes.via ?_ (State.emit_changes ..) (by decide +kernel)
    exact Changes.rfl
theorem execPuntDeliver_changes (vi q : Nat) (writeOk : Bool) (s : State) : ∃ t, execPuntDeliver vi q writeOk s = .next t ∧ Changes [.rings, .insts, .log, .cnt, .out] s t := by
  refine ⟨_, rfl, ?_⟩
  split
  · refine Changes.when ?_ ?_
    · exact Changes.rfl
    · refine Changes.ite ?_ ?_
      · refine Changes.via ?_ (deliverPunt_changes ..) (by decide +kernel)
        exact Changes.rfl
      · refine Changes.via ?_ (queueFault_changes ..) (by decide +kernel)
        exact Changes.rfl
  · exact Changes.rfl
theorem injectFetch_changes (vi q : Nat) (e : InjSlot) (frame : List Byte) (s : State) : Changes [.rings, .insts, .cnt, .out] s (injectFetch vi q e frame s) := by
  unfold injectFetch
  extract_lets x1 x2 x3 x4
  refine Changes.ite ?_ ?_
  · refine Changes.via ?_ (postVector_changes ..) (by decide +kernel)
    refine Changes.via ?_ (count_changes ..) (by decide +kernel)
    refine Changes.via ?_ (State.emit_changes ..) (by decide +kernel)
    subst x2
    refine Changes.via ?_ (State.modInjQ_changes ..) (by decide +kernel)
    exact Changes.rfl
  · refine Changes.via ?_ (count_changes ..) (by decide +kernel)
    refine Changes.via ?_ (State.modInjQ_changes ..) (by decide +kernel)
    subst x2
    refine Changes.via ?_ (State.modInjQ_changes ..) (by decide +kernel)
    exact Changes.rfl
theorem execInjectFetch_changes (vi q : Nat) (frame : List Byte) (s : State) : ∃ t, execInjectFetch vi q frame s = .next t ∧ Changes [.rings, .insts, .cnt, .out] s t := by
  refine ⟨_, rfl, ?_⟩
  split
  · exact Changes.rfl
  · refine Changes.when ?_ ?_
    · exact Changes.rfl
    · refine Changes.via ?_ (injectFetch_changes ..) (by decide +kernel)
      exact Changes.rfl
theorem injectDone_changes (vi q : Nat) (e : InjSlot) (frame : List Byte) (epoch : Nat) (s : State) : Changes [.rings, .mash, .out] s (injectDone vi q e frame epoch s) := by
  unfold injectDone
  refine Changes.via ?_ (postVector_changes ..) (by decide +kernel)
  refine Changes.via ?_ (State.emit_changes ..) (by decide +kernel)
  refine Changes.via ?_ (toMill_changes ..) (by decide +kernel)
  exact Changes.rfl
theorem execInjectReadDone_changes (vi q : Nat) (readOk : Bool) (s : State) : ∃ t, execInjectReadDone vi q readOk s = .next t ∧ Changes [.rings, .queue, .mash, .insts, .cnt, .out] s t := by
  refine ⟨_, rfl, ?_⟩
  split
  · exact Changes.rfl
  · extract_lets x1 x2
    refine Changes.ite ?_ ?_
    · refine Changes.via ?_ (completeWaiting_changes ..) (by decide +kernel)
      subst x2
      refine Changes.ite ?_ ?_
      · refine Changes.via ?_ (injectDone_changes ..) (by decide +kernel)
        subst x1
        refine Changes.via ?_ (State.modInjQ_changes ..) (by decide +kernel)
        exact Changes.rfl
      · refine Changes.via ?_ (queueFault_changes ..) (by decide +kernel)
        subst x1
        refine Changes.via ?_ (State.modInjQ_changes ..) (by decide +kernel)
        exact Changes.rfl
    · subst x2
      refine Changes.ite ?_ ?_
      · refine Changes.via ?_ (injectDone_changes ..) (by decide +kernel)
        subst x1
        refine Changes.via ?_ (State.modInjQ_changes ..) (by decide +kernel)
        exact Changes.rfl
      · refine Changes.via ?_ (queueFault_changes ..) (by decide +kernel)
        subst x1
        refine Changes.via ?_ (State.modInjQ_changes ..) (by decide +kernel)
        exact Changes.rfl

end Sys2Proof.Machine
end

