-- ==== Sys2Proof/Laws/Journal.lean ====
section
/-! SUPPORT. What each operation of Machine/Journal.lean can change. -/

set_option Elab.async false

namespace Sys2Proof.Machine

/-- A body with these parts, run as the apply form, changes these and the update state. -/
theorem applyForm_changes {ps : List Part} (body : Body) (h : ∀ vi e s, Changes ps s (body vi e s).st) (sub : ∀ p ∈ ps, p ∈ [.draws, .rings, .queue, .dev, .port, .tim, .epochs, .tbl, .mash, .asa, .adm, .fab, .sch, .pair, .insts, .sec, .upd, .log, .flt, .cnt, .pwr, .out])
    (vi : Nat) (e : Entry) (s : State) : Changes [.draws, .rings, .queue, .dev, .port, .tim, .epochs, .tbl, .mash, .asa, .adm, .fab, .sch, .pair, .insts, .sec, .upd, .log, .flt, .cnt, .pwr, .out] s (applyForm body vi e s).st := by
  unfold applyForm
  extract_lets x1 x2 x3
  refine Changes.mk_st (Changes.set_upd ?_ (by decide))
  exact Changes.via (Changes.set_upd Changes.rfl (by decide)) (h vi e _) sub
/-- Every replicated command's body, in its apply form. -/
theorem bodyOf_some {op : Nat} {body : Body} (h : bodyOf op = some body) (vi : Nat) (e : Entry) (s : State) :
    Changes [.draws, .rings, .queue, .dev, .port, .tim, .epochs, .tbl, .mash, .asa, .adm, .fab, .sch, .pair, .insts, .sec, .upd, .log, .flt, .cnt, .pwr, .out] s (applyForm body vi e s).st := by
  unfold bodyOf at h
  split at h
  · cases h; exact applyForm_changes _ bodyDevService_changes (by decide) ..
  · cases h; exact applyForm_changes _ bodyDevSetCellarSet_changes (by decide) ..
  · cases h; exact applyForm_changes _ bodyTblStage_changes (by decide) ..
  · cases h; exact applyForm_changes _ bodyTblCommit_changes (by decide) ..
  · cases h; exact applyForm_changes _ bodyTblAbort_changes (by decide) ..
  · cases h; exact applyForm_changes _ bodyTblPin_changes (by decide) ..
  · cases h; exact applyForm_changes _ bodyTblConfig_changes (by decide) ..
  · cases h; exact applyForm_changes _ bodyTblRaConfig_changes (by decide) ..
  · cases h; exact applyForm_changes _ bodyTblRaFlush_changes (by decide) ..
  · cases h; exact applyForm_changes _ bodyAsaRegion_changes (by decide) ..
  · cases h; exact applyForm_changes _ bodyAsaProfile_changes (by decide) ..
  · cases h; exact applyForm_changes _ bodyAsaWrite_changes (by decide) ..
  · cases h; exact applyForm_changes _ bodyAsaConfig_changes (by decide) ..
  · cases h; exact applyForm_changes _ bodyAdmProfile_changes (by decide) ..
  · cases h; exact applyForm_changes _ bodyAdmBind_changes (by decide) ..
  · cases h; exact applyForm_changes _ bodyAdmClass_changes (by decide) ..
  · cases h; exact applyForm_changes _ bodyAdmPool_changes (by decide) ..
  · cases h; exact applyForm_changes _ bodyAdmPfc_changes (by decide) ..
  · cases h; exact applyForm_changes _ bodyFabSpmap_changes (by decide) ..
  · cases h; exact applyForm_changes _ bodySchNode_changes (by decide) ..
  · cases h; exact applyForm_changes _ bodySchQmap_changes (by decide) ..
  · cases h; exact applyForm_changes _ bodySchSetShaper_changes (by decide) ..
  · cases h; exact applyForm_changes _ bodySchSetPolicer_changes (by decide) ..
  · cases h; exact applyForm_changes _ bodySchGateList_changes (by decide) ..
  · cases h; exact applyForm_changes _ bodySchPort_changes (by decide) ..
  · cases h; exact applyForm_changes _ bodySchRemark_changes (by decide) ..
  · cases h; exact applyForm_changes _ bodySchFlush_changes (by decide) ..
  · cases h; exact applyForm_changes _ bodyViCreate_changes (by decide) ..
  · cases h; exact applyForm_changes _ bodyViModify_changes (by decide) ..
  · cases h; exact applyForm_changes _ bodyViDestroy_changes (by decide) ..
  · cases h
theorem bulkBegin_changes (epoch : Nat) (vis : List Nat) (s : State) : Changes [.queue, .dev, .epochs, .tbl, .mash, .asa, .adm, .fab, .sch, .insts] s (bulkBegin epoch vis s) := by
  unfold bulkBegin
  extract_lets x1 x2 x3 x4 x5 x6 x7 x8 x9 x10 x11 x12
  refine Changes.set_all (s) ?_ (fun p hp => by cases p <;> first | exact absurd (by decide) hp | rfl)
  exact Changes.rfl
theorem applyCommand_some {vi : Nat} {e : Entry} {status detail : Nat} {result : List Byte} {s t : State}
    (h : applyCommand vi e status detail result s = some t) : Changes [.draws, .rings, .queue, .dev, .port, .tim, .epochs, .tbl, .mash, .asa, .adm, .fab, .sch, .pair, .insts, .sec, .upd, .log, .flt, .cnt, .pwr, .out] s t := by
  unfold applyCommand at h
  extract_lets j k at h
  have kc (x : State) (y : Changes [.draws, .rings, .queue, .dev, .port, .tim, .epochs, .tbl, .mash, .asa, .adm, .fab, .sch, .pair, .insts, .sec, .upd, .log, .flt, .cnt, .pwr, .out] s x) : Changes [.draws, .rings, .queue, .dev, .port, .tim, .epochs, .tbl, .mash, .asa, .adm, .fab, .sch, .pair, .insts, .sec, .upd, .log, .flt, .cnt, .pwr, .out] s (k x) := Changes.via y (State.modFn_changes ..) (by decide)
  clear_value k j
  split at h
  · exact nomatch h
  · split at h
    · rw [← Option.some.inj h]
      exact Changes.via Changes.rfl (commitOps_changes ..) (by decide)
    · split at h
      · rw [← Option.some.inj h]
        exact kc _ Changes.rfl
      · rename_i b hb
        rw [← Option.some.inj h]
        refine kc _ (Changes.ite ?_ Changes.rfl)
        split
        · exact bodyOf_some (op := 0x0C02) rfl ..
        · exact bodyOf_some hb ..
theorem applyRecs_some (l : List JournalRec) : ∀ {s t : State}, applyRecs l s = some t → Changes [.draws, .rings, .queue, .dev, .port, .tim, .epochs, .tbl, .mash, .asa, .adm, .fab, .sch, .pair, .insts, .sec, .upd, .log, .flt, .cnt, .pwr, .out] s t := by
  induction l with
  | nil => intro s t h; cases h; exact Changes.rfl
  | cons r l ih =>
    intro s t h
    cases r with
    | mark n => exact ih (by simpa [applyRecs] using h)
    | bulk epoch vis => exact Changes.trans (Changes.via Changes.rfl (bulkBegin_changes epoch vis s) (by decide)) (ih (by simpa [applyRecs] using h))
    | command vi e st dt res =>
      simp only [applyRecs, Option.bind_eq_some_iff] at h
      obtain ⟨u, hu, ht⟩ := h
      exact Changes.trans (applyCommand_some hu) (ih ht)
theorem applyTail_changes (a0 : Nat) (s : State) : Changes [.draws, .rings, .queue, .dev, .port, .tim, .epochs, .tbl, .mash, .asa, .adm, .fab, .sch, .pair, .insts, .sec, .upd, .log, .flt, .cnt, .pwr, .out] s (applyTail a0 s) := by
  induction a0 generalizing s with
  | zero => exact Changes.rfl
  | succ a0 ih =>
    unfold applyTail
    extract_lets x1 x2
    split
    · split
      · exact Changes.rfl
      · rename_i h
        extract_lets x3
        have k : Changes [.draws, .rings, .queue, .dev, .port, .tim, .epochs, .tbl, .mash, .asa, .adm, .fab, .sch, .pair, .insts, .sec, .upd, .log, .flt, .cnt, .pwr, .out] s x3 := Changes.via (applyRecs_some _ h) (State.modPair_changes ..) (by decide)
        exact Changes.trans (Changes.via k (State.emit_changes ..) (by decide)) (ih _)
    · exact Changes.rfl
theorem execJournalEntry_changes (recs : List JournalRec) (bytes : Nat) (s : State) : ∃ t, execJournalEntry recs bytes s = .next t ∧ Changes [.draws, .rings, .queue, .dev, .port, .tim, .epochs, .tbl, .mash, .asa, .adm, .fab, .sch, .pair, .insts, .sec, .upd, .log, .flt, .cnt, .pwr, .out] s t := by
  refine ⟨_, rfl, ?_⟩
  refine Changes.when ?_ ?_
  · exact Changes.rfl
  · extract_lets x1
    refine Changes.via ?_ (staleRefresh_changes ..) (by decide +kernel)
    refine Changes.via ?_ (applyTail_changes ..) (by decide +kernel)
    subst x1
    refine Changes.via ?_ (State.modPair_changes ..) (by decide +kernel)
    exact Changes.rfl
theorem execJournalMarkAck_changes (mark : Nat) (s : State) : ∃ t, execJournalMarkAck mark s = .next t ∧ Changes [.rings, .queue, .pair, .cnt, .out] s t := by
  refine ⟨_, rfl, ?_⟩
  extract_lets x1 x2 x3 x4 x5
  refine Changes.when ?_ ?_
  · exact Changes.rfl
  · refine Changes.foldS ?_ (fun _ _ => ?_)
    · subst x3
      refine Changes.via ?_ (wake_changes ..) (by decide +kernel)
      subst x2
      refine Changes.via ?_ (count_changes ..) (by decide +kernel)
      refine Changes.via ?_ (State.modPair_changes ..) (by decide +kernel)
      exact Changes.rfl
    · refine Changes.via ?_ (setPoint_changes ..) (by decide +kernel)
      exact Changes.rfl

end Sys2Proof.Machine
end

