-- ==== Sys2Proof/Laws/MkaOps.lean ====
section
/-! SUPPORT. What each operation of Machine/MkaOps.lean can change. -/

set_option Elab.async false

namespace Sys2Proof.Machine

theorem State.modSec_changes (s : State) (f : Sec → Sec) : Changes [.sec] s (State.modSec s f) := by
  unfold State.modSec
  refine Changes.set_sec ?_ (by decide)
  exact Changes.rfl
theorem State.modMka_changes (s : State) (p : Nat) (f : Mka → Mka) : Changes [.sec] s (State.modMka s p f) := by
  unfold State.modMka
  refine Changes.via ?_ (State.modSec_changes ..) (by decide +kernel)
  exact Changes.rfl
theorem State.setKey_changes (s : State) (h : Nat) (k : Key) : Changes [.sec] s (State.setKey s h k) := by
  unfold State.setKey
  refine Changes.via ?_ (State.modSec_changes ..) (by decide +kernel)
  exact Changes.rfl
theorem State.eraseKey_changes (s : State) (h : Nat) : Changes [.sec] s (State.eraseKey s h) := by
  unfold State.eraseKey
  refine Changes.via ?_ (State.modSec_changes ..) (by decide +kernel)
  exact Changes.rfl
theorem mkaEvent_changes (p st peers : Nat) (s : State) : Changes [.rings, .cnt, .out] s (mkaEvent p st peers s) := by
  unfold mkaEvent
  refine Changes.via ?_ (notify_changes ..) (by decide +kernel)
  exact Changes.rfl
theorem mkaRefresh_changes (p : Nat) (s : State) : Changes [.rings, .sec, .cnt, .out] s (mkaRefresh p s) := by
  unfold mkaRefresh
  split
  · exact Changes.rfl
  · extract_lets x1
    refine Changes.ite ?_ ?_
    · exact Changes.rfl
    · refine Changes.via ?_ (mkaEvent_changes ..) (by decide +kernel)
      refine Changes.via ?_ (State.modMka_changes ..) (by decide +kernel)
      exact Changes.rfl
theorem installSak_changes (p an : Nat) (key : List Byte) (s : State) : Changes [.rings, .port, .tim, .sch, .sec, .cnt, .out] s (installSak p an key s) := by
  unfold installSak
  split
  · exact Changes.rfl
  · extract_lets x1 x2 x3 x4 x5 x6
    refine Changes.via ?_ (mkaRefresh_changes ..) (by decide +kernel)
    refine Changes.via ?_ (macsecRefresh_changes ..) (by decide +kernel)
    subst x6
    subst x1
    split
    · refine Changes.ite ?_ ?_
      · subst x5
        refine Changes.via ?_ (State.modMka_changes ..) (by decide +kernel)
        subst x4
        refine Changes.via ?_ (State.modPort_changes ..) (by decide +kernel)
        subst x3
        refine Changes.via ?_ (State.setKey_changes ..) (by decide +kernel)
        exact Changes.rfl
      · refine Changes.via ?_ (State.eraseKey_changes ..) (by decide +kernel)
        subst x5
        refine Changes.via ?_ (State.modMka_changes ..) (by decide +kernel)
        subst x4
        refine Changes.via ?_ (State.modPort_changes ..) (by decide +kernel)
        subst x3
        refine Changes.via ?_ (State.setKey_changes ..) (by decide +kernel)
        exact Changes.rfl
    · subst x5
      refine Changes.via ?_ (State.modMka_changes ..) (by decide +kernel)
      subst x4
      refine Changes.via ?_ (State.modPort_changes ..) (by decide +kernel)
      subst x3
      refine Changes.via ?_ (State.setKey_changes ..) (by decide +kernel)
      exact Changes.rfl
theorem distributeSak_changes (p : Nat) (s : State) : Changes [.draws, .rings, .port, .tim, .sch, .sec, .cnt, .out] s (distributeSak p s) := by
  unfold distributeSak
  split
  · exact Changes.rfl
  · refine Changes.ite ?_ ?_
    · exact Changes.rfl
    · extract_lets x1
      refine Changes.via ?_ (State.emit_changes ..) (by decide +kernel)
      subst x1
      refine Changes.via ?_ (installSak_changes ..) (by decide +kernel)
      refine Changes.via ?_ (State.drawn_changes ..) (by decide +kernel)
      exact Changes.rfl
theorem mkaThreshold_changes (p : Nat) (s : State) : Changes [.draws, .rings, .port, .tim, .sch, .sec, .cnt, .out] s (mkaThreshold p s) := by
  unfold mkaThreshold
  refine Changes.via ?_ (distributeSak_changes ..) (by decide +kernel)
  exact Changes.rfl
theorem peersChanged_changes (p : Nat) (s : State) : Changes [.draws, .rings, .port, .tim, .sch, .sec, .cnt, .out] s (peersChanged p s) := by
  unfold peersChanged
  refine Changes.via ?_ (mkaRefresh_changes ..) (by decide +kernel)
  refine Changes.via ?_ (distributeSak_changes ..) (by decide +kernel)
  exact Changes.rfl

end Sys2Proof.Machine
end

