-- ==== Sys2Proof/Laws/Spdm.lean ====
section
/-! SUPPORT. What the SPDM responder answers whatever its connection holds: requests it does not support, and GET_VERSION. -/

set_option Elab.async false

namespace Sys2Proof.Machine

/-- A request that Table TK-3 does not name is answered with ERROR, UnsupportedRequest, and leaves the connection as it was (R450). -/
theorem spdmAnswer_unsupported (c : Spdm) (req : List Byte) (s : State) (h : spdmSupported (le req 1 1) = false) :
    spdmAnswer c req s = (c, spdmError (if c.version = 0 then 0x10 else c.version) 0x07 (le req 1 1)) := by
  simp [spdmAnswer, h]

/-- GET_VERSION starts the connection afresh (R450). -/
theorem spdmAnswer_version (c : Spdm) (req : List Byte) (s : State) (v : le req 0 1 = 0x10) (h : le req 1 1 = 0x84) :
    spdmAnswer c req s = ({ stage := 1, vca := req ++ versionResponse }, versionResponse) := by
  simp [spdmAnswer, v, h, spdmSupported]

end Sys2Proof.Machine
end

