-- ==== Sys2Proof/Laws/Sec.lean ====
section
/-! SUPPORT. What each operation of Machine/Sec.lean can change. -/

set_option Elab.async false

namespace Sys2Proof.Machine

theorem State.modSecCfg_changes (s : State) (f : SecCfg → SecCfg) : Changes [.sec] s (State.modSecCfg s f) := by
  unfold State.modSecCfg
  refine Changes.via ?_ (State.modSec_changes ..) (by decide +kernel)
  exact Changes.rfl
theorem bodySecSpdm_changes (vi : Nat) (e : Entry) (s : State) : Changes [.draws, .rings, .sec, .cnt, .out] s (bodySecSpdm vi e s).st := by
  unfold bodySecSpdm
  extract_lets x1
  refine Changes.ite_st ?_ ?_
  · refine Changes.via ?_ (argErr_changes ..) (by decide +kernel)
    exact Changes.rfl
  · refine Changes.ite_st ?_ ?_
    · refine Changes.via ?_ (badLen_changes ..) (by decide +kernel)
      exact Changes.rfl
    · dsimp only
      refine Changes.via ?_ (State.drawn_changes ..) (by decide +kernel)
      refine Changes.via ?_ (State.modSec_changes ..) (by decide +kernel)
      exact Changes.rfl
theorem bodySecStatus_changes (vi : Nat) (e : Entry) (s : State) : Changes [] s (bodySecStatus vi e s).st := by
  unfold bodySecStatus
  extract_lets x1 x2
  refine Changes.read_st ?_
  exact Changes.rfl
theorem bodySecImportPub_changes (vi : Nat) (e : Entry) (s : State) : Changes [] s (bodySecImportPub vi e s).st := by
  unfold bodySecImportPub
  extract_lets x1
  refine Changes.read_st ?_
  exact Changes.rfl
theorem bodySecKeyImport_changes (vi : Nat) (e : Entry) (s : State) : Changes [.rings, .sec, .cnt, .out] s (bodySecKeyImport vi e s).st := by
  unfold bodySecKeyImport
  extract_lets x1 x2 x3 x4
  refine Changes.ite_st ?_ ?_
  · refine Changes.via ?_ (badLen_changes ..) (by decide +kernel)
    exact Changes.rfl
  · refine Changes.ite_st ?_ ?_
    · refine Changes.via ?_ (badReserved_changes ..) (by decide +kernel)
      exact Changes.rfl
    · refine Changes.ite_st ?_ ?_
      · refine Changes.err_st ?_
        refine Changes.via ?_ (count_changes ..) (by decide +kernel)
        exact Changes.rfl
      · split
        · refine Changes.err_st ?_
          refine Changes.via ?_ (count_changes ..) (by decide +kernel)
          exact Changes.rfl
        · refine Changes.ite_st ?_ ?_
          · refine Changes.err_st ?_
            exact Changes.rfl
          · split
            · refine Changes.err_st ?_
              exact Changes.rfl
            · extract_lets x5 x6
              refine Changes.ite_st ?_ ?_
              · refine Changes.storing ?_ ?_ (by decide)
                · exact Changes.rfl
                · refine Changes.ok_st ?_
                  refine Changes.via ?_ (State.modSecCfg_changes ..) (by decide +kernel)
                  subst x6
                  refine Changes.via ?_ (State.setKey_changes ..) (by decide +kernel)
                  exact Changes.rfl
              · refine Changes.ok_st ?_
                subst x6
                refine Changes.via ?_ (State.setKey_changes ..) (by decide +kernel)
                exact Changes.rfl
theorem bodySecKeyDelete_changes (vi : Nat) (e : Entry) (s : State) : Changes [.sec] s (bodySecKeyDelete vi e s).st := by
  unfold bodySecKeyDelete
  extract_lets x1
  refine Changes.ite_st ?_ ?_
  · refine Changes.err_st ?_
    exact Changes.rfl
  · refine Changes.ite_st ?_ ?_
    · refine Changes.err_st ?_
      exact Changes.rfl
    · refine Changes.ite_st ?_ ?_
      · refine Changes.storing ?_ ?_ (by decide)
        · exact Changes.rfl
        · refine Changes.ok_st ?_
          refine Changes.via ?_ (State.modSecCfg_changes ..) (by decide +kernel)
          refine Changes.via ?_ (State.eraseKey_changes ..) (by decide +kernel)
          exact Changes.rfl
      · refine Changes.ok_st ?_
        refine Changes.via ?_ (State.eraseKey_changes ..) (by decide +kernel)
        exact Changes.rfl
theorem mkaRemove_changes (p : Nat) (s : State) : Changes [.rings, .port, .tim, .sch, .sec, .cnt, .out] s (mkaRemove p s) := by
  unfold mkaRemove
  extract_lets x1 x2 x3
  refine Changes.via ?_ (mkaEvent_changes ..) (by decide +kernel)
  refine Changes.via ?_ (macsecRefresh_changes ..) (by decide +kernel)
  subst x3
  refine Changes.foldS ?_ (fun _ _ => ?_)
  · refine Changes.via ?_ (State.modSec_changes ..) (by decide +kernel)
    subst x2
    refine Changes.via ?_ (State.modPort_changes ..) (by decide +kernel)
    exact Changes.rfl
  · refine Changes.ite ?_ ?_
    · exact Changes.rfl
    · refine Changes.via ?_ (State.eraseKey_changes ..) (by decide +kernel)
      exact Changes.rfl
theorem bodySecMka_changes (vi : Nat) (e : Entry) (s : State) : Changes [.rings, .port, .tim, .sch, .sec, .cnt, .out] s (bodySecMka vi e s).st := by
  unfold bodySecMka
  extract_lets x1 x2 x3 x4 x5 x6
  split
  · refine Changes.via ?_ (macsecPort_some (by assumption)) (by decide)
    exact Changes.rfl
  · refine Changes.ite_st ?_ ?_
    · refine Changes.ite_st ?_ ?_
      · refine Changes.ok_st ?_
        refine Changes.via ?_ (mkaRemove_changes ..) (by decide +kernel)
        exact Changes.rfl
      · refine Changes.via ?_ (argErr_changes ..) (by decide +kernel)
        exact Changes.rfl
    · refine Changes.ite_st ?_ ?_
      · refine Changes.via ?_ (argErr_changes ..) (by decide +kernel)
        exact Changes.rfl
      · refine Changes.ite_st ?_ ?_
        · refine Changes.err_st ?_
          exact Changes.rfl
        · refine Changes.ite_st ?_ ?_
          · refine Changes.via ?_ (argErr_changes ..) (by decide +kernel)
            exact Changes.rfl
          · refine Changes.ite_st ?_ ?_
            · refine Changes.err_st ?_
              exact Changes.rfl
            · refine Changes.ok_st ?_
              refine Changes.via ?_ (State.modMka_changes ..) (by decide +kernel)
              exact Changes.rfl
theorem bodySecLink_changes (vi : Nat) (e : Entry) (s : State) : Changes [.sec, .out] s (bodySecLink vi e s).st := by
  unfold bodySecLink
  extract_lets x1 x2 x3
  refine Changes.ite_st ?_ ?_
  · refine Changes.ite_st ?_ ?_
    · refine Changes.via ?_ (argErr_changes ..) (by decide +kernel)
      exact Changes.rfl
    · refine Changes.storing ?_ ?_ (by decide)
      · exact Changes.rfl
      · refine Changes.ok_st ?_
        refine Changes.via ?_ (State.modSecCfg_changes ..) (by decide +kernel)
        exact Changes.rfl
  · refine Changes.ite_st ?_ ?_
    · refine Changes.ite_st ?_ ?_
      · refine Changes.via ?_ (argErr_changes ..) (by decide +kernel)
        exact Changes.rfl
      · refine Changes.ite_st ?_ ?_
        · refine Changes.err_st ?_
          exact Changes.rfl
        · refine Changes.ite_st ?_ ?_
          · refine Changes.ok_st ?_
            exact Changes.rfl
          · refine Changes.ok_st ?_
            refine Changes.via ?_ (startHandshake_changes ..) (by decide +kernel)
            exact Changes.rfl
    · refine Changes.via ?_ (argErr_changes ..) (by decide +kernel)
      exact Changes.rfl
theorem bodySecTrust_changes (vi : Nat) (e : Entry) (s : State) : Changes [.rings, .sec, .cnt, .out] s (bodySecTrust vi e s).st := by
  unfold bodySecTrust
  extract_lets x1 x2 x3
  refine Changes.ite_st ?_ ?_
  · refine Changes.via ?_ (argErr_changes ..) (by decide +kernel)
    exact Changes.rfl
  · refine Changes.ite_st ?_ ?_
    · refine Changes.ite_st ?_ ?_
      · refine Changes.via ?_ (badLen_changes ..) (by decide +kernel)
        exact Changes.rfl
      · refine Changes.ite_st ?_ ?_
        · refine Changes.err_st ?_
          exact Changes.rfl
        · refine Changes.storing ?_ ?_ (by decide)
          · exact Changes.rfl
          · refine Changes.ok_st ?_
            refine Changes.via ?_ (State.modSecCfg_changes ..) (by decide +kernel)
            exact Changes.rfl
    · refine Changes.ite_st ?_ ?_
      · refine Changes.via ?_ (argErr_changes ..) (by decide +kernel)
        exact Changes.rfl
      · refine Changes.storing ?_ ?_ (by decide)
        · exact Changes.rfl
        · refine Changes.ok_st ?_
          refine Changes.via ?_ (State.modSecCfg_changes ..) (by decide +kernel)
          exact Changes.rfl
theorem bodySecOwnerCert_changes (vi : Nat) (e : Entry) (s : State) : Changes [.rings, .sec, .cnt, .out] s (bodySecOwnerCert vi e s).st := by
  unfold bodySecOwnerCert
  extract_lets x1
  refine Changes.ite_st ?_ ?_
  · refine Changes.ite_st ?_ ?_
    · refine Changes.via ?_ (badLen_changes ..) (by decide +kernel)
      exact Changes.rfl
    · refine Changes.read_st ?_
      exact Changes.rfl
  · refine Changes.ite_st ?_ ?_
    · refine Changes.ite_st ?_ ?_
      · refine Changes.via ?_ (badLen_changes ..) (by decide +kernel)
        exact Changes.rfl
      · refine Changes.ite_st ?_ ?_
        · refine Changes.err_st ?_
          exact Changes.rfl
        · refine Changes.storing ?_ ?_ (by decide)
          · exact Changes.rfl
          · refine Changes.ok_st ?_
            refine Changes.via ?_ (State.modSecCfg_changes ..) (by decide +kernel)
            exact Changes.rfl
    · refine Changes.ite_st ?_ ?_
      · refine Changes.storing ?_ ?_ (by decide)
        · exact Changes.rfl
        · refine Changes.ok_st ?_
          refine Changes.via ?_ (State.modSecCfg_changes ..) (by decide +kernel)
          exact Changes.rfl
      · refine Changes.via ?_ (argErr_changes ..) (by decide +kernel)
        exact Changes.rfl
theorem submitToken_changes (scope : Nat) (token : List Byte) (s : State) : Changes [.rings, .sec, .cnt, .out] s (submitToken scope token s).st := by
  unfold submitToken
  refine Changes.ite_st ?_ ?_
  · refine Changes.err_st ?_
    exact Changes.rfl
  · extract_lets x1
    refine Changes.ite_st ?_ ?_
    · refine Changes.err_st ?_
      refine Changes.via ?_ (count_changes ..) (by decide +kernel)
      exact Changes.rfl
    · refine Changes.ok_st ?_
      refine Changes.via ?_ (State.modSec_changes ..) (by decide +kernel)
      exact Changes.rfl
theorem bodySecDebug_changes (vi : Nat) (e : Entry) (s : State) : Changes [.draws, .rings, .sec, .cnt, .out] s (bodySecDebug vi e s).st := by
  unfold bodySecDebug
  extract_lets x1 x2 x3
  refine Changes.ite_st ?_ ?_
  · refine Changes.ite_st ?_ ?_
    · refine Changes.via ?_ (badLen_changes ..) (by decide +kernel)
      exact Changes.rfl
    · refine Changes.mk_st ?_
      refine Changes.via ?_ (State.drawn_changes ..) (by decide +kernel)
      refine Changes.via ?_ (State.modSec_changes ..) (by decide +kernel)
      exact Changes.rfl
  · refine Changes.ite_st ?_ ?_
    · refine Changes.via ?_ (argErr_changes ..) (by decide +kernel)
      exact Changes.rfl
    · refine Changes.ite_st ?_ ?_
      · refine Changes.via ?_ (badLen_changes ..) (by decide +kernel)
        exact Changes.rfl
      · refine Changes.via ?_ (submitToken_changes ..) (by decide +kernel)
        exact Changes.rfl
theorem bodySecZeroize_changes (vi : Nat) (e : Entry) (s : State) : Changes [.dev, .sec] s (bodySecZeroize vi e s).st := by
  unfold bodySecZeroize
  refine Changes.ite_st ?_ ?_
  · refine Changes.err_st ?_
    exact Changes.rfl
  · refine Changes.ite_st ?_ ?_
    · refine Changes.err_st ?_
      exact Changes.rfl
    · extract_lets x1 x2
      refine Changes.ok_st ?_
      refine Changes.set_dev ?_ (by decide)
      subst x1
      refine Changes.via ?_ (State.modSec_changes ..) (by decide +kernel)
      exact Changes.rfl
theorem execSecSpdm_changes (vi : Nat) (io : HostIo) (s : State) : ∃ t, execSecSpdm vi io s = .next t ∧ Changes [.draws, .rings, .queue, .pair, .sec, .cnt, .out] s t :=
  ⟨_, rfl, Changes.weaken (runCommand_changes _ _ _ _ _ (bodySecSpdm_changes vi)) (by decide)⟩
theorem execSecStatus_changes (vi : Nat) (io : HostIo) (s : State) : ∃ t, execSecStatus vi io s = .next t ∧ Changes [.rings, .queue, .pair, .cnt, .out] s t :=
  ⟨_, rfl, Changes.weaken (runCommand_changes _ _ _ _ _ (bodySecStatus_changes vi)) (by decide)⟩
theorem execSecImportPub_changes (vi : Nat) (io : HostIo) (s : State) : ∃ t, execSecImportPub vi io s = .next t ∧ Changes [.rings, .queue, .pair, .cnt, .out] s t :=
  ⟨_, rfl, Changes.weaken (runCommand_changes _ _ _ _ _ (bodySecImportPub_changes vi)) (by decide)⟩
theorem execSecKeyImport_changes (vi : Nat) (io : HostIo) (s : State) : ∃ t, execSecKeyImport vi io s = .next t ∧ Changes [.rings, .queue, .pair, .sec, .cnt, .out] s t :=
  ⟨_, rfl, Changes.weaken (runCommand_changes _ _ _ _ _ (bodySecKeyImport_changes vi)) (by decide)⟩
theorem execSecKeyDelete_changes (vi : Nat) (io : HostIo) (s : State) : ∃ t, execSecKeyDelete vi io s = .next t ∧ Changes [.rings, .queue, .pair, .sec, .cnt, .out] s t :=
  ⟨_, rfl, Changes.weaken (runCommand_changes _ _ _ _ _ (bodySecKeyDelete_changes vi)) (by decide)⟩
theorem execSecMka_changes (vi : Nat) (io : HostIo) (s : State) : ∃ t, execSecMka vi io s = .next t ∧ Changes [.rings, .queue, .port, .tim, .sch, .pair, .sec, .cnt, .out] s t :=
  ⟨_, rfl, Changes.weaken (runCommand_changes _ _ _ _ _ (bodySecMka_changes vi)) (by decide)⟩
theorem execSecLink_changes (vi : Nat) (io : HostIo) (s : State) : ∃ t, execSecLink vi io s = .next t ∧ Changes [.rings, .queue, .pair, .sec, .cnt, .out] s t :=
  ⟨_, rfl, Changes.weaken (runCommand_changes _ _ _ _ _ (bodySecLink_changes vi)) (by decide)⟩
theorem execSecTrust_changes (vi : Nat) (io : HostIo) (s : State) : ∃ t, execSecTrust vi io s = .next t ∧ Changes [.rings, .queue, .pair, .sec, .cnt, .out] s t :=
  ⟨_, rfl, Changes.weaken (runCommand_changes _ _ _ _ _ (bodySecTrust_changes vi)) (by decide)⟩
theorem execSecOwnerCert_changes (vi : Nat) (io : HostIo) (s : State) : ∃ t, execSecOwnerCert vi io s = .next t ∧ Changes [.rings, .queue, .pair, .sec, .cnt, .out] s t :=
  ⟨_, rfl, Changes.weaken (runCommand_changes _ _ _ _ _ (bodySecOwnerCert_changes vi)) (by decide)⟩
theorem execSecDebug_changes (vi : Nat) (io : HostIo) (s : State) : ∃ t, execSecDebug vi io s = .next t ∧ Changes [.draws, .rings, .queue, .pair, .sec, .cnt, .out] s t :=
  ⟨_, rfl, Changes.weaken (runCommand_changes _ _ _ _ _ (bodySecDebug_changes vi)) (by decide)⟩
theorem execSecZeroize_changes (vi : Nat) (io : HostIo) (s : State) : ∃ t, execSecZeroize vi io s = .next t ∧ Changes [.rings, .queue, .dev, .pair, .sec, .cnt, .out] s t :=
  ⟨_, rfl, Changes.weaken (runCommand_changes _ _ _ _ _ (bodySecZeroize_changes vi)) (by decide)⟩
theorem linkFailed_changes (l cause : Nat) (s : State) : Changes [.rings, .sec, .cnt, .out] s (linkFailed l cause s) := by
  unfold linkFailed
  extract_lets x1
  refine Changes.via ?_ (State.modLink_changes ..) (by decide +kernel)
  subst x1
  refine Changes.via ?_ (count_changes ..) (by decide +kernel)
  refine Changes.via ?_ (notify_changes ..) (by decide +kernel)
  exact Changes.rfl
theorem linkKeyed_changes (l : Nat) (s : State) : Changes [.sec] s (linkKeyed l s) := by
  unfold linkKeyed
  refine Changes.via ?_ (State.modLink_changes ..) (by decide +kernel)
  exact Changes.rfl
theorem execLinkHandshakeMessage_changes (link : Nat) (m : Handshake) (s : State) : ∃ t, execLinkHandshakeMessage link m s = .next t ∧ Changes [.rings, .sec, .cnt, .out] s t := by
  refine ⟨_, rfl, ?_⟩
  refine Changes.when ?_ ?_
  · exact Changes.rfl
  · split
    · extract_lets x1 x2
      refine Changes.via ?_ (State.modLink_changes ..) (by decide +kernel)
      subst x2
      refine Changes.ite ?_ ?_
      · exact Changes.rfl
      · refine Changes.via ?_ (startHandshake_changes ..) (by decide +kernel)
        exact Changes.rfl
    · refine Changes.ite ?_ ?_
      · exact Changes.rfl
      · refine Changes.ite ?_ ?_
        · refine Changes.via ?_ (linkFailed_changes ..) (by decide +kernel)
          exact Changes.rfl
        · refine Changes.ite ?_ ?_
          · refine Changes.via ?_ (linkFailed_changes ..) (by decide +kernel)
            exact Changes.rfl
          · refine Changes.via ?_ (linkKeyed_changes ..) (by decide +kernel)
            exact Changes.rfl
    · refine Changes.via ?_ (linkFailed_changes ..) (by decide +kernel)
      exact Changes.rfl
theorem execRekeyIntervalExpiry_changes (link : Nat) (s : State) : ∃ t, execRekeyIntervalExpiry link s = .next t ∧ Changes [.sec, .out] s t := by
  refine ⟨_, rfl, ?_⟩
  refine Changes.when ?_ ?_
  · exact Changes.rfl
  · refine Changes.via ?_ (startHandshake_changes ..) (by decide +kernel)
    exact Changes.rfl
theorem execOldKeySlotExpiry_changes (link : Nat) (s : State) : ∃ t, execOldKeySlotExpiry link s = .next t ∧ Changes [.rings, .sec, .cnt, .out] s t := by
  refine ⟨_, rfl, ?_⟩
  refine Changes.when ?_ ?_
  · exact Changes.rfl
  · refine Changes.via ?_ (notify_changes ..) (by decide +kernel)
    refine Changes.via ?_ (State.modLink_changes ..) (by decide +kernel)
    exact Changes.rfl
theorem execHandshakeRetry_changes (link : Nat) (s : State) : ∃ t, execHandshakeRetry link s = .next t ∧ Changes [.sec, .out] s t := by
  refine ⟨_, rfl, ?_⟩
  refine Changes.when ?_ ?_
  · exact Changes.rfl
  · refine Changes.via ?_ (startHandshake_changes ..) (by decide +kernel)
    exact Changes.rfl
theorem takeSak_changes (p : Nat) (m : Mkpdu) (s : State) : Changes [.rings, .port, .tim, .sch, .sec, .cnt, .out] s (takeSak p m s) := by
  unfold takeSak
  split
  · refine Changes.ite ?_ ?_
    · refine Changes.via ?_ (installSak_changes ..) (by decide +kernel)
      exact Changes.rfl
    · exact Changes.rfl
  · exact Changes.rfl
theorem mkpduGood_changes (p : Nat) (m : Mkpdu) (k : Mka) (s : State) : Changes [.draws, .rings, .port, .tim, .sch, .sec, .cnt, .out] s (mkpduGood p m k s) := by
  unfold mkpduGood
  extract_lets x1 x2 x3
  refine Changes.via ?_ (mkaRefresh_changes ..) (by decide +kernel)
  refine Changes.via ?_ (takeSak_changes ..) (by decide +kernel)
  subst x3
  refine Changes.ite ?_ ?_
  · refine Changes.via ?_ (peersChanged_changes ..) (by decide +kernel)
    subst x2
    refine Changes.ite ?_ ?_
    · refine Changes.via ?_ (State.modMka_changes ..) (by decide +kernel)
      exact Changes.rfl
    · exact Changes.rfl
  · subst x2
    refine Changes.ite ?_ ?_
    · refine Changes.via ?_ (State.modMka_changes ..) (by decide +kernel)
      exact Changes.rfl
    · exact Changes.rfl
theorem execMkpduReceive_changes (port : Nat) (m : Mkpdu) (s : State) : ∃ t, execMkpduReceive port m s = .next t ∧ Changes [.draws, .rings, .port, .tim, .sch, .sec, .cnt, .out] s t := by
  refine ⟨_, rfl, ?_⟩
  split
  · exact Changes.rfl
  · refine Changes.when ?_ ?_
    · exact Changes.rfl
    · refine Changes.ite ?_ ?_
      · refine Changes.via ?_ (mkpduGood_changes ..) (by decide +kernel)
        exact Changes.rfl
      · refine Changes.via ?_ (count_changes ..) (by decide +kernel)
        exact Changes.rfl
theorem execMkaHello_changes (port : Nat) (s : State) : ∃ t, execMkaHello port s = .next t ∧ Changes [.sec, .out] s t := by
  refine ⟨_, rfl, ?_⟩
  split
  · exact Changes.rfl
  · refine Changes.when ?_ ?_
    · exact Changes.rfl
    · refine Changes.via ?_ (State.emit_changes ..) (by decide +kernel)
      refine Changes.via ?_ (State.modMka_changes ..) (by decide +kernel)
      exact Changes.rfl
theorem execMkaLifetimeExpiry_changes (port peer : Nat) (s : State) : ∃ t, execMkaLifetimeExpiry port peer s = .next t ∧ Changes [.draws, .rings, .port, .tim, .sch, .sec, .cnt, .out] s t := by
  refine ⟨_, rfl, ?_⟩
  split
  · exact Changes.rfl
  · refine Changes.when ?_ ?_
    · exact Changes.rfl
    · refine Changes.via ?_ (peersChanged_changes ..) (by decide +kernel)
      refine Changes.via ?_ (State.modMka_changes ..) (by decide +kernel)
      exact Changes.rfl

end Sys2Proof.Machine
end

