-- ==== Sys2Proof/Laws/LinkRx.lean ====
section
/-! SUPPORT. What each operation of Machine/LinkRx.lean can change. -/

set_option Elab.async false

namespace Sys2Proof.Machine

theorem ctlAck_changes (src : Nat) (s : State) : Changes [.draws, .rings, .fab, .flt, .cnt, .out] s (ctlAck src s) := by
  unfold ctlAck
  split
  · exact Changes.rfl
  · extract_lets x1 x2
    refine Changes.via ?_ (sendEntry_changes ..) (by decide +kernel)
    exact Changes.rfl
theorem bungEntryIn_changes (e : List Byte) (s : State) : Changes [.draws, .rings, .queue, .fab, .sch, .pair, .flt, .cnt, .out] s (bungEntryIn e s) := by
  unfold bungEntryIn
  extract_lets x1
  split
  · refine Changes.via ?_ (bungRenewIn_changes ..) (by decide +kernel)
    exact Changes.rfl
  · refine Changes.via ?_ (bungAckIn_changes ..) (by decide +kernel)
    exact Changes.rfl
  · refine Changes.via ?_ (bungHandoverIn_changes ..) (by decide +kernel)
    exact Changes.rfl
  · refine Changes.via ?_ (bungHandoverAckIn_changes ..) (by decide +kernel)
    exact Changes.rfl
  · exact Changes.rfl
theorem reconEntryIn_changes (e : List Byte) (s : State) : Changes [.draws, .rings, .queue, .port, .tbl, .mash, .adm, .fab, .pair, .insts, .log, .flt, .cnt, .out] s (reconEntryIn e s) := by
  unfold reconEntryIn
  extract_lets x1
  refine Changes.ite ?_ ?_
  · refine Changes.via ?_ (reconQueryIn_changes ..) (by decide +kernel)
    exact Changes.rfl
  · refine Changes.ite ?_ ?_
    · refine Changes.via ?_ (reconAnswerIn_changes ..) (by decide +kernel)
      exact Changes.rfl
    · exact Changes.rfl
theorem ctlEntry_changes (src : Nat) (e : List Byte) (s : State) : Changes [.draws, .rings, .queue, .port, .tbl, .mash, .adm, .fab, .rack, .sch, .pair, .insts, .log, .flt, .cnt, .out] s (ctlEntry src e s) := by
  unfold ctlEntry
  extract_lets x1
  split
  · refine Changes.when ?_ ?_
    · exact Changes.rfl
    · refine Changes.via ?_ (rackToken_changes ..) (by decide +kernel)
      exact Changes.rfl
  · refine Changes.when ?_ ?_
    · exact Changes.rfl
    · refine Changes.via ?_ (rackToken_changes ..) (by decide +kernel)
      exact Changes.rfl
  · refine Changes.when ?_ ?_
    · exact Changes.rfl
    · refine Changes.via ?_ (requestEntry_changes ..) (by decide +kernel)
      exact Changes.rfl
  · refine Changes.when ?_ ?_
    · exact Changes.rfl
    · refine Changes.via ?_ (creditEntry_changes ..) (by decide +kernel)
      exact Changes.rfl
  · refine Changes.via ?_ (ackEntry_changes ..) (by decide +kernel)
    exact Changes.rfl
  · refine Changes.via ?_ (divergeIn_changes ..) (by decide +kernel)
    exact Changes.rfl
  · refine Changes.when ?_ ?_
    · exact Changes.rfl
    · refine Changes.via ?_ (announceIn_changes ..) (by decide +kernel)
      exact Changes.rfl
  · refine Changes.via ?_ (bungEntryIn_changes ..) (by decide +kernel)
    exact Changes.rfl
  · refine Changes.via ?_ (reconEntryIn_changes ..) (by decide +kernel)
    exact Changes.rfl
  · refine Changes.when ?_ ?_
    · exact Changes.rfl
    · refine Changes.via ?_ (markIn_changes ..) (by decide +kernel)
      exact Changes.rfl
  · exact Changes.rfl
theorem ctrlCell_changes (plane : Nat) (c : Cell) (s : State) : Changes [.draws, .rings, .queue, .port, .tbl, .mash, .adm, .fab, .rack, .sch, .pair, .insts, .log, .flt, .cnt, .out] s (ctrlCell plane c s) := by
  unfold ctrlCell
  extract_lets x1 x2 x3
  refine Changes.ite ?_ ?_
  · refine Changes.via ?_ (pcrcFail_changes ..) (by decide +kernel)
    subst x1
    refine Changes.via ?_ (count_changes ..) (by decide +kernel)
    exact Changes.rfl
  · refine Changes.ite ?_ ?_
    · subst x1
      refine Changes.via ?_ (count_changes ..) (by decide +kernel)
      exact Changes.rfl
    · refine Changes.ite ?_ ?_
      · dsimp only
        refine Changes.via ?_ (ctlAck_changes ..) (by decide +kernel)
        refine Changes.ite ?_ ?_
        · subst x3
          dsimp -zeta only
          refine Changes.foldS ?_ (fun _ _ => ?_)
          · refine Changes.via ?_ (State.modRack_changes ..) (by decide +kernel)
            subst x2
            refine Changes.via ?_ (heardFrom_changes ..) (by decide +kernel)
            subst x1
            refine Changes.via ?_ (count_changes ..) (by decide +kernel)
            exact Changes.rfl
          · refine Changes.via ?_ (ctlEntry_changes ..) (by decide +kernel)
            exact Changes.rfl
        · refine Changes.via ?_ (State.modRack_changes ..) (by decide +kernel)
          subst x2
          refine Changes.via ?_ (heardFrom_changes ..) (by decide +kernel)
          subst x1
          refine Changes.via ?_ (count_changes ..) (by decide +kernel)
          exact Changes.rfl
      · subst x3
        dsimp -zeta only
        refine Changes.foldS ?_ (fun _ _ => ?_)
        · subst x2
          refine Changes.via ?_ (heardFrom_changes ..) (by decide +kernel)
          subst x1
          refine Changes.via ?_ (count_changes ..) (by decide +kernel)
          exact Changes.rfl
        · refine Changes.via ?_ (ctlEntry_changes ..) (by decide +kernel)
          exact Changes.rfl
theorem reachIn_changes (plane : Nat) (c : Cell) (s : State) : Changes [.rings, .fab, .cnt, .out] s (reachIn plane c s) := by
  unfold reachIn
  extract_lets x1
  refine Changes.when ?_ ?_
  · exact Changes.rfl
  · refine Changes.via ?_ (reachCell_changes ..) (by decide +kernel)
    exact Changes.rfl
theorem cellIn_changes (plane : Nat) (c : Cell) (s : State) : Changes [.draws, .rings, .queue, .port, .tbl, .mash, .adm, .fab, .rack, .sch, .pair, .insts, .log, .flt, .cnt, .out] s (cellIn plane c s) := by
  unfold cellIn
  split
  · exact Changes.rfl
  · refine Changes.when ?_ ?_
    · exact Changes.rfl
    · refine Changes.via ?_ (dataCell_changes ..) (by decide +kernel)
      exact Changes.rfl
  · refine Changes.when ?_ ?_
    · exact Changes.rfl
    · refine Changes.via ?_ (ctrlCell_changes ..) (by decide +kernel)
      exact Changes.rfl
  · refine Changes.via ?_ (reachIn_changes ..) (by decide +kernel)
    exact Changes.rfl
theorem loopTick_changes (s : State) : Changes [.draws, .rings, .queue, .port, .tbl, .mash, .adm, .fab, .rack, .sch, .pair, .insts, .log, .flt, .cnt, .out] s (loopTick s) := by
  unfold loopTick
  extract_lets x1
  refine Changes.ite ?_ ?_
  · exact Changes.rfl
  · refine Changes.foldS ?_ (fun _ _ => ?_)
    · refine Changes.via ?_ (State.modFab_changes ..) (by decide +kernel)
      exact Changes.rfl
    · refine Changes.via ?_ (cellIn_changes ..) (by decide +kernel)
      exact Changes.rfl
theorem noteSlot_changes (plane slot : Nat) (s : State) : Changes [.sec] s (noteSlot plane slot s) := by
  unfold noteSlot
  extract_lets x1
  refine Changes.ite ?_ ?_
  · refine Changes.via ?_ (State.modLink_changes ..) (by decide +kernel)
    exact Changes.rfl
  · exact Changes.rfl
theorem badFrame_changes (lane : Nat) (s : State) : Changes [.draws, .rings, .tbl, .fab, .rack, .sch, .pair, .sec, .log, .flt, .cnt, .out] s (badFrame lane s) := by
  unfold badFrame
  extract_lets x1
  dsimp only
  refine Changes.ite ?_ ?_
  · refine Changes.via ?_ (laneDown_changes ..) (by decide +kernel)
    refine Changes.via ?_ (State.modLane_changes ..) (by decide +kernel)
    refine Changes.ite ?_ ?_
    · refine Changes.via ?_ (notify_changes ..) (by decide +kernel)
      refine Changes.via ?_ (count_changes ..) (by decide +kernel)
      refine Changes.via ?_ (State.modLane_changes ..) (by decide +kernel)
      exact Changes.rfl
    · refine Changes.via ?_ (count_changes ..) (by decide +kernel)
      refine Changes.via ?_ (State.modLane_changes ..) (by decide +kernel)
      exact Changes.rfl
  · refine Changes.ite ?_ ?_
    · refine Changes.via ?_ (notify_changes ..) (by decide +kernel)
      refine Changes.via ?_ (count_changes ..) (by decide +kernel)
      refine Changes.via ?_ (State.modLane_changes ..) (by decide +kernel)
      exact Changes.rfl
    · refine Changes.via ?_ (count_changes ..) (by decide +kernel)
      refine Changes.via ?_ (State.modLane_changes ..) (by decide +kernel)
      exact Changes.rfl
theorem goodFrame_changes (lane plane : Nat) (cells : List Cell) (s : State) : Changes [.draws, .rings, .queue, .port, .tbl, .mash, .adm, .fab, .rack, .sch, .pair, .insts, .sec, .log, .flt, .cnt, .out] s (goodFrame lane plane cells s) := by
  unfold goodFrame
  extract_lets x1 x2
  refine Changes.foldS ?_ (fun _ _ => ?_)
  · subst x2
    refine Changes.ite ?_ ?_
    · refine Changes.via ?_ (startHandshake_changes ..) (by decide +kernel)
      subst x1
      refine Changes.via ?_ (bump_changes ..) (by decide +kernel)
      refine Changes.via ?_ (State.modLane_changes ..) (by decide +kernel)
      exact Changes.rfl
    · subst x1
      refine Changes.via ?_ (bump_changes ..) (by decide +kernel)
      refine Changes.via ?_ (State.modLane_changes ..) (by decide +kernel)
      exact Changes.rfl
  · refine Changes.via ?_ (cellIn_changes ..) (by decide +kernel)
    exact Changes.rfl
theorem execFabLinkFrameReceive_changes (lane slot : Nat) (tagOk : Bool) (cells : List Cell) (s : State) : ∃ t, execFabLinkFrameReceive lane slot tagOk cells s = .next t ∧ Changes [.draws, .rings, .queue, .port, .tbl, .mash, .adm, .fab, .rack, .sch, .pair, .insts, .sec, .log, .flt, .cnt, .out] s t := by
  refine ⟨_, rfl, ?_⟩
  split
  · exact Changes.rfl
  · refine Changes.when ?_ ?_
    · exact Changes.rfl
    · refine Changes.ite ?_ ?_
      · refine Changes.via ?_ (goodFrame_changes ..) (by decide +kernel)
        refine Changes.via ?_ (noteSlot_changes ..) (by decide +kernel)
        exact Changes.rfl
      · refine Changes.via ?_ (badFrame_changes ..) (by decide +kernel)
        exact Changes.rfl

end Sys2Proof.Machine
end

