-- ==== Sys2Proof/Laws/Pwr.lean ====
section
/-! SUPPORT. What each operation of Machine/Pwr.lean can change. -/

set_option Elab.async false

namespace Sys2Proof.Machine

theorem tableStackOut_changes (stack : Nat) (s : State) : Changes [.rings, .dev, .tbl, .cnt, .out] s (tableStackOut stack s) := by
  unfold tableStackOut
  extract_lets x1 x2 x3
  refine Changes.ite ?_ ?_
  · refine Changes.via ?_ (failBringup_changes ..) (by decide +kernel)
    subst x3
    refine Changes.via ?_ (count_changes ..) (by decide +kernel)
    refine Changes.set_all (s) ?_ (fun p hp => by cases p <;> first | exact absurd (by decide) hp | rfl)
    exact Changes.rfl
  · subst x3
    refine Changes.via ?_ (count_changes ..) (by decide +kernel)
    refine Changes.set_all (s) ?_ (fun p hp => by cases p <;> first | exact absurd (by decide) hp | rfl)
    exact Changes.rfl
theorem hbmStackOut_changes (stack : Nat) (s : State) : Changes [.draws, .rings, .queue, .dev, .port, .tbl, .mash, .adm, .fab, .insts, .log, .flt, .cnt, .out] s (hbmStackOut stack s) := by
  unfold hbmStackOut
  refine Changes.ite ?_ ?_
  · refine Changes.via ?_ (tableStackOut_changes ..) (by decide +kernel)
    exact Changes.rfl
  · refine Changes.via ?_ (stackFail_changes ..) (by decide +kernel)
    exact Changes.rfl
theorem planePowerLost_changes (p : Nat) (s : State) : Changes [.draws, .rings, .tbl, .fab, .rack, .sch, .pair, .sec, .log, .flt, .cnt, .out] s (planePowerLost p s) := by
  unfold planePowerLost
  extract_lets x1
  refine Changes.foldS ?_ (fun _ _ => ?_)
  · subst x1
    refine Changes.ite ?_ ?_
    · refine Changes.via ?_ (fabricWindows_changes ..) (by decide +kernel)
      refine Changes.via ?_ (planeLoss_changes ..) (by decide +kernel)
      refine Changes.via ?_ (fault_changes ..) (by decide +kernel)
      exact Changes.rfl
    · refine Changes.ite ?_ ?_
      · exact Changes.rfl
      · refine Changes.via ?_ (dropSecret_changes ..) (by decide +kernel)
        refine Changes.via ?_ (State.modPlane_changes ..) (by decide +kernel)
        exact Changes.rfl
  · refine Changes.via ?_ (State.modLane_changes ..) (by decide +kernel)
    exact Changes.rfl
theorem domainLost_changes (pd : Nat) (s : State) : Changes [.draws, .rings, .queue, .dev, .port, .tim, .tbl, .mash, .asa, .adm, .fab, .rack, .sch, .pair, .insts, .sec, .log, .flt, .cnt, .pwr, .out] s (domainLost pd s) := by
  unfold domainLost
  refine Changes.ite ?_ ?_
  · refine Changes.via ?_ (hbmStackOut_changes ..) (by decide +kernel)
    exact Changes.rfl
  · refine Changes.ite ?_ ?_
    · extract_lets x1
      refine Changes.ite ?_ ?_
      · refine Changes.via ?_ (asaPower_changes ..) (by decide +kernel)
        subst x1
        refine Changes.via ?_ (fault_changes ..) (by decide +kernel)
        refine Changes.via ?_ (State.modBank_changes ..) (by decide +kernel)
        exact Changes.rfl
      · subst x1
        refine Changes.via ?_ (fault_changes ..) (by decide +kernel)
        refine Changes.via ?_ (State.modBank_changes ..) (by decide +kernel)
        exact Changes.rfl
    · refine Changes.ite ?_ ?_
      · refine Changes.foldS ?_ (fun _ _ => ?_)
        · exact Changes.rfl
        · refine Changes.via ?_ (portRetrain_changes ..) (by decide +kernel)
          exact Changes.rfl
      · refine Changes.ite ?_ ?_
        · refine Changes.via ?_ (planePowerLost_changes ..) (by decide +kernel)
          exact Changes.rfl
        · refine Changes.via ?_ (peerReset_changes ..) (by decide +kernel)
          exact Changes.rfl
theorem execDomainPowerGood_changes (pd : Nat) (s : State) : ∃ t, execDomainPowerGood pd s = .next t ∧ Changes [.draws, .rings, .dev, .tbl, .asa, .upd, .log, .cnt, .pwr, .out] s t := by
  refine ⟨_, rfl, ?_⟩
  refine Changes.when ?_ ?_
  · exact Changes.rfl
  · refine Changes.via ?_ (afterPower_changes ..) (by decide +kernel)
    refine Changes.via ?_ (domainEvent_changes ..) (by decide +kernel)
    refine Changes.via ?_ (rampNext_changes ..) (by decide +kernel)
    refine Changes.via ?_ (State.setDom_changes ..) (by decide +kernel)
    exact Changes.rfl
theorem execDomainFault_changes (pd cause : Nat) (s : State) : ∃ t, execDomainFault pd cause s = .next t ∧ Changes [.mono, .draws, .rings, .queue, .hif, .dev, .port, .frm, .incr, .tim, .epochs, .tbl, .mash, .asa, .adm, .fab, .rack, .sch, .pair, .insts, .sec, .upd, .log, .flt, .cnt, .pwr, .out] s t := by
  refine ⟨_, rfl, ?_⟩
  refine Changes.when ?_ ?_
  · exact Changes.rfl
  · refine Changes.ite ?_ ?_
    · extract_lets x1 x2
      refine Changes.set_pwr ?_ (by decide)
      subst x1
      refine Changes.via ?_ (coldLocked_changes ..) (by decide +kernel)
      exact Changes.rfl
    · extract_lets x3 x4 x5 x6 x7
      refine Changes.via ?_ (completeWaiting_changes ..) (by decide +kernel)
      subst x7
      refine Changes.via ?_ (nextStep_changes ..) (by decide +kernel)
      refine Changes.via ?_ (domainLost_changes ..) (by decide +kernel)
      subst x6
      refine Changes.ite ?_ ?_
      · refine Changes.set_pwr ?_ (by decide)
        subst x4
        refine Changes.via ?_ (count_changes ..) (by decide +kernel)
        refine Changes.via ?_ (notify_changes ..) (by decide +kernel)
        subst x3
        refine Changes.via ?_ (rampNext_changes ..) (by decide +kernel)
        refine Changes.via ?_ (State.setDom_changes ..) (by decide +kernel)
        exact Changes.rfl
      · subst x4
        refine Changes.via ?_ (count_changes ..) (by decide +kernel)
        refine Changes.via ?_ (notify_changes ..) (by decide +kernel)
        subst x3
        refine Changes.via ?_ (rampNext_changes ..) (by decide +kernel)
        refine Changes.via ?_ (State.setDom_changes ..) (by decide +kernel)
        exact Changes.rfl
theorem execDomainRetry_changes (pd : Nat) (s : State) : ∃ t, execDomainRetry pd s = .next t ∧ Changes [.draws, .rings, .log, .cnt, .pwr, .out] s t := by
  refine ⟨_, rfl, ?_⟩
  split
  · exact Changes.rfl
  · refine Changes.when ?_ ?_
    · exact Changes.rfl
    · refine Changes.via ?_ (powerOn_changes ..) (by decide +kernel)
      refine Changes.via ?_ (State.setDom_changes ..) (by decide +kernel)
      refine Changes.set_pwr ?_ (by decide)
      exact Changes.rfl
theorem setRef_changes (r : RefState) (severity : Nat) (s : State) : Changes [.rings, .cnt, .pwr, .out] s (setRef r severity s) := by
  unfold setRef
  refine Changes.via ?_ (notify_changes ..) (by decide +kernel)
  refine Changes.set_pwr ?_ (by decide)
  exact Changes.rfl
theorem execRefclkLoss_changes (s : State) : ∃ t, execRefclkLoss s = .next t ∧ Changes [.rings, .cnt, .pwr, .out] s t := by
  refine ⟨_, rfl, ?_⟩
  refine Changes.when ?_ ?_
  · exact Changes.rfl
  · refine Changes.via ?_ (count_changes ..) (by decide +kernel)
    refine Changes.via ?_ (setRef_changes ..) (by decide +kernel)
    refine Changes.set_pwr ?_ (by decide)
    exact Changes.rfl
theorem execRefclkRelock_changes (inRange : Bool) (s : State) : ∃ t, execRefclkRelock inRange s = .next t ∧ Changes [.rings, .cnt, .pwr, .out] s t := by
  refine ⟨_, rfl, ?_⟩
  refine Changes.when ?_ ?_
  · exact Changes.rfl
  · refine Changes.ite ?_ ?_
    · refine Changes.set_pwr ?_ (by decide)
      exact Changes.rfl
    · refine Changes.ite ?_ ?_
      · exact Changes.rfl
      · refine Changes.via ?_ (setRef_changes ..) (by decide +kernel)
        exact Changes.rfl
theorem execRefclkRelockDone_changes (s : State) : ∃ t, execRefclkRelockDone s = .next t ∧ Changes [.rings, .cnt, .pwr, .out] s t := by
  refine ⟨_, rfl, ?_⟩
  refine Changes.when ?_ ?_
  · exact Changes.rfl
  · refine Changes.via ?_ (setRef_changes ..) (by decide +kernel)
    exact Changes.rfl
theorem execRailUndervoltage_changes (rail : Nat) (s : State) : ∃ t, execRailUndervoltage rail s = .next t ∧ Changes [.mono, .rings, .queue, .hif, .dev, .port, .frm, .incr, .tim, .epochs, .tbl, .mash, .asa, .adm, .fab, .rack, .sch, .pair, .insts, .sec, .upd, .log, .flt, .cnt, .pwr] s t := by
  refine ⟨_, rfl, ?_⟩
  refine Changes.when ?_ ?_
  · exact Changes.rfl
  · extract_lets x1 x2
    refine Changes.set_pwr ?_ (by decide)
    subst x1
    refine Changes.via ?_ (coldLocked_changes ..) (by decide +kernel)
    exact Changes.rfl
theorem thermalEvent_changes (new old severity source : Nat) (t : Int) (s : State) : Changes [.rings, .cnt, .out] s (thermalEvent new old severity source t s) := by
  unfold thermalEvent
  refine Changes.via ?_ (notify_changes ..) (by decide +kernel)
  exact Changes.rfl
theorem setThermal_changes (st source : Nat) (t : Int) (s : State) : Changes [.rings, .cnt, .pwr, .out] s (setThermal st source t s) := by
  unfold setThermal
  refine Changes.via ?_ (thermalEvent_changes ..) (by decide +kernel)
  refine Changes.set_pwr ?_ (by decide)
  exact Changes.rfl
theorem execThermalStateEnter_changes (source : Nat) (temp : Int) (s : State) : ∃ t, execThermalStateEnter source temp s = .next t ∧ Changes [.rings, .cnt, .pwr, .out] s t := by
  refine ⟨_, rfl, ?_⟩
  refine Changes.when ?_ ?_
  · exact Changes.rfl
  · refine Changes.via ?_ (count_changes ..) (by decide +kernel)
    refine Changes.via ?_ (setThermal_changes ..) (by decide +kernel)
    exact Changes.rfl
theorem execThermalStateLeave_changes (source : Nat) (temp : Int) (s : State) : ∃ t, execThermalStateLeave source temp s = .next t ∧ Changes [.rings, .cnt, .pwr, .out] s t := by
  refine ⟨_, rfl, ?_⟩
  refine Changes.when ?_ ?_
  · exact Changes.rfl
  · refine Changes.via ?_ (setThermal_changes ..) (by decide +kernel)
    exact Changes.rfl
theorem execThermalTrip_changes (s : State) : ∃ t, execThermalTrip s = .next t ∧ Changes [.mono, .rings, .queue, .hif, .dev, .port, .frm, .incr, .tim, .epochs, .tbl, .mash, .asa, .adm, .fab, .rack, .sch, .pair, .insts, .sec, .upd, .log, .flt, .cnt, .pwr] s t := by
  refine ⟨_, rfl, ?_⟩
  refine Changes.when ?_ ?_
  · exact Changes.rfl
  · extract_lets x1 x2
    refine Changes.set_pwr ?_ (by decide)
    subst x1
    refine Changes.via ?_ (coldLocked_changes ..) (by decide +kernel)
    exact Changes.rfl
theorem execHbmThermal_changes (stack : Nat) (temp : Int) (s : State) : ∃ t, execHbmThermal stack temp s = .next t ∧ Changes [.draws, .rings, .queue, .dev, .port, .tbl, .mash, .adm, .fab, .insts, .log, .flt, .cnt, .pwr, .out] s t := by
  refine ⟨_, rfl, ?_⟩
  refine Changes.when ?_ ?_
  · exact Changes.rfl
  · extract_lets x1 x2 x3 x4 x5 x6
    refine Changes.ite ?_ ?_
    · refine Changes.via ?_ (hbmStackOut_changes ..) (by decide +kernel)
      subst x5
      refine Changes.ite ?_ ?_
      · refine Changes.via ?_ (thermalEvent_changes ..) (by decide +kernel)
        subst x4
        refine Changes.set_pwr ?_ (by decide)
        exact Changes.rfl
      · subst x4
        refine Changes.set_pwr ?_ (by decide)
        exact Changes.rfl
    · subst x5
      refine Changes.ite ?_ ?_
      · refine Changes.via ?_ (thermalEvent_changes ..) (by decide +kernel)
        subst x4
        refine Changes.set_pwr ?_ (by decide)
        exact Changes.rfl
      · subst x4
        refine Changes.set_pwr ?_ (by decide)
        exact Changes.rfl
theorem execGpioEdge_changes (pin : Nat) (level : Bool) (s : State) : ∃ t, execGpioEdge pin level s = .next t ∧ Changes [.rings, .cnt, .pwr, .out] s t := by
  refine ⟨_, rfl, ?_⟩
  refine Changes.when ?_ ?_
  · exact Changes.rfl
  · extract_lets x1 x2 x3 x4
    refine Changes.ite ?_ ?_
    · refine Changes.via ?_ (notify_changes ..) (by decide +kernel)
      subst x4
      refine Changes.set_pwr ?_ (by decide)
      exact Changes.rfl
    · subst x4
      refine Changes.set_pwr ?_ (by decide)
      exact Changes.rfl
theorem bodyPwrStatus_changes (vi : Nat) (e : Entry) (s : State) : Changes [.draws] s (bodyPwrStatus vi e s).st := by
  unfold bodyPwrStatus
  extract_lets x1
  refine Changes.read_st ?_
  refine Changes.via ?_ (State.drawn_changes ..) (by decide +kernel)
  exact Changes.rfl
theorem domainOff_changes (pd : Nat) (s : State) : Changes [.rings, .cnt, .pwr, .out] s (domainOff pd s) := by
  unfold domainOff
  refine Changes.via ?_ (domainEvent_changes ..) (by decide +kernel)
  refine Changes.via ?_ (rampNext_changes ..) (by decide +kernel)
  refine Changes.via ?_ (State.setDom_changes ..) (by decide +kernel)
  exact Changes.rfl
theorem stackOff_changes (stack : Nat) (s : State) : Changes [.rings, .queue, .dev, .port, .adm, .insts, .log, .cnt, .pwr, .out] s (stackOff stack s) := by
  unfold stackOff
  extract_lets x1 x2
  refine Changes.via ?_ (poolUpkeep_changes ..) (by decide +kernel)
  refine Changes.via ?_ (domainOff_changes ..) (by decide +kernel)
  refine Changes.set_dev ?_ (by decide)
  subst x1
  refine Changes.via ?_ (State.modAdm_changes ..) (by decide +kernel)
  exact Changes.rfl
theorem bodyPwrDomain_changes (vi : Nat) (e : Entry) (s : State) : Changes [.rings, .queue, .dev, .port, .adm, .insts, .log, .cnt, .pwr, .out] s (bodyPwrDomain vi e s).st := by
  unfold bodyPwrDomain
  extract_lets x1 x2 x3 x4 x5 x6
  refine Changes.ite_st ?_ ?_
  · refine Changes.err_st ?_
    exact Changes.rfl
  · refine Changes.ite_st ?_ ?_
    · refine Changes.err_st ?_
      exact Changes.rfl
    · refine Changes.ite_st ?_ ?_
      · refine Changes.err_st ?_
        exact Changes.rfl
      · refine Changes.ite_st ?_ ?_
        · refine Changes.ite_st ?_ ?_
          · refine Changes.ok_st ?_
            exact Changes.rfl
          · refine Changes.ite_st ?_ ?_
            · refine Changes.mk_st ?_
              subst x4
              refine Changes.via ?_ (powerOn_changes ..) (by decide +kernel)
              refine Changes.via ?_ (State.setDom_changes ..) (by decide +kernel)
              exact Changes.rfl
            · refine Changes.ok_st ?_
              subst x4
              refine Changes.via ?_ (powerOn_changes ..) (by decide +kernel)
              refine Changes.via ?_ (State.setDom_changes ..) (by decide +kernel)
              exact Changes.rfl
        · refine Changes.ite_st ?_ ?_
          · refine Changes.err_st ?_
            exact Changes.rfl
          · refine Changes.ite_st ?_ ?_
            · refine Changes.ok_st ?_
              refine Changes.via ?_ (State.setDom_changes ..) (by decide +kernel)
              exact Changes.rfl
            · refine Changes.ite_st ?_ ?_
              · refine Changes.ite_st ?_ ?_
                · refine Changes.ok_st ?_
                  refine Changes.via ?_ (stackOff_changes ..) (by decide +kernel)
                  subst x6
                  refine Changes.via ?_ (State.modAdm_changes ..) (by decide +kernel)
                  exact Changes.rfl
                · refine Changes.mk_st ?_
                  subst x6
                  refine Changes.via ?_ (State.modAdm_changes ..) (by decide +kernel)
                  exact Changes.rfl
              · refine Changes.ok_st ?_
                refine Changes.via ?_ (domainOff_changes ..) (by decide +kernel)
                exact Changes.rfl
theorem bodyPwrGpio_changes (vi : Nat) (e : Entry) (s : State) : Changes [.sec, .pwr] s (bodyPwrGpio vi e s).st := by
  unfold bodyPwrGpio
  extract_lets x1 x2 x3 x4 x5 x6 x7 x8 x9 x10 x11
  refine Changes.ite_st ?_ ?_
  · refine Changes.read_st ?_
    exact Changes.rfl
  · refine Changes.ite_st ?_ ?_
    · subst x7
      refine Changes.err_st ?_
      exact Changes.rfl
    · refine Changes.ite_st ?_ ?_
      · refine Changes.ok_st ?_
        subst x9
        refine Changes.set_pwr ?_ (by decide)
        exact Changes.rfl
      · refine Changes.ite_st ?_ ?_
        · subst x7
          refine Changes.err_st ?_
          exact Changes.rfl
        · refine Changes.storing ?_ ?_ (by decide)
          · exact Changes.rfl
          · refine Changes.ok_st ?_
            subst x11
            refine Changes.set_pwr ?_ (by decide)
            exact Changes.rfl
theorem execPwrStatus_changes (vi : Nat) (io : HostIo) (s : State) : ∃ t, execPwrStatus vi io s = .next t ∧ Changes [.draws, .rings, .queue, .pair, .cnt, .out] s t :=
  ⟨_, rfl, Changes.weaken (runCommand_changes _ _ _ _ _ (bodyPwrStatus_changes vi)) (by decide)⟩
theorem execPwrDomain_changes (vi : Nat) (io : HostIo) (s : State) : ∃ t, execPwrDomain vi io s = .next t ∧ Changes [.rings, .queue, .dev, .port, .adm, .pair, .insts, .log, .cnt, .pwr, .out] s t :=
  ⟨_, rfl, Changes.weaken (runCommand_changes _ _ _ _ _ (bodyPwrDomain_changes vi)) (by decide)⟩
theorem execPwrGpio_changes (vi : Nat) (io : HostIo) (s : State) : ∃ t, execPwrGpio vi io s = .next t ∧ Changes [.rings, .queue, .pair, .sec, .cnt, .pwr, .out] s t :=
  ⟨_, rfl, Changes.weaken (runCommand_changes _ _ _ _ _ (bodyPwrGpio_changes vi)) (by decide)⟩

end Sys2Proof.Machine
end

