-- ==== Sys2Proof/Machine/Pins.lean ====
section
/-! DEFINITION. The test access port (R467, R546) and the I3C target's address (R544). The opcode table has no row for TCK, TMS, TDI, TRST_N or
an I3C address command, so no command calls these operations: they say what such an edge or command does to State (assumption log entry 151).
IEEE 1149.1 and 1149.6 are the standards that R546 names. -/
namespace Sys2Proof.Machine

/-! ### The TAP controller (IEEE 1149.1) -/

/-- The next state at a rising TCK, by TMS. -/
def TapState.next (tms : Bool) : TapState → TapState
  | .testLogicReset => if tms then .testLogicReset else .runTestIdle
  | .runTestIdle => if tms then .selectDr else .runTestIdle
  | .selectDr => if tms then .selectIr else .captureDr
  | .captureDr => if tms then .exit1Dr else .shiftDr
  | .shiftDr => if tms then .exit1Dr else .shiftDr
  | .exit1Dr => if tms then .updateDr else .pauseDr
  | .pauseDr => if tms then .exit2Dr else .pauseDr
  | .exit2Dr => if tms then .updateDr else .shiftDr
  | .updateDr => if tms then .selectDr else .runTestIdle
  | .selectIr => if tms then .testLogicReset else .captureIr
  | .captureIr => if tms then .exit1Ir else .shiftIr
  | .shiftIr => if tms then .exit1Ir else .shiftIr
  | .exit1Ir => if tms then .updateIr else .pauseIr
  | .pauseIr => if tms then .exit2Ir else .pauseIr
  | .exit2Ir => if tms then .updateIr else .shiftIr
  | .updateIr => if tms then .selectDr else .runTestIdle

/-- TRST_N low, or five TMS ones, hold the TAP in reset: the instruction is BYPASS and the pins are the device's (R546). -/
def Tap.reset (t : Tap) : Tap := { t with state := .testLogicReset, ins := .bypass }

/-- The LVCMOS pins that boundary scan reaches (Table PH-8): PORESET_N, PERST_N, THERMTRIP_N, PWRFAULT_N, GPIO0–15, and the 48 of xSPI, I3C,
PULSE_IN and OHS. -/
def boundaryLength : Nat := 68

/-- The levels of those pins; of the last 48 the manual gives no state, and each is a free value. -/
def State.boundaryPins (s : State) : List Bool :=
  [!s.dev.inReset, s.hif.linkUp, !s.pwr.thermtrip, !s.pwr.pwrfault] ++ (List.range 16).map s.gpioLevel
    ++ (List.range 48).map (fun i => bit (Config.freeNat s.draw) i)

/-- Instruction codes (the manual gives none: Config). -/
def tapDecode (ir : List Bool) : TapIns :=
  if ir = Config.tapCode 0 then .extest else if ir = Config.tapCode 1 then .sample else if ir = Config.tapCode 2 then .extestPulse
  else if ir = Config.tapCode 3 then .extestTrain else .bypass

/-- The data register that an instruction selects: the boundary register, or the single bypass bit. -/
def TapIns.scans : TapIns → Bool
  | .bypass => false
  | _ => true

/-- A rising TCK. With TRST_N low the TAP stays in reset (R546). The public instructions reach the pins and no internal state (R467). -/
def tapClock (tms tdi : Bool) (s : State) : State :=
  let t := s.pwr.tap
  if t.trstLow then { s with pwr := { s.pwr with tap := t.reset } }
  else
    let t' : Tap := match t.state with
      | .captureDr => { t with dr := if t.ins.scans then s.boundaryPins else [false] }
      | .shiftDr => { t with dr := t.dr.drop 1 ++ [tdi] }
      | .updateDr => { t with driven := if t.ins.scans && t.ins != .sample then some t.dr else none }
      | .captureIr => { t with ir := Config.tapCapture }
      | .shiftIr => { t with ir := t.ir.drop 1 ++ [tdi] }
      | .updateIr => { t with ins := tapDecode t.ir, driven := none }
      | .testLogicReset => { t with ins := .bypass, driven := none }
      | _ => t
    { s with pwr := { s.pwr with tap := { t' with state := t.state.next tms } } }

/-- TDO: the bit that leaves the register being shifted. -/
def Tap.tdo (t : Tap) : Option Bool :=
  match t.state with
  | .shiftDr => t.dr.head?
  | .shiftIr => t.ir.head?
  | _ => none

/-- TRST_N changes. -/
def tapReset (low : Bool) (s : State) : State :=
  let t := { s.pwr.tap with trstLow := low }
  { s with pwr := { s.pwr with tap := if low then { t.reset with driven := none } else t } }

/-- An AC test pattern runs on the lanes LL, FL, PL and PCIe (IEEE 1149.6, R546): in Run-Test/Idle under an AC instruction. -/
def Tap.acTest (t : Tap) : Bool := t.state == .runTestIdle && (t.ins == .extestPulse || t.ins == .extestTrain)

/-- Maltster debug, internal scan and memory access are open in an unlocked boot only (R467, Table TK-7). -/
def State.debugOpen (s : State) : Bool := s.sec.debug

/-! ### I3C -/

/-- The static address (R544). -/
def i3cStatic : Nat := 0x3A

/-- SETDASA to the static address, or ENTDAA, gives the target its dynamic address (R544). -/
def i3cSetdasa (static dynamic : Nat) (s : State) : State :=
  if static = i3cStatic ∧ s.pwr.i3cAddr = none then { s with pwr := { s.pwr with i3cAddr := some dynamic } } else s
def i3cEntdaa (dynamic : Nat) (s : State) : State :=
  if s.pwr.i3cAddr = none then { s with pwr := { s.pwr with i3cAddr := some dynamic } } else s

/-- Outputs but THERMTRIP_N and PWRFAULT_N are in high impedance while PORESET_N is low (R533). -/
def State.highImpedance (s : State) : Bool := s.dev.inReset

end Sys2Proof.Machine
end

