-- ==== Sys2Proof/Laws/Pins.lean ====
section
/-! SUPPORT. What each operation of Machine/Pins.lean can change. -/

set_option Elab.async false

namespace Sys2Proof.Machine

theorem tapClock_changes (tms tdi : Bool) (s : State) : Changes [.pwr] s (tapClock tms tdi s) := by
  unfold tapClock
  extract_lets x1 x2 x3
  refine Changes.ite ?_ ?_
  · refine Changes.set_pwr ?_ (by decide)
    exact Changes.rfl
  · refine Changes.set_pwr ?_ (by decide)
    exact Changes.rfl
theorem tapReset_changes (low : Bool) (s : State) : Changes [.pwr] s (tapReset low s) := by
  unfold tapReset
  extract_lets x1 x2 x3 x4
  refine Changes.set_pwr ?_ (by decide)
  exact Changes.rfl
theorem i3cSetdasa_changes (static dynamic : Nat) (s : State) : Changes [.pwr] s (i3cSetdasa static dynamic s) := by
  unfold i3cSetdasa
  refine Changes.ite ?_ ?_
  · refine Changes.set_pwr ?_ (by decide)
    exact Changes.rfl
  · exact Changes.rfl
theorem i3cEntdaa_changes (dynamic : Nat) (s : State) : Changes [.pwr] s (i3cEntdaa dynamic s) := by
  unfold i3cEntdaa
  refine Changes.ite ?_ ?_
  · refine Changes.set_pwr ?_ (by decide)
    exact Changes.rfl
  · exact Changes.rfl

end Sys2Proof.Machine
end

