-- ==== Sys2Proof/Laws/Restart.lean ====
section
/-! SUPPORT. What each operation of Machine/Restart.lean can change. -/

set_option Elab.async false

namespace Sys2Proof.Machine

theorem disableRings_changes (vi : Nat) (s : State) : Changes [.rings, .queue] s (disableRings vi s) := by
  unfold disableRings
  refine Changes.ite ?_ ?_
  · refine Changes.via ?_ (applyDisable_changes ..) (by decide +kernel)
    exact Changes.rfl
  · refine Changes.set_queue ?_ (by with_reducible rfl) (by with_reducible rfl) (by decide)
    exact Changes.rfl
theorem execFunctionLevelReset_changes (vi : Nat) (s : State) : ∃ t, execFunctionLevelReset vi s = .next t ∧ Changes [.draws, .rings, .queue, .tbl, .insts, .log, .cnt, .out] s t := by
  refine ⟨_, rfl, ?_⟩
  refine Changes.when ?_ ?_
  · exact Changes.rfl
  · extract_lets x1 x2
    refine Changes.ite ?_ ?_
    · refine Changes.via ?_ (startReset_changes ..) (by decide +kernel)
      subst x2
      refine Changes.ite ?_ ?_
      · refine Changes.foldS ?_ (fun _ _ => ?_)
        · subst x1
          refine Changes.via ?_ (State.modFn_changes ..) (by decide +kernel)
          exact Changes.rfl
        · refine Changes.via ?_ (disableRings_changes ..) (by decide +kernel)
          exact Changes.rfl
      · refine Changes.via ?_ (disableRings_changes ..) (by decide +kernel)
        subst x1
        refine Changes.via ?_ (State.modFn_changes ..) (by decide +kernel)
        exact Changes.rfl
    · subst x2
      refine Changes.ite ?_ ?_
      · refine Changes.foldS ?_ (fun _ _ => ?_)
        · subst x1
          refine Changes.via ?_ (State.modFn_changes ..) (by decide +kernel)
          exact Changes.rfl
        · refine Changes.via ?_ (disableRings_changes ..) (by decide +kernel)
          exact Changes.rfl
      · refine Changes.via ?_ (disableRings_changes ..) (by decide +kernel)
        subst x1
        refine Changes.via ?_ (State.modFn_changes ..) (by decide +kernel)
        exact Changes.rfl
theorem execMaltsterWatchdog_changes (s : State) : ∃ t, execMaltsterWatchdog s = .next t ∧ Changes [.draws, .rings, .queue, .hif, .dev, .sec, .log, .cnt, .out] s t := by
  refine ⟨_, rfl, ?_⟩
  refine Changes.when ?_ ?_
  · exact Changes.rfl
  · refine Changes.via ?_ (warmRestart_changes ..) (by decide +kernel)
    refine Changes.via ?_ (fault_changes ..) (by decide +kernel)
    exact Changes.rfl
theorem execColdResetAssert_changes (s : State) : ∃ t, execColdResetAssert s = .next t ∧ Changes [.mono, .rings, .queue, .hif, .dev, .port, .frm, .incr, .tim, .epochs, .tbl, .mash, .asa, .adm, .fab, .rack, .sch, .pair, .insts, .sec, .upd, .log, .flt, .cnt, .pwr] s t := by
  refine ⟨_, rfl, ?_⟩
  refine Changes.when ?_ ?_
  · exact Changes.rfl
  · refine Changes.via ?_ (coldReset_changes ..) (by decide +kernel)
    exact Changes.rfl
theorem execBcColdReset_changes (s : State) : ∃ t, execBcColdReset s = .next t ∧ Changes [.mono, .rings, .queue, .hif, .dev, .port, .frm, .incr, .tim, .epochs, .tbl, .mash, .asa, .adm, .fab, .rack, .sch, .pair, .insts, .sec, .upd, .log, .flt, .cnt, .pwr] s t := by
  refine ⟨_, rfl, ?_⟩
  refine Changes.when ?_ ?_
  · exact Changes.rfl
  · refine Changes.via ?_ (coldReset_changes ..) (by decide +kernel)
    exact Changes.rfl
theorem importPort_changes (p : Nat) (c : PortCfg) (s : State) : Changes [.rings, .port, .tim, .sch, .cnt, .out] s (importPort p c s) := by
  unfold importPort
  extract_lets x1
  refine Changes.via ?_ (portTrain_changes ..) (by decide +kernel)
  refine Changes.via ?_ (macsecRefresh_changes ..) (by decide +kernel)
  refine Changes.via ?_ (State.modPort_changes ..) (by decide +kernel)
  exact Changes.rfl
theorem importLine_changes (x : Settings) (s : State) : Changes [.rings, .port, .frm, .tim, .sch, .cnt, .out] s (importLine x s) := by
  unfold importLine
  extract_lets x1 x2 x3 x4
  refine Changes.foldS ?_ (fun _ _ => ?_)
  · subst x3
    refine Changes.foldS ?_ (fun _ _ => ?_)
    · subst x2
      refine Changes.set_all (s) ?_ (fun p hp => by cases p <;> first | exact absurd (by decide) hp | rfl)
      exact Changes.rfl
    · refine Changes.via ?_ (importPort_changes ..) (by decide +kernel)
      exact Changes.rfl
  · subst x4
    dsimp -zeta only
    refine Changes.ite ?_ ?_
    · refine Changes.via ?_ (State.setPulse_changes ..) (by decide +kernel)
      exact Changes.rfl
    · refine Changes.via ?_ (stepPulse_changes ..) (by decide +kernel)
      exact Changes.rfl
theorem importSch_changes (x : SchCfg) (s : State) : Changes [.sch] s (importSch x s) := by
  unfold importSch
  extract_lets x1 x2 x3 x4
  refine Changes.foldS ?_ (fun _ _ => ?_)
  · subst x4
    refine Changes.set_sch ?_ (by decide)
    exact Changes.rfl
  · refine Changes.via ?_ (State.modEport_changes ..) (by decide +kernel)
    exact Changes.rfl
theorem importUnit_changes (x : Settings) (s : State) : Changes [.pair, .insts, .sec, .pwr, .out] s (importUnit x s) := by
  unfold importUnit
  extract_lets x1 x2 x3 x4 x5 x6
  refine Changes.ite ?_ ?_
  · refine Changes.foldS ?_ (fun _ _ => ?_)
    · refine Changes.via ?_ (startSeeking_changes ..) (by decide +kernel)
      subst x6
      refine Changes.set_all (s) ?_ (fun p hp => by cases p <;> first | exact absurd (by decide) hp | rfl)
      exact Changes.rfl
    · refine Changes.via ?_ (State.emit_changes ..) (by decide +kernel)
      exact Changes.rfl
  · subst x6
    refine Changes.set_all (s) ?_ (fun p hp => by cases p <;> first | exact absurd (by decide) hp | rfl)
    exact Changes.rfl
theorem importSettings_changes (x : Settings) (s : State) : Changes [.rings, .dev, .port, .frm, .tim, .tbl, .adm, .fab, .sch, .pair, .insts, .sec, .cnt, .pwr, .out] s (importSettings x s) := by
  unfold importSettings
  extract_lets x1 x2 x3 x4 x5
  refine Changes.via ?_ (importUnit_changes ..) (by decide +kernel)
  refine Changes.via ?_ (importSch_changes ..) (by decide +kernel)
  refine Changes.via ?_ (importLine_changes ..) (by decide +kernel)
  subst x5
  refine Changes.set_all (s) ?_ (fun p hp => by cases p <;> first | exact absurd (by decide) hp | rfl)
  exact Changes.rfl
theorem settingsDefault_changes (s : State) : Changes [.rings, .dev, .port, .frm, .tim, .tbl, .adm, .fab, .sch, .pair, .insts, .sec, .cnt, .pwr, .out] s (settingsDefault s) := by
  unfold settingsDefault
  refine Changes.via ?_ (count_changes ..) (by decide +kernel)
  refine Changes.via ?_ (notify_changes ..) (by decide +kernel)
  refine Changes.via ?_ (importSettings_changes ..) (by decide +kernel)
  exact Changes.rfl
theorem defaultsResult_changes (s : State) : Changes [.rings, .dev, .port, .frm, .tim, .tbl, .adm, .fab, .sch, .pair, .insts, .sec, .upd, .cnt, .pwr, .out] s (defaultsResult s) := by
  unfold defaultsResult
  extract_lets x1 x2 x3 x4
  refine Changes.set_upd ?_ (by decide)
  subst x3
  refine Changes.via ?_ (State.modSlot_changes ..) (by decide +kernel)
  subst x2
  refine Changes.via ?_ (State.modSlot_changes ..) (by decide +kernel)
  refine Changes.via ?_ (settingsDefault_changes ..) (by decide +kernel)
  exact Changes.rfl
theorem restartEvent_changes (s : State) : Changes [.rings, .cnt, .out] s (restartEvent s) := by
  unfold restartEvent
  refine Changes.via ?_ (notify_changes ..) (by decide +kernel)
  exact Changes.rfl
theorem swapStart_changes (s : State) : Changes [.upd] s (swapStart s) := by
  unfold swapStart
  extract_lets x1 x2
  refine Changes.ite ?_ ?_
  · exact Changes.rfl
  · refine Changes.ite ?_ ?_
    · refine Changes.ite ?_ ?_
      · refine Changes.set_upd ?_ (by decide)
        exact Changes.rfl
      · exact Changes.rfl
    · refine Changes.ite ?_ ?_
      · subst x2
        refine Changes.set_upd ?_ (by decide)
        exact Changes.rfl
      · refine Changes.via ?_ (swapNow_changes ..) (by decide +kernel)
        subst x2
        refine Changes.set_upd ?_ (by decide)
        exact Changes.rfl
theorem retrainStep_changes (s : State) : Changes [.dev, .tbl] s (retrainStep s) := by
  unfold retrainStep
  split
  · refine Changes.set_dev ?_ (by decide)
    exact Changes.rfl
  · refine Changes.ite ?_ ?_
    · refine Changes.set_all (s) ?_ (fun p hp => by cases p <;> first | exact absurd (by decide) hp | rfl)
      exact Changes.rfl
    · exact Changes.rfl
  · exact Changes.rfl
theorem becomeReady_changes (cold : Bool) (s : State) : Changes [.rings, .queue, .hif, .dev, .tbl, .sec, .upd, .log, .cnt, .pwr, .out] s (becomeReady cold s) := by
  unfold becomeReady
  extract_lets x1 x2 x3 x4 x5 x6 x7 x8 x9 x10 x11 x12 x13 x14
  refine Changes.via ?_ (State.settled_changes ..) (by decide +kernel)
  refine Changes.via ?_ (applyHeld_changes ..) (by decide +kernel)
  subst x14
  refine Changes.ite ?_ ?_
  · refine Changes.via ?_ (updResult_changes ..) (by decide +kernel)
    refine Changes.set_upd ?_ (by decide)
    subst x12
    refine Changes.via ?_ (swapStart_changes ..) (by decide +kernel)
    subst x11
    refine Changes.ite ?_ ?_
    · refine Changes.via ?_ (notify_changes ..) (by decide +kernel)
      subst x10
      refine Changes.via ?_ (endWindow_changes ..) (by decide +kernel)
      refine Changes.ite ?_ ?_
      · refine Changes.via ?_ (restartEvent_changes ..) (by decide +kernel)
        refine Changes.via ?_ (flushHeld_changes ..) (by decide +kernel)
        subst x9
        refine Changes.ite ?_ ?_
        · refine Changes.via ?_ (powerAll_changes ..) (by decide +kernel)
          refine Changes.via ?_ (toPhase_changes ..) (by decide +kernel)
          refine Changes.set_dev ?_ (by decide)
          subst x7
          refine Changes.via ?_ (State.atStep_changes ..) (by decide +kernel)
          subst x6
          refine Changes.set_all (s) ?_ (fun p hp => by cases p <;> first | exact absurd (by decide) hp | rfl)
          exact Changes.rfl
        · refine Changes.via ?_ (retrainStep_changes ..) (by decide +kernel)
          subst x6
          refine Changes.set_all (s) ?_ (fun p hp => by cases p <;> first | exact absurd (by decide) hp | rfl)
          exact Changes.rfl
      · subst x9
        refine Changes.ite ?_ ?_
        · refine Changes.via ?_ (powerAll_changes ..) (by decide +kernel)
          refine Changes.via ?_ (toPhase_changes ..) (by decide +kernel)
          refine Changes.set_dev ?_ (by decide)
          subst x7
          refine Changes.via ?_ (State.atStep_changes ..) (by decide +kernel)
          subst x6
          refine Changes.set_all (s) ?_ (fun p hp => by cases p <;> first | exact absurd (by decide) hp | rfl)
          exact Changes.rfl
        · refine Changes.via ?_ (retrainStep_changes ..) (by decide +kernel)
          subst x6
          refine Changes.set_all (s) ?_ (fun p hp => by cases p <;> first | exact absurd (by decide) hp | rfl)
          exact Changes.rfl
    · subst x10
      refine Changes.via ?_ (endWindow_changes ..) (by decide +kernel)
      refine Changes.ite ?_ ?_
      · refine Changes.via ?_ (restartEvent_changes ..) (by decide +kernel)
        refine Changes.via ?_ (flushHeld_changes ..) (by decide +kernel)
        subst x9
        refine Changes.ite ?_ ?_
        · refine Changes.via ?_ (powerAll_changes ..) (by decide +kernel)
          refine Changes.via ?_ (toPhase_changes ..) (by decide +kernel)
          refine Changes.set_dev ?_ (by decide)
          subst x7
          refine Changes.via ?_ (State.atStep_changes ..) (by decide +kernel)
          subst x6
          refine Changes.set_all (s) ?_ (fun p hp => by cases p <;> first | exact absurd (by decide) hp | rfl)
          exact Changes.rfl
        · refine Changes.via ?_ (retrainStep_changes ..) (by decide +kernel)
          subst x6
          refine Changes.set_all (s) ?_ (fun p hp => by cases p <;> first | exact absurd (by decide) hp | rfl)
          exact Changes.rfl
      · subst x9
        refine Changes.ite ?_ ?_
        · refine Changes.via ?_ (powerAll_changes ..) (by decide +kernel)
          refine Changes.via ?_ (toPhase_changes ..) (by decide +kernel)
          refine Changes.set_dev ?_ (by decide)
          subst x7
          refine Changes.via ?_ (State.atStep_changes ..) (by decide +kernel)
          subst x6
          refine Changes.set_all (s) ?_ (fun p hp => by cases p <;> first | exact absurd (by decide) hp | rfl)
          exact Changes.rfl
        · refine Changes.via ?_ (retrainStep_changes ..) (by decide +kernel)
          subst x6
          refine Changes.set_all (s) ?_ (fun p hp => by cases p <;> first | exact absurd (by decide) hp | rfl)
          exact Changes.rfl
  · subst x12
    refine Changes.via ?_ (swapStart_changes ..) (by decide +kernel)
    subst x11
    refine Changes.ite ?_ ?_
    · refine Changes.via ?_ (notify_changes ..) (by decide +kernel)
      subst x10
      refine Changes.via ?_ (endWindow_changes ..) (by decide +kernel)
      refine Changes.ite ?_ ?_
      · refine Changes.via ?_ (restartEvent_changes ..) (by decide +kernel)
        refine Changes.via ?_ (flushHeld_changes ..) (by decide +kernel)
        subst x9
        refine Changes.ite ?_ ?_
        · refine Changes.via ?_ (powerAll_changes ..) (by decide +kernel)
          refine Changes.via ?_ (toPhase_changes ..) (by decide +kernel)
          refine Changes.set_dev ?_ (by decide)
          subst x7
          refine Changes.via ?_ (State.atStep_changes ..) (by decide +kernel)
          subst x6
          refine Changes.set_all (s) ?_ (fun p hp => by cases p <;> first | exact absurd (by decide) hp | rfl)
          exact Changes.rfl
        · refine Changes.via ?_ (retrainStep_changes ..) (by decide +kernel)
          subst x6
          refine Changes.set_all (s) ?_ (fun p hp => by cases p <;> first | exact absurd (by decide) hp | rfl)
          exact Changes.rfl
      · subst x9
        refine Changes.ite ?_ ?_
        · refine Changes.via ?_ (powerAll_changes ..) (by decide +kernel)
          refine Changes.via ?_ (toPhase_changes ..) (by decide +kernel)
          refine Changes.set_dev ?_ (by decide)
          subst x7
          refine Changes.via ?_ (State.atStep_changes ..) (by decide +kernel)
          subst x6
          refine Changes.set_all (s) ?_ (fun p hp => by cases p <;> first | exact absurd (by decide) hp | rfl)
          exact Changes.rfl
        · refine Changes.via ?_ (retrainStep_changes ..) (by decide +kernel)
          subst x6
          refine Changes.set_all (s) ?_ (fun p hp => by cases p <;> first | exact absurd (by decide) hp | rfl)
          exact Changes.rfl
    · subst x10
      refine Changes.via ?_ (endWindow_changes ..) (by decide +kernel)
      refine Changes.ite ?_ ?_
      · refine Changes.via ?_ (restartEvent_changes ..) (by decide +kernel)
        refine Changes.via ?_ (flushHeld_changes ..) (by decide +kernel)
        subst x9
        refine Changes.ite ?_ ?_
        · refine Changes.via ?_ (powerAll_changes ..) (by decide +kernel)
          refine Changes.via ?_ (toPhase_changes ..) (by decide +kernel)
          refine Changes.set_dev ?_ (by decide)
          subst x7
          refine Changes.via ?_ (State.atStep_changes ..) (by decide +kernel)
          subst x6
          refine Changes.set_all (s) ?_ (fun p hp => by cases p <;> first | exact absurd (by decide) hp | rfl)
          exact Changes.rfl
        · refine Changes.via ?_ (retrainStep_changes ..) (by decide +kernel)
          subst x6
          refine Changes.set_all (s) ?_ (fun p hp => by cases p <;> first | exact absurd (by decide) hp | rfl)
          exact Changes.rfl
      · subst x9
        refine Changes.ite ?_ ?_
        · refine Changes.via ?_ (powerAll_changes ..) (by decide +kernel)
          refine Changes.via ?_ (toPhase_changes ..) (by decide +kernel)
          refine Changes.set_dev ?_ (by decide)
          subst x7
          refine Changes.via ?_ (State.atStep_changes ..) (by decide +kernel)
          subst x6
          refine Changes.set_all (s) ?_ (fun p hp => by cases p <;> first | exact absurd (by decide) hp | rfl)
          exact Changes.rfl
        · refine Changes.via ?_ (retrainStep_changes ..) (by decide +kernel)
          subst x6
          refine Changes.set_all (s) ?_ (fun p hp => by cases p <;> first | exact absurd (by decide) hp | rfl)
          exact Changes.rfl
theorem coldImport_changes (copy : Option Settings) (settingsOk : Bool) (s : State) : Changes [.rings, .dev, .port, .frm, .tim, .tbl, .adm, .fab, .sch, .pair, .insts, .sec, .upd, .cnt, .pwr, .out] s (coldImport copy settingsOk s) := by
  unfold coldImport
  split
  · refine Changes.via ?_ (settingsDefault_changes ..) (by decide +kernel)
    exact Changes.rfl
  · refine Changes.ite ?_ ?_
    · refine Changes.via ?_ (importSettings_changes ..) (by decide +kernel)
      exact Changes.rfl
    · refine Changes.via ?_ (defaultsResult_changes ..) (by decide +kernel)
      exact Changes.rfl
theorem firmwareReady_changes (retainedOk settingsOk : Bool) (s : State) : Changes [.rings, .queue, .hif, .dev, .port, .frm, .tim, .tbl, .adm, .fab, .sch, .pair, .insts, .sec, .upd, .log, .cnt, .pwr, .out] s (firmwareReady retainedOk settingsOk s) := by
  unfold firmwareReady
  extract_lets x1
  dsimp only
  refine Changes.ite ?_ ?_
  · refine Changes.via ?_ (fallBack_changes ..) (by decide +kernel)
    exact Changes.rfl
  · refine Changes.ite ?_ ?_
    · refine Changes.via ?_ (fallBack_changes ..) (by decide +kernel)
      exact Changes.rfl
    · refine Changes.ite ?_ ?_
      · refine Changes.via ?_ (becomeReady_changes ..) (by decide +kernel)
        refine Changes.via ?_ (coldImport_changes ..) (by decide +kernel)
        refine Changes.via ?_ (readCopies_changes ..) (by decide +kernel)
        exact Changes.rfl
      · refine Changes.ite ?_ ?_
        · refine Changes.via ?_ (becomeReady_changes ..) (by decide +kernel)
          refine Changes.via ?_ (defaultsResult_changes ..) (by decide +kernel)
          refine Changes.via ?_ (readCopies_changes ..) (by decide +kernel)
          exact Changes.rfl
        · refine Changes.via ?_ (becomeReady_changes ..) (by decide +kernel)
          refine Changes.via ?_ (readCopies_changes ..) (by decide +kernel)
          exact Changes.rfl
theorem execFwReady_changes (retainedOk settingsOk : Bool) (s : State) : ∃ t, execFwReady retainedOk settingsOk s = .next t ∧ Changes [.rings, .queue, .hif, .dev, .port, .frm, .tim, .tbl, .adm, .fab, .sch, .pair, .insts, .sec, .upd, .log, .cnt, .pwr, .out] s t := by
  refine ⟨_, rfl, ?_⟩
  refine Changes.when ?_ ?_
  · exact Changes.rfl
  · refine Changes.via ?_ (firmwareReady_changes ..) (by decide +kernel)
    exact Changes.rfl
theorem resume_changes (p : Parked) (s : State) : Changes [.rings, .queue, .dev, .port, .epochs, .tbl, .adm, .pair, .insts, .log, .cnt, .pwr, .out] s (resume p s) := by
  unfold resume
  extract_lets x1
  split
  · refine Changes.via ?_ (conclude_changes ..) (by decide +kernel)
    refine Changes.via ?_ (commitOrWait_changes ..) (by decide +kernel)
    exact Changes.rfl
  · refine Changes.via ?_ (State.settled_changes ..) (by decide +kernel)
    refine Changes.via ?_ (finish_changes ..) (by decide +kernel)
    refine Changes.via ?_ (Parked.reply_changes ..) (by decide +kernel)
    exact Changes.rfl
  · split
    · refine Changes.via ?_ (State.settled_changes ..) (by decide +kernel)
      refine Changes.via ?_ (answer_changes ..) (by decide +kernel)
      exact Changes.rfl
    · refine Changes.via ?_ (State.settled_changes ..) (by decide +kernel)
      refine Changes.via ?_ (finish_changes ..) (by decide +kernel)
      refine Changes.via ?_ (Parked.reply_changes ..) (by decide +kernel)
      exact Changes.rfl
  · refine Changes.via ?_ (State.settled_changes ..) (by decide +kernel)
    refine Changes.via ?_ (finish_changes ..) (by decide +kernel)
    refine Changes.via ?_ (epochFull_changes ..) (by decide +kernel)
    exact Changes.rfl
  · refine Changes.via ?_ (conclude_changes ..) (by decide +kernel)
    refine Changes.via ?_ (Parked.reply_changes ..) (by decide +kernel)
    refine Changes.via ?_ (stackOff_changes ..) (by decide +kernel)
    exact Changes.rfl
  · refine Changes.via ?_ (conclude_changes ..) (by decide +kernel)
    refine Changes.via ?_ (Parked.reply_changes ..) (by decide +kernel)
    exact Changes.rfl
theorem execCommandResume_changes (vi : Nat) (s : State) : ∃ t, execCommandResume vi s = .next t ∧ Changes [.rings, .queue, .dev, .port, .epochs, .tbl, .adm, .pair, .insts, .log, .cnt, .pwr, .out] s t := by
  refine ⟨_, rfl, ?_⟩
  split
  · exact Changes.rfl
  · refine Changes.when ?_ ?_
    · exact Changes.rfl
    · refine Changes.via ?_ (resume_changes ..) (by decide +kernel)
      refine Changes.set_queue ?_ (by with_reducible rfl) (by with_reducible rfl) (by decide)
      exact Changes.rfl

end Sys2Proof.Machine
end

