-- ==== Sys2Proof/Laws/State.lean ====
section
/-! SUPPORT. What a read finds after an update: maps, functions and instances by number, and every field of the state beside the one an
update changes. -/

set_option Elab.async false

namespace Sys2Proof.Machine

@[simp] theorem mget_mset_self {α : Type} (m : AMap α) (k : Nat) (v : α) : mget (mset m k v) k = some v := by
  induction m with
  | nil => simp [mset, mget]
  | cons e m ih =>
    obtain ⟨j, w⟩ := e
    unfold mset
    split
    · simp [mget]
    · split
      · simp [mget]
      · simp [mget, *]

@[simp] theorem mget_mset_ne {α : Type} (m : AMap α) {k j : Nat} (v : α) (h : j ≠ k) : mget (mset m k v) j = mget m j := by
  induction m with
  | nil => simp [mset, mget, h]
  | cons e m ih =>
    obtain ⟨i, w⟩ := e
    unfold mset
    split
    · simp [mget, h]
    · split
      · rename_i _ e
        subst e
        simp [mget, h]
      · simp [mget, ih]

@[simp] theorem mgetD_mset_self {α : Type} (m : AMap α) (k : Nat) (v d : α) : mgetD (mset m k v) k d = v := by simp [mgetD]
@[simp] theorem mgetD_mset_ne {α : Type} (m : AMap α) {k j : Nat} (v d : α) (h : j ≠ k) : mgetD (mset m k v) j d = mgetD m j d := by
  simp [mgetD, h]
@[simp] theorem mgetD_mmod_self {α : Type} (m : AMap α) (k : Nat) (d : α) (f : α → α) : mgetD (mmod m k d f) k d = f (mgetD m k d) := by
  simp [mmod]
@[simp] theorem mgetD_mmod_ne {α : Type} (m : AMap α) {k j : Nat} (d : α) (f : α → α) (h : j ≠ k) : mgetD (mmod m k d f) j d = mgetD m j d := by
  simp [mmod, h]

@[simp] theorem State.modFn_fn (s : State) (vi : Nat) (f : Fn → Fn) : (s.modFn vi f).fn vi = f (s.fn vi) := by
  simp [State.modFn, State.fn]
@[simp] theorem State.modFn_fn_ne (s : State) {vi v : Nat} (f : Fn → Fn) (h : v ≠ vi) : (s.modFn vi f).fn v = s.fn v := by
  simp [State.modFn, State.fn, h]
@[simp] theorem State.modFn_core (s : State) (vi : Nat) (f : Fn → Fn) : (s.modFn vi f).hif.core = s.hif.core := rfl
@[simp] theorem State.modFn_queue (s : State) (vi : Nat) (f : Fn → Fn) : (s.modFn vi f).hif.queue = s.hif.queue := rfl
@[simp] theorem State.modFn_linkUp (s : State) (vi : Nat) (f : Fn → Fn) : (s.modFn vi f).hif.linkUp = s.hif.linkUp := rfl
@[simp] theorem State.modFn_fwReady (s : State) (vi : Nat) (f : Fn → Fn) : (s.modFn vi f).hif.fwReady = s.hif.fwReady := rfl
@[simp] theorem State.modFn_recovery (s : State) (vi : Nat) (f : Fn → Fn) : (s.modFn vi f).hif.recovery = s.hif.recovery := rfl
@[simp] theorem State.modFn_fwEpoch (s : State) (vi : Nat) (f : Fn → Fn) : (s.modFn vi f).hif.fwEpoch = s.hif.fwEpoch := rfl
@[simp] theorem State.modFn_parked (s : State) (vi : Nat) (f : Fn → Fn) : (s.modFn vi f).hif.parked = s.hif.parked := rfl
@[simp] theorem State.modFn_held (s : State) (vi : Nat) (f : Fn → Fn) : (s.modFn vi f).hif.held = s.hif.held := rfl
@[simp] theorem State.modFn_served (s : State) (vi : Nat) (f : Fn → Fn) : (s.modFn vi f).hif.served = s.hif.served := rfl
/-- Two changes of a function that agree on what it holds are one. -/
theorem State.modFn_congr {s : State} {vi : Nat} {f g : Fn → Fn} (h : f (s.fn vi) = g (s.fn vi)) : s.modFn vi f = s.modFn vi g := by
  unfold State.modFn mmod
  rw [show f (mgetD s.hif.fns vi {}) = g (mgetD s.hif.fns vi {}) from h]
@[simp] theorem State.modInst_inst (s : State) (vi : Nat) (f : Inst → Inst) : (s.modInst vi f).inst vi = f (s.inst vi) := by
  simp [State.modInst, State.inst]
@[simp] theorem State.modInst_inst_ne (s : State) {vi v : Nat} (f : Inst → Inst) (h : v ≠ vi) : (s.modInst vi f).inst v = s.inst v := by
  simp [State.modInst, State.inst, h]
@[simp] theorem State.modFn_inst (s : State) (vi v : Nat) (f : Fn → Fn) : (s.modFn vi f).inst v = s.inst v := rfl
@[simp] theorem State.modInst_fn (s : State) (vi v : Nat) (f : Inst → Inst) : (s.modInst vi f).fn v = s.fn v := rfl
@[simp] theorem State.emit_fn (s : State) (o : Output) (v : Nat) : (s.emit o).fn v = s.fn v := rfl
@[simp] theorem State.drawn_fn (s : State) (v : Nat) : s.drawn.fn v = s.fn v := rfl
@[simp] theorem State.emit_inst (s : State) (o : Output) (v : Nat) : (s.emit o).inst v = s.inst v := rfl
@[simp] theorem State.emit_out (s : State) (o : Output) : (s.emit o).out = s.out ++ [o] := rfl
@[simp] theorem State.drawn_draws (s : State) : s.drawn.draws = s.draws + 1 := rfl
@[simp] theorem State.modPort_lport (s : State) (p : Nat) (f : Port → Port) : (s.modPort p f).lport p = f (s.lport p) := by
  simp [State.modPort, State.lport]
@[simp] theorem State.modPort_lport_ne (s : State) {p q : Nat} (f : Port → Port) (h : q ≠ p) : (s.modPort p f).lport q = s.lport q := by
  simp [State.modPort, State.lport, h]

/-! ### modFn -/

@[simp] theorem State.modFn_mono (s : State) (vi : Nat) (f : Fn → Fn) : (s.modFn vi f).mono = s.mono := rfl
@[simp] theorem State.modFn_draws (s : State) (vi : Nat) (f : Fn → Fn) : (s.modFn vi f).draws = s.draws := rfl
@[simp] theorem State.modFn_dev (s : State) (vi : Nat) (f : Fn → Fn) : (s.modFn vi f).dev = s.dev := rfl
@[simp] theorem State.modFn_port (s : State) (vi : Nat) (f : Fn → Fn) : (s.modFn vi f).port = s.port := rfl
@[simp] theorem State.modFn_frm (s : State) (vi : Nat) (f : Fn → Fn) : (s.modFn vi f).frm = s.frm := rfl
@[simp] theorem State.modFn_tim (s : State) (vi : Nat) (f : Fn → Fn) : (s.modFn vi f).tim = s.tim := rfl
@[simp] theorem State.modFn_tbl (s : State) (vi : Nat) (f : Fn → Fn) : (s.modFn vi f).tbl = s.tbl := rfl
@[simp] theorem State.modFn_mash (s : State) (vi : Nat) (f : Fn → Fn) : (s.modFn vi f).mash = s.mash := rfl
@[simp] theorem State.modFn_asa (s : State) (vi : Nat) (f : Fn → Fn) : (s.modFn vi f).asa = s.asa := rfl
@[simp] theorem State.modFn_adm (s : State) (vi : Nat) (f : Fn → Fn) : (s.modFn vi f).adm = s.adm := rfl
@[simp] theorem State.modFn_fab (s : State) (vi : Nat) (f : Fn → Fn) : (s.modFn vi f).fab = s.fab := rfl
@[simp] theorem State.modFn_rack (s : State) (vi : Nat) (f : Fn → Fn) : (s.modFn vi f).rack = s.rack := rfl
@[simp] theorem State.modFn_sch (s : State) (vi : Nat) (f : Fn → Fn) : (s.modFn vi f).sch = s.sch := rfl
@[simp] theorem State.modFn_pair (s : State) (vi : Nat) (f : Fn → Fn) : (s.modFn vi f).pair = s.pair := rfl
@[simp] theorem State.modFn_insts (s : State) (vi : Nat) (f : Fn → Fn) : (s.modFn vi f).insts = s.insts := rfl
@[simp] theorem State.modFn_sec (s : State) (vi : Nat) (f : Fn → Fn) : (s.modFn vi f).sec = s.sec := rfl
@[simp] theorem State.modFn_upd (s : State) (vi : Nat) (f : Fn → Fn) : (s.modFn vi f).upd = s.upd := rfl
@[simp] theorem State.modFn_flt (s : State) (vi : Nat) (f : Fn → Fn) : (s.modFn vi f).flt = s.flt := rfl
@[simp] theorem State.modFn_cnt (s : State) (vi : Nat) (f : Fn → Fn) : (s.modFn vi f).cnt = s.cnt := rfl
@[simp] theorem State.modFn_pwr (s : State) (vi : Nat) (f : Fn → Fn) : (s.modFn vi f).pwr = s.pwr := rfl
@[simp] theorem State.modFn_out (s : State) (vi : Nat) (f : Fn → Fn) : (s.modFn vi f).out = s.out := rfl
@[simp] theorem State.modFn_pending (s : State) (vi : Nat) (f : Fn → Fn) : (s.modFn vi f).pending = s.pending := rfl

/-! ### modInst -/

@[simp] theorem State.modInst_mono (s : State) (vi : Nat) (f : Inst → Inst) : (s.modInst vi f).mono = s.mono := rfl
@[simp] theorem State.modInst_draws (s : State) (vi : Nat) (f : Inst → Inst) : (s.modInst vi f).draws = s.draws := rfl
@[simp] theorem State.modInst_hif (s : State) (vi : Nat) (f : Inst → Inst) : (s.modInst vi f).hif = s.hif := rfl
@[simp] theorem State.modInst_dev (s : State) (vi : Nat) (f : Inst → Inst) : (s.modInst vi f).dev = s.dev := rfl
@[simp] theorem State.modInst_port (s : State) (vi : Nat) (f : Inst → Inst) : (s.modInst vi f).port = s.port := rfl
@[simp] theorem State.modInst_frm (s : State) (vi : Nat) (f : Inst → Inst) : (s.modInst vi f).frm = s.frm := rfl
@[simp] theorem State.modInst_tim (s : State) (vi : Nat) (f : Inst → Inst) : (s.modInst vi f).tim = s.tim := rfl
@[simp] theorem State.modInst_tbl (s : State) (vi : Nat) (f : Inst → Inst) : (s.modInst vi f).tbl = s.tbl := rfl
@[simp] theorem State.modInst_mash (s : State) (vi : Nat) (f : Inst → Inst) : (s.modInst vi f).mash = s.mash := rfl
@[simp] theorem State.modInst_asa (s : State) (vi : Nat) (f : Inst → Inst) : (s.modInst vi f).asa = s.asa := rfl
@[simp] theorem State.modInst_adm (s : State) (vi : Nat) (f : Inst → Inst) : (s.modInst vi f).adm = s.adm := rfl
@[simp] theorem State.modInst_fab (s : State) (vi : Nat) (f : Inst → Inst) : (s.modInst vi f).fab = s.fab := rfl
@[simp] theorem State.modInst_rack (s : State) (vi : Nat) (f : Inst → Inst) : (s.modInst vi f).rack = s.rack := rfl
@[simp] theorem State.modInst_sch (s : State) (vi : Nat) (f : Inst → Inst) : (s.modInst vi f).sch = s.sch := rfl
@[simp] theorem State.modInst_pair (s : State) (vi : Nat) (f : Inst → Inst) : (s.modInst vi f).pair = s.pair := rfl
@[simp] theorem State.modInst_sec (s : State) (vi : Nat) (f : Inst → Inst) : (s.modInst vi f).sec = s.sec := rfl
@[simp] theorem State.modInst_upd (s : State) (vi : Nat) (f : Inst → Inst) : (s.modInst vi f).upd = s.upd := rfl
@[simp] theorem State.modInst_flt (s : State) (vi : Nat) (f : Inst → Inst) : (s.modInst vi f).flt = s.flt := rfl
@[simp] theorem State.modInst_cnt (s : State) (vi : Nat) (f : Inst → Inst) : (s.modInst vi f).cnt = s.cnt := rfl
@[simp] theorem State.modInst_pwr (s : State) (vi : Nat) (f : Inst → Inst) : (s.modInst vi f).pwr = s.pwr := rfl
@[simp] theorem State.modInst_out (s : State) (vi : Nat) (f : Inst → Inst) : (s.modInst vi f).out = s.out := rfl
@[simp] theorem State.modInst_pending (s : State) (vi : Nat) (f : Inst → Inst) : (s.modInst vi f).pending = s.pending := rfl

/-! ### emit -/

@[simp] theorem State.emit_mono (s : State) (o : Output) : (s.emit o).mono = s.mono := rfl
@[simp] theorem State.emit_draws (s : State) (o : Output) : (s.emit o).draws = s.draws := rfl
@[simp] theorem State.emit_hif (s : State) (o : Output) : (s.emit o).hif = s.hif := rfl
@[simp] theorem State.emit_dev (s : State) (o : Output) : (s.emit o).dev = s.dev := rfl
@[simp] theorem State.emit_port (s : State) (o : Output) : (s.emit o).port = s.port := rfl
@[simp] theorem State.emit_frm (s : State) (o : Output) : (s.emit o).frm = s.frm := rfl
@[simp] theorem State.emit_tim (s : State) (o : Output) : (s.emit o).tim = s.tim := rfl
@[simp] theorem State.emit_tbl (s : State) (o : Output) : (s.emit o).tbl = s.tbl := rfl
@[simp] theorem State.emit_mash (s : State) (o : Output) : (s.emit o).mash = s.mash := rfl
@[simp] theorem State.emit_asa (s : State) (o : Output) : (s.emit o).asa = s.asa := rfl
@[simp] theorem State.emit_adm (s : State) (o : Output) : (s.emit o).adm = s.adm := rfl
@[simp] theorem State.emit_fab (s : State) (o : Output) : (s.emit o).fab = s.fab := rfl
@[simp] theorem State.emit_rack (s : State) (o : Output) : (s.emit o).rack = s.rack := rfl
@[simp] theorem State.emit_sch (s : State) (o : Output) : (s.emit o).sch = s.sch := rfl
@[simp] theorem State.emit_pair (s : State) (o : Output) : (s.emit o).pair = s.pair := rfl
@[simp] theorem State.emit_insts (s : State) (o : Output) : (s.emit o).insts = s.insts := rfl
@[simp] theorem State.emit_sec (s : State) (o : Output) : (s.emit o).sec = s.sec := rfl
@[simp] theorem State.emit_upd (s : State) (o : Output) : (s.emit o).upd = s.upd := rfl
@[simp] theorem State.emit_flt (s : State) (o : Output) : (s.emit o).flt = s.flt := rfl
@[simp] theorem State.emit_cnt (s : State) (o : Output) : (s.emit o).cnt = s.cnt := rfl
@[simp] theorem State.emit_pwr (s : State) (o : Output) : (s.emit o).pwr = s.pwr := rfl
@[simp] theorem State.emit_pending (s : State) (o : Output) : (s.emit o).pending = s.pending := rfl

/-! ### drawn -/

@[simp] theorem State.drawn_mono (s : State) : s.drawn.mono = s.mono := rfl
@[simp] theorem State.drawn_hif (s : State) : s.drawn.hif = s.hif := rfl
@[simp] theorem State.drawn_dev (s : State) : s.drawn.dev = s.dev := rfl
@[simp] theorem State.drawn_port (s : State) : s.drawn.port = s.port := rfl
@[simp] theorem State.drawn_frm (s : State) : s.drawn.frm = s.frm := rfl
@[simp] theorem State.drawn_tim (s : State) : s.drawn.tim = s.tim := rfl
@[simp] theorem State.drawn_tbl (s : State) : s.drawn.tbl = s.tbl := rfl
@[simp] theorem State.drawn_mash (s : State) : s.drawn.mash = s.mash := rfl
@[simp] theorem State.drawn_asa (s : State) : s.drawn.asa = s.asa := rfl
@[simp] theorem State.drawn_adm (s : State) : s.drawn.adm = s.adm := rfl
@[simp] theorem State.drawn_fab (s : State) : s.drawn.fab = s.fab := rfl
@[simp] theorem State.drawn_rack (s : State) : s.drawn.rack = s.rack := rfl
@[simp] theorem State.drawn_sch (s : State) : s.drawn.sch = s.sch := rfl
@[simp] theorem State.drawn_pair (s : State) : s.drawn.pair = s.pair := rfl
@[simp] theorem State.drawn_insts (s : State) : s.drawn.insts = s.insts := rfl
@[simp] theorem State.drawn_sec (s : State) : s.drawn.sec = s.sec := rfl
@[simp] theorem State.drawn_upd (s : State) : s.drawn.upd = s.upd := rfl
@[simp] theorem State.drawn_flt (s : State) : s.drawn.flt = s.flt := rfl
@[simp] theorem State.drawn_cnt (s : State) : s.drawn.cnt = s.cnt := rfl
@[simp] theorem State.drawn_pwr (s : State) : s.drawn.pwr = s.pwr := rfl
@[simp] theorem State.drawn_out (s : State) : s.drawn.out = s.out := rfl
@[simp] theorem State.drawn_pending (s : State) : s.drawn.pending = s.pending := rfl

/-! ### modAdm -/

@[simp] theorem State.modAdm_mono (s : State) (f : Adm → Adm) : (s.modAdm f).mono = s.mono := rfl
@[simp] theorem State.modAdm_draws (s : State) (f : Adm → Adm) : (s.modAdm f).draws = s.draws := rfl
@[simp] theorem State.modAdm_hif (s : State) (f : Adm → Adm) : (s.modAdm f).hif = s.hif := rfl
@[simp] theorem State.modAdm_dev (s : State) (f : Adm → Adm) : (s.modAdm f).dev = s.dev := rfl
@[simp] theorem State.modAdm_port (s : State) (f : Adm → Adm) : (s.modAdm f).port = s.port := rfl
@[simp] theorem State.modAdm_frm (s : State) (f : Adm → Adm) : (s.modAdm f).frm = s.frm := rfl
@[simp] theorem State.modAdm_tim (s : State) (f : Adm → Adm) : (s.modAdm f).tim = s.tim := rfl
@[simp] theorem State.modAdm_tbl (s : State) (f : Adm → Adm) : (s.modAdm f).tbl = s.tbl := rfl
@[simp] theorem State.modAdm_mash (s : State) (f : Adm → Adm) : (s.modAdm f).mash = s.mash := rfl
@[simp] theorem State.modAdm_asa (s : State) (f : Adm → Adm) : (s.modAdm f).asa = s.asa := rfl
@[simp] theorem State.modAdm_fab (s : State) (f : Adm → Adm) : (s.modAdm f).fab = s.fab := rfl
@[simp] theorem State.modAdm_rack (s : State) (f : Adm → Adm) : (s.modAdm f).rack = s.rack := rfl
@[simp] theorem State.modAdm_sch (s : State) (f : Adm → Adm) : (s.modAdm f).sch = s.sch := rfl
@[simp] theorem State.modAdm_pair (s : State) (f : Adm → Adm) : (s.modAdm f).pair = s.pair := rfl
@[simp] theorem State.modAdm_insts (s : State) (f : Adm → Adm) : (s.modAdm f).insts = s.insts := rfl
@[simp] theorem State.modAdm_sec (s : State) (f : Adm → Adm) : (s.modAdm f).sec = s.sec := rfl
@[simp] theorem State.modAdm_upd (s : State) (f : Adm → Adm) : (s.modAdm f).upd = s.upd := rfl
@[simp] theorem State.modAdm_flt (s : State) (f : Adm → Adm) : (s.modAdm f).flt = s.flt := rfl
@[simp] theorem State.modAdm_cnt (s : State) (f : Adm → Adm) : (s.modAdm f).cnt = s.cnt := rfl
@[simp] theorem State.modAdm_pwr (s : State) (f : Adm → Adm) : (s.modAdm f).pwr = s.pwr := rfl
@[simp] theorem State.modAdm_out (s : State) (f : Adm → Adm) : (s.modAdm f).out = s.out := rfl
@[simp] theorem State.modAdm_pending (s : State) (f : Adm → Adm) : (s.modAdm f).pending = s.pending := rfl

/-! ### modFab -/

@[simp] theorem State.modFab_mono (s : State) (f : Fab → Fab) : (s.modFab f).mono = s.mono := rfl
@[simp] theorem State.modFab_draws (s : State) (f : Fab → Fab) : (s.modFab f).draws = s.draws := rfl
@[simp] theorem State.modFab_hif (s : State) (f : Fab → Fab) : (s.modFab f).hif = s.hif := rfl
@[simp] theorem State.modFab_dev (s : State) (f : Fab → Fab) : (s.modFab f).dev = s.dev := rfl
@[simp] theorem State.modFab_port (s : State) (f : Fab → Fab) : (s.modFab f).port = s.port := rfl
@[simp] theorem State.modFab_frm (s : State) (f : Fab → Fab) : (s.modFab f).frm = s.frm := rfl
@[simp] theorem State.modFab_tim (s : State) (f : Fab → Fab) : (s.modFab f).tim = s.tim := rfl
@[simp] theorem State.modFab_tbl (s : State) (f : Fab → Fab) : (s.modFab f).tbl = s.tbl := rfl
@[simp] theorem State.modFab_mash (s : State) (f : Fab → Fab) : (s.modFab f).mash = s.mash := rfl
@[simp] theorem State.modFab_asa (s : State) (f : Fab → Fab) : (s.modFab f).asa = s.asa := rfl
@[simp] theorem State.modFab_adm (s : State) (f : Fab → Fab) : (s.modFab f).adm = s.adm := rfl
@[simp] theorem State.modFab_rack (s : State) (f : Fab → Fab) : (s.modFab f).rack = s.rack := rfl
@[simp] theorem State.modFab_sch (s : State) (f : Fab → Fab) : (s.modFab f).sch = s.sch := rfl
@[simp] theorem State.modFab_pair (s : State) (f : Fab → Fab) : (s.modFab f).pair = s.pair := rfl
@[simp] theorem State.modFab_insts (s : State) (f : Fab → Fab) : (s.modFab f).insts = s.insts := rfl
@[simp] theorem State.modFab_sec (s : State) (f : Fab → Fab) : (s.modFab f).sec = s.sec := rfl
@[simp] theorem State.modFab_upd (s : State) (f : Fab → Fab) : (s.modFab f).upd = s.upd := rfl
@[simp] theorem State.modFab_flt (s : State) (f : Fab → Fab) : (s.modFab f).flt = s.flt := rfl
@[simp] theorem State.modFab_cnt (s : State) (f : Fab → Fab) : (s.modFab f).cnt = s.cnt := rfl
@[simp] theorem State.modFab_pwr (s : State) (f : Fab → Fab) : (s.modFab f).pwr = s.pwr := rfl
@[simp] theorem State.modFab_out (s : State) (f : Fab → Fab) : (s.modFab f).out = s.out := rfl
@[simp] theorem State.modFab_pending (s : State) (f : Fab → Fab) : (s.modFab f).pending = s.pending := rfl

/-! ### modMash -/

@[simp] theorem State.modMash_mono (s : State) (f : Mash → Mash) : (s.modMash f).mono = s.mono := rfl
@[simp] theorem State.modMash_draws (s : State) (f : Mash → Mash) : (s.modMash f).draws = s.draws := rfl
@[simp] theorem State.modMash_hif (s : State) (f : Mash → Mash) : (s.modMash f).hif = s.hif := rfl
@[simp] theorem State.modMash_dev (s : State) (f : Mash → Mash) : (s.modMash f).dev = s.dev := rfl
@[simp] theorem State.modMash_port (s : State) (f : Mash → Mash) : (s.modMash f).port = s.port := rfl
@[simp] theorem State.modMash_frm (s : State) (f : Mash → Mash) : (s.modMash f).frm = s.frm := rfl
@[simp] theorem State.modMash_tim (s : State) (f : Mash → Mash) : (s.modMash f).tim = s.tim := rfl
@[simp] theorem State.modMash_tbl (s : State) (f : Mash → Mash) : (s.modMash f).tbl = s.tbl := rfl
@[simp] theorem State.modMash_asa (s : State) (f : Mash → Mash) : (s.modMash f).asa = s.asa := rfl
@[simp] theorem State.modMash_adm (s : State) (f : Mash → Mash) : (s.modMash f).adm = s.adm := rfl
@[simp] theorem State.modMash_fab (s : State) (f : Mash → Mash) : (s.modMash f).fab = s.fab := rfl
@[simp] theorem State.modMash_rack (s : State) (f : Mash → Mash) : (s.modMash f).rack = s.rack := rfl
@[simp] theorem State.modMash_sch (s : State) (f : Mash → Mash) : (s.modMash f).sch = s.sch := rfl
@[simp] theorem State.modMash_pair (s : State) (f : Mash → Mash) : (s.modMash f).pair = s.pair := rfl
@[simp] theorem State.modMash_insts (s : State) (f : Mash → Mash) : (s.modMash f).insts = s.insts := rfl
@[simp] theorem State.modMash_sec (s : State) (f : Mash → Mash) : (s.modMash f).sec = s.sec := rfl
@[simp] theorem State.modMash_upd (s : State) (f : Mash → Mash) : (s.modMash f).upd = s.upd := rfl
@[simp] theorem State.modMash_flt (s : State) (f : Mash → Mash) : (s.modMash f).flt = s.flt := rfl
@[simp] theorem State.modMash_cnt (s : State) (f : Mash → Mash) : (s.modMash f).cnt = s.cnt := rfl
@[simp] theorem State.modMash_pwr (s : State) (f : Mash → Mash) : (s.modMash f).pwr = s.pwr := rfl
@[simp] theorem State.modMash_out (s : State) (f : Mash → Mash) : (s.modMash f).out = s.out := rfl
@[simp] theorem State.modMash_pending (s : State) (f : Mash → Mash) : (s.modMash f).pending = s.pending := rfl

/-! ### modRack -/

@[simp] theorem State.modRack_mono (s : State) (f : Rack → Rack) : (s.modRack f).mono = s.mono := rfl
@[simp] theorem State.modRack_draws (s : State) (f : Rack → Rack) : (s.modRack f).draws = s.draws := rfl
@[simp] theorem State.modRack_hif (s : State) (f : Rack → Rack) : (s.modRack f).hif = s.hif := rfl
@[simp] theorem State.modRack_dev (s : State) (f : Rack → Rack) : (s.modRack f).dev = s.dev := rfl
@[simp] theorem State.modRack_port (s : State) (f : Rack → Rack) : (s.modRack f).port = s.port := rfl
@[simp] theorem State.modRack_frm (s : State) (f : Rack → Rack) : (s.modRack f).frm = s.frm := rfl
@[simp] theorem State.modRack_tim (s : State) (f : Rack → Rack) : (s.modRack f).tim = s.tim := rfl
@[simp] theorem State.modRack_tbl (s : State) (f : Rack → Rack) : (s.modRack f).tbl = s.tbl := rfl
@[simp] theorem State.modRack_mash (s : State) (f : Rack → Rack) : (s.modRack f).mash = s.mash := rfl
@[simp] theorem State.modRack_asa (s : State) (f : Rack → Rack) : (s.modRack f).asa = s.asa := rfl
@[simp] theorem State.modRack_adm (s : State) (f : Rack → Rack) : (s.modRack f).adm = s.adm := rfl
@[simp] theorem State.modRack_fab (s : State) (f : Rack → Rack) : (s.modRack f).fab = s.fab := rfl
@[simp] theorem State.modRack_sch (s : State) (f : Rack → Rack) : (s.modRack f).sch = s.sch := rfl
@[simp] theorem State.modRack_pair (s : State) (f : Rack → Rack) : (s.modRack f).pair = s.pair := rfl
@[simp] theorem State.modRack_insts (s : State) (f : Rack → Rack) : (s.modRack f).insts = s.insts := rfl
@[simp] theorem State.modRack_sec (s : State) (f : Rack → Rack) : (s.modRack f).sec = s.sec := rfl
@[simp] theorem State.modRack_upd (s : State) (f : Rack → Rack) : (s.modRack f).upd = s.upd := rfl
@[simp] theorem State.modRack_flt (s : State) (f : Rack → Rack) : (s.modRack f).flt = s.flt := rfl
@[simp] theorem State.modRack_cnt (s : State) (f : Rack → Rack) : (s.modRack f).cnt = s.cnt := rfl
@[simp] theorem State.modRack_pwr (s : State) (f : Rack → Rack) : (s.modRack f).pwr = s.pwr := rfl
@[simp] theorem State.modRack_out (s : State) (f : Rack → Rack) : (s.modRack f).out = s.out := rfl
@[simp] theorem State.modRack_pending (s : State) (f : Rack → Rack) : (s.modRack f).pending = s.pending := rfl

/-! ### modSch -/

@[simp] theorem State.modSch_mono (s : State) (f : Sch → Sch) : (s.modSch f).mono = s.mono := rfl
@[simp] theorem State.modSch_draws (s : State) (f : Sch → Sch) : (s.modSch f).draws = s.draws := rfl
@[simp] theorem State.modSch_hif (s : State) (f : Sch → Sch) : (s.modSch f).hif = s.hif := rfl
@[simp] theorem State.modSch_dev (s : State) (f : Sch → Sch) : (s.modSch f).dev = s.dev := rfl
@[simp] theorem State.modSch_port (s : State) (f : Sch → Sch) : (s.modSch f).port = s.port := rfl
@[simp] theorem State.modSch_frm (s : State) (f : Sch → Sch) : (s.modSch f).frm = s.frm := rfl
@[simp] theorem State.modSch_tim (s : State) (f : Sch → Sch) : (s.modSch f).tim = s.tim := rfl
@[simp] theorem State.modSch_tbl (s : State) (f : Sch → Sch) : (s.modSch f).tbl = s.tbl := rfl
@[simp] theorem State.modSch_mash (s : State) (f : Sch → Sch) : (s.modSch f).mash = s.mash := rfl
@[simp] theorem State.modSch_asa (s : State) (f : Sch → Sch) : (s.modSch f).asa = s.asa := rfl
@[simp] theorem State.modSch_adm (s : State) (f : Sch → Sch) : (s.modSch f).adm = s.adm := rfl
@[simp] theorem State.modSch_fab (s : State) (f : Sch → Sch) : (s.modSch f).fab = s.fab := rfl
@[simp] theorem State.modSch_rack (s : State) (f : Sch → Sch) : (s.modSch f).rack = s.rack := rfl
@[simp] theorem State.modSch_pair (s : State) (f : Sch → Sch) : (s.modSch f).pair = s.pair := rfl
@[simp] theorem State.modSch_insts (s : State) (f : Sch → Sch) : (s.modSch f).insts = s.insts := rfl
@[simp] theorem State.modSch_sec (s : State) (f : Sch → Sch) : (s.modSch f).sec = s.sec := rfl
@[simp] theorem State.modSch_upd (s : State) (f : Sch → Sch) : (s.modSch f).upd = s.upd := rfl
@[simp] theorem State.modSch_flt (s : State) (f : Sch → Sch) : (s.modSch f).flt = s.flt := rfl
@[simp] theorem State.modSch_cnt (s : State) (f : Sch → Sch) : (s.modSch f).cnt = s.cnt := rfl
@[simp] theorem State.modSch_pwr (s : State) (f : Sch → Sch) : (s.modSch f).pwr = s.pwr := rfl
@[simp] theorem State.modSch_out (s : State) (f : Sch → Sch) : (s.modSch f).out = s.out := rfl
@[simp] theorem State.modSch_pending (s : State) (f : Sch → Sch) : (s.modSch f).pending = s.pending := rfl

/-! ### modPair -/

@[simp] theorem State.modPair_mono (s : State) (f : Pair → Pair) : (s.modPair f).mono = s.mono := rfl
@[simp] theorem State.modPair_draws (s : State) (f : Pair → Pair) : (s.modPair f).draws = s.draws := rfl
@[simp] theorem State.modPair_hif (s : State) (f : Pair → Pair) : (s.modPair f).hif = s.hif := rfl
@[simp] theorem State.modPair_dev (s : State) (f : Pair → Pair) : (s.modPair f).dev = s.dev := rfl
@[simp] theorem State.modPair_port (s : State) (f : Pair → Pair) : (s.modPair f).port = s.port := rfl
@[simp] theorem State.modPair_frm (s : State) (f : Pair → Pair) : (s.modPair f).frm = s.frm := rfl
@[simp] theorem State.modPair_tim (s : State) (f : Pair → Pair) : (s.modPair f).tim = s.tim := rfl
@[simp] theorem State.modPair_tbl (s : State) (f : Pair → Pair) : (s.modPair f).tbl = s.tbl := rfl
@[simp] theorem State.modPair_mash (s : State) (f : Pair → Pair) : (s.modPair f).mash = s.mash := rfl
@[simp] theorem State.modPair_asa (s : State) (f : Pair → Pair) : (s.modPair f).asa = s.asa := rfl
@[simp] theorem State.modPair_adm (s : State) (f : Pair → Pair) : (s.modPair f).adm = s.adm := rfl
@[simp] theorem State.modPair_fab (s : State) (f : Pair → Pair) : (s.modPair f).fab = s.fab := rfl
@[simp] theorem State.modPair_rack (s : State) (f : Pair → Pair) : (s.modPair f).rack = s.rack := rfl
@[simp] theorem State.modPair_sch (s : State) (f : Pair → Pair) : (s.modPair f).sch = s.sch := rfl
@[simp] theorem State.modPair_insts (s : State) (f : Pair → Pair) : (s.modPair f).insts = s.insts := rfl
@[simp] theorem State.modPair_sec (s : State) (f : Pair → Pair) : (s.modPair f).sec = s.sec := rfl
@[simp] theorem State.modPair_upd (s : State) (f : Pair → Pair) : (s.modPair f).upd = s.upd := rfl
@[simp] theorem State.modPair_flt (s : State) (f : Pair → Pair) : (s.modPair f).flt = s.flt := rfl
@[simp] theorem State.modPair_cnt (s : State) (f : Pair → Pair) : (s.modPair f).cnt = s.cnt := rfl
@[simp] theorem State.modPair_pwr (s : State) (f : Pair → Pair) : (s.modPair f).pwr = s.pwr := rfl
@[simp] theorem State.modPair_out (s : State) (f : Pair → Pair) : (s.modPair f).out = s.out := rfl
@[simp] theorem State.modPair_pending (s : State) (f : Pair → Pair) : (s.modPair f).pending = s.pending := rfl

/-! ### modSec -/

@[simp] theorem State.modSec_mono (s : State) (f : Sec → Sec) : (s.modSec f).mono = s.mono := rfl
@[simp] theorem State.modSec_draws (s : State) (f : Sec → Sec) : (s.modSec f).draws = s.draws := rfl
@[simp] theorem State.modSec_hif (s : State) (f : Sec → Sec) : (s.modSec f).hif = s.hif := rfl
@[simp] theorem State.modSec_dev (s : State) (f : Sec → Sec) : (s.modSec f).dev = s.dev := rfl
@[simp] theorem State.modSec_port (s : State) (f : Sec → Sec) : (s.modSec f).port = s.port := rfl
@[simp] theorem State.modSec_frm (s : State) (f : Sec → Sec) : (s.modSec f).frm = s.frm := rfl
@[simp] theorem State.modSec_tim (s : State) (f : Sec → Sec) : (s.modSec f).tim = s.tim := rfl
@[simp] theorem State.modSec_tbl (s : State) (f : Sec → Sec) : (s.modSec f).tbl = s.tbl := rfl
@[simp] theorem State.modSec_mash (s : State) (f : Sec → Sec) : (s.modSec f).mash = s.mash := rfl
@[simp] theorem State.modSec_asa (s : State) (f : Sec → Sec) : (s.modSec f).asa = s.asa := rfl
@[simp] theorem State.modSec_adm (s : State) (f : Sec → Sec) : (s.modSec f).adm = s.adm := rfl
@[simp] theorem State.modSec_fab (s : State) (f : Sec → Sec) : (s.modSec f).fab = s.fab := rfl
@[simp] theorem State.modSec_rack (s : State) (f : Sec → Sec) : (s.modSec f).rack = s.rack := rfl
@[simp] theorem State.modSec_sch (s : State) (f : Sec → Sec) : (s.modSec f).sch = s.sch := rfl
@[simp] theorem State.modSec_pair (s : State) (f : Sec → Sec) : (s.modSec f).pair = s.pair := rfl
@[simp] theorem State.modSec_insts (s : State) (f : Sec → Sec) : (s.modSec f).insts = s.insts := rfl
@[simp] theorem State.modSec_upd (s : State) (f : Sec → Sec) : (s.modSec f).upd = s.upd := rfl
@[simp] theorem State.modSec_flt (s : State) (f : Sec → Sec) : (s.modSec f).flt = s.flt := rfl
@[simp] theorem State.modSec_cnt (s : State) (f : Sec → Sec) : (s.modSec f).cnt = s.cnt := rfl
@[simp] theorem State.modSec_pwr (s : State) (f : Sec → Sec) : (s.modSec f).pwr = s.pwr := rfl
@[simp] theorem State.modSec_out (s : State) (f : Sec → Sec) : (s.modSec f).out = s.out := rfl
@[simp] theorem State.modSec_pending (s : State) (f : Sec → Sec) : (s.modSec f).pending = s.pending := rfl

/-! ### modPort -/

@[simp] theorem State.modPort_mono (s : State) (p : Nat) (f : Port → Port) : (s.modPort p f).mono = s.mono := rfl
@[simp] theorem State.modPort_draws (s : State) (p : Nat) (f : Port → Port) : (s.modPort p f).draws = s.draws := rfl
@[simp] theorem State.modPort_hif (s : State) (p : Nat) (f : Port → Port) : (s.modPort p f).hif = s.hif := rfl
@[simp] theorem State.modPort_dev (s : State) (p : Nat) (f : Port → Port) : (s.modPort p f).dev = s.dev := rfl
@[simp] theorem State.modPort_frm (s : State) (p : Nat) (f : Port → Port) : (s.modPort p f).frm = s.frm := rfl
@[simp] theorem State.modPort_tim (s : State) (p : Nat) (f : Port → Port) : (s.modPort p f).tim = s.tim := rfl
@[simp] theorem State.modPort_tbl (s : State) (p : Nat) (f : Port → Port) : (s.modPort p f).tbl = s.tbl := rfl
@[simp] theorem State.modPort_mash (s : State) (p : Nat) (f : Port → Port) : (s.modPort p f).mash = s.mash := rfl
@[simp] theorem State.modPort_asa (s : State) (p : Nat) (f : Port → Port) : (s.modPort p f).asa = s.asa := rfl
@[simp] theorem State.modPort_adm (s : State) (p : Nat) (f : Port → Port) : (s.modPort p f).adm = s.adm := rfl
@[simp] theorem State.modPort_fab (s : State) (p : Nat) (f : Port → Port) : (s.modPort p f).fab = s.fab := rfl
@[simp] theorem State.modPort_rack (s : State) (p : Nat) (f : Port → Port) : (s.modPort p f).rack = s.rack := rfl
@[simp] theorem State.modPort_sch (s : State) (p : Nat) (f : Port → Port) : (s.modPort p f).sch = s.sch := rfl
@[simp] theorem State.modPort_pair (s : State) (p : Nat) (f : Port → Port) : (s.modPort p f).pair = s.pair := rfl
@[simp] theorem State.modPort_insts (s : State) (p : Nat) (f : Port → Port) : (s.modPort p f).insts = s.insts := rfl
@[simp] theorem State.modPort_sec (s : State) (p : Nat) (f : Port → Port) : (s.modPort p f).sec = s.sec := rfl
@[simp] theorem State.modPort_upd (s : State) (p : Nat) (f : Port → Port) : (s.modPort p f).upd = s.upd := rfl
@[simp] theorem State.modPort_flt (s : State) (p : Nat) (f : Port → Port) : (s.modPort p f).flt = s.flt := rfl
@[simp] theorem State.modPort_cnt (s : State) (p : Nat) (f : Port → Port) : (s.modPort p f).cnt = s.cnt := rfl
@[simp] theorem State.modPort_pwr (s : State) (p : Nat) (f : Port → Port) : (s.modPort p f).pwr = s.pwr := rfl
@[simp] theorem State.modPort_out (s : State) (p : Nat) (f : Port → Port) : (s.modPort p f).out = s.out := rfl
@[simp] theorem State.modPort_pending (s : State) (p : Nat) (f : Port → Port) : (s.modPort p f).pending = s.pending := rfl

/-! ### modEport -/

@[simp] theorem State.modEport_mono (s : State) (p : Nat) (f : EPort → EPort) : (s.modEport p f).mono = s.mono := rfl
@[simp] theorem State.modEport_draws (s : State) (p : Nat) (f : EPort → EPort) : (s.modEport p f).draws = s.draws := rfl
@[simp] theorem State.modEport_hif (s : State) (p : Nat) (f : EPort → EPort) : (s.modEport p f).hif = s.hif := rfl
@[simp] theorem State.modEport_dev (s : State) (p : Nat) (f : EPort → EPort) : (s.modEport p f).dev = s.dev := rfl
@[simp] theorem State.modEport_port (s : State) (p : Nat) (f : EPort → EPort) : (s.modEport p f).port = s.port := rfl
@[simp] theorem State.modEport_frm (s : State) (p : Nat) (f : EPort → EPort) : (s.modEport p f).frm = s.frm := rfl
@[simp] theorem State.modEport_tim (s : State) (p : Nat) (f : EPort → EPort) : (s.modEport p f).tim = s.tim := rfl
@[simp] theorem State.modEport_tbl (s : State) (p : Nat) (f : EPort → EPort) : (s.modEport p f).tbl = s.tbl := rfl
@[simp] theorem State.modEport_mash (s : State) (p : Nat) (f : EPort → EPort) : (s.modEport p f).mash = s.mash := rfl
@[simp] theorem State.modEport_asa (s : State) (p : Nat) (f : EPort → EPort) : (s.modEport p f).asa = s.asa := rfl
@[simp] theorem State.modEport_adm (s : State) (p : Nat) (f : EPort → EPort) : (s.modEport p f).adm = s.adm := rfl
@[simp] theorem State.modEport_fab (s : State) (p : Nat) (f : EPort → EPort) : (s.modEport p f).fab = s.fab := rfl
@[simp] theorem State.modEport_rack (s : State) (p : Nat) (f : EPort → EPort) : (s.modEport p f).rack = s.rack := rfl
@[simp] theorem State.modEport_pair (s : State) (p : Nat) (f : EPort → EPort) : (s.modEport p f).pair = s.pair := rfl
@[simp] theorem State.modEport_insts (s : State) (p : Nat) (f : EPort → EPort) : (s.modEport p f).insts = s.insts := rfl
@[simp] theorem State.modEport_sec (s : State) (p : Nat) (f : EPort → EPort) : (s.modEport p f).sec = s.sec := rfl
@[simp] theorem State.modEport_upd (s : State) (p : Nat) (f : EPort → EPort) : (s.modEport p f).upd = s.upd := rfl
@[simp] theorem State.modEport_flt (s : State) (p : Nat) (f : EPort → EPort) : (s.modEport p f).flt = s.flt := rfl
@[simp] theorem State.modEport_cnt (s : State) (p : Nat) (f : EPort → EPort) : (s.modEport p f).cnt = s.cnt := rfl
@[simp] theorem State.modEport_pwr (s : State) (p : Nat) (f : EPort → EPort) : (s.modEport p f).pwr = s.pwr := rfl
@[simp] theorem State.modEport_out (s : State) (p : Nat) (f : EPort → EPort) : (s.modEport p f).out = s.out := rfl
@[simp] theorem State.modEport_pending (s : State) (p : Nat) (f : EPort → EPort) : (s.modEport p f).pending = s.pending := rfl

/-! ### modPcfg -/

@[simp] theorem State.modPcfg_mono (s : State) (p : Nat) (f : PortCfg → PortCfg) : (s.modPcfg p f).mono = s.mono := rfl
@[simp] theorem State.modPcfg_draws (s : State) (p : Nat) (f : PortCfg → PortCfg) : (s.modPcfg p f).draws = s.draws := rfl
@[simp] theorem State.modPcfg_hif (s : State) (p : Nat) (f : PortCfg → PortCfg) : (s.modPcfg p f).hif = s.hif := rfl
@[simp] theorem State.modPcfg_dev (s : State) (p : Nat) (f : PortCfg → PortCfg) : (s.modPcfg p f).dev = s.dev := rfl
@[simp] theorem State.modPcfg_frm (s : State) (p : Nat) (f : PortCfg → PortCfg) : (s.modPcfg p f).frm = s.frm := rfl
@[simp] theorem State.modPcfg_tim (s : State) (p : Nat) (f : PortCfg → PortCfg) : (s.modPcfg p f).tim = s.tim := rfl
@[simp] theorem State.modPcfg_tbl (s : State) (p : Nat) (f : PortCfg → PortCfg) : (s.modPcfg p f).tbl = s.tbl := rfl
@[simp] theorem State.modPcfg_mash (s : State) (p : Nat) (f : PortCfg → PortCfg) : (s.modPcfg p f).mash = s.mash := rfl
@[simp] theorem State.modPcfg_asa (s : State) (p : Nat) (f : PortCfg → PortCfg) : (s.modPcfg p f).asa = s.asa := rfl
@[simp] theorem State.modPcfg_adm (s : State) (p : Nat) (f : PortCfg → PortCfg) : (s.modPcfg p f).adm = s.adm := rfl
@[simp] theorem State.modPcfg_fab (s : State) (p : Nat) (f : PortCfg → PortCfg) : (s.modPcfg p f).fab = s.fab := rfl
@[simp] theorem State.modPcfg_rack (s : State) (p : Nat) (f : PortCfg → PortCfg) : (s.modPcfg p f).rack = s.rack := rfl
@[simp] theorem State.modPcfg_sch (s : State) (p : Nat) (f : PortCfg → PortCfg) : (s.modPcfg p f).sch = s.sch := rfl
@[simp] theorem State.modPcfg_pair (s : State) (p : Nat) (f : PortCfg → PortCfg) : (s.modPcfg p f).pair = s.pair := rfl
@[simp] theorem State.modPcfg_insts (s : State) (p : Nat) (f : PortCfg → PortCfg) : (s.modPcfg p f).insts = s.insts := rfl
@[simp] theorem State.modPcfg_sec (s : State) (p : Nat) (f : PortCfg → PortCfg) : (s.modPcfg p f).sec = s.sec := rfl
@[simp] theorem State.modPcfg_upd (s : State) (p : Nat) (f : PortCfg → PortCfg) : (s.modPcfg p f).upd = s.upd := rfl
@[simp] theorem State.modPcfg_flt (s : State) (p : Nat) (f : PortCfg → PortCfg) : (s.modPcfg p f).flt = s.flt := rfl
@[simp] theorem State.modPcfg_cnt (s : State) (p : Nat) (f : PortCfg → PortCfg) : (s.modPcfg p f).cnt = s.cnt := rfl
@[simp] theorem State.modPcfg_pwr (s : State) (p : Nat) (f : PortCfg → PortCfg) : (s.modPcfg p f).pwr = s.pwr := rfl
@[simp] theorem State.modPcfg_out (s : State) (p : Nat) (f : PortCfg → PortCfg) : (s.modPcfg p f).out = s.out := rfl
@[simp] theorem State.modPcfg_pending (s : State) (p : Nat) (f : PortCfg → PortCfg) : (s.modPcfg p f).pending = s.pending := rfl

/-! ### setDom -/

@[simp] theorem State.setDom_mono (s : State) (p : Nat) (d : DomState) : (s.setDom p d).mono = s.mono := rfl
@[simp] theorem State.setDom_draws (s : State) (p : Nat) (d : DomState) : (s.setDom p d).draws = s.draws := rfl
@[simp] theorem State.setDom_hif (s : State) (p : Nat) (d : DomState) : (s.setDom p d).hif = s.hif := rfl
@[simp] theorem State.setDom_dev (s : State) (p : Nat) (d : DomState) : (s.setDom p d).dev = s.dev := rfl
@[simp] theorem State.setDom_port (s : State) (p : Nat) (d : DomState) : (s.setDom p d).port = s.port := rfl
@[simp] theorem State.setDom_frm (s : State) (p : Nat) (d : DomState) : (s.setDom p d).frm = s.frm := rfl
@[simp] theorem State.setDom_tim (s : State) (p : Nat) (d : DomState) : (s.setDom p d).tim = s.tim := rfl
@[simp] theorem State.setDom_tbl (s : State) (p : Nat) (d : DomState) : (s.setDom p d).tbl = s.tbl := rfl
@[simp] theorem State.setDom_mash (s : State) (p : Nat) (d : DomState) : (s.setDom p d).mash = s.mash := rfl
@[simp] theorem State.setDom_asa (s : State) (p : Nat) (d : DomState) : (s.setDom p d).asa = s.asa := rfl
@[simp] theorem State.setDom_adm (s : State) (p : Nat) (d : DomState) : (s.setDom p d).adm = s.adm := rfl
@[simp] theorem State.setDom_fab (s : State) (p : Nat) (d : DomState) : (s.setDom p d).fab = s.fab := rfl
@[simp] theorem State.setDom_rack (s : State) (p : Nat) (d : DomState) : (s.setDom p d).rack = s.rack := rfl
@[simp] theorem State.setDom_sch (s : State) (p : Nat) (d : DomState) : (s.setDom p d).sch = s.sch := rfl
@[simp] theorem State.setDom_pair (s : State) (p : Nat) (d : DomState) : (s.setDom p d).pair = s.pair := rfl
@[simp] theorem State.setDom_insts (s : State) (p : Nat) (d : DomState) : (s.setDom p d).insts = s.insts := rfl
@[simp] theorem State.setDom_sec (s : State) (p : Nat) (d : DomState) : (s.setDom p d).sec = s.sec := rfl
@[simp] theorem State.setDom_upd (s : State) (p : Nat) (d : DomState) : (s.setDom p d).upd = s.upd := rfl
@[simp] theorem State.setDom_flt (s : State) (p : Nat) (d : DomState) : (s.setDom p d).flt = s.flt := rfl
@[simp] theorem State.setDom_cnt (s : State) (p : Nat) (d : DomState) : (s.setDom p d).cnt = s.cnt := rfl
@[simp] theorem State.setDom_out (s : State) (p : Nat) (d : DomState) : (s.setDom p d).out = s.out := rfl
@[simp] theorem State.setDom_pending (s : State) (p : Nat) (d : DomState) : (s.setDom p d).pending = s.pending := rfl

/-! ### setCage -/

@[simp] theorem State.setCage_mono (s : State) (p : Nat) (c : Cage) : (s.setCage p c).mono = s.mono := rfl
@[simp] theorem State.setCage_draws (s : State) (p : Nat) (c : Cage) : (s.setCage p c).draws = s.draws := rfl
@[simp] theorem State.setCage_hif (s : State) (p : Nat) (c : Cage) : (s.setCage p c).hif = s.hif := rfl
@[simp] theorem State.setCage_port (s : State) (p : Nat) (c : Cage) : (s.setCage p c).port = s.port := rfl
@[simp] theorem State.setCage_frm (s : State) (p : Nat) (c : Cage) : (s.setCage p c).frm = s.frm := rfl
@[simp] theorem State.setCage_tim (s : State) (p : Nat) (c : Cage) : (s.setCage p c).tim = s.tim := rfl
@[simp] theorem State.setCage_tbl (s : State) (p : Nat) (c : Cage) : (s.setCage p c).tbl = s.tbl := rfl
@[simp] theorem State.setCage_mash (s : State) (p : Nat) (c : Cage) : (s.setCage p c).mash = s.mash := rfl
@[simp] theorem State.setCage_asa (s : State) (p : Nat) (c : Cage) : (s.setCage p c).asa = s.asa := rfl
@[simp] theorem State.setCage_adm (s : State) (p : Nat) (c : Cage) : (s.setCage p c).adm = s.adm := rfl
@[simp] theorem State.setCage_fab (s : State) (p : Nat) (c : Cage) : (s.setCage p c).fab = s.fab := rfl
@[simp] theorem State.setCage_rack (s : State) (p : Nat) (c : Cage) : (s.setCage p c).rack = s.rack := rfl
@[simp] theorem State.setCage_sch (s : State) (p : Nat) (c : Cage) : (s.setCage p c).sch = s.sch := rfl
@[simp] theorem State.setCage_pair (s : State) (p : Nat) (c : Cage) : (s.setCage p c).pair = s.pair := rfl
@[simp] theorem State.setCage_insts (s : State) (p : Nat) (c : Cage) : (s.setCage p c).insts = s.insts := rfl
@[simp] theorem State.setCage_sec (s : State) (p : Nat) (c : Cage) : (s.setCage p c).sec = s.sec := rfl
@[simp] theorem State.setCage_upd (s : State) (p : Nat) (c : Cage) : (s.setCage p c).upd = s.upd := rfl
@[simp] theorem State.setCage_flt (s : State) (p : Nat) (c : Cage) : (s.setCage p c).flt = s.flt := rfl
@[simp] theorem State.setCage_cnt (s : State) (p : Nat) (c : Cage) : (s.setCage p c).cnt = s.cnt := rfl
@[simp] theorem State.setCage_pwr (s : State) (p : Nat) (c : Cage) : (s.setCage p c).pwr = s.pwr := rfl
@[simp] theorem State.setCage_out (s : State) (p : Nat) (c : Cage) : (s.setCage p c).out = s.out := rfl
@[simp] theorem State.setCage_pending (s : State) (p : Nat) (c : Cage) : (s.setCage p c).pending = s.pending := rfl

/-! ### modPuntQ -/

@[simp] theorem State.modPuntQ_mono (s : State) (vi q : Nat) (f : VQueue → VQueue) : (s.modPuntQ vi q f).mono = s.mono := rfl
@[simp] theorem State.modPuntQ_draws (s : State) (vi q : Nat) (f : VQueue → VQueue) : (s.modPuntQ vi q f).draws = s.draws := rfl
@[simp] theorem State.modPuntQ_hif (s : State) (vi q : Nat) (f : VQueue → VQueue) : (s.modPuntQ vi q f).hif = s.hif := rfl
@[simp] theorem State.modPuntQ_dev (s : State) (vi q : Nat) (f : VQueue → VQueue) : (s.modPuntQ vi q f).dev = s.dev := rfl
@[simp] theorem State.modPuntQ_port (s : State) (vi q : Nat) (f : VQueue → VQueue) : (s.modPuntQ vi q f).port = s.port := rfl
@[simp] theorem State.modPuntQ_frm (s : State) (vi q : Nat) (f : VQueue → VQueue) : (s.modPuntQ vi q f).frm = s.frm := rfl
@[simp] theorem State.modPuntQ_tim (s : State) (vi q : Nat) (f : VQueue → VQueue) : (s.modPuntQ vi q f).tim = s.tim := rfl
@[simp] theorem State.modPuntQ_tbl (s : State) (vi q : Nat) (f : VQueue → VQueue) : (s.modPuntQ vi q f).tbl = s.tbl := rfl
@[simp] theorem State.modPuntQ_mash (s : State) (vi q : Nat) (f : VQueue → VQueue) : (s.modPuntQ vi q f).mash = s.mash := rfl
@[simp] theorem State.modPuntQ_asa (s : State) (vi q : Nat) (f : VQueue → VQueue) : (s.modPuntQ vi q f).asa = s.asa := rfl
@[simp] theorem State.modPuntQ_adm (s : State) (vi q : Nat) (f : VQueue → VQueue) : (s.modPuntQ vi q f).adm = s.adm := rfl
@[simp] theorem State.modPuntQ_fab (s : State) (vi q : Nat) (f : VQueue → VQueue) : (s.modPuntQ vi q f).fab = s.fab := rfl
@[simp] theorem State.modPuntQ_rack (s : State) (vi q : Nat) (f : VQueue → VQueue) : (s.modPuntQ vi q f).rack = s.rack := rfl
@[simp] theorem State.modPuntQ_sch (s : State) (vi q : Nat) (f : VQueue → VQueue) : (s.modPuntQ vi q f).sch = s.sch := rfl
@[simp] theorem State.modPuntQ_pair (s : State) (vi q : Nat) (f : VQueue → VQueue) : (s.modPuntQ vi q f).pair = s.pair := rfl
@[simp] theorem State.modPuntQ_sec (s : State) (vi q : Nat) (f : VQueue → VQueue) : (s.modPuntQ vi q f).sec = s.sec := rfl
@[simp] theorem State.modPuntQ_upd (s : State) (vi q : Nat) (f : VQueue → VQueue) : (s.modPuntQ vi q f).upd = s.upd := rfl
@[simp] theorem State.modPuntQ_flt (s : State) (vi q : Nat) (f : VQueue → VQueue) : (s.modPuntQ vi q f).flt = s.flt := rfl
@[simp] theorem State.modPuntQ_cnt (s : State) (vi q : Nat) (f : VQueue → VQueue) : (s.modPuntQ vi q f).cnt = s.cnt := rfl
@[simp] theorem State.modPuntQ_pwr (s : State) (vi q : Nat) (f : VQueue → VQueue) : (s.modPuntQ vi q f).pwr = s.pwr := rfl
@[simp] theorem State.modPuntQ_out (s : State) (vi q : Nat) (f : VQueue → VQueue) : (s.modPuntQ vi q f).out = s.out := rfl
@[simp] theorem State.modPuntQ_pending (s : State) (vi q : Nat) (f : VQueue → VQueue) : (s.modPuntQ vi q f).pending = s.pending := rfl

/-! ### modInjQ -/

@[simp] theorem State.modInjQ_mono (s : State) (vi q : Nat) (f : VQueue → VQueue) : (s.modInjQ vi q f).mono = s.mono := rfl
@[simp] theorem State.modInjQ_draws (s : State) (vi q : Nat) (f : VQueue → VQueue) : (s.modInjQ vi q f).draws = s.draws := rfl
@[simp] theorem State.modInjQ_hif (s : State) (vi q : Nat) (f : VQueue → VQueue) : (s.modInjQ vi q f).hif = s.hif := rfl
@[simp] theorem State.modInjQ_dev (s : State) (vi q : Nat) (f : VQueue → VQueue) : (s.modInjQ vi q f).dev = s.dev := rfl
@[simp] theorem State.modInjQ_port (s : State) (vi q : Nat) (f : VQueue → VQueue) : (s.modInjQ vi q f).port = s.port := rfl
@[simp] theorem State.modInjQ_frm (s : State) (vi q : Nat) (f : VQueue → VQueue) : (s.modInjQ vi q f).frm = s.frm := rfl
@[simp] theorem State.modInjQ_tim (s : State) (vi q : Nat) (f : VQueue → VQueue) : (s.modInjQ vi q f).tim = s.tim := rfl
@[simp] theorem State.modInjQ_tbl (s : State) (vi q : Nat) (f : VQueue → VQueue) : (s.modInjQ vi q f).tbl = s.tbl := rfl
@[simp] theorem State.modInjQ_mash (s : State) (vi q : Nat) (f : VQueue → VQueue) : (s.modInjQ vi q f).mash = s.mash := rfl
@[simp] theorem State.modInjQ_asa (s : State) (vi q : Nat) (f : VQueue → VQueue) : (s.modInjQ vi q f).asa = s.asa := rfl
@[simp] theorem State.modInjQ_adm (s : State) (vi q : Nat) (f : VQueue → VQueue) : (s.modInjQ vi q f).adm = s.adm := rfl
@[simp] theorem State.modInjQ_fab (s : State) (vi q : Nat) (f : VQueue → VQueue) : (s.modInjQ vi q f).fab = s.fab := rfl
@[simp] theorem State.modInjQ_rack (s : State) (vi q : Nat) (f : VQueue → VQueue) : (s.modInjQ vi q f).rack = s.rack := rfl
@[simp] theorem State.modInjQ_sch (s : State) (vi q : Nat) (f : VQueue → VQueue) : (s.modInjQ vi q f).sch = s.sch := rfl
@[simp] theorem State.modInjQ_pair (s : State) (vi q : Nat) (f : VQueue → VQueue) : (s.modInjQ vi q f).pair = s.pair := rfl
@[simp] theorem State.modInjQ_sec (s : State) (vi q : Nat) (f : VQueue → VQueue) : (s.modInjQ vi q f).sec = s.sec := rfl
@[simp] theorem State.modInjQ_upd (s : State) (vi q : Nat) (f : VQueue → VQueue) : (s.modInjQ vi q f).upd = s.upd := rfl
@[simp] theorem State.modInjQ_flt (s : State) (vi q : Nat) (f : VQueue → VQueue) : (s.modInjQ vi q f).flt = s.flt := rfl
@[simp] theorem State.modInjQ_cnt (s : State) (vi q : Nat) (f : VQueue → VQueue) : (s.modInjQ vi q f).cnt = s.cnt := rfl
@[simp] theorem State.modInjQ_pwr (s : State) (vi q : Nat) (f : VQueue → VQueue) : (s.modInjQ vi q f).pwr = s.pwr := rfl
@[simp] theorem State.modInjQ_out (s : State) (vi q : Nat) (f : VQueue → VQueue) : (s.modInjQ vi q f).out = s.out := rfl
@[simp] theorem State.modInjQ_pending (s : State) (vi q : Nat) (f : VQueue → VQueue) : (s.modInjQ vi q f).pending = s.pending := rfl

/-! ### taken -/

@[simp] theorem taken_mono (vi : Nat) (s : State) : (taken vi s).mono = s.mono := rfl
@[simp] theorem taken_draws (vi : Nat) (s : State) : (taken vi s).draws = s.draws := rfl
@[simp] theorem taken_dev (vi : Nat) (s : State) : (taken vi s).dev = s.dev := rfl
@[simp] theorem taken_port (vi : Nat) (s : State) : (taken vi s).port = s.port := rfl
@[simp] theorem taken_frm (vi : Nat) (s : State) : (taken vi s).frm = s.frm := rfl
@[simp] theorem taken_tim (vi : Nat) (s : State) : (taken vi s).tim = s.tim := rfl
@[simp] theorem taken_tbl (vi : Nat) (s : State) : (taken vi s).tbl = s.tbl := rfl
@[simp] theorem taken_mash (vi : Nat) (s : State) : (taken vi s).mash = s.mash := rfl
@[simp] theorem taken_asa (vi : Nat) (s : State) : (taken vi s).asa = s.asa := rfl
@[simp] theorem taken_adm (vi : Nat) (s : State) : (taken vi s).adm = s.adm := rfl
@[simp] theorem taken_fab (vi : Nat) (s : State) : (taken vi s).fab = s.fab := rfl
@[simp] theorem taken_rack (vi : Nat) (s : State) : (taken vi s).rack = s.rack := rfl
@[simp] theorem taken_sch (vi : Nat) (s : State) : (taken vi s).sch = s.sch := rfl
@[simp] theorem taken_pair (vi : Nat) (s : State) : (taken vi s).pair = s.pair := rfl
@[simp] theorem taken_insts (vi : Nat) (s : State) : (taken vi s).insts = s.insts := rfl
@[simp] theorem taken_sec (vi : Nat) (s : State) : (taken vi s).sec = s.sec := rfl
@[simp] theorem taken_upd (vi : Nat) (s : State) : (taken vi s).upd = s.upd := rfl
@[simp] theorem taken_flt (vi : Nat) (s : State) : (taken vi s).flt = s.flt := rfl
@[simp] theorem taken_cnt (vi : Nat) (s : State) : (taken vi s).cnt = s.cnt := rfl
@[simp] theorem taken_pwr (vi : Nat) (s : State) : (taken vi s).pwr = s.pwr := rfl
@[simp] theorem taken_out (vi : Nat) (s : State) : (taken vi s).out = s.out := rfl
@[simp] theorem taken_pending (vi : Nat) (s : State) : (taken vi s).pending = s.pending := rfl
@[simp] theorem taken_core (vi : Nat) (s : State) : (taken vi s).hif.core = s.hif.core := rfl

end Sys2Proof.Machine
end

