-- ==== Sys2Proof/Laws/Time.lean ====
section
/-! SUPPORT. What each operation of Machine/Time.lean can change. -/

set_option Elab.async false

namespace Sys2Proof.Machine

theorem timeRange_changes (s : State) : Changes [] s (timeRange s).st := by
  unfold timeRange
  refine Changes.err_st ?_
  exact Changes.rfl
theorem bodyTimeConfig_changes (vi : Nat) (e : Entry) (s : State) : Changes [.tim] s (bodyTimeConfig vi e s).st := by
  unfold bodyTimeConfig
  extract_lets x1 x2
  refine Changes.ite_st ?_ ?_
  · refine Changes.via ?_ (timeRange_changes ..) (by decide +kernel)
    exact Changes.rfl
  · refine Changes.ok_st ?_
    refine Changes.set_tim ?_ (by with_reducible rfl) (by decide)
    exact Changes.rfl
theorem bodyTimeSetIncrement_changes (vi : Nat) (e : Entry) (s : State) : Changes [.incr, .tim] s (bodyTimeSetIncrement vi e s).st := by
  unfold bodyTimeSetIncrement
  extract_lets x1 x2 x3
  refine Changes.ite_st ?_ ?_
  · exact Changes.via Changes.rfl (timeRange_changes ..) (by decide)
  · exact Changes.ok_st (Changes.set_incr Changes.rfl (by decide) (by decide))
theorem bodyTimeStep_changes (vi : Nat) (e : Entry) (s : State) : Changes [.rings, .tim, .cnt, .out] s (bodyTimeStep vi e s).st := by
  unfold bodyTimeStep
  extract_lets x1 x2 x3 x4 x5 x6 x7
  refine Changes.ite_st ?_ ?_
  · refine Changes.via ?_ (timeRange_changes ..) (by decide +kernel)
    exact Changes.rfl
  · refine Changes.ite_st ?_ ?_
    · refine Changes.err_st ?_
      subst x5
      refine Changes.via ?_ (count_changes ..) (by decide +kernel)
      exact Changes.rfl
    · refine Changes.ite_st ?_ ?_
      · refine Changes.err_st ?_
        subst x5
        refine Changes.via ?_ (count_changes ..) (by decide +kernel)
        exact Changes.rfl
      · refine Changes.mk_st ?_
        refine Changes.set_tim ?_ (by with_reducible rfl) (by decide)
        exact Changes.rfl
theorem bodyTimeGet_changes (vi : Nat) (e : Entry) (s : State) : Changes [] s (bodyTimeGet vi e s).st := by
  unfold bodyTimeGet
  refine Changes.read_st ?_
  exact Changes.rfl
theorem notEthPort_some {s : State} {p : Nat} {r : Reply} (h : notEthPort s p = some r) : Changes [] s r.st := by
  unfold notEthPort at h
  repeat' (split at h)
  all_goals first
    | cases h; exact Changes.rfl
    | cases h
theorem bodyTimePort_changes (vi : Nat) (e : Entry) (s : State) : Changes [.tim, .sec] s (bodyTimePort vi e s).st := by
  unfold bodyTimePort
  extract_lets x1 x2 x3 x4 x5 x6 x7 x8 x9 x10
  split
  · refine Changes.via ?_ (notEthPort_some (by assumption)) (by decide)
    exact Changes.rfl
  · refine Changes.ite_st ?_ ?_
    · refine Changes.via ?_ (timeRange_changes ..) (by decide +kernel)
      exact Changes.rfl
    · refine Changes.storing ?_ ?_ (by decide)
      · exact Changes.rfl
      · refine Changes.ok_st ?_
        subst x8
        refine Changes.via ?_ (probeRefresh_changes ..) (by decide +kernel)
        refine Changes.set_tim ?_ (by with_reducible rfl) (by decide)
        exact Changes.rfl
theorem bodyTimeTxTsRead_changes (vi : Nat) (e : Entry) (s : State) : Changes [.rings, .tim, .log, .cnt, .out] s (bodyTimeTxTsRead vi e s).st := by
  unfold bodyTimeTxTsRead
  extract_lets x1 x2 x3
  split
  · refine Changes.via ?_ (notEthPort_some (by assumption)) (by decide)
    exact Changes.rfl
  · refine Changes.ite_st ?_ ?_
    · refine Changes.via ?_ (notPermitted_changes ..) (by decide +kernel)
      exact Changes.rfl
    · refine Changes.ite_st ?_ ?_
      · refine Changes.via ?_ (timeRange_changes ..) (by decide +kernel)
        exact Changes.rfl
      · refine Changes.ite_st ?_ ?_
        · refine Changes.via ?_ (badLen_changes ..) (by decide +kernel)
          exact Changes.rfl
        · dsimp only
          refine Changes.set_tim ?_ (by with_reducible rfl) (by decide)
          exact Changes.rfl
theorem bodyTimePulseOut_changes (vi : Nat) (e : Entry) (s : State) : Changes [.rings, .tim, .sec, .cnt, .out] s (bodyTimePulseOut vi e s).st := by
  unfold bodyTimePulseOut
  extract_lets x1 x2 x3 x4 x5 x6 x7 x8 x9 x10 x11
  refine Changes.ite_st ?_ ?_
  · refine Changes.via ?_ (timeRange_changes ..) (by decide +kernel)
    exact Changes.rfl
  · refine Changes.ite_st ?_ ?_
    · refine Changes.via ?_ (timeRange_changes ..) (by decide +kernel)
      exact Changes.rfl
    · refine Changes.ite_st ?_ ?_
      · subst x10
        dsimp -zeta only
        extract_lets x12 x13 x14 x15
        refine Changes.storing ?_ ?_ (by decide)
        · subst x12
          refine Changes.ite ?_ ?_
          · refine Changes.via ?_ (count_changes ..) (by decide +kernel)
            exact Changes.rfl
          · exact Changes.rfl
        · refine Changes.ok_st ?_
          refine Changes.via ?_ (State.setPulse_changes ..) (by decide +kernel)
          subst x15
          refine Changes.set_tim ?_ (by with_reducible rfl) (by decide)
          subst x12
          refine Changes.ite ?_ ?_
          · refine Changes.via ?_ (count_changes ..) (by decide +kernel)
            exact Changes.rfl
          · exact Changes.rfl
      · refine Changes.ite_st ?_ ?_
        · refine Changes.ite_st ?_ ?_
          · refine Changes.via ?_ (timeRange_changes ..) (by decide +kernel)
            exact Changes.rfl
          · refine Changes.ite_st ?_ ?_
            · subst x10
              dsimp -zeta only
              extract_lets x16 x17 x18 x19
              refine Changes.storing ?_ ?_ (by decide)
              · subst x16
                refine Changes.ite ?_ ?_
                · refine Changes.via ?_ (count_changes ..) (by decide +kernel)
                  exact Changes.rfl
                · exact Changes.rfl
              · refine Changes.ok_st ?_
                refine Changes.via ?_ (State.setPulse_changes ..) (by decide +kernel)
                subst x19
                refine Changes.set_tim ?_ (by with_reducible rfl) (by decide)
                subst x16
                refine Changes.ite ?_ ?_
                · refine Changes.via ?_ (count_changes ..) (by decide +kernel)
                  exact Changes.rfl
                · exact Changes.rfl
            · refine Changes.ite_st ?_ ?_
              · subst x10
                dsimp -zeta only
                extract_lets x20 x21 x22 x23
                refine Changes.storing ?_ ?_ (by decide)
                · subst x20
                  refine Changes.ite ?_ ?_
                  · refine Changes.via ?_ (count_changes ..) (by decide +kernel)
                    exact Changes.rfl
                  · exact Changes.rfl
                · refine Changes.ok_st ?_
                  refine Changes.via ?_ (State.setPulse_changes ..) (by decide +kernel)
                  subst x23
                  refine Changes.set_tim ?_ (by with_reducible rfl) (by decide)
                  subst x20
                  refine Changes.ite ?_ ?_
                  · refine Changes.via ?_ (count_changes ..) (by decide +kernel)
                    exact Changes.rfl
                  · exact Changes.rfl
              · refine Changes.err_st ?_
                exact Changes.rfl
        · refine Changes.ite_st ?_ ?_
          · refine Changes.ite_st ?_ ?_
            · refine Changes.via ?_ (timeRange_changes ..) (by decide +kernel)
              exact Changes.rfl
            · subst x10
              dsimp -zeta only
              extract_lets x24 x25 x26 x27
              refine Changes.storing ?_ ?_ (by decide)
              · subst x24
                refine Changes.ite ?_ ?_
                · refine Changes.via ?_ (count_changes ..) (by decide +kernel)
                  exact Changes.rfl
                · exact Changes.rfl
              · refine Changes.ok_st ?_
                refine Changes.via ?_ (State.setPulse_changes ..) (by decide +kernel)
                subst x27
                refine Changes.set_tim ?_ (by with_reducible rfl) (by decide)
                subst x24
                refine Changes.ite ?_ ?_
                · refine Changes.via ?_ (count_changes ..) (by decide +kernel)
                  exact Changes.rfl
                · exact Changes.rfl
          · refine Changes.ite_st ?_ ?_
            · refine Changes.via ?_ (timeRange_changes ..) (by decide +kernel)
              exact Changes.rfl
            · split
              · refine Changes.via ?_ (timeRange_changes ..) (by decide +kernel)
                exact Changes.rfl
              · split
                · refine Changes.via ?_ (notEthPort_some (by assumption)) (by decide)
                  exact Changes.rfl
                · subst x10
                  dsimp -zeta only
                  extract_lets x28 x29 x30 x31
                  refine Changes.storing ?_ ?_ (by decide)
                  · subst x28
                    refine Changes.ite ?_ ?_
                    · refine Changes.via ?_ (count_changes ..) (by decide +kernel)
                      exact Changes.rfl
                    · exact Changes.rfl
                  · refine Changes.ok_st ?_
                    refine Changes.via ?_ (State.setPulse_changes ..) (by decide +kernel)
                    subst x31
                    refine Changes.set_tim ?_ (by with_reducible rfl) (by decide)
                    subst x28
                    refine Changes.ite ?_ ?_
                    · refine Changes.via ?_ (count_changes ..) (by decide +kernel)
                      exact Changes.rfl
                    · exact Changes.rfl
theorem bodyTimePulseIn_changes (vi : Nat) (e : Entry) (s : State) : Changes [.tim, .sec] s (bodyTimePulseIn vi e s).st := by
  unfold bodyTimePulseIn
  extract_lets x1 x2 x3 x4 x5
  refine Changes.ite_st ?_ ?_
  · refine Changes.via ?_ (timeRange_changes ..) (by decide +kernel)
    exact Changes.rfl
  · refine Changes.storing ?_ ?_ (by decide)
    · exact Changes.rfl
    · refine Changes.ok_st ?_
      refine Changes.set_tim ?_ (by with_reducible rfl) (by decide)
      exact Changes.rfl
theorem bodyTimeCaptureRead_changes (vi : Nat) (e : Entry) (s : State) : Changes [.rings, .tim, .log, .cnt, .out] s (bodyTimeCaptureRead vi e s).st := by
  unfold bodyTimeCaptureRead
  extract_lets x1 x2 x3
  refine Changes.ite_st ?_ ?_
  · refine Changes.via ?_ (timeRange_changes ..) (by decide +kernel)
    exact Changes.rfl
  · refine Changes.ite_st ?_ ?_
    · refine Changes.via ?_ (badLen_changes ..) (by decide +kernel)
      exact Changes.rfl
    · dsimp only
      refine Changes.set_tim ?_ (by with_reducible rfl) (by decide)
      exact Changes.rfl
theorem execTimeConfig_changes (vi : Nat) (io : HostIo) (s : State) : ∃ t, execTimeConfig vi io s = .next t ∧ Changes [.rings, .queue, .tim, .pair, .cnt, .out] s t :=
  ⟨_, rfl, Changes.weaken (runCommand_changes _ _ _ _ _ (bodyTimeConfig_changes vi)) (by decide)⟩
theorem execTimeSetIncrement_changes (vi : Nat) (io : HostIo) (s : State) : ∃ t, execTimeSetIncrement vi io s = .next t ∧ Changes [.rings, .queue, .incr, .tim, .pair, .cnt, .out] s t :=
  ⟨_, rfl, Changes.weaken (runCommand_changes _ _ _ _ _ (bodyTimeSetIncrement_changes vi)) (by decide)⟩
theorem execTimeStep_changes (vi : Nat) (io : HostIo) (s : State) : ∃ t, execTimeStep vi io s = .next t ∧ Changes [.rings, .queue, .tim, .pair, .cnt, .out] s t :=
  ⟨_, rfl, Changes.weaken (runCommand_changes _ _ _ _ _ (bodyTimeStep_changes vi)) (by decide)⟩
theorem execTimeGet_changes (vi : Nat) (io : HostIo) (s : State) : ∃ t, execTimeGet vi io s = .next t ∧ Changes [.rings, .queue, .pair, .cnt, .out] s t :=
  ⟨_, rfl, Changes.weaken (runCommand_changes _ _ _ _ _ (bodyTimeGet_changes vi)) (by decide)⟩
theorem execTimePort_changes (vi : Nat) (io : HostIo) (s : State) : ∃ t, execTimePort vi io s = .next t ∧ Changes [.rings, .queue, .tim, .pair, .sec, .cnt, .out] s t :=
  ⟨_, rfl, Changes.weaken (runCommand_changes _ _ _ _ _ (bodyTimePort_changes vi)) (by decide)⟩
theorem execTimeTxTsRead_changes (vi : Nat) (io : HostIo) (s : State) : ∃ t, execTimeTxTsRead vi io s = .next t ∧ Changes [.rings, .queue, .tim, .pair, .log, .cnt, .out] s t :=
  ⟨_, rfl, Changes.weaken (runCommand_changes _ _ _ _ _ (bodyTimeTxTsRead_changes vi)) (by decide)⟩
theorem execTimePulseOut_changes (vi : Nat) (io : HostIo) (s : State) : ∃ t, execTimePulseOut vi io s = .next t ∧ Changes [.rings, .queue, .tim, .pair, .sec, .cnt, .out] s t :=
  ⟨_, rfl, Changes.weaken (runCommand_changes _ _ _ _ _ (bodyTimePulseOut_changes vi)) (by decide)⟩
theorem execTimePulseIn_changes (vi : Nat) (io : HostIo) (s : State) : ∃ t, execTimePulseIn vi io s = .next t ∧ Changes [.rings, .queue, .tim, .pair, .sec, .cnt, .out] s t :=
  ⟨_, rfl, Changes.weaken (runCommand_changes _ _ _ _ _ (bodyTimePulseIn_changes vi)) (by decide)⟩
theorem execTimeCaptureRead_changes (vi : Nat) (io : HostIo) (s : State) : ∃ t, execTimeCaptureRead vi io s = .next t ∧ Changes [.rings, .queue, .tim, .pair, .log, .cnt, .out] s t :=
  ⟨_, rfl, Changes.weaken (runCommand_changes _ _ _ _ _ (bodyTimeCaptureRead_changes vi)) (by decide)⟩
theorem execTimeStepTick_changes (s : State) : ∃ t, execTimeStepTick s = .next t ∧ Changes [.rings, .queue, .tim, .sch, .cnt, .out] s t := by
  refine ⟨_, rfl, ?_⟩
  split
  · exact Changes.rfl
  · refine Changes.when ?_ ?_
    · exact Changes.rfl
    · refine Changes.via ?_ (applyStep_changes ..) (by decide +kernel)
      exact Changes.rfl
theorem pulseHigh_changes (pin : Nat) (c : PulseCfg) (x : Pulse) (at_ : Nat) (s : State) : Changes [.tim, .out] s (pulseHigh pin c x at_ s) := by
  unfold pulseHigh
  refine Changes.via ?_ (State.emit_changes ..) (by decide +kernel)
  refine Changes.via ?_ (State.setPulse_changes ..) (by decide +kernel)
  exact Changes.rfl
theorem execPulseOneShotFire_changes (pin : Nat) (s : State) : ∃ t, execPulseOneShotFire pin s = .next t ∧ Changes [.tim, .out] s t := by
  refine ⟨_, rfl, ?_⟩
  refine Changes.when ?_ ?_
  · exact Changes.rfl
  · refine Changes.via ?_ (pulseHigh_changes ..) (by decide +kernel)
    exact Changes.rfl
theorem execPulsePeriodicEdge_changes (pin : Nat) (s : State) : ∃ t, execPulsePeriodicEdge pin s = .next t ∧ Changes [.tim, .out] s t := by
  refine ⟨_, rfl, ?_⟩
  refine Changes.when ?_ ?_
  · exact Changes.rfl
  · refine Changes.via ?_ (pulseHigh_changes ..) (by decide +kernel)
    exact Changes.rfl
theorem execPulseWidthEnd_changes (pin : Nat) (s : State) : ∃ t, execPulseWidthEnd pin s = .next t ∧ Changes [.tim, .out] s t := by
  refine ⟨_, rfl, ?_⟩
  split
  · exact Changes.rfl
  · refine Changes.when ?_ ?_
    · exact Changes.rfl
    · refine Changes.via ?_ (State.emit_changes ..) (by decide +kernel)
      refine Changes.via ?_ (State.setPulse_changes ..) (by decide +kernel)
      exact Changes.rfl
theorem execPulseInEdge_changes (pin : Nat) (rising : Bool) (s : State) : ∃ t, execPulseInEdge pin rising s = .next t ∧ Changes [.rings, .tim, .cnt, .out] s t := by
  refine ⟨_, rfl, ?_⟩
  refine Changes.when ?_ ?_
  · exact Changes.rfl
  · extract_lets x1 x2 x3 x4
    dsimp only
    refine Changes.ite ?_ ?_
    · refine Changes.via ?_ (notify_changes ..) (by decide +kernel)
      refine Changes.ite ?_ ?_
      · refine Changes.via ?_ (count_changes ..) (by decide +kernel)
        refine Changes.set_tim ?_ (by with_reducible rfl) (by decide)
        exact Changes.rfl
      · refine Changes.set_tim ?_ (by with_reducible rfl) (by decide)
        exact Changes.rfl
    · refine Changes.ite ?_ ?_
      · refine Changes.via ?_ (count_changes ..) (by decide +kernel)
        refine Changes.set_tim ?_ (by with_reducible rfl) (by decide)
        exact Changes.rfl
      · refine Changes.set_tim ?_ (by with_reducible rfl) (by decide)
        exact Changes.rfl
theorem execProbeSend_changes (port : Nat) (s : State) : ∃ t, execProbeSend port s = .next t ∧ Changes [.draws, .tim, .out] s t := by
  refine ⟨_, rfl, ?_⟩
  refine Changes.when ?_ ?_
  · exact Changes.rfl
  · refine Changes.via ?_ (State.emit_changes ..) (by decide +kernel)
    refine Changes.via ?_ (State.drawn_changes ..) (by decide +kernel)
    refine Changes.via ?_ (State.setProbe_changes ..) (by decide +kernel)
    exact Changes.rfl
theorem execPdelayReqReceive_changes (port seqId domain : Nat) (s : State) : ∃ t, execPdelayReqReceive port seqId domain s = .next t ∧ Changes [.draws, .out] s t := by
  refine ⟨_, rfl, ?_⟩
  refine Changes.when ?_ ?_
  · exact Changes.rfl
  · refine Changes.via ?_ (State.emit_changes ..) (by decide +kernel)
    refine Changes.via ?_ (State.drawn_changes ..) (by decide +kernel)
    refine Changes.via ?_ (State.drawn_changes ..) (by decide +kernel)
    exact Changes.rfl
theorem execPdelayRespReceive_changes (port seqId t2 t3 : Nat) (s : State) : ∃ t, execPdelayRespReceive port seqId t2 t3 s = .next t ∧ Changes [.draws, .rings, .tim, .cnt, .out] s t := by
  refine ⟨_, rfl, ?_⟩
  split
  · exact Changes.rfl
  · refine Changes.when ?_ ?_
    · exact Changes.rfl
    · extract_lets x1
      refine Changes.via ?_ (probeSample_changes ..) (by decide +kernel)
      refine Changes.via ?_ (State.setProbe_changes ..) (by decide +kernel)
      refine Changes.via ?_ (State.drawn_changes ..) (by decide +kernel)
      exact Changes.rfl
theorem execProbeUnanswered_changes (port : Nat) (s : State) : ∃ t, execProbeUnanswered port s = .next t ∧ Changes [.rings, .tim, .cnt, .out] s t := by
  refine ⟨_, rfl, ?_⟩
  refine Changes.when ?_ ?_
  · exact Changes.rfl
  · refine Changes.ite ?_ ?_
    · refine Changes.via ?_ (State.setProbe_changes ..) (by decide +kernel)
      exact Changes.rfl
    · extract_lets x1
      refine Changes.via ?_ (count_changes ..) (by decide +kernel)
      refine Changes.via ?_ (notify_changes ..) (by decide +kernel)
      subst x1
      refine Changes.via ?_ (State.setProbe_changes ..) (by decide +kernel)
      exact Changes.rfl

end Sys2Proof.Machine
end

