-- ==== Sys2Proof/Laws/Transmit.lean ====
section
/-! SUPPORT. What each operation of Machine/Transmit.lean can change. -/

set_option Elab.async false

namespace Sys2Proof.Machine

theorem egressSearch_changes (p : Nat) (k : EPkt) (s : State) : Changes [.draws, .rings, .asa, .log, .flt, .cnt, .out] s (egressSearch p k s).2 := by
  unfold egressSearch
  split
  · refine Changes.pair_snd ?_
    refine Changes.ite ?_ ?_
    · refine Changes.via ?_ (count_changes ..) (by decide +kernel)
      exact Changes.rfl
    · exact Changes.rfl
  · extract_lets x1
    split
    · refine Changes.pair_snd ?_
      subst x1
      refine Changes.via ?_ (serveUnits_changes ..) (by decide +kernel)
      exact Changes.rfl
    · dsimp only
      refine Changes.ite_snd ?_ ?_
      · refine Changes.pair_snd ?_
        refine Changes.via ?_ (checkHit_changes ..) (by decide +kernel)
        subst x1
        refine Changes.via ?_ (serveUnits_changes ..) (by decide +kernel)
        exact Changes.rfl
      · refine Changes.pair_snd ?_
        refine Changes.via ?_ (countHit_changes ..) (by decide +kernel)
        refine Changes.via ?_ (checkHit_changes ..) (by decide +kernel)
        subst x1
        refine Changes.via ?_ (serveUnits_changes ..) (by decide +kernel)
        exact Changes.rfl
theorem egressPolice_changes (p : Nat) (k : EPkt) (s : State) : Changes [.rings, .sch, .cnt, .out] s (egressPolice p k s).2 := by
  unfold egressPolice
  split
  · refine Changes.pair_snd ?_
    exact Changes.rfl
  · split
    · refine Changes.pair_snd ?_
      exact Changes.rfl
    · refine Changes.pair_snd ?_
      refine Changes.via ?_ (police_some (by assumption)) (by decide)
      exact Changes.rfl
theorem macsecTx_changes (p : Nat) (b : List Byte) (s : State) : Changes [.draws, .rings, .port, .tim, .sch, .sec, .cnt, .out] s (macsecTx p b s).2 := by
  unfold macsecTx
  extract_lets x1 x2
  refine Changes.ite_snd ?_ ?_
  · refine Changes.pair_snd ?_
    exact Changes.rfl
  · split
    · refine Changes.pair_snd ?_
      exact Changes.rfl
    · extract_lets x3 x4 x5 x6 x7 x8 x9
      refine Changes.pair_snd ?_
      subst x9
      refine Changes.ite ?_ ?_
      · refine Changes.via ?_ (notify_changes ..) (by decide +kernel)
        subst x8
        refine Changes.ite ?_ ?_
        · refine Changes.via ?_ (mkaThreshold_changes ..) (by decide +kernel)
          subst x7
          refine Changes.ite ?_ ?_
          · refine Changes.via ?_ (notify_changes ..) (by decide +kernel)
            subst x6
            refine Changes.via ?_ (State.modPort_changes ..) (by decide +kernel)
            exact Changes.rfl
          · subst x6
            refine Changes.via ?_ (State.modPort_changes ..) (by decide +kernel)
            exact Changes.rfl
        · subst x7
          refine Changes.ite ?_ ?_
          · refine Changes.via ?_ (notify_changes ..) (by decide +kernel)
            subst x6
            refine Changes.via ?_ (State.modPort_changes ..) (by decide +kernel)
            exact Changes.rfl
          · subst x6
            refine Changes.via ?_ (State.modPort_changes ..) (by decide +kernel)
            exact Changes.rfl
      · subst x8
        refine Changes.ite ?_ ?_
        · refine Changes.via ?_ (mkaThreshold_changes ..) (by decide +kernel)
          subst x7
          refine Changes.ite ?_ ?_
          · refine Changes.via ?_ (notify_changes ..) (by decide +kernel)
            subst x6
            refine Changes.via ?_ (State.modPort_changes ..) (by decide +kernel)
            exact Changes.rfl
          · subst x6
            refine Changes.via ?_ (State.modPort_changes ..) (by decide +kernel)
            exact Changes.rfl
        · subst x7
          refine Changes.ite ?_ ?_
          · refine Changes.via ?_ (notify_changes ..) (by decide +kernel)
            subst x6
            refine Changes.via ?_ (State.modPort_changes ..) (by decide +kernel)
            exact Changes.rfl
          · subst x6
            refine Changes.via ?_ (State.modPort_changes ..) (by decide +kernel)
            exact Changes.rfl
theorem dropTx_changes (p : Nat) (k : Nat × EPkt) (s : State) : Changes [.sch] s (dropTx p k s) := by
  unfold dropTx
  refine Changes.via ?_ (State.modEport_changes ..) (by decide +kernel)
  exact Changes.rfl
theorem leftEgress_changes (k : EPkt) (s : State) : Changes [.rings, .tbl, .sch, .cnt, .out] s (leftEgress k s) := by
  unfold leftEgress
  extract_lets x1
  split
  · refine Changes.via ?_ (returnCheck_changes ..) (by decide +kernel)
    subst x1
    refine Changes.via ?_ (releaseRef_changes ..) (by decide +kernel)
    exact Changes.rfl
  · subst x1
    refine Changes.via ?_ (releaseRef_changes ..) (by decide +kernel)
    exact Changes.rfl
theorem underrun_changes (p : Nat) (k : Nat × EPkt) (s : State) : Changes [.rings, .sch, .cnt, .out] s (underrun p k s) := by
  unfold underrun
  extract_lets x1 x2
  dsimp only
  refine Changes.ite ?_ ?_
  · refine Changes.via ?_ (notify_changes ..) (by decide +kernel)
    refine Changes.via ?_ (State.modEport_changes ..) (by decide +kernel)
    subst x2
    refine Changes.via ?_ (count_changes ..) (by decide +kernel)
    refine Changes.via ?_ (State.emit_changes ..) (by decide +kernel)
    refine Changes.via ?_ (returnOne_changes ..) (by decide +kernel)
    exact Changes.rfl
  · refine Changes.via ?_ (State.modEport_changes ..) (by decide +kernel)
    subst x2
    refine Changes.via ?_ (count_changes ..) (by decide +kernel)
    refine Changes.via ?_ (State.emit_changes ..) (by decide +kernel)
    refine Changes.via ?_ (returnOne_changes ..) (by decide +kernel)
    exact Changes.rfl
theorem sendFrame_changes (p : Nat) (k : EPkt) (b : List Byte) (s : State) : Changes [.draws, .rings, .port, .tim, .tbl, .fab, .sch, .pair, .sec, .log, .flt, .cnt, .out] s (sendFrame p k b s) := by
  unfold sendFrame
  extract_lets x1 x2 x3 x4
  dsimp only
  refine Changes.ite ?_ ?_
  · refine Changes.via ?_ (macsecRefresh_changes ..) (by decide +kernel)
    refine Changes.via ?_ (leftEgress_changes ..) (by decide +kernel)
    refine Changes.via ?_ (discardUnder_changes ..) (by decide +kernel)
    refine Changes.via ?_ (fault_changes ..) (by decide +kernel)
    refine Changes.via ?_ (State.emit_changes ..) (by decide +kernel)
    refine Changes.via ?_ (macsecTx_changes ..) (by decide +kernel)
    subst x4
    refine Changes.ite ?_ ?_
    · refine Changes.via ?_ (pushTxTs_changes ..) (by decide +kernel)
      exact Changes.rfl
    · exact Changes.rfl
  · refine Changes.via ?_ (macsecRefresh_changes ..) (by decide +kernel)
    refine Changes.via ?_ (leftEgress_changes ..) (by decide +kernel)
    refine Changes.via ?_ (markGone_changes ..) (by decide +kernel)
    refine Changes.via ?_ (meterTx_changes ..) (by decide +kernel)
    refine Changes.via ?_ (count_changes ..) (by decide +kernel)
    refine Changes.via ?_ (count_changes ..) (by decide +kernel)
    refine Changes.foldS ?_ (fun _ _ => ?_)
    · refine Changes.via ?_ (macsecTx_changes ..) (by decide +kernel)
      subst x4
      refine Changes.ite ?_ ?_
      · refine Changes.via ?_ (pushTxTs_changes ..) (by decide +kernel)
        exact Changes.rfl
      · exact Changes.rfl
    · refine Changes.via ?_ (State.emit_changes ..) (by decide +kernel)
      exact Changes.rfl
theorem askTx_changes (p : Nat) (k : Nat × EPkt) (a r : Option (Nat × Nat)) (s : State) : Changes [.sch] s (askTx p k a r s) := by
  unfold askTx
  extract_lets x1 x2
  refine Changes.via ?_ (State.modEport_changes ..) (by decide +kernel)
  exact Changes.rfl
theorem egressProcess_changes (p : Nat) (k : Nat × EPkt) (v : EncVer) (s : State) : Changes [.draws, .rings, .port, .tim, .tbl, .mash, .asa, .fab, .sch, .pair, .sec, .log, .flt, .cnt, .out] s (egressProcess p k v s) := by
  unfold egressProcess
  extract_lets x1 x2 x3 x4
  refine Changes.ite ?_ ?_
  · exact Changes.rfl
  · refine Changes.ite ?_ ?_
    · dsimp only
      refine Changes.via ?_ (askTx_changes ..) (by decide +kernel)
      refine Changes.ite ?_ ?_
      · refine Changes.via ?_ (count_changes ..) (by decide +kernel)
        refine Changes.via ?_ (takeAsk_changes ..) (by decide +kernel)
        refine Changes.via ?_ (takeAsk_changes ..) (by decide +kernel)
        exact Changes.rfl
      · refine Changes.via ?_ (takeAsk_changes ..) (by decide +kernel)
        refine Changes.via ?_ (takeAsk_changes ..) (by decide +kernel)
        exact Changes.rfl
    · split
      · refine Changes.via ?_ (askTx_changes ..) (by decide +kernel)
        refine Changes.of_pair (by assumption) ?_
        refine Changes.via ?_ (egressSearch_changes ..) (by decide +kernel)
        exact Changes.rfl
      · dsimp only
        refine Changes.via ?_ (sendFrame_changes ..) (by decide +kernel)
        refine Changes.via ?_ (egressPolice_changes ..) (by decide +kernel)
        refine Changes.via ?_ (dropTx_changes ..) (by decide +kernel)
        refine Changes.via ?_ (serveReads_changes ..) (by decide +kernel)
        refine Changes.of_pair (by assumption) ?_
        refine Changes.via ?_ (egressSearch_changes ..) (by decide +kernel)
        exact Changes.rfl
theorem holdLate_changes (p : Nat) (k : Nat × EPkt) (s : State) : Changes [.rings, .sch, .cnt, .out] s (holdLate p k s) := by
  unfold holdLate
  refine Changes.via ?_ (count_changes ..) (by decide +kernel)
  refine Changes.via ?_ (State.modEport_changes ..) (by decide +kernel)
  refine Changes.via ?_ (dropTx_changes ..) (by decide +kernel)
  exact Changes.rfl
theorem transmit_changes (p : Nat) (k : Nat × EPkt) (s : State) : Changes [.draws, .rings, .port, .tim, .tbl, .mash, .asa, .fab, .sch, .pair, .sec, .log, .flt, .cnt, .out] s (transmit p k s) := by
  unfold transmit
  refine Changes.ite ?_ ?_
  · refine Changes.via ?_ (underrun_changes ..) (by decide +kernel)
    refine Changes.via ?_ (dropTx_changes ..) (by decide +kernel)
    exact Changes.rfl
  · split
    · refine Changes.via ?_ (leftEgress_changes ..) (by decide +kernel)
      refine Changes.via ?_ (count_changes ..) (by decide +kernel)
      refine Changes.via ?_ (notify_changes ..) (by decide +kernel)
      refine Changes.via ?_ (dropTx_changes ..) (by decide +kernel)
      exact Changes.rfl
    · refine Changes.ite ?_ ?_
      · refine Changes.via ?_ (leftEgress_changes ..) (by decide +kernel)
        refine Changes.via ?_ (State.drawn_changes ..) (by decide +kernel)
        refine Changes.via ?_ (doubleLoss_changes ..) (by decide +kernel)
        refine Changes.via ?_ (dropTx_changes ..) (by decide +kernel)
        exact Changes.rfl
      · refine Changes.ite ?_ ?_
        · refine Changes.via ?_ (egressProcess_changes ..) (by decide +kernel)
          exact Changes.rfl
        · refine Changes.via ?_ (holdLate_changes ..) (by decide +kernel)
          exact Changes.rfl
theorem execLineFrameTransmit_changes (port : Nat) (s : State) : ∃ t, execLineFrameTransmit port s = .next t ∧ Changes [.draws, .rings, .port, .tim, .tbl, .mash, .asa, .fab, .sch, .pair, .sec, .log, .flt, .cnt, .out] s t := by
  refine ⟨_, rfl, ?_⟩
  refine Changes.when ?_ ?_
  · exact Changes.rfl
  · split
    · exact Changes.rfl
    · refine Changes.via ?_ (transmit_changes ..) (by decide +kernel)
      exact Changes.rfl

end Sys2Proof.Machine
end

