-- ==== Sys2Proof/Laws/Window.lean ====
section
/-! SUPPORT. What each operation of Machine/Window.lean can change. -/

set_option Elab.async false

namespace Sys2Proof.Machine

theorem State.riseCounts_changes (s : State) (bank ch v : Nat) : Changes [.draws, .cnt] s (State.riseCounts s bank ch v) := by
  unfold State.riseCounts
  refine Changes.ite ?_ ?_
  · refine Changes.foldS ?_ (fun _ _ => ?_)
    · refine Changes.via ?_ (State.drawn_changes ..) (by decide +kernel)
      exact Changes.rfl
    · refine Changes.via ?_ (bump_changes ..) (by decide +kernel)
      exact Changes.rfl
  · exact Changes.rfl
theorem execHifWinSel_changes (vi : Nat) (value : Word) (s : State) : ∃ t, execHifWinSel vi value s = .next t ∧ Changes [.rings, .cnt, .out] s t := by
  refine ⟨_, rfl, ?_⟩
  refine Changes.when ?_ ?_
  · exact Changes.rfl
  · extract_lets x1 x2
    refine Changes.ite ?_ ?_
    · refine Changes.via ?_ (count_changes ..) (by decide +kernel)
      subst x2
      refine Changes.via ?_ (State.modFn_changes ..) (by decide +kernel)
      exact Changes.rfl
    · subst x2
      refine Changes.via ?_ (State.modFn_changes ..) (by decide +kernel)
      exact Changes.rfl
theorem execWinDataLowRead_changes (vi : Nat) (v : Nat) (s : State) : ∃ t, execWinDataLowRead vi v s = .next t ∧ Changes [.draws, .rings, .cnt, .out] s t := by
  refine ⟨_, rfl, ?_⟩
  refine Changes.when ?_ ?_
  · exact Changes.rfl
  · extract_lets x1 x2 x3 x4
    refine Changes.via ?_ (State.emit_changes ..) (by decide +kernel)
    subst x4
    refine Changes.via ?_ (State.modFn_changes ..) (by decide +kernel)
    refine Changes.via ?_ (State.drawn_changes ..) (by decide +kernel)
    subst x2
    refine Changes.ite ?_ ?_
    · refine Changes.via ?_ (State.riseCounts_changes ..) (by decide +kernel)
      exact Changes.rfl
    · exact Changes.rfl
theorem execWinOvf_changes (vi : Nat) (value : Word) (s : State) : ∃ t, execWinOvf vi value s = .next t ∧ Changes [.cnt] s t := by
  refine ⟨_, rfl, ?_⟩
  refine Changes.when ?_ ?_
  · exact Changes.rfl
  · extract_lets x1 x2
    refine Changes.set_cnt ?_ (by decide)
    exact Changes.rfl
theorem readFour_changes (vi offset : Nat) (s : State) : Changes [.draws, .rings, .log, .cnt, .out] s (readFour vi offset s).2 := by
  unfold readFour
  extract_lets x1 x2
  refine Changes.ite_snd ?_ ?_
  · refine Changes.pair_snd ?_
    refine Changes.via ?_ (State.modFn_changes ..) (by decide +kernel)
    exact Changes.rfl
  · refine Changes.pair_snd ?_
    exact Changes.rfl
theorem readEight_changes (vi offset : Nat) (s : State) : Changes [.draws, .rings, .log, .cnt, .out] s (readEight vi offset s).2 := by
  unfold readEight
  dsimp only
  refine Changes.via ?_ (readFour_changes ..) (by decide +kernel)
  refine Changes.via ?_ (readFour_changes ..) (by decide +kernel)
  exact Changes.rfl

end Sys2Proof.Machine
end

