-- ==== Sys2Proof/WellFormed.lean ====
section
/-! DEFINITION. When a command's operands name things that exist: identifiers within the ranges of Table SC-5 and of the tables of
each family (functions, ports, planes, stacks, system ports, handles, sequence numbers). -/
namespace Sys2Proof

/-- The identifiers of a command are in range. -/
def Instr.wf : Instr → Bool
  | .hifNop vi _ => decide (vi < 64)
  | .hifIdentify vi _ => decide (vi < 64)
  | .hifJournalInfo vi _ => decide (vi < 64)
  | .hifNotifyMask vi _ => decide (vi < 64)
  | .hifSetCoalesce vi _ => decide (vi < 64)
  | .commandResume vi => decide (vi < 64)
  | .ringCommit vi => decide (vi < 64)
  | .ringDisable vi => decide (vi < 64)
  | .hifSqTailDb vi _ _ => decide (vi < 64)
  | .hifCqHeadDb vi _ => decide (vi < 64)
  | .hifNqHeadDb vi _ => decide (vi < 64)
  | .hifFaultClear vi _ => decide (vi < 64)
  | .hifWinSel vi _ => decide (vi < 64)
  | .winDataLowRead vi _ => decide (vi < 64)
  | .winOvf vi _ => decide (vi < 64)
  | .viPuntDb vi q _ _ => decide (vi < 64) && decide (q < 8)
  | .viInjDb vi q _ _ => decide (vi < 64) && decide (q < 8)
  | .registerWrite vi _ _ _ => decide (vi < 64)
  | .coalesceDelayExpiry vi vec => decide (vi < 64) && decide (vec < 4)
  | .pcieLinkDown => true
  | .pcieLinkUp _ => true
  | .ringAccessFailure vi _ => decide (vi < 64)
  | .functionLevelReset vi => decide (vi < 64)
  | .maltsterWatchdog => true
  | .fwReady _ _ => true
  | .coldResetAssert => true
  | .bcColdReset => true
  | .powerOnResetRelease => true
  | .poresetAssert => true
  | .kilnVerify slot _ => decide (slot < 2)
  | .wortBridgeTrainEnd _ => true
  | .hbmTrainingDone stack _ => decide (stack < 6)
  | .blockResetDone _ _ => true
  | .fullServiceBank0Clear => true
  | .devStatus vi _ => decide (vi < 64)
  | .devService vi _ => decide (vi < 64)
  | .devReset vi _ => decide (vi < 64)
  | .devSetCellarSet vi _ => decide (vi < 64)
  | .devSetBoard vi _ => decide (vi < 64)
  | .moduleInsert cage _ => decide (cage < 256)
  | .moduleReady cage => decide (cage < 256)
  | .moduleFault cage _ => decide (cage < 256)
  | .moduleRemove cage => decide (cage < 256)
  | .moduleFlag cage _ => decide (cage < 256)
  | .moduleReadyTimeout cage => decide (cage < 256)
  | .bcHeartbeat => true
  | .bcHeartbeatLoss => true
  | .helloSend => true
  | .helloReceive _ => true
  | .helloLoss => true
  | .portConfig vi _ => decide (vi < 64)
  | .portAdmin vi _ => decide (vi < 64)
  | .portStatus vi _ => decide (vi < 64)
  | .portMacsecSecy vi _ => decide (vi < 64)
  | .portMacsecRxsc vi _ => decide (vi < 64)
  | .portMacsecSa vi _ => decide (vi < 64)
  | .frmTrib vi _ => decide (vi < 64)
  | .frmTsiStage vi _ => decide (vi < 64)
  | .frmTsiSwap vi _ => decide (vi < 64)
  | .frmProt vi _ => decide (vi < 64)
  | .frmOhs vi _ => decide (vi < 64)
  | .frmStatus vi _ => decide (vi < 64)
  | .lineDefectDetect port _ _ => decide (port < 128)
  | .lineDefectClear port _ _ => decide (port < 128)
  | .fecDegradeWindow port _ _ => decide (port < 128)
  | .alignmentHuntCycle port _ => decide (port < 128)
  | .portLanesLocked port => decide (port < 128)
  | .upDebounceExpiry port => decide (port < 128)
  | .downDebounceExpiry port => decide (port < 128)
  | .protHoldoffExpiry group => decide (group < 256)
  | .waitToRestoreExpiry group => decide (group < 256)
  | .tsiSwapInstant port => decide (port < 128)
  | .tsiSlip port trib _ => decide (port < 128) && decide (trib < 80)
  | .ohsFrame ohs _ _ _ _ => decide (ohs < 8)
  | .lineFrameReceive port _ _ => decide (port < 128)
  | .pfcFrameReceive port _ => decide (port < 128)
  | .pfcPauseExpiry port tc => decide (port < 128) && decide (tc < 8)
  | .pfcXoffRepeat port tc => decide (port < 128) && decide (tc < 8)
  | .timeConfig vi _ => decide (vi < 64)
  | .timeSetIncrement vi _ => decide (vi < 64)
  | .timeStep vi _ => decide (vi < 64)
  | .timeStepTick => true
  | .timeGet vi _ => decide (vi < 64)
  | .timePort vi _ => decide (vi < 64)
  | .timeTxTsRead vi _ => decide (vi < 64)
  | .timePulseOut vi _ => decide (vi < 64)
  | .timePulseIn vi _ => decide (vi < 64)
  | .timeCaptureRead vi _ => decide (vi < 64)
  | .pulseOneShotFire pin => decide (pin < 4)
  | .pulsePeriodicEdge pin => decide (pin < 4)
  | .pulseInEdge pin _ => decide (pin < 2)
  | .probeSend port => decide (port < 128)
  | .pdelayReqReceive port _ _ => decide (port < 128)
  | .pdelayRespReceive port _ _ _ => decide (port < 128)
  | .probeUnanswered port => decide (port < 128)
  | .millParseComplete _ => true
  | .lookupComplete _ => true
  | .lookupTimeout _ => true
  | .resultAdmission port => decide (port < 192)
  | .noneToken port => decide (port < 192)
  | .frameLastCellWrite _ => true
  | .resolutionTokenApply port => decide (port < 192)
  | .trubEccError _ => true
  | .cacheParityError set way => decide (set < 131072) && decide (way < 8)
  | .cacheSetClear set => decide (set < 131072)
  | .tblStage vi _ => decide (vi < 64)
  | .tblCommit vi _ => decide (vi < 64)
  | .tblAbort vi _ => decide (vi < 64)
  | .tblRead vi _ => decide (vi < 64)
  | .tblPin vi _ => decide (vi < 64)
  | .tblDigest vi _ => decide (vi < 64)
  | .tblStatus vi _ => decide (vi < 64)
  | .tblConfig vi _ => decide (vi < 64)
  | .tblRaConfig vi _ => decide (vi < 64)
  | .tblRaFlush vi _ => decide (vi < 64)
  | .commitWaitExpiry vi => decide (vi < 64)
  | .epochRetire epoch => decide (epoch < 65536)
  | .encapVersionRetire handle version => decide (handle < 4194304) && decide (version < 256)
  | .asaRegion vi _ => decide (vi < 64)
  | .asaProfile vi _ => decide (vi < 64)
  | .asaWrite vi _ => decide (vi < 64)
  | .asaRead vi _ => decide (vi < 64)
  | .asaStatus vi _ => decide (vi < 64)
  | .asaConfig vi _ => decide (vi < 64)
  | .asaShadowRestoreDone region _ => decide (region < 64)
  | .asaScrub _ => true
  | .asaHoleRestore region => decide (region < 64)
  | .asaBankFault bank _ => decide (bank < 8)
  | .asaBankReloadDone bank _ => decide (bank < 8)
  | .asaRelocationDone bank => decide (bank < 8)
  | .asaThrottleRaise _ => true
  | .asaThrottleLower _ => true
  | .admProfile vi _ => decide (vi < 64)
  | .admBind vi _ => decide (vi < 64)
  | .admClass vi _ => decide (vi < 64)
  | .admPool vi _ => decide (vi < 64)
  | .admPfc vi _ => decide (vi < 64)
  | .admQueueStatus vi _ => decide (vi < 64)
  | .admStatus vi _ => decide (vi < 64)
  | .sojournSweep voq => decide (voq < 262144)
  | .hbmMigration voq => decide (voq < 262144)
  | .hbmPrefetch voq => decide (voq < 262144)
  | .caskScrub _ _ => true
  | .hbmPcFail stack pc _ => decide (stack < 6) && decide (pc < 32)
  | .hbmPcClear stack pc => decide (stack < 6) && decide (pc < 32)
  | .hbmStackFail stack => decide (stack < 6)
  | .fabPlane vi _ => decide (vi < 64)
  | .fabSpmap vi _ => decide (vi < 64)
  | .fabConfig vi _ => decide (vi < 64)
  | .fabCt vi _ => decide (vi < 64)
  | .fabStatus vi _ => decide (vi < 64)
  | .fabLaneTrained lane announced far => decide (lane < 160) && decide (announced < 16) && decide (far.serial < 2 ^ 128)
  | .fabLaneDown lane _ => decide (lane < 160)
  | .fabLaneUp lane => decide (lane < 160)
  | .formationTimerExpiry plane => decide (plane < 16)
  | .reachabilityTimerExpiry plane => decide (plane < 16)
  | .holdoffExpiry plane => decide (plane < 16)
  | .reachCell plane _ => decide (plane < 16)
  | .sunListingTimeout plane sun => decide (plane < 16) && decide (sun < 2048)
  | .reachabilitySend => true
  | .fabLinkFrameReceive lane slot _ _ => decide (lane < 160) && decide (slot < 2)
  | .matcherGrant voq plane => decide (voq < 262144) && decide (plane < 16)
  | .retentionSend _ plane dest => decide (plane < 16) && decide (dest < 2048)
  | .requestSend voq => decide (voq < 262144)
  | .creditGrant sp tc src => decide (sp < 32768) && decide (tc < 8) && decide (src < 2048)
  | .dataCellReceive plane _ => decide (plane < 16)
  | .confirmEntry src stream sp tc first _ => decide (src < 2048) && decide (stream < 2048) && decide (sp < 32768) && decide (tc < 8) && decide (first < 16777216)
  | .voidEntry src stream sp tc first _ => decide (src < 2048) && decide (stream < 2048) && decide (sp < 32768) && decide (tc < 8) && decide (first < 16777216)
  | .requestEntry src sp tc _ _ => decide (src < 2048) && decide (sp < 32768) && decide (tc < 8)
  | .creditEntry src sp tc _ => decide (src < 2048) && decide (sp < 32768) && decide (tc < 8)
  | .ackEntry src _ stream sp tc _ _ => decide (src < 2048) && decide (stream < 2048) && decide (sp < 32768) && decide (tc < 8)
  | .cellAckTimeout _ dest => decide (dest < 2048)
  | .planeSuspectEnd plane sun => decide (plane < 16) && decide (sun < 2048)
  | .holeTimeout stream sp tc => decide (stream < 2048) && decide (sp < 32768) && decide (tc < 8)
  | .dupWaitExpiry stream sp tc seq => decide (stream < 2048) && decide (sp < 32768) && decide (tc < 8) && decide (seq < 16777216)
  | .memberSilenceExpiry sun => decide (sun < 2048)
  | .streamEntryFree stream sp tc => decide (stream < 2048) && decide (sp < 32768) && decide (tc < 8)
  | .schNode vi _ => decide (vi < 64)
  | .schQmap vi _ => decide (vi < 64)
  | .schSetShaper vi _ => decide (vi < 64)
  | .schSetPolicer vi _ => decide (vi < 64)
  | .schGateList vi _ => decide (vi < 64)
  | .schPort vi _ => decide (vi < 64)
  | .schRemark vi _ => decide (vi < 64)
  | .schFlush vi _ => decide (vi < 64)
  | .schStatus vi _ => decide (vi < 64)
  | .schedulerSelect port => decide (port < 128)
  | .lineFrameTransmit port => decide (port < 128)
  | .shaperRefill shaper => decide (shaper < 65536)
  | .gateListStart port => decide (port < 128)
  | .gateEntryEnd port => decide (port < 128)
  | .holdDeadline port => decide (port < 128)
  | .pairConfig vi _ => decide (vi < 64)
  | .pairPort vi _ => decide (vi < 64)
  | .pairState vi _ => decide (vi < 64)
  | .pairSwitch vi _ => decide (vi < 64)
  | .pairDraught vi _ => decide (vi < 64)
  | .pairPortExchange port _ => decide (port < 128)
  | .partnerWaitExpiry => true
  | .bungRenewSend => true
  | .bungRenew gen _ => decide (gen < 4294967296)
  | .bungAck gen _ => decide (gen < 4294967296)
  | .bungHandover gen => decide (gen < 4294967296)
  | .bungHandoverAck gen => decide (gen < 4294967296)
  | .leaseFence => true
  | .bungTake => true
  | .takeoverComplete => true
  | .announceSend => true
  | .announceEntry _ => true
  | .divergeEntry stream sp tc seq reporter => decide (stream < 2048) && decide (sp < 32768) && decide (tc < 8) && decide (seq < 16777216) && decide (reporter < 2048)
  | .reconQuery stream _ => decide (stream < 2048)
  | .reconAnswer stream _ _ sp tc seq => decide (stream < 2048) && decide (sp < 32768) && decide (tc < 8) && decide (seq < 16777216)
  | .reconQueryTimeout port => decide (port < 128)
  | .arrivalSwitchPoint port epoch _ => decide (port < 128) && decide (epoch < 65536)
  | .markEntry stream sp tc seq => decide (stream < 2048) && decide (sp < 32768) && decide (tc < 8) && decide (seq < 16777216)
  | .journalEntry _ _ => true
  | .journalMarkAck _ => true
  | .anchorRun port _ _ => decide (port < 128)
  | .syncComplete => true
  | .unsyncedPortRestart port => decide (port < 128)
  | .draughtPeriod => true
  | .peerLaneDown lane => decide (lane < 4)
  | .peerLaneUp lane => decide (lane < 4)
  | .viCreate vi _ => decide (vi < 64)
  | .viModify vi _ => decide (vi < 64)
  | .viDestroy vi _ => decide (vi < 64)
  | .viReset vi _ => decide (vi < 64)
  | .viQueue vi _ => decide (vi < 64)
  | .viStatus vi _ => decide (vi < 64)
  | .viResetDrainEnd vi => decide (vi < 64)
  | .puntDeliver vi q _ => decide (vi < 64) && decide (q < 8)
  | .injectFetch vi q _ => decide (vi < 64) && decide (q < 8)
  | .injectReadDone vi q _ => decide (vi < 64) && decide (q < 8)
  | .secSpdm vi _ => decide (vi < 64)
  | .secStatus vi _ => decide (vi < 64)
  | .secImportPub vi _ => decide (vi < 64)
  | .secKeyImport vi _ => decide (vi < 64)
  | .secKeyDelete vi _ => decide (vi < 64)
  | .secMka vi _ => decide (vi < 64)
  | .secLink vi _ => decide (vi < 64)
  | .secTrust vi _ => decide (vi < 64)
  | .secOwnerCert vi _ => decide (vi < 64)
  | .secDebug vi _ => decide (vi < 64)
  | .secZeroize vi _ => decide (vi < 64)
  | .linkHandshakeMessage link _ => decide (link < 17)
  | .rekeyIntervalExpiry link => decide (link < 17)
  | .oldKeySlotExpiry link => decide (link < 17)
  | .handshakeRetry link => decide (link < 17)
  | .mkpduReceive port _ => decide (port < 128)
  | .mkaHello port => decide (port < 128)
  | .updOpen vi _ => decide (vi < 64)
  | .updChunk vi _ => decide (vi < 64)
  | .updStatus vi _ => decide (vi < 64)
  | .updAbort vi _ => decide (vi < 64)
  | .updActivate vi _ => decide (vi < 64)
  | .updConfirm vi _ => decide (vi < 64)
  | .updSwap => true
  | .swapWaitExpiry => true
  | .linkBankSwapDone => true
  | .confirmWindowExpiry => true
  | .fltStatus vi _ => decide (vi < 64)
  | .fltLogRead vi _ => decide (vi < 64)
  | .fltInject vi _ => decide (vi < 64)
  | .wbFlitReceive dir group _ _ => decide (dir < 2) && decide (group < 8)
  | .wbLaneFail dir _ => decide (dir < 2)
  | .wbLaneRepairDone dir _ => decide (dir < 2)
  | .wbRestripeDone dir group => decide (dir < 2) && decide (group < 8)
  | .tblPcFail stack pc => decide (stack < 2) && decide (pc < 32)
  | .tblPcRecopyDone stack pc => decide (stack < 2) && decide (pc < 32)
  | .mashPipeFault _ => true
  | .faultRecordClose _ => true
  | .cntRead vi _ => decide (vi < 64)
  | .cntSelect vi _ => decide (vi < 64)
  | .cntMeter vi _ => decide (vi < 64)
  | .cntMeterRead vi _ => decide (vi < 64)
  | .cntDescribe vi _ => decide (vi < 64)
  | .cntWindowBoundary counter => decide (counter < 64)
  | .meterWindowBoundary port => decide (port < 128)
  | .pwrStatus vi _ => decide (vi < 64)
  | .pwrDomain vi _ => decide (vi < 64)
  | .pwrGpio vi _ => decide (vi < 64)
  | .domainPowerGood pd => decide (pd < 56)
  | .domainFault pd _ => decide (pd < 56)
  | .domainRetry pd => decide (pd < 56)
  | .refclkLoss => true
  | .refclkRelock _ => true
  | .railUndervoltage _ => true
  | .thermalStateEnter _ _ => true
  | .thermalStateLeave _ _ => true
  | .thermalTrip => true
  | .hbmThermal stack _ => decide (stack < 6)
  | .gpioEdge pin _ => decide (pin < 16)
  | .rootpllLock => true
  | .refclkRelockDone => true
  | .pulseWidthEnd pin => decide (pin < 4)
  | .mkaLifetimeExpiry port _ => decide (port < 128)
  | .anchorCut port _ _ => decide (port < 128)
  | .swapCommitRetry => true
  | .planeDownAnnounced plane => decide (plane < 16)

end Sys2Proof
end

