-- ==== Sys2Proof/Tests/Slice0.lean ====
section
/-! SUPPORT. Tests: the WellFormed smoke, one-step tests against the spec's worked examples, and for every obligation with hypotheses a
witness for each of its clauses. -/
set_option Elab.async false
namespace Sys2Proof.Tests
open Sys2Proof Sys2Proof.Machine

/-! ### Small states -/

def yes : HostIo := { readOk := true, writeOk := true }

/-- Rings of 256 entries. -/
def rings : RingRegs := { sqSize := 8, cqSize := 8, nqSize := 8 }

/-- A submission entry with CMD_ID 1: opcode, parameters (offset, size, value), data buffer, DATA_LEN. -/
def ent (op : Nat) (ps : List (Nat × Nat × Nat) := []) (data : List Byte := []) (n : Nat := data.length) : Entry :=
  ⟨ps.foldl (fun b p => patch b p.1 (putLe p.2.1 p.2.2))
    (putLe 8 1 ++ putLe 2 op ++ zeros 2 ++ putLe 4 n ++ putLe 8 (if n = 0 then 0 else 64) ++ zeros 40), data⟩

/-- A device out of reset whose firmware is ready, in full service, with every domain on. -/
def up : State :=
  { State.reset with
    hif := { fwReady := true, fwVersion := 7 },
    dev := { State.reset.dev with inReset := false, step := 8, phase := .full },
    pwr := { domains := (List.range 64).map (fun d => (d, .on)) },
    upd := {} }

/-- Running rings of a function, with these entries waiting. -/
def running (sq : List Entry) (s : State := up) (vi : Nat := 0) : State :=
  s.modFn vi (fun f => { f with ring := .running, active := rings, sq := sq })

/-- A command at the head of the ring of VI0. -/
def queued (e : Entry) (s : State := up) : State := running [e] s

/-- Port 0 an Ethernet port that is up. -/
def eth : State := { up with port := { cfg := [(0, {})], ports := [(0, { st := .up })] } }

/-- Port 0 an OTN port that is up. -/
def otn : State := { up with port := { cfg := [(0, { type := 2, otucN := 1 })], ports := [(0, { st := .up })] } }


/-- A record that sets the settings of port 7 to program 0. -/
def portRec : List Byte := [6, 1, 16, 0, 0, 0, 0, 0, 7, 0, 0, 0, 0, 0, 0, 0]

/-- Two live epochs, 4 and 5. -/
def ep2 : State := { up with tbl := { epochs := [{ num := 4, st := .draining }, { num := 5 }] } }

/-- Region 2, narrow and by position, with an entry of ID 10 at its first row. -/
def reg2 : Region := { blocks := [(1, 0)], entries := [(0, { id := 10 })] }

/-- ASA bank 1 on, with region 2 in it. -/
def asa2 : State := { up with asa := { regions := [(2, reg2)], banks := [(1, { st := .on })] } }

/-- Region 2 with an entry at its first hole. -/
def hol : Region := { blocks := [(1, 0)], entries := [(15, {})] }
def asa3 : State := { up with asa := { regions := [(2, hol)] } }

/-- SUN 1 with plane 0 up, SUN 2 behind it, system port 5 at SUN 2 and system port 6 at port 7 of this unit. -/
def fab0 : State :=
  { up with
    dev := { up.dev with cfg := { up.dev.cfg with sun := 1 } },
    fab :=
      { cfg := { planes := [(0, { enabled := true, minLanes := 1, backToBack := true })],
                 spmap := [(5, { sun := 2 }), (6, { sun := 1, localPort := 7 })] },
        planes := [(0, { st := .up })], lanes := [(0, { trained := true }), (1, { trained := true })], listings := [(2, 0)] } }

/-- A data cell with an empty payload, for this unit. -/
def dcell : Cell := ⟨.data, false, false, false, false, false, false, 1, 2, 2, 6, 0, 0, 0, 7, []⟩

/-- A pair member with partner 2, pair SUN 9 and port 0 paired with stream SUN 11; one peer lane is up. -/
def mem : State :=
  { fab0 with pair := { cfg := { pair := some { partner := 2, pairSun := 9 }, ports := [(0, { stream := 11 })] }, peerLanes := [3] } }

/-- Instance 5 with two queues of each kind. -/
def ins : State :=
  { up with hif := { up.hif with linkUp := true }, insts := up.insts ++ [(5, { st := .active, grant := { puntQueues := 2, injectQueues := 2 } })] }

/-- An inject entry for a frame of 60 bytes. -/
def inj60 : List Byte := zeros 8 ++ [60] ++ zeros 55

/-- A bundle head of one chunk: 14 parts, each of 16 bytes at offset 0 of a body of 64 bytes. -/
def head1 : List Byte :=
  putLe 4 0x314B5641 ++ putLe 2 1 ++ putLe 2 14 ++ putLe 4 5923 ++ putLe 4 64 ++ putLe 4 1200 ++ putLe 2 1 ++ putLe 2 0x2560 ++ putLe 1 0xB0
    ++ [3, 0, 0] ++ putLe 4 9 ++ zeros 224
    ++ (upFrom 1 14).flatMap (fun t => putLe 1 t ++ putLe 1 ((partClass t).getD 0) ++ putLe 2 0 ++ putLe 4 0 ++ putLe 4 16 ++ zeros 52)
    ++ zeros 4771

/-- The head of a bundle of two chunks, the second of 8 bytes. -/
def head2 : List Byte := zeros 6 ++ [14, 0] ++ zeros 4 ++ putLe 4 65544 ++ zeros 4 ++ putLe 2 2

/-- The head of a bundle of one chunk of 8 bytes. -/
def head3 : List Byte := zeros 6 ++ [14, 0] ++ zeros 4 ++ putLe 4 8 ++ zeros 4 ++ putLe 2 1

/-- Slot B in this state. -/
def slotB (x : Slot) (trial : Option Nat := none) : State := { up with upd := { slotB := { x with digest := zeros 48 }, trial := trial } }

theorem starts_of {op vi : Nat} {io : HostIo} {e : Entry} {s : State} (h1 : s.canStart op vi = true) (h2 : (s.fn vi).sq.head? = some e)
    (h3 : (cmdInfo op).any (fun c => (preCheck c vi io e (taken vi s)).isNone) = true) : starts op vi io e s = true := by
  unfold starts
  cases h : cmdInfo op with
  | none => simp [h] at h3
  | some c => simpa [h, h1, h2] using h3

/-! ### WellFormed: each check refuses a term one past its range -/

theorem illFormed_functions_1 :
    (∀ a1, Instr.wf (.hifNop 64 a1) = false) ∧ (∀ a1, Instr.wf (.hifIdentify 64 a1) = false) ∧
    (∀ a1, Instr.wf (.hifJournalInfo 64 a1) = false) ∧ (∀ a1, Instr.wf (.hifNotifyMask 64 a1) = false) ∧
    (∀ a1, Instr.wf (.hifSetCoalesce 64 a1) = false) ∧ Instr.wf (.commandResume 64) = false ∧ Instr.wf (.ringCommit 64) = false ∧
    Instr.wf (.ringDisable 64) = false ∧ (∀ a1 a2, Instr.wf (.hifSqTailDb 64 a1 a2) = false) ∧
    (∀ a1, Instr.wf (.hifCqHeadDb 64 a1) = false) ∧ (∀ a1, Instr.wf (.hifNqHeadDb 64 a1) = false) ∧
    (∀ a1, Instr.wf (.hifFaultClear 64 a1) = false) ∧ (∀ a1, Instr.wf (.hifWinSel 64 a1) = false) ∧
    (∀ a1, Instr.wf (.winDataLowRead 64 a1) = false) ∧ (∀ a1, Instr.wf (.winOvf 64 a1) = false) ∧
    (∀ a1 a2 a3, Instr.wf (.viPuntDb 64 a1 a2 a3) = false) ∧ (∀ a1 a2 a3, Instr.wf (.viInjDb 64 a1 a2 a3) = false) ∧
    (∀ a1 a2 a3, Instr.wf (.registerWrite 64 a1 a2 a3) = false) ∧ (∀ a1, Instr.wf (.coalesceDelayExpiry 64 a1) = false) ∧
    (∀ a1, Instr.wf (.ringAccessFailure 64 a1) = false) ∧ Instr.wf (.functionLevelReset 64) = false ∧
    (∀ a1, Instr.wf (.devStatus 64 a1) = false) ∧ (∀ a1, Instr.wf (.devService 64 a1) = false) ∧
    (∀ a1, Instr.wf (.devReset 64 a1) = false) ∧ (∀ a1, Instr.wf (.devSetCellarSet 64 a1) = false) ∧
    (∀ a1, Instr.wf (.devSetBoard 64 a1) = false) ∧ (∀ a1, Instr.wf (.portConfig 64 a1) = false) ∧
    (∀ a1, Instr.wf (.portAdmin 64 a1) = false) ∧ (∀ a1, Instr.wf (.portStatus 64 a1) = false) ∧
    (∀ a1, Instr.wf (.portMacsecSecy 64 a1) = false) ∧ (∀ a1, Instr.wf (.portMacsecRxsc 64 a1) = false) ∧
    (∀ a1, Instr.wf (.portMacsecSa 64 a1) = false) ∧ (∀ a1, Instr.wf (.frmTrib 64 a1) = false) ∧
    (∀ a1, Instr.wf (.frmTsiStage 64 a1) = false) ∧ (∀ a1, Instr.wf (.frmTsiSwap 64 a1) = false) ∧
    (∀ a1, Instr.wf (.frmProt 64 a1) = false) ∧ (∀ a1, Instr.wf (.frmOhs 64 a1) = false) ∧ (∀ a1, Instr.wf (.frmStatus 64 a1) = false) ∧
    (∀ a1, Instr.wf (.timeConfig 64 a1) = false) ∧ (∀ a1, Instr.wf (.timeSetIncrement 64 a1) = false) ∧
    (∀ a1, Instr.wf (.timeStep 64 a1) = false) ∧ (∀ a1, Instr.wf (.timeGet 64 a1) = false) ∧ (∀ a1, Instr.wf (.timePort 64 a1) = false) ∧
    (∀ a1, Instr.wf (.timeTxTsRead 64 a1) = false) ∧ (∀ a1, Instr.wf (.timePulseOut 64 a1) = false) ∧
    (∀ a1, Instr.wf (.timePulseIn 64 a1) = false) ∧ (∀ a1, Instr.wf (.timeCaptureRead 64 a1) = false) ∧
    (∀ a1, Instr.wf (.tblStage 64 a1) = false) ∧ (∀ a1, Instr.wf (.tblCommit 64 a1) = false) ∧
    (∀ a1, Instr.wf (.tblAbort 64 a1) = false) ∧ (∀ a1, Instr.wf (.tblRead 64 a1) = false) ∧ (∀ a1, Instr.wf (.tblPin 64 a1) = false) ∧
    (∀ a1, Instr.wf (.tblDigest 64 a1) = false) ∧ (∀ a1, Instr.wf (.tblStatus 64 a1) = false) ∧
    (∀ a1, Instr.wf (.tblConfig 64 a1) = false) ∧ (∀ a1, Instr.wf (.tblRaConfig 64 a1) = false) ∧
    (∀ a1, Instr.wf (.tblRaFlush 64 a1) = false) ∧ Instr.wf (.commitWaitExpiry 64) = false ∧
    (∀ a1, Instr.wf (.asaRegion 64 a1) = false) ∧ (∀ a1, Instr.wf (.asaProfile 64 a1) = false) := by
  simp [Instr.wf]

theorem illFormed_functions_2 :
    (∀ a1, Instr.wf (.asaWrite 64 a1) = false) ∧ (∀ a1, Instr.wf (.asaRead 64 a1) = false) ∧
    (∀ a1, Instr.wf (.asaStatus 64 a1) = false) ∧ (∀ a1, Instr.wf (.asaConfig 64 a1) = false) ∧
    (∀ a1, Instr.wf (.admProfile 64 a1) = false) ∧ (∀ a1, Instr.wf (.admBind 64 a1) = false) ∧
    (∀ a1, Instr.wf (.admClass 64 a1) = false) ∧ (∀ a1, Instr.wf (.admPool 64 a1) = false) ∧ (∀ a1, Instr.wf (.admPfc 64 a1) = false) ∧
    (∀ a1, Instr.wf (.admQueueStatus 64 a1) = false) ∧ (∀ a1, Instr.wf (.admStatus 64 a1) = false) ∧
    (∀ a1, Instr.wf (.fabPlane 64 a1) = false) ∧ (∀ a1, Instr.wf (.fabSpmap 64 a1) = false) ∧
    (∀ a1, Instr.wf (.fabConfig 64 a1) = false) ∧ (∀ a1, Instr.wf (.fabCt 64 a1) = false) ∧ (∀ a1, Instr.wf (.fabStatus 64 a1) = false) ∧
    (∀ a1, Instr.wf (.schNode 64 a1) = false) ∧ (∀ a1, Instr.wf (.schQmap 64 a1) = false) ∧
    (∀ a1, Instr.wf (.schSetShaper 64 a1) = false) ∧ (∀ a1, Instr.wf (.schSetPolicer 64 a1) = false) ∧
    (∀ a1, Instr.wf (.schGateList 64 a1) = false) ∧ (∀ a1, Instr.wf (.schPort 64 a1) = false) ∧
    (∀ a1, Instr.wf (.schRemark 64 a1) = false) ∧ (∀ a1, Instr.wf (.schFlush 64 a1) = false) ∧
    (∀ a1, Instr.wf (.schStatus 64 a1) = false) ∧ (∀ a1, Instr.wf (.pairConfig 64 a1) = false) ∧
    (∀ a1, Instr.wf (.pairPort 64 a1) = false) ∧ (∀ a1, Instr.wf (.pairState 64 a1) = false) ∧
    (∀ a1, Instr.wf (.pairSwitch 64 a1) = false) ∧ (∀ a1, Instr.wf (.pairDraught 64 a1) = false) ∧
    (∀ a1, Instr.wf (.viCreate 64 a1) = false) ∧ (∀ a1, Instr.wf (.viModify 64 a1) = false) ∧
    (∀ a1, Instr.wf (.viDestroy 64 a1) = false) ∧ (∀ a1, Instr.wf (.viReset 64 a1) = false) ∧ (∀ a1, Instr.wf (.viQueue 64 a1) = false) ∧
    (∀ a1, Instr.wf (.viStatus 64 a1) = false) ∧ Instr.wf (.viResetDrainEnd 64) = false ∧
    (∀ a1 a2, Instr.wf (.puntDeliver 64 a1 a2) = false) ∧ (∀ a1 a2, Instr.wf (.injectFetch 64 a1 a2) = false) ∧
    (∀ a1 a2, Instr.wf (.injectReadDone 64 a1 a2) = false) ∧ (∀ a1, Instr.wf (.secSpdm 64 a1) = false) ∧
    (∀ a1, Instr.wf (.secStatus 64 a1) = false) ∧ (∀ a1, Instr.wf (.secImportPub 64 a1) = false) ∧
    (∀ a1, Instr.wf (.secKeyImport 64 a1) = false) ∧ (∀ a1, Instr.wf (.secKeyDelete 64 a1) = false) ∧
    (∀ a1, Instr.wf (.secMka 64 a1) = false) ∧ (∀ a1, Instr.wf (.secLink 64 a1) = false) ∧ (∀ a1, Instr.wf (.secTrust 64 a1) = false) ∧
    (∀ a1, Instr.wf (.secOwnerCert 64 a1) = false) ∧ (∀ a1, Instr.wf (.secDebug 64 a1) = false) ∧
    (∀ a1, Instr.wf (.secZeroize 64 a1) = false) ∧ (∀ a1, Instr.wf (.updOpen 64 a1) = false) ∧
    (∀ a1, Instr.wf (.updChunk 64 a1) = false) ∧ (∀ a1, Instr.wf (.updStatus 64 a1) = false) ∧
    (∀ a1, Instr.wf (.updAbort 64 a1) = false) ∧ (∀ a1, Instr.wf (.updActivate 64 a1) = false) ∧
    (∀ a1, Instr.wf (.updConfirm 64 a1) = false) ∧ (∀ a1, Instr.wf (.fltStatus 64 a1) = false) ∧
    (∀ a1, Instr.wf (.fltLogRead 64 a1) = false) ∧ (∀ a1, Instr.wf (.fltInject 64 a1) = false) := by
  simp [Instr.wf]

theorem illFormed_functions_3 :
    (∀ a1, Instr.wf (.cntRead 64 a1) = false) ∧ (∀ a1, Instr.wf (.cntSelect 64 a1) = false) ∧
    (∀ a1, Instr.wf (.cntMeter 64 a1) = false) ∧ (∀ a1, Instr.wf (.cntMeterRead 64 a1) = false) ∧
    (∀ a1, Instr.wf (.cntDescribe 64 a1) = false) ∧ (∀ a1, Instr.wf (.pwrStatus 64 a1) = false) ∧
    (∀ a1, Instr.wf (.pwrDomain 64 a1) = false) ∧ (∀ a1, Instr.wf (.pwrGpio 64 a1) = false) := by
  simp [Instr.wf]

theorem illFormed_queues :
    (∀ a0 a2 a3, Instr.wf (.viPuntDb a0 8 a2 a3) = false) ∧ (∀ a0 a2 a3, Instr.wf (.viInjDb a0 8 a2 a3) = false) ∧
    (∀ a0 a2, Instr.wf (.puntDeliver a0 8 a2) = false) ∧ (∀ a0 a2, Instr.wf (.injectFetch a0 8 a2) = false) ∧
    (∀ a0 a2, Instr.wf (.injectReadDone a0 8 a2) = false) := by
  simp [Instr.wf]

theorem illFormed_otherIdentifiers :
    (∀ a0, Instr.wf (.coalesceDelayExpiry a0 4) = false) ∧ (∀ a1, Instr.wf (.kilnVerify 2 a1) = false) ∧
    (∀ a1, Instr.wf (.moduleInsert 256 a1) = false) ∧ Instr.wf (.moduleReady 256) = false ∧
    (∀ a1, Instr.wf (.moduleFault 256 a1) = false) ∧ Instr.wf (.moduleRemove 256) = false ∧
    (∀ a1, Instr.wf (.moduleFlag 256 a1) = false) ∧ Instr.wf (.moduleReadyTimeout 256) = false ∧
    Instr.wf (.protHoldoffExpiry 256) = false ∧ Instr.wf (.waitToRestoreExpiry 256) = false ∧
    (∀ a0 a2, Instr.wf (.tsiSlip a0 80 a2) = false) ∧ (∀ a1 a2 a3 a4, Instr.wf (.ohsFrame 8 a1 a2 a3 a4) = false) ∧
    Instr.wf (.pulseOneShotFire 4) = false ∧ Instr.wf (.pulsePeriodicEdge 4) = false ∧ (∀ a1, Instr.wf (.pulseInEdge 2 a1) = false) ∧
    (∀ a1, Instr.wf (.cacheParityError 131072 a1) = false) ∧ (∀ a0, Instr.wf (.cacheParityError a0 8) = false) ∧
    Instr.wf (.cacheSetClear 131072) = false ∧ Instr.wf (.epochRetire 65536) = false ∧
    (∀ a1, Instr.wf (.encapVersionRetire 4194304 a1) = false) ∧ (∀ a0, Instr.wf (.encapVersionRetire a0 256) = false) ∧
    (∀ a1, Instr.wf (.asaShadowRestoreDone 64 a1) = false) ∧ Instr.wf (.asaHoleRestore 64) = false ∧
    (∀ a1, Instr.wf (.asaBankFault 8 a1) = false) ∧ (∀ a1, Instr.wf (.asaBankReloadDone 8 a1) = false) ∧
    Instr.wf (.asaRelocationDone 8) = false ∧ Instr.wf (.sojournSweep 262144) = false ∧ Instr.wf (.hbmMigration 262144) = false ∧
    Instr.wf (.hbmPrefetch 262144) = false ∧ (∀ a0 a2, Instr.wf (.fabLaneTrained a0 16 a2) = false) ∧
    (∀ a0 a2 a3, Instr.wf (.fabLinkFrameReceive a0 2 a2 a3) = false) ∧ (∀ a1, Instr.wf (.matcherGrant 262144 a1) = false) ∧
    Instr.wf (.requestSend 262144) = false ∧ Instr.wf (.shaperRefill 65536) = false ∧
    (∀ a0 a2, Instr.wf (.arrivalSwitchPoint a0 65536 a2) = false) ∧ (∀ a1, Instr.wf (.linkHandshakeMessage 17 a1) = false) ∧
    Instr.wf (.rekeyIntervalExpiry 17) = false ∧ Instr.wf (.oldKeySlotExpiry 17) = false ∧ Instr.wf (.handshakeRetry 17) = false ∧
    (∀ a1 a2 a3, Instr.wf (.wbFlitReceive 2 a1 a2 a3) = false) ∧ (∀ a0 a2 a3, Instr.wf (.wbFlitReceive a0 8 a2 a3) = false) ∧
    (∀ a1, Instr.wf (.wbLaneFail 2 a1) = false) ∧ (∀ a1, Instr.wf (.wbLaneRepairDone 2 a1) = false) ∧
    (∀ a1, Instr.wf (.wbRestripeDone 2 a1) = false) ∧ (∀ a0, Instr.wf (.wbRestripeDone a0 8) = false) ∧
    Instr.wf (.cntWindowBoundary 64) = false ∧ Instr.wf (.domainPowerGood 56) = false ∧ (∀ a1, Instr.wf (.domainFault 56 a1) = false) ∧
    Instr.wf (.domainRetry 56) = false ∧ (∀ a1, Instr.wf (.gpioEdge 16 a1) = false) ∧ Instr.wf (.pulseWidthEnd 4) = false ∧
    (∀ a0 a1, Instr.wf (.fabLaneTrained a0 a1 { serial := 2 ^ 128 }) = false) := by
  simp [Instr.wf]

theorem illFormed_stacks :
    (∀ a1, Instr.wf (.hbmTrainingDone 6 a1) = false) ∧ (∀ a1 a2, Instr.wf (.hbmPcFail 6 a1 a2) = false) ∧
    (∀ a0 a2, Instr.wf (.hbmPcFail a0 32 a2) = false) ∧ (∀ a1, Instr.wf (.hbmPcClear 6 a1) = false) ∧
    (∀ a0, Instr.wf (.hbmPcClear a0 32) = false) ∧ Instr.wf (.hbmStackFail 6) = false ∧ (∀ a1, Instr.wf (.tblPcFail 2 a1) = false) ∧
    (∀ a0, Instr.wf (.tblPcFail a0 32) = false) ∧ (∀ a1, Instr.wf (.tblPcRecopyDone 2 a1) = false) ∧
    (∀ a0, Instr.wf (.tblPcRecopyDone a0 32) = false) ∧ (∀ a1, Instr.wf (.hbmThermal 6 a1) = false) := by
  simp [Instr.wf]

theorem illFormed_ports :
    (∀ a1 a2, Instr.wf (.lineDefectDetect 128 a1 a2) = false) ∧ (∀ a1 a2, Instr.wf (.lineDefectClear 128 a1 a2) = false) ∧
    (∀ a1 a2, Instr.wf (.fecDegradeWindow 128 a1 a2) = false) ∧ (∀ a1, Instr.wf (.alignmentHuntCycle 128 a1) = false) ∧
    Instr.wf (.portLanesLocked 128) = false ∧ Instr.wf (.upDebounceExpiry 128) = false ∧ Instr.wf (.downDebounceExpiry 128) = false ∧
    Instr.wf (.tsiSwapInstant 128) = false ∧ (∀ a1 a2, Instr.wf (.tsiSlip 128 a1 a2) = false) ∧
    (∀ a1 a2, Instr.wf (.lineFrameReceive 128 a1 a2) = false) ∧ (∀ a1, Instr.wf (.pfcFrameReceive 128 a1) = false) ∧
    (∀ a1, Instr.wf (.pfcPauseExpiry 128 a1) = false) ∧ (∀ a1, Instr.wf (.pfcXoffRepeat 128 a1) = false) ∧
    Instr.wf (.probeSend 128) = false ∧ (∀ a1 a2, Instr.wf (.pdelayReqReceive 128 a1 a2) = false) ∧
    (∀ a1 a2 a3, Instr.wf (.pdelayRespReceive 128 a1 a2 a3) = false) ∧ Instr.wf (.probeUnanswered 128) = false ∧
    Instr.wf (.resultAdmission 192) = false ∧ Instr.wf (.noneToken 192) = false ∧ Instr.wf (.resolutionTokenApply 192) = false ∧
    Instr.wf (.schedulerSelect 128) = false ∧ Instr.wf (.lineFrameTransmit 128) = false ∧ Instr.wf (.gateListStart 128) = false ∧
    Instr.wf (.gateEntryEnd 128) = false ∧ Instr.wf (.holdDeadline 128) = false ∧ (∀ a1, Instr.wf (.pairPortExchange 128 a1) = false) ∧
    Instr.wf (.reconQueryTimeout 128) = false ∧ (∀ a1 a2, Instr.wf (.arrivalSwitchPoint 128 a1 a2) = false) ∧
    (∀ a1 a2, Instr.wf (.anchorRun 128 a1 a2) = false) ∧ Instr.wf (.unsyncedPortRestart 128) = false ∧
    (∀ a1, Instr.wf (.mkpduReceive 128 a1) = false) ∧ Instr.wf (.mkaHello 128) = false ∧ Instr.wf (.meterWindowBoundary 128) = false ∧
    (∀ a1, Instr.wf (.mkaLifetimeExpiry 128 a1) = false) ∧ (∀ a1 a2, Instr.wf (.anchorCut 128 a1 a2) = false) := by
  simp [Instr.wf]

theorem illFormed_classes :
    (∀ a0, Instr.wf (.pfcPauseExpiry a0 8) = false) ∧ (∀ a0, Instr.wf (.pfcXoffRepeat a0 8) = false) ∧
    (∀ a0 a2, Instr.wf (.creditGrant a0 8 a2) = false) ∧ (∀ a0 a1 a2 a4 a5, Instr.wf (.confirmEntry a0 a1 a2 8 a4 a5) = false) ∧
    (∀ a0 a1 a2 a4 a5, Instr.wf (.voidEntry a0 a1 a2 8 a4 a5) = false) ∧
    (∀ a0 a1 a3 a4, Instr.wf (.requestEntry a0 a1 8 a3 a4) = false) ∧ (∀ a0 a1 a3, Instr.wf (.creditEntry a0 a1 8 a3) = false) ∧
    (∀ a0 a1 a2 a3 a5 a6, Instr.wf (.ackEntry a0 a1 a2 a3 8 a5 a6) = false) ∧ (∀ a0 a1, Instr.wf (.holeTimeout a0 a1 8) = false) ∧
    (∀ a0 a1 a3, Instr.wf (.dupWaitExpiry a0 a1 8 a3) = false) ∧ (∀ a0 a1, Instr.wf (.streamEntryFree a0 a1 8) = false) ∧
    (∀ a0 a1 a3 a4, Instr.wf (.divergeEntry a0 a1 8 a3 a4) = false) ∧
    (∀ a0 a1 a2 a3 a5, Instr.wf (.reconAnswer a0 a1 a2 a3 8 a5) = false) ∧ (∀ a0 a1 a3, Instr.wf (.markEntry a0 a1 8 a3) = false) := by
  simp [Instr.wf]

theorem illFormed_lanes :
    (∀ a1 a2, Instr.wf (.fabLaneTrained 160 a1 a2) = false) ∧ (∀ a1, Instr.wf (.fabLaneDown 160 a1) = false) ∧
    Instr.wf (.fabLaneUp 160) = false ∧ (∀ a1 a2 a3, Instr.wf (.fabLinkFrameReceive 160 a1 a2 a3) = false) ∧
    Instr.wf (.peerLaneDown 4) = false ∧ Instr.wf (.peerLaneUp 4) = false := by
  simp [Instr.wf]

theorem illFormed_planes :
    Instr.wf (.formationTimerExpiry 16) = false ∧ Instr.wf (.reachabilityTimerExpiry 16) = false ∧ Instr.wf (.holdoffExpiry 16) = false ∧
    (∀ a1, Instr.wf (.reachCell 16 a1) = false) ∧ (∀ a1, Instr.wf (.sunListingTimeout 16 a1) = false) ∧
    (∀ a0, Instr.wf (.matcherGrant a0 16) = false) ∧ (∀ a0 a2, Instr.wf (.retentionSend a0 16 a2) = false) ∧
    (∀ a1, Instr.wf (.dataCellReceive 16 a1) = false) ∧ (∀ a1, Instr.wf (.planeSuspectEnd 16 a1) = false) ∧
    Instr.wf (.planeDownAnnounced 16) = false := by
  simp [Instr.wf]

theorem illFormed_units :
    (∀ a0, Instr.wf (.sunListingTimeout a0 2048) = false) ∧ (∀ a0 a1, Instr.wf (.retentionSend a0 a1 2048) = false) ∧
    (∀ a0, Instr.wf (.cellAckTimeout a0 2048) = false) ∧ (∀ a0, Instr.wf (.planeSuspectEnd a0 2048) = false) ∧
    Instr.wf (.memberSilenceExpiry 2048) = false ∧ (∀ a0 a1 a2 a3, Instr.wf (.divergeEntry a0 a1 a2 a3 2048) = false) := by
  simp [Instr.wf]

theorem illFormed_systemPorts :
    (∀ a1 a2, Instr.wf (.creditGrant 32768 a1 a2) = false) ∧ (∀ a0 a1 a3 a4 a5, Instr.wf (.confirmEntry a0 a1 32768 a3 a4 a5) = false) ∧
    (∀ a0 a1 a3 a4 a5, Instr.wf (.voidEntry a0 a1 32768 a3 a4 a5) = false) ∧
    (∀ a0 a2 a3 a4, Instr.wf (.requestEntry a0 32768 a2 a3 a4) = false) ∧ (∀ a0 a2 a3, Instr.wf (.creditEntry a0 32768 a2 a3) = false) ∧
    (∀ a0 a1 a2 a4 a5 a6, Instr.wf (.ackEntry a0 a1 a2 32768 a4 a5 a6) = false) ∧
    (∀ a0 a2, Instr.wf (.holeTimeout a0 32768 a2) = false) ∧ (∀ a0 a2 a3, Instr.wf (.dupWaitExpiry a0 32768 a2 a3) = false) ∧
    (∀ a0 a2, Instr.wf (.streamEntryFree a0 32768 a2) = false) ∧ (∀ a0 a2 a3 a4, Instr.wf (.divergeEntry a0 32768 a2 a3 a4) = false) ∧
    (∀ a0 a1 a2 a4 a5, Instr.wf (.reconAnswer a0 a1 a2 32768 a4 a5) = false) ∧
    (∀ a0 a2 a3, Instr.wf (.markEntry a0 32768 a2 a3) = false) := by
  simp [Instr.wf]

theorem illFormed_sources :
    (∀ a0 a1, Instr.wf (.creditGrant a0 a1 2048) = false) ∧ (∀ a1 a2 a3 a4 a5, Instr.wf (.confirmEntry 2048 a1 a2 a3 a4 a5) = false) ∧
    (∀ a1 a2 a3 a4 a5, Instr.wf (.voidEntry 2048 a1 a2 a3 a4 a5) = false) ∧
    (∀ a1 a2 a3 a4, Instr.wf (.requestEntry 2048 a1 a2 a3 a4) = false) ∧ (∀ a1 a2 a3, Instr.wf (.creditEntry 2048 a1 a2 a3) = false) ∧
    (∀ a1 a2 a3 a4 a5 a6, Instr.wf (.ackEntry 2048 a1 a2 a3 a4 a5 a6) = false) := by
  simp [Instr.wf]

theorem illFormed_streams :
    (∀ a0 a2 a3 a4 a5, Instr.wf (.confirmEntry a0 2048 a2 a3 a4 a5) = false) ∧
    (∀ a0 a2 a3 a4 a5, Instr.wf (.voidEntry a0 2048 a2 a3 a4 a5) = false) ∧
    (∀ a0 a1 a3 a4 a5 a6, Instr.wf (.ackEntry a0 a1 2048 a3 a4 a5 a6) = false) ∧ (∀ a1 a2, Instr.wf (.holeTimeout 2048 a1 a2) = false) ∧
    (∀ a1 a2 a3, Instr.wf (.dupWaitExpiry 2048 a1 a2 a3) = false) ∧ (∀ a1 a2, Instr.wf (.streamEntryFree 2048 a1 a2) = false) ∧
    (∀ a1 a2 a3 a4, Instr.wf (.divergeEntry 2048 a1 a2 a3 a4) = false) ∧ (∀ a1, Instr.wf (.reconQuery 2048 a1) = false) ∧
    (∀ a1 a2 a3 a4 a5, Instr.wf (.reconAnswer 2048 a1 a2 a3 a4 a5) = false) ∧
    (∀ a1 a2 a3, Instr.wf (.markEntry 2048 a1 a2 a3) = false) := by
  simp [Instr.wf]

theorem illFormed_numbers :
    (∀ a0 a1 a2 a3 a5, Instr.wf (.confirmEntry a0 a1 a2 a3 16777216 a5) = false) ∧
    (∀ a0 a1 a2 a3 a5, Instr.wf (.voidEntry a0 a1 a2 a3 16777216 a5) = false) ∧
    (∀ a0 a1 a2, Instr.wf (.dupWaitExpiry a0 a1 a2 16777216) = false) ∧
    (∀ a0 a1 a2 a4, Instr.wf (.divergeEntry a0 a1 a2 16777216 a4) = false) ∧
    (∀ a0 a1 a2 a3 a4, Instr.wf (.reconAnswer a0 a1 a2 a3 a4 16777216) = false) ∧
    (∀ a0 a1 a2, Instr.wf (.markEntry a0 a1 a2 16777216) = false) := by
  simp [Instr.wf]

theorem illFormed_generations :
    (∀ a1, Instr.wf (.bungRenew 4294967296 a1) = false) ∧ (∀ a1, Instr.wf (.bungAck 4294967296 a1) = false) ∧
    Instr.wf (.bungHandover 4294967296) = false ∧ Instr.wf (.bungHandoverAck 4294967296) = false := by
  simp [Instr.wf]

/-! ### One-step tests against the spec's worked examples -/

/-- R12, worked example: 0xFFFE is older than 0x0001. -/
theorem test_serial_numbers : older 16 0xFFFE 0x0001 = true ∧ older 16 0x0001 0xFFFE = false := by decide

/-- Architecture, worked example: SP4100 TC2 is VOQ 32,802. -/
theorem test_voq_number : voqKey 4100 2 = 32802 := by decide

/-- CRC-32 and CRC-32C of the digits 1 to 9 (the check values of IEEE 802.3 and RFC 3720). -/
theorem test_crcs : crc32 [0x31, 0x32, 0x33, 0x34, 0x35, 0x36, 0x37, 0x38, 0x39] = 0xCBF43926
    ∧ crc32c [0x31, 0x32, 0x33, 0x34, 0x35, 0x36, 0x37, 0x38, 0x39] = 0xE3069283 := by decide +kernel

/-- A shaper of RATE 1,000,000 kb/s with a credit in bytes, at its refill. -/
def shaped (credit : Int) : State :=
  { up with sch := { cfg := { shapers := [(3, { rate := 1000000, burst := 16384, overhead := 20 })] },
                     shapers := [(3, { credit := credit * 65536 })] } }

/-- R359, worked example, step 2: −8,236 bytes and 128 bytes are −8,108. -/
theorem test_shaper_refill : exec (.shaperRefill 3) (shaped (-8236)) = .next { shaped (-8236) with
    sch := { (shaped (-8236)).sch with shapers := [(3, { credit := -8108 * 65536, refillAt := 10240 })] } } := congrArg Host.Outcome.next (by decide +kernel)

/-- The bundle of the UPD worked example: BODY_LEN 40,000,000 and 611 chunks. -/
def bundle40M : Slot := { head := zeros 12 ++ putLe 4 40000000 ++ zeros 4 ++ putLe 2 611 }

/-- UPD.CHUNK, worked example: chunk 610 has 23,040 bytes. -/
theorem test_last_chunk : ceilDiv 40000000 65536 = 611 ∧ bundle40M.chunkLen 610 = 23040 ∧ bundle40M.chunkLen 0 = 65536 := by decide +kernel

/-- PORT_RX_BYTES of LP0 at 0x0000_0001_FFFF_FFF0, shown by WIN_SEL bank 2 channel 0. -/
def window : State :=
  ({ up with hif := { up.hif with linkUp := true }, cnt := { vals := [(counterKey Cn.portRxBytes 0, 0x1FFFFFFF0)] } }).modFn 0
    (fun f => { f with winSel := 0x20000 })

/-- R518, worked example: a read of WIN_DATA4 answers 0xFFFF_FFF0 and latches 0x0000_0001. -/
theorem test_window_latch : exec (.winDataLowRead 0 2) window = .next ((window.drawn.modFn 0 (fun f => { f with latch := some (2, 1) })).emit
    (.readAnswer 0 0x2110 0xFFFFFFF0)) := congrArg Host.Outcome.next (by decide +kernel)

/-- SCH.GATE_LIST with a BASE more than 2^62 ns behind TIME. -/
def gatePast : State := queued (ent 0x0A05 [(25, 1, 1), (26, 2, 1), (28, 4, 1000000)] (zeros 8)) { eth with tim := { eth.tim with time := 2 ^ 111 } }

/-- R363, worked example of the completion statuses: STATUS 0x0002, DETAIL 0x0503. -/
theorem test_gate_list_past : (runCommand 0x0A05 0 yes bodySchGateList gatePast).hif.fns.map (fun f => f.2.cq.map (fun c => (c.status, c.detail)))
    = [[(0x0002, 0x0503)]] := by decide +kernel

/-- A function's commands stay where they are while its rings are idle (R66, Table HM-25). -/
theorem test_idle_ring : exec (.hifNop 0 yes) up = .next up := congrArg Host.Outcome.next (by decide +kernel)

/-- HIF.NOP at the head of a running ring is taken and completes with OK (R66, R73). -/
theorem test_nop : (runCommand 0x0100 0 yes bodyHifNop (queued (ent 0x0100))).hif.fns.map (fun f => (f.2.sq, f.2.cq.map (fun c => (c.cmdId, c.status))))
    = [([], [(1, 0)])] := by decide +kernel

/-- No row of the table has bits, so no word spells a command. -/
theorem test_no_words : decodeTableWord 32 5 = none ∧ up.withFetchWord 32 5 = up := ⟨rfl, rfl⟩

/-! ### Witnesses: for each clause of a statement, states and operands that meet its hypotheses -/

theorem witness_HifCommandsComplete :
    (∃ (vi : Nat) (io : HostIo) (e : Entry) (s : State), starts 0x0100 vi io e s = true)
    ∧ (∃ (vi : Nat) (io : HostIo) (e : Entry) (s : State), starts 0x0101 vi io e s = true)
    ∧ (∃ (vi : Nat) (io : HostIo) (e : Entry) (s : State), starts 0x0102 vi io e s = true)
    ∧ (∃ (vi : Nat) (io : HostIo) (e : Entry) (s : State), starts 0x0103 vi io e s = true)
    ∧ (∃ (vi : Nat) (io : HostIo) (e : Entry) (s : State), starts 0x0104 vi io e s = true) :=
  ⟨⟨0, yes, ent 0x0100, queued (ent 0x0100), by decide +kernel⟩,
   ⟨0, yes, ent 0x0101 [] ([]) 64, queued (ent 0x0101 [] ([]) 64), by decide +kernel⟩,
   ⟨0, yes, ent 0x0102, queued (ent 0x0102), by decide +kernel⟩,
   ⟨0, yes, ent 0x0103 [(24, 4, 2)], queued (ent 0x0103 [(24, 4, 2)]), by decide +kernel⟩,
   ⟨0, yes, ent 0x0104 [(24, 2, 3)], queued (ent 0x0104 [(24, 2, 3)]), by decide +kernel⟩⟩

theorem witness_RingRegistersComplete :
    (∃ (vi : Nat) (s : State), s.hostReach vi = true ∧ s.accepting = true ∧ (s.fn vi).ring = .idle ∧ (s.fn vi).shadow.valid = true)
    ∧ (∃ (vi : Nat) (s : State), s.hostReach vi = true ∧ s.accepting = true ∧ (s.fn vi).ring = .running ∧ (s.fn vi).heldC = [] ∧ s.hif.parked.all (fun p => p.vi != vi) = true)
    ∧ (∃ (vi : Nat) (index : Nat) (slots : List Entry) (s : State), s.hostReach vi = true ∧ s.accepting = true ∧ (s.fn vi).live = true ∧ index < 4096 ∧ index < ringEntries (s.fn vi).active.sqSize ∧ (s.fn vi).sqTail ≤ index ∧ slots.length = index - (s.fn vi).sqTail)
    ∧ (∃ (vi : Nat) (index : Nat) (s : State), s.hostReach vi = true ∧ s.accepting = true ∧ (s.fn vi).live = true ∧ index < 4096 ∧ index < ringEntries (s.fn vi).active.cqSize ∧ (s.fn vi).cqHead ≤ index)
    ∧ (∃ (vi : Nat) (index : Nat) (s : State), s.hostReach vi = true ∧ s.accepting = true ∧ (s.fn vi).live = true ∧ index < 4096 ∧ index < ringEntries (s.fn vi).active.nqSize ∧ (s.fn vi).nqHead ≤ index) :=
  ⟨⟨0, up.modFn 0 (fun f => { f with shadow := rings }), by decide +kernel⟩,
   ⟨0, running [], by decide +kernel⟩,
   ⟨0, 1, [ent 0x100], running [], by decide +kernel⟩,
   ⟨0, 255, running [], by decide +kernel⟩,
   ⟨0, 255, running [], by decide +kernel⟩⟩

theorem witness_DirectRegistersComplete :
    (∃ (vi : Nat) (s : State), s.hostReach vi = true)
    ∧ (∃ (vi : Nat) (s : State), s.hostReach vi = false) :=
  ⟨⟨0, up, by decide +kernel⟩,
   ⟨7, { up with hif := { up.hif with linkUp := false } }, by decide +kernel⟩⟩

theorem witness_QueueDoorbellsComplete :
    (∃ (vi : Nat) (q : Nat) (index : Nat) (s : State) (slots : List PuntBuf), s.hostReach vi = true ∧ (s.inst vi).st ≠ .resetting ∧ index < 4096 ∧ (s.puntQueueOf vi q).enabled = true ∧ index < (s.puntQueueOf vi q).size ∧ slots.length = (s.puntQueueOf vi q).gap index)
    ∧ (∃ (vi : Nat) (q : Nat) (index : Nat) (s : State) (slots : List InjSlot), s.hostReach vi = true ∧ (s.inst vi).st ≠ .resetting ∧ index < 4096 ∧ (s.injQueueOf vi q).enabled = true ∧ index < (s.injQueueOf vi q).size ∧ slots.length = (s.injQueueOf vi q).gap index) :=
  ⟨⟨0, 1, 1, up.modPuntQ 0 1 (fun q => { q with enabled := true }), [⟨64, 64⟩], by decide +kernel⟩,
   ⟨0, 1, 1, up.modInjQ 0 1 (fun q => { q with enabled := true }), [⟨[]⟩], by decide +kernel⟩⟩

theorem witness_PcieEventsComplete :
    (∃ (s : State) (vi : _) (vec : _) (n : _) (t0 : _), mget (s.fn vi).sig vec = some (n, t0) ∧ s.due (t0 + Config.us ((s.fn vi).coalesce vec).2) = true)
    ∧ (∃ (s : State), s.hif.linkUp = true ∧ s.domOn 2 = true)
    ∧ (∃ (s : State), s.hif.linkUp = false ∧ s.domOn 2 = true)
    ∧ (∃ (s : State) (vi : _), (s.fn vi).live = true ∧ s.hostReach vi = true) :=
  ⟨⟨(running [] { up with mono := 100000 }).modFn 0 (fun f => { f with sig := [(0, (1, 0))] }), 0, 0, 1, 0, by decide +kernel⟩,
   ⟨up, by decide +kernel⟩,
   ⟨{ up with hif := { up.hif with linkUp := false } }, by decide +kernel⟩,
   ⟨running [], 0, by decide +kernel⟩⟩

theorem witness_ResumeAndFunctionResetComplete :
    (∃ (s : State) (p : _), s.hif.parked.find? (fun p => p.ready) = some p ∧ s.accepting = true ∧ s.blocked = false)
    ∧ (∃ (s : State), (s.hif.parked.find? (fun p => p.ready) = none ∨ s.accepting = false ∨ s.blocked = true))
    ∧ (∃ (vi : Nat) (s : State), s.hostReach vi = true)
    ∧ (∃ (vi : Nat) (s : State), s.hostReach vi = false) :=
  ⟨⟨{ up with hif := { up.hif with parked := [{ wait := .mark 1, ready := true }] } }, { wait := .mark 1, ready := true }, by decide +kernel⟩,
   ⟨up, by decide +kernel⟩,
   ⟨1, up, by decide +kernel⟩,
   ⟨7, { up with hif := { up.hif with linkUp := false } }, by decide +kernel⟩⟩

theorem witness_FirmwareRestartsComplete :
    (∃ (s : State), (s.hif.fwReady = true ∨ s.dev.boot = 2))
    ∧ (∃ (s : State), s.dev.boot = 2 ∧ s.dev.phase = .full ∧ s.upd.trial = none ∧ s.upd.microcode = s.upd.running ∧ s.upd.swap = 0 ∧ s.upd.resultDue = false ∧ (readCopies s).1 = none)
    ∧ (∃ (s : State), s.dev.boot = 2 ∧ s.dev.phase = .rom ∧ s.upd.trial = none)
    ∧ (∃ (s : State), s.dev.boot = 2 ∧ s.runsTrial = true ∧ s.dev.phase ≠ .rom)
    ∧ (∃ (s : State) (x : _), s.dev.boot = 2 ∧ s.runsTrial = true ∧ (readCopies s).1 = some x) :=
  ⟨⟨up, by decide +kernel⟩,
   ⟨{ up with dev := { up.dev with boot := 2 } }, by decide +kernel⟩,
   ⟨{ up with dev := { up.dev with boot := 2, phase := .rom } }, by decide +kernel⟩,
   ⟨{ up with dev := { up.dev with boot := 2 }, upd := { up.upd with trial := some 1, running := 1 } }, by decide +kernel⟩,
   ⟨{ up with dev := { up.dev with boot := 2 }, upd := { up.upd with trial := some 1, running := 1 }, sec := { up.sec with copyA := { valid := true } } }, {}, by decide +kernel⟩⟩

theorem witness_ResetsComplete :
    (∃ (s : State), s.dev.inReset = true ∧ s.sec.life = .production)
    ∧ (∃ (s : State), s.dev.inReset = true ∧ s.sec.life = .armed)
    ∧ (∃ (s : State), s.dev.inReset = false ∧ s.dev.locked = false)
    ∧ (∃ (s : State) (at_ : _), s.dev.coldAt = some at_ ∧ at_ ≤ s.mono) :=
  ⟨⟨State.reset, by decide +kernel⟩,
   ⟨{ State.reset with sec := { State.reset.sec with life := .armed } }, by decide +kernel⟩,
   ⟨up, by decide +kernel⟩,
   ⟨{ up with dev := { up.dev with coldAt := some 0 } }, 0, by decide +kernel⟩⟩

theorem witness_BringupComplete :
    (∃ (s : State), s.dev.step = 1)
    ∧ (∃ (s : State), s.dev.boot = 1 ∧ s.upd.trial = none ∧ s.sec.life ≠ .rma ∧ (s.slot s.romTarget).whole = true ∧ s.upd.fusedSvn ≤ (s.slot s.romTarget).svn)
    ∧ (∃ (s : State), s.dev.boot = 1 ∧ s.upd.trial = none ∧ s.sec.life ≠ .rma ∧ s.dev.kilnFailed = [])
    ∧ (∃ (s : State) (other : _), s.dev.boot = 1 ∧ s.upd.trial = none ∧ s.sec.life ≠ .rma ∧ s.dev.kilnFailed = [other] ∧ other ≠ s.romTarget)
    ∧ (∃ (s : State), s.dev.boot = 1 ∧ s.upd.trial = none ∧ s.sec.life = .rma)
    ∧ (∃ (s : State), s.dev.step = 5 ∧ s.hif.fwReady = true ∧ s.dev.phase = .init)
    ∧ (∃ (s : State), s.dev.step = 5 ∧ s.hif.fwReady = true ∧ s.dev.phase = .init ∧ s.dev.bridgeTries < 2)
    ∧ (∃ (s : State), s.dev.step = 5 ∧ s.hif.fwReady = true ∧ s.dev.phase = .init ∧ s.dev.bridgeTries = 2)
    ∧ (∃ (s : State) (stack : _), stack < 6 ∧ stack ∉ s.dev.hbmUp ∧ stack ∉ s.dev.hbmFailed ∧ s.domOn (9 + stack) = true ∧ s.hif.fwReady = true ∧ s.dev.phase ≠ .fail) :=
  ⟨⟨{ up with dev := { up.dev with step := 1 } }, by decide +kernel⟩,
   ⟨{ up with dev := { up.dev with boot := 1 }, upd := { up.upd with slotA := { st := .active } } }, by decide +kernel⟩,
   ⟨{ up with dev := { up.dev with boot := 1 } }, by decide +kernel⟩,
   ⟨{ up with dev := { up.dev with boot := 1, kilnFailed := [1] } }, 1, by decide +kernel⟩,
   ⟨{ up with dev := { up.dev with boot := 1 }, sec := { up.sec with life := .rma } }, by decide +kernel⟩,
   ⟨{ up with dev := { up.dev with step := 5, phase := .init } }, by decide +kernel⟩,
   ⟨{ up with dev := { up.dev with step := 5, phase := .init, bridgeTries := 1 } }, by decide +kernel⟩,
   ⟨{ up with dev := { up.dev with step := 5, phase := .init, bridgeTries := 2 } }, by decide +kernel⟩,
   ⟨up, 5, by decide +kernel⟩⟩

theorem witness_DevCommandsComplete :
    (∃ (vi : Nat) (io : HostIo) (e : Entry) (s : State), starts 0x0201 vi io e s = true)
    ∧ (∃ (vi : Nat) (io : HostIo) (e : Entry) (s : State), starts 0x0202 vi io e s = true ∧ e.p 24 1 = 1 ∧ e.p 26 2 ≤ 128 ∧ s.serviceRefusal (bit (e.p 25 1) 0) = none)
    ∧ (∃ (vi : Nat) (io : HostIo) (e : Entry) (s : State), starts 0x0203 vi io e s = true ∧ e.p 24 1 = 1 ∧ e.p 25 1 = 0 ∧ e.p 26 2 = 0 ∧ e.p 28 4 = 0)
    ∧ (∃ (vi : Nat) (io : HostIo) (e : Entry) (s : State), starts 0x0203 vi io e s = true ∧ e.p 24 1 = 3 ∧ e.p 25 1 = 0 ∧ e.p 26 2 = 0 ∧ e.p 28 4 = 0x0C01D000)
    ∧ (∃ (vi : Nat) (io : HostIo) (e : Entry) (s : State), starts 0x0203 vi io e s = true ∧ e.p 24 1 = 2 ∧ e.p 28 4 = 0 ∧ e.p 26 2 < blockCount (e.p 25 1) ∧ s.resetting (e.p 25 1) (e.p 26 2) = false)
    ∧ (∃ (vi : Nat) (io : HostIo) (e : Entry) (s : State), starts 0x0204 vi io e s = true ∧ le e.buf 1 1 = 0 ∧ le e.buf 10 1 < 8 ∧ (bytesAt e.buf 11 5).any (fun x => x != 0) = false ∧ le e.buf 0 1 ≤ 1 ∧ cellarTooMany e.buf = false ∧ e.dataLen = 16 + (cellarParts e.buf).2.2.2 ∧ cellarBad e.buf = none ∧ sumOf (cellarOf e.buf).lpm lpmUnits ≤ 4096 ∧ cellarRefusal (cellarOf e.buf) s = none ∧ s.onTrial = false)
    ∧ (∃ (vi : Nat) (io : HostIo) (e : Entry) (s : State), starts 0x0204 vi io e s = true ∧ e.dataLen = 16 ∧ e.buf = zeros 16 ∧ s.dev.phase ≠ .cellar ∧ s.onTrial = false)
    ∧ (∃ (vi : Nat) (io : HostIo) (e : Entry) (s : State) (m : _), starts 0x0205 vi io e s = true ∧ le e.buf 0 2 ≤ 2047 ∧ le e.buf 2 1 ≤ 128 ∧ e.dataLen = 16 + 4 * le e.buf 2 1 ∧ (bytesAt e.buf 3 13).any (fun x => x != 0) = false ∧ (chunks 4 (le e.buf 2 1) (e.buf.drop 16)).any (fun r => decide (le r 3 1 ≠ 0)) = false ∧ parseCages (chunks 4 (le e.buf 2 1) (e.buf.drop 16)) = some m ∧ (le e.buf 0 2 = s.dev.cfg.sun ∨ (s.planesUp = [] ∧ s.member = false)) ∧ s.cageInUse m = false ∧ s.onTrial = false) :=
  ⟨⟨0, yes, ent 0x0201 [] ([]) 64, queued (ent 0x0201 [] ([]) 64), by decide +kernel⟩,
   ⟨0, yes, ent 0x0202 [(24, 1, 1), (26, 2, 128)], queued (ent 0x0202 [(24, 1, 1), (26, 2, 128)]) ({ up with dev := { up.dev with phase := .cellar, hbmUp := [0, 1, 2, 3, 4, 5] }, tbl := { up.tbl with epochs := [{ num := 1 }], copies := [0, 1] } }), by decide +kernel⟩,
   ⟨0, yes, ent 0x0203 [(24, 1, 1)], queued (ent 0x0203 [(24, 1, 1)]), by decide +kernel⟩,
   ⟨0, yes, ent 0x0203 [(24, 1, 3), (28, 4, 0x0C01D000)], queued (ent 0x0203 [(24, 1, 3), (28, 4, 0x0C01D000)]), by decide +kernel⟩,
   ⟨0, yes, ent 0x0203 [(24, 1, 2), (25, 1, 2), (26, 2, 0)], queued (ent 0x0203 [(24, 1, 2), (25, 1, 2), (26, 2, 0)]), by decide +kernel⟩,
   ⟨0, yes, ent 0x0204 [] (zeros 16), queued (ent 0x0204 [] (zeros 16)), by decide +kernel⟩,
   ⟨0, yes, ent 0x0204 [] (zeros 16), queued (ent 0x0204 [] (zeros 16)), by decide +kernel⟩,
   ⟨0, yes, ent 0x0205 [] (putLe 2 5 ++ zeros 14), queued (ent 0x0205 [] (putLe 2 5 ++ zeros 14)) ({ up with dev := { up.dev with cfg := { sun := 5 } } }), [], by decide +kernel⟩⟩

theorem witness_DevEventsComplete :
    (∃ (s : State) (kind : _) (i : _), (kind, i) ∈ s.dev.blockResets ∧ (kind = 2 → (s.bank i).st ≠ .reloading) ∧ (kind = 1 → s.recoveryTurn 12 i = true))
    ∧ (∃ (s : State), s.dev.bank0Wait = true ∧ s.dev.phase = .full ∧ s.mash.pkts.all (fun m => m.stamp != some 0) = true)
    ∧ (∃ (s : State), s.hif.fwReady = true ∧ s.dev.bcLost = false)
    ∧ (∃ (s : State), s.hif.fwReady = true ∧ s.dev.bcLost = true)
    ∧ (∃ (s : State), s.hif.fwReady = true ∧ s.dev.bcLost = false ∧ s.due (s.dev.lastBeat + Config.sec 2) = true) :=
  ⟨⟨{ up with dev := { up.dev with blockResets := [(2, 0)] }, asa := { up.asa with banks := [(0, { st := .on })] } }, 2, 0, by decide +kernel⟩,
   ⟨{ up with dev := { up.dev with bank0Wait := true }, asa := { up.asa with banks := [(0, { st := .cellar })] } }, by decide +kernel⟩,
   ⟨up, by decide +kernel⟩,
   ⟨{ up with dev := { up.dev with bcLost := true } }, by decide +kernel⟩,
   ⟨{ up with mono := 20000000000 }, by decide +kernel⟩⟩

theorem witness_PwrCommandsComplete :
    (∃ (vi : Nat) (io : HostIo) (e : Entry) (s : State), starts 0x1101 vi io e s = true)
    ∧ (∃ (vi : Nat) (io : HostIo) (e : Entry) (s : State), starts 0x1102 vi io e s = true ∧ s.switching (e.p 24 1) = false ∧ (11 ≤ (e.p 24 1) ∧ (e.p 24 1) ≤ 14 ∨ 23 ≤ (e.p 24 1) ∧ (e.p 24 1) ≤ 55))
    ∧ (∃ (vi : Nat) (io : HostIo) (e : Entry) (s : State), starts 0x1103 vi io e s = true ∧ e.p 25 1 = 3)
    ∧ (∃ (vi : Nat) (io : HostIo) (e : Entry) (s : State), starts 0x1103 vi io e s = true ∧ e.p 25 1 = 2 ∧ e.p 24 1 < 16 ∧ e.p 27 1 ≤ 1)
    ∧ (∃ (vi : Nat) (io : HostIo) (e : Entry) (s : State), starts 0x1103 vi io e s = true ∧ e.p 25 1 = 1 ∧ e.p 24 1 < 16 ∧ e.p 26 1 ≤ 2 ∧ e.p 27 1 ≤ 1 ∧ e.p 28 1 ≤ 3 ∧ e.p 30 1 ≤ 2 ∧ s.onTrial = false) :=
  ⟨⟨0, yes, ent 0x1101 [] ([]) 64, queued (ent 0x1101 [] ([]) 64), by decide +kernel⟩,
   ⟨0, yes, ent 0x1102 [(24, 1, 55), (25, 1, 2)], queued (ent 0x1102 [(24, 1, 55), (25, 1, 2)]), by decide +kernel⟩,
   ⟨0, yes, ent 0x1103 [(25, 1, 3)], queued (ent 0x1103 [(25, 1, 3)]), by decide +kernel⟩,
   ⟨0, yes, ent 0x1103 [(25, 1, 2), (24, 1, 15), (27, 1, 1)], queued (ent 0x1103 [(25, 1, 2), (24, 1, 15), (27, 1, 1)]), by decide +kernel⟩,
   ⟨0, yes, ent 0x1103 [(25, 1, 1), (24, 1, 15), (26, 1, 2), (27, 1, 1), (28, 1, 3), (30, 1, 2)], queued (ent 0x1103 [(25, 1, 1), (24, 1, 15), (26, 1, 2), (27, 1, 1), (28, 1, 3), (30, 1, 2)]), by decide +kernel⟩⟩

theorem witness_PowerAndThermalEventsComplete :
    (∃ (s : State) (pd : _), mgetD s.pwr.domains pd .off = .ramping)
    ∧ (∃ (s : State) (pd : _), 1 ≤ pd ∧ pd ≤ 8 ∧ s.domOn pd = true)
    ∧ (∃ (s : State) (pd : _), 1 ≤ pd ∧ pd ≤ 8 ∧ mgetD s.pwr.domains pd .off = .ramping)
    ∧ (∃ (s : State) (pd : _) (cause : _), 9 ≤ pd ∧ pd ≤ 55 ∧ (cause = 1 ∧ mgetD s.pwr.domains pd .off = .ramping ∨ cause = 2 ∧ mgetD s.pwr.domains pd .off = .on))
    ∧ (∃ (s : State) (pd : _), 15 ≤ pd ∧ pd ≤ 22 ∧ mgetD s.pwr.domains pd .off = .ramping ∧ s.dev.phase ≠ .cellar ∧ s.dev.phase ≠ .full ∧ s.dev.step ≠ 8)
    ∧ (∃ (s : State) (pd : _) (at_ : _), mget s.pwr.retryAt pd = some at_ ∧ at_ ≤ s.mono ∧ s.hif.fwReady = true ∧ mgetD s.pwr.domains pd .off = .fault)
    ∧ (∃ (s : State), s.pwr.rootLocked = true ∧ (s.pwr.ref = .locked ∨ s.pwr.ref = .relocking))
    ∧ (∃ (s : State), (s.pwr.ref = .holdover ∨ s.pwr.ref = .outOfRange) ∧ s.due (s.pwr.refAt + Config.ms 10) = true)
    ∧ (∃ (s : State), s.pwr.ref = .holdover ∧ s.due (s.pwr.refAt + Config.ms 10) = true)
    ∧ (∃ (s : State), s.pwr.ref = .outOfRange)
    ∧ (∃ (s : State), s.pwr.ref = .relocking)
    ∧ (∃ (s : State) (rail : _), rail < 15 ∧ s.dev.inReset = false)
    ∧ (∃ (s : State) (source : _) (temp : Nat), source < 2 ∧ s.pwr.thermal < thermalFor temp ∧ s.pwr.rootLocked = true)
    ∧ (∃ (s : State) (source : _) (temp : Nat), source < 2 ∧ s.pwr.thermal ≠ 0 ∧ temp ≤ thermalEntry s.pwr.thermal - 30 ∧ s.due (s.pwr.thermalAt + Config.ms 10) = true)
    ∧ (∃ (s : State), s.dev.inReset = false)
    ∧ (∃ (s : State) (stack : _), stack < 6 ∧ s.domOn (9 + stack) = true)
    ∧ (∃ (s : State) (pin : _) (level : _), pin < 16 ∧ s.gpioExt pin ≠ level) :=
  ⟨⟨{ up with pwr := { up.pwr with domains := mset up.pwr.domains 40 .ramping } }, 40, by decide +kernel⟩,
   ⟨up, 8, by decide +kernel⟩,
   ⟨{ up with pwr := { up.pwr with domains := mset up.pwr.domains 8 .ramping } }, 8, by decide +kernel⟩,
   ⟨{ up with pwr := { up.pwr with domains := mset up.pwr.domains 55 .ramping } }, 55, 1, by decide +kernel⟩,
   ⟨{ up with pwr := { up.pwr with domains := mset up.pwr.domains 22 .ramping }, dev := { up.dev with phase := .init, step := 5 } }, 22, by decide +kernel⟩,
   ⟨{ up with pwr := { up.pwr with domains := mset up.pwr.domains 40 .fault, retryAt := [(40, 0)] } }, 40, 0, by decide +kernel⟩,
   ⟨{ up with pwr := { up.pwr with rootLocked := true } }, by decide +kernel⟩,
   ⟨{ up with mono := 10000000000, pwr := { up.pwr with ref := .holdover } }, by decide +kernel⟩,
   ⟨{ up with mono := 10000000000, pwr := { up.pwr with ref := .holdover } }, by decide +kernel⟩,
   ⟨{ up with pwr := { up.pwr with ref := .outOfRange } }, by decide +kernel⟩,
   ⟨{ up with pwr := { up.pwr with ref := .relocking } }, by decide +kernel⟩,
   ⟨up, 14, by decide +kernel⟩,
   ⟨{ up with pwr := { up.pwr with rootLocked := true } }, 1, 1200, by unfold thermalFor thermalEntry dieTmax; generalize Config.gradeAE = g; cases g <;> decide +kernel⟩,
   ⟨{ up with mono := 10000000000, pwr := { up.pwr with thermal := 1 } }, 1, 0, by unfold thermalEntry dieTmax; generalize Config.gradeAE = g; cases g <;> decide +kernel⟩,
   ⟨up, by decide +kernel⟩,
   ⟨up, 5, by decide +kernel⟩,
   ⟨up, 15, true, by decide +kernel⟩⟩

theorem witness_FltCommandsComplete :
    (∃ (vi : Nat) (io : HostIo) (e : Entry) (s : State), starts 0x0F01 vi io e s = true)
    ∧ (∃ (vi : Nat) (io : HostIo) (e : Entry) (s : State), starts 0x0F02 vi io e s = true ∧ 1 ≤ e.p 28 1 ∧ e.p 28 1 ≤ 64 ∧ 64 * e.p 28 1 ≤ e.dataLen)
    ∧ (∃ (vi : Nat) (io : HostIo) (e : Entry) (s : State), starts 0x0F03 vi io e s = true ∧ s.injectable (e.p 24 1) (e.p 26 2) (e.p 28 4) = true ∧ (s.recovering = none ∨ bit (e.p 25 1) 0 = true))
    ∧ (∃ target, target ∈ [1, 2, 3, 4, 5, 9]) :=
  ⟨⟨0, yes, ent 0x0F01 [] ([]) 32, queued (ent 0x0F01 [] ([]) 32), by decide +kernel⟩,
   ⟨0, yes, ent 0x0F02 [(28, 1, 64)] ([]) 4096, queued (ent 0x0F02 [(28, 1, 64)] ([]) 4096), by decide +kernel⟩,
   ⟨0, yes, ent 0x0F03 [(24, 1, 1), (28, 4, 1)], queued (ent 0x0F03 [(24, 1, 1), (28, 4, 1)]) ({ eth with dev := { eth.dev with hbmUp := [0, 1] } }), by decide +kernel⟩,
   ⟨9, by decide +kernel⟩⟩

theorem witness_FaultEventsComplete :
    (∃ (s : State) (dir : _) (g : _), dir < 2 ∧ g < 8 ∧ s.dev.bridgeUp = true)
    ∧ (∃ (s : State) (dir : _) (lane : _), dir < 2 ∧ lane < 2080 ∧ s.dev.bridgeUp = true ∧ lane ∉ (s.wbGroup dir (wbGroupOf lane)).failed)
    ∧ (∃ (s : State) (dir : _) (lane : _), lane ∈ (s.wbGroup dir (wbGroupOf lane)).pendingRepair ∧ s.recoveryTurn 1 (wbUnit dir lane) = true)
    ∧ (∃ (s : State) (dir : _) (g : _), dir < 2 ∧ g < 8 ∧ (s.wbGroup dir g).restriping = true ∧ s.recoveryTurn 2 (dir * 4096 + g) = true)
    ∧ (∃ (s : State) (stack : _) (pc : _), s.tblPcGood stack pc = true)
    ∧ (∃ (s : State) (stack : _) (pc : _), s.hif.fwReady = true ∧ stack * 32 + pc ∈ s.flt.tblPcCopying ∧ s.recoveryTurn 9 (stack * 32 + pc) = true)
    ∧ (∃ (s : State) (pipe : _), pipe ∈ s.dev.pipes)
    ∧ (∃ (s : State) (record : _) (r : _), s.flt.log.find? (fun r => r.id == record) = some r ∧ r.st = 2 ∧ s.due (r.lastAt + Config.sec 1) = true) :=
  ⟨⟨{ up with dev := { up.dev with bridgeUp := true, hbmUp := [0, 1], pipes := [3] } }, 1, 7, by decide +kernel⟩,
   ⟨{ up with dev := { up.dev with bridgeUp := true, hbmUp := [0, 1], pipes := [3] } }, 1, 2079, by decide +kernel⟩,
   ⟨{ up with flt := { up.flt with wb := [(0, { pendingRepair := [0] })] } }, 0, 0, by decide +kernel⟩,
   ⟨{ up with flt := { up.flt with wb := [(1, { restriping := true })] } }, 0, 1, by decide +kernel⟩,
   ⟨{ up with dev := { up.dev with bridgeUp := true, hbmUp := [0, 1], pipes := [3] } }, 1, 31, by decide +kernel⟩,
   ⟨{ up with flt := { up.flt with tblPcCopying := [5] } }, 0, 5, by decide +kernel⟩,
   ⟨{ up with dev := { up.dev with bridgeUp := true, hbmUp := [0, 1], pipes := [3] } }, 3, by decide +kernel⟩,
   ⟨{ up with mono := 10000000000, flt := { up.flt with log := [{ id := 4, st := 2 }] } }, 4, { id := 4, st := 2 }, by decide +kernel⟩⟩

theorem witness_TimeSettingCommandsComplete :
    (∃ (vi : Nat) (io : HostIo) (e : Entry) (s : State), starts 0x0501 vi io e s = true ∧ ((if e.p 24 8 = 0 then 1000000 else e.p 24 8)) ≤ 2 ^ 62)
    ∧ (∃ (vi : Nat) (io : HostIo) (e : Entry) (s : State), starts 0x0502 vi io e s = true ∧ ((e.p 24 8 : Int) - 0x0000CCCCCCCCCCCD).natAbs * 2000 ≤ 0x0000CCCCCCCCCCCD)
    ∧ (∃ (vi : Nat) (io : HostIo) (e : Entry) (s : State), starts 0x0503 vi io e s = true ∧ ((e.p 24 1) = 1 ∨ (e.p 24 1) = 2) ∧ s.epochQueued ((s.tim.epoch + 1) % 4) = false ∧ (s.tim.valid = false ∨ bit (e.p 25 1) 0 = true ∨ stepSize s ((e.p 24 1) == 2) (e.p 32 8) (e.p 26 2) ≤ s.tim.stepLimit * 2 ^ 48))
    ∧ (∃ (vi : Nat) (io : HostIo) (e : Entry) (s : State) (c : _), starts 0x0505 vi io e s = true ∧ s.pcfg (e.p 24 1) = some c ∧ c.type = 1 ∧ e.p 26 2 ≤ 1000 ∧ s.onTrial = false)
    ∧ (∃ (vi : Nat) (io : HostIo) (e : Entry) (s : State), starts 0x0507 vi io e s = true ∧ (e.p 24 1) < 4 ∧ s.onTrial = false)
    ∧ (∃ (vi : Nat) (io : HostIo) (e : Entry) (s : State), starts 0x0508 vi io e s = true ∧ e.p 24 1 < 2 ∧ e.p 25 1 ≤ 2 ∧ s.onTrial = false) :=
  ⟨⟨0, yes, ent 0x0501 [(24, 8, 5000)], queued (ent 0x0501 [(24, 8, 5000)]), by decide +kernel⟩,
   ⟨0, yes, ent 0x0502 [(24, 8, 0xCCCCCCCCCCCD)], queued (ent 0x0502 [(24, 8, 0xCCCCCCCCCCCD)]), by decide +kernel⟩,
   ⟨0, yes, ent 0x0503 [(24, 1, 2)], queued (ent 0x0503 [(24, 1, 2)]), by decide +kernel⟩,
   ⟨0, yes, ent 0x0505 [(26, 2, 1000), (32, 2, 100)], queued (ent 0x0505 [(26, 2, 1000), (32, 2, 100)]) (eth), {}, by decide +kernel⟩,
   ⟨0, yes, ent 0x0507 [(24, 1, 3), (25, 1, 1), (28, 4, 10), (32, 8, 1000000)], queued (ent 0x0507 [(24, 1, 3), (25, 1, 1), (28, 4, 10), (32, 8, 1000000)]), by decide +kernel⟩,
   ⟨0, yes, ent 0x0508 [(24, 1, 1), (25, 1, 2)], queued (ent 0x0508 [(24, 1, 1), (25, 1, 2)]), by decide +kernel⟩⟩

theorem witness_TimeReadCommandsComplete :
    (∃ (vi : Nat) (io : HostIo) (e : Entry) (s : State), starts 0x0504 vi io e s = true)
    ∧ (∃ (vi : Nat) (io : HostIo) (e : Entry) (s : State) (c : _), starts 0x0506 vi io e s = true ∧ s.pcfg (e.p 24 1) = some c ∧ c.type = 1 ∧ s.ownsPort vi (e.p 24 1) = true ∧ 0 < e.p 25 1 ∧ e.p 25 1 ≤ 64 ∧ 16 * e.p 25 1 ≤ e.dataLen)
    ∧ (∃ (vi : Nat) (io : HostIo) (e : Entry) (s : State), starts 0x0509 vi io e s = true ∧ e.p 24 1 < 2 ∧ 0 < e.p 25 1 ∧ e.p 25 1 ≤ 16 ∧ 16 * e.p 25 1 ≤ e.dataLen) :=
  ⟨⟨0, yes, ent 0x0504 [] ([]) 32, queued (ent 0x0504 [] ([]) 32), by decide +kernel⟩,
   ⟨0, yes, ent 0x0506 [(25, 1, 64)] ([]) 1024, queued (ent 0x0506 [(25, 1, 64)] ([]) 1024) (eth), {}, by decide +kernel⟩,
   ⟨0, yes, ent 0x0509 [(25, 1, 16)] ([]) 256, queued (ent 0x0509 [(25, 1, 16)] ([]) 256), by decide +kernel⟩⟩

theorem witness_TimeEventsComplete :
    (∃ (s : State) (pin : _), (s.pulseCfg pin).mode = 1 ∧ (s.pulse pin).spent = false ∧ targetClass (s.pulseCfg pin).target s.timeNs ≠ .past ∧ (s.pulse pin).late = false ∧ s.pulseReached (s.pulseCfg pin) (s.pulseCfg pin).target = true)
    ∧ (∃ (s : State) (pin : _), (s.pulseCfg pin).mode = 1 ∧ (s.pulse pin).spent = false ∧ targetClass (s.pulseCfg pin).target s.timeNs ≠ .past ∧ (s.pulse pin).late = true)
    ∧ (∃ (s : State) (pin : _), (s.pulseCfg pin).mode = 2 ∧ s.pulseReached (s.pulseCfg pin) (s.pulse pin).nextEdge = true)
    ∧ (∃ (s : State) (pin : _) (h : _), (s.pulse pin).highUntil = some h ∧ h ≤ s.mono)
    ∧ (∃ (s : State) (pin : _) (rising : Bool), pin < 2 ∧ 2 ≤ s.dev.step ∧ (mgetD s.tim.cfg.pulseIns pin {}).edge = (if rising then 1 else 2)) :=
  ⟨⟨{ up with tim := { up.tim with cfg := { pulses := [(1, { mode := 1, target := 1000 })] }, time := 1000 * 2 ^ 48 } }, 1, by decide +kernel⟩,
   ⟨{ up with tim := { up.tim with cfg := { pulses := [(1, { mode := 1, target := 1000 })] }, pulses := [(1, { late := true })] } }, 1, by decide +kernel⟩,
   ⟨{ up with tim := { up.tim with cfg := { pulses := [(1, { mode := 2, period := 1000 })] } } }, 1, by decide +kernel⟩,
   ⟨{ up with tim := { up.tim with pulses := [(1, { highUntil := some 0 })] } }, 1, 0, by decide +kernel⟩,
   ⟨{ up with tim := { up.tim with cfg := { pulseIns := [(1, { edge := 1 })] } } }, 1, true, by decide +kernel⟩⟩

theorem witness_ProbeEventsComplete :
    (∃ (port : Nat) (s : State), (s.probe port).st ≠ .off ∧ (s.probe port).waiting = none ∧ s.due (s.probe port).nextAt = true ∧ s.mayTransmit port = true)
    ∧ (∃ (port : Nat) (s : State), (s.tport port).probeEnable = true ∧ s.portUp port = true ∧ s.mayTransmit port = true)
    ∧ (∃ (port : Nat) (s : State) (seq : _) (t1 : _), (s.probe port).st ≠ .off ∧ (s.probe port).waiting = some (seq, t1) ∧ s.portUp port = true)
    ∧ (∃ (port : Nat) (s : State) (seq : _) (t1 : _), (s.probe port).st = .measuring ∧ (s.probe port).waiting = some (seq, t1) ∧ s.portUp port = true ∧ (s.probe port).samples.length < 7)
    ∧ (∃ (port : Nat) (s : State) (w : _), (s.probe port).st ≠ .off ∧ (s.probe port).waiting = some w ∧ s.due (s.probe port).nextAt = true ∧ (s.probe port).unanswered < 2)
    ∧ (∃ (port : Nat) (s : State) (w : _), (s.probe port).st ≠ .off ∧ (s.probe port).waiting = some w ∧ s.due (s.probe port).nextAt = true ∧ 2 ≤ (s.probe port).unanswered) :=
  ⟨⟨0, { eth with mono := 10000000000, tim := { eth.tim with probes := [(0, { st := .valid })] } }, by decide +kernel⟩,
   ⟨0, { eth with tim := { eth.tim with cfg := { ports := [(0, { probeEnable := true })] } } }, by decide +kernel⟩,
   ⟨0, { eth with tim := { eth.tim with probes := [(0, { st := .measuring, waiting := some (3, 4) })] } }, 3, 4, by decide +kernel⟩,
   ⟨0, { eth with tim := { eth.tim with probes := [(0, { st := .measuring, waiting := some (3, 4), samples := [1, 2, 3, 4, 5, 6] })] } }, 3, 4, by decide +kernel⟩,
   ⟨0, { eth with mono := 10000000000, tim := { eth.tim with probes := [(0, { st := .valid, waiting := some (3, 4), unanswered := 1 })] } }, (3, 4), by decide +kernel⟩,
   ⟨0, { eth with mono := 10000000000, tim := { eth.tim with probes := [(0, { st := .valid, waiting := some (3, 4), unanswered := 2 })] } }, (3, 4), by decide +kernel⟩⟩

theorem witness_CntCommandsComplete :
    (∃ (vi : Nat) (io : HostIo) (e : Entry) (s : State) (k : _), starts 0x1001 vi io e s = true ∧ counterKind (e.p 24 2) = some k ∧ 1 ≤ e.p 32 4 ∧ e.p 32 4 ≤ 65536 ∧ e.p 28 4 + e.p 32 4 ≤ kindSize k ∧ (∀ i, e.p 28 4 ≤ i → i < e.p 28 4 + e.p 32 4 → s.mayCount vi k i = true) ∧ 8 * e.p 32 4 + ceilDiv (e.p 32 4) 8 ≤ e.dataLen)
    ∧ (∃ (vi : Nat) (io : HostIo) (e : Entry) (s : State) (k : _), starts 0x1002 vi io e s = true ∧ (e.p 24 1) < 64 ∧ e.p 25 1 = 1 ∧ counterKind (e.p 26 2) = some k ∧ (e.p 28 4 < kindSize k ∨ e.p 28 4 = 0xFFFFFFFF) ∧ 0 < e.p 32 4 ∧ e.p 32 4 ≤ 1000000)
    ∧ (∃ (vi : Nat) (io : HostIo) (e : Entry) (s : State), starts 0x1002 vi io e s = true ∧ (e.p 24 1) < 64 ∧ e.p 25 1 = 2)
    ∧ (∃ (vi : Nat) (io : HostIo) (e : Entry) (s : State), starts 0x1003 vi io e s = true ∧ ((if e.p 28 4 = 0 then 1000 else e.p 28 4)) ≤ 1000000)
    ∧ (∃ (vi : Nat) (io : HostIo) (e : Entry) (s : State), starts 0x1004 vi io e s = true ∧ (e.p 24 1) < 128 ∧ s.ownsPort vi (e.p 24 1) = true)
    ∧ (∃ (vi : Nat) (io : HostIo) (e : Entry) (s : State) (k : _), starts 0x1005 vi io e s = true ∧ counterKind (e.p 24 2) = some k) :=
  ⟨⟨0, yes, ent 0x1001 [(24, 2, 0x100), (28, 4, 191), (32, 4, 1)] ([]) 9, queued (ent 0x1001 [(24, 2, 0x100), (28, 4, 191), (32, 4, 1)] ([]) 9), 1, by (repeat' apply And.intro) <;> first | decide +kernel | (intro i h1 h2; have e1 : (ent 0x1001 [(24, 2, 0x100), (28, 4, 191), (32, 4, 1)] [] 9).p 28 4 = 191 := (by decide +kernel); have e2 : (ent 0x1001 [(24, 2, 0x100), (28, 4, 191), (32, 4, 1)] [] 9).p 32 4 = 1 := (by decide +kernel); rw [e1] at h1 h2; rw [e2] at h2; obtain rfl : i = 191 := (by omega); decide +kernel)⟩,
   ⟨0, yes, ent 0x1002 [(24, 1, 63), (25, 1, 1), (26, 2, 0x100), (28, 4, 191), (32, 4, 1000000)], queued (ent 0x1002 [(24, 1, 63), (25, 1, 1), (26, 2, 0x100), (28, 4, 191), (32, 4, 1000000)]), 1, by decide +kernel⟩,
   ⟨0, yes, ent 0x1002 [(24, 1, 63), (25, 1, 2)], queued (ent 0x1002 [(24, 1, 63), (25, 1, 2)]), by decide +kernel⟩,
   ⟨0, yes, ent 0x1003 [(28, 4, 1000000)], queued (ent 0x1003 [(28, 4, 1000000)]), by decide +kernel⟩,
   ⟨0, yes, ent 0x1004 [(24, 1, 0), (25, 1, 1)] ([]) 64, queued (ent 0x1004 [(24, 1, 0), (25, 1, 1)] ([]) 64) (eth), by decide +kernel⟩,
   ⟨0, yes, ent 0x1005 [(24, 2, 0x100)], queued (ent 0x1005 [(24, 2, 0x100)]), 1, by decide +kernel⟩⟩

theorem witness_CntEventsComplete :
    (∃ (s : State) (n : _) (c : _), mget s.cnt.sel n = some c ∧ (c.bound = true ∨ c.pending ≠ none) ∧ (c.alignTime = false ∧ c.nextAt ≤ s.mono ∨ c.alignTime = true ∧ c.nextAt ≤ s.timeNs))
    ∧ (∃ (s : State) (port : _), port < 128 ∧ s.due (nextMultiple (Config.us (mgetD s.cnt.meters port {}).window) (mgetD s.cnt.meters port {}).boundary) = true) :=
  ⟨⟨{ up with cnt := { up.cnt with sel := [(1, { bound := true })] } }, 1, { bound := true }, by decide +kernel⟩,
   ⟨{ eth with mono := 1000000000000 }, 127, by decide +kernel⟩⟩

theorem witness_PortCommandsComplete :
    (∃ (vi : Nat) (io : HostIo) (e : Entry) (s : State), starts 0x0301 vi io e s = true ∧ (e.p 24 1 : Nat) < 128 ∧ (e.p 24 1 : Nat) ∉ s.frm.swapLeft ∧ ((s.pcfg (e.p 24 1 : Nat)).map PortCfg.type = some 2 → s.otnReferred (e.p 24 1 : Nat) = false) ∧ s.onTrial = false)
    ∧ (∃ (vi : Nat) (io : HostIo) (e : Entry) (s : State), starts 0x0302 vi io e s = true ∧ (e.p 24 1 : Nat) < 128 ∧ e.p 26 1 ≤ 2 ∧ (s.pcfg (e.p 24 1 : Nat)).isSome = true)
    ∧ (∃ (vi : Nat) (io : HostIo) (e : Entry) (s : State), starts 0x0303 vi io e s = true ∧ (e.p 24 1 : Nat) < 128 ∧ s.ownsPort vi (e.p 24 1 : Nat) = true)
    ∧ (∃ (vi : Nat) (io : HostIo) (e : Entry) (s : State) (c : _), starts 0x0304 vi io e s = true ∧ s.pcfg (e.p 24 1 : Nat) = some c ∧ c.type = 1 ∧ e.p 25 1 ≤ 1 ∧ (e.p 26 1 = 1 ∨ e.p 26 1 = 2) ∧ e.p 27 1 ∈ [0, 30, 50] ∧ e.p 28 1 ≤ 2 ∧ e.p 40 4 ≤ 2 ^ 30 ∧ (e.p 26 1 = 1 → c.lanes * c.cls * 100 ≤ 200) ∧ s.onTrial = false)
    ∧ (∃ (vi : Nat) (io : HostIo) (e : Entry) (s : State) (c : _), starts 0x0305 vi io e s = true ∧ s.pcfg (e.p 24 1 : Nat) = some c ∧ c.type = 1)
    ∧ (∃ (vi : Nat) (io : HostIo) (e : Entry) (s : State) (c : _), starts 0x0306 vi io e s = true ∧ s.pcfg (e.p 24 1 : Nat) = some c ∧ c.type = 1 ∧ (e.p 26 1) ≤ 3 ∧ mhas s.sec.mka (e.p 24 1 : Nat) = false) :=
  ⟨⟨0, yes, ent 0x0301 [(24, 1, 127)], queued (ent 0x0301 [(24, 1, 127)]) (eth), by decide +kernel⟩,
   ⟨0, yes, ent 0x0302 [(24, 1, 0), (26, 1, 2)], queued (ent 0x0302 [(24, 1, 0), (26, 1, 2)]) ({ eth with port := { eth.port with ports := [(0, {  })] } }), by decide +kernel⟩,
   ⟨0, yes, ent 0x0303 [(24, 1, 0)], queued (ent 0x0303 [(24, 1, 0)]) (eth), by decide +kernel⟩,
   ⟨0, yes, ent 0x0304 [(26, 1, 2), (28, 1, 2), (32, 8, 77), (48, 8, 1000)], queued (ent 0x0304 [(26, 1, 2), (28, 1, 2), (32, 8, 77), (48, 8, 1000)]) (eth), {}, by decide +kernel⟩,
   ⟨0, yes, ent 0x0305 [(25, 1, 1), (32, 8, 77)], queued (ent 0x0305 [(25, 1, 1), (32, 8, 77)]) (eth), {}, by decide +kernel⟩,
   ⟨0, yes, ent 0x0306 [(25, 1, 1), (26, 1, 3), (27, 1, 1), (28, 2, 9), (32, 8, 77), (40, 8, 1)], queued (ent 0x0306 [(25, 1, 1), (26, 1, 3), (27, 1, 1), (28, 2, 9), (32, 8, 77), (40, 8, 1)]) ({ { eth with port := { eth.port with ports := [(0, { rxScs := [(77, [])] })] } } with sec := { up.sec with keys := [(9, {})] } }), {}, by decide +kernel⟩⟩

theorem witness_ModuleEventsComplete :
    (∃ (cage : Nat) (s : State), s.hif.fwReady = true ∧ (s.cage cage).st = .empty ∧ mhas s.dev.cfg.cages cage = true)
    ∧ (∃ (cage : Nat) (s : State), s.hif.fwReady = true ∧ (s.cage cage).st = .present)
    ∧ (∃ (cage : Nat) (s : State), s.hif.fwReady = true ∧ (s.cage cage).st = .fault)
    ∧ (∃ (cage : Nat) (s : State), s.hif.fwReady = true ∧ (s.cage cage).st = .present ∨ (s.cage cage).st = .ready)
    ∧ (∃ (cage : Nat) (s : State), s.hif.fwReady = true ∧ (mhas s.dev.cfg.cages cage = true ∨ (s.cage cage).st ≠ .empty))
    ∧ (∃ (cage : Nat) (s : State), s.hif.fwReady = true ∧ (s.cage cage).st = .ready)
    ∧ (∃ (cage : Nat) (s : State), s.hif.fwReady = true ∧ (s.cage cage).st = .present ∧ s.due ((s.cage cage).since + Config.sec 60) = true) :=
  ⟨⟨1, { up with dev := { up.dev with cfg := { cages := [(1, { firstLane := 8, lanes := 8 })] }, cages := [(1, {  })] } }, by decide +kernel⟩,
   ⟨1, { up with dev := { up.dev with cfg := { cages := [(1, { firstLane := 8, lanes := 8 })] }, cages := [(1, { st := .present })] } }, by decide +kernel⟩,
   ⟨1, { up with dev := { up.dev with cfg := { cages := [(1, { firstLane := 8, lanes := 8 })] }, cages := [(1, { st := .fault })] } }, by decide +kernel⟩,
   ⟨1, { up with dev := { up.dev with cfg := { cages := [(1, { firstLane := 8, lanes := 8 })] }, cages := [(1, { st := .ready })] } }, by decide +kernel⟩,
   ⟨1, { up with dev := { up.dev with cfg := { cages := [(1, { firstLane := 8, lanes := 8 })] }, cages := [(1, {  })] } }, by decide +kernel⟩,
   ⟨1, { up with dev := { up.dev with cfg := { cages := [(1, { firstLane := 8, lanes := 8 })] }, cages := [(1, { st := .ready })] } }, by decide +kernel⟩,
   ⟨1, { up with mono := 600000000000, dev := { up.dev with cfg := { cages := [(1, { firstLane := 8, lanes := 8 })] }, cages := [(1, { st := .present })] } }, by decide +kernel⟩⟩

theorem witness_LineEventsComplete :
    (∃ (port : Nat) (s : State) (i : _), s.portLive port = true ∧ lineBit (s.isOtn port) i = true ∧ (s.lport port).defects.getLsbD i = false ∧ (i = 8 → (s.lport port).defects.getLsbD 7 = true ∧ s.due ((s.lport port).oofAt + Config.ms 3) = true))
    ∧ (∃ (port : Nat) (s : State) (i : _), s.portLive port = true ∧ s.isOtn port = false ∧ i ≤ 3 ∧ (s.lport port).defects.getLsbD i = false)
    ∧ (∃ (port : Nat) (s : State) (i : _), s.portLive port = true ∧ lineBit (s.isOtn port) i = true)
    ∧ (∃ (port : Nat) (s : State) (i : _), s.portLive port = true ∧ lineBit (s.isOtn port) i = true ∧ i ≠ 7 ∧ (s.lport port).defects.getLsbD i = true ∧ (i = 8 → (s.lport port).defects.getLsbD 7 = false ∧ s.due ((s.lport port).inFrameAt + Config.ms 3) = true))
    ∧ (∃ (port : Nat) (s : State) (i : _), s.portLive port = true ∧ s.isOtn port = false ∧ i ≤ 3 ∧ (s.lport port).defects.getLsbD i = true)
    ∧ (∃ (port : Nat) (s : State) (c : _), s.portLive port = true ∧ s.pcfg port = some c)
    ∧ (∃ (port : Nat) (s : State), s.portLive port = true ∧ s.isOtn port = true ∧ (s.lport port).defects.getLsbD 7 = true)
    ∧ (∃ (port : Nat) (s : State) (c : _), s.portLive port = true ∧ (s.isOtn port = false ∨ s.dev.phase = .full) ∧ s.pcfg port = some c ∧ (s.lport port).causes &&& ~~~ (0x8000 : Word) = 0)
    ∧ (∃ (port : Nat) (s : State) (at_ : _), (s.lport port).st = .upWait ∧ (s.lport port).timer = some at_ ∧ at_ ≤ s.mono)
    ∧ (∃ (port : Nat) (s : State) (at_ : _), (s.lport port).st = .downWait ∧ (s.lport port).timer = some at_ ∧ at_ ≤ s.mono) :=
  ⟨⟨0, { otn with mono := 30000000, port := { otn.port with ports := [(0, { st := .down, defects := 128 })] } }, 8, by decide +kernel⟩,
   ⟨0, { eth with port := { eth.port with ports := [(0, { st := .up })] } }, 3, by decide +kernel⟩,
   ⟨0, eth, 1, by decide +kernel⟩,
   ⟨0, { otn with mono := 30000000, port := { otn.port with ports := [(0, { st := .down, defects := 256 })] } }, 8, by decide +kernel⟩,
   ⟨0, { eth with port := { eth.port with ports := [(0, { st := .down, defects := 8 })] } }, 3, by decide +kernel⟩,
   ⟨0, eth, {}, by decide +kernel⟩,
   ⟨0, { otn with port := { otn.port with ports := [(0, { st := .down, defects := 128 })] } }, by decide +kernel⟩,
   ⟨0, { eth with port := { eth.port with ports := [(0, { st := .training })] } }, {}, by decide +kernel⟩,
   ⟨0, { eth with port := { eth.port with ports := [(0, { st := .upWait, timer := some 0 })] } }, 0, by decide +kernel⟩,
   ⟨0, { eth with port := { eth.port with ports := [(0, { st := .downWait, timer := some 0 })] } }, 0, by decide +kernel⟩⟩

theorem witness_FrmCommandsComplete :
    (∃ (vi : Nat) (io : HostIo) (e : Entry) (s : State), starts 0x0401 vi io e s = true ∧ e.p 24 1 < 128 ∧ s.isOtn (e.p 24 1) = true ∧ e.p 25 1 < 80 ∧ e.p 26 1 = 2 ∧ mhas s.frm.cfg.tribs (e.p 24 1 * 128 + e.p 25 1) = true ∧ s.tribReferred (e.p 24 1) (e.p 25 1) = false ∧ s.onTrial = false)
    ∧ (∃ (vi : Nat) (io : HostIo) (e : Entry) (s : State) (tr : _), starts 0x0401 vi io e s = true ∧ (e.p 24 1) < 128 ∧ s.isOtn (e.p 24 1) = true ∧ e.p 25 1 < 80 ∧ e.p 26 1 = 1 ∧ 40 ≤ e.dataLen ∧ tr = ({ kind := e.p 27 1, rate := e.p 28 1, slip := e.p 29 1 == 1, slots := bitsSet (leVal (e.buf.take 40)) 320 } : Trib) ∧ ((tr.kind = 1 ∧ 1 ≤ tr.rate ∧ tr.rate ≤ 5 ∧ e.p 29 1 = 0) ∨ (tr.kind = 2 ∧ tr.rate = 0 ∧ e.p 29 1 ≤ 1)) ∧ tr.slots ≠ [] ∧ (∀ x ∈ tr.slots, x < s.slots (e.p 24 1)) ∧ tr.slots.length = ((if tr.kind = 1 then Config.clientSlots tr.rate else tr.slots.length)) ∧ (∀ x ∈ s.frm.cfg.tribs, x.1 ≠ ((e.p 24 1) * 128 + e.p 25 1) → x.1 / 128 = (e.p 24 1) → (∀ y ∈ x.2.slots, y ∉ tr.slots) ∧ (tr.kind = 1 → x.2.kind ≠ 1)) ∧ (s.frm.cfg.tribs.filter (fun x => decide (x.1 ≠ ((e.p 24 1) * 128 + e.p 25 1)))).length < 1024 ∧ (s.frm.cfg.tribs.filter (fun x => decide (x.1 ≠ ((e.p 24 1) * 128 + e.p 25 1)) && x.1 / 128 == (e.p 24 1))).length < 80 ∧ (mget s.frm.cfg.tribs ((e.p 24 1) * 128 + e.p 25 1) = none ∨ mget s.frm.cfg.tribs ((e.p 24 1) * 128 + e.p 25 1) = some tr ∨ s.tribReferred (e.p 24 1) (e.p 25 1) = false) ∧ s.onTrial = false)
    ∧ (∃ (vi : Nat) (io : HostIo) (e : Entry) (s : State), starts 0x0402 vi io e s = true ∧ e.p 24 1 < 128 ∧ s.isOtn (e.p 24 1) = true ∧ e.p 24 1 ∉ s.frm.swapLeft ∧ e.dataLen = 4 * s.slots (e.p 24 1) ∧ ((chunks 4 (s.slots (e.p 24 1)) e.buf).map (fun b => BitVec.ofNat 32 (leVal b))).any (fun w => decide (w &&& 0x3F00FE00 ≠ 0)) = false ∧ ((chunks 4 (s.slots (e.p 24 1)) e.buf).map (fun b => BitVec.ofNat 32 (leVal b))).any (fun w => w.toNat / 2 ^ 30 == 3) = false ∧ s.pageOk (e.p 24 1) ((chunks 4 (s.slots (e.p 24 1)) e.buf).map (fun b => BitVec.ofNat 32 (leVal b))) = true ∧ s.onTrial = false)
    ∧ (∃ (vi : Nat) (io : HostIo) (e : Entry) (s : State), starts 0x0403 vi io e s = true ∧ bitsSet (e.p 24 16) 128 ≠ [] ∧ (bitsSet (e.p 24 16) 128).all s.isOtn = true ∧ s.frm.swapLeft = [] ∧ s.onTrial = false)
    ∧ (∃ (vi : Nat) (io : HostIo) (e : Entry) (s : State) (c : _), c = ({ level := e.p 27 1, wPort := e.p 28 1, wTrib := e.p 29 1, pPort := e.p 30 1, pTrib := e.p 31 1, revertive := bit (e.p 32 1) 0, sdTrigger := bit (e.p 32 1) 1, holdoff := e.p 33 1, wtr := e.p 34 1 } : ProtCfg) ∧ starts 0x0404 vi io e s = true ∧ (e.p 24 2) < 256 ∧ e.p 26 1 = 1 ∧ (c.level = 1 ∨ c.level = 2) ∧ c.holdoff ≤ 100 ∧ 1 ≤ c.wtr ∧ c.wtr ≤ 12 ∧ s.isOtn c.wPort = true ∧ s.isOtn c.pPort = true ∧ s.protPair c = true ∧ (c.wPort ≠ c.pPort ∨ c.wTrib ≠ c.pTrib) ∧ s.onTrial = false)
    ∧ (∃ (vi : Nat) (io : HostIo) (e : Entry) (s : State) (c : _), starts 0x0404 vi io e s = true ∧ (e.p 24 2) < 256 ∧ e.p 26 1 = 3 ∧ mget s.frm.cfg.prots (e.p 24 2) = some c ∧ e.p 35 1 ≤ 4)
    ∧ (∃ (vi : Nat) (io : HostIo) (e : Entry) (s : State), starts 0x0404 vi io e s = true ∧ e.p 24 2 < 256 ∧ e.p 26 1 = 2 ∧ mhas s.frm.cfg.prots (e.p 24 2) = true ∧ s.onTrial = false)
    ∧ (∃ (vi : Nat) (io : HostIo) (e : Entry) (s : State), starts 0x0405 vi io e s = true ∧ e.p 24 1 < 8 ∧ e.p 25 1 = 2 ∧ s.onTrial = false)
    ∧ (∃ (vi : Nat) (io : HostIo) (e : Entry) (s : State), starts 0x0405 vi io e s = true ∧ e.p 24 1 < 8 ∧ e.p 25 1 = 1 ∧ e.p 26 1 < 128 ∧ s.isOtn (e.p 26 1) = true ∧ 1 ≤ e.p 27 1 ∧ e.p 27 1 ≤ 5 ∧ s.onTrial = false)
    ∧ (∃ (vi : Nat) (io : HostIo) (e : Entry) (s : State), starts 0x0406 vi io e s = true ∧ e.p 24 1 < 128 ∧ s.ownsPort vi (e.p 24 1) = true ∧ s.isOtn (e.p 24 1) = true) :=
  ⟨⟨0, yes, ent 0x0401 [(25, 1, 79), (26, 1, 2)], queued (ent 0x0401 [(25, 1, 79), (26, 1, 2)]) ({ otn with frm := { otn.frm with cfg := { tribs := [(79, {})] } } }), by decide +kernel⟩,
   ⟨0, yes, ent 0x0401 [(25, 1, 79), (26, 1, 1), (27, 1, 2), (29, 1, 1)] ([0, 0, 8] ++ zeros 37), queued (ent 0x0401 [(25, 1, 79), (26, 1, 1), (27, 1, 2), (29, 1, 1)] ([0, 0, 8] ++ zeros 37)) (otn), { kind := 2, slip := true, slots := [19] }, by (repeat' apply And.intro) <;> first | decide +kernel | rfl | (intro x hx; cases hx) | (left; rfl)⟩,
   ⟨0, yes, ent 0x0402 [] (zeros 80), queued (ent 0x0402 [] (zeros 80)) (otn), by decide +kernel⟩,
   ⟨0, yes, ent 0x0403 [(24, 1, 1)], queued (ent 0x0403 [(24, 1, 1)]) (otn), by decide +kernel⟩,
   ⟨0, yes, ent 0x0404 [(24, 2, 255), (26, 1, 1), (27, 1, 1), (30, 1, 1), (33, 1, 100), (34, 1, 12)], queued (ent 0x0404 [(24, 2, 255), (26, 1, 1), (27, 1, 1), (30, 1, 1), (33, 1, 100), (34, 1, 12)]) ({ otn with port := { otn.port with cfg := [(0, { type := 2, otucN := 1 }), (1, { type := 2, otucN := 1 })], ports := [(0, { st := .up }), (1, {})] } }), { level := 1, pPort := 1, holdoff := 100, wtr := 12 }, by decide +kernel⟩,
   ⟨0, yes, ent 0x0404 [(24, 2, 255), (26, 1, 3), (35, 1, 4)], queued (ent 0x0404 [(24, 2, 255), (26, 1, 3), (35, 1, 4)]) ({ otn with frm := { otn.frm with cfg := { prots := [(255, {})] } } }), {}, by decide +kernel⟩,
   ⟨0, yes, ent 0x0404 [(24, 2, 255), (26, 1, 2)], queued (ent 0x0404 [(24, 2, 255), (26, 1, 2)]) ({ otn with frm := { otn.frm with cfg := { prots := [(255, {})] } } }), by decide +kernel⟩,
   ⟨0, yes, ent 0x0405 [(24, 1, 7), (25, 1, 2)], queued (ent 0x0405 [(24, 1, 7), (25, 1, 2)]) (otn), by decide +kernel⟩,
   ⟨0, yes, ent 0x0405 [(24, 1, 7), (25, 1, 1), (27, 1, 5), (28, 1, 1)], queued (ent 0x0405 [(24, 1, 7), (25, 1, 1), (27, 1, 5), (28, 1, 1)]) (otn), by decide +kernel⟩,
   ⟨0, yes, ent 0x0406, queued (ent 0x0406) (otn), by decide +kernel⟩⟩

theorem witness_FrmEventsComplete :
    (∃ (s : State) (g : _) (c : _) (at_ : _), mget s.frm.cfg.prots g = some c ∧ (mgetD s.frm.prots g {}).holdoffAt = some at_ ∧ at_ ≤ s.mono)
    ∧ (∃ (s : State) (g : _) (at_ : _), mget s.frm.cfg.prots g = none ∧ (mgetD s.frm.prots g {}).wtrAt = some at_ ∧ at_ ≤ s.mono)
    ∧ (∃ (s : State) (g : _) (c : _) (at_ : _), mget s.frm.cfg.prots g = some c ∧ (mgetD s.frm.prots g {}).wtrAt = some at_ ∧ at_ ≤ s.mono)
    ∧ (∃ (s : State) (port : _), port ∈ s.frm.swapLeft ∧ without s.frm.swapLeft port ≠ [] ∧ s.frm.swapT ≤ s.timeNs)
    ∧ (∃ (s : State) (port : _), s.frm.swapLeft = [port] ∧ s.frm.swapT ≤ s.timeNs)
    ∧ (∃ (s : State) (port : _) (trib : _) (tr : _), s.portLive port = true ∧ mget s.frm.cfg.tribs (port * 128 + trib) = some tr ∧ tr.kind = 2 ∧ tr.slip = true)
    ∧ (∃ (s : State) (n : _) (c : _), mget s.frm.cfg.ohs n = some c ∧ s.portLive c.port = true ∧ s.isOtn c.port = true) :=
  ⟨⟨{ otn with frm := { otn.frm with cfg := { prots := [(3, {})] }, prots := [(3, { holdoffAt := some 0 })] } }, 3, {}, 0, by decide +kernel⟩,
   ⟨{ otn with frm := { otn.frm with prots := [(3, { wtrAt := some 0 })] } }, 3, 0, by decide +kernel⟩,
   ⟨{ otn with frm := { otn.frm with cfg := { prots := [(3, { revertive := true })] }, prots := [(3, { selected := true, wtrAt := some 0 })] } }, 3, { revertive := true }, 0, by decide +kernel⟩,
   ⟨{ otn with frm := { otn.frm with swapLeft := [0, 1] } }, 0, by decide +kernel⟩,
   ⟨{ otn with frm := { otn.frm with swapLeft := [0] } }, 0, by decide +kernel⟩,
   ⟨{ otn with frm := { otn.frm with cfg := { tribs := [(3, { kind := 2, slip := true })] } } }, 0, 3, { kind := 2, slip := true }, by decide +kernel⟩,
   ⟨{ otn with frm := { otn.frm with cfg := { ohs := [(2, { drop := true })] } } }, 2, { drop := true }, by decide +kernel⟩⟩

theorem witness_ReceiveMacEventsComplete :
    (∃ (port : Nat) (s : State), s.portUp port = true ∧ s.hasClient port = true ∧ (s.dev.phase = .cellar ∨ s.dev.phase = .full))
    ∧ (∃ (port : Nat) (s : State) (c : _) (bytes : List Byte), s.portUp port = true ∧ s.hasClient port = true ∧ (s.dev.phase = .cellar ∨ s.dev.phase = .full) ∧ s.pcfg port = some c ∧ s.isPaired port = false ∧ (bytes.length < 64 ∨ c.maxFrame < bytes.length))
    ∧ (∃ (port : Nat) (s : State) (c : _) (bytes : List Byte), s.portUp port = true ∧ s.pcfg port = some c ∧ s.hasClient port = true ∧ (s.dev.phase = .cellar ∨ s.dev.phase = .full) ∧ s.isPaired port = false ∧ s.flt.armed = [] ∧ (s.secy port).enable = false ∧ s.isProbe port bytes = false ∧ (mhas s.sec.mka port = true → be bytes 12 2 ≠ 0x888E) ∧ 64 ≤ bytes.length ∧ bytes.length ≤ c.maxFrame ∧ be bytes 12 2 ≠ 0x8808)
    ∧ (∃ (port : Nat) (s : State), s.portUp port = true ∧ s.isOtn port = false)
    ∧ (∃ (port : Nat) (s : State) (q : _), s.portUp port = true ∧ s.isOtn port = false ∧ 0 < q)
    ∧ (∃ (port : Nat) (s : State) (tc : _) (at_ : _), mget (s.lport port).paused tc = some at_ ∧ at_ ≤ s.mono)
    ∧ (∃ (port : Nat) (s : State) (tc : _) (at_ : _), mget (s.lport port).xoff tc = some at_ ∧ s.due (at_ + s.pauseTime port (s.pfcOf port).quanta / 2) = true) :=
  ⟨⟨0, eth, by decide +kernel⟩,
   ⟨0, eth, {}, zeros 63, by decide +kernel⟩,
   ⟨0, eth, {}, zeros 12 ++ [8, 0] ++ zeros 50, by decide +kernel⟩,
   ⟨0, eth, by decide +kernel⟩,
   ⟨0, eth, 65535, by decide +kernel⟩,
   ⟨0, { eth with port := { eth.port with ports := [(0, { st := .up, paused := [(7, 0)] })] } }, 7, 0, by decide +kernel⟩,
   ⟨0, { eth with mono := 10000000000, port := { eth.port with ports := [(0, { st := .up, xoff := [(7, 0)] })] } }, 7, 0, by decide +kernel⟩⟩

theorem witness_MillAndMashComplete :
    (∃ (s : State) (pkt : _) (m : _), s.mpkt? pkt = some m ∧ s.mash.pkts.find? (fun x => x.pkt.inPort == m.pkt.inPort && x.stamp.isNone) = some m ∧ m.stamp = none ∧ (s.dev.phase = .cellar ∨ s.dev.phase = .full))
    ∧ (∃ (s : State) (pkt : _) (m : _) (pipe : _) (win : _), s.mpkt? pkt = some m ∧ s.mash.pkts.find? (fun x => x.pkt.inPort == m.pkt.inPort && x.stamp.isNone) = some m ∧ m.stamp = none ∧ s.dev.phase = .full ∧ (parseFrame m.pkt.bytes).trunc = false ∧ (parseFrame m.pkt.bytes).err = false ∧ m.pkt.inPort < 128 ∧ m.pkt.instEpoch = none ∧ m.pkt.direct = none ∧ puntClass (parseFrame m.pkt.bytes).hdrs = none ∧ isPtp (parseFrame m.pkt.bytes).hdrs = false ∧ (s.raOf m.pkt.inPort).1 = false ∧ s.nextPipe = some pipe ∧ s.millTake m.pkt.inPort m.pkt.bytes.length = some win)
    ∧ (∃ (s : State) (pkt : _) (m : _) (epoch : _), s.mpkt? pkt = some m ∧ m.stamp = some epoch ∧ m.verdict = none ∧ (parseFrame m.pkt.bytes).err = false ∧ epoch ≠ 0 ∧ mget (s.tablesOf epoch).ports m.pkt.inPort = none)
    ∧ (∃ (s : State) (pkt : _) (m : _) (epoch : _) (v : _) (ops : _) (u : _), s.mpkt? pkt = some m ∧ m.stamp = some epoch ∧ m.verdict = none ∧ fullLookup m epoch s = (some (v, ops), u))
    ∧ (∃ (s : State) (pkt : _) (m : _) (epoch : _) (u : _), s.mpkt? pkt = some m ∧ m.stamp = some epoch ∧ m.verdict = none ∧ fullLookup m epoch s = (none, u))
    ∧ (∃ (s : State) (pkt : _) (m : _) (epoch : _), s.mpkt? pkt = some m ∧ m.stamp = some epoch ∧ m.verdict = none ∧ m.stampAt + Config.us 20 ≤ s.mono)
    ∧ (∃ (s : State) (pkt : _) (m : _) (epoch : _) (n : _) (tos : _), s.mpkt? pkt = some m ∧ m.stamp = some epoch ∧ m.verdict = none ∧ m.stampAt + Config.us 20 ≤ s.mono ∧ rated s.tbl.timeouts m.pkt.inPort s.mono = (false, n, tos))
    ∧ (∃ set way, way < 8 ∧ set < 2 ^ 17)
    ∧ (∃ (s : State) (set : _) (at_ : _), mget s.mash.parity set = some at_ ∧ at_ ≤ s.mono) :=
  ⟨⟨{ up with mash := { up.mash with pkts := [{ pkt := { id := 4, bytes := zeros 12 ++ [0x88, 0xB5] ++ zeros 60 } }] } }, 4, { pkt := { id := 4, bytes := zeros 12 ++ [0x88, 0xB5] ++ zeros 60 } }, by decide +kernel⟩,
   ⟨{ eth with mash := { eth.mash with pkts := [{ pkt := { id := 4, bytes := zeros 12 ++ [0x88, 0xB5] ++ zeros 60 } }] }, dev := { eth.dev with pipes := [0, 1] } }, 4, { pkt := { id := 4, bytes := zeros 12 ++ [0x88, 0xB5] ++ zeros 60 } }, 0, (({ eth with mash := { eth.mash with pkts := [{ pkt := { id := 4, bytes := zeros 12 ++ [0x88, 0xB5] ++ zeros 60 } }] }, dev := { eth.dev with pipes := [0, 1] } }).millTake 0 74).getD {}, by decide +kernel⟩,
   ⟨{ up with mash := { up.mash with pkts := [{ pkt := { id := 4, bytes := zeros 12 ++ [0x88, 0xB5] ++ zeros 60 }, stamp := some 2 }] } }, 4, { pkt := { id := 4, bytes := zeros 12 ++ [0x88, 0xB5] ++ zeros 60 }, stamp := some 2 }, 2, by decide +kernel⟩,
   ⟨{ up with mash := { up.mash with pkts := [{ pkt := { id := 4, bytes := zeros 12 ++ [0x88, 0xB5] ++ zeros 60 }, stamp := some 2 }] } }, 4, { pkt := { id := 4, bytes := zeros 12 ++ [0x88, 0xB5] ++ zeros 60 }, stamp := some 2 }, 2, .discard 7, [], _, by (repeat' apply And.intro) <;> first | decide +kernel | rfl⟩,
   ⟨{ up with tbl := { up.tbl with epochs := [{ num := 2, tables := { ports := [(0, .port 0 1 0 0 0 0)], programs := [(1, .program 1 0 0 [[3, 1, 4, 15, 15, 0, 0, 0]])] } }] }, mash := { up.mash with pkts := [{ pkt := { id := 4, bytes := zeros 12 ++ [8, 0, 0x45, 0, 0, 60, 0, 0, 0, 0, 64, 17, 0x7A, 0xB2] ++ zeros 58 }, stamp := some 2 }], reads := { ing := 1280, cap := 1280 } } }, 4, { pkt := { id := 4, bytes := zeros 12 ++ [8, 0, 0x45, 0, 0, 60, 0, 0, 0, 0, 64, 17, 0x7A, 0xB2] ++ zeros 58 }, stamp := some 2 }, 2, (fullLookup { pkt := { id := 4, bytes := zeros 12 ++ [8, 0, 0x45, 0, 0, 60, 0, 0, 0, 0, 64, 17, 0x7A, 0xB2] ++ zeros 58 }, stamp := some 2 } 2 ({ up with tbl := { up.tbl with epochs := [{ num := 2, tables := { ports := [(0, .port 0 1 0 0 0 0)], programs := [(1, .program 1 0 0 [[3, 1, 4, 15, 15, 0, 0, 0]])] } }] }, mash := { up.mash with pkts := [{ pkt := { id := 4, bytes := zeros 12 ++ [8, 0, 0x45, 0, 0, 60, 0, 0, 0, 0, 64, 17, 0x7A, 0xB2] ++ zeros 58 }, stamp := some 2 }], reads := { ing := 1280, cap := 1280 } } })).2, by (repeat' apply And.intro) <;> first | decide +kernel | rfl⟩,
   ⟨{ up with mono := 1000000, mash := { up.mash with pkts := [{ pkt := { id := 4, bytes := zeros 12 ++ [0x88, 0xB5] ++ zeros 60 }, stamp := some 2 }] } }, 4, { pkt := { id := 4, bytes := zeros 12 ++ [0x88, 0xB5] ++ zeros 60 }, stamp := some 2 }, 2, by decide +kernel⟩,
   ⟨{ up with mono := 1000000, mash := { up.mash with pkts := [{ pkt := { id := 4, bytes := zeros 12 ++ [0x88, 0xB5] ++ zeros 60 }, stamp := some 2 }] }, tbl := { up.tbl with timeouts := [(0, { times := [1000000], last := some 1000000 })] } }, 4, { pkt := { id := 4, bytes := zeros 12 ++ [0x88, 0xB5] ++ zeros 60 }, stamp := some 2 }, 2, ((rated [(0, { times := [1000000], last := some 1000000 })] 0 1000000).2).1, ((rated [(0, { times := [1000000], last := some 1000000 })] 0 1000000).2).2, by decide +kernel⟩,
   ⟨131071, 7, by decide +kernel⟩,
   ⟨{ up with mash := { up.mash with parity := [(1, 0)] } }, 1, 0, by decide +kernel⟩⟩

theorem witness_QDieComplete :
    (∃ (s : State) (port : _) (k : _) (r : _), s.bridgeHead port = some (.result k r))
    ∧ (∃ (s : State) (port : _) (k : _) (r : _) (i : _), s.bridgeHead port = some (.prediction k r i) ∧ s.sliceTurn (voqKey r.destSp r.tc) (sliceOf port) = true)
    ∧ (∃ (s : State) (port : _) (a : _), s.bridgeHead port = some (.none_ a))
    ∧ (∃ (s : State) (pkt : _), (∀ e ∈ s.pair.ports, ∀ k r, .result k r ∈ e.2.held → k.id ≠ pkt))
    ∧ (∃ (s : State) (pkt : _) (e : _), s.pair.ports.find? (fun e => e.2.held.any (fun i => match i with | .result k _ => k.id == pkt | _ => false)) = some e)
    ∧ (∃ (s : State) (i : _) (t : _), mget s.mash.trub i = some t)
    ∧ (∃ (s : State) (i : _) (t : _), mget s.mash.trub i = some t)
    ∧ (∃ (s : State) (port : _) (k : _) (r : _), s.bridgeHead port = some (.result k r) ∧ k.arrival = none ∧ r.action = 0 ∧ s.sliceTurn (voqKey r.destSp r.tc) (sliceOf port) = true ∧ forwardTests k r (takeAt port (voqKey r.destSp r.tc) s) = (.inr false, (takeAt port (voqKey r.destSp r.tc) s)) ∧ (takeAt port (voqKey r.destSp r.tc) s).inHbmMode (voqKey r.destSp r.tc) = false ∧ caskTest k.inPort (voqKey r.destSp r.tc) r.tc r.length (takeAt port (voqKey r.destSp r.tc) s) = none)
    ∧ (∃ (s : State) (port : _) (k : _) (r : _) (i : _), s.bridgeHead port = some (.prediction k r i) ∧ s.sliceTurn (voqKey r.destSp r.tc) (sliceOf port) = true ∧ (mgetD s.mash.trub i {}).cascaded = false ∧ forwardTests k r (takeAt port (voqKey r.destSp r.tc) s) = (.inr false, (takeAt port (voqKey r.destSp r.tc) s)) ∧ caskTest k.inPort (voqKey r.destSp r.tc) r.tc r.length (takeAt port (voqKey r.destSp r.tc) s) = none)
    ∧ (∃ (s : State) (port : _), s.bridgeHead port = some (.none_ ((s.ppair port).nextArrival)) ∧ (s.ppair port).query = none ∧ (s.ppair port).held = [] ∧ ((s.ppair port).nextArrival) ∉ (s.ppair port).asked)
    ∧ (∃ (s : State) (pkt : _) (v : _) (k : _), s.pair.ports = [] ∧ s.voqWith pkt = some (v, k) ∧ k.pkt.fcsOk = true ∧ s.flt.armed = [])
    ∧ (∃ (s : State) (port : _) (i : _) (t : _) (v : _) (k : _) (pol : _) (cas : _), s.bridgeHead port = some (.confirm i 0 pol cas) ∧ mget s.mash.trub i = some t ∧ t.st = .open_ ∧ t.held = none ∧ t.count = 0 ∧ s.voqWith t.pkt = some (v, k) ∧ k.ecnMark = false)
    ∧ (∃ (s : State) (i : _) (t : _), mget s.mash.trub i = some t ∧ t.st = .nocopy ∧ mget s.mash.cache t.way = none ∧ s.mash.trub.filter (fun x => x.2.port == t.port && !x.2.issued && !x.2.cascaded) = [(i, t)]) :=
  ⟨⟨{ eth with mash := { eth.mash with bridge := [(0, [.result ({ id := 9, bytes := zeros 100 }) ({ destSp := 5, length := 100 })])] }, fab := { eth.fab with cfg := { spmap := [(5, {})] } }, dev := { eth.dev with hbmUp := [0, 1, 2, 3, 4, 5] } }, 0, { id := 9, bytes := zeros 100 }, { destSp := 5, length := 100 }, by decide +kernel⟩,
   ⟨{ eth with mash := { eth.mash with bridge := [(0, [.prediction ({ id := 9, bytes := zeros 100 }) ({ destSp := 5, length := 100 }) 6])] }, fab := { eth.fab with cfg := { spmap := [(5, {})] } }, dev := { eth.dev with hbmUp := [0, 1, 2, 3, 4, 5] } }, 0, { id := 9, bytes := zeros 100 }, { destSp := 5, length := 100 }, 6, by decide +kernel⟩,
   ⟨{ eth with mash := { eth.mash with bridge := [(0, [.none_ 5])] }, fab := { eth.fab with cfg := { spmap := [(5, {})] } }, dev := { eth.dev with hbmUp := [0, 1, 2, 3, 4, 5] } }, 0, 5, by decide +kernel⟩,
   ⟨{ up with adm := { up.adm with voqs := [(40, { q := [{ pkt := { id := 9, bytes := zeros 100 } }] })] } }, 9, fun e he => by cases he⟩,
   ⟨{ up with pair := { up.pair with ports := [(0, { held := [.result ({ id := 9, bytes := zeros 100 }) {}] })] } }, 9, (0, { held := [.result ({ id := 9, bytes := zeros 100 }) {}] }), by decide +kernel⟩,
   ⟨{ up with mash := { up.mash with trub := [(6, {})] } }, 6, {}, by decide +kernel⟩,
   ⟨{ up with mash := { up.mash with trub := [(6, {})] } }, 6, {}, by decide +kernel⟩,
   ⟨{ eth with mash := { eth.mash with bridge := [(0, [.result ({ id := 9, bytes := zeros 100 }) ({ destSp := 5, length := 100 })])] }, fab := { eth.fab with cfg := { spmap := [(5, {})] } }, dev := { eth.dev with hbmUp := [0, 1, 2, 3, 4, 5] } }, 0, { id := 9, bytes := zeros 100 }, { destSp := 5, length := 100 }, by decide +kernel⟩,
   ⟨{ eth with mash := { eth.mash with bridge := [(0, [.prediction ({ id := 9, bytes := zeros 100 }) ({ destSp := 5, length := 100 }) 6])] }, fab := { eth.fab with cfg := { spmap := [(5, {})] } }, dev := { eth.dev with hbmUp := [0, 1, 2, 3, 4, 5] } }, 0, { id := 9, bytes := zeros 100 }, { destSp := 5, length := 100 }, 6, by decide +kernel⟩,
   ⟨{ eth with mash := { eth.mash with bridge := [(0, [.none_ 5])] }, fab := { eth.fab with cfg := { spmap := [(5, {})] } }, dev := { eth.dev with hbmUp := [0, 1, 2, 3, 4, 5] }, pair := { eth.pair with ports := [(0, { nextArrival := 5 })] } }, 0, by decide +kernel⟩,
   ⟨{ up with adm := { up.adm with voqs := [(40, { q := [{ pkt := { id := 9, bytes := zeros 100 } }] })] } }, 9, 40, { pkt := { id := 9, bytes := zeros 100 } }, by decide +kernel⟩,
   ⟨{ eth with mash := { eth.mash with bridge := [(0, [.confirm 6 0 true false])], trub := [(6, { pkt := 9 })] }, adm := { eth.adm with voqs := [(40, { q := [{ pkt := { id := 9, bytes := zeros 100 }, trub := some 6 }] })] } }, 0, 6, { pkt := 9 }, 40, { pkt := { id := 9, bytes := zeros 100 }, trub := some 6 }, true, false, by decide +kernel⟩,
   ⟨{ up with mash := { up.mash with trub := [(6, { st := .nocopy })] } }, 6, { st := .nocopy }, by decide +kernel⟩⟩

theorem witness_AdmCommandsComplete :
    (∃ (vi : Nat) (io : HostIo) (e : Entry) (s : State), starts 0x0801 vi io e s = true ∧ e.p 25 1 = 1 ∧ e.dataLen = 64 ∧ le e.buf 0 1 < 8 ∧ le e.buf 3 1 = 0 ∧ le e.buf 43 1 = 0 ∧ (bytesAt e.buf 52 12).any (fun x => x != 0) = false ∧ (parseProfile e.buf).ok = true ∧ s.onTrial = false)
    ∧ (∃ (vi : Nat) (io : HostIo) (e : Entry) (s : State), starts 0x0801 vi io e s = true ∧ e.p 25 1 = 2 ∧ e.dataLen = 0 ∧ e.p 24 1 ≠ 0 ∧ mhas s.adm.cfg.profiles (e.p 24 1) = true ∧ s.adm.cfg.binds.any (fun x => x.2 == e.p 24 1) = false ∧ s.onTrial = false)
    ∧ (∃ (vi : Nat) (io : HostIo) (e : Entry) (s : State), starts 0x0802 vi io e s = true ∧ e.p 28 4 ≠ 0 ∧ e.p 24 4 + e.p 28 4 ≤ 262144 ∧ mhas s.adm.cfg.profiles (e.p 32 1) = true ∧ s.onTrial = false)
    ∧ (∃ (vi : Nat) (io : HostIo) (e : Entry) (s : State), starts 0x0803 vi io e s = true ∧ e.p 24 1 ≤ 7 ∧ 100 ≤ ((if e.p 28 4 = 0 then 50000 else e.p 28 4)) ∧ ((if e.p 28 4 = 0 then 50000 else e.p 28 4)) ≤ 5000000 ∧ ((if e.p 32 4 = 0 then ((if e.p 28 4 = 0 then 50000 else e.p 28 4)) / 2 else e.p 32 4)) ≤ ((if e.p 28 4 = 0 then 50000 else e.p 28 4)) ∧ ((if e.p 28 4 = 0 then 50000 else e.p 28 4)) + 2000 ≤ s.tbl.cfg.encapHold * 1000 ∧ s.onTrial = false)
    ∧ (∃ (vi : Nat) (io : HostIo) (e : Entry) (s : State), starts 0x0804 vi io e s = true ∧ 16 ≤ ((if e.p 24 1 = 0 then 20 else e.p 24 1)) ∧ ((if e.p 24 1 = 0 then 20 else e.p 24 1)) ≤ 32 ∧ 16 ≤ ((if e.p 25 1 = 0 then 32 else e.p 25 1)) ∧ ((if e.p 25 1 = 0 then 32 else e.p 25 1)) ≤ 64 ∧ 2 ≤ ((if e.p 26 1 = 0 then 4 else e.p 26 1)) ∧ ((if e.p 26 1 = 0 then 4 else e.p 26 1)) ≤ 16 ∧ ((if e.p 27 1 = 0 then 4 else e.p 27 1)) ≤ 64 ∧ ((if e.p 28 1 = 0 then 4 else e.p 28 1)) ≤ 16 ∧ s.onTrial = false)
    ∧ (∃ (vi : Nat) (io : HostIo) (e : Entry) (s : State) (c : _) (f : _), starts 0x0805 vi io e s = true ∧ e.p 24 1 ≤ 127 ∧ s.pcfg (e.p 24 1) = some c ∧ c.type ≠ 2 ∧ f = ({ enable := e.p 25 1, cable := if e.p 26 2 = 0 then 100 else e.p 26 2, response := if e.p 28 2 = 0 then 1000 else e.p 28 2, quanta := if e.p 30 2 = 0 then 65535 else e.p 30 2, xoff := e.p 32 4, hyst := e.p 36 4 } : PfcCfg) ∧ f.cable ≤ 2000 ∧ f.response ≤ 10000 ∧ (f.xoff = 0 ∨ f.hyst < f.xoff) ∧ (s.reserveFor ((if f.enable = 0 then mdel s.adm.cfg.pfc (e.p 24 1) else mset s.adm.cfg.pfc (e.p 24 1) f)) ≤ s.reserve ∨ 2 * s.reserveFor ((if f.enable = 0 then mdel s.adm.cfg.pfc (e.p 24 1) else mset s.adm.cfg.pfc (e.p 24 1) f)) ≤ s.poolCells) ∧ s.onTrial = false)
    ∧ (∃ (vi : Nat) (io : HostIo) (e : Entry) (s : State), starts 0x0806 vi io e s = true ∧ e.p 24 4 < 262144 ∧ (vi = 0 ∨ inRange (s.inst vi).grant.sp (e.p 24 4 / 8) = true))
    ∧ (∃ (vi : Nat) (io : HostIo) (e : Entry) (s : State), starts 0x0807 vi io e s = true) :=
  ⟨⟨0, yes, ent 0x0801 [(25, 1, 1)] (zeros 44 ++ [2] ++ zeros 19), queued (ent 0x0801 [(25, 1, 1)] (zeros 44 ++ [2] ++ zeros 19)), by decide +kernel⟩,
   ⟨0, yes, ent 0x0801 [(24, 1, 3), (25, 1, 2)], queued (ent 0x0801 [(24, 1, 3), (25, 1, 2)]) ({ up with adm := { up.adm with cfg := { profiles := mset up.adm.cfg.profiles 3 {} } } }), by decide +kernel⟩,
   ⟨0, yes, ent 0x0802 [(24, 4, 262143), (28, 4, 1)], queued (ent 0x0802 [(24, 4, 262143), (28, 4, 1)]), by decide +kernel⟩,
   ⟨0, yes, ent 0x0803 [(24, 1, 7), (28, 4, 100), (32, 4, 100)], queued (ent 0x0803 [(24, 1, 7), (28, 4, 100), (32, 4, 100)]), by decide +kernel⟩,
   ⟨0, yes, ent 0x0804 [(24, 1, 32), (25, 1, 64), (26, 1, 16), (27, 1, 64), (28, 1, 16)], queued (ent 0x0804 [(24, 1, 32), (25, 1, 64), (26, 1, 16), (27, 1, 64), (28, 1, 16)]), by decide +kernel⟩,
   ⟨0, yes, ent 0x0805 [(26, 2, 2000), (28, 2, 10000)], queued (ent 0x0805 [(26, 2, 2000), (28, 2, 10000)]) (eth), {}, { enable := 0, cable := 2000, response := 10000 }, by decide +kernel⟩,
   ⟨0, yes, ent 0x0806 [(24, 4, 262143)] ([]) 48, queued (ent 0x0806 [(24, 4, 262143)] ([]) 48), by decide +kernel⟩,
   ⟨0, yes, ent 0x0807 [] ([]) 64, queued (ent 0x0807 [] ([]) 64), by decide +kernel⟩⟩

theorem witness_AdmEventsComplete :
    (∃ (s : State) (voq : _), (s.voq voq).q ≠ [])
    ∧ (∃ (s : State) (voq : _) (k : _) (q : _), (s.voq voq).q = k :: q ∧ k.older s.mono (s.classCfg k.res.tc).1 = false)
    ∧ (∃ (s : State) (voq : _) (k : _), (s.voq voq).q = [k] ∧ k.older s.mono (s.classCfg k.res.tc).1 = true)
    ∧ (∃ (s : State) (voq : _) (n : _) (k : _) (l : _), s.inHbmMode voq = true ∧ (withOffsets 0 (s.voq voq).q).find? (fun x => decide (65536 < x.1) && x.2.loc == .cask && x.2.acceptedAt.isSome && x.2.sent == 0) = some (n, k) ∧ (refillTokensHbm s).stacksFor voq k.charge = some l ∧ k.charge ≤ (refillTokensHbm s).adm.writeTokens)
    ∧ (∃ (s : State) (voq : _) (n : _) (k : _), (s.voq voq).credits ≠ 0 ∧ (withOffsets 0 (s.voq voq).q).find? (fun x => decide (x.1 ≤ 32768) && x.2.loc == .hbm) = some (n, k) ∧ k.charge ≤ (refillTokensHbm s).adm.readTokens ∧ s.prefetchUsed + ceilDiv k.charge 256 ≤ 32768)
    ∧ (∃ (s : State) (stack : _) (pc : _), stack ∈ s.bufStacks ∧ pc < 32 ∧ stack * 32 + pc ∉ s.adm.pcFailed)
    ∧ (∃ (s : State) (stack : _) (pc : _) (at_ : _), mget s.adm.pcOpen (stack * 32 + pc) = some at_ ∧ s.pcDrained stack pc = true)
    ∧ (∃ (s : State) (stack : _), stack ∈ s.bufStacks) :=
  ⟨⟨{ up with dev := { up.dev with hbmUp := [0, 1, 2, 3, 4, 5] }, adm := { up.adm with voqs := [(40, { q := [{}, {}] })] } }, 40, by decide +kernel⟩,
   ⟨{ up with dev := { up.dev with hbmUp := [0, 1, 2, 3, 4, 5] }, adm := { up.adm with voqs := [(40, { q := [{ acceptedAt := some 0 }] })] } }, 40, { acceptedAt := some 0 }, [], by decide +kernel⟩,
   ⟨{ up with mono := 10000000000, dev := { up.dev with hbmUp := [0, 1, 2, 3, 4, 5] }, adm := { up.adm with voqs := [(40, { q := [{ acceptedAt := some 0 }] })] } }, 40, { acceptedAt := some 0 }, by decide +kernel⟩,
   ⟨{ up with dev := { up.dev with hbmUp := [0, 1, 2, 3, 4, 5] }, adm := { up.adm with voqs := [(40, { hbmMode := true, q := [{ acceptedAt := some 0, charge := 70000 }, { acceptedAt := some 0, charge := 600 }] })] } }, 40, 70000, { acceptedAt := some 0, charge := 600 }, ((refillTokensHbm ({ up with dev := { up.dev with hbmUp := [0, 1, 2, 3, 4, 5] }, adm := { up.adm with voqs := [(40, { hbmMode := true, q := [{ acceptedAt := some 0, charge := 70000 }, { acceptedAt := some 0, charge := 600 }] })] } })).stacksFor 40 600).getD [], by decide +kernel⟩,
   ⟨{ up with dev := { up.dev with hbmUp := [0, 1, 2, 3, 4, 5] }, adm := { up.adm with voqs := [(40, { credit := [(5, 1)], q := [{ acceptedAt := some 0, charge := 600, loc := .hbm }] })] } }, 40, 0, { acceptedAt := some 0, charge := 600, loc := .hbm }, by decide +kernel⟩,
   ⟨{ up with dev := { up.dev with hbmUp := [0, 1, 2, 3, 4, 5] }, adm := { up.adm with  } }, 5, 31, by decide +kernel⟩,
   ⟨{ up with dev := { up.dev with hbmUp := [0, 1, 2, 3, 4, 5] }, adm := { up.adm with pcFailed := [100], pcOpen := [(100, 0)] } }, 3, 4, 0, by decide +kernel⟩,
   ⟨{ up with dev := { up.dev with hbmUp := [0, 1, 2, 3, 4, 5] }, adm := { up.adm with  } }, 5, by decide +kernel⟩⟩

theorem witness_TblCommandsComplete :
    (∃ (vi : Nat) (io : HostIo) (e : Entry) (s : State) (recs : _) (l : _), starts 0x0601 vi io e s = true ∧ s.hasPartition vi = true ∧ e.p 24 4 ≠ 0 ∧ splitRecs (e.p 24 4) e.buf = (recs, e.dataLen) ∧ stageAll vi (taken vi s) 0 (s.stagingOf vi) recs = (l, none))
    ∧ (∃ (vi : Nat) (io : HostIo) (e : Entry) (s : State), starts 0x0602 vi io e s = true ∧ s.hasPartition vi = true ∧ (s.stagingOf vi) ≠ [] ∧ s.tbl.epochs.length < 4 ∧ s.spanTooWide = false ∧ (s.newestTables.applyAll (s.stagingOf vi)).anyDangle = false)
    ∧ (∃ (vi : Nat) (io : HostIo) (e : Entry) (s : State), starts 0x0602 vi io e s = true ∧ s.hasPartition vi = true ∧ s.stagingOf vi ≠ [] ∧ 4 ≤ s.tbl.epochs.length ∧ bit (e.p 24 1) 0 = false ∧ 0 < s.tbl.cfg.commitWait)
    ∧ (∃ (vi : Nat) (io : HostIo) (e : Entry) (s : State), starts 0x0603 vi io e s = true ∧ s.hasPartition vi = true)
    ∧ (∃ (vi : Nat) (io : HostIo) (e : Entry) (s : State) (r : _) (t : _) (encs : _) (x : _), starts 0x0604 vi io e s = true ∧ le (fit 96 e.buf) 0 1 ≠ 0 ∧ le (fit 96 e.buf) 0 1 ≤ 8 ∧ r = parseTRec (patch (fit 96 e.buf) 1 [1]) ∧ recReserved (patch (fit 96 e.buf) 1 [2]) = false ∧ ((bit (e.p 26 1) 0 = false ∧ (∃ ep, s.epoch? (e.p 24 2) = some ep ∧ t = ep.tables) ∧ encs = s.tbl.encaps) ∨ (bit (e.p 26 1) 0 = true ∧ t = s.newestTables.applyAll (s.stagingOf vi) ∧ encs = commitEncaps s.mono (s.stagingOf vi) s.tbl.encaps)) ∧ (vi = 0 ∨ (s.inst vi).grant.mayRec vi false (match r with | .group g _ => .group g [] | r => r) = true) ∧ (tableEntries encs t (le (fit 96 e.buf) 0 1)).find? (fun y => y.same r) = x ∧ (∀ y, x = some y → y.bytes.length ≤ e.dataLen))
    ∧ (∃ (vi : Nat) (io : HostIo) (e : Entry) (s : State) (ep : _), starts 0x0605 vi io e s = true ∧ s.hasPartition vi = true ∧ e.p 26 1 = 1 ∧ s.epoch? (e.p 24 2) = some ep ∧ ep.pin = false ∧ (s.tbl.epochs.filter Epoch.pin).length < 3)
    ∧ (∃ (vi : Nat) (io : HostIo) (e : Entry) (s : State) (ep : _), starts 0x0605 vi io e s = true ∧ s.hasPartition vi = true ∧ e.p 26 1 = 1 ∧ s.epoch? (e.p 24 2) = some ep ∧ ep.pin = true)
    ∧ (∃ (vi : Nat) (io : HostIo) (e : Entry) (s : State) (ep : _), starts 0x0605 vi io e s = true ∧ s.hasPartition vi = true ∧ e.p 26 1 = 2 ∧ s.epoch? (e.p 24 2) = some ep)
    ∧ (∃ (vi : Nat) (io : HostIo) (e : Entry) (s : State) (ep : _), starts 0x0606 vi io e s = true ∧ s.epoch? (e.p 24 2) = some ep ∧ 664 ≤ e.dataLen)
    ∧ (∃ (vi : Nat) (io : HostIo) (e : Entry) (s : State), starts 0x0607 vi io e s = true)
    ∧ (∃ (vi : Nat) (io : HostIo) (e : Entry) (s : State), starts 0x0608 vi io e s = true ∧ ((if e.p 24 2 = 0 then 1 else e.p 24 2)) ≤ 100 ∧ ((if e.p 26 2 = 0 then 100 else e.p 26 2)) ≤ 10000 ∧ 50 ≤ ((if e.p 28 1 = 0 then 90 else e.p 28 1)) ∧ ((if e.p 28 1 = 0 then 90 else e.p 28 1)) ≤ 100 ∧ s.maxSojourn + 2000 ≤ ((if e.p 26 2 = 0 then 100 else e.p 26 2)) * 1000 ∧ s.onTrial = false)
    ∧ (∃ (vi : Nat) (io : HostIo) (e : Entry) (s : State) (ports : _), starts 0x0609 vi io e s = true ∧ (e.p 24 1 ≤ 127 ∧ ports = [e.p 24 1] ∨ e.p 24 1 = 0xFF ∧ ports = List.range 128) ∧ ((if e.p 27 1 = 0 then 1 else e.p 27 1)) ≤ 3 ∧ s.onTrial = false)
    ∧ (∃ (vi : Nat) (io : HostIo) (e : Entry) (s : State), starts 0x060A vi io e s = true ∧ (e.p 24 1 ≤ 127 ∨ e.p 24 1 = 0xFF)) :=
  ⟨⟨0, yes, ent 0x0601 [(24, 4, 1)] (portRec), queued (ent 0x0601 [(24, 4, 1)] (portRec)), [fit 96 portRec], (stageAll 0 (taken 0 (queued (ent 0x0601 [(24, 4, 1)] portRec))) 0 [] [fit 96 portRec]).1, by decide +kernel⟩,
   ⟨0, yes, ent 0x0602, queued (ent 0x0602) ({ ep2 with tbl := { ep2.tbl with staging := [(0, [{ body := .classmap 3 (zeros 64) (zeros 8) (zeros 8) }])] } }), by decide +kernel⟩,
   ⟨0, yes, ent 0x0602, queued (ent 0x0602) ({ up with tbl := { up.tbl with staging := [(0, [{ body := .classmap 3 (zeros 64) (zeros 8) (zeros 8) }])], epochs := [{ num := 2 }, { num := 3 }, { num := 4 }, { num := 5 }] } }), by decide +kernel⟩,
   ⟨0, yes, ent 0x0603, queued (ent 0x0603) (ep2), by decide +kernel⟩,
   ⟨0, yes, ent 0x0604 [(24, 2, 5)] (portRec) 96, queued (ent 0x0604 [(24, 2, 5)] (portRec) 96) (ep2), parseTRec (patch (fit 96 portRec) 1 [1]), {}, [], none, by (repeat' apply And.intro) <;> first | decide +kernel | exact Or.inl rfl | (intro y h; cases h) | exact Or.inl ⟨rfl, ⟨_, rfl, rfl⟩, rfl⟩⟩,
   ⟨0, yes, ent 0x0605 [(24, 2, 5), (26, 1, 1)], queued (ent 0x0605 [(24, 2, 5), (26, 1, 1)]) (ep2), { num := 5 }, by decide +kernel⟩,
   ⟨0, yes, ent 0x0605 [(24, 2, 5), (26, 1, 1)], queued (ent 0x0605 [(24, 2, 5), (26, 1, 1)]) ({ up with tbl := { up.tbl with epochs := [{ num := 4 }, { num := 5, pin := true }] } }), { num := 5, pin := true }, by decide +kernel⟩,
   ⟨0, yes, ent 0x0605 [(24, 2, 5), (26, 1, 2)], queued (ent 0x0605 [(24, 2, 5), (26, 1, 2)]) ({ up with tbl := { up.tbl with epochs := [{ num := 4 }, { num := 5, pin := true }] } }), { num := 5, pin := true }, by decide +kernel⟩,
   ⟨0, yes, ent 0x0606 [(24, 2, 5)] ([]) 664, queued (ent 0x0606 [(24, 2, 5)] ([]) 664) (ep2), { num := 5 }, by decide +kernel⟩,
   ⟨0, yes, ent 0x0607 [] ([]) 128, queued (ent 0x0607 [] ([]) 128), by decide +kernel⟩,
   ⟨0, yes, ent 0x0608 [(24, 2, 100), (26, 2, 10000), (28, 1, 50)], queued (ent 0x0608 [(24, 2, 100), (26, 2, 10000), (28, 1, 50)]), by decide +kernel⟩,
   ⟨0, yes, ent 0x0609 [(24, 1, 127), (25, 1, 1), (27, 1, 3)], queued (ent 0x0609 [(24, 1, 127), (25, 1, 1), (27, 1, 3)]), [127], by (repeat' apply And.intro) <;> first | decide +kernel | rfl | exact Or.inl ⟨by decide +kernel, rfl⟩⟩,
   ⟨0, yes, ent 0x060A [(24, 1, 255)], queued (ent 0x060A [(24, 1, 255)]), by decide +kernel⟩⟩

theorem witness_TblEventsComplete :
    (∃ (s : State) (p : _) (dl : _), p ∈ s.hif.parked ∧ p.wait = .epochSlot dl ∧ (∀ q, q ∈ s.hif.parked → q.vi = p.vi → q = p) ∧ dl ≤ s.mono ∧ 4 ≤ s.tbl.epochs.length ∧ s.accepting = true)
    ∧ (∃ (s : State) (n : _) (ep : _), s.epoch? n = some ep ∧ ep.st = .draining ∧ s.epochBusy n = false)
    ∧ (∃ (s : State) (h : _) (v : _) (x : _), mget s.tbl.encaps (encKey h v) = some x ∧ s.versionDone h v x = true) :=
  ⟨⟨{ up with hif := { up.hif with parked := [{ wait := .epochSlot 0 }] }, tbl := { up.tbl with epochs := [{ num := 2 }, { num := 3 }, { num := 4 }, { num := 5 }] } }, { wait := .epochSlot 0 }, 0, by (repeat' apply And.intro) <;> first | decide +kernel | (intro q hq _; rcases hq with _ | ⟨_, ⟨⟩⟩; rfl)⟩,
   ⟨ep2, 4, { num := 4, st := .draining }, by decide +kernel⟩,
   ⟨{ ep2 with mono := 10000000000, tbl := { ep2.tbl with encaps := [(encKey 7 2, { deletedAt := some 0 })] } }, 7, 2, { deletedAt := some 0 }, by decide +kernel⟩⟩

theorem witness_AsaCommandsComplete :
    (∃ (io : HostIo) (e : Entry) (s : State) (x : Region), starts 0x0701 0 io e s = true ∧ e.p 24 1 ≤ 63 ∧ e.p 25 1 = 1 ∧ e.dataLen = 2 * e.p 30 2 ∧ mhas s.asa.regions (e.p 24 1) = false ∧ (x.width = 1 ∨ x.width = 2 ∨ x.width = 4) ∧ e.p 26 1 = x.width ∧ e.p 27 1 = b2n x.egress ∧ x.prio = bit (e.p 28 1) 0 ∧ x.hole = (if e.p 29 1 = 0 then 16 else e.p 29 1) ∧ x.hole ∈ [8, 16, 32, 64, 0xFF] ∧ x.blocks = parseBlocks (e.p 30 2) e.buf ∧ x.entries = [] ∧ blockRefusal x.blocks s = none)
    ∧ (∃ (io : HostIo) (e : Entry) (s : State) (x : _), starts 0x0701 0 io e s = true ∧ e.p 24 1 ≤ 63 ∧ e.p 25 1 = 2 ∧ s.region? (e.p 24 1) = some x ∧ x.entries = [] ∧ s.asa.profiles.any (fun p => p.2.1 == e.p 24 1) = false)
    ∧ (∃ (vi : Nat) (io : HostIo) (e : Entry) (s : State) (x : _), starts 0x0701 vi io e s = true ∧ s.mayRegion vi (e.p 24 1) = true ∧ e.p 24 1 ≤ 63 ∧ e.p 25 1 = 3 ∧ e.dataLen = 2 * e.p 30 2 ∧ s.region? (e.p 24 1) = some x ∧ blockRefusal (parseBlocks (e.p 30 2) e.buf) s = none)
    ∧ (∃ (vi : Nat) (io : HostIo) (e : Entry) (s : State) (x : _) (m : _) (moves : _), starts 0x0701 vi io e s = true ∧ s.mayRegion vi (e.p 24 1) = true ∧ e.p 24 1 ≤ 63 ∧ e.p 25 1 = 4 ∧ s.region? (e.p 24 1) = some x ∧ e.p 30 2 ≤ x.blocks.length ∧ packInto ({ x with blocks := x.blocks.take (x.blocks.length - e.p 30 2) }).capacity x.entries = some (m, moves))
    ∧ (∃ (vi : Nat) (io : HostIo) (e : Entry) (s : State) (q : _), starts 0x0702 vi io e s = true ∧ mget s.asa.profiles (e.p 24 1) = some q ∧ (vi = 0 ∨ e.p 24 1 ∈ (s.inst vi).grant.profiles ∧ s.mayRegion vi q.1 = true) ∧ e.p 24 1 ≤ 63 ∧ e.p 25 1 = 2 ∧ s.profileNamed (e.p 24 1) = false)
    ∧ (∃ (vi : Nat) (io : HostIo) (e : Entry) (s : State) (x : _), starts 0x0702 vi io e s = true ∧ (vi = 0 ∨ e.p 24 1 ∈ (s.inst vi).grant.profiles ∧ s.mayRegion vi (e.p 26 1) = true) ∧ e.p 24 1 ≤ 63 ∧ e.p 25 1 = 1 ∧ e.p 26 1 ≤ 63 ∧ formatWidth (e.p 27 1) ≠ 0 ∧ s.region? (e.p 26 1) = some x ∧ x.width = formatWidth (e.p 27 1) ∧ x.egress = formatEgress (e.p 27 1) ∧ s.allPrograms.all (s.programFits (mset s.asa.profiles (e.p 24 1) (e.p 26 1, e.p 27 1))) = true)
    ∧ (∃ (vi : Nat) (io : HostIo) (e : Entry) (s : State) (recs : _) (a : _), starts 0x0703 vi io e s = true ∧ e.p 24 4 ≠ 0 ∧ splitAsa (e.p 24 4) e.buf = (recs, e.dataLen) ∧ recs.any (fun b => !s.mayRegion vi (le b 1 1)) = false ∧ writeRecs 0 { regions := s.asa.regions } recs = (a, none))
    ∧ (∃ (vi : Nat) (io : HostIo) (e : Entry) (s : State) (x : _), starts 0x0704 vi io e s = true ∧ s.mayRegion vi (e.p 24 1) = true ∧ s.region? (e.p 24 1) = some x ∧ e.p 25 1 ≤ 1 ∧ (∀ p, (if e.p 25 1 = 0 then x.raddrOf (e.p 28 4) else some (e.p 28 4)) = some p → mget x.entries p = none))
    ∧ (∃ (vi : Nat) (io : HostIo) (e : Entry) (s : State) (x : _) (p : _) (y : _), starts 0x0704 vi io e s = true ∧ s.mayRegion vi (e.p 24 1) = true ∧ s.region? (e.p 24 1) = some x ∧ ((e.p 25 1 = 0 ∧ x.raddrOf (e.p 28 4) = some p) ∨ (e.p 25 1 = 1 ∧ e.p 28 4 = p)) ∧ mget x.entries p = some y)
    ∧ (∃ (vi : Nat) (io : HostIo) (e : Entry) (s : State), starts 0x0705 vi io e s = true)
    ∧ (∃ (vi : Nat) (io : HostIo) (e : Entry) (s : State), starts 0x0706 vi io e s = true ∧ e.p 24 1 ≤ 20 ∧ 25 ≤ ((if e.p 25 1 = 0 then 25 else e.p 25 1)) ∧ ((if e.p 25 1 = 0 then 25 else e.p 25 1)) ≤ 75 ∧ 10 ≤ ((if e.p 26 2 = 0 then 100 else e.p 26 2)) ∧ ((if e.p 26 2 = 0 then 100 else e.p 26 2)) ≤ 1000) :=
  ⟨⟨yes, ent 0x0701 [(24, 1, 63), (25, 1, 1), (26, 1, 4), (29, 1, 255), (30, 2, 1)] ([1, 4]), queued (ent 0x0701 [(24, 1, 63), (25, 1, 1), (26, 1, 4), (29, 1, 255), (30, 2, 1)] ([1, 4])) (asa2), ({ width := 4, hole := 255, blocks := [(1, 4)] } : Region), by decide +kernel⟩,
   ⟨yes, ent 0x0701 [(24, 1, 63), (25, 1, 2)], queued (ent 0x0701 [(24, 1, 63), (25, 1, 2)]) ({ asa2 with asa := { asa2.asa with regions := [(63, { blocks := [(1, 4)] })] } }), ({ blocks := [(1, 4)] } : Region), by decide +kernel⟩,
   ⟨0, yes, ent 0x0701 [(24, 1, 2), (25, 1, 3), (30, 2, 1)] ([1, 4]), queued (ent 0x0701 [(24, 1, 2), (25, 1, 3), (30, 2, 1)] ([1, 4])) (asa2), reg2, by decide +kernel⟩,
   ⟨0, yes, ent 0x0701 [(24, 1, 2), (25, 1, 4), (30, 2, 0)], queued (ent 0x0701 [(24, 1, 2), (25, 1, 4), (30, 2, 0)]) (asa2), reg2, ((packInto reg2.capacity reg2.entries).getD ([], 0)).1, ((packInto reg2.capacity reg2.entries).getD ([], 0)).2, by decide +kernel⟩,
   ⟨0, yes, ent 0x0702 [(24, 1, 63), (25, 1, 2)], queued (ent 0x0702 [(24, 1, 63), (25, 1, 2)]) ({ asa2 with asa := { asa2.asa with profiles := [(63, (2, 1))] } }), (2, 1), by decide +kernel⟩,
   ⟨0, yes, ent 0x0702 [(24, 1, 63), (25, 1, 1), (26, 1, 2), (27, 1, 1)], queued (ent 0x0702 [(24, 1, 63), (25, 1, 1), (26, 1, 2), (27, 1, 1)]) (asa2), reg2, by decide +kernel⟩,
   ⟨0, yes, ent 0x0703 [(24, 4, 1)] ([1, 2, 64, 0, 11, 0, 0, 0, 255, 255, 255, 255] ++ zeros 52), queued (ent 0x0703 [(24, 4, 1)] ([1, 2, 64, 0, 11, 0, 0, 0, 255, 255, 255, 255] ++ zeros 52)) (asa2), [fit 184 ([1, 2, 64, 0, 11, 0, 0, 0, 255, 255, 255, 255] ++ zeros 52)], (writeRecs 0 { regions := asa2.asa.regions } [fit 184 ([1, 2, 64, 0, 11, 0, 0, 0, 255, 255, 255, 255] ++ zeros 52)]).1, by decide +kernel⟩,
   ⟨0, yes, ent 0x0704 [(24, 1, 2), (25, 1, 1), (28, 4, 10)] ([]) 256, queued (ent 0x0704 [(24, 1, 2), (25, 1, 1), (28, 4, 10)] ([]) 256) (asa2), reg2, by (repeat' apply And.intro) <;> first | decide +kernel | (intro p h; obtain rfl : p = 10 := by (revert h; decide +kernel) <;> decide +kernel)⟩,
   ⟨0, yes, ent 0x0704 [(24, 1, 2), (28, 4, 10)] ([]) 256, queued (ent 0x0704 [(24, 1, 2), (28, 4, 10)] ([]) 256) (asa2), reg2, 0, { id := 10 }, by decide +kernel⟩,
   ⟨0, yes, ent 0x0705 [] ([]) 528, queued (ent 0x0705 [] ([]) 528), by decide +kernel⟩,
   ⟨0, yes, ent 0x0706 [(24, 1, 20), (25, 1, 75), (26, 2, 1000)], queued (ent 0x0706 [(24, 1, 20), (25, 1, 75), (26, 2, 1000)]), by decide +kernel⟩⟩

theorem witness_AsaEventsComplete :
    (∃ (s : State) (r : _) (a : _) (x : _), s.region? r = some x ∧ mhas x.entries a = true ∧ s.accepting = true)
    ∧ (∃ (s : State), s.accepting = true ∧ s.asa.scrubAt + Config.ms s.asa.scrubPeriod ≤ s.mono)
    ∧ (∃ (s : State), s.accepting = true ∧ s.asa.scrubAt + Config.ms s.asa.scrubPeriod ≤ s.mono)
    ∧ (∃ (s : State) (b : _), s.accepting = true ∧ s.asa.scrubAt + Config.ms s.asa.scrubPeriod ≤ s.mono ∧ (s.bank b).st = .on)
    ∧ (∃ (s : State) (r : _) (x : _) (y : _), s.region? r = some x ∧ x.restoreHole = some y ∧ s.accepting = true)
    ∧ (∃ b, b < 8)
    ∧ (∃ (s : State) (b : _), (s.bank b).st = .reloading ∧ s.recoveryTurn 11 b = true)
    ∧ (∃ (s : State) (b : _), b < 8 ∧ (s.bank b).st = .on)
    ∧ (∃ (s : State) (b : _), (s.bank b).st = .reloading ∧ s.recoveryTurn 11 b = true ∧ b ≠ 0 ∧ (s.bank b).lastReload = none)
    ∧ (∃ (s : State) (b : _), (s.bank b).st = .reloading ∧ s.recoveryTurn 11 b = true ∧ b ≠ 0)
    ∧ (∃ (s : State) (b : _), (s.bank b).st = .failed ∧ s.recoveryTurn 11 b = true ∧ mgetD s.pwr.domains (15 + b) .off ≠ .off)
    ∧ (∃ (s : State) (temp : Nat), s.asa.level < s.levelFor temp)
    ∧ (∃ (s : State) (temp : Nat), 0 < s.asa.level ∧ temp ≤ s.levelEntry s.asa.level - 30 ∧ s.asa.levelAt + Config.ms 10 ≤ s.mono) :=
  ⟨⟨asa2, 2, 0, reg2, by decide +kernel⟩,
   ⟨{ asa2 with mono := 10000000000 }, by decide +kernel⟩,
   ⟨{ asa2 with mono := 10000000000 }, by decide +kernel⟩,
   ⟨{ asa2 with mono := 10000000000 }, 1, by decide +kernel⟩,
   ⟨asa3, 2, hol, (hol.restoreHole).getD {}, by decide +kernel⟩,
   ⟨7, by decide +kernel⟩,
   ⟨{ up with asa := { up.asa with banks := [(7, { st := .reloading })] } }, 7, by decide +kernel⟩,
   ⟨asa2, 1, by decide +kernel⟩,
   ⟨{ up with asa := { up.asa with banks := [(7, { st := .reloading })] } }, 7, by decide +kernel⟩,
   ⟨{ up with asa := { up.asa with banks := [(7, { st := .reloading })] } }, 7, by decide +kernel⟩,
   ⟨{ up with asa := { up.asa with banks := [(1, { st := .failed })] } }, 1, by decide +kernel⟩,
   ⟨up, 2000, by unfold State.levelFor State.levelEntry State.asaTmax; generalize Config.gradeAE = g; cases g <;> decide +kernel⟩,
   ⟨{ up with mono := 10000000000, asa := { up.asa with level := 1 } }, 0, by unfold State.levelEntry State.asaTmax; generalize Config.gradeAE = g; cases g <;> decide +kernel⟩⟩

theorem witness_FabCommandsComplete :
    (∃ (vi : Nat) (io : HostIo) (e : Entry) (s : State) (c : PlaneCfg), starts 0x0901 vi io e s = true ∧ e.p 24 1 ≤ 15 ∧ e.p 25 1 = 1 ∧ c.lanes = laneList (bytesAt e.raw 28 10) ∧ c.enabled = true ∧ e.p 26 1 = c.minLanes ∧ 1 ≤ c.minLanes ∧ c.minLanes ≤ 10 ∧ c.encrypt = bit (e.p 27 1) 0 ∧ c.backToBack = bit (e.p 27 1) 1 ∧ c.lanes.any (fun l => decide (159 < l)) = false ∧ c.lanes.eraseDups.length = c.lanes.length ∧ s.laneTaken (e.p 24 1) (if c.lanes = [] then upFrom (10 * e.p 24 1) 10 else c.lanes) = false ∧ (s.plane (e.p 24 1)).st = .absent ∧ s.onTrial = false)
    ∧ (∃ (vi : Nat) (io : HostIo) (e : Entry) (s : State) (c : _), starts 0x0901 vi io e s = true ∧ (e.p 24 1) ≤ 15 ∧ e.p 25 1 = 1 ∧ c = ({ enabled := true, minLanes := orDefault (e.p 26 1) 8, encrypt := bit (e.p 27 1) 0, backToBack := bit (e.p 27 1) 1, lanes := laneList (bytesAt e.raw 28 10) } : PlaneCfg) ∧ c.minLanes ≤ 10 ∧ c.lanes.any (fun l => decide (159 < l)) = false ∧ c.lanes.eraseDups.length = c.lanes.length ∧ s.laneTaken (e.p 24 1) ((if c.lanes = [] then upFrom (10 * (e.p 24 1)) 10 else c.lanes)) = false ∧ ((s.plane (e.p 24 1)).st = .absent ∨ s.planeLanes (e.p 24 1) = ((if c.lanes = [] then upFrom (10 * (e.p 24 1)) 10 else c.lanes))) ∧ s.onTrial = false)
    ∧ (∃ (vi : Nat) (io : HostIo) (e : Entry) (s : State), starts 0x0901 vi io e s = true ∧ e.p 24 1 ≤ 15 ∧ e.p 25 1 = 2 ∧ s.onTrial = false)
    ∧ (∃ (vi : Nat) (io : HostIo) (e : Entry) (s : State) (m : _), starts 0x0902 vi io e s = true ∧ e.p 24 4 ≠ 0 ∧ e.p 24 4 ≤ 32768 ∧ e.dataLen = 8 * e.p 24 4 ∧ spmapAll (taken vi s) 0 s.fab.cfg.spmap (chunks 8 (e.p 24 4) e.buf) = (m, none) ∧ s.onTrial = false)
    ∧ (∃ (vi : Nat) (io : HostIo) (e : Entry) (s : State), starts 0x0903 vi io e s = true ∧ 4 ≤ (orDefault (e.p 24 1) 8) ∧ (orDefault (e.p 24 1) 8) ≤ 62 ∧ 2 ≤ (orDefault (e.p 25 1) 4) ∧ (orDefault (e.p 25 1) 4) ≤ 8 ∧ (orDefault (e.p 26 1) 4) ≤ 20 ∧ (orDefault (e.p 28 2) 200) ≤ 10000 ∧ 1000 ≤ (orDefault (e.p 30 2) 3000) ∧ (orDefault (e.p 30 2) 3000) ≤ 20000 ∧ 500 ≤ (orDefault (e.p 32 2) 2000) ∧ (orDefault (e.p 32 2) 2000) ≤ 20000 ∧ 2 * (orDefault (e.p 25 1) 4) * (orDefault (e.p 24 1) 8) + 20 ≤ (orDefault (e.p 28 2) 200) ∧ s.onTrial = false)
    ∧ (∃ (vi : Nat) (io : HostIo) (e : Entry) (s : State) (ports : _), starts 0x0904 vi io e s = true ∧ (e.p 24 1 ≤ 127 ∧ ports = [e.p 24 1] ∨ e.p 24 1 = 0xFF ∧ ports = List.range 128) ∧ s.onTrial = false)
    ∧ (∃ (vi : Nat) (io : HostIo) (e : Entry) (s : State), starts 0x0905 vi io e s = true) :=
  ⟨⟨0, yes, ent 0x0901 [(24, 1, 15), (25, 1, 1), (26, 1, 10), (27, 1, 2), (28, 8, 0xFFFFFFFFFFFFFFFF), (36, 2, 0xFFFF)], queued (ent 0x0901 [(24, 1, 15), (25, 1, 1), (26, 1, 10), (27, 1, 2), (28, 8, 0xFFFFFFFFFFFFFFFF), (36, 2, 0xFFFF)]), ({ enabled := true, minLanes := 10, backToBack := true } : PlaneCfg), by decide +kernel⟩,
   ⟨0, yes, ent 0x0901 [(24, 1, 15), (25, 1, 1), (26, 1, 10), (27, 1, 2), (28, 8, 0xFFFFFFFFFFFFFFFF), (36, 2, 0xFFFF)], queued (ent 0x0901 [(24, 1, 15), (25, 1, 1), (26, 1, 10), (27, 1, 2), (28, 8, 0xFFFFFFFFFFFFFFFF), (36, 2, 0xFFFF)]), ({ enabled := true, minLanes := 10, backToBack := true } : PlaneCfg), by decide +kernel⟩,
   ⟨0, yes, ent 0x0901 [(24, 1, 15), (25, 1, 2)], queued (ent 0x0901 [(24, 1, 15), (25, 1, 2)]), by decide +kernel⟩,
   ⟨0, yes, ent 0x0902 [(24, 4, 1)] ([5, 0, 3, 0, 7, 1, 0, 0]), queued (ent 0x0902 [(24, 4, 1)] ([5, 0, 3, 0, 7, 1, 0, 0])), [(5, { sun := 3, localPort := 7 })], by decide +kernel⟩,
   ⟨0, yes, ent 0x0903 [(24, 1, 62), (25, 1, 8), (26, 1, 20), (28, 2, 10000), (30, 2, 20000), (32, 2, 20000)], queued (ent 0x0903 [(24, 1, 62), (25, 1, 8), (26, 1, 20), (28, 2, 10000), (30, 2, 20000), (32, 2, 20000)]), by decide +kernel⟩,
   ⟨0, yes, ent 0x0904 [(24, 1, 127), (25, 1, 1)], queued (ent 0x0904 [(24, 1, 127), (25, 1, 1)]), [127], by (repeat' apply And.intro) <;> first | decide +kernel | rfl | exact Or.inl ⟨by decide +kernel, rfl⟩⟩,
   ⟨0, yes, ent 0x0905 [] ([]) 1088, queued (ent 0x0905 [] ([]) 1088), by decide +kernel⟩⟩

theorem witness_PlaneEventsComplete :
    (∃ (s : State) (lane : _) (p : _) (far : FarEnd), s.planeOf lane = some p ∧ s.laneTrains p far.encrypts = true ∧ (s.lane lane).trained = false)
    ∧ (∃ (s : State) (lane : _) (p : _) (q : _) (far : FarEnd), s.planeOf lane = some p ∧ s.laneTrains p far.encrypts = true ∧ (s.lane lane).trained = false ∧ q ≠ p)
    ∧ (∃ (s : State) (lane : _), (s.lane lane).inUse = true)
    ∧ (∃ (s : State) (lane : _) (p : _), s.planeOf lane = some p ∧ (s.lane lane).inUse = true ∧ (s.lane lane).txCells = [] ∧ (((takeCells lane s).2.modLane lane (fun l => { l with trained := false, down := true })).planeCfg p).minLanes ≤ (((takeCells lane s).2.modLane lane (fun l => { l with trained := false, down := true })).lanesUp p).length)
    ∧ (∃ (s : State) (lane : _) (p : _), s.planeOf lane = some p ∧ (s.lane lane).down = true ∧ s.laneTrains p (s.lane lane).encrypts = true)
    ∧ (∃ (s : State) (p : _) (at_ : _), (s.plane p).timer = some at_ ∧ (s.plane p).st = .forming ∧ at_ ≤ s.mono ∧ (s.planeCfg p).minLanes ≤ (s.lanesUp p).length)
    ∧ (∃ (s : State) (p : _) (at_ : _), (s.plane p).timer = some at_ ∧ (s.plane p).st = .forming ∧ at_ ≤ s.mono ∧ (s.lanesUp p).length < (s.planeCfg p).minLanes)
    ∧ (∃ (s : State) (p : _) (at_ : _), (s.plane p).timer = some at_ ∧ (s.plane p).st = .identified ∧ at_ ≤ s.mono)
    ∧ (∃ (s : State) (p : _) (at_ : _), (s.plane p).timer = some at_ ∧ (s.plane p).st = .holdoff ∧ at_ ≤ s.mono)
    ∧ (∃ (s : State) (p : _) (suns : List Nat), (s.planeUp p = true ∨ ((s.plane p).st = .identified ∧ s.dev.cfg.sun ≠ 0xFFFF)) ∧ (∀ x, x ∈ suns → x < 2048))
    ∧ (∃ (s : State) (p : _) (suns : List Nat), (s.plane p).st = .identified ∧ s.dev.cfg.sun ≠ 0xFFFF ∧ (∀ x, x ∈ suns → x < 2048))
    ∧ (∃ (s : State) (p : _) (sun : _) (at_ : _), s.planeUp p = true ∧ sun < 2048 ∧ mget s.fab.listings (sunKey p sun) = some at_ ∧ at_ + Config.us 150 ≤ s.mono)
    ∧ (∃ (s : State) (p : _) (sun : _) (at_ : _), s.planeUp p = true ∧ sun < 2048 ∧ mget s.fab.listings (sunKey p sun) = some at_ ∧ at_ + Config.us 150 ≤ s.mono ∧ (s.modFab (fun f => { f with listings := mdel f.listings (sunKey p sun) })).listedMask sun ≠ [] ∧ (s.modFab (fun f => { f with listings := mdel f.listings (sunKey p sun) })).listingsOf p ≠ [])
    ∧ (∃ (s : State), ((List.range 16).filter (fun p => (s.planeCfg p).enabled && (s.planeCfg p).backToBack && ((s.plane p).st == .identified || (s.plane p).st == .up))) ≠ [] ∧ s.dev.cfg.sun ≠ 0xFFFF ∧ s.fab.reachAt + Config.us 50 ≤ s.mono)
    ∧ (∃ (s : State) (p : _), s.planeUp p = true)
    ∧ (∃ (s : State) (p : _) (q : _), s.planeUp p = true ∧ q < 16 ∧ q ≠ p ∧ s.planeUp q = true ∧ s.listingsOf p = []) :=
  ⟨⟨fab0, 9, 0, {}, by decide +kernel⟩,
   ⟨fab0, 9, 0, 1, {}, by decide +kernel⟩,
   ⟨fab0, 0, by decide +kernel⟩,
   ⟨fab0, 0, 0, by decide +kernel⟩,
   ⟨{ fab0 with fab := { fab0.fab with lanes := [(2, { trained := true, down := true })] } }, 2, 0, by decide +kernel⟩,
   ⟨{ fab0 with fab := { fab0.fab with planes := [(0, { st := .forming, timer := some 0 })] } }, 0, 0, by decide +kernel⟩,
   ⟨{ fab0 with fab := { fab0.fab with planes := [(0, { st := .forming, timer := some 0 })], lanes := [] } }, 0, 0, by decide +kernel⟩,
   ⟨{ fab0 with fab := { fab0.fab with planes := [(0, { st := .identified, timer := some 0 })] } }, 0, 0, by decide +kernel⟩,
   ⟨{ fab0 with fab := { fab0.fab with planes := [(0, { st := .holdoff, timer := some 0 })] } }, 0, 0, by decide +kernel⟩,
   ⟨fab0, 0, ([2047] : List Nat), by decide +kernel⟩,
   ⟨{ fab0 with fab := { fab0.fab with planes := [(0, { st := .identified })] } }, 0, ([2047] : List Nat), by decide +kernel⟩,
   ⟨{ fab0 with mono := 10000000000, fab := { fab0.fab with listings := [(2047, 0)] } }, 0, 2047, 0, by decide +kernel⟩,
   ⟨{ fab0 with mono := 10000000000, fab := { fab0.fab with planes := [(0, { st := .up }), (1, { st := .up })], listings := [(2, 0), (3, 0), (2050, 0)] } }, 0, 2, 0, by decide +kernel⟩,
   ⟨{ fab0 with mono := 10000000000 }, by decide +kernel⟩,
   ⟨fab0, 0, by decide +kernel⟩,
   ⟨{ fab0 with fab := { fab0.fab with planes := [(0, { st := .up }), (1, { st := .up })], listings := [(2050, 0)] } }, 0, 1, by decide +kernel⟩⟩

theorem witness_FabricSendComplete :
    (∃ (s : State) (lane : _) (p : _), s.planeOf lane = some p ∧ (s.lane lane).inUse = true)
    ∧ (∃ (s : State) (v : _) (plane : _), plane < 16 ∧ (v, plane) ∈ s.matching.pairs ∧ plane ∉ s.busyPlanes)
    ∧ (∃ (s : State) (cell : _) (plane : _) (c : _), s.retCell? cell = some c ∧ plane < 16)
    ∧ (∃ tc, tc < 8)
    ∧ (∃ src tc, tc < 8 ∧ src < 2048)
    ∧ (∃ (s : State) (sp : _) (tc : _) (src : _) (g : _), s.nextClass (s.localPort sp) = some tc ∧ s.nextSource (s.localPort sp) tc = some (creditKey sp tc src, g) ∧ s.grantFits (s.localPort sp) tc = true ∧ s.egressUsed + g ≤ s.adm.egress * 4096 ∧ mgetD s.fab.creditOut (creditKey sp tc src) 0 + g ≤ 2048)
    ∧ (∃ (s : State) (cell : _) (dest : _) (c : _) (n : _) (used : _) (at_ : _), s.retCell? cell = some c ∧ c.copies.find? (fun x => x.1 == dest) = some (dest, n, used, at_, false) ∧ 0 < n ∧ at_ + Config.us s.fab.cfg.ackTimeout ≤ s.mono)
    ∧ (∃ (s : State) (lane : _) (p : _) (slot : _), s.planeOf lane = some p ∧ (s.lane lane).inUse = true ∧ s.slotOk p slot = true ∧ (s.lane lane).framesRx + 1 ≠ 2 ^ 62)
    ∧ (∃ (s : State) (v : _) (plane : _) (k : _) (q : _) (unit : _), plane < 16 ∧ (v, plane) ∈ s.matching.pairs ∧ plane ∉ s.busyPlanes ∧ (s.voq v).q = k :: q ∧ k.older s.mono (s.classCfg k.res.tc).1 = false ∧ s.grantUnit v plane = some unit ∧ k.ready = true ∧ s.retRoom = true ∧ s.planeUp plane = true ∧ k.alone = false)
    ∧ (∃ (s : State) (cell : _) (plane : _) (dest : _) (c : _) (n : _) (used : _) (at_ : _), s.retCell? cell = some c ∧ plane < 16 ∧ c.copies.find? (fun x => x.1 == dest) = some (dest, n, used, at_, true) ∧ n ≠ 0 ∧ s.copyPlane c.key used dest plane = true ∧ plane ∉ s.busyPlanes)
    ∧ (∃ (s : State) (v : _), ((s.spTargets (v / 8)).filter s.present).any (fun u => decide (0 < (s.voq v).backlog u)) = true ∧ (s.voq v).requesting = false)
    ∧ (∃ (s : State) (src : _) (sp : _) (tc : _), tc < 8 ∧ src ∈ s.spTargets sp)
    ∧ (∃ (s : State) (src : _) (sp : _) (tc : _) (backlog : _), tc < 8 ∧ src < 2048 ∧ s.servesSp sp = true ∧ 0 < backlog)
    ∧ (∃ (s : State) (sp : _) (tc : _) (src : _) (g : _) (b : _) (fl : _), tc < 8 ∧ src < 2048 ∧ s.nextClass (s.localPort sp) = some tc ∧ s.nextSource (s.localPort sp) tc = some (creditKey sp tc src, g) ∧ s.grantFits (s.localPort sp) tc = true ∧ s.egressUsed + g ≤ s.adm.egress * 4096 ∧ mgetD s.fab.creditOut (creditKey sp tc src) 0 + g ≤ 2048 ∧ s.grantEntry (creditKey sp tc src) = true ∧ mget s.fab.requests (creditKey sp tc src) = some (b, fl) ∧ (fl = 1 ∨ mhas s.rack.streams (streamKey src sp tc) = true))
    ∧ (∃ (s : State) (src : _) (stream : _) (sp : _) (tc : _) (cum : _) (bm : _) (c : _), s.fab.retention.filter (fun c => c.copies.any (fun x => x.1 == src) && ackCovers cum bm c.cell.seq && (c.cell.kind == .data && streamKey c.cell.stream c.cell.sp c.cell.tc == streamKey stream sp tc)) = [c] ∧ c.copies.filter (fun x => decide (x.1 ≠ src)) = [] ∧ c.withdrawn = none)
    ∧ (∃ (s : State) (cell : _) (dest : _) (c : _) (n : _) (used : _) (at_ : _) (p : _), s.retCell? cell = some c ∧ c.copies.find? (fun x => x.1 == dest) = some (dest, n, used, at_, false) ∧ 0 < n ∧ at_ + Config.us s.fab.cfg.ackTimeout ≤ s.mono ∧ n < s.fab.cfg.retxMax ∧ used.getLast? = some p ∧ ((mgetD s.fab.recentTo (sunKey p dest) []).filter (fun t => decide (s.mono ≤ t + Config.us 100)) ++ [s.mono]).length < 3)
    ∧ (∃ (s : State) (p : _) (sun : _) (at_ : _), mget s.fab.suspect (sunKey p sun) = some at_ ∧ at_ ≤ s.mono) :=
  ⟨⟨fab0, 0, 0, by decide +kernel⟩,
   ⟨{ fab0 with fab := { fab0.fab with matcher := { at_ := some 0, pairs := [(40, 15)] } } }, 40, 15, by decide +kernel⟩,
   ⟨{ fab0 with fab := { fab0.fab with retention := [{ key := 9, cell := dcell, copies := [(2, 1, [], 0, true)] }] } }, 9, 15, { key := 9, cell := dcell, copies := [(2, 1, [], 0, true)] }, by decide +kernel⟩,
   ⟨7, by decide +kernel⟩,
   ⟨2047, 7, by decide +kernel⟩,
   ⟨{ fab0 with fab := { fab0.fab with requests := [(creditKey 6 0 2, (4, 1))] } }, 6, 0, 2, 4, by decide +kernel⟩,
   ⟨{ fab0 with mono := 10000000000, fab := { fab0.fab with retention := [{ key := 9, cell := dcell, copies := [(2, 1, [0], 0, false)] }] } }, 9, 2, { key := 9, cell := dcell, copies := [(2, 1, [0], 0, false)] }, 1, [0], 0, by decide +kernel⟩,
   ⟨fab0, 0, 0, 1, by decide +kernel⟩,
   ⟨{ fab0 with adm := { fab0.adm with voqs := [(40, { credit := [(2, 3)], q := [{ ended := true, pkt := { id := 4, bytes := zeros 100 } }] })] }, fab := { fab0.fab with matcher := { at_ := some 0, pairs := [(40, 0)] } } }, 40, 0, { ended := true, pkt := { id := 4, bytes := zeros 100 } }, [], 2, by decide +kernel⟩,
   ⟨{ fab0 with fab := { fab0.fab with retention := [{ key := 9, cell := dcell, copies := [(2, 1, [], 0, true)] }] } }, 9, 0, 2, { key := 9, cell := dcell, copies := [(2, 1, [], 0, true)] }, 1, [], 0, by decide +kernel⟩,
   ⟨{ fab0 with adm := { fab0.adm with voqs := [(40, { q := [{ ended := true, pkt := { id := 4, bytes := zeros 100 } }] })] } }, 40, by decide +kernel⟩,
   ⟨fab0, 2, 5, 7, by decide +kernel⟩,
   ⟨fab0, 2047, 6, 7, 1, by decide +kernel⟩,
   ⟨{ fab0 with fab := { fab0.fab with requests := [(creditKey 6 0 2, (4, 1))] } }, 6, 0, 2, 4, 4, 1, by decide +kernel⟩,
   ⟨{ fab0 with fab := { fab0.fab with retention := [{ key := 9, cell := { dcell with stream := 1, sp := 5 }, copies := [(2, 1, [0], 0, false)] }] } }, 2, 1, 5, 0, 1, 0, { key := 9, cell := { dcell with stream := 1, sp := 5 }, copies := [(2, 1, [0], 0, false)] }, by decide +kernel⟩,
   ⟨{ fab0 with mono := 10000000000, fab := { fab0.fab with retention := [{ key := 9, cell := dcell, copies := [(2, 1, [0], 0, false)] }] } }, 9, 2, { key := 9, cell := dcell, copies := [(2, 1, [0], 0, false)] }, 1, [0], 0, 0, by decide +kernel⟩,
   ⟨{ fab0 with fab := { fab0.fab with suspect := [(2, 0)] } }, 0, 2, 0, by decide +kernel⟩⟩

theorem witness_RackingComplete :
    (∃ (s : State) (p : _) (c : Cell), s.planeUp p = true ∧ c.kind = .data)
    ∧ (∃ tc, tc < 8)
    ∧ (∃ (s : State) (p : _) (c : Cell), s.planeUp p = true ∧ c.kind = .data ∧ c.pcrc = pcrcOf c.payload ∧ c.dest = s.dev.cfg.sun)
    ∧ (∃ (s : State) (p : _) (c : Cell), s.planeUp p = true ∧ c.kind = .data ∧ c.pcrc ≠ pcrcOf c.payload)
    ∧ (∃ (s : State) (src : _) (sp : _) (tc : _) (n : _) (x : _) (at_ : _), tc < 8 ∧ mhas s.rack.streams (streamKey src sp tc) = true ∧ (s.stream (streamKey src sp tc)).paired = false ∧ (s.stream (streamKey src sp tc)).blocked = true ∧ (s.stream (streamKey src sp tc)).expected = some at_ ∧ mget (s.stream (streamKey src sp tc)).nums at_ = none ∧ n < 2 ^ 24 ∧ dist 24 at_ n ≤ 4096 ∧ mget (s.stream (streamKey src sp tc)).nums n = some x ∧ x.st = .held)
    ∧ (∃ (s : State) (src : _) (sp : _) (tc : _) (n : _) (x : _) (at_ : _), tc < 8 ∧ mhas s.rack.streams (streamKey src sp tc) = true ∧ (s.stream (streamKey src sp tc)).paired = false ∧ (s.stream (streamKey src sp tc)).blocked = true ∧ (s.stream (streamKey src sp tc)).expected = some at_ ∧ mget (s.stream (streamKey src sp tc)).nums at_ = none ∧ n < 2 ^ 24 ∧ dist 24 at_ n ≤ 4096 ∧ mget (s.stream (streamKey src sp tc)).nums n = some x ∧ x.st = .held ∧ x.cell.isSome = true)
    ∧ (∃ (s : State) (stream : _) (sp : _) (tc : _) (x : _) (at_ : _), mget s.rack.streams (streamKey stream sp tc) = some x ∧ x.expected = some at_ ∧ (∀ y, mget x.nums at_ = some y → y.st = .open_ ∨ y.st = .confirmed ∨ y.st = .held) ∧ (if x.paired then x.srcs else [stream]).any s.present = true ∧ x.blocked = true ∧ x.expectedSince + Config.us s.fab.cfg.holeTimeout ≤ s.mono)
    ∧ (∃ (s : State) (stream : _) (sp : _) (tc : _) (n : _) (x : _), mget (s.stream (streamKey stream sp tc)).nums n = some x ∧ (s.stream (streamKey stream sp tc)).paired = true ∧ x.st = .held ∧ x.at_ + Config.us s.fab.cfg.dupWait ≤ s.mono)
    ∧ (∃ (s : State) (sun : _), s.silent sun = true)
    ∧ (∃ (s : State) (stream : _) (sp : _) (tc : _) (x : _), mget s.rack.streams (streamKey stream sp tc) = some x ∧ s.streamCredit (streamKey stream sp tc) x = false ∧ x.nums.any (fun n => n.2.cell.isSome && n.2.st != .released) = false ∧ (x.expected.isSome && x.nums.any (fun n => n.2.st != .released)) = false ∧ x.lastCell + Config.us 100 ≤ s.mono) :=
  ⟨⟨fab0, 0, dcell, by decide +kernel⟩,
   ⟨7, by decide +kernel⟩,
   ⟨fab0, 0, ({ dcell with pcrc := pcrcOf [] } : Cell), by (repeat' apply And.intro) <;> first | decide +kernel | rfl⟩,
   ⟨fab0, 0, ({ dcell with pcrc := pcrcOf [] + 1 } : Cell), ⟨rfl, rfl, by show pcrcOf [] + 1 ≠ pcrcOf []; generalize pcrcOf [] = w; bv_omega⟩⟩,
   ⟨{ fab0 with rack := { fab0.rack with streams := [(streamKey 2 6 0, { expected := some 4, nums := [(4100, { st := .held })] })] } }, 2, 6, 0, 4100, { st := .held }, 4, by decide +kernel⟩,
   ⟨{ fab0 with rack := { fab0.rack with streams := [(streamKey 2 6 0, { expected := some 4, nums := [(4100, { st := .held, cell := some dcell })] })] } }, 2, 6, 0, 4100, { st := .held, cell := some dcell }, 4, by decide +kernel⟩,
   ⟨{ fab0 with mono := 10000000000, rack := { fab0.rack with streams := [(streamKey 2 6 0, { expected := some 4, nums := [(5, { st := .held })] })] } }, 2, 6, 0, { expected := some 4, nums := [(5, { st := .held })] }, 4, by (repeat' apply And.intro) <;> first | decide +kernel | rfl | (intro y h; cases h)⟩,
   ⟨{ fab0 with mono := 10000000000, rack := { fab0.rack with streams := [(streamKey 2 6 0, { paired := true, expected := some 4, nums := [(5, { st := .held })] })] } }, 2, 6, 0, 5, { st := .held }, by decide +kernel⟩,
   ⟨fab0, 2047, by decide +kernel⟩,
   ⟨{ fab0 with mono := 10000000000, rack := { fab0.rack with streams := [(streamKey 2 6 0, { expected := some 4 })] } }, 2, 6, 0, { expected := some 4 }, by decide +kernel⟩⟩

theorem witness_SchCommandsComplete :
    (∃ (vi : Nat) (io : HostIo) (e : Entry) (s : State) (c : _), starts 0x0A01 vi io e s = true ∧ e.dataLen = 24 * e.p 24 4 ∧ runNodes (taken vi s) 0 s.sch.cfg (chunks 24 (e.p 24 4) e.buf) = (c, none) ∧ s.onTrial = false)
    ∧ (∃ (vi : Nat) (io : HostIo) (e : Entry) (s : State), starts 0x0A02 vi io e s = true ∧ e.dataLen = 4 * e.p 24 4 ∧ ((chunks 4 (e.p 24 4) e.buf).map leVal).any (fun w => bit w 15 || bit w 30) = false ∧ s.onTrial = false)
    ∧ (∃ (vi : Nat) (io : HostIo) (e : Entry) (s : State) (c : ShaperCfg), starts 0x0A03 vi io e s = true ∧ e.p 26 1 = 1 ∧ c = { rate := e.p 28 4, burst := e.p 32 4, overhead := sx 8 (e.p 36 1) } ∧ 64 ≤ c.rate ∧ c.rate ≤ 1600000000 ∧ 64 ≤ c.burst ∧ c.burst ≤ 16777216 ∧ -32 ≤ c.overhead ∧ c.overhead ≤ 63 ∧ mhas s.sch.cfg.shapers (e.p 24 2) = true ∧ s.onTrial = false)
    ∧ (∃ (vi : Nat) (io : HostIo) (e : Entry) (s : State) (c : ShaperCfg), starts 0x0A03 vi io e s = true ∧ e.p 26 1 = 1 ∧ c = { rate := e.p 28 4, burst := e.p 32 4, overhead := sx 8 (e.p 36 1) } ∧ 64 ≤ c.rate ∧ c.rate ≤ 1600000000 ∧ 64 ≤ c.burst ∧ c.burst ≤ 16777216 ∧ -32 ≤ c.overhead ∧ c.overhead ≤ 63 ∧ mhas s.sch.cfg.shapers (e.p 24 2) = false ∧ s.onTrial = false)
    ∧ (∃ (vi : Nat) (io : HostIo) (e : Entry) (s : State), starts 0x0A03 vi io e s = true ∧ e.p 26 1 = 2 ∧ mhas s.sch.cfg.shapers (e.p 24 2) = true ∧ s.sch.cfg.attachedElsewhere (e.p 24 2) 0 = false ∧ s.onTrial = false)
    ∧ (∃ (vi : Nat) (io : HostIo) (e : Entry) (s : State), starts 0x0A04 vi io e s = true ∧ e.p 24 4 ≤ 1048575 ∧ e.p 28 1 = 2 ∧ s.mayPolice vi (e.p 24 4) = true ∧ s.onTrial = false)
    ∧ (∃ (vi : Nat) (io : HostIo) (e : Entry) (s : State) (c : PolicerCfg), starts 0x0A04 vi io e s = true ∧ e.p 24 4 ≤ 1048575 ∧ e.p 28 1 = 1 ∧ s.mayPolice vi (e.p 24 4) = true ∧ (c.mode = 1 ∧ c.eir = 0 ∨ c.mode = 2) ∧ c = { mode := e.p 29 1, flags := e.p 30 1 % 4, overhead := sx 8 (e.p 31 1), cir := e.p 32 4, cbs := e.p 36 4, eir := e.p 40 4, ebs := e.p 44 4 } ∧ -32 ≤ c.overhead ∧ c.overhead ≤ 63 ∧ s.onTrial = false)
    ∧ (∃ (vi : Nat) (io : HostIo) (e : Entry) (s : State), starts 0x0A04 vi io e s = true ∧ (e.p 24 4) ≤ 1048575 ∧ e.p 28 1 = 3 ∧ s.mayPolice vi (e.p 24 4) = true ∧ 48 ≤ e.dataLen)
    ∧ (∃ (vi : Nat) (io : HostIo) (e : Entry) (s : State) (c : _) (l : _), starts 0x0A05 vi io e s = true ∧ (e.p 24 1) ≤ 127 ∧ e.p 25 1 = 1 ∧ s.pcfg (e.p 24 1) = some c ∧ c.type ≠ 2 ∧ 1000 ≤ e.p 28 4 ∧ e.p 28 4 ≤ 1000000000 ∧ targetClass (e.p 32 8) s.timeNs ≠ .past ∧ 1 ≤ e.p 26 2 ∧ e.p 26 2 ≤ 256 ∧ e.dataLen = 8 * e.p 26 2 ∧ ((chunks 8 (e.p 26 2) e.buf).map leVal).any (fun w => decide (bits w 31 8 ≠ 0)) = false ∧ l = ({ entries := ((chunks 8 (e.p 26 2) e.buf).map leVal).map (fun w => (w % 256, w / 2 ^ 32)), cycle := e.p 28 4, base := e.p 32 8 } : GateList) ∧ (∀ x, x ∈ l.entries → 16 ≤ x.2 ∧ x.2 ≤ 1000000000) ∧ sumOf l.entries (fun x => x.2) ≤ e.p 28 4 ∧ (∀ tc, tc < 8 → ceilDiv ((10352 + (s.schPort (e.p 24 1)).gateOverhead + (if (s.secy (e.p 24 1)).enable = true ∧ bit (s.secy (e.p 24 1)).flags 0 = true then 32 else 0)) * 8) c.lowestGbps ≤ l.longestOpen tc) ∧ s.onTrial = false)
    ∧ (∃ (vi : Nat) (io : HostIo) (e : Entry) (s : State) (c : _), starts 0x0A05 vi io e s = true ∧ e.p 24 1 ≤ 127 ∧ e.p 25 1 = 2 ∧ s.pcfg (e.p 24 1) = some c ∧ c.type ≠ 2 ∧ 1000 ≤ e.p 28 4 ∧ e.p 28 4 ≤ 1000000000 ∧ targetClass (e.p 32 8) s.timeNs ≠ .past ∧ s.onTrial = false)
    ∧ (∃ (vi : Nat) (io : HostIo) (e : Entry) (s : State), starts 0x0A06 vi io e s = true ∧ (e.p 24 1) ≤ 127 ∧ e.p 26 2 ≤ 5000 ∧ e.p 30 2 ≤ 16383 ∧ ((e.p 32 4) = 0xFFFFFFFF ∨ (e.p 32 4) ≤ 65535) ∧ ((e.p 36 1) = 0xFF ∨ (e.p 36 1) ≤ 63) ∧ ((e.p 37 1) = 0xFF ∨ (e.p 37 1) ≤ 63) ∧ (s.pcfg (e.p 24 1)).isSome = true ∧ ((e.p 28 1) = 0xFF ∨ ((e.p 28 1) ≤ 127 ∧ (e.p 28 1) ≠ (e.p 24 1) ∧ (s.pcfg (e.p 28 1)).isSome = true ∧ s.rehomeReady (e.p 28 1) (s.rehomeBlock (e.p 28 1)) = true)) ∧ s.onTrial = false)
    ∧ (∃ (vi : Nat) (io : HostIo) (e : Entry) (s : State), starts 0x0A07 vi io e s = true ∧ e.p 24 1 ≤ 63 ∧ (((List.range 9).map (fun i => e.p (26 + i) 1)).take 3).any (fun v => decide (63 < v)) = false ∧ (((List.range 9).map (fun i => e.p (26 + i) 1)).drop 3).any (fun v => decide (7 < v)) = false ∧ s.onTrial = false)
    ∧ (∃ (vi : Nat) (io : HostIo) (e : Entry) (s : State) (p : _), starts 0x0A08 vi io e s = true ∧ e.p 24 1 = 1 ∧ s.queuePort (e.p 28 4) = some p ∧ s.ownsQueue vi (e.p 28 4) = true)
    ∧ (∃ (vi : Nat) (io : HostIo) (e : Entry) (s : State) (p : _) (qs : _), starts 0x0A08 vi io e s = true ∧ ((e.p 24 1 = 1 ∧ s.queuePort (e.p 28 4) = some p ∧ qs = [e.p 28 4]) ∨ (e.p 24 1 = 2 ∧ p = e.p 28 4 ∧ p ≤ 127 ∧ qs = s.queuesUnder p)) ∧ qs.all (s.ownsQueue vi) = true)
    ∧ (∃ (vi : Nat) (io : HostIo) (e : Entry) (s : State), starts 0x0A09 vi io e s = true ∧ e.p 24 1 ≤ 127 ∧ (vi = 0 ∨ s.ownsPort vi (e.p 24 1) = true)) :=
  ⟨⟨0, yes, ent 0x0A01 [(24, 4, 1)] ([2, 1, 3, 0, 9, 0, 0, 0, 3, 0, 0, 0, 5, 0, 0, 0] ++ zeros 8), queued (ent 0x0A01 [(24, 4, 1)] ([2, 1, 3, 0, 9, 0, 0, 0, 3, 0, 0, 0, 5, 0, 0, 0] ++ zeros 8)) (eth), (runNodes eth 0 {} [[2, 1, 3, 0, 9, 0, 0, 0, 3, 0, 0, 0, 5, 0, 0, 0] ++ zeros 8]).1, by (repeat' apply And.intro) <;> first | decide +kernel | rfl⟩,
   ⟨0, yes, ent 0x0A02 [(24, 4, 1)] ([5, 0, 7, 0]), queued (ent 0x0A02 [(24, 4, 1)] ([5, 0, 7, 0])) (eth), by decide +kernel⟩,
   ⟨0, yes, ent 0x0A03 [(24, 2, 3), (26, 1, 1), (28, 4, 64), (32, 4, 64), (36, 1, 63)], queued (ent 0x0A03 [(24, 2, 3), (26, 1, 1), (28, 4, 64), (32, 4, 64), (36, 1, 63)]) ({ up with sch := { up.sch with cfg := { shapers := [(3, {})] } } }), { rate := 64, burst := 64, overhead := 63 }, by decide +kernel⟩,
   ⟨0, yes, ent 0x0A03 [(24, 2, 3), (26, 1, 1), (28, 4, 1600000000), (32, 4, 16777216), (36, 1, 224)], queued (ent 0x0A03 [(24, 2, 3), (26, 1, 1), (28, 4, 1600000000), (32, 4, 16777216), (36, 1, 224)]), { rate := 1600000000, burst := 16777216, overhead := -32 }, by decide +kernel⟩,
   ⟨0, yes, ent 0x0A03 [(24, 2, 3), (26, 1, 2)], queued (ent 0x0A03 [(24, 2, 3), (26, 1, 2)]) ({ up with sch := { up.sch with cfg := { shapers := [(3, {})] } } }), by decide +kernel⟩,
   ⟨0, yes, ent 0x0A04 [(24, 4, 1048575), (28, 1, 2)], queued (ent 0x0A04 [(24, 4, 1048575), (28, 1, 2)]), by decide +kernel⟩,
   ⟨0, yes, ent 0x0A04 [(24, 4, 1048575), (28, 1, 1), (29, 1, 1), (31, 1, 63), (32, 4, 900), (36, 4, 5000), (44, 4, 6000)], queued (ent 0x0A04 [(24, 4, 1048575), (28, 1, 1), (29, 1, 1), (31, 1, 63), (32, 4, 900), (36, 4, 5000), (44, 4, 6000)]), { mode := 1, overhead := 63, cir := 900, cbs := 5000, ebs := 6000 }, by decide +kernel⟩,
   ⟨0, yes, ent 0x0A04 [(24, 4, 1048575), (28, 1, 3)] ([]) 48, queued (ent 0x0A04 [(24, 4, 1048575), (28, 1, 3)] ([]) 48), by decide +kernel⟩,
   ⟨0, yes, ent 0x0A05 [(25, 1, 1), (26, 2, 1), (28, 4, 1000000), (32, 8, 100000)] ([255, 0, 0, 0] ++ putLe 4 1000000), queued (ent 0x0A05 [(25, 1, 1), (26, 2, 1), (28, 4, 1000000), (32, 8, 100000)] ([255, 0, 0, 0] ++ putLe 4 1000000)) (eth), {}, { entries := [(255, 1000000)], cycle := 1000000, base := 100000 }, by decide +kernel⟩,
   ⟨0, yes, ent 0x0A05 [(25, 1, 2), (28, 4, 1000000000), (32, 8, 100000)], queued (ent 0x0A05 [(25, 1, 2), (28, 4, 1000000000), (32, 8, 100000)]) (eth), {}, by decide +kernel⟩,
   ⟨0, yes, ent 0x0A06 [(26, 2, 5000), (28, 1, 255), (30, 2, 16383), (32, 4, 65535), (36, 2, 0x3F3F)], queued (ent 0x0A06 [(26, 2, 5000), (28, 1, 255), (30, 2, 16383), (32, 4, 65535), (36, 2, 0x3F3F)]) (eth), by decide +kernel⟩,
   ⟨0, yes, ent 0x0A07 [(24, 1, 63), (25, 1, 7), (26, 1, 63), (29, 1, 7)], queued (ent 0x0A07 [(24, 1, 63), (25, 1, 7), (26, 1, 63), (29, 1, 7)]), by decide +kernel⟩,
   ⟨0, yes, ent 0x0A08 [(24, 1, 1), (28, 4, 3)], queued (ent 0x0A08 [(24, 1, 1), (28, 4, 3)]) ({ eth with sch := { eth.sch with queues := [(3, [{ length := 80 }])] } }), 0, by decide +kernel⟩,
   ⟨0, yes, ent 0x0A08 [(24, 1, 2), (28, 4, 0)], queued (ent 0x0A08 [(24, 1, 2), (28, 4, 0)]) ({ eth with sch := { eth.sch with queues := [(3, [{ length := 80 }])] } }), 0, ({ eth with sch := { eth.sch with queues := [(3, [{ length := 80 }])] } }).queuesUnder 0, by decide +kernel⟩,
   ⟨0, yes, ent 0x0A09 [] ([]) 64, queued (ent 0x0A09 [] ([]) 64), by decide +kernel⟩⟩

theorem witness_SchEventsComplete :
    (∃ (s : State) (port : _), port < 128 ∧ s.portUp port = true ∧ (s.eport port).hold = .run ∧ (s.eport port).tx = [] ∧ (s.eport port).paceAt ≤ s.mono ∧ s.dark port = false)
    ∧ (∃ (s : State) (port : _) (k : _), s.portUp port = true ∧ s.mayTransmit port = true ∧ (s.eport port).hold = .run ∧ s.nextTx port = some k)
    ∧ (∃ (s : State) (h : _) (x : _) (c : _) (credit : _), mget s.sch.shapers h = some x ∧ x.refillAt ≤ s.mono ∧ (c, credit) = (match x.next with | none => (mgetD s.sch.cfg.shapers h {}, x.credit) | some (n, forgive) => (n, if forgive = true ∧ x.credit < 0 then 0 else x.credit)))
    ∧ (∃ (s : State) (port : _) (start : _) (l : _), (s.eport port).pendingList = some (start, false, l) ∧ s.timeReached start = true)
    ∧ (∃ (s : State) (port : _), (s.eport port).hold = .hold ∧ (s.eport port).deadline ≤ s.mono ∧ s.onlyNoSa port = false)
    ∧ (∃ (s : State) (port : _) (k : _) (pkt : _) (l : _), port < 128 ∧ s.portUp port = true ∧ (s.eport port).hold = .run ∧ (s.eport port).tx = [] ∧ (s.eport port).paceAt ≤ s.mono ∧ s.dark port = false ∧ s.drrCauses port = 0 ∧ (s.eport port).drr = false ∧ (s.eport port).drrLeft = [] ∧ s.offer port 4 1 port = some k ∧ s.equeue k.queue = pkt :: l ∧ k.left = [])
    ∧ (∃ (s : State) (port : _) (k : _) (v : _), s.portUp port = true ∧ s.mayTransmit port = true ∧ (s.eport port).hold = .run ∧ (s.eport port).lateSlot = [] ∧ (s.eport port).tx = [k] ∧ k.2.whole = true ∧ s.version? k.2 = some v ∧ s.flt.tblPcCopying = [] ∧ (s.eport port).list = none ∧ (s.schPort port).egProfile = none ∧ (s.schPort port).egPolicer = none ∧ (s.secy port).enable = false ∧ s.readsFit true k.2.rdAsk v.reads = true ∧ (s.tport port).tsEnable = false ∧ k.2.jcrc = Config.jcrc k.2.bytes)
    ∧ (∃ (s : State) (h : _) (x : _) (c : _), mget s.sch.shapers h = some x ∧ x.refillAt ≤ s.mono ∧ x.next = none ∧ mget s.sch.cfg.shapers h = some c)
    ∧ (∃ (s : State) (port : _) (start : _) (l : _), (s.eport port).pendingList = some (start, true, l) ∧ s.timeReached start = true)
    ∧ (∃ (s : State) (port : _) (l : _), (s.eport port).list = some l ∧ s.timeReached (s.eport port).gateEnd = true)
    ∧ (∃ (s : State) (port : _), (s.eport port).hold = .hold ∧ (s.eport port).deadline ≤ s.mono ∧ s.onlyNoSa port = false ∧ (s.schPort port).backup = none ∧ port ∉ s.dev.retraining) :=
  ⟨⟨eth, 0, by decide +kernel⟩,
   ⟨{ eth with sch := { eth.sch with eports := [(0, { tx := [(3, { bytes := zeros 80, length := 84, handle := 3, version := 1, jcrc := Config.jcrc (zeros 80), whole := true })] })] }, tbl := { eth.tbl with encaps := [(encKey 3 1, {})] } }, 0, (3, { bytes := zeros 80, length := 84, handle := 3, version := 1, jcrc := Config.jcrc (zeros 80), whole := true }), by (repeat' apply And.intro) <;> first | decide +kernel | rfl⟩,
   ⟨{ up with sch := { up.sch with cfg := { shapers := [(3, {})] }, shapers := [(3, {})] } }, 3, {}, {}, 0, by decide +kernel⟩,
   ⟨{ eth with sch := { eth.sch with eports := [(0, { pendingList := some (0, false, {}) })] } }, 0, 0, {}, by decide +kernel⟩,
   ⟨{ eth with sch := { eth.sch with eports := [(0, { hold := .hold })] } }, 0, by decide +kernel⟩,
   ⟨{ eth with sch := { eth.sch with queues := [(3, [{ length := 80 }])] } }, 0, (({ eth with sch := { eth.sch with queues := [(3, [{ length := 80 }])] } }).offer 0 4 1 0).getD {}, { length := 80 }, [], by decide +kernel⟩,
   ⟨{ eth with sch := { eth.sch with eports := [(0, { tx := [(3, { bytes := zeros 80, length := 84, handle := 3, version := 1, jcrc := Config.jcrc (zeros 80), whole := true })] })] }, tbl := { eth.tbl with encaps := [(encKey 3 1, {})] } }, 0, (3, { bytes := zeros 80, length := 84, handle := 3, version := 1, jcrc := Config.jcrc (zeros 80), whole := true }), {}, by (repeat' apply And.intro) <;> first | decide +kernel | rfl⟩,
   ⟨{ up with sch := { up.sch with cfg := { shapers := [(3, {})] }, shapers := [(3, {})] } }, 3, {}, {}, by decide +kernel⟩,
   ⟨{ eth with sch := { eth.sch with eports := [(0, { pendingList := some (0, true, {}) })] } }, 0, 0, {}, by decide +kernel⟩,
   ⟨{ eth with sch := { eth.sch with eports := [(0, { list := some { entries := [(3, 500), (5, 500)], cycle := 1000 } })] } }, 0, { entries := [(3, 500), (5, 500)], cycle := 1000 }, by decide +kernel⟩,
   ⟨{ eth with sch := { eth.sch with eports := [(0, { hold := .hold })] } }, 0, by decide +kernel⟩⟩

theorem witness_PairCommandsComplete :
    (∃ (vi : Nat) (io : HostIo) (e : Entry) (s : State) (c : PairCfg), starts 0x0B01 vi io e s = true ∧ e.p 28 1 = 1 ∧ c.priority = e.p 29 1 ∧ c.partner = e.p 24 2 ∧ c.pairSun = e.p 26 2 ∧ c.wait = orDefault (e.p 30 2) 2000 ∧ c.draught = orDefault (e.p 32 2) 60 ∧ c.staleLag = orDefault (e.p 34 2) 2 ∧ c.partner ≤ 2047 ∧ c.pairSun ≤ 2047 ∧ 100 ≤ c.wait ∧ c.wait ≤ 60000 ∧ 10 ≤ c.draught ∧ c.draught ≤ 3600 ∧ c.staleLag ≤ 1000 ∧ c.partner ≠ s.dev.cfg.sun ∧ c.pairSun ≠ s.dev.cfg.sun ∧ s.pair.cfg.ports.any (fun p => p.2.stream == c.pairSun) = false ∧ s.onTrial = false)
    ∧ (∃ (vi : Nat) (io : HostIo) (e : Entry) (s : State), starts 0x0B01 vi io e s = true ∧ e.p 28 1 = 2 ∧ (s.holdsBung = false ∨ (s.partnerState ≠ 6 ∧ s.partnerState ≠ 7)) ∧ s.onTrial = false)
    ∧ (∃ (vi : Nat) (io : HostIo) (e : Entry) (s : State), starts 0x0B02 vi io e s = true ∧ (e.p 24 1) ≤ 127 ∧ s.member = true ∧ e.p 25 1 = 2 ∧ s.onTrial = false)
    ∧ (∃ (vi : Nat) (io : HostIo) (e : Entry) (s : State) (c : PairPortCfg), starts 0x0B02 vi io e s = true ∧ e.p 24 1 ≤ 127 ∧ s.member = true ∧ e.p 25 1 = 1 ∧ c = { txMode := e.p 26 1, stream := e.p 28 2 } ∧ 1 ≤ c.txMode ∧ c.txMode ≤ 2 ∧ c.stream ≤ 2047 ∧ c.stream ≠ s.dev.cfg.sun ∧ c.stream ≠ s.pairSun ∧ s.pair.cfg.ports.any (fun o => o.1 != e.p 24 1 && o.2.stream == c.stream) = false ∧ (mset s.pair.cfg.ports (e.p 24 1) c).length ≤ 128 ∧ s.sharedGbps (mset s.pair.cfg.ports (e.p 24 1) c) ≤ 3200 ∧ s.onTrial = false)
    ∧ (∃ (vi : Nat) (io : HostIo) (e : Entry) (s : State), starts 0x0B03 vi io e s = true)
    ∧ (∃ (vi : Nat) (io : HostIo) (e : Entry) (s : State), starts 0x0B04 vi io e s = true ∧ s.member = true ∧ s.pair.st = .active ∧ s.partnerState = 6)
    ∧ (∃ (vi : Nat) (io : HostIo) (e : Entry) (s : State), starts 0x0B05 vi io e s = true ∧ s.member = true ∧ e.p 24 1 = 1 ∧ s.holdsBung = true)
    ∧ (∃ (vi : Nat) (io : HostIo) (e : Entry) (s : State), starts 0x0B05 vi io e s = true ∧ s.member = true ∧ e.p 24 1 = 1 ∧ s.holdsBung = false) :=
  ⟨⟨0, yes, ent 0x0B01 [(24, 2, 2047), (26, 2, 9), (28, 1, 1), (29, 1, 3), (30, 2, 60000), (32, 2, 3600), (34, 2, 1000)], queued (ent 0x0B01 [(24, 2, 2047), (26, 2, 9), (28, 1, 1), (29, 1, 3), (30, 2, 60000), (32, 2, 3600), (34, 2, 1000)]) (fab0), ({ partner := 2047, pairSun := 9, priority := 3, wait := 60000, draught := 3600, staleLag := 1000 } : PairCfg), by decide +kernel⟩,
   ⟨0, yes, ent 0x0B01 [(28, 1, 2)], queued (ent 0x0B01 [(28, 1, 2)]) (mem), by decide +kernel⟩,
   ⟨0, yes, ent 0x0B02 [(24, 1, 127), (25, 1, 2)], queued (ent 0x0B02 [(24, 1, 127), (25, 1, 2)]) (mem), by decide +kernel⟩,
   ⟨0, yes, ent 0x0B02 [(24, 1, 1), (25, 1, 1), (26, 1, 2), (28, 2, 2047)], queued (ent 0x0B02 [(24, 1, 1), (25, 1, 1), (26, 1, 2), (28, 2, 2047)]) ({ mem with port := { mem.port with cfg := [(0, {}), (1, {})] } }), ({ txMode := 2, stream := 2047 } : PairPortCfg), by decide +kernel⟩,
   ⟨0, yes, ent 0x0B03 [] ([]) 704, queued (ent 0x0B03 [] ([]) 704), by decide +kernel⟩,
   ⟨0, yes, ent 0x0B04, queued (ent 0x0B04) ({ mem with pair := { mem.pair with st := .active, heard := [(2, { pairSun := 9, synced := true })] } }), by decide +kernel⟩,
   ⟨0, yes, ent 0x0B05 [(24, 1, 1)], queued (ent 0x0B05 [(24, 1, 1)]) ({ mem with pair := { mem.pair with st := .active } }), by decide +kernel⟩,
   ⟨0, yes, ent 0x0B05 [(24, 1, 1)], queued (ent 0x0B05 [(24, 1, 1)]) ({ mem with pair := { mem.pair with st := .standby } }), by decide +kernel⟩⟩

theorem witness_LeaseEventsComplete :
    (∃ (s : State), s.member = true ∧ s.pair.peerLanes ≠ [] ∧ s.pair.helloAt ≤ s.mono)
    ∧ (∃ (s : State), s.member = true ∧ s.pair.peerLanes ≠ [])
    ∧ (∃ (s : State), s.member = true ∧ s.pair.peerLanes ≠ [] ∧ s.pair.disc = .seeking)
    ∧ (∃ (s : State), s.member = true ∧ s.pair.lastHello + Config.ms 10 ≤ s.mono ∧ (s.pair.disc = .seen ∨ s.pair.disc = .mismatch))
    ∧ (∃ (s : State), s.member = true ∧ s.pair.lastHello + Config.ms 10 ≤ s.mono ∧ s.pair.disc = .matched ∧ s.present s.partnerOf = false)
    ∧ (∃ (s : State) (c : _), s.pair.cfg.pair = some c ∧ s.pair.st = .seeking ∧ s.pair.seekSince + Config.ms c.wait ≤ s.mono ∧ s.mayTake = true)
    ∧ (∃ (s : State) (port : _), s.member = true ∧ port < 128)
    ∧ (∃ (s : State), s.pair.st = .active ∧ s.pair.renewAt ≤ s.mono ∧ s.peerUp = true)
    ∧ (∃ (s : State), s.pair.st = .active ∧ s.pair.renewAt ≤ s.mono ∧ s.peerUp = false)
    ∧ (∃ (s : State) (gen : _), s.member = true ∧ s.pair.st = .standby ∧ s.pair.gen ≤ gen ∧ s.peerUp = true)
    ∧ (∃ (s : State) (n : _) (at_ : _), s.member = true ∧ s.pair.st = .active ∧ mget s.pair.sentRenews n = some at_)
    ∧ (∃ (s : State) (gen : _), s.pair.st = .standby ∧ s.pair.gen < gen ∧ s.peerUp = true)
    ∧ (∃ (s : State) (gen : _), s.pair.st = .fenced ∧ s.pair.handing = some gen)
    ∧ (∃ (s : State) (at_ : _), s.pair.st = .active ∧ s.pair.lastAcked = some at_ ∧ at_ + Config.us 350 ≤ s.mono)
    ∧ (∃ (s : State) (at_ : _), (s.pair.st = .standby ∨ s.pair.st = .stale) ∧ s.pair.tA = some at_ ∧ at_ + Config.us 500 ≤ s.mono ∧ s.mayTake = true)
    ∧ (∃ (s : State) (at_ : _), s.pair.st = .fenced ∧ s.pair.lastAcked = some at_ ∧ at_ + Config.us 500 ≤ s.mono ∧ s.mayTake = true)
    ∧ (∃ (s : State), s.pair.st = .taking)
    ∧ (∃ (s : State), s.pair.st = .taking ∧ s.pair.takeCause = 2 ∧ s.pair.cfg.ports = []) :=
  ⟨⟨mem, by decide +kernel⟩,
   ⟨mem, by decide +kernel⟩,
   ⟨{ mem with pair := { mem.pair with disc := .seeking } }, by decide +kernel⟩,
   ⟨{ mem with mono := 10000000000, pair := { mem.pair with disc := .seen } }, by decide +kernel⟩,
   ⟨{ mem with mono := 10000000000, fab := { mem.fab with listings := [(3, 0)] }, pair := { mem.pair with disc := .matched } }, by decide +kernel⟩,
   ⟨{ mem with mono := 30000000000, fab := { mem.fab with listings := [(3, 0)] }, pair := { mem.pair with st := .seeking } }, { partner := 2, pairSun := 9 }, by decide +kernel⟩,
   ⟨mem, 127, by decide +kernel⟩,
   ⟨{ mem with pair := { mem.pair with st := .active } }, by decide +kernel⟩,
   ⟨{ mem with pair := { mem.pair with st := .active, peerLanes := [] } }, by decide +kernel⟩,
   ⟨{ mem with pair := { mem.pair with st := .standby, gen := 4 } }, 4, by decide +kernel⟩,
   ⟨{ mem with pair := { mem.pair with st := .active, sentRenews := [(4, 0)] } }, 4, 0, by decide +kernel⟩,
   ⟨{ mem with pair := { mem.pair with st := .standby } }, 3, by decide +kernel⟩,
   ⟨{ mem with pair := { mem.pair with st := .fenced, handing := some 3 } }, 3, by decide +kernel⟩,
   ⟨{ mem with mono := 10000000000, pair := { mem.pair with st := .active, lastAcked := some 0 } }, 0, by decide +kernel⟩,
   ⟨{ mem with mono := 10000000000, fab := { mem.fab with listings := [(3, 0)] }, pair := { mem.pair with st := .standby, tA := some 0 } }, 0, by decide +kernel⟩,
   ⟨{ mem with mono := 10000000000, fab := { mem.fab with listings := [(3, 0)] }, pair := { mem.pair with st := .fenced, lastAcked := some 0 } }, 0, by decide +kernel⟩,
   ⟨{ mem with pair := { mem.pair with st := .taking } }, by decide +kernel⟩,
   ⟨{ fab0 with pair := { fab0.pair with st := .taking, takeCause := 2 } }, by decide +kernel⟩⟩

theorem witness_PairStreamsComplete :
    (∃ (s : State) (a : Announce), s.member = true ∧ s.pair.announceAt ≤ s.mono ∧ a.pairSun = s.pairSun ∧ a.sun = s.dev.cfg.sun ∧ a.gen = s.pair.gen ∧ a.bung = (s.holdsBung || s.pair.st == .taking) ∧ a.fenced = (s.pair.st == .fenced) ∧ a.synced = (s.pair.st == .standby || s.pair.st == .stale))
    ∧ (∃ (s : State) (a : Announce), a.sun ≠ s.dev.cfg.sun)
    ∧ (∃ (s : State) (p : _) (a : _) (at_ : _), (s.ppair p).query = some (a, at_) ∧ at_ + Config.us 50 ≤ s.mono)
    ∧ (∃ (s : State), s.member = true)
    ∧ (∃ (s : State) (a : Announce), a.sun ≠ s.dev.cfg.sun ∧ a.sun ≠ s.partnerOf)
    ∧ (∃ (s : State) (stream : _) (p : _), s.portOfStream stream = some p)
    ∧ (∃ (s : State) (stream : _) (a : _) (p : _), s.portOfStream stream = some p ∧ dist 48 (s.ppair p).nextArrival a < 65536 ∧ (s.ppair p).query = none)
    ∧ (∃ (s : State) (stream : _) (a : _) (p : _) (at_ : _), s.portOfStream stream = some p ∧ (s.ppair p).query = some (a, at_) ∧ (s.ppair p).held = [] ∧ a ∉ (s.ppair p).asked)
    ∧ (∃ (s : State) (p : _) (a : _) (at_ : _), (s.ppair p).query = some (a, at_) ∧ at_ + Config.us 50 ≤ s.mono ∧ (s.ppair p).held = [])
    ∧ (∃ (s : State) (p : _) (epoch : _) (a : _), s.member = true ∧ s.holdsBung = false ∧ mhas s.pair.cfg.ports p = true ∧ epoch ≠ 0 ∧ a < 2 ^ 48)
    ∧ (∃ (s : State) (p : _), s.member = true ∧ s.holdsBung = false ∧ mhas s.pair.cfg.ports p = true)
    ∧ (∃ (s : State) (sp : _), s.member = true ∧ s.holdsBung = false ∧ (mget s.pair.cfg.ports (s.localPort sp)).map PairPortCfg.txMode = some 2)
    ∧ (∃ (s : State) (p : _) (run : List (Word × Nat)) (a : _), s.member = true ∧ s.holdsBung = false ∧ mhas s.pair.cfg.ports p = true ∧ (s.ppair p).sync = false ∧ run ≠ [] ∧ runPlaces run (s.ppair p).rxLog = [a])
    ∧ (∃ (s : State) (p : _) (run : List (Word × Nat)), s.member = true ∧ s.holdsBung = false ∧ mhas s.pair.cfg.ports p = true ∧ (s.ppair p).sync = false ∧ run ≠ [] ∧ (∀ a, runPlaces run (s.ppair p).rxLog ≠ [a]))
    ∧ (∃ (s : State) (p : _), s.member = true ∧ s.holdsBung = false ∧ (s.ppair p).matched = true ∧ (s.ppair p).anchored = true ∧ (s.ppair p).sync = false)
    ∧ (∃ (s : State) (h : _), s.pair.st = .syncing ∧ mget s.pair.heard s.partnerOf = some h ∧ h.bung = true ∧ s.portsAnchored = true ∧ s.peerUp = true)
    ∧ (∃ (s : State) (h : _), s.pair.st = .syncing ∧ mget s.pair.heard s.partnerOf = some h ∧ h.bung = true ∧ s.portsAnchored = true ∧ s.peerUp = false)
    ∧ (∃ (s : State) (p : _) (at_ : _), (s.ppair p).freshAt = some at_ ∧ at_ ≤ s.mono)
    ∧ (∃ (s : State) (p : _) (at_ : _), (s.ppair p).freshAt = some at_ ∧ at_ ≤ s.mono ∧ (s.ppair p).held = [])
    ∧ (∃ (s : State) (c : _), s.pair.cfg.pair = some c ∧ (s.pair.st = .standby ∨ s.pair.st = .stale) ∧ s.pair.draughtAt + Config.sec c.draught ≤ s.mono)
    ∧ (∃ (s : State) (lane : _), lane ∈ s.pair.peerLanes ∧ without s.pair.peerLanes lane ≠ [])
    ∧ (∃ (s : State) (lane : _), s.pair.peerLanes = [lane])
    ∧ (∃ (s : State) (lane : _) (k : _), lane < 4 ∧ s.member = true ∧ s.domOn 55 = true ∧ (5, 0) ∉ s.dev.blockResets ∧ mget s.sec.links 16 = some k ∧ k.keyed = true ∧ lane ∉ s.pair.peerLanes ∧ s.pair.peerLanes ≠ [])
    ∧ (∃ (s : State) (lane : _) (k : _), lane < 4 ∧ s.member = true ∧ s.domOn 55 = true ∧ (5, 0) ∉ s.dev.blockResets ∧ mget s.sec.links 16 = some k ∧ k.keyed = true ∧ s.pair.peerLanes = []) :=
  ⟨⟨{ mem with pair := { mem.pair with st := .active } }, ⟨9, 1, 0, true, false, false⟩, by decide +kernel⟩,
   ⟨mem, ⟨9, 4, 0, false, false, false⟩, by decide +kernel⟩,
   ⟨{ mem with mono := 10000000000, pair := { mem.pair with ports := [(0, { query := some (5, 0) })] } }, 0, 5, 0, by decide +kernel⟩,
   ⟨mem, by decide +kernel⟩,
   ⟨mem, ⟨9, 4, 0, false, false, false⟩, by decide +kernel⟩,
   ⟨mem, 11, 0, by decide +kernel⟩,
   ⟨mem, 11, 65535, 0, by decide +kernel⟩,
   ⟨{ mem with pair := { mem.pair with ports := [(0, { query := some (5, 0) })] } }, 11, 5, 0, 0, by decide +kernel⟩,
   ⟨{ mem with mono := 10000000000, pair := { mem.pair with ports := [(0, { query := some (5, 0) })] } }, 0, 5, 0, by decide +kernel⟩,
   ⟨{ mem with pair := { mem.pair with st := .standby } }, 0, 3, 281474976710655, by decide +kernel⟩,
   ⟨{ mem with pair := { mem.pair with st := .standby } }, 0, by decide +kernel⟩,
   ⟨{ mem with pair := { mem.pair with cfg := { pair := some { partner := 2, pairSun := 9 }, ports := [(7, { txMode := 2, stream := 11 })] } } }, 6, by decide +kernel⟩,
   ⟨{ mem with pair := { mem.pair with ports := [(0, { rxLog := [(4, 77, 64), (5, 78, 64)] })] } }, 0, [(78, 64)], 5, by decide +kernel⟩,
   ⟨{ mem with pair := { mem.pair with ports := [(0, { rxLog := [(4, 77, 64)] })] } }, 0, [(78, 64)], by (repeat' apply And.intro) <;> first | decide +kernel | rfl | (intro a h; exact absurd (show ([] : List Nat) = [a] from h) (by simp))⟩,
   ⟨{ mem with pair := { mem.pair with ports := [(0, { matched := true, anchored := true })] } }, 0, by decide +kernel⟩,
   ⟨{ mem with pair := { mem.pair with st := .syncing, ports := [(0, { anchored := true })], heard := [(2, { pairSun := 9, bung := true })] } }, { pairSun := 9, bung := true }, by decide +kernel⟩,
   ⟨{ mem with pair := { mem.pair with st := .syncing, peerLanes := [], ports := [(0, { anchored := true })], heard := [(2, { pairSun := 9, bung := true })] } }, { pairSun := 9, bung := true }, by decide +kernel⟩,
   ⟨{ mem with pair := { mem.pair with ports := [(0, { freshAt := some 0 })] } }, 0, 0, by decide +kernel⟩,
   ⟨{ mem with pair := { mem.pair with ports := [(0, { freshAt := some 0 })] } }, 0, 0, by decide +kernel⟩,
   ⟨{ mem with mono := 700000000000, pair := { mem.pair with st := .standby } }, { partner := 2, pairSun := 9 }, by decide +kernel⟩,
   ⟨{ mem with pair := { mem.pair with peerLanes := [2, 3] } }, 3, by decide +kernel⟩,
   ⟨mem, 3, by decide +kernel⟩,
   ⟨{ mem with sec := { mem.sec with links := [(16, { keyed := true })] } }, 1, { keyed := true }, by decide +kernel⟩,
   ⟨{ mem with sec := { mem.sec with links := [(16, { keyed := true })] }, pair := { mem.pair with peerLanes := [] } }, 1, { keyed := true }, by decide +kernel⟩⟩

theorem witness_JournalComplete :
    (∃ (s : State), s.member = true ∧ (s.pair.st = .syncing ∨ s.pair.st = .standby ∨ s.pair.st = .stale))
    ∧ (∃ (s : State) (recs : _), s.member = true ∧ s.pair.st = .standby ∧ (∀ r, r ∈ s.pair.tail ++ recs → ∀ n, r ≠ .mark n))
    ∧ (∃ (s : State) (vi : _) (e : _) (st : _) (dt : _) (res : _) (n : _) (bytes : Nat) (t : _), s.member = true ∧ s.pair.st = .standby ∧ s.pair.tail = [] ∧ applyCommand vi e st dt res ({ s with pair := { s.pair with tail := [.command vi e st dt res, .mark n], tailBytes := s.pair.tailBytes + bytes, tailSince := some s.mono } }) = some t)
    ∧ (∃ (s : State) (mark : _), (s.pair.st = .active ∨ s.pair.st = .fenced) ∧ s.pair.unacked.filter (fun u => decide (u.1 ≤ mark)) ≠ []) :=
  ⟨⟨{ mem with pair := { mem.pair with st := .syncing } }, by decide +kernel⟩,
   ⟨{ mem with pair := { mem.pair with st := .standby } }, [.command 0 (ent 0x0A07 [(24, 1, 3), (25, 1, 7)]) 0 0 []], ⟨by decide +kernel, by decide +kernel, fun r hr n h => by subst h; rcases hr with _ | ⟨_, ⟨⟩⟩⟩⟩,
   ⟨{ mem with pair := { mem.pair with st := .standby } }, 0, ent 0x0A07 [(24, 1, 3), (25, 1, 7)], 0, 0, [], 4, 80, (applyCommand 0 (ent 0x0A07 [(24, 1, 3), (25, 1, 7)]) 0 0 [] ({ { mem with pair := { mem.pair with st := .standby } } with pair := { ({ mem with pair := { mem.pair with st := .standby } }).pair with tail := [.command 0 (ent 0x0A07 [(24, 1, 3), (25, 1, 7)]) 0 0 [], .mark 4], tailBytes := 80, tailSince := some 0 } })).getD up, by (repeat' apply And.intro) <;> first | decide +kernel | rfl⟩,
   ⟨{ mem with pair := { mem.pair with st := .active, unacked := [(4, 80, 0, 0)] } }, 5, by decide +kernel⟩⟩

theorem witness_ViCommandsComplete :
    (∃ (vi : Nat) (io : HostIo) (e : Entry) (s : State), starts 0x0C01 vi io e s = true ∧ (e.p 24 1 : Nat) ≠ 0 ∧ (e.p 24 1 : Nat) ≤ 63 ∧ e.dataLen = 128 ∧ (s.inst (e.p 24 1 : Nat)).st = .absent ∧ grantRefusal (e.p 24 1 : Nat) e.buf s = none ∧ s.onTrial = false)
    ∧ (∃ (vi : Nat) (io : HostIo) (e : Entry) (s : State), starts 0x0C02 vi io e s = true ∧ (e.p 24 1 : Nat) ≠ 0 ∧ (e.p 24 1 : Nat) ≤ 63 ∧ e.dataLen = 128 ∧ (s.inst (e.p 24 1 : Nat)).st = .active ∧ grantRefusal (e.p 24 1 : Nat) e.buf s = none ∧ s.grantInUse (s.inst (e.p 24 1 : Nat)).grant (parseGrant e.buf) = false ∧ s.onTrial = false)
    ∧ (∃ (vi : Nat) (io : HostIo) (e : Entry) (s : State), starts 0x0C03 vi io e s = true ∧ (e.p 24 1 : Nat) ≠ 0 ∧ (e.p 24 1 : Nat) ≤ 63 ∧ (s.inst (e.p 24 1 : Nat)).st = .active ∧ e.p 26 2 ≤ 10000 ∧ s.grantInUse (s.inst (e.p 24 1 : Nat)).grant {} = false ∧ s.onTrial = false)
    ∧ (∃ (vi : Nat) (io : HostIo) (e : Entry) (s : State), starts 0x0C04 vi io e s = true ∧ (e.p 24 1 : Nat) ≠ 0 ∧ (e.p 24 1 : Nat) ≤ 63 ∧ (s.inst (e.p 24 1 : Nat)).st = .active ∧ e.p 26 2 ≤ 10000)
    ∧ (∃ (vi : Nat) (io : HostIo) (e : Entry) (s : State), starts 0x0C05 vi io e s = true ∧ (e.p 24 1 : Nat) ≤ 63 ∧ (vi = 0 ∨ vi = (e.p 24 1 : Nat)) ∧ s.created (e.p 24 1 : Nat) = true ∧ (s.inst (e.p 24 1 : Nat)).st ≠ .resetting ∧ e.p 25 1 = 0 ∧ e.p 27 1 = 1 ∧ e.p 26 1 < s.queueCount (e.p 24 1 : Nat) 0 ∧ 4 ≤ e.p 28 1 ∧ e.p 28 1 ≤ 12 ∧ e.p 32 8 % 4096 = 0 ∧ bit (e.p 29 1) 0 = false)
    ∧ (∃ (vi : Nat) (io : HostIo) (e : Entry) (s : State), starts 0x0C05 vi io e s = true ∧ (e.p 24 1 : Nat) ≤ 63 ∧ (vi = 0 ∨ vi = (e.p 24 1 : Nat)) ∧ s.created (e.p 24 1 : Nat) = true ∧ (s.inst (e.p 24 1 : Nat)).st ≠ .resetting ∧ e.p 25 1 = 1 ∧ e.p 27 1 = 2 ∧ e.p 26 1 < s.queueCount (e.p 24 1 : Nat) 1 ∧ bit (e.p 29 1) 0 = false ∧ (s.injQueueOf (e.p 24 1 : Nat) (e.p 26 1)).fetched = [])
    ∧ (∃ (vi : Nat) (io : HostIo) (e : Entry) (s : State), starts 0x0C05 vi io e s = true ∧ (e.p 24 1 : Nat) ≤ 63 ∧ (vi = 0 ∨ vi = (e.p 24 1 : Nat)) ∧ s.created (e.p 24 1 : Nat) = true ∧ (s.inst (e.p 24 1 : Nat)).st ≠ .resetting ∧ (bit (e.p 29 1) 0 = true → ∀ x, x ∈ bytesAt e.raw 40 8 → x.toNat ≤ 7))
    ∧ (∃ (vi : Nat) (io : HostIo) (e : Entry) (s : State), starts 0x0C06 vi io e s = true ∧ (e.p 24 1 : Nat) ≤ 63 ∧ (vi = 0 ∨ vi = (e.p 24 1 : Nat)) ∧ s.created (e.p 24 1 : Nat) = true) :=
  ⟨⟨0, yes, ent 0x0C01 [(24, 1, 63)] (zeros 28 ++ [2, 2] ++ zeros 98), queued (ent 0x0C01 [(24, 1, 63)] (zeros 28 ++ [2, 2] ++ zeros 98)), by decide +kernel⟩,
   ⟨0, yes, ent 0x0C02 [(24, 1, 5)] (zeros 28 ++ [2, 2] ++ zeros 98), queued (ent 0x0C02 [(24, 1, 5)] (zeros 28 ++ [2, 2] ++ zeros 98)) (ins), by decide +kernel⟩,
   ⟨0, yes, ent 0x0C03 [(24, 1, 5), (26, 2, 10000)], queued (ent 0x0C03 [(24, 1, 5), (26, 2, 10000)]) (ins), by decide +kernel⟩,
   ⟨0, yes, ent 0x0C04 [(24, 1, 5), (26, 2, 10000)], queued (ent 0x0C04 [(24, 1, 5), (26, 2, 10000)]) (ins), by decide +kernel⟩,
   ⟨0, yes, ent 0x0C05 [(24, 1, 5), (26, 1, 1), (27, 1, 1), (28, 1, 12), (32, 8, 4096)], queued (ent 0x0C05 [(24, 1, 5), (26, 1, 1), (27, 1, 1), (28, 1, 12), (32, 8, 4096)]) (ins), by decide +kernel⟩,
   ⟨0, yes, ent 0x0C05 [(24, 1, 5), (25, 1, 1), (26, 1, 1), (27, 1, 2)], queued (ent 0x0C05 [(24, 1, 5), (25, 1, 1), (26, 1, 1), (27, 1, 2)]) (ins), by decide +kernel⟩,
   ⟨0, yes, ent 0x0C05 [(24, 1, 5), (29, 1, 1)], queued (ent 0x0C05 [(24, 1, 5), (29, 1, 1)]) (ins), by decide +kernel⟩,
   ⟨0, yes, ent 0x0C06 [(24, 1, 5)] ([]) 512, queued (ent 0x0C06 [(24, 1, 5)] ([]) 512) (ins), by decide +kernel⟩⟩

theorem witness_ViQueuesComplete :
    (∃ (vi : Nat) (s : State), (s.inst vi).st = .resetting ∧ s.readsOut vi = false ∧ ((s.undrained vi = [] ∧ (s.inst vi).punts = []) ∨ (s.inst vi).resetDeadline ≤ s.mono))
    ∧ (∃ (vi : Nat) (s : State), (s.inst vi).st = .resetting ∧ s.readsOut vi = false ∧ (s.inst vi).resetDeadline ≤ s.mono ∧ (s.inst vi).destroying = false)
    ∧ (∃ (vi : Nat) (q : Nat) (s : State) (c : _) (b : _) (l : _), s.nextPunt vi q = some c ∧ (s.puntQueueOf vi q).bufs = b :: l ∧ c.ended = true ∧ s.hostReach vi = true)
    ∧ (∃ (vi : Nat) (q : Nat) (s : State) (c : _) (b : _) (l : _), s.nextPunt vi q = some c ∧ (s.puntQueueOf vi q).bufs = b :: l ∧ c.ended = true ∧ s.hostReach vi = true)
    ∧ (∃ (vi : Nat) (q : Nat) (s : State) (x : InjSlot) (l : _), (s.injQueueOf vi q).slots = x :: l ∧ s.adm.poolXoff = false ∧ s.hostReach vi = true ∧ s.injectBad vi x.raw = false)
    ∧ (∃ (vi : Nat) (q : Nat) (s : State) (x : InjSlot) (l : _), (s.injQueueOf vi q).slots = x :: l ∧ s.adm.poolXoff = false ∧ s.hostReach vi = true ∧ s.injectBad vi x.raw = true)
    ∧ (∃ (vi : Nat) (q : Nat) (s : State) (x : _) (frame : _) (epoch : _) (y : _) (l : _), (s.injQueueOf vi q).fetched = (x, frame, epoch) :: y :: l)
    ∧ (∃ (vi : Nat) (q : Nat) (s : State) (x : _) (frame : _) (epoch : _), (s.injQueueOf vi q).fetched = [(x, frame, epoch)])
    ∧ (∃ (vi : Nat) (q : Nat) (s : State) (x : _) (frame : _) (epoch : _) (y : _) (l : _), (s.injQueueOf vi q).fetched = (x, frame, epoch) :: y :: l)
    ∧ (∃ (vi : Nat) (q : Nat) (s : State) (x : _) (frame : _) (epoch : _), (s.injQueueOf vi q).fetched = [(x, frame, epoch)]) :=
  ⟨⟨5, { ins with insts := up.insts ++ [(5, { st := .resetting })] }, by decide +kernel⟩,
   ⟨5, { ins with insts := up.insts ++ [(5, { st := .resetting })] }, by decide +kernel⟩,
   ⟨5, 0, { ins with insts := up.insts ++ [(5, { st := .active, grant := { puntQueues := 2, injectQueues := 2 }, puntQ := [(0, { enabled := true, bufs := [⟨64, 200⟩] })], punts := [{ pkt := { id := 4, bytes := zeros 100 }, ended := true }] })] }, { pkt := { id := 4, bytes := zeros 100 }, ended := true }, ⟨64, 200⟩, [], by decide +kernel⟩,
   ⟨5, 0, { ins with insts := up.insts ++ [(5, { st := .active, grant := { puntQueues := 2, injectQueues := 2 }, puntQ := [(0, { enabled := true, bufs := [⟨64, 200⟩] })], punts := [{ pkt := { id := 4, bytes := zeros 100 }, ended := true }] })] }, { pkt := { id := 4, bytes := zeros 100 }, ended := true }, ⟨64, 200⟩, [], by decide +kernel⟩,
   ⟨5, 0, { ins with insts := up.insts ++ [(5, { st := .active, grant := { puntQueues := 2, injectQueues := 2 }, injQ := [(0, { enabled := true, slots := [⟨inj60⟩] })] })] }, ⟨inj60⟩, [], by decide +kernel⟩,
   ⟨5, 0, { ins with insts := up.insts ++ [(5, { st := .active, grant := { puntQueues := 2, injectQueues := 2 }, injQ := [(0, { enabled := true, slots := [⟨zeros 64⟩] })] })] }, ⟨zeros 64⟩, [], by decide +kernel⟩,
   ⟨5, 0, { ins with insts := up.insts ++ [(5, { st := .active, grant := { puntQueues := 2, injectQueues := 2 }, injQ := [(0, { enabled := true, fetched := [(⟨inj60⟩, zeros 60, 0), (⟨inj60⟩, zeros 60, 0)] })] })] }, ⟨inj60⟩, zeros 60, 0, (⟨inj60⟩, zeros 60, 0), [], by decide +kernel⟩,
   ⟨5, 0, { ins with insts := up.insts ++ [(5, { st := .active, grant := { puntQueues := 2, injectQueues := 2 }, injQ := [(0, { enabled := true, fetched := [(⟨inj60⟩, zeros 60, 0)] })] })] }, ⟨inj60⟩, zeros 60, 0, by decide +kernel⟩,
   ⟨5, 0, { ins with insts := up.insts ++ [(5, { st := .active, grant := { puntQueues := 2, injectQueues := 2 }, injQ := [(0, { enabled := true, fetched := [(⟨inj60⟩, zeros 60, 0), (⟨inj60⟩, zeros 60, 0)] })] })] }, ⟨inj60⟩, zeros 60, 0, (⟨inj60⟩, zeros 60, 0), [], by decide +kernel⟩,
   ⟨5, 0, { ins with insts := up.insts ++ [(5, { st := .active, grant := { puntQueues := 2, injectQueues := 2 }, injQ := [(0, { enabled := true, fetched := [(⟨inj60⟩, zeros 60, 0)] })] })] }, ⟨inj60⟩, zeros 60, 0, by decide +kernel⟩⟩

theorem witness_SecCommandsComplete :
    (∃ (vi : Nat) (io : HostIo) (e : Entry) (s : State) (c : _) (resp : _), starts 0x0D01 vi io e s = true ∧ 4 ≤ e.p 24 2 ∧ e.p 24 2 ≤ 4096 ∧ e.p 24 2 ≤ e.dataLen ∧ spdmAnswer (mgetD s.sec.spdm vi {}) (e.buf.take (e.p 24 2)) (taken vi s) = (c, resp))
    ∧ (∃ (vi : Nat) (io : HostIo) (e : Entry) (s : State), starts 0x0D02 vi io e s = true)
    ∧ (∃ (vi : Nat) (io : HostIo) (e : Entry) (s : State), starts 0x0D03 vi io e s = true)
    ∧ (∃ (vi : Nat) (io : HostIo) (e : Entry) (s : State) (h : _), starts 0x0D04 vi io e s = true ∧ e.dataLen = 192 ∧ le e.buf 3 5 = 0 ∧ le e.buf 105 3 = 0 ∧ le e.buf 184 8 = 0 ∧ le e.buf 0 1 = 1 ∧ (le e.buf 1 1 = 1 ∨ le e.buf 1 1 = 2) ∧ bit (e.p 24 1) 0 = false ∧ s.freeHandle (le e.buf 1 1 == 2) = some h)
    ∧ (∃ (vi : Nat) (io : HostIo) (e : Entry) (s : State) (h : _), starts 0x0D04 vi io e s = true ∧ e.dataLen = 192 ∧ le e.buf 3 5 = 0 ∧ le e.buf 105 3 = 0 ∧ le e.buf 184 8 = 0 ∧ le e.buf 0 1 = 1 ∧ le e.buf 1 1 = 2 ∧ bit (e.p 24 1) 0 = true ∧ s.freeHandle true = some h ∧ s.onTrial = false)
    ∧ (∃ (vi : Nat) (io : HostIo) (e : Entry) (s : State), starts 0x0D05 vi io e s = true ∧ mhas s.sec.keys (e.p 24 2) = true ∧ s.keyInUse (e.p 24 2) = false ∧ mhas s.sec.cfg.caks (e.p 24 2) = true ∧ s.onTrial = false)
    ∧ (∃ (vi : Nat) (io : HostIo) (e : Entry) (s : State), starts 0x0D05 vi io e s = true ∧ mhas s.sec.keys (e.p 24 2) = true ∧ s.keyInUse (e.p 24 2) = false ∧ mhas s.sec.cfg.caks (e.p 24 2) = false)
    ∧ (∃ (vi : Nat) (io : HostIo) (e : Entry) (s : State) (c : _) (k : _), starts 0x0D06 vi io e s = true ∧ s.pcfg (e.p 24 1) = some c ∧ c.type ≠ 2 ∧ e.p 25 1 = 1 ∧ s.isPaired (e.p 24 1) = false ∧ 1 ≤ e.p 29 1 ∧ e.p 29 1 ≤ 32 ∧ 500 ≤ orDefault (e.p 30 2) 2000 ∧ orDefault (e.p 30 2) 2000 ≤ 2000 ∧ mget s.sec.keys (e.p 26 2) = some k ∧ k.cak = true ∧ (k.port = e.p 24 1 ∨ k.port = 0xFF))
    ∧ (∃ (vi : Nat) (io : HostIo) (e : Entry) (s : State) (c : _), starts 0x0D06 vi io e s = true ∧ s.pcfg (e.p 24 1) = some c ∧ c.type ≠ 2 ∧ e.p 25 1 = 2 ∧ mhas s.sec.mka (e.p 24 1) = true)
    ∧ (∃ (vi : Nat) (io : HostIo) (e : Entry) (s : State), starts 0x0D07 vi io e s = true ∧ e.p 24 1 = 1 ∧ 60 ≤ orDefault (e.p 28 4) 86400 ∧ orDefault (e.p 28 4) 86400 ≤ 604800 ∧ s.onTrial = false)
    ∧ (∃ (vi : Nat) (io : HostIo) (e : Entry) (s : State), starts 0x0D07 vi io e s = true ∧ e.p 24 1 = 2 ∧ e.p 25 1 ≤ 16 ∧ (s.link (e.p 25 1)).keyed = true ∧ (s.link (e.p 25 1)).running = false)
    ∧ (∃ (vi : Nat) (io : HostIo) (e : Entry) (s : State), starts 0x0D07 vi io e s = true ∧ e.p 24 1 = 2 ∧ e.p 25 1 ≤ 16 ∧ (s.link (e.p 25 1)).keyed = true ∧ (s.link (e.p 25 1)).running = true)
    ∧ (∃ (vi : Nat) (io : HostIo) (e : Entry) (s : State), starts 0x0D09 vi io e s = true ∧ e.p 24 1 = 1)
    ∧ (∃ (vi : Nat) (io : HostIo) (e : Entry) (s : State), starts 0x0D08 vi io e s = true ∧ e.p 24 1 ≤ 3 ∧ e.p 25 1 = 1 ∧ e.dataLen = 97 ∧ s.sec.cfg.anchors.length < 4 ∧ s.onTrial = false)
    ∧ (∃ (vi : Nat) (io : HostIo) (e : Entry) (s : State), starts 0x0D08 vi io e s = true ∧ e.p 24 1 ≤ 3 ∧ e.p 25 1 = 2 ∧ mhas s.sec.cfg.anchors (e.p 24 1) = true ∧ s.onTrial = false)
    ∧ (∃ (vi : Nat) (io : HostIo) (e : Entry) (s : State), starts 0x0D09 vi io e s = true ∧ e.p 24 1 = 2 ∧ 0 < e.dataLen ∧ e.dataLen ≤ 8192 ∧ s.onTrial = false)
    ∧ (∃ (vi : Nat) (io : HostIo) (e : Entry) (s : State), starts 0x0D09 vi io e s = true ∧ e.p 24 1 = 3 ∧ s.onTrial = false)
    ∧ (∃ (vi : Nat) (io : HostIo) (e : Entry) (s : State), starts 0x0D0A vi io e s = true ∧ e.p 24 1 = 1 ∧ 32 ≤ e.dataLen)
    ∧ (∃ (vi : Nat) (io : HostIo) (e : Entry) (s : State) (c : _), starts 0x0D0A vi io e s = true ∧ e.p 24 1 = 2 ∧ ((e.p 25 1) = 1 ∨ (e.p 25 1) = 2) ∧ e.dataLen = 96 ∧ (s.sec.life = .production ∨ (s.sec.life = .armed ∧ (e.p 25 1) = 2)) ∧ s.sec.challenge = some c)
    ∧ (∃ (vi : Nat) (io : HostIo) (e : Entry) (s : State), starts 0x0D0B vi io e s = true ∧ e.p 24 4 = 0x5EC0DE ∧ s.sec.zeroize < 16) :=
  ⟨⟨0, yes, ent 0x0D01 [(24, 2, 8)] (zeros 8), queued (ent 0x0D01 [(24, 2, 8)] (zeros 8)), (spdmAnswer (mgetD (queued (ent 0x0D01 [(24, 2, 8)] (zeros 8))).sec.spdm 0 {}) ((ent 0x0D01 [(24, 2, 8)] (zeros 8)).buf.take ((ent 0x0D01 [(24, 2, 8)] (zeros 8)).p 24 2)) (taken 0 (queued (ent 0x0D01 [(24, 2, 8)] (zeros 8))))).1, (spdmAnswer (mgetD (queued (ent 0x0D01 [(24, 2, 8)] (zeros 8))).sec.spdm 0 {}) ((ent 0x0D01 [(24, 2, 8)] (zeros 8)).buf.take ((ent 0x0D01 [(24, 2, 8)] (zeros 8)).p 24 2)) (taken 0 (queued (ent 0x0D01 [(24, 2, 8)] (zeros 8))))).2, by (repeat' apply And.intro) <;> first | decide +kernel | rfl⟩,
   ⟨0, yes, ent 0x0D02 [] ([]) 32, queued (ent 0x0D02 [] ([]) 32), by decide +kernel⟩,
   ⟨0, yes, ent 0x0D03 [] ([]) 200, queued (ent 0x0D03 [] ([]) 200), by decide +kernel⟩,
   ⟨0, yes, ent 0x0D04 [] ([1, 1] ++ zeros 190), queued (ent 0x0D04 [] ([1, 1] ++ zeros 190)), ((queued (ent 0x0D04 [] ([1, 1] ++ zeros 190))).freeHandle false).getD 0, by decide +kernel⟩,
   ⟨0, yes, ent 0x0D04 [(24, 1, 1)] ([1, 2] ++ zeros 190), queued (ent 0x0D04 [(24, 1, 1)] ([1, 2] ++ zeros 190)), 0x5000, by decide +kernel⟩,
   ⟨0, yes, ent 0x0D05 [(24, 2, 7)], queued (ent 0x0D05 [(24, 2, 7)]) ({ up with sec := { up.sec with keys := [(7, {})], cfg := { caks := [(7, (0, []))] } } }), by decide +kernel⟩,
   ⟨0, yes, ent 0x0D05 [(24, 2, 7)], queued (ent 0x0D05 [(24, 2, 7)]) ({ up with sec := { up.sec with keys := [(7, {})] } }), by decide +kernel⟩,
   ⟨0, yes, ent 0x0D06 [(25, 1, 1), (26, 2, 0x5000), (29, 1, 32), (30, 2, 500)], queued (ent 0x0D06 [(25, 1, 1), (26, 2, 0x5000), (29, 1, 32), (30, 2, 500)]) ({ eth with sec := { eth.sec with keys := [(0x5000, { cak := true })] } }), {}, { cak := true }, by decide +kernel⟩,
   ⟨0, yes, ent 0x0D06 [(25, 1, 2)], queued (ent 0x0D06 [(25, 1, 2)]) ({ eth with sec := { eth.sec with mka := [(0, {})] } }), {}, by decide +kernel⟩,
   ⟨0, yes, ent 0x0D07 [(24, 1, 1), (26, 1, 1), (28, 4, 604800)], queued (ent 0x0D07 [(24, 1, 1), (26, 1, 1), (28, 4, 604800)]), by decide +kernel⟩,
   ⟨0, yes, ent 0x0D07 [(24, 1, 2), (25, 1, 3)], queued (ent 0x0D07 [(24, 1, 2), (25, 1, 3)]) ({ up with sec := { up.sec with links := [(3, { keyed := true })] } }), by decide +kernel⟩,
   ⟨0, yes, ent 0x0D07 [(24, 1, 2), (25, 1, 16)], queued (ent 0x0D07 [(24, 1, 2), (25, 1, 16)]) ({ up with sec := { up.sec with links := [(16, { keyed := true, running := true })] } }), by decide +kernel⟩,
   ⟨0, yes, ent 0x0D09 [(24, 1, 1)], queued (ent 0x0D09 [(24, 1, 1)]), by decide +kernel⟩,
   ⟨0, yes, ent 0x0D08 [(24, 1, 3), (25, 1, 1), (26, 1, 3)] (zeros 97), queued (ent 0x0D08 [(24, 1, 3), (25, 1, 1), (26, 1, 3)] (zeros 97)), by decide +kernel⟩,
   ⟨0, yes, ent 0x0D08 [(24, 1, 3), (25, 1, 2)], queued (ent 0x0D08 [(24, 1, 3), (25, 1, 2)]) ({ up with sec := { up.sec with cfg := { anchors := [(3, (3, []))] } } }), by decide +kernel⟩,
   ⟨0, yes, ent 0x0D09 [(24, 1, 2)] (zeros 90), queued (ent 0x0D09 [(24, 1, 2)] (zeros 90)), by decide +kernel⟩,
   ⟨0, yes, ent 0x0D09 [(24, 1, 3)], queued (ent 0x0D09 [(24, 1, 3)]), by decide +kernel⟩,
   ⟨0, yes, ent 0x0D0A [(24, 1, 1)] ([]) 32, queued (ent 0x0D0A [(24, 1, 1)] ([]) 32), by decide +kernel⟩,
   ⟨0, yes, ent 0x0D0A [(24, 1, 2), (25, 1, 1)] (zeros 96), queued (ent 0x0D0A [(24, 1, 2), (25, 1, 1)] (zeros 96)) ({ up with sec := { up.sec with challenge := some [1] } }), [1], by decide +kernel⟩,
   ⟨0, yes, ent 0x0D0B [(24, 4, 0x5EC0DE)], queued (ent 0x0D0B [(24, 4, 0x5EC0DE)]) ({ up with sec := { up.sec with zeroize := 15 } }), by decide +kernel⟩⟩

theorem witness_SecEventsComplete :
    (∃ (s : State) (l : _), s.linkEncrypted l = true ∧ (s.link l).running = true)
    ∧ (∃ (s : State) (l : _), s.linkEncrypted l = true ∧ (s.link l).running = false)
    ∧ (∃ (s : State) (root : _) (far : _) (pair : _), s.linkEncrypted 16 = true ∧ (s.link 16).ephemeral = true ∧ s.trusts root = true ∧ (far ≠ s.partnerOf ∨ pair ≠ s.pairSun))
    ∧ (∃ (s : State) (p : _) (m : Mkpdu) (k : _), mget s.sec.mka p = some k ∧ s.portLive p = true ∧ m.icvOk = true)
    ∧ (∃ (s : State) (l : _) (root : _) (far : _) (pair : _), s.linkEncrypted l = true ∧ (s.link l).ephemeral = true ∧ (s.link l).keyed = true ∧ s.trusts root = true ∧ (l = 16 → far = s.partnerOf ∧ pair = s.pairSun))
    ∧ (∃ (s : State) (l : _) (root : _) (far : _) (pair : _), s.linkEncrypted l = true ∧ (s.link l).ephemeral = true ∧ (s.link l).keyed = false ∧ s.trusts root = true ∧ (l = 16 → far = s.partnerOf ∧ pair = s.pairSun))
    ∧ (∃ (s : State) (l : _) (root : _), s.linkEncrypted l = true ∧ (s.link l).ephemeral = true ∧ s.trusts root = false)
    ∧ (∃ (s : State) (l : _), s.linkEncrypted l = true)
    ∧ (∃ (s : State) (l : _), (s.link l).keyed = true ∧ (s.link l).running = false ∧ (s.link l).retryAt = none ∧ (s.link l).lastAt + Config.sec s.sec.cfg.rekeyInterval ≤ s.mono)
    ∧ (∃ (s : State) (l : _) (at_ : _), (s.link l).retryAt = some at_ ∧ at_ ≤ s.mono)
    ∧ (∃ (s : State) (l : _) (at_ : _), (s.link l).oldUntil = some at_ ∧ at_ ≤ s.mono)
    ∧ (∃ (s : State) (p : _) (m : Mkpdu) (k : _), mget s.sec.mka p = some k ∧ s.portLive p = true ∧ m.icvOk = true ∧ m.live = true ∧ mhas k.peers m.member = true ∧ m.sak = none)
    ∧ (∃ (s : State) (p : _) (m : Mkpdu) (k : _), mget s.sec.mka p = some k ∧ s.portLive p = true ∧ m.icvOk = false)
    ∧ (∃ (s : State) (p : _) (k : _), mget s.sec.mka p = some k ∧ s.portLive p = true ∧ k.nextHello ≤ s.mono)
    ∧ (∃ (s : State) (p : _) (k : _) (peer : _) (pr : _) (at_ : _), mget s.sec.mka p = some k ∧ mget k.peers peer = some (pr, at_) ∧ at_ ≤ s.mono) :=
  ⟨⟨{ up with fab := { up.fab with cfg := { planes := [(15, { encrypt := true })] } }, sec := { up.sec with links := [(15, { running := true })] } }, 15, by decide +kernel⟩,
   ⟨{ up with fab := { up.fab with cfg := { planes := [(15, { encrypt := true })] } }, sec := { up.sec with links := [(15, {  })] } }, 15, by decide +kernel⟩,
   ⟨{ mem with sec := { mem.sec with links := [(16, { ephemeral := true })] } }, [], 3, 9, by decide +kernel⟩,
   ⟨{ eth with sec := { eth.sec with mka := [(0, {  })] } }, 0, (⟨true, 4, 2, true, none⟩ : Mkpdu), {}, by decide +kernel⟩,
   ⟨{ up with fab := { up.fab with cfg := { planes := [(15, { encrypt := true })] } }, sec := { up.sec with links := [(15, { keyed := true, ephemeral := true })] } }, 15, [], 2, 9, by decide +kernel⟩,
   ⟨{ up with fab := { up.fab with cfg := { planes := [(15, { encrypt := true })] } }, sec := { up.sec with links := [(15, { ephemeral := true })] } }, 15, [], 2, 9, by decide +kernel⟩,
   ⟨{ up with fab := { up.fab with cfg := { planes := [(15, { encrypt := true })] } }, sec := { up.sec with links := [(15, { ephemeral := true })] } }, 15, [1], by decide +kernel⟩,
   ⟨{ up with fab := { up.fab with cfg := { planes := [(15, { encrypt := true })] } }, sec := { up.sec with links := [(15, {  })] } }, 15, by decide +kernel⟩,
   ⟨{ up with mono := 10000000000000000, fab := { up.fab with cfg := { planes := [(15, { encrypt := true })] } }, sec := { up.sec with links := [(15, { keyed := true })] } }, 15, by decide +kernel⟩,
   ⟨{ up with fab := { up.fab with cfg := { planes := [(15, { encrypt := true })] } }, sec := { up.sec with links := [(15, { keyed := true, retryAt := some 0 })] } }, 15, 0, by decide +kernel⟩,
   ⟨{ up with fab := { up.fab with cfg := { planes := [(15, { encrypt := true })] } }, sec := { up.sec with links := [(15, { keyed := true, oldUntil := some 0 })] } }, 15, 0, by decide +kernel⟩,
   ⟨{ eth with sec := { eth.sec with mka := [(0, { peers := [(4, (1, 9))] })] } }, 0, (⟨true, 4, 2, true, none⟩ : Mkpdu), { peers := [(4, (1, 9))] }, by decide +kernel⟩,
   ⟨{ eth with sec := { eth.sec with mka := [(0, {  })] } }, 0, (⟨false, 4, 2, true, none⟩ : Mkpdu), {}, by decide +kernel⟩,
   ⟨{ eth with sec := { eth.sec with mka := [(0, {  })] } }, 0, {}, by decide +kernel⟩,
   ⟨{ eth with sec := { eth.sec with mka := [(0, { peers := [(4, (1, 0))] })] } }, 0, { peers := [(4, (1, 0))] }, 4, 1, 0, by decide +kernel⟩⟩

theorem witness_UpdCommandsComplete :
    (∃ (vi : Nat) (io : HostIo) (e : Entry) (s : State), starts 0x0E01 vi io e s = true ∧ s.upd.trial = none ∧ e.p 24 4 = e.dataLen ∧ headOk e.buf e.dataLen = true ∧ le e.buf 22 2 = 0x2560 ∧ le e.buf 24 1 = 0xB0 ∧ s.upd.keyFloor ≤ le e.buf 25 1 ∧ s.upd.fusedSvn ≤ le e.buf 27 1 ∧ ((s.slot s.target).session = false ∨ ((s.slot s.target).owned = false ∧ (s.slot s.target).digest ≠ headDigest e.buf)))
    ∧ (∃ (vi : Nat) (io : HostIo) (e : Entry) (s : State), starts 0x0E01 vi io e s = true ∧ s.upd.trial = none ∧ e.p 24 4 = e.dataLen ∧ headOk e.buf e.dataLen = true ∧ le e.buf 22 2 = 0x2560 ∧ le e.buf 24 1 = 0xB0 ∧ s.upd.keyFloor ≤ le e.buf 25 1 ∧ s.upd.fusedSvn ≤ le e.buf 27 1 ∧ (s.slot s.target).session = true ∧ (s.slot s.target).digest = headDigest e.buf)
    ∧ (∃ (vi : Nat) (io : HostIo) (e : Entry) (s : State), starts 0x0E02 vi io e s = true ∧ (s.slot s.target).session = true ∧ (s.slot s.target).named e = true ∧ e.p 24 2 < (s.slot s.target).chunkCount ∧ e.dataLen = (s.slot s.target).chunkLen (e.p 24 2) ∧ (s.slot s.target).holds (e.p 24 2) = false ∧ ({ (s.slot s.target) with chunks := mset (s.slot s.target).chunks (e.p 24 2) e.buf }).chunks.length < ({ (s.slot s.target) with chunks := mset (s.slot s.target).chunks (e.p 24 2) e.buf }).chunkCount)
    ∧ (∃ (vi : Nat) (io : HostIo) (e : Entry) (s : State), starts 0x0E02 vi io e s = true ∧ (s.slot s.target).session = true ∧ (s.slot s.target).named e = true ∧ e.p 24 2 < (s.slot s.target).chunkCount ∧ e.dataLen = (s.slot s.target).chunkLen (e.p 24 2) ∧ (s.slot s.target).holds (e.p 24 2) = false ∧ ({ (s.slot s.target) with chunks := mset (s.slot s.target).chunks (e.p 24 2) e.buf }).chunks.length = ({ (s.slot s.target) with chunks := mset (s.slot s.target).chunks (e.p 24 2) e.buf }).chunkCount)
    ∧ (∃ (vi : Nat) (io : HostIo) (e : Entry) (s : State), starts 0x0E02 vi io e s = true ∧ (s.slot s.target).session = true ∧ (s.slot s.target).named e = true ∧ e.p 24 2 < (s.slot s.target).chunkCount ∧ e.dataLen = (s.slot s.target).chunkLen (e.p 24 2) ∧ (s.slot s.target).holds (e.p 24 2) = true)
    ∧ (∃ (vi : Nat) (io : HostIo) (e : Entry) (s : State), starts 0x0E03 vi io e s = true)
    ∧ (∃ (vi : Nat) (io : HostIo) (e : Entry) (s : State), starts 0x0E04 vi io e s = true ∧ e.p 24 1 ≤ 1 ∧ (s.slot (e.p 24 1)).named e = true ∧ (s.slot (e.p 24 1)).session = true)
    ∧ (∃ (vi : Nat) (io : HostIo) (e : Entry) (s : State), starts 0x0E04 vi io e s = true ∧ e.p 24 1 ≤ 1 ∧ (s.slot (e.p 24 1)).named e = true ∧ (s.slot (e.p 24 1)).session = false ∧ s.upd.trial = some (e.p 24 1))
    ∧ (∃ (vi : Nat) (io : HostIo) (e : Entry) (s : State) (n : _), starts 0x0E05 vi io e s = true ∧ e.p 24 1 = 1 ∧ e.p 26 2 ≤ 10000 ∧ e.p 28 2 ≤ 1440 ∧ s.upd.trial = none ∧ s.verifiedSlot e = some n ∧ s.hif.recovery = false ∧ s.dev.phase ≠ .fail ∧ le (s.slot n).head 32 4 ≤ s.hif.fwVersion ∧ (s.member = true → s.pair.disc = .none_ ∨ s.pair.disc = .seeking ∨ le (s.slot n).head 32 4 ≤ s.pair.partnerFw))
    ∧ (∃ (vi : Nat) (io : HostIo) (e : Entry) (s : State) (n : _), starts 0x0E05 vi io e s = true ∧ e.p 24 1 = 2 ∧ e.p 26 2 ≤ 10000 ∧ e.p 28 2 ≤ 1440 ∧ s.upd.trial = none ∧ s.verifiedSlot e = some n)
    ∧ (∃ (vi : Nat) (io : HostIo) (e : Entry) (s : State) (n : _), starts 0x0E06 vi io e s = true ∧ s.upd.trial = some n ∧ (s.slot n).named e = true ∧ s.upd.swap ≠ 1 ∧ (s.slot n).svn ≤ s.upd.fusedSvn ∧ le (s.slot n).head 26 1 ≤ s.upd.keyFloor)
    ∧ (∃ (vi : Nat) (io : HostIo) (e : Entry) (s : State) (n : _) (a : _) (u : _) (b : _) (v : _), starts 0x0E06 vi io e s = true ∧ s.upd.trial = some n ∧ (s.slot n).named e = true ∧ s.upd.swap ≠ 1 ∧ burnFuses (fun x => { x with fusedSvn := x.fusedSvn + 1 }) ((s.slot n).svn - s.upd.fusedSvn) (taken vi s) = (a, u) ∧ burnFuses (fun x => { x with keyFloor := x.keyFloor + 1 }) (le (s.slot n).head 26 1 - u.upd.keyFloor) u = (b, v))
    ∧ (∃ (vi : Nat) (io : HostIo) (e : Entry) (s : State) (n : _), starts 0x0E06 vi io e s = true ∧ s.upd.trial = some n ∧ (s.slot n).named e = true ∧ s.upd.swap ≠ 1 ∧ (s.slot n).svn = s.upd.fusedSvn + 1 ∧ le (s.slot n).head 26 1 ≤ s.upd.keyFloor) :=
  ⟨⟨0, yes, ent 0x0E01 [(24, 4, 5923)] (head1) 5923, queued (ent 0x0E01 [(24, 4, 5923)] (head1) 5923), by refine ⟨starts_of ?_ rfl ?_, ?_, ?_, ?_, ?_, ?_, ?_, ?_, ?_⟩ <;> decide +kernel⟩,
   ⟨0, yes, ent 0x0E01 [(24, 4, 5923)] (head1) 5923, queued (ent 0x0E01 [(24, 4, 5923)] (head1) 5923) ({ up with upd := { slotB := { st := .downloading, digest := headDigest (ent 0x0E01 [(24, 4, 5923)] (head1) 5923).buf } } }), by refine ⟨starts_of ?_ rfl ?_, ?_, ?_, ?_, ?_, ?_, ?_, ?_, ?_, rfl⟩ <;> decide +kernel⟩,
   ⟨0, yes, ent 0x0E02 [(24, 2, 1)] (zeros 8), queued (ent 0x0E02 [(24, 2, 1)] (zeros 8)) (slotB { st := .downloading, head := head2 }), by decide +kernel⟩,
   ⟨0, yes, ent 0x0E02 [(24, 2, 0)] (zeros 8), queued (ent 0x0E02 [(24, 2, 0)] (zeros 8)) (slotB { st := .downloading, head := head3 }), by decide +kernel⟩,
   ⟨0, yes, ent 0x0E02 [(24, 2, 0)] (zeros 8), queued (ent 0x0E02 [(24, 2, 0)] (zeros 8)) (slotB { st := .downloading, head := head3, chunks := [(0, zeros 8)] }), by decide +kernel⟩,
   ⟨0, yes, ent 0x0E03 [] ([]) 400, queued (ent 0x0E03 [] ([]) 400), by decide +kernel⟩,
   ⟨0, yes, ent 0x0E04 [(24, 1, 1)], queued (ent 0x0E04 [(24, 1, 1)]) (slotB { st := .downloading }), by decide +kernel⟩,
   ⟨0, yes, ent 0x0E04 [(24, 1, 1)], queued (ent 0x0E04 [(24, 1, 1)]) (slotB { st := .trial } (some 1)), by decide +kernel⟩,
   ⟨0, yes, ent 0x0E05 [(24, 1, 1), (26, 2, 10000), (28, 2, 1440)], queued (ent 0x0E05 [(24, 1, 1), (26, 2, 10000), (28, 2, 1440)]) (slotB { st := .verified }), 1, by decide +kernel⟩,
   ⟨0, yes, ent 0x0E05 [(24, 1, 2), (26, 2, 10000), (28, 2, 1440)], queued (ent 0x0E05 [(24, 1, 2), (26, 2, 10000), (28, 2, 1440)]) (slotB { st := .verified }), 1, by decide +kernel⟩,
   ⟨0, yes, ent 0x0E06, queued (ent 0x0E06) (slotB { st := .trial } (some 1)), 1, by decide +kernel⟩,
   ⟨0, yes, ent 0x0E06, queued (ent 0x0E06) (slotB { st := .trial, svn := 1 } (some 1)), 1, (burnFuses (fun x => { x with fusedSvn := x.fusedSvn + 1 }) 1 (taken 0 (queued (ent 0x0E06) (slotB { st := .trial, svn := 1 } (some 1))))).1, (burnFuses (fun x => { x with fusedSvn := x.fusedSvn + 1 }) 1 (taken 0 (queued (ent 0x0E06) (slotB { st := .trial, svn := 1 } (some 1))))).2, (burnFuses (fun x => { x with keyFloor := x.keyFloor + 1 }) (0 - (burnFuses (fun x => { x with fusedSvn := x.fusedSvn + 1 }) 1 (taken 0 (queued (ent 0x0E06) (slotB { st := .trial, svn := 1 } (some 1))))).2.upd.keyFloor) (burnFuses (fun x => { x with fusedSvn := x.fusedSvn + 1 }) 1 (taken 0 (queued (ent 0x0E06) (slotB { st := .trial, svn := 1 } (some 1))))).2).1, (burnFuses (fun x => { x with keyFloor := x.keyFloor + 1 }) (0 - (burnFuses (fun x => { x with fusedSvn := x.fusedSvn + 1 }) 1 (taken 0 (queued (ent 0x0E06) (slotB { st := .trial, svn := 1 } (some 1))))).2.upd.keyFloor) (burnFuses (fun x => { x with fusedSvn := x.fusedSvn + 1 }) 1 (taken 0 (queued (ent 0x0E06) (slotB { st := .trial, svn := 1 } (some 1))))).2).2, by (repeat' apply And.intro) <;> first | decide +kernel | rfl⟩,
   ⟨0, yes, ent 0x0E06, queued (ent 0x0E06) (slotB { st := .trial, svn := 1 } (some 1)), 1, by decide +kernel⟩⟩

theorem witness_UpdEventsComplete :
    (∃ (s : State) (n : _), s.swapReached = some n ∧ s.hif.fwReady = true ∧ s.upd.swap = 1)
    ∧ (∃ (s : State) (at_ : _), at_ ≤ s.mono ∧ s.swapWaits = true)
    ∧ (∃ (s : State) (at_ : _), s.upd.swapAt = some at_ ∧ at_ ≤ s.mono ∧ s.swapWaits = true ∧ s.tbl.epochs.length < 4 ∧ s.spanTooWide = false ∧ s.pair.st ≠ .active)
    ∧ (∃ (s : State) (at_ : _), s.upd.swapAt = some at_ ∧ at_ ≤ s.mono ∧ s.swapWaits = true ∧ 4 ≤ s.tbl.epochs.length)
    ∧ (∃ (s : State) (at_ : _), s.upd.retryAt = some at_ ∧ at_ ≤ s.mono ∧ s.swapWaits = true ∧ s.tbl.epochs.length < 4 ∧ s.spanTooWide = false ∧ s.pair.st ≠ .active)
    ∧ (∃ (s : State) (at_ : _), s.upd.retryAt = some at_ ∧ at_ ≤ s.mono ∧ s.swapWaits = true ∧ 4 ≤ s.tbl.epochs.length)
    ∧ (∃ (s : State), s.upd.linkSwap = true ∧ s.upd.trial = none)
    ∧ (∃ (s : State) (n : _), s.upd.linkSwap = true ∧ s.upd.trial = some n)
    ∧ (∃ (s : State) (n : _) (at_ : _), s.upd.confirmBy = some at_ ∧ s.upd.trial = some n ∧ at_ ≤ s.mono ∧ s.hif.fwReady = true) :=
  ⟨⟨{ up with upd := { up.upd with swap := 1, swapBase := some 2 }, tbl := { up.tbl with epochs := [{ num := 3 }] } }, 3, by decide +kernel⟩,
   ⟨{ up with upd := { up.upd with swap := 1, swapBase := some 3 }, tbl := { up.tbl with epochs := [{ num := 3 }] } }, 0, by decide +kernel⟩,
   ⟨{ up with upd := { up.upd with swap := 1, swapBase := some 3, swapAt := some 0 }, tbl := { up.tbl with epochs := [{ num := 3 }] } }, 0, by decide +kernel⟩,
   ⟨{ up with upd := { up.upd with swap := 1, swapBase := some 5, swapAt := some 0 }, tbl := { up.tbl with epochs := [{ num := 2 }, { num := 3 }, { num := 4 }, { num := 5 }] } }, 0, by decide +kernel⟩,
   ⟨{ up with upd := { up.upd with swap := 1, swapBase := some 3, retryAt := some 0 }, tbl := { up.tbl with epochs := [{ num := 3 }] } }, 0, by decide +kernel⟩,
   ⟨{ up with upd := { up.upd with swap := 1, swapBase := some 5, retryAt := some 0 }, tbl := { up.tbl with epochs := [{ num := 2 }, { num := 3 }, { num := 4 }, { num := 5 }] } }, 0, by decide +kernel⟩,
   ⟨{ up with upd := { up.upd with linkSwap := true } }, by decide +kernel⟩,
   ⟨{ up with upd := { up.upd with linkSwap := true, trial := some 1 } }, 1, by decide +kernel⟩,
   ⟨{ up with upd := { up.upd with confirmBy := some 0, trial := some 1 } }, 1, 0, by decide +kernel⟩⟩

theorem witness_StepRunsTheFrontCommand :
    (∃ s : State, s.pending = [] ∧ s.pwr.rootLocked = false)
    ∧ (∃ s : State, s.pending = [] ∧ s.pwr.rootLocked = true ∧ 2 ≤ s.dev.step ∧ s.dev.inReset = false)
    ∧ (∃ s : State, s.pending = [] ∧ s.pwr.rootLocked = true ∧ (s.dev.step < 2 ∨ s.dev.inReset = true))
    ∧ (∃ s : State, s.fab.loop = [] ∧ s.fab.lanes.filter (fun l => l.2.inUse) = []) :=
  ⟨⟨State.reset, by decide⟩, ⟨{ up with pwr := { up.pwr with rootLocked := true } }, by decide⟩,
    ⟨{ State.reset with pwr := { State.reset.pwr with rootLocked := true } }, by decide⟩, ⟨State.reset, by decide⟩⟩

theorem inv_reset : Inv State.reset := ⟨by decide, by decide, by decide, by decide⟩

theorem witness_StepKeepsInvariant : ∃ s t : State, Inv s ∧ Machine.step s = .next t := ⟨State.reset, _, inv_reset, rfl⟩

theorem witness_RingCommandsRunInOrder :
    (∃ (c : Instr) (op vi : Nat) (io : HostIo) (s : State), ringCommand c = some (op, vi, io)
      ∧ ((s.fn vi).sq.head?.map Entry.opcode ≠ some op ∨ s.busyVi vi = true ∨ (s.fn vi).ring ≠ .running))
    ∧ (∃ (info : CmdInfo) (r : Reply), r.wait ≠ none ∨ replicates info r = true)
    ∧ (∃ (info : CmdInfo) (r : Reply), r.wait = none ∧ replicates info r = false)
    ∧ (∃ (info : CmdInfo) (r : Reply), r.wait = none ∧ replicates info r = true) :=
  ⟨⟨.hifNop 0 yes, 0x0100, 0, yes, up, by decide +kernel⟩, ⟨{ op := 0x0100 }, { st := up, wait := some (.stepTick, false) }, by decide +kernel⟩,
    ⟨{ op := 0x0100 }, { st := up }, by decide +kernel⟩,
    ⟨{ op := 0x0A07, star := true }, { st := { mem with pair := { mem.pair with st := .active } } }, by decide +kernel⟩⟩

/-- VI.CREATE waiting in the ring of a function other than VI0. -/
def foreign (vi : Nat) : State := running [ent 0x0C01] ins vi

theorem witness_ForeignIssuersAreRefused :
    (∃ (c : Instr) (op vi : Nat) (io : HostIo) (e : Entry) (info : CmdInfo) (s : State), ringCommand c = some (op, vi, io)
      ∧ s.canStart op vi = true ∧ (s.fn vi).sq.head? = some e ∧ cmdInfo op = some info ∧ s.hif.recovery = false
      ∧ info.issuer = .vi0 ∧ vi ≠ 0 ∧ s.created vi = true)
    ∧ (∃ (c : Instr) (op vi : Nat) (io : HostIo) (e : Entry) (info : CmdInfo) (s : State), ringCommand c = some (op, vi, io)
      ∧ s.canStart op vi = true ∧ (s.fn vi).sq.head? = some e ∧ cmdInfo op = some info ∧ s.hif.recovery = false
      ∧ info.issuer ≠ .any ∧ s.created vi = false) :=
  ⟨⟨.viCreate 5 yes, 0x0C01, 5, yes, ent 0x0C01, (cmdInfo 0x0C01).getD { op := 0 }, foreign 5, by decide +kernel⟩,
    ⟨.viCreate 7 yes, 0x0C01, 7, yes, ent 0x0C01, (cmdInfo 0x0C01).getD { op := 0 }, foreign 7, by decide +kernel⟩⟩

/-- A function whose journal holds the completion of the entry that waits. -/
def journaledOnce : State :=
  (queued (ent 0x0100)).modFn 0 (fun f => { f with journal := [{ compl := { cmdId := 1 }, crc := (ent 0x0100).crc }] })

theorem witness_JournaledCompletionsAreReplayed :
    ∃ (vi : Nat) (e : Entry) (l : List Entry) (j : JEntry) (s : State), s.accepting = true ∧ s.blocked = false ∧ s.resumable = false
      ∧ s.nextServed = some vi ∧ (s.fn vi).sq = e :: l ∧ (s.fn vi).journaled e.cmdId = some j ∧ j.crc = e.crc :=
  ⟨0, ent 0x0100, [], { compl := { cmdId := 1 }, crc := (ent 0x0100).crc }, journaledOnce, by decide +kernel, by decide +kernel,
    by decide +kernel, by decide +kernel, by decide +kernel, by decide +kernel, rfl⟩

theorem witness_UndefinedOpcodesAreUnsupported :
    ∃ (vi : Nat) (e : Entry) (l : List Entry) (s : State), s.accepting = true ∧ s.blocked = false ∧ s.resumable = false
      ∧ s.nextServed = some vi ∧ (s.fn vi).sq = e :: l ∧ treat (s.fn vi) e = .execute ∧ cmdInfo e.opcode = none :=
  ⟨0, ent 0x7777, [], queued (ent 0x7777), by decide +kernel⟩

end Sys2Proof.Tests
end

section
/-! SUPPORT. The direct registers without a ring behind them: the guard of a host access, the shadow registers, the MSI-X table and the
diagnostic window, and what each of the five commands that reach them does. -/

namespace Sys2Proof.Machine

/-! ### Guards and functions -/

@[simp] theorem when_true (s t : State) : when true s t = t := rfl
@[simp] theorem when_false (s t : State) : when false s t = s := rfl

/-- A change that leaves what its function holds leaves what every function holds. -/
theorem State.modFn_fn_of_fixed {s : State} {vi : Nat} {f : Fn → Fn} (h : f (s.fn vi) = s.fn vi) (w : Nat) : (s.modFn vi f).fn w = s.fn w := by
  by_cases hw : w = vi
  · subst hw; rw [State.modFn_fn, h]
  · exact State.modFn_fn_ne s f hw

/-! ### The shadow registers and the MSI-X table -/

theorem RingRegs.write_unlisted (r : RingRegs) {off : Nat} (v : Word) (h : off ∉ [0x40, 0x44, 0x48, 0x50, 0x54, 0x58, 0x60, 0x64, 0x68]) :
    r.write off v = r := by
  simp only [List.mem_cons, List.not_mem_nil, or_false, not_or] at h
  simp [RingRegs.write, h]

theorem msixIndex_word {i : Nat} (hi : i < 16) : msixIndex (0x4000 + 4 * i) = some i := by
  rw [msixIndex, if_pos (by omega)]
  congr 1
  omega

theorem msixIndex_eq_none {off : Nat} (h : ∀ i, i < 16 → off ≠ 0x4000 + 4 * i) : msixIndex off = none := by
  rw [msixIndex, if_neg]
  rintro ⟨hlo, hhi, hal⟩
  exact h ((off - 0x4000) / 4) (by omega) (by omega)

theorem signal_of_unmasked {vi vec : Nat} {s : State} (h : (s.fn vi).masked vec = false) : signal vi vec s = s.emit (.msix vi vec) := by
  simp [signal, h]

/-- R49: the pending vector that a write signals is one the written word leaves unmasked, so its message is sent. -/
theorem msixWrite_eq {vi i : Nat} {v : Word} {s t : State}
    (ht : t = s.modFn vi (fun f => { f with msix := f.msix.set i (msixWord (i % 4) v) })) :
    msixWrite vi i v s = if (t.fn vi).pba.getLsbD (i / 4) && !(t.fn vi).masked (i / 4)
      then (t.modFn vi (fun f => { f with pba := f.pba &&& ~~~ (BitVec.ofNat 32 (2 ^ (i / 4))) })).emit (.msix vi (i / 4)) else t := by
  subst ht
  unfold msixWrite
  refine ite_congr rfl (fun hp => signal_of_unmasked ?_) (fun _ => rfl)
  obtain ⟨-, hm⟩ := Bool.and_eq_true_iff.mp hp
  rw [State.modFn_fn]
  exact (Bool.not_eq_true' _).mp hm

/-! ### The diagnostic window -/

/-- What an instance may select does not depend on what its function holds. -/
@[simp] theorem State.modFn_winDenied (s : State) (vi v : Nat) (f : Fn → Fn) (sel : Word) :
    (s.modFn vi f).winDenied v sel = s.winDenied v sel := rfl

/-- A key is none of those listed: it differs from each of them. -/
theorem decide_not_mem_flatMap_map {α β : Type} (l : List α) (g : α → List β) (f : β → Nat) (k : Nat) :
    decide (k ∉ l.flatMap (fun a => (g a).map f)) = l.all (fun a => (g a).all (fun b => decide (k ≠ f b))) := by
  rw [Bool.eq_iff_iff]
  simp [eq_comm (a := k)]

/-! ### The arms of the five commands -/

theorem exec_hifFaultClear (vi : Nat) (value : Word) (s : State) : exec (.hifFaultClear vi value) s = execHifFaultClear vi value s := rfl
theorem exec_hifWinSel (vi : Nat) (value : Word) (s : State) : exec (.hifWinSel vi value) s = execHifWinSel vi value s := rfl
theorem exec_winDataLowRead (vi v : Nat) (s : State) : exec (.winDataLowRead vi v) s = execWinDataLowRead vi v s := rfl
theorem exec_winOvf (vi : Nat) (value : Word) (s : State) : exec (.winOvf vi value) s = execWinOvf vi value s := rfl
theorem exec_registerWrite (vi off : Nat) (value : Word) (allBytes : Bool) (s : State) :
    exec (.registerWrite vi off value allBytes) s = execRegisterWrite vi off value allBytes s := rfl

/-! ### Accesses that are ignored -/

/-- R52: a host access that does not reach its function does nothing. -/
theorem exec_directRegister_of_unreached {vi off v : Nat} {value : Word} {allBytes : Bool} {s : State} (h : s.hostReach vi = false) :
    ∀ i ∈ [Instr.hifFaultClear vi value, .hifWinSel vi value, .winDataLowRead vi v, .winOvf vi value, .registerWrite vi off value allBytes],
      exec i s = .next s := by
  intro i hi
  simp only [List.mem_cons, List.not_mem_nil, or_false] at hi
  rcases hi with rfl | rfl | rfl | rfl | rfl
  · simp [exec_hifFaultClear, execHifFaultClear, h]
  · simp [exec_hifWinSel, execHifWinSel, h]
  · simp [exec_winDataLowRead, execWinDataLowRead, h]
  · simp [exec_winOvf, execWinOvf, h]
  · simp [exec_registerWrite, execRegisterWrite, h]

theorem exec_winDataLowRead_of_ge {v : Nat} (vi : Nat) (s : State) (hv : 16 ≤ v) : exec (.winDataLowRead vi v) s = .next s := by
  simp [exec_winDataLowRead, execWinDataLowRead, Nat.not_lt.mpr hv]

theorem exec_winOvf_of_invalid {vi : Nat} {s : State} (value : Word) (hw : s.winValid vi (s.fn vi).winSel = false) :
    exec (.winOvf vi value) s = .next s := by
  simp [exec_winOvf, execWinOvf, hw]

/-- R557: a write whose byte enables are not all set is ignored. -/
theorem exec_registerWrite_of_partial (vi off : Nat) (value : Word) (s : State) : exec (.registerWrite vi off value false) s = .next s := by
  simp [exec_registerWrite, execRegisterWrite]

/-! ### Accesses that reach their function -/

section Reached
variable {vi : Nat} {s : State} (h : s.hostReach vi = true)
include h

theorem exec_hifFaultClear_of_reached (value : Word) :
    exec (.hifFaultClear vi value) s = .next (s.modFn vi (fun f => { f with fault := f.fault &&& ~~~ (value &&& 0x3E) })) := by
  simp only [exec_hifFaultClear, execHifFaultClear, h, when_true]

theorem exec_hifWinSel_of_permitted {value : Word} (hd : s.winDenied vi (value &&& 0x00FFFFFF) = false) :
    exec (.hifWinSel vi value) s = .next (s.modFn vi (fun f => { f with winSel := value &&& 0x00FFFFFF })) := by
  simp only [exec_hifWinSel, execHifWinSel, h, when_true, State.modFn_winDenied, hd, Bool.false_eq_true, if_false]

theorem exec_hifWinSel_of_denied {value : Word} (hd : s.winDenied vi (value &&& 0x00FFFFFF) = true) :
    exec (.hifWinSel vi value) s =
      .next (count Cn.hifWinDenied vi 1 (s.modFn vi (fun f => { f with winSel := value &&& 0x00FFFFFF }))) := by
  simp only [exec_hifWinSel, execHifWinSel, h, when_true, State.modFn_winDenied, hd, if_true]

theorem exec_winDataLowRead_of_lt {v : Nat} {u : State}
    (hu : u = if s.winValid vi (s.fn vi).winSel then s.riseCounts (winBank (s.fn vi).winSel) (winChannel (s.fn vi).winSel) v else s)
    (hv : v < 16) :
    exec (.winDataLowRead vi v) s = .next ((u.drawn.modFn vi (fun f => { f with
      latch := some (v, BitVec.ofNat 32 (u.winShown vi v / 2 ^ 32)) })).emit
        (.readAnswer vi (0x2100 + 8 * v) (BitVec.ofNat 32 (u.winShown vi v % 2 ^ 32)))) := by
  subst hu
  simp only [exec_winDataLowRead, execWinDataLowRead, h, hv, decide_true, Bool.and_self, when_true]

theorem exec_winOvf_of_valid (value : Word) (hw : s.winValid vi (s.fn vi).winSel = true) :
    exec (.winOvf vi value) s = .next { s with cnt := { s.cnt with
      ovf := s.cnt.ovf.filter (fun k => (bitsSet value.toNat 16).all (fun i =>
        (s.winCounters (winBank (s.fn vi).winSel) (winChannel (s.fn vi).winSel) i).all (fun c => decide (k ≠ counterKey c.1 c.2)))) } } := by
  simp only [exec_winOvf, execWinOvf, h, hw, Bool.and_self, when_true, decide_not_mem_flatMap_map]

theorem exec_registerWrite_of_msix {i : Nat} (value : Word) (hi : i < 16) :
    exec (.registerWrite vi (0x4000 + 4 * i) value true) s = .next (msixWrite vi i value s) := by
  simp only [exec_registerWrite, execRegisterWrite, h, Bool.and_self, when_true, msixIndex_word hi]

theorem exec_registerWrite_of_shadow {off : Nat} (value : Word) (ho : msixIndex off = none) :
    exec (.registerWrite vi off value true) s = .next (s.modFn vi (fun f => { f with shadow := f.shadow.write off value })) := by
  simp only [exec_registerWrite, execRegisterWrite, h, Bool.and_self, when_true, ho]

/-- A write beside the shadow registers and the MSI-X table leaves every function, and the rest of the state, as it was. -/
theorem exec_registerWrite_of_unlisted {off : Nat} (value : Word) (hs : off ∉ [0x40, 0x44, 0x48, 0x50, 0x54, 0x58, 0x60, 0x64, 0x68])
    (hm : ∀ i, i < 16 → off ≠ 0x4000 + 4 * i) :
    ∃ t, exec (.registerWrite vi off value true) s = .next t ∧ (∀ w, t.fn w = s.fn w) ∧ Changes [.rings] s t :=
  ⟨_, exec_registerWrite_of_shadow h value (msixIndex_eq_none hm),
    State.modFn_fn_of_fixed (by simp only [RingRegs.write_unlisted _ value hs]), State.modFn_changes ..⟩

end Reached

/-- Settles O3: each clause is the lemma about its command, its selection or its offset; a shadow register's clause is
`RingRegs.write` at that register's offset, which lies outside the MSI-X table. -/
theorem directRegistersComplete : Obligations.DirectRegistersComplete := by
  intro vi off v value allBytes s
  refine ⟨fun h => ?_, exec_directRegister_of_unreached⟩
  have shadow {o : Nat} (ho : msixIndex o = none) := exec_registerWrite_of_shadow h value ho
  refine ⟨exec_hifFaultClear_of_reached h value, exec_hifWinSel_of_permitted h, exec_hifWinSel_of_denied h,
    fun _ => exec_winDataLowRead_of_lt h, exec_winDataLowRead_of_ge vi s, exec_winOvf_of_valid h value, exec_winOvf_of_invalid value,
    shadow rfl, shadow rfl, shadow rfl, shadow rfl, shadow rfl, shadow rfl, shadow rfl, shadow rfl, shadow rfl,
    fun i t hi ht => ?_, exec_registerWrite_of_unlisted h value, exec_registerWrite_of_partial vi off value s⟩
  rw [exec_registerWrite_of_msix h value hi, msixWrite_eq ht]

end Sys2Proof.Machine
end

section
/-! SUPPORT. The pair journal on both members (R37, R402): what the standby's tail does with records and marks, and what an acknowledged mark
leaves on the active. -/

namespace Sys2Proof.Machine

@[simp] theorem State.modPair_pair (s : State) (f : Pair → Pair) : (s.modPair f).pair = f s.pair := rfl

/-! ### The standby's tail -/

/-- Records without a mark behind them stay in the tail. -/
theorem applyTail_of_unmarked (fuel : Nat) {s : State} (h : ∀ r ∈ s.pair.tail, ∀ n, r ≠ .mark n) : applyTail fuel s = s := by
  cases fuel with
  | zero => rfl
  | succ fuel =>
    unfold applyTail
    extract_lets isMark before
    have unmarked : ∀ r ∈ s.pair.tail, (!isMark r) = true := fun r hr => by
      cases r with
      | mark n => exact absurd rfl (h _ hr n)
      | bulk | command => rfl
    have whole : before = s.pair.tail := by
      show s.pair.tail.takeWhile (fun r => !isMark r) = s.pair.tail
      have split := List.takeWhile_append_of_pos (l₂ := []) unmarked
      rwa [List.append_nil, List.takeWhile_nil, List.append_nil] at split
    simp only [whole, List.drop_length]

/-- The records before the first mark are applied there, and the mark is acknowledged. -/
theorem applyTail_of_mark (fuel : Nat) {s t : State} {recs rest : List JournalRec} {n : Nat} (htail : s.pair.tail = recs ++ .mark n :: rest)
    (h : ∀ r ∈ recs, ∀ m, r ≠ .mark m) (ht : applyRecs recs s = some t) :
    applyTail (fuel + 1) s = applyTail fuel ((t.modPair (fun p => { p with
      tail := rest, tailSince := if rest = [] then none else some s.mono, tailBytes := if rest = [] then 0 else p.tailBytes })).emit
        (.journal [.mark n])) := by
  conv => lhs; unfold applyTail
  extract_lets isMark before
  have unmarked : ∀ r ∈ recs, (!isMark r) = true := fun r hr => by
    cases r with
    | mark m => exact absurd rfl (h _ hr m)
    | bulk | command => rfl
  have first : before = recs := by
    show s.pair.tail.takeWhile (fun r => !isMark r) = recs
    rw [htail, List.takeWhile_append_of_pos unmarked, List.takeWhile_cons_of_neg (by simp [isMark]), List.append_nil]
  simp only [first, htail, List.drop_left, ht]

theorem applyRecs_command {vi : Nat} {e : Entry} {st dt : Nat} {res : List Byte} {s t : State} (h : applyCommand vi e st dt res s = some t) :
    applyRecs [.command vi e st dt res] s = some t := by
  simp [applyRecs, h]

/-- R402: a member that follows adds the records to its tail, applies what it can of the tail, and judges its lag anew. -/
theorem exec_journalEntry_of_follower {s u : State} {recs : List JournalRec} {bytes : Nat} (hm : s.member = true)
    (hst : s.pair.st = .syncing ∨ s.pair.st = .standby ∨ s.pair.st = .stale)
    (hu : u = { s with pair := { s.pair with
      tail := s.pair.tail ++ recs, tailBytes := s.pair.tailBytes + bytes,
      tailSince := if s.pair.tail = [] ∧ recs ≠ [] then some s.mono else s.pair.tailSince } }) :
    exec (.journalEntry recs bytes) s = .next (staleRefresh (applyTail ((s.pair.tail ++ recs).length + 1) u)) := by
  have guard : (s.member && (s.pair.st == .syncing || s.pair.st == .standby || s.pair.st == .stale)) = true := by
    rcases hst with h | h | h <;> rw [hm, h] <;> rfl
  show execJournalEntry recs bytes s = _
  rw [hu, execJournalEntry, guard, when_true]
  rfl

/-! ### The acknowledgement on the active -/

/-- What each step of a fold leaves, the fold leaves. -/
theorem foldS_keeps {α β : Type} (g : State → β) (f : α → State → State) (hf : ∀ a x, g (f a x) = g x) (l : List α) (s : State) :
    g (foldS l s f) = g s := by
  induction l generalizing s with
  | nil => rfl
  | cons a l ih => exact (ih (f a s)).trans (hf a s)

theorem count_pair (ev idx n : Nat) (s : State) : (count ev idx n s).pair = s.pair := (count_changes ev idx n s).same .pair (by decide)

theorem setPoint_unacked (which : Option (List Nat × Nat)) (p : Nat) (s : State) : (setPoint which p s).pair.unacked = s.pair.unacked := by
  unfold setPoint
  extract_lets a x openPoint n heldOpen u v
  have told {α : Type} (l : List α) (o : α → Output) (v : State) : (foldS l v (fun w s => s.emit (o w))).pair = v.pair :=
    foldS_keeps State.pair (fun w s => s.emit (o w)) (fun _ _ => rfl) l v
  split
  · have hv : v.pair = u.pair := told (x.switches.filter openPoint) (fun w => .arrivalPoint p w.2 a) u
    rw [told heldOpen (fun _ => .arrivalPoint p 0 a), hv]
    rfl
  · rfl

theorem setPoint_parked (which : Option (List Nat × Nat)) (p : Nat) (s : State) : (setPoint which p s).hif.parked = s.hif.parked :=
  congrArg (fun q => q.2.1) ((setPoint_changes which p s).same .queue (by decide))

theorem ready_of_mem_wake {f : Wait → Bool} {s : State} {p : Parked} (hp : p ∈ (wake f s).hif.parked) (hf : f p.wait = true) :
    p.ready = true := by
  obtain ⟨q, -, rfl⟩ := List.mem_map.mp hp
  by_cases hq : f q.wait = true
  · rw [if_pos hq]
  · rw [if_neg hq] at hf; exact absurd hf hq

/-- R37, R402: marks that the standby acknowledges leave the list of those outstanding, and the commands that wait for them may complete. -/
theorem exec_journalMarkAck_of_unacked {s : State} {mark : Nat} (hst : s.pair.st = .active ∨ s.pair.st = .fenced)
    (hne : s.pair.unacked.filter (fun u => decide (u.1 ≤ mark)) ≠ []) :
    ∃ t, exec (.journalMarkAck mark) s = .next t ∧ t.pair.unacked = s.pair.unacked.filter (fun u => decide (mark < u.1))
      ∧ (∀ p n, p ∈ t.hif.parked → p.wait = .mark n → n ≤ mark → p.ready = true) ∧ Changes [.rings, .queue, .pair, .cnt, .out] s t := by
  obtain ⟨t, hexec, hch⟩ := execJournalMarkAck_changes mark s
  have ht := hexec
  unfold execJournalMarkAck at ht
  extract_lets done u v eps asas at ht
  have guard : ((s.pair.st == .active || s.pair.st == .fenced) && done != []) = true :=
    Bool.and_eq_true_iff.mpr ⟨by rcases hst with h | h <;> rw [h] <;> rfl, bne_iff_ne.mpr hne⟩
  rw [guard, when_true] at ht
  obtain rfl := Host.Outcome.next.inj ht
  refine ⟨_, hexec, ?_, fun p n hp hw hn => ?_, hch⟩
  · rw [foldS_keeps (fun s => s.pair.unacked) _ (setPoint_unacked _)]
    exact congrArg Pair.unacked (count_pair ..)
  · rw [foldS_keeps (fun s => s.hif.parked) _ (setPoint_parked _)] at hp
    exact ready_of_mem_wake hp (by simp [hw, hn])

/-- Settles O45: records without a mark stay in the tail, one mark behind a command applies that command and empties the tail, and the
acknowledgement of marks is `exec_journalMarkAck_of_unacked`. -/
theorem journalComplete : Obligations.JournalComplete := by
  intro s
  refine ⟨fun recs bytes u hm hst => exec_journalEntry_of_follower hm hst, fun recs bytes hm hst hun => ?_,
    fun vi e st dt res n bytes t u hm hst htail hu ht => ?_, fun mark => exec_journalMarkAck_of_unacked⟩
  · rw [exec_journalEntry_of_follower hm (.inr (.inl hst)) rfl, applyTail_of_unmarked _ hun]
  · have entry := exec_journalEntry_of_follower (recs := [.command vi e st dt res, .mark n]) (bytes := bytes) hm (.inr (.inl hst)) (u := u)
      (by simp [hu, htail])
    rw [entry, applyTail_of_mark _ (recs := [.command vi e st dt res]) (by rw [hu]; rfl) (by simp) (applyRecs_command ht),
      applyTail_of_unmarked _ (by simp)]
    rfl

end Sys2Proof.Machine
end

section
/-! SUPPORT. A NONE token whose arrival makes the port's cut due: the active names it in the same step (R385, R408). -/

namespace Sys2Proof.Machine

/-- An active member of a pair: the run that anchors its paired port 0 began at arrival 0, and the NONE token of arrival 63 is next on the
bridge. -/
def cutDue : State :=
  { State.reset with
    pair := { cfg := { pair := some { partner := 2, pairSun := 9 }, ports := [(0, { stream := 11 })] }, st := .active,
              ports := [(0, { nextArrival := 63, runFrom := some 0 })] },
    mash := { bridge := [(0, [.none_ 63])] } }

theorem exec_noneToken_cutDue : ∃ t, exec (.noneToken 0) cutDue = .next t ∧ t.out = [.anchorCut 0 64 []] := ⟨_, rfl, rfl⟩

/-- Refutes O29: its clause on the NONE token that the numbering stage takes at once lets nothing change but Mash and the pair state, and the
arrival that puts the port 64 past its run's first sends out the cut as well (R408). -/
theorem not_qDieComplete : ¬ Obligations.QDieComplete := by
  intro h
  obtain ⟨-, -, -, -, -, -, -, -, -, hnone, -⟩ := h cutDue
  obtain ⟨t, ht, -, -, -, hch⟩ := hnone 0 63 rfl rfl rfl rfl (by decide)
  obtain ⟨u, hu, hout⟩ := exec_noneToken_cutDue
  have same : t = u := by rw [ht] at hu; exact Host.Outcome.next.inj hu
  have kept : t.out = cutDue.out := hch.same .out (by decide)
  rw [same, hout] at kept
  exact absurd kept (by decide)

end Sys2Proof.Machine
end

section
/-! SUPPORT. What notifications, interrupts and counts leave of the functions: their submissions, completions and journals. -/

namespace Sys2Proof.Machine

/-! ### Reporting -/

/-- A function without its notifications and its interrupts. -/
def Fn.silent (f : Fn) : Fn :=
  { f with sig := [], pba := 0, nq := [], nqTail := 0, nqPhase := true, heldN := [], seq := 0, lostBefore := false }

theorem Fn.ring_of_silent {f g : Fn} (h : f.silent = g.silent) : f.ring = g.ring := congrArg (·.ring) h
theorem Fn.cq_of_silent {f g : Fn} (h : f.silent = g.silent) : f.cq = g.cq := congrArg (·.cq) h
theorem Fn.journal_of_silent {f g : Fn} (h : f.silent = g.silent) : f.journal = g.journal := congrArg (·.journal) h

/-- From `s` to `t` the device only reports: notifications, interrupts and the count of those lost, no result data and nothing of a command. -/
structure Reports (s t : State) : Prop where
  /-- Every function keeps its rings' commands, completions and journal. -/
  fns : ∀ w, (t.fn w).silent = (s.fn w).silent
  /-- No result data is written. -/
  writes : ∀ f i d, Output.dataWrite f i d ∈ t.out → Output.dataWrite f i d ∈ s.out
  /-- No counter moves but those of lost notifications. -/
  vals : ∀ k, (∀ v, k ≠ counterKey Cn.hifNqLost v) → mgetD t.cnt.vals k 0 = mgetD s.cnt.vals k 0

theorem Reports.rfl {s : State} : Reports s s := ⟨fun _ => .refl _, fun _ _ _ h => h, fun _ _ => .refl _⟩

theorem Reports.trans {s t u : State} (h : Reports s t) (k : Reports t u) : Reports s u :=
  ⟨fun w => (k.fns w).trans (h.fns w), fun f i d x => h.writes f i d (k.writes f i d x), fun n hn => (k.vals n hn).trans (h.vals n hn)⟩

/-- What a change keeps of its function, it keeps of every function. -/
theorem State.modFn_keeps {β : Type} (g : Fn → β) {s : State} {vi : Nat} {f : Fn → Fn} (h : g (f (s.fn vi)) = g (s.fn vi)) (w : Nat) :
    g ((s.modFn vi f).fn w) = g (s.fn w) := by
  by_cases hw : w = vi
  · subst hw; rw [State.modFn_fn, h]
  · rw [State.modFn_fn_ne s f hw]

theorem Reports.modFn {s : State} {vi : Nat} {f : Fn → Fn} (h : (f (s.fn vi)).silent = (s.fn vi).silent) : Reports s (s.modFn vi f) :=
  ⟨State.modFn_keeps Fn.silent h, fun _ _ _ h => h, fun _ _ => .refl _⟩

theorem Reports.ite {s t u : State} {c : Prop} [Decidable c] (h : Reports s t) (k : Reports s u) : Reports s (if c then t else u) := by
  split <;> assumption

theorem Reports.foldS {α : Type} {f : α → State → State} (hf : ∀ a x, Reports x (f a x)) (l : List α) (s : State) :
    Reports s (foldS l s f) := by
  induction l generalizing s with
  | nil => exact .rfl
  | cons a l ih => exact (hf a s).trans (ih (f a s))

theorem signal_reports (vi vec : Nat) (s : State) : Reports s (signal vi vec s) :=
  .ite (.modFn rfl) ⟨fun _ => rfl, fun _ _ _ h => by simpa using h, fun _ _ => rfl⟩

theorem postVector_reports (vi vec : Nat) (s : State) : Reports s (postVector vi vec s) :=
  .ite ((Reports.modFn rfl).trans (signal_reports ..)) (.modFn rfl)

theorem writeNotif_reports (vi : Nat) (n : Notif) (s : State) : Reports s (writeNotif vi n s) := by
  unfold writeNotif
  exact (Reports.modFn rfl).trans (postVector_reports ..)

theorem bump_hifNqLost_reports (vi n : Nat) (s : State) : Reports s (bump Cn.hifNqLost vi n s) :=
  ⟨fun _ => rfl, fun _ _ _ h => h, fun _ hk => mgetD_mset_ne _ _ _ (hk vi)⟩

theorem raiseTo_reports (fuel vi : Nat) (n : Notif) (s : State) : Reports s (raiseTo fuel vi n s) := by
  induction fuel generalizing vi n s
  all_goals
    unfold raiseTo
    extract_lets f numbered t w lost
    have hnumbered : Reports s t := .modFn rfl
    have hlost : Reports s lost := (hnumbered.trans (bump_hifNqLost_reports ..)).trans (.modFn rfl)
    have hheld (n : Notif) : Reports s (t.modFn vi (fun f => { f with heldN := f.heldN ++ [n] })) := hnumbered.trans (.modFn rfl)
    refine .ite .rfl (.ite (hheld _) (.ite (hnumbered.trans (writeNotif_reports ..)) (.ite (hheld _) ?_)))
  case zero => exact hlost
  case succ fuel ih => exact .ite (hlost.trans (ih ..)) hlost

theorem notifyOne_reports (vi : Nat) (ev : Nat × Nat) (payload : List Byte) (s : State) : Reports s (notifyOne vi ev payload s) :=
  raiseTo_reports ..

theorem notify_reports (ev : Nat × Nat) (payload : List Byte) (vis : List Nat) (s : State) : Reports s (notify ev payload vis s) :=
  .foldS (fun _ _ => raiseTo_reports ..) _ _

/-- Beside its own counter, a count only reports. -/
theorem count_reports (ev idx n : Nat) (s : State) : Reports (bump ev idx n s) (count ev idx n s) :=
  .ite (notify_reports ..) .rfl

/-! ### Posting a completion -/

/-- A completion as it is written: with the ring's phase and SQ_HEAD of that moment (R58). -/
def Compl.stamped (c : Compl) (f : Fn) : Compl := { c with phase := f.cqPhase, sqHead := f.sqHead }

/-- R61: the result data of a completion, if there are any, are written before it. -/
def dataFirst (vi : Nat) (c : HeldCompl) (s : State) : State :=
  if c.compl.dataWritten then s.emit (.dataWrite vi c.compl.cmdId c.data) else s

theorem dataFirst_fn (vi : Nat) (c : HeldCompl) (s : State) (w : Nat) : (dataFirst vi c s).fn w = s.fn w := by
  unfold dataFirst
  split <;> rfl

theorem writeCompl_eq (vi : Nat) (c : HeldCompl) (s : State) : writeCompl vi c s =
    postVector vi 0 ((dataFirst vi c s).modFn vi (fun f => { f with
      cq := f.cq ++ [c.compl.stamped (s.fn vi)],
      cqTail := (ringStep (s.fn vi).active.cqSize (s.fn vi).cqTail (s.fn vi).cqPhase).1,
      cqPhase := (ringStep (s.fn vi).active.cqSize (s.fn vi).cqTail (s.fn vi).cqPhase).2 })) := rfl

theorem writeCompl_cq (vi : Nat) (c : HeldCompl) (s : State) :
    ((writeCompl vi c s).fn vi).cq = (s.fn vi).cq ++ [c.compl.stamped (s.fn vi)] := by
  rw [writeCompl_eq, Fn.cq_of_silent ((postVector_reports ..).fns vi), State.modFn_fn, dataFirst_fn]

theorem writeCompl_journal (vi : Nat) (c : HeldCompl) (s : State) (w : Nat) : ((writeCompl vi c s).fn w).journal = (s.fn w).journal := by
  rw [writeCompl_eq, Fn.journal_of_silent ((postVector_reports ..).fns w), State.modFn_keeps Fn.journal rfl, dataFirst_fn]

theorem writeCompl_writes {vi : Nat} {c : HeldCompl} {s : State} (h : c.compl.dataWritten = false) {f i : Nat} {d : List Byte}
    (hd : Output.dataWrite f i d ∈ (writeCompl vi c s).out) : Output.dataWrite f i d ∈ s.out := by
  rw [writeCompl_eq] at hd
  have before := (postVector_reports ..).writes f i d hd
  rwa [State.modFn_out, dataFirst, h] at before

/-- A function whose rings run gets its completion at once while the link is up and firmware accepts commands. -/
theorem postCompl_of_live {vi : Nat} {s : State} (c : HeldCompl) (hl : (s.fn vi).live = true) (hu : s.hif.linkUp = true) (ha : s.accepting = true) :
    postCompl vi c s = writeCompl vi c s := by
  simp [postCompl, hl, hu, ha]

theorem postCompl_journal (vi : Nat) (c : HeldCompl) (s : State) (w : Nat) : ((postCompl vi c s).fn w).journal = (s.fn w).journal := by
  unfold postCompl
  split
  · rfl
  · split
    · exact writeCompl_journal ..
    · exact State.modFn_keeps Fn.journal rfl w

/-- The end of draining changes a function's ring state and its submissions, nothing else of it. -/
theorem drainCheck_keeps {β : Type} (g : Fn → β) (hg : ∀ f r q, g { f with ring := r, sq := q } = g f) (vi : Nat) (s : State) (w : Nat) :
    g ((drainCheck vi s).fn w) = g (s.fn w) := by
  unfold drainCheck
  dsimp only
  split
  · exact State.modFn_keeps g (hg ..) w
  · rfl

/-- The last part of every completion (R66, R73, R554): it is posted, told if NOTIFY is set, and a draining ring may have ended. -/
def postAndTell (vi : Nat) (c : HeldCompl) (tell : Bool) (payload : List Byte) (s : State) : State :=
  drainCheck vi (if tell then notifyOne vi Ev.hifCmdDone payload (postCompl vi c s) else postCompl vi c s)

theorem answer_eq (vi : Nat) (e : Entry) (c : Compl) (s : State) : answer vi e c s =
    postAndTell vi { compl := c } e.notifyFlag (putLe 8 c.cmdId ++ putLe 2 c.status ++ putLe 2 c.detail ++ putLe 1 (b2n c.replayed)) s := rfl

theorem told_reports (vi : Nat) (tell : Bool) (payload : List Byte) (s : State) :
    Reports s (if tell then notifyOne vi Ev.hifCmdDone payload s else s) := .ite (notifyOne_reports ..) .rfl

section PostAndTell
variable (vi : Nat) (c : HeldCompl) (tell : Bool) (payload : List Byte) (s : State)

theorem postAndTell_journal (w : Nat) : ((postAndTell vi c tell payload s).fn w).journal = (s.fn w).journal := by
  unfold postAndTell
  rw [drainCheck_keeps Fn.journal (fun _ _ _ => rfl), Fn.journal_of_silent ((told_reports ..).fns w), postCompl_journal]

theorem postAndTell_vals {k : Nat} (hk : ∀ v, k ≠ counterKey Cn.hifNqLost v) :
    mgetD (postAndTell vi c tell payload s).cnt.vals k 0 = mgetD s.cnt.vals k 0 := by
  have drained := (drainCheck_changes vi (if tell then notifyOne vi Ev.hifCmdDone payload (postCompl vi c s) else postCompl vi c s)).same
    .cnt (by decide)
  have posted := (postCompl_changes vi c s).same .cnt (by decide)
  unfold postAndTell
  rw [show _ = _ from drained, (told_reports ..).vals k hk, show _ = _ from posted]

theorem postAndTell_cq (hl : (s.fn vi).live = true) (hu : s.hif.linkUp = true) (ha : s.accepting = true) :
    ((postAndTell vi c tell payload s).fn vi).cq = (s.fn vi).cq ++ [c.compl.stamped (s.fn vi)] := by
  unfold postAndTell
  rw [drainCheck_keeps Fn.cq (fun _ _ _ => rfl), Fn.cq_of_silent ((told_reports ..).fns vi), postCompl_of_live c hl hu ha, writeCompl_cq]

theorem postAndTell_writes (hl : (s.fn vi).live = true) (hu : s.hif.linkUp = true) (ha : s.accepting = true) (hw : c.compl.dataWritten = false)
    {f i : Nat} {d : List Byte} (hd : Output.dataWrite f i d ∈ (postAndTell vi c tell payload s).out) : Output.dataWrite f i d ∈ s.out := by
  have drained := (drainCheck_changes vi (if tell then notifyOne vi Ev.hifCmdDone payload (postCompl vi c s) else postCompl vi c s)).same
    .out (by decide)
  unfold postAndTell at hd
  rw [show _ = _ from drained] at hd
  have posted := (told_reports ..).writes f i d hd
  rw [postCompl_of_live c hl hu ha] at posted
  exact writeCompl_writes hw posted

end PostAndTell

end Sys2Proof.Machine
end

section
/-! SUPPORT. The rings' service: an entry at a ring's head that starts no execution is answered (R65, R74, R75), and what finishes
is journaled (R66, R71). -/

namespace Sys2Proof.Machine

/-! ### The journal -/

/-- A record changes a function's journal, nothing else of it. -/
theorem Fn.record_keeps {β : Type} (g : Fn → β) (hg : ∀ f l, g { f with journal := l } = g f) (f : Fn) (j : JEntry) : g (f.record j) = g f :=
  hg f _

theorem Fn.record_getLast (f : Fn) (j : JEntry) : (f.record j).journal.getLast? = some j := by
  simp only [Fn.record, List.getLast?_drop, List.getLast?_append, List.length_append, List.length_singleton, List.getLast?_singleton]
  rw [if_neg (by omega)]
  rfl

theorem Fn.record_length_le (f : Fn) (j : JEntry) : (f.record j).journal.length ≤ 4096 := by
  simp only [Fn.record, List.length_drop]
  omega

/-- The completion of a command with this reply, `ok` saying that its result data can be written (R61). -/
def Reply.compl (r : Reply) (id : Nat) (ok : Bool) : Compl :=
  { cmdId := id, status := (resultWrite ok r).1, detail := (resultWrite ok r).2.1, dataWritten := (resultWrite ok r).2.2.2,
    resultLen := (resultWrite ok r).2.2.1.length, result := fit 12 r.result }

/-- The state that a reply leaves, a failed write of its result data counted. -/
def Reply.counted (r : Reply) (vi : Nat) (ok : Bool) : State := if r.data ≠ [] ∧ ¬ ok then count Cn.hifCmdErr vi 1 r.st else r.st

/-- What is finished is recorded, then posted. -/
theorem finish_eq {vi : Nat} {e : Entry} {w ok : Bool} {r : Reply} (hok : ok = (w || !r.st.hif.linkUp)) : finish vi e w r =
    postAndTell vi { compl := r.compl e.cmdId ok, data := (resultWrite ok r).2.2.1 } e.notifyFlag
      (putLe 8 e.cmdId ++ putLe 2 (resultWrite ok r).1 ++ putLe 2 (resultWrite ok r).2.1 ++ [0])
      ((r.counted vi ok).modFn vi (fun f => f.record { compl := r.compl e.cmdId ok, crc := e.crc })) := by
  subst hok; rfl

section NoData
variable {vi : Nat} {e : Entry} {w : Bool} {r : Reply} (hd : r.data = [])
include hd

theorem finish_of_no_data : ∃ c payload, c.cmdId = e.cmdId ∧ c.status = r.status ∧ c.detail = r.detail ∧ finish vi e w r =
    postAndTell vi { compl := c } e.notifyFlag payload (r.st.modFn vi (fun f => f.record { compl := c, crc := e.crc })) :=
  ⟨{ cmdId := e.cmdId, status := r.status, detail := r.detail, result := fit 12 r.result },
    putLe 8 e.cmdId ++ putLe 2 r.status ++ putLe 2 r.detail ++ [0],
    rfl, rfl, rfl, by simp [finish_eq rfl, Reply.compl, Reply.counted, resultWrite, hd]⟩

/-- A command without result data is completed in its ring with its reply's status and detail. -/
theorem finish_cq (hl : (r.st.fn vi).live = true) (hu : r.st.hif.linkUp = true) (ha : r.st.accepting = true) :
    ∃ c, ((finish vi e w r).fn vi).cq = (r.st.fn vi).cq ++ [c] ∧ c.cmdId = e.cmdId ∧ c.status = r.status ∧ c.detail = r.detail := by
  obtain ⟨c, payload, hid, hst, hdt, hf⟩ := finish_of_no_data (vi := vi) (e := e) (w := w) hd
  have live : ((r.st.modFn vi (fun f => f.record { compl := c, crc := e.crc })).fn vi).live = true := by
    rw [State.modFn_fn, Fn.record_keeps Fn.live (fun _ _ => rfl), hl]
  refine ⟨c.stamped ((r.st.fn vi).record { compl := c, crc := e.crc }), ?_, hid, hst, hdt⟩
  rw [hf, postAndTell_cq _ _ _ _ _ live hu ha, State.modFn_fn, Fn.record_keeps Fn.cq (fun _ _ => rfl)]

theorem finish_vals {k : Nat} (hk : ∀ v, k ≠ counterKey Cn.hifNqLost v) :
    mgetD (finish vi e w r).cnt.vals k 0 = mgetD r.st.cnt.vals k 0 := by
  obtain ⟨c, payload, -, -, -, hf⟩ := finish_of_no_data (vi := vi) (e := e) (w := w) hd
  rw [hf, postAndTell_vals _ _ _ _ _ hk, State.modFn_cnt]

end NoData

/-- R66, R71: what is finished stands last in the journal, which keeps to its bound. -/
theorem finish_journals (vi : Nat) (e : Entry) (w : Bool) (r : Reply) : ∃ j, ((finish vi e w r).fn vi).journal.getLast? = some j
    ∧ j.compl.cmdId = e.cmdId ∧ j.crc = e.crc ∧ ((finish vi e w r).fn vi).journal.length ≤ 4096 := by
  rw [finish_eq rfl, postAndTell_journal, State.modFn_fn]
  exact ⟨_, Fn.record_getLast .., rfl, rfl, Fn.record_length_le ..⟩

/-! ### Whose turn it is -/

theorem mem_of_nextServed {s : State} {vi : Nat} (h : s.nextServed = some vi) : vi ∈ (List.range 64).filter (fun v => s.hasWork v) := by
  unfold State.nextServed at h
  dsimp only at h
  split at h
  · split at h
    · obtain rfl := Option.some.inj h
      exact List.mem_of_find?_eq_some ‹_›
    · exact List.mem_of_head? h
  · exact List.mem_of_head? h

theorem lt_of_nextServed {s : State} {vi : Nat} (h : s.nextServed = some vi) : vi < 64 :=
  List.mem_range.mp (List.mem_filter.mp (mem_of_nextServed h)).1

theorem hasWork_of_nextServed {s : State} {vi : Nat} (h : s.nextServed = some vi) : s.hasWork vi = true :=
  (List.mem_filter.mp (mem_of_nextServed h)).2

/-- R52, R58, R66: a function is served while its rings run, the link is up and none of its commands is unfinished. -/
theorem served_of_nextServed {s : State} {vi : Nat} (h : s.nextServed = some vi) :
    (s.fn vi).ring = .running ∧ s.hif.linkUp = true ∧ s.busyVi vi = false := by
  have hw := hasWork_of_nextServed h
  simp only [State.hasWork, Bool.and_eq_true, beq_iff_eq, Bool.not_eq_true'] at hw
  obtain ⟨⟨⟨⟨⟨-, hring⟩, -⟩, hlink⟩, hbusy⟩, -⟩ := hw
  exact ⟨hring, hlink, hbusy⟩

theorem live_of_running {f : Fn} (h : f.ring = .running) : f.live = true := by rw [Fn.live, h]; rfl

/-! ### Entries that start no execution -/

theorem taken_fn (vi : Nat) (s : State) : (taken vi s).fn vi =
    { s.fn vi with sq := (s.fn vi).sq.drop 1, sqHead := ((s.fn vi).sqHead + 1) % ringEntries (s.fn vi).active.sqSize } := by
  rw [taken, popSq, State.modFn_fn]; rfl

/-- An entry is taken from its ring. -/
theorem taken_changes (vi : Nat) (s : State) : Changes [.rings, .queue] s (taken vi s) :=
  Changes.via (Changes.set_queue Changes.rfl (by with_reducible rfl) (by with_reducible rfl) (by decide)) (popSq_changes ..) (by decide)

/-- One round of service: the next entry starts no execution, and its answer is given. -/
theorem settle_succ_of_answered {fuel vi : Nat} {e : Entry} {l : List Entry} {s t : State} (ha : s.accepting = true) (hb : s.blocked = false)
    (hr : s.resumable = false) (hn : s.nextServed = some vi) (hq : (s.fn vi).sq = e :: l) (ht : nonExecuting vi e (taken vi s) = some t) :
    settle (fuel + 1) s = settle fuel t := by
  rw [settle, ha, hb, hr]
  simp only [Bool.not_false, Bool.and_self, if_true, hn, hq]
  change (match nonExecuting vi e (taken vi s) with | none => s | some s1 => settle fuel s1) = _
  rw [ht]

theorem accepting_of_core {s t : State} (h : t.hif.core = s.hif.core) : t.accepting = s.accepting := by
  have read := congrArg (fun h : Hif => h.fwReady || h.recovery) h
  exact read

theorem count_silent (ev idx n : Nat) (s : State) (w : Nat) : ((count ev idx n s).fn w).silent = (s.fn w).silent :=
  (count_reports ev idx n s).fns w

theorem count_writes {ev idx n : Nat} {s : State} {f i : Nat} {d : List Byte} (hd : Output.dataWrite f i d ∈ (count ev idx n s).out) :
    Output.dataWrite f i d ∈ s.out := (count_reports ev idx n s).writes f i d hd

/-- A counter that no lost notification moves rises by what is counted (R516). -/
theorem count_counter {ev idx n : Nat} {s : State} (h : ∀ v, counterKey ev idx ≠ counterKey Cn.hifNqLost v) :
    (count ev idx n s).counter ev idx = (s.counter ev idx + n) % 2 ^ 64 :=
  ((count_reports ev idx n s).vals _ h).trans (mgetD_mset_self ..)

theorem counterKey_hifCmdErr_ne {vi : Nat} (h : vi < 64) (v : Nat) : counterKey Cn.hifCmdErr vi ≠ counterKey Cn.hifNqLost v := by
  unfold counterKey Cn.hifCmdErr Cn.hifNqLost
  omega

/-- A function whose turn it is can be given its completion in every state that differs in its entry taken and in reports alone. -/
theorem postable_of_nextServed {vi : Nat} {s u : State} (hn : s.nextServed = some vi) (ha : s.accepting = true) (hc : u.hif.core = s.hif.core)
    (hr : (u.fn vi).ring = (s.fn vi).ring) : (u.fn vi).live = true ∧ u.hif.linkUp = true ∧ u.accepting = true := by
  obtain ⟨hring, hlink, -⟩ := served_of_nextServed hn
  have link := congrArg (fun h : Hif => h.linkUp) hc
  exact ⟨live_of_running (hr.trans hring), link.trans hlink, (accepting_of_core hc).trans ha⟩

section Head
variable {vi : Nat} {e : Entry} {s : State}

/-- R74, R75: a journaled entry with the same CRC is answered from the journal. -/
theorem nonExecuting_of_journaled {j : JEntry} (hj : (s.fn vi).journaled e.cmdId = some j) (hc : j.crc = e.crc) : nonExecuting vi e s =
    some (answer vi e { j.compl with replayed := true, dataWritten := false } (count Cn.hifReplayed vi 1 s)) := by
  simp only [nonExecuting, treat, hj, hc, if_true]

/-- R65: an entry whose opcode is not defined is refused. -/
theorem nonExecuting_of_undefined (ht : treat (s.fn vi) e = .execute) (hi : cmdInfo e.opcode = none) : nonExecuting vi e s =
    some (finish vi e true (.err (count Cn.hifCmdErr vi 1 s) St.eUnsupported Dt.hifBadOpcode)) := by
  simp only [nonExecuting, ht, hi]

end Head

/-- Settles O59: the round of service that reaches the entry answers it from the journal, and what is posted and told leaves the journal and the
result data written before as they were. -/
theorem journaledCompletionsAreReplayed : Obligations.JournaledCompletionsAreReplayed := by
  intro fuel vi e l j s ha hb hr hn hq hj hcrc
  let u := count Cn.hifReplayed vi 1 (taken vi s)
  have hu : Changes [.rings, .queue, .cnt, .out] s u := Changes.via (Changes.weaken (taken_changes vi s) (by decide)) (count_changes ..) (by decide)
  have silent : (u.fn vi).silent = ((taken vi s).fn vi).silent := count_silent ..
  obtain ⟨hl, hlink, hacc⟩ := postable_of_nextServed hn ha (hu.same .hif (by decide)) ((Fn.ring_of_silent silent).trans (by rw [taken_fn]))
  have answered := nonExecuting_of_journaled (s := taken vi s) (by rw [taken_fn]; exact hj) hcrc
  let c : Compl := { j.compl with replayed := true, dataWritten := false }
  refine ⟨_, c.stamped (u.fn vi), settle_succ_of_answered ha hb hr hn hq answered, ?cq, ?id, rfl, rfl, rfl, rfl, rfl,
    fun f i d hd => ?writes, ?journal, ?changes⟩
  case cq => rw [answer_eq, postAndTell_cq _ _ _ _ _ hl hlink hacc, Fn.cq_of_silent silent, taken_fn]
  case id => exact beq_iff_eq.mp (List.find?_some hj :)
  case writes => exact count_writes (s := taken vi s) (postAndTell_writes _ _ _ _ _ hl hlink hacc rfl hd)
  case journal => rw [answer_eq, postAndTell_journal, Fn.journal_of_silent silent, taken_fn]
  case changes => exact Changes.via hu (answer_changes ..) (by decide)

/-- Settles O60: the round of service that reaches the entry counts and finishes it, and neither the notification of its end nor that of a counter's
wrap counts in HIF_CMD_ERR. -/
theorem undefinedOpcodesAreUnsupported : Obligations.UndefinedOpcodesAreUnsupported := by
  intro fuel vi e l s ha hb hr hn hq ht hi
  let u := count Cn.hifCmdErr vi 1 (taken vi s)
  have hu : Changes [.rings, .queue, .cnt, .out] s u := Changes.via (Changes.weaken (taken_changes vi s) (by decide)) (count_changes ..) (by decide)
  have silent : (u.fn vi).silent = ((taken vi s).fn vi).silent := count_silent ..
  have own := counterKey_hifCmdErr_ne (lt_of_nextServed hn)
  have refused := nonExecuting_of_undefined (s := taken vi s) (by rw [taken_fn]; exact ht) hi
  obtain ⟨hl, hlink, hacc⟩ := postable_of_nextServed hn ha (hu.same .hif (by decide)) ((Fn.ring_of_silent silent).trans (by rw [taken_fn]))
  obtain ⟨c, hcq, hid, hst, hdt⟩ := finish_cq (e := e) (w := true) (r := .err u St.eUnsupported Dt.hifBadOpcode) rfl hl hlink hacc
  have before : (u.fn vi).cq = (s.fn vi).cq := by rw [Fn.cq_of_silent silent, taken_fn]
  exact ⟨_, c, settle_succ_of_answered ha hb hr hn hq refused, before ▸ hcq, hid, hst, hdt, (finish_vals rfl own).trans (count_counter own),
    hu.trans ((finish_changes vi e true (.err u St.eUnsupported Dt.hifBadOpcode)).weaken (by decide))⟩

end Sys2Proof.Machine
end

section
/-! SUPPORT. Commands of the submission rings: when one starts, how it is refused, and how it ends (R65, R66, R67, R68, R402). -/

namespace Sys2Proof.Machine

/-! ### Starting -/

/-- Every command of a ring is its opcode's body, run by the common path. -/
theorem exec_of_ringCommand {c : Instr} {op vi : Nat} {io : HostIo} (h : ringCommand c = some (op, vi, io)) :
    ∃ body, ∀ s, exec c s = .next (runCommand op vi io body s) := by
  cases c <;> cases h
  all_goals exact ⟨_, fun _ => rfl⟩

theorem runCommand_of_waiting {op vi : Nat} {s : State} (io : HostIo) (body : Body) (h : s.canStart op vi = false) :
    runCommand op vi io body s = s := by
  rw [runCommand, h]
  rfl

/-- R66: what a command needs to start: its function's turn, its place at the head of the ring, and that it is to execute. -/
theorem canStart_iff {op vi : Nat} {s : State} : s.canStart op vi = true ↔ s.accepting = true ∧ s.blocked = false ∧ s.resumable = false
    ∧ s.nextServed = some vi ∧ (s.fn vi).sq.head?.map Entry.opcode = some op
    ∧ (s.fn vi).sq.head?.map (treat (s.fn vi)) = some .execute := by
  simp only [State.canStart, Bool.and_eq_true, Bool.not_eq_true', decide_eq_true_eq, and_assoc]

theorem opcode_of_canStart {op vi : Nat} {e : Entry} {s : State} (hc : s.canStart op vi = true) (hq : (s.fn vi).sq.head? = some e) :
    e.opcode = op := by
  obtain ⟨-, -, -, -, hop, -⟩ := canStart_iff.mp hc
  rw [hq] at hop
  exact Option.some.inj hop

/-- A command that a check refuses is concluded with the check's reply. -/
theorem runCommand_of_refused {op vi : Nat} {io : HostIo} {e : Entry} {info : CmdInfo} {r : Reply} {s : State} (body : Body)
    (hc : s.canStart op vi = true) (hq : (s.fn vi).sq.head? = some e) (hi : cmdInfo op = some info)
    (hr : preCheck info vi io e (taken vi s) = some r) : runCommand op vi io body s = completed vi io e r := by
  obtain ⟨l, hl⟩ : ∃ l, (s.fn vi).sq = e :: l := List.head?_eq_some_iff.mp hq
  rw [runCommand, hc, if_pos rfl, hl, hi, completed, opcode_of_canStart hc hq, hi]
  change conclude info vi e io.writeOk (match preCheck info vi io e (taken vi s) with | some r => r | none => body vi e (taken vi s)) = _
  rw [hr]
  rfl

/-! ### Refusing an issuer -/

section Issuer
variable {c : CmdInfo} {vi : Nat} {e : Entry} {s : State} (io : HostIo) (hr : s.hif.recovery = false)
include hr

/-- R68: the instance of the issuer does not exist. -/
theorem preCheck_of_absent (hi : c.issuer ≠ .any) (ha : s.created vi = false) :
    preCheck c vi io e s = some (.err (count Cn.hifCmdErr vi 1 s) St.eState Dt.hifInstanceAbsent) := by
  simp [preCheck, hr, hi, ha]

/-- R68: the command is VI0's alone. -/
theorem preCheck_of_foreign (hi : c.issuer = .vi0) (hv : vi ≠ 0) (ha : s.created vi = true) :
    preCheck c vi io e s = some (.err (count Cn.hifCmdErr vi 1 s) St.eDenied Dt.hifNotPermitted) := by
  simp [preCheck, hr, hi, ha, hv]

end Issuer

/-- A refused command changes nothing but its function's rings, the counters and what leaves the device. -/
theorem completed_err_changes {vi : Nat} (io : HostIo) (e : Entry) {s u : State} {st : Nat} (dt : Nat) (hst : st ≠ St.ok)
    (hu : Changes [.rings, .queue, .cnt, .out] s u) : Changes [.rings, .queue, .cnt, .out] s (completed vi io e (.err u st dt)) := by
  have now : completed vi io e (.err u st dt) = (finish vi e io.writeOk (.err u st dt)).settled :=
    completed_now rfl (by simp [replicates, Reply.err, hst])
  rw [now]
  exact (hu.trans ((finish_changes vi e io.writeOk (.err u st dt)).weaken (by decide))).trans (State.settled_changes _)

/-- Settles O58: the two checks of R68 come first once the recovery set does not apply, and a refusal changes only what it reports. -/
theorem foreignIssuersAreRefused : Obligations.ForeignIssuersAreRefused := by
  intro c op vi io e info s hc hstart hq hi hrec
  obtain ⟨body, hexec⟩ := exec_of_ringCommand hc
  have absent (hany : info.issuer ≠ .any) (ha : s.created vi = false) : exec c s = .next (completed vi io e
      (.err (count Cn.hifCmdErr vi 1 (taken vi s)) St.eState Dt.hifInstanceAbsent)) := by
    rw [hexec, runCommand_of_refused body hstart hq hi (preCheck_of_absent (s := taken vi s) io hrec hany ha)]
  have foreign (h0 : info.issuer = .vi0) (hv : vi ≠ 0) (ha : s.created vi = true) : exec c s = .next (completed vi io e
      (.err (count Cn.hifCmdErr vi 1 (taken vi s)) St.eDenied Dt.hifNotPermitted)) := by
    rw [hexec, runCommand_of_refused body hstart hq hi (preCheck_of_foreign (s := taken vi s) io hrec h0 hv ha)]
  have counted : Changes [.rings, .queue, .cnt, .out] s (count Cn.hifCmdErr vi 1 (taken vi s)) :=
    ((taken_changes vi s).weaken (by decide)).trans ((count_changes ..).weaken (by decide))
  refine ⟨foreign, absent, fun h t ht => ?_⟩
  have refusedAbsent (hany : info.issuer ≠ .any) (ha : s.created vi = false) : Changes [.rings, .queue, .cnt, .out] s t := by
    rw [absent hany ha] at ht
    exact Host.Outcome.next.inj ht ▸ completed_err_changes io e _ (by decide) counted
  rcases h with ⟨h0, hv⟩ | ⟨hany, ha⟩
  · cases ha : s.created vi with
    | false => exact refusedAbsent (by rw [h0]; decide) ha
    | true =>
      rw [foreign h0 hv ha] at ht
      exact Host.Outcome.next.inj ht ▸ completed_err_changes io e _ (by decide) counted
  · exact refusedAbsent hany ha

/-! ### Concluding -/

theorem park_busy (vi : Nat) (e : Entry) (w : Bool) (r : Reply) (x : Wait) (b : Bool) : (park vi e w r x b).busyVi vi = true := by
  simp [park, State.busyVi]

section Conclude
variable (info : CmdInfo) (vi : Nat) (e : Entry) (w : Bool) {r : Reply}

/-- R67: a command with a wait of its own is parked. -/
theorem conclude_of_wait {x : Wait} {b : Bool} (hr : r.wait = some (x, b)) : conclude info vi e w r = park vi e w r x b := by
  rw [conclude, hr]

/-- R402: a replicated change is parked until its mark. -/
theorem conclude_of_replicated (hw : r.wait = none) (hr : replicates info r = true) :
    conclude info vi e w r = park vi e w { r with st := (sendJournal vi e r).1 } (.mark (sendJournal vi e r).2) false := by
  rw [conclude, hw, hr]
  rfl

/-- R66: every other command is finished at once. -/
theorem conclude_of_finished (hw : r.wait = none) (hr : replicates info r = false) : conclude info vi e w r = (finish vi e w r).settled := by
  rw [conclude, hw, hr]
  rfl

end Conclude

/-- Settles O57: a command starts only in its function's turn, which needs running rings with nothing unfinished; what ends is journaled, and what
does not end yet is parked. -/
theorem ringCommandsRunInOrder : Obligations.RingCommandsRunInOrder := by
  refine ⟨fun c op vi io s hc h => ?start, fun vi e w r => finish_journals vi e w r, fun info vi e w r h => ?parked,
    fun info vi e w r => conclude_of_finished info vi e w, fun info vi e w r => conclude_of_replicated info vi e w⟩
  case start =>
    obtain ⟨body, hexec⟩ := exec_of_ringCommand hc
    have waiting : s.canStart op vi = false := by
      rw [Bool.eq_false_iff]
      intro hstart
      obtain ⟨-, -, -, hturn, hop, -⟩ := canStart_iff.mp hstart
      obtain ⟨hring, -, hbusy⟩ := served_of_nextServed hturn
      rcases h with h | h | h
      · exact h hop
      · rw [hbusy] at h; exact Bool.false_ne_true h
      · exact h hring
    rw [hexec, runCommand_of_waiting io body waiting]
  case parked =>
    cases hw : r.wait with
    | some x => rw [conclude_of_wait info vi e w hw]; exact park_busy ..
    | none =>
      have hr : replicates info r = true := h.resolve_left (fun hne => hne hw)
      rw [conclude_of_replicated info vi e w hw hr]
      exact park_busy ..

/-! ### The commands of family HIF -/

theorem putLe_length (n v : Nat) : (putLe n v).length = n := by
  induction n generalizing v with
  | zero => rfl
  | succ n ih => simp [putLe, ih]

theorem fit_length (n : Nat) (b : List Byte) : (fit n b).length = n := by
  simp only [fit, zeros, List.length_append, List.length_take, List.length_replicate]
  omega

/-- Table HM-27: 64 bytes, which begin with the device, its revision, its grade and its firmware. -/
theorem bodyHifIdentify_answers (vi : Nat) (e : Entry) (s : State) : ∃ d, bodyHifIdentify vi e s = .read s [] d ∧ d.length = 64
    ∧ (putLe 2 0x2560 ++ putLe 1 0xB0 ++ putLe 1 (b2n Config.gradeAE) ++ putLe 4 s.hif.fwVersion) <+: d := by
  refine ⟨_, rfl, by simp [putLe_length, fit_length, zeros], ?_⟩
  iterate 6 refine List.IsPrefix.trans ?_ (List.prefix_append ..)
  exact List.prefix_rfl

/-- R72: the journal's bounds are read from the state before the command was taken. -/
theorem bodyHifJournalInfo_taken (vi : Nat) (e : Entry) (s : State) : bodyHifJournalInfo vi e (taken vi s) =
    .read (taken vi s) (putLe 8 ((s.fn vi).low.getD 0) ++ putLe 4 (s.fn vi).journal.length) [] := by
  have kept : ((taken vi s).fn vi).journal = (s.fn vi).journal := by rw [taken_fn]
  simp only [bodyHifJournalInfo, Fn.low, kept]

/-- Settles O1: a command that starts is completed with its body's reply. -/
theorem hifCommandsComplete : Obligations.HifCommandsComplete := by
  intro vi io e s
  refine ⟨fun h => ?nop, fun h => ?identify, fun h => ?info, fun h => ?mask, fun h => ?coalesce⟩
  case nop => exact congrArg Host.Outcome.next (runCommand_starts bodyHifNop h)
  case identify =>
    obtain ⟨d, hd, hbytes, hstart⟩ := bodyHifIdentify_answers vi e (taken vi s)
    exact ⟨d, congrArg Host.Outcome.next ((runCommand_starts bodyHifIdentify h).trans (by rw [hd])), hbytes, hstart⟩
  case info =>
    exact congrArg Host.Outcome.next ((runCommand_starts bodyHifJournalInfo h).trans (by rw [bodyHifJournalInfo_taken]))
  case mask => exact congrArg Host.Outcome.next (runCommand_starts bodyHifNotifyMask h)
  case coalesce => exact congrArg Host.Outcome.next (runCommand_starts bodyHifSetCoalesce h)

end Sys2Proof.Machine
end

section
/-! SUPPORT. Ring registers, doorbells, the PCIe link and the interrupts' delay (R52, R54, R56 to R60, R88). -/

namespace Sys2Proof.Machine

/-! ### Ring commits and doorbells -/

theorem ringWrite_of_accepting {vi : Nat} {s : State} (w : HeldWrite) (h : s.hostReach vi = true) (ha : s.accepting = true) :
    ringWrite vi w s = applyWrite w s := by
  simp [ringWrite, h, ha]

/-- R54: a valid set of shadow registers, committed while the rings are idle. -/
theorem applyCommit_of_valid {vi : Nat} {s : State} (hi : (s.fn vi).ring = .idle) (hv : (s.fn vi).shadow.valid = true) : applyCommit vi s =
    flushNotifs (s.fn vi).heldN.length vi (s.modFn vi (fun f => { f with
      active := (s.fn vi).shadow, ring := .running, sq := [], sqHead := 0, sqTail := 0, cqTail := 0, cqPhase := true, cqHead := 0,
      cq := [], nqTail := 0, nqPhase := true, nqHead := 0, nq := [] })) := by
  rw [applyCommit, if_pos ⟨hi, hv⟩]
  exact congrArg _ (State.modFn_congr rfl)

/-- The way from one index of a ring to a later one that lies before the wrap. -/
theorem ring_gap {n index old : Nat} (hi : index < n) (ho : old ≤ index) : (index + n - old) % n = index - old := by
  rw [show index + n - old = index - old + n by omega, Nat.add_mod_right, Nat.mod_eq_of_lt (by omega)]

section Doorbell
variable {vi index : Nat} {s : State} (hl : (s.fn vi).live = true)
include hl

/-- R57: the entries up to the new tail are submitted. -/
theorem applySqTail_of_inRange {slots : List Entry} (hi : index < ringEntries (s.fn vi).active.sqSize) (ht : (s.fn vi).sqTail ≤ index)
    (hs : slots.length = index - (s.fn vi).sqTail) :
    applySqTail vi index slots s = (s.modFn vi (fun f => { f with sq := f.sq ++ slots, sqTail := index })).settled := by
  simp only [applySqTail, hl, not_true_eq_false, if_false, Nat.not_le.mpr hi, ring_gap hi ht, ← hs, List.take_length, Nat.sub_self,
    List.replicate_zero, List.append_nil]

/-- R58: the completions before the new head are consumed. -/
theorem applyCqHead_of_inRange (hi : index < ringEntries (s.fn vi).active.cqSize) (hh : (s.fn vi).cqHead ≤ index) : applyCqHead vi index s =
    (s.modFn vi (fun f => { f with cq := f.cq.drop (index - (s.fn vi).cqHead), cqHead := index })).settled := by
  simp only [applyCqHead, hl, not_true_eq_false, if_false, Nat.not_le.mpr hi, ring_gap hi hh]

/-- R63: the notifications before the new head are consumed, and held ones take their places. -/
theorem applyNqHead_of_inRange (hi : index < ringEntries (s.fn vi).active.nqSize) (hh : (s.fn vi).nqHead ≤ index) : applyNqHead vi index s =
    flushNotifs (s.fn vi).heldN.length vi
      (s.modFn vi (fun f => { f with nq := f.nq.drop (index - (s.fn vi).nqHead), nqHead := index })) := by
  simp only [applyNqHead, hl, not_true_eq_false, if_false, Nat.not_le.mpr hi, ring_gap hi hh]

end Doorbell

/-! ### Disabling rings -/

/-- R56: draining ends at once when nothing of the function is unfinished. -/
theorem drainCheck_of_finished {vi : Nat} {s : State} (hr : (s.fn vi).ring = .draining) (hc : (s.fn vi).heldC = [])
    (hp : s.hif.parked.all (fun p => p.vi != vi) = true) : drainCheck vi s = s.modFn vi (fun f => { f with ring := .idle, sq := [] }) := by
  simp only [drainCheck, hr, hc, hp, beq_self_eq_true, List.isEmpty_nil, Bool.and_self, if_true]

theorem drainCheck_of_parked {vi : Nat} {s : State} (hp : s.hif.parked.any (fun p => p.vi == vi) = true) : drainCheck vi s = s := by
  have unfinished : s.hif.parked.all (fun p => p.vi != vi) = false := by
    simpa [List.all_eq_not_any_not, bne] using hp
  simp only [drainCheck, unfinished, Bool.and_false, Bool.false_eq_true, if_false]

section Disable
variable {vi : Nat} {s : State}

theorem applyDisable_of_idle (h : (s.fn vi).ring = .idle) : applyDisable vi s = s := by
  simp only [applyDisable, h]

theorem applyDisable_of_halted (h : (s.fn vi).ring = .halted) : applyDisable vi s = s.modFn vi (fun f => { f with ring := .idle, sq := [] }) := by
  simp only [applyDisable, h]

theorem applyDisable_of_running (h : (s.fn vi).ring = .running) :
    applyDisable vi s = drainCheck vi (s.modFn vi (fun f => { f with ring := .draining })) := by
  simp only [applyDisable, h]

theorem applyDisable_of_finished (h : (s.fn vi).ring = .running) (hc : (s.fn vi).heldC = [])
    (hp : s.hif.parked.all (fun p => p.vi != vi) = true) : (applyDisable vi s).fn vi = { s.fn vi with ring := .idle, sq := [] } := by
  have drained := drainCheck_of_finished (s := s.modFn vi (fun f => { f with ring := .draining })) (vi := vi) (by rw [State.modFn_fn])
    (by rw [State.modFn_fn]; exact hc) hp
  rw [applyDisable_of_running h, drained, State.modFn_fn, State.modFn_fn]

theorem applyDisable_of_parked (h : (s.fn vi).ring = .running) (hp : s.hif.parked.any (fun p => p.vi == vi) = true) :
    ((applyDisable vi s).fn vi).ring = .draining := by
  rw [applyDisable_of_running h, drainCheck_of_parked (s := s.modFn vi _) hp, State.modFn_fn]

/-- A disable changes a function's ring state and its submissions, nothing else of it. -/
theorem applyDisable_keeps {β : Type} (g : Fn → β) (hg : ∀ f r q, g { f with ring := r, sq := q } = g f) (vi : Nat) (s : State) (w : Nat) :
    g ((applyDisable vi s).fn w) = g (s.fn w) := by
  unfold applyDisable
  split
  · exact (drainCheck_keeps g hg vi _ w).trans (State.modFn_keeps g (hg ..) w)
  · exact State.modFn_keeps g (hg ..) w
  · rfl

end Disable

/-- Settles O2: the writes reach the function at once, a commit and a doorbell as the lemma about it says, and a disable of rings with nothing
unfinished as `applyDisable_of_finished` says. -/
theorem ringRegistersComplete : Obligations.RingRegistersComplete := by
  intro vi index slots s hreach hacc
  have write (w : HeldWrite) : ringWrite vi w s = applyWrite w s := ringWrite_of_accepting w hreach hacc
  refine ⟨fun hi hv => ?commit, fun hr hc hp => ?disable, fun hl hw hi ht hs => ?sqTail, fun hl hw hi hh => ?cqHead, fun hl hw hi hh => ?nqHead⟩
  case commit => exact congrArg Host.Outcome.next ((write _).trans (applyCommit_of_valid hi hv))
  case disable =>
    refine ⟨_, congrArg Host.Outcome.next (write (.disable vi)), ?_⟩
    have finished : (applyWrite (.disable vi) s).fn vi = _ := applyDisable_of_finished hr hc hp
    rw [finished]
    exact ⟨rfl, rfl, rfl, rfl, applyDisable_changes vi s⟩
  case sqTail =>
    show execHifSqTailDb vi index slots s = _
    rw [execHifSqTailDb, Nat.mod_eq_of_lt hw, write, applyWrite, applySqTail_of_inRange hl hi ht hs]
  case cqHead =>
    show execHifCqHeadDb vi index s = _
    rw [execHifCqHeadDb, Nat.mod_eq_of_lt hw, write, applyWrite, applyCqHead_of_inRange hl hi hh]
  case nqHead =>
    show execHifNqHeadDb vi index s = _
    rw [execHifNqHeadDb, Nat.mod_eq_of_lt hw, write, applyWrite, applyNqHead_of_inRange hl hi hh]

/-! ### The PCIe link -/

theorem signal_of_masked {vi vec : Nat} {s : State} (h : (s.fn vi).masked vec = true) :
    signal vi vec s = s.modFn vi (fun f => { f with pba := f.pba ||| BitVec.ofNat 32 (2 ^ vec) }) := by
  simp [signal, h]

/-- R88: the vector is signalled once its delay has passed since its oldest entry. -/
theorem exec_coalesceDelayExpiry_of_due {vi vec n t0 : Nat} {s : State} (hs : mget (s.fn vi).sig vec = some (n, t0))
    (hd : s.due (t0 + Config.us ((s.fn vi).coalesce vec).2) = true) : exec (.coalesceDelayExpiry vi vec) s =
    .next (signal vi vec (s.modFn vi (fun f => { f with sig := mdel f.sig vec }))) := by
  show execCoalesceDelayExpiry vi vec s = _
  simp only [execCoalesceDelayExpiry, hs, hd, when_true]

/-- R52: the link returns; beside the rings' traffic only the link itself changes. -/
theorem exec_pcieLinkUp_of_down {s : State} (dataOk : Bool) (hl : s.hif.linkUp = false) (hd : s.domOn 2 = true) :
    ∃ t, exec (.pcieLinkUp dataOk) s = .next t ∧ Changes [.rings, .queue, .cnt, .out] { s with hif := { s.hif with linkUp := true } } t := by
  refine ⟨_, rfl, ?_⟩
  rw [hl, hd]
  refine Changes.via ?_ (State.settled_changes _) (by decide)
  refine Changes.via ?_ (count_changes ..) (by decide)
  refine Changes.via ?_ (notify_changes ..) (by decide)
  exact (flushHeld_changes ..).weaken (by decide)

/-- Settles O5: the signal after the delay goes by the vector's mask, and the other events are their own definitions under their guards. -/
theorem pcieEventsComplete : Obligations.PcieEventsComplete := by
  intro s
  refine ⟨fun vi vec n t0 hs hd => ⟨fun hm => ?unmasked, fun hm => ?masked⟩, fun hl hd => ?down, fun dataOk => exec_pcieLinkUp_of_down dataOk,
    fun vi hl hr => ?failure⟩
  case unmasked =>
    rw [exec_coalesceDelayExpiry_of_due hs hd, signal_of_unmasked]
    rw [State.modFn_fn]
    exact hm
  case masked =>
    rw [exec_coalesceDelayExpiry_of_due hs hd, signal_of_masked]
    rw [State.modFn_fn]
    exact hm
  case down =>
    show execPcieLinkDown s = _
    rw [execPcieLinkDown, hl, hd, Bool.and_self, when_true]
  case failure =>
    show execRingAccessFailure vi .cq s = _
    rw [execRingAccessFailure, hl, hr, Bool.and_self, when_true]

end Sys2Proof.Machine
end

section
/-! SUPPORT. A parked command that resumes (R67), and the function-level reset (R51, Table RF-7). -/

namespace Sys2Proof.Machine

/-! ### Parked commands that resume -/

/-- R67: the command parked first whose wait has ended resumes at a command boundary. -/
theorem exec_commandResume_of_ready {p : Parked} {s u : State} (hf : s.hif.parked.find? (fun p => p.ready) = some p) (ha : s.accepting = true)
    (hb : s.blocked = false) (hu : u = { s with hif := { s.hif with parked := s.hif.parked.filter (fun q => q.vi != p.vi) } }) :
    exec (.commandResume p.vi) s = .next (resume p u) := by
  show execCommandResume p.vi s = _
  simp only [execCommandResume, hf, ha, hb, beq_self_eq_true, Bool.not_false, Bool.and_self, when_true, ← hu]

/-- No command resumes while none is ready, or away from a command boundary. -/
theorem exec_commandResume_of_waiting {vi : Nat} {s : State}
    (h : s.hif.parked.find? (fun p => p.ready) = none ∨ s.accepting = false ∨ s.blocked = true) : exec (.commandResume vi) s = .next s := by
  show execCommandResume vi s = _
  unfold execCommandResume
  cases hf : s.hif.parked.find? (fun p => p.ready) with
  | none => rfl
  | some p =>
    rcases h with h | h | h
    · rw [hf] at h; exact nomatch h
    · simp only [h, Bool.and_false, Bool.false_and, when_false]
    · simp only [h, Bool.not_true, Bool.and_false, when_false]

section Commit
variable {vi d : Nat} {s : State}

/-- R198: a commit that waited finds an epoch slot. -/
theorem commitOrWait_of_slot (h : s.tbl.epochs.length < 4) : commitOrWait vi d true s = commitNow vi s := by
  rw [commitOrWait, if_pos h]

theorem commitOrWait_of_due (h : 4 ≤ s.tbl.epochs.length) (hd : d ≤ s.mono) : commitOrWait vi d true s = epochFull s := by
  rw [commitOrWait, if_neg (by omega), if_neg (by simp [State.due, hd])]

theorem commitOrWait_of_early (h : 4 ≤ s.tbl.epochs.length) (hd : s.mono < d) :
    commitOrWait vi d true s = { st := s, wait := some (.epochSlot d, false) } := by
  rw [commitOrWait, if_neg (by omega), if_pos (by simp [State.due, hd])]

end Commit

section Resume
variable {p : Parked} {s : State}

theorem resume_of_mark {n : Nat} (h : p.wait = .mark n) : resume p s = (finish p.vi p.entry p.writeOk (p.reply s)).settled := by
  rw [resume, h]

theorem resume_of_epochSlot {d : Nat} (h : p.wait = .epochSlot d) : resume p s =
    conclude ((cmdInfo p.entry.opcode).getD { op := 0 }) p.vi p.entry p.writeOk (commitOrWait p.vi d true s) := by
  rw [resume, h]

theorem resume_of_epochFull (h : p.wait = .epochFull) : resume p s = (finish p.vi p.entry p.writeOk (epochFull s)).settled := by
  rw [resume, h]

theorem resume_of_journaled {j : JEntry} (h : p.wait = .bulkCopy) (hj : (s.fn p.vi).journaled p.entry.cmdId = some j) :
    resume p s = (answer p.vi p.entry j.compl s).settled := by
  simp only [resume, h, hj]

theorem resume_of_unjournaled (h : p.wait = .bulkCopy) (hj : (s.fn p.vi).journaled p.entry.cmdId = none) :
    resume p s = (finish p.vi p.entry p.writeOk (p.reply s)).settled := by
  simp only [resume, h, hj]

theorem resume_of_stackDrain {b : Nat} (h : p.wait = .stackDrain b) : resume p s =
    conclude ((cmdInfo p.entry.opcode).getD { op := 0 }) p.vi p.entry p.writeOk (p.reply (stackOff b s)) := by
  rw [resume, h]

/-- A command whose condition has come is concluded with what it was parked with. -/
theorem resume_of_condition
    (h : (∃ v, p.wait = .drain v ∨ (∃ q, p.wait = .injectReads v q) ∨ p.wait = .domainOn v) ∨ p.wait = .stepTick ∨ p.wait = .tsiSwap) :
    resume p s = conclude ((cmdInfo p.entry.opcode).getD { op := 0 }) p.vi p.entry p.writeOk (p.reply s) := by
  rcases h with ⟨v, h | ⟨q, h⟩ | h⟩ | h | h <;> rw [resume, h]

end Resume

/-! ### Function-level reset -/

theorem disableRings_of_accepting {vi : Nat} {s : State} (h : s.accepting = true) : disableRings vi s = applyDisable vi s := by
  rw [disableRings, h, if_pos rfl]

theorem disableRings_of_starting {vi : Nat} {s : State} (h : s.accepting = false) :
    disableRings vi s = { s with hif := { s.hif with held := s.hif.held ++ [.disable vi] } } := by
  rw [disableRings, h, if_neg Bool.false_ne_true]

/-- A disable, now or held, changes of a function its ring state and its submissions at most. -/
theorem disableRings_keeps {β : Type} (g : Fn → β) (hg : ∀ f r q, g { f with ring := r, sq := q } = g f) (vi : Nat) (s : State) (w : Nat) :
    g ((disableRings vi s).fn w) = g (s.fn w) := by
  unfold disableRings
  split
  · exact applyDisable_keeps g hg vi s w
  · rfl

theorem drainCheck_fn_ne {vi w : Nat} (s : State) (h : w ≠ vi) : (drainCheck vi s).fn w = s.fn w := by
  unfold drainCheck
  dsimp only
  split
  · exact State.modFn_fn_ne _ _ h
  · rfl

theorem applyDisable_fn_ne {vi w : Nat} (s : State) (h : w ≠ vi) : (applyDisable vi s).fn w = s.fn w := by
  unfold applyDisable
  split
  · rw [drainCheck_fn_ne _ h, State.modFn_fn_ne _ _ h]
  · exact State.modFn_fn_ne _ _ h
  · rfl

theorem disableRings_fn_ne {vi w : Nat} (s : State) (h : w ≠ vi) : (disableRings vi s).fn w = s.fn w := by
  unfold disableRings
  split
  · exact applyDisable_fn_ne s h
  · rfl

/-- R438: a reset that starts marks its instance and numbers its epoch on. -/
theorem startReset_inst (vi limit : Nat) (flush destroying : Bool) (s : State) :
    ((startReset vi limit flush destroying s).inst vi).st = .resetting
    ∧ ((startReset vi limit flush destroying s).inst vi).epoch = ((s.inst vi).epoch + 1) % 256 := by
  have kept (t : State) : (capacityWarn t).inst vi = t.inst vi :=
    congrArg (fun m => mgetD m vi ({} : Inst)) ((capacityWarn_changes t).same .insts (by decide))
  unfold startReset
  rw [kept]
  have marked (t : State) (tbl : Tbl) : ({ t with tbl := tbl }).inst vi = t.inst vi := rfl
  dsimp only
  rw [marked, State.modInst_inst]
  exact ⟨rfl, rfl⟩

section FunctionReset
variable {vi : Nat} {s u : State} (hu : u = disableRings vi (s.modFn vi resetRegs))
include hu

theorem functionReset_changes : Changes [.rings, .queue] s u :=
  hu ▸ ((State.modFn_changes ..).weaken (by decide)).trans (disableRings_changes ..)

theorem functionReset_inst (w : Nat) : u.inst w = s.inst w :=
  congrArg (fun m => mgetD m w ({} : Inst)) ((functionReset_changes hu).same .insts (by decide))

/-- Table RF-7: what a reset leaves of its function, the ring state and the submissions aside. -/
theorem functionReset_keeps {β : Type} (g : Fn → β) (hg : ∀ f r q, g { f with ring := r, sq := q } = g f) :
    g (u.fn vi) = g (resetRegs (s.fn vi)) := by
  rw [hu, disableRings_keeps g hg, State.modFn_fn]

theorem functionReset_fn_ne {w : Nat} (h : w ≠ vi) : u.fn w = s.fn w := by
  rw [hu, disableRings_fn_ne _ h, State.modFn_fn_ne _ _ h]

end FunctionReset

/-- R51: the reset of the function of an instance that is not ACTIVE ends with its rings' disable. -/
theorem exec_functionLevelReset_of_inactive {vi : Nat} {s u : State} (hu : u = disableRings vi (s.modFn vi resetRegs))
    (hr : s.hostReach vi = true) (hv : vi ≠ 0) (hi : (s.inst vi).st ≠ .active) : exec (.functionLevelReset vi) s = .next u := by
  have inst := functionReset_inst hu vi
  show execFunctionLevelReset vi s = _
  rw [execFunctionLevelReset, hr, when_true]
  simp only [hv, if_false, ← hu, inst, hi, and_false]

/-- R51: the reset of the function of an ACTIVE instance resets the instance. -/
theorem exec_functionLevelReset_of_active {vi : Nat} {s u : State} (hu : u = disableRings vi (s.modFn vi resetRegs))
    (hr : s.hostReach vi = true) (hv : vi ≠ 0) (hi : (s.inst vi).st = .active) :
    exec (.functionLevelReset vi) s = .next (startReset vi 0 false false u) := by
  have inst := functionReset_inst hu vi
  show execFunctionLevelReset vi s = _
  rw [execFunctionLevelReset, hr, when_true]
  simp only [hv, if_false, ← hu, inst, hi, ne_eq, not_false_eq_true, and_self, if_true]

/-- R51: the reset of VI0's function disables the rings of all functions. -/
theorem exec_functionLevelReset_zero {s : State} (hr : s.hostReach 0 = true) :
    exec (.functionLevelReset 0) s = .next (foldS (List.range 64) (s.modFn 0 resetRegs) disableRings) := by
  show execFunctionLevelReset 0 s = _
  rw [execFunctionLevelReset, hr, when_true]
  simp

/-- Settles O6: a command that resumes does what its wait asks for, one lemma for each wait, and of a function-level reset the registers, the rings
and the instance are taken one by one. -/
theorem resumeAndFunctionResetComplete : Obligations.ResumeAndFunctionResetComplete := by
  intro vi s
  refine ⟨fun p u c hf hp ha hb hu hc => ?resume, exec_commandResume_of_waiting, fun u hu hr => ?reset, fun hr => ?unreached⟩
  case resume =>
    subst hp hc
    have resumed {t : State} (ht : resume p u = t) : exec (.commandResume p.vi) s = .next t :=
      (exec_commandResume_of_ready hf ha hb hu).trans (congrArg _ ht)
    have epochs : u.tbl.epochs = s.tbl.epochs := by rw [hu]
    have mono : u.mono = s.mono := by rw [hu]
    have journal : (u.fn p.vi).journaled p.entry.cmdId = (s.fn p.vi).journaled p.entry.cmdId := by rw [hu]; rfl
    refine ⟨fun n hw => resumed (resume_of_mark hw), fun d hw he => ?slot, fun d hw he hd => ?due, fun d hw he hd => ?early,
      fun hw => resumed (resume_of_epochFull hw), fun j hw hj => resumed (resume_of_journaled hw (journal.trans hj)),
      fun hw hj => resumed (resume_of_unjournaled hw (journal.trans hj)), fun b hw => resumed (resume_of_stackDrain hw),
      fun hw => resumed (resume_of_condition hw)⟩
    case slot => exact resumed ((resume_of_epochSlot hw).trans (by rw [commitOrWait_of_slot (epochs ▸ he)]))
    case due => exact resumed ((resume_of_epochSlot hw).trans (by rw [commitOrWait_of_due (epochs ▸ he) (mono ▸ hd)]))
    case early =>
      refine resumed ((resume_of_epochSlot hw).trans ?_)
      rw [commitOrWait_of_early (epochs ▸ he) (mono ▸ hd), conclude_of_wait _ _ _ _ rfl]
      rfl
  case reset =>
    have regs {β : Type} (g : Fn → β) := functionReset_keeps hu g
    have ring : ((s.modFn vi resetRegs).fn vi).ring = (s.fn vi).ring := State.modFn_keeps Fn.ring rfl vi
    have heldC : ((s.modFn vi resetRegs).fn vi).heldC = (s.fn vi).heldC := State.modFn_keeps Fn.heldC rfl vi
    have disabled (ha : s.accepting = true) : u = applyDisable vi (s.modFn vi resetRegs) := hu.trans (disableRings_of_accepting ha)
    refine ⟨exec_functionLevelReset_of_inactive hu hr, fun hv hi => ?active, fun hv => ?vi0, regs Fn.shadow fun _ _ _ => rfl,
      regs Fn.fault fun _ _ _ => rfl, regs Fn.winSel fun _ _ _ => rfl, regs Fn.latch fun _ _ _ => rfl, regs Fn.mask fun _ _ _ => rfl,
      regs Fn.cqCount fun _ _ _ => rfl, regs Fn.cqDelay fun _ _ _ => rfl, regs Fn.nqCount fun _ _ _ => rfl,
      regs Fn.nqDelay fun _ _ _ => rfl, regs Fn.journal fun _ _ _ => rfl, fun v hv => functionReset_fn_ne hu hv, functionReset_changes hu,
      fun ha hi => ?idle, fun ha hh => ?halted, fun ha hrun hc hp => ?finished, fun ha hrun hp => ?draining, fun ha => ?starting⟩
    case active =>
      obtain ⟨hst, hepoch⟩ := startReset_inst vi 0 false false u
      rw [functionReset_inst hu] at hepoch
      exact ⟨_, exec_functionLevelReset_of_active hu hr hv hi, rfl, hst, hepoch⟩
    case vi0 => subst hv; exact exec_functionLevelReset_zero hr
    case idle => rw [disabled ha, applyDisable_of_idle (ring.trans hi), ring, hi]
    case halted => rw [disabled ha, applyDisable_of_halted (ring.trans hh), State.modFn_fn]; exact ⟨rfl, rfl⟩
    case finished => rw [disabled ha, applyDisable_of_finished (ring.trans hrun) (heldC.trans hc) hp]; exact ⟨rfl, rfl⟩
    case draining => rw [disabled ha]; exact applyDisable_of_parked (ring.trans hrun) hp
    case starting => rw [hu, disableRings_of_starting (s := s.modFn vi resetRegs) ha]; rfl
  case unreached =>
    show execFunctionLevelReset vi s = _
    rw [execFunctionLevelReset, hr, when_false]

end Sys2Proof.Machine
end

section
/-! SUPPORT. The watchdog's restart and the starts of firmware: cold, warm, and of a trial that falls back (R76, R94, R97, R98, R490). -/

namespace Sys2Proof.Machine

/-! ### The watchdog -/

/-- What every command that waits to be read again puts back changes the rings alone. -/
theorem foldS_unread_changes (l : List Parked) (s : State) : Changes [.rings] s (foldS l s unread) :=
  Changes.foldS Changes.rfl (fun p t => unread_changes p t)

theorem warmRestart_hif (cause : Nat) (s : State) :
    (warmRestart cause s).hif.fwReady = false ∧ (warmRestart cause s).hif.restarting = true := ⟨rfl, rfl⟩

theorem warmRestart_dev (cause : Nat) (s : State) : (warmRestart cause s).dev = { s.dev with boot := 1, kilnFailed := [] } :=
  congrArg (fun d : Dev => { d with boot := 1, kilnFailed := [] }) ((foldS_unread_changes _ s).same .dev (by decide))

theorem warmRestart_sec (cause : Nat) (s : State) : (warmRestart cause s).sec = { s.sec with spdm := [] } :=
  congrArg (fun x : Sec => { x with spdm := [] }) ((foldS_unread_changes _ s).same .sec (by decide))

/-- R97: the watchdog restarts firmware warm and reports a fault. -/
theorem exec_maltsterWatchdog_of_running {s : State} (h : s.hif.fwReady = true ∨ s.dev.boot = 2) :
    exec .maltsterWatchdog s = .next (warmRestart 2 (fault 16 0 0 s)) := by
  have guard : (s.hif.fwReady || decide (s.dev.boot = 2)) = true := by simpa using h
  show execMaltsterWatchdog s = _
  rw [execMaltsterWatchdog, guard, when_true]

/-! ### The end of a firmware start -/

/-- Firmware is ready: FW_READY is set, and the format of its settings and what is measured of them are noted. -/
def awake (s : State) : State :=
  let s := { s with sec := { s.sec with
    format := if s.upd.trial.isSome then s.sec.format else le (s.slot s.upd.running).head 36 2, measured := (s.settingsGen, s.copyInUse) } }
  let s := { s with hif := { s.hif with fwReady := true, restarting := false } }
  { s with dev := { s.dev with boot := 0 } }

/-- A cold start enters INIT with step 4 of Table BU-1. -/
def enterInit (s : State) : State :=
  powerAll (upFrom 4 5) (toPhase .init { (s.atStep 4) with dev := { (s.atStep 4).dev with lastBeat := s.mono } })

/-- What a start reports of itself: the restart, with what was held during it, the end of the firmware fault, and a debug boot. -/
def startReports (cold again : Bool) (s : State) : State :=
  let s := endWindow 16 0 (if again then restartEvent (flushHeld true s) else s)
  if cold && s.sec.debug then notify Ev.secDebugUnlocked [] [] s else s

/-- The result of an update, if one is due. -/
def resultReport (s : State) : State :=
  if s.upd.resultDue then updResult { s with upd := { s.upd with resultDue := false } } else s

theorem becomeReady_eq (cold : Bool) (s : State) : becomeReady cold s =
    (applyHeld (resultReport (swapStart (startReports cold s.hif.restarting
      (if cold then enterInit (awake s) else retrainStep (awake s)))))).settled := rfl

theorem awake_changes (s : State) : Changes [.hif, .dev, .sec] s (awake s) :=
  Changes.set_dev (Changes.set_core (Changes.set_sec Changes.rfl (by decide)) rfl rfl (by decide)) (by decide)

theorem startReports_changes (cold again : Bool) (s : State) : Changes [.rings, .log, .cnt, .out] s (startReports cold again s) := by
  have told : Changes [.rings, .log, .cnt, .out] s (if again then restartEvent (flushHeld true s) else s) :=
    Changes.ite (((flushHeld_changes true s).trans (restartEvent_changes _)).weaken (by decide)) Changes.rfl
  have ended := Changes.via told (endWindow_changes 16 0 _) (by decide)
  exact Changes.ite (Changes.via ended (notify_changes ..) (by decide)) ended

theorem resultReport_changes (s : State) : Changes [.rings, .upd, .cnt, .out] s (resultReport s) :=
  Changes.ite (Changes.via (Changes.set_upd Changes.rfl (by decide)) (updResult_changes _) (by decide)) Changes.rfl

theorem resultReport_of_none {s : State} (h : s.upd.resultDue = false) : resultReport s = s := by rw [resultReport, h]; rfl

/-- R486: no swap begins while the blocks run the microcode of the running slot. -/
theorem swapStart_of_current {s : State} (hm : s.upd.microcode = s.upd.running) (hs : s.upd.swap = 0) : swapStart s = s := by
  simp only [swapStart, hm, hs, if_true, Nat.zero_ne_one, if_false, ite_self]

theorem retrainStep_of_full {s : State} (h : s.dev.phase = .full) : retrainStep s = s := by rw [retrainStep, h]

theorem served_changes (s : State) : Changes [.rings, .queue, .cnt, .out] s (applyHeld s).settled :=
  (applyHeld_changes s).trans (State.settled_changes _)

/-- After INIT is entered the end of a cold start only reports, starts a swap, and serves what waited. -/
theorem becomeReady_changes_of_cold (s : State) : Changes [.rings, .queue, .upd, .log, .cnt, .out] (enterInit (awake s)) (becomeReady true s) := by
  rw [becomeReady_eq, if_pos rfl]
  refine Changes.via ?_ (served_changes _) (by decide)
  refine Changes.via ?_ (resultReport_changes _) (by decide)
  refine Changes.via ?_ (swapStart_changes _) (by decide)
  exact (startReports_changes ..).weaken (by decide)

theorem fwReady_of_core {s t : State} (h : t.hif.core = s.hif.core) : t.hif.fwReady = s.hif.fwReady ∧ t.hif.restarting = s.hif.restarting := by
  have ready := congrArg (fun h : Hif => h.fwReady) h
  have restarting := congrArg (fun h : Hif => h.restarting) h
  exact ⟨ready, restarting⟩

/-- R76: a warm start in full service, with no swap and no result due, keeps the modes of the device. -/
theorem becomeReady_of_full {s : State} (hp : s.dev.phase = .full) (hm : s.upd.microcode = s.upd.running) (hs : s.upd.swap = 0)
    (hr : s.upd.resultDue = false) : Changes [.rings, .queue, .log, .cnt, .out] (awake s) (becomeReady false s) := by
  have reported := startReports_changes false s.hif.restarting (awake s)
  have upd : (startReports false s.hif.restarting (awake s)).upd = s.upd := reported.same .upd (by decide)
  have eq : becomeReady false s = (applyHeld (startReports false s.hif.restarting (awake s))).settled := by
    rw [becomeReady_eq, if_neg Bool.false_ne_true, retrainStep_of_full (s := awake s) hp, swapStart_of_current (by rw [upd, hm]) (by rw [upd, hs]),
      resultReport_of_none (by rw [upd, hr])]
  rw [eq]
  exact Changes.via (reported.weaken (by decide)) (served_changes _) (by decide)

theorem enterInit_dev (s : State) : (enterInit s).dev = { s.dev with step := 4, lastBeat := s.mono, phase := .init } :=
  ((powerAll_changes (upFrom 4 5) _).same .dev (by decide)).trans ((notify_changes ..).same .dev (by decide))

theorem enterInit_changes (s : State) : Changes [.rings, .dev, .cnt, .pwr, .out] s (enterInit s) := by
  unfold enterInit
  refine Changes.via ?_ (powerAll_changes ..) (by decide)
  refine Changes.via ?_ (toPhase_changes ..) (by decide)
  refine Changes.set_dev ?_ (by decide)
  exact (State.atStep_changes s 4).weaken (by decide)

/-- R98: a cold start leaves the device in INIT, at step 4. -/
theorem becomeReady_cold (s : State) : (becomeReady true s).hif.fwReady = true ∧ (becomeReady true s).hif.restarting = false
    ∧ (becomeReady true s).dev.boot = 0 ∧ (becomeReady true s).dev.phase = .init ∧ (becomeReady true s).dev.step = 4 := by
  have ended := becomeReady_changes_of_cold s
  obtain ⟨hready, hrestarting⟩ := fwReady_of_core ((ended.same .hif (by decide)).trans ((enterInit_changes (awake s)).same .hif (by decide)))
  have dev : (becomeReady true s).dev = _ := (ended.same .dev (by decide)).trans (enterInit_dev (awake s))
  rw [dev]
  exact ⟨hready, hrestarting, rfl, rfl, rfl⟩

/-! ### How firmware starts -/

theorem exec_fwReady_of_verified {s : State} (retained settings : Bool) (h : s.dev.boot = 2) :
    exec (.fwReady retained settings) s = .next (firmwareReady retained settings s) := by
  show execFwReady retained settings s = _
  simp only [execFwReady, h, decide_true, when_true]

theorem runsTrial_of_none {s : State} (h : s.upd.trial = none) : s.runsTrial = false := by rw [State.runsTrial, h]; rfl

theorem readCopies_of_none {s : State} (h : (readCopies s).1 = none) : readCopies s = (none, s) := by
  revert h
  unfold readCopies
  dsimp only
  split
  · split <;> exact fun h => nomatch h
  · split
    · exact fun h => nomatch h
    · split
      · exact fun h => nomatch h
      · exact fun _ => rfl

/-- R94, R98: a start that is no trial from the ROM is cold. -/
theorem firmwareReady_of_rom {s : State} (retained settings : Bool) (hp : s.dev.phase = .rom) (ht : s.upd.trial = none) :
    firmwareReady retained settings s = becomeReady true (coldImport (readCopies s).1 settings (readCopies s).2) := by
  simp only [firmwareReady, runsTrial_of_none ht, hp, beq_self_eq_true, Bool.false_and, Bool.false_eq_true, if_false, if_true]

/-- R76: a start that is no trial, in full service and without stored settings, is warm. -/
theorem firmwareReady_of_full {s : State} (retained settings : Bool) (hp : s.dev.phase = .full) (ht : s.upd.trial = none)
    (hc : (readCopies s).1 = none) : firmwareReady retained settings s = becomeReady false s := by
  simp [firmwareReady, runsTrial_of_none ht, hp, readCopies_of_none hc]

/-- R490: a trial that cannot use the retained state falls back. -/
theorem firmwareReady_of_lost {s : State} (settings : Bool) (ht : s.runsTrial = true) (hp : s.dev.phase ≠ .rom) :
    firmwareReady false settings s = fallBack 2 s := by
  simp [firmwareReady, ht, hp]

/-- R490: a trial that cannot use the settings falls back. -/
theorem firmwareReady_of_badSettings {s : State} {x : Settings} (ht : s.runsTrial = true) (hc : (readCopies s).1 = some x) :
    firmwareReady true false s = fallBack 1 s := by
  simp [firmwareReady, ht, hc]

/-- Settles O7: the watchdog's restart part by part, and each start of firmware by what it finds: full service, the ROM's phase, or a trial. -/
theorem firmwareRestartsComplete : Obligations.FirmwareRestartsComplete := by
  intro s
  refine ⟨fun h => ?watchdog, fun hb hp ht hm hs hr hc retained settings => ?warm, fun hb hp ht retained settings => ?cold,
    fun hb ht hp settings => ?lost, fun x hb ht hc => ?badSettings⟩
  case watchdog =>
    obtain ⟨t, ht, hch⟩ := execMaltsterWatchdog_changes s
    obtain rfl := Host.Outcome.next.inj (ht.symm.trans (exec_maltsterWatchdog_of_running h))
    have faulted := fault_changes 16 0 0 s
    obtain ⟨hready, hrestarting⟩ := warmRestart_hif 2 (fault 16 0 0 s)
    refine ⟨_, ht, hready, hrestarting, ?_, ?_, hch⟩
    · rw [warmRestart_dev, show _ = _ from faulted.same .dev (by decide)]
    · rw [warmRestart_sec, show _ = _ from faulted.same .sec (by decide)]
  case warm =>
    have ready := becomeReady_of_full hp hm hs hr
    obtain ⟨hready, hrestarting⟩ := fwReady_of_core (ready.same .hif (by decide))
    refine ⟨becomeReady false s, ?_, hready, hrestarting, ready.same .dev (by decide), ?_⟩
    · rw [exec_fwReady_of_verified retained settings hb, firmwareReady_of_full retained settings hp ht hc]
    · exact Changes.via ((awake_changes s).weaken (by decide)) ready (by decide)
  case cold =>
    refine ⟨_, ?_, becomeReady_cold (coldImport (readCopies s).1 settings (readCopies s).2)⟩
    rw [exec_fwReady_of_verified retained settings hb, firmwareReady_of_rom retained settings hp ht]
  case lost => rw [exec_fwReady_of_verified false settings hb, firmwareReady_of_lost settings ht hp]
  case badSettings => rw [exec_fwReady_of_verified true false hb, firmwareReady_of_badSettings ht hc]

end Sys2Proof.Machine
end

section
/-! SUPPORT. Resets and the start of the power-on order (R90, R97, R116, R533, Tables BU-1, BU-3 and TK-7). -/

namespace Sys2Proof.Machine

/-! ### The start of the power-on order -/

theorem startPowerOn_of_production {s : State} (h : s.sec.life = .production) :
    startPowerOn s = { s with dev := { s.dev with inReset := false, step := 1 } } := by
  simp only [startPowerOn, h]

/-- Table TK-7: an armed device starts unlocked for debug. -/
theorem startPowerOn_of_armed {s : State} (h : s.sec.life = .armed) : startPowerOn s = { s with
    dev := { s.dev with inReset := false, step := 1 }, sec := { s.sec with life := .unlocked, debug := true } } := by
  simp only [startPowerOn, h]

/-- Beside the step it starts, the power-on order may move the lifecycle; the settings in flash keep their copies. -/
theorem startPowerOn_eq (s : State) : ∃ sec : Sec, startPowerOn s =
    { s with dev := { s.dev with inReset := false, step := 1 }, sec := sec } ∧ sec.copyA = s.sec.copyA ∧ sec.copyB = s.sec.copyB := by
  unfold startPowerOn
  dsimp only
  split <;> exact ⟨_, rfl, rfl, rfl⟩

/-! ### The resets -/

theorem exec_powerOnResetRelease_of_reset {s : State} (h : s.dev.inReset = true) : exec .powerOnResetRelease s = .next (startPowerOn s) := by
  show execPowerOnResetRelease s = _
  rw [execPowerOnResetRelease, h, when_true]

theorem exec_bcColdReset_of_running {s : State} (hr : s.dev.inReset = false) (hl : s.dev.locked = false) :
    exec .bcColdReset s = .next (coldReset s) := by
  show execBcColdReset s = _
  rw [execBcColdReset, hr, hl]
  rfl

/-- R116: the cold reset of DEV.RESET comes at its time. -/
theorem exec_coldResetAssert_of_due {s : State} {at_ : Nat} (hc : s.dev.coldAt = some at_) (hd : at_ ≤ s.mono) :
    exec .coldResetAssert s = .next (coldReset s) := by
  show execColdResetAssert s = _
  rw [execColdResetAssert, hc, Option.any_some, State.due, decide_eq_true hd, when_true]

/-- Settles O8: each reset is the state that a cold reset leaves, with the power-on order started from it or not. -/
theorem resetsComplete : Obligations.ResetsComplete := by
  intro s
  refine ⟨fun hr hl => ?production, fun hr hl => ?armed, fun hr hl => ?board, fun at_ => exec_coldResetAssert_of_due, ?pin⟩
  case production => rw [exec_powerOnResetRelease_of_reset hr, startPowerOn_of_production hl]
  case armed => rw [exec_powerOnResetRelease_of_reset hr, startPowerOn_of_armed hl]
  case board =>
    obtain ⟨sec, started, copyA, copyB⟩ := startPowerOn_eq (coldState s)
    refine ⟨_, (exec_bcColdReset_of_running hr hl).trans (congrArg _ started), ?_⟩
    exact ⟨rfl, rfl, rfl, rfl, rfl, rfl, rfl, rfl, rfl, rfl, rfl, copyA, copyB, rfl⟩
  case pin => exact ⟨_, rfl, rfl, rfl, rfl, rfl, rfl, rfl, rfl, rfl⟩

end Sys2Proof.Machine
end

section
/-! SUPPORT. The steps of the power-on order (R90 to R96, R98, Table BU-1). -/

namespace Sys2Proof.Machine

/-! ### The root PLL -/

theorem rampNext_rootLocked (fuel : Nat) (s : State) : (rampNext fuel s).pwr.rootLocked = s.pwr.rootLocked := by
  induction fuel generalizing s with
  | zero => rfl
  | succ fuel ih =>
    unfold rampNext
    split
    · rfl
    · split
      · rfl
      · exact ih _

theorem powerOn_rootLocked (pd : Nat) (s : State) : (powerOn pd s).pwr.rootLocked = s.pwr.rootLocked := by
  unfold powerOn
  split
  · exact rampNext_rootLocked ..
  · rfl

theorem powerAll_rootLocked (l : List Nat) (s : State) : (powerAll l s).pwr.rootLocked = s.pwr.rootLocked :=
  foldS_keeps (fun s => s.pwr.rootLocked) powerOn powerOn_rootLocked l s

theorem exec_rootpllLock_of_step {s : State} (h : s.dev.step = 1) : exec .rootpllLock s =
    .next (powerAll [1, 2, 3] ({ s with pwr := { s.pwr with rootLocked := true } }.atStep 2)) := by
  show execRootpllLock s = _
  rw [execRootpllLock, h, decide_eq_true rfl, when_true]

/-! ### ROM -/

theorem spentTrial_of_none {s : State} (h : s.upd.trial = none) : spentTrial s = s := by
  simp [spentTrial, h]

/-- R93: ROM's verdict on the slot that it verifies, with no trial in the directory. -/
theorem exec_kilnVerify_of_target {slot : Nat} {s : State} (passed : Bool) (hb : s.dev.boot = 1) (ht : s.upd.trial = none) (hs : slot = s.romTarget) :
    exec (.kilnVerify slot passed) s = .next (if s.sec.life = .rma then romRecovery s else romVerdict slot passed s) := by
  show execKilnVerify slot passed s = _
  simp only [execKilnVerify, spentTrial_of_none ht, hb, ← hs, decide_true, Bool.and_self, when_true]

theorem romVerdict_of_sound {slot : Nat} {s : State} (hw : (s.slot slot).whole = true) (hv : s.upd.fusedSvn ≤ (s.slot slot).svn) :
    romVerdict slot true s = romBoot slot s := by
  simp [romVerdict, hw, hv]

theorem romVerdict_of_failed {slot : Nat} {s u : State} (ht : s.upd.trial = none)
    (hu : u = { s with dev := { s.dev with kilnFailed := addOnce s.dev.kilnFailed slot } }) :
    romVerdict slot false s = if u.dev.kilnFailed.length < 2 then u else romRecovery u := by
  subst hu
  simp [romVerdict, ht]

/-- R93, R445: firmware of a slot starts with its version, a new FW_EPOCH and the UDS locked. -/
theorem romBoot_eq (slot : Nat) (s : State) : ∃ upd : Upd, romBoot slot s = { s with
    upd := upd,
    sec := { s.sec with udsLocked := true },
    hif := { s.hif with
      fwVersion := (s.slot slot).version, svn := (s.slot slot).svn,
      fwEpoch := if s.hif.fwEpoch + 1 < 256 then s.hif.fwEpoch + 1 else 1 },
    dev := { s.dev with boot := 2, kilnFailed := [] } } ∧ upd.running = slot := by
  obtain ⟨upd, noted⟩ : ∃ upd, (if decide (s.upd.trial = some slot) = true ∨ s.upd.dirRunning = none then dirWrite s else s)
      = { s with upd := upd } := by
    split <;> exact ⟨_, rfl⟩
  unfold romBoot
  dsimp only
  rw [noted]
  refine ⟨_, rfl, ?_⟩
  rfl

/-! ### The Wort Bridge -/

section Bridge
variable {s : State} (h5 : s.dev.step = 5) (hf : s.hif.fwReady = true) (hp : s.dev.phase = .init)
include h5 hf hp

theorem exec_wortBridgeTrainEnd_passed : exec (.wortBridgeTrainEnd true) s = .next (powerAll (upFrom 9 6) (toPhase .bridge
    ({ s with dev := { s.dev with bridgeUp := true }, flt := { s.flt with wb := [] } }.atStep 6))) := by
  show execWortBridgeTrainEnd true s = _
  rw [execWortBridgeTrainEnd, h5, hf, hp]
  rfl

theorem exec_wortBridgeTrainEnd_failed {u : State} (hu : u = { s with dev := { s.dev with bridgeTries := s.dev.bridgeTries + 1 } }) :
    exec (.wortBridgeTrainEnd false) s = .next (if u.dev.bridgeTries < 3 then u else count Cn.buBridgeFail 0 1 (failBringup 1 u)) := by
  subst hu
  show execWortBridgeTrainEnd false s = _
  rw [execWortBridgeTrainEnd, h5, hf, hp]
  rfl

end Bridge

theorem toPhase_dev (p : Phase) (s : State) : (toPhase p s).dev = { s.dev with phase := p } := (notify_changes ..).same .dev (by decide)

theorem failBringup_dev (cause : Nat) (s : State) : (failBringup cause s).dev = { s.dev with phase := .fail, failCause := cause } := by
  rw [failBringup, toPhase_dev, show _ = _ from (notify_changes ..).same .dev (by decide)]

/-! ### HBM stacks -/

/-- The tables are as they were when neither the live epochs nor the rest of them changed. -/
theorem Changes.tbl_eq {ps : List Part} {s t : State} (h : Changes ps s t) (hr : Part.tbl ∉ ps) (he : Part.epochs ∉ ps) : t.tbl = s.tbl := by
  have rest : { t.tbl with epochs := [] } = { s.tbl with epochs := [] } := h.same .tbl hr
  have epochs : t.tbl.epochs = s.tbl.epochs := h.same .epochs he
  calc t.tbl = { ({ t.tbl with epochs := [] } : Tbl) with epochs := t.tbl.epochs } := .refl _
    _ = s.tbl := by rw [rest, epochs]

theorem exec_hbmTrainingDone_of_due {stack : Nat} {passed : Bool} {s u : State} (hs : stack < 6) (hup : stack ∉ s.dev.hbmUp)
    (hfl : stack ∉ s.dev.hbmFailed) (hd : s.domOn (9 + stack) = true) (hf : s.hif.fwReady = true) (hp : s.dev.phase ≠ .fail)
    (hu : u = if passed && decide (2 ≤ stack) then repairStack stack s else s) : exec (.hbmTrainingDone stack passed) s =
      .next (if passed && decide ((u.failedIn stack).length < 3) then hbmTrained stack u else hbmUntrained stack u) := by
  have guard : (decide (stack < 6 ∧ stack ∉ s.dev.hbmUp ∧ stack ∉ s.dev.hbmFailed) && s.domOn (hbmDomain stack) && s.hif.fwReady
      && s.dev.phase != .fail) = true := by
    rw [decide_eq_true ⟨hs, hup, hfl⟩, hbmDomain, hd, hf, bne_iff_ne.mpr hp]
    rfl
  subst hu
  show execHbmTrainingDone stack passed s = _
  rw [execHbmTrainingDone, guard, when_true]

/-- The device with a stack among those trained. -/
def Dev.withStack (d : Dev) (stack : Nat) : Dev := { d with hbmUp := sortUp (stack :: d.hbmUp), hbmFailed := without d.hbmFailed stack }

theorem hbmTrained_of_buffer {stack : Nat} {s : State} (h : 2 ≤ stack) :
    hbmTrained stack s = stackTrained stack (poolUpkeep { s with dev := s.dev.withStack stack }) := by
  simp only [hbmTrained, Nat.not_lt.mpr h, if_false, Dev.withStack]

/-- A table stack joins, and step 6 of Table BU-1 ends. -/
def tableJoined (stack : Nat) (s : State) : State :=
  { s with dev := { s.dev.withStack stack with step := 7 }, tbl := { s.tbl with copies := addOnce s.tbl.copies stack } }

theorem tableJoined_changes (stack : Nat) (s : State) : Changes [.dev, .tbl] s (tableJoined stack s) := by
  refine ⟨fun p hp => ?_⟩
  cases p
  case dev | tbl => exact absurd (by decide) hp
  all_goals rfl

/-- R96: a table stack that trains in step 6 ends the step. -/
theorem hbmTrained_of_table {stack : Nat} {s : State} (h : stack < 2) (h6 : s.dev.step = 6) :
    hbmTrained stack s = stackTrained stack (powerOn 15 (tableJoined stack s)) := by
  simp only [hbmTrained, h, h6, if_true, tableJoined, Dev.withStack, State.atStep]

theorem hbmTrained_of_table_changes {stack : Nat} {s : State} (h : stack < 2) (h6 : s.dev.step = 6) :
    Changes [.rings, .queue, .cnt, .pwr, .out] (tableJoined stack s) (hbmTrained stack s) := by
  rw [hbmTrained_of_table h h6]
  exact Changes.via ((powerOn_changes ..).weaken (by decide)) (stackTrained_changes ..) (by decide)

/-- A stack that did not train is noted and counted. -/
def hbmMissed (stack : Nat) (s : State) : State :=
  count Cn.buHbmTrainFail 0 1 { s with dev := { s.dev with hbmFailed := addOnce s.dev.hbmFailed stack } }

theorem hbmMissed_dev (stack : Nat) (s : State) : (hbmMissed stack s).dev = { s.dev with hbmFailed := addOnce s.dev.hbmFailed stack } :=
  (count_changes ..).same .dev (by decide)

/-- R95, R96: a stack that does not train is left out, and without a table stack bring-up fails. -/
theorem hbmUntrained_dev (stack : Nat) (s : State) : (hbmUntrained stack s).dev =
    if s.dev.phase = .bridge ∧ 0 ∈ addOnce s.dev.hbmFailed stack ∧ 1 ∈ addOnce s.dev.hbmFailed stack
      then { s.dev with hbmFailed := addOnce s.dev.hbmFailed stack, phase := .fail, failCause := 2 }
      else { s.dev with hbmFailed := addOnce s.dev.hbmFailed stack } := by
  show (stackTrained stack (if decide (0 ∈ (hbmMissed stack s).dev.hbmFailed ∧ 1 ∈ (hbmMissed stack s).dev.hbmFailed)
      && (hbmMissed stack s).dev.phase == .bridge then failBringup 2 (hbmMissed stack s)
    else notify Ev.devDegraded (putLe 1 stack) [] (hbmMissed stack s))).dev = _
  rw [show _ = _ from (stackTrained_changes ..).same .dev (by decide), hbmMissed_dev]
  simp only [Bool.and_eq_true, decide_eq_true_eq, beq_iff_eq, and_comm]
  split
  · rw [failBringup_dev, hbmMissed_dev]
  · exact ((notify_changes ..).same .dev (by decide)).trans (hbmMissed_dev ..)

/-- Settles O9: each command is done under its guards, and what it does is read off part by part. -/
theorem bringupComplete : Obligations.BringupComplete := by
  intro s
  refine ⟨fun h => ?pll, fun slot hb ht hs hl hw hv => ?sound, fun slot hb ht hs hl hk => ?failed, fun slot other hb ht hs hl hk hne => ?exhausted,
    fun slot passed hb ht hs hl => ?rma, fun h5 hf hp => ?bridge, fun h5 hf hp h2 => ?retry, fun h5 hf hp h2 => ?givenUp,
    fun stack passed u hs hup hfl hd hf hp hu => ?stack⟩
  case pll =>
    have powered := powerAll_changes [1, 2, 3] ({ s with pwr := { s.pwr with rootLocked := true } }.atStep 2)
    refine ⟨_, exec_rootpllLock_of_step h, powered.same .dev (by decide), powerAll_rootLocked .., ?_⟩
    exact Changes.via (Changes.set_dev (Changes.set_pwr .rfl (by decide)) (by decide)) powered (by decide)
  case sound =>
    obtain ⟨upd, booted, running⟩ := romBoot_eq slot s
    have hch := romBoot_changes slot s
    rw [exec_kilnVerify_of_target true hb ht hs, if_neg hl, romVerdict_of_sound hw hv]
    rw [booted] at hch ⊢
    exact ⟨_, rfl, running, rfl, rfl, rfl, rfl, rfl, hch⟩
  case failed =>
    rw [exec_kilnVerify_of_target false hb ht hs, if_neg hl, romVerdict_of_failed ht rfl, hk]
    rfl
  case exhausted =>
    have two : (addOnce [other] slot).length = 2 := by rw [addOnce, if_neg (by simpa using hne.symm)]; rfl
    rw [exec_kilnVerify_of_target false hb ht hs, if_neg hl, romVerdict_of_failed ht rfl, hk, if_neg (by rw [two]; decide)]
  case rma => rw [exec_kilnVerify_of_target passed hb ht hs, if_pos hl]
  case bridge =>
    exact ⟨_, exec_wortBridgeTrainEnd_passed h5 hf hp, ((notify_changes ..).weaken (by decide)).trans ((powerAll_changes ..).weaken (by decide))⟩
  case retry => rw [exec_wortBridgeTrainEnd_failed h5 hf hp rfl, if_pos (by dsimp only; omega)]
  case givenUp =>
    refine ⟨_, by rw [exec_wortBridgeTrainEnd_failed h5 hf hp rfl, if_neg (by dsimp only; omega)], ?_, ?_⟩
    · rw [show _ = _ from (count_changes ..).same .dev (by decide), failBringup_dev, h2]
    · exact Changes.via (Changes.via (Changes.set_dev .rfl (by decide)) (failBringup_changes ..) (by decide)) (count_changes ..) (by decide)
  case stack =>
    have done := exec_hbmTrainingDone_of_due hs hup hfl hd hf hp hu
    refine ⟨fun h2 hpass h3 => ?buffer, fun h2 h6 hpass h3 => ?table, fun hn hleft => ?left, fun hn hb h0 h1 => ?lost⟩
    case buffer =>
      have repaired : Changes [.draws, .adm] s u := by
        rw [hu]
        exact .ite (repairStack_changes ..) .rfl
      have joined := poolUpkeep_changes { u with dev := u.dev.withStack stack }
      have trained := stackTrained_changes stack (poolUpkeep { u with dev := u.dev.withStack stack })
      have dev : u.dev = s.dev := repaired.same .dev (by decide)
      refine ⟨_, ?_, ((trained.same .dev (by decide)).trans (joined.same .dev (by decide))).trans (congrArg (Dev.withStack · stack) dev), ?_⟩
      · rw [done, hpass, Bool.true_and, if_pos (decide_eq_true h3), hbmTrained_of_buffer h2]
      · exact Changes.via (Changes.via (Changes.set_dev (repaired.weaken (by decide)) (by decide)) joined (by decide)) trained (by decide)
    case table =>
      have same : u = s := by rw [hu, decide_eq_false (Nat.not_le.mpr h2), Bool.and_false]; rfl
      subst same
      have trained := hbmTrained_of_table_changes h2 h6
      refine ⟨_, ?_, trained.same .dev (by decide), trained.tbl_eq (by decide) (by decide), ?_⟩
      · rw [done, hpass, Bool.true_and, if_pos (decide_eq_true h3)]
      · exact Changes.via ((tableJoined_changes stack u).weaken (by decide)) trained (by decide)
    case left =>
      subst hn hu
      exact ⟨_, done, (hbmUntrained_dev stack u).trans (if_neg hleft), (hbmUntrained_changes stack u).weaken (by decide)⟩
    case lost =>
      subst hn hu
      exact ⟨_, done, (hbmUntrained_dev stack u).trans (if_pos ⟨hb, h0, h1⟩), (hbmUntrained_changes stack u).weaken (by decide)⟩

end Sys2Proof.Machine
end

section
/-! SUPPORT. The commands of family DEV (R97, R99, R105, R106, R116 to R118, Tables BU-10 to BU-15). -/

namespace Sys2Proof.Machine

/-- A command that starts is completed with the reply its body gives. -/
theorem next_runCommand_of_body {op vi : Nat} {io : HostIo} {e : Entry} {s : State} {body : Body} {r : Reply} (h : starts op vi io e s = true)
    (hr : body vi e (taken vi s) = r) :
    (.next (runCommand op vi io body s) : Host.Outcome State Fault Refusal) = .next (completed vi io e r) := by
  rw [runCommand_starts body h, hr]

/-! ### DEV.STATUS -/

/-- Table BU-12: 64 bytes, which begin with the phase, the cause of a failure and the pipes. -/
theorem bodyDevStatus_answers (vi : Nat) (e : Entry) (s : State) : ∃ d, bodyDevStatus vi e s = .read s [] d ∧ d.length = 64
    ∧ (putLe 1 s.dev.phase.code ++ putLe 1 s.dev.failCause ++ putLe 2 (maskOf s.dev.pipes)) <+: d := by
  refine ⟨_, rfl, by simp [putLe_length, zeros], ?_⟩
  iterate 14 refine List.IsPrefix.trans ?_ (List.prefix_append ..)
  exact List.prefix_rfl

/-! ### DEV.SERVICE -/

/-- R105: a unit that may enter full service enters it. -/
theorem bodyDevService_of_allowed {vi : Nat} {e : Entry} {s : State} (hm : e.p 24 1 = 1) (hp : e.p 26 2 ≤ 128)
    (hs : s.serviceRefusal (bit (e.p 25 1) 0) = none) : bodyDevService vi e s = {
      st := enterFull ((s.newest.map Epoch.num).getD 0) (e.p 26 2) s,
      detail := if s.bufStacks.length < 4 then Dt.devDegraded else Dt.hifNone,
      result := putLe 2 ((s.newest.map Epoch.num).getD 0) ++ zeros 2 ++ putLe 8 s.timeNs } := by
  have inRange : ¬ (e.p 24 1 ≠ 1 ∨ 128 < e.p 26 2) := by omega
  simp only [bodyDevService, inRange, if_false, hs]

/-! ### DEV.RESET -/

section Reset
variable {vi : Nat} {e : Entry} {s : State}

theorem bodyDevReset_of_warm (hk : e.p 24 1 = 1) (ht : e.p 25 1 = 0) (hi : e.p 26 2 = 0) (hc : e.p 28 4 = 0) :
    bodyDevReset vi e s = .ok (warmRestart 1 s) := by
  simp [bodyDevReset, hk, ht, hi, hc]

theorem bodyDevReset_of_cold (hk : e.p 24 1 = 3) (ht : e.p 25 1 = 0) (hi : e.p 26 2 = 0) (hc : e.p 28 4 = 0x0C01D000) :
    bodyDevReset vi e s = .ok { s with dev := { s.dev with coldAt := some (s.mono + Config.ms 10) } } := by
  simp [bodyDevReset, hk, ht, hi, hc]

theorem bodyDevReset_of_block (hk : e.p 24 1 = 2) (hc : e.p 28 4 = 0) (hi : e.p 26 2 < blockCount (e.p 25 1))
    (hr : s.resetting (e.p 25 1) (e.p 26 2) = false) : bodyDevReset vi e s = .ok (blockReset (e.p 25 1) (e.p 26 2) s) := by
  simp [bodyDevReset, hk, hc, hr, Nat.not_le.mpr hi]

end Reset

/-! ### Settings that are stored -/

theorem storing_of_no_trial {s t : State} (h : s.onTrial = false) : storing s (.ok t) = .ok (saveSettings t) := by
  simp [storing, Reply.ok, h]

/-! ### DEV.SET_CELLAR_SET -/

/-- R118: a set in its format, whose records resolve, is used and stored. -/
theorem bodyDevSetCellarSet_of_sound {vi : Nat} {e : Entry} {s : State} (hr : le e.buf 1 1 = 0) (hc : le e.buf 10 1 < 8)
    (hz : (bytesAt e.buf 11 5).any (fun x => x != 0) = false) (hm : le e.buf 0 1 ≤ 1) (hn : cellarTooMany e.buf = false)
    (hl : e.dataLen = 16 + (cellarParts e.buf).2.2.2) (hb : cellarBad e.buf = none) (hu : sumOf (cellarOf e.buf).lpm lpmUnits ≤ 4096)
    (hf : cellarRefusal (cellarOf e.buf) s = none) (ht : s.onTrial = false) :
    bodyDevSetCellarSet vi e s = .ok (saveSettings (useCellarSet (cellarOf e.buf) s)) := by
  have inRange : decide (le e.buf 1 1 ≠ 0 ∨ 8 ≤ le e.buf 10 1) = false := decide_eq_false (by omega)
  simp only [bodyDevSetCellarSet, inRange, hz, Bool.or_self, Bool.false_eq_true, if_false, Nat.not_lt.mpr hm, hn, hl, ne_eq, not_true_eq_false,
    hb, Nat.not_lt.mpr hu, hf, storing_of_no_trial ht]

/-- The buffer of zeros is a set in its format: the empty one, which does not punt what it misses. -/
theorem cellarOf_zeros : cellarOf (zeros 16) = { missPunt := false } := by decide

theorem cellarRefusal_of_empty (s : State) : cellarRefusal { missPunt := false } s = none := by
  simp [cellarRefusal]

theorem useCellarSet_of_waiting {c : CellarSet} {s : State} (h : s.dev.phase ≠ .cellar) : useCellarSet c s =
    { s with dev := { s.dev with cfg := { s.dev.cfg with cellar := c } }, asa := { s.asa with cellarHits := [] } } := by
  simp [useCellarSet, h]

theorem bodyDevSetCellarSet_of_empty {vi : Nat} {e : Entry} {s : State} (hl : e.dataLen = 16) (hb : e.buf = zeros 16)
    (hp : s.dev.phase ≠ .cellar) (ht : s.onTrial = false) : bodyDevSetCellarSet vi e s = .ok (saveSettings
      { s with dev := { s.dev with cfg := { s.dev.cfg with cellar := { missPunt := false } } }, asa := { s.asa with cellarHits := [] } }) := by
  rw [bodyDevSetCellarSet_of_sound, hb, cellarOf_zeros, useCellarSet_of_waiting hp]
  case hf => rw [hb, cellarOf_zeros]; exact cellarRefusal_of_empty s
  case ht => exact ht
  case hl => rw [hl, hb]; decide
  all_goals rw [hb]; decide

/-! ### DEV.SET_BOARD -/

/-- R117: a board descriptor that names no cage or number in use is stored. -/
theorem bodyDevSetBoard_of_sound {vi : Nat} {e : Entry} {m : AMap CageMap} {s : State} (hs : le e.buf 0 2 ≤ 2047) (hn : le e.buf 2 1 ≤ 128)
    (hl : e.dataLen = 16 + 4 * le e.buf 2 1) (hz : (bytesAt e.buf 3 13).any (fun x => x != 0) = false)
    (hr : (chunks 4 (le e.buf 2 1) (e.buf.drop 16)).any (fun r => decide (le r 3 1 ≠ 0)) = false)
    (hm : parseCages (chunks 4 (le e.buf 2 1) (e.buf.drop 16)) = some m)
    (hsun : le e.buf 0 2 = s.dev.cfg.sun ∨ (s.planesUp = [] ∧ s.member = false)) (hc : s.cageInUse m = false) (ht : s.onTrial = false) :
    bodyDevSetBoard vi e s = .ok (saveSettings (moduleRefresh (startReach
      { s with dev := { s.dev with cfg := { s.dev.cfg with sun := le e.buf 0 2, cages := m } } }))) := by
  have inRange : ¬ (2047 < le e.buf 0 2 ∨ 128 < le e.buf 2 1) := by omega
  have unused : ¬ (le e.buf 0 2 ≠ s.dev.cfg.sun ∧ (s.planesUp ≠ [] ∨ s.member = true)) := by
    rintro ⟨hne, h⟩
    obtain ⟨hup, hmem⟩ := hsun.resolve_left hne
    rcases h with h | h
    · exact h hup
    · rw [hmem] at h; exact Bool.false_ne_true h
  simp only [bodyDevSetBoard, inRange, if_false, hl, ne_eq, not_true_eq_false, hz, Bool.false_or, Bool.false_eq_true, hr, hm, unused, hc,
    storing_of_no_trial ht]

/-- Settles O10: each command is completed with what its body gives under the clause's conditions. -/
theorem devCommandsComplete : Obligations.DevCommandsComplete := by
  intro vi io e s
  refine ⟨fun h => ?status, fun h hm hp hs => ?service, fun h hk ht hi hc => ?warm, fun h hk ht hi hc => ?cold, fun h hk hc hi hr => ?block,
    fun h hr hc hz hm hn hl hb hu hf ht => ?cellar, fun h hl hb hp ht => ?empty, fun m h hs hn hl hz hr hm hsun hc ht => ?board⟩
  case status =>
    obtain ⟨d, hd, hbytes, hstart⟩ := bodyDevStatus_answers vi e (taken vi s)
    exact ⟨d, next_runCommand_of_body h hd, hbytes, hstart⟩
  case service => exact next_runCommand_of_body h (bodyDevService_of_allowed hm hp hs)
  case warm => exact next_runCommand_of_body h (bodyDevReset_of_warm hk ht hi hc)
  case cold => exact next_runCommand_of_body h (bodyDevReset_of_cold hk ht hi hc)
  case block => exact next_runCommand_of_body h (bodyDevReset_of_block hk hc hi hr)
  case cellar => exact next_runCommand_of_body h (bodyDevSetCellarSet_of_sound hr hc hz hm hn hl hb hu hf ht)
  case empty => exact next_runCommand_of_body h (bodyDevSetCellarSet_of_empty hl hb hp ht)
  case board => exact next_runCommand_of_body h (bodyDevSetBoard_of_sound hs hn hl hz hr hm hsun hc ht)

end Sys2Proof.Machine
end

section
/-! SUPPORT. The end of a block reset (R99), the end of the Cellar set (R106) and the board controller's heartbeat (R112). -/

namespace Sys2Proof.Machine

/-! ### The end of a block reset -/

/-- R99, R341: what a block's own recovery does when its reset ends. -/
def blockRecovered (kind i : Nat) (s : State) : State :=
  if kind = 1 then endWindow 12 i s else if kind = 3 ∧ (s.plane i).st = .holdoff then leaveHoldoff i s else s

/-- R99: the reset's end is reported and counted. -/
def blockReported (kind i : Nat) (s : State) : State :=
  count Cn.buBlockReset 0 1 (notify Ev.devBlockReset (putLe 1 kind ++ zeros 1 ++ putLe 2 i) [] s)

theorem blockReported_changes (kind i : Nat) (s : State) : Changes [.rings, .cnt, .out] s (blockReported kind i s) :=
  (notify_changes ..).trans (count_changes ..)

theorem blockRecovered_of_pipe (i : Nat) (s : State) : blockRecovered 1 i s = endWindow 12 i s := rfl

theorem blockRecovered_of_holdoff {i : Nat} {s : State} (h : (s.plane i).st = .holdoff) : blockRecovered 3 i s = leaveHoldoff i s := by
  rw [blockRecovered, if_neg (by decide), if_pos ⟨rfl, h⟩]

theorem blockRecovered_of_other {kind i : Nat} {s : State} (h : kind = 2 ∨ kind = 4 ∨ kind = 5 ∨ kind = 3 ∧ (s.plane i).st ≠ .holdoff) :
    blockRecovered kind i s = s := by
  rw [blockRecovered, if_neg (by omega), if_neg]
  rintro ⟨rfl, hold⟩
  rcases h with h | h | h | ⟨-, h⟩
  · cases h
  · cases h
  · cases h
  · exact h hold

theorem blockRecovered_changes (kind i : Nat) (s : State) : Changes [.rings, .fab, .log, .cnt, .out] s (blockRecovered kind i s) :=
  .ite ((endWindow_changes ..).weaken (by decide)) (.ite ((leaveHoldoff_changes ..).weaken (by decide)) .rfl)

/-- R99: a block's reset ends, a bank's once it has reloaded, a pipe's in its turn among the recoveries. -/
theorem exec_blockResetDone_of_due {kind i : Nat} {s u : State} (hr : (kind, i) ∈ s.dev.blockResets)
    (hb : kind = 2 → (s.bank i).st ≠ .reloading) (ht : kind = 1 → s.recoveryTurn 12 i = true)
    (hu : u = { s with dev := { s.dev with blockResets := without s.dev.blockResets (kind, i) } }) :
    exec (.blockResetDone kind i) s = .next (blockReported kind i (blockRecovered kind i u)) := by
  have guard : (decide ((kind, i) ∈ s.dev.blockResets) && !(kind == 2 && (s.bank i).st == .reloading)
      && (kind != 1 || s.recoveryTurn 12 i)) = true := by
    simp only [Bool.and_eq_true, Bool.not_eq_true', Bool.and_eq_false_imp, Bool.or_eq_true, beq_iff_eq, beq_eq_false_iff_ne, bne_iff_ne]
    exact ⟨⟨decide_eq_true hr, hb⟩, Decidable.not_or_of_imp ht⟩
  subst hu
  show execBlockResetDone kind i s = _
  rw [execBlockResetDone, guard, when_true]
  rfl

/-! ### The end of the Cellar set -/

theorem domainEvent_asa (pd : Nat) (on : Bool) (s : State) : (domainEvent pd on s).asa = s.asa := (notify_changes ..).same .asa (by decide)

/-- The banks' power leaves the hits of the Cellar set as they are. -/
theorem setBankPower_cellarHits (b : Nat) (on : Bool) (s : State) : (setBankPower b on s).asa.cellarHits = s.asa.cellarHits := by
  unfold setBankPower
  extract_lets st u
  have switched : u.asa.cellarHits = s.asa.cellarHits := by
    unfold u
    split
    · rfl
    · split <;> rfl
  split
  · exact switched
  · rw [domainEvent_asa]
    exact switched

theorem asaPower_cellarHits (s : State) : (asaPower s).asa.cellarHits = s.asa.cellarHits :=
  foldS_keeps (fun s => s.asa.cellarHits) _ (fun _ _ => setBankPower_cellarHits ..) _ s

/-- R106: bank 0 is cleared once no packet that Mill stamped in Cellar mode is left. -/
theorem exec_fullServiceBank0Clear_of_gone {s u : State} (hw : s.dev.bank0Wait = true) (hp : s.dev.phase = .full)
    (hm : s.mash.pkts.all (fun m => m.stamp != some 0) = true)
    (hu : u = { s with dev := { s.dev with bank0Wait := false }, asa := { s.asa with cellarHits := [] } }) : exec .fullServiceBank0Clear s =
      .next (asaPower (if (s.bank 0).st = .cellar then u.modBank 0 (fun x => { x with st := .on }) else u)) := by
  have gone : s.mash.pkts.any (fun m => m.stamp == some 0) = false := by
    rw [List.any_eq_not_all_not, Bool.not_eq_false']
    exact hm
  subst hu
  show execFullServiceBank0Clear s = _
  rw [execFullServiceBank0Clear, hw, hp, gone]
  rfl

/-! ### The heartbeat -/

theorem exec_bcHeartbeat_of_ready {s : State} (h : s.hif.fwReady = true) : exec .bcHeartbeat s =
    .next (if s.dev.bcLost then notify Ev.devBcBack [] [] { s with dev := { s.dev with lastBeat := s.mono, bcLost := false } }
      else { s with dev := { s.dev with lastBeat := s.mono, bcLost := false } }) := by
  show execBcHeartbeat s = _
  rw [execBcHeartbeat, h, when_true]

/-- R112: the board controller is lost when no heartbeat has come for 2 s. -/
theorem exec_bcHeartbeatLoss_of_due {s : State} (hf : s.hif.fwReady = true) (hl : s.dev.bcLost = false)
    (hd : s.due (s.dev.lastBeat + Config.sec 2) = true) : exec .bcHeartbeatLoss s =
      .next (count Cn.bcLost 0 1 (notify Ev.devBcLost [] [] { s with dev := { s.dev with bcLost := true } })) := by
  show execBcHeartbeatLoss s = _
  rw [execBcHeartbeatLoss, hf, hl, hd]
  rfl

/-- Settles O11: a block reset ends with its recovery and its report, and the other events are their own definitions under their guards. -/
theorem devEventsComplete : Obligations.DevEventsComplete := by
  intro s
  refine ⟨fun kind i u hr hb ht hu => ?block, fun hw hp hm => ?bank0, fun hf hl => ?beat, fun hf hl => ?back, fun hf hl hd => ?lost⟩
  case block =>
    have planes : u.plane i = s.plane i := by rw [hu]; rfl
    have reported := blockReported_changes kind i (blockRecovered kind i u)
    refine ⟨_, exec_blockResetDone_of_due hr hb ht hu, ?_, fun hk => ?_, fun hk hp => ?_, fun hk => ?_⟩
    · exact (reported.same .dev (by decide)).trans ((blockRecovered_changes kind i u).same .dev (by decide))
    · subst hk
      exact Changes.via (endWindow_changes 12 i u) reported (by decide)
    · subst hk
      rwa [blockRecovered_of_holdoff (planes ▸ hp)] at reported ⊢
    · rwa [blockRecovered_of_other (planes ▸ hk)] at reported ⊢
  case bank0 =>
    obtain ⟨t, ht, hch⟩ := execFullServiceBank0Clear_changes s
    obtain rfl := Host.Outcome.next.inj (ht.symm.trans (exec_fullServiceBank0Clear_of_gone hw hp hm rfl))
    refine ⟨_, ht, ?_, ?_, hch⟩
    · rw [show _ = _ from (asaPower_changes _).same .dev (by decide)]
      split <;> rfl
    · rw [asaPower_cellarHits]
      split <;> rfl
  case beat => rw [exec_bcHeartbeat_of_ready hf, hl]; rfl
  case back => rw [exec_bcHeartbeat_of_ready hf, hl]; rfl
  case lost => exact ⟨_, exec_bcHeartbeatLoss_of_due hf hl hd, (notify_changes ..).trans (count_changes ..)⟩

end Sys2Proof.Machine
end

section
/-! SUPPORT. The board controller's reports on a module (R111, Table BU-7). -/

namespace Sys2Proof.Machine

/-! ### What is put out stays put out -/

theorem foldS_out {α : Type} {f : α → State → State} (hf : ∀ a x, x.out <+: (f a x).out) (l : List α) (s : State) :
    s.out <+: (foldS l s f).out := by
  induction l generalizing s with
  | nil => exact List.prefix_rfl
  | cons a l ih => exact (hf a s).trans (ih (f a s))

theorem ite_out {s t u : State} {c : Prop} [Decidable c] (h : s.out <+: t.out) (k : s.out <+: u.out) : s.out <+: (if c then t else u).out := by
  split <;> assumption

theorem signal_out (vi vec : Nat) (s : State) : s.out <+: (signal vi vec s).out := ite_out List.prefix_rfl (List.prefix_append ..)

theorem postVector_out (vi vec : Nat) (s : State) : s.out <+: (postVector vi vec s).out :=
  ite_out (signal_out vi vec (s.modFn vi _)) List.prefix_rfl

theorem writeNotif_out (vi : Nat) (n : Notif) (s : State) : s.out <+: (writeNotif vi n s).out := postVector_out vi 1 (s.modFn vi _)

theorem raiseTo_out (fuel vi : Nat) (n : Notif) (s : State) : s.out <+: (raiseTo fuel vi n s).out := by
  induction fuel generalizing vi n s
  all_goals
    unfold raiseTo
    extract_lets f numbered t w lost
    refine ite_out List.prefix_rfl (ite_out List.prefix_rfl (ite_out (writeNotif_out vi numbered t) (ite_out List.prefix_rfl ?_)))
  case zero => exact List.prefix_rfl
  case succ fuel ih => exact ite_out (ih 0 _ lost) List.prefix_rfl

theorem notify_out (ev : Nat × Nat) (payload : List Byte) (vis : List Nat) (s : State) : s.out <+: (notify ev payload vis s).out :=
  foldS_out (fun _ _ => raiseTo_out ..) _ s

theorem cageEvent_out (ev : Nat × Nat) (cage : Nat) (more : List Byte) (s : State) : s.out <+: (cageEvent ev cage more s).out := notify_out ..

/-! ### The cages -/

theorem State.setCage_cage (s : State) (c : Nat) (x : Cage) : (s.setCage c x).cage c = x := mgetD_mset_self ..

theorem State.setCage_cage_ne (s : State) {c q : Nat} (x : Cage) (h : q ≠ c) : (s.setCage c x).cage q = s.cage q := mgetD_mset_ne _ _ _ h

/-- What a change leaves of the device it leaves of its cages. -/
theorem State.cage_of_dev {s t : State} (h : t.dev = s.dev) (q : Nat) : t.cage q = s.cage q := by rw [State.cage, h, State.cage]

theorem cageEvent_dev (ev : Nat × Nat) (cage : Nat) (more : List Byte) (s : State) : (cageEvent ev cage more s).dev = s.dev :=
  (cageEvent_changes ev cage more s).same .dev (by decide)

theorem moduleCause_dev (cage : Nat) (down : Bool) (s : State) : (moduleCause cage down s).dev = s.dev :=
  (moduleCause_changes cage down s).same .dev (by decide)

theorem moduleCause_of_no_port {cage : Nat} {s : State} (down : Bool) (h : s.portsIn cage = []) : moduleCause cage down s = s := by
  rw [moduleCause, h]; rfl

/-! ### Insertion -/

/-- R111: the application that a module in the cage is asked for: one at the rate of the cage's first port, or its own first one where no port
lies on the cage. -/
def State.cageWants (s : State) (cage : Nat) (apps : List Nat) : Option Nat :=
  match s.portsIn cage with
  | [] => apps.head?
  | p :: _ => if s.portGbps p ∈ apps then some (s.portGbps p) else none

theorem cageInsert_of_suits {cage r : Nat} {apps : List Nat} {s : State} (h : s.cageWants cage apps = some r) : cageInsert cage apps s =
    cageEvent Ev.portModuleIn cage [] ((s.setCage cage { st := .present, apps := apps, since := s.mono }).emit (.appRequest cage r)) := by
  unfold State.cageWants at h
  unfold cageInsert
  cases hp : s.portsIn cage with
  | nil => simp only [hp] at h; simp only [List.head?_nil, Option.map_none, h]
  | cons p ps => simp only [hp] at h; simp only [List.head?_cons, Option.map_some, h]

/-- A module without an application that suits is counted against the cage's first port. -/
def cageMismatch (cage : Nat) (s : State) : State :=
  if s.cagePort cage = 0xFF then s else count Cn.portModuleMismatch (s.cagePort cage) 1 s

theorem cageInsert_of_mismatch {cage : Nat} {apps : List Nat} {s : State} (h : s.cageWants cage apps = none) : cageInsert cage apps s =
    cageMismatch cage (cageEvent Ev.portModuleMismatch cage [] (s.setCage cage { st := .mismatch, apps := apps, since := s.mono })) := by
  unfold State.cageWants at h
  unfold cageInsert
  cases hp : s.portsIn cage with
  | nil => simp only [hp] at h; simp only [List.head?_nil, Option.map_none, h]; rfl
  | cons p ps => simp only [hp] at h; simp only [List.head?_cons, Option.map_some, h]; rfl

theorem cageMismatch_changes (cage : Nat) (s : State) : Changes [.rings, .cnt, .out] s (cageMismatch cage s) := .ite .rfl (count_changes ..)

/-! ### A module that fails -/

/-- Table BU-7: a cage in FAULT is reported, and counted against its first port. -/
def cageFaulted (cage code : Nat) (s : State) : State :=
  let s := cageEvent Ev.portModuleFault cage (putLe 2 code) s
  if s.cagePort cage = 0xFF then s else count Cn.portModuleFault (s.cagePort cage) 1 s

theorem cageFaulted_changes (cage code : Nat) (s : State) : Changes [.rings, .cnt, .out] s (cageFaulted cage code s) :=
  (cageEvent_changes ..).trans (.ite .rfl (count_changes ..))

theorem cageFault_eq (cage code : Nat) (s : State) :
    cageFault cage code s = moduleCause cage true (cageFaulted cage code (s.setCage cage { s.cage cage with st := .fault })) := rfl

theorem cageFault_dev (cage code : Nat) (s : State) : (cageFault cage code s).dev = (s.setCage cage { s.cage cage with st := .fault }).dev := by
  rw [cageFault_eq, moduleCause_dev, show _ = _ from (cageFaulted_changes ..).same .dev (by decide)]

/-- A cage without a port only reports. -/
theorem cageFault_of_no_port {cage : Nat} (code : Nat) {s : State} (h : s.portsIn cage = []) :
    Changes [.rings, .cnt, .out] (s.setCage cage { s.cage cage with st := .fault }) (cageFault cage code s) := by
  have reported := cageFaulted_changes cage code (s.setCage cage { s.cage cage with st := .fault })
  rw [cageFault_eq, moduleCause_of_no_port true]
  · exact reported
  · rw [State.portsIn, show _ = _ from reported.same .dev (by decide), show _ = _ from reported.same .port (by decide)]
    exact h

/-! ### The reports -/

section Reports
variable {cage : Nat} {s : State} (hf : s.hif.fwReady = true)
include hf

theorem exec_moduleInsert_of_empty {apps : List Nat} (he : (s.cage cage).st = .empty) (hc : mhas s.dev.cfg.cages cage = true) :
    exec (.moduleInsert cage apps) s = .next (cageInsert cage apps s) := by
  show execModuleInsert cage apps s = _
  rw [execModuleInsert, hf, he, hc]
  rfl

theorem exec_moduleReady_of_present (h : (s.cage cage).st = .present) : exec (.moduleReady cage) s =
    .next (moduleCause cage false (cageEvent Ev.portModuleReady cage [] (s.setCage cage { s.cage cage with st := .ready }))) := by
  show execModuleReady cage s = _
  rw [execModuleReady, hf, h, if_neg (by decide), cageReady, if_pos h]
  rfl

theorem exec_moduleReady_of_fault (h : (s.cage cage).st = .fault) :
    exec (.moduleReady cage) s = .next (cageReady cage (cageInsert cage (s.cage cage).apps s)) := by
  show execModuleReady cage s = _
  rw [execModuleReady, hf, h, if_pos rfl]
  rfl

theorem exec_moduleFault_of_used {code : Nat} (h : (s.cage cage).st = .present ∨ (s.cage cage).st = .ready) :
    exec (.moduleFault cage code) s = .next (cageFault cage code s) := by
  show execModuleFault cage code s = _
  rw [execModuleFault, hf, decide_eq_true h]
  rfl

theorem exec_moduleRemove_of_known (h : mhas s.dev.cfg.cages cage = true ∨ (s.cage cage).st ≠ .empty) :
    exec (.moduleRemove cage) s = .next (moduleCause cage true (cageEvent Ev.portModuleOut cage [] (s.setCage cage {}))) := by
  have guard : (mhas s.dev.cfg.cages cage || decide ((s.cage cage).st ≠ .empty)) = true := by simpa using h
  show execModuleRemove cage s = _
  rw [execModuleRemove, hf, guard]
  rfl

theorem exec_moduleFlag_of_ready (flags : List Byte) (h : (s.cage cage).st = .ready) :
    exec (.moduleFlag cage flags) s = .next (cageEvent Ev.portModuleNotify cage (fit 14 flags) s) := by
  show execModuleFlag cage flags s = _
  rw [execModuleFlag, hf, h]
  rfl

/-- Table BU-7: 60 s without READY are a fault. -/
theorem exec_moduleReadyTimeout_of_due (h : (s.cage cage).st = .present) (hd : s.due ((s.cage cage).since + Config.sec 60) = true) :
    exec (.moduleReadyTimeout cage) s = .next (cageFault cage 0 s) := by
  show execModuleReadyTimeout cage s = _
  rw [execModuleReadyTimeout, hf, h, hd]
  rfl

end Reports

/-- Settles O23: each report does what Table BU-7 gives for the cage's state, and a cage's change is the device's only one. -/
theorem moduleEventsComplete : Obligations.ModuleEventsComplete := by
  intro cage s hf
  refine ⟨fun apps want he hc hw => ?insert, fun h => ?ready, fun h => exec_moduleReady_of_fault hf h, fun code h => ?fault, fun h => ?remove,
    fun flags h => exec_moduleFlag_of_ready hf flags h, fun h hd => ?timeout⟩
  case insert =>
    obtain ⟨t, ht, hch⟩ := execModuleInsert_changes cage apps s
    obtain rfl := Host.Outcome.next.inj (ht.symm.trans (exec_moduleInsert_of_empty hf he hc))
    have placed {x : Cage} (hd : (cageInsert cage apps s).dev = (s.setCage cage x).dev) : (cageInsert cage apps s).cage cage = x
        ∧ ∀ q, q ≠ cage → (cageInsert cage apps s).cage q = s.cage q :=
      ⟨(State.cage_of_dev hd cage).trans (State.setCage_cage ..), fun q hq => (State.cage_of_dev hd q).trans (State.setCage_cage_ne s x hq)⟩
    refine ⟨fun r hr => ?_, fun hr => ?_⟩
    · have suits : cageInsert cage apps s = _ := cageInsert_of_suits (hw.symm.trans hr)
      obtain ⟨here, others⟩ := placed (by rw [suits, cageEvent_dev]; rfl)
      refine ⟨_, ht, here, others, ?_, hch⟩
      rw [suits]
      exact (cageEvent_out ..).subset (List.mem_append_right _ (List.mem_singleton_self _))
    · have mismatch : cageInsert cage apps s = _ := cageInsert_of_mismatch (hw.symm.trans hr)
      obtain ⟨here, others⟩ := placed (by
        rw [mismatch, show _ = _ from (cageMismatch_changes ..).same .dev (by decide), cageEvent_dev])
      exact ⟨_, ht, here, others, hch⟩
  case ready => exact ⟨_, exec_moduleReady_of_present hf h, .refl _, (moduleCause_dev ..).trans (cageEvent_dev ..)⟩
  case fault => exact ⟨_, exec_moduleFault_of_used hf h, cageFault_dev .., cageFault_of_no_port code⟩
  case remove => exact ⟨_, exec_moduleRemove_of_known hf h, (moduleCause_dev ..).trans (cageEvent_dev ..), .refl _⟩
  case timeout => exact ⟨_, exec_moduleReadyTimeout_of_due hf h hd, cageFault_dev .., cageFault_of_no_port 0⟩

end Sys2Proof.Machine
end

section
/-! SUPPORT. Lanes, planes and reachability (R108 to R110, R313, R341, R343, Table BU-6). -/

namespace Sys2Proof.Machine

/-! ### Planes and lanes by number -/

theorem State.modPlane_plane (s : State) (p : Nat) (f : Plane → Plane) : (s.modPlane p f).plane p = f (s.plane p) := mgetD_mmod_self ..

theorem State.modPlane_plane_ne (s : State) {p q : Nat} (f : Plane → Plane) (h : q ≠ p) : (s.modPlane p f).plane q = s.plane q :=
  mgetD_mmod_ne _ _ _ h

theorem State.modLane_lane (s : State) (l : Nat) (f : Lane → Lane) : (s.modLane l f).lane l = f (s.lane l) := mgetD_mmod_self ..

theorem State.modLane_lane_ne (s : State) {l k : Nat} (f : Lane → Lane) (h : k ≠ l) : (s.modLane l f).lane k = s.lane k := mgetD_mmod_ne _ _ _ h

theorem State.plane_of_fab {s t : State} (h : t.fab = s.fab) (p : Nat) : t.plane p = s.plane p := by rw [State.plane, h, State.plane]
theorem State.lane_of_fab {s t : State} (h : t.fab = s.fab) (l : Nat) : t.lane l = s.lane l := by rw [State.lane, h, State.lane]

/-- What a change keeps of its plane, it keeps of every plane. -/
theorem State.modPlane_keeps {β : Type} (g : Plane → β) {s : State} {p : Nat} {f : Plane → Plane}
    (h : g (f (s.plane p)) = g (s.plane p)) (q : Nat) : g ((s.modPlane p f).plane q) = g (s.plane q) := by
  by_cases hq : q = p
  · subst hq; rw [State.modPlane_plane, h]
  · rw [State.modPlane_plane_ne _ _ hq]

theorem notify_fab (ev : Nat × Nat) (payload : List Byte) (vis : List Nat) (s : State) : (notify ev payload vis s).fab = s.fab :=
  (notify_changes ..).same .fab (by decide)
theorem count_fab (ev idx n : Nat) (s : State) : (count ev idx n s).fab = s.fab := (count_changes ..).same .fab (by decide)

/-! ### Lanes -/

/-- A lane that joins changes its plane, no lane. -/
theorem laneJoins_lane (p l : Nat) (s : State) : (laneJoins p s).lane l = s.lane l := by
  unfold laneJoins identify
  dsimp only
  split
  · split <;> rfl
  · split <;> rfl

section Lane
variable {lane p : Nat} {s : State} (hp : s.planeOf lane = some p)
include hp

/-- R108: a lane trains with the identity of its plane. -/
theorem exec_fabLaneTrained_of_own {far : FarEnd} (ht : s.laneTrains p far.encrypts = true) (hn : (s.lane lane).trained = false) :
    exec (.fabLaneTrained lane p far) s = .next (laneJoins p
      ((s.modLane lane (fun l => { l with farUnit := far.isUnit, farSerial := far.serial })).modLane lane (fun l => {
        l.begin_ s.mono with announced := p, encrypts := far.encrypts }))) := by
  show execFabLaneTrained lane p far s = _
  simp only [execFabLaneTrained, hp, ht, hn, Bool.not_false, Bool.and_self, when_true, if_true]
  rfl

/-- R108: a lane that trains with another plane's identity is miswired, and excluded. -/
theorem exec_fabLaneTrained_of_other {q : Nat} {far : FarEnd} (ht : s.laneTrains p far.encrypts = true) (hn : (s.lane lane).trained = false)
    (hq : q ≠ p) : exec (.fabLaneTrained lane q far) s = .next (count Cn.fabLaneMiswire lane 1
      (notify Ev.fabLaneMiswire (putLe 1 lane ++ putLe 1 p ++ putLe 1 q) []
        ((s.modLane lane (fun l => { l with farUnit := far.isUnit, farSerial := far.serial })).modLane lane (fun l => { l with
          trained := false, excluded := true, down := false, announced := q, encrypts := far.encrypts })))) := by
  show execFabLaneTrained lane q far s = _
  simp only [execFabLaneTrained, hp, ht, hn, Bool.not_false, Bool.and_self, when_true, hq, if_false]

/-- R313: a lane that trains again goes back to its plane. -/
theorem exec_fabLaneUp_of_down (hd : (s.lane lane).down = true) (ht : s.laneTrains p (s.lane lane).encrypts = true) : exec (.fabLaneUp lane) s =
    .next (laneJoins p (notify Ev.fabLaneUp (putLe 1 lane) [] (s.modLane lane (fun l => l.begin_ s.mono)))) := by
  show execFabLaneUp lane s = _
  simp only [execFabLaneUp, hp, hd, ht, Bool.and_self, when_true]

end Lane

theorem exec_fabLaneDown_of_used {lane : Nat} (cause : Nat) {s : State} (h : (s.lane lane).inUse = true) :
    exec (.fabLaneDown lane cause) s = .next (laneDown lane cause s) := by
  show execFabLaneDown lane cause s = _
  rw [execFabLaneDown, h, when_true]

theorem State.lanesUp_of_fab {s t : State} (h : t.fab = s.fab) (p : Nat) : t.lanesUp p = s.lanesUp p :=
  congrArg (fun f => ({ s with fab := f } : State).lanesUp p) h

theorem State.planeOf_of_fab {s t : State} (h : t.fab = s.fab) (l : Nat) : t.planeOf l = s.planeOf l :=
  congrArg (fun f => ({ s with fab := f } : State).planeOf l) h

theorem State.planeCfg_of_fab {s t : State} (h : t.fab = s.fab) (p : Nat) : t.planeCfg p = s.planeCfg p := by rw [State.planeCfg, h, State.planeCfg]

/-- R313: a lane without cells goes down and leaves its plane lanes enough. -/
theorem laneDown_of_enough {lane p cause : Nat} {s u : State} (hp : s.planeOf lane = some p) (hc : (s.lane lane).txCells = [])
    (hu : u = (takeCells lane s).2.modLane lane (fun l => { l with trained := false, down := true }))
    (hn : (u.planeCfg p).minLanes ≤ (u.lanesUp p).length) : laneDown lane cause s = fabricWindows (laneFault p lane cause false
      (count Cn.fabLaneDown lane 1 (notify Ev.fabLaneDown (putLe 1 lane ++ putLe 1 cause) [] u))) := by
  have empty : takeCells lane s = ([], s) := by simp [takeCells, hc]
  rw [empty] at hu
  dsimp only at hu
  have own : u.planeOf lane = some p := by rw [hu]; exact hp
  have told : (count Cn.fabLaneDown lane 1 (notify Ev.fabLaneDown (putLe 1 lane ++ putLe 1 cause) [] u)).fab = u.fab :=
    (count_fab ..).trans (notify_fab ..)
  have kept : decide ((u.lanesUp p).length < (u.planeCfg p).minLanes) = false := decide_eq_false (Nat.not_lt.mpr hn)
  unfold laneDown
  simp only [empty, ← hu, own, foldS, List.foldl_nil]
  simp only [State.planeOf_of_fab told, own, State.lanesUp_of_fab told, State.planeCfg_of_fab told, kept, Bool.and_false, Bool.false_eq_true,
    if_false]

/-! ### The planes' timers -/

theorem enterHoldoff_st (p : Nat) (byReset : Bool) (s : State) : ((enterHoldoff p byReset s).plane p).st = .holdoff := by
  unfold enterHoldoff
  rw [State.modPlane_plane]

/-- A plane that enters HOLDOFF leaves the others as they are. -/
theorem enterHoldoff_plane_ne {p q : Nat} (byReset : Bool) (s : State) (h : q ≠ p) : (enterHoldoff p byReset s).plane q = s.plane q := by
  unfold enterHoldoff
  extract_lets l flap t
  have flapped : t.fab = s.fab := by
    unfold t
    split
    · exact count_fab ..
    · rfl
  rw [State.modPlane_plane_ne _ _ h, State.plane_of_fab flapped]

section Timer
variable {p at_ : Nat} {s : State} (ht : (s.plane p).timer = some at_) (hd : at_ ≤ s.mono)
include ht hd

theorem exec_formationTimerExpiry_of_forming (hs : (s.plane p).st = .forming) : exec (.formationTimerExpiry p) s =
    .next (if (s.planeCfg p).minLanes ≤ (s.lanesUp p).length then identify p s
      else count Cn.fabPlaneShort p 1 (s.modPlane p (fun x => { x with timer := some (s.mono + Config.ms 50) }))) := by
  show execFormationTimerExpiry p s = _
  simp only [execFormationTimerExpiry, ht, hs, State.due, hd, decide_true, BEq.rfl, Bool.and_self, when_true]

theorem exec_reachabilityTimerExpiry_of_identified (hs : (s.plane p).st = .identified) :
    exec (.reachabilityTimerExpiry p) s = .next (enterHoldoff p false (count Cn.fabPlaneNoreach p 1 s)) := by
  show execReachabilityTimerExpiry p s = _
  simp only [execReachabilityTimerExpiry, ht, hs, State.due, hd, decide_true, BEq.rfl, Bool.and_self, when_true]

theorem exec_holdoffExpiry_of_holdoff (hs : (s.plane p).st = .holdoff) : exec (.holdoffExpiry p) s = .next (leaveHoldoff p s) := by
  show execHoldoffExpiry p s = _
  simp only [execHoldoffExpiry, ht, hs, State.due, hd, decide_true, BEq.rfl, Bool.and_self, when_true]

end Timer

/-- What one element's step brings about and every step keeps, the fold over a list with that element brings about. -/
theorem foldS_establishes {α : Type} {P : State → Prop} {f : α → State → State} {a : α} (hset : ∀ x, P (f a x))
    (hkeep : ∀ b x, P x → P (f b x)) {l : List α} (ha : a ∈ l) (s : State) : P (foldS l s f) := by
  have kept (l : List α) (s : State) (h : P s) : P (foldS l s f) := by
    induction l generalizing s with
    | nil => exact h
    | cons b l ih => exact ih (f b s) (hkeep b s h)
  induction l generalizing s with
  | nil => cases ha
  | cons b l ih =>
    rcases List.mem_cons.mp ha with rfl | hl
    · exact kept l (f a s) (hset s)
    · exact ih hl (f b s)

/-- Table BU-6: a plane that leaves HOLDOFF is ABSENT, without a timer. -/
theorem leaveHoldoff_plane (p : Nat) (s : State) : (leaveHoldoff p s).plane p = { s.plane p with st := .absent, timer := none, listed := 0 } := by
  unfold leaveHoldoff
  dsimp only
  rw [foldS_keeps (fun s => s.plane p), State.modPlane_plane]
  exact fun _ _ => rfl

theorem leaveHoldoff_trained {p l : Nat} {s : State} (h : l ∈ s.planeLanes p) : ((leaveHoldoff p s).lane l).trained = false := by
  unfold leaveHoldoff
  refine foldS_establishes (P := fun s => (s.lane l).trained = false) (fun x => ?_) (fun k x hx => ?_) h _
  · rw [State.modLane_lane]
  · by_cases hk : l = k
    · subst hk; rw [State.modLane_lane]
    · rw [State.modLane_lane_ne _ _ hk, hx]

/-! ### Reachability -/

theorem listSun_fab (p sun : Nat) (s : State) :
    (listSun p sun s).fab = { s.fab with listings := mset s.fab.listings (sunKey p sun) s.mono } := by
  unfold listSun
  dsimp only
  split
  · exact notify_fab ..
  · rfl

theorem listSun_mono (p sun : Nat) (s : State) : (listSun p sun s).mono = s.mono := (listSun_changes p sun s).same .mono (by decide)

/-- R110: a reachability cell in a plane of IDENTIFIED or UP. -/
theorem exec_reachCell_of_ready {p : Nat} {suns : List Nat} {s : State}
    (h : s.planeUp p = true ∨ ((s.plane p).st = .identified ∧ s.dev.cfg.sun ≠ 0xFFFF)) (hs : ∀ x, x ∈ suns → x < 2048) :
    exec (.reachCell p suns) s = .next (reachCell p suns s) := by
  have guard : ((s.planeUp p || ((s.plane p).st == .identified && s.dev.cfg.sun != 0xFFFF)) && suns.all (fun x => decide (x < 2048))) = true := by
    simp only [Bool.and_eq_true, Bool.or_eq_true, beq_iff_eq, bne_iff_ne, List.all_eq_true, decide_eq_true_eq]
    exact ⟨h, hs⟩
  show execReachCell p suns s = _
  rw [execReachCell, guard, when_true]

theorem foldS_listSun_plane (p q : Nat) (suns : List Nat) (s : State) : (foldS suns s (listSun p)).plane q = s.plane q :=
  foldS_keeps (fun s => s.plane q) _ (fun sun x => by rw [State.plane, listSun_fab]; rfl) _ _

/-- R110: every SUN of a reachability cell is listed as of now. -/
theorem foldS_listSun_listings {p x : Nat} {suns : List Nat} (hx : x ∈ suns) (s : State) :
    mget (foldS suns s (listSun p)).fab.listings (sunKey p x) = some (foldS suns s (listSun p)).mono := by
  have set (sun : Nat) (s : State) : mget (listSun p sun s).fab.listings (sunKey p sun) = some (listSun p sun s).mono := by
    rw [listSun_fab, listSun_mono]
    exact mget_mset_self ..
  refine foldS_establishes (P := fun s => mget s.fab.listings (sunKey p x) = some s.mono) (set x) (fun y s hs => ?_) hx s
  by_cases hy : sunKey p x = sunKey p y
  · rw [hy]; exact set y s
  · rw [listSun_fab, listSun_mono, ← hs]
    exact mget_mset_ne _ _ hy

/-- The state in which a reachability cell's SUNs are listed: the plane is UP. -/
theorem reachCell_eq (p : Nat) (suns : List Nat) (s : State) :
    ∃ t, reachCell p suns s = foldS suns.eraseDups t (listSun p) ∧ (t.plane p).st = .up := by
  refine ⟨_, rfl, ?_⟩
  split
  · rw [State.plane_of_fab (notify_fab ..), State.modPlane_plane]
  · rw [State.modPlane_plane]

/-- R110: a SUN that a plane has not listed for 150 us leaves the plane. -/
theorem exec_sunListingTimeout_of_due {p sun at_ : Nat} {s u : State} (hp : s.planeUp p = true) (hs : sun < 2048)
    (hl : mget s.fab.listings (sunKey p sun) = some at_) (hd : at_ + Config.us 150 ≤ s.mono)
    (hu : u = sunLeft sun (s.modFab (fun f => { f with listings := mdel f.listings (sunKey p sun) }))) :
    exec (.sunListingTimeout p sun) s = .next (if u.listingsOf p = [] then fabricWindows (planeLoss p false (fault 4 p 0 u)) else u) := by
  have listed : mhas s.fab.listings (sunKey p sun) = true := by rw [mhas, hl]; rfl
  have left : unlist p sun s = u := by rw [unlist, listed, if_pos rfl, hu]
  show execSunListingTimeout p sun s = _
  simp only [execSunListingTimeout, hl, hp, hs, State.due, hd, decide_true, Bool.and_self, when_true, left]

theorem sunLeft_of_listed {sun : Nat} {s : State} (h : s.listedMask sun ≠ []) : sunLeft sun s = s := by
  rw [sunLeft, if_pos h]

/-- What a list of outputs that the outputs before them do not change puts out. -/
theorem foldS_emit {α : Type} {o : State → α → Output} (ho : ∀ s y a, o (s.emit y) a = o s a) (l : List α) (s : State) :
    foldS l s (fun a s => s.emit (o s a)) = { s with out := s.out ++ l.map (o s) } := by
  induction l generalizing s with
  | nil => simp [foldS]
  | cons a l ih =>
    refine (ih (s.emit (o s a))).trans ?_
    rw [show o (s.emit (o s a)) = o s from funext (ho s (o s a))]
    simp [State.emit]

/-! ### Planes that are lost -/

theorem exec_planeDownAnnounced_of_up {p : Nat} {s : State} (h : s.planeUp p = true) :
    exec (.planeDownAnnounced p) s = .next (fabricWindows (planeLoss p false (fault 4 p 0 s))) := by
  show execPlaneDownAnnounced p s = _
  rw [execPlaneDownAnnounced, h, when_true]

theorem mget_mdel_self {α : Type} (m : AMap α) (k : Nat) : mget (mdel m k) k = none := by
  induction m with
  | nil => rfl
  | cons e m ih =>
    obtain ⟨j, w⟩ := e
    by_cases h : j = k
    · rw [mdel, List.filter_cons_of_neg (by simpa using h)]; exact ih
    · rw [mdel, List.filter_cons_of_pos (by simpa using h), mget, if_neg (Ne.symm h)]; exact ih

/-- A retransmission that is queued changes its plane's queue alone. -/
theorem enqueueRetx_st (key dest : Nat) (used : List Nat) (s : State) (p : Nat) : ((enqueueRetx key dest used s).plane p).st = (s.plane p).st := by
  unfold enqueueRetx
  split
  · rfl
  · exact State.modPlane_keeps Plane.st rfl p

theorem queueCell_plane (p : Nat) (c : Cell) (s : State) (q : Nat) : (queueCell p c s).plane q = s.plane q := by
  unfold queueCell
  split
  · rfl
  · split <;> rfl

theorem takeCells_plane (l : Nat) (s : State) (q : Nat) : (takeCells l s).2.plane q = s.plane q := by
  unfold takeCells
  dsimp only
  split <;> rfl

/-- What a lost plane's cells move through keeps its state. -/
theorem movePlane_st (p : Nat) (s : State) (q : Nat) : ((movePlane p s).plane q).st = (s.plane q).st := by
  unfold movePlane
  dsimp only
  rw [foldS_keeps (fun s => (s.plane q).st), foldS_keeps (fun s => (s.plane q).st)]
  · exact State.modPlane_keeps Plane.st rfl q
  · intro c x
    refine foldS_keeps (fun s => (s.plane q).st) _ (fun y x => ?_) _ x
    split
    · exact enqueueRetx_st ..
    · rfl
  · intro l x
    rw [foldS_keeps (fun s => (s.plane q).st), takeCells_plane]
    intro c x
    split
    · rw [queueCell_plane]
    · rfl

/-- R341: the cells last sent on a lost plane become due. -/
def cellsDue (p : Nat) (s : State) : State :=
  s.modFab (fun f => { f with retention := f.retention.map (fun c =>
    { c with copies := c.copies.map (fun x =>
      if x.2.2.1.getLast? = some p then (x.1, x.2.1, x.2.2.1, x.2.2.2.1, true) else x) }) })

/-- R341: a lost plane is in HOLDOFF, its secret gone and its cells moved. -/
def planeGone (p : Nat) (byReset : Bool) (s : State) : State :=
  movePlane p (notify Ev.fabPlaneDown (putLe 1 p) [] (dropSecret p (enterHoldoff p byReset (cellsDue p s))))

theorem planeGone_changes (p : Nat) (byReset : Bool) (s : State) : Changes [.rings, .fab, .sec, .cnt, .out] s (planeGone p byReset s) := by
  have due : Changes [.rings, .fab, .sec, .cnt, .out] s (cellsDue p s) := (State.modFab_changes ..).weaken (by decide)
  have held := Changes.via due (enterHoldoff_changes p byReset _) (by decide)
  have dropped := Changes.via held (dropSecret_changes p _) (by decide)
  exact Changes.via (Changes.via dropped (notify_changes ..) (by decide)) (movePlane_changes p _) (by decide)

theorem planeGone_st (p : Nat) (byReset : Bool) (s : State) : ((planeGone p byReset s).plane p).st = .holdoff := by
  rw [planeGone, movePlane_st, State.plane_of_fab (notify_fab ..)]
  exact enterHoldoff_st ..

theorem planeGone_st_ne {p q : Nat} (byReset : Bool) (s : State) (h : q ≠ p) : ((planeGone p byReset s).plane q).st = (s.plane q).st := by
  rw [planeGone, movePlane_st, State.plane_of_fab (notify_fab ..)]
  exact congrArg Plane.st (enterHoldoff_plane_ne byReset (cellsDue p s) h)

theorem planeGone_links (p : Nat) (byReset : Bool) (s : State) : mget (planeGone p byReset s).sec.links p = none := by
  rw [planeGone, show _ = _ from (movePlane_changes ..).same .sec (by decide), show _ = _ from (notify_changes ..).same .sec (by decide)]
  exact mget_mdel_self ..

/-- While another plane is UP, the loss of a plane that lists no SUN is the plane's own. -/
theorem planeLoss_of_unlisted {p q : Nat} {byReset : Bool} {s : State} (hl : s.listingsOf p = []) (hq : q < 16) (hne : q ≠ p)
    (hu : s.planeUp q = true) : planeLoss p byReset s = planeGone p byReset s := by
  have up : (planeGone p byReset s).planesUp ≠ [] := by
    refine List.ne_nil_of_mem (a := q) (List.mem_filter.mpr ⟨List.mem_range.mpr hq, ?_⟩)
    rw [State.planeUp, planeGone_st_ne byReset s hne]
    exact hu
  have stays : noPlaneLeft (planeGone p byReset s) = planeGone p byReset s := by
    rw [noPlaneLeft, beq_eq_false_iff_ne.mpr up, Bool.and_false, Bool.false_and, if_neg Bool.false_ne_true]
  have unlisted : (cellsDue p s).listingsOf p = [] := hl
  show (let t := noPlaneLeft (foldS ((cellsDue p s).listingsOf p) (planeGone p byReset s) (unlist p));
    if t.planesUp = [] ∧ t.planeMask t.dev.cfg.sun = [] then unitAbsent t.dev.cfg.sun t else t) = _
  rw [unlisted, foldS, List.foldl_nil, stays]
  exact if_neg (fun h => up h.1)

/-- Settles O37: each event is done under its guards, and of what it does the lanes, the planes, the listings and the secrets are read off. -/
theorem planeEventsComplete : Obligations.PlaneEventsComplete := by
  intro s
  refine ⟨fun lane p far hp ht hn => ?own, fun lane p q far hp ht hn hq => ?other, fun lane cause h => exec_fabLaneDown_of_used cause h,
    fun lane p cause u hp h hc hu hn => ?down, fun lane p hp hd ht => ?up, fun p at_ ht hs hd hn => ?formed, fun p at_ ht hs hd hn => ?short,
    fun p at_ ht hs hd => ?unreached, fun p at_ ht hs hd => ?absent, fun p suns => exec_reachCell_of_ready, fun p suns hs hsun hx => ?reach,
    fun p sun at_ u => exec_sunListingTimeout_of_due, fun p sun at_ u hp hs hl hd hu hm ho => ?unlisted, fun ps hps hne hsun hd => ?send,
    fun p => exec_planeDownAnnounced_of_up, fun p q hp hq hne hup hl => ?lost⟩
  case own =>
    refine ⟨_, exec_fabLaneTrained_of_own hp ht hn, ?_, ?_⟩
    · rw [laneJoins_lane, State.modLane_lane, State.modLane_lane]
      rfl
    · exact ((State.modLane_changes ..).trans (State.modLane_changes ..)).trans (laneJoins_changes ..)
  case other =>
    obtain ⟨t, hexec, hch⟩ := execFabLaneTrained_changes lane q far s
    obtain rfl := Host.Outcome.next.inj (hexec.symm.trans (exec_fabLaneTrained_of_other hp ht hn hq))
    refine ⟨_, hexec, ?_, hch⟩
    rw [State.lane_of_fab (count_fab ..), State.lane_of_fab (notify_fab ..), State.modLane_lane, State.modLane_lane]
  case down => rw [exec_fabLaneDown_of_used cause h, laneDown_of_enough hp hc hu hn]
  case up =>
    obtain ⟨t, hexec, hch⟩ := execFabLaneUp_changes lane s
    obtain rfl := Host.Outcome.next.inj (hexec.symm.trans (exec_fabLaneUp_of_down hp hd ht))
    refine ⟨_, hexec, ?_, hch⟩
    rw [laneJoins_lane, State.lane_of_fab (notify_fab ..), State.modLane_lane]
    rfl
  case formed =>
    rw [exec_formationTimerExpiry_of_forming ht hd hs, if_pos hn]
    rfl
  case short => rw [exec_formationTimerExpiry_of_forming ht hd hs, if_neg (Nat.not_le.mpr hn)]
  case unreached =>
    refine ⟨_, exec_reachabilityTimerExpiry_of_identified ht hd hs, enterHoldoff_st .., ?_⟩
    exact Changes.via ((count_changes ..).weaken (by decide)) (enterHoldoff_changes ..) (by decide)
  case absent =>
    refine ⟨_, exec_holdoffExpiry_of_holdoff ht hd hs, ?_, ?_, fun l => leaveHoldoff_trained, leaveHoldoff_changes p s⟩
    · rw [leaveHoldoff_plane]
    · rw [leaveHoldoff_plane]
  case reach =>
    obtain ⟨t, hexec, hch⟩ := execReachCell_changes p suns s
    obtain rfl := Host.Outcome.next.inj (hexec.symm.trans (exec_reachCell_of_ready (.inr ⟨hs, hsun⟩) hx))
    obtain ⟨u, hu, hst⟩ := reachCell_eq p suns s
    refine ⟨_, hexec, ?_, fun x hmem => ?_, hch⟩
    · rw [hu, foldS_listSun_plane, hst]
    · rw [← show (reachCell p suns s).mono = s.mono from hch.same .mono (by decide), hu]
      exact foldS_listSun_listings (List.mem_eraseDups.mpr hmem) u
  case unlisted =>
    have same : sunLeft sun u = u := sunLeft_of_listed hm
    rw [exec_sunListingTimeout_of_due hp hs hl hd (u := u) (by rw [← hu, same]), if_neg ho]
  case send =>
    have guard : (decide (s.dev.cfg.sun ≠ 0xFFFF) && ps != [] && s.due (s.fab.reachAt + Config.us 50)) = true := by
      rw [decide_eq_true hsun, bne_iff_ne.mpr hne, State.due, decide_eq_true hd]
      rfl
    show execReachabilitySend s = _
    rw [execReachabilitySend, ← hps, guard, when_true, foldS_emit (fun _ _ _ => rfl)]
    rfl
  case lost =>
    have kept := fault_changes 4 p 0 s
    have fab : (fault 4 p 0 s).fab = s.fab := kept.same .fab (by decide)
    have gone : planeLoss p false (fault 4 p 0 s) = planeGone p false (fault 4 p 0 s) :=
      planeLoss_of_unlisted (q := q) (by rw [State.listingsOf, fab]; exact hl) hq hne (by rw [State.planeUp, State.plane_of_fab fab]; exact hup)
    have ended := fabricWindows_changes (planeGone p false (fault 4 p 0 s))
    refine ⟨_, (exec_planeDownAnnounced_of_up hp).trans (by rw [gone]), ?_, ?_, ?_⟩
    · rw [State.plane_of_fab (ended.same .fab (by decide)), planeGone_st]
    · rw [show _ = _ from ended.same .sec (by decide), planeGone_links]
    · exact Changes.via (Changes.via (kept.weaken (by decide)) (planeGone_changes ..) (by decide)) ended (by decide)

end Sys2Proof.Machine
end

section
/-! SUPPORT. Discovery and the bung between partners (R113, R382, R395 to R400, Tables BU-8 and PR-4). -/
namespace Sys2Proof.Machine
/-! ### Discovery -/
/-- R113: a hello goes out on each trained peer lane. -/
theorem exec_helloSend_of_due {s : State} (hm : s.member = true) (hl : s.pair.peerLanes ≠ []) (hd : s.pair.helloAt ≤ s.mono) :
    ∃ h : Hello, exec .helloSend s = .next { s with
        pair := { s.pair with helloAt := s.mono + Config.us 100 }, out := s.out ++ s.pair.peerLanes.map (fun l => .hello l h) }
      ∧ h.sun = s.dev.cfg.sun ∧ h.shared = s.pairSun ∧ h.partner = s.partnerOf ∧ h.digest = s.pairDigest := by
  have guard : (s.member && s.pair.peerLanes != [] && s.due s.pair.helloAt) = true := by
    rw [hm, bne_iff_ne.mpr hl, State.due, decide_eq_true hd]
    rfl
  refine ⟨{ sun := s.dev.cfg.sun, shared := s.pairSun, partner := s.partnerOf, serial := beVal (fit 16 Config.serial), fw := s.hif.fwVersion,
            digest := s.pairDigest }, ?_, rfl, rfl, rfl, rfl⟩
  show execHelloSend s = _
  rw [execHelloSend, guard, when_true, foldS_emit (fun _ _ _ => rfl)]
  rfl
theorem exec_helloReceive_of_linked {s : State} (h : Hello) (hm : s.member = true) (hl : s.pair.peerLanes ≠ []) :
    exec (.helloReceive h) s = .next (helloIn h s) := by
  show execHelloReceive h s = _
  rw [execHelloReceive, hm, bne_iff_ne.mpr hl]
  rfl
/-- Table BU-8: the first hello brings SEEN, and none that matches yet (assumption log entry 84). -/
theorem helloIn_of_seeking (h : Hello) {s : State} (hs : s.pair.disc = .seeking) : helloIn h s = { s with
    pair := { s.pair with lastHello := s.mono, partnerFw := h.fw, partnerSun := h.sun, helloMatches := 0, disc := .seen } } := by
  simp only [helloIn, State.modPair, hs, BEq.rfl, Bool.true_or, if_true]
section Loss
variable {s : State} (hm : s.member = true) (hd : s.pair.lastHello + Config.ms 10 ≤ s.mono)
include hm hd
theorem exec_helloLoss_of_sought (hs : s.pair.disc = .seen ∨ s.pair.disc = .mismatch) : exec .helloLoss s =
    .next (notify Ev.pairPartnerLost (putLe 2 s.pair.partnerSun) [] { s with pair := { s.pair with disc := .seeking, helloMatches := 0 } }) := by
  show execHelloLoss s = _
  rcases hs with hs | hs
  all_goals
    simp only [execHelloLoss, hm, State.due, hd, decide_true, Bool.and_self, when_true, hs]
    rfl
/-- Table BU-8: a partner that was found and is absent is sought again; a unit that copies from it seeks as well. -/
theorem exec_helloLoss_of_absent (hs : s.pair.disc = .matched) (ha : s.present s.partnerOf = false) : exec .helloLoss s = .next { s with
    pair := if s.pair.st = .syncing then
        { s.pair with disc := .seeking, helloMatches := 0, st := .seeking, seekSince := s.mono, tail := [], tailBytes := 0, tailSince := none }
      else { s.pair with disc := .seeking, helloMatches := 0 } } := by
  show execHelloLoss s = _
  by_cases hst : s.pair.st = .syncing
  all_goals simp only [execHelloLoss, hm, State.due, hd, decide_true, Bool.and_self, when_true, hs, ha, Bool.false_eq_true, if_false, State.modPair,
    hst, if_true]
end Loss
/-! ### Solo and active -/
/-- A port's switch point is the port's own: beside its ports the pair keeps what it holds. -/
theorem setPoint_pair (which : Option (List Nat × Nat)) (p : Nat) (s : State) :
    ∃ ports, (setPoint which p s).pair = { s.pair with ports := ports } := by
  unfold setPoint
  extract_lets a x openPoint n heldOpen u
  have told {α : Type} (l : List α) (o : α → Output) (v : State) : (foldS l v (fun w s => s.emit (o w))).pair = v.pair :=
    foldS_keeps State.pair (fun w s => s.emit (o w)) (fun _ _ => rfl) l v
  split
  · exact ⟨_, (told heldOpen (fun _ => .arrivalPoint p 0 a) _).trans (told (x.switches.filter openPoint) (fun w => .arrivalPoint p w.2 a) u)⟩
  · exact ⟨_, rfl⟩
theorem setPoints_keeps {β : Type} (g : Pair → β) (hg : ∀ x ports, g { x with ports := ports } = g x) (s : State) :
    g (setPoints s).pair = g s.pair :=
  foldS_keeps (fun s => g s.pair) _ (fun p s => by
    obtain ⟨ports, h⟩ := setPoint_pair none p s
    rw [h, hg]) _ _
theorem setPoints_of_no_port {s : State} (h : s.pair.cfg.ports = []) : setPoints s = s := by
  rw [setPoints, h]
  rfl
/-- What SOLO keeps of the pair, it keeps whatever the ports' switch points become. -/
theorem becomeSolo_keeps {β : Type} (g : Pair → β) (hg : ∀ x ports, g { x with ports := ports } = g x) (s : State) :
    g (becomeSolo s).pair = g { s.pair with st := .solo, unacked := [], lastAcked := none, sentRenews := [] } :=
  setPoints_keeps g hg _
/-- Table PR-4: a unit that has waited for its partner in vain takes the bung alone. -/
theorem exec_partnerWaitExpiry_of_due {s : State} {c : PairCfg} (hc : s.pair.cfg.pair = some c) (hs : s.pair.st = .seeking)
    (hd : s.pair.seekSince + Config.ms c.wait ≤ s.mono) (hm : s.mayTake = true) : exec .partnerWaitExpiry s =
      .next (becomeSolo (s.modPair (fun p => { p with gen := (s.pair.highGen + 1) % 2 ^ 32, highGen := (s.pair.highGen + 1) % 2 ^ 32 }))) := by
  show execPartnerWaitExpiry s = _
  simp only [execPartnerWaitExpiry, hs, hc, Option.map_some, Option.getD_some, State.due, hd, decide_true, BEq.rfl, hm, Bool.and_self, when_true]
/-! ### Ports of the pair -/
theorem State.modPpair_ppair (s : State) (p : Nat) (f : PairPort → PairPort) : (s.modPpair p f).ppair p = f (s.ppair p) := mgetD_mmod_self ..
theorem State.modPpair_ppair_ne (s : State) {p q : Nat} (f : PairPort → PairPort) (h : q ≠ p) : (s.modPpair p f).ppair q = s.ppair q :=
  mgetD_mmod_ne _ _ _ h
theorem exec_pairPortExchange_of_member {port : Nat} {s : State} (x : Option (Nat × Nat)) (hm : s.member = true) (hp : port < 128) :
    exec (.pairPortExchange port x) s = .next (pairRematch port (s.modPpair port (fun y => { y with partner := x }))) := by
  show execPairPortExchange port x s = _
  rw [execPairPortExchange, hm, decide_eq_true hp]
  rfl
/-! ### The lease -/
theorem sendBung_of_peer {s : State} (e : List Byte) (h : s.peerUp = true) : sendBung e s = s.emit (.peer e) := by
  rw [sendBung, h, if_pos rfl]
/-- R395: the state of an active that numbers its next RENEW. -/
def renewed (s : State) : State :=
  s.modPair (fun p => { p with
    renewNo := (s.pair.renewNo + 1) % 2 ^ 32, renewAt := s.mono + Config.us 100,
    sentRenews := mset p.sentRenews ((s.pair.renewNo + 1) % 2 ^ 32) s.mono })
theorem exec_bungRenewSend_of_due {s t : State} (hs : s.pair.st = .active) (hd : s.pair.renewAt ≤ s.mono)
    (ht : t = if s.peerUp then renewed s else count Cn.pairRenewFabric 0 1 (renewed s)) :
    exec .bungRenewSend s = .next (sendBung (bungEntryBytes 1 s.pair.gen ((s.pair.renewNo + 1) % 2 ^ 32)) t) := by
  have gen : t.pair.gen = s.pair.gen := by
    rw [ht]
    split
    · rfl
    · rw [count_pair]; rfl
  have guard : (s.pair.st == .active && s.due s.pair.renewAt) = true := by
    rw [hs, State.due, decide_eq_true hd]
    rfl
  rw [← gen, ht]
  show execBungRenewSend s = _
  rw [execBungRenewSend, guard, when_true]
  rfl
/-- R398: a GEN above none that a unit without duties holds is noted alone. -/
theorem seeGen_of_idle {gen : Nat} {s : State} (hf : s.pair.st ≠ .fenced)
    (hg : s.pair.gen < gen → s.pair.st ∉ [.solo, .active, .fenced, .taking]) :
    seeGen gen s = s.modPair (fun p => { p with highGen := max p.highGen gen }) := by
  unfold seeGen
  dsimp only
  rw [if_neg (fun h => hf h.1), if_neg (fun h => hg h.1 h.2)]
/-- R395: the standby answers a RENEW on the peer link and notes when it came. -/
theorem bungRenewIn_of_standby {gen n : Nat} {s : State} (hm : s.member = true) (hs : s.pair.st = .standby) (hg : s.pair.gen ≤ gen)
    (hp : s.peerUp = true) : bungRenewIn gen n s = { s with
      pair := { s.pair with gen := gen, highGen := max s.pair.highGen gen, tA := some s.mono },
      out := s.out ++ [.peer (bungEntryBytes 2 gen n)] } := by
  have seen := seeGen_of_idle (gen := gen) (s := s) (by rw [hs]; decide) (fun _ => by rw [hs]; decide)
  have follows : (s.modPair (fun p => { p with highGen := max p.highGen gen })).pair.st ∈ [PairState.syncing, .standby, .stale]
      ∧ (s.modPair (fun p => { p with highGen := max p.highGen gen })).pair.gen ≤ gen := ⟨by rw [State.modPair_pair, hs]; decide, hg⟩
  rw [bungRenewIn, hm, when_true, seen]
  dsimp only
  rw [if_pos follows, sendBung_of_peer]
  · rfl
  · exact hp
/-- R395: an acknowledgement moves the lease to the RENEW it names and ends those sent before. -/
theorem bungAckIn_of_sent {n at_ : Nat} {s : State} (hm : s.member = true) (hs : s.pair.st = .active) (hn : mget s.pair.sentRenews n = some at_) :
    bungAckIn s.pair.gen n s = { s with pair := { s.pair with
      highGen := max s.pair.highGen s.pair.gen, lastAcked := some (max at_ (s.pair.lastAcked.getD 0)),
      sentRenews := s.pair.sentRenews.filter (fun x => decide (at_ < x.2)) } } := by
  have seen := seeGen_of_idle (gen := s.pair.gen) (s := s) (by rw [hs]; decide) (fun h => absurd h (Nat.lt_irrefl _))
  rw [bungAckIn, hm, when_true, seen]
  simp only [State.modPair, hn, hs, List.mem_cons, true_or, and_self, if_true]
theorem bungHandoverIn_of_standby {gen : Nat} {s : State} (hs : s.pair.st = .standby) (hg : s.pair.gen < gen) (hp : s.peerUp = true) :
    bungHandoverIn gen s = (takeBung gen 2 s).emit (.peer (bungEntryBytes 4 gen 0)) := by
  rw [bungHandoverIn, hs, decide_eq_true hg, sendBung_of_peer]
  · rfl
  · exact hp
theorem exec_bungHandoverAck_of_handing {gen : Nat} {s : State} (hs : s.pair.st = .fenced) (hg : s.pair.handing = some gen) :
    exec (.bungHandoverAck gen) s = .next (handedOver gen s) := by
  show execBungHandoverAck gen s = _
  rw [execBungHandoverAck, bungHandoverAckIn, hs, hg, beq_self_eq_true, beq_self_eq_true]
  rfl
/-- R396: an active whose lease has run 350 us is fenced. -/
theorem exec_leaseFence_of_due {at_ : Nat} {s : State} (hs : s.pair.st = .active) (ha : s.pair.lastAcked = some at_)
    (hd : at_ + Config.us 350 ≤ s.mono) : exec .leaseFence s = .next (count Cn.pairFence 0 1 (notify Ev.pairFenced (putLe 4 s.pair.gen) []
      { darken s with pair := { s.pair with st := .fenced } })) := by
  have guard : (s.pair.st == .active && (s.pair.lastAcked.any (fun t => s.due (t + Config.us 350)))) = true := by
    rw [hs, ha, Option.any_some, State.due, decide_eq_true hd]
    rfl
  have pair : (darken s).pair = s.pair := (darken_changes s).same .pair (by decide)
  show execLeaseFence s = _
  rw [execLeaseFence, guard, when_true, State.modPair, pair]
/-! ### Taking the bung -/
/-- R397: 500 us have passed since the instant that a lease runs from. -/
def State.leaseOver (s : State) (t : Option Nat) : Bool := t.any (fun t => s.due (t + Config.us 500))
theorem State.leaseOver_of_due {s : State} {at_ : Nat} (hd : at_ + Config.us 500 ≤ s.mono) : s.leaseOver (some at_) = true := by
  rw [State.leaseOver, Option.any_some, State.due, decide_eq_true hd]
/-- R397: why a standby takes over: the active is present and says that it has fenced itself (3), or has failed (1). -/
def State.takeCause (s : State) : Nat := if s.present s.partnerOf && (mget s.pair.heard s.partnerOf).any Heard.fenced then 3 else 1
/-- R397: a fenced unit takes the bung again with the next GEN. -/
def retaken (s : State) : State :=
  s.modPair (fun p => { p with gen := (s.pair.highGen + 1) % 2 ^ 32, highGen := (s.pair.highGen + 1) % 2 ^ 32, handing := none })
theorem execBungTake_eq (s : State) : execBungTake s = .next (
    if (s.pair.st == .standby || s.pair.st == .stale) && s.leaseOver s.pair.tA && s.mayTake then
      takeBung ((s.pair.highGen + 1) % 2 ^ 32) s.takeCause s
    else if s.pair.st == .fenced && s.leaseOver s.pair.lastAcked && s.mayTake then
      if (retaken s).present (retaken s).partnerOf then becomeActive (retaken s) else becomeSolo (retaken s)
    else s) := rfl
section Take
variable {at_ : Nat} {s : State} (hd : at_ + Config.us 500 ≤ s.mono) (hm : s.mayTake = true)
include hd hm
theorem exec_bungTake_of_standby (hs : s.pair.st = .standby ∨ s.pair.st = .stale) (ha : s.pair.tA = some at_) :
    exec .bungTake s = .next (takeBung ((s.pair.highGen + 1) % 2 ^ 32) s.takeCause s) := by
  have follows : (s.pair.st == .standby || s.pair.st == .stale) = true := by simpa using hs
  show execBungTake s = _
  rw [execBungTake_eq, follows, ha, State.leaseOver_of_due hd, hm]
  rfl
theorem exec_bungTake_of_fenced (hs : s.pair.st = .fenced) (ha : s.pair.lastAcked = some at_) :
    exec .bungTake s = .next (if s.present s.partnerOf then becomeActive (retaken s) else becomeSolo (retaken s)) := by
  show execBungTake s = _
  rw [execBungTake_eq, hs, ha, State.leaseOver_of_due hd, hm]
  rfl
end Take
/-! ### The end of a takeover -/
/-- A takeover is told and counted, and what the pair lost until then is told with it. -/
def takeoverTold (s : State) : State :=
  count Cn.pairTakeover 0 1 ((notify Ev.pairTakeover
    (putLe 4 s.pair.gen ++ putLe 1 s.pair.takeCause ++ zeros 3 ++ putLe 4 (sat 32 s.pair.lost)) [] s).modPair (fun p => { p with
      lost := 0, marks := [] }))
theorem takeoverTold_pair (s : State) : (takeoverTold s).pair = { s.pair with lost := 0, marks := [] } := by
  rw [takeoverTold, count_pair, State.modPair_pair, show _ = _ from (notify_changes ..).same .pair (by decide)]
theorem takeoverTold_changes (s : State) : Changes [.rings, .pair, .cnt, .out] s (takeoverTold s) := by
  refine Changes.via ?_ (count_changes ..) (by decide)
  refine Changes.via ?_ (State.modPair_changes ..) (by decide)
  exact (notify_changes ..).weaken (by decide)
/-- What is present is read off the fabric, the device and the pair's settings. -/
theorem State.present_of_fab {s t : State} (hf : t.fab = s.fab) (hd : t.dev = s.dev) (sun : Nat) : t.present sun = s.present sun := by
  calc t.present sun = ({ s with fab := t.fab, dev := t.dev } : State).present sun := rfl
    _ = s.present sun := by rw [hf, hd]
/-- R397, R409: a paired port out of SYNC is discarded for 200 us. -/
def portsFresh (s : State) : State :=
  foldS (mkeys s.pair.cfg.ports) s (fun p s =>
    if (s.ppair p).sync then s else s.modPpair p (fun x => { x with freshAt := some (s.mono + Config.us 200), query := none, cut := none }))
/-- Table PR-4: the unit is ACTIVE beside a partner that is present, else SOLO. -/
def bungHeld (s : State) : State := if s.present s.partnerOf then becomeActive s else becomeSolo s
theorem execTakeoverComplete_of_handed {s u : State} (hs : s.pair.st = .taking) (hc : s.pair.takeCause = 2)
    (hu : u = setPoints (bungHeld (dutiesFailed (portsFresh (takeoverTold s))))) :
    execTakeoverComplete s = .next (foldS (mkeys u.pair.cfg.ports) u numberAll) := by
  have handed : decide (s.pair.takeCause ≠ 2) = false := decide_eq_false (fun h => h hc)
  subst hu
  rw [execTakeoverComplete, hs, beq_self_eq_true, when_true, handed]
  rfl
/-- Without paired ports the bung is held with the pair's state alone, and what waits for the partner woken. -/
theorem bungHeld_pair {s : State} (hp : s.pair.cfg.ports = []) : (bungHeld s).pair.st = (if s.present s.partnerOf then .active else .solo)
    ∧ (bungHeld s).pair.cfg = s.pair.cfg ∧ (bungHeld s).pair.gen = s.pair.gen ∧ (bungHeld s).pair.marks = s.pair.marks := by
  unfold bungHeld
  split
  · exact ⟨rfl, rfl, rfl, rfl⟩
  · rw [becomeSolo, setPoints_of_no_port]
    · exact ⟨rfl, rfl, rfl, rfl⟩
    · exact hp
/-- R400: a bung handed over is taken with no failure to report, and without paired ports nothing else is to be done. -/
theorem exec_takeoverComplete_of_handed {s : State} (hs : s.pair.st = .taking) (hc : s.pair.takeCause = 2) (hp : s.pair.cfg.ports = []) :
    exec .takeoverComplete s = .next (bungHeld (dutiesFailed (takeoverTold s))) := by
  have told : (takeoverTold s).pair.cfg.ports = [] := by rw [takeoverTold_pair]; exact hp
  have fresh : portsFresh (takeoverTold s) = takeoverTold s := by rw [portsFresh, told]; rfl
  have failed : (dutiesFailed (takeoverTold s)).pair.cfg.ports = [] := by
    rw [show _ = _ from (dutiesFailed_changes (takeoverTold s)).same .pair (by decide), told]
  obtain ⟨-, hcfg, -, -⟩ := bungHeld_pair failed
  have held : (bungHeld (dutiesFailed (takeoverTold s))).pair.cfg.ports = [] := by rw [hcfg, failed]
  show execTakeoverComplete s = _
  rw [execTakeoverComplete_of_handed hs hc rfl, fresh, setPoints_of_no_port held, held]
  rfl
/-- Settles O43: each event is done under its guards, and the pair's state after it is read off. -/
theorem leaseEventsComplete : Obligations.LeaseEventsComplete := by
  intro s
  refine ⟨exec_helloSend_of_due, exec_helloReceive_of_linked, fun h hm hl hs => ?hello, exec_helloLoss_of_sought, exec_helloLoss_of_absent,
    fun c hc hs hd hm => ?wait, fun port x own hm hp ho => ?port, fun n hs hd hp hn => ?renew, fun n u hs hd hp hn hu => ?renewFabric,
    fun gen n => ⟨rfl, rfl, rfl⟩, fun gen n hm hs hg hp => congrArg _ (bungRenewIn_of_standby hm hs hg hp),
    fun n at_ hm hs hn => congrArg _ (bungAckIn_of_sent hm hs hn), fun gen hs hg hp => ?handover, fun gen hs hg => ?handed,
    fun at_ hs ha hd => exec_leaseFence_of_due hs ha hd, fun at_ hs ha hd hm => ?take, fun at_ u hs ha hd hm hu => ?retake,
    fun hs => ?takeover, fun hs hc hp => ?complete⟩
  case hello => rw [exec_helloReceive_of_linked h hm hl, helloIn_of_seeking h hs]
  case wait =>
    refine ⟨_, exec_partnerWaitExpiry_of_due hc hs hd hm, ?_, ?_, ?_⟩
    · rw [becomeSolo_keeps Pair.st (fun _ _ => rfl)]
    · rw [becomeSolo_keeps Pair.gen (fun _ _ => rfl)]
      rfl
    · exact Changes.via ((State.modPair_changes ..).weaken (by decide)) (becomeSolo_changes _) (by decide)
  case port =>
    subst ho
    refine ⟨_, exec_pairPortExchange_of_member x hm hp, ?_, fun q hq => ?_, (State.modPpair_changes ..).trans (pairRematch_changes ..)⟩
    · rw [pairRematch, State.modPpair_ppair, State.modPpair_ppair]
      rfl
    · rw [pairRematch, State.modPpair_ppair_ne _ _ hq, State.modPpair_ppair_ne _ _ hq]
  case renew =>
    subst hn
    rw [exec_bungRenewSend_of_due hs hd rfl, hp, if_pos rfl, sendBung_of_peer]
    · rfl
    · exact hp
  case renewFabric =>
    subst hn hu
    rw [exec_bungRenewSend_of_due hs hd rfl, hp, if_neg Bool.false_ne_true]
    rfl
  case handover =>
    refine ⟨_, congrArg Host.Outcome.next (bungHandoverIn_of_standby hs hg hp), rfl, rfl, rfl, ?_⟩
    exact Changes.set_out ((takeBung_changes ..).weaken (by decide)) (by decide)
  case handed => exact ⟨_, exec_bungHandoverAck_of_handing hs hg, rfl, rfl, rfl, State.modPair_changes ..⟩
  case take => exact ⟨_, exec_bungTake_of_standby hd hm hs ha, rfl, rfl, takeBung_changes ..⟩
  case retake =>
    subst hu
    exact exec_bungTake_of_fenced hd hm hs ha
  case takeover => exact execTakeoverComplete_changes s
  case complete =>
    have told := takeoverTold_changes s
    have duties := dutiesFailed_changes (takeoverTold s)
    have pair : (dutiesFailed (takeoverTold s)).pair = { s.pair with lost := 0, marks := [] } :=
      (duties.same .pair (by decide)).trans (takeoverTold_pair s)
    have present (sun : Nat) : (dutiesFailed (takeoverTold s)).present sun = s.present sun :=
      State.present_of_fab ((duties.same .fab (by decide)).trans (told.same .fab (by decide)))
        ((duties.same .dev (by decide)).trans (told.same .dev (by decide))) sun
    obtain ⟨hst, -, hgen, hmarks⟩ := bungHeld_pair (s := dutiesFailed (takeoverTold s)) (by rw [pair]; exact hp)
    refine ⟨_, exec_takeoverComplete_of_handed hs hc hp, ?_, ?_, ?_, ?_⟩
    · rw [hst, present, State.partnerOf, pair]
      rfl
    · rw [hgen, pair]
    · rw [hmarks, pair]
    · refine Changes.via (Changes.via (told.weaken (by decide)) duties (by decide)) (qs := [.queue, .pair, .out]) ?_ (by decide)
      exact Changes.ite ((becomeActive_changes _).weaken (by decide)) (becomeSolo_changes _)
end Sys2Proof.Machine
end

section
/-! SUPPORT. The commands of family PORT (R119 to R122, R126, R128, R142, R143, R148 to R150, Tables LN-8 to LN-10). -/

namespace Sys2Proof.Machine

/-! ### Ports by number -/

/-- Of two writes of one key the second stands. -/
theorem mset_mset {α : Type} (m : AMap α) (k : Nat) (v w : α) : mset (mset m k v) k w = mset m k w := by
  induction m with
  | nil => simp [mset]
  | cons e m ih =>
    obtain ⟨j, x⟩ := e
    by_cases hlt : k < j
    · simp [mset, hlt]
    · by_cases heq : k = j
      · simp [mset, heq]
      · simp [mset, hlt, heq, ih]

/-- Two changes of one port are one. -/
theorem State.modPort_modPort (s : State) (p : Nat) (f g : Port → Port) : (s.modPort p f).modPort p g = s.modPort p (fun x => g (f x)) := by
  simp only [State.modPort, mmod, mgetD_mset_self, mset_mset]

/-- Two changes of a port that agree on what it holds are one. -/
theorem State.modPort_congr {s : State} {p : Nat} {f g : Port → Port} (h : f (s.lport p) = g (s.lport p)) : s.modPort p f = s.modPort p g := by
  unfold State.modPort mmod
  rw [show f (mgetD s.port.ports p {}) = g (mgetD s.port.ports p {}) from h]

/-- What a change leaves of the ports it leaves of every port. -/
theorem State.lport_of_port {s t : State} (h : t.port = s.port) (q : Nat) : t.lport q = s.lport q := by rw [State.lport, h, State.lport]
theorem State.pcfg_of_port {s t : State} (h : t.port = s.port) (q : Nat) : t.pcfg q = s.pcfg q := by rw [State.pcfg, h, State.pcfg]

/-! ### PORT.CONFIG -/

/-- R149: an OTN port is referred to only where something refers to it. -/
theorem otnReferred_guard {p : Nat} {s : State} (h : (s.pcfg p).map PortCfg.type = some 2 → s.otnReferred p = false) :
    (((s.pcfg p).map PortCfg.type).getD 0 == 2 && s.otnReferred p) = false := by
  rw [Bool.and_eq_false_imp]
  intro ht
  apply h
  cases hc : (s.pcfg p).map PortCfg.type with
  | none => rw [hc] at ht; cases ht
  | some n => rw [hc] at ht; exact congrArg some (eq_of_beq ht)

section Config
variable {vi p : Nat} {e : Entry} {s : State} (hp : p = e.p 24 1) (hlt : p < 128) (hw : p ∉ s.frm.swapLeft)
  (hr : (s.pcfg p).map PortCfg.type = some 2 → s.otnReferred p = false) (ht : s.onTrial = false)
include hp hlt hw hr ht

theorem bodyPortConfig_of_delete (h0 : e.p 25 1 = 0) (hc : (s.pcfg p).isSome = true) :
    bodyPortConfig vi e s = .ok (saveSettings (portDelete p s)) := by
  have known : (s.pcfg p).isNone = false := Option.isNone_eq_false_iff.mpr hc
  have unreferred := otnReferred_guard hr
  subst hp
  unfold bodyPortConfig
  dsimp only
  rw [if_neg (by omega), if_pos h0, known, if_neg Bool.false_ne_true, if_neg hw, unreferred, if_neg Bool.false_ne_true, storing_of_no_trial ht]

/-- R119 to R122: a port in the range of Table LN-8 whose lanes lie on a cage and meet no other port's is set as asked. -/
theorem bodyPortConfig_of_sound {type lanes : Nat} {c : PortCfg} (htype : type = e.p 25 1) (hlanes : lanes = e.p 26 1)
    (h12 : type = 1 ∨ type = 2) (hm : modeSupported type lanes (e.p 27 1) (e.p 28 1) (e.p 29 1) = true) (h1 : type = 1 → e.p 29 1 = 0)
    (h2 : type = 2 → lanes = max 1 (e.p 29 1 / 2) ∧ e.p 27 1 = 0 ∧ e.p 28 1 = 0)
    (hc : c = { (((s.pcfg p).filter (fun o => o.type == type)).getD {}) with
      type := type, lanes := lanes, cls := e.p 27 1, fec := e.p 28 1, otucN := e.p 29 1, txInvert := e.p 32 1, rxInvert := e.p 33 1,
      maxFrame := if e.p 30 2 = 0 then 9216 else e.p 30 2, downDebounce := e.p 34 2,
      upDebounce := if e.p 36 2 = 0 then 10 else e.p 36 2, sdExp := if e.p 38 1 = 0 then 4 else e.p 38 1 })
    (hmin : 64 ≤ c.maxFrame) (hmax : c.maxFrame ≤ 10240) (hdown : c.downDebounce ≤ 100) (hup : c.upDebounce ≤ 10000) (hsd : 2 ≤ c.sdExp)
    (hsd' : c.sdExp ≤ 9) (halign : p % lanes = 0) (hcage : (s.cageOf p lanes).isSome = true)
    (hmeet : s.port.cfg.any (fun x => decide (x.1 ≠ p) && rangesMeet (x.1, x.2.lanes) (p, lanes)) = false) :
    bodyPortConfig vi e s = if s.pcfg p = some c then .ok s
      else if type = 1 ∧ c.secy.cipher = 1 ∧ 200 < lanes * c.cls * 100 then .err s St.eUnsupported Dt.portCipherRate
      else .ok (saveSettings (portApply p c s)) := by
  have onCage : (s.cageOf p lanes).isNone = false := Option.isNone_eq_false_iff.mpr hcage
  have unreferred := otnReferred_guard hr
  have bounds : ¬ (c.maxFrame < 64 ∨ 10240 < c.maxFrame ∨ 100 < c.downDebounce ∨ 10000 < c.upDebounce ∨ c.sdExp < 2 ∨ 9 < c.sdExp) := by
    omega
  subst hp htype hlanes hc
  unfold bodyPortConfig
  dsimp only at bounds ⊢
  rw [if_neg (by omega), if_neg (by omega), hm, Bool.not_true, if_neg Bool.false_ne_true, if_neg (by omega), if_neg (by omega),
    if_neg bounds, if_neg (not_not_intro halign), onCage, if_neg Bool.false_ne_true, hmeet, if_neg Bool.false_ne_true, if_neg hw, unreferred,
    if_neg Bool.false_ne_true, storing_of_no_trial ht]

end Config

/-! ### PORT.ADMIN and PORT.STATUS -/

section Admin
variable {vi p : Nat} {e : Entry} {s : State} (hp : p = e.p 24 1) (hlt : p < 128)
include hp hlt

theorem bodyPortAdmin_of_up {u : State} (hl : e.p 26 1 ≤ 2) (hc : (s.pcfg p).isSome = true) (h1 : e.p 25 1 = 1)
    (hu : u = s.modPort p (fun x => { x with adminUp := true, loopback := e.p 26 1, defects := setBit x.defects 5 false })) :
    bodyPortAdmin vi e s = .ok (setCause p 16 (e.p 26 1 == 2) (portTrain p u)) := by
  have known : (s.pcfg p).isNone = false := Option.isNone_eq_false_iff.mpr hc
  subst hp hu
  unfold bodyPortAdmin
  dsimp only
  rw [if_neg (by omega), known, if_neg Bool.false_ne_true, h1, if_neg (by decide), State.modPort_modPort]
  rfl

theorem bodyPortAdmin_of_down {u : State} (hl : e.p 26 1 ≤ 2) (hc : (s.pcfg p).isSome = true) (h0 : e.p 25 1 = 0)
    (hu : u = s.modPort p (fun x => { x with adminUp := false, loopback := e.p 26 1, defects := setBit x.defects 5 true })) :
    bodyPortAdmin vi e s = .ok (setCause p 16 (e.p 26 1 == 2) (portDisable p u)) := by
  have known : (s.pcfg p).isNone = false := Option.isNone_eq_false_iff.mpr hc
  subst hp hu
  unfold bodyPortAdmin
  dsimp only
  rw [if_neg (by omega), known, if_neg Bool.false_ne_true, h0, if_pos rfl, State.modPort_modPort]
  rfl

theorem bodyPortStatus_of_owner (ho : s.ownsPort vi p = true) : bodyPortStatus vi e s = .read s (putLe 1 (s.lport p).st.code ++ zeros 3
    ++ putLe 4 (s.lport p).defects.toNat ++ putLe 4 (s.counter Cn.portFlaps p)) [] := by
  subst hp
  unfold bodyPortStatus
  dsimp only
  rw [if_neg (by omega), ho, Bool.not_true, if_neg Bool.false_ne_true]

end Admin

theorem portTrain_of_disabled {p : Nat} {s : State} (hd : (s.lport p).st = .disabled) (ha : (s.lport p).adminUp = true)
    (hc : (s.pcfg p).isSome = true) : portTrain p s = s.modPort p (fun x => { x with st := .training }) := by
  rw [portTrain, if_pos ⟨hd, ha, hc⟩]

theorem setCause_of_same {p i : Nat} {on : Bool} {s : State} (h : (s.lport p).defects.getLsbD i = on) : setCause p i on s = s := by
  rw [setCause, if_pos h]

/-- A change of a defect bit leaves the others. -/
theorem getLsbD_setBit_ne {w : Word} {i j : Nat} (on : Bool) (h : j ≠ i) : (setBit w i on).getLsbD j = w.getLsbD j := by
  have other : (BitVec.ofNat 32 (2 ^ i)).getLsbD j = false := by
    rw [BitVec.getLsbD_ofNat, Nat.testBit_two_pow_of_ne h.symm, Bool.and_false]
  unfold setBit
  cases on with
  | true => rw [if_pos rfl, BitVec.getLsbD_or, other, Bool.or_false]
  | false =>
    rw [if_neg Bool.false_ne_true, BitVec.getLsbD_and, BitVec.getLsbD_not, other, Bool.not_false, Bool.and_true, Bool.and_eq_left_iff_imp]
    exact fun hj => decide_eq_true (BitVec.lt_of_getLsbD hj)

/-- Table LN-3: a disabled port that is brought up without a loopback trains, and nothing else changes. -/
theorem portTrain_of_brought_up {p : Nat} {s u : State} (hc : (s.pcfg p).isSome = true) (hd : (s.lport p).st = .disabled)
    (hf : (s.lport p).defects.getLsbD 16 = false)
    (hu : u = s.modPort p (fun x => { x with adminUp := true, loopback := 0, defects := setBit x.defects 5 false })) :
    setCause p 16 false (portTrain p u) = s.modPort p (fun x =>
      { x with adminUp := true, loopback := 0, st := .training, defects := setBit x.defects 5 false }) := by
  have here : u.lport p = { s.lport p with adminUp := true, loopback := 0, defects := setBit (s.lport p).defects 5 false } := by
    rw [hu, State.modPort_lport]
  have trains : portTrain p u = u.modPort p (fun x => { x with st := .training }) :=
    portTrain_of_disabled (by rw [here]; exact hd) (by rw [here]) (by rw [hu]; exact hc)
  have clear : ((u.modPort p (fun x => { x with st := .training })).lport p).defects.getLsbD 16 = false := by
    rw [State.modPort_lport, here]
    exact (getLsbD_setBit_ne _ (by decide)).trans hf
  rw [trains, setCause_of_same clear, hu, State.modPort_modPort]

/-! ### The commands on MACsec -/

theorem txSaOp_install (an key pn : Nat) (m : AMap Sa) : txSaOp 1 an key pn m = mset m an { key := key, pn := pn } := rfl
theorem txSaOp_remove (an key pn : Nat) (m : AMap Sa) : txSaOp 2 an key pn m = mdel m an := rfl
theorem txSaOp_enable (an key pn : Nat) (m : AMap Sa) :
    txSaOp 3 an key pn m = m.map (fun e => (e.1, { e.2 with enabled := e.1 == an })) := rfl
theorem rxSaOp_install (an key pn : Nat) (m : AMap Sa) : rxSaOp 1 an key pn m = mset m an { key := key, pn := pn } := rfl
theorem rxSaOp_remove (an key pn : Nat) (m : AMap Sa) : rxSaOp 2 an key pn m = mdel m an := rfl
theorem rxSaOp_enable (an key pn : Nat) (m : AMap Sa) : rxSaOp 3 an key pn m = mmod m an {} (fun a => { a with enabled := true }) := rfl

section Macsec
variable {vi p : Nat} {e : Entry} {s : State} {c : PortCfg} (hp : p = e.p 24 1) (hc : s.pcfg p = some c) (h1 : c.type = 1)
include hc h1

theorem macsecPort_of_ethernet : macsecPort s p = none := by
  simp [macsecPort, hc, h1]

include hp

/-- R142, R150: the SecY is set, and a change beyond ENABLE removes every SA. -/
theorem bodyPortMacsecSecy_of_sound {y : SecY} {u : State} (hen : e.p 25 1 ≤ 1) (hci : e.p 26 1 = 1 ∨ e.p 26 1 = 2)
    (hco : e.p 27 1 ∈ [0, 30, 50]) (hv : e.p 28 1 ≤ 2) (hrw : e.p 40 4 ≤ 2 ^ 30) (hrate : e.p 26 1 = 1 → c.lanes * c.cls * 100 ≤ 200)
    (ht : s.onTrial = false)
    (hy : y = {
      enable := e.p 25 1 == 1, cipher := e.p 26 1, confOffset := e.p 27 1, validate := e.p 28 1, flags := e.p 29 1, txSci := e.p 32 8,
      replayWindow := e.p 40 4, pnThreshold := if e.p 48 8 = 0 then pnSpace (e.p 26 1) / 4 * 3 else e.p 48 8 })
    (hu : u = s.modPcfg p (fun c => { c with secy := y })) :
    bodyPortMacsecSecy vi e s = .ok (saveSettings (macsecRefresh p (if { s.secy p with enable := y.enable } = y then u
      else u.modPort p (fun x => { x with txSas := [], rxScs := x.rxScs.map (fun r => (r.1, [])) })))) := by
  have suits : ¬ (e.p 26 1 = 1 ∧ 200 < ((s.pcfg p).map (fun c => c.lanes * c.cls * 100)).getD 0) := by
    rw [hc]
    exact fun ⟨h, k⟩ => Nat.not_lt.mpr (hrate h) k
  have port := macsecPort_of_ethernet hc h1
  subst hp hu hy
  unfold bodyPortMacsecSecy
  simp only [port]
  rw [if_neg (by omega), if_neg (by simp only [hco, not_true_eq_false, false_or]; omega), if_neg suits, storing_of_no_trial ht]
  simp only [beq_iff_eq]

/-- R142: a receive SC that stands is left as it is. -/
theorem bodyPortMacsecRxsc_of_held (hop : e.p 25 1 = 1) (hs : mhas (s.lport p).rxScs (e.p 32 8) = true) :
    bodyPortMacsecRxsc vi e s = .ok s := by
  have port := macsecPort_of_ethernet hc h1
  subst hp
  unfold bodyPortMacsecRxsc
  simp only [port]
  rw [if_pos hop, if_pos hs]

theorem bodyPortMacsecRxsc_of_new (hop : e.p 25 1 = 1) (hs : mhas (s.lport p).rxScs (e.p 32 8) = false) (hn : (s.lport p).rxScs.length < 64)
    (hall : sumOf s.port.ports (fun x => x.2.rxScs.length) < 4096) (ht : s.onTrial = false) :
    bodyPortMacsecRxsc vi e s = .ok (saveSettings ((s.modPort p (fun x => { x with rxScs := mset x.rxScs (e.p 32 8) [] })).modPcfg p
      (fun c => { c with scis := addOnce c.scis (e.p 32 8) }))) := by
  have port := macsecPort_of_ethernet hc h1
  subst hp
  unfold bodyPortMacsecRxsc
  simp only [port]
  rw [if_pos hop, hs, if_neg Bool.false_ne_true, if_neg (by omega), storing_of_no_trial ht]

theorem bodyPortMacsecRxsc_of_removed (hop : e.p 25 1 = 2) (hs : mhas (s.lport p).rxScs (e.p 32 8) = true) (ht : s.onTrial = false) :
    bodyPortMacsecRxsc vi e s = .ok (saveSettings ((s.modPort p (fun x => { x with rxScs := mdel x.rxScs (e.p 32 8) })).modPcfg p
      (fun c => { c with scis := without c.scis (e.p 32 8) }))) := by
  have port := macsecPort_of_ethernet hc h1
  subst hp
  unfold bodyPortMacsecRxsc
  simp only [port]
  rw [if_neg (by omega), if_pos hop, hs, Bool.not_true, if_neg Bool.false_ne_true, storing_of_no_trial ht]

variable {an : Nat} (han : an = e.p 26 1) (ha : an ≤ 3) (hm : mhas s.sec.mka p = false) (hop : e.p 27 1 = 1 ∨ e.p 27 1 = 2 ∨ e.p 27 1 = 3)
  (hk : e.p 27 1 = 1 → s.sakFor (e.p 28 2) p = true)
include han ha hm hop hk

/-- R143, R150: a transmit SA is installed, removed while it is not enabled, or enabled. -/
theorem bodyPortMacsecSa_of_transmit (hdir : e.p 25 1 = 0) (hsci : e.p 32 8 = 0) (hs : e.p 27 1 ≠ 1 → mhas (s.lport p).txSas an = true)
    (hidle : e.p 27 1 = 2 → ((mget (s.lport p).txSas an).map Sa.enabled).getD false = false) :
    bodyPortMacsecSa vi e s = .ok (macsecRefresh p (s.modPort p (fun x =>
      { x with txSas := txSaOp (e.p 27 1) an (e.p 28 2) (e.p 40 8) x.txSas }))) := by
  have port := macsecPort_of_ethernet hc h1
  have key : ¬ (e.p 27 1 = 1 ∧ (!s.sakFor (e.p 28 2) p) = true) := fun ⟨h, k⟩ => by rw [hk h] at k; cases k
  have held : ¬ (e.p 27 1 ≠ 1 ∧ (!mhas (s.lport p).txSas an) = true) := fun ⟨h, k⟩ => by rw [hs h] at k; cases k
  have idle : ¬ (e.p 27 1 = 2 ∧ ((mget (s.lport p).txSas an).map Sa.enabled).getD false = true) := fun ⟨h, k⟩ => by rw [hidle h] at k; cases k
  subst hp han
  unfold bodyPortMacsecSa
  simp only [port]
  rw [if_neg (by omega), hm, if_neg Bool.false_ne_true, if_neg key, if_pos hdir, if_neg held, if_neg idle]

theorem bodyPortMacsecSa_of_receive {m : AMap Sa} (hdir : e.p 25 1 = 1) (hsc : mget (s.lport p).rxScs (e.p 32 8) = some m)
    (hs : e.p 27 1 ≠ 1 → mhas m an = true) : bodyPortMacsecSa vi e s = .ok (s.modPort p (fun x =>
      { x with rxScs := mset x.rxScs (e.p 32 8) (rxSaOp (e.p 27 1) an (e.p 28 2) (e.p 40 8) m) })) := by
  have port := macsecPort_of_ethernet hc h1
  have key : ¬ (e.p 27 1 = 1 ∧ (!s.sakFor (e.p 28 2) p) = true) := fun ⟨h, k⟩ => by rw [hk h] at k; cases k
  have held : ¬ (e.p 27 1 ≠ 1 ∧ (!mhas m an) = true) := fun ⟨h, k⟩ => by rw [hs h] at k; cases k
  subst hp han
  unfold bodyPortMacsecSa
  simp only [port, hsc]
  rw [if_neg (by omega), hm, if_neg Bool.false_ne_true, if_neg key, if_neg (by omega), if_neg held]

end Macsec

/-- Settles O22: each command is completed with what its body gives under the clause's conditions. -/
theorem portCommandsComplete : Obligations.PortCommandsComplete := by
  intro vi p io e s hp
  refine ⟨fun h hlt hw hr ht => ⟨fun h0 hc => ?delete, ?config⟩, fun h hlt hl hc => ⟨fun u h1 hu => ?up, fun u h0 hu => ?down, ?train⟩,
    fun h hlt ho => ?status, fun c y u h hc h1 hen hci hco hv hrw hrate ht hy hu => ?secy, fun c sci h hc h1 hsci => ?rxsc,
    fun c an key sci h hc h1 han ha hm hkey hsci => ⟨fun hdir h0 => ?transmit, fun m hdir hsc => ?receive⟩⟩
  case delete => exact ⟨_, next_runCommand_of_body h (bodyPortConfig_of_delete hp hlt hw hr ht h0 hc), rfl⟩
  case config =>
    intro type lanes c htype hlanes h12 hm h1 h2 hc hmin hmax hdown hup hsd hsd' halign hcage hmeet
    have body := bodyPortConfig_of_sound (vi := vi) (s := taken vi s) hp hlt hw hr ht htype hlanes h12 hm h1 h2 hc hmin hmax hdown hup hsd hsd'
      halign hcage hmeet
    refine ⟨fun held => next_runCommand_of_body h (body.trans (if_pos held)), fun changed hrate => ?_⟩
    have keepsRate : ¬ (type = 1 ∧ c.secy.cipher = 1 ∧ 200 < lanes * c.cls * 100) := fun ⟨ht1, hci, hover⟩ =>
      Nat.not_lt.mpr (hrate ht1 hci) hover
    exact next_runCommand_of_body h (body.trans ((if_neg changed).trans (if_neg keepsRate)))
  case up => exact next_runCommand_of_body h (bodyPortAdmin_of_up hp hlt hl hc h1 hu)
  case down => exact next_runCommand_of_body h (bodyPortAdmin_of_down hp hlt hl hc h0 hu)
  case train =>
    intro h1 hl0 hd hf
    have body := bodyPortAdmin_of_up (vi := vi) (s := taken vi s) hp hlt hl hc h1 rfl
    rw [hl0] at body
    have trained := portTrain_of_brought_up (s := taken vi s) hc hd hf rfl
    refine ⟨_, next_runCommand_of_body h (body.trans (congrArg Reply.ok trained)), ?_, fun q hq => ?_, rfl, State.modPort_changes ..⟩
    · exact State.modPort_lport ..
    · exact State.modPort_lport_ne _ _ hq
  case status => exact next_runCommand_of_body h (bodyPortStatus_of_owner hp hlt ho)
  case secy =>
    have body := bodyPortMacsecSecy_of_sound (vi := vi) (s := taken vi s) hp hc h1 hen hci hco hv hrw hrate ht hy hu
    exact ⟨fun same => next_runCommand_of_body h (body.trans (by rw [if_pos]; exact same)),
      fun other => next_runCommand_of_body h (body.trans (by rw [if_neg]; exact other))⟩
  case rxsc =>
    rw [hsci]
    exact ⟨fun hop hs => next_runCommand_of_body h (bodyPortMacsecRxsc_of_held hp hc h1 hop hs),
      fun hop hs hn hall ht => next_runCommand_of_body h (bodyPortMacsecRxsc_of_new hp hc h1 hop hs hn hall ht),
      fun hop hs ht => next_runCommand_of_body h (bodyPortMacsecRxsc_of_removed hp hc h1 hop hs ht)⟩
  case transmit =>
    rw [hkey]
    have body := bodyPortMacsecSa_of_transmit (vi := vi) (s := taken vi s) hp hc h1 han ha hm
    refine ⟨fun hop hk => ?_, fun hop hs hidle => ?_, fun hop hs => ?_⟩
    · have reply := body (.inl hop) (fun _ => hk) hdir (hsci.symm.trans h0) (fun n => absurd hop n) (fun n => absurd (hop.symm.trans n) (by decide))
      simp only [hop, txSaOp_install] at reply
      exact next_runCommand_of_body h reply
    · have reply := body (.inr (.inl hop)) (fun n => absurd (hop.symm.trans n) (by decide)) hdir (hsci.symm.trans h0) (fun _ => hs) (fun _ => hidle)
      simp only [hop, txSaOp_remove] at reply
      exact next_runCommand_of_body h reply
    · have reply := body (.inr (.inr hop)) (fun n => absurd (hop.symm.trans n) (by decide)) hdir (hsci.symm.trans h0) (fun _ => hs)
        (fun n => absurd (hop.symm.trans n) (by decide))
      simp only [hop, txSaOp_enable] at reply
      exact next_runCommand_of_body h reply
  case receive =>
    rw [hkey, hsci]
    rw [hsci] at hsc
    have body := bodyPortMacsecSa_of_receive (vi := vi) (s := taken vi s) hp hc h1 han ha hm
    refine ⟨fun hop hk => ?_, fun hop hs => ?_, fun hop hs => ?_⟩
    · have reply := body (.inl hop) (fun _ => hk) hdir hsc (fun n => absurd hop n)
      simp only [hop, rxSaOp_install] at reply
      exact next_runCommand_of_body h reply
    · have reply := body (.inr (.inl hop)) (fun n => absurd (hop.symm.trans n) (by decide)) hdir hsc (fun _ => hs)
      simp only [hop, rxSaOp_remove] at reply
      exact next_runCommand_of_body h reply
    · have reply := body (.inr (.inr hop)) (fun n => absurd (hop.symm.trans n) (by decide)) hdir hsc (fun _ => hs)
      simp only [hop, rxSaOp_enable] at reply
      exact next_runCommand_of_body h reply

end Sys2Proof.Machine
end

section
/-! SUPPORT. Line defects and the port state machine (R126, R129 to R132, Tables LN-3 to LN-5). -/

namespace Sys2Proof.Machine

/-! ### What leaves the ports as they are -/

theorem notify_port (ev : Nat × Nat) (payload : List Byte) (vis : List Nat) (s : State) : (notify ev payload vis s).port = s.port :=
  (notify_changes ..).same .port (by decide)
theorem count_port (ev idx n : Nat) (s : State) : (count ev idx n s).port = s.port := (count_changes ..).same .port (by decide)
theorem syncePort_port (p : Nat) (up : Bool) (s : State) : (syncePort p up s).port = s.port := (syncePort_changes ..).same .port (by decide)
theorem probeRefresh_port (p : Nat) (s : State) : (probeRefresh p s).port = s.port := (probeRefresh_changes ..).same .port (by decide)
theorem egressFlap_port (p : Nat) (s : State) : (egressFlap p s).port = s.port := (egressFlap_changes ..).same .port (by decide)
theorem egressUp_port (p : Nat) (s : State) : (egressUp p s).port = s.port := (egressUp_changes ..).same .port (by decide)
theorem portDownEvent_port (p : Nat) (s : State) : (portDownEvent p s).port = s.port := (portDownEvent_changes ..).same .port (by decide)
theorem consequent_port (p : Nat) (before after : Word) (s : State) : (consequent p before after s).port = s.port :=
  (consequent_changes ..).same .port (by decide)
theorem protRefreshAll_port (before s : State) : (protRefreshAll before s).port = s.port := (protRefreshAll_changes ..).same .port (by decide)

/-! ### What Table LN-3 moves -/

/-- Of all ports only the state and the debounce timer of one have moved. -/
structure PortMoves (p : Nat) (s t : State) : Prop where
  here : ∃ st timer, t.lport p = { s.lport p with st := st, timer := timer }
  others : ∀ q, q ≠ p → t.lport q = s.lport q

theorem PortMoves.rfl {p : Nat} {s : State} : PortMoves p s s := ⟨⟨_, _, .refl _⟩, fun _ _ => .refl _⟩

theorem PortMoves.modPort (p : Nat) (s : State) (st : PortState) (timer : Option Nat) :
    PortMoves p s (s.modPort p (fun x => { x with st := st, timer := timer })) :=
  ⟨⟨st, timer, State.modPort_lport ..⟩, fun _ hq => State.modPort_lport_ne _ _ hq⟩

/-- What follows leaves the ports as they are. -/
theorem PortMoves.via {p : Nat} {s t u : State} (h : PortMoves p s t) (k : u.port = t.port) : PortMoves p s u := by
  obtain ⟨st, timer, here⟩ := h.here
  exact ⟨⟨st, timer, (State.lport_of_port k p).trans here⟩, fun q hq => (State.lport_of_port k q).trans (h.others q hq)⟩

theorem PortMoves.ite {p : Nat} {s t u : State} {c : Prop} [Decidable c] (h : PortMoves p s t) (k : PortMoves p s u) :
    PortMoves p s (if c then t else u) := by split <;> assumption

theorem portEnterDown_port (p : Nat) (s : State) :
    (portEnterDown p s).port = (s.modPort p (fun x => { x with st := .down, timer := none })).port :=
  (portDownEvent_port ..).trans (count_port ..)

theorem portEvaluate_moves (p : Nat) (s : State) : PortMoves p s (portEvaluate p s) := by
  unfold portEvaluate
  split
  · exact .rfl
  · extract_lets x bad back
    split
    · exact .ite ((PortMoves.modPort ..).via (egressFlap_port ..)) .rfl
    · exact .ite .rfl (.ite ((PortMoves.modPort ..).via (portEnterDown_port p s))
        ((PortMoves.modPort ..).via (syncePort_port ..)))
    · exact .ite .rfl ((PortMoves.modPort ..).via ((probeRefresh_port ..).trans (syncePort_port ..)))
    · exact .ite .rfl (PortMoves.modPort ..)
    · exact .rfl

/-! ### Defects -/

/-- R131, R132: the bit of a defect rises or clears, and with OOF the hunt starts again. -/
def defectMarked (p i : Nat) (on : Bool) (s : State) : State :=
  s.modPort p (fun x => { x with
    defects := setBit x.defects i on, oofAt := if i = 7 ∧ on then s.mono else x.oofAt, inFrameAt := if i = 7 ∧ !on then s.mono else x.inFrameAt,
    hunt := if i = 7 then [] else x.hunt, huntOut := if i = 7 then [] else x.huntOut,
    ambigSeen := x.ambigSeen && (on || (i != 8 && (i != 7 || x.defects.getLsbD 8))) })

/-- Table LN-4: the rise is counted. -/
def defectCounted (p i : Nat) (on : Bool) (s : State) : State :=
  if on then match defectCounter i with | some c => count c p 1 s | none => s else s

/-- R129: a defect of an OTN port is reported. -/
def defectTold (p i : Nat) (trib : Option Nat) (on : Bool) (s : State) : State :=
  if s.isOtn p ∧ i ≠ 14 then
    notify Ev.frmDefect (putLe 1 p ++ putLe 1 (trib.getD 0xFF) ++ putLe 1 i ++ putLe 1 (b2n on)) (s.ownersOf p) s else s

/-- Table LN-5: a failing server layer puts ODU AIS into every through tributary. -/
def serverAis (p i : Nat) (s : State) : State :=
  if s.isOtn p ∧ (i = 0 ∨ i = 8 ∨ i = 9 ∨ i = 10) then
    let fails := [0, 8, 9, 10].any (fun j => (s.lport p).defects.getLsbD j)
    s.modPort p (fun x => { x with tribAis := if fails then s.throughTribs p else [] }) else s

/-- R129, R130: a defect's bit changes, it is counted and reported, and its consequent actions follow. -/
theorem lineDefect_eq (p i : Nat) (trib : Option Nat) (on : Bool) (s : State) {u : State}
    (hu : u = defectTold p i trib on (defectCounted p i on (defectMarked p i on s))) : lineDefect p i trib on s =
      portEvaluate p (protRefreshAll s (serverAis p i (consequent p (s.lport p).defects (u.lport p).defects u))) := by
  rw [hu]; rfl

theorem defectCounted_changes (p i : Nat) (on : Bool) (s : State) : Changes [.rings, .cnt, .out] s (defectCounted p i on s) := by
  unfold defectCounted
  split
  · split
    · exact count_changes ..
    · exact .rfl
  · exact .rfl

theorem defectTold_changes (p i : Nat) (trib : Option Nat) (on : Bool) (s : State) :
    Changes [.rings, .cnt, .out] s (defectTold p i trib on s) := .ite (notify_changes ..) .rfl

theorem serverAis_lport (p i : Nat) (s : State) : ∃ ais, (serverAis p i s).lport p = { s.lport p with tribAis := ais } := by
  unfold serverAis
  split
  · exact ⟨_, State.modPort_lport ..⟩
  · exact ⟨_, rfl⟩

theorem serverAis_lport_ne {p q : Nat} (i : Nat) (s : State) (h : q ≠ p) : (serverAis p i s).lport q = s.lport q := by
  unfold serverAis
  split
  · exact State.modPort_lport_ne _ _ h
  · rfl

/-- Counters, reports and consequent actions leave the ports as the change of the bit does. -/
theorem defectActed_port (p i : Nat) (trib : Option Nat) (on : Bool) (before after : Word) (s : State) :
    (consequent p before after (defectTold p i trib on (defectCounted p i on s))).port = s.port :=
  ((consequent_port ..).trans ((defectTold_changes ..).same .port (by decide))).trans ((defectCounted_changes ..).same .port (by decide))

section LineDefect
variable (p i : Nat) (trib : Option Nat) (on : Bool) (s : State)

/-- Beyond the change of the bit a defect moves the port's state, its debounce timer and the AIS of its tributaries. -/
theorem lineDefect_keeps {β : Type} (g : Port → β)
    (hg : ∀ x st timer ais, g { x with st := st, timer := timer, tribAis := ais } = g x) :
    g ((lineDefect p i trib on s).lport p) = g ((defectMarked p i on s).lport p) := by
  rw [lineDefect_eq p i trib on s rfl]
  generalize hv : consequent p (s.lport p).defects _ _ = v
  have acted : v.port = (defectMarked p i on s).port := hv ▸ defectActed_port ..
  obtain ⟨st, timer, moved⟩ := (portEvaluate_moves p (protRefreshAll s (serverAis p i v))).here
  obtain ⟨ais, failed⟩ := serverAis_lport p i v
  rw [moved, State.lport_of_port (protRefreshAll_port ..), failed, State.lport_of_port acted]
  exact hg ((defectMarked p i on s).lport p) st timer ais

theorem lineDefect_defects : ((lineDefect p i trib on s).lport p).defects = setBit (s.lport p).defects i on := by
  rw [lineDefect_keeps p i trib on s Port.defects (fun _ _ _ _ => rfl), defectMarked, State.modPort_lport]

theorem lineDefect_lport_ne {q : Nat} (h : q ≠ p) : (lineDefect p i trib on s).lport q = s.lport q := by
  rw [lineDefect_eq p i trib on s rfl, (portEvaluate_moves ..).others q h, State.lport_of_port (protRefreshAll_port ..),
    serverAis_lport_ne _ _ h, State.lport_of_port (defectActed_port ..), defectMarked, State.modPort_lport_ne _ _ h]

theorem lineDefect_hunt : ((lineDefect p 7 trib on s).lport p).hunt = [] := by
  rw [lineDefect_keeps p 7 trib on s Port.hunt (fun _ _ _ _ => rfl), defectMarked, State.modPort_lport]
  rfl

end LineDefect

/-! ### Detection and clearing -/

/-- AIS of one through tributary (Table LN-4) is told from a defect of the port by the tributary's kind. -/
theorem through_iff {i : Nat} {tr : Option Trib} :
    (i = 12 ∧ (tr.map Trib.kind).getD 0 = 2) ↔ (i == 12 && tr.any (fun x => x.kind == 2)) = true := by
  cases tr <;> simp

section Detection
variable {port i : Nat} {s : State} (hl : s.portLive port = true) (hb : lineBit (s.isOtn port) i = true)
include hl hb

/-- R129, Table LN-4: a new defect rises, LOF once OOF has lasted 3 ms. -/
theorem exec_lineDefectDetect_of_new (hn : (s.lport port).defects.getLsbD i = false)
    (hof : i = 8 → (s.lport port).defects.getLsbD 7 = true ∧ s.due ((s.lport port).oofAt + Config.ms 3) = true) :
    exec (.lineDefectDetect port i none) s = .next (lineDefect port i none true s) := by
  have lasted : (i != 8 || ((s.lport port).defects.getLsbD 7 && s.due ((s.lport port).oofAt + Config.ms 3))) = true := by
    rw [Bool.or_eq_true, Bool.and_eq_true, bne_iff_ne]
    exact Decidable.not_or_of_imp hof
  show execLineDefectDetect port i none s = _
  simp only [execLineDefectDetect, hl, hb, hn, lasted, Bool.not_false, Bool.and_self, when_true]

/-- R129, Table LN-4: a defect clears, LOF once in-frame has lasted 3 ms, OOF by the hunt alone. -/
theorem exec_lineDefectClear_of_standing (h7 : i ≠ 7) (hn : (s.lport port).defects.getLsbD i = true)
    (hof : i = 8 → (s.lport port).defects.getLsbD 7 = false ∧ s.due ((s.lport port).inFrameAt + Config.ms 3) = true) :
    exec (.lineDefectClear port i none) s = .next (lineDefect port i none false s) := by
  have lasted : (i != 8 || (!(s.lport port).defects.getLsbD 7 && s.due ((s.lport port).inFrameAt + Config.ms 3))) = true := by
    rw [Bool.or_eq_true, Bool.and_eq_true, bne_iff_ne, Bool.not_eq_true']
    exact Decidable.not_or_of_imp hof
  show execLineDefectClear port i none s = _
  simp only [execLineDefectClear, hl, hb, hn, bne_iff_ne.mpr h7, lasted, Bool.and_self, when_true]

variable {trib : Nat} {through : Bool} (hth : through = (i == 12 && (mget s.frm.cfg.tribs (port * 128 + trib)).any (fun x => x.kind == 2)))
include hth

theorem exec_lineDefectDetect_of_trib : exec (.lineDefectDetect port i (some trib)) s =
    .next (if through = true then when (decide (trib ∉ (s.lport port).tribAis)) s (tribDefect port trib true s)
      else when (!(s.lport port).defects.getLsbD i) s (lineDefect port i (some trib) true s)) := by
  show execLineDefectDetect port i (some trib) s = _
  simp only [execLineDefectDetect, hl, hb, Bool.and_self, when_true, through_iff, hth]

theorem exec_lineDefectClear_of_trib (h7 : i ≠ 7) : exec (.lineDefectClear port i (some trib)) s =
    .next (if through = true then when (decide (trib ∈ (s.lport port).tribAis)) s (tribDefect port trib false s)
      else when ((s.lport port).defects.getLsbD i) s (lineDefect port i (some trib) false s)) := by
  show execLineDefectClear port i (some trib) s = _
  simp only [execLineDefectClear, hl, hb, bne_iff_ne.mpr h7, Bool.and_self, when_true, through_iff, hth]

end Detection

/-! ### The pre-FEC windows -/

theorem fecDegrade_lport (port : Nat) (on : Bool) (s : State) : ((fecDegrade port on s).lport port).defects = setBit (s.lport port).defects 14 on
    ∧ ∀ q, q ≠ port → (fecDegrade port on s).lport q = s.lport q := by
  have told (q : Nat) := State.lport_of_port (notify_port Ev.portFecDegrade (putLe 1 port ++ putLe 1 (b2n on)) (s.ownersOf port) s) q
  refine ⟨?_, fun q hq => (lineDefect_lport_ne _ _ _ _ _ hq).trans (told q)⟩
  rw [fecDegrade, lineDefect_defects, told]

/-- R129: what a window counts (assumption log entries 29 and 117). -/
def fecCounted (port errors : Nat) (s : State) : State :=
  if errors = 0 then count Cn.portFecSymbols port 0 s else
    (count Cn.portFecCorr port (min errors (Config.freeNat (count Cn.portFecSymbols port errors s).draw))
      (count Cn.portFecSymbols port errors s)).drawn

theorem fecCounted_lport (port errors : Nat) (s : State) : (fecCounted port errors s).lport = s.lport := by
  refine funext (State.lport_of_port ?_)
  unfold fecCounted
  split
  · exact count_port ..
  · exact (count_port ..).trans (count_port ..)

/-- R129: a window's counts are taken, then FEC_DEGRADE rises above 10^-SD_EXP and clears after ten windows below 10^-(SD_EXP+1). -/
theorem exec_fecDegradeWindow_of_live {port errors symbols : Nat} {c : PortCfg} {s u : State} (hl : s.portLive port = true)
    (hc : s.pcfg port = some c) (hu : u = fecCounted port errors s) : exec (.fecDegradeWindow port errors symbols) s = .next (
      if (s.lport port).defects.getLsbD 14 = false then
        if symbols < errors * 10 ^ c.sdExp then fecDegrade port true (u.modPort port (fun x => { x with goodWindows := 0 })) else u
      else if errors * 10 ^ (c.sdExp + 1) < symbols then
        if (s.lport port).goodWindows + 1 < 10 then u.modPort port (fun x => { x with goodWindows := x.goodWindows + 1 })
        else fecDegrade port false (u.modPort port (fun x => { x with goodWindows := 0 }))
      else u.modPort port (fun x => { x with goodWindows := 0 })) := by
  have counted : (if errors = 0 then count Cn.portFecSymbols port errors s else
      (count Cn.portFecCorr port (min errors (Config.freeNat (count Cn.portFecSymbols port errors s).draw))
        (count Cn.portFecSymbols port errors s)).drawn) = u := by
    rw [hu, fecCounted]
    split
    · rename_i h0; rw [h0]
    · rfl
  have ports : u.lport = s.lport := by rw [hu, fecCounted_lport]
  show execFecDegradeWindow port errors symbols s = _
  simp only [execFecDegradeWindow, hl, hc, when_true, counted, ports, Option.map_some, Option.getD_some, Bool.not_eq_true']

/-! ### The alignment hunt -/

/-- R131, R132: two or more candidates that qualify are counted, and reported once an episode. -/
def huntAmbiguous (port n : Nat) (s : State) : State :=
  let s := count Cn.frmHuntAmbig port 1 s
  if (s.lport port).ambigSeen then s
  else notify Ev.frmHuntAmbig (putLe 1 port ++ zeros 1 ++ putLe 2 n) (s.ownersOf port) (s.modPort port (fun x => { x with ambigSeen := true }))

theorem exec_alignmentHuntCycle_of_oof {port : Nat} {view : HuntView} {h : AMap (Nat × Nat) × List Nat} {s u : State}
    (hl : s.portLive port = true) (ho : s.isOtn port = true) (h7 : (s.lport port).defects.getLsbD 7 = true)
    (hh : h = (if view.markers then huntCycle view.shown (s.lport port) else ([], [])))
    (hu : u = s.modPort port (fun x => { x with hunt := h.1, huntOut := h.2 })) : exec (.alignmentHuntCycle port view) s =
      .next (if qualifying h.1 = 0 then u else if qualifying h.1 = 1 then lineDefect port 7 none false u
        else huntAmbiguous port (qualifying h.1) u) := by
  subst hu
  show execAlignmentHuntCycle port view s = _
  unfold execAlignmentHuntCycle
  rw [← hh, hl, ho, h7]
  rfl

/-- What leaves the ports as they are does the same beside a change of one. -/
theorem Changes.modPort {ps : List Part} {s t : State} (h : Changes ps s t) (m : Part.port ∉ ps) (p : Nat) (f : Port → Port) :
    Changes ps (s.modPort p f) (t.modPort p f) := by
  refine ⟨fun q hq => ?_⟩
  cases q
  case port =>
    have ports : t.port = s.port := h.same .port m
    simp only [Part.same, State.modPort, ports]
  all_goals exact h.same _ hq

theorem huntAmbiguous_changes {port : Nat} (n : Nat) {h : AMap (Nat × Nat) × List Nat} {s u : State}
    (hu : u = s.modPort port (fun x => { x with hunt := h.1, huntOut := h.2 })) : Changes [.rings, .cnt, .out]
      (s.modPort port (fun x => { x with hunt := h.1, huntOut := h.2, ambigSeen := true })) (huntAmbiguous port n u) := by
  have counted := count_changes Cn.frmHuntAmbig port 1 u
  have seen : ((count Cn.frmHuntAmbig port 1 u).lport port).ambigSeen = (s.lport port).ambigSeen := by
    rw [State.lport_of_port (count_port ..), hu, State.modPort_lport]
  unfold huntAmbiguous
  dsimp only
  rw [seen]
  split
  · rename_i known
    have same : s.modPort port (fun x => { x with hunt := h.1, huntOut := h.2, ambigSeen := true }) = u :=
      hu ▸ State.modPort_congr (by rw [← known])
    rwa [same]
  · have both : s.modPort port (fun x => { x with hunt := h.1, huntOut := h.2, ambigSeen := true })
        = u.modPort port (fun x => { x with ambigSeen := true }) := by rw [hu, State.modPort_modPort]
    rw [both]
    exact (counted.modPort (by decide) port _).trans (notify_changes ..)

/-! ### The port state machine -/

theorem retrainDone_of_other {p : Nat} {s : State} (h : p ∉ s.dev.retraining) : retrainDone p s = s := by
  rw [retrainDone, if_neg h]

section Locked
variable {port : Nat} {c : PortCfg} {s : State} (hl : s.portLive port = true) (hf : s.isOtn port = false ∨ s.dev.phase = .full)
  (hc : s.pcfg port = some c) (hr : (s.lport port).causes &&& ~~~ (0x8000 : Word) = 0)
include hl hf hc hr

/-- R126, Table LN-3: lanes that lock with no down cause but RETRAIN start UP_DEBOUNCE, or end DOWN_WAIT. -/
theorem exec_portLanesLocked_of_waiting
    (hs : (s.lport port).st = .training ∨ (((s.lport port).st = .down ∨ (s.lport port).st = .downWait) ∧ (s.lport port).causes ≠ 0)) :
    exec (.portLanesLocked port) s = .next (if (s.lport port).st = .downWait then
        retrainDone port (portEvaluate port (s.modPort port (fun x => { x with defects := setBit x.defects 15 false })))
      else retrainDone port (s.modPort port (fun x =>
        { x with st := .upWait, defects := setBit x.defects 15 false, timer := some (s.mono + Config.ms c.upDebounce) }))) := by
  have full : (!s.isOtn port || decide (s.dev.phase = .full)) = true := by simpa using hf
  show execPortLanesLocked port s = _
  simp only [execPortLanesLocked, hl, hr, full, hc, hs, decide_true, Bool.and_self, when_true]

end Locked

section Debounce
variable {port at_ : Nat} {s : State} (ht : (s.lport port).timer = some at_) (hd : at_ ≤ s.mono)
include ht hd

theorem exec_upDebounceExpiry_of_due (hs : (s.lport port).st = .upWait) : exec (.upDebounceExpiry port) s = .next (portEnterUp port s) := by
  show execUpDebounceExpiry port s = _
  simp only [execUpDebounceExpiry, hs, ht, State.due, hd, decide_true, Option.map_some, Option.getD_some, Bool.and_self, when_true]

theorem exec_downDebounceExpiry_of_due (hs : (s.lport port).st = .downWait) :
    exec (.downDebounceExpiry port) s = .next (portEnterDown port s) := by
  show execDownDebounceExpiry port s = _
  simp only [execDownDebounceExpiry, hs, ht, State.due, hd, decide_true, Option.map_some, Option.getD_some, Bool.and_self, when_true]

end Debounce

theorem portEnterUp_port (p : Nat) (s : State) :
    (portEnterUp p s).port = (s.modPort p (fun x => { x with st := .up, timer := none })).port := by
  rw [portEnterUp, egressUp_port, probeRefresh_port, syncePort_port, notify_port]

/-- Settles O24: each event is done under its guards, and what it leaves of the ports is read off. -/
theorem lineEventsComplete : Obligations.LineEventsComplete := by
  intro port s
  refine ⟨fun i hl hb hn hof => exec_lineDefectDetect_of_new hl hb hn hof, fun i hl ho hi hn => ?rise, fun i trib through hl hb hth => ?trib,
    fun i hl hb h7 hn hof => exec_lineDefectClear_of_standing hl hb h7 hn hof, fun i hl ho hi hn => ?clear,
    fun c errors symbols u hl hc hu => ?fec, fun view h u hl ho h7 hh hu => ?hunt, fun c u hl hf hc hr hu => ?locked,
    fun at_ hs ht hd => ⟨_, exec_upDebounceExpiry_of_due ht hd hs, portEnterUp_port port s⟩,
    fun at_ hs ht hd => ⟨_, exec_downDebounceExpiry_of_due ht hd hs, portEnterDown_port port s⟩⟩
  case rise =>
    have shown : lineBit (s.isOtn port) i = true := by simp [lineBit, ho, hi]
    exact ⟨_, exec_lineDefectDetect_of_new hl shown hn (by omega), lineDefect_defects .., fun q hq => lineDefect_lport_ne _ _ _ _ _ hq⟩
  case clear =>
    have shown : lineBit (s.isOtn port) i = true := by simp [lineBit, ho, hi]
    exact ⟨_, exec_lineDefectClear_of_standing hl shown (by omega) hn (by omega), lineDefect_defects ..,
      fun q hq => lineDefect_lport_ne _ _ _ _ _ hq⟩
  case trib =>
    have detect := exec_lineDefectDetect_of_trib hl hb hth
    have clear := exec_lineDefectClear_of_trib hl hb hth
    refine ⟨fun h hn => ?_, fun h hn => ?_, fun h7 h hn => ?_, fun h7 h hn => ?_⟩
    · rw [detect, if_pos h, decide_eq_true hn, when_true]
    · rw [detect, if_neg (ne_true_of_eq_false h), hn, Bool.not_false, when_true]
    · rw [clear h7, if_pos h, decide_eq_true hn, when_true]
    · rw [clear h7, if_neg (ne_true_of_eq_false h), hn, when_true]
  case fec =>
    have window := exec_fecDegradeWindow_of_live (symbols := symbols) hl hc hu
    have ports : u.lport = s.lport := by rw [hu]; exact fecCounted_lport port errors s
    refine ⟨fun h hle => ?_, fun h hlt => ?_, fun h hle => ?_, fun h hlt hg => ?_, fun h hlt hg => ?_⟩
    · rw [window, if_pos h, if_neg (Nat.not_lt.mpr hle)]
    · obtain ⟨bit, others⟩ := fecDegrade_lport port true (u.modPort port (fun x => { x with goodWindows := 0 }))
      refine ⟨_, window.trans (by rw [if_pos h, if_pos hlt]), ?_, fun q hq => ?_⟩
      · rw [bit, State.modPort_lport, ports]
      · rw [others q hq, State.modPort_lport_ne _ _ hq, ports]
    · rw [window, if_neg (ne_false_of_eq_true h), if_neg (Nat.not_lt.mpr hle)]
    · rw [window, if_neg (ne_false_of_eq_true h), if_pos hlt, if_pos (by omega)]
    · rw [window, if_neg (ne_false_of_eq_true h), if_pos hlt, if_neg (by omega)]
  case hunt =>
    have cycle := exec_alignmentHuntCycle_of_oof hl ho h7 hh hu
    refine ⟨fun h0 => ?_, fun h1 => ?_, fun h2 => ?_⟩
    · rw [cycle, if_pos h0]
    · refine ⟨_, cycle.trans (by rw [if_neg (by omega), if_pos h1]), ?_, lineDefect_hunt .., fun q hq => ?_⟩
      · rw [lineDefect_defects, hu, State.modPort_lport]
      · rw [lineDefect_lport_ne _ _ _ _ _ hq, hu, State.modPort_lport_ne _ _ hq]
    · exact ⟨_, cycle.trans (by rw [if_neg (by omega), if_neg (by omega)]), huntAmbiguous_changes _ hu⟩
  case locked =>
    subst hu
    refine ⟨fun hs => ?_, fun hs hcause => ?_⟩
    · have locked := exec_portLanesLocked_of_waiting hl hf hc hr (hs.imp_right fun ⟨hd, hn⟩ => ⟨.inl hd, hn⟩)
      have waits : (s.lport port).st ≠ .downWait := by rcases hs with h | ⟨h, -⟩ <;> rw [h] <;> decide
      rw [if_neg waits] at locked
      exact ⟨locked, fun hn => locked.trans (congrArg _ (retrainDone_of_other hn))⟩
    · rw [exec_portLanesLocked_of_waiting hl hf hc hr (.inr ⟨.inr hs, hcause⟩), if_pos hs]

end Sys2Proof.Machine
end

section
/-! SUPPORT. The commands of family FRM (R133, R134, R136, R137, R139, R141, R148, R151, Table LN-11). -/

namespace Sys2Proof.Machine

theorem storing_result_of_no_trial {s t : State} (result : List Byte) (h : s.onTrial = false) :
    storing s (.ok t result) = .ok (saveSettings t) result := by
  simp [storing, Reply.ok, h]

theorem otnPort_of_otn {p : Nat} {s : State} (hlt : p < 128) (ho : s.isOtn p = true) : otnPort s p = none := by
  rw [otnPort, if_neg (by omega), if_pos ho]

/-! ### FRM.TRIB -/

section Trib
variable {vi p : Nat} {e : Entry} {s : State} (hp : p = e.p 24 1) (hlt : p < 128) (ho : s.isOtn p = true) (h80 : e.p 25 1 < 80)
  (ht : s.onTrial = false)
include hp hlt ho h80 ht

/-- R151: a tributary that nothing refers to is removed. -/
theorem bodyFrmTrib_of_removed (hop : e.p 26 1 = 2) (hm : mhas s.frm.cfg.tribs (p * 128 + e.p 25 1) = true)
    (hr : s.tribReferred p (e.p 25 1) = false) : bodyFrmTrib vi e s = .ok (saveSettings { s with
      frm := { s.frm with cfg := { s.frm.cfg with tribs := mdel s.frm.cfg.tribs (p * 128 + e.p 25 1) } } }) := by
  have port := otnPort_of_otn hlt ho
  subst hp
  unfold bodyFrmTrib
  simp only [port]
  rw [if_neg (by omega), if_pos hop, hm, Bool.not_true, if_neg Bool.false_ne_true, hr, if_neg Bool.false_ne_true, storing_of_no_trial ht]

/-- R133, R134: a tributary of a kind and rate of Table LN-11 whose slots are the port's, as many as it needs and no other tributary's, is set. -/
theorem bodyFrmTrib_of_set {k need : Nat} {tr : Trib} (hk : k = p * 128 + e.p 25 1) (hop : e.p 26 1 = 1) (hd : 40 ≤ e.dataLen)
    (htr : tr = { kind := e.p 27 1, rate := e.p 28 1, slip := e.p 29 1 == 1, slots := bitsSet (leVal (e.buf.take 40)) 320 })
    (hneed : need = (if tr.kind = 1 then Config.clientSlots tr.rate else tr.slots.length))
    (hkind : (tr.kind = 1 ∧ 1 ≤ tr.rate ∧ tr.rate ≤ 5 ∧ e.p 29 1 = 0) ∨ (tr.kind = 2 ∧ tr.rate = 0 ∧ e.p 29 1 ≤ 1))
    (hne : tr.slots ≠ []) (hin : ∀ x ∈ tr.slots, x < s.slots p) (hlen : tr.slots.length = need)
    (hfree : ∀ x ∈ s.frm.cfg.tribs, x.1 ≠ k → x.1 / 128 = p → (∀ y ∈ x.2.slots, y ∉ tr.slots) ∧ (tr.kind = 1 → x.2.kind ≠ 1))
    (hall : (s.frm.cfg.tribs.filter (fun x => decide (x.1 ≠ k))).length < 1024)
    (hmine : (s.frm.cfg.tribs.filter (fun x => decide (x.1 ≠ k) && x.1 / 128 == p)).length < 80)
    (hold : mget s.frm.cfg.tribs k = none ∨ mget s.frm.cfg.tribs k = some tr ∨ s.tribReferred p (e.p 25 1) = false) :
    bodyFrmTrib vi e s = .ok (saveSettings { s with
      frm := { s.frm with cfg := { s.frm.cfg with tribs := mset s.frm.cfg.tribs k tr } } }) (putLe 2 need) := by
  have port := otnPort_of_otn hlt ho
  have others : (s.frm.cfg.tribs.filter (fun x => decide (x.1 ≠ k))).filter (fun x => x.1 / 128 == p)
      = s.frm.cfg.tribs.filter (fun x => decide (x.1 ≠ k) && x.1 / 128 == p) := by
    rw [List.filter_filter]
    exact List.filter_congr (fun _ _ => Bool.and_comm ..)
  have other {x : Nat × Trib} (hx : x ∈ s.frm.cfg.tribs.filter (fun x => decide (x.1 ≠ k) && x.1 / 128 == p)) :
      (∀ y ∈ x.2.slots, y ∉ tr.slots) ∧ (tr.kind = 1 → x.2.kind ≠ 1) := by
    rw [List.mem_filter, Bool.and_eq_true, decide_eq_true_eq, beq_iff_eq] at hx
    obtain ⟨hx, hother, hport⟩ := hx
    exact hfree x hx hother hport
  have listed : ¬ ((tr.kind = 1 ∧ 5 < tr.rate) ∨ (tr.kind = 2 ∧ 1 < e.p 29 1)) := by omega
  have inside : tr.slots.any (fun x => decide (s.slots p ≤ x)) = false :=
    List.any_eq_false.mpr fun x hx => by simpa using hin x hx
  have sound : ¬ (tr.kind = 0 ∨ 2 < tr.kind ∨ (tr.kind = 1 ∧ (tr.rate = 0 ∨ e.p 29 1 ≠ 0)) ∨ (tr.kind = 2 ∧ tr.rate ≠ 0)
      ∨ tr.slots = [] ∨ tr.slots.any (fun x => decide (s.slots p ≤ x)) = true) := by
    simp only [hne, inside, Bool.false_eq_true, or_false]
    omega
  have apart : (s.frm.cfg.tribs.filter (fun x => decide (x.1 ≠ k) && x.1 / 128 == p)).any
      (fun x => x.2.slots.any (fun y => decide (y ∈ tr.slots))) = false :=
    List.any_eq_false.mpr fun x hx => by simpa using (other hx).1
  have alone : ¬ (tr.kind = 1 ∧ (s.frm.cfg.tribs.filter (fun x => decide (x.1 ≠ k) && x.1 / 128 == p)).any (fun x => x.2.kind == 1) = true) := by
    rintro ⟨hclient, hany⟩
    obtain ⟨x, hx, hkx⟩ := List.any_eq_true.mp hany
    exact (other hx).2 hclient (eq_of_beq hkx)
  have free : ¬ (mget s.frm.cfg.tribs k ≠ none ∧ mget s.frm.cfg.tribs k ≠ some tr ∧ s.tribReferred p (e.p 25 1) = true) := by
    rintro ⟨hn, hs, hr⟩
    rcases hold with h | h | h
    · exact hn h
    · exact hs h
    · rw [h] at hr; cases hr
  have room : ¬ (1024 ≤ (s.frm.cfg.tribs.filter (fun x => decide (x.1 ≠ k))).length
      ∨ 80 ≤ (s.frm.cfg.tribs.filter (fun x => decide (x.1 ≠ k) && x.1 / 128 == p)).length) := by omega
  subst hp hk hneed htr
  unfold bodyFrmTrib
  dsimp only at listed sound apart alone free hlen ⊢
  simp only [port, others]
  rw [if_neg (by omega), if_neg (by omega), if_neg (by omega), if_neg listed, if_neg sound, if_neg (not_not_intro hlen), apart,
    if_neg Bool.false_ne_true, if_neg alone, if_neg room, if_neg free, storing_result_of_no_trial _ ht]

end Trib

/-! ### The time-slot interchange -/

/-- R136, R137: a well-formed page is staged for its port. -/
theorem bodyFrmTsiStage_of_sound {vi p : Nat} {e : Entry} {s : State} {page : List Word} (hp : p = e.p 24 1) (hlt : p < 128)
    (ho : s.isOtn p = true) (hw : p ∉ s.frm.swapLeft) (hlen : e.dataLen = 4 * s.slots p)
    (hpage : page = (chunks 4 (s.slots p) e.buf).map (fun b => BitVec.ofNat 32 (leVal b)))
    (hres : page.any (fun w => decide (w &&& 0x3F00FE00 ≠ 0)) = false) (hkind : page.any (fun w => w.toNat / 2 ^ 30 == 3) = false)
    (hok : s.pageOk p page = true) (ht : s.onTrial = false) : bodyFrmTsiStage vi e s = .ok (saveSettings { s with
      frm := { s.frm with cfg := { s.frm.cfg with standby := mset s.frm.cfg.standby p page } } }) := by
  have port := otnPort_of_otn hlt ho
  subst hp
  unfold bodyFrmTsiStage
  simp only [port, ← hpage]
  rw [if_neg hw, if_neg (not_not_intro hlen), hres, if_neg Bool.false_ne_true, hkind, if_neg Bool.false_ne_true, hok, Bool.not_true,
    if_neg Bool.false_ne_true, storing_of_no_trial ht]

/-- R136: a swap waits for its common instant, 10 µs after the check. -/
theorem bodyFrmTsiSwap_of_idle {vi : Nat} {e : Entry} {s : State} (hne : bitsSet (e.p 24 16) 128 ≠ [])
    (ho : (bitsSet (e.p 24 16) 128).all s.isOtn = true) (hw : s.frm.swapLeft = []) (ht : s.onTrial = false) : bodyFrmTsiSwap vi e s = {
      st := { s with
        frm := { s.frm with swapLeft := bitsSet (e.p 24 16) 128, swapAll := bitsSet (e.p 24 16) 128, swapT := s.timeNs + 10000 } },
      result := putLe 8 (s.timeNs + 10000), wait := some (.tsiSwap, true) } := by
  unfold bodyFrmTsiSwap
  dsimp only
  rw [if_neg hne, ho, Bool.not_true, if_neg Bool.false_ne_true, if_neg (not_not_intro hw), ht, if_neg Bool.false_ne_true]

/-! ### FRM.PROT -/

section Prot
variable {vi n : Nat} {e : Entry} {c : ProtCfg} {s u : State} (hn : n = e.p 24 2) (hlt : n < 256)
include hn hlt

/-- R139: a group over two sources that match is created or changed. -/
theorem bodyFrmProt_of_set
    (hc : c = {
      level := e.p 27 1, wPort := e.p 28 1, wTrib := e.p 29 1, pPort := e.p 30 1, pTrib := e.p 31 1,
      revertive := bit (e.p 32 1) 0, sdTrigger := bit (e.p 32 1) 1, holdoff := e.p 33 1, wtr := e.p 34 1 })
    (hu : u = { s with frm := { s.frm with cfg := { s.frm.cfg with prots := mset s.frm.cfg.prots n c } } }) (hop : e.p 26 1 = 1)
    (hlevel : c.level = 1 ∨ c.level = 2) (hhold : c.holdoff ≤ 100) (hmin : 1 ≤ c.wtr) (hmax : c.wtr ≤ 12) (hw : s.isOtn c.wPort = true)
    (hp : s.isOtn c.pPort = true) (hpair : s.protPair c = true) (hne : c.wPort ≠ c.pPort ∨ c.wTrib ≠ c.pTrib) (ht : s.onTrial = false) :
    bodyFrmProt vi e s = .ok (saveSettings (protRefresh u n c u))
      (putLe 1 (b2n (mgetD (protRefresh u n c u).frm.prots n {}).selected)) := by
  have bounds : ¬ (c.level = 0 ∨ 2 < c.level ∨ 100 < c.holdoff ∨ c.wtr = 0 ∨ 12 < c.wtr) := by omega
  have apart : (c.wPort == c.pPort && c.wTrib == c.pTrib) = false := by
    rw [Bool.and_eq_false_iff, beq_eq_false_iff_ne, beq_eq_false_iff_ne]
    exact hne
  subst hn hu hc
  unfold bodyFrmProt
  dsimp only at bounds hw hp hpair apart ⊢
  rw [if_neg (by omega), if_pos hop, if_neg bounds, hw, hp, hpair, apart]
  exact storing_result_of_no_trial _ ht

/-- R140: an operator's command to a group. -/
theorem bodyFrmProt_of_command
    (hu : u = { s with frm := { s.frm with prots := mset s.frm.prots n { mgetD s.frm.prots n {} with opCmd := e.p 35 1 } } })
    (hop : e.p 26 1 = 3) (hc : mget s.frm.cfg.prots n = some c) (h4 : e.p 35 1 ≤ 4) : bodyFrmProt vi e s = .ok (protRefresh u n c u)
      (putLe 1 (b2n (mgetD (protRefresh u n c u).frm.prots n {}).selected)) := by
  subst hn
  unfold bodyFrmProt
  simp only [hc, ← hu]
  rw [if_neg (by omega), if_neg (by omega), if_neg (by omega), if_neg (by omega)]

theorem bodyFrmProt_of_removed (hop : e.p 26 1 = 2) (hm : mhas s.frm.cfg.prots n = true) (ht : s.onTrial = false) :
    bodyFrmProt vi e s = .ok (saveSettings { s with
      frm := { s.frm with cfg := { s.frm.cfg with prots := mdel s.frm.cfg.prots n }, prots := mdel s.frm.prots n } })
      (putLe 1 (b2n (mgetD s.frm.prots n {}).selected)) := by
  obtain ⟨c, hc⟩ := Option.isSome_iff_exists.mp hm
  subst hn
  unfold bodyFrmProt
  simp only [hc]
  rw [if_neg (by omega), if_neg (by omega), if_pos hop]
  exact storing_result_of_no_trial _ ht

end Prot

/-! ### FRM.OHS and FRM.STATUS -/

section Ohs
variable {vi n : Nat} {e : Entry} {s : State} (hn : n = e.p 24 1) (hlt : n < 8) (ht : s.onTrial = false)
include hn hlt ht

theorem bodyFrmOhs_of_removed (hop : e.p 25 1 = 2) : bodyFrmOhs vi e s = .ok (saveSettings { s with
    frm := { s.frm with cfg := { s.frm.cfg with ohs := mdel s.frm.cfg.ohs n } } }) := by
  subst hn
  unfold bodyFrmOhs
  dsimp only
  rw [if_neg (by omega), if_pos hop, storing_of_no_trial ht]

/-- R141: an overhead channel of an OTN port is tied to its serial port. -/
theorem bodyFrmOhs_of_set (hop : e.p 25 1 = 1) (hp : e.p 26 1 < 128) (ho : s.isOtn (e.p 26 1) = true) (hmin : 1 ≤ e.p 27 1)
    (hmax : e.p 27 1 ≤ 5) : bodyFrmOhs vi e s = .ok (saveSettings { s with
      frm := { s.frm with
        cfg := { s.frm.cfg with
          ohs := mset s.frm.cfg.ohs n
            { port := e.p 26 1, channel := e.p 27 1, drop := bit (e.p 28 1) 0, insert := bit (e.p 28 1) 1 } } } }) := by
  have port := otnPort_of_otn hp ho
  subst hn
  unfold bodyFrmOhs
  simp only [port]
  rw [if_neg (by omega), if_neg (by omega), if_neg (by omega), storing_of_no_trial ht]

end Ohs

theorem bodyFrmStatus_of_owner {vi p : Nat} {e : Entry} {s : State} (hp : p = e.p 24 1) (hlt : p < 128) (how : s.ownsPort vi p = true)
    (ho : s.isOtn p = true) : bodyFrmStatus vi e s = .read s (putLe 4 (s.lport p).defects.toNat ++ putLe 2 (s.lport p).tribAis.length
      ++ putLe 1 (b2n (decide (p ∈ s.frm.swapLeft)))) [] := by
  subst hp
  unfold bodyFrmStatus
  dsimp only
  rw [if_neg (by omega), how, Bool.not_true, if_neg Bool.false_ne_true, ho, Bool.not_true, if_neg Bool.false_ne_true]

/-- Settles O25: each command is completed with what its body gives under the clause's conditions. -/
theorem frmCommandsComplete : Obligations.FrmCommandsComplete := by
  intro vi io e s
  refine ⟨fun h hlt ho h80 hop hm hr ht => ?removed, fun p k tr need hp hk h hlt ho h80 hop hd htr hneed hkind hne hin hlen hfree hall hmine hold
      ht => ?set, fun page h hlt ho hw hlen hpage hres hkind hok ht => ?stage, fun h hne ho hw ht => ?swap,
    fun n c u hn hc hu h hlt hop hlevel hhold hmin hmax hw hp hpair hne ht => ?group, fun n c u hn hu h hlt hop hc h4 => ?command,
    fun h hlt hop hm ht => ?ungroup, fun h hlt hop ht => ?untie, fun h hlt hop hp ho hmin hmax ht => ?tie, fun h hlt how ho => ?status⟩
  case removed => exact next_runCommand_of_body h (bodyFrmTrib_of_removed rfl hlt ho h80 ht hop hm hr)
  case set =>
    exact next_runCommand_of_body h (bodyFrmTrib_of_set (s := taken vi s) hp hlt ho h80 ht hk hop hd htr hneed hkind hne hin hlen hfree hall
      hmine hold)
  case stage => exact next_runCommand_of_body h (bodyFrmTsiStage_of_sound rfl hlt ho hw hlen hpage hres hkind hok ht)
  case swap => exact next_runCommand_of_body h (bodyFrmTsiSwap_of_idle hne ho hw ht)
  case group => exact next_runCommand_of_body h (bodyFrmProt_of_set hn hlt hc hu hop hlevel hhold hmin hmax hw hp hpair hne ht)
  case command => exact next_runCommand_of_body h (bodyFrmProt_of_command hn hlt hu hop hc h4)
  case ungroup => exact next_runCommand_of_body h (bodyFrmProt_of_removed rfl hlt hop hm ht)
  case untie => exact next_runCommand_of_body h (bodyFrmOhs_of_removed rfl hlt ht hop)
  case tie => exact next_runCommand_of_body h (bodyFrmOhs_of_set rfl hlt ht hop hp ho hmin hmax)
  case status => exact next_runCommand_of_body h (bodyFrmStatus_of_owner rfl hlt how ho)

end Sys2Proof.Machine
end

section
/-! SUPPORT. Protection groups, the interchange and the overhead channels as time and the line move them (R135, R136, R140, R141). -/

namespace Sys2Proof.Machine

/-- A counter that wraps tells it: what is put out stays put out. -/
theorem count_out (ev idx n : Nat) (s : State) : s.out <+: (count ev idx n s).out := ite_out (notify_out _ _ _ (bump ev idx n s)) List.prefix_rfl

/-! ### Protection groups -/

/-- A protection group's own state is set. -/
def State.setProt (s : State) (n : Nat) (x : Prot) : State := { s with frm := { s.frm with prots := mset s.frm.prots n x } }

theorem State.setProt_prot (s : State) (n : Nat) (x : Prot) : mgetD (s.setProt n x).frm.prots n {} = x := mgetD_mset_self ..
theorem State.setProt_prot_ne (s : State) {n m : Nat} (x : Prot) (h : m ≠ n) :
    mgetD (s.setProt n x).frm.prots m {} = mgetD s.frm.prots m {} := mgetD_mset_ne _ _ _ h
theorem State.setProt_changes (s : State) (n : Nat) (x : Prot) : Changes [.frm] s (s.setProt n x) := Changes.rfl.set_frm (by decide)

/-- R140: the selector takes the selection that its requests ask for, and only reports beside it. -/
theorem protSwitch_of_group {n : Nat} {c : ProtCfg} {g : Prot} {s : State} (hc : mget s.frm.cfg.prots n = some c)
    (hg : mgetD s.frm.prots n {} = g) : Changes [.rings, .cnt, .out]
      (s.setProt n { g with selected := (s.protWants c g).1, holdoffAt := none }) (protSwitch n s) := by
  subst hg
  unfold protSwitch
  simp only [hc]
  have carried := (tsiChanged_changes s (s.setProt n { mgetD s.frm.prots n {} with
    selected := (s.protWants c (mgetD s.frm.prots n {})).1, holdoffAt := none })).weaken (ps := [.rings, .cnt, .out]) (by decide)
  exact .ite carried ((carried.trans (notify_changes ..)).trans (count_changes ..))

theorem protSwitch_of_none {n : Nat} {s : State} (hc : mget s.frm.cfg.prots n = none) : protSwitch n s = s := by
  simp only [protSwitch, hc]

section Expiry
variable {g at_ : Nat} {s : State} (hd : at_ ≤ s.mono)
include hd

theorem exec_protHoldoffExpiry_of_due (ht : (mgetD s.frm.prots g {}).holdoffAt = some at_) :
    exec (.protHoldoffExpiry g) s = .next (protSwitch g s) := by
  show execProtHoldoffExpiry g s = _
  simp only [execProtHoldoffExpiry, ht, State.due, hd, decide_true, Option.map_some, Option.getD_some, when_true]

theorem exec_waitToRestoreExpiry_of_due (ht : (mgetD s.frm.prots g {}).wtrAt = some at_) : exec (.waitToRestoreExpiry g) s =
    .next (protSwitch g (s.setProt g { mgetD s.frm.prots g {} with wtrAt := none })) := by
  show execWaitToRestoreExpiry g s = _
  simp only [execWaitToRestoreExpiry, ht, State.due, hd, decide_true, Option.map_some, Option.getD_some, when_true]
  rfl

end Expiry

/-! ### The interchange -/

/-- R136: a port's standby page is its active one from its first frame boundary at the instant on. -/
def tsiSwapped (port : Nat) (s : State) : State := tsiChanged s { s with
  frm := { s.frm with
    cfg := { s.frm.cfg with
      pages := mset s.frm.cfg.pages port (mgetD s.frm.cfg.standby port (List.replicate (s.slots port) 0)),
      standby := mset s.frm.cfg.standby port (mgetD s.frm.cfg.standby port (List.replicate (s.slots port) 0)) },
    swapLeft := without s.frm.swapLeft port } }

/-- R136: the last port's swap is stored and reported. -/
def tsiSwapTold (s : State) : State :=
  notifyAt s.frm.swapT Ev.frmTsiSwapped (putLe 16 (maskOf s.frm.swapAll)) (s.frm.swapAll.flatMap s.ownersOf) (saveSettings s)

/-- R136: the command completes with the instant. -/
def tsiSwapDone (s : State) : State :=
  completeWaiting (fun x => x.wait == .tsiSwap) (putLe 8 s.frm.swapT) { s with frm := { s.frm with swapAll := [] } }

theorem tsiSwapTold_changes (s : State) : Changes [.rings, .sec, .cnt, .out] s (tsiSwapTold s) :=
  Changes.via ((saveSettings_changes s).weaken (by decide)) (notifyAt_changes ..) (by decide)

theorem tsiSwapDone_changes (s : State) : Changes [.rings, .queue, .frm, .cnt, .out] s (tsiSwapDone s) :=
  Changes.via (Changes.rfl.set_frm (by decide)) (completeWaiting_changes ..) (by decide)

theorem tsiSwapDone_frm (s : State) : (tsiSwapDone s).frm = { s.frm with swapAll := [] } := (completeWaiting_changes ..).same .frm (by decide)

theorem tsiSwapped_changes (port : Nat) (s : State) : Changes [.frm, .out] s (tsiSwapped port s) :=
  Changes.via (Changes.rfl.set_frm (by decide)) (tsiChanged_changes ..) (by decide)

theorem tsiSwapped_frm (port : Nat) (s : State) : (tsiSwapped port s).frm = { s.frm with
    cfg := { s.frm.cfg with
      pages := mset s.frm.cfg.pages port (mgetD s.frm.cfg.standby port (List.replicate (s.slots port) 0)),
      standby := mset s.frm.cfg.standby port (mgetD s.frm.cfg.standby port (List.replicate (s.slots port) 0)) },
    swapLeft := without s.frm.swapLeft port } := (tsiChanged_changes ..).same .frm (by decide)

theorem exec_tsiSwapInstant_of_due {port : Nat} {s : State} (hp : port ∈ s.frm.swapLeft) (ht : s.frm.swapT ≤ s.timeNs) :
    exec (.tsiSwapInstant port) s =
      .next (if without s.frm.swapLeft port ≠ [] then tsiSwapped port s else tsiSwapDone (tsiSwapTold (tsiSwapped port s))) := by
  show execTsiSwapInstant port s = _
  rw [execTsiSwapInstant, decide_eq_true hp, decide_eq_true ht]
  rfl

/-! ### Slips -/

/-- What leaves the framer as it is does the same beside a change of it. -/
theorem Changes.beside_frm {ps : List Part} {s t : State} (h : Changes ps s t) (x : Frm) :
    Changes ps { s with frm := x } { t with frm := x } := by
  refine ⟨fun p hp => ?_⟩
  cases p
  case frm => rfl
  all_goals exact h.same _ hp

/-- R135: a slip is put out and counted. -/
def slipped (port trib : Nat) (deleted : Bool) (s : State) : State := count Cn.frmSlip port 1 (s.emit (.odukSlip port trib deleted))

/-- R135: the slips of the last second are reported, at most once a second. -/
def slipTold (port trib : Nat) (s : State) : State :=
  let r := rated s.frm.slips (port * 128 + trib) s.mono
  let s := { s with frm := { s.frm with slips := r.2.2 } }
  if r.1 then notify Ev.frmSlip (putLe 1 port ++ putLe 1 trib ++ zeros 2 ++ putLe 4 r.2.1) (s.ownersOf port) s else s

theorem exec_tsiSlip_of_slip_mode {port trib : Nat} {tr : Trib} (deleted : Bool) {s : State} (hl : s.portLive port = true)
    (ht : mget s.frm.cfg.tribs (port * 128 + trib) = some tr) (hk : tr.kind = 2) (hs : tr.slip = true) :
    exec (.tsiSlip port trib deleted) s = .next (slipTold port trib (slipped port trib deleted s)) := by
  show execTsiSlip port trib deleted s = _
  simp only [execTsiSlip, hl, ht, hk, hs, Option.map_some, Option.getD_some, BEq.rfl, Bool.and_self, when_true]
  rfl

theorem slipTold_changes {port trib : Nat} {r : Bool × Nat × AMap Rate} {s : State} (hr : rated s.frm.slips (port * 128 + trib) s.mono = r) :
    Changes [.rings, .cnt, .out] { s with frm := { s.frm with slips := r.2.2 } } (slipTold port trib s) := by
  subst hr
  exact .ite (notify_changes ..) .rfl

theorem slipTold_out (port trib : Nat) (s : State) : s.out <+: (slipTold port trib s).out := by
  unfold slipTold
  extract_lets r frm t
  exact ite_out (notify_out _ _ _ t) List.prefix_rfl

theorem slip_changes (port trib : Nat) (deleted : Bool) (s : State) : Changes [.rings, .cnt, .out]
    { s with frm := { s.frm with slips := (rated s.frm.slips (port * 128 + trib) s.mono).2.2 } }
    (slipTold port trib (slipped port trib deleted s)) := by
  have counted : Changes [.rings, .cnt, .out] s (slipped port trib deleted s) :=
    ((State.emit_changes ..).weaken (by decide)).trans (count_changes ..)
  have frm : (slipped port trib deleted s).frm = s.frm := counted.same .frm (by decide)
  have mono : (slipped port trib deleted s).mono = s.mono := counted.same .mono (by decide)
  have told := slipTold_changes (port := port) (trib := trib) (s := slipped port trib deleted s) (by rw [frm, mono])
  rw [frm] at told
  exact (counted.beside_frm _).trans told

theorem odukSlip_mem_out (port trib : Nat) (deleted : Bool) (s : State) :
    .odukSlip port trib deleted ∈ (slipTold port trib (slipped port trib deleted s)).out := by
  have put : .odukSlip port trib deleted ∈ (s.emit (.odukSlip port trib deleted)).out :=
    List.mem_append_right _ (List.mem_singleton_self _)
  exact (slipTold_out ..).subset ((count_out ..).subset put)

/-! ### Overhead channels -/

section Overhead
variable {n need mfas : Nat} {c : OhsCfg} {line inserted body : List Byte} {s u v : State} (hc : mget s.frm.cfg.ohs n = some c)
  (hl : s.portLive c.port = true) (ho : s.isOtn c.port = true)
  (hu : u = { s with frm := { s.frm with ohsSeq := mset s.frm.ohsSeq n ((mgetD s.frm.ohsSeq n 0 + 1) % 256) } })
  (hv : v = (if c.drop then u.emit (.ohs n ([BitVec.ofNat 8 c.port, BitVec.ofNat 8 c.channel, BitVec.ofNat 8 mfas,
    BitVec.ofNat 8 (mgetD s.frm.ohsSeq n 0)] ++ line)) else u))
  (hb : body = (inserted.drop 4).take need)
include hc hl ho hu hv hb

/-- R141: a frame's overhead is put out where the channel drops, and taken from the pin, the missing bytes counted, where it inserts. -/
theorem exec_ohsFrame_of_live : exec (.ohsFrame n mfas line inserted need) s = .next (if c.insert then
    if body.length < need then count Cn.frmOhsUnderrun c.port (need - body.length) (v.emit (.ohsInsert c.port (fit need body)))
    else v.emit (.ohsInsert c.port (fit need body)) else v) := by
  subst hb hv hu
  show execOhsFrame n mfas line inserted need s = _
  simp only [execOhsFrame, hc, hl, ho, Bool.and_self, when_true]

end Overhead

/-- Settles O26: each event is done under its guards, and what it changes beside its reports is read off. -/
theorem frmEventsComplete : Obligations.FrmEventsComplete := by
  intro s
  refine ⟨fun g c at_ hc ht hd => ⟨_, exec_protHoldoffExpiry_of_due hd ht, protSwitch_of_group hc rfl⟩, fun g at_ hc ht hd => ?restored,
    fun g c at_ hc ht hd => ?restore, fun port hp hne ht => ?swap, fun port hp ht => ?last, fun port trib tr del hl ht hk hs => ?slip,
    fun n c mfas line inserted need body u v hc hl ho hu hv hb => ?overhead⟩
  case restored => exact (exec_waitToRestoreExpiry_of_due hd ht).trans (congrArg _ (protSwitch_of_none hc))
  case restore =>
    have switched := protSwitch_of_group (s := s.setProt g { mgetD s.frm.prots g {} with wtrAt := none }) hc (State.setProt_prot ..)
    have frm : (protSwitch g (s.setProt g { mgetD s.frm.prots g {} with wtrAt := none })).frm = _ := switched.same .frm (by decide)
    refine ⟨_, exec_waitToRestoreExpiry_of_due hd ht, ?_, ?_, fun h hh => ?_, ?_⟩
    · rw [frm, State.setProt_prot]
    · rw [frm, State.setProt_prot]
      rfl
    · rw [frm, State.setProt_prot_ne _ _ hh, State.setProt_prot_ne _ _ hh]
    · exact Changes.via (((State.setProt_changes ..).trans (State.setProt_changes ..)).weaken (by decide)) switched (by decide)
  case swap =>
    rw [exec_tsiSwapInstant_of_due hp ht, if_pos hne]
    rfl
  case last =>
    have left : without s.frm.swapLeft port = [] := by rw [hp]; simp [without]
    have mem : port ∈ s.frm.swapLeft := by rw [hp]; exact List.mem_singleton_self _
    have told : (tsiSwapTold (tsiSwapped port s)).frm = (tsiSwapped port s).frm := (tsiSwapTold_changes _).same .frm (by decide)
    refine ⟨_, (exec_tsiSwapInstant_of_due mem ht).trans (by rw [if_neg (not_not_intro left)]), ?_, ?_, ?_⟩
    · rw [tsiSwapDone_frm, told, tsiSwapped_frm]
      exact left
    · rw [tsiSwapDone_frm, told, tsiSwapped_frm]
    · exact Changes.via (Changes.via ((tsiSwapped_changes ..).weaken (by decide)) (tsiSwapTold_changes _) (by decide))
        (tsiSwapDone_changes _) (by decide)
  case slip => exact ⟨_, exec_tsiSlip_of_slip_mode del hl ht hk hs, odukSlip_mem_out .., slip_changes ..⟩
  case overhead =>
    have frame := exec_ohsFrame_of_live hc hl ho hu hv hb
    refine ⟨fun hi => ?_, fun hi hle => ?_, fun hi hlt => ?_⟩
    · rw [frame, hi, if_neg Bool.false_ne_true]
    · rw [frame, if_pos hi, if_neg (Nat.not_lt.mpr hle)]
    · rw [frame, if_pos hi, if_pos hlt]

end Sys2Proof.Machine
end

section
/-! SUPPORT. The receive MAC of a line port (R123) and PFC pauses (R293, R296). -/

namespace Sys2Proof.Machine

/-! ### PFC -/

/-- R296: a frame that names the first class alone pauses that class. -/
theorem pfcReceive_of_first {p q : Nat} {s : State} (hq : 0 < q) : pfcReceive p [some q] s =
    count Cn.admPfcXoffRx (p * 8) 1 (s.modPort p (fun x => { x with paused := mset x.paused 0 (s.mono + s.pauseTime p q) })) := by
  obtain ⟨n, rfl⟩ := Nat.exists_eq_succ_of_ne_zero (Nat.ne_of_gt hq)
  rfl

theorem exec_pfcFrameReceive_of_up {port : Nat} (quanta : List (Option Nat)) {s : State} (hu : s.portUp port = true)
    (ho : s.isOtn port = false) : exec (.pfcFrameReceive port quanta) s = .next (pfcReceive port quanta s) := by
  show execPfcFrameReceive port quanta s = _
  rw [execPfcFrameReceive, hu, ho]
  rfl

theorem exec_pfcPauseExpiry_of_due {port tc at_ : Nat} {s : State} (hp : mget (s.lport port).paused tc = some at_) (hd : at_ ≤ s.mono) :
    exec (.pfcPauseExpiry port tc) s = .next (s.modPort port (fun x => { x with paused := mdel x.paused tc })) := by
  show execPfcPauseExpiry port tc s = _
  simp only [execPfcPauseExpiry, hp, State.due, hd, decide_true, when_true]

/-- R293: XOFF is repeated every half of its pause time. -/
theorem exec_pfcXoffRepeat_of_due {port tc at_ : Nat} {s : State} (hx : mget (s.lport port).xoff tc = some at_)
    (hd : s.due (at_ + s.pauseTime port (s.pfcOf port).quanta / 2) = true) : exec (.pfcXoffRepeat port tc) s =
      .next (pfcFrame port tc (s.pfcOf port).quanta (s.modPort port (fun x => { x with xoff := mset x.xoff tc s.mono }))) := by
  show execPfcXoffRepeat port tc s = _
  simp only [execPfcXoffRepeat, hx, hd, when_true]

/-! ### A frame at the MAC -/

/-- R123: a frame is counted as it arrives. -/
def frameCounted (p len : Nat) (s : State) : State := meterRx p len (count Cn.portRxBytes p len (count Cn.portRxFrames p 1 s))

theorem frameCounted_changes (p len : Nat) (s : State) : Changes [.rings, .cnt, .out] s (frameCounted p len s) :=
  ((count_changes ..).trans (count_changes ..)).trans ((meterRx_changes ..).weaken (by decide))

/-- R123: the checks by which the MAC keeps a frame to itself. -/
def macChecked (bytes : List Byte) (hit : Bool) (k : Pkt) (s : State) : State :=
  let p := k.inPort
  if ((s.pcfg p).map PortCfg.maxFrame).getD 9216 < bytes.length then macNone k (count Cn.portRxOversize p 1 s)
  else if bytes.length < 64 then macNone k (count Cn.portRxRunt p 1 s)
  else if k.fcsOk && be bytes 12 2 == 0x8808 && be bytes 14 2 == 1 then macNone k (count Cn.portRxPause p 1 s)
  else if k.fcsOk && be bytes 12 2 == 0x8808 && be bytes 14 2 == 0x0101 then
    macNone k (if s.isOtn p then s else pfcReceive p (pfcQuanta bytes) s)
  else if k.fcsOk && mhas s.sec.mka p && be bytes 12 2 == 0x888E then s
  else if k.fcsOk && s.isProbe p bytes then macNone k s
  else frameOn k hit s

/-- The frame that the MAC of an unpaired port hands on, one bit of it flipped where a fault was injected. -/
def macPkt (p : Nat) (bytes : List Byte) (fcsOk hit : Bool) (ts pick : Nat) (s : State) : Pkt :=
  { id := s.mash.nextId, inPort := p, bytes := if hit then flipBit bytes (pick % (8 * max 1 bytes.length)) else bytes, fcsOk := fcsOk,
    jcrc := Config.jcrc bytes, rxTs := if (s.tport p).tsEnable then some (ts / 2 ^ 16, ts % 2 ^ 16, s.tim.epoch) else none, rxAt := s.mono }

/-- What an unpaired port's frame is when it meets the checks: it has no arrival number, and without a fault injected it is as it came. -/
structure AtMac (p : Nat) (bytes : List Byte) (fcsOk : Bool) (s : State) (hit : Bool) (k : Pkt) (t : State) : Prop where
  inPort : k.inPort = p
  arrival : k.arrival = none
  fcs : k.fcsOk = fcsOk
  name : k.id = s.mash.nextId
  changes : Changes [.draws, .rings, .flt, .cnt, .out] s t
  uninjected : s.flt.armed = [] → hit = false ∧ k.bytes = bytes ∧ Changes [.draws, .rings, .cnt, .out] s t

theorem State.isPaired_of_pair {s t : State} (h : t.pair = s.pair) (p : Nat) : t.isPaired p = s.isPaired p :=
  congrArg (fun x => ({ s with pair := x } : State).isPaired p) h

theorem takeArrival_of_unpaired {p : Nat} {s : State} (h : s.isPaired p = false) : takeArrival p s = (none, s) := by
  rw [takeArrival, h, if_neg Bool.false_ne_true]

theorem takeArmed_of_unarmed (target unit : Nat) {s : State} (h : s.flt.armed = []) : takeArmed target unit s = (false, s) := by
  simp only [takeArmed, h, List.find?_nil]

theorem frameIn_of_unpaired {p : Nat} (bytes : List Byte) (fcsOk : Bool) {s : State} (h : s.isPaired p = false) :
    ∃ hit k t, frameIn p bytes fcsOk s = macChecked bytes hit k t ∧ AtMac p bytes fcsOk s hit k t := by
  have counted := frameCounted_changes p bytes.length s
  have unpaired : (frameCounted p bytes.length s).isPaired p = false := (State.isPaired_of_pair (counted.same .pair (by decide)) p).trans h
  have fresh : takeArrival p (frameCounted p bytes.length s) = (none, frameCounted p bytes.length s) := takeArrival_of_unpaired unpaired
  generalize harmed : takeArmed 1 p (frameCounted p bytes.length s).drawn = armed
  obtain ⟨hit, v⟩ := armed
  have drawn : Changes [.draws, .rings, .cnt, .out] s (frameCounted p bytes.length s).drawn :=
    Changes.via (counted.weaken (by decide)) (State.drawn_changes _) (by decide)
  have armed : Changes [.draws, .rings, .flt, .cnt, .out] s v :=
    Changes.via (drawn.weaken (by decide)) (Changes.of_pair harmed (takeArmed_changes ..)) (by decide)
  have taken : Changes [.draws, .rings, .flt, .cnt, .out] s (if hit then v.drawn else v) :=
    .ite (Changes.via armed (State.drawn_changes v) (by decide)) armed
  refine ⟨hit, macPkt p bytes fcsOk hit ((frameCounted p bytes.length s).rxStamp p) (Config.freeNat v.draw) (if hit then v.drawn else v),
    if hit then v.drawn else v, ?_, rfl, rfl, rfl, congrArg Mash.nextId (taken.same .mash (by decide)), taken, fun hn => ?_⟩
  · unfold frameCounted at harmed fresh
    unfold frameIn
    simp only [fresh, harmed, Option.isSome_none, Bool.false_and, Bool.false_eq_true, if_false]
    rfl
  have unarmed : (frameCounted p bytes.length s).drawn.flt.armed = [] := (congrArg Flt.armed (drawn.same .flt (by decide))).trans hn
  obtain ⟨rfl, rfl⟩ := Prod.mk.inj ((takeArmed_of_unarmed 1 p unarmed).symm.trans harmed)
  exact ⟨rfl, rfl, drawn⟩

/-! ### What the checks leave -/

/-- R385: a frame without an arrival number leaves no NONE token. -/
theorem macNone_of_unnumbered {k : Pkt} (s : State) (h : k.arrival = none) : macNone k s = s := by
  simp only [macNone, h]

section Checked
variable {bytes : List Byte} {k : Pkt} {c : PortCfg} {s : State} (hit : Bool) (hc : s.pcfg k.inPort = some c)
include hc

/-- R123: a frame too long or too short goes no further. -/
theorem macChecked_of_bad_length (ha : k.arrival = none) (hlen : bytes.length < 64 ∨ c.maxFrame < bytes.length) :
    Changes [.rings, .cnt, .out] s (macChecked bytes hit k s) := by
  unfold macChecked
  simp only [hc, Option.map_some, Option.getD_some, macNone_of_unnumbered _ ha]
  by_cases hmax : c.maxFrame < bytes.length
  · rw [if_pos hmax]
    exact count_changes ..
  · rw [if_neg hmax, if_pos (hlen.resolve_right hmax)]
    exact count_changes ..

/-- R123: a frame that no check keeps back goes on. -/
theorem macChecked_of_sound (hmin : 64 ≤ bytes.length) (hmax : bytes.length ≤ c.maxFrame) (hctl : be bytes 12 2 ≠ 0x8808)
    (hmka : mhas s.sec.mka k.inPort = true → be bytes 12 2 ≠ 0x888E) (hprobe : s.isProbe k.inPort bytes = false) :
    macChecked bytes hit k s = frameOn k hit s := by
  have control : (be bytes 12 2 == 0x8808) = false := beq_eq_false_iff_ne.mpr hctl
  have agreement : (mhas s.sec.mka k.inPort && be bytes 12 2 == 0x888E) = false := by
    rw [Bool.and_eq_false_imp]
    exact fun h => beq_eq_false_iff_ne.mpr (hmka h)
  unfold macChecked
  simp only [hc, Option.map_some, Option.getD_some, Nat.not_lt.mpr hmin, Nat.not_lt.mpr hmax, control, Bool.and_false, Bool.false_and,
    Bool.and_assoc, agreement, hprobe, Bool.false_eq_true, if_false]

end Checked

/-- R123, R145: without a SecY a sound frame reaches Mill as it is. -/
theorem frameOn_of_plain {k : Pkt} {s : State} (hf : k.fcsOk = true) (hy : (s.secy k.inPort).enable = false) :
    frameOn k false s = toMill k s := by
  have good : (!k.fcsOk) = false := by rw [hf]; rfl
  have plain : macsecRx k.inPort k.bytes s = (some k.bytes, s) := by simp [macsecRx, hy]
  unfold frameOn
  simp only [good, plain, hy, Bool.false_and, Bool.false_eq_true, if_false]

theorem toMill_pkts (k : Pkt) (s : State) : (toMill k s).mash.pkts = s.mash.pkts ++ [{ pkt := k }] := rfl
theorem toMill_nextId (k : Pkt) (s : State) : (toMill k s).mash.nextId = s.mash.nextId + 1 := rfl

theorem Changes.tim_cfg {ps : List Part} {s t : State} (h : Changes ps s t) (m : Part.tim ∉ ps) : t.tim.cfg = s.tim.cfg := by
  have cfg := congrArg Tim.cfg (h.same .tim m)
  exact cfg

/-- What a change leaves of the timing settings it leaves of a port's probe domain. -/
theorem State.isProbe_of_cfg {s t : State} (h : t.tim.cfg = s.tim.cfg) (p : Nat) (b : List Byte) : t.isProbe p b = s.isProbe p b := by
  simp only [State.isProbe, State.tport, h]

theorem State.secy_of_port {s t : State} (h : t.port = s.port) (p : Nat) : t.secy p = s.secy p := by
  rw [State.secy, State.pcfg_of_port h, State.secy]

/-- R123, R134: a frame is received while the port is UP with a packet client and forwarding has begun. -/
theorem exec_lineFrameReceive_of_client {port : Nat} (bytes : List Byte) (fcs : Bool) {s : State} (hu : s.portUp port = true)
    (hc : s.hasClient port = true) (hp : s.dev.phase = .cellar ∨ s.dev.phase = .full) :
    exec (.lineFrameReceive port bytes fcs) s = .next (frameIn port bytes fcs s) := by
  show execLineFrameReceive port bytes fcs s = _
  rw [execLineFrameReceive, hu, hc, decide_eq_true hp]
  rfl

/-- Settles O27: a frame meets the MAC's checks in order, and the pauses are their definitions under their guards. -/
theorem receiveMacEventsComplete : Obligations.ReceiveMacEventsComplete := by
  intro port s
  refine ⟨fun bytes fcs hu hc hp => ⟨exec_lineFrameReceive_of_client bytes fcs hu hc hp, frameIn_changes ..⟩,
    fun c bytes fcs hu hcl hp hc hpair hlen => ?length,
    fun c bytes hu hc hcl hp hpair harm hsec hprobe hmka hmin hmax hctl => ?sound,
    fun quanta hu ho => ⟨exec_pfcFrameReceive_of_up quanta hu ho, pfcReceive_changes ..⟩, fun q hu ho hq => ?first,
    fun tc at_ hp hd => exec_pfcPauseExpiry_of_due hp hd, fun tc at_ hx hd => exec_pfcXoffRepeat_of_due hx hd⟩
  case length =>
    obtain ⟨hit, k, t, hin, mac⟩ := frameIn_of_unpaired bytes fcs hpair
    have here : t.pcfg k.inPort = some c := by rw [mac.inPort, State.pcfg_of_port (mac.changes.same .port (by decide)), hc]
    have kept : (macChecked bytes hit k t).mash = t.mash := (macChecked_of_bad_length hit here mac.arrival hlen).same .mash (by decide)
    refine ⟨_, exec_lineFrameReceive_of_client bytes fcs hu hcl hp, ?_⟩
    rw [hin, kept]
    exact mac.changes.same .mash (by decide)
  case sound =>
    obtain ⟨hit, k, t, hin, mac⟩ := frameIn_of_unpaired bytes true hpair
    obtain ⟨rfl, hbytes, changes⟩ := mac.uninjected harm
    have ports : t.port = s.port := changes.same .port (by decide)
    have mash : t.mash = s.mash := changes.same .mash (by decide)
    have sec : t.sec = s.sec := changes.same .sec (by decide)
    have timing : t.tim.cfg = s.tim.cfg := changes.tim_cfg (by decide)
    have here : t.pcfg k.inPort = some c := by rw [mac.inPort, State.pcfg_of_port ports, hc]
    have passed : frameIn port bytes true s = toMill k t := by
      rw [hin, macChecked_of_sound false here hmin hmax hctl, frameOn_of_plain mac.fcs]
      · rw [mac.inPort, State.secy_of_port ports, hsec]
      · rw [mac.inPort, sec]
        exact hmka
      · rw [mac.inPort, State.isProbe_of_cfg timing, hprobe]
    refine ⟨_, k, exec_lineFrameReceive_of_client bytes true hu hcl hp, ?_, mac.inPort, hbytes, mac.name, mac.fcs, ?_, ?_⟩
    · rw [passed, toMill_pkts, mash]
    · rw [passed, toMill_nextId, mash]
    · rw [passed]
      exact Changes.via (changes.weaken (by decide)) (toMill_changes k t) (by decide)
  case first =>
    refine ⟨_, exec_pfcFrameReceive_of_up [some q] hu ho, ?_⟩
    rw [pfcReceive_of_first hq]
    exact count_changes ..

end Sys2Proof.Machine
end

section
/-! SUPPORT. Every command goes on, and within its footprint: the laws of the families put together. -/

namespace Sys2Proof.Machine

/-- Every command answers a next state, which differs from the old one within the command's footprint only. -/
theorem exec_changes : (c : Instr) → (s : State) → ∃ t, exec c s = .next t ∧ Changes (footprint c) s t
  | .hifNop vi io, s => execHifNop_changes vi io s
  | .hifIdentify vi io, s => execHifIdentify_changes vi io s
  | .hifJournalInfo vi io, s => execHifJournalInfo_changes vi io s
  | .hifNotifyMask vi io, s => execHifNotifyMask_changes vi io s
  | .hifSetCoalesce vi io, s => execHifSetCoalesce_changes vi io s
  | .commandResume vi, s => execCommandResume_changes vi s
  | .ringCommit vi, s => execRingCommit_changes vi s
  | .ringDisable vi, s => execRingDisable_changes vi s
  | .hifSqTailDb vi index slots, s => execHifSqTailDb_changes vi index slots s
  | .hifCqHeadDb vi index, s => execHifCqHeadDb_changes vi index s
  | .hifNqHeadDb vi index, s => execHifNqHeadDb_changes vi index s
  | .hifFaultClear vi value, s => execHifFaultClear_changes vi value s
  | .hifWinSel vi value, s => execHifWinSel_changes vi value s
  | .winDataLowRead vi v, s => execWinDataLowRead_changes vi v s
  | .winOvf vi value, s => execWinOvf_changes vi value s
  | .viPuntDb vi q index slots, s => execViPuntDb_changes vi q index slots s
  | .viInjDb vi q index slots, s => execViInjDb_changes vi q index slots s
  | .registerWrite vi offset value allBytes, s => execRegisterWrite_changes vi offset value allBytes s
  | .coalesceDelayExpiry vi vec, s => execCoalesceDelayExpiry_changes vi vec s
  | .pcieLinkDown, s => execPcieLinkDown_changes s
  | .pcieLinkUp dataOk, s => execPcieLinkUp_changes dataOk s
  | .ringAccessFailure vi ring, s => execRingAccessFailure_changes vi ring s
  | .functionLevelReset vi, s => execFunctionLevelReset_changes vi s
  | .maltsterWatchdog, s => execMaltsterWatchdog_changes s
  | .fwReady retainedOk settingsOk, s => execFwReady_changes retainedOk settingsOk s
  | .coldResetAssert, s => execColdResetAssert_changes s
  | .bcColdReset, s => execBcColdReset_changes s
  | .powerOnResetRelease, s => execPowerOnResetRelease_changes s
  | .poresetAssert, s => execPoresetAssert_changes s
  | .kilnVerify slot passed, s => execKilnVerify_changes slot passed s
  | .wortBridgeTrainEnd passed, s => execWortBridgeTrainEnd_changes passed s
  | .hbmTrainingDone stack passed, s => execHbmTrainingDone_changes stack passed s
  | .blockResetDone kind index, s => execBlockResetDone_changes kind index s
  | .fullServiceBank0Clear, s => execFullServiceBank0Clear_changes s
  | .devStatus vi io, s => execDevStatus_changes vi io s
  | .devService vi io, s => execDevService_changes vi io s
  | .devReset vi io, s => execDevReset_changes vi io s
  | .devSetCellarSet vi io, s => execDevSetCellarSet_changes vi io s
  | .devSetBoard vi io, s => execDevSetBoard_changes vi io s
  | .moduleInsert cage apps, s => execModuleInsert_changes cage apps s
  | .moduleReady cage, s => execModuleReady_changes cage s
  | .moduleFault cage code, s => execModuleFault_changes cage code s
  | .moduleRemove cage, s => execModuleRemove_changes cage s
  | .moduleFlag cage flags, s => execModuleFlag_changes cage flags s
  | .moduleReadyTimeout cage, s => execModuleReadyTimeout_changes cage s
  | .bcHeartbeat, s => execBcHeartbeat_changes s
  | .bcHeartbeatLoss, s => execBcHeartbeatLoss_changes s
  | .helloSend, s => execHelloSend_changes s
  | .helloReceive h, s => execHelloReceive_changes h s
  | .helloLoss, s => execHelloLoss_changes s
  | .portConfig vi io, s => execPortConfig_changes vi io s
  | .portAdmin vi io, s => execPortAdmin_changes vi io s
  | .portStatus vi io, s => execPortStatus_changes vi io s
  | .portMacsecSecy vi io, s => execPortMacsecSecy_changes vi io s
  | .portMacsecRxsc vi io, s => execPortMacsecRxsc_changes vi io s
  | .portMacsecSa vi io, s => execPortMacsecSa_changes vi io s
  | .frmTrib vi io, s => execFrmTrib_changes vi io s
  | .frmTsiStage vi io, s => execFrmTsiStage_changes vi io s
  | .frmTsiSwap vi io, s => execFrmTsiSwap_changes vi io s
  | .frmProt vi io, s => execFrmProt_changes vi io s
  | .frmOhs vi io, s => execFrmOhs_changes vi io s
  | .frmStatus vi io, s => execFrmStatus_changes vi io s
  | .lineDefectDetect port bit trib, s => execLineDefectDetect_changes port bit trib s
  | .lineDefectClear port bit trib, s => execLineDefectClear_changes port bit trib s
  | .fecDegradeWindow port errors symbols, s => execFecDegradeWindow_changes port errors symbols s
  | .alignmentHuntCycle port view, s => execAlignmentHuntCycle_changes port view s
  | .portLanesLocked port, s => execPortLanesLocked_changes port s
  | .upDebounceExpiry port, s => execUpDebounceExpiry_changes port s
  | .downDebounceExpiry port, s => execDownDebounceExpiry_changes port s
  | .protHoldoffExpiry group, s => execProtHoldoffExpiry_changes group s
  | .waitToRestoreExpiry group, s => execWaitToRestoreExpiry_changes group s
  | .tsiSwapInstant port, s => execTsiSwapInstant_changes port s
  | .tsiSlip port trib deleted, s => execTsiSlip_changes port trib deleted s
  | .ohsFrame ohs mfas line inserted need, s => execOhsFrame_changes ohs mfas line inserted need s
  | .lineFrameReceive port bytes fcsOk, s => execLineFrameReceive_changes port bytes fcsOk s
  | .pfcFrameReceive port quanta, s => execPfcFrameReceive_changes port quanta s
  | .pfcPauseExpiry port tc, s => execPfcPauseExpiry_changes port tc s
  | .pfcXoffRepeat port tc, s => execPfcXoffRepeat_changes port tc s
  | .timeConfig vi io, s => execTimeConfig_changes vi io s
  | .timeSetIncrement vi io, s => execTimeSetIncrement_changes vi io s
  | .timeStep vi io, s => execTimeStep_changes vi io s
  | .timeStepTick, s => execTimeStepTick_changes s
  | .timeGet vi io, s => execTimeGet_changes vi io s
  | .timePort vi io, s => execTimePort_changes vi io s
  | .timeTxTsRead vi io, s => execTimeTxTsRead_changes vi io s
  | .timePulseOut vi io, s => execTimePulseOut_changes vi io s
  | .timePulseIn vi io, s => execTimePulseIn_changes vi io s
  | .timeCaptureRead vi io, s => execTimeCaptureRead_changes vi io s
  | .pulseOneShotFire pin, s => execPulseOneShotFire_changes pin s
  | .pulsePeriodicEdge pin, s => execPulsePeriodicEdge_changes pin s
  | .pulseInEdge pin rising, s => execPulseInEdge_changes pin rising s
  | .probeSend port, s => execProbeSend_changes port s
  | .pdelayReqReceive port seqId domain, s => execPdelayReqReceive_changes port seqId domain s
  | .pdelayRespReceive port seqId t2 t3, s => execPdelayRespReceive_changes port seqId t2 t3 s
  | .probeUnanswered port, s => execProbeUnanswered_changes port s
  | .millParseComplete pkt, s => execMillParseComplete_changes pkt s
  | .lookupComplete pkt, s => execLookupComplete_changes pkt s
  | .lookupTimeout pkt, s => execLookupTimeout_changes pkt s
  | .resultAdmission port, s => execResultAdmission_changes port s
  | .noneToken port, s => execNoneToken_changes port s
  | .frameLastCellWrite pkt, s => execFrameLastCellWrite_changes pkt s
  | .resolutionTokenApply port, s => execResolutionTokenApply_changes port s
  | .trubEccError index, s => execTrubEccError_changes index s
  | .cacheParityError set way, s => execCacheParityError_changes set way s
  | .cacheSetClear set, s => execCacheSetClear_changes set s
  | .tblStage vi io, s => execTblStage_changes vi io s
  | .tblCommit vi io, s => execTblCommit_changes vi io s
  | .tblAbort vi io, s => execTblAbort_changes vi io s
  | .tblRead vi io, s => execTblRead_changes vi io s
  | .tblPin vi io, s => execTblPin_changes vi io s
  | .tblDigest vi io, s => execTblDigest_changes vi io s
  | .tblStatus vi io, s => execTblStatus_changes vi io s
  | .tblConfig vi io, s => execTblConfig_changes vi io s
  | .tblRaConfig vi io, s => execTblRaConfig_changes vi io s
  | .tblRaFlush vi io, s => execTblRaFlush_changes vi io s
  | .commitWaitExpiry vi, s => execCommitWaitExpiry_changes vi s
  | .epochRetire epoch, s => execEpochRetire_changes epoch s
  | .encapVersionRetire handle version, s => execEncapVersionRetire_changes handle version s
  | .asaRegion vi io, s => execAsaRegion_changes vi io s
  | .asaProfile vi io, s => execAsaProfile_changes vi io s
  | .asaWrite vi io, s => execAsaWrite_changes vi io s
  | .asaRead vi io, s => execAsaRead_changes vi io s
  | .asaStatus vi io, s => execAsaStatus_changes vi io s
  | .asaConfig vi io, s => execAsaConfig_changes vi io s
  | .asaShadowRestoreDone region raddr, s => execAsaShadowRestoreDone_changes region raddr s
  | .asaScrub rows, s => execAsaScrub_changes rows s
  | .asaHoleRestore region, s => execAsaHoleRestore_changes region s
  | .asaBankFault bank cause, s => execAsaBankFault_changes bank cause s
  | .asaBankReloadDone bank passed, s => execAsaBankReloadDone_changes bank passed s
  | .asaRelocationDone bank, s => execAsaRelocationDone_changes bank s
  | .asaThrottleRaise temp, s => execAsaThrottleRaise_changes temp s
  | .asaThrottleLower temp, s => execAsaThrottleLower_changes temp s
  | .admProfile vi io, s => execAdmProfile_changes vi io s
  | .admBind vi io, s => execAdmBind_changes vi io s
  | .admClass vi io, s => execAdmClass_changes vi io s
  | .admPool vi io, s => execAdmPool_changes vi io s
  | .admPfc vi io, s => execAdmPfc_changes vi io s
  | .admQueueStatus vi io, s => execAdmQueueStatus_changes vi io s
  | .admStatus vi io, s => execAdmStatus_changes vi io s
  | .sojournSweep voq, s => execSojournSweep_changes voq s
  | .hbmMigration voq, s => execHbmMigration_changes voq s
  | .hbmPrefetch voq, s => execHbmPrefetch_changes voq s
  | .caskScrub corrected bad, s => execCaskScrub_changes corrected bad s
  | .hbmPcFail stack pc cause, s => execHbmPcFail_changes stack pc cause s
  | .hbmPcClear stack pc, s => execHbmPcClear_changes stack pc s
  | .hbmStackFail stack, s => execHbmStackFail_changes stack s
  | .fabPlane vi io, s => execFabPlane_changes vi io s
  | .fabSpmap vi io, s => execFabSpmap_changes vi io s
  | .fabConfig vi io, s => execFabConfig_changes vi io s
  | .fabCt vi io, s => execFabCt_changes vi io s
  | .fabStatus vi io, s => execFabStatus_changes vi io s
  | .fabLaneTrained lane announced far, s => execFabLaneTrained_changes lane announced far s
  | .fabLaneDown lane cause, s => execFabLaneDown_changes lane cause s
  | .fabLaneUp lane, s => execFabLaneUp_changes lane s
  | .formationTimerExpiry plane, s => execFormationTimerExpiry_changes plane s
  | .reachabilityTimerExpiry plane, s => execReachabilityTimerExpiry_changes plane s
  | .holdoffExpiry plane, s => execHoldoffExpiry_changes plane s
  | .reachCell plane suns, s => execReachCell_changes plane suns s
  | .sunListingTimeout plane sun, s => execSunListingTimeout_changes plane sun s
  | .reachabilitySend, s => execReachabilitySend_changes s
  | .fabLinkFrameReceive lane slot tagOk cells, s => execFabLinkFrameReceive_changes lane slot tagOk cells s
  | .matcherGrant voq plane, s => execMatcherGrant_changes voq plane s
  | .retentionSend cell plane dest, s => execRetentionSend_changes cell plane dest s
  | .requestSend voq, s => execRequestSend_changes voq s
  | .creditGrant sp tc src, s => execCreditGrant_changes sp tc src s
  | .dataCellReceive plane c, s => execDataCellReceive_changes plane c s
  | .confirmEntry src stream sp tc first count, s => execConfirmEntry_changes src stream sp tc first count s
  | .voidEntry src stream sp tc first count, s => execVoidEntry_changes src stream sp tc first count s
  | .requestEntry src sp tc paired backlog, s => execRequestEntry_changes src sp tc paired backlog s
  | .creditEntry src sp tc cells, s => execCreditEntry_changes src sp tc cells s
  | .ackEntry src control stream sp tc cum bitmap, s => execAckEntry_changes src control stream sp tc cum bitmap s
  | .cellAckTimeout cell dest, s => execCellAckTimeout_changes cell dest s
  | .planeSuspectEnd plane sun, s => execPlaneSuspectEnd_changes plane sun s
  | .holeTimeout stream sp tc, s => execHoleTimeout_changes stream sp tc s
  | .dupWaitExpiry stream sp tc seq, s => execDupWaitExpiry_changes stream sp tc seq s
  | .memberSilenceExpiry sun, s => execMemberSilenceExpiry_changes sun s
  | .streamEntryFree stream sp tc, s => execStreamEntryFree_changes stream sp tc s
  | .schNode vi io, s => execSchNode_changes vi io s
  | .schQmap vi io, s => execSchQmap_changes vi io s
  | .schSetShaper vi io, s => execSchSetShaper_changes vi io s
  | .schSetPolicer vi io, s => execSchSetPolicer_changes vi io s
  | .schGateList vi io, s => execSchGateList_changes vi io s
  | .schPort vi io, s => execSchPort_changes vi io s
  | .schRemark vi io, s => execSchRemark_changes vi io s
  | .schFlush vi io, s => execSchFlush_changes vi io s
  | .schStatus vi io, s => execSchStatus_changes vi io s
  | .schedulerSelect port, s => execSchedulerSelect_changes port s
  | .lineFrameTransmit port, s => execLineFrameTransmit_changes port s
  | .shaperRefill shaper, s => execShaperRefill_changes shaper s
  | .gateListStart port, s => execGateListStart_changes port s
  | .gateEntryEnd port, s => execGateEntryEnd_changes port s
  | .holdDeadline port, s => execHoldDeadline_changes port s
  | .pairConfig vi io, s => execPairConfig_changes vi io s
  | .pairPort vi io, s => execPairPort_changes vi io s
  | .pairState vi io, s => execPairState_changes vi io s
  | .pairSwitch vi io, s => execPairSwitch_changes vi io s
  | .pairDraught vi io, s => execPairDraught_changes vi io s
  | .pairPortExchange port settings, s => execPairPortExchange_changes port settings s
  | .partnerWaitExpiry, s => execPartnerWaitExpiry_changes s
  | .bungRenewSend, s => execBungRenewSend_changes s
  | .bungRenew gen number, s => execBungRenew_changes gen number s
  | .bungAck gen number, s => execBungAck_changes gen number s
  | .bungHandover gen, s => execBungHandover_changes gen s
  | .bungHandoverAck gen, s => execBungHandoverAck_changes gen s
  | .leaseFence, s => execLeaseFence_changes s
  | .bungTake, s => execBungTake_changes s
  | .takeoverComplete, s => execTakeoverComplete_changes s
  | .announceSend, s => execAnnounceSend_changes s
  | .announceEntry a, s => execAnnounceEntry_changes a s
  | .divergeEntry stream sp tc seq reporter, s => execDivergeEntry_changes stream sp tc seq reporter s
  | .reconQuery stream arrival, s => execReconQuery_changes stream arrival s
  | .reconAnswer stream arrival kind sp tc seq, s => execReconAnswer_changes stream arrival kind sp tc seq s
  | .reconQueryTimeout port, s => execReconQueryTimeout_changes port s
  | .arrivalSwitchPoint port epoch arrival, s => execArrivalSwitchPoint_changes port epoch arrival s
  | .markEntry stream sp tc seq, s => execMarkEntry_changes stream sp tc seq s
  | .journalEntry recs bytes, s => execJournalEntry_changes recs bytes s
  | .journalMarkAck mark, s => execJournalMarkAck_changes mark s
  | .anchorRun port first run, s => execAnchorRun_changes port first run s
  | .syncComplete, s => execSyncComplete_changes s
  | .unsyncedPortRestart port, s => execUnsyncedPortRestart_changes port s
  | .draughtPeriod, s => execDraughtPeriod_changes s
  | .peerLaneDown lane, s => execPeerLaneDown_changes lane s
  | .peerLaneUp lane, s => execPeerLaneUp_changes lane s
  | .viCreate vi io, s => execViCreate_changes vi io s
  | .viModify vi io, s => execViModify_changes vi io s
  | .viDestroy vi io, s => execViDestroy_changes vi io s
  | .viReset vi io, s => execViReset_changes vi io s
  | .viQueue vi io, s => execViQueue_changes vi io s
  | .viStatus vi io, s => execViStatus_changes vi io s
  | .viResetDrainEnd vi, s => execViResetDrainEnd_changes vi s
  | .puntDeliver vi q writeOk, s => execPuntDeliver_changes vi q writeOk s
  | .injectFetch vi q frame, s => execInjectFetch_changes vi q frame s
  | .injectReadDone vi q readOk, s => execInjectReadDone_changes vi q readOk s
  | .secSpdm vi io, s => execSecSpdm_changes vi io s
  | .secStatus vi io, s => execSecStatus_changes vi io s
  | .secImportPub vi io, s => execSecImportPub_changes vi io s
  | .secKeyImport vi io, s => execSecKeyImport_changes vi io s
  | .secKeyDelete vi io, s => execSecKeyDelete_changes vi io s
  | .secMka vi io, s => execSecMka_changes vi io s
  | .secLink vi io, s => execSecLink_changes vi io s
  | .secTrust vi io, s => execSecTrust_changes vi io s
  | .secOwnerCert vi io, s => execSecOwnerCert_changes vi io s
  | .secDebug vi io, s => execSecDebug_changes vi io s
  | .secZeroize vi io, s => execSecZeroize_changes vi io s
  | .linkHandshakeMessage link m, s => execLinkHandshakeMessage_changes link m s
  | .rekeyIntervalExpiry link, s => execRekeyIntervalExpiry_changes link s
  | .oldKeySlotExpiry link, s => execOldKeySlotExpiry_changes link s
  | .handshakeRetry link, s => execHandshakeRetry_changes link s
  | .mkpduReceive port m, s => execMkpduReceive_changes port m s
  | .mkaHello port, s => execMkaHello_changes port s
  | .updOpen vi io, s => execUpdOpen_changes vi io s
  | .updChunk vi io, s => execUpdChunk_changes vi io s
  | .updStatus vi io, s => execUpdStatus_changes vi io s
  | .updAbort vi io, s => execUpdAbort_changes vi io s
  | .updActivate vi io, s => execUpdActivate_changes vi io s
  | .updConfirm vi io, s => execUpdConfirm_changes vi io s
  | .updSwap, s => execUpdSwap_changes s
  | .swapWaitExpiry, s => execSwapWaitExpiry_changes s
  | .linkBankSwapDone, s => execLinkBankSwapDone_changes s
  | .confirmWindowExpiry, s => execConfirmWindowExpiry_changes s
  | .fltStatus vi io, s => execFltStatus_changes vi io s
  | .fltLogRead vi io, s => execFltLogRead_changes vi io s
  | .fltInject vi io, s => execFltInject_changes vi io s
  | .wbFlitReceive dir group seq crcOk, s => execWbFlitReceive_changes dir group seq crcOk s
  | .wbLaneFail dir lane, s => execWbLaneFail_changes dir lane s
  | .wbLaneRepairDone dir lane, s => execWbLaneRepairDone_changes dir lane s
  | .wbRestripeDone dir group, s => execWbRestripeDone_changes dir group s
  | .tblPcFail stack pc, s => execTblPcFail_changes stack pc s
  | .tblPcRecopyDone stack pc, s => execTblPcRecopyDone_changes stack pc s
  | .mashPipeFault pipe, s => execMashPipeFault_changes pipe s
  | .faultRecordClose record, s => execFaultRecordClose_changes record s
  | .cntRead vi io, s => execCntRead_changes vi io s
  | .cntSelect vi io, s => execCntSelect_changes vi io s
  | .cntMeter vi io, s => execCntMeter_changes vi io s
  | .cntMeterRead vi io, s => execCntMeterRead_changes vi io s
  | .cntDescribe vi io, s => execCntDescribe_changes vi io s
  | .cntWindowBoundary counter, s => execCntWindowBoundary_changes counter s
  | .meterWindowBoundary port, s => execMeterWindowBoundary_changes port s
  | .pwrStatus vi io, s => execPwrStatus_changes vi io s
  | .pwrDomain vi io, s => execPwrDomain_changes vi io s
  | .pwrGpio vi io, s => execPwrGpio_changes vi io s
  | .domainPowerGood pd, s => execDomainPowerGood_changes pd s
  | .domainFault pd cause, s => execDomainFault_changes pd cause s
  | .domainRetry pd, s => execDomainRetry_changes pd s
  | .refclkLoss, s => execRefclkLoss_changes s
  | .refclkRelock inRange, s => execRefclkRelock_changes inRange s
  | .railUndervoltage rail, s => execRailUndervoltage_changes rail s
  | .thermalStateEnter source temp, s => execThermalStateEnter_changes source temp s
  | .thermalStateLeave source temp, s => execThermalStateLeave_changes source temp s
  | .thermalTrip, s => execThermalTrip_changes s
  | .hbmThermal stack temp, s => execHbmThermal_changes stack temp s
  | .gpioEdge pin level, s => execGpioEdge_changes pin level s
  | .rootpllLock, s => execRootpllLock_changes s
  | .refclkRelockDone, s => execRefclkRelockDone_changes s
  | .pulseWidthEnd pin, s => execPulseWidthEnd_changes pin s
  | .mkaLifetimeExpiry port peer, s => execMkaLifetimeExpiry_changes port peer s
  | .anchorCut port cut nexts, s => execAnchorCut_changes port cut nexts s
  | .swapCommitRetry, s => execSwapCommitRetry_changes s
  | .planeDownAnnounced plane, s => execPlaneDownAnnounced_changes plane s

end Sys2Proof.Machine
end

section
/-! SUPPORT. What a step does with the queue and with the clocks (R153, R154, R156), and the state of cold reset. -/

namespace Sys2Proof.Machine

/-! ### A step -/

/-- A step with a command waiting takes it from the queue. -/
theorem step_of_front (c : Instr) (s : State) : step { s with pending := c :: s.pending } = exec c s := rfl

theorem step_of_empty {s : State} (h : s.pending = []) : step s = .next (idle s) := by
  rw [step, h]

/-- The time engine is as it was when neither INCREMENT nor the rest of it changed. -/
theorem Changes.tim_eq {ps : List Part} {s t : State} (h : Changes ps s t) (hr : Part.tim ∉ ps := by decide)
    (hi : Part.incr ∉ ps := by decide) : t.tim = s.tim := by
  have rest : { t.tim with increment := 0 } = { s.tim with increment := 0 } := h.same .tim hr
  have incr : t.tim.increment = s.tim.increment := h.same .incr hi
  calc t.tim = { ({ t.tim with increment := 0 } : Tim) with increment := t.tim.increment } := .refl _
    _ = s.tim := by rw [rest, incr]

/-- What frames and cells in flight do within a tick leaves the clocks and the steps of bring-up. -/
theorem inFlight_changes (s : State) : Changes [.draws, .rings, .queue, .port, .tbl, .mash, .adm, .fab, .rack, .sch, .pair, .insts, .sec, .log,
    .flt, .cnt, .out] s (loopTick (linkTick s)) :=
  Changes.via ((linkTick_changes s).weaken (by decide)) (loopTick_changes _) (by decide)

theorem idle_of_unlocked {s : State} (h : s.pwr.rootLocked = false) : idle s = s := by
  rw [idle, h, if_neg Bool.false_ne_true]

/-- R156: with ROOTPLL locked the monotonic counter takes a tick of 0.8 ns. -/
theorem idle_of_locked {s : State} (h : s.pwr.rootLocked = true) :
    idle s = { loopTick (linkTick s) with mono := s.mono + 8, tim := tickTime s } := by
  have moved := inFlight_changes s
  have mono : (loopTick (linkTick s)).mono = s.mono := moved.same .mono (by decide)
  have dev : (loopTick (linkTick s)).dev = s.dev := moved.same .dev (by decide)
  rw [idle, if_pos h]
  simp only [tickTime, mono, dev, moved.tim_eq]

/-- R153, R154: INCREMENT is added once the time engine has power. -/
theorem tickTime_of_powered {s : State} (h : 2 ≤ s.dev.step) (hr : s.dev.inReset = false) :
    tickTime s = { s.tim with time := s.tim.time + s.tim.increment.zeroExtend 112 } := by
  simp only [tickTime, h, hr, Bool.false_eq_true, not_false_eq_true, and_self, if_true]

theorem tickTime_of_unpowered {s : State} (h : s.dev.step < 2 ∨ s.dev.inReset = true) : tickTime s = s.tim := by
  refine if_neg (fun ⟨powered, running⟩ => ?_)
  rcases h with h | h
  · omega
  · exact running h

theorem linkTick_of_unused {s : State} (h : s.fab.lanes.filter (fun l => l.2.inUse) = []) : linkTick s = s := by
  rw [linkTick, h]
  rfl

theorem loopTick_of_empty {s : State} (h : s.fab.loop = []) : loopTick s = s := by
  simp only [loopTick, h, List.filter_nil, if_true]

/-- Settles O52: the front command, or the tick of an empty queue, whose clocks are those of the state before it. -/
theorem stepRunsTheFrontCommand : Obligations.StepRunsTheFrontCommand := by
  refine ⟨step_of_front, fun s hq hl => ?_, fun s hq hl hp hr => ?_, fun s hq hl hp => ?_, fun s hloop hlanes => ?_⟩
  · rw [step_of_empty hq, idle_of_unlocked hl]
  · rw [step_of_empty hq, idle_of_locked hl, tickTime_of_powered hp hr]
  · rw [step_of_empty hq, idle_of_locked hl, tickTime_of_unpowered hp, ← (inFlight_changes s).tim_eq]
  · rw [linkTick_of_unused hlanes, loopTick_of_empty hloop]

/-! ### Cold reset -/

theorem State.reset_created (vi : Nat) : State.reset.created vi = decide (vi = 0) := by
  by_cases h : vi = 0
  · subst h
    rfl
  · have absent : State.reset.inst vi = ({} : Inst) := by
      show (if vi = 0 then some ({ st := .active } : Inst) else none).getD {} = _
      rw [if_neg h]
      rfl
    rw [State.created, absent, decide_eq_false h]
    rfl

theorem State.reset_domain (pd : Nat) : mgetD State.reset.pwr.domains pd .off = if pd = 0 then .on else .off := by
  show (if pd = 0 then some DomState.on else none).getD .off = _
  split <;> rfl

/-- Settles O53: each part is as the state of reset is written; instances and domains by their number. -/
theorem resetState : Obligations.ResetState :=
  ⟨rfl, fun _ => ⟨rfl, rfl, rfl, rfl⟩, State.reset_created, State.reset_domain, fun _ => ⟨rfl, rfl⟩, rfl, rfl, fun _ _ => rfl, rfl, rfl, rfl,
    rfl, rfl, rfl⟩

end Sys2Proof.Machine
end

section
/-! SUPPORT. The invariant of the tables and of INCREMENT (R154, R196, Table PL-6): what keeps the live epochs in order, what every command
outside their footprint leaves, and the commands that reach them. -/

namespace Sys2Proof.Machine

/-! ### Live epochs -/

/-- R196, Table PL-6: at most four epochs are live, and only the newest is CURRENT. -/
structure EpochsOk (l : List Epoch) : Prop where
  live : l.length ≤ 4
  current : ∀ e, e ∈ l.dropLast → e.st ≠ .current

theorem EpochsOk.nil : EpochsOk [] := ⟨by simp, by simp⟩
theorem EpochsOk.single (e : Epoch) : EpochsOk [e] := ⟨by simp, by simp⟩

/-- A change of epochs in place that makes none CURRENT. -/
theorem EpochsOk.map {l : List Epoch} (h : EpochsOk l) {f : Epoch → Epoch} (hf : ∀ e, e.st ≠ .current → (f e).st ≠ .current) :
    EpochsOk (l.map f) := by
  refine ⟨by rw [List.length_map]; exact h.live, fun e he => ?_⟩
  rw [← List.map_dropLast] at he
  obtain ⟨x, hx, rfl⟩ := List.mem_map.mp he
  exact hf x (h.current x hx)

/-- What stands before the last of the elements kept stood before the last of them all. -/
theorem mem_dropLast_of_filter {α : Type} {p : α → Bool} {l : List α} {a : α} (h : a ∈ (l.filter p).dropLast) : a ∈ l.dropLast := by
  obtain rfl | ⟨m, x, rfl⟩ := l.eq_nil_or_concat
  · exact h
  rw [List.concat_eq_append] at h ⊢
  rw [List.dropLast_concat]
  rw [List.filter_append] at h
  by_cases hx : p x = true
  · rw [List.filter_cons_of_pos hx, List.filter_nil, List.dropLast_concat] at h
    exact (List.mem_filter.mp h).1
  · rw [List.filter_cons_of_neg hx, List.filter_nil, List.append_nil] at h
    exact (List.mem_filter.mp ((List.dropLast_sublist _).subset h)).1

theorem EpochsOk.filter {l : List Epoch} (h : EpochsOk l) (p : Epoch → Bool) : EpochsOk (l.filter p) :=
  ⟨Nat.le_trans (List.length_filter_le p l) h.live, fun e he => h.current e (mem_dropLast_of_filter he)⟩

theorem supersede_length (l : List Epoch) : (supersede l).length = l.length := List.length_map ..

/-- No epoch is CURRENT once a newer one is. -/
theorem not_current_of_mem_supersede {l : List Epoch} {e : Epoch} (h : e ∈ supersede l) : e.st ≠ .current := by
  obtain ⟨x, -, rfl⟩ := List.mem_map.mp h
  by_cases hx : x.st = .current
  · rw [if_pos hx]
    cases x.pin <;> simp
  · rw [if_neg hx]
    exact hx

/-- R200: a commit that finds a slot adds the CURRENT epoch. -/
theorem EpochsOk.push {l : List Epoch} (h : l.length < 4) (e : Epoch) : EpochsOk (supersede l ++ [e]) := by
  refine ⟨by rw [List.length_append, supersede_length]; exact h, fun x hx => ?_⟩
  rw [List.dropLast_concat] at hx
  exact not_current_of_mem_supersede hx

/-! ### The invariant over changes -/

section Kept
variable {s t : State} (h : Inv s)
include h

theorem Inv.epochs : EpochsOk s.tbl.epochs := ⟨h.live, h.current⟩

theorem Inv.of_epochs (he : EpochsOk t.tbl.epochs) (hi : t.tim.increment = s.tim.increment) : Inv t :=
  ⟨he.live, he.current, by rw [hi]; exact h.fast, by rw [hi]; exact h.slow⟩

/-- What changes neither the live epochs nor INCREMENT keeps the invariant. -/
theorem Inv.of_same (he : t.tbl.epochs = s.tbl.epochs) (hi : t.tim.increment = s.tim.increment) : Inv t :=
  h.of_epochs (by rw [he]; exact h.epochs) hi

theorem Inv.via {ps : List Part} (c : Changes ps s t) (he : Part.epochs ∉ ps := by decide) (hi : Part.incr ∉ ps := by decide) : Inv t :=
  h.of_same (c.same .epochs he) (c.same .incr hi)

/-- A change of the epochs that leaves INCREMENT. -/
theorem Inv.via_epochs {ps : List Part} (c : Changes ps s t) (he : EpochsOk t.tbl.epochs) (hi : Part.incr ∉ ps := by decide) : Inv t :=
  h.of_epochs he (c.same .incr hi)

end Kept

theorem Inv.ite {c : Prop} [Decidable c] {s t : State} (hs : Inv s) (ht : Inv t) : Inv (if c then s else t) := by
  split <;> assumption

theorem Inv.ite_st {c : Prop} [Decidable c] {a b : Reply} (ha : Inv a.st) (hb : Inv b.st) : Inv (if c then a else b).st := by
  split <;> assumption

theorem Inv.when {b : Bool} {s t : State} (h : Inv s) (ht : b = true → Inv t) : Inv (when b s t) := by
  cases b with
  | false => exact h
  | true => exact ht rfl

/-- Table BU-3, R154: no epoch is live and INCREMENT is nominal. -/
theorem Inv.of_reset {t : State} (ht : t.tbl = State.reset.tbl) (hi : t.tim = State.reset.tim) : Inv t := by
  refine ⟨?_, ?_, ?_, ?_⟩ <;> simp only [ht, hi] <;> decide

/-! ### Commands of the rings -/

/-- What firmware's own part of a command keeps, and the body keeps, the command keeps. -/
theorem runCommand_inv {op vi : Nat} {io : HostIo} {body : Body} {s : State} (hb : ∀ e t, Inv t → Inv (body vi e t).st) (h : Inv s) :
    Inv (runCommand op vi io body s) := by
  unfold runCommand
  refine Inv.ite ?_ h
  split
  · rename_i e _ c _ _
    have begun : Inv (taken vi s) := h.via (taken_changes vi s)
    refine Inv.via (s := _) ?_ (conclude_changes ..)
    split
    · rename_i r hr
      exact begun.via (preCheck_changes _ _ _ _ _ _ hr)
    · exact hb e _ begun
  · exact h

/-! ### TIME.SET_INCREMENT -/

/-- A distance taken as the greater less the smaller bounds both differences. -/
theorem sub_mul_le_of_distance {v n m : Nat} (h : (max v n - min v n) * m ≤ n) : (v - n) * m ≤ n ∧ (n - v) * m ≤ n := by
  rcases Nat.le_total v n with hv | hv
  · rw [Nat.max_eq_right hv, Nat.min_eq_left hv] at h
    exact ⟨by rw [Nat.sub_eq_zero_of_le hv, Nat.zero_mul]; exact Nat.zero_le n, h⟩
  · rw [Nat.max_eq_left hv, Nat.min_eq_right hv] at h
    exact ⟨h, by rw [Nat.sub_eq_zero_of_le hv, Nat.zero_mul]; exact Nat.zero_le n⟩

/-- R154: an INCREMENT within ±500 ppm of nominal. -/
theorem Inv.set_increment {s : State} (h : Inv s) {v : Nat}
    (near : (max v 0xCCCCCCCCCCCD - min v 0xCCCCCCCCCCCD) * 2000 ≤ 0xCCCCCCCCCCCD) :
    Inv { s with tim := { s.tim with increment := BitVec.ofNat 64 v } } := by
  have held : (BitVec.ofNat 64 v).toNat = v := by
    rw [BitVec.toNat_ofNat]
    omega
  obtain ⟨fast, slow⟩ := sub_mul_le_of_distance near
  rw [← held] at fast slow
  exact ⟨h.live, h.current, fast, slow⟩

/-- R154: TIME.SET_INCREMENT refuses every other value. -/
theorem bodyTimeSetIncrement_inv {vi : Nat} {e : Entry} {s : State} (h : Inv s) : Inv (bodyTimeSetIncrement vi e s).st := by
  unfold bodyTimeSetIncrement
  dsimp only
  split
  · exact h
  · rename_i near
    exact h.set_increment (Nat.not_lt.mp near)

/-! ### Commits, pins and retirement -/

/-- The new epoch with its tables, the newest of those live. -/
def withEpoch (ops : List TOp) (s : State) : State :=
  let new := s.newestTables.applyAll ops
  { s with tbl := { s.tbl with
      epochs := supersede s.tbl.epochs ++ [{ num := s.commitNumber, tables := new }],
      encaps := beginHolds s.mono s.newestTables new (commitEncaps s.mono ops s.tbl.encaps) } }

/-- Paired ports stamp a new epoch from an arrival number on that is still to come (R387). -/
def awaitSwitchOn (num p : Nat) (s : State) : State :=
  { s with pair := { s.pair with ports := mmod s.pair.ports p {} (fun x => { x with switches := x.switches ++ [(noArrival, num)] }) } }
def awaitSwitch (num : Nat) (s : State) : State := foldS s.switchPorts s (awaitSwitchOn num)

theorem awaitSwitch_epochs (num : Nat) (s : State) : (awaitSwitch num s).tbl.epochs = s.tbl.epochs :=
  foldS_keeps (fun s => s.tbl.epochs) (awaitSwitchOn num) (fun _ _ => rfl) _ s

theorem commitOps_eq (vi : Nat) (ops : List TOp) (s : State) : ∃ pay vis, commitOps vi ops s =
    capacityWarn (count Cn.tblCommits 0 1 (notify Ev.tblCommitted pay vis (awaitSwitch s.commitNumber (withEpoch ops s)))) :=
  ⟨_, _, rfl⟩

theorem commitOps_epochs (vi : Nat) (ops : List TOp) (s : State) : (commitOps vi ops s).tbl.epochs =
    supersede s.tbl.epochs ++ [{ num := s.commitNumber, tables := s.newestTables.applyAll ops }] := by
  obtain ⟨pay, vis, switched⟩ := commitOps_eq vi ops s
  have told (u : State) : (capacityWarn (count Cn.tblCommits 0 1 (notify Ev.tblCommitted pay vis u))).tbl.epochs = u.tbl.epochs :=
    (Changes.via (ps := [.rings, .tbl, .cnt, .out]) (((notify_changes ..).trans (count_changes ..)).weaken (by decide))
      (capacityWarn_changes _) (by decide)).same .epochs (by decide)
  rw [switched, told, awaitSwitch_epochs]
  rfl

/-- R198, R200: a commit switches only where a slot is free. -/
theorem commitOps_inv {vi : Nat} {ops : List TOp} {s : State} (h : Inv s) (free : s.tbl.epochs.length < 4) : Inv (commitOps vi ops s) := by
  refine h.via_epochs (commitOps_changes vi ops s) ?_
  rw [commitOps_epochs]
  exact EpochsOk.push free _

theorem Reply.ok_st (s : State) (result : List Byte) : (Reply.ok s result).st = s := rfl

/-- R199: a commit changes nothing, or takes the staging set and switches. -/
theorem commitNow_st (vi : Nat) (s : State) : (commitNow vi s).st = s
    ∨ (commitNow vi s).st = commitOps vi (s.stagingOf vi) { s with tbl := { s.tbl with staging := mdel s.tbl.staging vi } } := by
  unfold commitNow
  dsimp only
  split
  · exact .inl rfl
  · split
    · exact .inl rfl
    · split
      · exact .inl rfl
      · exact .inr (Reply.ok_st ..)

theorem commitNow_inv {vi : Nat} {s : State} (h : Inv s) (free : s.tbl.epochs.length < 4) : Inv (commitNow vi s).st := by
  have unstaged : Inv { s with tbl := { s.tbl with staging := mdel s.tbl.staging vi } } := h.of_same rfl rfl
  rcases commitNow_st vi s with kept | switched
  · rw [kept]
    exact h
  · rw [switched]
    exact commitOps_inv unstaged free

theorem epochFull_inv {s : State} (h : Inv s) : Inv (epochFull s).st := h.via (count_changes ..)

theorem commitOrWait_inv {vi d : Nat} {wait : Bool} {s : State} (h : Inv s) : Inv (commitOrWait vi d wait s).st := by
  by_cases free : s.tbl.epochs.length < 4
  · rw [commitOrWait, if_pos free]
    exact commitNow_inv h free
  · rw [commitOrWait, if_neg free]
    exact Inv.ite_st h (epochFull_inv h)

theorem bodyTblCommit_inv {vi : Nat} {e : Entry} {s : State} (h : Inv s) : Inv (bodyTblCommit vi e s).st :=
  Inv.ite_st (h.via (notPermitted_changes vi s)) (Inv.ite_st h (commitOrWait_inv h))

/-- Table PL-6: TBL.PIN makes an epoch PINNED or DRAINING, never CURRENT. -/
theorem bodyTblPin_inv {vi : Nat} {e : Entry} {s : State} (h : Inv s) : Inv (bodyTblPin vi e s).st := by
  refine h.via_epochs (bodyTblPin_changes vi e s) ?_
  have marked (n : Nat) (f : Epoch → Epoch) (hf : ∀ x, x.st ≠ .current → (f x).st ≠ .current) :
      EpochsOk (s.tbl.epochs.map (fun x => if x.num = n then f x else x)) := by
    refine h.epochs.map (fun x hx => ?_)
    split
    · exact hf x hx
    · exact hx
  unfold bodyTblPin
  extract_lets n op set
  split
  · exact (h.via (notPermitted_changes vi s)).epochs
  · split
    · exact h.epochs
    · split
      · exact h.epochs
      · split
        · refine marked n _ (fun x hx => ?_)
          dsimp only
          split <;> simp [hx]
        · split
          · exact h.epochs
          · split
            · exact h.epochs
            · refine marked n _ (fun x hx => ?_)
              dsimp only
              split <;> simp [hx]

theorem retireEpoch_inv {n : Nat} {s : State} (h : Inv s) : Inv (retireEpoch n s) :=
  h.via_epochs (retireEpoch_changes n s) (h.epochs.filter _)

theorem execEpochRetire_inv {n : Nat} {s t : State} (h : Inv s) (ht : execEpochRetire n s = .next t) : Inv t := by
  obtain rfl := Host.Outcome.next.inj ht
  split
  · exact h
  · exact h.when (fun _ => ((retireEpoch_inv h).via (capacityWarn_changes _)).via (wake_changes ..))

/-- R486: firmware's own commit obeys R198. -/
theorem swapCommit_inv {s : State} (h : Inv s) : Inv (swapCommit s) := by
  have noted (x : Upd) : Inv { s with upd := x } := h.of_same rfl rfl
  have sent (u : State) : Changes [.pair, .out] u (sendJournal 0xFF firmwareCommit (.ok u)).1 := sendJournal_changes 0xFF firmwareCommit (.ok u)
  unfold swapCommit
  split
  · exact noted _
  · rename_i room
    have committed := commitOps_inv (vi := 0xFF) (ops := []) (noted { s.upd with swapAt := none, retryAt := none }) (by
      show s.tbl.epochs.length < 4
      omega)
    exact Inv.ite (committed.via (sent _)) committed

theorem execSwapWaitExpiry_inv {s t : State} (h : Inv s) (ht : execSwapWaitExpiry s = .next t) : Inv t := by
  obtain rfl := Host.Outcome.next.inj ht
  split
  · exact h.when (fun _ => swapCommit_inv h)
  · exact h

theorem execSwapCommitRetry_inv {s t : State} (h : Inv s) (ht : execSwapCommitRetry s = .next t) : Inv t := by
  obtain rfl := Host.Outcome.next.inj ht
  split
  · exact h.when (fun _ => swapCommit_inv h)
  · exact h

/-! ### Parked commands -/

/-- Of the commands that resume, a commit alone reaches the live epochs. -/
theorem resume_inv {p : Parked} {s : State} (h : Inv s) : Inv (resume p s) := by
  have finished {r : Reply} (hr : Inv r.st) : Inv (finish p.vi p.entry p.writeOk r).settled :=
    (hr.via (finish_changes ..)).via (State.settled_changes _)
  have concluded (c : CmdInfo) {r : Reply} (hr : Inv r.st) : Inv (conclude c p.vi p.entry p.writeOk r) := hr.via (conclude_changes ..)
  unfold resume
  extract_lets c
  split
  · exact concluded c (commitOrWait_inv h)
  · exact finished h
  · split
    · exact (h.via (answer_changes ..)).via (State.settled_changes _)
    · exact finished h
  · exact finished (epochFull_inv h)
  · exact concluded c ((h.via (stackOff_changes _ s)).via (Parked.reply_changes ..))
  · exact concluded c h

theorem execCommandResume_inv {vi : Nat} {s t : State} (h : Inv s) (ht : execCommandResume vi s = .next t) : Inv t := by
  obtain rfl := Host.Outcome.next.inj ht
  split
  · exact h
  · exact h.when (fun _ => resume_inv (h.of_same rfl rfl))

/-! ### The standby's tail -/

/-- Of the replicated commands, TBL.COMMIT and TBL.PIN alone reach the live epochs. -/
theorem bodyOf_inv {op vi : Nat} {body : Body} (hb : bodyOf op = some body) (e : Entry) {s : State} (h : Inv s) : Inv (body vi e s).st := by
  unfold bodyOf at hb
  split at hb
  rotate_right
  · cases hb
  all_goals obtain rfl := Option.some.inj hb
  · exact h.via (bodyDevService_changes ..)
  · exact h.via (bodyDevSetCellarSet_changes ..)
  · exact h.via (bodyTblStage_changes ..)
  · exact bodyTblCommit_inv h
  · exact h.via (bodyTblAbort_changes ..)
  · exact bodyTblPin_inv h
  · exact h.via (bodyTblConfig_changes ..)
  · exact h.via (bodyTblRaConfig_changes ..)
  · exact h.via (bodyTblRaFlush_changes ..)
  · exact h.via (bodyAsaRegion_changes ..)
  · exact h.via (bodyAsaProfile_changes ..)
  · exact h.via (bodyAsaWrite_changes ..)
  · exact h.via (bodyAsaConfig_changes ..)
  · exact h.via (bodyAdmProfile_changes ..)
  · exact h.via (bodyAdmBind_changes ..)
  · exact h.via (bodyAdmClass_changes ..)
  · exact h.via (bodyAdmPool_changes ..)
  · exact h.via (bodyAdmPfc_changes ..)
  · exact h.via (bodyFabSpmap_changes ..)
  · exact h.via (bodySchNode_changes ..)
  · exact h.via (bodySchQmap_changes ..)
  · exact h.via (bodySchSetShaper_changes ..)
  · exact h.via (bodySchSetPolicer_changes ..)
  · exact h.via (bodySchGateList_changes ..)
  · exact h.via (bodySchPort_changes ..)
  · exact h.via (bodySchRemark_changes ..)
  · exact h.via (bodySchFlush_changes ..)
  · exact h.via (bodyViCreate_changes ..)
  · exact h.via (bodyViModify_changes ..)
  · exact h.via (bodyViDestroy_changes ..)

theorem applyForm_inv {op vi : Nat} {body : Body} (hb : bodyOf op = some body) (e : Entry) {s : State} (h : Inv s) :
    Inv (applyForm body vi e s).st := by
  have trial {t : State} (ht : Inv t) (x : Upd) : Inv { t with upd := x } := ht.of_same rfl rfl
  exact trial (bodyOf_inv hb e (trial h _)) _

/-- R407: a bulk copy begins with one epoch. -/
theorem bulkBegin_inv {epoch : Nat} {vis : List Nat} {s : State} (h : Inv s) : Inv (bulkBegin epoch vis s) :=
  h.via_epochs (bulkBegin_changes epoch vis s) (EpochsOk.single _)

theorem applyCommand_inv {vi st dt : Nat} {e : Entry} {res : List Byte} {s t : State} (h : Inv s)
    (ht : applyCommand vi e st dt res s = some t) : Inv t := by
  unfold applyCommand at ht
  extract_lets j journal at ht
  have journaled {u : State} (hu : Inv u) : Inv (journal u) := hu.via (State.modFn_changes ..)
  split at ht
  · cases ht
  · rename_i waits
    split at ht
    · rename_i own
      obtain rfl := Option.some.inj ht
      exact commitOps_inv h (by have := own.2; omega)
    · split at ht
      · obtain rfl := Option.some.inj ht
        exact journaled h
      · rename_i body hb
        obtain rfl := Option.some.inj ht
        refine journaled (Inv.ite ?_ h)
        split
        · exact applyForm_inv (op := 0x0C02) rfl e h
        · exact applyForm_inv hb e h

theorem applyRecs_inv {recs : List JournalRec} {s t : State} (h : Inv s) (ht : applyRecs recs s = some t) : Inv t := by
  induction recs generalizing s with
  | nil =>
    cases ht
    exact h
  | cons r recs ih =>
    cases r with
    | mark n => exact ih h ht
    | bulk epoch vis => exact ih (bulkBegin_inv h) ht
    | command vi e st dt res =>
      obtain ⟨u, hu, hrest⟩ := Option.bind_eq_some_iff.mp ht
      exact ih (applyCommand_inv h hu) hrest

theorem applyTail_inv (fuel : Nat) {s : State} (h : Inv s) : Inv (applyTail fuel s) := by
  induction fuel generalizing s with
  | zero => exact h
  | succ fuel ih =>
    unfold applyTail
    extract_lets isMark before
    split
    · split
      · exact h
      · rename_i ht
        extract_lets u
        exact ih (((applyRecs_inv h ht).via (State.modPair_changes ..)).via (State.emit_changes ..))
    · exact h

theorem execJournalEntry_inv {recs : List JournalRec} {bytes : Nat} {s t : State} (h : Inv s)
    (ht : execJournalEntry recs bytes s = .next t) : Inv t := by
  obtain rfl := Host.Outcome.next.inj ht
  exact h.when (fun _ => (applyTail_inv _ (h.via (State.modPair_changes ..))).via (staleRefresh_changes _))

/-! ### Cold resets -/

theorem coldState_inv (s : State) : Inv (coldState s) := Inv.of_reset rfl rfl
theorem coldReset_inv (s : State) : Inv (coldReset s) := (coldState_inv s).via (startPowerOn_changes _)
/-- A cold reset that holds, with the pins of its cause. -/
theorem coldLocked_pins_inv (s : State) (x : Pwr) : Inv { coldLocked s with pwr := x } := Inv.of_reset rfl rfl

theorem execColdResetAssert_inv {s t : State} (h : Inv s) (ht : execColdResetAssert s = .next t) : Inv t := by
  obtain rfl := Host.Outcome.next.inj ht
  exact h.when (fun _ => coldReset_inv s)

theorem execBcColdReset_inv {s t : State} (h : Inv s) (ht : execBcColdReset s = .next t) : Inv t := by
  obtain rfl := Host.Outcome.next.inj ht
  exact h.when (fun _ => coldReset_inv s)

theorem execPoresetAssert_inv {s t : State} (ht : execPoresetAssert s = .next t) : Inv t := by
  obtain rfl := Host.Outcome.next.inj ht
  exact Inv.of_reset rfl rfl

theorem execRailUndervoltage_inv {rail : Nat} {s t : State} (h : Inv s) (ht : execRailUndervoltage rail s = .next t) : Inv t := by
  obtain rfl := Host.Outcome.next.inj ht
  exact h.when (fun _ => coldLocked_pins_inv s _)

theorem execThermalTrip_inv {s t : State} (h : Inv s) (ht : execThermalTrip s = .next t) : Inv t := by
  obtain rfl := Host.Outcome.next.inj ht
  exact h.when (fun _ => coldLocked_pins_inv s _)

/-- R536: a fault of a domain that the whole device needs is a cold reset; any other leaves the epochs and INCREMENT. -/
theorem execDomainFault_inv {pd cause : Nat} {s t : State} (h : Inv s) (ht : execDomainFault pd cause s = .next t) : Inv t := by
  obtain rfl := Host.Outcome.next.inj ht
  refine h.when (fun _ => Inv.ite (coldLocked_pins_inv s _) ?_)
  have told : Inv (count Cn.pwrDomainFault 0 1 (notify Ev.pwrDomainFault (putLe 1 pd ++ putLe 1 cause) [] (rampNext 64 (s.setDom pd .fault)))) :=
    (((h.via (State.setDom_changes ..)).via (rampNext_changes ..)).via (notify_changes ..)).via (count_changes ..)
  have armed {u : State} (hu : Inv u) (x : Pwr) : Inv { u with pwr := x } := hu.of_same rfl rfl
  exact (((Inv.ite (armed told _) told).via (domainLost_changes pd _)).via (nextStep_changes _)).via (completeWaiting_changes ..)

/-! ### A step -/

/-- A clock tick leaves the epochs and INCREMENT. -/
theorem idle_inv {s : State} (h : Inv s) : Inv (idle s) := by
  unfold idle
  refine Inv.ite ?_ h
  extract_lets u
  have moved : Inv u := (h.via (linkTick_changes s)).via (loopTick_changes _)
  refine moved.of_epochs moved.epochs ?_
  show (tickTime u).increment = u.tim.increment
  unfold tickTime
  split <;> rfl

/-- Every command keeps the invariant: those whose footprint holds the live epochs or INCREMENT by the rule that bounds them, the others by
their footprint. -/
theorem exec_inv {c : Instr} {s t : State} (h : Inv s) (ht : exec c s = .next t) : Inv t := by
  by_cases beside : Part.epochs ∉ footprint c ∧ Part.incr ∉ footprint c
  · obtain ⟨u, hu, changes⟩ := exec_changes c s
    obtain rfl := Host.Outcome.next.inj (ht.symm.trans hu)
    exact h.via changes beside.1 beside.2
  cases c with
  | timeSetIncrement vi io =>
    obtain rfl := Host.Outcome.next.inj ht
    exact runCommand_inv (fun _ _ => bodyTimeSetIncrement_inv) h
  | tblCommit vi io =>
    obtain rfl := Host.Outcome.next.inj ht
    exact runCommand_inv (fun _ _ => bodyTblCommit_inv) h
  | tblPin vi io =>
    obtain rfl := Host.Outcome.next.inj ht
    exact runCommand_inv (fun _ _ => bodyTblPin_inv) h
  | epochRetire epoch => exact execEpochRetire_inv h ht
  | swapWaitExpiry => exact execSwapWaitExpiry_inv h ht
  | swapCommitRetry => exact execSwapCommitRetry_inv h ht
  | commandResume vi => exact execCommandResume_inv h ht
  | journalEntry recs bytes => exact execJournalEntry_inv h ht
  | coldResetAssert => exact execColdResetAssert_inv h ht
  | bcColdReset => exact execBcColdReset_inv h ht
  | poresetAssert => exact execPoresetAssert_inv ht
  | railUndervoltage rail => exact execRailUndervoltage_inv h ht
  | thermalTrip => exact execThermalTrip_inv h ht
  | domainFault pd cause => exact execDomainFault_inv h ht
  | _ => exact absurd ⟨of_decide_eq_true rfl, of_decide_eq_true rfl⟩ beside

/-- Settles O55: a step is a tick, which leaves epochs and INCREMENT, or the front command, which keeps the invariant. -/
theorem stepKeepsInvariant : Obligations.StepKeepsInvariant := by
  intro s t h ht
  unfold step at ht
  split at ht
  · obtain rfl := Host.Outcome.next.inj ht
    exact idle_inv h
  · rename_i c rest hq
    have begun : Inv { s with pending := rest } := h.of_same rfl rfl
    exact exec_inv begun ht

end Sys2Proof.Machine
end

section
/-! SUPPORT. The commands of family TIME that read (R167, R173, Table TI-7). -/

namespace Sys2Proof.Machine

theorem notEthPort_of_ethernet {s : State} {p : Nat} {c : PortCfg} (hc : s.pcfg p = some c) (h1 : c.type = 1) : notEthPort s p = none := by
  simp [notEthPort, hc, h1]

/-- Table TI-7: 32 bytes, which begin with TIME, its fraction, the step epoch and TIME_VALID. -/
theorem bodyTimeGet_answers (vi : Nat) (e : Entry) (s : State) : ∃ d, bodyTimeGet vi e s = .read s [] d ∧ d.length = 32
    ∧ (putLe 8 s.timeNs ++ putLe 2 (s.time16 % 2 ^ 16) ++ putLe 1 s.tim.epoch ++ putLe 1 (b2n s.tim.valid)) <+: d := by
  refine ⟨_, rfl, ?_, ?_⟩
  · simp only [List.length_append, putLe_length, zeros, List.length_replicate]
  · simp only [List.append_assoc, List.prefix_append_right_inj, List.prefix_append]

/-- R167: what a read of a timestamp queue reports and hands over; the queue keeps the later entries. -/
theorem TsQueue.read_eq (q : TsQueue) (n : Nat) : q.read n = ({ q with q := q.q.drop n, overflow := false, lost := 0 },
    putLe 1 (q.q.take n).length ++ putLe 1 (b2n q.overflow) ++ zeros 2 ++ putLe 4 (sat 32 q.lost), (q.q.take n).flatMap TsEntry.bytes) := rfl

section Queues
variable {vi : Nat} {e : Entry} {s : State} {q : TsQueue}

theorem bodyTimeTxTsRead_of_owned {c : PortCfg} (hc : s.pcfg (e.p 24 1) = some c) (h1 : c.type = 1) (ho : s.ownsPort vi (e.p 24 1) = true)
    (hmin : 0 < e.p 25 1) (hmax : e.p 25 1 ≤ 64) (hl : 16 * e.p 25 1 ≤ e.dataLen) (hq : mgetD s.tim.txq (e.p 24 1) {} = q) :
    bodyTimeTxTsRead vi e s = {
      st := { s with tim := { s.tim with
        txq := mset s.tim.txq (e.p 24 1) { q with q := q.q.drop (e.p 25 1), overflow := false, lost := 0 } } },
      result := putLe 1 (q.q.take (e.p 25 1)).length ++ putLe 1 (b2n q.overflow) ++ zeros 2 ++ putLe 4 (sat 32 q.lost),
      data := (q.q.take (e.p 25 1)).flatMap TsEntry.bytes } := by
  subst hq
  unfold bodyTimeTxTsRead
  simp only [notEthPort_of_ethernet hc h1, ho, Bool.not_true, Bool.false_eq_true, if_false]
  rw [if_neg (by omega), if_neg (by omega), TsQueue.read_eq]

theorem bodyTimeCaptureRead_of_sound (hp : e.p 24 1 < 2) (hmin : 0 < e.p 25 1) (hmax : e.p 25 1 ≤ 16) (hl : 16 * e.p 25 1 ≤ e.dataLen)
    (hq : mgetD s.tim.capq (e.p 24 1) {} = q) : bodyTimeCaptureRead vi e s = {
      st := { s with tim := { s.tim with
        capq := mset s.tim.capq (e.p 24 1) { q with q := q.q.drop (e.p 25 1), overflow := false, lost := 0 } } },
      result := putLe 1 (q.q.take (e.p 25 1)).length ++ putLe 1 (b2n q.overflow) ++ zeros 2 ++ putLe 4 (sat 32 q.lost),
      data := (q.q.take (e.p 25 1)).flatMap TsEntry.bytes } := by
  subst hq
  unfold bodyTimeCaptureRead
  dsimp only
  rw [if_neg (by omega), if_neg (by omega), TsQueue.read_eq]

end Queues

/-- Settles O17: each command is completed with what its body gives under the clause's conditions. -/
theorem timeReadCommandsComplete : Obligations.TimeReadCommandsComplete := by
  intro vi io e s
  refine ⟨fun h => ?get, fun c q h hc h1 ho hmin hmax hl hq => ?transmit, fun q h hp hmin hmax hl hq => ?capture⟩
  case get =>
    obtain ⟨d, hd, hlen, hstart⟩ := bodyTimeGet_answers vi e (taken vi s)
    exact ⟨d, next_runCommand_of_body h hd, hlen, hstart⟩
  case transmit => exact next_runCommand_of_body h (bodyTimeTxTsRead_of_owned hc h1 ho hmin hmax hl hq)
  case capture => exact next_runCommand_of_body h (bodyTimeCaptureRead_of_sound hp hmin hmax hl hq)

end Sys2Proof.Machine
end

section
/-! SUPPORT. The commands of family TIME that write settings, TIME and the pins (R154, R158, R159, R168, R172, R173, R175). -/

namespace Sys2Proof.Machine

/-! ### The step limit, INCREMENT and TIME -/

section Clock
variable {vi : Nat} {e : Entry} {s : State}

theorem bodyTimeConfig_of_sound {v : Nat} (hv : v = if e.p 24 8 = 0 then 1000000 else e.p 24 8) (hle : v ≤ 2 ^ 62) :
    bodyTimeConfig vi e s = .ok { s with tim := { s.tim with stepLimit := v } } := by
  unfold bodyTimeConfig
  dsimp only
  rw [← hv, if_neg (Nat.not_lt.mpr hle)]

/-- R154: an INCREMENT within ±500 ppm of nominal is set, and the answer is TIME at the first tick that uses it. -/
theorem bodyTimeSetIncrement_of_near (h : ((e.p 24 8 : Int) - 0x0000CCCCCCCCCCCD).natAbs * 2000 ≤ 0x0000CCCCCCCCCCCD) :
    bodyTimeSetIncrement vi e s = .ok { s with tim := { s.tim with increment := BitVec.ofNat 64 (e.p 24 8) } }
      (putLe 8 ((s.tim.time + BitVec.ofNat 112 (e.p 24 8)).toNat / 2 ^ 48)) := by
  unfold bodyTimeSetIncrement
  dsimp only
  rw [if_neg (by omega)]

/-- R158, R159: a step within the limit, or forced, or before TIME is VALID, waits for its step tick. -/
theorem bodyTimeStep_of_sound {mode : Nat} (hmode : mode = e.p 24 1) (h12 : mode = 1 ∨ mode = 2)
    (hq : s.epochQueued ((s.tim.epoch + 1) % 4) = false)
    (hsize : s.tim.valid = false ∨ bit (e.p 25 1) 0 = true ∨ stepSize s (mode == 2) (e.p 32 8) (e.p 26 2) ≤ s.tim.stepLimit * 2 ^ 48) :
    bodyTimeStep vi e s = { st := { s with tim := { s.tim with
        step := some { relative := mode == 1, value := if mode = 1 then sx 64 (e.p 32 8) else (e.p 32 8 : Int), frac := e.p 26 2,
                       force := bit (e.p 25 1) 0, at_ := s.mono + 1250 * Config.tick } } }, wait := some (.stepTick, true) } := by
  subst hmode
  have allowed : ¬ (s.tim.valid = true ∧ ¬ bit (e.p 25 1) 0 = true
      ∧ s.tim.stepLimit * 2 ^ 48 < stepSize s (e.p 24 1 == 2) (e.p 32 8) (e.p 26 2)) := by
    rintro ⟨hvalid, hforce, hlimit⟩
    rcases hsize with h | h | h
    · rw [h] at hvalid
      cases hvalid
    · exact hforce h
    · omega
  unfold bodyTimeStep
  dsimp only
  rw [if_neg (by omega), if_neg allowed, hq, if_neg Bool.false_ne_true]
  rfl

end Clock

/-! ### TIME.PORT -/

theorem bodyTimePort_of_ethernet {vi p : Nat} {e : Entry} {c : PortCfg} {s u : State} (hp : p = e.p 24 1) (hc : s.pcfg p = some c)
    (h1 : c.type = 1) (hi : e.p 26 2 ≤ 1000) (ht : s.onTrial = false)
    (hu : u = probeRefresh p { s with tim := { s.tim with cfg := { s.tim.cfg with ports := mset s.tim.cfg.ports p {
      tsEnable := bit (e.p 25 1) 0, probeEnable := bit (e.p 25 1) 1, oneStep := bit (e.p 25 1) 2, asym := sx 32 (e.p 28 4), domain := e.p 34 1,
      interval := if e.p 26 2 = 0 then 125 else e.p 26 2, threshold := if e.p 32 2 = 0 then 100 else e.p 32 2 } } } }) :
    bodyTimePort vi e s = .ok (saveSettings u)
      (putLe 8 (if (u.probe p).st = .valid then wrapInt 64 (u.probe p).baseline else 0) ++ putLe 1 (u.probe p).st.code) := by
  subst hp hu
  unfold bodyTimePort
  simp only [notEthPort_of_ethernet hc h1]
  rw [if_neg (by split <;> omega), storing_ok ht]

/-! ### TIME.PULSE_OUT and TIME.PULSE_IN -/

/-- A pulse output with its settings; a pulse that is high outlasts the change. -/
def State.pulseSet (s : State) (pin : Nat) (c : PulseCfg) (x : Pulse) (high : Option Nat) : State :=
  ({ s with tim := { s.tim with cfg := { s.tim.cfg with pulses := mset s.tim.cfg.pulses pin c } } } : State).setPulse pin
    { x with highUntil := high }

theorem count_onTrial (ev idx n : Nat) (s : State) : (count ev idx n s).onTrial = s.onTrial := by
  have upd : (count ev idx n s).upd = s.upd := (count_changes ev idx n s).same .upd (by decide)
  rw [State.onTrial, upd, State.onTrial]

section PulseOut
variable {vi pin : Nat} {e : Entry} {c : PulseCfg} {s : State} (hp : pin = e.p 24 1) (h4 : pin < 4) (ht : s.onTrial = false)
  (hc : c = { mode := e.p 25 1, lane := e.p 26 1, freq := e.p 27 1, width := e.p 28 4 + e.p 52 4 * 2 ^ 32, target := e.p 32 8,
              period := e.p 40 8, comp := sx 16 (e.p 48 2) })
include hp h4 ht hc

theorem bodyTimePulseOut_of_off (hm : c.mode = 0) (hl : c.lane = 0) (hf : c.freq = 0) :
    bodyTimePulseOut vi e s = .ok (saveSettings (s.pulseSet pin c {} (s.pulse pin).highUntil)) (putLe 8 0) := by
  subst hp hc
  dsimp only at hm hl hf
  unfold bodyTimePulseOut
  dsimp only
  rw [if_neg (by omega), if_neg (by omega), if_pos hm, if_neg Bool.false_ne_true, storing_ok ht,
    State.pulseSet]

section OneShot
variable (hm : c.mode = 1) (hl : c.lane = 0) (hf : c.freq = 0) (hmin : 10 ≤ c.width) (hmax : c.width ≤ 2 ^ 39)
include hm hl hf hmin hmax

theorem bodyTimePulseOut_of_future (hfut : targetClass c.target s.timeNs = .future) :
    bodyTimePulseOut vi e s = .ok (saveSettings (s.pulseSet pin c {} (s.pulse pin).highUntil)) (putLe 8 c.target) := by
  subst hp hc
  dsimp only at hm hl hf hmin hmax hfut
  unfold bodyTimePulseOut
  dsimp only
  rw [if_neg (by omega), if_neg (by omega), if_neg (by omega), if_pos hm, if_neg (by omega), if_pos hfut, if_neg Bool.false_ne_true, storing_ok ht,
    State.pulseSet]

/-- R157: a target that is due is late, and its edge leaves at the next tick. -/
theorem bodyTimePulseOut_of_due (hdue : targetClass c.target s.timeNs = .due) : bodyTimePulseOut vi e s =
    .ok (saveSettings ((count Cn.timePulseLate 0 1 s).pulseSet pin c { late := true } (s.pulse pin).highUntil)) (putLe 8 s.nextTickNs) := by
  subst hp hc
  dsimp only at hm hl hf hmin hmax hdue
  unfold bodyTimePulseOut
  dsimp only
  rw [if_neg (by omega), if_neg (by omega), if_neg (by omega), if_pos hm, if_neg (by omega), if_neg (by rw [hdue]; decide), if_pos hdue, if_pos rfl,
    storing_ok ((count_onTrial ..).trans ht), State.pulseSet]

end OneShot

theorem bodyTimePulseOut_of_periodic {first : Nat} (hm : c.mode = 2) (hl : c.lane = 0) (hf : c.freq = 0) (hpmin : 100 ≤ c.period)
    (hpmax : c.period ≤ 2 ^ 40) (hmin : 10 ≤ c.width) (hmax : 2 * c.width ≤ c.period) (hph : c.target < c.period)
    (hfirst : first = nextAligned c.target c.period s.timeNs) :
    bodyTimePulseOut vi e s = .ok (saveSettings (s.pulseSet pin c { nextEdge := first } (s.pulse pin).highUntil)) (putLe 8 first) := by
  subst hp hc
  dsimp only at hm hl hf hpmin hpmax hmin hmax hph hfirst
  unfold bodyTimePulseOut
  dsimp only
  rw [if_neg (by omega), if_neg (by omega), if_neg (by omega), if_neg (by omega), if_pos hm, if_neg (by omega), if_neg Bool.false_ne_true,
    ← hfirst, storing_ok ht, State.pulseSet]

/-- R175: a clock recovered from a lane of an Ethernet port is squelched while the port is not UP. -/
theorem bodyTimePulseOut_of_recovered {p : Nat} {pc : PortCfg} (hm : c.mode = 3) (hl : c.lane ≤ 127) (hf : c.freq = 1 ∨ c.freq = 2)
    (hport : s.portOfLane c.lane = some p) (hpc : s.pcfg p = some pc) (h1 : pc.type = 1) :
    bodyTimePulseOut vi e s = .ok (saveSettings (s.pulseSet pin c { squelched := !s.portUp p } (s.pulse pin).highUntil)) (putLe 8 0) := by
  subst hp hc
  dsimp only at hm hl hf hport
  unfold bodyTimePulseOut
  simp only [hport, notEthPort_of_ethernet hpc h1]
  rw [if_neg (by omega), if_neg (by omega), if_neg (by omega), if_neg (by omega), if_neg (by omega), if_neg (by omega), if_neg Bool.false_ne_true, storing_ok ht,
    State.pulseSet]

end PulseOut

theorem bodyTimePulseIn_of_sound {vi : Nat} {e : Entry} {s : State} (hp : e.p 24 1 < 2) (he : e.p 25 1 ≤ 2) (ht : s.onTrial = false) :
    bodyTimePulseIn vi e s = .ok (saveSettings { s with tim := { s.tim with
      cfg := { s.tim.cfg with pulseIns := mset s.tim.cfg.pulseIns (e.p 24 1) { edge := e.p 25 1, comp := sx 16 (e.p 26 2) } } } }) := by
  unfold bodyTimePulseIn
  dsimp only
  rw [if_neg (by omega)]
  exact storing_ok ht

/-- Settles O16: each command is completed with what its body gives under the clause's conditions. -/
theorem timeSettingCommandsComplete : Obligations.TimeSettingCommandsComplete := by
  intro vi io e s
  refine ⟨fun v h hv hle => next_runCommand_of_body h (bodyTimeConfig_of_sound (s := taken vi s) hv hle),
    fun h hn => next_runCommand_of_body h (bodyTimeSetIncrement_of_near hn),
    fun mode h hm h12 hq hs => next_runCommand_of_body h (bodyTimeStep_of_sound (s := taken vi s) hm h12 hq hs),
    fun p c u h hp hc h1 hi ht hu => next_runCommand_of_body h (bodyTimePort_of_ethernet (s := taken vi s) hp hc h1 hi ht hu),
    fun pin c set h hp h4 ht hc hset => ?pulse,
    fun h hp he ht => next_runCommand_of_body h (bodyTimePulseIn_of_sound (s := taken vi s) hp he ht)⟩
  subst hset
  refine ⟨fun hm hl hf => ?off, fun hm hl hf hmin hmax hfut => ?future, fun hm hl hf hmin hmax hdue => ?due,
    fun first hm hl hf hpmin hpmax hmin hmax hph hfirst => ?periodic, fun p pc hm hl hf hport hpc h1 => ?recovered⟩
  case off => exact next_runCommand_of_body h (bodyTimePulseOut_of_off (s := taken vi s) hp h4 ht hc hm hl hf)
  case future => exact next_runCommand_of_body h (bodyTimePulseOut_of_future (s := taken vi s) hp h4 ht hc hm hl hf hmin hmax hfut)
  case due => exact next_runCommand_of_body h (bodyTimePulseOut_of_due (s := taken vi s) hp h4 ht hc hm hl hf hmin hmax hdue)
  case periodic => exact next_runCommand_of_body h (bodyTimePulseOut_of_periodic (s := taken vi s) hp h4 ht hc hm hl hf hpmin hpmax hmin hmax hph hfirst)
  case recovered => exact next_runCommand_of_body h (bodyTimePulseOut_of_recovered (s := taken vi s) hp h4 ht hc hm hl hf hport hpc h1)

end Sys2Proof.Machine
end

section
/-! SUPPORT. The step tick and the pulse pins (R158, R161, R172, R173, Table TI-2). -/

namespace Sys2Proof.Machine

/-! ### The step tick -/

theorem count_tim (ev idx n : Nat) (s : State) : (count ev idx n s).tim = s.tim := (count_changes ..).tim_eq
theorem notify_tim (ev : Nat × Nat) (payload : List Byte) (vis : List Nat) (s : State) : (notify ev payload vis s).tim = s.tim :=
  (notify_changes ..).tim_eq

/-- A step tick leaves of the time engine what the pulses do not hold. -/
theorem stepPulse_keeps {β : Type} (g : Tim → β) (hg : ∀ x ps, g { x with pulses := ps } = g x) (pin : Nat) (s : State) :
    g (stepPulse pin s).tim = g s.tim := by
  have set (x : Pulse) : g (s.setPulse pin x).tim = g s.tim := hg ..
  unfold stepPulse
  extract_lets c x
  split
  · split
    · rfl
    · split
      · rw [count_tim, set]
      · rw [count_tim, notify_tim]
        exact set _
  · split
    · exact set _
    · rfl

/-- TIME after a step, before the pulses follow. -/
def timeStepped (p : PendingStep) (s : State) : State :=
  { s with tim := { s.tim with time := p.newTime s.tim.time, epoch := nextStepEpoch s.tim.epoch, valid := true, step := none } }

theorem applyStep_eq (p : PendingStep) (s : State) : ∃ cnt sch pay test result, applyStep p s =
    completeWaiting test result (count Cn.timeSteps 0 1 (notify Ev.timeStepped pay []
      { foldS (List.range 4) (timeStepped p s) stepPulse with cnt := cnt, sch := sch })) := ⟨_, _, _, _, _, rfl⟩

/-- The pulses aside, a step changes TIME, the step epoch, TIME_VALID and the step that was pending. -/
theorem applyStep_keeps {β : Type} (g : Tim → β) (hg : ∀ x ps, g { x with pulses := ps } = g x) (p : PendingStep) (s : State) :
    g (applyStep p s).tim = g (timeStepped p s).tim := by
  obtain ⟨cnt, sch, pay, test, result, stepped⟩ := applyStep_eq p s
  rw [stepped, (completeWaiting_changes ..).tim_eq, count_tim, notify_tim]
  exact foldS_keeps (fun s => g s.tim) stepPulse (stepPulse_keeps g hg) (List.range 4) (timeStepped p s)

theorem exec_timeStepTick_of_due {s : State} {p : PendingStep} (hp : s.tim.step = some p) (hd : p.at_ ≤ s.mono) :
    exec .timeStepTick s = .next (applyStep p s) := by
  show execTimeStepTick s = _
  simp only [execTimeStepTick, hp, State.due, hd, decide_true, when_true]

/-! ### Pulse outputs -/

section Outputs
variable {pin : Nat} {s : State}

/-- R157, R172: a one-shot whose target is reached, or was late, goes high once. -/
theorem exec_pulseOneShotFire_of_reached (hm : (s.pulseCfg pin).mode = 1) (hs : (s.pulse pin).spent = false)
    (hp : targetClass (s.pulseCfg pin).target s.timeNs ≠ .past)
    (hr : (s.pulse pin).late = true ∨ s.pulseReached (s.pulseCfg pin) (s.pulseCfg pin).target = true) :
    exec (.pulseOneShotFire pin) s = .next (pulseHigh pin (s.pulseCfg pin) { s.pulse pin with spent := true }
      (if (s.pulse pin).late then s.mono else s.edgeAt (s.pulseCfg pin) (s.pulseCfg pin).target) s) := by
  have reached : ((s.pulse pin).late || s.pulseReached (s.pulseCfg pin) (s.pulseCfg pin).target) = true := Bool.or_eq_true_iff.mpr hr
  show execPulseOneShotFire pin s = _
  simp only [execPulseOneShotFire, hm, hs, decide_eq_true hp, reached, beq_self_eq_true, Bool.not_false, Bool.and_self, when_true]

theorem exec_pulsePeriodicEdge_of_reached (hm : (s.pulseCfg pin).mode = 2)
    (hr : s.pulseReached (s.pulseCfg pin) (s.pulse pin).nextEdge = true) : exec (.pulsePeriodicEdge pin) s =
      .next (pulseHigh pin (s.pulseCfg pin) { s.pulse pin with
        nextEdge := nextAligned (s.pulseCfg pin).target (s.pulseCfg pin).period (s.pulse pin).nextEdge }
        (s.edgeAt (s.pulseCfg pin) (s.pulse pin).nextEdge) s) := by
  show execPulsePeriodicEdge pin s = _
  simp only [execPulsePeriodicEdge, hm, hr, beq_self_eq_true, Bool.and_self, when_true]

theorem exec_pulseWidthEnd_of_due {h : Nat} (hh : (s.pulse pin).highUntil = some h) (hd : h ≤ s.mono) : exec (.pulseWidthEnd pin) s =
    .next ((s.setPulse pin { s.pulse pin with highUntil := none }).emit (.pulse pin false h)) := by
  show execPulseWidthEnd pin s = _
  simp only [execPulseWidthEnd, hh, State.due, hd, decide_true, when_true]

end Outputs

/-! ### Pulse inputs -/

/-- The entry that an edge on a pulse input makes: its time with IN_COMP taken off (R173). -/
def State.captureEntry (s : State) (pin : Nat) : TsEntry :=
  let t := wrapInt 80 ((s.time16 : Int) - (mgetD s.tim.cfg.pulseIns pin {}).comp * 65536 / 10)
  { time := t / 2 ^ 16, frac := t % 2 ^ 16, id := (mgetD s.tim.capq pin {}).nextId, epoch := s.tim.epoch }

def State.setCapq (s : State) (pin : Nat) (q : TsQueue) : State := { s with tim := { s.tim with capq := mset s.tim.capq pin q } }

theorem State.setCapq_changes (s : State) (pin : Nat) (q : TsQueue) : Changes [.tim] s (s.setCapq pin q) :=
  Changes.set_tim Changes.rfl rfl (by decide)

theorem TsQueue.push_of_room {q : TsQueue} {cap : Nat} (e : TsEntry) (h : q.q.length < cap) :
    q.push cap e = ({ q with q := q.q ++ [e] }, false, false) := if_pos h

/-- R167, R173: a full queue discards the entry, and its first loss opens an episode. -/
theorem TsQueue.push_of_full {q : TsQueue} {cap : Nat} (e : TsEntry) (h : cap ≤ q.q.length) :
    q.push cap e = ({ q with overflow := true, lost := q.lost + 1 }, true, !q.overflow) := if_neg (Nat.not_lt.mpr h)

section Inputs
variable {pin : Nat} {rising : Bool} {s : State} {q : TsQueue} (h2 : pin < 2) (hs : 2 ≤ s.dev.step)
  (he : (mgetD s.tim.cfg.pulseIns pin {}).edge = (if rising then 1 else 2)) (hq : q = mgetD s.tim.capq pin {})
include h2 hs he

/-- R173: the edge that a pin's settings select joins its queue. -/
theorem execPulseInEdge_of_selected {r : TsQueue × Bool × Bool}
    (hr : ({ mgetD s.tim.capq pin {} with nextId := ((mgetD s.tim.capq pin {}).nextId + 1) % 2 ^ 16 } : TsQueue).push 16 (s.captureEntry pin) = r) :
    execPulseInEdge pin rising s = .next (
      let t := if r.2.1 then count Cn.timeCaptureLost 0 1 (s.setCapq pin r.1) else s.setCapq pin r.1
      if r.2.2 then notify Ev.timeCaptureOverflow (putLe 1 pin) [] t else t) := by
  have selected : (if rising then (mgetD s.tim.cfg.pulseIns pin {}).edge == 1 else (mgetD s.tim.cfg.pulseIns pin {}).edge == 2) = true := by
    rw [he]
    cases rising <;> rfl
  subst hr
  unfold execPulseInEdge
  extract_lets c
  rw [selected, decide_eq_true h2, decide_eq_true hs]
  rfl

include hq

theorem exec_pulseInEdge_of_room (h : q.q.length < 16) : exec (.pulseInEdge pin rising) s =
    .next (s.setCapq pin { q with q := q.q ++ [s.captureEntry pin], nextId := (q.nextId + 1) % 2 ^ 16 }) := by
  subst hq
  exact execPulseInEdge_of_selected h2 hs he (TsQueue.push_of_room _ h)

theorem exec_pulseInEdge_of_full (h : 16 ≤ q.q.length) : ∃ t, exec (.pulseInEdge pin rising) s = .next t
    ∧ mgetD t.tim.capq pin {} = { q with nextId := (q.nextId + 1) % 2 ^ 16, overflow := true, lost := q.lost + 1 }
    ∧ Changes [.rings, .tim, .cnt, .out] s t := by
  subst hq
  refine ⟨_, execPulseInEdge_of_selected h2 hs he (TsQueue.push_of_full _ h), ?_, ?_⟩
  · dsimp only
    rw [if_pos rfl]
    split
    · rw [notify_tim, count_tim]
      exact mgetD_mset_self ..
    · rw [count_tim]
      exact mgetD_mset_self ..
  · have lost (r : TsQueue) : Changes [.rings, .tim, .cnt, .out] s (count Cn.timeCaptureLost 0 1 (s.setCapq pin r)) :=
      Changes.via ((State.setCapq_changes s pin r).weaken (by decide)) (count_changes ..) (by decide)
    exact Changes.ite (Changes.via (lost _) (notify_changes ..) (by decide)) (lost _)

end Inputs

/-- Settles O18: the tick applies the step that is due, each pin acts under its guard, and an edge finds room in its queue or none. -/
theorem timeEventsComplete : Obligations.TimeEventsComplete := by
  intro s edge
  refine ⟨fun p hp hd => ?step, fun pin hm hs hp hl hr => ?reached, fun pin hm hs hp hl => ?late,
    fun pin hm hr => exec_pulsePeriodicEdge_of_reached hm hr, fun pin h hh hd => exec_pulseWidthEnd_of_due hh hd,
    fun pin rising q h2 hs he hq => ⟨fun h => ?room, exec_pulseInEdge_of_full h2 hs he hq⟩⟩
  case step =>
    refine ⟨_, exec_timeStepTick_of_due hp hd, ?_, ?_, ?_, ?_, ?_, applyStep_changes p s⟩
    · exact applyStep_keeps Tim.time (fun _ _ => rfl) p s
    · exact applyStep_keeps Tim.epoch (fun _ _ => rfl) p s
    · exact applyStep_keeps Tim.valid (fun _ _ => rfl) p s
    · exact applyStep_keeps Tim.step (fun _ _ => rfl) p s
    · exact applyStep_keeps Tim.increment (fun _ _ => rfl) p s
  case reached => rw [exec_pulseOneShotFire_of_reached hm hs hp (.inr hr), hl, if_neg Bool.false_ne_true, pulseHigh]
  case late => rw [exec_pulseOneShotFire_of_reached hm hs hp (.inl hl), hl, if_pos rfl, pulseHigh]
  case room =>
    refine ⟨_, s.captureEntry pin, exec_pulseInEdge_of_room h2 hs he hq h, ?_, rfl, ?_, ?_, State.setCapq_changes ..⟩
    · rw [State.setCapq, mgetD_mset_self]
    · rw [hq, State.captureEntry]
    · rw [State.setCapq, mgetD_mset_self]

end Sys2Proof.Machine
end

section
/-! SUPPORT. Path-delay probes (R168, R169, Table TI-5). -/

namespace Sys2Proof.Machine

@[simp] theorem State.setProbe_probe (s : State) (port : Nat) (x : Probe) : (s.setProbe port x).probe port = x := mgetD_mset_self ..

section Probes
variable {port : Nat} {s : State}

theorem exec_probeSend_of_due (hst : (s.probe port).st ≠ .off) (hw : (s.probe port).waiting = none) (hd : s.due (s.probe port).nextAt = true)
    (ht : s.mayTransmit port = true) : exec (.probeSend port) s = .next ((s.setProbe port { s.probe port with
      seqId := ((s.probe port).seqId + 1) % 2 ^ 16, waiting := some ((s.probe port).seqId, s.txStamp port s.subTick),
      nextAt := s.mono + Config.ms (s.tport port).interval }).drawn.emit (.probe port (s.probe port).seqId (s.tport port).domain)) := by
  show execProbeSend port s = _
  simp only [execProbeSend, hw, hd, ht, decide_eq_true hst, Option.isNone_none, Bool.and_self, when_true]

theorem exec_pdelayReqReceive_of_enabled (seq : Nat) (hp : (s.tport port).probeEnable = true) (hu : s.portUp port = true)
    (ht : s.mayTransmit port = true) : exec (.pdelayReqReceive port seq (s.tport port).domain) s =
      .next (s.drawn.drawn.emit (.probeAnswer port seq (s.rxStamp port) (s.drawn.txStamp port s.drawn.subTick))) := by
  show execPdelayReqReceive port seq (s.tport port).domain s = _
  simp only [execPdelayReqReceive, hp, hu, ht, beq_self_eq_true, Bool.and_self, when_true]

/-- R168: the response to the probe that waits makes a sample. -/
theorem exec_pdelayRespReceive_of_waiting {seq t1 : Nat} (t2 t3 : Nat) (hst : (s.probe port).st ≠ .off)
    (hw : (s.probe port).waiting = some (seq, t1)) (hu : s.portUp port = true) : exec (.pdelayRespReceive port seq t2 t3) s =
      .next (probeSample port ((((s.rxStamp port : Int) - t1) - ((t3 : Int) - t2)) / 2)
        (s.drawn.setProbe port { s.probe port with waiting := none, unanswered := 0 })) := by
  show execPdelayRespReceive port seq t2 t3 s = _
  simp only [execPdelayRespReceive, hw, hu, decide_eq_true hst, beq_self_eq_true, Bool.and_self, when_true]

/-- Table TI-5: up to the eighth sample the measurement collects. -/
theorem probeSample_of_measuring (v : Int) (hst : (s.probe port).st = .measuring) (hl : (s.probe port).samples.length < 7) :
    probeSample port v s = s.setProbe port { s.probe port with samples := (s.probe port).samples ++ [v] } := by
  have more : ((s.probe port).samples ++ [v]).length < 8 := by
    rw [List.length_append]
    exact Nat.succ_lt_succ hl
  simp only [probeSample, hst, more, if_true]

/-- R169: a probe that no response came to within PROBE_INTERVAL is missed; the third in a row is reported. -/
theorem exec_probeUnanswered_of_due {w : Nat × Nat} (hst : (s.probe port).st ≠ .off) (hw : (s.probe port).waiting = some w)
    (hd : s.due (s.probe port).nextAt = true) : exec (.probeUnanswered port) s = .next (
      if (s.probe port).unanswered + 1 < 3 then
        s.setProbe port { s.probe port with waiting := none, unanswered := (s.probe port).unanswered + 1 }
      else
        let u := s.setProbe port { s.probe port with st := .measuring, samples := [], deviating := [], waiting := none, unanswered := 0 }
        count Cn.timeProbeLost port 1 (notify Ev.timeProbeLost (putLe 1 port) (u.ownersOf port) u)) := by
  show execProbeUnanswered port s = _
  simp only [execProbeUnanswered, hw, hd, decide_eq_true hst, Option.isSome_some, Bool.and_self, when_true]

end Probes

/-- Settles O19: each event acts under its guard; a sample of a measurement that is not full joins the others. -/
theorem probeEventsComplete : Obligations.ProbeEventsComplete := by
  intro port s
  refine ⟨exec_probeSend_of_due, exec_pdelayReqReceive_of_enabled, fun seq t1 t2 t3 => exec_pdelayRespReceive_of_waiting t2 t3,
    fun seq t1 t2 t3 hst hw hu hl => ?sample, fun w hst hw hd hn => ?missed, fun w hst hw hd hn => ?lost⟩
  case sample =>
    have answered : (s.drawn.setProbe port { s.probe port with waiting := none, unanswered := 0 }).probe port =
      { s.probe port with waiting := none, unanswered := 0 } := State.setProbe_probe ..
    refine ⟨_, exec_pdelayRespReceive_of_waiting t2 t3 (by rw [hst]; decide) hw hu, ?_⟩
    rw [probeSample_of_measuring _ (by rw [answered, hst]) (by rw [answered]; exact hl), answered]
    refine ⟨?_, ?_, ?_, ?_⟩
    · rw [State.setProbe_probe]
    · rw [State.setProbe_probe]
    · rw [State.setProbe_probe]
    · exact Changes.via (Changes.via ((State.drawn_changes s).weaken (by decide)) (State.setProbe_changes ..) (by decide))
        (State.setProbe_changes ..) (by decide)
  case missed => rw [exec_probeUnanswered_of_due hst hw hd, if_pos (by omega)]
  case lost =>
    refine ⟨_, exec_probeUnanswered_of_due hst hw hd, ?_⟩
    rw [if_neg (by omega)]
    exact (notify_changes ..).trans (count_changes ..)

end Sys2Proof.Machine
end

section
/-! SUPPORT. Mill and Mash: the end of a parse, the end of a lookup and its time-out, and the parity faults of the flow cache (R183, R186 to
R188, R212, R240). -/

namespace Sys2Proof.Machine

/-! ### The end of a parse -/

/-- Mill finishes the packet that came first of those of its port without a stamp. -/
theorem exec_millParseComplete_of_first {pkt : Nat} {m : MashPkt} {s : State} (hm : s.mpkt? pkt = some m)
    (hf : s.mash.pkts.find? (fun x => x.pkt.inPort == m.pkt.inPort && x.stamp.isNone) = some m) (hs : m.stamp = none)
    (hp : s.dev.phase = .cellar ∨ s.dev.phase = .full) : exec (.millParseComplete pkt) s = .next (millFinish m s) := by
  show execMillParseComplete pkt s = _
  simp only [execMillParseComplete, hm, hf, hs, decide_eq_true hp, Option.isNone_none, beq_self_eq_true, Bool.and_self, when_true]

/-- R182, R435: a packet of no punt class, no PTP and no direct inject needs a lookup. -/
theorem State.millVerdict_of_plain {s : State} {m : MashPkt} {e : Nat} {p : Parse} (hd : m.pkt.direct = none)
    (hc : puntClass p.hdrs = none) (ht : isPtp p.hdrs = false) : s.millVerdict m e p = none := by
  simp only [State.millVerdict, hd, hc, ht, Bool.false_and, Bool.false_eq_true, if_false, ite_self]

/-- R218, R241: a port without run-ahead leaves the flow cache alone. -/
theorem State.touchesCache_of_disabled {s : State} {m : MashPkt} {e : Nat} {p : Parse} (h : (s.raOf m.pkt.inPort).1 = false) :
    s.touchesCache m e p = false := by
  simp only [State.touchesCache, h, Bool.and_false, Bool.false_and]

/-- R183, R186: a sound packet that nothing before the lookup decides goes to the next pipe with its stamp. -/
theorem millFinish_of_plain {m : MashPkt} {pipe : Nat} {win : MillWin} {p : Parse} {s : State} (hp : p = parseFrame m.pkt.bytes)
    (htrunc : p.trunc = false) (herr : p.err = false) (hport : m.pkt.inPort < 128) (hinst : m.pkt.instEpoch = none)
    (hdirect : m.pkt.direct = none) (hpunt : puntClass p.hdrs = none) (hptp : isPtp p.hdrs = false) (hra : (s.raOf m.pkt.inPort).1 = false)
    (hpipe : s.nextPipe = some pipe) (hwin : s.millTake m.pkt.inPort m.pkt.bytes.length = some win) :
    millFinish m s = ((s.modMash (fun x => { x with mill := win })).setMpkt { m with
      stamp := some (s.stampFor m.pkt), stampAt := s.mono, hash := flowHash s.tbl.cfg.hashSeed p.hdrs,
      pipe := pipe, profiles := s.asa.profiles }).modMash (fun x => { x with nextPipe := pipe + 1 }) := by
  have fromLine : decide (128 ≤ m.pkt.inPort) = false := decide_eq_false (by omega)
  subst hp
  unfold millFinish
  simp only [htrunc, herr, hinst, fromLine, hpipe, hwin, Option.any_none, Bool.false_and, Bool.false_eq_true, if_false]
  rw [State.millVerdict_of_plain, State.touchesCache_of_disabled]
  · rfl
  · exact hra
  · exact hdirect
  · exact hpunt
  · exact hptp

/-! ### The end of a lookup -/

section Lookup
variable {pkt epoch : Nat} {m : MashPkt} {s : State} (hm : s.mpkt? pkt = some m) (hs : m.stamp = some epoch) (hv : m.verdict = none)

/-- R212: a port without an entry in the packet's epoch runs no program. -/
theorem fullLookup_of_no_entry (herr : (parseFrame m.pkt.bytes).err = false) (h0 : epoch ≠ 0)
    (hport : mget (s.tablesOf epoch).ports m.pkt.inPort = none) : fullLookup m epoch s = (some (.discard 7, []), s) := by
  have noRun : s.runFor m epoch (parseFrame m.pkt.bytes) = none := by simp only [State.runFor, if_neg h0, hport]
  simp only [fullLookup, herr, Bool.false_eq_true, if_false, noRun]

include hm hs hv

theorem exec_lookupComplete_of_stamped : exec (.lookupComplete pkt) s = .next (lookupComplete m epoch s) := by
  show execLookupComplete pkt s = _
  simp only [execLookupComplete, hm, hs, hv]

/-- R187: a lookup that reaches a verdict decides it. -/
theorem exec_lookupComplete_of_verdict {v : Verdict} {ops : List (Option Nat × Nat)} {u : State}
    (hl : fullLookup m epoch s = (some (v, ops), u)) : exec (.lookupComplete pkt) s =
      .next (decideVerdict { m with polOps := ops, asaAsk := none, rdAsk := none, bankWait := false } v u) := by
  rw [exec_lookupComplete_of_stamped hm hs hv, lookupComplete, hl]

theorem exec_lookupComplete_of_waiting {u : State} (hl : fullLookup m epoch s = (none, u)) : exec (.lookupComplete pkt) s = .next u := by
  rw [exec_lookupComplete_of_stamped hm hs hv, lookupComplete, hl]

/-- R188: 20 µs after its stamp a packet without a verdict is refused. -/
theorem exec_lookupTimeout_of_due (hd : m.stampAt + Config.us 20 ≤ s.mono) :
    exec (.lookupTimeout pkt) s = .next (lookupTimeout m s) := by
  show execLookupTimeout pkt s = _
  simp only [execLookupTimeout, hm, hs, hv, State.due, decide_eq_true hd, Option.isSome_some, Option.isNone_none, Bool.and_self, when_true]

end Lookup

/-- A time-out within the rate of its notification is only counted. -/
theorem lookupTimeout_of_rated {m : MashPkt} {n : Nat} {tos : AMap Rate} {s : State}
    (hr : rated s.tbl.timeouts m.pkt.inPort s.mono = (false, n, tos)) : lookupTimeout m s =
      decideVerdict { m with asaAsk := none, rdAsk := none, bankWait := false } (.discard 5)
        (count Cn.lkpTimeout m.pkt.inPort 1 { s with tbl := { s.tbl with timeouts := tos } }) := by
  simp only [lookupTimeout, hr, Bool.false_eq_true, if_false]

/-! ### Parity faults of the flow cache -/

/-- R240: the set's UNTRACKED count is held for 25 µs and lookups miss the way. -/
def parityHeld (set way : Nat) (s : State) : State :=
  s.modMash (fun x => { x with parity := mset x.parity set (s.mono + Config.us 25), badWays := addOnce x.badWays (set * 8 + way) })

theorem exec_cacheParityError_of_way {set way : Nat} {s : State} (hw : way < 8) (hs : set < 2 ^ 17) :
    exec (.cacheParityError set way) s = .next
      (count Cn.raCacheParity ((parityHeld set way s).way (set * 8 + way)).inPort 1 (fault 13 3 0 (parityHeld set way s))) := by
  show execCacheParityError set way s = _
  rw [execCacheParityError, decide_eq_true ⟨hw, hs⟩, when_true]
  rfl

theorem exec_cacheSetClear_of_due {set at_ : Nat} {s : State} (hp : mget s.mash.parity set = some at_) (hd : at_ ≤ s.mono) :
    exec (.cacheSetClear set) s = .next (clearSet set s) := by
  show execCacheSetClear set s = _
  simp only [execCacheSetClear, hp, State.due, decide_eq_true hd, when_true]

/-- Settles O28: each event does what its packet's or set's state asks for, under its guard. -/
theorem millAndMashComplete : Obligations.MillAndMashComplete := by
  intro s
  refine ⟨fun pkt m hm hf hs hp => exec_millParseComplete_of_first hm hf hs hp,
    fun pkt m pipe win p hm hf hs hphase hp htrunc herr hport hinst hdirect hpunt hptp hra hpipe hwin => ?taken,
    fun pkt m epoch hm hs hv herr h0 hport => exec_lookupComplete_of_verdict hm hs hv (fullLookup_of_no_entry herr h0 hport),
    fun pkt m epoch v ops u hm hs hv hl => exec_lookupComplete_of_verdict hm hs hv hl,
    fun pkt m epoch u hm hs hv hl => exec_lookupComplete_of_waiting hm hs hv hl,
    fun pkt m epoch hm hs hv hd => exec_lookupTimeout_of_due hm hs hv hd,
    fun pkt m epoch n tos hm hs hv hd hr => ?quiet, fun set way hw hs => ?parity, fun set at_ hp hd => ?clear⟩
  case taken =>
    rw [exec_millParseComplete_of_first hm hf hs (.inr hphase),
      millFinish_of_plain hp htrunc herr hport hinst hdirect hpunt hptp hra hpipe hwin]
  case quiet => rw [exec_lookupTimeout_of_due hm hs hv hd, lookupTimeout_of_rated hr]
  case parity =>
    have reported : Changes [.draws, .rings, .log, .cnt, .out] (parityHeld set way s) _ :=
      (fault_changes 13 3 0 _).trans ((count_changes Cn.raCacheParity ((parityHeld set way s).way (set * 8 + way)).inPort 1 _).weaken (by decide))
    exact ⟨_, exec_cacheParityError_of_way hw hs, reported.same .mash (by decide),
      Changes.via ((State.modMash_changes s _).weaken (by decide)) reported (by decide)⟩
  case clear => exact ⟨_, exec_cacheSetClear_of_due hp hd, rfl, rfl, rfl, rfl, rfl, rfl, clearSet_changes set s⟩

end Sys2Proof.Machine
end

section
/-! SUPPORT. The commands of family TBL and of the run-ahead (R191, R194, R195, R197 to R200, R202, R207, R208, R241, R242, R452, R453). -/

namespace Sys2Proof.Machine

/-! ### Staging and commits -/

section Partition
variable {vi : Nat} {e : Entry} {s : State} (hpart : s.hasPartition vi = true)
include hpart

/-- R191: a buffer of records none of which is refused is staged. -/
theorem bodyTblStage_of_sound {recs : List (List Byte)} {l : List TOp} (hn : e.p 24 4 ≠ 0)
    (hsplit : splitRecs (e.p 24 4) e.buf = (recs, e.dataLen)) (hall : stageAll vi s 0 (s.stagingOf vi) recs = (l, none)) :
    bodyTblStage vi e s = .ok (capacityWarn { s with tbl := { s.tbl with staging := mset s.tbl.staging vi l } })
      (putLe 4 l.length ++ putLe 4 0xFFFFFFFF) := by
  simp only [bodyTblStage, hsplit, hpart, hn, hall, Bool.not_true, Bool.false_eq_true, if_false, ne_eq, not_true_eq_false, or_self]
  rfl

theorem bodyTblAbort_of_partition : bodyTblAbort vi e s =
    .ok (capacityWarn { s with tbl := { s.tbl with staging := mdel s.tbl.staging vi } }) := by
  rw [bodyTblAbort, hpart, Bool.not_true, if_neg Bool.false_ne_true]

theorem bodyTblCommit_of_staged (hs : s.stagingOf vi ≠ []) : bodyTblCommit vi e s =
    commitOrWait vi (s.mono + Config.ms s.tbl.cfg.commitWait) (!bit (e.p 24 1) 0) s := by
  rw [bodyTblCommit, hpart, Bool.not_true, if_neg Bool.false_ne_true, if_neg hs]

/-- R198: a commit that finds four epochs live waits, unless it asks not to. -/
theorem bodyTblCommit_of_full (hs : s.stagingOf vi ≠ []) (hfull : 4 ≤ s.tbl.epochs.length) (hwait : bit (e.p 24 1) 0 = false)
    (hlong : 0 < s.tbl.cfg.commitWait) : bodyTblCommit vi e s =
      { st := s, wait := some (.epochSlot (s.mono + Config.ms s.tbl.cfg.commitWait), false) } := by
  have later : s.mono < s.mono + Config.ms s.tbl.cfg.commitWait := by
    unfold Config.ms
    omega
  rw [bodyTblCommit_of_staged hpart hs, hwait, Bool.not_false, commitOrWait_of_early hfull later]

end Partition

/-- R198, R199: a staging set within the span that leaves nothing dangling is switched to. -/
theorem commitNow_of_sound {vi : Nat} {ops : List TOp} {s : State} (hops : s.stagingOf vi = ops) (hne : ops ≠ [])
    (hspan : s.spanTooWide = false) (hdangle : (s.newestTables.applyAll ops).anyDangle = false) : commitNow vi s =
      .ok (commitOps vi ops { s with tbl := { s.tbl with staging := mdel s.tbl.staging vi } })
        (putLe 2 s.commitNumber ++ zeros 2 ++ putLe 8 s.timeNs) := by
  simp only [commitNow, hops, hne, hspan, hdangle, Bool.false_eq_true, if_false]

theorem bodyTblCommit_of_slot {vi : Nat} {e : Entry} {ops : List TOp} {s : State} (hpart : s.hasPartition vi = true)
    (hops : s.stagingOf vi = ops) (hne : ops ≠ []) (hfree : s.tbl.epochs.length < 4) (hspan : s.spanTooWide = false)
    (hdangle : (s.newestTables.applyAll ops).anyDangle = false) : bodyTblCommit vi e s =
      .ok (commitOps vi ops { s with tbl := { s.tbl with staging := mdel s.tbl.staging vi } })
        (putLe 2 s.commitNumber ++ zeros 2 ++ putLe 8 s.timeNs) := by
  rw [bodyTblCommit_of_staged hpart (by rw [hops]; exact hne), commitOrWait, if_pos hfree, commitNow_of_sound hops hne hspan hdangle]

/-! ### TBL.READ -/

/-- What TBL.READ may name of a group is its number. -/
def TRec.nameOnly : TRec → TRec
  | .group g _ => .group g []
  | r => r

/-- R194: the tables that TBL.READ looks in are those of a live epoch, or of the epoch that the staging set would make. -/
def readView (vi : Nat) (e : Entry) (s : State) : Option (Tables × AMap EncVer) :=
  if bit (e.p 26 1) 0 then some (s.newestTables.applyAll (s.stagingOf vi), commitEncaps s.mono (s.stagingOf vi) s.tbl.encaps)
  else (s.epoch? (e.p 24 2)).map (fun ep => (ep.tables, s.tbl.encaps))

section Read
variable {vi : Nat} {e : Entry} {s : State} {t : Tables} {encs : AMap EncVer}

theorem readView_of_epoch {ep : Epoch} (hb : bit (e.p 26 1) 0 = false) (he : s.epoch? (e.p 24 2) = some ep) :
    readView vi e s = some (ep.tables, s.tbl.encaps) := by
  rw [readView, hb, if_neg Bool.false_ne_true, he, Option.map_some]

theorem readView_of_staging (hb : bit (e.p 26 1) 0 = true) :
    readView vi e s = some (s.newestTables.applyAll (s.stagingOf vi), commitEncaps s.mono (s.stagingOf vi) s.tbl.encaps) := by
  rw [readView, if_pos hb]

/-- R194: the entry that the record names, if the tables hold one. -/
theorem bodyTblRead_of_view {r : TRec} {x : Option TRec} (hlo : le (fit 96 e.buf) 0 1 ≠ 0) (hhi : le (fit 96 e.buf) 0 1 ≤ 8)
    (hr : r = parseTRec (patch (fit 96 e.buf) 1 [1])) (hz : recReserved (patch (fit 96 e.buf) 1 [2]) = false)
    (hview : readView vi e s = some (t, encs)) (hmay : vi = 0 ∨ (s.inst vi).grant.mayRec vi false r.nameOnly = true)
    (hx : (tableEntries encs t (le (fit 96 e.buf) 0 1)).find? (fun y => y.same r) = x) (hlen : ∀ y, x = some y → y.bytes.length ≤ e.dataLen) :
    bodyTblRead vi e s = .read s [if x.isSome then 1 else 0] ((x.map TRec.bytes).getD []) := by
  have inRange : ¬ (le (fit 96 e.buf) 0 1 = 0 ∨ 8 < le (fit 96 e.buf) 0 1) := by omega
  have permitted : ¬ (vi ≠ 0 ∧ (!(s.inst vi).grant.mayRec vi false r.nameOnly) = true) := by
    rintro ⟨hvi, hno⟩
    rw [hmay.resolve_left hvi] at hno
    exact Bool.false_ne_true hno
  unfold readView at hview
  unfold bodyTblRead
  dsimp only
  rw [← hr, if_neg inRange, hz, if_neg Bool.false_ne_true, hview]
  refine (if_neg permitted).trans ?_
  dsimp only
  rw [hx]
  cases x with
  | none => rfl
  | some y => exact if_neg (Nat.not_lt.mpr (hlen y rfl))

end Read

/-! ### TBL.PIN -/

section Pin
variable {vi : Nat} {e : Entry} {s : State} {ep : Epoch} (hpart : s.hasPartition vi = true) (he : s.epoch? (e.p 24 2) = some ep)
include hpart he

theorem bodyTblPin_of_new (hop : e.p 26 1 = 1) (hpin : ep.pin = false) (hroom : (s.tbl.epochs.filter Epoch.pin).length < 3) :
    bodyTblPin vi e s = .ok { s with tbl := { s.tbl with epochs := s.tbl.epochs.map (fun x => if x.num = e.p 24 2 then
      { x with pin := true, st := if x.st = .draining then .pinned else x.st } else x) } } := by
  simp [bodyTblPin, hpart, he, hop, hpin, Nat.not_le.mpr hroom]

theorem bodyTblPin_of_pinned (hop : e.p 26 1 = 1) (hpin : ep.pin = true) : bodyTblPin vi e s = .ok s := by
  simp [bodyTblPin, hpart, he, hop, hpin]

theorem bodyTblPin_of_release (hop : e.p 26 1 = 2) :
    bodyTblPin vi e s = .ok { s with tbl := { s.tbl with epochs := s.tbl.epochs.map (fun x => if x.num = e.p 24 2 then
      { x with pin := false, st := if x.st = .pinned then .draining else x.st } else x) } } := by
  simp [bodyTblPin, hpart, he, hop]

end Pin

/-! ### TBL.DIGEST and TBL.STATUS -/

theorem bytesAt_length (b : List Byte) (off n : Nat) : (bytesAt b off n).length = n := by rw [bytesAt, List.length_map, List.length_range]

/-- Parts of one length put one after the other. -/
theorem length_flatMap_of_forall {α β : Type} {l : List α} {f : α → List β} {k : Nat} (h : ∀ a ∈ l, (f a).length = k) :
    (l.flatMap f).length = l.length * k := by
  rw [List.length_flatMap, List.map_congr_left h, List.map_const', List.sum_replicate_nat]

theorem State.measurement_length (s : State) : s.measurement.length = 48 := by
  unfold State.measurement
  split
  · exact bytesAt_length ..
  · exact List.length_replicate ..

/-- R208, R453, Table TK-4: 664 bytes, which begin with the version, the epoch, the tables and the SUN. -/
theorem bodyTblDigest_answers (vi : Nat) {e : Entry} {s : State} {ep : Epoch} (he : s.epoch? (e.p 24 2) = some ep) (hl : 664 ≤ e.dataLen) :
    ∃ d, bodyTblDigest vi e s = .read s [] d ∧ d.length = 664
      ∧ (putLe 2 1 ++ putLe 2 ep.num ++ putLe 2 (e.p 26 2) ++ putLe 2 s.dev.cfg.sun) <+: d := by
  unfold bodyTblDigest
  simp only [he, Nat.not_lt.mpr hl, if_false]
  refine ⟨_, rfl, ?_, ?_⟩
  · simp only [List.length_append]
    rw [length_flatMap_of_forall (k := 56)]
    · simp [putLe_length, fit_length, bytesAt_length, State.measurement_length, zeros, upFrom]
    · intro n _
      split
      · simp [putLe_length, fit_length, digestOf, zeros]
      · exact List.length_replicate ..
  · iterate 9 refine List.IsPrefix.trans ?_ (List.prefix_append ..)
    exact List.prefix_rfl

/-- Table PL-10: 128 bytes, which begin with the newest epoch and the number of live ones. -/
theorem bodyTblStatus_answers (vi : Nat) (e : Entry) (s : State) : ∃ d, bodyTblStatus vi e s = .read s [] d ∧ d.length = 128
    ∧ (putLe 2 ((s.newest.map Epoch.num).getD 0) ++ putLe 1 s.tbl.epochs.length) <+: d := by
  refine ⟨_, rfl, ?_, ?_⟩
  · simp only [List.length_append]
    rw [length_flatMap_of_forall (k := 4), length_flatMap_of_forall (k := 8)]
    · simp [putLe_length, zeros]
    · intro i _
      simp [putLe_length]
    · intro i _
      split <;> simp [putLe_length]
  · iterate 6 refine List.IsPrefix.trans ?_ (List.prefix_append ..)
    exact List.prefix_rfl

/-! ### TBL.CONFIG, TBL.RA_CONFIG and TBL.RA_FLUSH -/

/-- R207: settings in their ranges whose hold outlasts every sojourn are used and stored; a new hash seed empties the flow cache. -/
theorem bodyTblConfig_of_sound {vi w h p : Nat} {e : Entry} {seed : Word} {s : State} (hw : w = orDefault (e.p 24 2) 1)
    (hh : h = orDefault (e.p 26 2) 100) (hp : p = orDefault (e.p 28 1) 90) (hseed : seed = BitVec.ofNat 32 (e.p 32 4)) (hw' : w ≤ 100)
    (hh' : h ≤ 10000) (hlo : 50 ≤ p) (hhi : p ≤ 100) (hold : s.maxSojourn + 2000 ≤ h * 1000) (ht : s.onTrial = false) {u : State}
    (hu : u = { s with tbl := { s.tbl with cfg := { s.tbl.cfg with commitWait := w, encapHold := h, warn := p, hashSeed := seed } } }) :
    bodyTblConfig vi e s =
      .ok (saveSettings (capacityWarn (if seed = s.tbl.cfg.hashSeed then u else flushCache (fun _ => true) u))) := by
  subst hu
  unfold bodyTblConfig
  dsimp only
  rw [← hw, ← hh, ← hp, ← hseed, if_neg (by omega), if_neg (by omega), storing_of_no_trial ht]

section RunAhead
variable {vi : Nat} {e : Entry} {s : State}

/-- R241: the settings of a port, or of all 128, are used and stored. -/
theorem bodyTblRaConfig_of_sound {c : Nat} {v : Bool × Bool × Nat × Nat} {ports : List Nat}
    (hports : e.p 24 1 ≤ 127 ∧ ports = [e.p 24 1] ∨ e.p 24 1 = 0xFF ∧ ports = List.range 128) (hc : c = orDefault (e.p 27 1) 1) (hc' : c ≤ 3)
    (ht : s.onTrial = false) (hv : v = (bit (e.p 25 1) 0, bit (e.p 25 1) 1, e.p 26 1, c)) : bodyTblRaConfig vi e s =
      .ok (saveSettings { s with tbl := { s.tbl with cfg := { s.tbl.cfg with ra := ports.foldl (fun m p => mset m p v) s.tbl.cfg.ra } } }) := by
  have named : (if e.p 24 1 = 0xFF then List.range 128 else [e.p 24 1]) = ports := by
    rcases hports with ⟨hp, rfl⟩ | ⟨hp, rfl⟩
    · exact if_neg (by omega)
    · exact if_pos hp
  subst hv
  unfold bodyTblRaConfig
  dsimp only
  rw [← hc, if_neg (by omega), if_neg (by omega), named, storing_of_no_trial ht]

theorem bodyTblRaFlush_of_port (hp : e.p 24 1 ≤ 127 ∨ e.p 24 1 = 0xFF) {hit : CEntry → Bool}
    (hh : hit = fun c => !c.flushed && (e.p 24 1 == 0xFF || c.inPort == e.p 24 1)) :
    bodyTblRaFlush vi e s = .ok (flushCache hit s) (putLe 4 ((mvals s.mash.cache).filter hit).length) := by
  subst hh
  unfold bodyTblRaFlush
  dsimp only
  rw [if_neg (by omega)]

end RunAhead

/-- Settles O32: each command is completed with what its body gives under the clause's conditions. -/
theorem tblCommandsComplete : Obligations.TblCommandsComplete := by
  intro vi io e s
  refine ⟨fun recs l h hpart hn hsplit hall => ?stage, fun ops h hpart hops hne hfree hspan hdangle => ?commit,
    fun h hpart hs hfull hwait hlong => ?wait, fun h hpart => ?abort, fun r t encs x h hlo hhi hr hz hview hmay hx hlen => ?read,
    fun ep h hpart hop he hpin hroom => ?pin, fun ep h hpart hop he hpin => ?pinned, fun ep h hpart hop he => ?release,
    fun ep h he hl => ?digest, fun h => ?status, fun w hd p seed u h hw hh hp hseed hw' hh' hlo hhi hold ht hu => ?config,
    fun c v ports h hports hc hc' ht hv => ?ahead, fun hit h hp hh => ?flush⟩
  case stage => exact next_runCommand_of_body h (bodyTblStage_of_sound (s := taken vi s) hpart hn hsplit hall)
  case commit => exact next_runCommand_of_body h (bodyTblCommit_of_slot (s := taken vi s) hpart hops hne hfree hspan hdangle)
  case wait => exact next_runCommand_of_body h (bodyTblCommit_of_full (s := taken vi s) hpart hs hfull hwait hlong)
  case abort => exact next_runCommand_of_body h (bodyTblAbort_of_partition (s := taken vi s) hpart)
  case read =>
    have view : readView vi e (taken vi s) = some (t, encs) := by
      rcases hview with ⟨hb, ⟨ep, he, rfl⟩, rfl⟩ | ⟨hb, rfl, rfl⟩
      · exact readView_of_epoch (s := taken vi s) hb he
      · exact readView_of_staging (s := taken vi s) hb
    exact next_runCommand_of_body h (bodyTblRead_of_view (s := taken vi s) hlo hhi hr hz view hmay hx hlen)
  case pin => exact next_runCommand_of_body h (bodyTblPin_of_new (s := taken vi s) hpart he hop hpin hroom)
  case pinned => exact next_runCommand_of_body h (bodyTblPin_of_pinned (s := taken vi s) hpart he hop hpin)
  case release => exact next_runCommand_of_body h (bodyTblPin_of_release (s := taken vi s) hpart he hop)
  case digest =>
    obtain ⟨d, hd, hbytes, hstart⟩ := bodyTblDigest_answers vi (s := taken vi s) he hl
    exact ⟨d, next_runCommand_of_body h hd, hbytes, hstart⟩
  case status =>
    obtain ⟨d, hd, hbytes, hstart⟩ := bodyTblStatus_answers vi e (taken vi s)
    exact ⟨d, next_runCommand_of_body h hd, hbytes, hstart⟩
  case config => exact next_runCommand_of_body h (bodyTblConfig_of_sound (s := taken vi s) hw hh hp hseed hw' hh' hlo hhi hold ht hu)
  case ahead => exact next_runCommand_of_body h (bodyTblRaConfig_of_sound (s := taken vi s) hports hc hc' ht hv)
  case flush => exact next_runCommand_of_body h (bodyTblRaFlush_of_port (s := taken vi s) hp hh)

end Sys2Proof.Machine
end

section
/-! SUPPORT. Commit waits that end, and the retirement of epochs and encapsulation versions (R196, R198, R205). -/

namespace Sys2Proof.Machine

/-! ### The warnings on capacity -/

/-- R191: of the tables the warnings note only what they have warned of. -/
theorem capacityWarn_encaps (s : State) : (capacityWarn s).tbl.encaps = s.tbl.encaps := by
  unfold capacityWarn
  generalize List.range 8 = tables
  refine foldS_keeps (fun s => s.tbl.encaps) _ (fun i u => ?_) tables s
  dsimp only
  split
  · split
    · rfl
    · rw [(notify_changes ..).tbl_eq (by decide) (by decide)]
  · rfl

theorem capacityWarn_epochs (s : State) : (capacityWarn s).tbl.epochs = s.tbl.epochs := (capacityWarn_changes s).same .epochs (by decide)

/-- What leaves the queue leaves the parked commands. -/
theorem Changes.parked_eq {ps : List Part} {s t : State} (h : Changes ps s t) (hq : Part.queue ∉ ps) : t.hif.parked = s.hif.parked :=
  congrArg (fun q => q.2.1) (h.same .queue hq)

/-! ### A commit that waits for a slot -/

/-- A commit parked for an epoch slot. -/
def Wait.forSlot : Wait → Bool
  | .epochSlot _ => true
  | _ => false

theorem Wait.forSlot_eq_false {w : Wait} (h : ∀ dl, w ≠ .epochSlot dl) : w.forSlot = false := by
  cases w with
  | epochSlot dl => exact absurd rfl (h dl)
  | _ => rfl

theorem wake_tbl (f : Wait → Bool) (s : State) : (wake f s).tbl = s.tbl := rfl

/-- What no condition wakes was parked as it stands. -/
theorem mem_parked_of_mem_wake {f : Wait → Bool} {s : State} {p : Parked} (hp : p ∈ (wake f s).hif.parked) (hf : f p.wait = false) :
    p ∈ s.hif.parked := by
  obtain ⟨q, hq, rfl⟩ := List.mem_map.mp hp
  by_cases hw : f q.wait = true
  · rw [if_pos hw] at hf
    exact absurd (hw.symm.trans hf) (by decide)
  · rw [if_neg hw]
    exact hq

section CommitWait
variable {vi dl : Nat} {p : Parked} {s : State}

/-- The one command of a function that is parked is the one found. -/
theorem find_parked_of_only (hp : p ∈ s.hif.parked) (hvi : p.vi = vi) (hw : p.wait = .epochSlot dl)
    (only : ∀ q, q ∈ s.hif.parked → q.vi = vi → q = p) :
    s.hif.parked.find? (fun q => q.vi == vi && q.wait.forSlot) = some p := by
  have suits : (p.vi == vi && p.wait.forSlot) = true := by rw [hvi, hw, beq_self_eq_true]; rfl
  obtain ⟨q, hq⟩ := Option.isSome_iff_exists.mp (List.find?_isSome (p := fun q : Parked => q.vi == vi && q.wait.forSlot).mpr ⟨p, hp, suits⟩)
  have asked : (q.vi == vi && q.wait.forSlot) = true := List.find?_some (p := fun q : Parked => q.vi == vi && q.wait.forSlot) hq
  rw [hq, only q (List.mem_of_find?_eq_some hq) (eq_of_beq (Bool.and_eq_true_iff.mp asked).1)]

/-- R67, R198: the wait ends with four epochs live; the commit completes at a command boundary. -/
theorem exec_commitWaitExpiry_of_due (hf : s.hif.parked.find? (fun q => q.vi == vi && q.wait.forSlot) = some p) (hw : p.wait = .epochSlot dl)
    (hd : dl ≤ s.mono) (hn : 4 ≤ s.tbl.epochs.length) (ha : s.accepting = true) : exec (.commitWaitExpiry vi) s = .next (
      if s.blocked || s.resumable then
        { s with hif := { s.hif with parked := s.hif.parked.map (fun q => if q.vi = vi then { q with wait := .epochFull, ready := true } else q) } }
      else (finish vi p.entry p.writeOk (epochFull { s with
        hif := { s.hif with parked := s.hif.parked.filter (fun q => q.vi != vi) } })).settled) := by
  show execCommitWaitExpiry vi s = _
  unfold execCommitWaitExpiry
  split
  case h_1 missed => exact nomatch missed.symm.trans hf
  case h_2 q found =>
    obtain rfl : q = p := Option.some.inj (found.symm.trans hf)
    simp only [hw, State.due, decide_eq_true hd, decide_eq_true hn, ha, Bool.and_self, when_true]

/-- R198: a commit that found no slot has changed nothing that is replicated. -/
theorem completed_epochFull (io : HostIo) (e : Entry) (u : State) :
    completed vi io e (epochFull u) = (finish vi e io.writeOk (epochFull u)).settled := by
  have refused : decide ((epochFull u).status = St.ok) = false := decide_eq_false (show ¬ St.eEpochFull = St.ok by decide)
  exact completed_now rfl (by rw [replicates, refused, Bool.and_false, Bool.false_and])

end CommitWait

/-! ### Retirement -/

/-- R196: an epoch that drains and that nothing needs retires, and the commits that wait for its slot may go on. -/
theorem exec_epochRetire_of_done {n : Nat} {ep : Epoch} {s : State} (he : s.epoch? n = some ep) (hst : ep.st = .draining)
    (hb : s.epochBusy n = false) : exec (.epochRetire n) s = .next (wake Wait.forSlot (capacityWarn (retireEpoch n s))) := by
  have named : ep.num = n := eq_of_beq (List.find?_some (p := fun e : Epoch => e.num == n) he)
  have retires : s.mayRetire ep = true := by rw [State.mayRetire, hst, named, hb]; rfl
  show execEpochRetire n s = _
  simp only [execEpochRetire, he, retires, when_true]
  rfl

/-- R205: a version that nothing needs is deleted. -/
theorem exec_encapVersionRetire_of_done {h v : Nat} {x : EncVer} {s : State} (hx : mget s.tbl.encaps (encKey h v) = some x)
    (hd : s.versionDone h v x = true) : exec (.encapVersionRetire h v) s =
      .next (capacityWarn { s with tbl := { s.tbl with encaps := mdel s.tbl.encaps (encKey h v) } }) := by
  show execEncapVersionRetire h v s = _
  simp only [execEncapVersionRetire, hx, hd, when_true]

/-- Settles O33: each event acts under its guard; the warnings on capacity after a retirement leave what it removed. -/
theorem tblEventsComplete : Obligations.TblEventsComplete := by
  intro s
  refine ⟨fun vi p dl hp hvi hw only hd hn ha => ?expiry, fun n ep he hst hb => ?epoch, fun h v x hx hd => ?version⟩
  case expiry =>
    have ended := exec_commitWaitExpiry_of_due (find_parked_of_only hp hvi hw only) hw hd hn ha
    refine ⟨fun hb hr => ?_, fun busy => ?_⟩
    · rw [ended, hb, hr, completed_epochFull]
      rfl
    · rw [ended, if_pos (Bool.or_eq_true_iff.mpr busy)]
  case epoch =>
    refine ⟨_, exec_epochRetire_of_done he hst hb, ?_, fun p hp => ⟨fun dl hw => ?_, fun hw => ?_⟩, ?_⟩
    · rw [wake_tbl, capacityWarn_epochs]
      rfl
    · exact ready_of_mem_wake hp (by rw [hw]; rfl)
    · have parked := mem_parked_of_mem_wake hp (Wait.forSlot_eq_false hw)
      rw [(capacityWarn_changes _).parked_eq (by decide)] at parked
      exact parked
    · exact Changes.via (Changes.via ((retireEpoch_changes n s).weaken (by decide)) (capacityWarn_changes _) (by decide))
        (wake_changes ..) (by decide)
  case version =>
    refine ⟨_, exec_encapVersionRetire_of_done hx hd, capacityWarn_encaps _, ?_⟩
    exact Changes.via (Changes.rfl.set_tbl (by with_reducible rfl) (by decide)) (capacityWarn_changes _) (by decide)

end Sys2Proof.Machine
end

section
/-! SUPPORT. The commands of family ASA (R243, R245, R248, R251, R256, R264, R265, R270, R271, Table AS-5). -/

namespace Sys2Proof.Machine

/-! ### ASA.REGION -/

section Region
variable {vi : Nat} {e : Entry} {x y : Region} {s : State}

/-- R245, R270: a region of a free number is made of blocks that the host may use. -/
theorem bodyAsaRegion_of_create (hr : e.p 24 1 ≤ 63) (hop : e.p 25 1 = 1) (hl : e.dataLen = 2 * e.p 30 2)
    (hnew : mhas s.asa.regions (e.p 24 1) = false) (hw : x.width = 1 ∨ x.width = 2 ∨ x.width = 4) (hwidth : e.p 26 1 = x.width)
    (hegress : e.p 27 1 = b2n x.egress) (hprio : x.prio = bit (e.p 28 1) 0) (hhole : x.hole = if e.p 29 1 = 0 then 16 else e.p 29 1)
    (hh : x.hole ∈ [8, 16, 32, 64, 0xFF]) (hblocks : x.blocks = parseBlocks (e.p 30 2) e.buf) (hempty : x.entries = [])
    (hf : blockRefusal x.blocks s = none) : bodyAsaRegion 0 e s =
      .ok (asaPower (count Cn.asaMoves 0 0 (s.setRegion (e.p 24 1) x))) (putLe 4 x.capacity) := by
  have asked : ({
      width := e.p 26 1, egress := e.p 27 1 == 1, prio := bit (e.p 28 1) 0, hole := if e.p 29 1 = 0 then 16 else e.p 29 1,
      blocks := x.blocks } : Region) = x := by
    obtain ⟨width, egress, prio, hole, blocks, entries⟩ := x
    subst hwidth hprio hhole hempty
    rw [hegress]
    cases egress <;> rfl
  have known : ¬ ((e.p 26 1 ≠ 1 ∧ e.p 26 1 ≠ 2 ∧ e.p 26 1 ≠ 4) ∨ 1 < e.p 27 1 ∨ (if e.p 29 1 = 0 then 16 else e.p 29 1) ∉ [8, 16, 32, 64, 0xFF]) := by
    have direction : e.p 27 1 ≤ 1 := by rw [hegress]; cases x.egress <;> decide
    rw [hwidth, ← hhole]
    exact not_or.mpr ⟨by omega, not_or.mpr ⟨by omega, not_not_intro hh⟩⟩
  simp only [bodyAsaRegion, ← hblocks, asked, hf, if_neg known]
  simp [State.mayRegion, Nat.not_lt.mpr hr, hop, hl, hnew]

/-- R270: a region that holds no entry and that no profile names is taken away, and its blocks repay what relocations took. -/
theorem bodyAsaRegion_of_remove (hr : e.p 24 1 ≤ 63) (hop : e.p 25 1 = 2) (hx : s.region? (e.p 24 1) = some x) (hempty : x.entries = [])
    (hprofiles : s.asa.profiles.any (fun p => p.2.1 == e.p 24 1) = false) : bodyAsaRegion 0 e s =
      .ok (asaPower (repay x.blocks.length { s with asa := { s.asa with regions := mdel s.asa.regions (e.p 24 1) } })) (putLe 4 0) := by
  simp only [bodyAsaRegion, hx, hprofiles]
  simp [State.mayRegion, Nat.not_lt.mpr hr, hop, hempty]

/-- R271: a region grows by blocks that the host may use. -/
theorem bodyAsaRegion_of_grow {blocks : List (Nat × Nat)} (hmay : s.mayRegion vi (e.p 24 1) = true) (hr : e.p 24 1 ≤ 63) (hop : e.p 25 1 = 3)
    (hl : e.dataLen = 2 * e.p 30 2) (hx : s.region? (e.p 24 1) = some x) (hblocks : blocks = parseBlocks (e.p 30 2) e.buf)
    (hf : blockRefusal blocks s = none) (hy : y = { x with blocks := x.blocks ++ blocks }) : bodyAsaRegion vi e s =
      .ok (asaPower (count Cn.asaMoves 0 0 (s.setRegion (e.p 24 1) y))) (putLe 4 y.capacity) := by
  subst hy
  simp only [bodyAsaRegion, hmay, hx, ← hblocks, hf]
  simp [Nat.not_lt.mpr hr, hop, hl]

/-- R271: a region shrinks by its last blocks when its entries fit in the others. -/
theorem bodyAsaRegion_of_shrink {m : AMap AsaEntry} {moves : Nat} (hmay : s.mayRegion vi (e.p 24 1) = true) (hr : e.p 24 1 ≤ 63)
    (hop : e.p 25 1 = 4) (hx : s.region? (e.p 24 1) = some x) (hn : e.p 30 2 ≤ x.blocks.length)
    (hy : y = { x with blocks := x.blocks.take (x.blocks.length - e.p 30 2) }) (hm : packInto y.capacity x.entries = some (m, moves)) :
    bodyAsaRegion vi e s = .ok (asaPower (count Cn.asaMoves 0 moves ((repay (e.p 30 2) s).setRegion (e.p 24 1) { y with entries := m })))
      (putLe 4 ({ y with entries := m } : Region).capacity) := by
  subst hy
  simp only [bodyAsaRegion, hmay, hx, hm]
  simp [Nat.not_lt.mpr hr, hop, Nat.not_lt.mpr hn]

end Region

/-! ### ASA.PROFILE -/

section Profile
variable {vi : Nat} {e : Entry} {s : State}

/-- R270, R271: a profile that no program and no port names is taken away. -/
theorem bodyAsaProfile_of_remove {q : Nat × Nat} (hq : mget s.asa.profiles (e.p 24 1) = some q)
    (hmay : vi = 0 ∨ e.p 24 1 ∈ (s.inst vi).grant.profiles ∧ s.mayRegion vi q.1 = true) (hn : e.p 24 1 ≤ 63) (hop : e.p 25 1 = 2)
    (hnamed : s.profileNamed (e.p 24 1) = false) :
    bodyAsaProfile vi e s = .ok { s with asa := { s.asa with profiles := mdel s.asa.profiles (e.p 24 1) } } := by
  have held : mhas s.asa.profiles (e.p 24 1) = true := by rw [mhas, hq]; rfl
  have permitted : (vi != 0 && (decide (e.p 24 1 ∉ (s.inst vi).grant.profiles) || !s.mayRegion vi q.1)) = false := by
    rcases hmay with rfl | ⟨hgrant, hregion⟩
    · rfl
    · simp [hgrant, hregion]
  simp only [bodyAsaProfile, hq, hop, Nat.reduceBEq, Bool.false_and, Bool.or_false, Bool.true_and, permitted, held, hnamed]
  simp [Nat.not_lt.mpr hn]

/-- R248: a profile names a region of its format's width and direction, within the budget of the programs. -/
theorem bodyAsaProfile_of_set {x : Region} {m : AMap (Nat × Nat)}
    (hmay : vi = 0 ∨ e.p 24 1 ∈ (s.inst vi).grant.profiles ∧ s.mayRegion vi (e.p 26 1) = true) (hn : e.p 24 1 ≤ 63) (hop : e.p 25 1 = 1)
    (hr : e.p 26 1 ≤ 63) (hformat : formatWidth (e.p 27 1) ≠ 0) (hx : s.region? (e.p 26 1) = some x)
    (hwidth : x.width = formatWidth (e.p 27 1)) (hegress : x.egress = formatEgress (e.p 27 1))
    (hm : m = mset s.asa.profiles (e.p 24 1) (e.p 26 1, e.p 27 1)) (hfits : s.allPrograms.all (s.programFits m) = true) :
    bodyAsaProfile vi e s = .ok { s with asa := { s.asa with profiles := m } } := by
  have permitted : (vi != 0 && (decide (e.p 24 1 ∉ (s.inst vi).grant.profiles) || !s.mayRegion vi (e.p 26 1))) = false := by
    rcases hmay with rfl | ⟨hgrant, hregion⟩
    · rfl
    · simp [hgrant, hregion]
  simp only [bodyAsaProfile, hop, Nat.reduceBEq, Bool.false_and, Bool.or_false, Bool.true_and, permitted, hx, ← hm, hfits, hwidth, hegress]
  simp [Nat.not_lt.mpr hn, Nat.not_lt.mpr hr, hformat]

end Profile

/-! ### ASA.WRITE and ASA.READ -/

section Entries
variable {vi : Nat} {e : Entry} {s : State}

/-- R251, R252: a buffer of records none of which is refused is written, with a warning for each overlap at one priority. -/
theorem bodyAsaWrite_of_sound {recs : List (List Byte)} {a : AsaRun} (hn : e.p 24 4 ≠ 0) (hsplit : splitAsa (e.p 24 4) e.buf = (recs, e.dataLen))
    (hmay : recs.any (fun b => !s.mayRegion vi (le b 1 1)) = false) (hall : writeRecs 0 { regions := s.asa.regions } recs = (a, none)) :
    bodyAsaWrite vi e s = {
      st := a.warns.foldl (fun s w => count Cn.asaEqPrioWarn 0 1 (notify Ev.asaEqualPriority (putLe 1 w.1 ++ zeros 3 ++ putLe 4 w.2.1
        ++ putLe 4 w.2.2.1 ++ putLe 2 w.2.2.2) [] s)) (count Cn.asaMoves 0 a.moves { holdOldRegions s with
          asa := { s.asa with regions := a.regions } }),
      detail := if a.warns = [] then Dt.hifNone else Dt.asaEqualPriority,
      result := putLe 4 (e.p 24 4) ++ putLe 4 0xFFFFFFFF ++ putLe 2 (sat 16 a.overlaps) ++ putLe 4 a.moves } := by
  have kept : (holdOldRegions s).asa = s.asa := (holdOldRegions_changes s).same .asa (by decide)
  simp only [bodyAsaWrite, hsplit, hn, hmay, hall, kept, Bool.false_eq_true, if_false, ne_eq, not_true_eq_false, or_self]
  rfl

variable {x : Region} (hmay : s.mayRegion vi (e.p 24 1) = true) (hx : s.region? (e.p 24 1) = some x)
include hmay hx

/-- R256: an entry that the region does not hold is answered so. -/
theorem bodyAsaRead_of_none (hop : e.p 25 1 ≤ 1)
    (hnone : ∀ p, (if e.p 25 1 = 0 then x.raddrOf (e.p 28 4) else some (e.p 28 4)) = some p → mget x.entries p = none) :
    bodyAsaRead vi e s = .read s [0] [] := by
  have missed : (if e.p 25 1 = 0 then x.raddrOf (e.p 28 4) else some (e.p 28 4)).bind (fun p => (mget x.entries p).map (fun y => (p, y))) = none :=
    Option.bind_eq_none_iff.mpr fun p hp => by rw [hnone p hp, Option.map_none]
  simp only [bodyAsaRead, hmay, hx, missed, Bool.not_true, Bool.false_eq_true, if_false, Nat.not_lt.mpr hop]

/-- R256: the entry at an ENTRY_ID or at a RADDR, behind the region, its length and its ENTRY_ID. -/
theorem bodyAsaRead_answers {p : Nat} {y : AsaEntry}
    (hat : (e.p 25 1 = 0 ∧ x.raddrOf (e.p 28 4) = some p) ∨ (e.p 25 1 = 1 ∧ e.p 28 4 = p)) (hy : mget x.entries p = some y) :
    ∃ d, bodyAsaRead vi e s = .read s [1] d
      ∧ (putLe 1 1 ++ putLe 1 (e.p 24 1) ++ putLe 2 (24 + 40 * x.width) ++ putLe 4 y.id) <+: d := by
  have hop : ¬ 1 < e.p 25 1 := by omega
  have place : (if e.p 25 1 = 0 then x.raddrOf (e.p 28 4) else some (e.p 28 4)) = some p := by
    rcases hat with ⟨h0, hp⟩ | ⟨h1, rfl⟩
    · rw [if_pos h0, hp]
    · rw [if_neg (by omega)]
  simp only [bodyAsaRead, hmay, hx, hop, place, Option.bind_some, hy, Option.map_some, Bool.not_true, Bool.false_eq_true, if_false]
  refine ⟨_, rfl, ?_⟩
  iterate 9 refine List.IsPrefix.trans ?_ (List.prefix_append ..)
  exact List.prefix_rfl

end Entries

/-! ### ASA.STATUS and ASA.CONFIG -/

/-- Table AS-5: 528 bytes, which begin with the throttle level and the free blocks of powered banks. -/
theorem bodyAsaStatus_answers (vi : Nat) (e : Entry) (s : State) : ∃ d, bodyAsaStatus vi e s = .read s [] d ∧ d.length = 528
    ∧ (putLe 1 s.asa.level ++ putLe 1 s.poweredFree.length) <+: d := by
  refine ⟨_, rfl, ?_, ?_⟩
  · simp only [List.length_append]
    rw [length_flatMap_of_forall (k := 1), length_flatMap_of_forall (k := 8)]
    · simp [putLe_length, zeros]
    · intro r _
      split <;> simp [putLe_length, zeros]
    · intro b _
      exact putLe_length ..
  · iterate 3 refine List.IsPrefix.trans ?_ (List.prefix_append ..)
    exact List.prefix_rfl

/-- R258, R264, R265: settings in their ranges are used. -/
theorem bodyAsaConfig_of_sound {vi m p : Nat} {e : Entry} {s : State} (ho : e.p 24 1 ≤ 20) (hm : m = orDefault (e.p 25 1) 25)
    (hp : p = orDefault (e.p 26 2) 100) (hm1 : 25 ≤ m) (hm2 : m ≤ 75) (hp1 : 10 ≤ p) (hp2 : p ≤ 1000) :
    bodyAsaConfig vi e s = .ok { s with asa := { s.asa with offset := e.p 24 1, ingressMin := m, scrubPeriod := p } } := by
  unfold bodyAsaConfig
  dsimp only
  rw [← hm, ← hp, if_neg (by omega)]

/-- Settles O34: each command is completed with what its body gives under the clause's conditions. -/
theorem asaCommandsComplete : Obligations.AsaCommandsComplete := by
  intro vi io e s
  refine ⟨fun x h hvi hr hop hl hnew hw hwidth hegress hprio hhole hh hblocks hempty hf => ?create,
    fun x h hvi hr hop hx hempty hprofiles => ?remove, fun x y blocks h hmay hr hop hl hx hblocks hf hy => ?grow,
    fun x y m moves h hmay hr hop hx hn hy hm => ?shrink, fun q h hq hmay hn hop hnamed => ?unset,
    fun x m h hmay hn hop hr hformat hx hwidth hegress hm hfits => ?set, fun recs a h hn hsplit hmay hall => ?write,
    fun x h hmay hx hop hnone => ?absent, fun x p y h hmay hx hat hy => ?read, fun h => ?status,
    fun m p h ho hm hp hm1 hm2 hp1 hp2 => ?config⟩
  case create =>
    subst hvi
    exact next_runCommand_of_body h (bodyAsaRegion_of_create (s := taken 0 s) hr hop hl hnew hw hwidth hegress hprio hhole hh hblocks hempty hf)
  case remove =>
    subst hvi
    exact next_runCommand_of_body h (bodyAsaRegion_of_remove (s := taken 0 s) hr hop hx hempty hprofiles)
  case grow => exact next_runCommand_of_body h (bodyAsaRegion_of_grow (s := taken vi s) hmay hr hop hl hx hblocks hf hy)
  case shrink => exact next_runCommand_of_body h (bodyAsaRegion_of_shrink (s := taken vi s) hmay hr hop hx hn hy hm)
  case unset => exact next_runCommand_of_body h (bodyAsaProfile_of_remove (s := taken vi s) hq hmay hn hop hnamed)
  case set =>
    exact next_runCommand_of_body h (bodyAsaProfile_of_set (s := taken vi s) hmay hn hop hr hformat hx hwidth hegress hm hfits)
  case write => exact next_runCommand_of_body h (bodyAsaWrite_of_sound (s := taken vi s) hn hsplit hmay hall)
  case absent => exact next_runCommand_of_body h (bodyAsaRead_of_none (s := taken vi s) hmay hx hop hnone)
  case read =>
    obtain ⟨d, hd, hstart⟩ := bodyAsaRead_answers (s := taken vi s) hmay hx hat hy
    exact ⟨d, next_runCommand_of_body h hd, hstart⟩
  case status =>
    obtain ⟨d, hd, hbytes, hstart⟩ := bodyAsaStatus_answers vi e (taken vi s)
    exact ⟨d, next_runCommand_of_body h hd, hbytes, hstart⟩
  case config => exact next_runCommand_of_body h (bodyAsaConfig_of_sound (s := taken vi s) ho hm hp hm1 hm2 hp1 hp2)

end Sys2Proof.Machine
end

section
/-! SUPPORT. Faults of the array, hole restoration and throttling (R257 to R260, R265, Table AS-3). -/

namespace Sys2Proof.Machine

/-! ### What a report leaves of the array -/

theorem notify_asa (ev : Nat × Nat) (payload : List Byte) (vis : List Nat) (s : State) : (notify ev payload vis s).asa = s.asa :=
  (notify_changes ..).same .asa (by decide)
theorem count_asa (ev idx n : Nat) (s : State) : (count ev idx n s).asa = s.asa := (count_changes ..).same .asa (by decide)
theorem fault_asa (cls unit cause : Nat) (s : State) : (fault cls unit cause s).asa = s.asa := (fault_changes ..).same .asa (by decide)
theorem endWindow_asa (cls unit : Nat) (s : State) : (endWindow cls unit s).asa = s.asa := (endWindow_changes ..).same .asa (by decide)

theorem State.modBank_bank (s : State) (b : Nat) (f : Bank → Bank) : (s.modBank b f).bank b = f (s.bank b) := mgetD_mset_self ..
theorem State.bank_of_asa {s t : State} (h : t.asa = s.asa) (b : Nat) : t.bank b = s.bank b := by rw [State.bank, h, State.bank]

/-! ### Shadow rows and scrubbing -/

section Scrub
variable {s : State} (ha : s.accepting = true)
include ha

/-- R257: the restored entry's fault is opened and counted. -/
theorem exec_asaShadowRestoreDone_of_entry {r a : Nat} {x : Region} (hx : s.region? r = some x) (he : mhas x.entries a = true) :
    exec (.asaShadowRestoreDone r a) s = .next (count Cn.asaShadowParity 0 1 (fault 10 (x.place a).1 0 s)) := by
  show execAsaShadowRestoreDone r a s = _
  simp only [execAsaShadowRestoreDone, hx, he, ha, Bool.and_self, when_true]

variable (hd : s.asa.scrubAt + Config.ms s.asa.scrubPeriod ≤ s.mono)
include hd

/-- R258: at the end of a period each row that differs in a powered bank is fixed and counted. -/
theorem exec_asaScrub_of_due (rows : List (Nat × Nat)) : exec (.asaScrub rows) s =
    .next ((rows.filter (fun r => (s.bank r.1).st == .on || (s.bank r.1).st == .cellar)).foldl
      (fun s r => count Cn.asaScrubFix 0 1 (fault 10 r.1 0 s)) { s with asa := { s.asa with scrubAt := s.mono } }) := by
  show execAsaScrub rows s = _
  rw [execAsaScrub, ha, State.due, decide_eq_true hd, Bool.and_self, when_true, foldS]

theorem exec_asaScrub_of_one {b : Nat} (row : Nat) (hb : (s.bank b).st = .on) : exec (.asaScrub [(b, row)]) s =
    .next (count Cn.asaScrubFix 0 1 (fault 10 b 0 { s with asa := { s.asa with scrubAt := s.mono } })) := by
  have powered : ((s.bank b).st == .on || (s.bank b).st == .cellar) = true := by rw [hb]; rfl
  have kept : [(b, row)].filter (fun r => (s.bank r.1).st == .on || (s.bank r.1).st == .cellar) = [(b, row)] := List.filter_cons_of_pos powered
  rw [exec_asaScrub_of_due ha hd, kept, List.foldl_cons, List.foldl_nil]

end Scrub

/-! ### Hole restoration -/

/-- R260: a step that frees a hole is taken, and the entries that it moves are counted. -/
theorem exec_asaHoleRestore_of_step {r : Nat} {x y : Region} {s : State} (hx : s.region? r = some x) (hy : x.restoreHole = some y)
    (ha : s.accepting = true) : exec (.asaHoleRestore r) s =
      .next (count Cn.asaMoves 0 (y.entries.filter (fun e => decide (e ∉ x.entries))).length (s.setRegion r y)) := by
  show execAsaHoleRestore r s = _
  simp only [execAsaHoleRestore, hx, hy, ha, when_true]

/-! ### Bank faults and reloads -/

theorem exec_asaBankFault_of_bank {b : Nat} (cause : Nat) (s : State) (hb : b < 8) :
    exec (.asaBankFault b cause) s = .next (bankFault b cause s) := by
  show execAsaBankFault b cause s = _
  rw [execAsaBankFault, decide_eq_true hb, when_true]

/-- R259: the reload of a bank that is on starts with its fault. -/
theorem bankFault_of_on {b : Nat} (cause : Nat) {s : State} (h : (s.bank b).st = .on) : bankFault b cause s =
    fault 11 b cause (s.modBank b (fun x => { x with st := .reloading, cause := cause })) := if_pos (.inl h)

/-- R259: the end of a reload is reported and counted. -/
def reloadReported (b : Nat) (s : State) : State :=
  count Cn.asaBankReload 0 1 (notify Ev.asaBankReload (putLe 1 b ++ putLe 1 (s.bank b).cause) [] s)

theorem reloadReported_changes (b : Nat) (s : State) : Changes [.rings, .cnt, .out] s (reloadReported b s) :=
  (notify_changes ..).trans (count_changes ..)

/-- R259: the bank keeps when its last reload ended. -/
def reloadNoted (b : Nat) (s : State) : State :=
  (reloadReported b s).modBank b (fun x => { x with lastReload := some (reloadReported b s).mono })

theorem reloadNoted_changes (b : Nat) (s : State) : Changes [.rings, .asa, .cnt, .out] s (reloadNoted b s) :=
  Changes.via ((reloadReported_changes b s).weaken (by decide)) (State.modBank_changes ..) (by decide)

theorem reloadNoted_bank (b : Nat) (s : State) : (reloadNoted b s).bank b = { s.bank b with lastReload := some s.mono } := by
  have reported := reloadReported_changes b s
  rw [reloadNoted, State.modBank_bank, State.bank_of_asa (reported.same .asa (by decide)), show _ = _ from reported.same .mono (by decide)]

section Reload
variable {b : Nat} {s : State}

theorem exec_asaBankReloadDone_of_turn (passed : Bool) (hst : (s.bank b).st = .reloading) (ht : s.recoveryTurn 11 b = true) :
    exec (.asaBankReloadDone b passed) s = .next (bankReloadDone b passed s) := by
  show execAsaBankReloadDone b passed s = _
  rw [execAsaBankReloadDone, hst, ht]
  rfl

/-- R259: the first reload of a bank that passes its self-check gives the bank back. -/
theorem bankReloadDone_of_passed (hb : b ≠ 0) (hl : (s.bank b).lastReload = none) : bankReloadDone b true s =
    endWindow 11 b ((reloadNoted b s).modBank b (fun x => { x with st := .on })) := by
  have other : (b == 0) = false := beq_eq_false_iff_ne.mpr hb
  simp only [bankReloadDone, hl, other, Bool.false_and, Bool.false_eq_true, if_false, Bool.not_false, Bool.and_self, if_true]
  rfl

/-- R259: a bank that fails its self-check has failed. -/
theorem bankReloadDone_of_failed (hb : b ≠ 0) : bankReloadDone b false s = (reloadNoted b s).modBank b (fun x => { x with st := .failed }) := by
  have other : (b == 0) = false := beq_eq_false_iff_ne.mpr hb
  simp only [bankReloadDone, other, Bool.false_and, Bool.false_eq_true, if_false]
  rfl

end Reload

/-! ### Relocation -/

section BankPower
variable {β : Type} (g : Asa → β) (hg : ∀ a banks, g { a with banks := banks } = g a)
include hg

/-- The banks' power leaves what the array holds beside its banks. -/
theorem setBankPower_keeps (b : Nat) (on : Bool) (s : State) : g (setBankPower b on s).asa = g s.asa := by
  unfold setBankPower
  extract_lets st u
  have switched : g u.asa = g s.asa := by
    unfold u
    split
    · exact hg ..
    · split
      · exact hg ..
      · rfl
  split
  · exact switched
  · rw [domainEvent_asa]
    exact switched

theorem asaPower_keeps (s : State) : g (asaPower s).asa = g s.asa :=
  foldS_keeps (fun s => g s.asa) _ (fun _ _ => setBankPower_keeps g hg ..) _ s

end BankPower

/-- R259: a failed bank's blocks have been relocated, and the bank's domain is off. -/
def relocated (b : Nat) (s : State) : State :=
  { s with
    asa := { s.asa with regions := (relocate b s).1, short := s.asa.short + (relocate b s).2 }
    pwr := { s.pwr with domains := mset s.pwr.domains (15 + b) .off } }

/-- R259: the relocation is reported and counted, and the fault's recovery window ends. -/
def relocationReported (b n : Nat) (s : State) : State :=
  endWindow 11 b (count Cn.asaBankFailed 0 1 (notify Ev.asaBankFailed (putLe 1 b ++ putLe 1 n) [] (domainEvent (15 + b) false s)))

theorem relocationReported_asa (b n : Nat) (s : State) : (relocationReported b n s).asa = s.asa := by
  rw [relocationReported, endWindow_asa, count_asa, notify_asa, domainEvent_asa]

/-- R246, R259: the relocation of a failed bank that is powered; the banks' power follows. -/
theorem exec_asaRelocationDone_of_failed {b : Nat} {s : State} (hst : (s.bank b).st = .failed) (ht : s.recoveryTurn 11 b = true)
    (hp : mgetD s.pwr.domains (15 + b) .off ≠ .off) :
    exec (.asaRelocationDone b) s = .next (asaPower (relocationReported b (relocate b s).2 (relocated b s))) := by
  have powered : (mgetD s.pwr.domains (15 + b) .off != .off) = true := bne_iff_ne.mpr hp
  show execAsaRelocationDone b s = _
  rw [execAsaRelocationDone, hst, ht, powered]
  rfl

/-! ### Throttling -/

/-- R265: a new level keeps the window in progress, and a rise is noted. -/
theorem setLevel_asa (l : Nat) (t : Int) (s : State) : (setLevel l t s).asa =
    { s.asa with win := s.searchWin, level := l, levelAt := if s.asa.level < l then s.mono else s.asa.levelAt } := by
  rw [setLevel, count_asa, notify_asa]

theorem exec_asaThrottleRaise_of_hot {temp : Int} {s : State} (h : s.asa.level < s.levelFor temp) :
    exec (.asaThrottleRaise temp) s = .next (setLevel (s.levelFor temp) temp s) := by
  show execAsaThrottleRaise temp s = _
  rw [execAsaThrottleRaise, decide_eq_true h, when_true]

theorem exec_asaThrottleLower_of_cool {temp : Int} {s : State} (hl : 0 < s.asa.level) (ht : temp ≤ s.levelEntry s.asa.level - 30)
    (hd : s.asa.levelAt + Config.ms 10 ≤ s.mono) : exec (.asaThrottleLower temp) s = .next (setLevel (s.asa.level - 1) temp s) := by
  show execAsaThrottleLower temp s = _
  rw [execAsaThrottleLower, State.due, decide_eq_true hl, decide_eq_true ht, decide_eq_true hd, Bool.and_self, Bool.and_self, when_true]

/-- Settles O35: each event acts under its guard, and its reports leave what it did to the array. -/
theorem asaEventsComplete : Obligations.AsaEventsComplete := by
  intro s
  refine ⟨fun r a x hx he ha => exec_asaShadowRestoreDone_of_entry ha hx he, fun ha hd => exec_asaScrub_of_due ha hd [],
    fun rows ha hd => exec_asaScrub_of_due ha hd rows, fun b row ha hd hb => exec_asaScrub_of_one ha hd row hb,
    fun r x y hx hy ha => ?hole, fun b cause hb => ⟨exec_asaBankFault_of_bank cause s hb, bankFault_changes b cause s⟩,
    fun b passed hst ht => ⟨exec_asaBankReloadDone_of_turn passed hst ht, bankReloadDone_changes b passed s⟩,
    fun b cause hb hst => ?fault, fun b hst ht hb hl => ?passed, fun b hst ht hb => ?failed, fun b hst ht hp => ?relocation,
    fun temp h => ?raise, fun temp hl ht hd => ?lower⟩
  case hole =>
    exact ⟨_, exec_asaHoleRestore_of_step hx hy ha, count_asa ..,
      Changes.via ((State.setRegion_changes ..).weaken (by decide)) (count_changes ..) (by decide)⟩
  case fault =>
    have started := fault_asa 11 b cause (s.modBank b (fun x => { x with st := .reloading, cause := cause }))
    refine ⟨_, exec_asaBankFault_of_bank cause s hb, ?_, ?_, ?_, bankFault_changes b cause s⟩ <;> rw [bankFault_of_on cause hst]
    · rw [State.bank_of_asa started, State.modBank_bank]
    · rw [State.bank_of_asa started, State.modBank_bank]
    · rw [started]
      rfl
  case passed =>
    have back : (bankReloadDone b true s).bank b = { s.bank b with st := .on, lastReload := some s.mono } := by
      rw [bankReloadDone_of_passed hb hl, State.bank_of_asa (endWindow_asa ..), State.modBank_bank, reloadNoted_bank]
    exact ⟨_, exec_asaBankReloadDone_of_turn true hst ht, by rw [back], by rw [back], bankReloadDone_changes b true s⟩
  case failed =>
    refine ⟨_, exec_asaBankReloadDone_of_turn false hst ht, ?_, ?_⟩ <;> rw [bankReloadDone_of_failed hb]
    · rw [State.modBank_bank]
    · exact Changes.via (reloadNoted_changes b s) (State.modBank_changes ..) (by decide)
  case relocation =>
    obtain ⟨t, done, changed⟩ := execAsaRelocationDone_changes b s
    obtain rfl := Host.Outcome.next.inj (done.symm.trans (exec_asaRelocationDone_of_failed hst ht hp))
    refine ⟨_, done, ?_, ?_, changed⟩
    · rw [asaPower_keeps Asa.regions (fun _ _ => rfl), relocationReported_asa, relocated]
    · rw [asaPower_keeps Asa.short (fun _ _ => rfl), relocationReported_asa, relocated]
  case raise =>
    refine ⟨_, exec_asaThrottleRaise_of_hot h, ?_, setLevel_changes ..⟩
    rw [setLevel_asa, if_pos h]
  case lower =>
    refine ⟨_, exec_asaThrottleLower_of_cool hl ht hd, ?_, setLevel_changes ..⟩
    rw [setLevel_asa, if_neg (by omega)]

end Sys2Proof.Machine
end

section
/-! SUPPORT. The commands of family ADM (R279, R283, R284, R294, R307, Tables AB-4 to AB-6). -/

namespace Sys2Proof.Machine

section Adm
variable {vi : Nat} {e : Entry} {s : State}

/-! ### ADM.PROFILE and ADM.BIND -/

/-- R279, R307: a profile in its format, whose values are in their ranges and orders, is used and stored. -/
theorem bodyAdmProfile_of_set (hop : e.p 25 1 = 1) (hl : e.dataLen = 64) (hflags : le e.buf 0 1 < 8) (hr : le e.buf 3 1 = 0)
    (hr' : le e.buf 43 1 = 0) (hz : (bytesAt e.buf 52 12).any (fun x => x != 0) = false) (hok : (parseProfile e.buf).ok = true)
    (ht : s.onTrial = false) : bodyAdmProfile vi e s = .ok (saveSettings
      (s.modAdmCfg (fun c => { c with profiles := mset c.profiles (e.p 24 1) (parseProfile e.buf) }))) := by
  have formed : decide (8 ≤ le e.buf 0 1 ∨ le e.buf 3 1 ≠ 0 ∨ le e.buf 43 1 ≠ 0) = false := decide_eq_false (by omega)
  simp only [bodyAdmProfile, formed, hz]
  simp [hop, hl, hok, storing_of_no_trial ht]

/-- R279: a profile other than 0 that no VOQ is bound to is taken away. -/
theorem bodyAdmProfile_of_remove (hop : e.p 25 1 = 2) (hl : e.dataLen = 0) (hn : e.p 24 1 ≠ 0) (hm : mhas s.adm.cfg.profiles (e.p 24 1) = true)
    (hb : s.adm.cfg.binds.any (fun x => x.2 == e.p 24 1) = false) (ht : s.onTrial = false) : bodyAdmProfile vi e s =
      .ok (saveSettings (s.modAdmCfg (fun c => { c with profiles := mdel c.profiles (e.p 24 1) }))) := by
  simp only [bodyAdmProfile, hb]
  simp [hop, hl, hn, hm, storing_of_no_trial ht]

/-- R279: the VOQs of a range are bound to a profile that exists; binding to profile 0 takes their entries away. -/
theorem bodyAdmBind_of_sound {mid : AMap Nat} (hn : e.p 28 4 ≠ 0) (hr : e.p 24 4 + e.p 28 4 ≤ 262144)
    (hp : mhas s.adm.cfg.profiles (e.p 32 1) = true)
    (hmid : mid = if e.p 32 1 = 0 then [] else (upFrom (e.p 24 4) (e.p 28 4)).map (fun v => (v, e.p 32 1))) (ht : s.onTrial = false) :
    bodyAdmBind vi e s = .ok (saveSettings (s.modAdmCfg (fun c => { c with
      binds := s.adm.cfg.binds.filter (fun x => decide (x.1 < e.p 24 4)) ++ mid
        ++ s.adm.cfg.binds.filter (fun x => decide (e.p 24 4 + e.p 28 4 ≤ x.1)) }))) := by
  have inSpace : ¬ (e.p 28 4 = 0 ∨ 262144 < e.p 24 4 + e.p 28 4) := by omega
  simp only [bodyAdmBind, if_neg inSpace, hp, Bool.not_true, Bool.false_eq_true, if_false, ← hmid, storing_of_no_trial ht]

/-! ### ADM.CLASS, ADM.POOL and ADM.PFC -/

/-- R283, R307: a class's sojourn limit, which the encapsulation hold outlasts by 2 ms, and its alarm. -/
theorem bodyAdmClass_of_sound {m a : Nat} (htc : e.p 24 1 ≤ 7) (hm : m = orDefault (e.p 28 4) 50000) (ha : a = orDefault (e.p 32 4) (m / 2))
    (hm1 : 100 ≤ m) (hm2 : m ≤ 5000000) (ham : a ≤ m) (hhold : m + 2000 ≤ s.tbl.cfg.encapHold * 1000) (ht : s.onTrial = false) :
    bodyAdmClass vi e s = .ok (saveSettings (s.modAdmCfg (fun c => { c with classes := mset c.classes (e.p 24 1) (m, a) }))) := by
  have inRange : ¬ (7 < e.p 24 1 ∨ m < 100 ∨ 5000000 < m ∨ m < a) := by omega
  simp only [bodyAdmClass, ← hm, ← ha, if_neg inRange, Nat.not_lt.mpr hhold, if_false, storing_of_no_trial ht]

/-- R284: region sizes and thresholds in their ranges; the answer is the ingress pool that they leave and the reserve. -/
theorem bodyAdmPool_of_sound {r g p m h : Nat} (hr : r = orDefault (e.p 24 1) 20) (hg : g = orDefault (e.p 25 1) 32)
    (hp : p = orDefault (e.p 26 1) 4) (hm : m = orDefault (e.p 27 1) 4) (hh : h = orDefault (e.p 28 1) 4) (hr1 : 16 ≤ r) (hr2 : r ≤ 32)
    (hg1 : 16 ≤ g) (hg2 : g ≤ 64) (hp1 : 2 ≤ p) (hp2 : p ≤ 16) (hm1 : m ≤ 64) (hh1 : h ≤ 16) (ht : s.onTrial = false) :
    bodyAdmPool vi e s = .ok (saveSettings (poolUpkeep (s.modAdmCfg (fun c => { c with
      retention := r, egress := g, punt := p, xoffMargin := m, xonHyst := h }))))
      (putLe 1 (192 - r - g - 8 - p) ++ zeros 3 ++ putLe 4 s.reserve) := by
  have inRange : ¬ (r < 16 ∨ 32 < r ∨ g < 16 ∨ 64 < g ∨ p < 2 ∨ 16 < p ∨ 64 < m ∨ 16 < h) := by omega
  simp only [bodyAdmPool, ← hr, ← hg, ← hp, ← hm, ← hh, if_neg inRange, storing_result_of_no_trial _ ht]

/-- R294, R307: PFC of an Ethernet port, whose headroom leaves the reserve as it is or within half of the pool. -/
theorem bodyAdmPfc_of_sound {c : PortCfg} {f : PfcCfg} {pfc : AMap PfcCfg} {h : Nat} (hp : e.p 24 1 ≤ 127) (hc : s.pcfg (e.p 24 1) = some c)
    (hty : c.type ≠ 2) (hf : f = {
      enable := e.p 25 1, cable := orDefault (e.p 26 2) 100, response := orDefault (e.p 28 2) 1000, quanta := orDefault (e.p 30 2) 65535,
      xoff := e.p 32 4, hyst := e.p 36 4 }) (hcable : f.cable ≤ 2000) (hresponse : f.response ≤ 10000) (hx : f.xoff = 0 ∨ f.hyst < f.xoff)
    (hpfc : pfc = if f.enable = 0 then mdel s.adm.cfg.pfc (e.p 24 1) else mset s.adm.cfg.pfc (e.p 24 1) f)
    (hh : h = if f.enable = 0 then 0 else headroomCells c f * 256)
    (hroom : s.reserveFor pfc ≤ s.reserve ∨ 2 * s.reserveFor pfc ≤ s.poolCells) (ht : s.onTrial = false) : bodyAdmPfc vi e s =
      .ok (saveSettings (poolUpkeep (s.modAdmCfg (fun c => { c with pfc := pfc })))) (putLe 4 h ++ putLe 4 (s.reserveFor pfc)) := by
  have inRange : ¬ (2000 < f.cable ∨ 10000 < f.response ∨ (f.xoff ≠ 0 ∧ f.xoff ≤ f.hyst)) := by omega
  have fits : ¬ (s.reserve < s.reserveFor pfc ∧ s.poolCells < 2 * s.reserveFor pfc) := by omega
  subst hf hpfc hh
  simp only [bodyAdmPfc, Nat.not_lt.mpr hp, hc, hty, if_false, if_neg inRange, if_neg fits, storing_result_of_no_trial _ ht]

/-! ### ADM.QUEUE_STATUS and ADM.STATUS -/

/-- Table AB-4: 48 bytes, which begin with the VOQ's bytes, those of them in HBM, and its packets. -/
theorem bodyAdmQueueStatus_answers (hn : e.p 24 4 < 262144) (hmay : vi = 0 ∨ inRange (s.inst vi).grant.sp (e.p 24 4 / 8) = true) :
    ∃ d, bodyAdmQueueStatus vi e s = .read s [] d ∧ d.length = 48
      ∧ (putLe 8 (s.voqBytes (e.p 24 4)) ++ putLe 8 ((s.voq (e.p 24 4)).inLoc .hbm) ++ putLe 4 (s.voq (e.p 24 4)).q.length) <+: d := by
  have permitted : ¬ (vi ≠ 0 ∧ (!inRange (s.inst vi).grant.sp (e.p 24 4 / 8)) = true) := by
    rintro ⟨hvi, hout⟩
    rw [hmay.resolve_left hvi] at hout
    exact Bool.false_ne_true hout
  simp only [bodyAdmQueueStatus, Nat.not_le.mpr hn, if_neg permitted, if_false]
  refine ⟨_, rfl, by simp [putLe_length, zeros], ?_⟩
  iterate 7 refine List.IsPrefix.trans ?_ (List.prefix_append ..)
  exact List.prefix_rfl

/-- Table AB-4: 64 bytes, which begin with the pool's cells, those of them free, and the reserve. -/
theorem bodyAdmStatus_answers (vi : Nat) (e : Entry) (s : State) : ∃ d, bodyAdmStatus vi e s = .read s [] d ∧ d.length = 64
    ∧ (putLe 4 s.poolCells ++ putLe 4 s.poolFree ++ putLe 4 s.reserve) <+: d := by
  refine ⟨_, rfl, by simp [putLe_length, zeros], ?_⟩
  iterate 14 refine List.IsPrefix.trans ?_ (List.prefix_append ..)
  exact List.prefix_rfl

end Adm

/-- Settles O30: each command is completed with what its body gives under the clause's conditions. -/
theorem admCommandsComplete : Obligations.AdmCommandsComplete := by
  intro vi io e s
  refine ⟨fun h hop hl hflags hr hr' hz hok ht => ?set, fun h hop hl hn hm hb ht => ?remove, fun mid h hn hr hp hmid ht => ?bind,
    fun m a h htc hm ha hm1 hm2 ham hhold ht => ?sojourn,
    fun r g p m x h hr hg hp hm hx hr1 hr2 hg1 hg2 hp1 hp2 hm1 hx1 ht => ?pool,
    fun c f pfc n h hp hc hty hf hcable hresponse hx hpfc hn hroom ht => ?pfc, fun h hn hmay => ?queue, fun h => ?status⟩
  case set => exact next_runCommand_of_body h (bodyAdmProfile_of_set (s := taken vi s) hop hl hflags hr hr' hz hok ht)
  case remove => exact next_runCommand_of_body h (bodyAdmProfile_of_remove (s := taken vi s) hop hl hn hm hb ht)
  case bind => exact next_runCommand_of_body h (bodyAdmBind_of_sound (s := taken vi s) hn hr hp hmid ht)
  case sojourn => exact next_runCommand_of_body h (bodyAdmClass_of_sound (s := taken vi s) htc hm ha hm1 hm2 ham hhold ht)
  case pool =>
    exact next_runCommand_of_body h (bodyAdmPool_of_sound (s := taken vi s) hr hg hp hm hx hr1 hr2 hg1 hg2 hp1 hp2 hm1 hx1 ht)
  case pfc => exact next_runCommand_of_body h (bodyAdmPfc_of_sound (s := taken vi s) hp hc hty hf hcable hresponse hx hpfc hn hroom ht)
  case queue =>
    obtain ⟨d, hd, hbytes, hstart⟩ := bodyAdmQueueStatus_answers (s := taken vi s) hn hmay
    exact ⟨d, next_runCommand_of_body h hd, hbytes, hstart⟩
  case status =>
    obtain ⟨d, hd, hbytes, hstart⟩ := bodyAdmStatus_answers vi e (taken vi s)
    exact ⟨d, next_runCommand_of_body h hd, hbytes, hstart⟩

end Sys2Proof.Machine
end

section
/-! SUPPORT. The commands of family PWR (R288, R535, R548, R549, Tables PH-9 and PH-10). -/

namespace Sys2Proof.Machine

/-! ### PWR.STATUS -/

/-- Table PH-10: 64 bytes, which begin with the thermal state and the throttle level; the sensors are a free value. -/
theorem bodyPwrStatus_answers (vi : Nat) (e : Entry) (s : State) : ∃ d, bodyPwrStatus vi e s = .read s.drawn [] d ∧ d.length = 64
    ∧ (putLe 1 s.pwr.thermal ++ putLe 1 s.asa.level) <+: d := by
  refine ⟨_, rfl, ?_, ?_⟩
  · have sensors : ((List.range 8).flatMap (fun n => sensor n s)).length = 16 :=
      length_flatMap_of_forall (k := 2) (fun n _ => putLe_length ..)
    simp [putLe_length, zeros, sensors]
  · iterate 9 refine List.IsPrefix.trans ?_ (List.prefix_append ..)
    exact List.prefix_rfl

/-! ### PWR.DOMAIN -/

theorem domOn_iff {s : State} {pd : Nat} : s.domOn pd = true ↔ mgetD s.pwr.domains pd .off = .on := beq_iff_eq

theorem domOn_eq_false_iff {s : State} {pd : Nat} : s.domOn pd = false ↔ mgetD s.pwr.domains pd .off ≠ .on := beq_eq_false_iff_ne

/-- R549: what uses a domain of a buffer stack is the stack's content, which drains; no owner is asked. -/
theorem domainInUse_of_stack {s : State} {pd : Nat} (h : pd ≤ 14) : s.domainInUse pd = false := by
  have notLanes : ¬ (23 ≤ pd ∧ pd ≤ 38) := by omega
  have notPlane : ¬ (39 ≤ pd ∧ pd ≤ 54) := by omega
  have notPair : (pd == 55) = false := beq_eq_false_iff_ne.mpr (by omega)
  rw [State.domainInUse, if_neg notLanes, if_neg notPlane, notPair, Bool.false_and]

section Domain
variable {vi pd : Nat} {e : Entry} {s : State} (hpd : pd = e.p 24 1) (hsw : s.switching pd = false)
  (hr : 11 ≤ pd ∧ pd ≤ 14 ∨ 23 ≤ pd ∧ pd ≤ 55)
include hpd hsw hr

/-- R535, R549: a domain that the host may switch goes on when it is not. -/
theorem bodyPwrDomain_of_on (hop : e.p 25 1 = 1) : bodyPwrDomain vi e s =
    if mgetD s.pwr.domains pd .off = .on then .ok s
    else if pd ≤ 14 then { st := powerOn pd (s.setDom pd .off), wait := some (.domainOn pd, true) }
    else .ok (powerOn pd (s.setDom pd .off)) := by
  have free : (decide (11 ≤ pd ∧ pd ≤ 14) || decide (23 ≤ pd ∧ pd ≤ 55)) = true := by rw [← Bool.decide_or, decide_eq_true hr]
  simp only [bodyPwrDomain, ← hpd, hop, free, hsw]
  rfl

/-- R288, R549: a domain that the host may switch and that its owner does not use goes off when it is on, a stack's once it is empty. -/
theorem bodyPwrDomain_of_off (hop : e.p 25 1 = 2) (hu : s.domainInUse pd = false) : bodyPwrDomain vi e s =
    if mgetD s.pwr.domains pd .off ≠ .on then .ok (s.setDom pd .off)
    else if pd ≤ 14 then
      if s.stackUsed (pd - 9) = 0
      then .ok (stackOff (pd - 9) (s.modAdm (fun a => { a with stacksClosing := addOnce a.stacksClosing (pd - 9) })))
      else { st := s.modAdm (fun a => { a with stacksClosing := addOnce a.stacksClosing (pd - 9) }), wait := some (.stackDrain (pd - 9), false) }
    else .ok (domainOff pd s) := by
  have free : (decide (11 ≤ pd ∧ pd ≤ 14) || decide (23 ≤ pd ∧ pd ≤ 55)) = true := by rw [← Bool.decide_or, decide_eq_true hr]
  simp only [bodyPwrDomain, ← hpd, hop, free, hsw, hu]
  rfl

end Domain

/-! ### PWR.GPIO -/

section Gpio
variable {vi : Nat} {e : Entry} {s : State}

theorem bodyPwrGpio_of_read (hop : e.p 25 1 = 3) : bodyPwrGpio vi e s = .read s s.gpioLevels [] := by
  simp only [bodyPwrGpio, hop, if_true]

/-- R548: an output level is written; it is no setting, and nothing is stored. -/
theorem bodyPwrGpio_of_write {u : State} (hop : e.p 25 1 = 2) (hpin : e.p 24 1 < 16) (hlevel : e.p 27 1 ≤ 1)
    (hu : u = { s with pwr := { s.pwr with gpioOut := mset s.pwr.gpioOut (e.p 24 1) (e.p 27 1 == 1) } }) :
    bodyPwrGpio vi e s = .ok u u.gpioLevels := by
  have inRange : ¬ (15 < e.p 24 1 ∨ 1 < e.p 27 1) := by omega
  subst hu
  simp [bodyPwrGpio, hop, inRange]

/-- R548: a pin's configuration is used and stored. -/
theorem bodyPwrGpio_of_set {u : State} (hop : e.p 25 1 = 1) (hpin : e.p 24 1 < 16) (hmode : e.p 26 1 ≤ 2) (hlevel : e.p 27 1 ≤ 1)
    (hedge : e.p 28 1 ≤ 3) (hpull : e.p 30 1 ≤ 2) (ht : s.onTrial = false) (hu : u = { s with pwr := { s.pwr with
      gpio := mset s.pwr.gpio (e.p 24 1)
        { mode := e.p 26 1, level := e.p 27 1 == 1, edge := e.p 28 1, debounce := e.p 29 1, pull := e.p 30 1 },
      gpioOut := mset s.pwr.gpioOut (e.p 24 1) (e.p 27 1 == 1) } }) :
    bodyPwrGpio vi e s = .ok (saveSettings u) u.gpioLevels := by
  have inRange : ¬ (15 < e.p 24 1 ∨ 1 < e.p 27 1) := by omega
  have known : ¬ (2 < e.p 26 1 ∨ 3 < e.p 28 1 ∨ 2 < e.p 30 1) := by omega
  subst hu
  simp [bodyPwrGpio, hop, inRange, known, storing_result_of_no_trial _ ht]

end Gpio

/-- Settles O12: each command is completed with what its body gives under the clause's conditions. -/
theorem pwrCommandsComplete : Obligations.PwrCommandsComplete := by
  intro vi io e s
  refine ⟨fun h => ?status, fun pd h hpd hsw hr => ?domain, fun h hop => ?read, fun h hop hpin hlevel => ?write,
    fun u h hop hpin hmode hlevel hedge hpull ht hu => ?set⟩
  case status =>
    obtain ⟨d, hd, hbytes, hstart⟩ := bodyPwrStatus_answers vi e (taken vi s)
    exact ⟨d, next_runCommand_of_body h hd, hbytes, hstart⟩
  case domain =>
    have turnOn := bodyPwrDomain_of_on (vi := vi) (s := taken vi s) hpd hsw hr
    have turnOff := bodyPwrDomain_of_off (vi := vi) (s := taken vi s) hpd hsw hr
    refine ⟨fun hop hon => ?isOn, fun hop hoff hb => ?on, fun hop hoff hb => ?stackOn, fun hop hu hoff => ?isOff, fun hop hu hon hb => ?off,
      fun u hop hon hb hu => ?stackOff⟩
    case isOn => exact next_runCommand_of_body h ((turnOn hop).trans (if_pos (domOn_iff.mp hon)))
    case on =>
      exact next_runCommand_of_body h ((turnOn hop).trans ((if_neg (domOn_eq_false_iff.mp hoff)).trans (if_neg (by omega))))
    case stackOn => exact next_runCommand_of_body h ((turnOn hop).trans ((if_neg (domOn_eq_false_iff.mp hoff)).trans (if_pos hb)))
    case isOff => exact next_runCommand_of_body h ((turnOff hop hu).trans (if_pos (domOn_eq_false_iff.mp hoff)))
    case off =>
      exact next_runCommand_of_body h ((turnOff hop hu).trans ((if_neg (not_not_intro (domOn_iff.mp hon))).trans (if_neg (by omega))))
    case stackOff =>
      subst hu
      have turned := (turnOff hop (domainInUse_of_stack hb)).trans ((if_neg (not_not_intro (domOn_iff.mp hon))).trans (if_pos hb))
      exact ⟨fun hempty => next_runCommand_of_body h (turned.trans (if_pos hempty)),
        fun hused => next_runCommand_of_body h (turned.trans (if_neg hused))⟩
  case read => exact next_runCommand_of_body h (bodyPwrGpio_of_read hop)
  case write => exact ⟨_, next_runCommand_of_body h (bodyPwrGpio_of_write (s := taken vi s) hop hpin hlevel rfl), rfl⟩
  case set => exact next_runCommand_of_body h (bodyPwrGpio_of_set (s := taken vi s) hop hpin hmode hlevel hedge hpull ht hu)

end Sys2Proof.Machine
end

section
/-! SUPPORT. Sojourn, migration and prefetch, and the faults of Cask and buffer HBM (R283, R290, R291, R299, R301, R304). -/

namespace Sys2Proof.Machine

/-! ### What the shared operations leave of admission's state -/

theorem count_adm (ev idx n : Nat) (s : State) : (count ev idx n s).adm = s.adm := (count_changes ..).same .adm (by decide)

theorem notify_adm (ev : Nat × Nat) (payload : List Byte) (vis : List Nat) (s : State) : (notify ev payload vis s).adm = s.adm :=
  (notify_changes ..).same .adm (by decide)

theorem fault_adm (cls unit cause : Nat) (s : State) : (fault cls unit cause s).adm = s.adm := (fault_changes ..).same .adm (by decide)

theorem endWindow_adm (cls unit : Nat) (s : State) : (endWindow cls unit s).adm = s.adm := (endWindow_changes ..).same .adm (by decide)

theorem discardUnder_adm (cls unit n : Nat) (s : State) : (discardUnder cls unit n s).adm = s.adm :=
  (discardUnder_changes ..).same .adm (by decide)

theorem doubleLoss_adm (later first : List Nat) (n : Nat) (s : State) : (doubleLoss later first n s).adm = s.adm :=
  (doubleLoss_changes ..).same .adm (by decide)

/-- The thresholds that follow occupancy are all that the upkeep changes of admission's state. -/
theorem poolUpkeep_adm (s : State) : ∃ low full, (poolUpkeep s).adm = { s.adm with poolXoff := low, hbmFullSeen := full } := by
  unfold poolUpkeep
  extract_lets free low full marked ports swept drawn
  have paused : swept.adm = marked.adm :=
    foldS_keeps State.adm _ (fun _ x => foldS_keeps State.adm _ (fun _ y => (pfcClass_changes _ _ y).same .adm (by decide)) _ x) _ _
  have upkept : drawn.adm = marked.adm :=
    (foldS_keeps State.adm _ (fun _ x => (overdraftUpkeep_changes _ x).same .adm (by decide)) _ _).trans
      (((sectorUpkeep_changes swept).same .adm (by decide)).trans paused)
  refine ⟨low, full, ?_⟩
  split
  · exact upkept
  · exact ((wake_changes ..).same .adm (by decide)).trans upkept

theorem dropBad_adm (k : VPkt) (s : State) : (dropBad k s).adm = s.adm := (dropBad_changes ..).same .adm (by decide)

/-- Packets that a fault takes leave their VOQs, and nothing else of admission's state changes. -/
theorem loseQueuedIf_adm (pick : VPkt → Bool) (s : State) : ∃ voqs, (loseQueuedIf pick s).2.adm = { s.adm with voqs := voqs } := by
  have beside (x : Nat × VPkt) (s : State) : { (dropBad x.2 (s.pullVpkt x.1 x.2.pkt.id)).adm with voqs := [] } = { s.adm with voqs := [] } := by
    rw [dropBad_adm]
    rfl
  have rest : { (loseQueuedIf pick s).2.adm with voqs := [] } = { s.adm with voqs := [] } :=
    foldS_keeps (fun s => { s.adm with voqs := [] }) _ beside _ s
  exact ⟨(loseQueuedIf pick s).2.adm.voqs, congrArg (fun a : Adm => { a with voqs := (loseQueuedIf pick s).2.adm.voqs }) rest⟩

/-- R304: what a stack's failure does once the packets with a stripe there, `x` with their number, are taken. -/
theorem stackFail_eq {stack : Nat} {s : State} {x : Nat × State}
    (hx : loseQueuedIf (fun k => k.parts.any (fun p => p.stack == stack)) (count Cn.admHbmStackFail stack 1 (fault 8 stack 0 s)) = x) :
    stackFail stack s = poolUpkeep (notify Ev.admStackFail (putLe 1 stack ++ zeros 3 ++ putLe 4 x.1) []
      (discardUnder 8 stack x.1 (x.2.modAdm (fun a => { a with stacksFailed := addOnce a.stacksFailed stack })))) := by
  subst hx
  rfl

/-- R304: beside its VOQs and thresholds, admission's state takes the stack among those that have failed. -/
theorem stackFail_adm (stack : Nat) (s : State) : ∃ voqs low full, (stackFail stack s).adm = { s.adm with
    voqs := voqs, poolXoff := low, hbmFullSeen := full, stacksFailed := addOnce s.adm.stacksFailed stack } := by
  obtain ⟨voqs, lost⟩ := loseQueuedIf_adm (fun k => k.parts.any (fun p => p.stack == stack))
    (count Cn.admHbmStackFail stack 1 (fault 8 stack 0 s))
  rw [count_adm, fault_adm] at lost
  rw [stackFail_eq rfl]
  obtain ⟨low, full, kept⟩ := poolUpkeep_adm _
  refine ⟨voqs, low, full, kept.trans ?_⟩
  rw [notify_adm, discardUnder_adm, State.modAdm, lost]

/-- R301, R302: what a pseudo-channel's failure does once the packets of a double fault, `x` with their number, are taken. -/
theorem pcFail_eq {stack pc cause : Nat} {s t u : State} {x : Nat × State} (ht : t = (fault 6 (stack * 32 + pc) cause s).modAdm (fun a => { a with
      pcFailed := addOnce a.pcFailed (stack * 32 + pc), pcOpen := mset a.pcOpen (stack * 32 + pc) (fault 6 (stack * 32 + pc) cause s).mono,
      ueTimes := mdel a.ueTimes (stack * 32 + pc) }))
    (hx : loseQueuedIf (fun k => (((mkeys s.adm.pcOpen).filter (fun e => e / 32 == stack && e != stack * 32 + pc)).map (fun e => e % 32)).any
        (fun a => k.crosses stack a pc))
      (count Cn.admHbmPcFail stack 1 (notify Ev.admHbmPcFail (putLe 1 stack ++ putLe 1 pc ++ putLe 1 cause) [] t)) = x)
    (hu : u = doubleLoss [6, 7] [6, 7] x.1 x.2) :
    pcFail stack pc cause s = if 3 ≤ (u.failedIn stack).length then stackFail stack u else poolUpkeep u := by
  subst ht hu hx
  rfl

/-- R301: the failed pseudo-channel is among those that have failed, whatever else its failure takes. -/
theorem pcFail_pcFailed (stack pc cause : Nat) (s : State) :
    (pcFail stack pc cause s).adm.pcFailed = addOnce s.adm.pcFailed (stack * 32 + pc) := by
  rw [pcFail_eq rfl rfl rfl]
  generalize hx : loseQueuedIf _ _ = x
  have noted : (doubleLoss [6, 7] [6, 7] x.1 x.2).adm.pcFailed = addOnce s.adm.pcFailed (stack * 32 + pc) := by
    obtain ⟨voqs, lost⟩ := loseQueuedIf_adm _ _
    rw [doubleLoss_adm, ← hx, lost, count_adm, notify_adm, State.modAdm, fault_adm]
  split
  · obtain ⟨voqs, low, full, failed⟩ := stackFail_adm stack (doubleLoss [6, 7] [6, 7] x.1 x.2)
    rw [failed, noted]
  · obtain ⟨low, full, kept⟩ := poolUpkeep_adm (doubleLoss [6, 7] [6, 7] x.1 x.2)
    rw [kept, noted]

theorem mem_addOnce {α : Type} [DecidableEq α] (l : List α) (x : α) : x ∈ addOnce l x := by
  unfold addOnce
  split <;> simp [*]

/-! ### Sojourn -/

section Sojourn
variable {v : Nat} {k : VPkt} {l : List VPkt} {s : State}

/-- R283: an empty VOQ has no head that expires. -/
theorem expireHeads_of_empty (fuel : Nat) (h : (s.voq v).q = []) : expireHeads fuel v s = s := by
  cases fuel with
  | zero => rfl
  | succ fuel => rw [expireHeads, h]

/-- R283: a head within its class's limit stays. -/
theorem expireHeads_of_young (fuel : Nat) (h : (s.voq v).q = k :: l) (hk : k.older s.mono (s.classCfg k.res.tc).1 = false) :
    expireHeads fuel v s = s := by
  cases fuel with
  | zero => rfl
  | succ fuel => simp only [expireHeads, h, hk, Bool.false_eq_true, if_false]

/-- R283: a head beyond its class's limit is discarded, and the next one is visited. -/
theorem expireHeads_of_old (fuel : Nat) (h : (s.voq v).q = k :: l) (hk : k.older s.mono (s.classCfg k.res.tc).1 = true) :
    expireHeads (fuel + 1) v s = expireHeads fuel v (voidNumbers k (releaseRef k.res.handle k.res.version
      (count Cn.sojournExpired k.res.tc 1 (s.setVoq v { s.voq v with q := l })))) := by
  simp only [expireHeads, h, hk, if_true]

@[simp] theorem State.setVoq_q (s : State) (v : Nat) (x : Voq) : ((s.setVoq v x).voq v).q = x.q := by
  simp [State.setVoq, State.modAdm, State.voq]

theorem State.voq_of_adm {s t : State} (h : t.adm = s.adm) (v : Nat) : t.voq v = s.voq v := by rw [State.voq, h]; rfl

theorem exec_sojournSweep_of_queued (h : (s.voq v).q ≠ []) :
    exec (.sojournSweep v) s = .next (poolUpkeep (expireHeads ((s.voq v).q.length + 1) v s)) := by
  have queued : (!(s.voq v).q.isEmpty) = true := by simp [h]
  show execSojournSweep v s = _
  rw [execSojournSweep, queued, when_true]

theorem sojournSwept_changes (v fuel : Nat) (s : State) : Changes [.draws, .rings, .queue, .port, .tbl, .adm, .fab, .insts, .log, .flt, .cnt, .out]
    s (poolUpkeep (expireHeads fuel v s)) :=
  Changes.via ((expireHeads_changes ..).weaken (by decide)) (poolUpkeep_changes ..) (by decide)

end Sojourn

/-! ### Migration and prefetch -/

/-- R290: the first accepted packet in Cask more than 64 KiB behind the head goes to stacks that have the room and the bandwidth. -/
theorem exec_hbmMigration_of_room {v n : Nat} {k k' : VPkt} {l : List (Nat × Nat)} {s t : State} (ht : t = refillTokensHbm s)
    (hmode : s.inHbmMode v = true) (hk : (withOffsets 0 (s.voq v).q).find? (fun x => decide (65536 < x.1) && x.2.loc == .cask
      && x.2.acceptedAt.isSome && x.2.sent == 0) = some (n, k)) (hl : t.stacksFor v k.charge = some l) (hw : k.charge ≤ t.adm.writeTokens)
    (hk' : k' = { k with loc := .hbm, parts := t.newParts l, hbmAt := s.mono, headNo := none }) : exec (.hbmMigration v) s =
      .next (poolUpkeep (count Cn.admMigrated 0 k.charge (writeInjections k'
        ((t.modAdm (fun a => { a with writeTokens := a.writeTokens - k.charge })).setVpkt v k').drawn))) := by
  subst ht hk'
  show execHbmMigration v s = _
  simp only [execHbmMigration, hmode, hk, hl, Nat.not_lt.mpr hw, when_true, if_false]
  rfl

/-- R291: the first packet in HBM within 32 KiB of a head with credit is read into the prefetch region while there is room and bandwidth. -/
theorem exec_hbmPrefetch_of_room {v n : Nat} {k : VPkt} {s t : State} (ht : t = refillTokensHbm s) (hc : (s.voq v).credits ≠ 0)
    (hk : (withOffsets 0 (s.voq v).q).find? (fun x => decide (x.1 ≤ 32768) && x.2.loc == .hbm) = some (n, k))
    (hr : k.charge ≤ t.adm.readTokens) (hp : s.prefetchUsed + ceilDiv k.charge 256 ≤ 32768) : exec (.hbmPrefetch v) s =
      .next (poolUpkeep ((hbmRead k (t.modAdm (fun a => { a with readTokens := a.readTokens - k.charge }))).setVpkt v
        { k with loc := .prefetch, parts := [] })) := by
  have room : ¬ (t.adm.readTokens < k.charge ∨ 32768 < t.prefetchUsed + ceilDiv k.charge 256) := by
    have same : t.prefetchUsed = s.prefetchUsed := by rw [ht]; rfl
    omega
  subst ht
  show execHbmPrefetch v s = _
  simp only [execHbmPrefetch, decide_eq_true hc, hk, if_neg room, when_true]

/-! ### Faults -/

theorem exec_hbmPcFail_of_service {stack pc : Nat} (cause : Nat) {s : State} (hs : stack ∈ s.bufStacks) (hpc : pc < 32)
    (hnew : stack * 32 + pc ∉ s.adm.pcFailed) : exec (.hbmPcFail stack pc cause) s = .next (pcFail stack pc cause s) := by
  show execHbmPcFail stack pc cause s = _
  rw [execHbmPcFail, decide_eq_true ⟨hs, hpc, hnew⟩, when_true]

/-- R301: once no stripe is left on it, a failed pseudo-channel is clear. -/
theorem exec_hbmPcClear_of_drained {stack pc at_ : Nat} {s : State} (ho : mget s.adm.pcOpen (stack * 32 + pc) = some at_)
    (hd : s.pcDrained stack pc = true) : exec (.hbmPcClear stack pc) s =
      .next (endWindow 6 (stack * 32 + pc) (notify Ev.admHbmPcClear (putLe 1 stack ++ putLe 1 pc) []
        (s.modAdm (fun a => { a with pcOpen := mdel a.pcOpen (stack * 32 + pc) })))) := by
  show execHbmPcClear stack pc s = _
  rw [execHbmPcClear, ho, hd]
  rfl

theorem exec_hbmStackFail_of_service {stack : Nat} {s : State} (hs : stack ∈ s.bufStacks) :
    exec (.hbmStackFail stack) s = .next (stackFail stack s) := by
  show execHbmStackFail stack s = _
  rw [execHbmStackFail, decide_eq_true hs, when_true]

/-- Settles O31: each event acts under its guard, and the failures leave what they record of admission's state. -/
theorem admEventsComplete : Obligations.AdmEventsComplete := by
  intro s
  refine ⟨fun v hq => ⟨exec_sojournSweep_of_queued hq, sojournSwept_changes ..⟩, fun v k l hq hk => ?young, fun v k hq hk => ?old,
    fun v n k k' l hmode hf hl hw hk' => exec_hbmMigration_of_room rfl hmode hf hl hw hk',
    fun v n k hc hf hr hp => exec_hbmPrefetch_of_room rfl hc hf hr hp, fun n bad u hu => ?scrub,
    fun stack pc cause hs hpc hnew => ⟨_, exec_hbmPcFail_of_service cause hs hpc hnew, ?pcFailed, pcFail_changes ..⟩,
    fun stack pc at_ ho hd => ⟨_, exec_hbmPcClear_of_drained ho hd, ?pcOpen, ?pcClear⟩,
    fun stack hs => ⟨_, exec_hbmStackFail_of_service hs, ?stackFailed, stackFail_changes ..⟩⟩
  case young => rw [exec_sojournSweep_of_queued (by simp [hq]), expireHeads_of_young _ hq hk]
  case old =>
    rw [exec_sojournSweep_of_queued (by simp [hq]), expireHeads_of_old _ hq hk, expireHeads_of_empty]
    rw [State.voq_of_adm ((voidNumbers_changes ..).same .adm (by decide)), State.voq_of_adm ((releaseRef_changes ..).same .adm (by decide)),
      State.voq_of_adm (count_adm ..), State.setVoq_q]
  case scrub =>
    subst hu
    rfl
  case pcFailed =>
    rw [pcFail_pcFailed]
    exact mem_addOnce ..
  case pcOpen => rw [endWindow_adm, notify_adm]; rfl
  case pcClear =>
    exact Changes.via (Changes.via ((State.modAdm_changes ..).weaken (by decide)) (notify_changes ..) (by decide)) (endWindow_changes ..) (by decide)
  case stackFailed =>
    obtain ⟨voqs, low, full, failed⟩ := stackFail_adm stack s
    rw [failed]
    exact mem_addOnce ..

end Sys2Proof.Machine
end

section
/-! SUPPORT. The end of an instance reset, and the punt and inject queues (R278, R433 to R436, R438, R444). -/

namespace Sys2Proof.Machine

/-! ### Instances and their queues by number -/

theorem State.inst_of_insts {s t : State} (h : t.insts = s.insts) (v : Nat) : t.inst v = s.inst v := by rw [State.inst, h]; rfl

theorem count_inst (ev idx n : Nat) (s : State) (v : Nat) : (count ev idx n s).inst v = s.inst v :=
  State.inst_of_insts ((count_changes ..).same .insts (by decide)) v

theorem notify_inst (ev : Nat × Nat) (payload : List Byte) (vis : List Nat) (s : State) (v : Nat) : (notify ev payload vis s).inst v = s.inst v :=
  State.inst_of_insts ((notify_changes ..).same .insts (by decide)) v

theorem postVector_inst (vi vec : Nat) (s : State) (v : Nat) : (postVector vi vec s).inst v = s.inst v :=
  State.inst_of_insts ((postVector_changes ..).same .insts (by decide)) v

theorem State.puntQueueOf_of_inst {s t : State} {v : Nat} (h : t.inst v = s.inst v) (q : Nat) : t.puntQueueOf v q = s.puntQueueOf v q := by
  rw [State.puntQueueOf, h]; rfl

theorem State.injQueueOf_of_inst {s t : State} {v : Nat} (h : t.inst v = s.inst v) (q : Nat) : t.injQueueOf v q = s.injQueueOf v q := by
  rw [State.injQueueOf, h]; rfl

@[simp] theorem State.modPuntQ_puntQueueOf (s : State) (v q : Nat) (f : VQueue → VQueue) :
    (s.modPuntQ v q f).puntQueueOf v q = f (s.puntQueueOf v q) := by
  simp [State.modPuntQ, State.puntQueueOf]

@[simp] theorem State.modInjQ_injQueueOf (s : State) (v q : Nat) (f : VQueue → VQueue) :
    (s.modInjQ v q f).injQueueOf v q = f (s.injQueueOf v q) := by
  simp [State.modInjQ, State.injQueueOf]

/-! ### The end of an instance reset -/

section Reset
variable {vi : Nat} {s : State}

/-- R438: the drain ends when nothing is left or at its limit, with every issued read completed. -/
theorem exec_viResetDrainEnd_of_drained (hst : (s.inst vi).st = .resetting) (hr : s.readsOut vi = false)
    (hd : (s.undrained vi = [] ∧ (s.inst vi).punts = []) ∨ (s.inst vi).resetDeadline ≤ s.mono) :
    exec (.viResetDrainEnd vi) s = .next (resetEnd vi s) := by
  have ended : (((s.undrained vi).isEmpty && (s.inst vi).punts.isEmpty) || s.due (s.inst vi).resetDeadline) = true := by
    rcases hd with ⟨hu, hp⟩ | hdue
    · rw [hu, hp]; rfl
    · rw [State.due, decide_eq_true hdue, Bool.or_true]
  show execViResetDrainEnd vi s = _
  rw [execViResetDrainEnd, decide_eq_true hst, hr, ended]
  rfl

/-- R438: an instance whose reset was no destruction is active again, and completing VI.RESET leaves it so. -/
theorem resetEnd_active (hd : (s.inst vi).destroying = false) : ((resetEnd vi s).inst vi).st = .active := by
  unfold resetEnd
  extract_lets i left
  dsimp only
  rw [show i.destroying = false from hd, if_neg Bool.false_ne_true, State.inst_of_insts ((completeWaiting_changes ..).same .insts (by decide)),
    State.modInst_inst]

end Reset

/-! ### Queue faults -/

theorem queueFault_puntQueueOf (vi q : Nat) (s : State) : (queueFault vi 0 q s).puntQueueOf vi q = (s.puntQueueOf vi q).disable := by
  rw [queueFault, State.puntQueueOf_of_inst (count_inst ..), State.puntQueueOf_of_inst (notify_inst ..), if_pos rfl, State.modPuntQ_puntQueueOf]

/-! ### Punt delivery -/

/-- R433, R434: a delivered copy leaves the instance, and its buffer the queue's ring. -/
theorem deliverPunt_inst (vi q : Nat) (b : PuntBuf) (c : PuntCopy) (s : State) : (deliverPunt vi q b c s).inst vi = { s.inst vi with
    puntQ := mmod (s.inst vi).puntQ q {} (fun x => { x.advance with bufs := x.bufs.drop 1 })
    punts := (s.inst vi).punts.filter (fun y => decide (y ≠ c)) } := by
  unfold deliverPunt
  extract_lets x frame written advanced unlisted counted
  have truncated : counted.inst vi = unlisted.inst vi := by
    unfold counted
    split
    · exact count_inst ..
    · rfl
  rw [postVector_inst, count_inst, truncated, show unlisted.inst vi = _ from State.modInst_inst ..,
    show advanced.inst vi = _ from State.modInst_inst .., show written.inst vi = s.inst vi from rfl]

section Punt
variable {vi q : Nat} {b : PuntBuf} {c : PuntCopy} {l : List PuntBuf} {s : State}

/-- R434: the first copy of a queue, once its frame has ended, goes into the buffer at the head of the ring. -/
theorem exec_puntDeliver_of_ready (ok : Bool) (hc : s.nextPunt vi q = some c) (hb : (s.puntQueueOf vi q).bufs = b :: l) (he : c.ended = true)
    (hr : s.hostReach vi = true) :
    exec (.puntDeliver vi q ok) s = .next (if ok then deliverPunt vi q b c s else queueFault vi 0 q s) := by
  show execPuntDeliver vi q ok s = _
  simp only [execPuntDeliver, hc, hb, he, hr, Bool.and_self, when_true]

end Punt

/-! ### Inject -/

section Inject
variable {vi q : Nat} {x : InjSlot} {l : List InjSlot} {s : State}

theorem State.modInjQ_injectBad (s : State) (vi q : Nat) (f : VQueue → VQueue) (b : List Byte) :
    (s.modInjQ vi q f).injectBad vi b = s.injectBad vi b := by
  simp [State.injectBad, State.modInjQ]

/-- R278, R435: the entry at the head of the ring is taken while the pool is at or above its floor. -/
theorem exec_injectFetch_of_room (frame : List Byte) (hs : (s.injQueueOf vi q).slots = x :: l) (hp : s.adm.poolXoff = false)
    (hr : s.hostReach vi = true) : exec (.injectFetch vi q frame) s = .next (injectFetch vi q x frame s) := by
  show execInjectFetch vi q frame s = _
  simp only [execInjectFetch, hs, hp, hr, Bool.not_false, Bool.and_self, when_true]

/-- R435: the queue after the entry at the head of its ring is taken. -/
def VQueue.taken (q : VQueue) : VQueue := { q.advance with slots := q.slots.drop 1 }

theorem VQueue.taken_slots (q : VQueue) : q.taken.slots = q.slots.drop 1 := rfl

theorem VQueue.taken_fetched (q : VQueue) : q.taken.fetched = q.fetched := by
  unfold VQueue.taken VQueue.advance
  split <;> rfl

/-- R435: the frame of a sound entry is fetched, with the entry as it goes back and the instance epoch of now. -/
theorem injectFetch_of_sound (frame : List Byte) (hb : s.injectBad vi x.raw = false) : injectFetch vi q x frame s =
    count Cn.viInjectPkts vi 1 ((s.modInjQ vi q VQueue.taken).modInjQ vi q (fun y => { y with
      fetched := y.fetched ++ [(⟨injectBack x.raw 0 (s.injQueueOf vi q).phase⟩, fit (le x.raw 8 2) frame, (s.inst vi).epoch)] })) := by
  have sound : ¬ (s.modInjQ vi q VQueue.taken).injectBad vi x.raw = true := by
    rw [State.modInjQ_injectBad, hb]
    exact Bool.false_ne_true
  have epoch : ((s.modInjQ vi q VQueue.taken).inst vi).epoch = (s.inst vi).epoch := by rw [State.modInjQ, State.modInst_inst]
  rw [← epoch]
  exact if_neg sound

/-- R435: an entry that is malformed goes back at once. -/
theorem injectFetch_of_bad (frame : List Byte) (hb : s.injectBad vi x.raw = true) : injectFetch vi q x frame s =
    postVector vi 3 (count Cn.viInjectReject vi 1 ((s.modInjQ vi q VQueue.taken).emit
      (.injectBack vi q (injectBack x.raw 2 (s.injQueueOf vi q).phase)))) :=
  if_pos ((State.modInjQ_injectBad ..).trans hb)

theorem injectFetch_sound_injQueueOf (frame : List Byte) (hb : s.injectBad vi x.raw = false) : (injectFetch vi q x frame s).injQueueOf vi q =
    { (s.injQueueOf vi q).taken with fetched := (s.injQueueOf vi q).fetched
      ++ [(⟨injectBack x.raw 0 (s.injQueueOf vi q).phase⟩, fit (le x.raw 8 2) frame, (s.inst vi).epoch)] } := by
  rw [injectFetch_of_sound frame hb, State.injQueueOf_of_inst (count_inst ..), State.modInjQ_injQueueOf, State.modInjQ_injQueueOf,
    VQueue.taken_fetched]

theorem injectFetch_bad_injQueueOf (frame : List Byte) (hb : s.injectBad vi x.raw = true) :
    (injectFetch vi q x frame s).injQueueOf vi q = (s.injQueueOf vi q).taken := by
  rw [injectFetch_of_bad frame hb, State.injQueueOf_of_inst (postVector_inst ..), State.injQueueOf_of_inst (count_inst ..),
    State.injQueueOf_of_inst (State.emit_inst ..), State.modInjQ_injQueueOf]

theorem injectFetch_bad_out (frame : List Byte) (hb : s.injectBad vi x.raw = true) :
    .injectBack vi q (injectBack x.raw 2 (s.injQueueOf vi q).phase) ∈ (injectFetch vi q x frame s).out := by
  rw [injectFetch_of_bad frame hb]
  exact ((count_out ..).trans (postVector_out ..)).subset (by simp)

/-- R435, R444: what the end of the oldest issued read does: its frame goes on, or its failure disables the queue. -/
def readEnd (vi q : Nat) (x : InjSlot) (frame : List Byte) (epoch : Nat) (s : State) : Bool → State
  | true => injectDone vi q x frame epoch s
  | false => queueFault vi 1 q s

variable {frame : List Byte} {epoch : Nat}

theorem exec_injectReadDone_of_more {y : InjSlot × List Byte × Nat} {t : List (InjSlot × List Byte × Nat)} (ok : Bool)
    (hf : (s.injQueueOf vi q).fetched = (x, frame, epoch) :: y :: t) : exec (.injectReadDone vi q ok) s =
      .next (readEnd vi q x frame epoch (s.modInjQ vi q (fun z => { z with fetched := y :: t })) ok) := by
  show execInjectReadDone vi q ok s = _
  simp only [execInjectReadDone, hf, List.cons_ne_nil, if_false]
  cases ok <;> rfl

/-- R444: a command that waits for the queue's reads completes with the last of them. -/
theorem exec_injectReadDone_of_last (ok : Bool) (hf : (s.injQueueOf vi q).fetched = [(x, frame, epoch)]) : exec (.injectReadDone vi q ok) s =
    .next (completeWaiting (fun p => p.wait == .injectReads vi q) []
      (readEnd vi q x frame epoch (s.modInjQ vi q (fun z => { z with fetched := [] })) ok)) := by
  show execInjectReadDone vi q ok s = _
  simp only [execInjectReadDone, hf, if_true]
  cases ok <;> rfl

end Inject

/-- Settles O47: a reset ends once its instance is drained, and what an event takes from a queue or an instance is read off. -/
theorem viQueuesComplete : Obligations.ViQueuesComplete := by
  intro vi q s
  refine ⟨fun hst hr hd => exec_viResetDrainEnd_of_drained hst hr hd,
    fun hst hr hd hkept => ⟨_, exec_viResetDrainEnd_of_drained hst hr (.inr hd), resetEnd_changes .., fun _ => resetEnd_active hkept⟩,
    fun c b l hc hb he hr => ?deliver, fun c b l hc hb he hr => ?fault, fun x l frame hs hp hr hb => ?fetch,
    fun x l frame hs hp hr hb => ?reject, fun x frame epoch y l hf => exec_injectReadDone_of_more true hf,
    fun x frame epoch hf => exec_injectReadDone_of_last true hf, fun x frame epoch y l hf => exec_injectReadDone_of_more false hf,
    fun x frame epoch hf => exec_injectReadDone_of_last false hf⟩
  case deliver =>
    refine ⟨_, (exec_puntDeliver_of_ready true hc hb he hr).trans (congrArg _ (if_pos rfl)), ?_, ?_, deliverPunt_changes ..⟩
    · rw [State.puntQueueOf, deliverPunt_inst, mgetD_mmod_self]
      exact congrArg (List.drop 1) hb
    · rw [deliverPunt_inst]
  case fault =>
    exact ⟨_, (exec_puntDeliver_of_ready false hc hb he hr).trans (congrArg _ (if_neg Bool.false_ne_true)), queueFault_puntQueueOf ..,
      (queueFault_changes ..).weaken (by decide)⟩
  case fetch =>
    refine ⟨_, exec_injectFetch_of_room frame hs hp hr, ?_, ?_, injectFetch_changes ..⟩ <;> rw [injectFetch_sound_injQueueOf frame hb]
    rw [VQueue.taken_slots, hs, List.drop_one, List.tail_cons]
  case reject =>
    refine ⟨_, exec_injectFetch_of_room frame hs hp hr, ?_, ?_, injectFetch_bad_out frame hb, injectFetch_changes ..⟩ <;>
      rw [injectFetch_bad_injQueueOf frame hb]
    · rw [VQueue.taken_slots, hs, List.drop_one, List.tail_cons]
    · exact VQueue.taken_fetched _

end Sys2Proof.Machine
end

section
/-! SUPPORT. The commands of family FAB (R311, R319, R337, R338, Tables FB-7 and FB-8). -/

namespace Sys2Proof.Machine

section Fab
variable {vi : Nat} {e : Entry} {s : State}

/-! ### FAB.PLANE -/

theorem powerOn_fab (pd : Nat) (s : State) : (powerOn pd s).fab = s.fab := (powerOn_changes ..).same .fab (by decide)

/-- R311: a plane is enabled with lanes that no other plane has; one in UP that a raised MIN_LANES leaves short is lost. -/
theorem bodyFabPlane_of_enable {c : PlaneCfg} {eff : List Nat} {u : State} (hp : e.p 24 1 ≤ 15) (hop : e.p 25 1 = 1)
    (hc : c = {
      enabled := true, minLanes := orDefault (e.p 26 1) 8, encrypt := bit (e.p 27 1) 0, backToBack := bit (e.p 27 1) 1,
      lanes := laneList (bytesAt e.raw 28 10) }) (hmin : c.minLanes ≤ 10) (hl : c.lanes.any (fun l => decide (159 < l)) = false)
    (hd : c.lanes.eraseDups.length = c.lanes.length) (heff : eff = if c.lanes = [] then upFrom (10 * e.p 24 1) 10 else c.lanes)
    (hfree : s.laneTaken (e.p 24 1) eff = false) (hst : (s.plane (e.p 24 1)).st = .absent ∨ s.planeLanes (e.p 24 1) = eff)
    (ht : s.onTrial = false) (hu : u = powerOn (39 + e.p 24 1) (s.modFabCfg (fun x => { x with planes := mset x.planes (e.p 24 1) c }))) :
    bodyFabPlane vi e s = .ok (saveSettings (if u.planeUp (e.p 24 1) = true ∧ (u.lanesUp (e.p 24 1)).length < c.minLanes
      then fabricWindows (planeLoss (e.p 24 1) false (fault 4 (e.p 24 1) 0 u)) else u)) := by
  subst hc heff hu
  have known : ¬ (15 < e.p 24 1 ∨ (e.p 25 1 ≠ 1 ∧ e.p 25 1 ≠ 2)) := by omega
  have enables : e.p 25 1 ≠ 2 := by omega
  have formed := not_or.mpr ⟨Nat.not_lt.mpr hmin, not_or.mpr ⟨Bool.eq_false_iff.mp hl, not_not_intro hd⟩⟩
  have idle : ¬ ((s.plane (e.p 24 1)).st ≠ .absent ∧ s.planeLanes (e.p 24 1) ≠ _) := fun x => hst.elim x.1 x.2
  simp only [bodyFabPlane, if_neg known, if_neg enables, if_neg formed, hfree, Bool.false_eq_true, if_false, if_neg idle,
    storing_of_no_trial ht]

/-- R311: a plane in ABSENT is not in UP once its settings change and its domain is powered. -/
theorem planeUp_of_absent {p : Nat} (f : FabCfg → FabCfg) (pd : Nat) (h : (s.plane p).st = .absent) :
    (powerOn pd (s.modFabCfg f)).planeUp p = false := by
  rw [State.planeUp, State.plane_of_fab (powerOn_fab ..), show (s.modFabCfg f).plane p = s.plane p from rfl, h]
  rfl

/-- R347: a plane that is enabled is disabled. -/
theorem bodyFabPlane_of_disable (hp : e.p 24 1 ≤ 15) (hop : e.p 25 1 = 2) (ht : s.onTrial = false) : bodyFabPlane vi e s =
    .ok (saveSettings (if (s.planeCfg (e.p 24 1)).enabled then disablePlane (e.p 24 1) s else s)) := by
  have known : ¬ (15 < e.p 24 1 ∨ (e.p 25 1 ≠ 1 ∧ e.p 25 1 ≠ 2)) := by omega
  simp only [bodyFabPlane, if_neg known, if_pos hop, storing_of_no_trial ht]

/-! ### FAB.SPMAP, FAB.CONFIG and FAB.CT -/

/-- R319: records that all apply replace the map; the answer names no record. -/
theorem bodyFabSpmap_of_sound {m : AMap SpEntry} (hn : e.p 24 4 ≠ 0) (hmax : e.p 24 4 ≤ 32768) (hl : e.dataLen = 8 * e.p 24 4)
    (hm : spmapAll s 0 s.fab.cfg.spmap (chunks 8 (e.p 24 4) e.buf) = (m, none)) (ht : s.onTrial = false) : bodyFabSpmap vi e s =
      .ok (saveSettings (s.modFabCfg (fun c => { c with spmap := m }))) (putLe 4 0xFFFFFFFF) := by
  have inRange : ¬ (e.p 24 4 = 0 ∨ 32768 < e.p 24 4) := by omega
  simp only [bodyFabSpmap, if_neg inRange, hl, ne_eq, not_true_eq_false, if_false, hm, storing_result_of_no_trial _ ht]

/-- R337: times in their ranges, of which HOLE_TIMEOUT outlasts every retransmission. -/
theorem bodyFabConfig_of_sound {a r d h c q : Nat} (ha : a = orDefault (e.p 24 1) 8) (hr : r = orDefault (e.p 25 1) 4)
    (hd : d = orDefault (e.p 26 1) 4) (hh : h = orDefault (e.p 28 2) 200) (hc : c = orDefault (e.p 30 2) 3000)
    (hq : q = orDefault (e.p 32 2) 2000) (ha1 : 4 ≤ a) (ha2 : a ≤ 62) (hr1 : 2 ≤ r) (hr2 : r ≤ 8) (hd2 : d ≤ 20) (hh2 : h ≤ 10000)
    (hc1 : 1000 ≤ c) (hc2 : c ≤ 20000) (hq1 : 500 ≤ q) (hq2 : q ≤ 20000) (horder : 2 * r * a + 20 ≤ h) (ht : s.onTrial = false) :
    bodyFabConfig vi e s = .ok (saveSettings (s.modFabCfg (fun x => { x with
      ackTimeout := a, retxMax := r, dupWait := d, holeTimeout := h, creditRtt := c, requestPeriod := q }))) := by
  have inRange : ¬ (a < 4 ∨ 62 < a ∨ r < 2 ∨ 8 < r ∨ 20 < d ∨ 10000 < h ∨ c < 1000 ∨ 20000 < c ∨ q < 500 ∨ 20000 < q) := by omega
  simp only [bodyFabConfig, ← ha, ← hr, ← hd, ← hh, ← hc, ← hq, if_neg inRange, Nat.not_lt.mpr horder, if_false, storing_of_no_trial ht]

/-- R338: the cut-through classes of one line port, or of all of them. -/
theorem bodyFabCt_of_ports {ports : List Nat} (hp : e.p 24 1 ≤ 127 ∧ ports = [e.p 24 1] ∨ e.p 24 1 = 0xFF ∧ ports = List.range 128)
    (ht : s.onTrial = false) : bodyFabCt vi e s = .ok (saveSettings (s.modFabCfg (fun c => { c with
      ct := foldS ports c.ct (fun p m => mput m p (if e.p 25 1 = 0 then none else some (e.p 25 1))) }))) := by
  rcases hp with ⟨hport, rfl⟩ | ⟨hall, rfl⟩
  · have one : e.p 24 1 ≠ 0xFF := by omega
    have known : ¬ (127 < e.p 24 1 ∧ e.p 24 1 ≠ 0xFF) := by omega
    simp only [bodyFabCt, if_neg known, if_neg one, storing_of_no_trial ht]
  · have known : ¬ (127 < e.p 24 1 ∧ e.p 24 1 ≠ 0xFF) := by omega
    simp only [bodyFabCt, if_neg known, if_pos hall, storing_of_no_trial ht]

/-! ### FAB.STATUS -/

/-- Table FB-8: 64 bytes, which begin with the planes in UP and the lanes in use of each plane. -/
theorem bodyFabStatus_answers (vi : Nat) (e : Entry) (s : State) : ∃ d, bodyFabStatus vi e s = .read s [] d ∧ d.length = 64
    ∧ (putLe 2 s.planesUpMask ++ (List.range 16).flatMap (fun p => putLe 1 (s.lanesUp p).length)) <+: d := by
  have lanes : ((List.range 16).flatMap (fun p => putLe 1 (s.lanesUp p).length)).length = 16 :=
    length_flatMap_of_forall (k := 1) (fun p _ => putLe_length ..)
  refine ⟨_, rfl, by simp only [List.length_append, putLe_length, lanes, zeros, List.length_replicate], ?_⟩
  iterate 6 refine List.IsPrefix.trans ?_ (List.prefix_append ..)
  exact List.prefix_rfl

end Fab

/-- Settles O36: each command is completed with what its body gives under the clause's conditions. -/
theorem fabCommandsComplete : Obligations.FabCommandsComplete := by
  intro vi io e s
  refine ⟨fun c h hp hop hlanes hen hm hm1 hm2 henc hb2b hl hd hfree hst ht => ?absent,
    fun p c eff u h hp hp15 hop hc hmin hl hd heff hfree hst ht hu => ?enable, fun h hp hop ht => ?disable,
    fun m h hn hmax hl hm ht => ?spmap,
    fun a r d x c q h ha hr hd hx hc hq ha1 ha2 hr1 hr2 hd2 hx2 hc1 hc2 hq1 hq2 horder ht => ?config,
    fun ports h hp ht => ?ct, fun h => ?status⟩
  case absent =>
    have given : c = {
        enabled := true, minLanes := orDefault (e.p 26 1) 8, encrypt := bit (e.p 27 1) 0, backToBack := bit (e.p 27 1) 1,
        lanes := laneList (bytesAt e.raw 28 10) } := by
      rw [orDefault, if_neg (by omega), hm, ← hen, ← henc, ← hb2b, ← hlanes]
    have body := bodyFabPlane_of_enable (vi := vi) (s := taken vi s) hp hop given hm2 hl hd rfl hfree (.inl hst) ht rfl
    rw [planeUp_of_absent (s := taken vi s) _ _ hst, if_neg (fun x => Bool.false_ne_true x.1)] at body
    refine ⟨_, next_runCommand_of_body h body, powerOn_fab .., ?_⟩
    exact Changes.via ((State.modFabCfg_changes ..).weaken (by decide)) (powerOn_changes ..) (by decide)
  case enable =>
    subst hp
    exact next_runCommand_of_body h (bodyFabPlane_of_enable (s := taken vi s) hp15 hop hc hmin hl hd heff hfree hst ht hu)
  case disable => exact next_runCommand_of_body h (bodyFabPlane_of_disable (s := taken vi s) hp hop ht)
  case spmap => exact next_runCommand_of_body h (bodyFabSpmap_of_sound (s := taken vi s) hn hmax hl hm ht)
  case config =>
    exact next_runCommand_of_body h
      (bodyFabConfig_of_sound (s := taken vi s) ha hr hd hx hc hq ha1 ha2 hr1 hr2 hd2 hx2 hc1 hc2 hq1 hq2 horder ht)
  case ct => exact next_runCommand_of_body h (bodyFabCt_of_ports (s := taken vi s) hp ht)
  case status =>
    obtain ⟨d, hd, hbytes, hstart⟩ := bodyFabStatus_answers vi e (taken vi s)
    exact ⟨d, next_runCommand_of_body h hd, hbytes, hstart⟩

end Sys2Proof.Machine
end

section
/-! SUPPORT. The sending half of the fabric side (R316, R320 to R329, R388) and link frames (R312). -/

namespace Sys2Proof.Machine

/-! ### Link frames -/

/-- R312: a frame on a lane in use is good when its TAG verifies under a key slot that the plane accepts. -/
theorem exec_fabLinkFrameReceive_of_used {lane p : Nat} (slot : Nat) (tagOk : Bool) (cells : List Cell) {s : State}
    (hp : s.planeOf lane = some p) (hu : (s.lane lane).inUse = true) : exec (.fabLinkFrameReceive lane slot tagOk cells) s =
      .next (if tagOk && s.slotOk p slot then goodFrame lane p cells (noteSlot p slot s) else badFrame lane s) := by
  show execFabLinkFrameReceive lane slot tagOk cells s = _
  simp only [execFabLinkFrameReceive, hp, hu, when_true]

theorem noteSlot_fab (p slot : Nat) (s : State) : (noteSlot p slot s).fab = s.fab := by
  unfold noteSlot
  dsimp only
  split <;> rfl

/-- R312: the cells of a frame whose number asks for no rekey (R461) are taken in order. -/
theorem goodFrame_of_no_rekey {lane : Nat} (p : Nat) (cells : List Cell) {s : State} (h : (s.lane lane).framesRx + 1 ≠ 2 ^ 62) :
    goodFrame lane p cells s = foldS cells
      (bump (winEvent 3 2) lane 1 (s.modLane lane (fun l => { l with badTags := 0, framesRx := l.framesRx + 1 }))) (cellIn p) := by
  have counted : ((bump (winEvent 3 2) lane 1 (s.modLane lane (fun l => { l with badTags := 0, framesRx := l.framesRx + 1 }))).lane lane).framesRx
      = (s.lane lane).framesRx + 1 := congrArg Lane.framesRx (State.modLane_lane ..)
  unfold goodFrame
  dsimp only
  rw [counted, if_neg (fun x => h x.1)]

/-! ### Cells that are sent -/

theorem takeArmed_fab (target unit : Nat) (s : State) : (takeArmed target unit s).2.fab = s.fab := (takeArmed_changes ..).same .fab (by decide)

/-- A cell that is queued waits at a lane, or on the plane's loop path (R343). -/
theorem queueCell_fab (p : Nat) (c : Cell) (s : State) : ∃ lanes loop, (queueCell p c s).fab = { s.fab with lanes := lanes, loop := loop } := by
  unfold queueCell
  split
  · exact ⟨_, _, rfl⟩
  · split
    · exact ⟨_, _, rfl⟩
    · exact ⟨_, _, rfl⟩

/-- A cell that is sent changes nothing of the fabric side but where it waits. -/
theorem sendCell_fab (p : Nat) (c : Cell) (s : State) : ∃ lanes loop, (sendCell p c s).fab = { s.fab with lanes := lanes, loop := loop } := by
  have counted : (count Cn.fabCellsTx p 1 (takeArmed 2 p s).2).fab = s.fab := (count_fab ..).trans (takeArmed_fab ..)
  unfold sendCell
  dsimp only
  split
  · rw [State.drawn_fab, ← counted]
    exact queueCell_fab ..
  · rw [← counted]
    exact queueCell_fab ..

/-- R325: the granted cell enters retention under the next key; the rest of the fabric side but the links keeps what it held. -/
theorem launch_fab (v plane unit : Nat) (c : Cell) (pkts : List VPkt) (s : State) : ∃ lanes loop r,
    (launch v plane unit c pkts s).fab = { s.fab with
      lanes := lanes, loop := loop, retention := s.fab.retention ++ [r], nextKey := s.fab.nextKey + 1 }
    ∧ r.key = s.fab.nextKey ∧ r.cell = c := by
  unfold launch
  extract_lets copies r kept charged
  obtain ⟨lanes, loop, sent⟩ := sendCell_fab plane c charged
  exact ⟨lanes, loop, r, ((poolUpkeep_changes ..).same .fab (by decide)).trans sent, rfl, rfl⟩

/-! ### The matcher's grant -/

/-- R324: a pair of the matching has its grant, and the plane has taken a cell in this clock. -/
def matched (v plane : Nat) (s : State) : State :=
  takePlane plane (s.modFab (fun f => { f with
    matcher := { s.matching with pairs := s.matching.pairs.filter (fun x => decide (x ≠ (v, plane))) } }))

theorem matched_changes (v plane : Nat) (s : State) : Changes [.fab] s (matched v plane s) :=
  (State.modFab_changes ..).trans (takePlane_changes ..)

section Grant
variable {v plane : Nat} {s : State}

theorem exec_matcherGrant_of_matched (hp : plane < 16) (hm : (v, plane) ∈ s.matching.pairs) (hb : plane ∉ s.busyPlanes) :
    exec (.matcherGrant v plane) s = .next (matcherGrant v plane (matched v plane s)) := by
  show execMatcherGrant v plane s = _
  simp only [execMatcherGrant, decide_eq_true hp, decide_eq_true hm, decide_eq_true hb, Bool.and_self, when_true]
  rfl

variable {k : VPkt} {q : List VPkt} {unit : Nat}

/-- R316, R323: a head that is ready, within its class's limit and not alone in its cells shares the cell that it is granted. -/
theorem matcherGrant_of_shared (hq : (s.voq v).q = k :: q) (hk : k.older s.mono (s.classCfg k.res.tc).1 = false)
    (hu : s.grantUnit v plane = some unit) (hr : k.ready = true) (hroom : s.retRoom = true) (hup : s.planeUp plane = true)
    (ha : k.alone = false) : matcherGrant v plane s = grantShared v plane unit k s := by
  simp only [matcherGrant, expireHeads_of_young _ hq hk, hq, hu, hr, hroom, hup, ha, Bool.not_true, Bool.or_self, Bool.false_eq_true, if_false]

/-- R325: a shared cell carries its stream's next number, and the stream's number steps on. -/
theorem grantShared_fab (v plane unit : Nat) (k : VPkt) (s : State) : ∃ r,
    (grantShared v plane unit k s).fab.retention = s.fab.retention ++ [r] ∧ r.key = s.fab.nextKey ∧ r.cell.kind = .data
    ∧ r.cell.sp = v / 8 ∧ r.cell.tc = v % 8 ∧ r.cell.seq = (s.txStream (streamKey (s.streamSun k.pkt) (v / 8) (v % 8))).1
    ∧ ((grantShared v plane unit k s).txStream (streamKey (s.streamSun k.pkt) (v / 8) (v % 8))).1 = (r.cell.seq + 1) % 2 ^ 24 := by
  unfold grantShared
  extract_lets key
  dsimp only
  obtain ⟨lanes, loop, r, launched, hkey, hcell⟩ := launch_fab v plane unit
    (grantedCell v unit k (s.txStream key).1 (s.txStream key).2 (gather s.mono 256 (s.voq v).q).1 s) (gather s.mono 256 (s.voq v).q).2.1
    ((s.setTx key (((s.txStream key).1 + 1) % 2 ^ 24, false)).setVoq v { s.voq v with q := (gather s.mono 256 (s.voq v).q).2.2 })
  refine ⟨r, by rw [launched]; rfl, hkey, by rw [hcell]; rfl, by rw [hcell]; rfl, by rw [hcell]; rfl, by rw [hcell]; rfl, ?_⟩
  rw [State.txStream, launched, hcell]
  exact congrArg (fun x => (x.getD (0, true)).1) (mget_mset_self ..)

end Grant

/-! ### The retention read port -/

section Retained
variable {cell dest : Nat} {c : RetCell} {s : State}

section Kept
variable (hc : s.retCell? cell = some c)
include hc

theorem exec_retentionSend_of_kept {plane : Nat} (hp : plane < 16) :
    exec (.retentionSend cell plane dest) s = .next (retentionSend c plane dest s) := by
  show execRetentionSend cell plane dest s = _
  simp only [execRetentionSend, hc, decide_eq_true hp, when_true]

/-- R327: a copy that was sent, is not yet due again and has waited for ACK_TIMEOUT times out. -/
theorem exec_cellAckTimeout_of_due {n at_ : Nat} {used : List Nat}
    (hf : c.copies.find? (fun x => x.1 == dest) = some (dest, n, used, at_, false)) (hn : 0 < n)
    (hd : at_ + Config.us s.fab.cfg.ackTimeout ≤ s.mono) : exec (.cellAckTimeout cell dest) s = .next (ackTimeout c dest n used s) := by
  show execCellAckTimeout cell dest s = _
  simp only [execCellAckTimeout, hc, hf, State.due, decide_eq_true hn, decide_eq_true hd, Bool.not_false, Bool.and_self, when_true]

end Kept

/-- R324, R327: a due copy goes out again on a plane that may carry it. -/
theorem retentionSend_of_due {plane n at_ : Nat} {used : List Nat}
    (hf : c.copies.find? (fun x => x.1 == dest) = some (dest, n, used, at_, true)) (hn : n ≠ 0) (hp : s.copyPlane c.key used dest plane = true)
    (hb : plane ∉ s.busyPlanes) : retentionSend c plane dest s = sendCell plane { c.cell with
      dest := dest, retx := true, active := c.cell.paired && s.holdsBung } (takePlane plane (count Cn.fabRetx plane 1 ((s.setRet { c with
        copies := c.copies.map (fun x => if x.1 = dest then (dest, n + 1, used ++ [plane], s.mono, false) else x) }).modPlane plane
          (fun x => { x with retx := x.retx.filter (fun y => decide (y ≠ (c.key, dest))) })))) := by
  have again : decide (n = 0) = false := decide_eq_false hn
  have pair (t : State) : (takePlane plane (count Cn.fabRetx plane 1 t)).holdsBung = t.holdsBung := by
    rw [State.holdsBung, show (takePlane plane (count Cn.fabRetx plane 1 t)).pair = t.pair from count_pair ..]
    rfl
  simp only [retentionSend, hf, again, hp, hb, Bool.not_true, Bool.false_or, decide_not, decide_false, Bool.not_false, Bool.false_eq_true, if_false,
    Bool.false_and, Bool.and_false, pair]
  rfl

end Retained

/-! ### Requests and credit -/

/-- R320: a VOQ that begins to want credit asks every unit behind its port that is present. -/
theorem requestSend_of_wanting {v : Nat} {us : List Nat} {s : State} (hus : us = (s.spTargets (v / 8)).filter s.present)
    (hw : us.any (fun u => decide (0 < (s.voq v).backlog u)) = true) (hr : (s.voq v).requesting = false) : requestSend v s =
      foldS us (s.modVoq v (fun x => { x with lastReq := some s.mono, requesting := true }))
        (fun u t => sendEntry [u] (requestEntryBytes (v / 8) (v % 8) (s.pairedHold v) ((s.voq v).backlog u)) t) := by
  have some_ : (us != []) = true := bne_iff_ne.mpr (fun h => by rw [h] at hw; exact Bool.false_ne_true hw)
  unfold requestSend
  simp only [← hus, hw, hr, some_, if_true, Bool.not_false, Bool.true_or, Bool.and_self]

theorem exec_creditEntry_of_class (src sp : Nat) {tc : Nat} (cells : Nat) (s : State) (h : tc < 8) :
    exec (.creditEntry src sp tc cells) s = .next (creditEntry src sp tc cells s) := by
  show execCreditEntry src sp tc cells s = _
  rw [execCreditEntry, decide_eq_true h, when_true]

/-- R322: credit of a unit behind the port is added, to 2,048 cells at most. -/
theorem creditEntry_of_target {src sp : Nat} (tc cells : Nat) {s : State} (h : src ∈ s.spTargets sp) : creditEntry src sp tc cells s =
    (heardFrom src s).modVoq (voqKey sp tc) (fun x => { x with credit := mset x.credit src (min 2048 (mgetD x.credit src 0 + cells)) }) :=
  if_pos h

theorem exec_requestEntry_of_class {src tc : Nat} (sp : Nat) (paired : Bool) (backlog : Nat) (s : State) (ht : tc < 8) (hs : src < 2048) :
    exec (.requestEntry src sp tc paired backlog) s = .next (requestEntry src sp tc paired backlog s) := by
  show execRequestEntry src sp tc paired backlog s = _
  rw [execRequestEntry, decide_eq_true ⟨ht, hs⟩, when_true]

/-- R320, R321: a backlog for a port that this unit serves is recorded. -/
theorem requestEntry_of_served {sp backlog : Nat} (src tc : Nat) (paired : Bool) {s : State} (hs : s.servesSp sp = true) (hb : 0 < backlog) :
    requestEntry src sp tc paired backlog s = (heardFrom src s).modFab (fun f => { f with
      requests := mset f.requests (creditKey sp tc src) (backlog, b2n paired) }) := by
  have serves : ¬ (!(heardFrom src s).servesSp sp) = true := by
    rw [show (heardFrom src s).servesSp sp = s.servesSp sp from rfl, hs]
    exact Bool.false_ne_true
  unfold requestEntry
  rw [if_neg serves, if_neg (by omega)]
  rfl

section Credit
variable {sp tc src g : Nat} {s : State}

theorem exec_creditGrant_of_next (hc : s.nextClass (s.localPort sp) = some tc)
    (hs : s.nextSource (s.localPort sp) tc = some (creditKey sp tc src, g)) (hf : s.grantFits (s.localPort sp) tc = true)
    (he : s.egressUsed + g ≤ s.adm.egress * 4096) (ho : mgetD s.fab.creditOut (creditKey sp tc src) 0 + g ≤ 2048) :
    exec (.creditGrant sp tc src) s = .next (grantCredit (s.localPort sp) tc (creditKey sp tc src) g s) := by
  show execCreditGrant sp tc src s = _
  simp only [execCreditGrant, hc, hs, hf, decide_eq_true he, decide_eq_true ho, BEq.rfl, Bool.and_self, when_true]

/-- The key of a source's credit names its port and class, and the source. -/
theorem creditKey_sp (sp : Nat) (ht : tc < 8) (hs : src < 2048) : creditKey sp tc src / 2048 / 8 = sp := by
  unfold creditKey
  omega

theorem creditKey_src (sp tc : Nat) (hs : src < 2048) : creditKey sp tc src % 2048 = src := by
  unfold creditKey
  omega

/-- R321, R322: a grant is sent, taken from the backlog and reserved; the stream of an unpaired source has its entry already. -/
theorem grantCredit_of_entry {p b fl : Nat} (ht : tc < 8) (hs : src < 2048) (he : s.grantEntry (creditKey sp tc src) = true)
    (hr : mget s.fab.requests (creditKey sp tc src) = some (b, fl))
    (hst : fl = 1 ∨ mhas s.rack.streams (streamKey src sp tc) = true) : grantCredit p tc (creditKey sp tc src) g s =
      sendEntry [src] (creditEntryBytes sp tc g) (s.modFab (fun f => { f with
        requests := mput f.requests (creditKey sp tc src) (if b ≤ g then none else some (b - g, fl)),
        creditOut := mmod f.creditOut (creditKey sp tc src) 0 (fun n => n + g),
        rrClass := mset (mset f.rrClass p tc) (2 ^ 20 + p * 8 + tc) (creditKey sp tc src) })) := by
  have asked : mgetD s.fab.requests (creditKey sp tc src) (0, 0) = (b, fl) := by rw [mgetD, hr]; rfl
  simp only [grantCredit, he, Bool.not_true, Bool.false_eq_true, if_false, asked, creditKey_sp sp ht hs, creditKey_src sp tc hs]
  congr 1
  rcases hst with hfl | hhas
  · exact if_pos hfl
  · exact (ite_congr rfl (fun _ => rfl) (fun _ => if_pos hhas)).trans (ite_self _)

end Credit

/-! ### Acknowledgements and time-outs -/

/-- R326: the acknowledgement of the last unit that owed one frees the cell. -/
theorem ackCell_of_last {c : RetCell} {src : Nat} (s : State) (hl : c.copies.filter (fun x => decide (x.1 ≠ src)) = []) (hw : c.withdrawn = none) :
    ackCell c src s = dropCell c s := by
  unfold ackCell
  dsimp only
  rw [if_pos ⟨hl, .inl (by rw [hw]; rfl)⟩]

/-- R326: an acknowledgement of one kept DATA cell, which no other unit is still to acknowledge. -/
theorem ackEntry_of_last {src stream sp tc cum : Nat} {bm : Word} {c : RetCell} {s : State}
    (hmine : s.fab.retention.filter (fun c => c.copies.any (fun x => x.1 == src) && ackCovers cum bm c.cell.seq
      && (c.cell.kind == .data && streamKey c.cell.stream c.cell.sp c.cell.tc == streamKey stream sp tc)) = [c])
    (hl : c.copies.filter (fun x => decide (x.1 ≠ src)) = []) (hw : c.withdrawn = none) :
    ackEntry src false stream sp tc cum bm s = fabricWindows (dropCell c (heardFrom src s)) := by
  unfold ackEntry
  simp only [Bool.false_eq_true, if_false]
  rw [show (heardFrom src s).fab.retention = s.fab.retention from rfl, hmine]
  exact congrArg fabricWindows (ackCell_of_last (heardFrom src s) hl hw)

/-- R329: a time-out that is not the third within 100 us is noted on its plane and for its destination. -/
theorem noteTimeout_of_few {p dest : Nat} {l : List Nat} {s : State}
    (hl : l = (mgetD s.fab.recentTo (sunKey p dest) []).filter (fun t => decide (s.mono ≤ t + Config.us 100)) ++ [s.mono]) (hn : l.length < 3) :
    noteTimeout p dest s = (s.modPlane p (fun x => { x with timeouts := x.timeouts + 1 })).modFab (fun f => { f with
      recentTo := mset f.recentTo (sunKey p dest) l }) := by
  unfold noteTimeout
  extract_lets key recent noted
  have few : ¬ (3 ≤ recent.length ∧ (!mhas noted.fab.suspect key) = true) := fun x => Nat.not_le.mpr hn (hl ▸ x.1)
  rw [if_neg few, hl]

/-- R327: a copy with transmissions left becomes due, and joins a plane's queue. -/
theorem ackTimeout_of_left {c : RetCell} {dest n p : Nat} {used l : List Nat} {s : State} (hn : n < s.fab.cfg.retxMax)
    (hp : used.getLast? = some p)
    (hl : l = (mgetD s.fab.recentTo (sunKey p dest) []).filter (fun t => decide (s.mono ≤ t + Config.us 100)) ++ [s.mono]) (hfew : l.length < 3) :
    ackTimeout c dest n used s = enqueueRetx c.key dest used (((s.modPlane p (fun x => { x with timeouts := x.timeouts + 1 })).modFab (fun f => { f with
      recentTo := mset f.recentTo (sunKey p dest) l })).setRet { c with
        copies := c.copies.map (fun x => if x.1 = dest then (x.1, x.2.1, x.2.2.1, x.2.2.2.1, true) else x) }) := by
  unfold ackTimeout
  simp only [hp, noteTimeout_of_few hl hfew]
  refine if_neg ?_
  rw [Bool.and_eq_true, decide_eq_true_eq]
  exact fun x => Nat.not_le.mpr hn x.2

/-- R329: the plane returns to the spray mask. -/
theorem exec_planeSuspectEnd_of_due {p sun at_ : Nat} {s : State} (hs : mget s.fab.suspect (sunKey p sun) = some at_) (hd : at_ ≤ s.mono) :
    exec (.planeSuspectEnd p sun) s = .next (s.modFab (fun f => { f with suspect := mdel f.suspect (sunKey p sun) })) := by
  show execPlaneSuspectEnd p sun s = _
  simp only [execPlaneSuspectEnd, hs, State.due, decide_eq_true hd, when_true]

/-- Settles O38: each event acts under its guard; what a grant puts into retention and its stream's number are read off. -/
theorem fabricSendComplete : Obligations.FabricSendComplete := by
  intro s
  refine ⟨fun lane p slot tagOk cells hp hu => ⟨fun h => ?good, fun h => ?bad⟩, fun v plane m hp hm hmem hb => ?matched,
    fun cell plane dest c hc hp => exec_retentionSend_of_kept hc hp, fun v => rfl,
    fun src sp tc cells ht => exec_creditEntry_of_class _ _ _ _ ht,
    fun src sp tc paired backlog ht hsrc => exec_requestEntry_of_class _ _ _ _ ht hsrc, fun sp tc src g => exec_creditGrant_of_next,
    fun src control stream sp tc cum bm => rfl, fun cell dest c n used at_ hc hf hn hd => exec_cellAckTimeout_of_due hc hf hn hd,
    fun lane p slot cells hp hu hslot hn => ?frame, fun v plane k q unit hp hmem hb hq hk hu hr hroom hup ha => ?shared,
    fun cell plane dest c n used at_ hc hp hf hn hplane hb => ?resent, fun v us hus hw hr => ?request, fun src sp tc cells ht hs => ?credit,
    fun src sp tc paired backlog ht hsrc hs hb => ?backlog, fun sp tc src g b fl ht hsrc hc hs hf he ho hentry hreq hst => ?granted,
    fun src stream sp tc cum bm c hmine hl hw => ?acked, fun cell dest c n used at_ p l hc hf hn hd hleft hp hl hfew => ?due,
    fun p sun at_ => exec_planeSuspectEnd_of_due⟩
  case good =>
    obtain ⟨htag, hslot⟩ := h
    rw [exec_fabLinkFrameReceive_of_used slot tagOk cells hp hu, htag, hslot]
    rfl
  case bad =>
    have refused : (tagOk && s.slotOk p slot) = false := Bool.and_eq_false_iff.mpr h
    rw [exec_fabLinkFrameReceive_of_used slot tagOk cells hp hu, refused, if_neg Bool.false_ne_true]
  case matched =>
    subst hm
    exact exec_matcherGrant_of_matched hp hmem hb
  case frame =>
    rw [exec_fabLinkFrameReceive_of_used slot true cells hp hu, hslot, Bool.and_self, if_pos rfl,
      goodFrame_of_no_rekey p cells (by rw [State.lane_of_fab (noteSlot_fab ..)]; exact hn)]
  case shared =>
    have shares : matcherGrant v plane (matched v plane s) = grantShared v plane unit k (matched v plane s) :=
      matcherGrant_of_shared (s := matched v plane s) hq hk hu hr hroom hup ha
    obtain ⟨r, hret, hkey, hkind, hsp, htc, hseq, hnext⟩ := grantShared_fab v plane unit k (matched v plane s)
    refine ⟨_, r, (exec_matcherGrant_of_matched hp hmem hb).trans (by rw [shares]), hret, hkey, hkind, hsp, htc, hseq, hnext, ?_⟩
    exact Changes.via ((matched_changes ..).weaken (by decide)) (grantShared_changes ..) (by decide)
  case resent => rw [exec_retentionSend_of_kept hc hp, retentionSend_of_due hf hn hplane hb]
  case request => exact congrArg Host.Outcome.next (requestSend_of_wanting hus hw hr)
  case credit => rw [exec_creditEntry_of_class src sp cells s ht, creditEntry_of_target tc cells hs]
  case backlog => rw [exec_requestEntry_of_class sp paired backlog s ht hsrc, requestEntry_of_served src tc paired hs hb]
  case granted => rw [exec_creditGrant_of_next hc hs hf he ho, grantCredit_of_entry ht hsrc hentry hreq hst]
  case acked => exact congrArg Host.Outcome.next (ackEntry_of_last hmine hl hw)
  case due => rw [exec_cellAckTimeout_of_due hc hf hn hd, ackTimeout_of_left hleft hp hl hfew]

end Sys2Proof.Machine
end

section
/-! SUPPORT. Racking (R326, R330, R332, R335 to R337, R340, Tables FB-5 and FB-6). -/

namespace Sys2Proof.Machine

/-! ### Streams by key -/

theorem State.setStream_stream (s : State) (k : Nat) (t : Stream) : (s.setStream k t).stream k = t := mgetD_mset_self ..

theorem State.setStream_stream_ne (s : State) {k j : Nat} (t : Stream) (h : j ≠ k) : (s.setStream k t).stream j = s.stream j :=
  mgetD_mset_ne _ _ _ h

theorem State.stream_of_rack {s t : State} (h : t.rack = s.rack) (k : Nat) : t.stream k = s.stream k := by rw [State.stream, h, State.stream]

theorem count_rack (ev idx n : Nat) (s : State) : (count ev idx n s).rack = s.rack := (count_changes ..).same .rack (by decide)

theorem count_dev (ev idx n : Nat) (s : State) : (count ev idx n s).dev = s.dev := (count_changes ..).same .dev (by decide)

/-! ### DATA cells -/

section Data
variable {p : Nat} {c : Cell} {s : State}

theorem exec_dataCellReceive_of_up (hp : s.planeUp p = true) (hk : c.kind = .data) :
    exec (.dataCellReceive p c) s = .next (dataCell p c s) := by
  show execDataCellReceive p c s = _
  rw [execDataCellReceive, hp, hk]
  rfl

/-- R330: a cell for this unit whose PCRC holds is racked. -/
theorem dataCell_of_sound (hc : c.pcrc = pcrcOf c.payload) (hd : c.dest = s.dev.cfg.sun) :
    dataCell p c s = rackCell c (heardFrom c.src (count Cn.fabCellsRx p 1 s)) := by
  unfold dataCell
  dsimp only
  rw [if_neg (not_not_intro hc), if_neg (not_not_intro (by rw [count_dev]; exact hd))]

/-- R340: a cell whose PCRC fails is a fault. -/
theorem dataCell_of_damaged (hc : c.pcrc ≠ pcrcOf c.payload) :
    dataCell p c s = fault 5 p 0 (count Cn.fabPcrcFail p 1 (count Cn.fabCellsRx p 1 s)) :=
  if_pos hc

end Data

/-! ### Tokens -/

section Token
variable {src sp tc n k e : Nat} {x : Num} {s : State}

theorem exec_confirmEntry_of_class (src stream sp first n : Nat) (s : State) (h : tc < 8) :
    exec (.confirmEntry src stream sp tc first n) s = .next (rackToken 1 src stream sp tc first n s) := by
  show execConfirmEntry src stream sp tc first n s = _
  rw [execConfirmEntry, decide_eq_true h, when_true]

theorem exec_voidEntry_of_class (src stream sp first n : Nat) (s : State) (h : tc < 8) :
    exec (.voidEntry src stream sp tc first n) s = .next (rackToken 2 src stream sp tc first n s) := by
  show execVoidEntry src stream sp tc first n s = _
  rw [execVoidEntry, decide_eq_true h, when_true]

/-- The state in which a unit's token for its own stream is applied: the unit was heard from, and the stream is unpaired. -/
def tokenHeard (k src : Nat) (s : State) : State := (heardFrom src s).modStream k (fun t => { t with paired := false })

theorem tokenHeard_stream (k src : Nat) (s : State) : (tokenHeard k src s).stream k = { s.stream k with paired := false } :=
  State.setStream_stream ..

theorem tokenHeard_stream_ne {k j : Nat} (src : Nat) (s : State) (h : j ≠ k) : (tokenHeard k src s).stream j = s.stream j :=
  State.setStream_stream_ne _ _ h

theorem tokenHeard_changes (k src : Nat) (s : State) : Changes [.rack] s (tokenHeard k src s) :=
  (heardFrom_changes ..).trans (State.modStream_changes ..)

/-- R332: a token for one number of a unit's own stream, which has an entry. -/
theorem rackToken_of_own (kind : Nat) (hk : k = streamKey src sp tc) (hentry : mhas s.rack.streams k = true) (hn : n < 2 ^ 24) :
    rackToken kind src src sp tc n 1 s = runStream k (s.stream k).blocked
      ((if kind = 1 then confirmOne k src else voidOne k src) n (tokenHeard k src s)) := by
  subst hk
  have listed : ¬ (!mhas (heardFrom src s).rack.streams (streamKey src sp tc)
      && (src == src || !(heardFrom src s).entryRoom (streamKey src sp tc))) = true := by
    rw [show mhas (heardFrom src s).rack.streams (streamKey src sp tc) = true from hentry]
    exact Bool.false_ne_true
  have one : tokenNums n 1 = [n] := congrArg (fun i => [i]) (Nat.mod_eq_of_lt hn)
  have unpaired : decide (src ≠ src) = false := decide_eq_false (not_not_intro rfl)
  simp only [rackToken, if_neg listed, one, unpaired, if_true]
  rfl

/-- R332: nothing is released while the next expected number is not there. -/
theorem runStream_of_waiting (he : (s.stream k).expected = some e) (hm : mget (s.stream k).nums e = none) : runStream k true s = s := by
  have waits : releaseRun ((s.stream k).nums.length + 1) k s = s := by simp only [releaseRun, he, hm]
  unfold runStream
  simp only [waits, Bool.not_true, Bool.and_false, Bool.false_eq_true, if_false]

/-- A number of a stream, in the state `y`. -/
def setNum (k n : Nat) (y : Num) (s : State) : State := s.setStream k { s.stream k with nums := mset (s.stream k).nums n y }

theorem setNum_changes (k n : Nat) (y : Num) (s : State) : Changes [.rack] s (setNum k n y s) := State.setStream_changes ..

section Held
variable (he : (s.stream k).expected = some e) (hd : dist 24 e n ≤ 4096) (hx : mget (s.stream k).nums n = some x) (hst : x.st = .held)
include he hd hx hst

/-- Table FB-5: a CONFIRM makes a held number READY. -/
theorem confirmOne_of_held (src : Nat) : confirmOne k src n s = setNum k n { x with st := .ready } s := by
  have near : decide (4096 < dist 24 e n) = false := decide_eq_false (Nat.not_lt.mpr hd)
  have known : mgetD (s.stream k).nums n {} = x := by rw [mgetD, hx]; rfl
  simp only [confirmOne, setNum, he, near, known, hst, Bool.false_eq_true, if_false]

/-- Table FB-5: a VOID discards the cell of a held number. -/
theorem voidOne_of_held (src : Nat) (hp : (s.stream k).paired = false) (hc : x.cell.isSome = true) :
    voidOne k src n s = count Cn.rackVoid 0 1 (setNum k n { x with st := .void_, cell := none } s) := by
  have near : decide (4096 < dist 24 e n ∧ dist 24 e n < 2 ^ 23) = false := decide_eq_false (by omega)
  have later : decide (2 ^ 23 ≤ dist 24 e n) = false := decide_eq_false (by omega)
  have known : mgetD (s.stream k).nums n {} = x := by rw [mgetD, hx]; rfl
  have stored : x.cell.isNone = false := by rw [Option.isNone_eq_false_iff, hc]
  simp only [voidOne, setNum, he, near, later, known, hp, hst, stored, Bool.false_and, Bool.false_eq_true, if_false]

end Held

/-- What a token leaves of the streams: one number of one stream is in a new state, and nothing else of what is racked has changed. -/
structure TokenPlaced (k n : Nat) (y : Num) (s t : State) : Prop where
  named : mget (t.stream k).nums n = some y
  others : ∀ m, m ≠ n → mget (t.stream k).nums m = mget (s.stream k).nums m
  streams : ∀ j, j ≠ k → t.stream j = s.stream j

theorem setNum_tokenHeard_placed (k src n : Nat) (y : Num) (s : State) : TokenPlaced k n y s (setNum k n y (tokenHeard k src s)) where
  named := by rw [setNum, State.setStream_stream]; exact mget_mset_self ..
  others m h := by rw [setNum, State.setStream_stream, tokenHeard_stream]; exact mget_mset_ne _ _ h
  streams j h := by rw [setNum, State.setStream_stream_ne _ _ h, tokenHeard_stream_ne _ _ h]

/-- A stream whose next expected number is missing stays as a token for another number leaves it. -/
theorem runStream_of_setNum {y : Num} {t : State} (ht : t.rack = (setNum k n y (tokenHeard k src s)).rack)
    (he : (s.stream k).expected = some e) (hm : mget (s.stream k).nums e = none) (hx : mget (s.stream k).nums n = some x) :
    runStream k true t = t := by
  have other : e ≠ n := fun h => by rw [h, hx] at hm; cases hm
  have after : t.stream k = { s.stream k with paired := false, nums := mset (s.stream k).nums n y } := by
    rw [State.stream_of_rack ht, setNum, State.setStream_stream, tokenHeard_stream]
  refine runStream_of_waiting (e := e) (by rw [after]; exact he) ?_
  rw [after]
  exact (mget_mset_ne _ _ other).trans hm

end Token

/-! ### Racking's timers -/

section Timer
variable {stream sp tc k : Nat} {s : State} (hk : k = streamKey stream sp tc)
include hk

/-- R337: a hole that has held a stream back for HOLE_TIMEOUT, of a source that is present, is passed over. -/
theorem exec_holeTimeout_of_due {x : Stream} {e : Nat} (hx : mget s.rack.streams k = some x) (he : x.expected = some e)
    (hopen : ∀ y, mget x.nums e = some y → y.st = .open_ ∨ y.st = .confirmed ∨ y.st = .held)
    (hhere : (if x.paired then x.srcs else [stream]).any s.present = true) (hb : x.blocked = true)
    (hd : x.expectedSince + Config.us s.fab.cfg.holeTimeout ≤ s.mono) : exec (.holeTimeout stream sp tc) s =
      .next (runStream k true ((skipNumber k e (fault 5 16 0 (count Cn.rackHoleTimeout 0 1 s))).modStream k
        (fun y => { y with skipped := addOnce y.skipped e }))) := by
  subst hk
  show execHoleTimeout stream sp tc s = _
  simp only [execHoleTimeout, hx, he, hhere, hb, State.due, decide_eq_true hd, Bool.and_true, Bool.true_and]
  cases hn : mget x.nums e with
  | none => simp only [when_true]
  | some y =>
    have unresolved : (y.st == .open_ || y.st == .confirmed || y.st == .held) = true := by simpa [or_assoc] using hopen y hn
    simp only [unresolved, when_true]

/-- R335: a copy that has waited for DUP_WAIT is resolved with its stream. -/
theorem exec_dupWaitExpiry_of_due {n : Nat} {x : Num} (hx : mget (s.stream k).nums n = some x) (hp : (s.stream k).paired = true)
    (hst : x.st = .held) (hd : x.at_ + Config.us s.fab.cfg.dupWait ≤ s.mono) :
    exec (.dupWaitExpiry stream sp tc n) s = .next (pairedRun k s) := by
  subst hk
  show execDupWaitExpiry stream sp tc n s = _
  simp only [execDupWaitExpiry, hx, hp, hst, State.due, decide_eq_true hd, BEq.rfl, Bool.and_self, when_true]

/-- R330: the entry of a stream that has nothing left is freed 100 us after its last cell. -/
theorem exec_streamEntryFree_of_idle {x : Stream} (hx : mget s.rack.streams k = some x) (hcredit : s.streamCredit k x = false)
    (hheld : x.nums.any (fun n => n.2.cell.isSome && n.2.st != .released) = false)
    (hopen : (x.expected.isSome && x.nums.any (fun n => n.2.st != .released)) = false) (hd : x.lastCell + Config.us 100 ≤ s.mono) :
    exec (.streamEntryFree stream sp tc) s = .next (s.modRack (fun r => { r with streams := mdel r.streams k })) := by
  subst hk
  show execStreamEntryFree stream sp tc s = _
  simp only [execStreamEntryFree, hx, hcredit, hheld, hopen, State.due, decide_eq_true hd, Bool.not_false, Bool.and_self, when_true]

end Timer

theorem exec_memberSilenceExpiry_of_silent {sun : Nat} {s : State} (h : s.silent sun = true) :
    exec (.memberSilenceExpiry sun) s = .next (pairedAll none s) := by
  show execMemberSilenceExpiry sun s = _
  rw [execMemberSilenceExpiry, h, when_true]

/-- Settles O39: each event acts under its guard; a token behind a missing number changes the number it names alone. -/
theorem rackingComplete : Obligations.RackingComplete := by
  intro s
  refine ⟨fun p c => exec_dataCellReceive_of_up,
    fun src stream sp tc first n ht => ⟨exec_confirmEntry_of_class _ _ _ _ _ _ ht, exec_voidEntry_of_class _ _ _ _ _ _ ht⟩,
    fun p c hp hk hc hd => ?sound, fun p c hp hk hc => ?damaged, fun src sp tc n k x e ht hk hentry _ hb he hm hn hd hx hst => ?confirm,
    fun src sp tc n k x e ht hk hentry _ hb he hm hn hd hx hst hcell => ?void,
    fun stream sp tc k x e hk hx he hopen hhere hb hd => exec_holeTimeout_of_due hk hx he hopen hhere hb hd,
    fun stream sp tc n k x hk hx hp hst hd => exec_dupWaitExpiry_of_due hk hx hp hst hd, fun sun => exec_memberSilenceExpiry_of_silent,
    fun stream sp tc k x hk hx hcredit hheld hopen hd => exec_streamEntryFree_of_idle hk hx hcredit hheld hopen hd⟩
  case sound => rw [exec_dataCellReceive_of_up hp hk, dataCell_of_sound hc hd]
  case damaged => rw [exec_dataCellReceive_of_up hp hk, dataCell_of_damaged hc]
  case confirm =>
    have heard := tokenHeard_stream k src s
    have confirmed := confirmOne_of_held (s := tokenHeard k src s) (by rw [heard]; exact he) hd (by rw [heard]; exact hx) hst src
    obtain ⟨named, others, streams⟩ := setNum_tokenHeard_placed k src n { x with st := .ready } s
    refine ⟨_, ?_, named, others, streams, (tokenHeard_changes ..).trans (setNum_changes ..)⟩
    rw [exec_confirmEntry_of_class src src sp n 1 s ht, rackToken_of_own 1 hk hentry hn, hb, if_pos rfl, confirmed,
      runStream_of_setNum rfl he hm hx]
  case void =>
    have heard := tokenHeard_stream k src s
    have voided := voidOne_of_held (s := tokenHeard k src s) (by rw [heard]; exact he) hd (by rw [heard]; exact hx) hst src (by rw [heard]) hcell
    have kept (j : Nat) : (count Cn.rackVoid 0 1 (setNum k n { x with st := .void_, cell := none } (tokenHeard k src s))).stream j = _ :=
      State.stream_of_rack (count_rack ..) j
    obtain ⟨named, others, streams⟩ := setNum_tokenHeard_placed k src n { x with st := .void_, cell := none } s
    refine ⟨_, ?_, ?_, fun m hne => ?_, fun j hne => (kept j).trans (streams j hne), ?_⟩
    · rw [exec_voidEntry_of_class src src sp n 1 s ht, rackToken_of_own 2 hk hentry hn, hb, if_neg (by decide), voided,
        runStream_of_setNum (count_rack ..) he hm hx]
    · rw [kept, named]
    · rw [kept, others m hne]
    · have placed := (tokenHeard_changes k src s).trans (setNum_changes k n { x with st := .void_, cell := none } _)
      exact Changes.via (placed.weaken (by decide)) (count_changes ..) (by decide)

end Sys2Proof.Machine
end

section
/-! SUPPORT. The commands of family SCH (R350, R351, R358 to R365, R368, R370, R373, R377, R378, Table ES-6). -/

namespace Sys2Proof.Machine

/-! ### Egress queues and ports by number -/

theorem mget_mdel_ne {α : Type} (m : AMap α) {k j : Nat} (h : j ≠ k) : mget (mdel m k) j = mget m j := by
  induction m with
  | nil => rfl
  | cons e m ih =>
    obtain ⟨i, v⟩ := e
    by_cases hi : i = k
    · subst hi
      rw [mdel, List.filter_cons_of_neg (by simp), mget, if_neg h]
      exact ih
    · rw [mdel, List.filter_cons_of_pos (by simpa using hi), mget, mget]
      exact ite_congr rfl (fun _ => rfl) (fun _ => ih)

@[simp] theorem State.modEport_eport (s : State) (p : Nat) (f : EPort → EPort) : (s.modEport p f).eport p = f (s.eport p) :=
  mgetD_mmod_self ..

theorem State.modEport_eport_ne (s : State) {p q : Nat} (f : EPort → EPort) (h : q ≠ p) : (s.modEport p f).eport q = s.eport q :=
  mgetD_mmod_ne _ _ _ h

@[simp] theorem State.modEport_equeue (s : State) (p : Nat) (f : EPort → EPort) (q : Nat) : (s.modEport p f).equeue q = s.equeue q := rfl

@[simp] theorem State.setQueue_eport (s : State) (q : Nat) (l : List EPkt) (p : Nat) : (s.setQueue q l).eport p = s.eport p := rfl

@[simp] theorem State.setQueue_equeue (s : State) (q : Nat) (l : List EPkt) : (s.setQueue q l).equeue q = l := by
  show mgetD (mput s.sch.queues q (if l = [] then none else some l)) q [] = l
  by_cases h : l = []
  · rw [if_pos h, h, mgetD, mput, mget_mdel_self]; rfl
  · rw [if_neg h]; exact mgetD_mset_self ..

theorem State.setQueue_equeue_ne (s : State) {q r : Nat} (l : List EPkt) (h : r ≠ q) : (s.setQueue q l).equeue r = s.equeue r := by
  show mgetD (mput s.sch.queues q (if l = [] then none else some l)) r [] = mgetD s.sch.queues r []
  split
  · rw [mgetD, mput, mget_mdel_ne _ h, mgetD]
  · exact mgetD_mset_ne _ _ _ h

theorem State.equeue_of_sch {s t : State} (h : t.sch = s.sch) (q : Nat) : t.equeue q = s.equeue q := by rw [State.equeue, h, State.equeue]

theorem State.eport_of_sch {s t : State} (h : t.sch = s.sch) (p : Nat) : t.eport p = s.eport p := by rw [State.eport, h, State.eport]

theorem count_sch (ev idx n : Nat) (s : State) : (count ev idx n s).sch = s.sch := (count_changes ..).same .sch (by decide)

theorem notify_sch (ev : Nat × Nat) (payload : List Byte) (vis : List Nat) (s : State) : (notify ev payload vis s).sch = s.sch :=
  (notify_changes ..).same .sch (by decide)

/-- R391, R204: the mark and the reference of a packet that is gone are no part of the egress queues. -/
theorem packetGone_sch (p : Nat) (k : EPkt) (s : State) : (releaseRef k.handle k.version (markGone p k.stream k.seq s)).sch = s.sch :=
  ((releaseRef_changes ..).same .sch (by decide)).trans ((markGone_changes ..).same .sch (by decide))

/-- R369: a port that returns to RUN leaves the queues. -/
theorem returnCheck_equeue (p : Nat) (s : State) (q : Nat) : (returnCheck p s).equeue q = s.equeue q := by
  unfold returnCheck
  split
  · exact State.equeue_of_sch (notify_sch ..) q
  · rfl

theorem emptied_equeue {q : Nat} {qs : List Nat} (hq : q ∈ qs) (s : State) : (foldS qs s (fun q s => s.setQueue q [])).equeue q = [] := by
  refine foldS_establishes (P := fun s => s.equeue q = []) (fun x => x.setQueue_equeue q []) (fun b x hx => ?_) hq s
  by_cases hb : q = b
  · subst hb; exact x.setQueue_equeue q []
  · exact (x.setQueue_equeue_ne [] hb).trans hx

section Sch
variable {vi : Nat} {e : Entry} {s : State}

/-! ### SCH.NODE and SCH.QMAP -/

/-- R378: records none of which is refused make the tree, and the holding lists of R352 are placed in it. -/
theorem bodySchNode_of_sound {c : SchCfg} (hl : e.dataLen = 24 * e.p 24 4)
    (hc : runNodes s 0 s.sch.cfg (chunks 24 (e.p 24 4) e.buf) = (c, none)) (ht : s.onTrial = false) : bodySchNode vi e s =
      .ok (saveSettings (foldS (List.range 128) { s with sch := { s.sch with cfg := c } } placeLimbo)) (putLe 4 0xFFFFFFFF) := by
  simp only [bodySchNode, hl, ne_eq, not_true_eq_false, if_false, hc, storing_result_of_no_trial _ ht, noFail]

/-- R351: entries without a reserved bit are set or taken away in their order. -/
theorem bodySchQmap_of_sound {ws : List Nat} (hl : e.dataLen = 4 * e.p 24 4) (hws : ws = (chunks 4 (e.p 24 4) e.buf).map leVal)
    (hz : ws.any (fun w => bit w 15 || bit w 30) = false) (ht : s.onTrial = false) : bodySchQmap vi e s =
      .ok (saveSettings { s with sch := { s.sch with cfg := { s.sch.cfg with
        qmap := ws.foldl (fun m w => if bit w 31 then mdel m (bits w 14 0) else mset m (bits w 14 0) (bits w 29 16)) s.sch.cfg.qmap } } })
        (putLe 4 0xFFFFFFFF) := by
  have formed : ws.findIdx? (fun w => bit w 15 || bit w 30) = none := by
    rw [List.findIdx?_eq_none_iff]
    exact fun w hw => Bool.eq_false_iff.mpr (List.any_eq_false.mp hz w hw)
  simp only [bodySchQmap, hl, ne_eq, not_true_eq_false, if_false, ← hws, formed, storing_result_of_no_trial _ ht, noFail]

/-! ### SCH.SET_SHAPER -/

/-- R358: settings in their ranges are stored, for a shaper that exists as its next ones and for a new one at once. -/
theorem bodySchSetShaper_of_set {c : ShaperCfg} (hop : e.p 26 1 = 1)
    (hc : c = { rate := e.p 28 4, burst := e.p 32 4, overhead := sx 8 (e.p 36 1) }) (hr1 : 64 ≤ c.rate) (hr2 : c.rate ≤ 1600000000)
    (hb1 : 64 ≤ c.burst) (hb2 : c.burst ≤ 16777216) (ho1 : -32 ≤ c.overhead) (ho2 : c.overhead ≤ 63) (ht : s.onTrial = false) :
    bodySchSetShaper vi e s = .ok (saveSettings (if mhas s.sch.cfg.shapers (e.p 24 2) then
      { s with sch := { s.sch with shapers := mset s.sch.shapers (e.p 24 2) { mgetD s.sch.shapers (e.p 24 2) {} with
        next := some (c, bit (e.p 27 1) 0) } } }
    else { s with sch := { s.sch with
      cfg := { s.sch.cfg with shapers := mset s.sch.cfg.shapers (e.p 24 2) c },
      shapers := mset s.sch.shapers (e.p 24 2) { refillAt := s.mono + 10240 } } }))
    (putLe 8 (wrapInt 64 (mgetD s.sch.shapers (e.p 24 2) {}).credit)) := by
  have known : ¬ (e.p 26 1 = 0 ∨ 2 < e.p 26 1) := by omega
  have sets : e.p 26 1 ≠ 2 := by omega
  have inRange : ¬ (c.rate < 64 ∨ 1600000000 < c.rate ∨ c.burst < 64 ∨ 16777216 < c.burst ∨ c.overhead < -32 ∨ 63 < c.overhead) := by omega
  subst hc
  simp only [bodySchSetShaper, if_neg known, if_neg sets, if_neg inRange, storing_result_of_no_trial _ ht]
  split <;> rfl

/-- R358: a shaper that no node has is removed. -/
theorem bodySchSetShaper_of_removed (hop : e.p 26 1 = 2) (hm : mhas s.sch.cfg.shapers (e.p 24 2) = true)
    (hfree : s.sch.cfg.attachedElsewhere (e.p 24 2) 0 = false) (ht : s.onTrial = false) : bodySchSetShaper vi e s =
      .ok (saveSettings { s with sch := { s.sch with
        cfg := { s.sch.cfg with shapers := mdel s.sch.cfg.shapers (e.p 24 2) },
        shapers := mdel s.sch.shapers (e.p 24 2) } }) (putLe 8 (wrapInt 64 (mgetD s.sch.shapers (e.p 24 2) {}).credit)) := by
  have known : ¬ (e.p 26 1 = 0 ∨ 2 < e.p 26 1) := by omega
  simp only [bodySchSetShaper, if_neg known, if_pos hop, hm, hfree, Bool.not_true, Bool.false_eq_true, if_false,
    storing_result_of_no_trial _ ht]

/-! ### SCH.SET_POLICER -/

section Policer
variable (hn : e.p 24 4 ≤ 1048575) (hmay : s.mayPolice vi (e.p 24 4) = true)
include hn hmay

theorem bodySchSetPolicer_of_removed (hop : e.p 28 1 = 2) (ht : s.onTrial = false) : bodySchSetPolicer vi e s =
    .ok (saveSettings { s with sch := { s.sch with
      cfg := { s.sch.cfg with policers := mdel s.sch.cfg.policers (e.p 24 4) },
      policers := mdel s.sch.policers (e.p 24 4) } }) := by
  have known : ¬ (1048575 < e.p 24 4 ∨ e.p 28 1 = 0 ∨ 3 < e.p 28 1) := by omega
  have removes : e.p 28 1 ≠ 1 := by omega
  simp only [bodySchSetPolicer, if_neg known, hmay, Bool.not_true, Bool.false_eq_true, if_false, if_neg removes, if_pos hop,
    storing_of_no_trial ht]

/-- R360: a policer of mode 1, which has no EIR, or of mode 2. -/
theorem bodySchSetPolicer_of_set {c : PolicerCfg} (hop : e.p 28 1 = 1) (hmode : c.mode = 1 ∧ c.eir = 0 ∨ c.mode = 2)
    (hc : c = {
      mode := e.p 29 1, flags := e.p 30 1 % 4, overhead := sx 8 (e.p 31 1), cir := e.p 32 4, cbs := e.p 36 4, eir := e.p 40 4,
      ebs := e.p 44 4 }) (ho1 : -32 ≤ c.overhead) (ho2 : c.overhead ≤ 63) (ht : s.onTrial = false) :
    bodySchSetPolicer vi e s = .ok (saveSettings (setPolicer (e.p 24 4) c s)) := by
  have known : ¬ (1048575 < e.p 24 4 ∨ e.p 28 1 = 0 ∨ 3 < e.p 28 1) := by omega
  have hm : c.mode = e.p 29 1 := by rw [hc]
  have inRange : ¬ (e.p 29 1 = 0 ∨ 2 < e.p 29 1 ∨ c.overhead < -32 ∨ 63 < c.overhead ∨ (e.p 29 1 = 1 ∧ c.eir ≠ 0)) := by omega
  subst hc
  simp only [bodySchSetPolicer, if_neg known, hmay, Bool.not_true, Bool.false_eq_true, if_false, if_pos hop, if_neg inRange,
    storing_of_no_trial ht]

/-- R360: the six counts, which the command clears on request. -/
theorem bodySchSetPolicer_of_read (hop : e.p 28 1 = 3) (hl : 48 ≤ e.dataLen) : bodySchSetPolicer vi e s = {
    st := if bit (e.p 30 1) 2 then
        [Cn.polGreen, Cn.polYellow, Cn.polRed, Cn.polGreenBytes, Cn.polYellowBytes, Cn.polRedBytes].foldl (fun (s : State) k =>
          { s with cnt := { s.cnt with vals := mdel s.cnt.vals (counterKey k (e.p 24 4)) } }) s
      else s
    data := polCounts s (e.p 24 4), changed := bit (e.p 30 1) 2 } := by
  have known : ¬ (1048575 < e.p 24 4 ∨ e.p 28 1 = 0 ∨ 3 < e.p 28 1) := by omega
  have reads : e.p 28 1 ≠ 1 ∧ e.p 28 1 ≠ 2 := by omega
  simp only [bodySchSetPolicer, if_neg known, hmay, Bool.not_true, Bool.false_eq_true, if_false, if_neg reads.1, if_neg reads.2,
    if_neg (Nat.not_lt.mpr hl)]

end Policer

/-! ### SCH.GATE_LIST -/

/-- A port with a list, or the removal of its list, that waits for its start (R363). -/
def EPort.awaiting (x : EPort) (start : Nat) (set : Bool) (l : GateList) : EPort := { x with pendingList := some (start, set, l) }

section GateList
variable {c : PortCfg} {start : Nat} (hp : e.p 24 1 ≤ 127) (hc : s.pcfg (e.p 24 1) = some c) (hty : c.type ≠ 2) (hc1 : 1000 ≤ e.p 28 4)
  (hc2 : e.p 28 4 ≤ 1000000000) (hpast : targetClass (e.p 32 8) s.timeNs ≠ .past)
  (hstart : start = gateStart (e.p 32 8) (e.p 28 4) s.timeNs) (ht : s.onTrial = false)
include hp hc hty hc1 hc2 hpast hstart ht

/-- R363: the removal of a port's list waits for its start. -/
theorem bodySchGateList_of_removed (hop : e.p 25 1 = 2) : bodySchGateList vi e s =
    .ok (saveSettings ((s.modEport (e.p 24 1) (EPort.awaiting · start false { cycle := e.p 28 4, base := e.p 32 8 })).modSch
      (fun x => { x with cfg := { s.sch.cfg with gates := mdel s.sch.cfg.gates (e.p 24 1) } }))) (putLe 8 start) := by
  have known : ¬ (127 < e.p 24 1 ∨ e.p 25 1 = 0 ∨ 2 < e.p 25 1) := by omega
  have ethernet : s.isOtn (e.p 24 1) = false := by simp [State.isOtn, hc, hty]
  have inRange : ¬ (e.p 28 4 < 1000 ∨ 1000000000 < e.p 28 4) := by omega
  subst hstart
  simp only [bodySchGateList, if_neg known, hc, Option.isNone_some, ethernet, Bool.false_eq_true, or_self, if_false, if_neg inRange,
    if_neg hpast, if_pos hop, storing_result_of_no_trial _ ht]
  rfl

/-- R362 to R365: a list whose entries are in range and fit in the cycle, each class open long enough for a frame, waits for its start. -/
theorem bodySchGateList_of_set {ws : List Nat} {l : GateList} (hop : e.p 25 1 = 1) (hn1 : 1 ≤ e.p 26 2) (hn2 : e.p 26 2 ≤ 256)
    (hlen : e.dataLen = 8 * e.p 26 2) (hws : ws = (chunks 8 (e.p 26 2) e.buf).map leVal)
    (hz : ws.any (fun w => decide (bits w 31 8 ≠ 0)) = false)
    (hl : l = ({ entries := ws.map (fun w => (w % 256, w / 2 ^ 32)), cycle := e.p 28 4, base := e.p 32 8 } : GateList))
    (hx : ∀ x, x ∈ l.entries → 16 ≤ x.2 ∧ x.2 ≤ 1000000000) (hsum : sumOf l.entries (fun x => x.2) ≤ e.p 28 4)
    (hopen : ∀ tc, tc < 8 → ceilDiv ((10352 + (s.schPort (e.p 24 1)).gateOverhead
      + (if (s.secy (e.p 24 1)).enable = true ∧ bit (s.secy (e.p 24 1)).flags 0 = true then 32 else 0)) * 8) c.lowestGbps ≤ l.longestOpen tc) :
    bodySchGateList vi e s = .ok (saveSettings ((s.modEport (e.p 24 1) (EPort.awaiting · start true l)).modSch
      (fun x => { x with cfg := { s.sch.cfg with gates := mset s.sch.cfg.gates (e.p 24 1) l } }))) (putLe 8 start) := by
  have known : ¬ (127 < e.p 24 1 ∨ e.p 25 1 = 0 ∨ 2 < e.p 25 1) := by omega
  have ethernet : s.isOtn (e.p 24 1) = false := by simp [State.isOtn, hc, hty]
  have inRange : ¬ (e.p 28 4 < 1000 ∨ 1000000000 < e.p 28 4) := by omega
  have sets : e.p 25 1 ≠ 2 := by omega
  have some1 : ¬ (e.p 26 2 = 0 ∨ 256 < e.p 26 2) := by omega
  have intervals : l.entries.any (fun x => decide (x.2 < 16 ∨ 1000000000 < x.2)) = false := by
    rw [List.any_eq_false]
    intro x hmem
    obtain ⟨lo, hi⟩ := hx x hmem
    rw [decide_eq_true_eq]
    omega
  have long : (List.range 8).any (fun tc => decide (l.longestOpen tc < ceilDiv ((10352 + (s.schPort (e.p 24 1)).gateOverhead
      + (if (s.secy (e.p 24 1)).enable = true ∧ bit (s.secy (e.p 24 1)).flags 0 = true then 32 else 0)) * 8) c.lowestGbps)) = false := by
    rw [List.any_eq_false]
    intro tc htc
    rw [decide_eq_true_eq]
    exact Nat.not_lt.mpr (hopen tc (List.mem_range.mp htc))
  have fits : ¬ e.p 28 4 < sumOf l.entries (fun x => x.2) := Nat.not_lt.mpr hsum
  subst hstart hl hws
  simp only [bodySchGateList, if_neg known, hc, Option.isNone_some, ethernet, Bool.false_eq_true, or_self, if_false, if_neg inRange,
    if_neg hpast, if_neg sets, if_neg some1, hlen, ne_eq, not_true_eq_false, hz, intervals, if_neg fits, Option.getD_some, long,
    storing_result_of_no_trial _ ht]
  rfl

end GateList

/-! ### SCH.PORT and SCH.REMARK -/

/-- R368, R378: a port's settings, whose backup, if it has one, is another port with re-home queues. -/
theorem bodySchPort_of_sound {p b pol prof rem : Nat} (hp : p = e.p 24 1) (hb : b = e.p 28 1) (hpol : pol = e.p 32 4)
    (hprof : prof = e.p 36 1) (hrem : rem = e.p 37 1) (hlt : p ≤ 127) (hhold : e.p 26 2 ≤ 5000) (hblock : e.p 30 2 ≤ 16383)
    (hpol' : pol = 0xFFFFFFFF ∨ pol ≤ 65535) (hprof' : prof = 0xFF ∨ prof ≤ 63) (hrem' : rem = 0xFF ∨ rem ≤ 63)
    (hc : (s.pcfg p).isSome = true)
    (hback : b = 0xFF ∨ (b ≤ 127 ∧ b ≠ p ∧ (s.pcfg b).isSome = true ∧ s.rehomeReady b (s.rehomeBlock b) = true))
    (ht : s.onTrial = false) : bodySchPort vi e s = .ok (saveSettings { s with sch := { s.sch with cfg := { s.sch.cfg with
      ports := mset s.sch.cfg.ports p {
        drrTest := bit (e.p 25 1) 0, holdDown := e.p 26 2, backup := if b = 0xFF then none else some b,
        gateOverhead := e.p 29 1, rehome := some (e.p 30 2), egPolicer := if pol = 0xFFFFFFFF then none else some pol,
        egProfile := if prof = 0xFF then none else some prof, remark := if rem = 0xFF then none else some rem } } } }) := by
  have inRange : ¬ (127 < p ∨ 5000 < e.p 26 2 ∨ (b ≠ 0xFF ∧ 127 < b) ∨ 16383 < e.p 30 2 ∨ (pol ≠ 0xFFFFFFFF ∧ 65535 < pol)
      ∨ (prof ≠ 0xFF ∧ 63 < prof) ∨ (rem ≠ 0xFF ∧ 63 < rem)) := by omega
  have configured : (s.pcfg p).isNone = false := by rw [Option.isNone_eq_false_iff, hc]
  have backed : ¬ (b ≠ 0xFF ∧ (b = p ∨ (s.pcfg b).isNone = true ∨ (!s.rehomeReady b (s.rehomeBlock b)) = true)) := by
    rintro ⟨hset, hbad⟩
    obtain ⟨-, hne, hsome, hready⟩ := hback.resolve_left hset
    rw [hready, Option.isNone_eq_false_iff.mpr hsome] at hbad
    simp [hne] at hbad
  simp only [bodySchPort, ← hp, ← hb, ← hpol, ← hprof, ← hrem, if_neg inRange, configured, Bool.false_eq_true, if_false, if_neg backed,
    storing_of_no_trial ht]

theorem bodySchRemark_of_sound {vals : List Nat} (hcode : e.p 24 1 ≤ 63) (hv : vals = (List.range 9).map (fun i => e.p (26 + i) 1))
    (hd : (vals.take 3).any (fun v => decide (63 < v)) = false) (hp : (vals.drop 3).any (fun v => decide (7 < v)) = false)
    (ht : s.onTrial = false) : bodySchRemark vi e s = .ok (saveSettings { s with sch := { s.sch with cfg := { s.sch.cfg with
      remarks := mset s.sch.cfg.remarks (e.p 24 1) (e.p 25 1, vals) } } }) := by
  simp only [bodySchRemark, ← hv, Nat.not_lt.mpr hcode, hd, hp, Bool.false_eq_true, or_self, if_false, storing_of_no_trial ht]

/-! ### SCH.FLUSH -/

/-- R370: the queues that are flushed are empty. -/
theorem flushQueues_equeue {q : Nat} {qs : List Nat} (hq : q ∈ qs) (p : Nat) (s : State) : (flushQueues p qs s).1.equeue q = [] := by
  unfold flushQueues
  extract_lets l emptied gone
  have sch : gone.sch = emptied.sch := foldS_keeps State.sch _ (packetGone_sch p) l emptied
  have empty : gone.equeue q = [] := (State.equeue_of_sch sch q).trans (emptied_equeue hq s)
  show (if l = [] then gone else count Cn.pktFlushedCmd p l.length gone).equeue q = []
  split
  · exact empty
  · exact (State.equeue_of_sch (count_sch ..) q).trans empty

theorem flushQueues_told (p : Nat) (qs : List Nat) (s : State) :
    (flushQueues p qs s).2 = ((qs.flatMap s.equeue).length, epktBytes (qs.flatMap s.equeue)) := rfl

/-- What a flush of queues leaves: they are empty, and the ports that waited for their packets have returned. -/
def flushed (p : Nat) (qs : List Nat) (s : State) : State :=
  (mkeys (flushQueues p qs s).1.sch.eports).foldl (fun s k => returnCheck k s) (flushQueues p qs s).1

theorem flushed_equeue {q : Nat} {qs : List Nat} (hq : q ∈ qs) (p : Nat) (s : State) : (flushed p qs s).equeue q = [] :=
  (foldS_keeps (fun s => s.equeue q) returnCheck (fun p s => returnCheck_equeue p s q) _ _).trans (flushQueues_equeue hq p s)

theorem flushed_changes (p : Nat) (qs : List Nat) (s : State) :
    Changes [.draws, .rings, .tbl, .fab, .sch, .pair, .flt, .cnt, .out] s (flushed p qs s) :=
  Changes.foldS (flushQueues_changes ..) (fun k x => (returnCheck_changes k x).weaken (by decide))

/-- R370, R377: one queue, or all under a port, that the instance is granted; the answer is the packets and bytes flushed. -/
theorem bodySchFlush_of_granted {p : Nat} {qs : List Nat} (hscope : (e.p 24 1 = 1 ∧ s.queuePort (e.p 28 4) = some p ∧ qs = [e.p 28 4])
      ∨ (e.p 24 1 = 2 ∧ p = e.p 28 4 ∧ p ≤ 127 ∧ qs = s.queuesUnder p)) (hown : qs.all (s.ownsQueue vi) = true) : bodySchFlush vi e s =
    .ok (flushed p qs s) (putLe 4 (qs.flatMap s.equeue).length ++ putLe 8 (epktBytes (qs.flatMap s.equeue))) := by
  rcases hscope with ⟨hone, hp, hqs⟩ | ⟨hall, hp, hlt, hqs⟩ <;> subst hqs
  · have known : ¬ (e.p 24 1 = 0 ∨ 2 < e.p 24 1) := by omega
    have granted : s.ownsQueue vi (e.p 28 4) = true := by simpa using hown
    simp only [bodySchFlush, if_neg known, if_pos hone, hp, granted, Bool.not_true, Bool.false_eq_true, if_false,
      flushQueues_told]
    rfl
  · subst hp
    have known : ¬ (e.p 24 1 = 0 ∨ 2 < e.p 24 1) := by omega
    have under : e.p 24 1 ≠ 1 := by omega
    simp only [bodySchFlush, if_neg known, if_neg under, Nat.not_lt.mpr hlt, hown, Bool.not_true, Bool.false_eq_true, if_false,
      flushQueues_told]
    rfl

/-! ### SCH.STATUS -/

/-- Table ES-6: 64 bytes, which begin with the port's hold state. -/
theorem bodySchStatus_answers (hp : e.p 24 1 ≤ 127) (hmay : vi = 0 ∨ s.ownsPort vi (e.p 24 1) = true) :
    ∃ d, bodySchStatus vi e s = .read s [] d ∧ d.length = 64 ∧ putLe 1 (s.eport (e.p 24 1)).hold.code <+: d := by
  have permitted : ¬ (vi ≠ 0 ∧ (!s.ownsPort vi (e.p 24 1)) = true) := by
    rintro ⟨hvi, hout⟩
    rw [hmay.resolve_left hvi] at hout
    exact Bool.false_ne_true hout
  simp only [bodySchStatus, Nat.not_lt.mpr hp, if_neg permitted, if_false]
  refine ⟨_, rfl, by simp only [List.length_append, putLe_length, zeros, List.length_replicate], ?_⟩
  iterate 9 refine List.IsPrefix.trans ?_ (List.prefix_append ..)
  exact List.prefix_rfl

end Sch

/-- Settles O40: each command is completed with what its body gives under the clause's conditions. -/
theorem schCommandsComplete : Obligations.SchCommandsComplete := by
  intro vi io e s
  refine ⟨fun c h hl hc ht => ?node, fun ws h hl hws hz ht => ?qmap,
    fun c h hop hc hr1 hr2 hb1 hb2 ho1 ho2 hm ht => ?reshape, fun c h hop hc hr1 hr2 hb1 hb2 ho1 ho2 hm ht => ?shape,
    fun h hop hm hfree ht => ?unshape, fun h hn hop hmay ht => ?unpolice, fun c h hn hop hmay hmode hc ho1 ho2 ht => ?police,
    fun n h hn hlt hop hmay hl => ?counts,
    fun p c start ws l h hp hlt hop hc hty hc1 hc2 hpast hstart hn1 hn2 hlen hws hz hl hx hsum hopen ht => ?gates,
    fun c start h hp hop hc hty hc1 hc2 hpast hstart ht => ?ungate,
    fun p b pol prof rem hp hb hpol hprof hrem h hlt hhold hblock hpol' hprof' hrem' hc hback ht => ?port,
    fun vals h hcode hv hd hp ht => ?remark, fun p h hscope hp hown => ?flushOne, fun p qs h hscope hown => ?flush,
    fun h hp hmay => ?status⟩
  case node => exact next_runCommand_of_body h (bodySchNode_of_sound (s := taken vi s) hl hc ht)
  case qmap => exact next_runCommand_of_body h (bodySchQmap_of_sound (s := taken vi s) hl hws hz ht)
  case reshape =>
    have body := bodySchSetShaper_of_set (vi := vi) (s := taken vi s) hop hc hr1 hr2 hb1 hb2 ho1 ho2 ht
    rw [if_pos (show mhas (taken vi s).sch.cfg.shapers (e.p 24 2) = true from hm)] at body
    exact next_runCommand_of_body h body
  case shape =>
    have body := bodySchSetShaper_of_set (vi := vi) (s := taken vi s) hop hc hr1 hr2 hb1 hb2 ho1 ho2 ht
    rw [if_neg (show ¬ mhas (taken vi s).sch.cfg.shapers (e.p 24 2) = true from Bool.eq_false_iff.mp hm)] at body
    exact next_runCommand_of_body h body
  case unshape => exact next_runCommand_of_body h (bodySchSetShaper_of_removed (s := taken vi s) hop hm hfree ht)
  case unpolice => exact next_runCommand_of_body h (bodySchSetPolicer_of_removed (s := taken vi s) hn hmay hop ht)
  case police => exact next_runCommand_of_body h (bodySchSetPolicer_of_set (s := taken vi s) hn hmay hop hmode hc ho1 ho2 ht)
  case counts =>
    subst hn
    have body := bodySchSetPolicer_of_read (s := taken vi s) hlt hmay hop hl
    exact ⟨fun hclear => next_runCommand_of_body h (by rw [body, hclear]; rfl),
      fun hclear => next_runCommand_of_body h (by rw [body, hclear]; rfl)⟩
  case gates =>
    subst hp
    exact next_runCommand_of_body h
      (bodySchGateList_of_set (s := taken vi s) hlt hc hty hc1 hc2 hpast hstart ht hop hn1 hn2 hlen hws hz hl hx hsum hopen)
  case ungate =>
    have body := bodySchGateList_of_removed (vi := vi) (s := taken vi s) hp hc hty hc1 hc2 hpast hstart ht hop
    refine ⟨_, next_runCommand_of_body h body, ?_, rfl, (State.modEport_changes ..).trans (State.modSch_changes ..)⟩
    exact State.modEport_eport (taken vi s) (e.p 24 1) (EPort.awaiting · start false { cycle := e.p 28 4, base := e.p 32 8 })
  case port =>
    exact next_runCommand_of_body h
      (bodySchPort_of_sound (s := taken vi s) hp hb hpol hprof hrem hlt hhold hblock hpol' hprof' hrem' hc hback ht)
  case remark => exact next_runCommand_of_body h (bodySchRemark_of_sound (s := taken vi s) hcode hv hd hp ht)
  case flushOne =>
    have body := bodySchFlush_of_granted (vi := vi) (s := taken vi s) (.inl ⟨hscope, hp, rfl⟩)
      ((Bool.and_true _).trans hown)
    rw [List.flatMap_singleton] at body
    exact ⟨_, next_runCommand_of_body h body, flushed_equeue (List.mem_singleton_self _) .., flushed_changes ..⟩
  case flush => exact next_runCommand_of_body h (bodySchFlush_of_granted (s := taken vi s) hscope hown)
  case status =>
    obtain ⟨d, hd, hbytes, hstart⟩ := bodySchStatus_answers (s := taken vi s) hp hmay
    exact ⟨d, next_runCommand_of_body h hd, hbytes, hstart⟩

end Sys2Proof.Machine
end

section
/-! SUPPORT. Selection and transmission, shapers, gates and the hold deadline (R353, R357 to R359, R362, R363, R366, R368, R371,
Table ES-3). -/

namespace Sys2Proof.Machine

/-! ### What is put out stays put out -/

theorem Changes.keeps_out {ps : List Part} {s t : State} (h : Changes ps s t) (m : Part.out ∉ ps := by decide) : s.out <+: t.out := by
  rw [show t.out = s.out from h.same .out m]

theorem emit_out_prefix (s : State) (o : Output) : s.out <+: (s.emit o).out := List.prefix_append ..

theorem sendCell_out (plane : Nat) (c : Cell) (s : State) : s.out <+: (sendCell plane c s).out := by
  unfold sendCell
  have counted : s.out <+: (count Cn.fabCellsTx plane 1 (takeArmed 2 plane s).2).out := (takeArmed_changes ..).keeps_out.trans (count_out ..)
  have queued (c' : Cell) (t : State) : t.out <+: (queueCell plane c' (t.emit (.cell plane c'))).out :=
    (emit_out_prefix ..).trans (queueCell_changes ..).keeps_out
  exact ite_out (counted.trans (queued ..)) (counted.trans (queued ..))

theorem sendCtrl_out (dest : Nat) (entries : List (List Byte)) (s : State) : s.out <+: (sendCtrl dest entries s).out := by
  unfold sendCtrl
  extract_lets rel seq payload c plane copy t
  have kept : s.out <+: t.out := ite_out (State.modFab_changes ..).keeps_out List.prefix_rfl
  clear_value plane
  cases plane with
  | none => exact kept
  | some p => exact kept.trans (sendCell_out ..)

theorem sendMark_out (k seq : Nat) (s : State) : s.out <+: (sendMark k seq s).out := by
  unfold sendMark
  extract_lets stream sp next
  refine ite_out ?_ (ite_out ?_ List.prefix_rfl)
  · split <;> exact emit_out_prefix ..
  · refine List.IsPrefix.trans ?_ (sendCtrl_out ..)
    exact List.prefix_rfl

theorem markGone_out (port k seq : Nat) (s : State) : s.out <+: (markGone port k seq s).out := ite_out (sendMark_out ..) List.prefix_rfl

theorem returnCheck_out (p : Nat) (s : State) : s.out <+: (returnCheck p s).out :=
  ite_out (notify_out _ _ _ (s.modEport p _)) List.prefix_rfl

theorem leftEgress_out (k : EPkt) (s : State) : s.out <+: (leftEgress k s).out := by
  unfold leftEgress
  extract_lets t
  have released : s.out <+: t.out := (releaseRef_changes ..).keeps_out
  split
  · exact released.trans (returnCheck_out ..)
  · exact released

theorem syncePort_out (p : Nat) (up : Bool) (s : State) : s.out <+: (syncePort p up s).out := by
  refine foldS_out (fun pin x => ?_) _ s
  extract_lets c pulse t told
  have told_out : x.out <+: told.out := notify_out _ _ _ t
  exact ite_out (ite_out told_out (told_out.trans (count_out ..))) List.prefix_rfl

theorem portDownEvent_out (p : Nat) (s : State) : s.out <+: (portDownEvent p s).out := by
  unfold portDownEvent
  extract_lets told
  have told_out : s.out <+: told.out := notify_out ..
  exact ((told_out.trans (probeRefresh_changes ..).keeps_out).trans (syncePort_out ..)).trans (egressHold_changes ..).keeps_out

theorem portEvaluate_out (p : Nat) (s : State) : s.out <+: (portEvaluate p s).out := by
  unfold portEvaluate
  split
  · exact List.prefix_rfl
  · extract_lets x bad t
    split
    · exact ite_out ((State.modPort_changes ..).keeps_out.trans (egressFlap_changes ..).keeps_out) List.prefix_rfl
    · refine ite_out List.prefix_rfl (ite_out ?_ (syncePort_out p false (s.modPort p _)))
      exact (count_out _ _ _ (s.modPort p _)).trans (portDownEvent_out ..)
    · exact ite_out List.prefix_rfl ((syncePort_out p true t).trans (probeRefresh_changes ..).keeps_out)
    · exact ite_out List.prefix_rfl List.prefix_rfl
    · exact List.prefix_rfl

theorem macsecRefresh_out (p : Nat) (s : State) : s.out <+: (macsecRefresh p s).out :=
  ite_out List.prefix_rfl (portEvaluate_out p (s.modPort p _))

/-! ### Selection -/

section Select
variable {port : Nat} {k : Pick} {s : State}

section Free
variable (hlt : port < 128) (hup : s.portUp port = true) (hrun : (s.eport port).hold = .run) (htx : (s.eport port).tx = [])
  (hpace : (s.eport port).paceAt ≤ s.mono) (hdark : s.dark port = false)
include hlt hup hrun htx hpace hdark

/-- R353: a port that is up, in RUN, free and paced looks for a packet once its mode is up to date. -/
theorem selectGuard_of_free : (decide (port < 128) && s.portUp port && decide ((s.eport port).hold = .run) && (s.eport port).tx.isEmpty
    && s.due (s.eport port).paceAt && !s.dark port) = true := by
  simp [hlt, hup, hrun, htx, hpace, hdark, State.due]

theorem exec_schedulerSelect_of_none (ho : (drrUpkeep port s).offer port 4 1 port = none) :
    exec (.schedulerSelect port) s = .next (drrUpkeep port s) := by
  show execSchedulerSelect port s = _
  simp only [execSchedulerSelect, selectGuard_of_free hlt hup hrun htx hpace hdark, when_true, ho]

theorem exec_schedulerSelect_of_offer (ho : (drrUpkeep port s).offer port 4 1 port = some k) :
    exec (.schedulerSelect port) s = .next (applyPick port k (drrUpkeep port s)) := by
  show execSchedulerSelect port s = _
  simp only [execSchedulerSelect, selectGuard_of_free hlt hup hrun htx hpace hdark, when_true, ho]

end Free

/-- R357: a port without a cause of DRR mode that has left the mode stays as it is. -/
theorem drrUpkeep_of_normal (hc : s.drrCauses port = 0) (hd : (s.eport port).drr = false) (hl : (s.eport port).drrLeft = []) :
    drrUpkeep port s = s := by
  simp only [drrUpkeep, hc, hd, hl, ne_eq, not_true_eq_false, Bool.false_eq_true, if_false]

theorem chargeShapers_keeps {β : Type} (g : Sch → β) (hg : ∀ x m, g { x with shapers := m } = g x) (q len : Nat) (s : State) :
    g (chargeShapers q len s).sch = g s.sch := by
  refine foldS_keeps (fun s => g s.sch) _ (fun e x => ?_) _ s
  dsimp only
  split
  · rfl
  · exact hg x.sch _

theorem clearEmpty_keeps {β : Type} (g : Sch → β) (hg : ∀ x m, g { x with deficits := m } = g x) (q : Nat) (s : State) :
    g (clearEmpty q s).sch = g s.sch := by
  refine foldS_keeps (fun s => g s.sch) _ (fun e x => ?_) _ s
  dsimp only
  split
  · exact hg x.sch _
  · rfl

/-- A choice applied to the head of its queue: the scheduler's places and deficits move on, and the packet is in egress processing. -/
def picked (port : Nat) (k : Pick) (pkt : EPkt) (l : List EPkt) (s : State) : State :=
  (((pace port pkt.length s).modSch (fun x => { x with
    rr := k.rr.foldl (fun m (e : Nat × Nat) => mset m e.1 e.2) x.rr,
    deficits := k.deficits.foldl (fun m (e : Nat × Int) => mset m e.1 e.2) x.deficits })).modEport port (fun e => { e with
      drrLeft := e.drrLeft.filter (fun x => decide (x ∉ k.left)), tx := e.tx ++ [(k.queue, pkt)] })).setQueue k.queue l

theorem picked_changes (port : Nat) (k : Pick) (pkt : EPkt) (l : List EPkt) (s : State) : Changes [.sch] s (picked port k pkt l s) :=
  (((pace_changes ..).trans (State.modSch_changes ..)).trans (State.modEport_changes ..)).trans (State.setQueue_changes ..)

theorem picked_tx (port : Nat) (k : Pick) (pkt : EPkt) (l : List EPkt) (s : State) :
    ((picked port k pkt l s).eport port).tx = (s.eport port).tx ++ [(k.queue, pkt)] := by
  rw [picked, State.setQueue_eport, State.modEport_eport]
  show ((pace port pkt.length s).eport port).tx ++ _ = _
  rw [pace, State.modEport_eport]

theorem picked_equeue_ne (port : Nat) {k : Pick} {q : Nat} (pkt : EPkt) (l : List EPkt) (s : State) (h : q ≠ k.queue) :
    (picked port k pkt l s).equeue q = s.equeue q :=
  State.setQueue_equeue_ne _ l h

/-- R355, R358: a choice that ends no node's DRR round charges the shapers on its way and clears the deficits that have nothing to send. -/
theorem applyPick_of_head {pkt : EPkt} {l : List EPkt} (hq : s.equeue k.queue = pkt :: l) (hl : k.left = []) :
    applyPick port k s = clearEmpty k.queue (chargeShapers k.queue pkt.length (picked port k pkt l s)) := by
  simp only [applyPick, hq, hl, ne_eq, not_true_eq_false, false_and, if_false]
  simp only [picked, hl]
  rfl

theorem applyPick_sch {β : Type} {pkt : EPkt} {l : List EPkt} (hq : s.equeue k.queue = pkt :: l) (hl : k.left = []) (g : Sch → β)
    (hs : ∀ x m, g { x with shapers := m } = g x) (hd : ∀ x m, g { x with deficits := m } = g x) :
    g (applyPick port k s).sch = g (picked port k pkt l s).sch := by
  rw [applyPick_of_head hq hl]
  exact (clearEmpty_keeps g hd ..).trans (chargeShapers_keeps g hs ..)

end Select

/-! ### Transmission -/

section Transmit
variable {port : Nat} {s : State}

theorem exec_lineFrameTransmit_of_next {k : Nat × EPkt} (hup : s.portUp port = true) (hmay : s.mayTransmit port = true)
    (hrun : (s.eport port).hold = .run) (hk : s.nextTx port = some k) : exec (.lineFrameTransmit port) s = .next (transmit port k s) := by
  show execLineFrameTransmit port s = _
  simp only [execLineFrameTransmit, hup, hmay, hrun, decide_true, Bool.and_self, when_true, hk]

theorem State.nextTx_of_selected {k : Nat × EPkt} (hlate : (s.eport port).lateSlot = []) (htx : (s.eport port).tx = [k]) :
    s.nextTx port = some k := by
  rw [State.nextTx, hlate, htx]
  rfl

/-- Table ES-3: a whole packet of a known version goes through egress processing while no copy of its record may be lost and no gate list
runs. -/
theorem transmit_of_open {k : Nat × EPkt} {v : EncVer} (hw : k.2.whole = true) (hv : s.version? k.2 = some v)
    (hcopy : s.flt.tblPcCopying = []) (hlist : (s.eport port).list = none) : transmit port k s = egressProcess port k v s := by
  have held : s.recordLost = false := by rw [State.recordLost, hcopy]; rfl
  have fits : s.txFits port k.2 = true := by rw [State.txFits, hlist]; rfl
  simp only [transmit, hw, hv, held, fits, Bool.not_true, Bool.false_eq_true, if_false, if_true]

theorem remark_of_cfg {t : State} (h : t.sch.cfg = s.sch.cfg) (asa : Option Nat) (r : List Byte) (p colour : Nat) (b : List Byte) :
    remark asa r p colour b t = remark asa r p colour b s := by
  simp only [remark, State.schPort, h]

theorem egressPolice_of_none {k : EPkt} (h : (s.schPort port).egPolicer = none) : egressPolice port k s = (k.colour, s) := by
  simp only [egressPolice, h]

theorem serveReads_sch (egress : Bool) (n : Nat) (s : State) : (serveReads egress n s).sch = s.sch :=
  (serveReads_changes ..).same .sch (by decide)

/-- The egress path without a packet whose record's reads are served. -/
def readServed (port : Nat) (k : Nat × EPkt) (v : EncVer) (s : State) : State := dropTx port k (serveReads true v.reads s)

theorem readServed_changes (port : Nat) (k : Nat × EPkt) (v : EncVer) (s : State) : Changes [.mash, .sch] s (readServed port k v s) :=
  ((serveReads_changes ..).weaken (by decide)).trans ((dropTx_changes ..).weaken (by decide))

theorem readServed_cfg (port : Nat) (k : Nat × EPkt) (v : EncVer) (s : State) : (readServed port k v s).sch.cfg = s.sch.cfg := by
  show (serveReads true v.reads s).sch.cfg = s.sch.cfg
  rw [serveReads_sch]

/-- Table ES-3: on a port without an egress search and policer a packet is rewritten and remarked once its record's reads fit. -/
theorem egressProcess_of_plain {k : Nat × EPkt} {v : EncVer} (hprofile : (s.schPort port).egProfile = none)
    (hpolicer : (s.schPort port).egPolicer = none) (hr : s.readsFit true k.2.rdAsk v.reads = true) : egressProcess port k v s =
      sendFrame port k.2 (remark none v.record port k.2.colour (rewrite v.record k.2.ecnMark k.2.ecnOff k.2.bytes) s)
        (readServed port k v s) := by
  have unsearched : s.egressKey port k.2 = none := by rw [State.egressKey, hprofile]; rfl
  have missed : egressSearch port k.2 s = (some none, s) := by rw [egressSearch, unsearched, hprofile]; rfl
  have unpoliced : egressPolice port k.2 (readServed port k v s) = (k.2.colour, readServed port k v s) :=
    egressPolice_of_none (by rw [State.schPort, readServed_cfg]; exact hpolicer)
  have free : s.unitsFit true k.2.asaAsk 0 = true := rfl
  simp only [egressProcess, unsearched, Option.any_none, Option.map_none, Option.getD_none, free, hr, Bool.and_self, Bool.not_true,
    Bool.false_eq_true, if_false, missed]
  show sendFrame port k.2 (remark none v.record port (egressPolice port k.2 (readServed port k v s)).1 _
    (egressPolice port k.2 (readServed port k v s)).2) (egressPolice port k.2 (readServed port k v s)).2 = _
  rw [unpoliced, remark_of_cfg (readServed_cfg ..)]

/-- Table ES-3: on a port without timestamps and MACsec the frame whose JCRC holds goes to the line as it is, with its FCS. -/
theorem lineFrame_mem_sendFrame {k : EPkt} (b : List Byte) (hts : (s.tport port).tsEnable = false) (hsec : (s.secy port).enable = false)
    (hj : k.jcrc = Config.jcrc k.bytes) : .lineFrame port (b ++ fcsOf b) ∈ (sendFrame port k b s).out := by
  have clear : macsecTx port b s = (b, s) := by simp only [macsecTx, hsec, Bool.false_and, Bool.not_false, if_true]
  simp only [sendFrame, hts, Bool.false_and, Bool.false_eq_true, if_false, Option.getD_none, clear, hj, ne_eq, not_true_eq_false]
  have put : .lineFrame port (b ++ fcsOf b) ∈ (s.emit (.lineFrame port (b ++ fcsOf b))).out :=
    List.mem_append_right _ (List.mem_singleton_self _)
  refine ((macsecRefresh_out ..).subset ?_)
  refine ((leftEgress_out ..).subset ((markGone_out ..).subset ?_))
  refine (meterTx_changes ..).keeps_out.subset ((count_out ..).subset ((count_out ..).subset ?_))
  exact (foldS_out (fun _ _ => emit_out_prefix ..) _ (s.emit _)).subset put

end Transmit

/-! ### Shapers -/

section Shaper
variable {h : Nat} {x : ShaperSt} {s : State}

/-- A shaper after a refill with settings and a credit (R358). -/
def refilled (h : Nat) (x : ShaperSt) (c : ShaperCfg) (credit : Int) (s : State) : State :=
  { s with sch := { s.sch with
    cfg := { s.sch.cfg with shapers := mset s.sch.cfg.shapers h c },
    shapers := mset s.sch.shapers h { x with
      credit := min (credit + refillTokens c.rate) ((c.burst : Int) * 65536), next := none, refillAt := x.refillAt + 10240 } } }

theorem exec_shaperRefill_of_due (hx : mget s.sch.shapers h = some x) (hd : x.refillAt ≤ s.mono) :
    exec (.shaperRefill h) s = .next (shaperRefill h x s) := by
  show execShaperRefill h s = _
  simp only [execShaperRefill, hx, State.due, hd, decide_true, when_true]

theorem shaperRefill_of_steady (hn : x.next = none) : shaperRefill h x s = refilled h x (mgetD s.sch.cfg.shapers h {}) x.credit s := by
  simp only [shaperRefill, hn]
  rfl

/-- R359: new settings come into force at a refill, a debt forgiven if the command asked for it. -/
theorem shaperRefill_of_next {c : ShaperCfg} {forgive : Bool} (hn : x.next = some (c, forgive)) :
    shaperRefill h x s = refilled h x c (if forgive = true ∧ x.credit < 0 then 0 else x.credit) s := by
  simp only [shaperRefill, hn]
  rfl

end Shaper

/-! ### Gates -/

section Gate
variable {port start : Nat} {l : GateList} {s : State}

theorem exec_gateListStart_of_removal (hp : (s.eport port).pendingList = some (start, false, l)) (ht : s.timeReached start = true) :
    exec (.gateListStart port) s = .next (s.modEport port (fun x => { x with pendingList := none, list := none, gapped := false })) := by
  show execGateListStart port s = _
  simp only [execGateListStart, hp, ht, when_true, Bool.false_eq_true, if_false]

/-- R363: the new list begins its first entry, which is reported. -/
theorem exec_gateListStart_of_list {t : State} (hp : (s.eport port).pendingList = some (start, true, l)) (ht : s.timeReached start = true)
    (hl : t = s.modEport port (fun x => { x with pendingList := none }.enterList l start)) : exec (.gateListStart port) s =
      .next (notify Ev.schGateStart (putLe 1 port ++ zeros 7 ++ putLe 8 start) (t.ownersOf port) t) := by
  subst hl
  show execGateListStart port s = _
  simp only [execGateListStart, hp, ht, when_true, if_true]

theorem exec_gateEntryEnd_of_reached (hl : (s.eport port).list = some l) (ht : s.timeReached (s.eport port).gateEnd = true) :
    exec (.gateEntryEnd port) s = .next (s.modEport port (fun x => x.nextGate l)) := by
  show execGateEntryEnd port s = _
  simp only [execGateEntryEnd, hl, ht, when_true]

end Gate

/-! ### The hold deadline -/

section Hold
variable {port : Nat} {s : State}

theorem exec_holdDeadline_of_due (hhold : (s.eport port).hold = .hold) (hd : (s.eport port).deadline ≤ s.mono)
    (hsa : s.onlyNoSa port = false) : exec (.holdDeadline port) s = .next (retrainDone port (holdDeadline port s)) := by
  show execHoldDeadline port s = _
  simp only [execHoldDeadline, hhold, State.due, hd, hsa, decide_true, Bool.not_false, Bool.and_self, when_true]

theorem takeQueues_cfg (p : Nat) (s : State) : (takeQueues p s).1.sch.cfg = s.sch.cfg := by
  have emptied := foldS_keeps (fun s => s.sch.cfg) (fun q s => s.setQueue q []) (fun _ _ => rfl) (s.queuesUnder p) s
  simpa only [takeQueues, State.modEport] using emptied

/-- The port's packets are taken from its queues and its holding list and flushed (R368). -/
def holdEmptied (p : Nat) (s : State) : State := holdFlushed p ((takeQueues p s).2.map (fun e => e.2)) (takeQueues p s).1

/-- The port is FLUSHED, which is reported. -/
def holdOver (p : Nat) (s : State) : State :=
  notify Ev.portHoldFlush (putLe 1 p ++ zeros 3 ++ putLe 4 (takeQueues p s).2.length) ((holdEmptied p s).ownersOf p)
    ((holdEmptied p s).modEport p (fun x => { x with hold := .flushed }))

theorem holdOver_hold (p : Nat) (s : State) : ((holdOver p s).eport p).hold = .flushed := by
  rw [holdOver, State.eport_of_sch (notify_sch ..), State.modEport_eport]

/-- R368: the packets of a port without a backup are flushed. -/
theorem holdDeadline_of_no_backup (hb : (s.schPort port).backup = none) :
    holdDeadline port s = foldS (mkeys (holdOver port s).sch.eports) (holdOver port s) returnCheck := by
  have alone : ((takeQueues port s).1.schPort port).backup = none := by rw [State.schPort, takeQueues_cfg]; exact hb
  simp only [holdDeadline, alone, Option.filter_none]
  rfl

/-- R369: a port that returns to RUN was RETURNING, so no port enters FLUSHED or leaves it. -/
theorem returnCheck_flushed (p q : Nat) (s : State) : ((returnCheck q s).eport p).hold = .flushed ↔ (s.eport p).hold = .flushed := by
  unfold returnCheck
  split
  case isFalse => rfl
  case isTrue h =>
    rw [State.eport_of_sch (notify_sch ..)]
    by_cases hq : p = q
    · subst hq
      rw [State.modEport_eport, h.1]
      simp
    · rw [State.modEport_eport_ne _ _ hq]

theorem holdDeadline_flushed (hb : (s.schPort port).backup = none) : ((holdDeadline port s).eport port).hold = .flushed := by
  rw [holdDeadline_of_no_backup hb]
  have kept := foldS_keeps (fun s => (s.eport port).hold = .flushed) returnCheck (fun q x => propext (returnCheck_flushed port q x))
    (mkeys (holdOver port s).sch.eports) (holdOver port s)
  exact kept.mpr (holdOver_hold port s)

theorem retrainDone_of_untrained {t : State} (h : port ∉ s.dev.retraining) (hd : t.dev = s.dev) : retrainDone port t = t := by
  rw [retrainDone, hd, if_neg h]

end Hold

/-- Settles O41: each event acts under its guard, and what a choice, a frame or a deadline leaves is read off. -/
theorem schEventsComplete : Obligations.SchEventsComplete := by
  intro s
  refine ⟨fun port hlt hup hrun htx hpace hdark => ⟨exec_schedulerSelect_of_none hlt hup hrun htx hpace hdark,
      fun k => exec_schedulerSelect_of_offer hlt hup hrun htx hpace hdark⟩,
    fun port k => exec_lineFrameTransmit_of_next, fun h x c credit hx hd hcr => ?refill,
    fun port start l => exec_gateListStart_of_removal, fun port => exec_holdDeadline_of_due,
    fun port k pkt l hlt hup hrun htx hpace hdark hc hdrr hleft ho hq hl => ?pick,
    fun port k v b hup hmay hrun hlate htx hw hv hcopy hlist hprofile hpolicer hsec hr hts hj hb => ?frame,
    fun h x c hx hd hn hc => ?steady, fun port start l hp ht => ?gates, fun port l => exec_gateEntryEnd_of_reached,
    fun port hhold hd hsa hback hfree => ?flush⟩
  case refill =>
    rw [exec_shaperRefill_of_due hx hd]
    cases hn : x.next with
    | none =>
      rw [hn] at hcr
      obtain ⟨rfl, rfl⟩ := Prod.mk.inj hcr
      rw [shaperRefill_of_steady hn]
      rfl
    | some g =>
      rw [hn] at hcr
      obtain ⟨rfl, rfl⟩ := Prod.mk.inj hcr
      rw [shaperRefill_of_next hn]
      rfl
  case pick =>
    have normal := drrUpkeep_of_normal hc hdrr hleft
    have select := exec_schedulerSelect_of_offer (k := k) hlt hup hrun htx hpace hdark (by rw [normal]; exact ho)
    rw [normal] at select
    have queue (q : Nat) := applyPick_sch (port := port) hq hl (fun x => mgetD x.queues q []) (fun _ _ => rfl) (fun _ _ => rfl)
    have eport := applyPick_sch (port := port) hq hl (fun x => mgetD x.eports port {}) (fun _ _ => rfl) (fun _ _ => rfl)
    refine ⟨_, select, (congrArg EPort.tx eport).trans ?_, (queue k.queue).trans (State.setQueue_equeue ..),
      fun q hne => (queue q).trans (picked_equeue_ne port pkt l s hne), ?_⟩
    · exact (picked_tx ..).trans (by rw [htx]; rfl)
    · rw [applyPick_of_head hq hl]
      exact ((picked_changes ..).trans (chargeShapers_changes ..)).trans (clearEmpty_changes ..)
  case frame =>
    have sent := exec_lineFrameTransmit_of_next hup hmay hrun (State.nextTx_of_selected hlate htx)
    refine ⟨_, sent, ?_, transmit_changes ..⟩
    rw [transmit_of_open hw hv hcopy hlist, egressProcess_of_plain hprofile hpolicer hr, ← hb]
    have served := readServed_changes port k v s
    have tim : (readServed port k v s).tim = s.tim := served.tim_eq
    have prt : (readServed port k v s).port = s.port := served.same .port (by decide)
    refine lineFrame_mem_sendFrame b ?_ ?_ hj
    · rw [State.tport, tim]; exact hts
    · rw [State.secy, State.pcfg, prt]; exact hsec
  case steady =>
    have known : mgetD s.sch.cfg.shapers h {} = c := by rw [mgetD, hc]; rfl
    rw [exec_shaperRefill_of_due hx hd, shaperRefill_of_steady hn, known, refilled, ← hn]
  case gates =>
    refine ⟨_, exec_gateListStart_of_list hp ht rfl, ?_, ?_⟩
    · rw [State.eport_of_sch (notify_sch ..), State.modEport_eport]
      rfl
    · exact ((State.modEport_changes ..).weaken (by decide)).trans ((notify_changes ..).weaken (by decide))
  case flush =>
    have changes := holdDeadline_changes port s
    have dev : (holdDeadline port s).dev = s.dev := changes.same .dev (by decide)
    refine ⟨_, (exec_holdDeadline_of_due hhold hd hsa).trans (by rw [retrainDone_of_untrained hfree dev]),
      holdDeadline_flushed hback, changes⟩

end Sys2Proof.Machine
end

section
/-! SUPPORT. The reset state and the footprints of commands, from the laws of the families put together. -/

namespace Sys2Proof.Machine

/-- Settles O54: the reset state has no live epoch, and INCREMENT is nominal. -/
theorem resetMeetsInvariant : Obligations.ResetMeetsInvariant := Inv.of_reset rfl rfl

/-- The queue of waiting commands is in no command's footprint. -/
theorem pending_notMem_footprint (c : Instr) : Part.pending ∉ footprint c := by
  cases c
  all_goals exact of_decide_eq_true rfl

/-- Settles O56: every command answers a next state within its footprint, in states whose event cannot occur too (there it leaves the state as it
was, assumption log entry 3). -/
theorem commandsStayWithinFootprint : Obligations.CommandsStayWithinFootprint :=
  fun c s => ⟨exec_changes c s, pending_notMem_footprint c⟩

end Sys2Proof.Machine
end

section
/-! SUPPORT. The commands of family CNT (R515, R520 to R525, Table CT-6), and the boundaries of selectable counters and of bandwidth meters
(R521, R522, R524). -/

namespace Sys2Proof.Machine

/-! ### CNT.READ -/

theorem mem_upFrom {n a i : Nat} : i ∈ upFrom a n ↔ a ≤ i ∧ i < a + n := by
  induction n generalizing a with
  | zero => simp only [upFrom, List.not_mem_nil, false_iff]; omega
  | succ n ih => simp only [upFrom, List.mem_cons, ih]; omega

theorem foldr_append_eq_flatMap {α β : Type} (f : α → List β) (l : List α) : l.foldr (fun a acc => f a ++ acc) [] = l.flatMap f := by
  induction l with
  | nil => rfl
  | cons a l ih => rw [List.foldr_cons, ih, List.flatMap_cons]

section Cnt
variable {vi : Nat} {e : Entry} {s : State}

/-- Table CT-6: the counters of a run of one event that the instance may read, their flags cleared if asked. -/
theorem bodyCntRead_of_run {k : Nat} {keys : List Nat} (hk : counterKind (e.p 24 2) = some k) (h1 : 1 ≤ e.p 32 4) (h2 : e.p 32 4 ≤ 65536)
    (hsize : e.p 28 4 + e.p 32 4 ≤ kindSize k) (hmay : ∀ i, e.p 28 4 ≤ i → i < e.p 28 4 + e.p 32 4 → s.mayCount vi k i = true)
    (hl : 8 * e.p 32 4 + ceilDiv (e.p 32 4) 8 ≤ e.dataLen) (hkeys : keys = (upFrom (e.p 28 4) (e.p 32 4)).map (counterKey (e.p 24 2))) :
    bodyCntRead vi e s = {
      st := if bit (e.p 26 1) 0 then { s with cnt := { s.cnt with ovf := s.cnt.ovf.filter (fun key => decide (key ∉ keys)) } } else s
      result := putLe 8 s.monoNs ++ putLe 4 0
      data := keys.flatMap (fun key => putLe 8 (mgetD s.cnt.vals key 0)) ++ packFlags (keys.map (fun key => decide (key ∈ s.cnt.ovf)))
      changed := bit (e.p 26 1) 0 } := by
  have inRange : ¬ (e.p 32 4 = 0 ∨ 65536 < e.p 32 4) := by omega
  have permitted : (upFrom (e.p 28 4) (e.p 32 4)).all (s.mayCount vi k) = true := by
    rw [List.all_eq_true]
    exact fun i hi => hmay i (mem_upFrom.mp hi).1 (mem_upFrom.mp hi).2
  subst hkeys
  simp only [bodyCntRead, hk, if_neg inRange, if_neg (Nat.not_lt.mpr hsize), permitted, Bool.not_true, Bool.false_eq_true, if_false,
    if_neg (Nat.not_lt.mpr hl), foldr_append_eq_flatMap]

/-! ### CNT.SELECT -/

/-- R522: a binding waits for the boundary of the one in force, or for the first of its own. -/
theorem bodyCntSelect_of_bind {k at_ : Nat} {al : Bool} {c : Sel} (hn : e.p 24 1 < 64) (hop : e.p 25 1 = 1)
    (hk : counterKind (e.p 26 2) = some k) (hidx : e.p 28 4 < kindSize k ∨ e.p 28 4 = 0xFFFFFFFF) (hw1 : 0 < e.p 32 4)
    (hw2 : e.p 32 4 ≤ 1000000) (hc : c = mgetD s.cnt.sel (e.p 24 1) {})
    (hat : c.bound = true ∧ at_ = c.nextAt ∧ al = c.alignTime
      ∨ c.bound = false ∧ at_ = s.nextBoundary (e.p 32 4) (bit (e.p 36 1) 0) ∧ al = bit (e.p 36 1) 0) :
    bodyCntSelect vi e s = .ok (s.modSel (e.p 24 1) (fun c => { c with
      pending := some (some (e.p 26 2, (if e.p 28 4 = 0xFFFFFFFF then none else some (e.p 28 4)), e.p 32 4, bit (e.p 36 1) 0)),
      nextAt := at_, alignTime := al })) (putLe 8 (s.boundaryNs at_ al)) := by
  have inRange : ¬ 63 < e.p 24 1 := by omega
  have binds : e.p 25 1 ≠ 2 := by omega
  have known : ¬ (e.p 28 4 ≠ 0xFFFFFFFF ∧ kindSize k ≤ e.p 28 4) := by omega
  have window : ¬ (e.p 32 4 = 0 ∨ 1000000 < e.p 32 4) := by omega
  subst hc
  rcases hat with ⟨hb, rfl, rfl⟩ | ⟨hb, rfl, rfl⟩ <;>
    simp only [bodyCntSelect, if_neg inRange, if_neg binds, if_neg (not_not_intro hop), hk, if_neg known, if_neg window, hb,
      Bool.false_eq_true, if_true, if_false]

/-- R522: a binding in force is released at its boundary. -/
theorem bodyCntSelect_of_release {c : Sel} (hn : e.p 24 1 < 64) (hop : e.p 25 1 = 2) (hc : c = mgetD s.cnt.sel (e.p 24 1) {}) :
    bodyCntSelect vi e s = if c.bound
      then .ok (s.modSel (e.p 24 1) (fun c => { c with pending := some none })) (putLe 8 (s.boundaryNs c.nextAt c.alignTime))
      else .ok (s.modSel (e.p 24 1) (fun c => { c with pending := none })) (putLe 8 s.monoNs) := by
  have inRange : ¬ 63 < e.p 24 1 := by omega
  subst hc
  simp only [bodyCntSelect, if_neg inRange, hop, if_true]

/-! ### CNT.METER and CNT.METER_READ -/

/-- A meter takes a new window at its next boundary (R524). -/
def meterWindow (w p : Nat) (s : State) : State :=
  { s with cnt := { s.cnt with meters := mmod s.cnt.meters p {} (fun m => { m with newWindow := some w }) } }

theorem meterWindow_changes (w p : Nat) (s : State) : Changes [.cnt] s (meterWindow w p s) := Changes.set_cnt Changes.rfl (by decide)

/-- The new window of the listed meters; the others keep theirs. -/
theorem foldS_meterWindow (w p : Nat) (l : List Nat) (s : State) : mgetD (foldS l s (meterWindow w)).cnt.meters p {} =
    if p ∈ l then { mgetD s.cnt.meters p {} with newWindow := some w } else mgetD s.cnt.meters p {} := by
  induction l generalizing s with
  | nil => rfl
  | cons q l ih =>
    refine (ih (meterWindow w q s)).trans ?_
    by_cases hq : p = q
    · subst hq
      simp [meterWindow]
    · simp [meterWindow, hq]

/-- Table CT-6: a window in its range goes to one meter, or to all. -/
theorem bodyCntMeter_of_window {w : Nat} (hw : w = if e.p 28 4 = 0 then 1000 else e.p 28 4) (hw2 : w ≤ 1000000)
    (hp : e.p 24 1 < 128 ∨ e.p 24 1 = 0xFF) :
    bodyCntMeter vi e s = .ok (foldS (if e.p 24 1 = 0xFF then List.range 128 else [e.p 24 1]) s (meterWindow w)) := by
  have inRange : ¬ ((127 < e.p 24 1 ∧ e.p 24 1 ≠ 0xFF) ∨ 1000000 < w) := by omega
  simp only [bodyCntMeter, ← hw, if_neg inRange]
  rfl

/-- What CNT.METER_READ returns of a meter, whose stored window reads 0 while the port is not UP (R524, Table CT-6). -/
def meterBytes (up : Bool) (m : Meter) : List Byte :=
  putLe 8 (if up then m.lastRxB else 0) ++ putLe 8 (if up then m.lastRxF else 0) ++ putLe 8 (if up then m.lastTxB else 0)
    ++ putLe 8 (if up then m.lastTxF else 0) ++ putLe 8 m.rxPeak ++ putLe 8 m.txPeak ++ putLe 8 (m.boundary / 10) ++ putLe 4 m.window ++ zeros 4

theorem meterBytes_length (up : Bool) (m : Meter) : (meterBytes up m).length = 64 := by
  simp only [meterBytes, List.length_append, putLe_length, zeros, List.length_replicate]

theorem meterBytes_of_up (m : Meter) :
    (putLe 8 m.lastRxB ++ putLe 8 m.lastRxF ++ putLe 8 m.lastTxB ++ putLe 8 m.lastTxF) <+: meterBytes true m := by
  unfold meterBytes
  iterate 5 refine List.IsPrefix.trans ?_ (List.prefix_append ..)
  exact List.prefix_rfl

theorem meterBytes_of_down (m : Meter) : zeros 32 <+: meterBytes false m := by
  unfold meterBytes
  iterate 5 refine List.IsPrefix.trans ?_ (List.prefix_append ..)
  simp only [Bool.false_eq_true, if_false]
  exact ⟨[], by decide⟩

theorem bodyCntMeterRead_of_owner (hp : e.p 24 1 < 128) (hown : s.ownsPort vi (e.p 24 1) = true) : bodyCntMeterRead vi e s = {
    st := if bit (e.p 25 1) 0 then { s with cnt := { s.cnt with
        meters := mset s.cnt.meters (e.p 24 1) { mgetD s.cnt.meters (e.p 24 1) {} with rxPeak := 0, txPeak := 0 } } } else s
    data := meterBytes (s.portUp (e.p 24 1)) (mgetD s.cnt.meters (e.p 24 1) {}), changed := bit (e.p 25 1) 0 } := by
  have inRange : ¬ 127 < e.p 24 1 := by omega
  simp only [bodyCntMeterRead, if_neg inRange, hown, Bool.not_true, Bool.false_eq_true, if_false]
  rfl

/-! ### CNT.DESCRIBE -/

theorem bodyCntDescribe_of_event {k : Nat} (hk : counterKind (e.p 24 2) = some k) :
    bodyCntDescribe vi e s = .read s (putLe 1 k ++ zeros 3 ++ putLe 4 (kindSize k)) [] := by
  simp only [bodyCntDescribe, hk]

end Cnt

/-- Settles O20: each command is completed with what its body gives under the clause's conditions. -/
theorem cntCommandsComplete : Obligations.CntCommandsComplete := by
  intro vi io e s
  refine ⟨fun k keys h hk h1 h2 hsize hmay hl hkeys => ?read, fun k n c h hn hlt hop hk hidx hw1 hw2 hc at_ al p hp hat => ?bind,
    fun n c h hn hlt hop hc => ?release, fun w h hw hw2 => ?meter, fun p h hp hlt hown => ?meterRead, fun k h hk => ?describe⟩
  case read =>
    have body := bodyCntRead_of_run (s := taken vi s) hk h1 h2 hsize hmay hl hkeys
    exact ⟨_, _, next_runCommand_of_body h body, rfl, fun hkept => by rw [hkept]; rfl, fun hclear => by rw [hclear]; rfl⟩
  case bind =>
    subst hn hp
    exact next_runCommand_of_body h (bodyCntSelect_of_bind (s := taken vi s) hlt hop hk hidx hw1 hw2 hc hat)
  case release =>
    subst hn
    have body := bodyCntSelect_of_release (vi := vi) (s := taken vi s) hlt hop hc
    exact ⟨fun hb => next_runCommand_of_body h (by rw [body, hb]; rfl), fun hb => next_runCommand_of_body h (by rw [body, hb]; rfl)⟩
  case meter =>
    refine ⟨fun hp => ?_, fun hp => ?_⟩
    · have body := bodyCntMeter_of_window (vi := vi) (s := taken vi s) hw hw2 (.inl hp)
      rw [if_neg (by omega)] at body
      exact next_runCommand_of_body h body
    · have body := bodyCntMeter_of_window (vi := vi) (s := taken vi s) hw hw2 (.inr hp)
      rw [if_pos hp] at body
      refine ⟨_, next_runCommand_of_body h body, Changes.foldS Changes.rfl (meterWindow_changes w), fun p hlt => ?_⟩
      rw [foldS_meterWindow, if_pos (List.mem_range.mpr hlt)]
      rfl
  case meterRead =>
    subst hp
    have body := bodyCntMeterRead_of_owner (s := taken vi s) hlt hown
    have up : (taken vi s).portUp (e.p 24 1) = s.portUp (e.p 24 1) := rfl
    refine ⟨_, _, next_runCommand_of_body h body, meterBytes_length .., fun hup => ?_, fun hdown => ?_, fun hkept => by rw [hkept]; rfl,
      fun hclear => by rw [hclear]; rfl⟩
    · rw [up, hup]
      exact meterBytes_of_up _
    · rw [up, hdown]
      exact meterBytes_of_down _
  case describe => exact next_runCommand_of_body h (bodyCntDescribe_of_event (s := taken vi s) hk)

/-! ### Boundaries -/

section Boundary
variable {s : State}

/-- R521: a boundary that is reached, of a counter that is bound or has a binding to take, stores the window. -/
theorem exec_cntWindowBoundary_of_reached {n : Nat} {c : Sel} (hc : mget s.cnt.sel n = some c) (hb : c.bound = true ∨ c.pending ≠ none)
    (hat : c.alignTime = false ∧ c.nextAt ≤ s.mono ∨ c.alignTime = true ∧ c.nextAt ≤ s.timeNs) :
    exec (.cntWindowBoundary n) s = .next (s.modSel n (selBoundary s)) := by
  have used : (c.bound || c.pending.isSome) = true := by
    rw [Bool.or_eq_true, Option.isSome_iff_ne_none]
    exact hb
  have reached : (if c.alignTime then decide (c.nextAt ≤ s.timeNs) else s.due c.nextAt) = true := by
    rcases hat with ⟨ha, ht⟩ | ⟨ha, ht⟩ <;> rw [ha]
    · exact decide_eq_true ht
    · exact decide_eq_true ht
  show execCntWindowBoundary n s = _
  simp only [execCntWindowBoundary, hc, used, reached, Bool.and_self, when_true]

/-- R521: the window in progress is stored and the next one begins, the binding still as it was. -/
def Sel.stored (s : State) (c : Sel) : Sel :=
  { (if c.bound then
      { c with last := c.current, seq := (c.seq + 1) % 2 ^ 32, lastEvent := c.event, peak := max c.peak c.current, current := 0 }
    else c) with boundaryMono := s.boundaryNs c.nextAt c.alignTime, boundaryTime := s.timeNs }

theorem Sel.stored_pending (s : State) (c : Sel) : (c.stored s).pending = c.pending := by
  unfold Sel.stored
  split <;> rfl

theorem selBoundary_eq (s : State) (c : Sel) : selBoundary s c = Sel.rebind s (c.stored s) := by
  unfold selBoundary Sel.stored
  split <;> rfl

/-- R522: the binding in force stays until something waits. -/
theorem Sel.rebind_of_none {c : Sel} (h : c.pending = none) : Sel.rebind s c =
    { c with nextAt := if c.alignTime then c.nextAt + c.window * 1000 else c.nextAt + Config.us c.window } := by
  rw [Sel.rebind, h]

/-- R522: a binding that was released ends. -/
theorem Sel.rebind_of_release {c : Sel} (h : c.pending = some none) :
    Sel.rebind s c = { c with bound := false, pending := none, current := 0 } := by
  rw [Sel.rebind, h]

/-- R522: a binding that waited is in force, its counts at 0. -/
theorem Sel.rebind_of_new {c : Sel} {ev w : Nat} {idx : Option Nat} {al : Bool} (h : c.pending = some (some (ev, idx, w, al))) :
    Sel.rebind s c = { c with
      bound := true, event := ev, index := idx, window := w, alignTime := al, total := 0, current := 0, peak := 0, pending := none,
      nextAt := s.nextBoundary w al } := by
  rw [Sel.rebind, h]

theorem Sel.rebind_last (s : State) (c : Sel) : (Sel.rebind s c).last = c.last := by
  unfold Sel.rebind
  split <;> rfl

theorem Sel.rebind_seq (s : State) (c : Sel) : (Sel.rebind s c).seq = c.seq := by
  unfold Sel.rebind
  split <;> rfl

theorem Sel.rebind_pending (s : State) (c : Sel) : (Sel.rebind s c).pending = none := by
  unfold Sel.rebind
  split
  · assumption
  · rfl
  · rfl

theorem Sel.rebind_current (s : State) (c : Sel) : (Sel.rebind s c).current = if c.pending.isSome then 0 else c.current := by
  rcases hp : c.pending with _ | _ | _ <;> simp only [Sel.rebind, hp, Option.isSome] <;> rfl

theorem exec_meterWindowBoundary_of_due {port : Nat} {m : Meter} (hp : port < 128) (hm : mgetD s.cnt.meters port {} = m)
    (hd : s.due (nextMultiple (Config.us m.window) m.boundary) = true) : exec (.meterWindowBoundary port) s = .next { s with
      cnt := { s.cnt with
        meters := mset s.cnt.meters port (meterBoundary (s.portUp port) (nextMultiple (Config.us m.window) m.boundary) m) } } := by
  show execMeterWindowBoundary port s = _
  simp only [execMeterWindowBoundary, hm, hp, hd, decide_true, Bool.and_self, when_true]

end Boundary

/-- Settles O21: the boundary of a counter stores its window and takes what waits, case by case of what waits; a meter's stores what its port
carried. -/
theorem cntEventsComplete : Obligations.CntEventsComplete := by
  intro s
  refine ⟨fun n c hc hb hat => ?counter, fun port m hp hm hd => ⟨fun hup => ?up, fun hdown => ?down⟩⟩
  case counter =>
    refine ⟨_, selBoundary s c, exec_cntWindowBoundary_of_reached hc hb hat, fun m hm => mget_mset_ne _ _ hm, ?_, ?_⟩
    · have held : mgetD s.cnt.sel n {} = c := by rw [mgetD, hc]; rfl
      simp only [State.modSel, mmod, mget_mset_self, held]
    · rw [selBoundary_eq]
      refine ⟨?_, fun hb => ?_, fun hb hp => ?_, fun hp => ?_, fun ev idx w al hp => ?_, Sel.rebind_pending .., rfl, rfl, rfl,
        Changes.set_cnt Changes.rfl (by decide)⟩
      · rw [Sel.rebind_current]
        cases hb : c.bound <;> simp [Sel.stored, hb]
      · simp [Sel.rebind_last, Sel.rebind_seq, Sel.stored, hb]
      · rw [Sel.rebind_of_none (s := s) ((Sel.stored_pending s c).trans hp)]
        simp [Sel.stored, hb]
      · rw [Sel.rebind_of_release ((Sel.stored_pending s c).trans hp)]
      · rw [Sel.rebind_of_new ((Sel.stored_pending s c).trans hp)]
        exact ⟨rfl, rfl, rfl, rfl, rfl, rfl, rfl, rfl⟩
  case up => rw [exec_meterWindowBoundary_of_due hp hm hd, hup]; rfl
  case down =>
    rw [exec_meterWindowBoundary_of_due hp hm hd, hdown]
    simp only [meterBoundary, Bool.false_eq_true, if_false, Nat.max_zero]

end Sys2Proof.Machine
end

section
/-! SUPPORT. The doorbells of the data-path queues (R434, R435). -/

namespace Sys2Proof.Machine

section Doorbell
variable {vi q index : Nat} {s : State}

/-- R438: a doorbell within the ring of an enabled queue, of an instance that is not in RESETTING, is acted on. -/
theorem doorbell_of_inRange {x : VQueue} (f : State → State) (hr : s.hostReach vi = true) (hst : (s.inst vi).st ≠ .resetting)
    (he : x.enabled = true) (hi : index < x.size) : doorbell vi index x f s = f s := by
  rw [doorbell, if_neg (not_not_intro hr), if_neg hst, if_neg (not_not_intro he), if_neg (Nat.not_le.mpr hi)]

/-- As many slots as the host has written fill the ring up to the new tail with none to spare. -/
theorem take_append_replicate_of_length {α : Type} {l : List α} {n : Nat} (h : l.length = n) (z : α) :
    l.take n ++ List.replicate (n - l.length) z = l := by
  rw [← h, List.take_length, Nat.sub_self, List.replicate_zero, List.append_nil]

variable (hr : s.hostReach vi = true) (hst : (s.inst vi).st ≠ .resetting) (hi : index < 4096)
include hr hst hi

theorem exec_viPuntDb_of_inRange {slots : List PuntBuf} (he : (s.puntQueueOf vi q).enabled = true)
    (hsize : index < (s.puntQueueOf vi q).size) (hl : slots.length = (s.puntQueueOf vi q).gap index) :
    exec (.viPuntDb vi q index slots) s =
      .next (s.modPuntQ vi q (fun x => { x with bufs := x.bufs ++ slots, tail := index })) := by
  show execViPuntDb vi q index slots s = _
  simp only [execViPuntDb, Nat.mod_eq_of_lt hi, take_append_replicate_of_length hl, doorbell_of_inRange _ hr hst he hsize]

theorem exec_viInjDb_of_inRange {slots : List InjSlot} (he : (s.injQueueOf vi q).enabled = true)
    (hsize : index < (s.injQueueOf vi q).size) (hl : slots.length = (s.injQueueOf vi q).gap index) :
    exec (.viInjDb vi q index slots) s =
      .next (s.modInjQ vi q (fun x => { x with slots := x.slots ++ slots, tail := index })) := by
  show execViInjDb vi q index slots s = _
  simp only [execViInjDb, Nat.mod_eq_of_lt hi, take_append_replicate_of_length hl, doorbell_of_inRange _ hr hst he hsize]

end Doorbell

/-- Settles O4: what the doorbell brings joins the queue, whose tail it moves. -/
theorem queueDoorbellsComplete : Obligations.QueueDoorbellsComplete := by
  intro vi q index s hr hst hi
  refine ⟨fun slots he hsize hl => ⟨_, exec_viPuntDb_of_inRange hr hst hi he hsize hl, ?_, ?_, State.modPuntQ_changes ..⟩,
    fun slots he hsize hl => ⟨_, exec_viInjDb_of_inRange hr hst hi he hsize hl, ?_, ?_, State.modInjQ_changes ..⟩⟩
  · rw [State.modPuntQ_puntQueueOf]
  · rw [State.modPuntQ_puntQueueOf]
  · rw [State.modInjQ_injQueueOf]
  · rw [State.modInjQ_injQueueOf]

end Sys2Proof.Machine
end

section
/-! SUPPORT. The commands of family PAIR (R380 to R382, R390, R400, R410, R415, Table PR-6). -/

namespace Sys2Proof.Machine

section Pair
variable {vi : Nat} {e : Entry} {s : State}

/-! ### PAIR.CONFIG -/

/-- The pair's own settings, those of its ports kept. -/
def State.putPairCfg (s : State) (c : Option PairCfg) : State := s.modPair (fun p => { p with cfg := { p.cfg with pair := c } })

/-- R380, R415: settings in range whose SUNs meet no other are stored; unless they name the pair as before, discovery begins anew. -/
theorem bodyPairConfig_of_set {c : PairCfg} (hop : e.p 28 1 = 1) (hc : c = {
      partner := e.p 24 2, pairSun := e.p 26 2, priority := e.p 29 1, wait := orDefault (e.p 30 2) 2000,
      draught := orDefault (e.p 32 2) 60, staleLag := orDefault (e.p 34 2) 2 }) (hpart : c.partner ≤ 2047) (hsun : c.pairSun ≤ 2047)
    (hw1 : 100 ≤ c.wait) (hw2 : c.wait ≤ 60000) (hd1 : 10 ≤ c.draught) (hd2 : c.draught ≤ 3600) (hlag : c.staleLag ≤ 1000)
    (hown : c.partner ≠ s.dev.cfg.sun ∧ c.pairSun ≠ s.dev.cfg.sun) (hport : s.pair.cfg.ports.any (fun p => p.2.stream == c.pairSun) = false)
    (ht : s.onTrial = false) : bodyPairConfig vi e s =
      .ok (saveSettings (if s.pair.cfg.pair.any (fun o => o.partner == c.partner && o.pairSun == c.pairSun) then s.putPairCfg (some c)
        else startSeeking ((if s.member then stopPair s else s).putPairCfg (some c)))) := by
  have sets : e.p 28 1 ≠ 2 := by omega
  have inRange : ¬ (e.p 28 1 ≠ 1 ∨ 2047 < c.partner ∨ 2047 < c.pairSun ∨ c.wait < 100 ∨ 60000 < c.wait ∨ c.draught < 10 ∨ 3600 < c.draught
      ∨ 1000 < c.staleLag) := by omega
  have apart : ¬ (c.partner = s.dev.cfg.sun ∨ c.pairSun = s.dev.cfg.sun ∨ s.pair.cfg.ports.any (fun p => p.2.stream == c.pairSun) = true) := by
    rw [hport]
    exact fun h => h.elim hown.1 (fun h => h.elim hown.2 Bool.false_ne_true)
  subst hc
  simp only [bodyPairConfig, if_neg sets, if_neg inRange, if_neg apart, storing_of_no_trial ht]
  rfl

/-- Table PR-4: the pair ends, unless the unit holds the bung beside a partner that follows it. -/
theorem bodyPairConfig_of_remove (hop : e.p 28 1 = 2) (hfree : s.holdsBung = false ∨ (s.partnerState ≠ 6 ∧ s.partnerState ≠ 7))
    (ht : s.onTrial = false) : bodyPairConfig vi e s = .ok (saveSettings (if s.member then stopPair (s.putPairCfg none) else s)) := by
  have unused : (s.holdsBung && decide (s.partnerState = 6 ∨ s.partnerState = 7)) = false := by
    rcases hfree with h | ⟨h6, h7⟩
    · rw [h, Bool.false_and]
    · rw [decide_eq_false (fun h => h.elim h6 h7), Bool.and_false]
  simp only [bodyPairConfig, if_pos hop, unused, Bool.false_eq_true, if_false, storing_of_no_trial ht]
  split <;> rfl

/-! ### PAIR.PORT -/

/-- R381, R415: a port leaves the pair, which the partner is told. -/
theorem bodyPairPort_of_remove (hp : e.p 24 1 ≤ 127) (hm : s.member = true) (hop : e.p 25 1 = 2) (ht : s.onTrial = false) :
    bodyPairPort vi e s = .ok (saveSettings ((({ s with pair := { s.pair with
      cfg := { s.pair.cfg with ports := mdel s.pair.cfg.ports (e.p 24 1) }, ports := mdel s.pair.ports (e.p 24 1) } } : State).modPort (e.p 24 1)
        (fun x => { x with arrivals := 0 })).emit (.portExchange (e.p 24 1) none))) := by
  simp only [bodyPairPort, if_neg (Nat.not_lt.mpr hp), hm, Bool.not_true, Bool.false_eq_true, if_false, if_pos hop, storing_of_no_trial ht]
  rfl

/-- R381, R390, R392: a port joins the pair where its stream is its own and the ports and their marks stay within bounds. -/
theorem bodyPairPort_of_set {c : PairPortCfg} (hp : e.p 24 1 ≤ 127) (hm : s.member = true) (hop : e.p 25 1 = 1)
    (hc : c = { txMode := e.p 26 1, stream := e.p 28 2 }) (hmode1 : 1 ≤ c.txMode) (hmode2 : c.txMode ≤ 2) (hstream : c.stream ≤ 2047)
    (hsun : c.stream ≠ s.dev.cfg.sun) (hpair : c.stream ≠ s.pairSun)
    (hother : s.pair.cfg.ports.any (fun o => o.1 != e.p 24 1 && o.2.stream == c.stream) = false)
    (hcount : (mset s.pair.cfg.ports (e.p 24 1) c).length ≤ 128) (hgbps : s.sharedGbps (mset s.pair.cfg.ports (e.p 24 1) c) ≤ 3200)
    (ht : s.onTrial = false) : bodyPairPort vi e s = .ok (saveSettings ((pairRematch (e.p 24 1) { s with
      pair := { s.pair with cfg := { s.pair.cfg with ports := mset s.pair.cfg.ports (e.p 24 1) c } } }).emit
        (.portExchange (e.p 24 1) (some (c.txMode, c.stream))))) := by
  have sets : e.p 25 1 ≠ 2 := by omega
  have inRange : ¬ (e.p 25 1 ≠ 1 ∨ c.txMode = 0 ∨ 2 < c.txMode ∨ 2047 < c.stream) := by omega
  have apart : ¬ (c.stream = s.dev.cfg.sun ∨ c.stream = s.pairSun
      ∨ s.pair.cfg.ports.any (fun o => o.1 != e.p 24 1 && o.2.stream == c.stream) = true) := by
    rw [hother]
    exact fun h => h.elim hsun (fun h => h.elim hpair Bool.false_ne_true)
  subst hc
  simp only [bodyPairPort, if_neg (Nat.not_lt.mpr hp), hm, Bool.not_true, Bool.false_eq_true, if_false, if_neg sets, if_neg inRange,
    if_neg apart, if_neg (Nat.not_lt.mpr hcount), if_neg (Nat.not_lt.mpr hgbps), storing_of_no_trial ht]
  rfl

/-! ### PAIR.STATE -/

/-- Table PR-6: 64 bytes, which begin with the pair's state and the peer lanes. -/
theorem bodyPairState_answers (vi : Nat) (e : Entry) (s : State) : ∃ d, bodyPairState vi e s = .read s [] d ∧ d.length = 64
    ∧ (putLe 1 s.pair.st.code ++ putLe 1 (maskOf s.pair.peerLanes)) <+: d := by
  refine ⟨_, rfl, by simp only [List.length_append, putLe_length, zeros, List.length_replicate, List.length_singleton], ?_⟩
  iterate 12 refine List.IsPrefix.trans ?_ (List.prefix_append ..)
  exact List.prefix_rfl

/-! ### PAIR.SWITCH -/

/-- R400: the unit is fenced and hands the next GEN over; its acknowledgement is still to come (assumption log entry 86). -/
theorem handOver_pair (cause : Nat) (s : State) : (handOver cause s).pair =
    { s.pair with st := .fenced, handing := some ((s.pair.highGen + 1) % 2 ^ 32), highGen := (s.pair.highGen + 1) % 2 ^ 32 } := by
  have dark : (darken s).pair = s.pair := (darken_changes s).same .pair (by decide)
  unfold handOver
  extract_lets g u
  rw [show _ = _ from (notify_changes ..).same .pair (by decide), show _ = _ from (sendPeer_changes ..).same .pair (by decide),
    State.modPair_pair, dark]

theorem bodyPairSwitch_of_active (hm : s.member = true) (hs : s.pair.st = .active) (hp : s.partnerState = 6) :
    bodyPairSwitch vi e s = .ok (handOver 1 s) (putLe 4 ((s.pair.highGen + 1) % 2 ^ 32)) := by
  have holds : s.holdsBung = true := by rw [State.holdsBung, hs]; rfl
  simp only [bodyPairSwitch, hm, holds, hs, hp, Bool.not_true, Bool.false_eq_true, if_false, ne_eq, not_true_eq_false, or_self, handOver_pair,
    Option.getD_some]

/-! ### PAIR.DRAUGHT -/

/-- R410: a run of the draught checks is noted with its instant, whatever it finds. -/
theorem draughtRun_pair (s : State) : (draughtRun s).pair =
    { s.pair with draughtFailed := (Config.draughtFails s.draw).toNat, draughtAt := s.mono, lastDraught := s.mono } := by
  unfold draughtRun
  extract_lets f pair run k u
  have punted : u.pair = run.pair := by
    unfold u
    split
    · rfl
    · rw [show _ = _ from (admitPunt_changes ..).same .pair (by decide)]
      rfl
  refine (foldS_keeps State.pair _ (fun n x => ?_) _ _).trans punted
  rw [count_pair]
  exact (notify_changes ..).same .pair (by decide)

/-- R410: the bung holder answers its last result without a run (assumption log entry 88), any other unit that of a run. -/
theorem bodyPairDraught_of_member {b : Bool} (hm : s.member = true) (h1 : e.p 24 1 = 1) (hb : s.holdsBung = b) : bodyPairDraught vi e s =
    .ok (if b then s else draughtRun s) (putLe 4 (if b then s else draughtRun s).pair.draughtFailed) := by
  simp only [bodyPairDraught, hm, h1, hb, Bool.not_true, Bool.false_eq_true, if_false, ne_eq, not_true_eq_false]

end Pair

/-- Settles O42: each command is completed with what its body gives under the clause's conditions. -/
theorem pairCommandsComplete : Obligations.PairCommandsComplete := by
  intro vi io e s
  refine ⟨fun c o h hop hprio hpart hsun hwait hdr hlag hp' hs' hw1 hw2 hd1 hd2 hl' hown1 hown2 hport ht ho => ?set,
    fun h hop hfree ht => next_runCommand_of_body h (bodyPairConfig_of_remove (s := taken vi s) hop hfree ht),
    fun p h hp hlt hm hop ht => ?unpair,
    fun c h hp hm hop hc h1 h2 hstream hsun hpair hother hcount hgbps ht => next_runCommand_of_body h
      (bodyPairPort_of_set (s := taken vi s) hp hm hop hc h1 h2 hstream hsun hpair hother hcount hgbps ht),
    fun h => ?state, fun h hm hs hp => ?switch, fun h hm h1 hb => ?last, fun h hm h1 hb => ?run⟩
  case set =>
    have fields : c = {
        partner := e.p 24 2, pairSun := e.p 26 2, priority := e.p 29 1, wait := orDefault (e.p 30 2) 2000,
        draught := orDefault (e.p 32 2) 60, staleLag := orDefault (e.p 34 2) 2 } := by
      rw [← hprio, ← hpart, ← hsun, ← hwait, ← hdr, ← hlag]
    have body := bodyPairConfig_of_set (vi := vi) (s := taken vi s) hop fields hp' hs' hw1 hw2 hd1 hd2 hl' ⟨hown1, hown2⟩ hport ht
    refine next_runCommand_of_body h (body.trans ?_)
    congr 2
    rw [show (taken vi s).pair.cfg.pair = o from ho]
    cases o with
    | none =>
      have alone : (taken vi s).member = false := by rw [State.member, show (taken vi s).pair.cfg.pair = none from ho]; rfl
      rw [alone]
      rfl
    | some x =>
      have member : (taken vi s).member = true := by rw [State.member, show (taken vi s).pair.cfg.pair = some x from ho]; rfl
      rw [member]
      exact ite_congr (by rw [Option.any_some, Bool.and_eq_true, beq_iff_eq, beq_iff_eq]) (fun _ => rfl) (fun _ => rfl)
  case unpair =>
    subst hp
    exact next_runCommand_of_body h (bodyPairPort_of_remove (s := taken vi s) hlt hm hop ht)
  case state =>
    obtain ⟨d, hd, hbytes, hstart⟩ := bodyPairState_answers vi e (taken vi s)
    exact ⟨d, next_runCommand_of_body h hd, hbytes, hstart⟩
  case switch =>
    exact ⟨_, next_runCommand_of_body h (bodyPairSwitch_of_active (s := taken vi s) hm hs hp), handOver_pair .., handOver_changes ..⟩
  case last => exact next_runCommand_of_body h (bodyPairDraught_of_member (s := taken vi s) hm h1 hb)
  case run =>
    refine ⟨draughtRun (taken vi s), next_runCommand_of_body h (bodyPairDraught_of_member (s := taken vi s) hm h1 hb), ?_, ?_,
      draughtRun_changes ..⟩ <;> rw [draughtRun_pair] <;> rfl

end Sys2Proof.Machine
end

section
/-! SUPPORT. The commands of family FLT (R511, R514, Table IF-8). -/

namespace Sys2Proof.Machine

section Flt
variable {vi : Nat} {e : Entry} {s : State}

/-- Table IF-8: 32 bytes, which begin with the records being recovered and the oldest RECORD_ID. -/
theorem bodyFltStatus_answers (vi : Nat) (e : Entry) (s : State) : ∃ d, bodyFltStatus vi e s = .read s [] d ∧ d.length = 32
    ∧ (putLe 4 (s.logById.filter (fun r => r.st == 1)).length ++ putLe 4 ((s.logById.head?.map FRec.id).getD 0)) <+: d := by
  refine ⟨_, rfl, by simp only [List.length_append, putLe_length, zeros, List.length_replicate], ?_⟩
  iterate 5 refine List.IsPrefix.trans ?_ (List.prefix_append ..)
  exact List.prefix_rfl

/-- Table IF-8: the records from an ID on, as many as asked for. With none to return NEXT_ID is FROM_ID (assumption log entry 101). -/
theorem bodyFltLogRead_of_sound {got : List FRec} (h1 : 1 ≤ e.p 28 1) (h2 : e.p 28 1 ≤ 64) (hl : 64 * e.p 28 1 ≤ e.dataLen)
    (hgot : got = (s.logById.filter (fun r => decide (e.p 24 4 ≤ r.id) && (!bit (e.p 29 1) 0 || r.st == 1))).take (e.p 28 1)) :
    bodyFltLogRead vi e s = .read s (putLe 1 got.length ++ putLe 1 (b2n (s.logById.head?.any (fun r => decide (e.p 24 4 < r.id)))) ++ zeros 2
      ++ putLe 4 ((got.getLast?.map (fun r => r.id + 1)).getD (e.p 24 4))) (got.flatMap FRec.bytes) := by
  have inRange : ¬ (e.p 28 1 = 0 ∨ 64 < e.p 28 1) := by omega
  simp only [bodyFltLogRead, if_neg inRange, if_neg (Nat.not_lt.mpr hl), ← hgot]
  cases s.logById.head? <;> cases got.getLast? <;> rfl

/-- R511: the records that an injection opens or adds to carry INJECTED: `id` is the RECORD_ID before it, `log` the records before it. -/
def injectedMark (id : Nat) (log : List FRec) (r : FRec) : FRec :=
  if id ≤ r.id ∨ log.any (fun o => o.id == r.id && decide (o.occurrences ≠ r.occurrences)) then { r with injected := true } else r

theorem bodyFltInject_of_sound {t : State} (hi : s.injectable (e.p 24 1) (e.p 26 2) (e.p 28 4) = true)
    (hr : s.recovering = none ∨ bit (e.p 25 1) 0 = true)
    (ht : t = strike (e.p 24 1) (e.p 26 2) (e.p 28 4) (count Cn.fltInjected (e.p 24 1) 1 s)) : bodyFltInject vi e s =
      .ok { t with flt := { t.flt with log := t.flt.log.map (injectedMark s.flt.nextId s.flt.log) } }
        (putLe 4 (if s.flt.nextId < t.flt.nextId then s.flt.nextId else 0)) := by
  have mayRecover : (s.recovering.isSome && !bit (e.p 25 1) 0) = false := by
    rcases hr with h | h <;> simp [h]
  have marks : (fun r : FRec => if (!decide (r.id < s.flt.nextId)
      || s.flt.log.any (fun o => o.id == r.id && decide (o.occurrences ≠ r.occurrences))) = true then { r with injected := true } else r)
        = injectedMark s.flt.nextId s.flt.log := by
    funext r
    simp only [injectedMark, Bool.or_eq_true, Bool.not_eq_true', decide_eq_false_iff_not, Nat.not_lt]
  subst ht
  simp only [bodyFltInject, hi, Bool.not_true, Bool.false_eq_true, if_false, mayRecover, marks]

/-- R511: these targets are armed for the next occurrences, which add up with those still armed (assumption log entry 101). -/
theorem strike_of_armed {target : Nat} (unit n : Nat) (h : target ∈ [1, 2, 3, 4, 5, 9]) : strike target unit n s = { s with flt := { s.flt with
    armed := s.flt.armed.filter (fun a => !(a.target == target && a.unit == unit)) ++ [{
      target := target, unit := unit, left := n + ((s.flt.armed.find? (fun a => a.target == target && a.unit == unit)).map Armed.left).getD 0 }] } } := by
  simp only [List.mem_cons, List.not_mem_nil, or_false] at h
  rcases h with rfl | rfl | rfl | rfl | rfl | rfl <;> rfl

/-- An injected lane or pseudo-channel failure reports one of its three causes. -/
theorem injectedCause_bounds (n : Nat) : 1 ≤ 1 + n % 3 ∧ 1 + n % 3 ≤ 3 := by omega

end Flt

/-- Settles O14: each command is completed with what its body gives, and an injection does what its target does. -/
theorem fltCommandsComplete : Obligations.FltCommandsComplete := by
  intro vi io e s
  refine ⟨fun h => ?status, fun got h h1 h2 hl hgot => ?read, fun target unit n t mark h htarget hunit hn hi hr ht hmark => ?inject,
    fun target unit n old h hold => hold ▸ strike_of_armed unit n h,
    fun unit n => ⟨rfl, rfl, fun h => if_pos h, fun h => ⟨_, (injectedCause_bounds _).1, (injectedCause_bounds _).2, if_neg (Nat.not_lt.mpr h)⟩,
      ⟨_, (injectedCause_bounds _).1, (injectedCause_bounds _).2, rfl⟩, fun x hx => ?trub⟩⟩
  case status =>
    obtain ⟨d, hd, hbytes, hstart⟩ := bodyFltStatus_answers vi e (taken vi s)
    exact ⟨d, next_runCommand_of_body h hd, hbytes, hstart⟩
  case read => exact next_runCommand_of_body h (bodyFltLogRead_of_sound (s := taken vi s) h1 h2 hl hgot)
  case inject =>
    subst htarget hunit hn hmark
    exact next_runCommand_of_body h (bodyFltInject_of_sound (s := taken vi s) hi hr ht)
  case trub => simp only [strike, hx]

end Sys2Proof.Machine
end

section
/-! SUPPORT. Events of the Wort Bridge, of table HBM, of the mash pipes and of the fault log (R502, R503, R505, R506, R508). -/

namespace Sys2Proof.Machine

section Bridge
variable {dir g : Nat} {s : State}

/-! ### Flits -/

/-- R502: what a flit does to its group. -/
def flitIn (dir g seq : Nat) (crcOk : Bool) (s : State) : State :=
  if crcOk && decide (seq < (s.wbGroup dir g).expected) then s.emit (.flitAck dir g seq)
  else if crcOk && seq == (s.wbGroup dir g).expected then
    (s.modWb dir g (fun x => { x with expected := seq + 1, replaying := false })).emit (.flitAck dir g seq)
  else if (s.wbGroup dir g).replaying then s
  else wbReplay dir g (s.modWb dir g (fun x => { x with replaying := true }))

theorem exec_wbFlitReceive_of_up (seq : Nat) (crcOk : Bool) (hd : dir < 2) (hg : g < 8) (hup : s.dev.bridgeUp = true) :
    exec (.wbFlitReceive dir g seq crcOk) s = .next (flitIn dir g seq crcOk s) := by
  show execWbFlitReceive dir g seq crcOk s = _
  simp only [execWbFlitReceive, hup, hd, hg, and_self, decide_true, Bool.and_self, when_true]
  rfl

/-- A flit that is bad, or beyond the one expected, asks once for a replay. -/
theorem flitIn_of_missing {seq : Nat} {ok : Bool} (h : ok = false ∨ (s.wbGroup dir g).expected < seq) : flitIn dir g seq ok s =
    if (s.wbGroup dir g).replaying then s else wbReplay dir g (s.modWb dir g (fun x => { x with replaying := true })) := by
  have unread : ¬ (ok && decide (seq < (s.wbGroup dir g).expected)) = true ∧ ¬ (ok && seq == (s.wbGroup dir g).expected) = true := by
    simp only [Bool.and_eq_true, decide_eq_true_eq, beq_iff_eq]
    rcases h with h | h
    · simp [h]
    · omega
  rw [flitIn, if_neg unread.1, if_neg unread.2]

/-! ### Lanes -/

/-- Two changes of a group that agree on what it holds are one. -/
theorem State.modWb_congr {f h : WbGroup → WbGroup} (hf : f (s.wbGroup dir g) = h (s.wbGroup dir g)) : s.modWb dir g f = s.modWb dir g h := by
  unfold State.modWb mmod
  rw [show f (mgetD s.flt.wb (dir * 8 + g) {}) = h (mgetD s.flt.wb (dir * 8 + g) {}) from hf]

theorem exec_wbLaneFail_of_good {lane : Nat} (hd : dir < 2) (hl : lane < 2080) (hup : s.dev.bridgeUp = true)
    (hgood : lane ∉ (s.wbGroup dir (wbGroupOf lane)).failed) : exec (.wbLaneFail dir lane) s = .next (wbLaneFail dir lane s) := by
  have good : s.wbLaneGood dir lane = true := by simp [State.wbLaneGood, hup, hd, hl, hgood]
  show execWbLaneFail dir lane s = _
  rw [execWbLaneFail, good, when_true]

/-- The group without a lane that has failed. -/
def WbGroup.lose (x : WbGroup) (lane : Nat) : WbGroup := { x with failed := x.failed ++ [lane] }

theorem WbGroup.carries_iff {x : WbGroup} {lane : Nat} : x.carries lane = true ↔ lane < 2048 ∨ lane ∈ x.repaired := by
  simp only [WbGroup.carries, Bool.or_eq_true, decide_eq_true_eq]

section Lane
variable {lane : Nat} {x : WbGroup} (hx : x = s.wbGroup dir (wbGroupOf lane))
include hx

/-- R502: a lane in use that a repair lane can replace waits for it. -/
theorem wbLaneFail_of_spare (hc : lane < 2048 ∨ lane ∈ x.repaired)
    (hs : x.pendingRepair.length < ((x.lose lane).spares (wbGroupOf lane)).length) : wbLaneFail dir lane s =
      fault 1 (wbUnit dir lane) 0 (s.modWb dir (wbGroupOf lane) (fun x => { x with
        failed := x.failed ++ [lane], pendingRepair := x.pendingRepair ++ [lane] })) := by
  have carries : (!x.carries lane) = false := by rw [WbGroup.carries_iff.mpr hc]; rfl
  subst hx
  simp only [wbLaneFail, carries, Bool.false_eq_true, if_false]
  refine (if_pos hs).trans ?_
  exact congrArg _ (State.modWb_congr rfl)

/-- R502: beyond the repair lanes the group re-stripes. -/
theorem wbLaneFail_of_no_spare (hc : lane < 2048 ∨ lane ∈ x.repaired)
    (hs : ((x.lose lane).spares (wbGroupOf lane)).length ≤ x.pendingRepair.length) : wbLaneFail dir lane s =
      fault 2 (dir * 4096 + wbGroupOf lane) 0 (s.modWb dir (wbGroupOf lane) (fun x => { x with
        failed := x.failed ++ [lane], restriping := true })) := by
  have carries : (!x.carries lane) = false := by rw [WbGroup.carries_iff.mpr hc]; rfl
  subst hx
  simp only [wbLaneFail, carries, Bool.false_eq_true, if_false]
  refine (if_neg (Nat.not_lt.mpr hs)).trans ?_
  exact congrArg _ (State.modWb_congr rfl)

/-- A repair lane that carries nothing has nothing to be replaced. -/
theorem wbLaneFail_of_idle (hl : 2048 ≤ lane) (hr : lane ∉ x.repaired) : wbLaneFail dir lane s =
    endWindow 1 (wbUnit dir lane) (fault 1 (wbUnit dir lane) 0 (s.modWb dir (wbGroupOf lane) (fun x => { x with
      failed := x.failed ++ [lane] }))) := by
  have carries : (!x.carries lane) = true := by simp [WbGroup.carries, hr, hl]
  subst hx
  simp only [wbLaneFail, carries, if_true]
  exact congrArg _ (congrArg _ (State.modWb_congr rfl))

end Lane

/-- R502: a repair lane takes the failed lane's place, and the flits in flight are replayed. -/
theorem exec_wbLaneRepairDone_of_pending {lane : Nat} (hp : lane ∈ (s.wbGroup dir (wbGroupOf lane)).pendingRepair)
    (ht : s.recoveryTurn 1 (wbUnit dir lane) = true) : exec (.wbLaneRepairDone dir lane) s = .next (endWindow 1 (wbUnit dir lane)
      (wbReplay dir (wbGroupOf lane) (count Cn.fltWbLaneRepair (wbIndex dir (wbGroupOf lane)) 1 (s.modWb dir (wbGroupOf lane) (fun x => { x with
        pendingRepair := without x.pendingRepair lane, repaired := x.repaired ++ (x.spares (wbGroupOf lane)).take 1 }))))) := by
  show execWbLaneRepairDone dir lane s = _
  simp only [execWbLaneRepairDone, decide_eq_true hp, ht, Bool.and_self, when_true]
  exact congrArg (fun u => Host.Outcome.next (endWindow 1 (wbUnit dir lane) (wbReplay dir (wbGroupOf lane)
    (count Cn.fltWbLaneRepair (wbIndex dir (wbGroupOf lane)) 1 u)))) (State.modWb_congr rfl)

/-- R502: the group at its new width, its record marked where that is too little. -/
def restriped (dir g : Nat) (s : State) : State :=
  match (s.drawn.modWb dir g (fun x => { x with restriping := false, width := x.newWidth })).standing 2 (dir * 4096 + g) with
  | some r => (s.drawn.modWb dir g (fun x => { x with restriping := false, width := x.newWidth })).modRec r.id (fun r => { r with
      degraded := r.degraded || s.wbOver dir g (s.wbGroup dir g).newWidth })
  | none => s.drawn.modWb dir g (fun x => { x with restriping := false, width := x.newWidth })

theorem restriped_changes (dir g : Nat) (s : State) : Changes [.draws, .log]
    (s.modWb dir g (fun x => { x with restriping := false, width := x.newWidth })) (restriped dir g s) := by
  have drawn : Changes [.draws, .log] (s.modWb dir g (fun x => { x with restriping := false, width := x.newWidth }))
      (s.drawn.modWb dir g (fun x => { x with restriping := false, width := x.newWidth })) :=
    Changes.set_draws (t := s.modWb dir g (fun x => { x with restriping := false, width := x.newWidth })) Changes.rfl (by decide)
  unfold restriped
  split
  · exact drawn.trans ((State.modRec_changes ..).weaken (by decide))
  · exact drawn

theorem exec_wbRestripeDone_of_turn (hd : dir < 2) (hg : g < 8) (hr : (s.wbGroup dir g).restriping = true)
    (ht : s.recoveryTurn 2 (dir * 4096 + g) = true) : exec (.wbRestripeDone dir g) s =
      .next (endWindow 2 (dir * 4096 + g) (wbReplay dir g (restriped dir g s))) := by
  show execWbRestripeDone dir g s = _
  simp only [execWbRestripeDone, hr, hd, hg, and_self, decide_true, ht, Bool.and_self, when_true]
  rfl

end Bridge

section Other
variable {s : State}

/-! ### Table HBM -/

theorem exec_tblPcFail_of_good {stack pc : Nat} (h : s.tblPcGood stack pc = true) :
    exec (.tblPcFail stack pc) s = .next (tblPcFail stack pc s) := by
  show execTblPcFail stack pc s = _
  rw [execTblPcFail, h, when_true]

theorem exec_tblPcRecopyDone_of_turn {stack pc : Nat} (hf : s.hif.fwReady = true) (hc : stack * 32 + pc ∈ s.flt.tblPcCopying)
    (ht : s.recoveryTurn 9 (stack * 32 + pc) = true) : exec (.tblPcRecopyDone stack pc) s = .next (endWindow 9 (stack * 32 + pc)
      { s with flt := { s.flt with tblPcCopying := without s.flt.tblPcCopying (stack * 32 + pc) } }) := by
  show execTblPcRecopyDone stack pc s = _
  simp only [execTblPcRecopyDone, hf, decide_eq_true hc, ht, Bool.and_self, when_true]

/-! ### Mash pipes -/

theorem exec_mashPipeFault_of_used {pipe : Nat} (h : pipe ∈ s.dev.pipes) :
    exec (.mashPipeFault pipe) s = .next (pipeReset pipe (fault 12 pipe 0 s)) := by
  show execMashPipeFault pipe s = _
  rw [execMashPipeFault, decide_eq_true h, when_true]

/-- R503: of the device a pipe's reset changes the running block resets alone. -/
theorem pipeReset_dev (pipe : Nat) (s : State) : (pipeReset pipe s).dev = { s.dev with blockResets := addOnce s.dev.blockResets (1, pipe) } := by
  refine foldS_keeps State.dev _ (fun m x => ?_) _ _
  split
  · rfl
  · rfl

/-- R213: with no packet on its way in the pipe, none moves to another. -/
theorem pipeReset_mash_of_empty {pipe : Nat} (h : s.mash.pkts.all (fun m => !(m.stamp.isSome && m.verdict.isNone && m.pipe == pipe)) = true) :
    (pipeReset pipe s).mash = s.mash := by
  have none_ : s.mash.pkts.filter (fun m => m.stamp.isSome && m.verdict.isNone && m.pipe == pipe) = [] := by
    rw [List.filter_eq_nil_iff]
    exact fun m hm => Bool.eq_false_iff.mp ((Bool.not_eq_true' _).mp (List.all_eq_true.mp h m hm))
  simp only [pipeReset, none_]
  rfl

/-! ### The fault log -/

/-- R506: a HELD record closes a second after its last occurrence. -/
theorem exec_faultRecordClose_of_held {record : Nat} {r : FRec} (hr : s.flt.log.find? (fun r => r.id == record) = some r) (hst : r.st = 2)
    (hd : s.due (r.lastAt + Config.sec 1) = true) : exec (.faultRecordClose record) s = .next (s.modRec record (fun r => { r with st := 3 })) := by
  show execFaultRecordClose record s = _
  simp only [execFaultRecordClose, hr, hst, hd, BEq.rfl, Bool.and_self, when_true]

end Other

/-- Settles O15: each event acts under its guard; beside its group, its range or its pipe a fault touches the log and what reports it. -/
theorem faultEventsComplete : Obligations.FaultEventsComplete := by
  intro s
  refine ⟨fun dir g seq hd hg hup => ?flit, fun dir lane x hd hl hup hx hgood => ?lane, fun dir lane hp ht => ?repair,
    fun dir g hd hg hr ht => ?restripe, fun stack pc h => ⟨_, exec_tblPcFail_of_good h, (fault_changes ..)⟩,
    fun stack pc hf hc ht => ⟨_, exec_tblPcRecopyDone_of_turn hf hc ht, endWindow_changes ..⟩, fun pipe h => ?pipe,
    fun record r hr hst hd => exec_faultRecordClose_of_held hr hst hd⟩
  case flit =>
    refine ⟨fun hs => ?_, fun hs => ?_, fun ok hbad => ⟨fun hr => ?_, fun hr => ?_⟩⟩ <;> rw [exec_wbFlitReceive_of_up _ _ hd hg hup]
    · rw [flitIn, decide_eq_true hs]
      rfl
    · subst hs
      rw [flitIn, decide_eq_false (Nat.lt_irrefl _), BEq.rfl]
      rfl
    · rw [flitIn_of_missing hbad, if_pos hr]
    · rw [flitIn_of_missing hbad, if_neg (Bool.eq_false_iff.mp hr)]
  case lane =>
    refine ⟨_, exec_wbLaneFail_of_good hd hl hup (hx ▸ hgood), fun hc hs => ?_, fun hc hs => ?_, fun h hr => ?_⟩
    · rw [wbLaneFail_of_spare hx hc hs]
      exact fault_changes ..
    · rw [wbLaneFail_of_no_spare hx hc hs]
      exact fault_changes ..
    · rw [wbLaneFail_of_idle hx h hr]
      exact (fault_changes ..).via (endWindow_changes ..) (by decide)
  case repair =>
    refine ⟨_, exec_wbLaneRepairDone_of_pending hp ht, ?_⟩
    exact ((Changes.weaken (count_changes ..) (by decide)).via (wbReplay_changes ..) (by decide)).via (endWindow_changes ..) (by decide)
  case restripe =>
    refine ⟨_, exec_wbRestripeDone_of_turn hd hg hr ht, ?_⟩
    exact ((Changes.weaken (restriped_changes dir g s) (by decide)).via (wbReplay_changes ..) (by decide)).via (endWindow_changes ..) (by decide)
  case pipe =>
    have faulted := fault_changes 12 pipe 0 s
    have dev : (fault 12 pipe 0 s).dev = s.dev := faulted.same .dev (by decide)
    have mash : (fault 12 pipe 0 s).mash = s.mash := faulted.same .mash (by decide)
    refine ⟨_, exec_mashPipeFault_of_used h, rfl, by rw [pipeReset_dev, dev], ?_, fun hall => ?_⟩
    · exact (Changes.weaken faulted (by decide)).via (pipeReset_changes ..) (by decide)
    · rw [pipeReset_mash_of_empty (by rw [mash]; exact hall), mash]

end Sys2Proof.Machine
end

section
/-! SUPPORT. The commands of family VI (R419 to R422, R431, R437, R438, R443, R444, Tables VI-1, VI-3, VI-11). -/

namespace Sys2Proof.Machine

/-- A command whose body waits is parked with the state that its body leaves (R67). -/
theorem next_runCommand_of_waiting {op vi : Nat} {io : HostIo} {e : Entry} {s u : State} {body : Body} {x : Wait} {b : Bool}
    (h : starts op vi io e s = true) (hr : body vi e (taken vi s) = { st := u, wait := some (x, b) }) :
    (.next (runCommand op vi io body s) : Host.Outcome State Fault Refusal) = .next (park vi e io.writeOk { st := u } x b) := by
  rw [runCommand_starts body h, hr, completed_waits (w := x) (b := b) rfl]
  rfl

/-! ### Checks of an instance and of its grant -/

theorem viTarget_of_active {t : Nat} {s : State} (h0 : t ≠ 0) (h63 : t ≤ 63) (hst : (s.inst t).st = .active) : viTarget t s = none := by
  rw [viTarget, if_neg (by omega), hst]

/-- R420, R421, R444: a grant that no check refuses. -/
structure Grantable (t : Nat) (b : List Byte) (s : State) : Prop where
  formed : grantReserved b = false
  inRange : (parseGrant b).ok = true
  apart : (s.otherVis t).any (fun v => (parseGrant b).meets (s.inst v).grant) = false
  fits : s.poolBroken t (parseGrant b) = false

theorem grantRefusal_eq_none_iff {t : Nat} {b : List Byte} {s : State} : grantRefusal t b s = none ↔ Grantable t b s := by
  unfold grantRefusal
  dsimp only
  constructor
  · intro h
    by_cases formed : grantReserved b = true
    · rw [if_pos formed] at h; cases h
    by_cases inRange : (parseGrant b).ok = true
    swap
    · rw [if_neg formed, if_pos (by simp [inRange])] at h; cases h
    by_cases apart : (s.otherVis t).any (fun v => (parseGrant b).meets (s.inst v).grant) = true
    · rw [if_neg formed, if_neg (by simp [inRange]), if_pos apart] at h; cases h
    by_cases fits : s.poolBroken t (parseGrant b) = true
    · rw [if_neg formed, if_neg (by simp [inRange]), if_neg apart, if_pos fits] at h; cases h
    exact ⟨Bool.eq_false_iff.mpr formed, inRange, Bool.eq_false_iff.mpr apart, Bool.eq_false_iff.mpr fits⟩
  · rintro ⟨formed, inRange, apart, fits⟩
    simp only [formed, inRange, apart, fits, Bool.not_true, Bool.false_eq_true, if_false]

/-- What a grant is checked against is no part of the rings. -/
theorem grantRefusal_taken {t : Nat} {b : List Byte} {s : State} (vi : Nat) (h : grantRefusal t b s = none) :
    grantRefusal t b (taken vi s) = none := by
  obtain ⟨formed, inRange, apart, fits⟩ := grantRefusal_eq_none_iff.mp h
  exact grantRefusal_eq_none_iff.mpr ⟨formed, inRange, apart, fits⟩

section Vi
variable {vi : Nat} {e : Entry} {s : State}

/-! ### VI.CREATE and VI.MODIFY -/

/-- R419, Table VI-3: the instance epoch is kept from before. -/
theorem bodyViCreate_of_absent (h0 : e.p 24 1 ≠ 0) (h63 : e.p 24 1 ≤ 63) (hl : e.dataLen = 128) (hst : (s.inst (e.p 24 1)).st = .absent)
    (hg : grantRefusal (e.p 24 1) e.buf s = none) (ht : s.onTrial = false) : bodyViCreate vi e s = .ok (saveSettings { s with
      insts := mset s.insts (e.p 24 1) { st := .active, epoch := (s.inst (e.p 24 1)).epoch, grant := parseGrant e.buf } }) := by
  have inRange : ¬ (e.p 24 1 = 0 ∨ 63 < e.p 24 1) := by omega
  have absent : s.created (e.p 24 1) = false := by rw [State.created, hst]; rfl
  simp only [bodyViCreate, if_neg inRange, if_neg (not_not_intro hl), absent, Bool.false_eq_true, if_false, hg, storing_of_no_trial ht]
  rfl

/-- R422: a grant that leaves out nothing in use replaces the one before. -/
theorem bodyViModify_of_active (h0 : e.p 24 1 ≠ 0) (h63 : e.p 24 1 ≤ 63) (hl : e.dataLen = 128) (hst : (s.inst (e.p 24 1)).st = .active)
    (hg : grantRefusal (e.p 24 1) e.buf s = none) (hu : s.grantInUse (s.inst (e.p 24 1)).grant (parseGrant e.buf) = false)
    (ht : s.onTrial = false) : bodyViModify vi e s = .ok (saveSettings (poolUpkeep { s with
      insts := mset s.insts (e.p 24 1) { s.inst (e.p 24 1) with grant := parseGrant e.buf } })) := by
  simp only [bodyViModify, viTarget_of_active h0 h63 hst, if_neg (not_not_intro hl), hg, hu, Bool.false_eq_true, if_false,
    storing_of_no_trial ht]
  rfl

/-! ### VI.DESTROY and VI.RESET -/

/-- R438: the instance as its reset sequence begins. -/
def Inst.resetting (i : Inst) (flush destroying : Bool) (deadline : Nat) : Inst :=
  { i with
    st := .resetting, epoch := (i.epoch + 1) % 256, puntQ := i.puntQ.map (fun q => (q.1, q.2.disable)),
    injQ := i.injQ.map (fun q => (q.1, q.2.disable)), flush := flush, destroying := destroying, resetDeadline := deadline }

theorem startReset_inst_eq (t limit : Nat) (flush destroying : Bool) (s : State) : (startReset t limit flush destroying s).inst t =
    (s.inst t).resetting flush destroying (s.mono + Config.ms (if limit = 0 then 100 else limit)) := by
  have kept (u : State) (tbl : Tbl) : (capacityWarn { u with tbl := tbl }).inst t = u.inst t :=
    State.inst_of_insts (s := { u with tbl := tbl }) ((capacityWarn_changes _).same .insts (by decide)) t
  rw [startReset, kept, State.modInst_inst]
  rfl

/-- R422, R431: the command waits for the end of the reset sequence. -/
theorem bodyViDestroy_of_active (h0 : e.p 24 1 ≠ 0) (h63 : e.p 24 1 ≤ 63) (hst : (s.inst (e.p 24 1)).st = .active)
    (hlimit : e.p 26 2 ≤ 10000) (hu : s.grantInUse (s.inst (e.p 24 1)).grant {} = false) (ht : s.onTrial = false) :
    bodyViDestroy vi e s = { st := startReset (e.p 24 1) (e.p 26 2) true true s, wait := some (.drain (e.p 24 1), false) } := by
  simp only [bodyViDestroy, viTarget_of_active h0 h63 hst, if_neg (Nat.not_lt.mpr hlimit), hu, ht, Bool.false_eq_true, if_false]

theorem bodyViReset_of_active (h0 : e.p 24 1 ≠ 0) (h63 : e.p 24 1 ≤ 63) (hst : (s.inst (e.p 24 1)).st = .active)
    (hlimit : e.p 26 2 ≤ 10000) : bodyViReset vi e s =
      { st := startReset (e.p 24 1) (e.p 26 2) (bit (e.p 25 1) 0) false s, wait := some (.drain (e.p 24 1), false) } := by
  simp only [bodyViReset, viTarget_of_active h0 h63 hst, if_neg (Nat.not_lt.mpr hlimit)]

/-! ### VI.QUEUE -/

/-- R437: the instance with the map of classes to queues that the command brings, if it brings one. -/
def mapped (e : Entry) (s : State) : State :=
  if bit (e.p 29 1) 0 then s.modInst (e.p 24 1) (fun i => { i with tcMap := (bytesAt e.raw 40 8).map (fun x => x.toNat) }) else s

theorem mapped_injQueueOf (e : Entry) (s : State) (q : Nat) : (mapped e s).injQueueOf (e.p 24 1) q = s.injQueueOf (e.p 24 1) q := by
  unfold mapped
  split
  · rw [State.injQueueOf, State.modInst_inst, State.injQueueOf]
  · rfl

/-- The ring that the command enables. -/
def queueOn (e : Entry) : VQueue := { enabled := true, base := e.p 32 8, log2 := e.p 28 1 }

/-- R437, R443, R444: what VI.QUEUE asks of its fields: a queue of the grant, a ring in range if it is to be enabled, whatever its fields hold
otherwise (assumption log entry 89), and a map of classes to queues that exist if it brings one. -/
structure QueueSound (vi : Nat) (e : Entry) (s : State) (dir op : Nat) : Prop where
  inRange : e.p 24 1 ≤ 63
  permitted : vi = 0 ∨ vi = e.p 24 1
  created : s.created (e.p 24 1) = true
  settled : (s.inst (e.p 24 1)).st ≠ .resetting
  dir_eq : e.p 25 1 = dir
  op_eq : e.p 27 1 = op
  granted : e.p 26 1 < s.queueCount (e.p 24 1) dir
  ring : op = 1 → 4 ≤ e.p 28 1 ∧ e.p 28 1 ≤ 12 ∧ e.p 32 8 % 4096 = 0
  map : bit (e.p 29 1) 0 = true → ∀ x, x ∈ bytesAt e.raw 40 8 → x.toNat ≤ 7

theorem QueueSound.no_fault {dir op : Nat} (h : QueueSound vi e s dir op) :
    ¬ (s.queueCount (e.p 24 1) dir ≤ e.p 26 1 ∨ (op = 1 ∧ (e.p 28 1 < 4 ∨ 12 < e.p 28 1 ∨ e.p 32 8 % 4096 ≠ 0))
      ∨ (bit (e.p 29 1) 0 = true ∧ ((bytesAt e.raw 40 8).map (fun x => x.toNat)).any (fun x => decide (7 < x)) = true)) := by
  rintro (hq | ⟨hop, hr⟩ | ⟨hb, hm⟩)
  · exact absurd h.granted (Nat.not_lt.mpr hq)
  · obtain ⟨lo, hi, aligned⟩ := h.ring hop
    omega
  · obtain ⟨n, hn, h7⟩ := List.any_eq_true.mp hm
    obtain ⟨x, hx, rfl⟩ := List.mem_map.mp hn
    exact absurd (of_decide_eq_true h7) (Nat.not_lt.mpr (h.map hb x hx))

section Queue
variable {dir op : Nat}

theorem bodyViQueue_of_sound (h : QueueSound vi e s dir op) (hdir : dir ≤ 1) (hop : op = 1 ∨ op = 2) : bodyViQueue vi e s =
    if dir = 0 then .ok ((mapped e s).modPuntQ (e.p 24 1) (e.p 26 1) (fun x => if op = 1 then queueOn e else x.disable))
    else if op = 1 then .ok ((mapped e s).modInjQ (e.p 24 1) (e.p 26 1) (fun x => { queueOn e with fetched := x.fetched }))
    else if (!((mapped e s).injQueueOf (e.p 24 1) (e.p 26 1)).fetched.isEmpty) = true
      then { st := (mapped e s).modInjQ (e.p 24 1) (e.p 26 1) VQueue.disable, wait := some (.injectReads (e.p 24 1) (e.p 26 1), false) }
      else .ok ((mapped e s).modInjQ (e.p 24 1) (e.p 26 1) VQueue.disable) := by
  have permitted : ¬ (vi ≠ 0 ∧ vi ≠ e.p 24 1) := fun hne => h.permitted.elim hne.1 hne.2
  have known : ¬ (1 < dir ∨ op = 0 ∨ 2 < op) := by omega
  have sound := h.no_fault
  obtain ⟨h63, -, hc, hst, rfl, rfl, -, -, -⟩ := h
  simp only [bodyViQueue, if_neg (Nat.not_lt.mpr h63), if_neg permitted, hc, Bool.not_true, Bool.false_eq_true, if_false, if_neg hst,
    if_neg known, if_neg sound]
  rfl

theorem bodyViQueue_of_punt_on (h : QueueSound vi e s 0 1) :
    bodyViQueue vi e s = .ok ((mapped e s).modPuntQ (e.p 24 1) (e.p 26 1) (fun _ => queueOn e)) :=
  (bodyViQueue_of_sound h (by decide) (.inl rfl)).trans (if_pos rfl)

theorem bodyViQueue_of_punt_off (h : QueueSound vi e s 0 2) :
    bodyViQueue vi e s = .ok ((mapped e s).modPuntQ (e.p 24 1) (e.p 26 1) VQueue.disable) :=
  (bodyViQueue_of_sound h (by decide) (.inr rfl)).trans (if_pos rfl)

theorem bodyViQueue_of_inject_on (h : QueueSound vi e s 1 1) :
    bodyViQueue vi e s = .ok ((mapped e s).modInjQ (e.p 24 1) (e.p 26 1) (fun x => { queueOn e with fetched := x.fetched })) :=
  (bodyViQueue_of_sound h (by decide) (.inl rfl)).trans ((if_neg (by decide)).trans (if_pos rfl))

/-- R433: reads already issued end before the command does. -/
theorem bodyViQueue_of_inject_off (h : QueueSound vi e s 1 2) : bodyViQueue vi e s =
    if (s.injQueueOf (e.p 24 1) (e.p 26 1)).fetched = [] then .ok ((mapped e s).modInjQ (e.p 24 1) (e.p 26 1) VQueue.disable)
    else { st := (mapped e s).modInjQ (e.p 24 1) (e.p 26 1) VQueue.disable, wait := some (.injectReads (e.p 24 1) (e.p 26 1), false) } := by
  refine (bodyViQueue_of_sound h (by decide) (.inr rfl)).trans ((if_neg (by decide)).trans ((if_neg (by decide)).trans ?_))
  rw [mapped_injQueueOf]
  cases (s.injQueueOf (e.p 24 1) (e.p 26 1)).fetched <;> rfl

end Queue

/-! ### VI.STATUS -/

/-- Table VI-11: 32 bytes, which begin with the instance's state and epoch. -/
theorem bodyViStatus_answers (h63 : e.p 24 1 ≤ 63) (hmay : vi = 0 ∨ vi = e.p 24 1) (hc : s.created (e.p 24 1) = true) :
    ∃ d, bodyViStatus vi e s = .read s [] d ∧ d.length = 32 ∧ (putLe 1 (s.inst (e.p 24 1)).st.code ++ putLe 1 (s.inst (e.p 24 1)).epoch) <+: d := by
  have permitted : ¬ (vi ≠ 0 ∧ vi ≠ e.p 24 1) := by omega
  simp only [bodyViStatus, if_neg (Nat.not_lt.mpr h63), if_neg permitted, hc, Bool.not_true, Bool.false_eq_true, if_false]
  refine ⟨_, rfl, by simp only [List.length_append, putLe_length, zeros, List.length_replicate], ?_⟩
  iterate 5 refine List.IsPrefix.trans ?_ (List.prefix_append ..)
  exact List.prefix_rfl

end Vi

/-- Settles O46: each command is completed with what its body gives under the clause's conditions, or parked until its instance is drained. -/
theorem viCommandsComplete : Obligations.ViCommandsComplete := by
  intro vi t io e s ht
  subst ht
  have unmapped (hmap : bit (e.p 29 1) 0 = false) : mapped e (taken vi s) = taken vi s := if_neg (Bool.eq_false_iff.mp hmap)
  refine ⟨fun h h0 h63 hl hst hg htrial => next_runCommand_of_body h
      (bodyViCreate_of_absent (s := taken vi s) h0 h63 hl hst (grantRefusal_taken vi hg) htrial),
    fun h h0 h63 hl hst hg hu htrial => next_runCommand_of_body h
      (bodyViModify_of_active (s := taken vi s) h0 h63 hl hst (grantRefusal_taken vi hg) hu htrial),
    fun h h0 h63 hst hlimit hu htrial => ?destroy, fun h h0 h63 hst hlimit => ?reset,
    fun h h63 hmay hc hst hdir hop hcount hk1 hk2 hbase hmap => ?on, fun h h63 hmay hc hst hdir hop hcount hmap hf => ?off,
    fun q u on h h63 hmay hc hst hq hmap hu hon => ?queue, fun h h63 hmay hc => ?status⟩
  case destroy =>
    have body := bodyViDestroy_of_active (vi := vi) (s := taken vi s) h0 h63 hst hlimit hu htrial
    refine ⟨_, next_runCommand_of_waiting h body, ?_, ?_, ?_, startReset_changes ..⟩ <;>
      rw [startReset_inst_eq] <;> rfl
  case reset =>
    have body := bodyViReset_of_active (vi := vi) (s := taken vi s) h0 h63 hst hlimit
    refine ⟨_, next_runCommand_of_waiting h body, ?_, ?_, ?_, ?_, startReset_changes ..⟩ <;>
      rw [startReset_inst_eq] <;> rfl
  case on =>
    have sound : QueueSound vi e (taken vi s) 0 1 := ⟨h63, hmay, hc, hst, hdir, hop, hcount, fun _ => ⟨hk1, hk2, hbase⟩, (absurd · (Bool.eq_false_iff.mp hmap))⟩
    exact next_runCommand_of_body h ((bodyViQueue_of_punt_on sound).trans (by rw [unmapped hmap]; rfl))
  case off =>
    have sound : QueueSound vi e (taken vi s) 1 2 := ⟨h63, hmay, hc, hst, hdir, hop, hcount, (absurd · (by decide)), (absurd · (Bool.eq_false_iff.mp hmap))⟩
    exact next_runCommand_of_body h ((bodyViQueue_of_inject_off sound).trans ((if_pos hf).trans (by rw [unmapped hmap])))
  case queue =>
    subst hq hu hon
    refine ⟨fun hop hk1 hk2 hbase => ⟨fun hdir hcount => ?_, fun hdir hcount => ?_⟩,
      fun hop => ⟨fun hdir hcount => ?_, fun hdir hcount hf => ?_, fun hdir hcount hf => ?_⟩⟩
    · exact next_runCommand_of_body h (bodyViQueue_of_punt_on (s := taken vi s)
        ⟨h63, hmay, hc, hst, hdir, hop, hcount, fun _ => ⟨hk1, hk2, hbase⟩, hmap⟩)
    · exact next_runCommand_of_body h (bodyViQueue_of_inject_on (s := taken vi s)
        ⟨h63, hmay, hc, hst, hdir, hop, hcount, fun _ => ⟨hk1, hk2, hbase⟩, hmap⟩)
    · exact next_runCommand_of_body h (bodyViQueue_of_punt_off (s := taken vi s)
        ⟨h63, hmay, hc, hst, hdir, hop, hcount, (absurd · (by decide)), hmap⟩)
    · exact next_runCommand_of_body h ((bodyViQueue_of_inject_off (s := taken vi s)
        ⟨h63, hmay, hc, hst, hdir, hop, hcount, (absurd · (by decide)), hmap⟩).trans (if_pos hf))
    · exact next_runCommand_of_body h ((bodyViQueue_of_inject_off (s := taken vi s)
        ⟨h63, hmay, hc, hst, hdir, hop, hcount, (absurd · (by decide)), hmap⟩).trans (if_neg hf))
  case status =>
    obtain ⟨d, hd, hbytes, hstart⟩ := bodyViStatus_answers (s := taken vi s) h63 hmay hc
    exact ⟨d, next_runCommand_of_body h hd, hbytes, hstart⟩

end Sys2Proof.Machine
end

section
/-! SUPPORT. Power domains, the reference clock, rails, temperatures and pins (R530, R534–R539, R548). -/

namespace Sys2Proof.Machine

variable {s : State}

/-! ### A domain whose power is good -/

theorem nextStep_of_ne_eight (h : s.dev.step ≠ 8) : nextStep s = s := if_neg fun k => h k.1

theorem tryCellar_of_ne_seven (h : s.dev.step ≠ 7) : tryCellar s = s := if_neg fun k => h k.1

theorem allOn_of_pwr {s t : State} (h : t.pwr = s.pwr) (l : List Nat) : t.allOn l = s.allOn l := by
  rw [State.allOn, State.allOn, show t.domOn = s.domOn from funext fun pd => by rw [State.domOn, State.domOn, h]]

/-- Step 3 of Table BU-1: ROM starts and the flash runs at 8D-8D-8D (R543). -/
theorem afterPower_of_step_two (pd : Nat) (h : s.dev.step = 2) (hon : s.allOn [1, 2, 3] = true) :
    (afterPower pd s).dev = { s.dev with step := 3, boot := 1, kilnFailed := [] } ∧ (afterPower pd s).pwr.xspiOctal = true := by
  rw [afterPower, if_pos ⟨h, hon⟩]
  exact ⟨rfl, rfl⟩

/-- Step 5 of Table BU-1: the blocks run the microcode of the running slot. -/
theorem afterPower_of_step_four (pd : Nat) (h : s.dev.step = 4) (hon : s.allOn [4, 5, 6, 7, 8] = true) :
    (afterPower pd s).dev = { s.dev with step := 5 } ∧ (afterPower pd s).upd = { s.upd with microcode := s.upd.running } := by
  rw [afterPower, if_neg fun k => absurd k.1 (by omega), if_pos ⟨h, hon⟩]
  exact ⟨rfl, rfl⟩

/-- Outside the steps of Table BU-1 that wait for domains, power that is good does no more than carry an ASA bank. -/
theorem afterPower_of_idle_step (pd : Nat) (h : s.dev.step = 0 ∨ s.dev.step = 9) : afterPower pd s =
    if 15 ≤ pd ∧ pd ≤ 22 ∧ (s.bank (pd - 15)).st = .off then s.modBank (pd - 15) (fun x => { x with st := .on }) else s := by
  have idle (t : State) (ht : t.dev = s.dev) : nextStep (tryCellar t) = t := by
    have hs : t.dev.step = 0 ∨ t.dev.step = 9 := by rwa [ht]
    rw [tryCellar_of_ne_seven (by omega), nextStep_of_ne_eight (by omega)]
  rw [afterPower, if_neg fun k => absurd k.1 (by omega), if_neg fun k => absurd k.1 (by omega)]
  exact idle _ (by split <;> rfl)

theorem domainPowerGood_of_ramping {pd : Nat} (h : mgetD s.pwr.domains pd .off = .ramping) :
    exec (.domainPowerGood pd) s = .next (afterPower pd (domainEvent pd true (rampNext 64 (s.setDom pd .on)))) := by
  show execDomainPowerGood pd s = _
  simp only [execDomainPowerGood, h, beq_self_eq_true, when_true]

/-! ### Domain faults (R536) -/

/-- A fault of an always-on domain: PWRFAULT_N and a cold reset that holds. -/
theorem domainFault_of_always_on {pd cause : Nat} (lo : 1 ≤ pd) (hi : pd ≤ 8)
    (h : cause = 1 ∧ mgetD s.pwr.domains pd .off = .ramping ∨ cause = 2 ∧ mgetD s.pwr.domains pd .off = .on) :
    ∃ t, exec (.domainFault pd cause) s = .next t ∧ t.pwr.pwrfault = true ∧ t.dev.locked = true ∧ t.dev.step = 0 ∧ t.hif = {} := by
  have range : 1 ≤ pd ∧ pd ≤ 55 := by omega
  refine ⟨{ coldLocked s with pwr := { (coldLocked s).pwr with pwrfault := true } }, ?_, rfl, rfl, rfl, rfl⟩
  show execDomainFault pd cause s = _
  rcases h with ⟨rfl, h⟩ | ⟨rfl, h⟩ <;> simp [execDomainFault, h, range, hi]

/-- R536: the event and the count of a domain that faults. -/
def domainFaulted (pd cause : Nat) (s : State) : State :=
  count Cn.pwrDomainFault 0 1 (notify Ev.pwrDomainFault (putLe 1 pd ++ putLe 1 cause) [] (rampNext 64 (s.setDom pd .fault)))

theorem domainFaulted_changes (pd cause : Nat) (s : State) :
    Changes [.rings, .cnt, .out] (rampNext 64 (s.setDom pd .fault)) (domainFaulted pd cause s) :=
  (notify_changes ..).trans (count_changes ..)

theorem domainFaulted_mono (pd cause : Nat) (s : State) : (domainFaulted pd cause s).mono = s.mono :=
  (show _ = _ from (domainFaulted_changes pd cause s).same .mono (by decide)).trans ((rampNext_changes 64 (s.setDom pd .fault)).same .mono (by decide))

/-- R536: when firmware powers a domain again. -/
def retriedAt (pd at_ : Nat) (s : State) : State := { s with pwr := { s.pwr with retryAt := mset s.pwr.retryAt pd at_ } }

theorem domainFault_of_switched {pd cause : Nat} (lo : 9 ≤ pd) (hi : pd ≤ 55)
    (h : cause = 1 ∧ mgetD s.pwr.domains pd .off = .ramping ∨ cause = 2 ∧ mgetD s.pwr.domains pd .off = .on) :
    exec (.domainFault pd cause) s = .next (completeWaiting (fun p => p.wait == .domainOn pd) [] (nextStep (domainLost pd
      (if 23 ≤ pd then retriedAt pd (s.mono + Config.sec 10) (domainFaulted pd cause s) else domainFaulted pd cause s)))) := by
  have range : 1 ≤ pd ∧ pd ≤ 55 := by omega
  have switched : ¬ pd ≤ 8 := by omega
  rw [← domainFaulted_mono pd cause s]
  show execDomainFault pd cause s = _
  rcases h with ⟨rfl, h⟩ | ⟨rfl, h⟩ <;> simp [execDomainFault, domainFaulted, retriedAt, h, range, switched]

/-- Table PH-4: an ASA bank outside Cellar and full mode fails, and no more. -/
theorem domainLost_of_bank {pd : Nat} (lo : 15 ≤ pd) (hi : pd ≤ 22) (hc : s.dev.phase ≠ .cellar) (hf : s.dev.phase ≠ .full) :
    domainLost pd s = fault 11 (pd - 15) 0 (s.modBank (pd - 15) (fun x => { x with st := .failed, cause := 0 })) := by
  have phase : (fault 11 (pd - 15) 0 (s.modBank (pd - 15) (fun x => { x with st := .failed, cause := 0 }))).dev = s.dev :=
    (fault_changes ..).same .dev (by decide)
  have noHbm : ¬ pd ≤ 14 := by omega
  simp only [domainLost, if_neg noHbm, if_pos hi, phase, hc, hf, or_self, if_false]

/-- R536: firmware powers a domain again when its 10 s are over. -/
theorem domainRetry_of_due {pd at_ : Nat} (hr : mget s.pwr.retryAt pd = some at_) (ht : at_ ≤ s.mono) (hw : s.hif.fwReady = true)
    (hd : mgetD s.pwr.domains pd .off = .fault) : exec (.domainRetry pd) s =
      .next (powerOn pd (({ s with pwr := { s.pwr with retryAt := mdel s.pwr.retryAt pd } }).setDom pd .off)) := by
  show execDomainRetry pd s = _
  simp [execDomainRetry, hr, State.due, ht, hw, hd]

/-! ### The reference clock (R530) -/

theorem refclkLoss_of_present (hl : s.pwr.rootLocked = true) (h : s.pwr.ref = .locked ∨ s.pwr.ref = .relocking) :
    exec .refclkLoss s = .next (count Cn.pwrRefLost 0 1 (setRef .holdover 2 { s with pwr := { s.pwr with refAt := s.mono } })) := by
  show execRefclkLoss s = _
  rcases h with h | h <;> simp [execRefclkLoss, hl, h]

theorem refclkRelock_of_back {inRange : Bool} (h : s.pwr.ref = .holdover ∨ s.pwr.ref = .outOfRange)
    (hd : s.due (s.pwr.refAt + Config.ms 10) = true) : exec (.refclkRelock inRange) s = .next
      (if inRange then { s with pwr := { s.pwr with ref := .relocking } }
       else if s.pwr.ref = .outOfRange then s else setRef .outOfRange 0 s) := by
  show execRefclkRelock inRange s = _
  rcases h with h | h <;> simp [execRefclkRelock, hd, h]

/-- A clock out of range that is still out of range changes nothing, whether its 10 ms are over or not. -/
theorem refclkRelock_false_of_outOfRange (h : s.pwr.ref = .outOfRange) : exec (.refclkRelock false) s = .next s := by
  show execRefclkRelock false s = _
  cases hd : s.due (s.pwr.refAt + Config.ms 10) <;> simp [execRefclkRelock, hd, h]

/-! ### Rails and temperatures (R534, R537–R539) -/

theorem railUndervoltage_of_running {rail : Nat} (hr : rail < 15) (hs : s.dev.inReset = false) : exec (.railUndervoltage rail) s =
    .next { coldLocked s with pwr := { (coldLocked s).pwr with pwrfault := true } } := by
  show execRailUndervoltage rail s = _
  simp [execRailUndervoltage, hr, hs]

theorem thermalTrip_of_running (hs : s.dev.inReset = false) : exec .thermalTrip s =
    .next { coldLocked s with pwr := { (coldLocked s).pwr with thermtrip := true } } := by
  show execThermalTrip s = _
  simp [execThermalTrip, hs]

theorem thermalStateEnter_of_hotter {source : Nat} {temp : Int} (hs : source < 2) (ht : s.pwr.thermal < thermalFor temp)
    (hl : s.pwr.rootLocked = true) : exec (.thermalStateEnter source temp) s =
      .next (count (if thermalFor temp = 2 then Cn.pwrThermCrit else Cn.pwrThermWarn) 0 1 (setThermal (thermalFor temp) source temp s)) := by
  show execThermalStateEnter source temp s = _
  simp [execThermalStateEnter, hs, ht, hl]

/-- A hotter state begins now. -/
theorem setThermal_of_hotter {st source : Nat} {temp : Int} (h : s.pwr.thermal < st) : Changes [.rings, .cnt, .out]
    { s with pwr := { s.pwr with thermal := st, thermalAt := s.mono } } (setThermal st source temp s) := by
  simp only [setThermal, if_pos h]
  exact thermalEvent_changes ..

/-- A cooler state leaves the instant of the last hotter one. -/
theorem setThermal_of_cooler {st source : Nat} {temp : Int} (h : st ≤ s.pwr.thermal) : Changes [.rings, .cnt, .out]
    { s with pwr := { s.pwr with thermal := st } } (setThermal st source temp s) := by
  simp only [setThermal, if_neg (Nat.not_lt.mpr h)]
  exact thermalEvent_changes ..

/-- WARN ends in NORMAL; CRIT ends in WARN or, when the temperature is low enough for it, in NORMAL. -/
def thermalLeft (st : Nat) (temp : Int) : Nat := if st = 2 ∧ thermalEntry 1 - 30 < temp then 1 else 0

theorem thermalLeft_le {st : Nat} (temp : Int) : thermalLeft st temp ≤ st := by
  unfold thermalLeft; split <;> omega

theorem thermalStateLeave_of_cool {source : Nat} {temp : Int} (hs : source < 2) (hn : s.pwr.thermal ≠ 0)
    (ht : temp ≤ thermalEntry s.pwr.thermal - 30) (hd : s.due (s.pwr.thermalAt + Config.ms 10) = true) :
    exec (.thermalStateLeave source temp) s = .next (setThermal (thermalLeft s.pwr.thermal temp) source temp s) := by
  show execThermalStateLeave source temp s = _
  have guard : decide (source < 2 ∧ s.pwr.thermal ≠ 0 ∧ temp ≤ thermalEntry s.pwr.thermal - 30) = true := decide_eq_true ⟨hs, hn, ht⟩
  simp only [execThermalStateLeave, guard, hd, Bool.and_self, when_true, thermalLeft]

/-- R539: the refresh rate and the warning that a stack's temperature gives. -/
def hbmHeat (stack : Nat) (temp : Int) (s : State) : State := { s with pwr := { s.pwr with
  refresh2x := if 850 ≤ temp then addOnce s.pwr.refresh2x stack else without s.pwr.refresh2x stack,
  hbmWarned := if decide (950 ≤ temp) then addOnce s.pwr.hbmWarned stack else without s.pwr.hbmWarned stack } }

theorem hbmHeat_of_warm {temp : Int} (stack : Nat) (s : State) (h : 950 ≤ temp) : hbmHeat stack temp s = { s with pwr := { s.pwr with
    refresh2x := addOnce s.pwr.refresh2x stack, hbmWarned := addOnce s.pwr.hbmWarned stack } } := by
  simp only [hbmHeat, if_pos (show 850 ≤ temp by omega), decide_eq_true h, if_true]

/-- The event of 95 °C, once. -/
def hbmWarning (stack : Nat) (temp : Int) (s : State) : State :=
  if decide (950 ≤ temp) && decide (stack ∉ s.pwr.hbmWarned) then thermalEvent 1 0 2 (2 + stack) temp (hbmHeat stack temp s) else hbmHeat stack temp s

theorem hbmWarning_changes (stack : Nat) (temp : Int) (s : State) :
    Changes [.rings, .cnt, .out] (hbmHeat stack temp s) (hbmWarning stack temp s) :=
  Changes.ite (thermalEvent_changes ..) Changes.rfl

theorem hbmThermal_of_on {stack : Nat} {temp : Int} (hs : stack < 6) (hd : s.domOn (9 + stack) = true) :
    exec (.hbmThermal stack temp) s = .next
      (if 1050 ≤ temp ∧ stack ∈ (if stack < 2 then s.dev.hbmUp else s.bufStacks) then hbmStackOut stack (hbmWarning stack temp s)
       else hbmWarning stack temp s) := by
  have guard : (decide (stack < 6) && s.domOn (9 + stack)) = true := by simp [hs, hd]
  have dev : (hbmWarning stack temp s).dev = s.dev := (hbmWarning_changes stack temp s).same .dev (by decide)
  have adm : (hbmWarning stack temp s).adm = s.adm := (hbmWarning_changes stack temp s).same .adm (by decide)
  have buffers : (hbmWarning stack temp s).bufStacks = s.bufStacks := by simp only [State.bufStacks, dev, adm]
  have run : execHbmThermal stack temp s = .next (when true s
      (if (decide (1050 ≤ temp) && (if stack < 2 then decide (stack ∈ (hbmWarning stack temp s).dev.hbmUp)
          else decide (stack ∈ (hbmWarning stack temp s).bufStacks))) = true
        then hbmStackOut stack (hbmWarning stack temp s) else hbmWarning stack temp s)) :=
    congrArg (fun b => Host.Outcome.next (when b s _)) guard
  refine run.trans ?_
  rw [dev, buffers, when_true]
  split <;> simp

/-! ### Pins (R548) -/

theorem gpioEdge_changes {pin : Nat} {level : Bool} (hp : pin < 16) (hl : s.gpioExt pin ≠ level) : ∃ t, exec (.gpioEdge pin level) s = .next t
    ∧ Changes [.rings, .cnt, .out] { s with pwr := { s.pwr with
        gpioIn := mset s.pwr.gpioIn pin level, gpioAt := mset s.pwr.gpioAt pin s.mono } } t := by
  have guard : (decide (pin < 16) && s.gpioExt pin != level) = true := by simp [hp, hl]
  refine ⟨_, congrArg Host.Outcome.next ((congrArg (when · s _) guard).trans (when_true ..)), ?_⟩
  exact Changes.ite (notify_changes ..) Changes.rfl

/-- Settles O13: each event has the effect of its lemma above; the parts that may change are those of its report. -/
theorem powerAndThermalEventsComplete : Obligations.PowerAndThermalEventsComplete := by
  intro s
  refine ⟨fun pd u hr hu => ?good, fun pd lo hi hd => ?dropped, fun pd lo hi hd => ?unramped, fun pd cause u lo hi hd hu => ?fault,
    fun pd lo hi hd hc hf h8 => ?bank, fun pd at_ hr ht hw hd => domainRetry_of_due hr ht hw hd, fun hl h => ?loss, fun h hd => ?relock,
    fun h hd => ?range, refclkRelock_false_of_outOfRange, fun h => ?done, fun rail hr hs => ?rail, fun source temp hs ht hl => ?enter,
    fun source temp hs hn ht hd => ?leave, fun hs => ?trip, fun stack temp hs hd => ?hbm, fun pin level hp hl => gpioEdge_changes hp hl⟩
  case good =>
    subst hu
    have run := domainPowerGood_of_ramping hr
    have ramped : Changes [.pwr] s (rampNext 64 (s.setDom pd .on)) := (Changes.set_pwr Changes.rfl (by decide)).trans (rampNext_changes ..)
    have told := domainEvent_changes pd true (rampNext 64 (s.setDom pd .on))
    generalize rampNext 64 (s.setDom pd .on) = u at run ramped told ⊢
    generalize domainEvent pd true u = v at run told
    have dev : v.dev = s.dev := (show _ = _ from told.same .dev (by decide)).trans (ramped.same .dev (by decide))
    have upd : v.upd = s.upd := (show _ = _ from told.same .upd (by decide)).trans (ramped.same .upd (by decide))
    have asa : v.asa = s.asa := (show _ = _ from told.same .asa (by decide)).trans (ramped.same .asa (by decide))
    have on := allOn_of_pwr (told.same .pwr (by decide))
    refine ⟨_, run, fun h hon => ?_, fun h hon => ?_, fun idle hpd => ?_, fun idle lo hi hoff => ?_⟩
    · have two := afterPower_of_step_two pd (s := v) (by rw [dev, h]) (by rw [on, hon])
      rwa [dev] at two
    · have four := afterPower_of_step_four pd (s := v) (by rw [dev, h]) (by rw [on, hon])
      rwa [dev, upd] at four
    · rw [afterPower_of_idle_step pd (by rwa [dev]), if_neg (by omega)]
      exact told
    · rw [afterPower_of_idle_step pd (by rwa [dev]), if_pos ⟨lo, hi, by rwa [State.bank_of_asa asa]⟩, State.modBank_bank]
  case dropped => exact domainFault_of_always_on lo hi (.inr ⟨rfl, domOn_iff.mp hd⟩)
  case unramped => exact domainFault_of_always_on lo hi (.inl ⟨rfl, hd⟩)
  case fault =>
    obtain rfl : u = domainFaulted pd cause s := hu
    exact ⟨fun h => by rw [domainFault_of_switched lo hi hd, if_neg (Nat.not_le.mpr h)],
      fun h => (domainFault_of_switched lo hi hd).trans (by rw [if_pos h, retriedAt])⟩
  case bank =>
    have switched := domainFault_of_switched (s := s) (pd := pd) (by omega) (by omega) (.inl ⟨rfl, hd⟩)
    rw [if_neg (by omega)] at switched
    have told := domainFaulted_changes pd 1 s
    have ramped : Changes [.pwr] s (rampNext 64 (s.setDom pd .fault)) := (Changes.set_pwr Changes.rfl (by decide)).trans (rampNext_changes ..)
    have dev : (domainFaulted pd 1 s).dev = s.dev := (show _ = _ from told.same .dev (by decide)).trans (ramped.same .dev (by decide))
    rw [domainLost_of_bank lo hi (by rwa [dev]) (by rwa [dev])] at switched
    have lost := fault_changes 11 (pd - 15) 0 ((domainFaulted pd 1 s).modBank (pd - 15) (fun x => { x with st := .failed, cause := 0 }))
    generalize fault 11 (pd - 15) 0 _ = u at switched lost
    have devLost : u.dev = (domainFaulted pd 1 s).dev := lost.same .dev (by decide)
    rw [nextStep_of_ne_eight (by rwa [devLost, dev])] at switched
    have ended := completeWaiting_changes (fun p => p.wait == .domainOn pd) [] u
    refine ⟨_, switched, ?_, ?_⟩
    · exact ((show _ = _ from ended.same .pwr (by decide)).trans (lost.same .pwr (by decide))).trans (told.same .pwr (by decide))
    · rw [State.bank_of_asa (ended.same .asa (by decide)), State.bank_of_asa (lost.same .asa (by decide)), State.modBank_bank]
  case loss => exact ⟨_, refclkLoss_of_present hl h, (notify_changes ..).trans (count_changes ..)⟩
  case relock => rw [refclkRelock_of_back h hd, if_pos rfl]
  case range =>
    refine ⟨_, refclkRelock_of_back (.inl h) hd, ?_⟩
    rw [if_neg Bool.false_ne_true, if_neg (by simp [h])]
    exact notify_changes ..
  case done =>
    refine ⟨_, congrArg Host.Outcome.next (congrArg (when · s (setRef .locked 0 s)) (beq_iff_eq.mpr h)), ?_⟩
    exact notify_changes ..
  case rail => exact ⟨_, railUndervoltage_of_running hr hs, rfl, rfl, rfl, rfl⟩
  case enter => exact ⟨_, thermalStateEnter_of_hotter hs ht hl, (setThermal_of_hotter ht).trans (count_changes ..)⟩
  case leave => exact ⟨_, thermalStateLeave_of_cool hs hn ht hd, setThermal_of_cooler (thermalLeft_le temp)⟩
  case trip => exact ⟨_, thermalTrip_of_running hs, rfl, rfl, rfl⟩
  case hbm =>
    refine ⟨fun h => ?_, fun lo h => ?_, fun lo h => ?_, fun lo hw hlive => ?_⟩
    · rw [hbmThermal_of_on hs hd, if_neg (by omega)]
      simp [hbmWarning, hbmHeat, show ¬ 950 ≤ temp by omega, show ¬ 850 ≤ temp by omega]
    · rw [hbmThermal_of_on hs hd, if_neg (by omega)]
      simp [hbmWarning, hbmHeat, show ¬ 950 ≤ temp by omega, lo]
    · refine ⟨_, hbmThermal_of_on hs hd, ?_⟩
      rw [if_neg (by omega), ← show _ = _ from hbmHeat_of_warm stack s lo]
      exact hbmWarning_changes ..
    · rw [hbmThermal_of_on hs hd, if_pos ⟨lo, hlive⟩, hbmWarning, if_neg (by simp [hw]), hbmHeat_of_warm stack s (by omega)]

end Sys2Proof.Machine
end

section
/-! SUPPORT. The pair's streams: ANNOUNCE, RECON, MARK, anchoring, the journal and the peer lanes (R386–R410). -/

namespace Sys2Proof.Machine

variable {s : State}

theorem ppair_of_pair {s t : State} (h : t.pair = s.pair) (p : Nat) : t.ppair p = s.ppair p := by rw [State.ppair, h, State.ppair]

theorem pairSt_of_not_holdsBung (h : s.holdsBung = false) : s.pair.st ≠ .active := fun k => by
  rw [State.holdsBung, k] at h
  exact absurd h (by decide)

/-! ### ANNOUNCE and divergence -/

theorem announceSend_of_due {a : Announce} (hm : s.member = true) (hd : s.pair.announceAt ≤ s.mono) (hpair : a.pairSun = s.pairSun)
    (hsun : a.sun = s.dev.cfg.sun) (hgen : a.gen = s.pair.gen) (hbung : a.bung = (s.holdsBung || s.pair.st == .taking))
    (hfenced : a.fenced = (s.pair.st == .fenced)) (hsynced : a.synced = (s.pair.st == .standby || s.pair.st == .stale)) :
    exec .announceSend s = .next (flushMarks (sendEntry s.reachableSuns (announceEntryBytes a)
      { s with pair := { s.pair with announceAt := s.mono + Config.us 50 } })) := by
  obtain ⟨pairSun, sun, gen, bung, fenced, synced⟩ := a
  subst hpair hsun hgen hbung hfenced hsynced
  show execAnnounceSend s = _
  rw [execAnnounceSend, hm, State.due, decide_eq_true hd, Bool.and_self, when_true]
  rfl

theorem announceEntry_of_foreign {a : Announce} (h : a.sun ≠ s.dev.cfg.sun) : exec (.announceEntry a) s = .next (announceIn a s) := by
  show execAnnounceEntry a s = _
  rw [execAnnounceEntry, bne_iff_ne.mpr h, when_true]

/-- An ANNOUNCE of a unit that is not the partner is noted, and no more. -/
theorem announceIn_of_stranger {a : Announce} (h : a.sun ≠ s.partnerOf) : announceIn a s = pairedAll none (heardFrom a.sun (s.modPair (fun p =>
    { p with
      heard := mset p.heard a.sun
        { pairSun := a.pairSun, gen := a.gen, bung := a.bung, fenced := a.fenced, synced := a.synced, at_ := s.mono } }))) := by
  rw [announceIn]
  refine congrArg (pairedAll none) (if_neg fun k => ?_)
  rw [Bool.and_eq_true, Bool.and_eq_true, beq_iff_eq] at k
  exact h k.1.2

/-- A port that leaves SYNC is out of it. -/
theorem leaveSync_sync (p : Nat) (s : State) : ((leaveSync p s).ppair p).sync = false := by
  unfold leaveSync
  split
  · have left (t : State) (ht : t.pair = (s.modPpair p (fun x =>
        { x with sync := false, cut := none, anchored := false, runFrom := none })).pair) : (t.ppair p).sync = false := by
      rw [ppair_of_pair ht, State.modPpair_ppair]
    extract_lets u
    split
    · exact left _ rfl
    · exact left _ ((notify_changes (Ev.pairPortSync.1, Ev.pairPortSync.2) (putLe 1 p ++ [0]) [] u).same .pair (by decide))
  next h => exact Bool.eq_false_iff.mpr h

/-- Leaving SYNC leaves the query, the next number and what is held. -/
theorem leaveSync_stage (p : Nat) (s : State) : ((leaveSync p s).ppair p).query = (s.ppair p).query
    ∧ ((leaveSync p s).ppair p).nextArrival = (s.ppair p).nextArrival ∧ ((leaveSync p s).ppair p).held = (s.ppair p).held := by
  unfold leaveSync
  split
  · have left (t : State) (ht : t.pair = (s.modPpair p (fun x =>
        { x with sync := false, cut := none, anchored := false, runFrom := none })).pair) : (t.ppair p).query = (s.ppair p).query
          ∧ (t.ppair p).nextArrival = (s.ppair p).nextArrival ∧ (t.ppair p).held = (s.ppair p).held := by
      rw [ppair_of_pair ht, State.modPpair_ppair]
      exact ⟨rfl, rfl, rfl⟩
    extract_lets u
    split
    · exact left _ rfl
    · exact left _ ((notify_changes (Ev.pairPortSync.1, Ev.pairPortSync.2) (putLe 1 p ++ [0]) [] u).same .pair (by decide))
  · exact ⟨rfl, rfl, rfl⟩

theorem divergeIn_of_port {stream p : Nat} (sp tc n who : Nat) (h : s.portOfStream stream = some p) :
    ((divergeIn stream sp tc n who s).ppair p).sync = false := by
  simp only [divergeIn, h]
  exact leaveSync_sync ..

/-! ### RECON (R386) -/

/-- The stage has nothing to run when no result is held behind it. -/
theorem numberAll_of_empty {p : Nat} (h : (s.ppair p).held = []) : numberAll p s = s := by
  simp only [numberAll, h, List.length_nil, Nat.mul_zero, stageRun]
  cases (s.ppair p).query <;> rfl

/-- A query for a number not yet reached is kept until the stage reaches it (assumption log entry 85). -/
theorem reconQueryIn_of_ahead {stream a p : Nat} (hp : s.portOfStream stream = some p) (ha : dist 48 (s.ppair p).nextArrival a < 65536)
    (hq : (s.ppair p).query = none) :
    reconQueryIn stream a s = s.modPpair p (fun x => { x with asked := addOnce x.asked a }) := by
  simp only [reconQueryIn, hp, hq, ha, Option.map_none, ne_eq, reduceCtorEq, not_false_eq_true, and_self, if_true]

theorem dist_self (w a : Nat) : dist w a a = 0 := by
  rw [dist, Nat.add_comm, Nat.add_sub_assoc (le_refl _), Nat.sub_self, Nat.add_zero, Nat.mod_self]

/-- The log keeps the result of the number just reached. -/
theorem mget_recent_log (l : AMap ReconLog) (a : Nat) (r : ReconLog) :
    mget ((mset l a r).filter (fun e => decide (dist 48 e.1 a < 65536))) a = some r := by
  have recent (l : AMap ReconLog) : ((a, r) :: l).filter (fun e => decide (dist 48 e.1 a < 65536)) =
      (a, r) :: l.filter (fun e => decide (dist 48 e.1 a < 65536)) :=
    List.filter_cons_of_pos (decide_eq_true (by rw [dist_self]; decide))
  induction l with
  | nil => rw [mset, recent, mget, if_pos rfl]
  | cons e l ih =>
    obtain ⟨k, v⟩ := e
    by_cases lt : a < k
    · rw [mset, if_pos lt, recent, mget, if_pos rfl]
    · by_cases eq : a = k
      · rw [mset, if_neg lt, if_pos eq, recent, mget, if_pos rfl]
      · rw [mset, if_neg lt, if_neg eq, List.filter_cons]
        split
        · rw [mget, if_neg eq, ih]
        · exact ih

/-- What the stage holds of a port once a number has its result in the log. -/
def logged (a : Nat) (r : ReconLog) (x : PairPort) : PairPort :=
  { x with
    log := (mset x.log a r).filter (fun e => decide (dist 48 e.1 a < 65536)), nextArrival := (a + 1) % 2 ^ 48,
    cut := if x.beforeCut ((a + 1) % 2 ^ 48) then x.cut else none }

/-- A result for a number that the partner has not asked for goes to the log only. -/
theorem logResult_of_unasked {p a : Nat} (r : ReconLog) (h : a ∉ (s.ppair p).asked) : logResult p a r s = s.modPpair p (logged a r) := by
  refine if_neg ?_
  show a ∉ ((s.modPpair p (logged a r)).ppair p).asked
  rw [State.modPpair_ppair]
  exact h

/-- The answer NONE to the open query: the stage goes on past the number. -/
theorem reconAnswerIn_of_none {stream a p at_ : Nat} (sp tc n : Nat) (hp : s.portOfStream stream = some p)
    (hq : (s.ppair p).query = some (a, at_)) (hh : (s.ppair p).held = []) (ha : a ∉ (s.ppair p).asked) :
    reconAnswerIn stream a 3 sp tc n s = (s.modPpair p (fun x => { x with query := none })).modPpair p (logged a .nothing) := by
  have unasked : a ∉ ((s.modPpair p (fun x => { x with query := none })).ppair p).asked := by rwa [State.modPpair_ppair]
  have empty : (((s.modPpair p (fun x => { x with query := none })).modPpair p (logged a .nothing)).ppair p).held = [] := by
    rw [State.modPpair_ppair, State.modPpair_ppair]; exact hh
  rw [← numberAll_of_empty empty, ← logResult_of_unasked _ unasked]
  simp [reconAnswerIn, hp, hq]

theorem reconQueryTimeout_of_due {p a at_ : Nat} (hq : (s.ppair p).query = some (a, at_)) (ht : at_ + Config.us 50 ≤ s.mono) :
    exec (.reconQueryTimeout p) s = .next (numberAll p (proceedUnknown p s)) := by
  show execReconQueryTimeout p s = _
  simp only [execReconQueryTimeout, hq, State.due, decide_eq_true ht, when_true]

/-- Going on as for UNKNOWN passes the missing number over, out of SYNC. -/
theorem proceedUnknown_ppair (p : Nat) (s : State) : ((proceedUnknown p s).ppair p).query = none
    ∧ ((proceedUnknown p s).ppair p).nextArrival = ((s.ppair p).nextArrival + 1) % 2 ^ 48
    ∧ ((proceedUnknown p s).ppair p).held = (s.ppair p).held ∧ ((proceedUnknown p s).ppair p).sync = false := by
  obtain ⟨query, next, held⟩ := leaveSync_stage p (s.modPpair p (fun x => { x with query := none, nextArrival := (x.nextArrival + 1) % 2 ^ 48 }))
  rw [State.modPpair_ppair] at query next held
  exact ⟨query, next, held, leaveSync_sync ..⟩

/-! ### Switch points (R387) -/

/-- The first open point of the changes of the ASA that wait is set. -/
def pointSet (a : Nat) (l : List (Nat × AMap Region)) : List (Nat × AMap Region) :=
  match l.findIdx? (fun h => h.1 == noArrival) with
  | some i => l.mapIdx (fun j h => if j = i then (a, h.2) else h)
  | none => l

theorem pointSet_length (a : Nat) (l : List (Nat × AMap Region)) : (pointSet a l).length = l.length := by
  unfold pointSet; split
  · exact List.length_mapIdx
  · rfl

theorem pointSet_getElem? {l : List (Nat × AMap Region)} {i : Nat} (a : Nat) (h : l.findIdx? (fun h => h.1 == noArrival) = some i) :
    (pointSet a l)[i]? = (l[i]?).map (fun h => (a, h.2)) ∧ ∀ j, j ≠ i → (pointSet a l)[j]? = l[j]? := by
  simp only [pointSet, h, List.getElem?_mapIdx, if_true, true_and]
  intro j hj
  simp only [if_neg hj, Option.map_id']

theorem arrivalSwitchPoint_of_standby {p : Nat} (epoch a : Nat) (hm : s.member = true) (hb : s.holdsBung = false)
    (hp : mhas s.pair.cfg.ports p = true) : exec (.arrivalSwitchPoint p epoch a) s = .next (issueFrom p (s.modPpair p (fun x =>
      if epoch = 0 then { x with asaHeld := pointSet (a % 2 ^ 48) x.asaHeld }
      else { x with switches := x.switches.map (fun w => if w.2 = epoch ∧ w.1 = noArrival then (a % 2 ^ 48, w.2) else w) }))) := by
  show execArrivalSwitchPoint p epoch a s = _
  rw [execArrivalSwitchPoint, hm, hb, hp, Bool.not_false, Bool.and_self, Bool.and_self, when_true]
  rfl

/-! ### MARK (R391) -/

theorem markGone_of_not_active {port k seq : Nat} (h : s.pair.st ≠ .active) : markGone port k seq s = s := by
  refine if_neg fun c => h ?_
  rw [Bool.and_eq_true, beq_iff_eq] at c
  exact c.1

/-- Operations that leave the pair while it is not ACTIVE leave it over a list. -/
theorem foldS_pair_of_not_active {α : Type} {f : α → State → State} (hf : ∀ a x, x.pair.st ≠ .active → (f a x).pair = x.pair)
    (l : List α) (s : State) (h : s.pair.st ≠ .active) : (foldS l s f).pair = s.pair := by
  induction l generalizing s with
  | nil => rfl
  | cons a l ih => exact (ih (f a s) (by rwa [hf a s h])).trans (hf a s h)

theorem releaseRef_pair (handle version : Nat) (s : State) : (releaseRef handle version s).pair = s.pair :=
  (releaseRef_changes ..).same .pair (by decide)

theorem holdFlushed_pair (p : Nat) (l : List EPkt) (h : s.pair.st ≠ .active) : (holdFlushed p l s).pair = s.pair := by
  unfold holdFlushed
  split
  · rfl
  · rw [count_pair]
    refine foldS_pair_of_not_active (fun k x hx => ?_) _ _ h
    rw [markGone_of_not_active hx, releaseRef_pair]

theorem rehomeTo_pair (p b tc : Nat) (k : EPkt) (h : s.pair.st ≠ .active) : (rehomeTo p b tc k s).pair = s.pair := by
  have counted : (count Cn.schRehomed p 1 s).pair.st ≠ .active := by rwa [count_pair]
  simp only [rehomeTo, markGone_of_not_active counted]
  split
  · rw [holdFlushed_pair _ _ counted, count_pair]
  · exact (show _ = _ from (placeUnder_changes ..).same .pair (by decide)).trans (count_pair ..)

/-- A marked copy leaves a unit that is not ACTIVE without a MARK of its own. -/
theorem dropMarked_pair (k : EPkt) (h : s.pair.st ≠ .active) : (dropMarked k s).pair = s.pair := by
  unfold dropMarked
  extract_lets p
  split
  · split
    · split
      · exact rehomeTo_pair _ _ _ _ h
      · exact holdFlushed_pair _ _ h
    · exact holdFlushed_pair _ _ h
  · exact releaseRef_pair ..

theorem markIn_pair {stream sp : Nat} (tc n : Nat) (hb : s.holdsBung = false)
    (hp : (mget s.pair.cfg.ports (s.localPort sp)).map PairPortCfg.txMode = some 2) :
    (markIn stream sp tc n s).pair = { s.pair with marks := mset s.pair.marks (streamKey stream sp tc) n } := by
  have dark : (s.holdsBung || (mget s.pair.cfg.ports (s.localPort sp)).map PairPortCfg.txMode != some 2) ≠ true := by
    rw [hb, hp]; decide
  unfold markIn
  extract_lets key p u hit gone
  rw [if_neg dark]
  exact foldS_pair_of_not_active (fun k _ hx => dropMarked_pair k hx) _ _ (pairSt_of_not_holdsBung hb)

/-! ### Anchoring and the journal (R402, R407–R409) -/

theorem anchorRun_of_standby {p : Nat} {run : List (Word × Nat)} (first : Nat) (hm : s.member = true) (hb : s.holdsBung = false)
    (hp : mhas s.pair.cfg.ports p = true) (hs : (s.ppair p).sync = false) (hr : run ≠ []) : exec (.anchorRun p first run) s = .next
      (match runPlaces run (s.ppair p).rxLog with
      | [a] => renumber p (dist 48 a first) (s.modPpair p (fun x => { x with anchored := true }))
      | _ => s.emit (.anchorAsk p)) := by
  show execAnchorRun p first run s = _
  rw [execAnchorRun, hm, hb, hp, hs, bne_iff_ne.mpr hr]
  rfl

theorem renumber_lport (p d : Nat) (s : State) : ((renumber p d s).lport p).arrivals = ((s.lport p).arrivals + d) % 2 ^ 48 :=
  congrArg Port.arrivals (State.modPort_lport s p (fun x => { x with arrivals := (x.arrivals + d) % 2 ^ 48 }))

theorem renumber_anchored (p d : Nat) (s : State) : ((renumber p d s).ppair p).anchored = (s.ppair p).anchored := by
  unfold renumber
  extract_lets mv mvPkt mvItem u v
  rw [State.modPpair_ppair]
  rfl

theorem anchorCut_of_anchored {p : Nat} (cut : Nat) (nexts : List (Nat × Nat × Nat)) (hm : s.member = true) (hb : s.holdsBung = false)
    (hp : (s.ppair p).matched = true) (ha : (s.ppair p).anchored = true) (hs : (s.ppair p).sync = false) :
    ∃ t, exec (.anchorCut p cut nexts) s = .next t ∧ t.ppair p = { s.ppair p with
        sync := true, anchored := false,
        cut := if older 48 (s.ppair p).nextArrival (cut % 2 ^ 48) then some (cut % 2 ^ 48) else none }
      ∧ Changes [.rings, .fab, .pair, .cnt, .out] s t := by
  have guard : (s.member && !s.holdsBung && (s.ppair p).matched && (s.ppair p).anchored && !(s.ppair p).sync) = true := by
    rw [hm, hb, hp, ha, hs]; decide
  refine ⟨_, congrArg Host.Outcome.next ((congrArg (when · s _) guard).trans (when_true ..)), ?_, ?_⟩
  · extract_lets st u x c
    have numbered : Changes [.fab] s u := Changes.foldS Changes.rfl (fun _ _ => State.setTx_changes ..)
    have same : u.ppair p = s.ppair p := ppair_of_pair (numbered.same .pair (by decide)) p
    rw [ppair_of_pair ((notify_changes ..).same .pair (by decide)), State.modPpair_ppair, same]
    simp only [c, x, same]
    rfl
  · refine Changes.via ?_ (notify_changes ..) (by decide)
    refine Changes.via ?_ (State.modPpair_changes ..) (by decide)
    exact Changes.foldS Changes.rfl (fun _ _ => (State.setTx_changes ..).weaken (by decide))

/-- The unit in STANDBY, with EV.PAIR.SYNCED. -/
def inStandby (s : State) : State := notify Ev.pairSynced (putLe 4 s.pair.gen) [] { s with pair := { s.pair with st := .standby } }

/-- The event leaves the peer lanes. -/
theorem inStandby_peerUp (s : State) : (inStandby s).peerUp = s.peerUp := by
  rw [State.peerUp, inStandby, show _ = _ from (notify_changes ..).same .pair (by decide), State.peerUp]

theorem syncComplete_of_heard {h : Heard} (hst : s.pair.st = .syncing) (hh : mget s.pair.heard s.partnerOf = some h) (hb : h.bung = true)
    (ha : s.portsAnchored = true) : exec .syncComplete s = .next (if s.peerUp = true then inStandby s
      else notify Ev.pairStale (putLe 1 1 ++ zeros 11) [] ((inStandby s).modPair (fun p => { p with st := .stale }))) := by
  have guard : (s.pair.st == .syncing && (mget s.pair.heard s.partnerOf).any Heard.bung && s.portsAnchored) = true := by
    rw [hst, hh, ha, Option.any_some, hb]; decide
  rw [← inStandby_peerUp]
  exact congrArg Host.Outcome.next ((congrArg (when · s _) guard).trans (when_true ..))

theorem unsyncedPortRestart_of_due {p at_ st : Nat} (hf : (s.ppair p).freshAt = some at_) (ht : at_ ≤ s.mono)
    (hst : st = ((mget s.pair.cfg.ports p).map PairPortCfg.stream).getD 0) :
    exec (.unsyncedPortRestart p) s = .next (numberAll p (State.modPpair { s with
      fab := { s.fab with txs := s.fab.txs.map (fun e => if e.1 / 2 ^ 18 = st then (e.1, (e.2.1, true)) else e) } } p
        (fun x => { x with freshAt := none }))) := by
  subst hst
  show execUnsyncedPortRestart p s = _
  simp only [execUnsyncedPortRestart, hf, State.due, decide_eq_true ht, when_true]
  rfl

theorem draughtPeriod_of_due {c : PairCfg} (hc : s.pair.cfg.pair = some c) (hst : s.pair.st = .standby ∨ s.pair.st = .stale)
    (hd : s.pair.draughtAt + Config.sec c.draught ≤ s.mono) : exec .draughtPeriod s = .next (draughtRun s) := by
  show execDraughtPeriod s = _
  have state : (s.pair.st == .standby || s.pair.st == .stale) = true := by rcases hst with h | h <;> rw [h] <;> rfl
  rw [execDraughtPeriod, state, hc, Option.map_some, Option.getD_some, State.due, decide_eq_true hd, Bool.and_self, when_true]

/-! ### The peer lanes (R405, R460) -/

theorem peerLaneDown_of_up {lane : Nat} (h : lane ∈ s.pair.peerLanes) : exec (.peerLaneDown lane) s = .next
    (if without s.pair.peerLanes lane != [] then
      bump (winEvent 5 5) lane 1 { s with pair := { s.pair with peerLanes := without s.pair.peerLanes lane } }
     else peerDown (bump (winEvent 5 5) lane 1 { s with pair := { s.pair with peerLanes := without s.pair.peerLanes lane } })) := by
  show execPeerLaneDown lane s = _
  rw [execPeerLaneDown, decide_eq_true h, when_true]
  rfl

theorem staleRefresh_peerLanes (s : State) : (staleRefresh s).pair.peerLanes = s.pair.peerLanes := by
  have told (payload : List Byte) (u : State) : (notify Ev.pairStale payload [] u).pair = u.pair := (notify_changes ..).same .pair (by decide)
  unfold staleRefresh
  split
  · rw [told]; rfl
  · split
    · rw [told]; rfl
    · rfl

/-- The last lane gone: no lane is up and the link's secret is dropped. -/
theorem peerDown_of_no_lane (h : s.pair.peerLanes = []) : (peerDown s).pair.peerLanes = [] ∧ mget (peerDown s).sec.links 16 = none := by
  have faulted := fault_changes 15 0 0 (dropSecret 16 (notify Ev.pairPeerlinkDown [] [] s))
  have told := notify_changes Ev.pairPeerlinkDown [] [] s
  have stale := staleRefresh_changes (fault 15 0 0 (dropSecret 16 (notify Ev.pairPeerlinkDown [] [] s)))
  constructor
  · rw [peerDown, staleRefresh_peerLanes, show _ = _ from faulted.same .pair (by decide)]
    show (notify Ev.pairPeerlinkDown [] [] s).pair.peerLanes = []
    rw [show _ = _ from told.same .pair (by decide), h]
  · rw [peerDown, show _ = _ from stale.same .sec (by decide), show _ = _ from faulted.same .sec (by decide)]
    exact mget_mdel_self ..

theorem peerLaneUp_of_keyed {lane : Nat} {k : Link} (hl : lane < 4) (hm : s.member = true) (hd : s.domOn 55 = true)
    (hr : (5, 0) ∉ s.dev.blockResets) (hk : mget s.sec.links 16 = some k) (hkeyed : k.keyed = true) (hn : lane ∉ s.pair.peerLanes) :
    exec (.peerLaneUp lane) s = .next
      (if s.pair.peerLanes ≠ [] then { s with pair := { s.pair with peerLanes := sortUp (lane :: s.pair.peerLanes) } }
       else staleRefresh (endWindow 15 0 (notify Ev.pairPeerlinkUp (putLe 1 1) []
         { s with pair := { s.pair with peerLanes := sortUp (lane :: s.pair.peerLanes) } }))) := by
  show execPeerLaneUp lane s = _
  rw [execPeerLaneUp, decide_eq_true hl, hm, hd, decide_eq_true hr, hk, Option.any_some, hkeyed, decide_eq_true hn]
  simp only [Bool.and_self, when_true, State.peerUp, bne_iff_ne, State.modPair]

/-- Settles O44: each stream event has the effect of its lemma above. A RECON query ahead of the stage is answered later (assumption log
entry 85); the forms of an anchor run on the standby are those of assumption log entry 73. -/
theorem pairStreamsComplete : Obligations.PairStreamsComplete := by
  intro s
  refine ⟨fun a hm hd h1 h2 h3 h4 h5 h6 => announceSend_of_due hm hd h1 h2 h3 h4 h5 h6, fun a h => announceEntry_of_foreign h,
    fun _ _ _ _ _ => rfl, fun _ _ _ _ _ _ => ⟨rfl, rfl⟩, fun p a at_ hq ht => reconQueryTimeout_of_due hq ht,
    fun stream sp tc n hm => ?mark, fun a hn hp => ?stranger, fun stream sp tc n who p hp => ?diverge, fun stream a p hp ha hq => ?query,
    fun stream a sp tc n p at_ hp hq hh ha => ?answer, fun p a at_ hq ht hh => ?timeout, fun p epoch a hm hb hp he ha => ?point,
    fun p a hm hb hp => ?asaPoint, fun stream sp tc n hm hb hp => ?marked, fun p first run a hm hb hp hs hr hone => ?anchor,
    fun p first run hm hb hp hs hr hmany => ?ask, fun p cut nexts hm hb hp ha hs => anchorCut_of_anchored cut nexts hm hb hp ha hs,
    fun h hst hh hb ha hup => ?synced, fun h hst hh hb ha hup => ?stale, fun p at_ st hf ht hst => unsyncedPortRestart_of_due hf ht hst,
    fun p at_ hf ht hh => ?fresh, fun c hc hst hd => ?draught, fun lane hl hw => ?laneDown, fun lane hl => ?lastLane,
    fun lane k hl hm hd hr hk hkeyed hn hw => ?laneUp, fun lane k hl hm hd hr hk hkeyed hw => ?firstLane⟩
  case mark => exact congrArg Host.Outcome.next (congrArg (when · s (markIn stream sp tc n s)) hm)
  case stranger => rw [announceEntry_of_foreign hn, announceIn_of_stranger hp]; rfl
  case diverge => exact ⟨_, rfl, divergeIn_of_port sp tc n who hp, divergeIn_changes ..⟩
  case query =>
    refine ⟨_, congrArg Host.Outcome.next (reconQueryIn_of_ahead hp ha hq), ?_, State.modPpair_changes ..⟩
    rw [State.modPpair_ppair]
  case answer =>
    refine ⟨_, congrArg Host.Outcome.next (reconAnswerIn_of_none sp tc n hp hq hh ha), ?_, ?_, ?_,
      (State.modPpair_changes ..).trans (State.modPpair_changes ..)⟩
    all_goals rw [State.modPpair_ppair, State.modPpair_ppair]
    · rfl
    · rfl
    · exact mget_recent_log _ _ _
  case timeout =>
    obtain ⟨query, next, held, sync⟩ := proceedUnknown_ppair p s
    refine ⟨_, reconQueryTimeout_of_due hq ht, ?_⟩
    rw [numberAll_of_empty (held.trans hh)]
    exact ⟨query, next, sync, proceedUnknown_changes ..⟩
  case point =>
    rw [arrivalSwitchPoint_of_standby epoch a hm hb hp]
    simp only [if_neg he, Nat.mod_eq_of_lt ha]
  case asaPoint =>
    refine ⟨_, arrivalSwitchPoint_of_standby 0 a hm hb hp, ?_, fun q hq => State.modPpair_ppair_ne _ _ hq, fun i hi => ?_,
      State.modPpair_changes ..⟩
    · rw [State.modPpair_ppair]; exact pointSet_length _ _
    · rw [State.modPpair_ppair]; exact pointSet_getElem? _ hi
  case marked =>
    exact ⟨_, congrArg Host.Outcome.next (congrArg (when · s (markIn stream sp tc n s)) hm), markIn_pair tc n hb hp, markIn_changes ..⟩
  case anchor =>
    refine ⟨_, anchorRun_of_standby first hm hb hp hs hr, ?_⟩
    simp only [hone]
    refine ⟨?_, ?_, (State.modPpair_changes ..).weaken (by decide) |>.trans (renumber_changes ..)⟩
    · rw [renumber_anchored, State.modPpair_ppair]
    · rw [renumber_lport]; rfl
  case ask =>
    rw [anchorRun_of_standby first hm hb hp hs hr]
    split
    next a h => exact absurd h (hmany a)
    · rfl
  case synced => rw [syncComplete_of_heard hst hh hb ha, if_pos hup]; rfl
  case stale => rw [syncComplete_of_heard hst hh hb ha, if_neg (Bool.eq_false_iff.mp hup)]; rfl
  case fresh =>
    refine ⟨_, unsyncedPortRestart_of_due hf ht rfl, ?_⟩
    rw [numberAll_of_empty (by rw [State.modPpair_ppair]; exact hh)]
    refine ⟨State.modPpair_ppair .., ?_⟩
    exact (Changes.set_fab Changes.rfl (by decide)).trans ((State.modPpair_changes ..).weaken (by decide))
  case draught =>
    refine ⟨_, draughtPeriod_of_due hc hst hd, ?_, ?_, draughtRun_changes s⟩
    all_goals rw [draughtRun_pair]
  case laneDown => rw [peerLaneDown_of_up hl, if_pos (bne_iff_ne.mpr hw)]
  case lastLane =>
    have gone : without s.pair.peerLanes lane = [] := by rw [hl]; simp [without]
    have up : lane ∈ s.pair.peerLanes := by rw [hl]; exact List.mem_singleton_self lane
    obtain ⟨lanes, secret⟩ := peerDown_of_no_lane
      (s := bump (winEvent 5 5) lane 1 { s with pair := { s.pair with peerLanes := without s.pair.peerLanes lane } }) gone
    refine ⟨_, (peerLaneDown_of_up up).trans (by rw [if_neg (by rw [gone]; decide)]), lanes, secret, ?_⟩
    refine Changes.via ?_ (peerDown_changes ..) (by decide)
    exact Changes.set_cnt (Changes.set_pair Changes.rfl (by decide)) (by decide)
  case laneUp => rw [peerLaneUp_of_keyed hl hm hd hr hk hkeyed hn, if_pos hw]
  case firstLane =>
    rw [peerLaneUp_of_keyed hl hm hd hr hk hkeyed (by rw [hw]; exact List.not_mem_nil), if_neg (not_not_intro hw), hw]
    rfl

end Sys2Proof.Machine
end

section
/-! SUPPORT. Kiln slots, sessions, activation and confirmation (R477–R492). -/

namespace Sys2Proof.Machine

variable {vi : Nat} {e : Entry} {s : State}

/-! ### Slots -/

theorem State.modSlot_slot (s : State) (n : Nat) (f : Slot → Slot) : (s.modSlot n f).slot n = f (s.slot n) := by
  by_cases h : n = 0
  · simp only [State.modSlot, State.slot, h, if_true, dirWrite]
  · simp only [State.modSlot, State.slot, h, if_false, dirWrite]

/-- A change of a slot whose value is known. -/
theorem State.modSlot_eq {n : Nat} {f : Slot → Slot} {y : Slot} (h : f (s.slot n) = y) : s.modSlot n f = s.modSlot n (fun _ => y) := by
  subst h
  by_cases hn : n = 0
  · simp only [State.modSlot, State.slot, hn, if_true]
  · simp only [State.modSlot, State.slot, hn, if_false]

theorem dirWrite_slot (s : State) (n : Nat) : (dirWrite s).slot n = s.slot n := rfl

/-! ### UPD.OPEN (R478) -/

section Open
variable (ht : s.upd.trial = none) (hl : e.p 24 4 = e.dataLen) (hh : headOk e.buf e.dataLen = true) (hd : le e.buf 22 2 = 0x2560)
  (hb : le e.buf 24 1 = 0xB0)
include ht hl hh hd hb

/-- A sound head whose signature fails. -/
theorem bodyUpdOpen_of_unsigned (hsig : Config.bundleSigned e.buf = false) :
    bodyUpdOpen vi e s = .err (count Cn.updSigFail 0 1 s) St.eAuth Dt.updSignature := by
  simp [bodyUpdOpen, ht, hl, hh, hd, hb, hsig]

variable (hk : s.upd.keyFloor ≤ le e.buf 25 1) (hv : s.upd.fusedSvn ≤ le e.buf 27 1) (hsig : Config.bundleSigned e.buf = true)
include hk hv hsig

/-- A new session takes the slot. -/
theorem bodyUpdOpen_of_new {y : Slot}
    (hx : (s.slot s.target).session = false ∨ (s.slot s.target).owned = false ∧ (s.slot s.target).digest ≠ headDigest e.buf)
    (hy : y = {
      st := .downloading, owned := true, digest := headDigest e.buf, head := e.buf, version := le e.buf 28 4, svn := le e.buf 27 1 }) :
    bodyUpdOpen vi e s = .ok (s.modSlot s.target (fun _ => y)) (putLe 1 s.target ++ putLe 1 0 ++ putLe 2 (le e.buf 20 2) ++ putLe 2 0) := by
  have floor : ¬ le e.buf 25 1 < s.upd.keyFloor := Nat.not_lt.mpr hk
  have svn : ¬ le e.buf 27 1 < s.upd.fusedSvn := Nat.not_lt.mpr hv
  subst hy
  rcases hx with hx | ⟨ho, hx⟩
  · simp [bodyUpdOpen, ht, hl, hh, hd, hb, hsig, floor, svn, hx]
    rfl
  · simp [bodyUpdOpen, ht, hl, hh, hd, hb, hsig, floor, svn, hx, ho]
    rfl

/-- The digest of the standing session joins it. -/
theorem bodyUpdOpen_of_same (hx : (s.slot s.target).session = true) (hdig : (s.slot s.target).digest = headDigest e.buf) :
    bodyUpdOpen vi e s = .read s (putLe 1 s.target ++ putLe 1 1 ++ putLe 2 (s.slot s.target).chunkCount
      ++ putLe 2 (s.slot s.target).chunksHeld) [] := by
  have floor : ¬ le e.buf 25 1 < s.upd.keyFloor := Nat.not_lt.mpr hk
  have svn : ¬ le e.buf 27 1 < s.upd.fusedSvn := Nat.not_lt.mpr hv
  simp [bodyUpdOpen, ht, hl, hh, hd, hb, hsig, floor, svn, hx, hdig]
  rfl

end Open

/-! ### UPD.CHUNK (R479–R481) -/

section Chunk
variable {x : Slot} (hx : x = s.slot s.target) (hsess : x.session = true) (hn : x.named e = true) (hi : e.p 24 2 < x.chunkCount)
  (hl : e.dataLen = x.chunkLen (e.p 24 2))
include hx hsess hn hi hl

/-- A chunk of the session is checked, then stored; the last one completes the bundle. -/
theorem bodyUpdChunk_of_named {y : Slot} (hy : y = { x with chunks := mset x.chunks (e.p 24 2) e.buf }) : bodyUpdChunk vi e s =
    if x.holds (e.p 24 2) then .read s (putLe 2 x.chunksHeld ++ putLe 1 (1 + flag x.whole 1)) []
    else if Config.sha384 e.buf ≠ x.chunkDigest (e.p 24 2) then .err (count Cn.updChunkBad 0 1 s) St.eAuth Dt.updChunkBad
    else if !Config.flashOk s.draw then .err (count Cn.updFlashErr 0 1 (fault 18 (4 + s.target) 0
      (s.drawn.modSlot s.target (fun _ => { x with chunks := mdel x.chunks (e.p 24 2) })))) St.eState Dt.updFlash
    else
      let t := dirWrite (s.drawn.modSlot s.target (fun _ => y))
      if y.chunks.length = y.chunkCount then lastChunk s.target y t else .ok t (putLe 2 y.chunksHeld ++ putLe 1 0) := by
  subst hx hy
  have erased := State.modSlot_eq (s := s.drawn) (n := s.target) (f := fun y => { y with chunks := mdel y.chunks (e.p 24 2) }) rfl
  have stored := State.modSlot_eq (s := s.drawn) (n := s.target) (f := fun y => { y with chunks := mset y.chunks (e.p 24 2) e.buf }) rfl
  have range : ¬ (s.slot s.target).chunkCount ≤ e.p 24 2 := Nat.not_le.mpr hi
  simp only [bodyUpdChunk, hsess, hn, Bool.not_true, Bool.false_and, Bool.or_self, Bool.false_eq_true, if_false, range, hl, ne_eq,
    not_true_eq_false, erased, stored, dirWrite_slot, State.modSlot_slot]
  rfl

theorem bodyUpdChunk_of_last {y : Slot} (hy : y = { x with chunks := mset x.chunks (e.p 24 2) e.buf }) (hh : x.holds (e.p 24 2) = false)
    (hlen : y.chunks.length = y.chunkCount) (hsum : Config.sha384 e.buf = x.chunkDigest (e.p 24 2)) (hok : Config.flashOk s.draw = true) :
    bodyUpdChunk vi e s = lastChunk s.target y (dirWrite (s.drawn.modSlot s.target (fun _ => y))) := by
  rw [bodyUpdChunk_of_named hx hsess hn hi hl hy, if_neg (Bool.eq_false_iff.mp hh), if_neg (not_not_intro hsum), if_neg (by simp [hok])]
  exact if_pos hlen

end Chunk

/-- The firmware part's DIGEST decides whether the bundle is VERIFIED. -/
theorem lastChunk_of_stored {n : Nat} {y : Slot} (hy : s.slot n = y) : lastChunk n y s =
    if y.firmwareOk then .ok (notify Ev.updReady (putLe 1 n ++ zeros 3 ++ putLe 4 y.version ++ putLe 1 y.svn) []
      (s.modSlot n (fun _ => { y with st := .verified }))) (putLe 2 y.chunkCount ++ putLe 1 2)
    else .err (count Cn.updChunkBad 0 1 (s.modSlot n (fun _ => {}))) St.eAuth Dt.updPartBad := by
  subst hy
  rw [lastChunk, State.modSlot_eq (f := fun y => { y with st := .verified }) rfl]

/-! ### UPD.STATUS and UPD.ABORT (Tables UP-5, UP-8) -/

theorem slotStatus_length (x : Slot) : x.status.length = 192 := by
  simp [Slot.status, putLe_length, zeros, fit_length]

/-- Table UP-8: 400 bytes, which begin with the running and the trial slot. -/
theorem bodyUpdStatus_answers (vi : Nat) (e : Entry) (s : State) : ∃ d, bodyUpdStatus vi e s = .read s [] d ∧ d.length = 400
    ∧ (putLe 1 s.upd.running ++ putLe 1 (s.upd.trial.getD 0xFF)) <+: d := by
  refine ⟨_, rfl, by simp only [List.length_append, putLe_length, zeros, List.length_replicate, slotStatus_length], ?_⟩
  iterate 10 refine List.IsPrefix.trans ?_ (List.prefix_append ..)
  exact List.prefix_rfl

theorem bodyUpdAbort_of_named (hn : e.p 24 1 ≤ 1) (hx : (s.slot (e.p 24 1)).named e = true) : bodyUpdAbort vi e s =
    if (s.slot (e.p 24 1)).session then .ok (s.modSlot (e.p 24 1) (fun _ => {}))
    else if s.upd.trial = some (e.p 24 1) then .ok (fallBack 6 s) else .err s St.eState Dt.updNoSession := by
  simp only [bodyUpdAbort, if_neg (Nat.not_lt.mpr hn), hx, Bool.not_true, Bool.false_eq_true, if_false]

/-! ### UPD.ACTIVATE (R482, R483, R488) -/

/-- A slot begins its trial. -/
theorem setTrial_upd (n wait window : Nat) (s : State) : (setTrial n wait window s).upd.trial = some n
    ∧ (setTrial n wait window s).upd.trialLeft = 2 ∧ (setTrial n wait window s).upd.swapWait = wait
    ∧ (setTrial n wait window s).upd.confirmWindow = window ∧ ((setTrial n wait window s).slot n).st = .trial := by
  refine ⟨rfl, rfl, rfl, rfl, ?_⟩
  exact congrArg Slot.st (State.modSlot_slot s n (fun x => { x with st := .trial }))

/-- The new firmware's parts are loaded and the restart begins. -/
def activated (n wait window : Nat) (s : State) : State :=
  warmRestart 3 { setTrial n wait window s with upd := { (setTrial n wait window s).upd with loaded := some n, swap := 1 } }

theorem activated_changes (n wait window : Nat) (s : State) :
    Changes [.rings, .queue, .hif, .dev, .sec, .upd] s (activated n wait window s) := by
  refine Changes.via ?_ (warmRestart_changes ..) (by decide)
  exact Changes.set_upd ((setTrial_changes ..).weaken (by decide)) (by decide)

theorem activated_upd (n wait window : Nat) (s : State) : (activated n wait window s).upd =
    { (setTrial n wait window s).upd with loaded := some n, swap := 1 } := (warmRestart_changes ..).same .upd (by decide)

theorem activated_slot (n wait window : Nat) (s : State) : ((activated n wait window s).slot n).st = .trial := by
  rw [State.slot, activated_upd]
  exact (setTrial_upd n wait window s).2.2.2.2

/-- The trial begins at the cold reset that follows. -/
def coldTrial (n wait window : Nat) (s : State) : State :=
  let t := setTrial n wait window s
  { t with dev := { t.dev with coldAt := some (t.mono + Config.ms 10) } }

theorem coldTrial_changes (n wait window : Nat) (s : State) : Changes [.dev, .upd] s (coldTrial n wait window s) :=
  Changes.set_dev ((setTrial_changes ..).weaken (by decide)) (by decide)

theorem coldTrial_dev (n wait window : Nat) (s : State) :
    (coldTrial n wait window s).dev = { s.dev with coldAt := some (s.mono + Config.ms 10) } := by
  have dev : (setTrial n wait window s).dev = s.dev := (setTrial_changes ..).same .dev (by decide)
  have mono : (setTrial n wait window s).mono = s.mono := (setTrial_changes ..).same .mono (by decide)
  simp only [coldTrial, dev, mono]

/-- R482, R493: in service with equal COLD_ONLY parts, on a firmware new enough for the bundle. -/
theorem inServiceRefusal_of_able {x : Slot} (hr : s.hif.recovery = false) (hp : s.dev.phase ≠ .fail) (hv : le x.head 32 4 ≤ s.hif.fwVersion)
    (hpair : s.member = true → s.pair.disc = .none_ ∨ s.pair.disc = .seeking ∨ le x.head 32 4 ≤ s.pair.partnerFw) :
    s.inServiceRefusal x = if x.coldOnlyDiffers (s.slot s.upd.running) then some Dt.updNeedsCold else none := by
  have able : ¬ ((s.hif.recovery || s.dev.phase == .fail) = true) := by simp [hr, hp]
  have partner : ¬ ((s.member && (s.pair.disc != .none_ && s.pair.disc != .seeking) && decide (s.pair.partnerFw < le x.head 32 4)) = true) := by
    simp only [Bool.and_eq_true, bne_iff_ne, decide_eq_true_eq]
    rintro ⟨⟨hm, hn, hs⟩, lt⟩
    rcases hpair hm with h | h | h
    · exact hn h
    · exact hs h
    · exact absurd lt (Nat.not_lt.mpr h)
  simp only [State.inServiceRefusal]
  rw [if_neg able, if_neg (Nat.not_lt.mpr hv), if_neg partner]

section Activate
variable {n : Nat} (hw : e.p 26 2 ≤ 10000) (hc : e.p 28 2 ≤ 1440) (ht : s.upd.trial = none) (hn : s.verifiedSlot e = some n)
include hw hc ht hn

theorem bodyUpdActivate_of_refused {dt : Nat} (hm : e.p 24 1 = 1) (hr : s.inServiceRefusal (s.slot n) = some dt) :
    bodyUpdActivate vi e s = .err s St.eState dt := by
  have inRange : ¬ (e.p 24 1 = 0 ∨ 2 < e.p 24 1 ∨ 10000 < e.p 26 2 ∨ 1440 < e.p 28 2) := by omega
  simp only [bodyUpdActivate, if_neg inRange, ht, Option.isSome_none, Bool.false_eq_true, if_false, hn, if_pos hm, hr]

theorem bodyUpdActivate_of_able (hm : e.p 24 1 = 1) (hr : s.inServiceRefusal (s.slot n) = none) : bodyUpdActivate vi e s =
    if !(s.slot n).partsCheck then .err (count Cn.updChunkBad 0 1 s) St.eAuth Dt.updBlockCheck
    else .ok (activated n (orDefault (e.p 26 2) 50) (e.p 28 2) s) := by
  have inRange : ¬ (e.p 24 1 = 0 ∨ 2 < e.p 24 1 ∨ 10000 < e.p 26 2 ∨ 1440 < e.p 28 2) := by omega
  simp only [bodyUpdActivate, if_neg inRange, ht, Option.isSome_none, Bool.false_eq_true, if_false, hn, if_pos hm, hr]
  rfl

theorem bodyUpdActivate_of_cold (hm : e.p 24 1 = 2) : bodyUpdActivate vi e s =
    .ok (coldTrial n (orDefault (e.p 26 2) 50) (e.p 28 2) s) := by
  have inRange : ¬ (e.p 24 1 = 0 ∨ 2 < e.p 24 1 ∨ 10000 < e.p 26 2 ∨ 1440 < e.p 28 2) := by omega
  have cold : e.p 24 1 ≠ 1 := by omega
  simp only [bodyUpdActivate, if_neg inRange, ht, Option.isSome_none, Bool.false_eq_true, if_false, hn, if_neg cold]
  rfl

end Activate

/-! ### UPD.CONFIRM (R492) -/

/-- A fuse that reads back burnt within its attempts. -/
theorem burnFuse_of_ok {n k : Nat} (hk : k < n) (hbad : ∀ i, i < k → Config.fuseOk (s.draw + i) = false)
    (hok : Config.fuseOk (s.draw + k) = true) : burnFuse n s = (true, { s with draws := s.draws + k + 1 }) := by
  induction n generalizing s k with
  | zero => exact absurd hk (Nat.not_lt_zero k)
  | succ n ih =>
    cases k with
    | zero => exact if_pos hok
    | succ k =>
      refine (if_neg (Bool.eq_false_iff.mp (hbad 0 (Nat.succ_pos k)))).trans ?_
      have shift (i : Nat) : s.drawn.draw + i = s.draw + (i + 1) := by show s.draws + 1 + i = s.draws + (i + 1); omega
      rw [ih (Nat.lt_of_succ_lt_succ hk) (fun i hi => by rw [shift]; exact hbad _ (Nat.succ_lt_succ hi)) (by rw [shift]; exact hok)]
      refine congrArg (fun d => (true, { s with draws := d })) ?_
      show s.draws + 1 + k + 1 = s.draws + (k + 1) + 1
      omega

/-- A fuse that fails every attempt. -/
theorem burnFuse_of_bad {n : Nat} (hbad : ∀ i, i < n → Config.fuseOk (s.draw + i) = false) :
    burnFuse n s = (false, { s with draws := s.draws + n }) := by
  induction n generalizing s with
  | zero => rfl
  | succ n ih =>
    refine (if_neg (Bool.eq_false_iff.mp (hbad 0 (Nat.succ_pos n)))).trans ?_
    have shift (i : Nat) : s.drawn.draw + i = s.draw + (i + 1) := by show s.draws + 1 + i = s.draws + (i + 1); omega
    rw [ih (fun i hi => by rw [shift]; exact hbad _ (Nat.succ_lt_succ hi))]
    refine congrArg (fun d => (false, { s with draws := d })) ?_
    show s.draws + 1 + n = s.draws + (n + 1)
    omega

/-- One SVN fuse, and one fuse of the key floor, more. -/
def svnBurnt (u : Upd) : Upd := { u with fusedSvn := u.fusedSvn + 1 }
def keyBurnt (u : Upd) : Upd := { u with keyFloor := u.keyFloor + 1 }

theorem burnFuses_one_of {f : Upd → Upd} {ok : Bool} {t : State} (h : burnFuse 4 s = (ok, t)) :
    burnFuses f 1 s = if ok then (true, { t with upd := f t.upd }) else (false, t) := by
  simp only [burnFuses, h]

/-- The fuses of the SVN, then those of the key floor; the slot is confirmed when all are burnt. -/
theorem bodyUpdConfirm_of_fuses {n : Nat} {a b : Bool} {u v : State} (ht : s.upd.trial = some n) (hn : (s.slot n).named e = true)
    (hs : s.upd.swap ≠ 1) (ha : burnFuses svnBurnt ((s.slot n).svn - s.upd.fusedSvn) s = (a, u))
    (hb : burnFuses keyBurnt (le (s.slot n).head 26 1 - u.upd.keyFloor) u = (b, v)) : bodyUpdConfirm vi e s =
      if a then (if b then .ok (confirmed n v) (putLe 1 v.upd.fusedSvn) else .err (fault 18 (4 + n) 0 v) St.eState Dt.updFuse)
      else .err (fault 18 (4 + n) 0 u) St.eState Dt.updFuse := by
  have run : bodyUpdConfirm vi e s =
      let r := burnFuses svnBurnt ((s.slot n).svn - s.upd.fusedSvn) s
      let q := if r.1 then burnFuses keyBurnt (le (s.slot n).head 26 1 - r.2.upd.keyFloor) r.2 else (false, r.2)
      if r.1 && q.1 then .ok (confirmed n q.2) (putLe 1 q.2.upd.fusedSvn) else .err (fault 18 (4 + n) 0 q.2) St.eState Dt.updFuse := by
    simp only [bodyUpdConfirm, ht, hn, Bool.not_true, Bool.false_eq_true, if_false, if_neg hs]
    rfl
  rw [run, ha]
  cases a
  · rfl
  · simp only [if_true, hb, Bool.true_and]

/-- With as many fuses burnt as the slot asks for, nothing is burnt. -/
theorem burnFuses_of_le (f : Upd → Upd) {want have_ : Nat} (h : want ≤ have_) (s : State) : burnFuses f (want - have_) s = (true, s) := by
  rw [Nat.sub_eq_zero_of_le h, burnFuses]

theorem bodyUpdConfirm_of_burnt {n : Nat} (ht : s.upd.trial = some n) (hn : (s.slot n).named e = true) (hs : s.upd.swap ≠ 1)
    (hv : (s.slot n).svn ≤ s.upd.fusedSvn) (hk : le (s.slot n).head 26 1 ≤ s.upd.keyFloor) :
    bodyUpdConfirm vi e s = .ok (confirmed n s) (putLe 1 s.upd.fusedSvn) :=
  bodyUpdConfirm_of_fuses ht hn hs (burnFuses_of_le _ hv s) (burnFuses_of_le _ hk s)

/-- One SVN fuse is missing. -/
theorem bodyUpdConfirm_of_one_svn {n : Nat} (ht : s.upd.trial = some n) (hn : (s.slot n).named e = true) (hs : s.upd.swap ≠ 1)
    (hv : (s.slot n).svn = s.upd.fusedSvn + 1) (hk : le (s.slot n).head 26 1 ≤ s.upd.keyFloor) {ok : Bool} {d : Nat}
    (hf : burnFuse 4 s = (ok, { s with draws := d })) : bodyUpdConfirm vi e s =
      if ok then .ok (confirmed n { s with draws := d, upd := svnBurnt s.upd }) (putLe 1 (s.upd.fusedSvn + 1))
      else .err (fault 18 (4 + n) 0 { s with draws := d }) St.eState Dt.updFuse := by
  have missing : (s.slot n).svn - s.upd.fusedSvn = 1 := by omega
  have one := burnFuses_one_of (f := svnBurnt) hf
  rw [← missing] at one
  cases ok
  · exact bodyUpdConfirm_of_fuses ht hn hs one rfl
  · exact bodyUpdConfirm_of_fuses ht hn hs one (burnFuses_of_le _ hk _)

/-- Settles O50: each command is completed with what its body gives. A FLASH record of a fuse that fails names the trial slot's area
(assumption log entry 97). -/
theorem updCommandsComplete : Obligations.UpdCommandsComplete := by
  intro vi io e s
  refine ⟨fun y h ht hl hh hd hb hk hv hx hy => ?opened, fun h ht hl hh hd hb hk hv hx hdig => ?joined,
    fun x y u h hx hsess hn hi hl hh hy hu hlen => ?chunk, fun x y u h hx hsess hn hi hl hh hy hu hlen => ?last,
    fun x h hx hsess hn hi hl hh => ?held, fun h => ?status, fun h hn hx hs => ?abort, fun h hn hx hs ht => ?fallBack,
    fun n x h hm hw hc ht hn hx hr hp hv hpair => ?inService, fun n h hm hw hc ht hn => ?cold,
    fun n h ht hn hs hv hk => next_runCommand_of_body h (bodyUpdConfirm_of_burnt (s := taken vi s) ht hn hs hv hk),
    fun n a u b v h ht hn hs ha hb => ?confirm, fun n h ht hn hs hv hk => ?one⟩
  case opened =>
    exact ⟨fun hsig => next_runCommand_of_body h (bodyUpdOpen_of_new (s := taken vi s) ht hl hh hd hb hk hv hsig hx hy),
      fun hsig => next_runCommand_of_body h (bodyUpdOpen_of_unsigned (s := taken vi s) ht hl hh hd hb hsig)⟩
  case joined =>
    exact ⟨fun hsig => next_runCommand_of_body h (bodyUpdOpen_of_same (s := taken vi s) ht hl hh hd hb hk hv hsig hx hdig),
      fun hsig => next_runCommand_of_body h (bodyUpdOpen_of_unsigned (s := taken vi s) ht hl hh hd hb hsig)⟩
  case chunk =>
    subst hu
    have body := bodyUpdChunk_of_named (vi := vi) (s := taken vi s) hx hsess hn hi hl hy
    rw [if_neg (Bool.eq_false_iff.mp hh)] at body
    refine ⟨fun hsum hok => next_runCommand_of_body h (body.trans ?_), fun hsum hok => next_runCommand_of_body h (body.trans ?_),
      fun hsum => next_runCommand_of_body h (body.trans (if_pos hsum))⟩
    · rw [if_neg (not_not_intro hsum), if_neg (by rw [show (taken vi s).draw = s.draw from rfl, hok]; decide)]
      exact if_neg (Nat.ne_of_lt hlen)
    · rw [if_neg (not_not_intro hsum), if_pos (by rw [show (taken vi s).draw = s.draw from rfl, hok]; decide)]
      rfl
  case last =>
    have kept : y.version = x.version ∧ y.svn = x.svn ∧ y.chunkCount = x.chunkCount := by rw [hy]; exact ⟨rfl, rfl, rfl⟩
    obtain ⟨version, svn, total⟩ := kept
    obtain rfl : u = (taken vi s).drawn := hu
    have stored (hsum) (hok) := (bodyUpdChunk_of_last (vi := vi) (s := taken vi s) hx hsess hn hi hl hy hh hlen hsum hok).trans
      (lastChunk_of_stored (State.modSlot_slot (taken vi s).drawn s.target (fun _ => y) : (dirWrite _).slot s.target = y))
    rw [← version, ← svn, ← total]
    exact ⟨fun hsum hok hfw => next_runCommand_of_body h ((stored hsum hok).trans (if_pos hfw)),
      fun hsum hok hfw => next_runCommand_of_body h ((stored hsum hok).trans (if_neg (Bool.eq_false_iff.mp hfw)))⟩
  case held =>
    exact next_runCommand_of_body h ((bodyUpdChunk_of_named (s := taken vi s) hx hsess hn hi hl rfl).trans (if_pos hh))
  case status =>
    obtain ⟨d, body, length, begins⟩ := bodyUpdStatus_answers vi e (taken vi s)
    exact ⟨d, next_runCommand_of_body h body, length, begins⟩
  case abort => exact next_runCommand_of_body h ((bodyUpdAbort_of_named (s := taken vi s) hn hx).trans (if_pos hs))
  case fallBack =>
    exact next_runCommand_of_body h ((bodyUpdAbort_of_named (s := taken vi s) hn hx).trans
      ((if_neg (Bool.eq_false_iff.mp hs)).trans (if_pos ht)))
  case inService =>
    subst hx
    have refusal := inServiceRefusal_of_able (s := taken vi s) hr hp hv hpair
    refine ⟨fun hcold hparts => ?_, fun hcold hparts => ?_,
      fun hcold => next_runCommand_of_body h (bodyUpdActivate_of_refused (s := taken vi s) hw hc ht hn hm (refusal.trans (if_pos hcold)))⟩
    all_goals
      have body := bodyUpdActivate_of_able (vi := vi) (s := taken vi s) hw hc ht hn hm
        (refusal.trans (if_neg (Bool.eq_false_iff.mp hcold)))
    · have checked : ¬ (!(s.slot n).partsCheck) = true := by simp [hparts]
      obtain ⟨trial, left, wait, window, _⟩ := setTrial_upd n (orDefault (e.p 26 2) 50) (e.p 28 2) (taken vi s)
      refine ⟨_, next_runCommand_of_body h (body.trans (if_neg checked)), ?_, ?_, ?_, ?_, ?_, ?_, activated_slot .., (warmRestart_hif ..).2,
        (warmRestart_hif ..).1, activated_changes ..⟩
      all_goals rw [activated_upd]
      exacts [trial, left, wait, window]
    · have checked : (!(s.slot n).partsCheck) = true := by simp [hparts]
      exact next_runCommand_of_body h (body.trans (if_pos checked))
  case cold =>
    obtain ⟨trial, left, wait, window, slot⟩ := setTrial_upd n (orDefault (e.p 26 2) 50) (e.p 28 2) (taken vi s)
    exact ⟨_, next_runCommand_of_body h (bodyUpdActivate_of_cold (s := taken vi s) hw hc ht hn hm), trial, left, wait, window, slot,
      coldTrial_dev .., coldTrial_changes ..⟩
  case confirm =>
    have body := bodyUpdConfirm_of_fuses (vi := vi) (s := taken vi s) ht hn hs ha hb
    exact ⟨fun h1 h2 => next_runCommand_of_body h (body.trans ((if_pos h1).trans (if_pos h2))),
      fun h1 h2 => next_runCommand_of_body h (body.trans ((if_pos h1).trans (if_neg (Bool.eq_false_iff.mp h2)))),
      fun h1 => next_runCommand_of_body h (body.trans (if_neg (Bool.eq_false_iff.mp h1)))⟩
  case one =>
    refine ⟨fun k lt bad ok => ?_, fun bad => ?_⟩
    · exact next_runCommand_of_body h (bodyUpdConfirm_of_one_svn (s := taken vi s) ht hn hs hv hk (burnFuse_of_ok (s := taken vi s) lt bad ok))
    · exact next_runCommand_of_body h (bodyUpdConfirm_of_one_svn (s := taken vi s) ht hn hs hv hk (burnFuse_of_bad (s := taken vi s) bad))

end Sys2Proof.Machine
end

section
/-! SUPPORT. The swap, its commit and its end, and the confirmation window (R485–R487, R490). -/

namespace Sys2Proof.Machine

variable {s : State}

theorem awaitSwitch_pairSt (num : Nat) (s : State) : (awaitSwitch num s).pair.st = s.pair.st :=
  foldS_keeps (fun s => s.pair.st) (awaitSwitchOn num) (fun _ _ => rfl) _ s

/-- A commit opens switch points, and leaves the pair's state. -/
theorem commitOps_pairSt (vi : Nat) (ops : List TOp) (s : State) : (commitOps vi ops s).pair.st = s.pair.st := by
  obtain ⟨pay, vis, switched⟩ := commitOps_eq vi ops s
  have told (u : State) : (capacityWarn (count Cn.tblCommits 0 1 (notify Ev.tblCommitted pay vis u))).pair = u.pair :=
    (Changes.via (ps := [.rings, .tbl, .cnt, .out]) (((notify_changes ..).trans (count_changes ..)).weaken (by decide))
      (capacityWarn_changes _) (by decide)).same .pair (by decide)
  rw [switched, told]
  exact awaitSwitch_pairSt ..

/-- R486: with an epoch slot free, a unit that is not ACTIVE commits the swap epoch by itself. -/
theorem swapCommit_of_free (hn : s.tbl.epochs.length < 4) (hw : s.spanTooWide = false) (hp : s.pair.st ≠ .active) :
    swapCommit s = commitOps 0xFF [] { s with upd := { s.upd with swapAt := none, retryAt := none } } := by
  have free : ¬ (4 ≤ s.tbl.epochs.length ∨ s.spanTooWide = true) := by rw [hw]; simp; omega
  refine (if_neg free).trans (if_neg ?_)
  rwa [commitOps_pairSt]

/-- With none free it tries again in 1 ms, and counts nothing (assumption log entry 99). -/
theorem swapCommit_of_full (hn : 4 ≤ s.tbl.epochs.length) : swapCommit s = { s with
    upd := { s.upd with swapAt := none, retryAt := some (s.mono + 10000000) } } := if_pos (.inl hn)

/-- An event whose guard holds; `when_true` is applied to the outcome as it stands, for the kernel not to unfold the effect. -/
theorem next_when_of_true {b : Bool} (h : b = true) (s t : State) :
    (.next (when b s t) : Host.Outcome State Fault Refusal) = .next t := by
  subst h; exact congrArg Host.Outcome.next (when_true s t)

theorem swapWaitExpiry_of_due {at_ : Nat} (ha : s.upd.swapAt = some at_) (hd : at_ ≤ s.mono) (hw : s.swapWaits = true) :
    exec .swapWaitExpiry s = .next (swapCommit s) := by
  show execSwapWaitExpiry s = _
  rw [execSwapWaitExpiry, ha]
  exact next_when_of_true (by rw [State.due, decide_eq_true hd, hw]; rfl) s (swapCommit s)

theorem swapCommitRetry_of_due {at_ : Nat} (ha : s.upd.retryAt = some at_) (hd : at_ ≤ s.mono) (hw : s.swapWaits = true) :
    exec .swapCommitRetry s = .next (swapCommit s) := by
  show execSwapCommitRetry s = _
  rw [execSwapCommitRetry, ha]
  exact next_when_of_true (by rw [State.due, decide_eq_true hd, hw]; rfl) s (swapCommit s)

theorem updSwap_of_reached {n : Nat} (hn : s.swapReached = some n) (hr : s.hif.fwReady = true) (hs : s.upd.swap = 1) :
    exec .updSwap s = .next (swapNow n s) := by
  show execUpdSwap s = _
  simp only [execUpdSwap, hn, hr, hs, beq_self_eq_true, Bool.and_self, when_true]

/-- EV.UPD.SWAPPED as the LINK banks have swapped. -/
def bankSwapped (s : State) : State :=
  notify Ev.updSwapped (putLe 2 s.upd.swapEpoch ++ zeros 6 ++ putLe 8 s.upd.swapTime) [] { s with upd := { s.upd with linkSwap := false } }

theorem bankSwapped_upd (s : State) : (bankSwapped s).upd = { s.upd with linkSwap := false } := (notify_changes ..).same .upd (by decide)

/-- The result ACTIVE follows while the slot is on trial; a swap back has no second result (assumption log entry 98). -/
theorem linkBankSwapDone_of_swapping (h : s.upd.linkSwap = true) : exec .linkBankSwapDone s = .next
    (if s.upd.trial.isSome then
      updResult { bankSwapped s with upd := { (bankSwapped s).upd with lastResult := 1, lastCause := 0 } } else bankSwapped s) := by
  show execLinkBankSwapDone s = _
  rw [execLinkBankSwapDone, h, when_true]
  rfl

theorem confirmWindowExpiry_of_due {n at_ : Nat} (hc : s.upd.confirmBy = some at_) (ht : s.upd.trial = some n) (hd : at_ ≤ s.mono)
    (hr : s.hif.fwReady = true) : exec .confirmWindowExpiry s = .next (fallBack 5 s) := by
  show execConfirmWindowExpiry s = _
  simp only [execConfirmWindowExpiry, hc, ht, State.due, decide_eq_true hd, hr, Bool.and_self, when_true]

/-- Settles O51: a swap commit that finds no epoch slot is tried again and counts nothing (assumption log entry 99); a swap back raises its
event without a second result (assumption log entry 98). -/
theorem updEventsComplete : Obligations.UpdEventsComplete := by
  intro s
  refine ⟨fun n hn hr hs => updSwap_of_reached hn hr hs, fun at_ hd hw => ⟨fun ha => swapWaitExpiry_of_due ha hd hw, fun ha =>
      swapCommitRetry_of_due ha hd hw⟩, fun at_ ha hd hw hn hspan hp => ?wait, fun at_ ha hd hw hn => ?waitFull,
    fun at_ ha hd hw hn hspan hp => ?retry, fun at_ ha hd hw hn => ?retryFull, fun h ht => ?back, fun n h ht => ?onTrial,
    fun n at_ hc ht hd hr => confirmWindowExpiry_of_due hc ht hd hr⟩
  case wait => rw [swapWaitExpiry_of_due ha hd hw, swapCommit_of_free hn hspan hp]
  case waitFull => rw [swapWaitExpiry_of_due ha hd hw, swapCommit_of_full hn]
  case retry => rw [swapCommitRetry_of_due ha hd hw, swapCommit_of_free hn hspan hp]
  case retryFull => rw [swapCommitRetry_of_due ha hd hw, swapCommit_of_full hn]
  case back =>
    rw [linkBankSwapDone_of_swapping h, ht]
    rfl
  case onTrial =>
    refine ⟨_, linkBankSwapDone_of_swapping h, ?_⟩
    rw [ht, if_pos Option.isSome_some]
    have result := updResult_changes { bankSwapped s with upd := { (bankSwapped s).upd with lastResult := 1, lastCause := 0 } }
    refine ⟨?_, ?_, ?_, ?_⟩
    · rw [show _ = _ from result.same .upd (by decide), bankSwapped_upd]
    · rw [show _ = _ from result.same .upd (by decide)]
    · rw [show _ = _ from result.same .upd (by decide)]
    · refine Changes.via (Changes.set_upd (Changes.via (Changes.set_upd Changes.rfl ?_) (notify_changes ..) ?_) ?_) result ?_
      all_goals decide

end Sys2Proof.Machine
end

section
/-! SUPPORT. The commands of family SEC (R449–R467, Table TK-9). -/

namespace Sys2Proof.Machine

variable {vi : Nat} {e : Entry} {s : State}

/-! ### Attestation -/

/-- SEC.SPDM (R451); a response longer than the data buffer is written without error (assumption log entry 150). -/
theorem bodySecSpdm_of_sized {c : Spdm} {resp : List Byte} (lo : 4 ≤ e.p 24 2) (hi : e.p 24 2 ≤ 4096) (hl : e.p 24 2 ≤ e.dataLen)
    (ha : spdmAnswer (mgetD s.sec.spdm vi {}) (e.buf.take (e.p 24 2)) s = (c, resp)) : bodySecSpdm vi e s = {
      st := { s with sec := { s.sec with spdm := mset s.sec.spdm vi c }, draws := s.draws + 1 }
      result := putLe 2 resp.length
      data := resp } := by
  have inRange : ¬ (e.p 24 2 < 4 ∨ 4096 < e.p 24 2) := by omega
  simp only [bodySecSpdm, if_neg inRange, if_neg (Nat.not_lt.mpr hl), ha]
  rfl

/-- Table TK-9: 32 bytes, which begin with the lifecycle and the zeroisation count. -/
theorem bodySecStatus_answers (vi : Nat) (e : Entry) (s : State) : ∃ d, bodySecStatus vi e s = .read s [] d ∧ d.length = 32
    ∧ (putLe 1 s.sec.life.code ++ putLe 1 s.sec.zeroize) <+: d := by
  refine ⟨_, rfl, by simp only [List.length_append, putLe_length, zeros, List.length_replicate], ?_⟩
  iterate 7 refine List.IsPrefix.trans ?_ (List.prefix_append ..)
  exact List.prefix_rfl

/-- R455: 200 bytes, which begin with the import key. -/
theorem bodySecImportPub_answers (vi : Nat) (e : Entry) (s : State) : ∃ d, bodySecImportPub vi e s = .read s [] d ∧ d.length = 200
    ∧ fit 97 (Config.importPub s.cdi) <+: d := by
  refine ⟨_, rfl, by simp only [List.length_append, fit_length, zeros, List.length_replicate], ?_⟩
  refine List.IsPrefix.trans ?_ (List.prefix_append ..)
  exact List.prefix_append ..

/-! ### Keys -/

section KeyImport
variable {h : Nat} (hl : e.dataLen = 192) (h3 : le e.buf 3 5 = 0) (h105 : le e.buf 105 3 = 0) (h184 : le e.buf 184 8 = 0)
  (h0 : le e.buf 0 1 = 1) (ht : le e.buf 1 1 = 1 ∨ le e.buf 1 1 = 2)
include hl h3 h105 h184 h0 ht

/-- A blob that does not unwrap is counted and refused. -/
theorem bodySecKeyImport_of_unwrapped_none (hu : Config.unwrapKey s.cdi e.buf = none) :
    bodySecKeyImport vi e s = .err (count Cn.secImportFail 0 1 s) St.eAuth Dt.secBadWrap := by
  have reserved : ¬ (le e.buf 3 5 ≠ 0 ∨ le e.buf 105 3 ≠ 0 ∨ le e.buf 184 8 ≠ 0) := by omega
  have format : ¬ (le e.buf 0 1 ≠ 1 ∨ le e.buf 1 1 = 0 ∨ 2 < le e.buf 1 1) := by omega
  simp only [bodySecKeyImport, hl, ne_eq, not_true_eq_false, if_false, if_neg reserved, if_neg format, hu]

/-- A blob that unwraps takes the lowest free handle of its type (R454). -/
theorem bodySecKeyImport_of_unwrapped {key : List Byte} (hu : Config.unwrapKey s.cdi e.buf = some key)
    (hp : (bit (e.p 24 1) 0 && !(le e.buf 1 1 == 2)) = false) (hh : s.freeHandle (le e.buf 1 1 == 2) = some h) :
    bodySecKeyImport vi e s =
      let k : Key := { cak := le e.buf 1 1 == 2, port := le e.buf 2 1, key := fit 32 key, salt := bytesAt e.buf 168 12, ssci := le e.buf 180 4 }
      if bit (e.p 24 1) 0 then storing s (.ok ((s.setKey h k).modSecCfg (fun c => { c with caks := mset c.caks h (k.port, k.key) })) (putLe 2 h))
      else .ok (s.setKey h k) (putLe 2 h) := by
  have reserved : ¬ (le e.buf 3 5 ≠ 0 ∨ le e.buf 105 3 ≠ 0 ∨ le e.buf 184 8 ≠ 0) := by omega
  have format : ¬ (le e.buf 0 1 ≠ 1 ∨ le e.buf 1 1 = 0 ∨ 2 < le e.buf 1 1) := by omega
  simp only [bodySecKeyImport, hl, ne_eq, not_true_eq_false, if_false, if_neg reserved, if_neg format, hu, hp, Bool.false_eq_true, hh]

end KeyImport

theorem bodySecKeyDelete_of_unused (hk : mhas s.sec.keys (e.p 24 2) = true) (hu : s.keyInUse (e.p 24 2) = false) : bodySecKeyDelete vi e s =
    if mhas s.sec.cfg.caks (e.p 24 2) then
      storing s (.ok ((s.eraseKey (e.p 24 2)).modSecCfg (fun c => { c with caks := mdel c.caks (e.p 24 2) })))
    else .ok (s.eraseKey (e.p 24 2)) := by
  simp only [bodySecKeyDelete, hk, hu, Bool.not_true, Bool.false_eq_true, if_false]

/-! ### Sealed MKA (R457, R458) -/

theorem macsecPort_of_not_transport {p : Nat} {c : PortCfg} (hc : s.pcfg p = some c) (ht : c.type ≠ 2) : macsecPort s p = none := by
  simp only [macsecPort, hc, if_neg ht]

/-- A port's instance takes the settings and keeps its AN and SAK; it raises no event and is not stored (assumption log entry 91). -/
theorem bodySecMka_of_set {c : PortCfg} {k : Key} (hc : s.pcfg (e.p 24 1) = some c) (ht : c.type ≠ 2) (ho : e.p 25 1 = 1)
    (hp : s.isPaired (e.p 24 1) = false) (h1 : 1 ≤ e.p 29 1) (h2 : e.p 29 1 ≤ 32) (h3 : 500 ≤ orDefault (e.p 30 2) 2000)
    (h4 : orDefault (e.p 30 2) 2000 ≤ 2000) (hk : mget s.sec.keys (e.p 26 2) = some k) (hcak : k.cak = true)
    (hport : k.port = e.p 24 1 ∨ k.port = 0xFF) : bodySecMka vi e s = .ok (s.modMka (e.p 24 1) (fun x =>
      { cak := e.p 26 2, priority := e.p 28 1, hello := orDefault (e.p 30 2) 2000, ckn := bytesAt e.raw 32 (e.p 29 1), nextHello := s.mono,
        an := x.an, sak := x.sak })) := by
  have set : (1 : Nat) ≠ 2 := by decide
  have inRange : ¬ (e.p 29 1 = 0 ∨ 32 < e.p 29 1 ∨ orDefault (e.p 30 2) 2000 < 500 ∨ 2000 < orDefault (e.p 30 2) 2000) := by omega
  have usable : (k.cak && (k.port == e.p 24 1 || k.port == 0xFF)) = true := by
    rw [hcak, Bool.true_and, Bool.or_eq_true, beq_iff_eq, beq_iff_eq]; exact hport
  simp only [bodySecMka, macsecPort_of_not_transport hc ht, ho, if_neg set, ne_eq, not_true_eq_false, if_false, hp, Bool.false_eq_true,
    if_neg inRange, hk, Option.any_some, usable, Bool.not_true]

theorem bodySecMka_of_remove {c : PortCfg} (hc : s.pcfg (e.p 24 1) = some c) (ht : c.type ≠ 2) (ho : e.p 25 1 = 2)
    (hm : mhas s.sec.mka (e.p 24 1) = true) : bodySecMka vi e s = .ok (mkaRemove (e.p 24 1) s) := by
  simp only [bodySecMka, macsecPort_of_not_transport hc ht, if_pos ho, if_pos hm]

/-! ### Links, anchors and certificates -/

/-- The policy lies in the sealed settings (assumption log entry 92). -/
theorem bodySecLink_of_policy (ho : e.p 24 1 = 1) (lo : 60 ≤ orDefault (e.p 28 4) 86400) (hi : orDefault (e.p 28 4) 86400 ≤ 604800)
    (ht : s.onTrial = false) : bodySecLink vi e s = .ok (saveSettings
      (s.modSecCfg (fun c => { c with ownerOnly := bit (e.p 26 1) 0, rekeyInterval := orDefault (e.p 28 4) 86400 }))) := by
  have inRange : ¬ (orDefault (e.p 28 4) 86400 < 60 ∨ 604800 < orDefault (e.p 28 4) 86400) := by omega
  simp only [bodySecLink, if_pos ho, if_neg inRange, storing_of_no_trial ht]

/-- A rekey asked for starts, unless a handshake runs. -/
theorem bodySecLink_of_rekey (ho : e.p 24 1 = 2) (hi : e.p 25 1 ≤ 16) (hk : (s.link (e.p 25 1)).keyed = true) : bodySecLink vi e s =
    if (s.link (e.p 25 1)).running then .ok s else .ok (startHandshake (e.p 25 1) s) := by
  have rekey : ¬ e.p 24 1 = 1 := by omega
  simp only [bodySecLink, if_neg rekey, if_pos ho, if_neg (Nat.not_lt.mpr hi), hk, Bool.not_true, Bool.false_eq_true, if_false]

theorem bodySecTrust_of_install (hn : e.p 24 1 ≤ 3) (ho : e.p 25 1 = 1) (hl : e.dataLen = 97) (ha : s.sec.cfg.anchors.length < 4)
    (ht : s.onTrial = false) : bodySecTrust vi e s = .ok (saveSettings
      (s.modSecCfg (fun c => { c with anchors := mset c.anchors (e.p 24 1) (e.p 26 1, e.buf) }))) := by
  have inRange : ¬ (3 < e.p 24 1 ∨ e.p 25 1 = 0 ∨ 2 < e.p 25 1) := by omega
  simp only [bodySecTrust, if_neg inRange, if_pos ho, hl, ne_eq, not_true_eq_false, if_false, if_neg (Nat.not_le.mpr ha), storing_of_no_trial ht]

theorem bodySecTrust_of_remove (hn : e.p 24 1 ≤ 3) (ho : e.p 25 1 = 2) (ha : mhas s.sec.cfg.anchors (e.p 24 1) = true)
    (ht : s.onTrial = false) : bodySecTrust vi e s = .ok (saveSettings
      (s.modSecCfg (fun c => { c with anchors := mdel c.anchors (e.p 24 1) }))) := by
  have inRange : ¬ (3 < e.p 24 1 ∨ e.p 25 1 = 0 ∨ 2 < e.p 25 1) := by omega
  have remove : ¬ e.p 25 1 = 1 := by omega
  simp only [bodySecTrust, if_neg inRange, if_neg remove, ha, Bool.not_true, Bool.false_eq_true, if_false, storing_of_no_trial ht]

theorem bodySecOwnerCert_of_csr (ho : e.p 24 1 = 1) : bodySecOwnerCert vi e s =
    if Config.deviceCsr.length ≤ e.dataLen then .read s (putLe 4 Config.deviceCsr.length) Config.deviceCsr else badLen vi s := by
  simp only [bodySecOwnerCert, if_pos ho]
  by_cases fits : Config.deviceCsr.length ≤ e.dataLen
  · rw [if_pos fits, if_neg (Nat.not_lt.mpr fits)]
  · rw [if_neg fits, if_pos (Nat.not_le.mp fits)]

theorem bodySecOwnerCert_of_install (ho : e.p 24 1 = 2) (lo : 0 < e.dataLen) (hi : e.dataLen ≤ 8192) (ht : s.onTrial = false) :
    bodySecOwnerCert vi e s = if Config.chainEndsInDeviceId e.buf then
      .ok (saveSettings (s.modSecCfg (fun c => { c with ownerChain := some e.buf }))) else .err s St.eAuth Dt.secChain := by
  have install : ¬ e.p 24 1 = 1 := by omega
  have inRange : ¬ (e.dataLen = 0 ∨ 8192 < e.dataLen) := by omega
  simp only [bodySecOwnerCert, if_neg install, if_pos ho, if_neg inRange, storing_of_no_trial ht]
  cases Config.chainEndsInDeviceId e.buf <;> rfl

theorem bodySecOwnerCert_of_remove (ho : e.p 24 1 = 3) (ht : s.onTrial = false) :
    bodySecOwnerCert vi e s = .ok (saveSettings (s.modSecCfg (fun c => { c with ownerChain := none }))) := by
  have csr : ¬ e.p 24 1 = 1 := by omega
  have install : ¬ e.p 24 1 = 2 := by omega
  simp only [bodySecOwnerCert, if_neg csr, if_neg install, if_pos ho, storing_of_no_trial ht]

/-! ### Debug and zeroisation (R466, R467) -/

theorem bodySecDebug_of_challenge (ho : e.p 24 1 = 1) (hl : 32 ≤ e.dataLen) : bodySecDebug vi e s = {
    st := { s with sec := { s.sec with challenge := some (fit 32 (Config.randomBytes s.draw)) }, draws := s.draws + 1 }
    data := fit 32 (Config.randomBytes s.draw) } := by
  simp only [bodySecDebug, if_pos ho, if_neg (Nat.not_lt.mpr hl)]
  rfl

/-- A token in a lifecycle that admits its scope: valid under a debug anchor, or counted. -/
theorem bodySecDebug_of_token {c : List Byte} {scope : Nat} (ho : e.p 24 1 = 2) (hsc : e.p 25 1 = scope) (h12 : scope = 1 ∨ scope = 2)
    (hl : e.dataLen = 96) (hlife : s.sec.life = .production ∨ s.sec.life = .armed ∧ scope = 2) (hc : s.sec.challenge = some c) :
    bodySecDebug vi e s =
      if Config.tokenValid c e.buf scope ((s.sec.cfg.anchors.filter (fun a => bit a.2.1 1)).map (fun a => a.2.2)) then
        .ok { s with sec := { s.sec with life := if scope = 1 then .armed else .rma } }
      else .err (count Cn.secDebugAttempt 0 1 s) St.eAuth Dt.secToken := by
  have submit : ¬ e.p 24 1 = 1 := by omega
  have inRange : ¬ (e.p 24 1 ≠ 2 ∨ e.p 25 1 = 0 ∨ 2 < e.p 25 1) := by omega
  have admitted : ¬ (s.sec.life = .unlocked ∨ s.sec.life = .rma ∨ s.sec.life = .armed ∧ scope = 1) := by
    rcases hlife with h | ⟨h, rfl⟩ <;> simp [h]
  subst hsc
  rw [bodySecDebug, if_neg submit, if_neg inRange, if_neg (not_not_intro hl), submitToken, if_neg admitted, hc]
  simp only [Option.any_some]
  by_cases valid :
      Config.tokenValid c e.buf (e.p 25 1) ((s.sec.cfg.anchors.filter (fun a => bit a.2.1 1)).map (fun a => a.2.2)) = true
  · rw [if_neg (by rw [valid]; decide), if_pos valid]
    rfl
  · rw [if_pos (by rw [Bool.eq_false_iff.mpr valid]; rfl), if_neg valid]

theorem bodySecZeroize_of_confirmed (hc : e.p 24 4 = 0x5EC0DE) (hz : s.sec.zeroize < 16) : bodySecZeroize vi e s = .ok { s with
    sec := { s.sec with zeroize := s.sec.zeroize + 1, keys := [], copyA := {}, copyB := {} },
    dev := { s.dev with coldAt := some (s.mono + Config.ms 10) } } := by
  simp only [bodySecZeroize, hc, ne_eq, not_true_eq_false, if_false, if_neg (Nat.not_le.mpr hz)]
  rfl

/-- Settles O48: each command is completed with what its body gives. An SPDM response longer than the data buffer is written without error
(assumption log entry 150), SEC.MKA set raises no event and is not stored (entry 91), and policy and anchors lie in the sealed settings
(entry 92). -/
theorem secCommandsComplete : Obligations.SecCommandsComplete := by
  intro vi io e s
  refine ⟨fun c resp h lo hi hl ha => next_runCommand_of_body h (bodySecSpdm_of_sized (s := taken vi s) lo hi hl ha), fun h => ?status,
    fun h => ?importPub, fun n h hl h3 h105 h184 h0 ht hp hh => ?volatile, fun n h hl h3 h105 h184 h0 ht hp hh htr key hu => ?persistent,
    fun n h hn hk hu hc ht => ?deleteStored, fun h hk hu hc => ?delete,
    fun c k h hc ht ho hp h1 h2 h3 h4 hk hcak hport =>
      next_runCommand_of_body h (bodySecMka_of_set (s := taken vi s) hc ht ho hp h1 h2 h3 h4 hk hcak hport),
    fun c h hc ht ho hm => next_runCommand_of_body h (bodySecMka_of_remove (s := taken vi s) hc ht ho hm),
    fun h ho lo hi ht => next_runCommand_of_body h (bodySecLink_of_policy (s := taken vi s) ho lo hi ht),
    fun h ho hi hk hr => ?rekey, fun h ho hi hk hr => ?running,
    fun h ho => next_runCommand_of_body h (bodySecOwnerCert_of_csr (s := taken vi s) ho),
    fun h hn ho hl ha ht => next_runCommand_of_body h (bodySecTrust_of_install (s := taken vi s) hn ho hl ha ht),
    fun h hn ho ha ht => next_runCommand_of_body h (bodySecTrust_of_remove (s := taken vi s) hn ho ha ht),
    fun h ho lo hi ht => ?chain, fun h ho ht => next_runCommand_of_body h (bodySecOwnerCert_of_remove (s := taken vi s) ho ht),
    fun h ho hl => next_runCommand_of_body h (bodySecDebug_of_challenge (s := taken vi s) ho hl),
    fun c scope h ho hsc h12 hl hlife hc => ?token,
    fun h hc hz => next_runCommand_of_body h (bodySecZeroize_of_confirmed (s := taken vi s) hc hz)⟩
  case status =>
    obtain ⟨d, body, length, begins⟩ := bodySecStatus_answers vi e (taken vi s)
    exact ⟨d, next_runCommand_of_body h body, length, begins⟩
  case importPub =>
    obtain ⟨d, body, length, begins⟩ := bodySecImportPub_answers vi e (taken vi s)
    exact ⟨d, next_runCommand_of_body h body, length, begins⟩
  case volatile =>
    refine ⟨fun key hu => ?_, fun hu =>
      next_runCommand_of_body h (bodySecKeyImport_of_unwrapped_none (s := taken vi s) hl h3 h105 h184 h0 ht hu)⟩
    exact next_runCommand_of_body h ((bodySecKeyImport_of_unwrapped (s := taken vi s) hl h3 h105 h184 h0 ht hu (by rw [hp]; rfl) hh).trans
      (if_neg (Bool.eq_false_iff.mp hp)))
  case persistent =>
    have cak : (le e.buf 1 1 == 2) = true := beq_iff_eq.mpr ht
    have body := bodySecKeyImport_of_unwrapped (vi := vi) (s := taken vi s) hl h3 h105 h184 h0 (.inr ht) hu (by rw [cak, Bool.not_true, Bool.and_false])
      (by rw [cak]; exact hh)
    rw [cak] at body
    exact next_runCommand_of_body h (body.trans ((if_pos hp).trans (storing_result_of_no_trial _ htr)))
  case deleteStored =>
    subst hn
    exact next_runCommand_of_body h ((bodySecKeyDelete_of_unused (s := taken vi s) hk hu).trans ((if_pos hc).trans (storing_of_no_trial ht)))
  case delete =>
    exact next_runCommand_of_body h ((bodySecKeyDelete_of_unused (s := taken vi s) hk hu).trans (if_neg (Bool.eq_false_iff.mp hc)))
  case rekey =>
    exact next_runCommand_of_body h ((bodySecLink_of_rekey (s := taken vi s) ho hi hk).trans (if_neg (Bool.eq_false_iff.mp hr)))
  case running => exact next_runCommand_of_body h ((bodySecLink_of_rekey (s := taken vi s) ho hi hk).trans (if_pos hr))
  case chain =>
    have body := bodySecOwnerCert_of_install (vi := vi) (s := taken vi s) ho lo hi ht
    exact ⟨fun hc => next_runCommand_of_body h (body.trans (if_pos hc)),
      fun hc => next_runCommand_of_body h (body.trans (if_neg (Bool.eq_false_iff.mp hc)))⟩
  case token =>
    have body := bodySecDebug_of_token (vi := vi) (s := taken vi s) ho hsc h12 hl hlife hc
    exact ⟨fun hv => next_runCommand_of_body h (body.trans (if_pos hv)),
      fun hv => next_runCommand_of_body h (body.trans (if_neg (Bool.eq_false_iff.mp hv)))⟩

end Sys2Proof.Machine
end

section
/-! SUPPORT. Link handshakes and rekeys (R459–R461) and sealed MACsec Key Agreement (R457, R458). -/

namespace Sys2Proof.Machine

variable {s : State} {l p : Nat}

/-! ### Link handshakes -/

/-- Two changes of a link are one. -/
theorem State.modLink_modLink (s : State) (l : Nat) (f g : Link → Link) : (s.modLink l f).modLink l g = s.modLink l (fun x => g (f x)) := by
  simp only [State.modLink, mmod, mset_mset, mgetD_mset_self]

theorem State.modLink_link (s : State) (l : Nat) (f : Link → Link) : (s.modLink l f).link l = f (s.link l) := mgetD_mmod_self ..

theorem linkHandshakeMessage_of_encrypted (m : Handshake) (h : s.linkEncrypted l = true) : exec (.linkHandshakeMessage l m) s = .next
    (match m with
    | .ephemeral _ => (if (s.link l).running then s else startHandshake l s).modLink l (fun x => { x with ephemeral := true })
    | .verified root far pair =>
      if !(s.link l).ephemeral then s
      else if !s.trusts root then linkFailed l (if root = [] then 3 else 1) s
      else if l = 16 ∧ (far ≠ s.partnerOf ∨ pair ≠ s.pairSun) then linkFailed l 4 s
      else linkKeyed l s
    | .failed cause => linkFailed l cause s) := next_when_of_true h s _

/-- The far end's verdict is taken once both ends' public keys are known, and only from a chain that the policy of that instant trusts
(assumption log entry 167). -/
theorem verified_of_trusted {root : List Byte} {far pair : Nat} (h : s.linkEncrypted l = true) (he : (s.link l).ephemeral = true)
    (ht : s.trusts root = true) (hp : l = 16 → far = s.partnerOf ∧ pair = s.pairSun) :
    exec (.linkHandshakeMessage l (.verified root far pair)) s = .next (linkKeyed l s) := by
  have partner : ¬ (l = 16 ∧ (far ≠ s.partnerOf ∨ pair ≠ s.pairSun)) := by
    rintro ⟨h16, h⟩
    exact h.elim (fun k => k (hp h16).1) (fun k => k (hp h16).2)
  rw [linkHandshakeMessage_of_encrypted _ h]
  simp only [he, ht, Bool.not_true, Bool.false_eq_true, if_false, if_neg partner]

theorem verified_of_untrusted {root : List Byte} (far pair : Nat) (h : s.linkEncrypted l = true) (he : (s.link l).ephemeral = true)
    (ht : s.trusts root = false) : exec (.linkHandshakeMessage l (.verified root far pair)) s =
      .next (linkFailed l (if root = [] then 3 else 1) s) := by
  rw [linkHandshakeMessage_of_encrypted _ h]
  simp only [he, ht, Bool.not_true, Bool.not_false, Bool.false_eq_true, if_false, if_true]

/-- The peer link's certificate must name the partner and the pair (R460). -/
theorem verified_of_stranger {root : List Byte} {far pair : Nat} (h : s.linkEncrypted 16 = true) (he : (s.link 16).ephemeral = true)
    (ht : s.trusts root = true) (hp : far ≠ s.partnerOf ∨ pair ≠ s.pairSun) :
    exec (.linkHandshakeMessage 16 (.verified root far pair)) s = .next (linkFailed 16 4 s) := by
  rw [linkHandshakeMessage_of_encrypted _ h]
  simp only [he, ht, Bool.not_true, Bool.false_eq_true, if_false, true_and, if_pos hp]

/-- A rekey: the other slot takes the new secret, and the old one is accepted on. -/
theorem linkKeyed_of_keyed (h : (s.link l).keyed = true) : linkKeyed l s = s.modLink l (fun x =>
    { x with
      running := false, ephemeral := false, slot := 1 - x.slot, gen := x.gen + 1, lastAt := s.mono,
      oldKept := true, oldUntil := if l = 16 then some (s.mono + Config.ms 1) else none, retryAt := none }) := by
  refine congrArg (fun x => { s with sec := { s.sec with links := mset s.sec.links l x } }) ?_
  exact if_pos h

/-- The first secret of a link keys slot 0. -/
theorem linkKeyed_of_unkeyed (h : (s.link l).keyed = false) : linkKeyed l s = s.modLink l (fun x =>
    { x with
      keyed := true, running := false, ephemeral := false, slot := 0, gen := 0, lastAt := s.mono, oldKept := false,
      oldUntil := none, retryAt := none }) := by
  refine congrArg (fun x => { s with sec := { s.sec with links := mset s.sec.links l x } }) ?_
  exact if_neg (Bool.eq_false_iff.mp h)

/-- A handshake that fails ends, and a keyed link tries again after 1 s. -/
theorem linkFailed_link (l cause : Nat) (s : State) : (linkFailed l cause s).link l = { s.link l with
    running := false, ephemeral := false, retryAt := if (s.link l).keyed then some (s.mono + Config.sec 1) else none } := by
  have told : Changes [.rings, .cnt, .out] s
      (count Cn.secLinkAuthFail l 1 (notify Ev.secLinkAuthFail (putLe 1 l ++ putLe 1 cause) [] s)) :=
    (notify_changes ..).trans (count_changes ..)
  have link : (count Cn.secLinkAuthFail l 1 (notify Ev.secLinkAuthFail (putLe 1 l ++ putLe 1 cause) [] s)).link l = s.link l := by
    rw [State.link, show _ = _ from told.same .sec (by decide), State.link]
  have mono : (count Cn.secLinkAuthFail l 1 (notify Ev.secLinkAuthFail (putLe 1 l ++ putLe 1 cause) [] s)).mono = s.mono :=
    told.same .mono (by decide)
  rw [linkFailed, State.modLink_link, link, mono]

theorem rekeyIntervalExpiry_of_due (hk : (s.link l).keyed = true) (hr : (s.link l).running = false) (ht : (s.link l).retryAt = none)
    (hd : (s.link l).lastAt + Config.sec s.sec.cfg.rekeyInterval ≤ s.mono) : exec (.rekeyIntervalExpiry l) s = .next (startHandshake l s) :=
  next_when_of_true (by rw [hk, hr, ht, State.due, decide_eq_true hd]; rfl) s _

theorem handshakeRetry_of_due {at_ : Nat} (hr : (s.link l).retryAt = some at_) (hd : at_ ≤ s.mono) :
    exec (.handshakeRetry l) s = .next (startHandshake l s) :=
  next_when_of_true (by rw [hr, Option.any_some, State.due, decide_eq_true hd]) s _

theorem oldKeySlotExpiry_of_due {at_ : Nat} (ho : (s.link l).oldUntil = some at_) (hd : at_ ≤ s.mono) :
    exec (.oldKeySlotExpiry l) s = .next (notify Ev.secLinkRekey (putLe 1 l ++ zeros 3 ++ putLe 4 (s.link l).gen) []
      (s.modLink l (fun x => { x with oldKept := false, oldUntil := none }))) :=
  next_when_of_true (by rw [ho, Option.any_some, State.due, decide_eq_true hd]) s _

/-! ### Sealed MKA -/

section Mka
variable {m : Mkpdu} {k : Mka} (hk : mget s.sec.mka p = some k)
include hk

theorem State.modMka_of_mget (f : Mka → Mka) : s.modMka p f = { s with sec := { s.sec with mka := mset s.sec.mka p (f k) } } := by
  simp only [State.modMka, State.modSec, mmod, mgetD, hk, Option.getD_some]

theorem mkpduReceive_of_live (hl : s.portLive p = true) : exec (.mkpduReceive p m) s =
    .next (if m.icvOk then mkpduGood p m k s else count Cn.secMkaIcvFail p 1 s) := by
  show execMkpduReceive p m s = _
  rw [execMkpduReceive, hk]
  exact next_when_of_true hl s _

/-- A known peer without a SAK is live for 6 s more. -/
theorem mkpduGood_of_known (hl : m.live = true) (hm : mhas k.peers m.member = true) (hs : m.sak = none) : mkpduGood p m k s =
    mkaRefresh p { s with sec := { s.sec with
      mka := mset s.sec.mka p { k with peers := mset k.peers m.member (m.priority, s.mono + Config.sec 6) } } } := by
  have keep (t : State) : takeSak p m t = t := by
    rw [takeSak, hs]; cases mget t.sec.mka p <;> rfl
  simp only [mkpduGood, hl, hm, Bool.not_true, Bool.and_false, Bool.false_eq_true, if_false, if_true, keep, State.modMka_of_mget hk]

theorem mkaHello_of_due (hl : s.portLive p = true) (hd : k.nextHello ≤ s.mono) : exec (.mkaHello p) s = .next
    ((s.modMka p (fun x => { x with nextHello := s.mono + Config.ms k.hello })).emit (.mkpdu p (if s.isKeyServer k then k.sak else none))) := by
  show execMkaHello p s = _
  rw [execMkaHello, hk]
  exact next_when_of_true (by rw [hl, State.due, decide_eq_true hd]; rfl) s _

theorem mkaLifetimeExpiry_of_due {peer pr at_ : Nat} (hp : mget k.peers peer = some (pr, at_)) (hd : at_ ≤ s.mono) :
    exec (.mkaLifetimeExpiry p peer) s = .next (peersChanged p (s.modMka p (fun x => { x with peers := mdel x.peers peer }))) := by
  show execMkaLifetimeExpiry p peer s = _
  rw [execMkaLifetimeExpiry, hk, Option.bind_some, hp]
  exact next_when_of_true (decide_eq_true hd) s _

end Mka

/-- Settles O49: each event has the effect of its lemma above; whether a handshake verifies is an operand (assumption log entry 95). -/
theorem secEventsComplete : Obligations.SecEventsComplete := by
  intro s
  refine ⟨fun l pub h hr => ?answered, fun l pub h hr => ?begun, fun root far pair h he ht hp => ?stranger,
    fun p m k hk hl hi => (mkpduReceive_of_live hk hl).trans (by rw [if_pos hi]), fun l root far pair h he hkeyed ht hp => ?rekeyed,
    fun l root far pair h he hkeyed ht hp => ?keyed, fun l root far pair h he ht => ?untrusted, fun l cause h => ?failed,
    fun l hk hr ht hd => rekeyIntervalExpiry_of_due hk hr ht hd, fun l at_ hr hd => handshakeRetry_of_due hr hd,
    fun l at_ ho hd => oldKeySlotExpiry_of_due ho hd, fun p m k hk hl hi hlive hm hs => ?known, fun p m k hk hl hi => ?bad,
    fun p k hk hl hd => ?hello, fun p k peer pr at_ hk hp hd => ?lost⟩
  case answered =>
    rw [linkHandshakeMessage_of_encrypted _ h]
    simp only [if_pos hr]
    rfl
  case begun =>
    rw [linkHandshakeMessage_of_encrypted _ h]
    simp only [hr, Bool.false_eq_true, if_false]
    exact congrArg (fun t : State => Host.Outcome.next { t with out := s.out ++ [Output.handshake l] })
      (State.modLink_modLink s l (fun x => { x with running := true, ephemeral := false, retryAt := none }) (fun x => { x with ephemeral := true }))
  case stranger => rw [verified_of_stranger h he ht hp, linkHandshakeMessage_of_encrypted _ h]
  case rekeyed => rw [verified_of_trusted h he ht hp, linkKeyed_of_keyed hkeyed]; rfl
  case keyed => rw [verified_of_trusted h he ht hp, linkKeyed_of_unkeyed hkeyed]; rfl
  case untrusted => rw [verified_of_untrusted far pair h he ht, linkHandshakeMessage_of_encrypted _ h]
  case failed => exact ⟨_, linkHandshakeMessage_of_encrypted _ h, linkFailed_link l cause s, linkFailed_changes l cause s⟩
  case known => rw [mkpduReceive_of_live hk hl, if_pos hi, mkpduGood_of_known hk hlive hm hs]
  case bad => rw [mkpduReceive_of_live hk hl, if_neg (Bool.eq_false_iff.mp hi)]
  case hello => rw [mkaHello_of_due hk hl hd, State.modMka_of_mget hk]; rfl
  case lost => rw [mkaLifetimeExpiry_of_due hk hp hd, State.modMka_of_mget hk]

end Sys2Proof.Machine
end
